-- ==== Sys2Proof/Word.lean ====
section
/-! DEFINITION. The plain words of the model: bytes, byte strings, cipher blocks and sparse maps. -/

namespace Sys2Proof

/-- One octet. -/
abbrev Byte := BitVec 8

/-- A byte string, first byte on the wire first. -/
abbrev Bytes := List Byte

/-- One AES block (R186). -/
abbrev Block := BitVec 128

/-- A sparse map by number, in one canonical form: keys strictly rising, no entry equal to the value an unlisted key
reads as. -/
abbrev SMap (α : Type) := List (Nat × α)

end Sys2Proof
end

