-- ==== Sys2Proof/Machine/Types.lean ====
section
/-! DEFINITION. The closed sets of names that the model shares: status codes, callers, values, and what the block
sends out. -/

namespace Sys2Proof.Machine

/-- The status codes of R466, in the order of their encodings. -/
inductive Status where
  | ok | claimed | denied | notIdle | notReady | range | busy | entropyFault | integrity | version
  deriving DecidableEq, Repr

/-- The encoding of a status (R466). -/
def Status.code : Status → Nat
  | .ok => 0 | .claimed => 1 | .denied => 2 | .notIdle => 3 | .notReady => 4 | .range => 5 | .busy => 6
  | .entropyFault => 7 | .integrity => 8 | .version => 9

/-- What stands between SAs, frames and ports as the two pipes of a slice (R12). -/
inductive Pipe where
  | seal | open
  deriving DecidableEq, Repr

/-- 0 = SEAL, 1 = OPEN (R468). -/
def Pipe.code : Pipe → Nat
  | .seal => 0
  | .open => 1

/-- What a lane or link transmits when it sends no frame (R32, R44, R48, R51, R54). -/
inductive Fill where
  | electricalIdle | idles | remoteFault | localFault | oduAis | sealedIdle
  /-- A pattern: the code of `PRBS_GEN`, in its PAM4 or NRZ form (R44 step 3, R51). -/
  | pattern (code : Nat) (pam4 : Bool)
  /-- Idles and alignment markers (R44 step 4). -/
  | markers
  /-- The blocks of a line carrier (R253). -/
  | carrier
  /-- The received serial stream, retimed (R48). -/
  | received
  deriving DecidableEq, Repr

/-- The overhead of a tributary's ODU as it is sent: the TTI of its PM, an octet in the frame of each MFAS mod 64 (R262), the
PT (R273), and the justification control, the client data count of a GMP mapping (R274). -/
structure OduHead where
  tti : Bytes
  pt : Nat
  jc : Nat
  deriving DecidableEq, Repr

/-- The overhead of an OTUCn as it is sent: the FlexO group identifier and n (R251), the TTI of its SM (R262), the MSI, for
each slot 0 or 1 + the tributary (R272), and each tributary's slots in ascending ORDER (R269). -/
structure OtucHead where
  gid : Nat
  n : Nat
  tti : Bytes
  msi : List Nat
  slots : List (List Nat)
  deriving DecidableEq, Repr

/-- The value of an object: a number, or an octet string. -/
inductive Val where
  | num (n : Nat)
  | oct (b : Bytes)
  deriving DecidableEq, Repr

/-- What a FIRMWARE frame of the Tether carries (R414, R427): segments of a Knot message, the sender's stored-configuration
digest, a blob wrapped under slot 2 with the KW_TARGET that the firmware chooses for it and the sender's handle of its key, a write of an
object, an entry of a table as this unit's firmware writes it (0 SecY, 1 transmit SC, 2 receive SC, 3 SA, 4 transmit cue, 5 tributary
cue, 6 watch; an image of 0 = deleted), the line indexes whose CAK comes from a Knot handshake (R389), or word that every live key,
entry, cue and watch has been mirrored. `frames` is such a payload with the SEQ of each frame that carries it. -/
inductive Mirror where
  | knot (segs : List Bytes)
  | digest (b : Bytes)
  | blob (b : Bytes) (target handle : Nat)
  | write (ix sub : Nat) (v : Val)
  | entry (table sl i img : Nat)
  | knots (lines : List Nat)
  | all
  | frames (seqs : List Nat) (m : Mirror)
  deriving DecidableEq, Repr

/-- What a FIRMWARE payload says, as a list of numbers: `Config.firmwareBody` forms its octets. -/
def Mirror.code : Mirror → List Nat
  | .knot segs => 0 :: segs.flatMap (fun f => f.length :: f.map (·.toNat))
  | .digest b => 1 :: b.map (·.toNat)
  | .blob b target handle => 2 :: target :: handle :: b.map (·.toNat)
  | .write ix sub (.num n) => [3, ix, sub, 0, n]
  | .write ix sub (.oct b) => 3 :: ix :: sub :: 1 :: b.map (·.toNat)
  | .entry table sl i img => [4, table, sl, i, img]
  | .knots l => 5 :: l
  | .all => [6]
  | .frames _ m => m.code

/-- An 8b/10b character of a Tether lane: the comma K28.5, the lane marker K28.3, the frame delimiters K27.7 and K29.7, or an octet
of data (R412). -/
inductive CodeGroup where
  | k285 | k283 | k277 | k297
  | data (b : Byte)
  deriving DecidableEq, Repr

/-- What the block sends or drives outward. The list `State.wire` keeps these in order of time, oldest first: it is
the model's own record of outputs, no register of the part (log 2). -/
inductive Emission where
  /-- A write by session entry `who` (16 = the firmware) to an object completed with a status (R458). -/
  | done (who ix sub : Nat) (st : Status)
  /-- A response, or a NOTIFY, as plaintext, to the session entry (R499, R501). -/
  | answer (sess : Nat) (body : Bytes)
  /-- A ring frame out of HALA (1) or HALB (2), without its FCS (R491). -/
  | ring (port : Nat) (frame : Bytes)
  /-- The answer to Clause 37 auto-negotiation on HALA (0) or HALB (1): whether it offers full duplex, and its pause bits (R60). -/
  | autoneg (port : Nat) (fullDuplex : Bool) (pause : Nat)
  /-- A forwarded ring frame that ends with an error code group (R489). -/
  | ringCut (port : Nat) (frame : Bytes)
  /-- The 256 bits driven on a wire loop in one sample (R543). -/
  | loopDrive (k bits : Nat)
  /-- A mailbox message written to the D2H buffer (R507). -/
  | mailbox (msg : Bytes)
  /-- An MSI-X vector signalled (R505). -/
  | msix (vector : Nat)
  /-- A frame with its FCS out of the client or line port with this index low byte (R61). -/
  | frame (port : Nat) (bytes : Bytes)
  /-- A frame that a near-end loop turns around into the port's own receiver (R48). -/
  | looped (port : Nat) (bytes : Bytes)
  /-- A sealed frame cut short by the cleartext guard: the words sent, then an error block (R197). -/
  | cutFrame (port : Nat) (bytes : Bytes)
  /-- A frame enters the client mapper of a tributary; `cut` = an error control block ends it (R197, R265). -/
  | mapped (slice trib : Nat) (bytes : Bytes) (cut : Bool)
  /-- A tributary's ODU begins a multiframe: its overhead, in the clear, the sealing overhead of its 256 frames and its OPU
  payload (R274, R275). -/
  | multiframe (slice trib : Nat) (head : OduHead) (overhead payload : Bytes)
  /-- The OTUCn of a slice comes to carry another overhead (R251, R262, R269, R272). -/
  | otuc (slice : Nat) (head : OtucHead)
  /-- A block of a line carrier on a traffic lane: its header and its payload as sent (R253). -/
  | block (lane header : Nat) (payload : Bytes)
  /-- The BEI that answers a frame received with BIP-8 errors, on the levels of `bdi` (R261). -/
  | bei (slice level n : Nat)
  /-- The OPU payload of a received multiframe, passed to the demapper (R286). -/
  | demapped (slice trib : Nat) (payload : Bytes)
  /-- The BDI sent changes: level 0 = SM, 1 = PM of the ODUCn, 2 + t = PM of tributary t (R259, R260). -/
  | bdi (slice level : Nat) (on : Bool)
  /-- A tributary sends ODU-AIS (R281). -/
  | oduAis (slice trib : Nat)
  /-- A port's transmitter sends this fill in place of frames (R54). -/
  | fill (port : Nat) (f : Fill)
  /-- A traffic lane's transmitter now puts this on its pins, between the frames of its port if it has one (R42, R44,
  R47, R51). -/
  | lane (lane : Nat) (f : Fill)
  /-- SYNCE_CLK_OUT carries the clock of this lane, divided by this code of `SYNCE_FREQ`; none = held low (R320). -/
  | synce (source : Option (Nat × Nat))
  /-- What an alarm source is raised with: slice, pipe and block position (R197). -/
  | alarmAt (source slice pipe pos : Nat)
  /-- A frame that a far-end loop sends back out as it was received (R48). -/
  | returned (port : Nat) (bytes : Bytes)
  /-- A MAC control frame without its FCS out of a port (R58). -/
  | macControl (port : Nat) (frame : Bytes)
  /-- A frame handed to the control firmware from a port (R199, R203). -/
  | toFirmware (port : Nat) (bytes : Bytes)
  /-- A Tether frame of a type, whole, handed to the link, which sends it in its turn (R412, R413). -/
  | tether (kind : Nat) (frame : Bytes)
  /-- A word of the Tether other than four K28.5, which every lane sends between frames: byte `k` leaves on TTHk (R412). -/
  | tetherWord (w : List CodeGroup)
  /-- The content of a FIRMWARE frame that this unit's firmware sends; the spec gives it no octets (R427). -/
  | mirror (m : Mirror)
  /-- A Knot frame out of a line port or tributary, without its FCS (R383). -/
  | knot (place : Nat) (msg : Bytes)
  /-- An MKPDU out of a line port or tributary (R379). -/
  | mkpdu (place : Nat) (pdu : Bytes)
  /-- An operation that only the firmware may call completes: SAK_EXPORT (1) or SAK_IMPORT (2), its status and result
  (R378). -/
  | fwResult (op : Nat) (st : Status) (result : Bytes)
  /-- A byte string that a lookaside job writes to its output (R352). -/
  | jobOut (job : Nat) (addr : Nat) (bytes : Bytes)
  /-- A request for a core voltage in mV over the PMBus (R572). -/
  | voltage (mv : Nat)
  /-- A word returned to the master of a control access, or nothing on a bus error (R522, R528). -/
  | busData (master addr : Nat) (data : Option Bytes)
  deriving DecidableEq, Repr

/-- Who writes: the session in an entry of the session table, or the control firmware, which no level, Expert mode
or claim binds (R464). -/
inductive Caller where
  | session (k : Nat)
  | firmware
  deriving DecidableEq, Repr

/-- The entry number that an emission names: 16 for the firmware. -/
def Caller.entry : Caller → Nat
  | .session k => k
  | .firmware => 16

/-- What one received frame of an OTUC instance or tributary ODU shows. -/
structure OduFrame where
  /-- Positions where the six FAS octets are found in this frame time, each with the MFAS after it, ascending (R256). -/
  hits : List (Nat × Nat) := []
  /-- The octet in column 7 at the accepted position. -/
  mfas : Nat := 0
  /-- How far an instance lies from instance 0, in nanoseconds (R258). -/
  skew : Nat := 0
  /-- TTI octet, STAT, BDI, BIP-8 and BEI of the level: SM of an instance, PM of a tributary. -/
  tti : Nat := 0
  stat : Nat := 1
  bdi : Bool := false
  bip : Nat := 0
  bei : Nat := 0
  /-- The octets of the OPU, which BIP-8 covers (R263). -/
  area : Bytes := []
  /-- The PM of the ODUCn, which instance 0 carries. -/
  pmStat : Nat := 1
  pmBdi : Bool := false
  pmBip : Nat := 0
  pmBei : Nat := 0
  /-- The group identifier of a FlexO multiframe, in the frame that completes it (R259). -/
  gid : Option Nat := none
  /-- The codewords that the FlexO FEC of the instance has corrected in this frame time, and those it could not (R264). -/
  fecCorr : Nat := 0
  fecUncorr : Nat := 0
  /-- The PT octet, in the frame that carries it. -/
  pt : Option Nat := none
  /-- The MSI of a whole multiframe, in the frame that completes it: for each slot 0, or 1 + the tributary (R272). -/
  msi : Option (List Nat) := none
  deriving DecidableEq, Repr

/-- What goes wrong inside the part while a frame is sealed (R130, R196, R661); nothing by default. -/
structure SealFault where
  /-- The SA entry read has an uncorrectable error (R130). -/
  saEcc : Bool := false
  /-- These blocks of P are formed with a keystream of all zeros, so that they leave equal to their plaintext (R196). -/
  zero : List Nat := []
  /-- Cores form these blocks of P with a keystream that differs by this much (R661). -/
  aes : List (Nat × Nat) := []
  /-- A GHASH multiplier or the tag mask fails: the ICV differs by this much (R661). -/
  icv : Nat := 0
  deriving DecidableEq, Repr

/-- What an MKPDU says, as IEEE 802.1X reads its octets (R379 to R381). -/
structure Mkpdu where
  /-- The sender's member identifier, SCI and key server priority. -/
  mi : Nat
  sci : Nat
  prio : Nat
  /-- The sender's message number. -/
  mn : Nat := 0
  /-- The sender lists this device as a live or potential peer. -/
  listsUs : Bool
  /-- The sender reports the newest SAK as its latest receive key. -/
  reports : Bool := false
  /-- A distributed SAK: its octets under the KEK, its AN and its key number. -/
  sak : Option (Bytes × Nat × Nat) := none
  /-- The lowest acceptable PN that the sender reports, with the AN it holds for. -/
  lowest : Option (Nat × Nat) := none
  deriving DecidableEq, Repr

/-- What the sampler reads in one sample: the case switches (bit k: CASE_SWk high), and for each loop the resistance in
ohms (0xFFFF = open), the 256 bits read on SNS (bit i = the i-th), and the RC-oscillator cycles counted in a crystal
period; the always-on sensor in degrees; VBAT in millivolts; and the crystal ticks since the sample before. -/
structure Sample where
  switches : Nat
  ohms : List Nat
  sns : List Nat
  rc : List Nat
  temp : Int
  vbat : Nat
  ticks : Nat
  deriving DecidableEq, Repr

/-- The masters of R521. -/
inductive Master where
  | cores | lookaside | debug
  deriving DecidableEq, Repr

/-- An access: a read of a line, or a write of some of its octets (R521). -/
structure DdrAccess where
  master : Master
  addr : Nat
  /-- The octets written, from the address on; none = a read of the line. -/
  data : Option Bytes
  /-- The bursts that the access read with errors that their code corrected (R512). -/
  fixed : Nat := 0
  deriving DecidableEq, Repr

/-- The object of a write in a block (R460). -/
structure BlockItem where
  ix : Nat
  sub : Nat
  val : Bytes
  deriving DecidableEq, Repr

end Sys2Proof.Machine
end

