-- ==== Sys2Proof/Syntax.lean ====
section
/-! DEFINITION. The commands of the block: one constructor for each row of the opcode table, in its order. Operands that
recur: `c` who writes; `sl` a slice, 0 to 3; `open_` the OPEN pipe rather than SEAL; `k` and `id` a session's entry and the
REQ_ID of its request; `m` a port or lane by index low byte (R61), or a client port; `n` a line port or tributary by number,
0 to 31; `t` a tributary of the slice; `j` a job context; `r` a range; `i` an index of a table, a source or a block; `v` the
value written; `b`, `f` octets. What the rest stand for is said where each command has its meaning. -/

namespace Sys2Proof

open Sys2Proof.Machine

/-- The commands. -/
inductive Instr where
  /-- `CLIENT_FRAME_RECEIVED` (R41). -/
  | clientFrameReceived (c : Nat) (b : Bytes) (pcs : Bool) (lag : Nat)
  /-- `FRAME_ADMIT` (R163). -/
  | frameAdmit (sl : Nat)
  /-- `PAUSE_REFRESH_TIMER` (R58). -/
  | pauseRefreshTimer (m : Nat)
  /-- `SEAL_DEQUEUE` (R194). -/
  | sealDequeue (sl : Nat) (base : Nat) (ev : SealFault)
  /-- `LINE_FRAME_RECEIVED` (R199). -/
  | lineFrameReceived (m : Nat) (b : Bytes) (pcs : Bool) (lag : Nat) (overrun : Bool) (ecc : Bool)
  /-- `OPEN_RELEASE` (R23). -/
  | openRelease (sl : Nat) (caught : Nat)
  /-- `OPEN_DEQUEUE` (R203). -/
  | openDequeue (sl : Nat) (j : Nat) (wait : Nat)
  /-- `CELLS_RETURN` (R165). -/
  | cellsReturn (sl : Nat) (open_ : Bool)
  /-- `FUP_ENTRY_TIMEOUT` (R314). -/
  | fupEntryTimeout (sl : Nat) (open_ : Bool) (i : Nat)
  /-- `TX_STATE_WRITE` (R46). -/
  | txStateWrite (c : Caller) (m : Nat) (v : Nat)
  /-- `RX_STATE_WRITE` (R43). -/
  | rxStateWrite (c : Caller) (m : Nat) (v : Nat)
  /-- `LANE_TRANSITION_END` (R44). -/
  | laneTransitionEnd (m : Nat) (ns : Nat)
  /-- `RATE_WRITE` (R34). -/
  | rateWrite (c : Caller) (m : Nat) (v : Nat)
  /-- `PORT_ENABLE` (R37). -/
  | portEnable (c : Caller) (m : Nat) (v : Nat)
  /-- `LINK_FAULT_CHANGE` (R54). -/
  | linkFaultChange (m : Nat) (st : Nat) (signal : Nat) (lock : Nat)
  /-- `CG_ALIGN` (R59). -/
  | cgAlign (k : Nat) (late : Nat)
  /-- `CG_ALIGN_LOST` (R60). -/
  | cgAlignLost (k : Nat) (groups : List Bool) (signal : Bool)
  /-- `PRBS_GEN_WRITE` (R51). -/
  | prbsGenWrite (c : Caller) (m : Nat) (v : Nat)
  /-- `PRBS_CHK_WRITE` (R51). -/
  | prbsChkWrite (c : Caller) (m : Nat) (v : Nat)
  /-- `SCAN_START` (R53). -/
  | scanStart (c : Caller) (m : Nat)
  /-- `SCAN_ABORT` (R64). -/
  | scanAbort (c : Caller) (m : Nat)
  /-- `SCAN_DONE` (R53). -/
  | scanDone (m : Nat) (errors : Nat)
  /-- `FEC_SER_WINDOW` (R65). -/
  | fecSerWindow (m : Nat) (errors : Nat)
  /-- `LEARN_REQUEST` (R82). -/
  | learnRequest (sl : Nat) (overlap : Bool)
  /-- `SWEEP_VISIT` (R87). -/
  | sweepVisit (sl : Nat) (overlap : Bool)
  /-- `SWEEP_START` (R91). -/
  | sweepStart (sl : Nat)
  /-- `AGE_CLOCK_TICK` (R89). -/
  | ageClockTick (sl : Nat)
  /-- `STATIC_REINSTALL` (R76). -/
  | staticReinstall (sl : Nat) (i : Nat)
  /-- `TW_LOOKUP` (R99). -/
  | twLookup (c : Caller) (sl : Nat)
  /-- `TW_INSERT` (R100). -/
  | twInsert (c : Caller) (sl : Nat)
  /-- `TW_DELETE` (R99). -/
  | twDelete (c : Caller) (sl : Nat)
  /-- `TW_READ` (R99). -/
  | twRead (c : Caller) (sl : Nat)
  /-- `TW_NEXT` (R99). -/
  | twNext (c : Caller) (sl : Nat)
  /-- `TW_HASH` (R99). -/
  | twHash (c : Caller) (sl : Nat)
  /-- `TW_FLUSH` (R99). -/
  | twFlush (c : Caller) (sl : Nat)
  /-- `AW_READ` (R141). -/
  | awRead (c : Caller) (sl : Nat) (ecc : Bool)
  /-- `AW_WRITE` (R142). -/
  | awWrite (c : Caller) (sl : Nat) (ecc : Bool)
  /-- `AW_FIND_SCI` (R141). -/
  | awFindSci (c : Caller) (sl : Nat)
  /-- `AW_FREE` (R141). -/
  | awFree (c : Caller) (sl : Nat)
  /-- `AW_DELETE` (R144). -/
  | awDelete (c : Caller) (sl : Nat)
  /-- `AW_DELETE_DONE` (R144). -/
  | awDeleteDone (sl : Nat)
  /-- `AW_READ_COUNTERS` (R141). -/
  | awReadCounters (c : Caller) (sl : Nat)
  /-- `KEY_SCRUB_VISIT` (R130). -/
  | keyScrubVisit (sl : Nat) (fault : Bool)
  /-- `BUCKET_REFILL_VISIT` (R158). -/
  | bucketRefillVisit (sl : Nat) (open_ : Bool) (kind : Nat) (i : Nat)
  /-- `QUEUE_SAMPLE_VISIT` (R174). -/
  | queueSampleVisit (sl : Nat) (open_ : Bool)
  /-- `TM_READ` (R177). -/
  | tmRead (c : Caller) (sl : Nat)
  /-- `TM_WRITE` (R177). -/
  | tmWrite (c : Caller) (sl : Nat)
  /-- `TM_READ_COUNTERS` (R179). -/
  | tmReadCounters (c : Caller) (sl : Nat)
  /-- `AUDIT_MISMATCH` (R207). -/
  | auditMismatch (sl : Nat) (open_ : Bool) (pos : Nat)
  /-- `CORE_CHECK_VERDICT` (R208). -/
  | coreCheckVerdict (sl : Nat) (open_ : Bool) (corePass : Bool) (auditorPass : Bool)
  /-- `CORE_RETEST` (R212). -/
  | coreRetest (c : Caller) (sl : Nat) (open_ : Bool)
  /-- `RETEST_COMPLETE` (R212). -/
  | retestComplete (sl : Nat) (open_ : Bool) (mask : Nat)
  /-- `CW_READ` (R250). -/
  | cwRead (c : Caller) (sl : Nat)
  /-- `CW_ARM` (R237). -/
  | cwArm (c : Caller) (sl : Nat)
  /-- `CW_CANCEL` (R237). -/
  | cwCancel (c : Caller) (sl : Nat)
  /-- `CW_FIRE` (R226). -/
  | cwFire (c : Caller) (sl : Nat)
  /-- `CUE_TIME_TRIGGER` (R224). -/
  | cueTimeTrigger (sl : Nat) (trib : Bool) (i : Nat)
  /-- `CUE_SWITCH` (R228). -/
  | cueSwitch (sl : Nat) (j : Nat)
  /-- `RETIRE_DELAY_END` (R234). -/
  | retireDelayEnd (sl : Nat) (i : Nat)
  /-- `ODU_FRAME_RECEIVED` (R257). -/
  | oduFrameReceived (sl : Nat) (i : Nat) (f : OduFrame)
  /-- `BLOCK_LOCK_CHANGE` (R254). -/
  | blockLockChange (sl : Nat) (lane : Nat) (heads : List Bool) (skew : Nat)
  /-- `OTN_DEFECT_DECLARE` (R259). -/
  | otnDefectDeclare (sl : Nat) (trib : Option Nat) (b : Nat)
  /-- `OTN_DEFECT_CLEAR` (R259). -/
  | otnDefectClear (sl : Nat) (trib : Option Nat) (b : Nat)
  /-- `ONE_SECOND_EDGE` (R264). -/
  | oneSecondEdge
  /-- `PPS_OUT_PULSE_END` (R317). -/
  | ppsOutPulseEnd
  /-- `TRIB_ENABLE` (R266). -/
  | tribEnable (c : Caller) (sl : Nat) (t : Nat) (v : Nat)
  /-- `MULTIFRAME_BOUNDARY` (R280). -/
  | multiframeBoundary (sl : Nat) (t : Nat) (jc : Nat)
  /-- `SODU_MULTIFRAME_RECEIVED` (R283). -/
  | soduMultiframeReceived (sl : Nat) (t : Nat) (oh : Bytes) (c : Bytes)
  /-- `SODU_TAG_CHECK` (R287). -/
  | soduTagCheck (sl : Nat) (t : Nat) (oh : Bytes)
  /-- `CM_READ` (R292). -/
  | cmRead (c : Caller) (sl : Nat)
  /-- `CM_WRITE` (R271). -/
  | cmWrite (c : Caller) (sl : Nat)
  /-- `CM_SWITCH` (R270). -/
  | cmSwitch (c : Caller) (sl : Nat)
  /-- `CM_SWITCH_APPLY` (R270). -/
  | cmSwitchApply (sl : Nat)
  /-- `TIME_STEP_SET` (R299). -/
  | timeStepSet (c : Caller)
  /-- `TIME_STEP_OFFSET` (R299). -/
  | timeStepOffset (c : Caller)
  /-- `TIME_UNLOCK` (R299). -/
  | timeUnlock (c : Caller)
  /-- `TIME_STEP_APPLY` (R300). -/
  | timeStepApply
  /-- `INCR_WRITE` (R297). -/
  | incrWrite (c : Caller) (v : Nat)
  /-- `INCR_APPLY` (R301). -/
  | incrApply
  /-- `PPS_IN_EDGE` (R318). -/
  | ppsInEdge (falling : Bool) (lag : Nat)
  /-- `SYNCE_SOURCE_SWITCH` (R320). -/
  | synceSourceSwitch (m : Nat) (signal : Bool) (locked : Bool)
  /-- `KW_UNWRAP` (R341). -/
  | kwUnwrap (c : Caller)
  /-- `KW_GENERATE` (R345). -/
  | kwGenerate (c : Caller)
  /-- `KW_WRAP` (R346). -/
  | kwWrap (c : Caller)
  /-- `KW_REWRAP` (R347). -/
  | kwRewrap (c : Caller)
  /-- `KW_DESTROY` (R348). -/
  | kwDestroy (c : Caller)
  /-- `KW_KEK_CLEAR` (R348). -/
  | kwKekClear (c : Caller)
  /-- `KW_MIGRATE` (R350). -/
  | kwMigrate (c : Caller)
  /-- `KW_MIGRATE_END` (R351). -/
  | kwMigrateEnd (c : Caller)
  /-- `KW_QUOTE` (R357). -/
  | kwQuote (c : Caller)
  /-- `KW_INFO` (R367). -/
  | kwInfo (c : Caller)
  /-- `LC_TRANSITION` (R363). -/
  | lcTransition (c : Caller)
  /-- `LC_VS_RENEW` (R369). -/
  | lcVsRenew (c : Caller)
  /-- `LC_SVN_COMMIT` (R369). -/
  | lcSvnCommit (c : Caller)
  /-- `JOB_START` (R353). -/
  | jobStart (c : Caller) (j : Nat)
  /-- `JOB_CONTINUE` (R352). -/
  | jobContinue (c : Caller) (j : Nat)
  /-- `JOB_FINISH` (R352). -/
  | jobFinish (c : Caller) (j : Nat)
  /-- `JOB_SAVE` (R354). -/
  | jobSave (c : Caller) (j : Nat)
  /-- `JOB_RESTORE` (R355). -/
  | jobRestore (c : Caller) (j : Nat)
  /-- `JOB_ABORT` (R370). -/
  | jobAbort (c : Caller) (j : Nat)
  /-- `JOB_DMA_DONE` (R352). -/
  | jobDmaDone (j : Nat) (aad : Bytes) (data : Bytes)
  /-- `KE_CAK_LOAD` (R376). -/
  | keCakLoad (c : Caller)
  /-- `KE_CAK_FREE` (R377). -/
  | keCakFree (c : Caller)
  /-- `KE_INFO` (R401). -/
  | keInfo (c : Caller)
  /-- `SAK_EXPORT` (R378). -/
  | sakExport (h : Nat) (i : Nat)
  /-- `SAK_IMPORT` (R378). -/
  | sakImport (wrapped : Bytes) (i : Nat) (target : Nat) (export_ : Nat) (serial : Nat) (label : Nat)
  /-- `PKE_OPERATION_COMPLETE` (R371). -/
  | pkeOperationComplete
  /-- `MKPDU_RECEIVED` (R379). -/
  | mkpduReceived (n : Nat) (pdu : Bytes) (v : Mkpdu)
  /-- `MKA_HELLO_TIMER` (R380). -/
  | mkaHelloTimer (n : Nat)
  /-- `MKA_PEER_TIMEOUT` (R380). -/
  | mkaPeerTimeout (n : Nat) (mi : Nat)
  /-- `KNOT_RUN` (R382). -/
  | knotRun (c : Caller) (n : Nat) (v : Nat)
  /-- `PAIR_KNOT_RUN` (R400). -/
  | pairKnotRun (c : Caller) (v : Nat)
  /-- `KNOT_MESSAGE_RECEIVED` (R387). -/
  | knotMessageReceived (place : Nat) (src : Bytes) (segs : List Bytes)
  /-- `KNOT_RETRY_TIMEOUT` (R387). -/
  | knotRetryTimeout (k : Nat)
  /-- `KNOT_SESSION_TIMEOUT` (R387). -/
  | knotSessionTimeout (k : Nat)
  /-- `ENTROPY_WINDOW_CLOSE` (R391). -/
  | entropyWindowClose (w0 : Nat) (w1 : Nat) (w2 : Nat)
  /-- `HEALTH_TEST_FAIL` (R396). -/
  | healthTestFail (n : Nat) (w0 : Nat) (w1 : Nat) (w2 : Nat)
  /-- `ENTROPY_REQUEST_SERVED` (R394). -/
  | entropyRequestServed
  /-- `ENTROPY_REQUEST_TIMEOUT` (R394). -/
  | entropyRequestTimeout
  /-- `ENT_READ_REQUEST` (R404). -/
  | entReadRequest (c : Caller)
  /-- `HEARTBEAT_TIMER` (R416). -/
  | heartbeatTimer
  /-- `HEARTBEAT_RECEIVED` (R417). -/
  | heartbeatReceived (b : Bytes)
  /-- `HEARTBEAT_LOSS` (R418). -/
  | heartbeatLoss
  /-- `SEL_ACT_RELEASE` (R408). -/
  | selActRelease
  /-- `SEL_MATE_CHANGE` (R409). -/
  | selMateChange (a : Bool)
  /-- `TETHER_HELLO_TIMER` (R419). -/
  | tetherHelloTimer
  /-- `TETHER_HELLO_RECEIVED` (R419). -/
  | tetherHelloReceived (b : Bytes)
  /-- `TETHER_BAD_FRAME` (R415). -/
  | tetherBadFrame
  /-- `ALONE_WAIT_EXPIRY` (R410). -/
  | aloneWaitExpiry
  /-- `CHECKPOINT_SNAPSHOT` (R423). -/
  | checkpointSnapshot
  /-- `CHECKPOINT_PART_RECEIVED` (R426). -/
  | checkpointPartReceived (l : List (Nat × Bytes))
  /-- `CUE_SYNC_RECEIVED` (R427). -/
  | cueSyncReceived (b : Bytes)
  /-- `TETHER_FIRMWARE_FRAME` (R427). -/
  | tetherFirmwareFrame (m : Mirror)
  /-- `LOS_COMPARE_EXPIRY` (R430). -/
  | losCompareExpiry (m : Nat)
  /-- `TAKE_RECEIVED` (R430). -/
  | takeReceived
  /-- `TAKEOVER_COMMIT` (R432). -/
  | takeoverCommit
  /-- `SHADOW_HOLD_END` (R432). -/
  | shadowHoldEnd
  /-- `SW_CMD` (R435). -/
  | swCmd (c : Caller) (v : Nat)
  /-- `SWITCH_REQ_RECEIVED` (R435). -/
  | switchReqReceived (cmd : Nat)
  /-- `SWITCH_ANS_RECEIVED` (R435). -/
  | switchAnsReceived (st : Status) (cmd : Nat)
  /-- `HANDOVER_SEND` (R434). -/
  | handoverSend
  /-- `HANDOVER_RECEIVED` (R434). -/
  | handoverReceived (cause : Nat)
  /-- `WTR_EXPIRY` (R439). -/
  | wtrExpiry
  /-- `MSG_HELLO` (R480). -/
  | msgHello (k : Nat) (id : Nat) (versions : List Nat)
  /-- `MSG_GET` (R459). -/
  | msgGet (k : Nat) (id : Nat) (ix : Nat) (sub_ : Nat)
  /-- `MSG_SET` (R458). -/
  | msgSet (k : Nat) (id : Nat) (i : BlockItem) (same : Bool)
  /-- `MSG_GET_BLOCK` (R460). -/
  | msgGetBlock (k : Nat) (id : Nat) (l : List (Nat × Nat))
  /-- `MSG_SET_BLOCK` (R460). -/
  | msgSetBlock (k : Nat) (id : Nat) (l : List BlockItem) (same : Bool)
  /-- `MSG_TABLE` (R500). -/
  | msgTable (k : Nat) (id : Nat) (window : Nat) (inputs : List BlockItem) (op : Nat) (results : List Nat) (same : Bool)
  /-- `MSG_SUBSCRIBE` (R469). -/
  | msgSubscribe (k : Nat) (id : Nat) (mask : Nat)
  /-- `MSG_CLAIM` (R461). -/
  | msgClaim (k : Nat) (id : Nat) (force : Bool) (l : List Nat)
  /-- `MSG_RELEASE` (R462). -/
  | msgRelease (k : Nat) (id : Nat) (l : List Nat)
  /-- `MSG_RESET` (R503). -/
  | msgReset (k : Nat) (id : Nat) (level : Nat)
  /-- `RESET_MSG_ASSERT` (R503). -/
  | resetMsgAssert
  /-- `FW_STAGE_BEGIN` (R504). -/
  | fwStageBegin (k : Nat) (id : Nat)
  /-- `FW_STAGE_DATA` (R504). -/
  | fwStageData (k : Nat) (id : Nat) (off : Nat) (b : Bytes)
  /-- `FW_STAGE_END` (R605). -/
  | fwStageEnd (k : Nat) (id : Nat)
  /-- `FW_STAGE_ABORT` (R504). -/
  | fwStageAbort (k : Nat) (id : Nat)
  /-- `NOTIFY_SEND` (R501). -/
  | notifySend (k : Nat)
  /-- `REQUEST_ANSWER_TIMEOUT` (R502). -/
  | requestAnswerTimeout (k : Nat)
  /-- `RP_STORE` (R477). -/
  | rpStore (c : Caller)
  /-- `RP_LOAD` (R477). -/
  | rpLoad (c : Caller)
  /-- `RP_ERASE` (R477). -/
  | rpErase (c : Caller)
  /-- `RP_DIGEST` (R479). -/
  | rpDigest (c : Caller)
  /-- `RP_SELECT` (R477). -/
  | rpSelect (c : Caller)
  /-- `PROFILE_LOAD` (R473). -/
  | profileLoad
  /-- `EV_READ` (R485). -/
  | evRead (c : Caller)
  /-- `RING_FRAME_RECEIVED` (R489). -/
  | ringFrameReceived (b : Bool) (f : Bytes) (fcsOk : Bool) (busy : Bool)
  /-- `DISCOVER_RECEIVED` (R492). -/
  | discoverReceived (b : Bool) (src : Nat) (hops : Nat)
  /-- `DISCOVER_REPLY_RECEIVED` (R492). -/
  | discoverReplyReceived (b : Bool) (src : Nat) (deviceId : Bytes)
  /-- `HANDSHAKE_RECEIVED` (R495). -/
  | handshakeReceived (port : Nat) (src : Nat) (session : Nat) (payload : Bytes)
  /-- `MESSAGE_RECEIVED` (R497). -/
  | messageReceived (port : Nat) (src : Nat) (session : Nat) (payload : Bytes)
  /-- `SESSION_IDLE_TIMEOUT` (R498). -/
  | sessionIdleTimeout (k : Nat)
  /-- `BYPASS_RELEASE` (R488). -/
  | bypassRelease
  /-- `H2D_DOORBELL` (R507). -/
  | h2dDoorbell (len : Nat) (b : Bytes)
  /-- `D2H_ACK` (R507). -/
  | d2hAck
  /-- `PCIE_FLR` (R505). -/
  | pcieFlr
  /-- `PCIE_LINK_LOSS` (R498). -/
  | pcieLinkLoss
  /-- `PCIE_HOT_RESET` (R505). -/
  | pcieHotReset
  /-- `MG_ACCESS` (R528). -/
  | mgAccess (x : DdrAccess) (changed : List (Nat × Bytes)) (bad : List Nat)
  /-- `STAGEHAND_PAGE_MOVE` (R525). -/
  | stagehandPageMove (r : Nat)
  /-- `REKEY_SEED_RETRY` (R524). -/
  | rekeySeedRetry (r : Nat)
  /-- `RG_REKEY` (R539). -/
  | rgRekey (c : Caller) (r : Nat)
  /-- `RG_REFORM` (R529). -/
  | rgReform (c : Caller) (r : Nat)
  /-- `DDR_PATROL_SCRUB` (R512). -/
  | ddrPatrolScrub (found : Nat)
  /-- `TAMPER_SAMPLE` (R541). -/
  | tamperSample (x : Sample)
  /-- `MONITOR_TRIP` (R544). -/
  | monitorTrip (src : Nat) (rail : Nat) (value : Nat)
  /-- `BUS_INTEGRITY_MISMATCH` (R545). -/
  | busIntegrityMismatch (key : Bool) (transfer : Bytes) (sink : Nat) (code : Nat)
  /-- `ALARM_RESPONSE` (R551). -/
  | alarmResponse
  /-- `ZEROISE_DONE` (R551). -/
  | zeroiseDone
  /-- `ALM_ACK` (R553). -/
  | almAck (c : Caller)
  /-- `ALM_CLEAR` (R555). -/
  | almClear (c : Caller)
  /-- `CLEAR_RESET_DELAY` (R555). -/
  | clearResetDelay
  /-- `ALM_FUSE_DISABLE` (R548). -/
  | almFuseDisable (c : Caller)
  /-- `ALM_MAINT` (R556). -/
  | almMaint (c : Caller)
  /-- `MAINT_WINDOW_EXPIRY` (R556). -/
  | maintWindowExpiry
  /-- `AL_READ` (R564). -/
  | alRead (c : Caller)
  /-- `PWR_REQ_ACTIVE` (R572). -/
  | pwrReqActive (c : Caller)
  /-- `PWR_REQ_TRIM` (R572). -/
  | pwrReqTrim (c : Caller)
  /-- `PWR_REQ_DARK` (R576). -/
  | pwrReqDark (c : Caller)
  /-- `SLICE_CLOCK_HOLD` (R31). -/
  | sliceClockHold (sl : Nat)
  /-- `VOLTAGE_REPORTED` (R572). -/
  | voltageReported (mv : Nat)
  /-- `PP_VOLT_TIMEOUT` (R573). -/
  | ppVoltTimeout
  /-- `DARK_ENTRY_COMPLETE` (R576). -/
  | darkEntryComplete
  /-- `DARK_SAMPLE` (R577). -/
  | darkSample (hb : Bool) (los : Nat)
  /-- `DARK_WAKE_TIMER` (R577). -/
  | darkWakeTimer
  /-- `SLICE_POWER_WRITE` (R575). -/
  | slicePowerWrite (c : Caller) (sl : Nat) (v : Nat)
  /-- `SLICE_UNGATE_DONE` (R575). -/
  | sliceUngateDone (sl : Nat) (sealMask : Nat) (openMask : Nat)
  /-- `MAIN_POWER_LOSS` (R580). -/
  | mainPowerLoss (cell : Bool)
  /-- `REFCLK_LOSS` (R582). -/
  | refclkLoss (i : Nat)
  /-- `REFCLK_REVERT` (R582). -/
  | refclkRevert
  /-- `POWER_GOOD_FALL` (R633). -/
  | powerGoodFall (ns : Nat) (secret : Nat) (code : Nat)
  /-- `POWER_ON_RESET` (R588). -/
  | powerOnReset (secret : Nat) (code : Nat)
  /-- `PORST_N_ASSERT` (R588). -/
  | porstNAssert (ns : Nat)
  /-- `WATCHDOG_EXPIRY` (R588). -/
  | watchdogExpiry
  /-- `CORE_RESET` (R589). -/
  | coreReset (bit_ : Nat)
  /-- `SYSTEM_RESET` (R589). -/
  | systemReset (bit_ : Nat)
  /-- `POWERUP_STEP_READY` (R594). -/
  | powerupStepReady (ddr : Nat) (masks : List Nat)
  /-- `POWERUP_STEP_TIMEOUT` (R594). -/
  | powerupStepTimeout (code : Nat)
  /-- `POWERUP_RETRY_TIMER` (R594). -/
  | powerupRetryTimer
  /-- `CLOCK_VALID_SET` (R593). -/
  | clockValidSet (dom : Nat) (i : Nat)
  /-- `BLOCK_CLOCK_LOSS` (R593). -/
  | blockClockLoss (dom : Nat) (i : Nat)
  /-- `BOOT_FIRMWARE_START` (R602). -/
  | bootFirmwareStart (ranges : List (Nat × Nat × Nat × Nat × Bool × Bool)) (us : Nat)
  /-- `BLK_RESET` (R597). -/
  | blkReset (c : Caller)
  /-- `BLOCK_RESET_DONE` (R597). -/
  | blockResetDone (kind : Nat) (i : Nat)
  /-- `FW_ACTIVATE` (R606). -/
  | fwActivate (c : Caller) (v : Nat)
  /-- `FW_COMMIT` (R607). -/
  | fwCommit (c : Caller) (v : Nat)
  /-- `RESET_CAUSE_CLEAR` (R604). -/
  | resetCauseClear (c : Caller) (v : Nat)
  /-- `SNAP_SNAPSHOT` (R619). -/
  | snapSnapshot (c : Caller)
  /-- `SNAPSHOT_BOUNDARY` (R619). -/
  | snapshotBoundary
  /-- `SNAP_RELEASE` (R621). -/
  | snapRelease (c : Caller)
  /-- `SNAP_HOLD_EXPIRY` (R621). -/
  | snapHoldExpiry
  /-- `CT_READ` (R622). -/
  | ctRead (c : Caller)
  /-- `TAG_ENABLE_WRITE` (R623). -/
  | tagEnableWrite (c : Caller) (v : Nat)
  /-- `TG_READ` (R626). -/
  | tgRead (c : Caller)
  /-- `TG_TAG_RESET` (R625). -/
  | tgTagReset (c : Caller)
  /-- `QS_READ` (R627). -/
  | qsRead (c : Caller)
  /-- `PAUSE_TIME_EXPIRY` (R57). -/
  | pauseTimeExpiry (m : Nat) (prios : Nat)
  /-- `CKPT_AGE_EXCEEDED` (R429). -/
  | ckptAgeExceeded (sl : Nat)
  /-- `PCIE_LINK_UP` (R505). -/
  | pcieLinkUp (speed : Nat) (width : Nat)
  /-- `PCIE_PERST_N` (R588). -/
  | pciePerstN
  /-- `PMB_ALERT` (R653). -/
  | pmbAlert
  /-- `SOURCE_CONDITION_END` (R554). -/
  | sourceConditionEnd (src : Nat)
  deriving DecidableEq, Repr

end Sys2Proof
end

