-- ==== Sys2Proof/Config.lean ====
section
/-! DEFINITION. What the spec leaves to the implementation or to nature: values that no proof can see. A free value
is one of these constants applied to the counter `State.free` (log 3); the public-key functions are constants applied
to their operands (log 4). -/

namespace Sys2Proof.Config

/-- A free number: the value that the spec leaves open, taken as the `n`-th free value of a run (log 3). -/
opaque freeNat : Nat → Nat

/-- A free octet (log 3). -/
opaque freeByte : Nat → Nat → Byte

/-- `len` octets of the `n`-th free value. -/
def freeBytes (n len : Nat) : Bytes := (List.range len).map (freeByte n)

/-- Verification of an ECDSA P-384 signature: key, message, signature (R600, R494). -/
opaque ecdsaVerify : Bytes → Bytes → Bytes → Bool

/-- An ECDSA P-384 signature by the secret with this number over a message (R333, R384). -/
opaque ecdsaSignByte : Nat → Bytes → Nat → Nat → Byte

/-- The 96 octets of an ECDSA P-384 signature, with the randomness drawn for it. -/
def ecdsaSign (sk : Nat) (m : Bytes) (r : Nat) : Bytes := (List.range 96).map (ecdsaSignByte sk m r)

/-- The public point of an ECDSA or ECDH P-384 secret, octet by octet (R384). -/
opaque ecPointByte : Nat → Nat → Byte

/-- The 97 octets of a public point of P-384. -/
def ecPoint (sk : Nat) : Bytes := (List.range 97).map (ecPointByte sk)

/-- The ECDH P-384 shared secret of a secret and a peer's point; none where the point is not on the curve (R384). -/
opaque ecdhOk : Bytes → Bool
opaque ecdhByte : Nat → Bytes → Nat → Byte

/-- The 48 octets of an ECDH shared secret. -/
def ecdh (sk : Nat) (pt : Bytes) : Bytes := (List.range 48).map (ecdhByte sk pt)

/-- Verification of an ML-DSA signature of parameter set 65 or 87: set, key, message, signature (R494, R600). -/
opaque mldsaVerify : Nat → Bytes → Bytes → Bytes → Bool
opaque mldsaSignByte : Nat → Bytes → Nat → Nat → Byte

/-- The 3,309 octets of an ML-DSA-65 signature, hedged by the randomness drawn for it. -/
def mldsaSign (sk : Nat) (m : Bytes) (r : Nat) : Bytes := (List.range 3309).map (mldsaSignByte sk m r)

opaque mldsaPubByte : Nat → Nat → Byte

/-- The 1,952 octets of an ML-DSA-65 public key. -/
def mldsaPub (sk : Nat) : Bytes := (List.range 1952).map (mldsaPubByte sk)

/-- ML-KEM-1024: the encapsulation key of a secret, octet by octet (R384). -/
opaque kemKeyByte : Nat → Nat → Byte

/-- The 1,568 octets of an ML-KEM-1024 encapsulation key. -/
def kemKey (sk : Nat) : Bytes := (List.range 1568).map (kemKeyByte sk)

/-- The modulus check of an ML-KEM encapsulation key (R372). -/
opaque kemOk : Bytes → Bool

opaque kemCtByte : Nat → Bytes → Nat → Byte

/-- The 1,568 octets of the ciphertext that encapsulates under a key with a given randomness. -/
def kemCt (r : Nat) (ek : Bytes) : Bytes := (List.range 1568).map (kemCtByte r ek)

opaque kemSecretByte : Nat → Bytes → Nat → Byte

/-- The 32-octet secret that encapsulation gives. -/
def kemSecret (r : Nat) (ek : Bytes) : Bytes := (List.range 32).map (kemSecretByte r ek)

opaque kemOpenByte : Nat → Bytes → Nat → Byte

/-- The 32-octet secret that decapsulation gives. -/
def kemOpen (sk : Nat) (ct : Bytes) : Bytes := (List.range 32).map (kemOpenByte sk ct)

/-- The public keys of Gizeltan that are fixed in the boot ROM: ECDSA P-384, ML-DSA-87 (R494, R600). -/
opaque gizeltanEcByte : Nat → Byte
opaque gizeltanDsaByte : Nat → Byte

/-- Gizeltan's ECDSA P-384 key. -/
def gizeltanEc : Bytes := (List.range 97).map gizeltanEcByte

/-- Gizeltan's ML-DSA-87 key. -/
def gizeltanDsa : Bytes := (List.range 2592).map gizeltanDsaByte

/-- The characterised latency of a port type, lane rate and FEC: `RX_LATENCY_NS` (0) or `TX_LATENCY_NS` (1), as the
firmware writes it when the port is enabled (R305). -/
opaque latency : Nat → Nat → Nat → Nat → Nat

/-- The 32-bit check code of a root secret, whose form the spec does not give (R326, R328). -/
opaque checkCode : Nat → Nat

/-- The G.709 payload type of a tributary's mapping, by `TRIB_TYPE`: the spec names the standard for its value
(R273). -/
opaque g709Pt : Nat → Nat

/-- An octet of the OPU payload area of a multiframe, by its place in row and column order of the 256 frames: the mapping of
G.709 that R265 names for `TRIB_TYPE` and `TRIB_SLOTS`, by the justification control, of the 64b/66b stream of these frames in
turn, each cut short by an error control block or not, with idles between and after them. The last argument tells
multiframes apart. -/
opaque opuByte : Nat → Nat → Nat → List (Bytes × Bool) → Nat → Nat → Byte

/-- An octet of a word of 256 bits of a FlexO instance's bit stream: the FlexO frame, its alignment markers, its RS(544,514)
FEC and its identifiers as G.709.1 gives them (R251), of the OTUCn's overhead as numbers, its TTI, and what each tributary's
ODU carries in its slots (R269); the instance, the word and the octet. -/
opaque flexoByte : List Nat → Bytes → List (List Nat × List Nat × Bytes × Bytes) → Nat → Nat → Nat → Byte

/-- The calendar of cipher slots that is formed for the sealed tributaries of a slice, each with its `TRIB_SLOTS`: a
tributary, or 8 for the frame stream (R22). -/
opaque calendarSlot : List (Nat × Nat) → Nat → Nat
opaque calendarLength : List (Nat × Nat) → Nat

/-- That calendar. -/
def calendar (tribs : List (Nat × Nat)) : List Nat := (List.range (calendarLength tribs)).map (calendarSlot tribs)

/-- The octets of an MKPDU after its EtherType and before its ICV, whose layout IEEE 802.1X gives: of the values that
the spec names, in the model's own order, and the wrapped SAK (R379). -/
opaque mkpduByte : List Nat → Bytes → Nat → Byte
opaque mkpduLength : List Nat → Bytes → Nat

/-- An MKPDU up to its ICV. -/
def mkpdu (fields : List Nat) (wrapped : Bytes) : Bytes :=
  (List.range (mkpduLength fields wrapped)).map (mkpduByte fields wrapped)

/-- The member identifier of this device's MKA on a line index (R379). -/
opaque mkaMember : Nat → Nat

/-- `RX_SNR` of a lane in a period (R62): an analog reading. -/
opaque rxSnr : Nat → Nat → Nat

/-- `FW_VERSION` of a firmware image (R8), whose place in the code the spec does not give. -/
opaque fwVersion : List Byte → Nat

/-- The octets of a profile image (R471), whose form the spec does not give: of its numbers, its octet strings and its
tables. -/
opaque profileByte : List (Nat × Nat) → List (Nat × Bytes) → List (List (Nat × Nat)) → Nat → Byte
opaque profileLength : List (Nat × Nat) → List (Nat × Bytes) → List (List (Nat × Nat)) → Nat

/-- The payload of a FIRMWARE frame: the octets that the firmware forms from what it says, whose layout the spec does not give
(R414, log 64). -/
opaque firmwareLength : List Nat → Nat
opaque firmwareByte : List Nat → Nat → Byte

/-- The payload that says what the list says. -/
def firmwareBody (code : List Nat) : Bytes := (List.range (firmwareLength code)).map (firmwareByte code)

/-- A profile image. -/
def profileImage (nums : List (Nat × Nat)) (octs : List (Nat × Bytes)) (tables : List (List (Nat × Nat))) : Bytes :=
  (List.range (profileLength nums octs tables)).map (profileByte nums octs tables)

end Sys2Proof.Config
end

