-- ==== Sys2Proof/Machine/Bytes.lean ====
section
/-! DEFINITION. Byte strings: big-endian numbers (R448), slices, padding, bit fields of entry images, and the
cyclic redundancy checks that the chapters name. -/

namespace Sys2Proof.Machine

/-- The byte whose unsigned value is `n` modulo 256. -/
def byte (n : Nat) : Byte := BitVec.ofNat 8 n

/-- `n` as `k` bytes, big-endian (R448: values travel big-endian). -/
def be : Nat → Nat → Bytes
  | 0, _ => []
  | k + 1, n => byte (n / 256 ^ k) :: be k n

/-- The number that a byte string spells big-endian. -/
def num (b : Bytes) : Nat := b.foldl (fun a x => a * 256 + x.toNat) 0

/-- `k` zero bytes. -/
def zeros (k : Nat) : Bytes := List.replicate k 0

/-- `len` bytes of `b` from byte `off`. -/
def sub (b : Bytes) (off len : Nat) : Bytes := (b.drop off).take len

/-- The number that `len` bytes of `b` from `off` spell. -/
def fld (b : Bytes) (off len : Nat) : Nat := num (sub b off len)

/-- `b` cut or padded with zero bytes at its end to `k` bytes. -/
def padTo (k : Nat) (b : Bytes) : Bytes := (b ++ zeros (k - b.length)).take k

/-- Replace the bytes of `b` from `off` on by `v`. -/
def patch (b : Bytes) (off : Nat) (v : Bytes) : Bytes :=
  b.take off ++ v ++ b.drop (off + v.length)

/-- Bits `[hi:lo]` of a number. -/
def bits (n hi lo : Nat) : Nat := n / 2 ^ lo % 2 ^ (hi + 1 - lo)

/-- Bit `i` of a number. -/
def bit (n i : Nat) : Bool := n.testBit i

/-- `n` with bits `[hi:lo]` replaced by `v`. -/
def setBits (n hi lo v : Nat) : Nat :=
  n / 2 ^ (hi + 1) * 2 ^ (hi + 1) + v % 2 ^ (hi + 1 - lo) * 2 ^ lo + n % 2 ^ lo

/-- `n` with bit `i` set to `v`. -/
def setBit (n i : Nat) (v : Bool) : Nat := setBits n i i v.toNat

/-- The bits of `new` where `mask` is set, those of `old` elsewhere (the windows' masked writes). -/
def maskMerge (old new mask : Nat) : Nat := (old ^^^ (old &&& mask)) ||| (new &&& mask)

/-- The two's complement value of `k` bytes (R448). -/
def toInt (k n : Nat) : Int := if n % 256 ^ k < 256 ^ k / 2 then (n % 256 ^ k : Nat) else (n % 256 ^ k : Nat) - (256 ^ k : Nat)

/-- The `k`-byte two's complement code of `i`. -/
def ofInt (k : Nat) (i : Int) : Nat := (i % (256 ^ k : Nat)).toNat

/-- Exclusive or of two byte strings, as long as the shorter. -/
def xorB (a b : Bytes) : Bytes := List.zipWith (· ^^^ ·) a b

/-- One bit of a reflected (least significant bit first) CRC register. -/
def crcBitR (poly : Nat) (c : Nat) : Nat := if c % 2 = 1 then (c / 2) ^^^ poly else c / 2

/-- One byte into a reflected CRC register. -/
def crcByteR (poly c : Nat) (b : Byte) : Nat :=
  crcBitR poly (crcBitR poly (crcBitR poly (crcBitR poly
    (crcBitR poly (crcBitR poly (crcBitR poly (crcBitR poly (c ^^^ b.toNat))))))))

/-- CRC-32 of IEEE 802.3, the frame check sequence (R41). -/
def crc32 (b : Bytes) : Nat := b.foldl (crcByteR 0xEDB88320) 0xFFFFFFFF ^^^ 0xFFFFFFFF

/-- CRC-32C, the hash of the Hitch table (R71). -/
def crc32c (b : Bytes) : Nat := b.foldl (crcByteR 0x82F63B78) 0xFFFFFFFF ^^^ 0xFFFFFFFF

/-- The four FCS octets of a frame, in the order they are sent (least significant octet of the register first). -/
def fcsBytes (b : Bytes) : Bytes := (be 4 (crc32 b)).reverse

/-- A frame followed by its FCS. -/
def withFcs (b : Bytes) : Bytes := b ++ fcsBytes b

/-- The frame ends with its own FCS. -/
def fcsGood (b : Bytes) : Bool := b.drop (b.length - 4) == fcsBytes (b.take (b.length - 4))

/-- One bit of a most-significant-first CRC register of width `w`. -/
def crcBitM (w poly c : Nat) : Nat := if c.testBit (w - 1) then (c * 2 % 2 ^ w) ^^^ poly else c * 2 % 2 ^ w

/-- One byte into a most-significant-first CRC register of width `w` (at least 8). -/
def crcByteM (w poly c : Nat) (b : Byte) : Nat :=
  let s := crcBitM w poly
  s (s (s (s (s (s (s (s (c ^^^ (b.toNat * 2 ^ (w - 8))))))))))

end Sys2Proof.Machine
end

