-- ==== Sys2Proof/Machine/Counters.lean ====
section
/-! DEFINITION. The device counters by name: their offsets in the blocks of R614 to R617. -/

namespace Sys2Proof.Machine.Ctr

/-- The first counter of a port's block: `m` is the port's index low byte, 0x00 to 0x1F client, 0x40 to 0x5F line
(R613). -/
abbrev port (m : Nat) : Nat := if m < 0x40 then 32 * m else 0x400 + 32 * (m - 0x40)
/-- The first counter of a slice's block (R613). -/
abbrev slice (s : Nat) : Nat := 0x800 + 64 * s
/-- The first counter of the device block (R613). -/
abbrev device : Nat := 0x900

/-- Offset of `RX_FRAMES` (R614). -/
abbrev RX_FRAMES : Nat := 0
/-- Offset of `RX_RUNT` (R614). -/
abbrev RX_RUNT : Nat := 1
/-- Offset of `RX_OVERSIZE` (R614). -/
abbrev RX_OVERSIZE : Nat := 2
/-- Offset of `RX_PCS_ERR` (R614). -/
abbrev RX_PCS_ERR : Nat := 3
/-- Offset of `RX_FCS_ERR` (R614). -/
abbrev RX_FCS_ERR : Nat := 4
/-- Offset of `RX_MAC_CTRL` (R614). -/
abbrev RX_MAC_CTRL : Nat := 5
/-- Offset of `CLIENT_FAULT_DISCARD` (R614). -/
abbrev CLIENT_FAULT_DISCARD : Nat := 6
/-- Offset of `SHADOW_DISCARD` (R614). -/
abbrev SHADOW_DISCARD : Nat := 7
/-- Offset of `DARK_DISCARD` (R614). -/
abbrev DARK_DISCARD : Nat := 8
/-- Offset of `TM_NO_QUEUE` (R614). -/
abbrev TM_NO_QUEUE : Nat := 9
/-- Offset of `GROUP_DIRECT` (R614). -/
abbrev GROUP_DIRECT : Nat := 10
/-- Offset of `GROUP_MCAST` (R614). -/
abbrev GROUP_MCAST : Nat := 11
/-- Offset of `HITCH_HIT` (R614). -/
abbrev HITCH_HIT : Nat := 12
/-- Offset of `HITCH_STALE_SECY` (R614). -/
abbrev HITCH_STALE_SECY : Nat := 13
/-- Offset of `HITCH_MISS` (R614). -/
abbrev HITCH_MISS : Nat := 14
/-- Offset of `HITCH_NO_SECY` (R614). -/
abbrev HITCH_NO_SECY : Nat := 15
/-- Offset of `PTP_PASSED` (R614, sealing direction; the opening direction is 8 higher). -/
abbrev PTP_PASSED : Nat := 16
/-- Offset of `PTP_OTHER` (R614, sealing direction; the opening direction is 8 higher). -/
abbrev PTP_OTHER : Nat := 17
/-- Offset of `PTP_STEP_DISCARD` (R614, sealing direction; the opening direction is 8 higher). -/
abbrev PTP_STEP_DISCARD : Nat := 18
/-- Offset of `PTP_STORED` (R614, sealing direction; the opening direction is 8 higher). -/
abbrev PTP_STORED : Nat := 19
/-- Offset of `PTP_CORRECTED` (R614, sealing direction; the opening direction is 8 higher). -/
abbrev PTP_CORRECTED : Nat := 20
/-- Offset of `PTP_FUP_CORRECTED` (R614, sealing direction; the opening direction is 8 higher). -/
abbrev PTP_FUP_CORRECTED : Nat := 21
/-- Offset of `PTP_FUP_UNMATCHED` (R614, sealing direction; the opening direction is 8 higher). -/
abbrev PTP_FUP_UNMATCHED : Nat := 22
/-- Offset of `PTP_SATURATED` (R614, sealing direction; the opening direction is 8 higher). -/
abbrev PTP_SATURATED : Nat := 23
/-- Offset of `LINE_FAULT_DISCARD` (R615). -/
abbrev LINE_FAULT_DISCARD : Nat := 6
/-- Offset of `SHADOW_DISCARD` (R615). -/
abbrev LINE_SHADOW_DISCARD : Nat := 7
/-- Offset of `SEAL_SECY_DISABLED` (R615). -/
abbrev SEAL_SECY_DISABLED : Nat := 10
/-- Offset of `SEAL_NO_SA` (R615). -/
abbrev SEAL_NO_SA : Nat := 11
/-- Offset of `SEAL_PN_EXHAUSTED` (R615). -/
abbrev SEAL_PN_EXHAUSTED : Nat := 12
/-- Offset of `SEAL_KEY_FAULT` (R615). -/
abbrev SEAL_KEY_FAULT : Nat := 13
/-- Offset of `SEAL_AUDIT_ABORT` (R615). -/
abbrev SEAL_AUDIT_ABORT : Nat := 14
/-- Offset of `SEAL_GUARD_ABORT` (R615). -/
abbrev SEAL_GUARD_ABORT : Nat := 15
/-- Offset of `OPEN_UNCONTROLLED` (R615). -/
abbrev OPEN_UNCONTROLLED : Nat := 16
/-- Offset of `OPEN_UNTAGGED_NO_SECY` (R615). -/
abbrev OPEN_UNTAGGED_NO_SECY : Nat := 17
/-- Offset of `OPEN_SECY_DISABLED` (R615). -/
abbrev OPEN_SECY_DISABLED : Nat := 18
/-- Offset of `OPEN_KEY_FAULT` (R615). -/
abbrev OPEN_KEY_FAULT : Nat := 19
/-- Offset of `OPEN_AUDIT_DISCARD` (R615). -/
abbrev OPEN_AUDIT_DISCARD : Nat := 20
/-- Offset of `OPEN_OVERSIZE` (R615). -/
abbrev OPEN_OVERSIZE : Nat := 21
/-- Offset of `SODU_MF_OK` (R615). -/
abbrev SODU_MF_OK : Nat := 22
/-- Offset of `SODU_TAG_FAIL` (R615). -/
abbrev SODU_TAG_FAIL : Nat := 23
/-- Offset of `SODU_TAG_LOST` (R615). -/
abbrev SODU_TAG_LOST : Nat := 24
/-- Offset of `SODU_UNLOCKED_MF` (R615). -/
abbrev SODU_UNLOCKED_MF : Nat := 25
/-- Offset of `SODU_RX_KEY_FAULT` (R615). -/
abbrev SODU_RX_KEY_FAULT : Nat := 26
/-- Offset of `SODU_MFN_JUMP` (R615). -/
abbrev SODU_MFN_JUMP : Nat := 27
/-- Offset of `SODU_REPLAY` (R615). -/
abbrev SODU_REPLAY : Nat := 28
/-- Offset of `SODU_KEY_MISMATCH` (R615). -/
abbrev SODU_KEY_MISMATCH : Nat := 29
/-- Offset of `SODU_TX_KEY_FAULT` (R615). -/
abbrev SODU_TX_KEY_FAULT : Nat := 30
/-- Offset of `SEAL_NO_TRACKER` (R616). -/
abbrev SEAL_NO_TRACKER : Nat := 0
/-- Offset of `OPEN_NO_TRACKER` (R616). -/
abbrev OPEN_NO_TRACKER : Nat := 1
/-- Offset of `OPEN_ENTRY_OVERRUN` (R616). -/
abbrev OPEN_ENTRY_OVERRUN : Nat := 2
/-- Offset of `HITCH_PARITY` (R616). -/
abbrev HITCH_PARITY : Nat := 3
/-- Offset of `HITCH_EVICT` (R616). -/
abbrev HITCH_EVICT : Nat := 4
/-- Offset of `LEARN_QUEUE_DROP` (R616). -/
abbrev LEARN_QUEUE_DROP : Nat := 5
/-- Offset of `LEARN_BAD_SA` (R616). -/
abbrev LEARN_BAD_SA : Nat := 6
/-- Offset of `LEARN_NO_TARGET` (R616). -/
abbrev LEARN_NO_TARGET : Nat := 7
/-- Offset of `LEARN_STATIC_CONFLICT` (R616). -/
abbrev LEARN_STATIC_CONFLICT : Nat := 8
/-- Offset of `LEARN_REFRESH` (R616). -/
abbrev LEARN_REFRESH : Nat := 9
/-- Offset of `LEARN_MOVE` (R616). -/
abbrev LEARN_MOVE : Nat := 10
/-- Offset of `LEARN_PORT_LIMIT` (R616). -/
abbrev LEARN_PORT_LIMIT : Nat := 11
/-- Offset of `LEARN_FULL` (R616). -/
abbrev LEARN_FULL : Nat := 12
/-- Offset of `LEARN_NEW` (R616). -/
abbrev LEARN_NEW : Nat := 13
/-- Offset of `LEARN_COLLISION` (R616). -/
abbrev LEARN_COLLISION : Nat := 14
/-- Offset of `AGE_REMOVED` (R616). -/
abbrev AGE_REMOVED : Nat := 15
/-- Offset of `AGE_STALE_SECY` (R616). -/
abbrev AGE_STALE_SECY : Nat := 16
/-- Offset of `PTP_STORE_EVICT` (R616). -/
abbrev PTP_STORE_EVICT : Nat := 17
/-- Offset of `FLEXO_FEC_CORR` (R616). -/
abbrev FLEXO_FEC_CORR : Nat := 32
/-- Offset of `FLEXO_FEC_UNCORR` (R616). -/
abbrev FLEXO_FEC_UNCORR : Nat := 40
/-- Offset of `VAULT_UNWRAP_OK` (R617). -/
abbrev VAULT_UNWRAP_OK : Nat := 0
/-- Offset of `VAULT_DENIED` (R617). -/
abbrev VAULT_DENIED : Nat := 1
/-- Offset of `VAULT_RANGE` (R617). -/
abbrev VAULT_RANGE : Nat := 2
/-- Offset of `VAULT_NOT_READY` (R617). -/
abbrev VAULT_NOT_READY : Nat := 3
/-- Offset of `VAULT_BUSY` (R617). -/
abbrev VAULT_BUSY : Nat := 4
/-- Offset of `VAULT_INTEGRITY` (R617). -/
abbrev VAULT_INTEGRITY : Nat := 5
/-- Offset of `KNOT_BAD_FORM` (R617). -/
abbrev KNOT_BAD_FORM : Nat := 6
/-- Offset of `KNOT_STALE` (R617). -/
abbrev KNOT_STALE : Nat := 7
/-- Offset of `KNOT_VERSION` (R617). -/
abbrev KNOT_VERSION : Nat := 8
/-- Offset of `KNOT_REFUSED` (R617). -/
abbrev KNOT_REFUSED : Nat := 9
/-- Offset of `KNOT_CRED_FAIL` (R617). -/
abbrev KNOT_CRED_FAIL : Nat := 10
/-- Offset of `KNOT_ENTROPY` (R617). -/
abbrev KNOT_ENTROPY : Nat := 11
/-- Offset of `KNOT_NO_ROOM` (R617). -/
abbrev KNOT_NO_ROOM : Nat := 12
/-- Offset of `KNOT_ABORTED` (R617). -/
abbrev KNOT_ABORTED : Nat := 13
/-- Offset of `KNOT_TIMEOUT` (R617). -/
abbrev KNOT_TIMEOUT : Nat := 14
/-- Offset of `TAGS_WRITTEN` (R617). -/
abbrev TAGS_WRITTEN : Nat := 15
/-- Offset of `TAGS_LOST` (R617). -/
abbrev TAGS_LOST : Nat := 16

end Sys2Proof.Machine.Ctr
end

