-- ==== Sys2Proof/Machine/Objects.lean ====
section
/-! DEFINITION. The object dictionary's shape: object types (R448), attributes (R449 to R454) and the index map
(R455). -/

namespace Sys2Proof.Machine

/-- The narrowest reset that returns an object to its default (R450). -/
inductive ResetLevel where
  | core | system | powerOn | none
  deriving DecidableEq, Repr

/-- How wide a reset is: an object of level `l` returns to its default at a reset of rank at least that of `l`. -/
def resetRank : ResetLevel → Nat
  | .core => 0
  | .system => 1
  | .powerOn => 2
  | .none => 3

/-- The object types of R448, with the range the object's table gives. -/
inductive ObjType where
  | uint (size lo hi : Nat)
  | oneOf (size : Nat) (ranges : List (Nat × Nat))
  | sint (size : Nat) (lo : Int) (hi : Nat)
  | bool
  | enum (codes : List Nat)
  | octets (size : Nat)
  | octetsUpTo (size : Nat)
  | handle
  deriving DecidableEq, Repr

/-- One row of an object table. Levels: 0 Observer, 1 Operator, 2 Custodian, 3 Vendor; 9 the firmware alone. -/
structure Desc where
  sub : Nat
  ty : ObjType
  ro : Bool := false
  expert : Bool := false
  rd : Nat := 1
  wr : Nat := 1
  persist : Bool := false
  reset : ResetLevel := .system
  dflt : Nat := 0
  dfltO : Bytes := []
  deriving DecidableEq, Repr

/-- The object sets of the index map (R455). -/
inductive ObjSet where
  | identity | rpCtl | rpWin | sessSelf | ring | pcie | sessInfo | evCtl | evWin | power | dark | residency
  | slicePwr | rstBoot | straps | blkWin | fwWdt | clocks | lane | sLane | scan | port | otn | otnPm | cmWin
  | trib | tribPm | sodu | hitch | twWin | hitchPort | assoc | awWin | linePort | tm | tmWin | tmClient
  | tmLine | pipe | cue | cwWin | clock | pps | syncE | timeClient | timeLine | timeSlice | vault | kwWin
  | lcWin | job | ke | keWin | kePort | ent | entWin | pair | pairStat | swWin | guard | ddr | range | alarm
  | almWin | alWin | loop | monitor | source | snap | ctWin | tag | tgWin | qsWin
  deriving DecidableEq, Repr

/-- The alarm sources of R546: default class, least class, and where each is watched (0 = ACTIVE and TRIM, 1 = also
DARK, 2 = every state). -/
def sourceInfo (n : Nat) : Option (Nat × Nat × Nat) :=
  if n < 0x11 then
    match n with
    | 0x01 | 0x02 => some (3, 0, 2)
    | 0x03 | 0x04 | 0x05 | 0x06 => some (4, 0, 2)
    | 0x07 => some (0, 0, 2)
    | 0x08 => some (3, 1, 1)
    | 0x09 => some (2, 1, 0)
    | 0x0A => some (3, 1, 0)
    | 0x0B => some (1, 1, 0)
    | 0x0C => some (0, 0, 1)
    | 0x0D => some (2, 1, 2)
    | 0x0E => some (1, 0, 2)
    | 0x0F => some (2, 1, 0)
    | 0x10 => some (3, 3, 0)
    | _ => none
  else
    match n with
    | 0x20 | 0x22 | 0x2A | 0x32 | 0x33 | 0x38 | 0x39 | 0x3C => some (1, 1, 0)
    | 0x21 | 0x28 | 0x29 | 0x34 | 0x3B => some (0, 0, 0)
    | 0x30 | 0x31 => some (1, 0, 0)
    | 0x3A => some (3, 3, 0)
    | _ => none

/-- A lane or port number in an index's low byte: 0x00–0x1F client, 0x40–0x5F line (R61). -/
def laneLow (n : Nat) : Bool := decide (n < 0x20) || (decide (0x40 ≤ n) && decide (n < 0x60))

/-- The sets of a per-slice block of 0x100 indexes: `o` is the index less the block's base. -/
def otnSet (o : Nat) : Option ObjSet :=
  if o = 0 then some .otn else if o = 1 then some .otnPm else if o = 2 then some .cmWin
  else if o < 0x10 then none
  else if o < 0x18 then some .trib else if o < 0x20 then none
  else if o < 0x28 then some .tribPm else if o < 0x30 then none
  else if o < 0x38 then some .sodu else none

/-- Two head indexes and eight port indexes at 0x10. -/
def headPorts (a b p : ObjSet) (o : Nat) : Option ObjSet :=
  if o = 0 then some a else if o = 1 then some b
  else if 0x10 ≤ o ∧ o < 0x18 then some p else none

/-- The traffic manager's block (R181). -/
def tmSet (o : Nat) : Option ObjSet :=
  if 0x20 ≤ o ∧ o < 0x28 then some .tmLine else headPorts .tm .tmWin .tmClient o

/-- The object set of an index (R455); none where the map assigns nothing. -/
def setOf (ix : Nat) : Option ObjSet :=
  if ix < 0x1000 then
    if ix = 0x0000 then some .identity else if ix = 0x0100 then some .rpCtl else if ix = 0x0101 then some .rpWin
    else if ix = 0x0200 then some .sessSelf else if ix = 0x0201 then some .ring else if ix = 0x0202 then some .pcie
    else if 0x0210 ≤ ix ∧ ix < 0x0220 then some .sessInfo
    else if ix = 0x0300 then some .evCtl else if ix = 0x0301 then some .evWin
    else if ix = 0x0400 then some .power else if ix = 0x0401 then some .dark else if ix = 0x0402 then some .residency
    else if 0x0410 ≤ ix ∧ ix < 0x0414 then some .slicePwr
    else if ix = 0x0500 then some .rstBoot else if ix = 0x0501 then some .straps
    else if ix = 0x0502 then some .blkWin else if ix = 0x0503 then some .fwWdt
    else if ix = 0x0600 then some .clocks else none
  else if ix < 0x1800 then
    if ix < 0x1100 then
      if laneLow (ix - 0x1000) then some .lane
      else if (0x1080 ≤ ix ∧ ix < 0x1084) ∨ ix = 0x1088 ∨ ix = 0x1089 then some .sLane else none
    else if ix < 0x1200 then if laneLow (ix - 0x1100) then some .scan else none
    else if 0x1400 ≤ ix ∧ ix < 0x1500 then if laneLow (ix - 0x1400) then some .port else none
    else none
  else if ix < 0x1C00 then otnSet (ix % 0x100)
  else if ix < 0x2000 then none
  else if ix < 0x2400 then headPorts .hitch .twWin .hitchPort (ix % 0x100)
  else if ix < 0x2800 then none
  else if ix < 0x2C00 then headPorts .assoc .awWin .linePort (ix % 0x100)
  else if ix < 0x3000 then none
  else if ix < 0x3400 then tmSet (ix % 0x100)
  else if ix < 0x3800 then if ix % 0x100 < 2 then some .pipe else none
  else if ix < 0x3A00 then if ix % 0x80 = 0 then some .cue else if ix % 0x80 = 1 then some .cwWin else none
  else if ix < 0x4000 then
    if ix = 0x3A00 then some .clock else if ix = 0x3A01 then some .pps else if ix = 0x3A02 then some .syncE
    else if 0x3A10 ≤ ix ∧ ix < 0x3A30 then some .timeClient
    else if 0x3A40 ≤ ix ∧ ix < 0x3A60 then some .timeLine
    else if 0x3A80 ≤ ix ∧ ix < 0x3A84 then some .timeSlice else none
  else if ix < 0x4800 then
    if ix = 0x4000 then some .vault else if ix = 0x4001 then some .kwWin else if ix = 0x4002 then some .lcWin
    else if 0x4010 ≤ ix ∧ ix < 0x4020 then some .job
    else if ix = 0x4400 then some .ke else if ix = 0x4401 then some .keWin
    else if 0x4410 ≤ ix ∧ ix < 0x4430 then some .kePort
    else if ix = 0x4600 then some .ent else if ix = 0x4601 then some .entWin else none
  else if ix < 0x5000 then
    if ix = 0x4800 then some .pair else if ix = 0x4801 then some .pairStat else if ix = 0x4802 then some .swWin
    else if ix = 0x4A00 then some .guard else if ix = 0x4A01 then some .ddr
    else if 0x4A10 ≤ ix ∧ ix < 0x4A20 then some .range
    else if ix = 0x4C00 then some .alarm else if ix = 0x4C01 then some .almWin else if ix = 0x4C02 then some .alWin
    else if 0x4C10 ≤ ix ∧ ix < 0x4C14 then some .loop else if ix = 0x4C20 then some .monitor
    else if 0x4D00 ≤ ix ∧ (sourceInfo (ix - 0x4D00)).isSome then some .source else none
  else if ix = 0x5000 then some .snap else if ix = 0x5001 then some .ctWin else if ix = 0x5002 then some .tag
  else if ix = 0x5003 then some .tgWin else if ix = 0x5004 then some .qsWin else none

/-- The slice that alone owns an index, if one does (R5, R12). -/
def sliceOf (ix : Nat) : Option Nat :=
  if 0x0410 ≤ ix ∧ ix < 0x0414 then some (ix - 0x0410)
  else if 0x1000 ≤ ix ∧ ix < 0x1080 ∨ 0x1100 ≤ ix ∧ ix < 0x1180 ∨ 0x1400 ≤ ix ∧ ix < 0x1480 then some (ix % 0x20 / 8)
  else if 0x1800 ≤ ix ∧ ix < 0x1C00 ∨ 0x2000 ≤ ix ∧ ix < 0x2400 ∨ 0x2800 ≤ ix ∧ ix < 0x2C00
      ∨ 0x3000 ≤ ix ∧ ix < 0x3800 then some (ix / 0x100 % 4)
  else if 0x3800 ≤ ix ∧ ix < 0x3A00 then some ((ix - 0x3800) / 0x80)
  else if 0x3A10 ≤ ix ∧ ix < 0x3A30 then some ((ix - 0x3A10) / 8)
  else if 0x3A40 ≤ ix ∧ ix < 0x3A60 then some ((ix - 0x3A40) / 8)
  else if 0x3A80 ≤ ix ∧ ix < 0x3A84 then some (ix - 0x3A80)
  else if 0x4410 ≤ ix ∧ ix < 0x4430 then some ((ix - 0x4410) / 8)
  else none

end Sys2Proof.Machine
end

