-- ==== Sys2Proof/Machine/ObjTable.lean ====
section
/-! DEFINITION. The dictionary's object tables, transcribed row by row from the chapters' tables: for each object
its type and range (R448), access, level, default, persistence and reset (R449 to R451), and the read and write
levels its chapter gives (R453). -/

namespace Sys2Proof.Machine

/-- The objects of index 0x0000 (R482, R8). -/
def descsIdentity : List Desc :=
  [{ sub := 0x01, ty := .enum [], ro := true, rd := 0, reset := .none },
   { sub := 0x02, ty := .enum [], ro := true, rd := 0, reset := .none },
   { sub := 0x03, ty := .uint 1 0 255, ro := true, rd := 0, reset := .none },
   { sub := 0x04, ty := .uint 2 0 65535, ro := true, rd := 0, reset := .none },
   { sub := 0x05, ty := .uint 4 0 4294967295, ro := true, rd := 0, reset := .core },
   { sub := 0x06, ty := .uint 2 0 65535, ro := true, rd := 0, reset := .none, dflt := 256 }]

/-- The objects of index 0x0100 (R483). -/
def descsRpCtl : List Desc :=
  [{ sub := 0x01, ty := .uint 1 0 255, ro := true, rd := 0 },
   { sub := 0x02, ty := .uint 1 0 255, ro := true, rd := 0 },
   { sub := 0x03, ty := .uint 1 0 255, ro := true, rd := 0, reset := .powerOn, dflt := 255 },
   { sub := 0x04, ty := .uint 1 0 255, ro := true, rd := 0 },
   { sub := 0x05, ty := .bool, ro := true, rd := 0 },
   { sub := 0x06, ty := .enum [], ro := true, rd := 0 },
   { sub := 0x07, ty := .octets 48, ro := true, expert := true, dfltO := zeros 48 }]

/-- The objects of index 0x0101 (R484). -/
def descsRpWin : List Desc :=
  [{ sub := 0x01, ty := .enum [0, 1, 2, 3, 4, 5] },
   { sub := 0x02, ty := .enum [], ro := true },
   { sub := 0x03, ty := .oneOf 1 [(0, 0), (1, 1), (2, 2), (3, 3), (255, 255)] },
   { sub := 0x04, ty := .octets 48, ro := true, expert := true, dfltO := zeros 48 }]

/-- The objects of index 0x0200 (R509). -/
def descsSessSelf : List Desc :=
  [{ sub := 0x01, ty := .uint 4 0 4294967295, ro := true, rd := 0, reset := .core },
   { sub := 0x02, ty := .enum [], ro := true, rd := 0, reset := .core },
   { sub := 0x03, ty := .bool, rd := 0, reset := .core },
   { sub := 0x04, ty := .enum [], ro := true, rd := 0, reset := .core },
   { sub := 0x05, ty := .uint 4 0 4294967295, ro := true, rd := 0, reset := .core }]

/-- The objects of index 0x0201 (R509). -/
def descsRing : List Desc :=
  [{ sub := 0x01, ty := .uint 1 0 255, ro := true, rd := 0 },
   { sub := 0x02, ty := .enum [], ro := true, rd := 0 },
   { sub := 0x03, ty := .octets 6, expert := true, persist := true, dfltO := [0x03, 0x47, 0x5A, 0x48, 0x41, 0x4C] },
   { sub := 0x04, ty := .octets 6, expert := true, persist := true, dfltO := zeros 6 },
   { sub := 0x05, ty := .uint 2 10 3600, wr := 2, persist := true, dflt := 60 },
   { sub := 0x06, ty := .uint 4 0 4294967295, wr := 2, persist := true, reset := .none },
   { sub := 0x07, ty := .uint 4 0 4294967295, ro := true, expert := true },
   { sub := 0x08, ty := .uint 4 0 4294967295, ro := true, expert := true },
   { sub := 0x09, ty := .uint 4 0 4294967295, ro := true, expert := true },
   { sub := 0x0A, ty := .uint 4 0 4294967295, ro := true },
   { sub := 0x0B, ty := .uint 4 0 4294967295, ro := true, expert := true },
   { sub := 0x0C, ty := .uint 4 0 4294967295, ro := true, expert := true },
   { sub := 0x0D, ty := .uint 8 0 18446744073709551615, ro := true, expert := true }]

/-- The objects of index 0x0202 (R509). -/
def descsPcie : List Desc :=
  [{ sub := 0x01, ty := .uint 1 0 255, ro := true },
   { sub := 0x02, ty := .uint 4 0 4294967295, ro := true, reset := .none },
   { sub := 0x03, ty := .uint 4 0 4294967295, ro := true, expert := true }]

/-- The objects of index 0x0210+k, k=0..15 (R509). -/
def descsSessInfo : List Desc :=
  [{ sub := 0x01, ty := .octets 8, ro := true, reset := .core, dfltO := zeros 8 }]

/-- The objects of index 0x0300 (R485). -/
def descsEvCtl : List Desc :=
  [{ sub := 0x01, ty := .uint 4 0 4294967295, ro := true },
   { sub := 0x02, ty := .uint 4 0 4294967295, ro := true, expert := true },
   { sub := 0x03, ty := .uint 4 0 4294967295, ro := true, expert := true }]

/-- The objects of index 0x0301 (R485). -/
def descsEvWin : List Desc :=
  [{ sub := 0x01, ty := .enum [0, 1], reset := .core },
   { sub := 0x02, ty := .enum [], ro := true, reset := .core },
   { sub := 0x03, ty := .uint 4 0 4294967295, reset := .core },
   { sub := 0x04, ty := .octets 32, ro := true, reset := .core, dfltO := zeros 32 }]

/-- The objects of index 0x0400 (R585). -/
def descsPower : List Desc :=
  [{ sub := 0x01, ty := .enum [], ro := true, rd := 0 },
   { sub := 0x02, ty := .enum [0, 1, 2, 3] },
   { sub := 0x03, ty := .enum [], ro := true },
   { sub := 0x04, ty := .enum [1, 2], persist := true, dflt := 1 },
   { sub := 0x05, ty := .enum [], ro := true, rd := 0 },
   { sub := 0x06, ty := .enum [], ro := true, expert := true },
   { sub := 0x07, ty := .uint 2 0 65535, ro := true },
   { sub := 0x08, ty := .uint 2 100 10000, expert := true, persist := true, dflt := 0x7D0 }]

/-- The objects of index 0x0401 (R585). -/
def descsDark : List Desc :=
  [{ sub := 0x01, ty := .uint 4 100 100000, persist := true, dflt := 1000 },
   { sub := 0x02, ty := .enum [0, 1, 2], persist := true },
   { sub := 0x03, ty := .uint 4 0 4294967295, persist := true },
   { sub := 0x04, ty := .uint 4 0 4294967295, persist := true },
   { sub := 0x05, ty := .uint 4 0 604800, persist := true },
   { sub := 0x06, ty := .enum [], ro := true },
   { sub := 0x07, ty := .uint 4 0 4294967295, ro := true, expert := true }]

/-- The objects of index 0x0402 (R586). -/
def descsResidency : List Desc :=
  [{ sub := 0x01, ty := .uint 8 0 18446744073709551615, ro := true, reset := .powerOn },
   { sub := 0x02, ty := .uint 8 0 18446744073709551615, ro := true, reset := .powerOn },
   { sub := 0x03, ty := .uint 8 0 18446744073709551615, ro := true, reset := .powerOn },
   { sub := 0x04, ty := .uint 8 0 18446744073709551615, ro := true, reset := .powerOn },
   { sub := 0x05, ty := .uint 8 0 18446744073709551615, ro := true, reset := .none },
   { sub := 0x06, ty := .uint 4 0 4294967295, ro := true, expert := true, reset := .powerOn },
   { sub := 0x07, ty := .uint 4 0 4294967295, ro := true, expert := true, reset := .powerOn }]

/-- The objects of index 0x0410+s (R585). -/
def descsSlicePwr : List Desc :=
  [{ sub := 0x01, ty := .enum [0, 1], persist := true },
   { sub := 0x02, ty := .enum [], ro := true }]

/-- The objects of index 0x0500 (R609). -/
def descsRstBoot : List Desc :=
  [{ sub := 0x01, ty := .uint 4 0 4294967295, ro := true, rd := 0, reset := .powerOn },
   { sub := 0x02, ty := .bool },
   { sub := 0x03, ty := .uint 4 0 4294967295, ro := true, reset := .powerOn },
   { sub := 0x04, ty := .uint 4 0 4294967295, ro := true, expert := true },
   { sub := 0x05, ty := .enum [], ro := true, rd := 0, reset := .core },
   { sub := 0x06, ty := .bool, ro := true, reset := .core },
   { sub := 0x07, ty := .uint 4 0 4294967295, ro := true, expert := true, reset := .core }]

/-- The objects of index 0x0501 (R609). -/
def descsStraps : List Desc :=
  [{ sub := 0x01, ty := .uint 2 0 65535, ro := true, rd := 0 },
   { sub := 0x02, ty := .octets 6, ro := true, reset := .none, dfltO := zeros 6 }]

/-- The objects of index 0x0502 (R609). -/
def descsBlkWin : List Desc :=
  [{ sub := 0x01, ty := .enum [0, 1] },
   { sub := 0x02, ty := .enum [], ro := true },
   { sub := 0x03, ty := .enum [0, 1, 2, 3] },
   { sub := 0x04, ty := .uint 1 0 31 },
   { sub := 0x05, ty := .uint 8 0 18446744073709551615, ro := true },
   { sub := 0x06, ty := .uint 4 0 4294967295, ro := true }]

/-- The objects of index 0x0503 (R609). -/
def descsFwWdt : List Desc :=
  [{ sub := 0x01, ty := .enum [0, 1], wr := 2, reset := .core },
   { sub := 0x02, ty := .bool, wr := 9, reset := .core },
   { sub := 0x03, ty := .uint 1 1 7, expert := true, wr := 2, persist := true, reset := .none, dflt := 3 },
   { sub := 0x04, ty := .octets 4, ro := true, reset := .core, dfltO := zeros 4 },
   { sub := 0x05, ty := .uint 4 100 60000, expert := true, wr := 2, persist := true, dflt := 0x7D0 }]

/-- The objects of index 0x0600 (R586). -/
def descsClocks : List Desc :=
  [{ sub := 0x01, ty := .enum [], ro := true },
   { sub := 0x02, ty := .enum [], ro := true },
   { sub := 0x03, ty := .uint 1 0 255, ro := true },
   { sub := 0x04, ty := .bool, persist := true, dflt := 1 },
   { sub := 0x05, ty := .uint 1 0 255, ro := true },
   { sub := 0x06, ty := .uint 4 0 4294967295, ro := true, expert := true }]

/-- The objects of index 0x1000+n (client), 0x1040+n (line), n=0..31 (R62). -/
def descsLane : List Desc :=
  [{ sub := 0x01, ty := .enum [0, 1, 2, 3], rd := 0, persist := true, dflt := 1 },
   { sub := 0x02, ty := .enum [0, 1, 2], rd := 0, persist := true, dflt := 1 },
   { sub := 0x03, ty := .enum [0, 1, 2, 3, 4], rd := 0, persist := true, dflt := 3 },
   { sub := 0x04, ty := .enum [0, 1, 2, 3], expert := true, rd := 0 },
   { sub := 0x05, ty := .bool, expert := true, rd := 0, persist := true },
   { sub := 0x06, ty := .bool, expert := true, rd := 0, persist := true },
   { sub := 0x07, ty := .octets 4, expert := true, rd := 0, persist := true, dfltO := [0x00, 0x00, 0x78, 0x00] },
   { sub := 0x08, ty := .enum [0, 1, 2, 3, 4], expert := true, rd := 0 },
   { sub := 0x09, ty := .enum [0, 1, 2, 3, 4], expert := true, rd := 0 },
   { sub := 0x0A, ty := .uint 8 0 18446744073709551615, ro := true, expert := true, rd := 0 },
   { sub := 0x0B, ty := .bool, ro := true, rd := 0 },
   { sub := 0x0C, ty := .bool, ro := true, rd := 0 },
   { sub := 0x0D, ty := .uint 2 0 65535, ro := true, expert := true, rd := 0 },
   { sub := 0x0E, ty := .bool, ro := true, rd := 0, dflt := 1 },
   { sub := 0x0F, ty := .uint 2 0 65535, ro := true, expert := true, rd := 0 },
   { sub := 0x10, ty := .enum [], ro := true, rd := 0, dflt := 1 }]

/-- The objects of index 0x1080..0x1083, 0x1088, 0x1089 (R62, R63). -/
def descsSLane : List Desc :=
  [{ sub := 0x0B, ty := .bool, ro := true, rd := 0 },
   { sub := 0x0E, ty := .bool, ro := true, rd := 0, dflt := 1 },
   { sub := 0x10, ty := .enum [], ro := true, rd := 0, dflt := 1 },
   { sub := 0x11, ty := .bool, ro := true, rd := 0 },
   { sub := 0x12, ty := .uint 4 0 4294967295, ro := true, expert := true, rd := 0 }]

/-- The objects of index 0x1100+m (R64). -/
def descsScan : List Desc :=
  [{ sub := 0x01, ty := .enum [0, 1, 2], expert := true, rd := 0 },
   { sub := 0x02, ty := .sint 4 (-32) 31, expert := true, rd := 0 },
   { sub := 0x03, ty := .sint 4 (-63) 63, expert := true, rd := 0 },
   { sub := 0x04, ty := .enum [0, 1, 2], expert := true, rd := 0, dflt := 1 },
   { sub := 0x05, ty := .uint 1 16 40, expert := true, rd := 0, dflt := 24 },
   { sub := 0x06, ty := .uint 8 0 18446744073709551615, ro := true, expert := true, rd := 0 },
   { sub := 0x07, ty := .uint 8 0 18446744073709551615, ro := true, expert := true, rd := 0 },
   { sub := 0x08, ty := .enum [], ro := true, expert := true, rd := 0 }]

/-- The objects of index 0x1400+n (client), 0x1440+n (line) (R65). -/
def descsPort : List Desc :=
  [{ sub := 0x01, ty := .enum [0, 1, 2, 3, 4, 5, 6, 7], rd := 0, persist := true },
   { sub := 0x02, ty := .oneOf 1 [(1, 1), (2, 2), (4, 4), (8, 8)], rd := 0, persist := true, dflt := 1 },
   { sub := 0x03, ty := .enum [0, 1, 2], rd := 0, persist := true },
   { sub := 0x04, ty := .bool, rd := 0, persist := true },
   { sub := 0x05, ty := .uint 2 1518 10240, rd := 0, persist := true, dflt := 0x600 },
   { sub := 0x06, ty := .enum [0, 1, 2], rd := 0, persist := true },
   { sub := 0x07, ty := .uint 1 0 255, rd := 0, persist := true },
   { sub := 0x08, ty := .uint 2 0 65535, expert := true, rd := 0, persist := true, dflt := 0xFFFF },
   { sub := 0x09, ty := .uint 2 0 65535, expert := true, rd := 0, persist := true, dflt := 0x7FFF },
   { sub := 0x0A, ty := .bool, rd := 0, persist := true, dflt := 1 },
   { sub := 0x0B, ty := .uint 1 0 255, rd := 0, persist := true },
   { sub := 0x0C, ty := .enum [], ro := true, rd := 0 },
   { sub := 0x0D, ty := .uint 4 0 4294967295, expert := true, rd := 0, persist := true, dflt := 0x2000 },
   { sub := 0x0E, ty := .octets 6, expert := true, rd := 0, persist := true, dfltO := zeros 6 }]

/-- The objects of index 0x1800+0x100s (R290). -/
def descsOtn : List Desc :=
  [{ sub := 0x01, ty := .bool, persist := true },
   { sub := 0x02, ty := .uint 1 1 8, persist := true, dflt := 1 },
   { sub := 0x03, ty := .uint 4 0 4294967295, persist := true },
   { sub := 0x04, ty := .octets 64, persist := true, dfltO := zeros 64 },
   { sub := 0x05, ty := .octets 16, persist := true, dfltO := zeros 16 },
   { sub := 0x06, ty := .octets 16, persist := true, dfltO := zeros 16 },
   { sub := 0x07, ty := .enum [0, 1, 2, 3], persist := true },
   { sub := 0x08, ty := .bool, persist := true, dflt := 1 },
   { sub := 0x09, ty := .octets 64, ro := true, dfltO := zeros 64 },
   { sub := 0x0A, ty := .uint 4 0 4294967295, ro := true, rd := 0, dflt := 1 },
   { sub := 0x0B, ty := .uint 1 128 143, expert := true, persist := true, dflt := 133 },
   { sub := 0x0C, ty := .uint 4 0 4294967295, ro := true, expert := true }]

/-- The objects of index 0x1801+0x100s (R291). -/
def descsOtnPm : List Desc :=
  [{ sub := 0x01, ty := .uint 4 0 4294967295, ro := true },
   { sub := 0x02, ty := .uint 4 0 4294967295, ro := true },
   { sub := 0x03, ty := .bool, ro := true },
   { sub := 0x04, ty := .bool, ro := true },
   { sub := 0x05, ty := .uint 8 0 18446744073709551615, ro := true },
   { sub := 0x06, ty := .uint 8 0 18446744073709551615, ro := true },
   { sub := 0x07, ty := .uint 4 0 4294967295, ro := true },
   { sub := 0x08, ty := .uint 8 0 18446744073709551615, ro := true, expert := true },
   { sub := 0x11, ty := .uint 4 0 4294967295, ro := true },
   { sub := 0x12, ty := .uint 4 0 4294967295, ro := true },
   { sub := 0x13, ty := .bool, ro := true },
   { sub := 0x14, ty := .bool, ro := true },
   { sub := 0x15, ty := .uint 8 0 18446744073709551615, ro := true },
   { sub := 0x16, ty := .uint 8 0 18446744073709551615, ro := true },
   { sub := 0x17, ty := .uint 4 0 4294967295, ro := true },
   { sub := 0x18, ty := .uint 8 0 18446744073709551615, ro := true, expert := true }]

/-- The objects of index 0x1802+0x100s (R292). -/
def descsCmWin : List Desc :=
  [{ sub := 0x01, ty := .enum [0, 1, 2, 3] },
   { sub := 0x02, ty := .enum [], ro := true },
   { sub := 0x03, ty := .enum [0, 1] },
   { sub := 0x04, ty := .uint 1 0 1 },
   { sub := 0x05, ty := .uint 1 0 159 },
   { sub := 0x06, ty := .uint 2 0 65535 },
   { sub := 0x07, ty := .uint 1 0 255, ro := true }]

/-- The objects of index 0x1810+0x100s+t (R293). -/
def descsTrib : List Desc :=
  [{ sub := 0x01, ty := .bool, persist := true },
   { sub := 0x02, ty := .enum [0, 1], persist := true, dflt := 1 },
   { sub := 0x03, ty := .uint 1 0 255, persist := true, dflt := 1 },
   { sub := 0x04, ty := .enum [0, 1, 2], persist := true, dflt := 1 },
   { sub := 0x05, ty := .octets 64, persist := true, dfltO := zeros 64 },
   { sub := 0x06, ty := .octets 16, persist := true, dfltO := zeros 16 },
   { sub := 0x07, ty := .octets 16, persist := true, dfltO := zeros 16 },
   { sub := 0x08, ty := .enum [0, 1, 2, 3], persist := true },
   { sub := 0x09, ty := .octets 64, ro := true, dfltO := zeros 64 },
   { sub := 0x0A, ty := .uint 2 0 65535, ro := true, rd := 0 },
   { sub := 0x0B, ty := .uint 4 0 4294967295, ro := true, rd := 0 }]

/-- The objects of index 0x1820+0x100s+t (R291). -/
def descsTribPm : List Desc :=
  [{ sub := 0x01, ty := .uint 4 0 4294967295, ro := true },
   { sub := 0x02, ty := .uint 4 0 4294967295, ro := true },
   { sub := 0x03, ty := .bool, ro := true },
   { sub := 0x04, ty := .bool, ro := true },
   { sub := 0x05, ty := .uint 8 0 18446744073709551615, ro := true },
   { sub := 0x06, ty := .uint 8 0 18446744073709551615, ro := true },
   { sub := 0x07, ty := .uint 4 0 4294967295, ro := true },
   { sub := 0x08, ty := .uint 8 0 18446744073709551615, ro := true, expert := true }]

/-- The objects of index 0x1830+0x100s+t (R294). -/
def descsSodu : List Desc :=
  [{ sub := 0x01, ty := .uint 4 0 4294967295, persist := true },
   { sub := 0x02, ty := .bool, persist := true },
   { sub := 0x03, ty := .handle },
   { sub := 0x04, ty := .handle },
   { sub := 0x05, ty := .uint 1 0 255 },
   { sub := 0x06, ty := .uint 1 0 255 },
   { sub := 0x07, ty := .uint 4 0 2147483647 },
   { sub := 0x08, ty := .uint 4 0 2147483647 },
   { sub := 0x09, ty := .bool, ro := true, rd := 0 },
   { sub := 0x0A, ty := .uint 8 0 18446744073709551615, ro := true, expert := true },
   { sub := 0x0B, ty := .handle },
   { sub := 0x0C, ty := .handle },
   { sub := 0x0D, ty := .uint 1 0 255 },
   { sub := 0x0E, ty := .uint 1 0 255 },
   { sub := 0x0F, ty := .enum [], ro := true, rd := 0 },
   { sub := 0x10, ty := .bool, ro := true, rd := 0 },
   { sub := 0x11, ty := .octets 24, ro := true, expert := true, dfltO := zeros 24 },
   { sub := 0x12, ty := .uint 1 1 16, persist := true, dflt := 2 },
   { sub := 0x13, ty := .uint 1 1 16, persist := true, dflt := 2 }]

/-- The objects of index 0x2000+0x100s (R106). -/
def descsHitch : List Desc :=
  [{ sub := 0x01, ty := .enum [0, 1, 2], persist := true, dflt := 1 },
   { sub := 0x02, ty := .uint 4 10 3600000, persist := true, dflt := 0x186A0 },
   { sub := 0x03, ty := .uint 2 1 1000, expert := true, persist := true, dflt := 10 },
   { sub := 0x04, ty := .uint 2 1 65535, persist := true, dflt := 0x7530 },
   { sub := 0x05, ty := .octets 16, expert := true, persist := true, dfltO := zeros 16 },
   { sub := 0x06, ty := .uint 4 0 4294967295, ro := true },
   { sub := 0x07, ty := .uint 4 0 4294967295, ro := true },
   { sub := 0x08, ty := .uint 2 0 65535, ro := true, expert := true },
   { sub := 0x09, ty := .uint 2 0 65535, ro := true, expert := true },
   { sub := 0x0A, ty := .uint 4 0 4294967295, ro := true, expert := true }]

/-- The objects of index 0x2001+0x100s (R109). -/
def descsTwWin : List Desc :=
  [{ sub := 0x01, ty := .enum [0, 1, 2, 3, 4, 5, 6, 7] },
   { sub := 0x02, ty := .enum [], ro := true },
   { sub := 0x03, ty := .uint 1 0 255 },
   { sub := 0x04, ty := .uint 2 0 4095 },
   { sub := 0x05, ty := .octets 6, dfltO := zeros 6 },
   { sub := 0x06, ty := .uint 2 0 65535 },
   { sub := 0x07, ty := .uint 1 0 255, ro := true },
   { sub := 0x08, ty := .uint 4 0 4294967295 },
   { sub := 0x09, ty := .uint 2 0 65535, ro := true, expert := true },
   { sub := 0x0A, ty := .uint 8 0 18446744073709551615, ro := true, expert := true },
   { sub := 0x0B, ty := .enum [0, 1, 2, 3, 4] }]

/-- The objects of index 0x2010+0x100s+p (R107). -/
def descsHitchPort : List Desc :=
  [{ sub := 0x01, ty := .bool, persist := true },
   { sub := 0x02, ty := .bool, persist := true },
   { sub := 0x03, ty := .oneOf 2 [(0, 2047), (65535, 65535)], persist := true, dflt := 0xFFFF },
   { sub := 0x04, ty := .enum [0, 1], persist := true, dflt := 1 },
   { sub := 0x05, ty := .uint 4 0 4294967295, expert := true, persist := true, dflt := 0x20000 },
   { sub := 0x06, ty := .uint 4 0 4294967295, ro := true }]

/-- The objects of index 0x2800+0x100s (R147). -/
def descsAssoc : List Desc :=
  [{ sub := 0x01, ty := .uint 2 0 65535, ro := true },
   { sub := 0x02, ty := .uint 2 0 65535, ro := true },
   { sub := 0x03, ty := .uint 2 0 65535, ro := true },
   { sub := 0x04, ty := .uint 2 0 65535, ro := true },
   { sub := 0x05, ty := .uint 4 0 4294967295, ro := true, expert := true },
   { sub := 0x06, ty := .uint 4 0 4294967295, ro := true, expert := true },
   { sub := 0x07, ty := .uint 4 0 4294967295, ro := true, expert := true },
   { sub := 0x08, ty := .uint 8 0 18446744073709551615, expert := true, persist := true, dflt := 0xC000000000000000 }]

/-- The objects of index 0x2801+0x100s (R148). -/
def descsAwWin : List Desc :=
  [{ sub := 0x01, ty := .enum [0, 1, 2, 3, 4, 5, 6] },
   { sub := 0x02, ty := .enum [], ro := true },
   { sub := 0x03, ty := .enum [0, 1, 2, 3, 4, 5] },
   { sub := 0x04, ty := .uint 4 0 4294967295 },
   { sub := 0x05, ty := .octets 40, dfltO := zeros 40 },
   { sub := 0x06, ty := .octets 40, dfltO := zeros 40 },
   { sub := 0x07, ty := .octets 8, dfltO := zeros 8 },
   { sub := 0x08, ty := .octets 64, ro := true, dfltO := zeros 64 }]

/-- The objects of index 0x2810+0x100s+p (R149). -/
def descsLinePort : List Desc :=
  [{ sub := 0x01, ty := .uint 2 0 65535, persist := true, dflt := 0xFFFF },
   { sub := 0x02, ty := .uint 2 0 65535, persist := true, dflt := 0xFFFF }]

/-- The objects of index 0x3000+0x100s (R182). -/
def descsTm : List Desc :=
  [{ sub := 0x01, ty := .uint 4 0 4294967295, ro := true, dflt := 0xBE00 },
   { sub := 0x02, ty := .uint 4 0 4294967295, ro := true, dflt := 0xBE00 },
   { sub := 0x03, ty := .uint 4 0 4294967295, ro := true },
   { sub := 0x04, ty := .uint 4 0 4294967295, ro := true },
   { sub := 0x05, ty := .bool, persist := true },
   { sub := 0x06, ty := .uint 4 0 4294967295, ro := true, expert := true }]

/-- The objects of index 0x3001+0x100s (R183). -/
def descsTmWin : List Desc :=
  [{ sub := 0x01, ty := .enum [0, 1, 2, 3] },
   { sub := 0x02, ty := .enum [], ro := true },
   { sub := 0x03, ty := .enum [0, 1] },
   { sub := 0x04, ty := .enum [0, 1, 2, 3] },
   { sub := 0x05, ty := .uint 2 0 65535 },
   { sub := 0x06, ty := .octets 28, dfltO := zeros 28 },
   { sub := 0x07, ty := .octets 28, dfltO := zeros 28 },
   { sub := 0x08, ty := .octets 80, ro := true, dfltO := zeros 80 }]

/-- The objects of index 0x3010+0x100s+p (R184). -/
def descsTmClient : List Desc :=
  [{ sub := 0x01, ty := .enum [0, 1, 2, 3], persist := true },
   { sub := 0x02, ty := .uint 2 0 4095, persist := true },
   { sub := 0x03, ty := .uint 4 0 16777215, persist := true, dflt := 0xFAC688 },
   { sub := 0x04, ty := .uint 1 0 7, persist := true },
   { sub := 0x05, ty := .uint 2 0 1016, persist := true },
   { sub := 0x06, ty := .uint 2 0 1016, persist := true },
   { sub := 0x07, ty := .sint 4 (-32) 63, persist := true, dflt := 20 },
   { sub := 0x08, ty := .bool, persist := true },
   { sub := 0x09, ty := .uint 4 0 16000000, persist := true },
   { sub := 0x0A, ty := .uint 4 64 16777215, expert := true, persist := true, dflt := 0x4000 },
   { sub := 0x0B, ty := .octets 16, expert := true, persist := true, dfltO := [0x02, 0x00, 0x02, 0x00, 0x02, 0x00, 0x02, 0x00, 0x02, 0x00, 0x02, 0x00, 0x02, 0x00, 0x02, 0x00] },
   { sub := 0x0C, ty := .octets 16, expert := true, persist := true, dfltO := [0x01, 0x00, 0x01, 0x00, 0x01, 0x00, 0x01, 0x00, 0x01, 0x00, 0x01, 0x00, 0x01, 0x00, 0x01, 0x00] },
   { sub := 0x0D, ty := .uint 2 0 65535, expert := true, persist := true },
   { sub := 0x0E, ty := .uint 2 0 65535, ro := true, expert := true },
   { sub := 0x0F, ty := .uint 1 0 255, ro := true },
   { sub := 0x10, ty := .uint 4 0 4294967295, ro := true, expert := true }]

/-- The objects of index 0x3020+0x100s+p (R184, R185). -/
def descsTmLine : List Desc :=
  [{ sub := 0x01, ty := .uint 1 0 255 },
   { sub := 0x02, ty := .uint 2 0 65535 },
   { sub := 0x03, ty := .uint 4 0 4294967295 },
   { sub := 0x04, ty := .uint 1 0 255 },
   { sub := 0x05, ty := .uint 2 0 65535 },
   { sub := 0x06, ty := .uint 2 0 65535 },
   { sub := 0x07, ty := .sint 4 (-32) 63, persist := true, dflt := 20 },
   { sub := 0x08, ty := .bool, persist := true },
   { sub := 0x09, ty := .uint 4 0 16000000, persist := true },
   { sub := 0x0A, ty := .uint 4 64 16777215, expert := true, persist := true, dflt := 0x4000 },
   { sub := 0x0B, ty := .octets 16, expert := true, persist := true, dfltO := [0x02, 0x00, 0x02, 0x00, 0x02, 0x00, 0x02, 0x00, 0x02, 0x00, 0x02, 0x00, 0x02, 0x00, 0x02, 0x00] },
   { sub := 0x0C, ty := .octets 16, expert := true, persist := true, dfltO := [0x01, 0x00, 0x01, 0x00, 0x01, 0x00, 0x01, 0x00, 0x01, 0x00, 0x01, 0x00, 0x01, 0x00, 0x01, 0x00] },
   { sub := 0x0D, ty := .uint 2 0 65535, expert := true, persist := true },
   { sub := 0x0E, ty := .uint 2 0 65535, ro := true, expert := true },
   { sub := 0x0F, ty := .uint 1 0 255, ro := true },
   { sub := 0x10, ty := .uint 4 0 4294967295, ro := true, expert := true },
   { sub := 0x11, ty := .bool, persist := true }]

/-- The objects of index 0x3400+0x100s+k (R220). -/
def descsPipe : List Desc :=
  [{ sub := 0x01, ty := .enum [], ro := true, rd := 0, dflt := 3 },
   { sub := 0x02, ty := .octets 9, ro := true, expert := true, rd := 0, dfltO := [0x00, 0x01, 0x02, 0x03, 0x04, 0x05, 0x06, 0x07, 0x08] },
   { sub := 0x03, ty := .bool, ro := true, rd := 0, dflt := 1 },
   { sub := 0x04, ty := .uint 8 0 18446744073709551615, ro := true, expert := true },
   { sub := 0x05, ty := .uint 4 0 4294967295, ro := true },
   { sub := 0x06, ty := .uint 4 0 4294967295, ro := true },
   { sub := 0x07, ty := .uint 4 0 4294967295, ro := true },
   { sub := 0x08, ty := .uint 2 0 65535, ro := true, expert := true },
   { sub := 0x09, ty := .uint 2 1 60000, expert := true, persist := true, dflt := 1000 },
   { sub := 0x0A, ty := .enum [0, 1], expert := true },
   { sub := 0x0B, ty := .enum [], ro := true, expert := true }]

/-- The objects of index 0x3800+0x80s (R249). -/
def descsCue : List Desc :=
  [{ sub := 0x01, ty := .uint 2 1 60000, persist := true, dflt := 1000 },
   { sub := 0x02, ty := .uint 2 0 65535, ro := true },
   { sub := 0x03, ty := .uint 2 0 65535, ro := true },
   { sub := 0x04, ty := .uint 2 0 65535, ro := true },
   { sub := 0x05, ty := .uint 4 0 4294967295, ro := true },
   { sub := 0x06, ty := .uint 4 0 4294967295, ro := true },
   { sub := 0x07, ty := .uint 4 0 4294967295, ro := true }]

/-- The objects of index 0x3801+0x80s (R250). -/
def descsCwWin : List Desc :=
  [{ sub := 0x01, ty := .enum [0, 1, 2, 3, 4] },
   { sub := 0x02, ty := .enum [], ro := true },
   { sub := 0x03, ty := .enum [0, 1, 2, 3] },
   { sub := 0x04, ty := .uint 4 0 4294967295 },
   { sub := 0x05, ty := .octets 32, dfltO := zeros 32 }]

/-- The objects of index 0x3A00 (R322). -/
def descsClock : List Desc :=
  [{ sub := 0x01, ty := .octets 14, ro := true, rd := 0, dfltO := zeros 14 },
   { sub := 0x02, ty := .enum [], ro := true, rd := 0 },
   { sub := 0x03, ty := .uint 8 0 18446744073709551615, dflt := 0x19999999A },
   { sub := 0x04, ty := .enum [0, 1, 2, 3] },
   { sub := 0x05, ty := .octets 10, dfltO := zeros 10 },
   { sub := 0x06, ty := .sint 8 (-9223372036854775808) 9223372036854775807 },
   { sub := 0x07, ty := .enum [], ro := true },
   { sub := 0x08, ty := .uint 4 0 4294967295, ro := true, expert := true },
   { sub := 0x09, ty := .uint 1 0 255, ro := true, expert := true },
   { sub := 0x0A, ty := .sint 8 (-9223372036854775808) 9223372036854775807, ro := true, expert := true },
   { sub := 0x0B, ty := .enum [0, 1], persist := true },
   { sub := 0x0C, ty := .uint 4 10 1000000, expert := true, persist := true, dflt := 1000 }]

/-- The objects of index 0x3A01 (R323). -/
def descsPps : List Desc :=
  [{ sub := 0x01, ty := .bool, persist := true },
   { sub := 0x02, ty := .uint 4 100 500000000, persist := true, dflt := 0xF4240 },
   { sub := 0x03, ty := .sint 4 (-500000000) 499999999, expert := true, persist := true },
   { sub := 0x04, ty := .bool, persist := true },
   { sub := 0x05, ty := .enum [0, 1], persist := true },
   { sub := 0x06, ty := .sint 4 (-2147483648) 2147483647, expert := true, persist := true },
   { sub := 0x07, ty := .octets 14, ro := true, dfltO := zeros 14 },
   { sub := 0x08, ty := .uint 1 0 255, ro := true, expert := true },
   { sub := 0x09, ty := .uint 4 0 4294967295, ro := true },
   { sub := 0x0A, ty := .uint 4 0 4294967295, ro := true, expert := true }]

/-- The objects of index 0x3A02 (R323). -/
def descsSyncE : List Desc :=
  [{ sub := 0x01, ty := .oneOf 1 [(0, 31), (64, 95), (255, 255)], persist := true, dflt := 255 },
   { sub := 0x02, ty := .oneOf 1 [(0, 31), (64, 95), (255, 255)], persist := true, dflt := 255 },
   { sub := 0x03, ty := .enum [0, 1, 2], persist := true, dflt := 2 },
   { sub := 0x04, ty := .bool, persist := true, dflt := 1 },
   { sub := 0x05, ty := .enum [], ro := true }]

/-- The objects of index 0x3A10+n (R324). -/
def descsTimeClient : List Desc :=
  [{ sub := 0x01, ty := .enum [0, 1, 2], persist := true },
   { sub := 0x02, ty := .sint 4 (-2147483648) 2147483647, expert := true, persist := true },
   { sub := 0x03, ty := .sint 4 (-2147483648) 2147483647, expert := true, persist := true }]

/-- The objects of index 0x3A40+n (R324). -/
def descsTimeLine : List Desc :=
  [{ sub := 0x01, ty := .uint 1 0 255 },
   { sub := 0x02, ty := .sint 4 (-2147483648) 2147483647, expert := true, persist := true },
   { sub := 0x03, ty := .sint 4 (-2147483648) 2147483647, expert := true, persist := true }]

/-- The objects of index 0x3A80+s (R325). -/
def descsTimeSlice : List Desc :=
  [{ sub := 0x01, ty := .uint 2 1 1000, persist := true, dflt := 100 },
   { sub := 0x02, ty := .uint 1 0 255, ro := true, expert := true },
   { sub := 0x03, ty := .uint 1 0 255, ro := true, expert := true }]

/-- The objects of index 0x4000 (R366). -/
def descsVault : List Desc :=
  [{ sub := 0x01, ty := .enum [], ro := true, rd := 0, reset := .none },
   { sub := 0x02, ty := .uint 1 0 255, ro := true, reset := .none },
   { sub := 0x03, ty := .octets 48, ro := true, reset := .none, dfltO := zeros 48 },
   { sub := 0x04, ty := .octets 48, ro := true, rd := 0, dfltO := zeros 48 },
   { sub := 0x05, ty := .octets 48, ro := true, reset := .core, dfltO := zeros 48 },
   { sub := 0x06, ty := .uint 2 0 65535, ro := true, reset := .core },
   { sub := 0x07, ty := .uint 2 0 65535, ro := true, reset := .none },
   { sub := 0x08, ty := .enum [], ro := true, reset := .none },
   { sub := 0x09, ty := .octets 48, ro := true, expert := true, reset := .core, dfltO := zeros 48 },
   { sub := 0x0A, ty := .octets 2049, ro := true, dfltO := zeros 2049 },
   { sub := 0x0B, ty := .octets 5558, ro := true, reset := .core, dfltO := zeros 5558 },
   { sub := 0x0C, ty := .uint 4 0 4294967295, ro := true, expert := true }]

/-- The objects of index 0x4001 (R367). -/
def descsKwWin : List Desc :=
  [{ sub := 0x01, ty := .enum [0, 1, 2, 3, 4, 5, 6, 7, 8, 9, 10] },
   { sub := 0x02, ty := .enum [], ro := true },
   { sub := 0x03, ty := .uint 1 0 255 },
   { sub := 0x04, ty := .oneOf 1 [(0, 3), (64, 127), (254, 255)], dflt := 255 },
   { sub := 0x05, ty := .uint 1 0 255, dflt := 255 },
   { sub := 0x06, ty := .enum [0, 1, 2], dflt := 1 },
   { sub := 0x07, ty := .handle },
   { sub := 0x08, ty := .octetsUpTo 6144 },
   { sub := 0x09, ty := .octets 32, dfltO := zeros 32 },
   { sub := 0x0A, ty := .octets 24, ro := true, expert := true, dfltO := zeros 24 }]

/-- The objects of index 0x4002 (R369). -/
def descsLcWin : List Desc :=
  [{ sub := 0x01, ty := .enum [0, 1, 2, 3], wr := 2 },
   { sub := 0x02, ty := .enum [], ro := true },
   { sub := 0x03, ty := .octetsUpTo 6144 }]

/-- The objects of index 0x4010+j (R370). -/
def descsJob : List Desc :=
  [{ sub := 0x01, ty := .enum [0, 1, 2, 3, 4, 5, 6], reset := .core },
   { sub := 0x02, ty := .enum [], ro := true, reset := .core },
   { sub := 0x03, ty := .enum [], ro := true, reset := .core },
   { sub := 0x04, ty := .enum [1, 2, 3, 4, 5, 6], reset := .core, dflt := 1 },
   { sub := 0x05, ty := .handle, reset := .core },
   { sub := 0x06, ty := .octets 12, reset := .core, dfltO := zeros 12 },
   { sub := 0x07, ty := .uint 8 0 18446744073709551615, reset := .core },
   { sub := 0x08, ty := .uint 4 0 4294967295, reset := .core },
   { sub := 0x09, ty := .uint 8 0 18446744073709551615, reset := .core },
   { sub := 0x0A, ty := .uint 8 0 18446744073709551615, reset := .core },
   { sub := 0x0B, ty := .uint 4 0 4294967295, reset := .core },
   { sub := 0x0C, ty := .octets 16, reset := .core, dfltO := zeros 16 },
   { sub := 0x0D, ty := .octets 112, expert := true, reset := .core, dfltO := zeros 112 },
   { sub := 0x0E, ty := .oneOf 1 [(0, 0), (2, 2)], expert := true, reset := .core }]

/-- The objects of index 0x4400 (R400). -/
def descsKe : List Desc :=
  [{ sub := 0x01, ty := .uint 1 0 255, ro := true, expert := true, reset := .core },
   { sub := 0x02, ty := .uint 8 0 18446744073709551615, ro := true, expert := true },
   { sub := 0x03, ty := .octets 2049, wr := 2, persist := true, reset := .none, dfltO := zeros 2049 },
   { sub := 0x04, ty := .octets 3405, wr := 2, persist := true, reset := .none, dfltO := zeros 3405 },
   { sub := 0x05, ty := .octets 384, wr := 2, persist := true, dfltO := zeros 384 },
   { sub := 0x06, ty := .uint 2 0 65535, wr := 2, persist := true },
   { sub := 0x07, ty := .octets 768, expert := true, wr := 2, persist := true, dfltO := zeros 768 },
   { sub := 0x08, ty := .octets 48, wr := 2, persist := true, dfltO := zeros 48 },
   { sub := 0x09, ty := .enum [0, 1] },
   { sub := 0x0A, ty := .enum [], ro := true },
   { sub := 0x0B, ty := .uint 2 50 2000, expert := true, persist := true, dflt := 200 },
   { sub := 0x0C, ty := .uint 2 500 30000, expert := true, persist := true, dflt := 0x7D0 },
   { sub := 0x0D, ty := .octets 6, expert := true, persist := true, dfltO := [0x01, 0x80, 0xC2, 0x00, 0x00, 0x03] }]

/-- The objects of index 0x4401 (R401). -/
def descsKeWin : List Desc :=
  [{ sub := 0x01, ty := .enum [0, 1, 2, 3] },
   { sub := 0x02, ty := .enum [], ro := true },
   { sub := 0x03, ty := .uint 2 0 255 },
   { sub := 0x04, ty := .oneOf 1 [(3, 63), (255, 255)], dflt := 255 },
   { sub := 0x05, ty := .octets 32, dfltO := zeros 32 },
   { sub := 0x06, ty := .uint 1 1 32, dflt := 16 },
   { sub := 0x07, ty := .octetsUpTo 96 },
   { sub := 0x08, ty := .octets 36, ro := true, expert := true, dfltO := zeros 36 }]

/-- The objects of index 0x4410+n (R402). -/
def descsKePort : List Desc :=
  [{ sub := 0x01, ty := .enum [0, 1, 2], persist := true },
   { sub := 0x02, ty := .uint 2 0 65535, persist := true, dflt := 0xFFFF },
   { sub := 0x03, ty := .uint 2 0 65535, dflt := 0xFFFF },
   { sub := 0x04, ty := .uint 1 0 255, persist := true, dflt := 16 },
   { sub := 0x05, ty := .uint 2 500 2000, expert := true, persist := true, dflt := 0x7D0 },
   { sub := 0x06, ty := .enum [0, 1], expert := true, persist := true },
   { sub := 0x07, ty := .uint 2 10 10000, expert := true, persist := true, dflt := 100 },
   { sub := 0x08, ty := .enum [], ro := true },
   { sub := 0x09, ty := .uint 2 0 65535, ro := true },
   { sub := 0x0A, ty := .enum [0, 1, 2], persist := true },
   { sub := 0x0B, ty := .enum [0, 1] },
   { sub := 0x0C, ty := .enum [], ro := true },
   { sub := 0x0D, ty := .enum [], ro := true }]

/-- The objects of index 0x4600 (R403). -/
def descsEnt : List Desc :=
  [{ sub := 0x01, ty := .enum [], ro := true, rd := 0 },
   { sub := 0x02, ty := .uint 2 0 65535, ro := true, expert := true },
   { sub := 0x03, ty := .uint 4 0 1000000, expert := true, persist := true, dflt := 0x2710 },
   { sub := 0x04, ty := .uint 1 1 15, expert := true, persist := true, dflt := 3 },
   { sub := 0x05, ty := .uint 4 0 4294967295, ro := true },
   { sub := 0x06, ty := .uint 1 0 255, ro := true, expert := true },
   { sub := 0x07, ty := .uint 8 0 18446744073709551615, ro := true, expert := true },
   { sub := 0x08, ty := .uint 8 0 18446744073709551615, ro := true, expert := true }]

/-- The objects of index 0x4601 (R404). -/
def descsEntWin : List Desc :=
  [{ sub := 0x01, ty := .enum [0, 1] },
   { sub := 0x02, ty := .uint 2 1 256, dflt := 32 },
   { sub := 0x03, ty := .enum [], ro := true },
   { sub := 0x04, ty := .octets 256, ro := true, dfltO := zeros 256 }]

/-- The objects of index 0x4800 (R443). -/
def descsPair : List Desc :=
  [{ sub := 0x01, ty := .bool, persist := true },
   { sub := 0x02, ty := .uint 2 10 3600, persist := true, dflt := 300 },
   { sub := 0x03, ty := .uint 1 2 10, expert := true, persist := true, dflt := 3 },
   { sub := 0x04, ty := .uint 1 1 6, expert := true, persist := true, dflt := 3 },
   { sub := 0x05, ty := .uint 2 100 60000, expert := true, persist := true, dflt := 0x7D0 }]

/-- The objects of index 0x4801 (R444). -/
def descsPairStat : List Desc :=
  [{ sub := 0x01, ty := .enum [], ro := true, rd := 0 },
   { sub := 0x02, ty := .enum [], ro := true, rd := 0 },
   { sub := 0x03, ty := .enum [], ro := true, rd := 0 },
   { sub := 0x04, ty := .enum [], ro := true },
   { sub := 0x05, ty := .uint 2 0 65535, ro := true, dflt := 256 },
   { sub := 0x06, ty := .uint 2 0 65535, ro := true },
   { sub := 0x07, ty := .uint 4 0 4294967295, ro := true, dflt := 0xFFFFFFFF },
   { sub := 0x08, ty := .uint 4 0 4294967295, ro := true },
   { sub := 0x09, ty := .enum [], ro := true },
   { sub := 0x0A, ty := .uint 4 0 4294967295, ro := true, expert := true },
   { sub := 0x0B, ty := .uint 2 0 65535, ro := true },
   { sub := 0x0C, ty := .uint 4 0 4294967295, ro := true, expert := true },
   { sub := 0x0D, ty := .uint 4 0 4294967295, ro := true, expert := true },
   { sub := 0x0E, ty := .uint 4 0 4294967295, ro := true, expert := true },
   { sub := 0x0F, ty := .uint 4 0 4294967295, ro := true, expert := true }]

/-- The objects of index 0x4802 (R445). -/
def descsSwWin : List Desc :=
  [{ sub := 0x01, ty := .enum [0, 1, 2] },
   { sub := 0x02, ty := .enum [], ro := true }]

/-- The objects of index 0x4A00 (R537). -/
def descsGuard : List Desc :=
  [{ sub := 0x01, ty := .uint 1 0 255, ro := true },
   { sub := 0x02, ty := .uint 1 1 50, expert := true, persist := true, dflt := 10 },
   { sub := 0x03, ty := .uint 4 268435456 4293918720, expert := true, persist := true, dflt := 0xF0000000 },
   { sub := 0x04, ty := .uint 8 0 18446744073709551615, ro := true, expert := true },
   { sub := 0x05, ty := .uint 8 0 18446744073709551615, ro := true, expert := true },
   { sub := 0x06, ty := .uint 8 0 18446744073709551615, ro := true, expert := true },
   { sub := 0x07, ty := .uint 4 0 4294967295, ro := true },
   { sub := 0x08, ty := .uint 4 0 4294967295, ro := true },
   { sub := 0x09, ty := .uint 4 0 4294967295, ro := true },
   { sub := 0x0A, ty := .uint 4 0 4294967295, ro := true },
   { sub := 0x0B, ty := .uint 4 0 4294967295, ro := true, expert := true }]

/-- The objects of index 0x4A01 (R538). -/
def descsDdr : List Desc :=
  [{ sub := 0x01, ty := .enum [0, 1, 2, 3, 4], expert := true, persist := true, dflt := 4 },
   { sub := 0x02, ty := .enum [], ro := true, dflt := 4 },
   { sub := 0x03, ty := .uint 1 0 255, ro := true },
   { sub := 0x04, ty := .enum [], ro := true },
   { sub := 0x05, ty := .uint 8 0 18446744073709551615, ro := true, expert := true },
   { sub := 0x06, ty := .uint 4 0 4294967295, ro := true },
   { sub := 0x07, ty := .uint 2 1 168, expert := true, persist := true, dflt := 24 }]

/-- The objects of index 0x4A10+r (R539). -/
def descsRange : List Desc :=
  [{ sub := 0x01, ty := .octets 16, ro := true, dfltO := zeros 16 },
   { sub := 0x02, ty := .enum [0, 1, 2], wr := 2 },
   { sub := 0x03, ty := .enum [], ro := true },
   { sub := 0x04, ty := .uint 1 0 255, ro := true, expert := true }]

/-- The objects of index 0x4C00 (R562). -/
def descsAlarm : List Desc :=
  [{ sub := 0x01, ty := .enum [], ro := true, rd := 0, reset := .none },
   { sub := 0x02, ty := .bool, ro := true, rd := 0 },
   { sub := 0x03, ty := .uint 1 0 255, ro := true },
   { sub := 0x04, ty := .uint 1 1 4, expert := true, wr := 2, persist := true, reset := .none, dflt := 2 },
   { sub := 0x05, ty := .uint 2 0 65535, ro := true, reset := .none },
   { sub := 0x06, ty := .uint 2 0 65535, ro := true, reset := .none },
   { sub := 0x07, ty := .uint 4 0 4294967295, ro := true, expert := true, reset := .none },
   { sub := 0x08, ty := .uint 8 0 18446744073709551615, ro := true, expert := true, reset := .none }]

/-- The objects of index 0x4C01 (R563). -/
def descsAlmWin : List Desc :=
  [{ sub := 0x01, ty := .enum [0, 1, 2, 3, 4] },
   { sub := 0x02, ty := .enum [], ro := true },
   { sub := 0x03, ty := .uint 1 0 255 },
   { sub := 0x04, ty := .uint 2 0 65535 }]

/-- The objects of index 0x4C02 (R564). -/
def descsAlWin : List Desc :=
  [{ sub := 0x01, ty := .enum [0, 1] },
   { sub := 0x02, ty := .enum [], ro := true },
   { sub := 0x03, ty := .uint 2 0 65535 },
   { sub := 0x04, ty := .octets 16, ro := true, dfltO := zeros 16 }]

/-- The objects of index 0x4C10+k (R565). -/
def descsLoop : List Desc :=
  [{ sub := 0x01, ty := .enum [0, 1], wr := 2, persist := true, reset := .none, dflt := 1 },
   { sub := 0x02, ty := .uint 2 0 1000, expert := true, wr := 2, persist := true, reset := .none, dflt := 20 },
   { sub := 0x03, ty := .uint 2 50 20000, expert := true, wr := 2, persist := true, reset := .none, dflt := 0x7D0 },
   { sub := 0x04, ty := .uint 2 0 65535, ro := true, expert := true }]

/-- The objects of index 0x4C20 (R566). -/
def descsMonitor : List Desc :=
  [{ sub := 0x01, ty := .sint 4 (-2147483648) 2147483647, expert := true, wr := 2, persist := true, reset := .none, dflt := 105 },
   { sub := 0x02, ty := .sint 4 (-2147483648) 2147483647, expert := true, wr := 2, persist := true, reset := .none, dflt := 120 },
   { sub := 0x03, ty := .sint 4 (-2147483648) 2147483647, expert := true, wr := 2, persist := true, reset := .none, dflt := 0xFFFFFFC9 },
   { sub := 0x04, ty := .sint 4 (-2147483648) 2147483647, ro := true }]

/-- The objects of index 0x4D00+n (R567). -/
def descsSource : List Desc :=
  [{ sub := 0x01, ty := .enum [0, 1, 2, 3, 4], wr := 2, persist := true, reset := .none },
   { sub := 0x02, ty := .enum [], ro := true },
   { sub := 0x03, ty := .uint 4 0 4294967295, ro := true },
   { sub := 0x04, ty := .uint 8 0 18446744073709551615, ro := true, expert := true }]

/-- The objects of index 0x5000 (R629). -/
def descsSnap : List Desc :=
  [{ sub := 0x01, ty := .enum [], ro := true },
   { sub := 0x02, ty := .uint 4 0 4294967295, ro := true },
   { sub := 0x03, ty := .uint 8 0 18446744073709551615, ro := true },
   { sub := 0x04, ty := .uint 2 1 600, expert := true, persist := true, dflt := 10 }]

/-- The objects of index 0x5001 (R629). -/
def descsCtWin : List Desc :=
  [{ sub := 0x01, ty := .enum [0, 1, 2] },
   { sub := 0x02, ty := .enum [0, 1] },
   { sub := 0x03, ty := .enum [], ro := true },
   { sub := 0x04, ty := .uint 2 0 4095 },
   { sub := 0x05, ty := .uint 1 1 64, dflt := 1 },
   { sub := 0x06, ty := .octetsUpTo 512, ro := true }]

/-- The objects of index 0x5002 (R629). -/
def descsTag : List Desc :=
  [{ sub := 0x01, ty := .uint 1 0 255 },
   { sub := 0x02, ty := .uint 1 8 24, persist := true, dflt := 16 },
   { sub := 0x03, ty := .enum [0, 1], persist := true },
   { sub := 0x04, ty := .uint 4 0 4294967295, ro := true },
   { sub := 0x05, ty := .uint 2 0 65535, ro := true }]

/-- The objects of index 0x5003 (R629). -/
def descsTgWin : List Desc :=
  [{ sub := 0x01, ty := .enum [0, 1, 2] },
   { sub := 0x02, ty := .enum [], ro := true },
   { sub := 0x03, ty := .uint 4 0 4294967295 },
   { sub := 0x04, ty := .octets 64, ro := true, dfltO := zeros 64 }]

/-- The objects of index 0x5004 (R629). -/
def descsQsWin : List Desc :=
  [{ sub := 0x01, ty := .enum [0, 1] },
   { sub := 0x02, ty := .enum [], ro := true },
   { sub := 0x03, ty := .uint 1 0 7 },
   { sub := 0x04, ty := .uint 2 0 1023 },
   { sub := 0x05, ty := .octets 512, ro := true, dfltO := zeros 512 }]

/-- The objects of a set. -/
def descsOf : ObjSet → List Desc
  | .identity => descsIdentity
  | .rpCtl => descsRpCtl
  | .rpWin => descsRpWin
  | .sessSelf => descsSessSelf
  | .ring => descsRing
  | .pcie => descsPcie
  | .sessInfo => descsSessInfo
  | .evCtl => descsEvCtl
  | .evWin => descsEvWin
  | .power => descsPower
  | .dark => descsDark
  | .residency => descsResidency
  | .slicePwr => descsSlicePwr
  | .rstBoot => descsRstBoot
  | .straps => descsStraps
  | .blkWin => descsBlkWin
  | .fwWdt => descsFwWdt
  | .clocks => descsClocks
  | .lane => descsLane
  | .sLane => descsSLane
  | .scan => descsScan
  | .port => descsPort
  | .otn => descsOtn
  | .otnPm => descsOtnPm
  | .cmWin => descsCmWin
  | .trib => descsTrib
  | .tribPm => descsTribPm
  | .sodu => descsSodu
  | .hitch => descsHitch
  | .twWin => descsTwWin
  | .hitchPort => descsHitchPort
  | .assoc => descsAssoc
  | .awWin => descsAwWin
  | .linePort => descsLinePort
  | .tm => descsTm
  | .tmWin => descsTmWin
  | .tmClient => descsTmClient
  | .tmLine => descsTmLine
  | .pipe => descsPipe
  | .cue => descsCue
  | .cwWin => descsCwWin
  | .clock => descsClock
  | .pps => descsPps
  | .syncE => descsSyncE
  | .timeClient => descsTimeClient
  | .timeLine => descsTimeLine
  | .timeSlice => descsTimeSlice
  | .vault => descsVault
  | .kwWin => descsKwWin
  | .lcWin => descsLcWin
  | .job => descsJob
  | .ke => descsKe
  | .keWin => descsKeWin
  | .kePort => descsKePort
  | .ent => descsEnt
  | .entWin => descsEntWin
  | .pair => descsPair
  | .pairStat => descsPairStat
  | .swWin => descsSwWin
  | .guard => descsGuard
  | .ddr => descsDdr
  | .range => descsRange
  | .alarm => descsAlarm
  | .almWin => descsAlmWin
  | .alWin => descsAlWin
  | .loop => descsLoop
  | .monitor => descsMonitor
  | .source => descsSource
  | .snap => descsSnap
  | .ctWin => descsCtWin
  | .tag => descsTag
  | .tgWin => descsTgWin
  | .qsWin => descsQsWin

end Sys2Proof.Machine
end

