-- ==== Sys2Proof/Machine/State.lean ====
section
/-! DEFINITION. The state of the block, chapter by chapter, as plain data; the reasons a step can stop; and the
state right after a power-on reset. Registers that the dictionary holds live in `Dict`; tables, engines, pins and
progress that no dictionary object holds have fields of their own. A per-slice table is one sparse map whose key is
`slice * 2^20 + index`. -/

namespace Sys2Proof.Machine

/-- A life-cycle transition in progress: the state that it leads to, its owner, the secrets drawn for it, and whether its
fuses are written (R363). -/
structure LcChange where
  lc : Nat
  owner : Bytes
  vs : Option Nat
  dus : Option Nat
  fused : Bool
  deriving DecidableEq, Repr

/-- The fuses and the strap pins: what no reset changes (R8, R106, R326, R360, R548, R609). Their values at reset are a
design choice (log 5). -/
structure Fuse where
  /-- `PART_CODE`: 0 = ISF-3204, 1 = ISF-2403, 2 = ISF-1602 (R8). -/
  part : Nat := 0
  /-- `TEMP_GRADE` (R8). -/
  grade : Nat := 0
  /-- `SILICON_REV` (R8). -/
  rev : Nat := 0x0100
  /-- The four hash seeds (R106). -/
  hashSeeds : Bytes := List.replicate 16 0
  /-- The fused base MAC address (R65, R509). -/
  baseMac : Nat := 0
  /-- `PCIE_IDS` (R509). -/
  pcieIds : Nat := 0
  /-- The fused modes of the module control pins (R609). -/
  mgpio : Bytes := List.replicate 6 0
  /-- The digest of the boot ROM (R333). -/
  romDigest : Bytes := List.replicate 48 0
  /-- Strap pins as driven: BOOT_SRC, CLK_MODE, PROFILE, NODE_ADDR, PAIR_HOME (R609). -/
  strapPins : Nat := 0
  /-- The device unique secret, and its 32-bit check code, held as the bits in which it differs from the one that the secret
  gives (R326). -/
  dus : Nat := 0
  dusCode : Nat := 0
  /-- `LC_STATE` in fuses: 0 BLANK, 1 VENDOR, 2 OWNED, 3 RETURNED, 4 SCRAPPED (R360). -/
  lc : Nat := 2
  /-- `TRANSFERS` used (R363). -/
  transfers : Nat := 0
  /-- The owner record in force (R363). -/
  owner : Bytes := []
  /-- The transition that is in progress (R363). -/
  change : Option LcChange := none
  /-- The fused minimum security version (R601, R607). -/
  svn : Nat := 0
  /-- The DDR that the board fits, in GiB: 4, 8 or 16 (R511, log 121). -/
  ddrFit : Nat := 8
  /-- Alarm sources disabled by fuse (R548). -/
  disabled : List Nat := []
  deriving DecidableEq, Repr

/-- The dictionary's stored objects: what differs from the object's default, keyed by index times 256 plus subindex
(R446). -/
structure Dict where
  nums : SMap Nat := []
  octs : SMap Bytes := []
  deriving DecidableEq, Repr

/-- The lanes and ports: what no object of the dictionary holds, keyed by the index low byte (R61). -/
structure Lanes where
  /-- The transmitter's own state, as `TX_STATE` encodes it; unlisted = DEEP, the default (R42). -/
  now : SMap Nat := []
  /-- The state that a transition in progress ends in (R44, R45). -/
  goal : SMap Nat := []
  /-- A write of `TX_STATE` held during a transition (R46). -/
  heldTx : SMap Nat := []
  /-- A write of `RX_STATE` held during a transition (R46). -/
  heldRx : SMap Nat := []
  /-- Pause time left in quanta: key = port low byte times 8 plus priority (R57). -/
  paused : SMap Nat := []
  /-- `DWELL_LOG2` of the scan point running on a lane (R53). -/
  dwell : SMap Nat := []
  /-- PFC or pause condition that the device signals on a port: key = port low byte times 8 plus priority (R58). -/
  pausing : SMap Nat := []
  /-- Frames that a near-end loop has turned around and the port's receiver has yet to take, oldest first, by index low
  byte; `true` = cut by an error control block (R48, R197). -/
  loop : SMap (List (Bytes × Bool)) := []
  /-- The last 32 code groups of a Tether or Halyard lane, by index low byte: bit 0 the newest, 1 = invalid (R60). -/
  groups : SMap Nat := []
  /-- The commas in succession that such a lane has received before it is aligned, with the bit phase they came at (R59). -/
  commas : SMap (Nat × Nat) := []
  deriving DecidableEq, Repr

/-- A learning request (R81): client port, VLAN ID, source MAC, learn-target SecY or none. -/
structure LearnReq where
  port : Nat
  vid : Nat
  mac : Nat
  target : Option Nat
  deriving DecidableEq, Repr

/-- The Hitch tables of the slices (chapter 03). -/
structure Hitch where
  /-- The slots: 104-bit images, keyed by slice and index; unlisted = all zeros (R72, R74). -/
  slots : SMap Nat := []
  /-- The firmware's copy of the static entries of the stored configuration, by slice and index (R76). -/
  statics : SMap Nat := []
  /-- The learning queues by slice, first in first out (R82). -/
  queue : SMap (List LearnReq) := []
  /-- The bucket that a sweep visits next; 8192 = no sweep in progress (R86). -/
  sweepPos : SMap Nat := []
  /-- The aging mode in force, and whether the sweep in progress is the first in its mode (R91). -/
  mode : SMap Nat := []
  init : SMap Bool := []
  /-- The sweep period in force, in milliseconds (R91). -/
  period : SMap Nat := []
  /-- What management wrote of late, by slice: the 8 ns period, then slot, key, and what the slot held (R95). -/
  mgmt : SMap (List (Nat × Nat × Nat × Nat)) := []
  /-- Slots that management or learning wrote of late, by slice: the 8 ns period, then the slot (R96). -/
  touched : SMap (List (Nat × Nat)) := []
  deriving DecidableEq, Repr

/-- A key-store entry (R128), with its hold (R130) and its custody record (R343). -/
structure KeyEntry where
  valid : Bool := false
  /-- KEYLEN: 256-bit key. -/
  long : Bool := false
  /-- ORIGIN: generated inside the device. -/
  generated : Bool := false
  gen : Nat := 1
  refs : Nat := 0
  h : Nat := 0
  key : Nat := 0
  /-- The entry is held after a fault: neither valid nor free (R130). -/
  held : Bool := false
  /-- The custody record, 192 bits (R343). -/
  record : Nat := 0
  deriving DecidableEq, Repr

/-- SecYs, secure channels, associations and the key stores (chapter 04), keyed by slice and index. Entry images are
the numbers that their bits spell. -/
structure Assocs where
  /-- SecY images; an entry is valid exactly when it is listed (R110, R114). -/
  secy : SMap Nat := []
  /-- Transmit SC images (R119), receive SC images (R120), SA images (R125). -/
  txsc : SMap Nat := []
  rxsc : SMap Nat := []
  sa : SMap Nat := []
  keys : SMap KeyEntry := []
  /-- The association counters (R136): table times 2^28, plus slice-and-index key times 16, plus counter. -/
  cnt : SMap Nat := []
  /-- The DELETE in progress in each slice: table and index (R144). -/
  deleting : SMap (Nat × Nat) := []
  /-- SA entries with an uncorrectable error (R130). -/
  saBad : List Nat := []
  /-- The last PN that each transmit SA assigned (R245). -/
  lastPn : SMap Nat := []
  /-- The scrubber's next key-store index, by slice (R130). -/
  scrub : SMap Nat := []
  deriving DecidableEq, Repr

/-- The timestamps of a tagged frame, as local times (R624). -/
structure TagInfo where
  /-- The record's time of entry and the epoch then (R626). -/
  t0 : Nat
  epoch : Nat
  t1 : Option Nat := none
  t2 : Option Nat := none
  t3 : Option Nat := none
  t4 : Option Nat := none
  t5 : Option Nat := none
  deriving DecidableEq, Repr

/-- A frame inside a slice (R25). Ports are index low bytes; 0xFF = none. -/
structure Frm where
  /-- The octets from the destination address through the FCS. -/
  bytes : Bytes := []
  /-- `L` (R152). -/
  len : Nat := 0
  inPort : Nat := 0xFF
  outPort : Nat := 0xFF
  /-- The slice-local port node it leaves by (R169). -/
  node : Nat := 0
  secy : Option Nat := none
  sa : Option Nat := none
  pn : Nat := 0
  tc : Nat := 0
  /-- 0 = green, 1 = yellow (R156). -/
  colour : Nat := 0
  policer : Option Nat := none
  /-- The FCS verdict: 0 good, 1 PCS error, 2 FCS error (R41). -/
  bad : Nat := 0
  /-- Ingress timestamp and its epoch (R304). -/
  stamp : Nat := 0
  epoch : Nat := 0
  /-- Time-engine nanoseconds at admission (R174). -/
  enqNs : Nat := 0
  /-- Cells held in the accounted pool, and the class that gave them: 1 reserved, 2 shared, 3 headroom (R163). -/
  cells : Nat := 0
  cls : Nat := 0
  queue : Nat := 0xFFFF
  /-- Queue `USED` at admission (R626). -/
  depth : Nat := 0
  /-- The frame goes to a sealed tributary without a MACsec layer (R67). -/
  plain : Bool := false
  ptp : Bool := false
  enc : Bool := false
  tag : Option TagInfo := none
  deriving DecidableEq, Repr

/-- The traffic managers (chapter 05). Queues, groups and admission entries are keyed by slice and pipe * 4096 + index;
port nodes by slice and pipe * 4096 + node. Bucket fills and credits are in units of 2^-20 byte. -/
structure TrafficManager where
  /-- Policer images, 224 bits (R155). -/
  policer : SMap Nat := []
  /-- Queue, group and admission images (R168). -/
  queue : SMap Nat := []
  group : SMap Nat := []
  admission : SMap Nat := []
  /-- Frames written into the buffer and not yet admitted, oldest first, by slice: SEAL pipe (R160). -/
  arriving : SMap (List Frm) := []
  /-- The frames of each queue, head first. -/
  held : SMap (List Frm) := []
  /-- Dequeued frames whose cells and tracker have not returned, oldest first, by slice and pipe (R165). -/
  leaving : SMap (List Frm) := []
  /-- S(ip, t) and H(ip, t): slice and (pipe * 8 + ingress port) * 8 + TC (R166). -/
  sharedBy : SMap Nat := []
  headBy : SMap Nat := []
  /-- Cells taken from the shared class, by slice and pipe (R160). -/
  sharedUsed : SMap Nat := []
  /-- Port-node shapers: fill and cycle of the last refill (R169). -/
  nodeTokens : SMap Int := []
  nodeLast : SMap Nat := []
  /-- Pacers: credit and cycle of its last update (R171). -/
  credit : SMap Int := []
  creditLast : SMap Nat := []
  /-- The node after which the round-robin starts, by slice and pipe (R172). -/
  served : SMap Nat := []
  /-- Rounds in order: of the groups of a node, and of the queues of a group (R172). -/
  groupRound : SMap (List Nat) := []
  queueRound : SMap (List Nat) := []
  /-- Policer counters (times 16 plus counter) and queue counters (R179). -/
  polCnt : SMap Nat := []
  queueCnt : SMap Nat := []
  /-- The sampler's next queue, by slice and pipe, and the queues whose maxima restart at the next visit (R174). -/
  samplePos : SMap Nat := []
  restart : List Nat := []
  /-- The queue-sample rings: slice, pipe and position to the 16-octet record; and the next position (R627). -/
  ring : SMap Bytes := []
  ringPos : SMap Nat := []
  deriving DecidableEq, Repr

/-- What the opening pipe has decided of a frame by the end of its ingress segment (R201, R204). -/
inductive OpenPlan where
  /-- To the firmware, counted in `OPEN_UNCONTROLLED` (R199). -/
  | firmware
  /-- Discarded, counted in the line port's device counter at this offset. -/
  | dropDevice (ctr : Nat)
  /-- Discarded, counted in the association counter of a table, index and number (R136). -/
  | dropAssoc (table i n : Nat)
  /-- Delivered without a commit, counted in an association counter; the SecY of its client port. -/
  | deliver (table i n secy : Nat)
  /-- The ICV verified: the replay check and the commit decide at release step 4; receive SC and SecY. -/
  | verified (rxsc secy : Nat)
  /-- Carried in a sealed ODU without a MACsec layer: to this client port (R67). -/
  | plain (client : Nat)
  deriving DecidableEq, Repr

/-- A frame in the verify store of an OPEN pipe (R23). -/
structure Vf where
  /-- The line port, or in OTN mode the tributary, by index low byte. -/
  port : Nat
  frm : Frm
  plan : OpenPlan
  /-- The receive SC and the SA that the fetch read (R204). -/
  rxsc : Option Nat := none
  /-- The length of the secure data (R201). -/
  secLen : Nat := 0
  /-- The learn target of the receive SC as the fetch read it, where LT_VALID was set (R81, R204). -/
  target : Option Nat := none
  /-- The image of the SecY as the fetch found it, and the AN of the frame (R204, R233). -/
  y : Option Nat := none
  an : Nat := 0
  /-- Caught by a core check (R210). -/
  caught : Bool := false
  deriving DecidableEq, Repr

/-- A core check or retest running on a pipe (R207, R212). -/
structure CoreCheck where
  /-- The position tested; unused by a retest. -/
  pos : Nat := 0
  /-- Started by `CORE_RETEST`. -/
  retest : Bool := false
  /-- The retest tests all nine cores of a stopped pipe. -/
  whole : Bool := false
  /-- Time-engine nanosecond count of step 1 (R217). -/
  start : Nat := 0
  deriving DecidableEq, Repr

/-- A dequeued frame in its egress segment (R18, R20). Cycles are core cycles of its slice. -/
structure Egress where
  frm : Frm
  /-- The octets that the MAC sends, with the FCS. -/
  bytes : Bytes
  /-- Its first word leaves the scheduler, with its first octet at block position `base` (R16). -/
  start : Nat
  base : Nat
  /-- Its first bit enters the PCS or MAC (R20). -/
  enter : Nat
  /-- The words that it occupies. -/
  words : Nat
  /-- The blocks that leave the cipher stage equal to their plaintext and have yet to reach the guard, counted from the
  start of the first word (R196). -/
  equal : List Nat := []
  /-- The blocks that a core formed wrongly, counted likewise, which the auditor has yet to come to (R205, R661). -/
  wrong : List Nat := []
  /-- The frame is cut: this many of its words left the guard stage before the first that is withheld (R197, R210). -/
  cut : Option Nat := none
  /-- The guard cut it: an error control block stands for its first withheld word (R197). -/
  tripped : Bool := false
  /-- An opened frame that has yet to enter the client MAC transmit stage, where it is corrected (R309). -/
  todo : Bool := false
  /-- What counts it when it is sent: the transmit SA and the length of its secure data (R194). -/
  count : Option (Nat × Nat) := none
  deriving DecidableEq, Repr

/-- How far the words of a pipe's segment are taken: the cycle of the last word that holds frame data, its next free
block position, and how many frames start in it (R16). -/
structure Seat where
  word : Nat := 0
  next : Nat := 0
  starts : Nat := 0
  deriving DecidableEq, Repr

/-- The sealing and opening engine (chapter 06), keyed 2 * slice + pipe where a pipe is meant. -/
structure Engine where
  /-- The frames of each egress segment, oldest first (R18, R25). -/
  egress : SMap (List Egress) := []
  /-- The words of the ingress and the egress segments: twice the pipe's key, and one more for egress (R16). -/
  seats : SMap Seat := []
  /-- The verify store of each OPEN pipe, oldest frame first (R23). -/
  verify : SMap (List Vf) := []
  /-- The core check or retest in progress. -/
  check : SMap CoreCheck := []
  /-- Positions whose checks are queued, ascending (R660). -/
  queue : SMap (List Nat) := []
  /-- The 8 ns period of the last `AUDIT_TRANSIENT`: pipe times 8 plus position (R209). -/
  transient : SMap Nat := []
  deriving DecidableEq, Repr

/-- The cue tables of the slices (chapter 07): images keyed by slice and index. -/
structure Cues where
  tx : SMap Nat := []
  trib : SMap Nat := []
  watch : SMap Nat := []
  /-- The flag that limits `CUE_PENDING` to one per arming (R229), and whether a FIRE made the trigger hold: keyed by
  slice and index, tributary cues at 4096 and above. -/
  posted : List Nat := []
  fired : List Nat := []
  /-- The core cycles, from the present period on, of the transmit switches that each slice's engine has committed (R229). -/
  commits : SMap (List Nat) := []
  /-- Log records by slice and sequence number modulo 256 (R221, R245). -/
  log : SMap Bytes := []
  /-- Tributaries whose multiframe M0 has begun since their cue entered counting (R241). -/
  begun : List Nat := []
  /-- Tributaries that send ODU-AIS since a flip found no live key (R243). -/
  faulted : List Nat := []
  deriving DecidableEq, Repr

/-- Frame and multiframe alignment of an OTUC instance or a tributary's ODU, and what persists across its frames (R256,
R257, R259, R262). -/
structure FrameLevel where
  /-- Candidate positions: position, MFAS, hits (R256). -/
  cands : List (Nat × Nat × Nat) := []
  /-- The accepted position; none = out of frame. -/
  pos : Option Nat := none
  /-- The MFAS expected next. -/
  mfas : Nat := 0
  /-- Consecutive frames with a wrong FAS, a wrong MFAS, and, while out of multiframe, an MFAS that agrees. -/
  fasBad : Nat := 0
  mfasBad : Nat := 0
  mfasGood : Nat := 0
  oom : Bool := false
  /-- The MFAS received last (R258). -/
  seen : Option Nat := none
  /-- The BIP-8 computed over the frame before, and over the one before that (R263). -/
  bip1 : Option Nat := none
  bip2 : Option Nat := none
  /-- Consecutive FlexO multiframes with another group identifier and with that of `FLEXO_GID` (R259). -/
  gidBad : Nat := 0
  gidGood : Nat := 0
  /-- The trail trace being received, the one before it, and in how many periods that one arrived (R262). -/
  tti : Bytes := []
  ttiLast : Bytes := []
  ttiReps : Nat := 0
  /-- A trail trace has been accepted. -/
  ttiAcc : Bool := false
  /-- Consecutive frames with STAT = 0b111 and without, with BDI = 1 and without; then the same of the ODUCn, which
  instance 0 carries. -/
  aisRun : Nat := 0
  noAisRun : Nat := 0
  bdiRun : Nat := 0
  noBdiRun : Nat := 0
  pmAisRun : Nat := 0
  pmNoAisRun : Nat := 0
  pmBdiRun : Nat := 0
  pmNoBdiRun : Nat := 0
  /-- The payload type last received, in how many multiframes, and the accepted one (R259). -/
  pt : Nat := 0
  ptReps : Nat := 0
  ptAcc : Option Nat := none
  /-- The MSI last received, in how many multiframes, and the accepted one (R272). -/
  msi : List Nat := []
  msiReps : Nat := 0
  msiAcc : List Nat := []
  deriving DecidableEq, Repr

/-- The header of a sealed multiframe: MFN, PHASE, KEY_INDEX and epoch word (R283). -/
structure MfHeader where
  mfn : Nat
  phase : Nat
  index : Nat
  epoch : Nat
  deriving DecidableEq, Repr

/-- The receive side of a sealed tributary (R283 to R287). -/
structure SoduRx where
  /-- The candidate in CONFIRM; the multiframe expected next in LOCKED. -/
  head : Option MfHeader := none
  /-- A tributary cue announced: NEXT_INDEX, the next epoch word, and whether the index matches (R285). -/
  ann : Option (Nat × Nat × Bool) := none
  /-- The multiframe whose tag is still to be checked: its header, and the tag computed (R286). -/
  due : Option (MfHeader × Bytes) := none
  /-- Consecutive tag failures and passes (R286). -/
  fails : Nat := 0
  passes : Nat := 0
  deriving DecidableEq, Repr

/-- The transmit side of a line carrier (R253 to R255). -/
structure Carrier where
  /-- The next block's place in the order of the carrier's lanes, between one round of markers and the next. -/
  place : Nat := 0
  /-- The scrambler: the last 58 bits sent, the newest lowest. -/
  scram : Nat := 0
  /-- Bits of the instance's stream that wait, in units of 1/21,250 bit, and words of 256 bits taken from it. -/
  due : Nat := 0
  words : Nat := 0
  /-- Bits of line time not yet filled with a block. -/
  line : Nat := 0
  deriving DecidableEq, Repr

/-- What a tributary's ODU carries in the present multiframe; none = ODU-AIS (R267, R281). -/
abbrev OduOut := Option (OduHead × Bytes × Bytes)

/-- The OTN line side (chapter 08). -/
structure Otn where
  /-- Levels by slice: instance 0 to 7, and 8 + tributary. -/
  level : SMap FrameLevel := []
  /-- Carrier lanes with block lock, by slice and slice lane (R254). -/
  locked : List Nat := []
  /-- The headers that such a lane counts: the valid ones in a row before lock, the last 64 in lock, newest first (R254). -/
  heads : SMap (List Bool) := []
  /-- How many blocks a lane's markers lie behind those of the carrier's earliest lane (R254). -/
  skew : SMap Nat := []
  /-- Carriers by slice and instance, what the ODU of each tributary carries, and the overhead that the OTUCn of each slice
  last showed (R253, R267, R272). -/
  tx : SMap Carrier := []
  sending : SMap OduOut := []
  told : SMap OtucHead := []
  /-- The calendar of cipher slots of a slice: the tributary, or 8 for the frame stream (R22). -/
  calendar : SMap (List Nat) := []
  /-- Key values, by their GHASH subkey, and EPOCHs that have sealed a multiframe together (R280). -/
  epochs : List (Nat × Nat) := []
  /-- Key values and EPOCHs that writes have given to each other (R280). -/
  given : List (Nat × Nat) := []
  /-- The BEI that the frames now sent carry: slice, and SM of instance i at 16 + i, PM of the ODUCn in instance i at 32 + i, a
  tributary at 2 + t (R261). -/
  bei : SMap Nat := []
  /-- Contexts whose MFN is already that of the next multiframe: a takeover has advanced it (R282). -/
  taken : List Nat := []
  /-- Connection-memory entries: slice, and (direction * 2 + page) * 256 + slot (R268, R269). -/
  cm : SMap Nat := []
  /-- Slices whose SWITCH waits for its boundary: the direction (R270). -/
  cmWait : SMap Nat := []
  /-- Performance counts of the second in progress: slice, and level * 4 + count; level 0 = SM, 1 = ODUCn, 2 + t a
  tributary; counts NE blocks, FE blocks, NE defect, FE defect (R263). -/
  pm : SMap Nat := []
  /-- Local nanosecond count of the last one-second edge, moved along with every step (R263, R264). -/
  edge : Nat := 0
  /-- The seconds field at the last one-second edge (R264). -/
  second : Nat := 0
  /-- The tag of the last multiframe sent (R277), and contexts whose phase key has sealed a multiframe (R280). -/
  sentTag : SMap Bytes := []
  begun : List Nat := []
  rx : SMap SoduRx := []
  /-- The client mapper's frames, oldest first, by slice and tributary: each with whether an error control block cuts it short
  (R197, R265). -/
  mapping : SMap (List (Bytes × Bool)) := []
  /-- Receive phases that hold a record of R284: slice and 2 * tributary + phase. -/
  good : List Nat := []
  deriving DecidableEq, Repr

/-- An entry of a follow-up store (R314). -/
structure FupEntry where
  /-- false = Sync awaiting Follow_Up; true = Pdelay_Resp awaiting its Follow_Up. -/
  kind : Bool
  port : Nat
  domain : Nat
  source : Bytes
  seq : Nat
  residence : Int
  /-- The 8 ns period in which the entry was written, from which AGE_MS is counted. -/
  written : Nat
  deriving DecidableEq, Repr

/-- The local clock as it ran up to a change of its rate or a step: the 8 ns period that ended it, what it would have read then,
its rate, and its `STEP_EPOCH` (R297, R300). -/
structure ClockPast where
  upTo : Nat
  now : Nat
  incr : Nat
  epoch : Nat
  deriving DecidableEq, Repr

/-- The time engine (chapter 09). -/
structure TimeEngine where
  /-- The local clock in units of 2^-32 ns: seconds, nanoseconds and fraction as one number, modulo 2^48 seconds
  (R295). -/
  now : Nat := 0
  /-- `INCR` in use (R296). -/
  incr : Nat := 0x1_9999_999A
  /-- A value of `INCR` written and not yet in effect (R297). -/
  incrNext : Option Nat := none
  /-- A step committed and not yet applied: `TIME_OP` and its operand as committed (R300). -/
  step : Option (Nat × Int) := none
  /-- `TIME_STATE` = LOCKED (R299). -/
  locked : Bool := false
  /-- The level of PPS_OUT; while it is due to rise, how far off that is, and while it is high, for how long it has been, in
  units of 2^-32 ns (R317). -/
  ppsOut : Bool := false
  ppsWait : Option Int := none
  ppsHigh : Nat := 0
  /-- Nanosecond count of the last PPS_IN capture (R318). -/
  lastPps : Option Nat := none
  /-- Core cycles of each slice since reset, counted by the idle step (R30). -/
  cycles : SMap Nat := []
  /-- The 8 ns periods that the idle step has counted: time that no step of the clock moves (R30). -/
  periods : Nat := 0
  /-- The period in which each timed condition of `Timer` began; one that is not listed began at reset. -/
  since : SMap Nat := []
  /-- What the clock was before each of its latest changes, oldest first: stamps are taken of instants that have passed
  (R304). -/
  past : List ClockPast := []
  /-- The follow-up stores, oldest entry first, by slice and pipe (R314). -/
  fup : SMap (List FupEntry) := []
  deriving DecidableEq, Repr

/-- A KEK slot with its record, and the LABEL and SERIAL of the blob that loaded it (R334, R335, R367). -/
structure KekSlot where
  valid : Bool := false
  kind : Nat := 0
  export_ : Nat := 0
  wrapOut : Bool := false
  unwrapIn : Bool := false
  from_ : Nat := 0
  gen : Nat := 1
  kek : Nat := 0
  /-- The KEK is 128 bits long: derived from a 128-bit CAK (R376). -/
  short : Bool := false
  /-- ORIGIN: formed inside this device (R357, R358). -/
  generated : Bool := false
  label : Nat := 0
  serial : Nat := 0
  deriving DecidableEq, Repr

/-- The chaining state of a lookaside job (R352 to R355). -/
structure Job where
  /-- MODE, KEY and IV as the job took them (R354). -/
  mode : Nat := 0
  key : Nat := 0
  iv : Bytes := []
  /-- The operation whose part the DMA moves: 1 START, 2 CONTINUE, 3 FINISH; 0 none. -/
  op : Nat := 0
  /-- `JOB_STATE` before that operation (R11). -/
  was : Nat := 0
  /-- AAD and data octets processed. -/
  aDone : Nat := 0
  pDone : Nat := 0
  /-- The GHASH accumulator. -/
  y : Nat := 0
  /-- Octets of input not yet processed: a partial block of a GCM job, the whole input of a KW or KWP job. -/
  part : Bytes := []
  /-- The addresses, lengths and tag that the operation took (R465). -/
  aadAddr : Nat := 0
  aadLen : Nat := 0
  src : Nat := 0
  dst : Nat := 0
  len : Nat := 0
  tag : Bytes := []
  deriving DecidableEq, Repr

/-- The key vault beside the key stores (chapter 10). -/
structure Vault where
  slots : SMap KekSlot := []
  /-- The lookaside key bank (R352). -/
  bank : SMap KeyEntry := []
  jobs : SMap Job := []
  /-- Outstanding encrypt saves (R355). -/
  tokens : List Nat := []
  /-- 8 ns periods in which `VAULT_INTEGRITY` rose within the last second (R662). -/
  integ : List Nat := []
  /-- Quotes issued since boot (R357). -/
  quotes : Nat := 0
  deriving DecidableEq, Repr

/-- What a request for random octets is for (R394, and the consumers that precede it). -/
inductive EntWho where
  /-- GENERATE: TYPE, target, wrap slot and EXPORT as it took them (R345). -/
  | generate (ty target slot export_ : Nat)
  /-- VS_RENEW (R369). -/
  | renew
  /-- A life-cycle transition into OWNED: the new OWNER_ID (R326). -/
  | transition (owner : Bytes)
  /-- The device unique secret, at the vendor step (R326). -/
  | vendor
  /-- The operation at the head of the public-key engine (R371). -/
  | pke
  /-- The SESSION and nonce of a Knot session, by its number in the model's list (R383, R384). -/
  | knot (k : Nat)
  /-- New keys of a range: a re-form, or a re-key, and whether `RG_OP` asked for it (R524, R529). -/
  | range (r : Nat) (reform asked : Bool)
  /-- `ENT_READ_OP` (R404). -/
  | read
  /-- The token of an encrypt SAVE of a job, with its KEK slot as the operation took it (R355, R465). -/
  | token (j slot : Nat)
  /-- The fresh SAK of MKA on a line index (R381). -/
  | sak (n : Nat)
  /-- The seeds of the pipes that a write of `TAG_ENABLE` turns on: who wrote, and the value (R623). -/
  | tag (who v : Nat)
  /-- The nonce of the handshake in a session entry, with the handshake's own number (R493). -/
  | hand (k serial : Nat)
  /-- A new Repertoire key for a STORE (R476). -/
  | store
  deriving DecidableEq, Repr

/-- A request that waits in line (R394). -/
structure EntReq where
  who : EntWho
  len : Nat
  /-- The 8 ns period in which it was made. -/
  at_ : Nat := 0
  deriving DecidableEq, Repr

/-- The entropy source (R390 to R397). Its state and fill are objects of 0x4600. -/
structure Entropy where
  /-- Start-up windows passed since the last start: 5 ends the start-up (R395). -/
  windows : Nat := 0
  /-- The source is stopped: DARK (R398). -/
  stopped : Bool := false
  /-- The last sample of each source and the length of its run of equal samples (R390). -/
  runs : List (Bool × Nat) := []
  /-- Released seeds that the DRBG holds unused, at most two, oldest first (R392, R393). -/
  seeds : List Bytes := []
  /-- Octets that an instantiated DRBG may still put out before it takes a fresh seed, and its Key and V (R393). -/
  budget : Option Nat := none
  key : Bytes := []
  v : Nat := 0
  /-- The output queue, and the mark of the last checkpoint (R391, R393). -/
  queue : Bytes := []
  mark : Nat := 0
  waiting : List EntReq := []
  /-- 8 ns periods of the failures of the last 60 s (R397). -/
  fails : List Nat := []
  deriving DecidableEq, Repr

/-- The operations of the public-key engine (R371): ECDH and ECDSA P-384, ML-KEM-1024, ML-DSA-65 with its KeyGen from a seed,
the verification of ML-DSA-87, and the hashes. -/
inductive PkeOp where
  | ecKeyPair | ecdh | ecSign | ecVerify | kemKeyGen | kemEncaps | kemDecaps | dsaKeyGen | dsaSign | dsaVerify | dsa87Verify | hash
  deriving DecidableEq, Repr

/-- Whom an operation of the engine serves: a Knot session, by its number in the model's list; the handshake of a session
entry, with its number (R493); and a window's operation with its inputs as it took them (R465): QUOTE of a handle with a nonce, the
measurement and the security version of the firmware that asked (R357); MIGRATE of a manifest at a level (R350); a TRANSITION by a
ticket at a level (R361); and a write of `ID_CERT`, by whom (R400). -/
inductive PkeWho where
  | knot (k : Nat)
  | hand (k serial : Nat)
  | quote (handle : Nat) (nonce meas : Bytes) (svn : Nat)
  | migrate (level : Nat) (manifest : Bytes)
  | ticket (level : Nat) (ticket : Bytes)
  | cert (who : Nat) (cert : Bytes)
  deriving DecidableEq, Repr

/-- An entry of the engine's queue: the operation; of an operation of a window, those that follow it and what those before it
have drawn. -/
structure PkeTask where
  op : PkeOp
  who : PkeWho
  rest : List PkeOp := []
  got : Bytes := []
  deriving DecidableEq, Repr

/-- An ephemeral context of the engine: the private values of the key pairs and of the encapsulation (R372). -/
structure Eph where
  ecSk : Nat := 0
  kemSk : Nat := 0
  kemR : Nat := 0
  deriving DecidableEq, Repr

/-- A CAK entry (R374). -/
structure Cak where
  valid : Bool := false
  long : Bool := false
  source : Nat := 0
  slot : Nat := 0
  cknLen : Nat := 0
  gen : Nat := 1
  ckn : Nat := 0
  ick : Nat := 0
  cak : Nat := 0
  deriving DecidableEq, Repr

/-- A pre-shared CAK as the firmware keeps it: the entry it was loaded into, its blob REWRAPped under slot 0, its CKN and the
slot asked for (R375). -/
structure CakBlob where
  entry : Nat
  blob : Bytes
  ckn : Bytes
  cknLen : Nat
  slot : Nat
  deriving DecidableEq, Repr

/-- What a Knot session does next (R384 to R388): it waits for its draw, for a message, or for operations of the
engine. -/
inductive KnotStage where
  /-- Initiator: drawing SESSION and nonce; forming the ephemeral keys; awaiting RESP; processing RESP; awaiting DONE. -/
  | drawing | keys | sentInit | checkResp | sentAuth
  /-- Initiator: the sessions of the INIT have ended; until it times out, a further peer may still answer it (R382). -/
  | answered
  /-- Responder: drawing its nonce; forming RESP; awaiting AUTH; checking AUTH; done, DONE repeated on a repeated AUTH. -/
  | nonce | formResp | sentResp | checkAuth
  deriving DecidableEq, Repr

/-- A running Knot session (R382 to R389). -/
structure Knot where
  /-- Line index 0 to 31, or 32 = the Tether (purpose 2). -/
  place : Nat
  init : Bool
  /-- Of a manager's handshake, its number in the model: one entry holds several in turn (R493). -/
  serial : Nat := 0
  /-- SESSION, and the other party's source address; none until a RESP shows it. -/
  sid : Nat := 0
  peer : Option Bytes := none
  /-- The parties that have already answered the INIT: each has, or had, a session of its own (R382). -/
  seen : List Bytes := []
  stage : KnotStage
  /-- Operations of the stage not yet completed, the first at the engine (R371). -/
  ops : List PkeOp := []
  /-- Its ephemeral context; the sessions with further peers that answer one INIT share it (R372, R382). -/
  ctx : Nat := 0
  /-- The party's nonce, and the randomness of its two signatures. -/
  nonce : Bytes := []
  sigEc : Nat := 0
  sigDsa : Nat := 0
  /-- The INIT body, the RESP body and the AUTH body. -/
  init1 : Bytes := []
  resp : Bytes := []
  auth : Bytes := []
  /-- MSG and body of the last message sent, and the times it was sent (R387). -/
  lastMsg : Nat := 0
  last : Bytes := []
  sends : Nat := 0
  /-- The 8 ns periods in which its INIT was sent or received, and in which it last sent or received a message (R387). -/
  began : Nat := 0
  heard : Nat := 0
  deriving DecidableEq, Repr

/-- A message in reassembly (R383): its place, source and header, and the segments held. -/
structure KnotParts where
  place : Nat
  src : Bytes
  ver : Nat
  msg : Nat
  segs : Nat
  sid : Nat
  got : SMap Bytes := []
  deriving DecidableEq, Repr

/-- An MKA peer: its member identifier and last message number, its SCI and priority, whether it reports the newest key, and the
8 ns period in which it was last heard (R379 to R381). -/
structure MkaPeer where
  mi : Nat
  mn : Nat := 0
  sci : Nat := 0
  prio : Nat := 255
  reported : Bool := false
  heard : Nat := 0
  deriving DecidableEq, Repr

/-- MKA on a line index (R379 to R381). -/
structure Mka where
  /-- The live peers, and the potential ones: heard of, but not yet listing this device. -/
  peers : List MkaPeer := []
  potential : List MkaPeer := []
  /-- The newest SAK: its handle, AN and transmit SA index. -/
  sak : Option (Nat × Nat × Nat) := none
  /-- This device distributes it, and its key number; a draw of a new SAK waits; its transmit cue has fired or has a time
  trigger. -/
  server : Bool := false
  kn : Nat := 0
  /-- The member identifier of the key server that distributed it. -/
  ks : Nat := 0
  drawing : Bool := false
  cued : Bool := false
  /-- A new SAK is due that could not be drawn (R381). -/
  due : Bool := false
  /-- A peer reports lowest acceptable PNs: MKPDUs are sent at the bounded hello time (R380, log 144). -/
  bounded : Bool := false
  /-- Message number of the next MKPDU. -/
  mn : Nat := 1
  deriving DecidableEq, Repr

/-- Key establishment (chapter 11). -/
structure KeyEst where
  ent : Entropy := {}
  /-- The engine's queue, in order of arrival: its head is in service, 32 operations wait in the engine, and what is beyond them the
  firmware holds back until there is room (R371, log 145). -/
  queue : List PkeTask := []
  /-- The draw of the operation at the head has been made. -/
  drawn : Option Bytes := none
  /-- The ephemeral contexts in use (R372). -/
  eph : SMap Eph := []
  cak : SMap Cak := []
  /-- What the firmware keeps of the pre-shared CAKs, by the storage area of an image slot (R375, R351). -/
  store : SMap (List CakBlob) := []
  /-- Running sessions by a number of the model's own; the next number. The Knot CAKs that a later session replaces stand
  in `retired`, each with its line index and generation, until MKA on the new CAK has a SAK in use (R388). -/
  knot : SMap Knot := []
  nextKnot : Nat := 0
  /-- Knot messages in reassembly, at most four (R383). -/
  parts : List KnotParts := []
  mka : SMap Mka := []
  retired : List (Nat × Nat × Nat) := []
  deriving DecidableEq, Repr

/-- A switch command that the home unit has taken: the unit to make active (1 = home, 2 = away), whether it was
forwarded by the away unit, and whether it has been resolved and runs (R435). -/
structure SwCommand where
  cmd : Nat
  forwarded : Bool := false
  running : Bool := false
  /-- A reversion of the wait-to-restore timer (R439). -/
  reversion : Bool := false
  deriving DecidableEq, Repr

/-- The Tether's transmitter (R412): frames that wait, with their TYPE; what is left of the frame in progress; the words since a
marker last fell due; and a marker that is due. -/
structure TetherLink where
  out : List (Nat × Bytes) := []
  cur : List CodeGroup := []
  words : Nat := 0
  due : Bool := false
  deriving DecidableEq, Repr

/-- The Understudy's own pins, timers and Tether progress (chapter 12). -/
structure Understudy where
  /-- SEL_ACT is asserted (R408), and SEL_MATE reads active (R409). -/
  selAct : Bool := false
  mate : Bool := false
  /-- The last sample of SEL_MATE was low (R409). -/
  mateLow : Bool := false
  /-- The heartbeat generator has fallen silent (R408). -/
  silent : Bool := false
  /-- Sequence numbers of Tether frames sent, by TYPE (R413), and the heartbeat number (R417). -/
  txSeq : SMap Nat := []
  hbSeq : Nat := 0
  /-- The transmitter, and the code groups by which the markers of each lane arrive after the earliest lane's (R60, R412). -/
  link : TetherLink := {}
  late : SMap Nat := []
  /-- No heartbeat has arrived since loss was declared (R418), or none has arrived yet. -/
  lost : Bool := true
  /-- The intervals without a heartbeat counted since the last one (R418). -/
  missed : Nat := 0
  /-- The last heartbeat received (R417). -/
  hb : Bytes := []
  /-- Lanes that have had LOS at the active unit only since some time (R430). -/
  losOn : List Nat := []
  /-- The first role has been taken since the last system reset (R410). -/
  settled : Bool := false
  /-- The peer's HELLO that negotiation accepted (R419); a HELLO of this unit has not been answered. -/
  peer : Bytes := []
  asked : Bool := false
  /-- The digest of this unit is to be sent, and that of the peer when it came before BULK (R437). -/
  digestDue : Bool := false
  peerDigest : Option Bytes := none
  /-- This unit's handles of mirrored keys, by the sender's (R427). -/
  handles : SMap Nat := []
  /-- The keys are to be mirrored again: the roles have changed, and the new standby knows no handle of this unit's (R427). -/
  keysDue : Bool := false
  /-- The line indexes whose CAK came from a Knot handshake: on the standby, and as last mirrored on the active unit; and those on
  which a handshake is to run again (R389). -/
  knotPorts : List Nat := []
  knotSent : List Nat := []
  knotOwed : List Nat := []
  /-- Snapshot serial of each slice on the active unit (R423). -/
  serial : SMap Nat := []
  /-- On the standby, by slice: serial of the last complete checkpoint, the period in which it was completed, and how
  many are complete since BULK (R426, R429, R438). -/
  done : SMap Nat := []
  doneAt : SMap Nat := []
  count : SMap Nat := []
  /-- The checkpoint in assembly: serial, next part, orphans so far (R426). -/
  asm : SMap (Nat × Nat × Nat) := []
  /-- Serial of the last complete checkpoint applied (R417). -/
  ack : Nat := 0
  /-- Slices whose newest complete checkpoint is older than `CKPT_MAX_AGE_MS` (R429). -/
  aged : List Nat := []
  /-- Mirroring of every live key has completed (R438). -/
  mirrored : Bool := false
  /-- A fault declared, waiting for its commit: cause, and whether heartbeats are lost (R430, R431). -/
  declared : Option (Nat × Bool) := none
  /-- The active unit yields: SEL_ACT released and transmitters idle until it is standby (R430). -/
  yielding : Bool := false
  /-- The yield answers a TAKE (R430). -/
  taken : Bool := false
  /-- The command pending or running (R435). -/
  cmd : Option SwCommand := none
  /-- Every dequeue has stopped for a commanded switch (R434). -/
  stopping : Bool := false
  /-- Sealing dequeues are held after a takeover commit (R432). -/
  sealHold : Bool := false
  /-- Client ports whose lanes have not yet reached step 5 of R44 since the commit (R432). -/
  openHold : List Nat := []
  /-- The period in which the wait-to-restore timer started (R439). -/
  wtr : Option Nat := none
  deriving DecidableEq, Repr

/-- An answer that a session is owed (R499, R500): the request's OP and REQ_ID; the answer, once it stands; and for a
TABLE that waits, its window and its result subindexes. -/
structure Owed where
  op : Nat
  id : Nat
  ready : Option (Nat × Bytes) := none
  window : Nat := 0
  results : List Nat := []
  /-- The 8 ns period in which the request was taken, and the level of a RESET (R502, R503). -/
  at_ : Nat := 0
  level : Nat := 0
  /-- The port that the request came by: its answer leaves there (R490). -/
  port : Nat := 0
  /-- The session ends with this cause once the answer has left (R498). -/
  close : Option Nat := none
  /-- What the window of a TABLE held when another operation started in it: its final status and its objects (R500). -/
  kept : Option (Nat × SMap Nat × SMap Bytes) := none
  deriving DecidableEq, Repr

/-- What waits at the arbiter: a message, a row that is one write, or a message that breaks its form, by OP and REQ_ID
(R456, R499). -/
inductive Waits where
  | msg (i : Instr)
  | row (ix sub : Nat) (v : Val)
  | bad (op id : Nat)
  deriving DecidableEq, Repr

/-- A request that waits: its session entry, the port it came by and the 8 ns period in which it came; and whether it has been answered
BUSY meanwhile (R502). -/
structure Parked where
  k : Nat
  what : Waits
  port : Nat := 0
  at_ : Nat := 0
  answered : Bool := false
  deriving DecidableEq, Repr

/-- A ring message in reassembly (R491): its session, sender, kind, segments expected, and those held by number. -/
structure RingParts where
  session : Nat
  src : Nat
  kind : Nat
  segs : Nat
  got : SMap Bytes := []
  deriving DecidableEq, Repr

/-- A profile of the Repertoire: the stored configuration of R451, and the number of the Repertoire key that sealed it
(R471, R476). -/
structure Profile where
  key : Nat := 0
  nums : SMap Nat := []
  octs : SMap Bytes := []
  secy : SMap Nat := []
  txsc : SMap Nat := []
  rxsc : SMap Nat := []
  statics : SMap Nat := []
  policer : SMap Nat := []
  queue : SMap Nat := []
  group : SMap Nat := []
  admission : SMap Nat := []
  cm : SMap Nat := []
  deriving DecidableEq, Repr

/-- The states of a session (R498). -/
inductive SessState where
  | free | handshake | open | ready | closed
  deriving DecidableEq, Repr

/-- One of the 16 sessions (R493 to R498). -/
structure Sess where
  st : SessState := .free
  /-- The SESSION number that the manager chose (R493). -/
  number : Nat := 0
  /-- The access level, fixed when the session is formed (R452). -/
  level : Nat := 0
  /-- 0 = PCIe, 1 = HALA, 2 = HALB (R509). -/
  port : Nat := 0
  /-- The peer's ring address (R491). -/
  peerAddr : Nat := 0
  /-- Expert mode (R454). -/
  expert : Bool := false
  /-- The subscription mask (R499). -/
  mask : Nat := 0
  /-- The key toward the device, and the key toward the manager (R493). -/
  kM2D : Nat := 0
  kD2M : Nat := 0
  /-- The next SEQ the device sends (R496). -/
  txSeq : Nat := 1
  /-- The highest SEQ accepted, and those seen of the 64 below it (R496). -/
  rxHigh : Nat := 0
  rxSeen : List Nat := []
  /-- Bad tags counted toward the sixteenth (R497). -/
  badTags : Nat := 0
  /-- The notification queue: event records in SEQ order (R469). -/
  queue : List Bytes := []
  /-- The next record delivered carries FLAGS[0] = 1 (R469). -/
  markNext : Bool := false
  /-- The pending `EVENTS_LOST` record, held outside the queue, and the records it counts (R469). -/
  lost : Option (Bytes × Nat) := none
  /-- The handshake in progress: the device is the responder (R493). -/
  shake : Option Knot := none
  /-- Answers owed, in the order of their requests (R499, R502). -/
  owed : List Owed := []
  /-- A RESET of this session has been accepted: later requests are discarded (R508). -/
  muted : Bool := false
  deriving DecidableEq, Repr

/-- A window's operation whose effect stands and whose completion is due: the window's index, its status object and final
status, and the result objects that change with it (R465). -/
structure Post where
  ix : Nat
  sub : Nat
  st : Nat
  nums : List (Nat × Option Nat) := []
  octs : List (Nat × Option Bytes) := []
  deriving DecidableEq, Repr

/-- The dictionary's arbiter, claims, events, sessions, ring and mailbox (chapters 13 and 14). -/
structure Access where
  /-- The holder of each claimed object group: index to session entry (R461). -/
  claims : SMap Nat := []
  /-- Sessions by entry, 0 to 15. -/
  sess : SMap Sess := []
  /-- The event log, keyed by SEQ (R470). -/
  log : SMap Bytes := []
  /-- The status objects of the windows whose operation runs (R465). -/
  running : List Nat := []
  /-- Completions due at the next period of 8 ns, oldest first (R465). -/
  posts : List Post := []
  /-- BYPASS_EN_N deasserted (R488). -/
  joined : Bool := false
  /-- Frames held in the forwarding store toward HALA and HALB, and whether each has a good FCS (R489, R490). -/
  fwdA : List (Bytes × Bool) := []
  fwdB : List (Bytes × Bool) := []
  /-- Ring messages in reassembly (R491). -/
  parts : List RingParts := []
  /-- MB_STATE[1] and the H2D buffer (R506). -/
  h2dBusy : Bool := false
  h2d : Bytes := []
  /-- MB_STATE[2], D2H_LEN and the D2H buffer (R506). -/
  d2hValid : Bool := false
  d2h : Bytes := []
  /-- Messages for the host that wait for the D2H buffer, each with the number of the session in whose queue it stands, 0 of none
  (R507). -/
  toHost : List (Nat × Bytes) := []
  /-- The profiles in QSPI flash (R471). -/
  profiles : SMap Profile := []
  /-- By firmware slot, the storage blob of the Repertoire key: its number and the storage KEK that opens it (R471,
  R351). -/
  repBlob : SMap (Nat × Nat) := []
  /-- Repertoire keys drawn so far (R476). -/
  repKeys : Nat := 0
  /-- A STORE that waits for its key: the profile number and the configuration it took (R477). -/
  storing : Option (Nat × Profile) := none
  /-- The objects that requests wrote in the present control cycle, each with the writer's port (R457). -/
  lastSet : List (Nat × Nat) := []
  /-- Requests that wait at the arbiter behind a write that has not completed, oldest first (R456, R477). -/
  parked : List Parked := []
  /-- A block of writes that waits until random octets, or a verification of the engine, are there; and those that are there
  (R460). -/
  block : Option Parked := none
  seeds : Option Bytes := none
  verified : Bool := false
  /-- The request being taken has been answered already (R502). -/
  silent : Bool := false
  /-- The profile whose load ended NOT_READY and is owed (R474). -/
  again : Option Nat := none
  deriving DecidableEq, Repr

/-- A protected range (R514, R518, R524, R529). -/
structure GRange where
  valid : Bool := false
  keyBearing : Bool := false
  coreKeep : Bool := false
  st : Nat := 0
  /-- BASE, SIZE and META_BASE in units of 2 MiB. -/
  base : Nat := 0
  size : Nat := 0
  metaBase : Nat := 0
  epoch : Nat := 0
  keyGen : Nat := 0
  /-- K_D, K_M and K_T in use. -/
  kd : Nat := 0
  km : Nat := 0
  kt : Nat := 0
  /-- While re-keying: the new K_D and K_M, and the EPOCH counted under them. -/
  kdNew : Nat := 0
  kmNew : Nat := 0
  epochNew : Nat := 0
  /-- The page that the Stagehand moves next: re-form (true) or re-key, and its index (R525, R529). -/
  split : Option (Bool × Nat) := none
  /-- Lost nodes: level and index (R529). -/
  lost : List (Nat × Nat) := []
  /-- The root store: a counter for each top-level node (R517). -/
  root : SMap Nat := []
  /-- New keys are owed: no seed was available (R524). -/
  retry : Bool := false
  deriving DecidableEq, Repr

/-- The memory guard and the DDR (chapter 15). -/
structure MemGuard where
  ranges : SMap GRange := []
  /-- DDR contents by line of 64 octets; an unlisted line holds zeros (log 7). -/
  mem : SMap Bytes := []
  /-- The counter cache, newest first: range, level, index and the line (R520). -/
  cache : List (Nat × Nat × Nat × Bytes) := []
  /-- Lines whose stored burst has more errors than its code corrects (R512). -/
  bad : List Nat := []
  /-- The burst that the patrol scrubber reads next (R512). -/
  patrol : Nat := 0
  deriving DecidableEq, Repr

/-- The alarm sources, the tamper sampler and the always-on log (chapter 16). -/
structure Alarms where
  /-- Alarms that have reached the response logic and wait for `ALARM_RESPONSE`: source, DETAIL, and whether the maintenance window
  was open when the source was raised (R549, R559, R560). -/
  raised : List (Nat × Nat × Bool) := []
  /-- The response latch of the always-on domain: 0 none, 2 HOLD, 3 CURTAIN, 4 STRIKE (R551). -/
  latch : Nat := 0
  /-- Sources whose condition holds, and sources latched since it ended (R554). -/
  active : List Nat := []
  latched : List Nat := []
  /-- An unacknowledged record of SIGNAL or above exists (R553). -/
  unacked : Bool := false
  /-- Zeroisation started by a CURTAIN or STRIKE and not yet complete: its class (R551). -/
  zeroising : Nat := 0
  /-- A CLEAR of CURTAIN or STRIKE whose system reset is due (R555). -/
  clearReset : Bool := false
  /-- The always-on log by SEQ: at most 64 records (R558). -/
  log : SMap Bytes := []
  /-- SEQ of the next always-on record (R559). -/
  seq : Nat := 0
  /-- `AO_TIME` (R559). -/
  aoTime : Nat := 0
  /-- The Vigil secret in the always-on domain; none = zeroised, empty (R326, R328). -/
  vs : Option Nat := some 0
  /-- Its 32-bit check word, held as the bits in which it differs from the one that the secret gives (R328). -/
  vsCode : Nat := 0
  /-- `AO_TIME` at which the maintenance window ends (R556). -/
  maintEnd : Option Nat := none
  /-- Both supplies were lost since the last power-up (R558). -/
  aoLost : Bool := false
  /-- Consecutive open samples of the case switches (keys 0, 1), faulted samples of the loops (keys 2 to 5), and low
  samples of VBAT (key 6) (R540 to R544). -/
  counts : SMap Nat := []
  /-- The PRBS-15 state of each loop at the end of its previous burst (R543). -/
  prbs : SMap Nat := []
  /-- The VBAT cell is present (R328, R558). -/
  cell : Bool := true
  deriving DecidableEq, Repr

/-- A change of power state or performance point in progress (R570, R572). -/
structure PowerChange where
  /-- Session entry that wrote `PWR_REQ` (16 = the firmware). -/
  who : Nat := 16
  /-- Target state: 0 ACTIVE, 1 TRIM, 2 DARK. -/
  state : Nat := 0
  /-- `PWR_REQ` before the write (R11). -/
  req : Nat := 0
  /-- Target and former performance point. -/
  point : Nat := 0
  old : Nat := 0
  /-- The slices that still have to change their clock, in order (R572). -/
  slices : List Nat := []
  /-- The regulator did not report a lowered voltage in time, and `PP_FAILED` was raised (R573). -/
  late : Bool := false
  deriving DecidableEq, Repr

/-- Power states, performance points and DARK (chapter 17). -/
structure Power where
  /-- The main domain is unpowered (R580). -/
  vigil : Bool := false
  change : Option PowerChange := none
  /-- The performance point of each slice's clock (R572). -/
  slicePt : SMap Nat := []
  /-- Entry to DARK in progress, or DARK itself; the state and point it left (R576, R579). -/
  darkEntry : Bool := false
  darkFrom : Nat := 0
  /-- A wake event latched during entry: cause and detail (R578). -/
  wake : Option (Nat × Nat) := none
  /-- A falling edge of PORST_N latched since the last sample (R577). -/
  porstFell : Bool := false
  /-- The present reading of LOS on the line lanes in DARK (R577). -/
  losNow : Nat := 0
  /-- Nanoseconds of the present state not yet counted as a whole millisecond of residency (R586). -/
  resNs : Nat := 0
  deriving DecidableEq, Repr

/-- A firmware image in a slot or in DDR (R600): its bytes, and the manifest staged after it (R605). -/
structure Slot where
  image : Bytes := []
  manifest : Bytes := []
  deriving DecidableEq, Repr

/-- Resets, power-up, boot and block-level resets (chapter 18). -/
structure Resets where
  /-- The reset gap, from a system or power-on reset to the end of configuration (R591). -/
  gap : Bool := true
  /-- The power-up step in progress, 1 to 4; 0 = waiting for the retry of R594; 5 = done. -/
  step : Nat := 1
  /-- The control cores are held in reset (R589). -/
  coresHeld : Bool := true
  /-- RSTOUT_N is low (R590). -/
  rstout : Bool := true
  /-- The straps as latched at step 1 (R595). -/
  straps : Nat := 0
  /-- Clock domains whose clock-valid flag is clear, and released blocks whose release waits for it (R593). -/
  clockOff : List Nat := []
  deferred : List Nat := []
  /-- Block-level resets running: kind times 256 plus index (R597). -/
  blocks : List Nat := []
  /-- The boot record: ACTIVE, TRY, TRIES_LEFT, STAGED, SEQ (R598). -/
  active : Nat := 0
  try_ : Nat := 0xFF
  tries : Nat := 0
  staged : Nat := 0xFF
  seq : Nat := 0
  /-- Firmware slots A (0) and B (1) (R598). -/
  slots : SMap Slot := []
  /-- The image that the boot ROM took into DDR (R599). -/
  ddr : Option Slot := none
  /-- The boot ROM waits for an image over a management path (R599, R603). -/
  waiting : Bool := false
  /-- Staging in progress: the slot (2 = DDR) and the offset the next data step must carry (R504). -/
  staging : Option (Nat × Nat) := none
  /-- `FW_REVERTED` is owed once the firmware runs: the slot abandoned (R603). -/
  reverted : Option Nat := none
  /-- Time-engine nanosecond count of the last watchdog core reset (R588). -/
  lastWdt : Option Nat := none
  /-- RESET messages accepted, their resets due: 1 core, 2 system, with the 8 ns period in which the answer left (R503). -/
  resetDue : List (Nat × Nat) := []
  /-- Module-control pins MGPIO00 to MGPIO23, 2 bits each as R592 codes them. -/
  mgpio : Nat := 0
  deriving DecidableEq, Repr

/-- Telemetry beyond the counters themselves (chapter 19). -/
structure Telemetry where
  /-- A SNAPSHOT has committed and its boundary is still to come (R619). -/
  snapDue : Bool := false
  /-- The session entry that holds the snapshot's claim. -/
  held : Bool := false
  /-- The copies made at the boundary: device counters, association counters, policer and queue counters, residency
  counters, and queue-sample rings (R619). -/
  cnt : SMap Nat := []
  asc : SMap Nat := []
  pol : SMap Nat := []
  que : SMap Nat := []
  res : SMap Nat := []
  ring : SMap Bytes := []
  ringPos : SMap Nat := []
  /-- The LFSR of each pipe, keyed 2 * slice + pipe (R623). -/
  lfsr : SMap Nat := []
  /-- The tag buffer by SEQ (R625). -/
  tags : SMap Bytes := []
  /-- `TAG_BUFFER_FULL` has been raised since the buffer was last not full (R625). -/
  fullRaised : Bool := false
  deriving DecidableEq, Repr

/-- The whole machine: what the spec gives the block, the queue of commands that wait, the model's record of outputs
and its supply of free values. -/
structure State where
  fuse : Fuse := {}
  dict : Dict := {}
  lanes : Lanes := {}
  time : TimeEngine := {}
  hitch : Hitch := {}
  asc : Assocs := {}
  eng : Engine := {}
  cue : Cues := {}
  otn : Otn := {}
  tm : TrafficManager := {}
  tel : Telemetry := {}
  acc : Access := {}
  alm : Alarms := {}
  vault : Vault := {}
  ke : KeyEst := {}
  guard : MemGuard := {}
  pair : Understudy := {}
  pwr : Power := {}
  rst : Resets := {}
  /-- The device counters of chapter 19 by number, 0x000 to 0xFFF (R611). -/
  cnt : SMap Nat := []
  /-- How many free values have been taken (log 3). -/
  free : Nat := 0
  /-- What the block has sent out, oldest first (log 2). -/
  wire : List Emission := []
  /-- The commands that wait, first in, first out. -/
  pending : List Instr := []
  deriving DecidableEq, Repr

/-- Why a step stops. No command of this block stops with a fault: every error is a status, a counter or an alarm. -/
inductive Fault where
  /-- Raised by no meaning: the specification names no condition that halts the block. Safe. -/
  | none
  deriving DecidableEq, Repr

/-- Why a command has no effect in this model. -/
inductive Refusal where
  /-- Raised by an arm of `exec` whose command has no meaning yet. Safe: the model stops. -/
  | notModelled (mnemonic : String)
  deriving DecidableEq, Repr

/-- The outcome of a step. -/
abbrev Out := Host.Outcome State Fault Refusal

/-- The machine right after a power-on reset is asserted: every object at its default, step 1 of the power-up order
in progress, nothing queued (R589, R594). -/
def State.reset : State := {}

end Sys2Proof.Machine
end

