-- ==== Sys2Proof/Machine/Store.lean ====
section
/-! DEFINITION. Sparse maps: reading, writing, and the canonical form that every write keeps. -/

namespace Sys2Proof.Machine

/-- The entry listed at `k`, if any. -/
def mfind {α : Type} : SMap α → Nat → Option α
  | [], _ => none
  | (k', v) :: t, k => if k' = k then some v else mfind t k

/-- The value at `k`, `d` where nothing is listed. -/
def mget {α : Type} (d : α) (m : SMap α) (k : Nat) : α := (mfind m k).getD d

/-- `m` with `v` listed at `k`, in key order. -/
def minsert {α : Type} : SMap α → Nat → α → SMap α
  | [], k, v => [(k, v)]
  | (k', v') :: t, k, v =>
    if k < k' then (k, v) :: (k', v') :: t
    else if k = k' then (k, v) :: t
    else (k', v') :: minsert t k v

/-- `m` with nothing listed at `k`. -/
def merase {α : Type} (m : SMap α) (k : Nat) : SMap α := m.filter (fun e => decide (e.1 ≠ k))

/-- `m` with `v` at `k`; writing the value `d` that an unlisted key reads as removes the entry. -/
def mset {α : Type} [DecidableEq α] (d : α) (m : SMap α) (k : Nat) (v : α) : SMap α :=
  if v = d then merase m k else minsert m k v

/-- The entries whose key satisfies `p` are dropped. -/
def mdrop {α : Type} (p : Nat → Bool) (m : SMap α) : SMap α := m.filter (fun e => !p e.1)

/-- The keys of `m` rise strictly. -/
def mrising {α : Type} : SMap α → Bool
  | [] => true
  | [_] => true
  | (k, _) :: (k', v') :: t => decide (k < k') && mrising ((k', v') :: t)

/-- The canonical form: keys strictly rising and no entry equal to its default. -/
def mwf {α : Type} [DecidableEq α] (d : Nat → α) (m : SMap α) : Bool :=
  mrising m && m.all (fun e => decide (e.2 ≠ d e.1))

end Sys2Proof.Machine
end

