-- ==== Sys2Proof/Machine/Subs.lean ====
section
/-! DEFINITION. The subindexes of the dictionary's objects by name, as the chapters' object tables give them. -/

namespace Sys2Proof.Machine.Sub

/-- `PART_CODE` (R8). -/
abbrev identity_PART_CODE : Nat := 0x01
/-- `TEMP_GRADE` (R8). -/
abbrev identity_TEMP_GRADE : Nat := 0x02
/-- `SLICE_MASK` (R8). -/
abbrev identity_SLICE_MASK : Nat := 0x03
/-- `SILICON_REV` (R8). -/
abbrev identity_SILICON_REV : Nat := 0x04
/-- `FW_VERSION` (R8). -/
abbrev identity_FW_VERSION : Nat := 0x05
/-- `OD_IF_VERSION` (R482). -/
abbrev identity_OD_IF_VERSION : Nat := 0x06
/-- `RP_ACTIVE` (R483). -/
abbrev rpCtl_RP_ACTIVE : Nat := 0x01
/-- `RP_STRAP` (R483). -/
abbrev rpCtl_RP_STRAP : Nat := 0x02
/-- `RP_NEXT` (R483). -/
abbrev rpCtl_RP_NEXT : Nat := 0x03
/-- `RP_VALID` (R483). -/
abbrev rpCtl_RP_VALID : Nat := 0x04
/-- `RP_DIRTY` (R483). -/
abbrev rpCtl_RP_DIRTY : Nat := 0x05
/-- `RP_LOAD_STATUS` (R483). -/
abbrev rpCtl_RP_LOAD_STATUS : Nat := 0x06
/-- `RP_PAIR_DIGEST` (R483). -/
abbrev rpCtl_RP_PAIR_DIGEST : Nat := 0x07
/-- `RP_OP` (R484). -/
abbrev rpWin_RP_OP : Nat := 0x01
/-- `RP_STATUS` (R484). -/
abbrev rpWin_RP_STATUS : Nat := 0x02
/-- `RP_INDEX` (R484). -/
abbrev rpWin_RP_INDEX : Nat := 0x03
/-- `RP_DIGEST` (R484). -/
abbrev rpWin_RP_DIGEST : Nat := 0x04
/-- `SESS_NUMBER` (R509). -/
abbrev sessSelf_SESS_NUMBER : Nat := 0x01
/-- `SESS_LEVEL` (R509). -/
abbrev sessSelf_SESS_LEVEL : Nat := 0x02
/-- `SESS_EXPERT` (R509). -/
abbrev sessSelf_SESS_EXPERT : Nat := 0x03
/-- `SESS_PORT` (R509). -/
abbrev sessSelf_SESS_PORT : Nat := 0x04
/-- `SESS_MASK` (R509). -/
abbrev sessSelf_SESS_MASK : Nat := 0x05
/-- `NODE_ADDR` (R509). -/
abbrev ring_NODE_ADDR : Nat := 0x01
/-- `HAL_BYPASS` (R509). -/
abbrev ring_HAL_BYPASS : Nat := 0x02
/-- `HAL_DA` (R509). -/
abbrev ring_HAL_DA : Nat := 0x03
/-- `HAL_SA` (R509). -/
abbrev ring_HAL_SA : Nat := 0x04
/-- `SESS_IDLE_S` (R509). -/
abbrev ring_SESS_IDLE_S : Nat := 0x05
/-- `MGR_MIN_SERIAL` (R509). -/
abbrev ring_MGR_MIN_SERIAL : Nat := 0x06
/-- `HAL_FWD_DROP` (R509). -/
abbrev ring_HAL_FWD_DROP : Nat := 0x07
/-- `HAL_BAD_FCS` (R509). -/
abbrev ring_HAL_BAD_FCS : Nat := 0x08
/-- `HAL_HOPS_EXPIRED` (R509). -/
abbrev ring_HAL_HOPS_EXPIRED : Nat := 0x09
/-- `HAL_AUTH_FAIL` (R509). -/
abbrev ring_HAL_AUTH_FAIL : Nat := 0x0A
/-- `HAL_NO_SESSION` (R509). -/
abbrev ring_HAL_NO_SESSION : Nat := 0x0B
/-- `HAL_REPLAY` (R509). -/
abbrev ring_HAL_REPLAY : Nat := 0x0C
/-- `HAL_REQUESTS` (R509). -/
abbrev ring_HAL_REQUESTS : Nat := 0x0D
/-- `PCIE_LINK` (R509). -/
abbrev pcie_PCIE_LINK : Nat := 0x01
/-- `PCIE_IDS` (R509). -/
abbrev pcie_PCIE_IDS : Nat := 0x02
/-- `MB_OVERRUN` (R509). -/
abbrev pcie_MB_OVERRUN : Nat := 0x03
/-- `SES_INFO` (R509). -/
abbrev sessInfo_SES_INFO : Nat := 0x01
/-- `EV_HEAD` (R485). -/
abbrev evCtl_EV_HEAD : Nat := 0x01
/-- `EV_DROPPED` (R485). -/
abbrev evCtl_EV_DROPPED : Nat := 0x02
/-- `ARB_OVERWRITES` (R485). -/
abbrev evCtl_ARB_OVERWRITES : Nat := 0x03
/-- `EV_OP` (R485). -/
abbrev evWin_EV_OP : Nat := 0x01
/-- `EV_STATUS` (R485). -/
abbrev evWin_EV_STATUS : Nat := 0x02
/-- `EV_SEQ` (R485). -/
abbrev evWin_EV_SEQ : Nat := 0x03
/-- `EV_RECORD` (R485). -/
abbrev evWin_EV_RECORD : Nat := 0x04
/-- `PWR_STATE` (R585). -/
abbrev power_PWR_STATE : Nat := 0x01
/-- `PWR_REQ` (R585). -/
abbrev power_PWR_REQ : Nat := 0x02
/-- `PWR_STATUS` (R585). -/
abbrev power_PWR_STATUS : Nat := 0x03
/-- `TRIM_POINT` (R585). -/
abbrev power_TRIM_POINT : Nat := 0x04
/-- `PP_NOW` (R585). -/
abbrev power_PP_NOW : Nat := 0x05
/-- `PP_PHASE` (R585). -/
abbrev power_PP_PHASE : Nat := 0x06
/-- `VDD_CORE_MV` (R585). -/
abbrev power_VDD_CORE_MV : Nat := 0x07
/-- `PP_VOLT_TIMEOUT_US` (R585). -/
abbrev power_PP_VOLT_TIMEOUT_US : Nat := 0x08
/-- `DARK_SAMPLE_US` (R585). -/
abbrev dark_DARK_SAMPLE_US : Nat := 0x01
/-- `DARK_EXP_HB` (R585). -/
abbrev dark_DARK_EXP_HB : Nat := 0x02
/-- `DARK_EXP_LOS` (R585). -/
abbrev dark_DARK_EXP_LOS : Nat := 0x03
/-- `DARK_LOS_CARE` (R585). -/
abbrev dark_DARK_LOS_CARE : Nat := 0x04
/-- `DARK_WAKE_S` (R585). -/
abbrev dark_DARK_WAKE_S : Nat := 0x05
/-- `LAST_WAKE_CAUSE` (R585). -/
abbrev dark_LAST_WAKE_CAUSE : Nat := 0x06
/-- `LAST_WAKE_DETAIL` (R585). -/
abbrev dark_LAST_WAKE_DETAIL : Nat := 0x07
/-- `RES_ACTIVE_MS` (R586). -/
abbrev residency_RES_ACTIVE_MS : Nat := 0x01
/-- `RES_TRIM_P1_MS` (R586). -/
abbrev residency_RES_TRIM_P1_MS : Nat := 0x02
/-- `RES_TRIM_P2_MS` (R586). -/
abbrev residency_RES_TRIM_P2_MS : Nat := 0x03
/-- `RES_DARK_MS` (R586). -/
abbrev residency_RES_DARK_MS : Nat := 0x04
/-- `RES_VIGIL_MS` (R586). -/
abbrev residency_RES_VIGIL_MS : Nat := 0x05
/-- `DARK_ENTRIES` (R586). -/
abbrev residency_DARK_ENTRIES : Nat := 0x06
/-- `PP_CHANGES` (R586). -/
abbrev residency_PP_CHANGES : Nat := 0x07
/-- `SLICE_POWER` (R585). -/
abbrev slicePwr_SLICE_POWER : Nat := 0x01
/-- `SLICE_POWER_NOW` (R585). -/
abbrev slicePwr_SLICE_POWER_NOW : Nat := 0x02
/-- `RESET_CAUSE` (R609). -/
abbrev rstBoot_RESET_CAUSE : Nat := 0x01
/-- `RESET_CAUSE_CLR` (R609). -/
abbrev rstBoot_RESET_CAUSE_CLR : Nat := 0x02
/-- `RESET_COUNT` (R609). -/
abbrev rstBoot_RESET_COUNT : Nat := 0x03
/-- `RST_DEFERRED` (R609). -/
abbrev rstBoot_RST_DEFERRED : Nat := 0x04
/-- `BOOT_SLOT` (R609). -/
abbrev rstBoot_BOOT_SLOT : Nat := 0x05
/-- `BOOT_FALLBACK` (R609). -/
abbrev rstBoot_BOOT_FALLBACK : Nat := 0x06
/-- `BOOT_TIME_US` (R609). -/
abbrev rstBoot_BOOT_TIME_US : Nat := 0x07
/-- `STRAPS` (R609). -/
abbrev straps_STRAPS : Nat := 0x01
/-- `MGPIO_FUSE` (R609). -/
abbrev straps_MGPIO_FUSE : Nat := 0x02
/-- `BLK_OP` (R609). -/
abbrev blkWin_BLK_OP : Nat := 0x01
/-- `BLK_STATUS` (R609). -/
abbrev blkWin_BLK_STATUS : Nat := 0x02
/-- `BLK_KIND` (R609). -/
abbrev blkWin_BLK_KIND : Nat := 0x03
/-- `BLK_INDEX` (R609). -/
abbrev blkWin_BLK_INDEX : Nat := 0x04
/-- `BLK_IDLE` (R609). -/
abbrev blkWin_BLK_IDLE : Nat := 0x05
/-- `BLK_IDLE_LINE` (R609). -/
abbrev blkWin_BLK_IDLE_LINE : Nat := 0x06
/-- `FW_ACTIVATE` (R609). -/
abbrev fwWdt_FW_ACTIVATE : Nat := 0x01
/-- `FW_COMMIT` (R609). -/
abbrev fwWdt_FW_COMMIT : Nat := 0x02
/-- `FW_TRIES` (R609). -/
abbrev fwWdt_FW_TRIES : Nat := 0x03
/-- `FW_TRY_STATE` (R609). -/
abbrev fwWdt_FW_TRY_STATE : Nat := 0x04
/-- `WDT_TIMEOUT_MS` (R609). -/
abbrev fwWdt_WDT_TIMEOUT_MS : Nat := 0x05
/-- `CLK_MODE` (R586). -/
abbrev clocks_CLK_MODE : Nat := 0x01
/-- `REFCLK_ACTIVE` (R586). -/
abbrev clocks_REFCLK_ACTIVE : Nat := 0x02
/-- `REFCLK_OK` (R586). -/
abbrev clocks_REFCLK_OK : Nat := 0x03
/-- `REFCLK_REVERT` (R586). -/
abbrev clocks_REFCLK_REVERT : Nat := 0x04
/-- `PLL_LOCK` (R586). -/
abbrev clocks_PLL_LOCK : Nat := 0x05
/-- `REFCLK_SWITCHES` (R586). -/
abbrev clocks_REFCLK_SWITCHES : Nat := 0x06
/-- `TX_STATE` (R62). -/
abbrev lane_TX_STATE : Nat := 0x01
/-- `RX_STATE` (R62). -/
abbrev lane_RX_STATE : Nat := 0x02
/-- `RATE` (R62). -/
abbrev lane_RATE : Nat := 0x03
/-- `LOOP` (R62). -/
abbrev lane_LOOP : Nat := 0x04
/-- `TX_POLARITY` (R62). -/
abbrev lane_TX_POLARITY : Nat := 0x05
/-- `RX_POLARITY` (R62). -/
abbrev lane_RX_POLARITY : Nat := 0x06
/-- `TX_FIR` (R62). -/
abbrev lane_TX_FIR : Nat := 0x07
/-- `PRBS_GEN` (R62). -/
abbrev lane_PRBS_GEN : Nat := 0x08
/-- `PRBS_CHK` (R62). -/
abbrev lane_PRBS_CHK : Nat := 0x09
/-- `PRBS_ERRORS` (R62). -/
abbrev lane_PRBS_ERRORS : Nat := 0x0A
/-- `SIGNAL_DETECT` (R62). -/
abbrev lane_SIGNAL_DETECT : Nat := 0x0B
/-- `CDR_LOCK` (R62). -/
abbrev lane_CDR_LOCK : Nat := 0x0C
/-- `RX_SNR` (R62). -/
abbrev lane_RX_SNR : Nat := 0x0D
/-- `LOS` (R62). -/
abbrev lane_LOS : Nat := 0x0E
/-- `IDLE_EXIT_NS` (R62). -/
abbrev lane_IDLE_EXIT_NS : Nat := 0x0F
/-- `TX_EFFECTIVE` (R62). -/
abbrev lane_TX_EFFECTIVE : Nat := 0x10
/-- `SIGNAL_DETECT` (R62). -/
abbrev sLane_SIGNAL_DETECT : Nat := 0x0B
/-- `LOS` (R62). -/
abbrev sLane_LOS : Nat := 0x0E
/-- `TX_EFFECTIVE` (R62). -/
abbrev sLane_TX_EFFECTIVE : Nat := 0x10
/-- `CG_ALIGNED` (R63). -/
abbrev sLane_CG_ALIGNED : Nat := 0x11
/-- `CG_ERRORS` (R63). -/
abbrev sLane_CG_ERRORS : Nat := 0x12
/-- `SCAN_CTRL` (R64). -/
abbrev scan_SCAN_CTRL : Nat := 0x01
/-- `PHASE` (R64). -/
abbrev scan_PHASE : Nat := 0x02
/-- `OFFSET` (R64). -/
abbrev scan_OFFSET : Nat := 0x03
/-- `EYE` (R64). -/
abbrev scan_EYE : Nat := 0x04
/-- `DWELL_LOG2` (R64). -/
abbrev scan_DWELL_LOG2 : Nat := 0x05
/-- `BITS` (R64). -/
abbrev scan_BITS : Nat := 0x06
/-- `ERRORS` (R64). -/
abbrev scan_ERRORS : Nat := 0x07
/-- `SCAN_STATUS` (R64). -/
abbrev scan_SCAN_STATUS : Nat := 0x08
/-- `PORT_TYPE` (R65). -/
abbrev port_PORT_TYPE : Nat := 0x01
/-- `LANE_COUNT` (R65). -/
abbrev port_LANE_COUNT : Nat := 0x02
/-- `FEC` (R65). -/
abbrev port_FEC : Nat := 0x03
/-- `ENABLE` (R65). -/
abbrev port_ENABLE : Nat := 0x04
/-- `MAX_FRAME` (R65). -/
abbrev port_MAX_FRAME : Nat := 0x05
/-- `FLOW_CTRL` (R65). -/
abbrev port_FLOW_CTRL : Nat := 0x06
/-- `PFC_ENABLE` (R65). -/
abbrev port_PFC_ENABLE : Nat := 0x07
/-- `PAUSE_QUANTA` (R65). -/
abbrev port_PAUSE_QUANTA : Nat := 0x08
/-- `PAUSE_REFRESH` (R65). -/
abbrev port_PAUSE_REFRESH : Nat := 0x09
/-- `LF_PROPAGATE` (R65). -/
abbrev port_LF_PROPAGATE : Nat := 0x0A
/-- `BOUND_LINE` (R65). -/
abbrev port_BOUND_LINE : Nat := 0x0B
/-- `LINK_STATE` (R65). -/
abbrev port_LINK_STATE : Nat := 0x0C
/-- `FEC_SER_THRESH` (R65). -/
abbrev port_FEC_SER_THRESH : Nat := 0x0D
/-- `PAUSE_SA` (R65). -/
abbrev port_PAUSE_SA : Nat := 0x0E
/-- `OTN_MODE` (R290). -/
abbrev otn_OTN_MODE : Nat := 0x01
/-- `OTUC_N` (R290). -/
abbrev otn_OTUC_N : Nat := 0x02
/-- `FLEXO_GID` (R290). -/
abbrev otn_FLEXO_GID : Nat := 0x03
/-- `TX_TTI` (R290). -/
abbrev otn_TX_TTI : Nat := 0x04
/-- `EXP_SAPI` (R290). -/
abbrev otn_EXP_SAPI : Nat := 0x05
/-- `EXP_DAPI` (R290). -/
abbrev otn_EXP_DAPI : Nat := 0x06
/-- `TIM_MODE` (R290). -/
abbrev otn_TIM_MODE : Nat := 0x07
/-- `TIM_ACT` (R290). -/
abbrev otn_TIM_ACT : Nat := 0x08
/-- `ACC_TTI` (R290). -/
abbrev otn_ACC_TTI : Nat := 0x09
/-- `DEFECTS` (R290). -/
abbrev otn_DEFECTS : Nat := 0x0A
/-- `SODU_PT` (R290). -/
abbrev otn_SODU_PT : Nat := 0x0B
/-- `FA_CAND_OVERFLOW` (R290). -/
abbrev otn_FA_CAND_OVERFLOW : Nat := 0x0C
/-- `SM_NE_EB_LAST` (R291). -/
abbrev otnPm_SM_NE_EB_LAST : Nat := 0x01
/-- `SM_FE_EB_LAST` (R291). -/
abbrev otnPm_SM_FE_EB_LAST : Nat := 0x02
/-- `SM_NE_DS_LAST` (R291). -/
abbrev otnPm_SM_NE_DS_LAST : Nat := 0x03
/-- `SM_FE_DS_LAST` (R291). -/
abbrev otnPm_SM_FE_DS_LAST : Nat := 0x04
/-- `SM_NE_EB_TOTAL` (R291). -/
abbrev otnPm_SM_NE_EB_TOTAL : Nat := 0x05
/-- `SM_FE_EB_TOTAL` (R291). -/
abbrev otnPm_SM_FE_EB_TOTAL : Nat := 0x06
/-- `SM_PM_SEQ` (R291). -/
abbrev otnPm_SM_PM_SEQ : Nat := 0x07
/-- `SM_PM_INTERVAL_NS` (R291). -/
abbrev otnPm_SM_PM_INTERVAL_NS : Nat := 0x08
/-- `PM_NE_EB_LAST` (R291). -/
abbrev otnPm_PM_NE_EB_LAST : Nat := 0x11
/-- `PM_FE_EB_LAST` (R291). -/
abbrev otnPm_PM_FE_EB_LAST : Nat := 0x12
/-- `PM_NE_DS_LAST` (R291). -/
abbrev otnPm_PM_NE_DS_LAST : Nat := 0x13
/-- `PM_FE_DS_LAST` (R291). -/
abbrev otnPm_PM_FE_DS_LAST : Nat := 0x14
/-- `PM_NE_EB_TOTAL` (R291). -/
abbrev otnPm_PM_NE_EB_TOTAL : Nat := 0x15
/-- `PM_FE_EB_TOTAL` (R291). -/
abbrev otnPm_PM_FE_EB_TOTAL : Nat := 0x16
/-- `PM_PM_SEQ` (R291). -/
abbrev otnPm_PM_PM_SEQ : Nat := 0x17
/-- `PM_PM_INTERVAL_NS` (R291). -/
abbrev otnPm_PM_PM_INTERVAL_NS : Nat := 0x18
/-- `CM_OP` (R292). -/
abbrev cmWin_CM_OP : Nat := 0x01
/-- `CM_STATUS` (R292). -/
abbrev cmWin_CM_STATUS : Nat := 0x02
/-- `CM_DIR` (R292). -/
abbrev cmWin_CM_DIR : Nat := 0x03
/-- `CM_PAGE` (R292). -/
abbrev cmWin_CM_PAGE : Nat := 0x04
/-- `CM_SLOT` (R292). -/
abbrev cmWin_CM_SLOT : Nat := 0x05
/-- `CM_ENTRY` (R292). -/
abbrev cmWin_CM_ENTRY : Nat := 0x06
/-- `CM_ACTIVE` (R292). -/
abbrev cmWin_CM_ACTIVE : Nat := 0x07
/-- `TRIB_ENABLE` (R293). -/
abbrev trib_TRIB_ENABLE : Nat := 0x01
/-- `TRIB_TYPE` (R293). -/
abbrev trib_TRIB_TYPE : Nat := 0x02
/-- `TRIB_SLOTS` (R293). -/
abbrev trib_TRIB_SLOTS : Nat := 0x03
/-- `TRIB_MODE` (R293). -/
abbrev trib_TRIB_MODE : Nat := 0x04
/-- `TX_TTI` (R293). -/
abbrev trib_TX_TTI : Nat := 0x05
/-- `EXP_SAPI` (R293). -/
abbrev trib_EXP_SAPI : Nat := 0x06
/-- `EXP_DAPI` (R293). -/
abbrev trib_EXP_DAPI : Nat := 0x07
/-- `TIM_MODE` (R293). -/
abbrev trib_TIM_MODE : Nat := 0x08
/-- `ACC_TTI` (R293). -/
abbrev trib_ACC_TTI : Nat := 0x09
/-- `DEFECTS` (R293). -/
abbrev trib_DEFECTS : Nat := 0x0A
/-- `MAC_RATE` (R293). -/
abbrev trib_MAC_RATE : Nat := 0x0B
/-- `NE_EB_LAST` (R291). -/
abbrev tribPm_NE_EB_LAST : Nat := 0x01
/-- `FE_EB_LAST` (R291). -/
abbrev tribPm_FE_EB_LAST : Nat := 0x02
/-- `NE_DS_LAST` (R291). -/
abbrev tribPm_NE_DS_LAST : Nat := 0x03
/-- `FE_DS_LAST` (R291). -/
abbrev tribPm_FE_DS_LAST : Nat := 0x04
/-- `NE_EB_TOTAL` (R291). -/
abbrev tribPm_NE_EB_TOTAL : Nat := 0x05
/-- `FE_EB_TOTAL` (R291). -/
abbrev tribPm_FE_EB_TOTAL : Nat := 0x06
/-- `PM_SEQ` (R291). -/
abbrev tribPm_PM_SEQ : Nat := 0x07
/-- `PM_INTERVAL_NS` (R291). -/
abbrev tribPm_PM_INTERVAL_NS : Nat := 0x08
/-- `CONTEXT_ID` (R294). -/
abbrev sodu_CONTEXT_ID : Nat := 0x01
/-- `ROLE` (R294). -/
abbrev sodu_ROLE : Nat := 0x02
/-- `TX_KEY_0` (R294). -/
abbrev sodu_TX_KEY_0 : Nat := 0x03
/-- `TX_KEY_1` (R294). -/
abbrev sodu_TX_KEY_1 : Nat := 0x04
/-- `TX_INDEX_0` (R294). -/
abbrev sodu_TX_INDEX_0 : Nat := 0x05
/-- `TX_INDEX_1` (R294). -/
abbrev sodu_TX_INDEX_1 : Nat := 0x06
/-- `TX_EPOCH_0` (R294). -/
abbrev sodu_TX_EPOCH_0 : Nat := 0x07
/-- `TX_EPOCH_1` (R294). -/
abbrev sodu_TX_EPOCH_1 : Nat := 0x08
/-- `TX_PHASE` (R294). -/
abbrev sodu_TX_PHASE : Nat := 0x09
/-- `TX_MFN` (R294). -/
abbrev sodu_TX_MFN : Nat := 0x0A
/-- `RX_KEY_0` (R294). -/
abbrev sodu_RX_KEY_0 : Nat := 0x0B
/-- `RX_KEY_1` (R294). -/
abbrev sodu_RX_KEY_1 : Nat := 0x0C
/-- `RX_INDEX_0` (R294). -/
abbrev sodu_RX_INDEX_0 : Nat := 0x0D
/-- `RX_INDEX_1` (R294). -/
abbrev sodu_RX_INDEX_1 : Nat := 0x0E
/-- `RX_STATE` (R294). -/
abbrev sodu_RX_STATE : Nat := 0x0F
/-- `RX_PHASE` (R294). -/
abbrev sodu_RX_PHASE : Nat := 0x10
/-- `RX_LAST_GOOD` (R294). -/
abbrev sodu_RX_LAST_GOOD : Nat := 0x11
/-- `TAG_FAIL_LIMIT` (R294). -/
abbrev sodu_TAG_FAIL_LIMIT : Nat := 0x12
/-- `TAG_GOOD_CLEAR` (R294). -/
abbrev sodu_TAG_GOOD_CLEAR : Nat := 0x13
/-- `AGE_MODE` (R106). -/
abbrev hitch_AGE_MODE : Nat := 0x01
/-- `SWEEP_PERIOD_MS` (R106). -/
abbrev hitch_SWEEP_PERIOD_MS : Nat := 0x02
/-- `AGE_TICK_MS` (R106). -/
abbrev hitch_AGE_TICK_MS : Nat := 0x03
/-- `AGE_LIMIT` (R106). -/
abbrev hitch_AGE_LIMIT : Nat := 0x04
/-- `HASH_SEEDS` (R106). -/
abbrev hitch_HASH_SEEDS : Nat := 0x05
/-- `ENTRIES_VALID` (R106). -/
abbrev hitch_ENTRIES_VALID : Nat := 0x06
/-- `ENTRIES_STATIC` (R106). -/
abbrev hitch_ENTRIES_STATIC : Nat := 0x07
/-- `LEARN_QUEUE_FILL` (R106). -/
abbrev hitch_LEARN_QUEUE_FILL : Nat := 0x08
/-- `AGE_CLOCK` (R106). -/
abbrev hitch_AGE_CLOCK : Nat := 0x09
/-- `SWEEPS_DONE` (R106). -/
abbrev hitch_SWEEPS_DONE : Nat := 0x0A
/-- `TW_OP` (R109). -/
abbrev twWin_TW_OP : Nat := 0x01
/-- `TW_STATUS` (R109). -/
abbrev twWin_TW_STATUS : Nat := 0x02
/-- `TW_PORT` (R109). -/
abbrev twWin_TW_PORT : Nat := 0x03
/-- `TW_VID` (R109). -/
abbrev twWin_TW_VID : Nat := 0x04
/-- `TW_MAC` (R109). -/
abbrev twWin_TW_MAC : Nat := 0x05
/-- `TW_SECY` (R109). -/
abbrev twWin_TW_SECY : Nat := 0x06
/-- `TW_FLAGS` (R109). -/
abbrev twWin_TW_FLAGS : Nat := 0x07
/-- `TW_INDEX` (R109). -/
abbrev twWin_TW_INDEX : Nat := 0x08
/-- `TW_AGE` (R109). -/
abbrev twWin_TW_AGE : Nat := 0x09
/-- `TW_BUCKETS` (R109). -/
abbrev twWin_TW_BUCKETS : Nat := 0x0A
/-- `TW_FLUSH_SCOPE` (R109). -/
abbrev twWin_TW_FLUSH_SCOPE : Nat := 0x0B
/-- `LOOKUP_ENABLE` (R107). -/
abbrev hitchPort_LOOKUP_ENABLE : Nat := 0x01
/-- `LEARN_ENABLE` (R107). -/
abbrev hitchPort_LEARN_ENABLE : Nat := 0x02
/-- `GROUP_SECY` (R107). -/
abbrev hitchPort_GROUP_SECY : Nat := 0x03
/-- `VID_MODE` (R107). -/
abbrev hitchPort_VID_MODE : Nat := 0x04
/-- `LEARN_LIMIT` (R107). -/
abbrev hitchPort_LEARN_LIMIT : Nat := 0x05
/-- `LEARNED_COUNT` (R107). -/
abbrev hitchPort_LEARNED_COUNT : Nat := 0x06
/-- `SECY_USED` (R147). -/
abbrev assoc_SECY_USED : Nat := 0x01
/-- `RXSC_USED` (R147). -/
abbrev assoc_RXSC_USED : Nat := 0x02
/-- `SA_USED` (R147). -/
abbrev assoc_SA_USED : Nat := 0x03
/-- `KEYS_USED` (R147). -/
abbrev assoc_KEYS_USED : Nat := 0x04
/-- `KEY_SCRUB_FAULTS` (R147). -/
abbrev assoc_KEY_SCRUB_FAULTS : Nat := 0x05
/-- `SA_ECC_FAULTS` (R147). -/
abbrev assoc_SA_ECC_FAULTS : Nat := 0x06
/-- `WINDOW_RETRIES` (R147). -/
abbrev assoc_WINDOW_RETRIES : Nat := 0x07
/-- `PN_THRESH_DEFAULT` (R147). -/
abbrev assoc_PN_THRESH_DEFAULT : Nat := 0x08
/-- `AW_OP` (R148). -/
abbrev awWin_AW_OP : Nat := 0x01
/-- `AW_STATUS` (R148). -/
abbrev awWin_AW_STATUS : Nat := 0x02
/-- `AW_TABLE` (R148). -/
abbrev awWin_AW_TABLE : Nat := 0x03
/-- `AW_INDEX` (R148). -/
abbrev awWin_AW_INDEX : Nat := 0x04
/-- `AW_DATA` (R148). -/
abbrev awWin_AW_DATA : Nat := 0x05
/-- `AW_MASK` (R148). -/
abbrev awWin_AW_MASK : Nat := 0x06
/-- `AW_SCI` (R148). -/
abbrev awWin_AW_SCI : Nat := 0x07
/-- `AW_COUNTERS` (R148). -/
abbrev awWin_AW_COUNTERS : Nat := 0x08
/-- `DEFAULT_RXSC` (R149). -/
abbrev linePort_DEFAULT_RXSC : Nat := 0x01
/-- `UNTAGGED_SECY` (R149). -/
abbrev linePort_UNTAGGED_SECY : Nat := 0x02
/-- `SEAL_SHARED_FREE` (R182). -/
abbrev tm_SEAL_SHARED_FREE : Nat := 0x01
/-- `OPEN_SHARED_FREE` (R182). -/
abbrev tm_OPEN_SHARED_FREE : Nat := 0x02
/-- `SEAL_RESERVED` (R182). -/
abbrev tm_SEAL_RESERVED : Nat := 0x03
/-- `OPEN_RESERVED` (R182). -/
abbrev tm_OPEN_RESERVED : Nat := 0x04
/-- `SAMPLE_ENABLE` (R182). -/
abbrev tm_SAMPLE_ENABLE : Nat := 0x05
/-- `TM_WINDOW_RETRIES` (R182). -/
abbrev tm_TM_WINDOW_RETRIES : Nat := 0x06
/-- `TM_OP` (R183). -/
abbrev tmWin_TM_OP : Nat := 0x01
/-- `TM_STATUS` (R183). -/
abbrev tmWin_TM_STATUS : Nat := 0x02
/-- `TM_PIPE` (R183). -/
abbrev tmWin_TM_PIPE : Nat := 0x03
/-- `TM_TABLE` (R183). -/
abbrev tmWin_TM_TABLE : Nat := 0x04
/-- `TM_INDEX` (R183). -/
abbrev tmWin_TM_INDEX : Nat := 0x05
/-- `TM_DATA` (R183). -/
abbrev tmWin_TM_DATA : Nat := 0x06
/-- `TM_MASK` (R183). -/
abbrev tmWin_TM_MASK : Nat := 0x07
/-- `TM_COUNTERS` (R183). -/
abbrev tmWin_TM_COUNTERS : Nat := 0x08
/-- `POLICER_MODE` (R184). -/
abbrev tmClient_POLICER_MODE : Nat := 0x01
/-- `POLICER_BASE` (R184). -/
abbrev tmClient_POLICER_BASE : Nat := 0x02
/-- `PCP_TO_TC` (R184). -/
abbrev tmClient_PCP_TO_TC : Nat := 0x03
/-- `DEFAULT_TC` (R184). -/
abbrev tmClient_DEFAULT_TC : Nat := 0x04
/-- `SEAL_QUEUE_BASE` (R184). -/
abbrev tmClient_SEAL_QUEUE_BASE : Nat := 0x05
/-- `OPEN_QUEUE_BASE` (R184). -/
abbrev tmClient_OPEN_QUEUE_BASE : Nat := 0x06
/-- `OVERHEAD` (R184). -/
abbrev tmClient_OVERHEAD : Nat := 0x07
/-- `SHAPE_EN` (R184). -/
abbrev tmClient_SHAPE_EN : Nat := 0x08
/-- `SHAPE_RATE` (R184). -/
abbrev tmClient_SHAPE_RATE : Nat := 0x09
/-- `SHAPE_BURST` (R184). -/
abbrev tmClient_SHAPE_BURST : Nat := 0x0A
/-- `XOFF_CELLS` (R184). -/
abbrev tmClient_XOFF_CELLS : Nat := 0x0B
/-- `XON_CELLS` (R184). -/
abbrev tmClient_XON_CELLS : Nat := 0x0C
/-- `HEADROOM_CELLS` (R184). -/
abbrev tmClient_HEADROOM_CELLS : Nat := 0x0D
/-- `HEADROOM_USED` (R184). -/
abbrev tmClient_HEADROOM_USED : Nat := 0x0E
/-- `FC_STATE` (R184). -/
abbrev tmClient_FC_STATE : Nat := 0x0F
/-- `PACER_RATE` (R184). -/
abbrev tmClient_PACER_RATE : Nat := 0x10
/-- `OVERHEAD` (R184). -/
abbrev tmLine_OVERHEAD : Nat := 0x07
/-- `SHAPE_EN` (R184). -/
abbrev tmLine_SHAPE_EN : Nat := 0x08
/-- `SHAPE_RATE` (R184). -/
abbrev tmLine_SHAPE_RATE : Nat := 0x09
/-- `SHAPE_BURST` (R184). -/
abbrev tmLine_SHAPE_BURST : Nat := 0x0A
/-- `XOFF_CELLS` (R184). -/
abbrev tmLine_XOFF_CELLS : Nat := 0x0B
/-- `XON_CELLS` (R184). -/
abbrev tmLine_XON_CELLS : Nat := 0x0C
/-- `HEADROOM_CELLS` (R184). -/
abbrev tmLine_HEADROOM_CELLS : Nat := 0x0D
/-- `HEADROOM_USED` (R184). -/
abbrev tmLine_HEADROOM_USED : Nat := 0x0E
/-- `FC_STATE` (R184). -/
abbrev tmLine_FC_STATE : Nat := 0x0F
/-- `PACER_RATE` (R184). -/
abbrev tmLine_PACER_RATE : Nat := 0x10
/-- `SEALED_LEN` (R185). -/
abbrev tmLine_SEALED_LEN : Nat := 0x11
/-- `PIPE_STATE` (R220). -/
abbrev pipe_PIPE_STATE : Nat := 0x01
/-- `CORE_ROLE` (R220). -/
abbrev pipe_CORE_ROLE : Nat := 0x02
/-- `AUDITOR_PRESENT` (R220). -/
abbrev pipe_AUDITOR_PRESENT : Nat := 0x03
/-- `AUDITS_DONE` (R220). -/
abbrev pipe_AUDITS_DONE : Nat := 0x04
/-- `AUDIT_MISMATCHES` (R220). -/
abbrev pipe_AUDIT_MISMATCHES : Nat := 0x05
/-- `GUARD_TRIPS` (R220). -/
abbrev pipe_GUARD_TRIPS : Nat := 0x06
/-- `CORE_SWAPS` (R220). -/
abbrev pipe_CORE_SWAPS : Nat := 0x07
/-- `LAST_CHECK_CYCLES` (R220). -/
abbrev pipe_LAST_CHECK_CYCLES : Nat := 0x08
/-- `TRANSIENT_WINDOW_MS` (R220). -/
abbrev pipe_TRANSIENT_WINDOW_MS : Nat := 0x09
/-- `CORE_RETEST` (R220). -/
abbrev pipe_CORE_RETEST : Nat := 0x0A
/-- `RETEST_STATUS` (R220). -/
abbrev pipe_RETEST_STATUS : Nat := 0x0B
/-- `RETIRE_MS_DEFAULT` (R249). -/
abbrev cue_RETIRE_MS_DEFAULT : Nat := 0x01
/-- `CUES_ARMED` (R249). -/
abbrev cue_CUES_ARMED : Nat := 0x02
/-- `CUES_PENDING` (R249). -/
abbrev cue_CUES_PENDING : Nat := 0x03
/-- `WATCHES_TIMING` (R249). -/
abbrev cue_WATCHES_TIMING : Nat := 0x04
/-- `CUES_FIRED` (R249). -/
abbrev cue_CUES_FIRED : Nat := 0x05
/-- `RX_RETIRED` (R249). -/
abbrev cue_RX_RETIRED : Nat := 0x06
/-- `LOG_HEAD` (R249). -/
abbrev cue_LOG_HEAD : Nat := 0x07
/-- `CW_OP` (R250). -/
abbrev cwWin_CW_OP : Nat := 0x01
/-- `CW_STATUS` (R250). -/
abbrev cwWin_CW_STATUS : Nat := 0x02
/-- `CW_TABLE` (R250). -/
abbrev cwWin_CW_TABLE : Nat := 0x03
/-- `CW_INDEX` (R250). -/
abbrev cwWin_CW_INDEX : Nat := 0x04
/-- `CW_DATA` (R250). -/
abbrev cwWin_CW_DATA : Nat := 0x05
/-- `TIME_NOW` (R322). -/
abbrev clock_TIME_NOW : Nat := 0x01
/-- `TIME_STATE` (R322). -/
abbrev clock_TIME_STATE : Nat := 0x02
/-- `INCR` (R322). -/
abbrev clock_INCR : Nat := 0x03
/-- `TIME_OP` (R322). -/
abbrev clock_TIME_OP : Nat := 0x04
/-- `STEP_TIME` (R322). -/
abbrev clock_STEP_TIME : Nat := 0x05
/-- `STEP_OFFSET_NS` (R322). -/
abbrev clock_STEP_OFFSET_NS : Nat := 0x06
/-- `TIME_STATUS` (R322). -/
abbrev clock_TIME_STATUS : Nat := 0x07
/-- `STEP_COUNT` (R322). -/
abbrev clock_STEP_COUNT : Nat := 0x08
/-- `STEP_EPOCH` (R322). -/
abbrev clock_STEP_EPOCH : Nat := 0x09
/-- `LAST_STEP_NS` (R322). -/
abbrev clock_LAST_STEP_NS : Nat := 0x0A
/-- `DISCIPLINE` (R322). -/
abbrev clock_DISCIPLINE : Nat := 0x0B
/-- `DISCIPLINE_LIMIT_NS` (R322). -/
abbrev clock_DISCIPLINE_LIMIT_NS : Nat := 0x0C
/-- `PPS_OUT_ENABLE` (R323). -/
abbrev pps_PPS_OUT_ENABLE : Nat := 0x01
/-- `PPS_OUT_WIDTH_NS` (R323). -/
abbrev pps_PPS_OUT_WIDTH_NS : Nat := 0x02
/-- `PPS_OUT_OFFSET_NS` (R323). -/
abbrev pps_PPS_OUT_OFFSET_NS : Nat := 0x03
/-- `PPS_IN_ENABLE` (R323). -/
abbrev pps_PPS_IN_ENABLE : Nat := 0x04
/-- `PPS_IN_EDGE` (R323). -/
abbrev pps_PPS_IN_EDGE : Nat := 0x05
/-- `PPS_IN_DELAY_NS` (R323). -/
abbrev pps_PPS_IN_DELAY_NS : Nat := 0x06
/-- `PPS_IN_TIME` (R323). -/
abbrev pps_PPS_IN_TIME : Nat := 0x07
/-- `PPS_IN_EPOCH` (R323). -/
abbrev pps_PPS_IN_EPOCH : Nat := 0x08
/-- `PPS_IN_COUNT` (R323). -/
abbrev pps_PPS_IN_COUNT : Nat := 0x09
/-- `PPS_IN_GLITCH` (R323). -/
abbrev pps_PPS_IN_GLITCH : Nat := 0x0A
/-- `SYNCE_SRC` (R323). -/
abbrev syncE_SYNCE_SRC : Nat := 0x01
/-- `SYNCE_SRC_BACKUP` (R323). -/
abbrev syncE_SYNCE_SRC_BACKUP : Nat := 0x02
/-- `SYNCE_FREQ` (R323). -/
abbrev syncE_SYNCE_FREQ : Nat := 0x03
/-- `SYNCE_SQUELCH` (R323). -/
abbrev syncE_SYNCE_SQUELCH : Nat := 0x04
/-- `SYNCE_ACTIVE` (R323). -/
abbrev syncE_SYNCE_ACTIVE : Nat := 0x05
/-- `TC_MODE` (R324). -/
abbrev timeClient_TC_MODE : Nat := 0x01
/-- `RX_LATENCY_NS` (R324). -/
abbrev timeClient_RX_LATENCY_NS : Nat := 0x02
/-- `TX_LATENCY_NS` (R324). -/
abbrev timeClient_TX_LATENCY_NS : Nat := 0x03
/-- `RX_LATENCY_NS` (R324). -/
abbrev timeLine_RX_LATENCY_NS : Nat := 0x02
/-- `TX_LATENCY_NS` (R324). -/
abbrev timeLine_TX_LATENCY_NS : Nat := 0x03
/-- `FUP_TIMEOUT_MS` (R325). -/
abbrev timeSlice_FUP_TIMEOUT_MS : Nat := 0x01
/-- `FUP_FILL_SEAL` (R325). -/
abbrev timeSlice_FUP_FILL_SEAL : Nat := 0x02
/-- `FUP_FILL_OPEN` (R325). -/
abbrev timeSlice_FUP_FILL_OPEN : Nat := 0x03
/-- `LC_STATE` (R366). -/
abbrev vault_LC_STATE : Nat := 0x01
/-- `TRANSFERS` (R366). -/
abbrev vault_TRANSFERS : Nat := 0x02
/-- `OWNER_ID` (R366). -/
abbrev vault_OWNER_ID : Nat := 0x03
/-- `DEVICE_ID` (R366). -/
abbrev vault_DEVICE_ID : Nat := 0x04
/-- `MEAS` (R366). -/
abbrev vault_MEAS : Nat := 0x05
/-- `SVN` (R366). -/
abbrev vault_SVN : Nat := 0x06
/-- `SVN_FLOOR` (R366). -/
abbrev vault_SVN_FLOOR : Nat := 0x07
/-- `VS_STATE` (R366). -/
abbrev vault_VS_STATE : Nat := 0x08
/-- `MIGRATE_TO` (R366). -/
abbrev vault_MIGRATE_TO : Nat := 0x09
/-- `ID_PUB` (R366). -/
abbrev vault_ID_PUB : Nat := 0x0A
/-- `ALIAS_ENDORSEMENT` (R366). -/
abbrev vault_ALIAS_ENDORSEMENT : Nat := 0x0B
/-- `KEYS_GENERATED` (R366). -/
abbrev vault_KEYS_GENERATED : Nat := 0x0C
/-- `KW_OP` (R367). -/
abbrev kwWin_KW_OP : Nat := 0x01
/-- `KW_STATUS` (R367). -/
abbrev kwWin_KW_STATUS : Nat := 0x02
/-- `KW_TYPE` (R367). -/
abbrev kwWin_KW_TYPE : Nat := 0x03
/-- `KW_TARGET` (R367). -/
abbrev kwWin_KW_TARGET : Nat := 0x04
/-- `KW_SLOT` (R367). -/
abbrev kwWin_KW_SLOT : Nat := 0x05
/-- `KW_EXPORT` (R367). -/
abbrev kwWin_KW_EXPORT : Nat := 0x06
/-- `KW_HANDLE` (R367). -/
abbrev kwWin_KW_HANDLE : Nat := 0x07
/-- `KW_BLOB` (R367). -/
abbrev kwWin_KW_BLOB : Nat := 0x08
/-- `KW_NONCE` (R367). -/
abbrev kwWin_KW_NONCE : Nat := 0x09
/-- `KW_RECORD` (R367). -/
abbrev kwWin_KW_RECORD : Nat := 0x0A
/-- `LC_OP` (R369). -/
abbrev lcWin_LC_OP : Nat := 0x01
/-- `LC_STATUS` (R369). -/
abbrev lcWin_LC_STATUS : Nat := 0x02
/-- `LC_TICKET` (R369). -/
abbrev lcWin_LC_TICKET : Nat := 0x03
/-- `JOB_OP` (R370). -/
abbrev job_JOB_OP : Nat := 0x01
/-- `JOB_STATUS` (R370). -/
abbrev job_JOB_STATUS : Nat := 0x02
/-- `JOB_STATE` (R370). -/
abbrev job_JOB_STATE : Nat := 0x03
/-- `JOB_MODE` (R370). -/
abbrev job_JOB_MODE : Nat := 0x04
/-- `JOB_KEY` (R370). -/
abbrev job_JOB_KEY : Nat := 0x05
/-- `JOB_IV` (R370). -/
abbrev job_JOB_IV : Nat := 0x06
/-- `JOB_AAD_ADDR` (R370). -/
abbrev job_JOB_AAD_ADDR : Nat := 0x07
/-- `JOB_AAD_LEN` (R370). -/
abbrev job_JOB_AAD_LEN : Nat := 0x08
/-- `JOB_SRC` (R370). -/
abbrev job_JOB_SRC : Nat := 0x09
/-- `JOB_DST` (R370). -/
abbrev job_JOB_DST : Nat := 0x0A
/-- `JOB_LEN` (R370). -/
abbrev job_JOB_LEN : Nat := 0x0B
/-- `JOB_TAG` (R370). -/
abbrev job_JOB_TAG : Nat := 0x0C
/-- `JOB_SAVE` (R370). -/
abbrev job_JOB_SAVE : Nat := 0x0D
/-- `JOB_SAVE_SLOT` (R370). -/
abbrev job_JOB_SAVE_SLOT : Nat := 0x0E
/-- `PKE_QUEUE_FILL` (R400). -/
abbrev ke_PKE_QUEUE_FILL : Nat := 0x01
/-- `PKE_OPS` (R400). -/
abbrev ke_PKE_OPS : Nat := 0x02
/-- `OWNER_ROOT_PUB` (R400). -/
abbrev ke_OWNER_ROOT_PUB : Nat := 0x03
/-- `ID_CERT` (R400). -/
abbrev ke_ID_CERT : Nat := 0x04
/-- `KNOT_TRUST` (R400). -/
abbrev ke_KNOT_TRUST : Nat := 0x05
/-- `KNOT_MIN_SVN` (R400). -/
abbrev ke_KNOT_MIN_SVN : Nat := 0x06
/-- `KNOT_MEAS_LIST` (R400). -/
abbrev ke_KNOT_MEAS_LIST : Nat := 0x07
/-- `PAIR_PEER_ID` (R400). -/
abbrev ke_PAIR_PEER_ID : Nat := 0x08
/-- `PAIR_KNOT_RUN` (R400). -/
abbrev ke_PAIR_KNOT_RUN : Nat := 0x09
/-- `PAIR_KNOT_STATE` (R400). -/
abbrev ke_PAIR_KNOT_STATE : Nat := 0x0A
/-- `KNOT_RETRY_MS` (R400). -/
abbrev ke_KNOT_RETRY_MS : Nat := 0x0B
/-- `KNOT_TIMEOUT_MS` (R400). -/
abbrev ke_KNOT_TIMEOUT_MS : Nat := 0x0C
/-- `KNOT_DA` (R400). -/
abbrev ke_KNOT_DA : Nat := 0x0D
/-- `KE_OP` (R401). -/
abbrev keWin_KE_OP : Nat := 0x01
/-- `KE_STATUS` (R401). -/
abbrev keWin_KE_STATUS : Nat := 0x02
/-- `KE_INDEX` (R401). -/
abbrev keWin_KE_INDEX : Nat := 0x03
/-- `KE_KEK_SLOT` (R401). -/
abbrev keWin_KE_KEK_SLOT : Nat := 0x04
/-- `KE_CKN` (R401). -/
abbrev keWin_KE_CKN : Nat := 0x05
/-- `KE_CKN_LEN` (R401). -/
abbrev keWin_KE_CKN_LEN : Nat := 0x06
/-- `KE_BLOB` (R401). -/
abbrev keWin_KE_BLOB : Nat := 0x07
/-- `KE_RECORD` (R401). -/
abbrev keWin_KE_RECORD : Nat := 0x08
/-- `MKA_MODE` (R402). -/
abbrev kePort_MKA_MODE : Nat := 0x01
/-- `MKA_SECY` (R402). -/
abbrev kePort_MKA_SECY : Nat := 0x02
/-- `MKA_CAK` (R402). -/
abbrev kePort_MKA_CAK : Nat := 0x03
/-- `KS_PRIORITY` (R402). -/
abbrev kePort_KS_PRIORITY : Nat := 0x04
/-- `MKA_HELLO_MS` (R402). -/
abbrev kePort_MKA_HELLO_MS : Nat := 0x05
/-- `MKA_CUE_MODE` (R402). -/
abbrev kePort_MKA_CUE_MODE : Nat := 0x06
/-- `MKA_CUE_DELAY_MS` (R402). -/
abbrev kePort_MKA_CUE_DELAY_MS : Nat := 0x07
/-- `MKA_STATE` (R402). -/
abbrev kePort_MKA_STATE : Nat := 0x08
/-- `MKA_PEERS` (R402). -/
abbrev kePort_MKA_PEERS : Nat := 0x09
/-- `KNOT_MODE` (R402). -/
abbrev kePort_KNOT_MODE : Nat := 0x0A
/-- `KNOT_RUN` (R402). -/
abbrev kePort_KNOT_RUN : Nat := 0x0B
/-- `KNOT_STATE` (R402). -/
abbrev kePort_KNOT_STATE : Nat := 0x0C
/-- `KNOT_LAST` (R402). -/
abbrev kePort_KNOT_LAST : Nat := 0x0D
/-- `ENT_STATE` (R403). -/
abbrev ent_ENT_STATE : Nat := 0x01
/-- `ENT_QUEUE_FILL` (R403). -/
abbrev ent_ENT_QUEUE_FILL : Nat := 0x02
/-- `ENT_WAIT_US` (R403). -/
abbrev ent_ENT_WAIT_US : Nat := 0x03
/-- `ENT_RETRY_LIMIT` (R403). -/
abbrev ent_ENT_RETRY_LIMIT : Nat := 0x04
/-- `ENT_FAILURES` (R403). -/
abbrev ent_ENT_FAILURES : Nat := 0x05
/-- `ENT_LAST_FAIL` (R403). -/
abbrev ent_ENT_LAST_FAIL : Nat := 0x06
/-- `ENT_FLUSHED_BYTES` (R403). -/
abbrev ent_ENT_FLUSHED_BYTES : Nat := 0x07
/-- `ENT_SEEDS` (R403). -/
abbrev ent_ENT_SEEDS : Nat := 0x08
/-- `ENT_READ_OP` (R404). -/
abbrev entWin_ENT_READ_OP : Nat := 0x01
/-- `ENT_READ_LEN` (R404). -/
abbrev entWin_ENT_READ_LEN : Nat := 0x02
/-- `ENT_READ_STATUS` (R404). -/
abbrev entWin_ENT_READ_STATUS : Nat := 0x03
/-- `ENT_READ_DATA` (R404). -/
abbrev entWin_ENT_READ_DATA : Nat := 0x04
/-- `PAIR_ENABLE` (R443). -/
abbrev pair_PAIR_ENABLE : Nat := 0x01
/-- `WTR_S` (R443). -/
abbrev pair_WTR_S : Nat := 0x02
/-- `CKPT_MAX_AGE_MS` (R443). -/
abbrev pair_CKPT_MAX_AGE_MS : Nat := 0x03
/-- `LOS_COMPARE_US` (R443). -/
abbrev pair_LOS_COMPARE_US : Nat := 0x04
/-- `ALONE_WAIT_MS` (R443). -/
abbrev pair_ALONE_WAIT_MS : Nat := 0x05
/-- `PAIR_STRAP` (R444). -/
abbrev pairStat_PAIR_STRAP : Nat := 0x01
/-- `ROLE` (R444). -/
abbrev pairStat_ROLE : Nat := 0x02
/-- `PAIR_STATE` (R444). -/
abbrev pairStat_PAIR_STATE : Nat := 0x03
/-- `PAIR_STATUS` (R444). -/
abbrev pairStat_PAIR_STATUS : Nat := 0x04
/-- `TETHER_VERSION` (R444). -/
abbrev pairStat_TETHER_VERSION : Nat := 0x05
/-- `PEER_VERSION` (R444). -/
abbrev pairStat_PEER_VERSION : Nat := 0x06
/-- `CKPT_AGE_US` (R444). -/
abbrev pairStat_CKPT_AGE_US : Nat := 0x07
/-- `SWITCHES` (R444). -/
abbrev pairStat_SWITCHES : Nat := 0x08
/-- `LAST_CAUSE` (R444). -/
abbrev pairStat_LAST_CAUSE : Nat := 0x09
/-- `LAST_COMMIT_NS` (R444). -/
abbrev pairStat_LAST_COMMIT_NS : Nat := 0x0A
/-- `WTR_LEFT_S` (R444). -/
abbrev pairStat_WTR_LEFT_S : Nat := 0x0B
/-- `HB_MISSED` (R444). -/
abbrev pairStat_HB_MISSED : Nat := 0x0C
/-- `TTH_BAD_FRAMES` (R444). -/
abbrev pairStat_TTH_BAD_FRAMES : Nat := 0x0D
/-- `CKPT_REFUSED` (R444). -/
abbrev pairStat_CKPT_REFUSED : Nat := 0x0E
/-- `CKPT_ORPHANS` (R444). -/
abbrev pairStat_CKPT_ORPHANS : Nat := 0x0F
/-- `SW_CMD` (R445). -/
abbrev swWin_SW_CMD : Nat := 0x01
/-- `SW_STATUS` (R445). -/
abbrev swWin_SW_STATUS : Nat := 0x02
/-- `MG_RANGES_USED` (R537). -/
abbrev guard_MG_RANGES_USED : Nat := 0x01
/-- `STAGEHAND_SHARE` (R537). -/
abbrev guard_STAGEHAND_SHARE : Nat := 0x02
/-- `EPOCH_REKEY_AT` (R537). -/
abbrev guard_EPOCH_REKEY_AT : Nat := 0x03
/-- `MG_READ_MISSES` (R537). -/
abbrev guard_MG_READ_MISSES : Nat := 0x04
/-- `MG_CTR_HITS` (R537). -/
abbrev guard_MG_CTR_HITS : Nat := 0x05
/-- `MG_PAGE_REENC` (R537). -/
abbrev guard_MG_PAGE_REENC : Nat := 0x06
/-- `MG_INTEGRITY` (R537). -/
abbrev guard_MG_INTEGRITY : Nat := 0x07
/-- `MG_POISON_READS` (R537). -/
abbrev guard_MG_POISON_READS : Nat := 0x08
/-- `MG_POISON_WRITES` (R537). -/
abbrev guard_MG_POISON_WRITES : Nat := 0x09
/-- `MG_BLOCKED` (R537). -/
abbrev guard_MG_BLOCKED : Nat := 0x0A
/-- `MG_LOST_READS` (R537). -/
abbrev guard_MG_LOST_READS : Nat := 0x0B
/-- `DDR_SPEED` (R538). -/
abbrev ddr_DDR_SPEED : Nat := 0x01
/-- `DDR_SPEED_RUN` (R538). -/
abbrev ddr_DDR_SPEED_RUN : Nat := 0x02
/-- `DDR_SIZE` (R538). -/
abbrev ddr_DDR_SIZE : Nat := 0x03
/-- `DDR_TRAIN_STATUS` (R538). -/
abbrev ddr_DDR_TRAIN_STATUS : Nat := 0x04
/-- `DDR_CE` (R538). -/
abbrev ddr_DDR_CE : Nat := 0x05
/-- `DDR_UE` (R538). -/
abbrev ddr_DDR_UE : Nat := 0x06
/-- `DDR_SCRUB_H` (R538). -/
abbrev ddr_DDR_SCRUB_H : Nat := 0x07
/-- `RG_INFO` (R539). -/
abbrev range_RG_INFO : Nat := 0x01
/-- `RG_OP` (R539). -/
abbrev range_RG_OP : Nat := 0x02
/-- `RG_STATUS` (R539). -/
abbrev range_RG_STATUS : Nat := 0x03
/-- `RG_LOST_NODES` (R539). -/
abbrev range_RG_LOST_NODES : Nat := 0x04
/-- `RESPONSE` (R562). -/
abbrev alarm_RESPONSE : Nat := 0x01
/-- `ALARM_N_STATE` (R562). -/
abbrev alarm_ALARM_N_STATE : Nat := 0x02
/-- `SOURCES_ACTIVE` (R562). -/
abbrev alarm_SOURCES_ACTIVE : Nat := 0x03
/-- `TAMPER_DEBOUNCE` (R562). -/
abbrev alarm_TAMPER_DEBOUNCE : Nat := 0x04
/-- `MAINT_LEFT_S` (R562). -/
abbrev alarm_MAINT_LEFT_S : Nat := 0x05
/-- `AO_LOG_HEAD` (R562). -/
abbrev alarm_AO_LOG_HEAD : Nat := 0x06
/-- `AO_LOG_LOST` (R562). -/
abbrev alarm_AO_LOG_LOST : Nat := 0x07
/-- `AO_TIME` (R562). -/
abbrev alarm_AO_TIME : Nat := 0x08
/-- `ALM_OP` (R563). -/
abbrev almWin_ALM_OP : Nat := 0x01
/-- `ALM_STATUS` (R563). -/
abbrev almWin_ALM_STATUS : Nat := 0x02
/-- `ALM_SOURCE` (R563). -/
abbrev almWin_ALM_SOURCE : Nat := 0x03
/-- `ALM_ARG` (R563). -/
abbrev almWin_ALM_ARG : Nat := 0x04
/-- `AL_OP` (R564). -/
abbrev alWin_AL_OP : Nat := 0x01
/-- `AL_STATUS` (R564). -/
abbrev alWin_AL_STATUS : Nat := 0x02
/-- `AL_SEQ` (R564). -/
abbrev alWin_AL_SEQ : Nat := 0x03
/-- `AL_RECORD` (R564). -/
abbrev alWin_AL_RECORD : Nat := 0x04
/-- `LOOP_MODE` (R565). -/
abbrev loop_LOOP_MODE : Nat := 0x01
/-- `LOOP_RMIN_OHM` (R565). -/
abbrev loop_LOOP_RMIN_OHM : Nat := 0x02
/-- `LOOP_RMAX_OHM` (R565). -/
abbrev loop_LOOP_RMAX_OHM : Nat := 0x03
/-- `LOOP_R_LAST` (R565). -/
abbrev loop_LOOP_R_LAST : Nat := 0x04
/-- `TEMP_WARN_C` (R566). -/
abbrev monitor_TEMP_WARN_C : Nat := 0x01
/-- `TEMP_CRIT_C` (R566). -/
abbrev monitor_TEMP_CRIT_C : Nat := 0x02
/-- `TEMP_LOW_C` (R566). -/
abbrev monitor_TEMP_LOW_C : Nat := 0x03
/-- `TEMP_NOW_C` (R566). -/
abbrev monitor_TEMP_NOW_C : Nat := 0x04
/-- `SRC_CLASS` (R567). -/
abbrev source_SRC_CLASS : Nat := 0x01
/-- `SRC_STATE` (R567). -/
abbrev source_SRC_STATE : Nat := 0x02
/-- `SRC_COUNT` (R567). -/
abbrev source_SRC_COUNT : Nat := 0x03
/-- `SRC_LAST_NS` (R567). -/
abbrev source_SRC_LAST_NS : Nat := 0x04
/-- `SNAP_STATE` (R629). -/
abbrev snap_SNAP_STATE : Nat := 0x01
/-- `SNAP_SEQ` (R629). -/
abbrev snap_SNAP_SEQ : Nat := 0x02
/-- `SNAP_TIME` (R629). -/
abbrev snap_SNAP_TIME : Nat := 0x03
/-- `SNAP_HOLD_MAX_S` (R629). -/
abbrev snap_SNAP_HOLD_MAX_S : Nat := 0x04
/-- `SNAP_OP` (R629). -/
abbrev ctWin_SNAP_OP : Nat := 0x01
/-- `CT_OP` (R629). -/
abbrev ctWin_CT_OP : Nat := 0x02
/-- `CT_STATUS` (R629). -/
abbrev ctWin_CT_STATUS : Nat := 0x03
/-- `CT_FIRST` (R629). -/
abbrev ctWin_CT_FIRST : Nat := 0x04
/-- `CT_COUNT` (R629). -/
abbrev ctWin_CT_COUNT : Nat := 0x05
/-- `CT_DATA` (R629). -/
abbrev ctWin_CT_DATA : Nat := 0x06
/-- `TAG_ENABLE` (R629). -/
abbrev tag_TAG_ENABLE : Nat := 0x01
/-- `TAG_LOG2` (R629). -/
abbrev tag_TAG_LOG2 : Nat := 0x02
/-- `TAG_FULL_MODE` (R629). -/
abbrev tag_TAG_FULL_MODE : Nat := 0x03
/-- `TAG_HEAD` (R629). -/
abbrev tag_TAG_HEAD : Nat := 0x04
/-- `TAG_FILL` (R629). -/
abbrev tag_TAG_FILL : Nat := 0x05
/-- `TG_OP` (R629). -/
abbrev tgWin_TG_OP : Nat := 0x01
/-- `TG_STATUS` (R629). -/
abbrev tgWin_TG_STATUS : Nat := 0x02
/-- `TG_SEQ` (R629). -/
abbrev tgWin_TG_SEQ : Nat := 0x03
/-- `TG_RECORD` (R629). -/
abbrev tgWin_TG_RECORD : Nat := 0x04
/-- `QS_OP` (R629). -/
abbrev qsWin_QS_OP : Nat := 0x01
/-- `QS_STATUS` (R629). -/
abbrev qsWin_QS_STATUS : Nat := 0x02
/-- `QS_PIPE` (R629). -/
abbrev qsWin_QS_PIPE : Nat := 0x03
/-- `QS_FIRST` (R629). -/
abbrev qsWin_QS_FIRST : Nat := 0x04
/-- `QS_DATA` (R629). -/
abbrev qsWin_QS_DATA : Nat := 0x05

end Sys2Proof.Machine.Sub
end

