-- ==== Sys2Proof/Machine/Ops.lean ====
section
/-! DEFINITION. The operations that every chapter uses: objects of the dictionary, counters, events (R467 to R470),
alarms (R546, R554), free values, and the arbiter's checks of a write (R458). -/

namespace Sys2Proof.Machine

/-! ### The dictionary -/

/-- The key of an object: its index and subindex (R446). -/
def okey (ix sub : Nat) : Nat := ix * 256 + sub

/-- The row of an object's table, if the object is assigned (R447). -/
def descOf (ix sub : Nat) : Option Desc := ((setOf ix).map descsOf).getD [] |>.find? (fun d => d.sub == sub)

/-- `a` plus `n`, as a 48-bit MAC address. -/
def macPlus (a n : Nat) : Bytes := be 6 (a + n)

/-- The default of a numeric object (R449), where the table gives a number, a fuse or the grade; `LF_PROPAGATE` reads 0 on
line ports (R65). -/
def dfltNum (f : Fuse) (ix sub : Nat) : Nat :=
  if ix = 0 ∧ sub = Sub.identity_PART_CODE then f.part
  else if ix = 0 ∧ sub = Sub.identity_TEMP_GRADE then f.grade
  else if ix = 0 ∧ sub = Sub.identity_SLICE_MASK then (if f.part = 0 then 0x0F else if f.part = 1 then 0x07 else 0x03)
  else if ix = 0 ∧ sub = Sub.identity_SILICON_REV then f.rev
  else if ix = 0x0202 ∧ sub = Sub.pcie_PCIE_IDS then f.pcieIds
  else if ix = 0x4C20 ∧ sub = Sub.monitor_TEMP_WARN_C then (if f.grade = 0 then 105 else 100)
  else if ix = 0x4C20 ∧ sub = Sub.monitor_TEMP_CRIT_C then (if f.grade = 0 then 120 else 115)
  else if ix = 0x4C20 ∧ sub = Sub.monitor_TEMP_LOW_C then (if f.grade = 0 then ofInt 4 (-55) else ofInt 4 (-15))
  else if 0x1440 ≤ ix ∧ ix < 0x1480 ∧ sub = Sub.port_LF_PROPAGATE then 0
  else if 0x4D00 ≤ ix ∧ ix < 0x4E00 ∧ sub = Sub.source_SRC_CLASS then ((sourceInfo (ix - 0x4D00)).map (·.1)).getD 0
  else ((descOf ix sub).map (·.dflt)).getD 0

/-- The default of an octet object (R449). One fused value of `HASH_SEEDS` serves all four slices: DESIGN CHOICE (log 124). -/
def dfltOct (f : Fuse) (ix sub : Nat) : Bytes :=
  if 0x1400 ≤ ix ∧ ix < 0x1480 ∧ sub = Sub.port_PAUSE_SA then macPlus f.baseMac (ix - 0x1400)
  else if ix = 0x0201 ∧ sub = Sub.ring_HAL_SA then macPlus f.baseMac 0x7E
  else if 0x2000 ≤ ix ∧ ix < 0x2400 ∧ ix % 0x100 = 0 ∧ sub = Sub.hitch_HASH_SEEDS then f.hashSeeds
  else if ix = 0x0501 ∧ sub = Sub.straps_MGPIO_FUSE then f.mgpio
  else ((descOf ix sub).map (·.dfltO)).getD []

/-- The stored value of a numeric object. -/
def State.ob (s : State) (ix sub : Nat) : Nat := mget (dfltNum s.fuse ix sub) s.dict.nums (okey ix sub)

/-- The stored value of an octet object. -/
def State.oct (s : State) (ix sub : Nat) : Bytes := mget (dfltOct s.fuse ix sub) s.dict.octs (okey ix sub)

/-- Write a numeric object. -/
def State.put (ix sub v : Nat) (s : State) : State :=
  { s with dict := { s.dict with nums := mset (dfltNum s.fuse ix sub) s.dict.nums (okey ix sub) v } }

/-- Write an octet object. -/
def State.putO (ix sub : Nat) (v : Bytes) (s : State) : State :=
  { s with dict := { s.dict with octs := mset (dfltOct s.fuse ix sub) s.dict.octs (okey ix sub) v } }

/-- Write a value of either kind. -/
def State.putV (ix sub : Nat) (v : Val) (s : State) : State :=
  match v with
  | .num n => s.put ix sub n
  | .oct b => s.putO ix sub b

/-- Raise a numeric object by `n`, wrapping at `2 ^ w`. -/
def State.addOb (ix sub w n : Nat) (s : State) : State := s.put ix sub ((s.ob ix sub + n) % 2 ^ w)

/-- A signed object of `k` octets. -/
def State.obInt (s : State) (k ix sub : Nat) : Int := toInt k (s.ob ix sub)

/-- A Boolean object or flag. -/
def State.obB (s : State) (ix sub : Nat) : Bool := s.ob ix sub != 0

/-- The key of entry `i` of slice `sl` in a per-slice table. -/
def skey (sl i : Nat) : Nat := sl * 2 ^ 20 + i

/-! ### Where the objects sit (R61, R105, R146, R181, R219, R247, R289, R321, R399) -/

namespace Ix

/-- A lane, by index low byte. -/
abbrev lane (m : Nat) : Nat := 0x1000 + m
/-- The eye scan of a lane. -/
abbrev scan (m : Nat) : Nat := 0x1100 + m
/-- A port, by index low byte. -/
abbrev port (m : Nat) : Nat := 0x1400 + m
/-- The OTN sets of a slice, `o` as R289 gives. -/
abbrev otn (sl o : Nat) : Nat := 0x1800 + 0x100 * sl + o
/-- The Hitch sets of a slice. -/
abbrev hitch (sl o : Nat) : Nat := 0x2000 + 0x100 * sl + o
/-- The association sets of a slice. -/
abbrev assoc (sl o : Nat) : Nat := 0x2800 + 0x100 * sl + o
/-- The traffic-manager sets of a slice. -/
abbrev tm (sl o : Nat) : Nat := 0x3000 + 0x100 * sl + o
/-- A pipe of a slice: 0 SEAL, 1 OPEN. -/
abbrev pipe (sl p : Nat) : Nat := 0x3400 + 0x100 * sl + p
/-- The cue sets of a slice. -/
abbrev cue (sl o : Nat) : Nat := 0x3800 + 0x80 * sl + o
/-- The client port timing objects, by port number 0 to 31. -/
abbrev timeClient (n : Nat) : Nat := 0x3A10 + n
/-- The line port timing objects. -/
abbrev timeLine (n : Nat) : Nat := 0x3A40 + n
/-- The key-establishment port objects, by line port number. -/
abbrev kePort (n : Nat) : Nat := 0x4410 + n

end Ix

/-! ### Counters, outputs, free values -/

/-- Raise the device counter with this number by one, wrapping at 2^64 (R611). -/
def State.bump (c : Nat) (s : State) : State := { s with cnt := mset 0 s.cnt c ((mget 0 s.cnt c + 1) % 2 ^ 64) }

/-- Raise a device counter by `n` (R611). -/
def State.bumpBy (c n : Nat) (s : State) : State := { s with cnt := mset 0 s.cnt c ((mget 0 s.cnt c + n) % 2 ^ 64) }

/-- Send or drive something outward. -/
def State.emit (e : Emission) (s : State) : State := { s with wire := s.wire ++ [e] }

/-- Take a free number: the value the spec leaves open (log 3). -/
def State.takeFree (s : State) : Nat × State := (Config.freeNat s.free, { s with free := s.free + 1 })

/-- Take `len` free octets (log 3). -/
def State.takeFreeBytes (len : Nat) (s : State) : Bytes × State :=
  (Config.freeBytes s.free len, { s with free := s.free + 1 })

/-- The slices that the part enables (R3, R8). -/
def State.sliceOn (s : State) (sl : Nat) : Bool := decide (sl < 4) && bit (s.ob 0 Sub.identity_SLICE_MASK) sl

/-- The time-engine nanosecond count (R295). -/
def State.ns (s : State) : Nat := s.time.now / 2 ^ 32 % 2 ^ 64

/-! ### Elapsed time -/

namespace Timer

/-- The conditions whose age a rule bounds. By session entry: a request was last accepted (R498), a NOTIFY last sent (R501). -/
abbrev idle (k : Nat) : Nat := k
abbrev notify (k : Nat) : Nat := 0x10 + k
/-- By line index: an MKPDU was last sent (R380). -/
abbrev mka (n : Nat) : Nat := 0x20 + n
/-- By port and class: a pause or PFC frame was last sent (R58). By lane: a scan point began (R53); LOS came to be at the active unit only
(R430); code groups have been aligned (R488). -/
abbrev pause (k : Nat) : Nat := 0x2000 + k
abbrev scan (m : Nat) : Nat := 0x200 + m
abbrev los (m : Nat) : Nat := 0x300 + m
abbrev aligned (m : Nat) : Nat := 0x400 + m
/-- By port and priority: a pause time was received (R57). -/
abbrev paused (k : Nat) : Nat := 0x1000 + k
/-- A watch began to time (R233). -/
abbrev retire (sl i : Nat) : Nat := 0x100000 * (sl + 1) + i
/-- A heartbeat was sent (R416) or received (R418); a HELLO (R419) or a checkpoint (R423) was sent; a takeover was
committed (R432). -/
abbrev beat : Nat := 0x500
abbrev heard : Nat := 0x501
abbrev hello : Nat := 0x503
abbrev ckpt : Nat := 0x504
abbrev commit : Nat := 0x505
/-- A CLEAR asked for a reset (R555); a voltage target was sent (R573); entry to DARK began (R577); the sampler ran (R577). -/
abbrev clear : Nat := 0x506
abbrev volt : Nat := 0x507
abbrev dark : Nat := 0x508
abbrev sample : Nat := 0x509
/-- The firmware started (R588); a step of the power-up order began (R594); configuration ended, or the boot ROM began to wait
(R488); a snapshot was taken (R621); a RESET was answered (R503). -/
abbrev boot : Nat := 0x50A
abbrev step : Nat := 0x50B
abbrev config : Nat := 0x50C
abbrev snap : Nat := 0x50D
abbrev reset : Nat := 0x50E
/-- The Stagehand moved a page (R526); the patrol scrubber read a burst (R512); a range asked for a seed (R524). -/
abbrev page : Nat := 0x50F
abbrev patrol : Nat := 0x510
/-- A core reset was asserted (R590); the PLLs moved to the other reference input (R581). -/
abbrev core : Nat := 0x511
abbrev ref : Nat := 0x512
/-- SEL_MATE was sampled low, and read inactive (R409); a fault was declared (R431); HANDOVER arrived (R434). -/
abbrev mate : Nat := 0x513
abbrev mateOff : Nat := 0x514
abbrev declared : Nat := 0x515
abbrev handover : Nat := 0x516
abbrev seed (r : Nat) : Nat := 0x520 + r
/-- By slice and level: it went out of frame or came in frame (0), out of multiframe or in (1); by slice: a group lane was last lost
(R259). -/
abbrev frame (sl i k : Nat) : Nat := 0x3000 + 32 * sl + 2 * i + k
abbrev loss (sl : Nat) : Nat := 0x3080 + sl
/-- By slice: the age clock's interval began (R89), a sweep began (R91). -/
abbrev age (sl : Nat) : Nat := 0x3090 + sl
abbrev sweep (sl : Nat) : Nat := 0x30A0 + sl

end Timer

/-- A timed condition begins now. -/
def State.mark (k : Nat) (s : State) : State :=
  { s with time := { s.time with since := minsert s.time.since k s.time.periods } }

/-- `ns` nanoseconds have passed since period `t` of 8 ns. -/
def State.gone (s : State) (t ns : Nat) : Bool := decide (8 * t + ns ≤ 8 * s.time.periods)

/-- A timed condition has held for `ns` nanoseconds. -/
def State.past (s : State) (k ns : Nat) : Bool := s.gone (mget 0 s.time.since k) ns

/-! ### Events (R467 to R470) -/

/-- A session entry. -/
def State.sessAt (s : State) (k : Nat) : Sess := mget {} s.acc.sess k

/-- Write a session entry. -/
def State.putSess (k : Nat) (x : Sess) (s : State) : State :=
  { s with acc := { s.acc with sess := mset {} s.acc.sess k x } }

/-- The 32-octet record of an event (R467). -/
def eventRecord (code slice seq ns : Nat) (items : Bytes) : Bytes :=
  be 2 code ++ be 1 slice ++ [0] ++ be 4 seq ++ be 8 ns ++ padTo 16 items

/-- Form an event's record with a time: it takes the next SEQ and goes to the log, which keeps the last 1,024 (R467,
R470). -/
def State.logEventAt (ns code slice : Nat) (items : Bytes) (s : State) : Bytes × State :=
  let seq := s.ob 0x0300 Sub.evCtl_EV_HEAD
  let r := eventRecord code slice seq ns items
  (r, ({ s with acc := { s.acc with log := minsert (merase s.acc.log ((seq + 2 ^ 32 - 1024) % 2 ^ 32)) seq r } } :
        State).addOb 0x0300 Sub.evCtl_EV_HEAD 32 1)

/-- Form an event's record with the present time. -/
def State.logEvent (code slice : Nat) (items : Bytes) (s : State) : Bytes × State := s.logEventAt s.ns code slice items

/-- Put a record into a session's notification queue, dropping the oldest of 256 (R469). -/
def State.notify (k : Nat) (r : Bytes) (s : State) : State :=
  let x := s.sessAt k
  if x.queue.length < 256 then s.putSess k { x with queue := x.queue ++ [r] }
  else
    let q := x.queue.drop 1 ++ [r]
    match x.lost with
    | some (l, n) => s.putSess k { x with queue := q, markNext := true, lost := some (l, n + 1) }
    | none =>
      let (l, t) := s.logEvent 0x0102 0xFF (be 4 1)
      t.putSess k { x with queue := q, markNext := true, lost := some (l, 1) }

/-- The session entry receives notifications (R498, R501). -/
def Sess.live (x : Sess) : Bool := x.st == .open || x.st == .ready

/-- `n` events raised while the control cores are held in reset are counted and not delivered; each takes its SEQ, so that a gap shows
the loss (R470). -/
def State.eventsLost (n : Nat) (s : State) : State :=
  (s.addOb 0x0300 Sub.evCtl_EV_DROPPED 32 n).addOb 0x0300 Sub.evCtl_EV_HEAD 32 n
abbrev State.eventLost (s : State) : State := s.eventsLost 1

/-- Raise an event: counted as dropped while the control cores are held, otherwise logged and queued for every session
whose mask holds its group (R469, R470). -/
def State.raiseAt (ns code slice : Nat) (items : Bytes) (s : State) : State :=
  if s.rst.coresHeld then s.eventLost
  else
    let (r, t) := s.logEventAt ns code slice items
    (List.range 16).foldl
      (fun u k => if (u.sessAt k).live && bit (u.sessAt k).mask (code / 256) then u.notify k r else u) t

/-- Raise an event now. -/
def State.raise (code slice : Nat) (items : Bytes) (s : State) : State := s.raiseAt s.ns code slice items

/-- Raise an event for one session alone (R463, R469). -/
def State.raiseTo (k code slice : Nat) (items : Bytes) (s : State) : State :=
  if s.rst.coresHeld then s.eventLost
  else
    let (r, t) := s.logEvent code slice items
    t.notify k r

/-! ### Alarms (R546, R554) -/

/-- The power state that R546 watches: 0 = ACTIVE, TRIM or the reset gap, 1 = DARK, 2 = VIGIL. -/
def State.watchState (s : State) : Nat :=
  if s.pwr.vigil then 2 else if s.ob 0x0400 Sub.power_PWR_STATE = 2 then 1 else 0

/-- The source is watched in the present state and its disable fuse is whole (R546, R548). -/
def State.watched (s : State) (src : Nat) : Bool :=
  match sourceInfo src with
  | none => false
  | some (_, _, w) => decide (s.watchState ≤ w) && !s.fuse.disabled.contains src

/-- The source has a condition that is watched while it lasts: a tamper input or a monitor (R540 to R544). Any other is an event, over
as it is raised (R554, log 122). -/
def monitored (src : Nat) : Bool := decide (src < 0x0F)

/-- A source is raised: it becomes active, or latched where its condition does not last, is counted, and reaches the response logic (R549, R554); during entry to DARK it is a latched wake event (R578). -/
def State.alarm (src detail : Nat) (s : State) : State :=
  if s.watched src then
    (({ s with
        alm := { s.alm with
          raised := s.alm.raised ++ [(src, detail, s.alm.maintEnd.isSome)]
          active := if !monitored src || s.alm.active.contains src then s.alm.active else s.alm.active ++ [src]
          latched := s.alm.latched.filter (fun x => x != src) ++ (if monitored src then [] else [src]) }
        pwr := { s.pwr with wake := if s.pwr.darkEntry ∧ s.pwr.wake = none then some (4, src) else s.pwr.wake } } :
          State).addOb
      (0x4D00 + src) Sub.source_SRC_COUNT 32 1).put (0x4D00 + src) Sub.source_SRC_LAST_NS s.ns
  else s

/-! ### The arbiter's checks (R458) -/

/-- The level of a caller (R452), none before HELLO completes (R480); the firmware stands above every level (R464). -/
def State.levelOf (s : State) : Caller → Nat
  | .session k => if (s.sessAt k).st == .ready then (s.sessAt k).level else 0
  | .firmware => 9

/-- The caller may write Expert objects (R454). -/
def State.expertOf (s : State) : Caller → Bool
  | .session k => (s.sessAt k).expert
  | .firmware => true

/-- The writes whose chapter says that they need a claim of their group: those of the event-log window, the block-reset window and the
windows of the telemetry chapter, where `SNAP_OP` has a check of its own (R485, R609, R619, R629, log 19). -/
def claimNeeded (ix sub : Nat) : Bool :=
  [0x0301, 0x0502, 0x5003, 0x5004].contains ix || (ix == 0x5001 && sub != Sub.ctWin_SNAP_OP)

/-- The group is claimed by a session other than the caller (R458, R464), or the write needs the caller's own claim. -/
def State.claimedAgainst (s : State) (c : Caller) (ix sub : Nat) : Bool :=
  match c, mfind s.acc.claims ix with
  | .session k, some h => h != k
  | .session _, none => claimNeeded ix sub
  | .firmware, _ => false

/-- The index belongs to a slice that the part disables (R5). -/
def State.indexOff (s : State) (ix : Nat) : Bool :=
  match sliceOf ix with
  | some sl => !s.sliceOn sl
  | none => false

/-- A value fits an object's type and range (R448). -/
def fitsType (ty : ObjType) (v : Val) : Bool :=
  match ty, v with
  | .uint size lo hi, .num n => decide (n < 256 ^ size) && decide (lo ≤ n) && decide (n ≤ hi)
  | .oneOf size rs, .num n => decide (n < 256 ^ size) && rs.any (fun r => decide (r.1 ≤ n) && decide (n ≤ r.2))
  | .sint size lo hi, .num n => decide (n < 256 ^ size) && decide (lo ≤ toInt size n) && decide (toInt size n ≤ hi)
  | .bool, .num n => decide (n < 2)
  | .enum codes, .num n => codes.contains n
  | .handle, .num n => decide (n < 2 ^ 32)
  | .octets k, .oct b => b.length == k
  | .octetsUpTo k, .oct b => decide (b.length ≤ k)
  | _, _ => false

/-- The level a write needs: the object's own, or for a window's operation the level of the operation (R453, R477,
R369, R563, R435). -/
def writeLevel (ix sub : Nat) (v : Val) (d : Desc) : Nat :=
  match setOf ix, v with
  | some .rpWin, .num n => if sub = Sub.rpWin_RP_OP ∧ (n = 2 ∨ n = 3 ∨ n = 5) then 2 else d.wr
  | some .keWin, .num n => if sub = Sub.keWin_KE_OP ∧ n = 1 then 2 else d.wr
  | some .almWin, .num n => if sub = Sub.almWin_ALM_OP ∧ 2 ≤ n then 2 else d.wr
  | _, _ => d.wr

/-- The checks of R458 that precede the chapter's own, in order. -/
def State.writeCheck (s : State) (c : Caller) (ix sub : Nat) (v : Val) : Status :=
  if s.indexOff ix then .range
  else match descOf ix sub with
    | none => if sub = 0 ∧ (setOf ix).isSome then .denied else .range
    | some d =>
      if d.ro then .denied
      else if s.levelOf c < writeLevel ix sub v d then .denied
      else if d.expert && !s.expertOf c then .denied
      else if s.claimedAgainst c ix sub then .claimed
      else if fitsType d.ty v then .ok
      else .range

/-- Report the completion of a write. -/
def State.complete (c : Caller) (ix sub : Nat) (st : Status) (s : State) : State := s.emit (.done c.entry ix sub st)

/-- A write completes in a later step: its completion is reported, and the request that made it is answered with it
(R458, R499). -/
def State.finish (who ix sub : Nat) (st : Status) (s : State) : State :=
  let s := s.emit (.done who ix sub st)
  if who < 16 then
    let x := s.sessAt who
    let owed := x.owed.map (fun o => if o.op ≠ 6 ∧ o.window = ix ∧ o.ready = none then { o with ready := some (st.code, []) } else o)
    if owed = x.owed then s else s.putSess who { x with owed := owed }
  else s

/-- A write of an object: the checks of R458, then the chapter's own checks and effect `act`. A write whose status is
not OK changes nothing that it addresses (R11). -/
def objectWrite (c : Caller) (ix sub : Nat) (v : Val) (act : State → State × Status) (s : State) : State × Status :=
  match s.writeCheck c ix sub v with
  | .ok => act s
  | st => (s, st)

/-- The window's operation runs: its status object reads BUSY and it has not completed (R465, log 15). -/
def State.winBusy (s : State) (ix stSub : Nat) : Bool := s.acc.running.contains (okey ix stSub)

/-! ### The arbiter (R456, R457, R477) -/

/-- A write that a session made and that completes later: of `TAG_ENABLE`, in the line for random octets, or of `ID_CERT`, in the
engine's queue. A `PWR_REQ` is taken once the change has begun: others are refused BUSY while it runs (R570). -/
def EntWho.late : EntWho → Bool
  | .tag who _ => decide (who < 16)
  | _ => false
def PkeWho.late : PkeWho → Bool
  | .cert who _ => decide (who < 16)
  | _ => false

/-- A LOAD runs: `RP_STATUS` of the Repertoire window reads BUSY (R477). -/
def State.loadRuns (s : State) : Bool :=
  s.winBusy 0x0101 Sub.rpWin_RP_STATUS && s.ob 0x0101 Sub.rpWin_RP_OP == 2

/-- A STORE runs: `RP_STATUS` of the Repertoire window reads BUSY (R477). -/
def State.storeRuns (s : State) : Bool :=
  s.acc.storing.isSome || (s.winBusy 0x0101 Sub.rpWin_RP_STATUS && s.ob 0x0101 Sub.rpWin_RP_OP == 1)

/-- A write that the arbiter has taken has not completed: it takes no other before (R456). -/
def State.arbHeld (s : State) : Bool :=
  s.storeRuns || s.acc.block.isSome || s.ke.ent.waiting.any (fun q => q.who.late) || s.ke.queue.any (fun t => t.who.late)

/-- A write of a caller waits at the arbiter: that of a session, behind one that has not completed or others that wait. The firmware's own
do not pass through the arbiter (R456, R477). -/
def State.writeWaits (s : State) (c : Caller) : Bool :=
  match c with
  | .session _ => s.arbHeld || s.acc.parked != []
  | .firmware => false

/-- Put a write of a caller at the end of the line, or let it act. -/
def orWait (c : Caller) (ix sub : Nat) (v : Val) (act : State → State) (s : State) : State :=
  if s.writeWaits c then
    { s with acc := { s.acc with parked := s.acc.parked ++
        [{ k := c.entry, what := .row ix sub v, port := (s.sessAt c.entry).port, at_ := s.time.periods }] } }
  else act s

/-- The objects that the requests of a control cycle have written, each with the port of its writer (R457); the firmware's accesses are
none of them. -/
def State.noteCycle (c : Caller) (l : List Nat) (s : State) : State :=
  match c with
  | .session k => { s with acc := { s.acc with lastSet := l.map (fun n => (n, (s.sessAt k).port)) } }
  | .firmware => s

/-- A row that is one write: the write, and its completion. -/
def rowWrite (c : Caller) (ix sub : Nat) (v : Val) (act : State → State × Status) : State → State :=
  orWait c ix sub v (fun s =>
    let r := objectWrite c ix sub v act s
    (r.1.noteCycle c (if r.2 = .ok then [okey ix sub] else [])).complete c ix sub r.2)

/-- A row that is a write that may complete in a later step: its completion, when it has one now. -/
def rowLate (c : Caller) (ix sub_ : Nat) (v : Val) (act : State → State × Option Status) : State → State :=
  orWait c ix sub_ v (fun s =>
    match s.writeCheck c ix sub_ v with
    | .ok =>
      (match act s with
       | (t, some st) => (t.noteCycle c (if st = .ok then [okey ix sub_] else [])).complete c ix sub_ st
       | (t, none) => t.noteCycle c [okey ix sub_])
    | st => (s.noteCycle c []).complete c ix sub_ st)

/-- A window's operation completes with a final status (R465). -/
def State.winEnd (ix stSub : Nat) (st : Status) (s : State) : State :=
  ({ s with acc := { s.acc with running := s.acc.running.filter (· != okey ix stSub) } } : State).put ix stSub st.code

/-- A window's operation starts and does not complete in this step (R465). -/
def State.winRun (ix stSub : Nat) (s : State) : State :=
  ({ s with acc := { s.acc with running := s.acc.running ++ [okey ix stSub] } } : State).put ix stSub Status.busy.code

/-! An operation acts in the step of its start. Its status reads BUSY and its result objects keep what they held until the
next period of 8 ns, which posts them together (R465, log 15). -/

/-- The entries of one index that differ between two stores: the key, and what the second lists there. -/
def storeDiff {α : Type} [DecidableEq α] (ix : Nat) (a b : SMap α) : List (Nat × Option α) :=
  ((a ++ b).filter (fun x => x.1 / 256 == ix && mfind a x.1 != mfind b x.1)).map (fun x => (x.1, mfind b x.1))

/-- Entries put into a store. -/
def storeApply {α : Type} (l : List (Nat × Option α)) (m : SMap α) : SMap α :=
  l.foldl (fun a x => match x.2 with
    | some v => minsert a x.1 v
    | none => merase a x.1) m

/-- The final status of an operation that acted from `s` to `t` and the results in its window are held back. -/
def State.holdBack (ix stSub : Nat) (st : Status) (s t : State) : State :=
  let p : Post := { ix := ix, sub := stSub, st := st.code, nums := storeDiff ix s.dict.nums t.dict.nums,
                    octs := storeDiff ix s.dict.octs t.dict.octs }
  let d : Dict := { nums := storeApply (storeDiff ix t.dict.nums s.dict.nums) t.dict.nums
                    octs := storeApply (storeDiff ix t.dict.octs s.dict.octs) t.dict.octs }
  ({ t with dict := d, acc := { t.acc with posts := t.acc.posts ++ [p] } } : State).winRun ix stSub

/-- One completion is posted. -/
def State.postOne (s : State) (p : Post) : State :=
  ({ s with
      dict := { nums := storeApply p.nums s.dict.nums, octs := storeApply p.octs s.dict.octs }
      acc := { s.acc with running := s.acc.running.filter (· != okey p.ix p.sub) } } : State).put p.ix p.sub p.st

/-- Every completion that is due is posted. -/
def State.post (s : State) : State :=
  s.acc.posts.foldl State.postOne { s with acc := { s.acc with posts := [] } }

/-- A TABLE of the window has completed and its answer has not yet been formed. -/
def Owed.unread (ix : Nat) (o : Owed) : Bool := o.op == 6 && o.window == ix && o.ready == none && o.kept == none

/-- A session is owed the answer of such a TABLE. -/
def State.unread (s : State) (ix : Nat) : Bool := s.acc.sess.any (fun x => x.2.owed.any (Owed.unread ix))

/-- Before another operation starts in a window, such a TABLE keeps the final status and the results of its own (R500). -/
def keepOwed (ix stSub : Nat) (s : State) : State :=
  if s.unread ix then
    let kept := (s.ob ix stSub, s.dict.nums.filter (fun x => x.1 / 256 == ix), s.dict.octs.filter (fun x => x.1 / 256 == ix))
    { s with acc := { s.acc with sess := s.acc.sess.map (fun x =>
        (x.1, { x.2 with owed := x.2.owed.map (fun o => if o.unread ix then { o with kept := some kept } else o) })) } }
  else s

/-- A window's operation (R465): refused BUSY while one runs; otherwise its inputs are taken as they stand, `act` runs,
and its status and results are due. -/
def windowOp (ix opSub stSub code : Nat) (act : State → State × Status) (s : State) : State × Status :=
  if s.winBusy ix stSub then (s, .busy)
  else
    let s := (keepOwed ix stSub s).put ix opSub code
    let r := act s
    (s.holdBack ix stSub r.2 r.1, .ok)

/-- As `windowOp`, for an operation that may complete later still (`none`). -/
def windowStart (ix opSub stSub code : Nat) (act : State → State × Option Status) (s : State) : State × Status :=
  if s.winBusy ix stSub then (s, .busy)
  else
    let s := (keepOwed ix stSub s).put ix opSub code
    match act s with
    | (t, some st) => (s.holdBack ix stSub st t, .ok)
    | (t, none) => (t.winRun ix stSub, .ok)

/-- An access of a window's operation that the datapath delays is counted in a 32-bit object; whether one was is a free value
(R140, R176, log 32). -/
def State.retry (ix sub : Nat) (r : State × Status) : State × Status :=
  (r.1.takeFree.2.addOb ix sub 32 (r.1.takeFree.1 % 2), r.2)

/-- A row that is the start of a window's operation by a caller. -/
def rowWindow (c : Caller) (ix opSub stSub code : Nat) (act : State → State × Status) (s : State) : State :=
  rowWrite c ix opSub (.num code) (windowOp ix opSub stSub code act) s

/-- As `rowWindow`, for an operation that may complete in a later step. -/
def rowWindowStart (c : Caller) (ix opSub stSub code : Nat) (act : State → State × Option Status) (s : State) : State :=
  rowWrite c ix opSub (.num code) (windowStart ix opSub stSub code act) s

end Sys2Proof.Machine
end

