-- ==== Sys2Proof/Machine/Lanes.lean ====
section
/-! DEFINITION. Lanes and Ethernet ports (chapter 02): what R32 lets a lane send, the transmitter and receiver states,
ports and their checks, patterns, eye scans and link faults. -/

namespace Sys2Proof.Machine

/-! ### The conditions of R32 -/

/-- The slice of a lane or port, by index low byte (R12). -/
def sliceOfPort (m : Nat) : Nat := m % 0x20 / 8

/-- A lane or port of the line side. -/
def isLine (m : Nat) : Bool := decide (0x40 ≤ m)

/-- The unit is in DARK or entering it past the drain (R576). -/
def State.dark (s : State) : Bool := s.pwr.darkEntry || s.ob 0x0400 Sub.power_PWR_STATE == 2

/-- The unit is one of a pair and does not drive its outputs: standby, or SEL_ACT released (R406, R408). -/
def State.standby (s : State) : Bool :=
  s.obB 0x4800 Sub.pair_PAIR_ENABLE && (!s.obB 0x4801 Sub.pairStat_ROLE || !s.pair.selAct)

/-- The slice is gated or changing (R575). -/
def State.gated (s : State) (sl : Nat) : Bool := s.ob (0x0410 + sl) Sub.slicePwr_SLICE_POWER_NOW != 0

/-- A block-level reset of this kind and index runs (R597). -/
def State.blockHeld (s : State) (kind i : Nat) : Bool := s.rst.blocks.contains (kind * 256 + i)

/-- A block is back in reset for want of its clock, or its release is deferred: clock domain 0 (core) by slice, 2 (lane)
by index low byte (R593, log 14). -/
def State.clockHeld (s : State) (dom i : Nat) : Bool := s.rst.deferred.contains (dom * 256 + i)

/-- R32 requires electrical idle on every lane of the slice. -/
def State.sliceIdle (s : State) (sl : Nat) : Bool :=
  s.rst.gap || !s.sliceOn sl || s.pwr.vigil || s.dark || s.standby || s.gated sl || s.blockHeld 0 sl
    || s.clockHeld 0 sl

/-- The number of lanes of a port (R35). -/
def State.laneCount (s : State) (m : Nat) : Nat := s.ob (Ix.port m) Sub.port_LANE_COUNT

/-- A port is enabled. -/
def State.portOn (s : State) (m : Nat) : Bool := s.obB (Ix.port m) Sub.port_ENABLE

/-- The lanes of a port: `LANE_COUNT` lanes from its own number on (R13). -/
def State.portLanes (s : State) (m : Nat) : List Nat := (List.range (s.laneCount m)).map (m + ·)

/-- The ports of one side of a slice. -/
def sidePorts (m : Nat) : List Nat := (List.range 8).map (m / 8 * 8 + ·)

/-- The enabled port that uses a lane, if any (R13). -/
def State.portOfLane (s : State) (m : Nat) : Option Nat :=
  (sidePorts m).find? (fun p => s.portOn p && (s.portLanes p).contains m)

/-- A block-level reset holds the port that the lane belongs to: the enabled port that uses it, or else a disabled port whose
number or lanes it is of (R32, R597). -/
def State.portHeld (s : State) (m : Nat) : Bool :=
  let held (p : Nat) : Bool := s.blockHeld (if isLine m then 2 else 1) (p % 0x40)
  (match s.portOfLane m with
    | some p => held p
    | none => (sidePorts m).any (fun p => held p && (p == m || (s.portLanes p).contains m)))
    || (isLine m && s.blockHeld 3 (sliceOfPort m))

/-! The carriers of an OTN slice (R251, R252). -/

abbrev otnIx (sl : Nat) : Nat := Ix.otn sl 0

/-- The index of a tributary's objects (R289). -/
abbrev tribIx (sl t : Nat) : Nat := Ix.otn sl (0x10 + t)

/-- `OTN_MODE` of a slice is not Ethernet (R251). -/
def State.otnMode (s : State) (sl : Nat) : Nat := s.ob (otnIx sl) Sub.otn_OTN_MODE

/-- `n` of the OTUCn (R251). -/
def State.otnN (s : State) (sl : Nat) : Nat := s.ob (otnIx sl) Sub.otn_OTUC_N

/-- The lanes of one instance at a rate code (R252). -/
def carrierK (rate : Nat) : Option Nat :=
  match rate with
  | 2 => some 4
  | 3 => some 2
  | 4 => some 1
  | _ => none

/-- The rate code of a slice's line lanes, taken from its first (R252). -/
def State.carrierRate (s : State) (sl : Nat) : Nat := s.ob (Ix.lane (0x40 + 8 * sl)) Sub.lane_RATE

/-- R252: every line lane runs at one code, 2, 3 or 4, and `n` instances fit. -/
def State.carrierOk (s : State) (sl n : Nat) : Bool :=
  (List.range 8).all (fun j => s.ob (Ix.lane (0x40 + 8 * sl + j)) Sub.lane_RATE == s.carrierRate sl)
    && (match carrierK (s.carrierRate sl) with
      | some k => decide (n * k ≤ 8)
      | none => false)

/-- The slice lanes that carry the group's instances (R252). -/
def State.carrierLanes (s : State) (sl : Nat) : List Nat :=
  List.range (s.otnN sl * (carrierK (s.carrierRate sl)).getD 0)

/-- A line lane of an OTN slice beyond those of its group: it stays in electrical idle (R252). -/
def State.spareLane (s : State) (m : Nat) : Bool :=
  isLine m && s.otnMode (sliceOfPort m) != 0 && !(s.carrierLanes (sliceOfPort m)).contains (m % 8)

/-- R32 or R252 requires electrical idle on this lane. -/
def State.laneIdle (s : State) (m : Nat) : Bool :=
  s.sliceIdle (sliceOfPort m) || s.portHeld m || s.clockHeld 2 m || s.spareLane m

/-- A response of HOLD or above is in force (R549), or a life-cycle transition stops traffic as HOLD does (R363). -/
def State.held (s : State) : Bool := decide (2 ≤ s.alm.latch) || s.fuse.change.isSome

/-- The slice's schedulers are held for a change of its core clock (R31): it is the next of a change in progress. -/
def State.pointHold (s : State) (sl : Nat) : Bool :=
  match s.pwr.change with
  | some c => (s.ob 0x0400 Sub.power_PP_PHASE == 1 || s.ob 0x0400 Sub.power_PP_PHASE == 4) && c.slices.head? == some sl
  | none => false

/-- Both egress segments of a slice are empty (R31). -/
def State.drained (s : State) (sl : Nat) : Bool :=
  (mget [] s.eng.egress (2 * sl)).isEmpty && (mget [] s.eng.egress (2 * sl + 1)).isEmpty

/-- R32 permits normal traffic on the lane. The row of a performance-point hold applies once the egress segments have
drained (R31). -/
def State.traffic (s : State) (m : Nat) : Bool :=
  !s.laneIdle m && !s.held && !(s.pointHold (sliceOfPort m) && s.drained (sliceOfPort m))

/-- The loop that a lane follows: that of its enabled port's lowest lane, and its own otherwise (R49). -/
def State.laneLoop (s : State) (m : Nat) : Nat := s.ob (Ix.lane ((s.portOfLane m).getD m)) Sub.lane_LOOP

/-- `TX_EFFECTIVE`: the state on the pins (R47, R48). -/
def State.txEffective (s : State) (m : Nat) : Nat :=
  let n := mget 1 s.lanes.now m
  if s.laneIdle m then min n 2
  else if s.traffic m && (s.laneLoop m == 1 || s.laneLoop m == 2) then min n 2
  else n

/-- The lane runs PAM4: the rate codes from 2 on (R33). -/
def State.pam4 (s : State) (m : Nat) : Bool := decide (2 ≤ s.ob (Ix.lane m) Sub.lane_RATE)

/-- The pattern that a lane's generator puts in place of all else (R51). -/
def State.lanePattern (s : State) (m : Nat) : Option Fill :=
  let g := s.ob (Ix.lane m) Sub.lane_PRBS_GEN
  if g = 0 then none else some (.pattern g (s.pam4 m))

/-- A line lane of an OTN slice: it belongs to the slice's FlexO group (R39, R252). -/
def State.groupLane (s : State) (m : Nat) : Bool := isLine m && s.otnMode (sliceOfPort m) != 0

/-- What a lane's own transmitter puts out between frames: idles, or the blocks of its carrier (R253). -/
def State.plainFill (s : State) (m : Nat) : Fill := if s.groupLane m then .carrier else .idles

/-- What a lane's pins carry between frames (R42, R47 to R51). -/
def State.laneFill (s : State) (m : Nat) : Fill :=
  if s.txEffective m ≠ 3 then .electricalIdle
  else if !s.traffic m then s.plainFill m
  else match s.lanePattern m with
    | some f => f
    | none => if s.laneLoop m = 3 then .received else s.plainFill m

/-- A lane's pins come to carry something else than they did in `before`: it is put out. -/
def State.showLane (before : State) (m : Nat) (s : State) : State :=
  if s.laneFill m = before.laneFill m then s else s.emit (.lane m (s.laneFill m))

/-! ### Transmitter and receiver states (R42 to R47) -/

/-- The state the transmitter makes for: `TX_STATE`, held at IDLE where R32 requires electrical idle, DEEP in DARK
(R47, R576). -/
def State.txAim (s : State) (m : Nat) : Nat :=
  if s.dark || s.pwr.vigil then 1
  else if s.laneIdle m then min (s.ob (Ix.lane m) Sub.lane_TX_STATE) 2 else s.ob (Ix.lane m) Sub.lane_TX_STATE

/-- Set the transmitter's own state. -/
def State.setNow (m v : Nat) (s : State) : State :=
  s.showLane m { s with lanes := { s.lanes with now := mset 1 s.lanes.now m v } }

/-- Set or end a transition. -/
def State.setGoal (m : Nat) (g : Option Nat) (s : State) : State :=
  { s with lanes := { s.lanes with goal :=
      match g with
      | some v => minsert s.lanes.goal m v
      | none => merase s.lanes.goal m } }

/-- Move a transmitter that is in no transition toward its aim: power-down and idling are immediate, a lock or an exit
from IDLE takes a transition, and a transmitter that leaves OFF stands in DEEP meanwhile (R42, R44, R45). -/
def State.startTx (m : Nat) (s : State) : State :=
  let now := mget 1 s.lanes.now m
  let aim := s.txAim m
  if aim = now then s
  else if aim < 2 ∨ (aim = 2 ∧ now = 3) then s.setNow m aim
  else (if now = 0 then s.setNow m 1 else s).setGoal m (some aim)

/-- A scan running on the lane is aborted (R53). -/
def State.abortScan (m : Nat) (s : State) : State :=
  if s.ob (Ix.scan m) Sub.scan_SCAN_STATUS = 1 then s.put (Ix.scan m) Sub.scan_SCAN_STATUS 3 else s

/-- A write of `TX_STATE`: held during a transition, a later write replacing a held one; otherwise applied (R46). -/
def txStateWrite (m v : Nat) (s : State) : State × Status :=
  match mfind s.lanes.goal m with
  | some _ => ({ s with lanes := { s.lanes with heldTx := minsert s.lanes.heldTx m v } }, .ok)
  | none => ((s.put (Ix.lane m) Sub.lane_TX_STATE v).startTx m, .ok)

/-! The recovered clock on SYNCE_CLK_OUT (R320). -/

/-- A lane is named and locked. -/
def State.laneLocked (s : State) (m : Nat) : Bool :=
  m != 0xFF && s.obB (Ix.lane m) Sub.lane_CDR_LOCK && !s.obB (Ix.lane m) Sub.lane_LOS

/-- The lane whose clock SYNCE_CLK_OUT carries, and its division, the code of `SYNCE_FREQ`; none = held low (R320). -/
def State.synceOut (s : State) : Option (Nat × Nat) :=
  let f := s.ob 0x3A02 Sub.syncE_SYNCE_FREQ
  match s.ob 0x3A02 Sub.syncE_SYNCE_ACTIVE with
  | 1 => some (s.ob 0x3A02 Sub.syncE_SYNCE_SRC, f)
  | 2 => some (s.ob 0x3A02 Sub.syncE_SYNCE_SRC_BACKUP, f)
  | _ => none

/-- The device selects the source: the primary lane where it is locked, then the backup; with neither, the pin is held low
or keeps its source (R320). -/
def State.synceNext (s : State) : Nat :=
  let a := s.ob 0x3A02 Sub.syncE_SYNCE_SRC
  let b := s.ob 0x3A02 Sub.syncE_SYNCE_SRC_BACKUP
  if s.laneLocked a then 1 else if s.laneLocked b then 2
    else if a = 0xFF ∧ b = 0xFF then 0
    else if s.obB 0x3A02 Sub.syncE_SYNCE_SQUELCH then 3 else s.ob 0x3A02 Sub.syncE_SYNCE_ACTIVE

/-- Select the source; a change at the pin is put out. `was` is what the pin carried. -/
def State.synceSelect (was : Option (Nat × Nat)) (s : State) : State :=
  let s := s.put 0x3A02 Sub.syncE_SYNCE_ACTIVE s.synceNext
  if s.synceOut = was then s else s.emit (.synce s.synceOut)

/-- The state that a receiver is in: that of `RX_STATE`, but OFF in a slice that the part disables, and DEEP in DARK (R3, R43,
R576). -/
def State.rxEffective (s : State) (m : Nat) : Nat :=
  if !s.sliceOn (sliceOfPort m) then 0 else if s.dark then 1 else s.ob (Ix.lane m) Sub.lane_RX_STATE

/-- The active unit's heartbeat shows LOS on a lane (R417). -/
def State.peerLos (s : State) (m : Nat) : Bool :=
  if isLine m then bit (fld s.pair.hb 8 4) (m - 0x40) else bit (fld s.pair.hb 4 4) m

/-- A lane has LOS in the active unit's heartbeats and none here (R430). -/
def State.losDiffers (s : State) (m : Nat) : Bool := s.peerLos m && !s.obB (Ix.lane m) Sub.lane_LOS

/-- The standby's comparison of a lane's LOS with that of the active unit: the time for which they differ begins, or is broken
(R430). -/
def losLane (m : Nat) (s : State) : State :=
  if s.losDiffers m then
    (if s.pair.losOn.contains m then s
     else ({ s with pair := { s.pair with losOn := s.pair.losOn ++ [m] } } : State).mark (Timer.los m))
  else { s with pair := { s.pair with losOn := s.pair.losOn.filter (· != m) } }

/-- What a lane's receiver reports of a signal on its pins: nothing in OFF, the signal alone in DEEP, and clock-recovery
lock in ON (R43, R62). -/
def State.rxReport (m : Nat) (signal lock : Bool) (s : State) : State :=
  let r := s.rxEffective m
  let sig := signal && r != 0
  losLane m <| ((s.put (Ix.lane m) Sub.lane_SIGNAL_DETECT sig.toNat).put (Ix.lane m) Sub.lane_LOS (!sig).toNat).put
    (Ix.lane m) Sub.lane_CDR_LOCK (lock && sig && r == 2).toNat

/-- A line lane whose receiver does not listen holds no block lock (R43, R254). -/
def State.dropLock (m : Nat) (s : State) : State :=
  if isLine m && s.rxEffective m != 2 then
    { s with otn := { s.otn with locked := s.otn.locked.filter (· != m - 0x40), heads := merase s.otn.heads (m - 0x40) } }
  else s

/-- The receiver's state changed: it reports what is left of what it reported before (R43). -/
def State.rxKeep (m : Nat) (s : State) : State :=
  (s.dropLock m).rxReport m (s.obB (Ix.lane m) Sub.lane_SIGNAL_DETECT) (s.obB (Ix.lane m) Sub.lane_CDR_LOCK)

/-- The receiver's state changed, and the SyncE source is selected anew (R43, R320). -/
def State.rxSettle (m : Nat) (s : State) : State := (s.rxKeep m).synceSelect s.synceOut

/-- Apply a value of `RX_STATE`; a change aborts a running scan (R43, R53). -/
def State.setRx (m v : Nat) (s : State) : State :=
  if s.ob (Ix.lane m) Sub.lane_RX_STATE = v then s
  else ((s.put (Ix.lane m) Sub.lane_RX_STATE v).abortScan m).rxSettle m

/-- A write of `RX_STATE` (R43, R46). -/
def rxStateWrite (m v : Nat) (s : State) : State × Status :=
  match mfind s.lanes.goal m with
  | some _ => ({ s with lanes := { s.lanes with heldRx := minsert s.lanes.heldRx m v } }, .ok)
  | none => (s.setRx m v, .ok)

/-- A lane has reached step 5 of R44: when every lane of its client port has, opening dequeues that a takeover held start
(R432). -/
def openEnd (m : Nat) (s : State) : State :=
  match s.portOfLane m with
  | some p =>
    if (s.portLanes p).all (fun l => mget 1 s.lanes.now l == 3 || s.ob (Ix.lane l) Sub.lane_TX_STATE != 3) then
      { s with pair := { s.pair with openHold := s.pair.openHold.filter (· != p) } }
    else s
  | none => s

/-- Steps 3 and 4 of an exit to ACTIVE on a lane whose pins are driven: the training burst, PRBS13Q on PAM4 lanes and
PRBS31 on NRZ lanes, then idles and alignment markers (R44). -/
def exitIdle (m : Nat) (s : State) : State :=
  if s.laneIdle m || s.laneLoop m == 1 || s.laneLoop m == 2 then s
  else (s.emit (.lane m (.pattern (if s.pam4 m then 2 else 3) (s.pam4 m)))).emit (.lane m .markers)

/-- The state `g` is reached after `ns` nanoseconds in R44's steps: an exit's duration is recorded (R44). -/
def reachGoal (m g ns : Nat) (s : State) : State :=
  let s := s.setGoal m none
  if g = 3 then openEnd m (((exitIdle m s).setNow m g).put (Ix.lane m) Sub.lane_IDLE_EXIT_NS (ns % 2 ^ 16))
  else s.setNow m g

/-- A held write of `RX_STATE` is applied (R46). -/
def heldRxApply (m : Nat) (s : State) : State :=
  match mfind s.lanes.heldRx m with
  | some v => { s with lanes := { s.lanes with heldRx := merase s.lanes.heldRx m } }.setRx m v
  | none => s

/-- A held write of `TX_STATE` is applied, and the transmitter moves on toward its aim (R46). -/
def heldTxApply (m : Nat) (s : State) : State :=
  match mfind s.lanes.heldTx m with
  | some v => ({ s with lanes := { s.lanes with heldTx := merase s.lanes.heldTx m } }.put
      (Ix.lane m) Sub.lane_TX_STATE v).startTx m
  | none => s.startTx m

/-- A transition ends: held writes are applied (R46). -/
def applyHeld (m : Nat) (s : State) : State := heldTxApply m (heldRxApply m s)

/-- Bring one transmitter into agreement with R32 after a condition of R32 changed (R47). A transition that this ends lets
held writes apply (R46). -/
def State.settleLane (m : Nat) (s : State) : State :=
  match mfind s.lanes.goal m with
  | none => s.startTx m
  | some g =>
    let aim := s.txAim m
    if aim < g then
      (if aim ≤ mget 1 s.lanes.now m then applyHeld m ((s.setGoal m none).setNow m aim) else s.setGoal m (some aim))
    else if s.ob (Ix.lane m) Sub.lane_TX_STATE = aim then s.setGoal m (some aim)
    else s

/-- The index low bytes of all traffic lanes. -/
def allLanes : List Nat := List.range 0x20 ++ (List.range 0x20).map (0x40 + ·)

/-- Bring every transmitter into agreement with R32. -/
def State.settleLanes (s : State) : State := allLanes.foldl (fun t m => t.settleLane m) s

/-- A transition ends: the state is reached, and held writes are applied (R44, R46). -/
def transitionEnd (m ns : Nat) (s : State) : State :=
  match mfind s.lanes.goal m with
  | none => s
  | some g => applyHeld m (reachGoal m g ns s)

/-- A write of `RATE`: BUSY while an enabled port uses the lane; a change aborts a running scan (R34, R53). In OTN mode the
group uses every line lane, at one code (R252): a write of another code is BUSY too (log 94). -/
def rateWrite (m v : Nat) (s : State) : State × Status :=
  if (s.portOfLane m).isSome then (s, .busy)
  else if s.groupLane m && v != s.ob (Ix.lane m) Sub.lane_RATE then (s, .busy)
  else if s.ob (Ix.lane m) Sub.lane_RATE = v then (s, .ok)
  else ((s.put (Ix.lane m) Sub.lane_RATE v).abortScan m, .ok)

/-- A write of `PRBS_GEN`: a start needs a lane that no enabled port uses (R51). -/
def prbsGenWrite (m v : Nat) (s : State) : State × Status :=
  if v ≠ 0 ∧ (s.portOfLane m).isSome then (s, .busy)
  else (s.showLane m (s.put (Ix.lane m) Sub.lane_PRBS_GEN v), .ok)

/-- A write of `PRBS_CHK`; the error count starts with the checker (R51, R62). -/
def prbsChkWrite (m v : Nat) (s : State) : State × Status :=
  if v ≠ 0 ∧ (s.portOfLane m).isSome then (s, .busy)
  else
    let s := if v ≠ 0 ∧ s.ob (Ix.lane m) Sub.lane_PRBS_CHK = 0 then s.put (Ix.lane m) Sub.lane_PRBS_ERRORS 0 else s
    (s.put (Ix.lane m) Sub.lane_PRBS_CHK v, .ok)

/-- One 8 ns period of the pattern checkers that run: the bit errors found are a free value (R62, log 3). -/
def State.checkLanes (s : State) : State :=
  allLanes.foldl (fun (t : State) m =>
    if t.obB (Ix.lane m) Sub.lane_PRBS_CHK && t.rxEffective m == 2 && !t.sliceIdle (sliceOfPort m) then
      t.takeFree.2.addOb (Ix.lane m) Sub.lane_PRBS_ERRORS 64 t.takeFree.1
    else t) s

/-- The chapter's own part of a write to a traffic lane's objects. -/
def laneWrite (m sub : Nat) (v : Val) (s : State) : State × Status :=
  match v with
  | .num n =>
    if sub = Sub.lane_TX_STATE then txStateWrite m n s
    else if sub = Sub.lane_RX_STATE then rxStateWrite m n s
    else if sub = Sub.lane_RATE then rateWrite m n s
    else if sub = Sub.lane_PRBS_GEN then prbsGenWrite m n s
    else if sub = Sub.lane_PRBS_CHK then prbsChkWrite m n s
    else if sub = Sub.lane_LOOP then (s.showLane m (s.put (Ix.lane m) sub n), .ok)
    else (s.put (Ix.lane m) sub n, .ok)
  | .oct b => (s.putO (Ix.lane m) sub b, .ok)

/-! ### Eye scan (R52, R53, R64) -/

/-- Start a scan point: NOT_READY while the receiver is not ON (R53). -/
def scanStart (m : Nat) (s : State) : State × Status :=
  if s.ob (Ix.lane m) Sub.lane_RX_STATE ≠ 2 then (s, .notReady)
  else
    let s := (s.put (Ix.scan m) Sub.scan_SCAN_CTRL 1).put (Ix.scan m) Sub.scan_SCAN_STATUS 1
    (({ s with lanes := { s.lanes with dwell := minsert s.lanes.dwell m (s.ob (Ix.scan m) Sub.scan_DWELL_LOG2) } } :
        State).mark (Timer.scan m), .ok)

/-- Abort a scan point (R64). -/
def scanAbort (m : Nat) (s : State) : State × Status :=
  ((s.put (Ix.scan m) Sub.scan_SCAN_CTRL 2).abortScan m, .ok)

/-- The bit rate of a lane, in units of 10 kbit/s (R33). -/
def State.laneRate (s : State) (m : Nat) : Nat :=
  match s.ob (Ix.lane m) Sub.lane_RATE with
  | 0 => 1031250
  | 1 => 2578125
  | 2 => 5312500
  | 3 => 10625000
  | _ => 21250000

/-- A scan point has run 2^`DWELL_LOG2` bits and found `errors` disagreements (R53). -/
def scanDone (m errors : Nat) (s : State) : State :=
  if s.ob (Ix.scan m) Sub.scan_SCAN_STATUS = 1
      ∧ s.past (Timer.scan m) (2 ^ mget 24 s.lanes.dwell m * 100000 / s.laneRate m) then
    let bits := 2 ^ mget 24 s.lanes.dwell m
    ((s.put (Ix.scan m) Sub.scan_BITS bits).put (Ix.scan m) Sub.scan_ERRORS (min errors bits)).put
      (Ix.scan m) Sub.scan_SCAN_STATUS 2
  else s

/-- The chapter's own part of a write to an eye-scan index (R64). -/
def scanWrite (m sub : Nat) (v : Val) (s : State) : State × Status :=
  match v with
  | .num n =>
    if sub = Sub.scan_SCAN_CTRL then
      (if n = 1 then scanStart m s else if n = 2 then scanAbort m s else (s.put (Ix.scan m) sub n, .ok))
    else if sub = Sub.scan_EYE ∧ n ≠ 1 ∧ s.ob (Ix.lane m) Sub.lane_RATE < 2 then (s, .range)
    else (s.put (Ix.scan m) sub n, .ok)
  | .oct b => (s.putO (Ix.scan m) sub b, .ok)

/-! ### Ports (R35 to R40, R65) -/

/-- The rate of a port type in Gbit/s (R36, R65). -/
def typeRate (t : Nat) : Nat :=
  match t with
  | 1 => 10 | 2 => 25 | 3 => 50 | 4 => 100 | 5 => 200 | 6 => 400 | 7 => 800 | _ => 0

/-- Pause quanta, of 512 bit times each at a port's rate, in nanoseconds (R57, R58). -/
def State.quantaNs (s : State) (m quanta : Nat) : Nat := 512 * quanta / max 1 (typeRate (s.ob (Ix.port m) Sub.port_PORT_TYPE))

/-- The rows of R36: type, lanes, rate code, FEC. -/
def portRows : List (Nat × Nat × Nat × Nat) :=
  [(1, 1, 0, 0), (2, 1, 1, 0), (2, 1, 1, 1), (3, 1, 2, 2), (4, 4, 1, 0), (4, 4, 1, 1), (4, 2, 2, 2), (4, 1, 3, 2),
   (5, 4, 2, 2), (5, 2, 3, 2), (5, 1, 4, 2), (6, 8, 2, 2), (6, 4, 3, 2), (6, 2, 4, 2), (7, 8, 3, 2), (7, 4, 4, 2)]

/-- The port's objects match a row of R36, every lane running at the row's rate. -/
def State.rowFits (s : State) (m : Nat) : Bool :=
  portRows.any (fun r =>
    r.1 == s.ob (Ix.port m) Sub.port_PORT_TYPE && r.2.1 == s.laneCount m && r.2.2.2 == s.ob (Ix.port m) Sub.port_FEC
      && (s.portLanes m).all (fun l => s.ob (Ix.lane l) Sub.lane_RATE == r.2.2.1))

/-- The line port that a client port is bound to, by index low byte; none for a tributary (R15, R65). -/
def State.boundLine (s : State) (m : Nat) : Option Nat :=
  let b := s.ob (Ix.port m) Sub.port_BOUND_LINE
  if b < 0x80 then some (0x40 + b) else none

/-- The tributary that a client port is bound to (R15). -/
def State.boundTrib (s : State) (m : Nat) : Option Nat :=
  let b := s.ob (Ix.port m) Sub.port_BOUND_LINE
  if b < 0x80 then none else some (b - 0x80)

/-- The sum of the rates of the slice's enabled client ports other than `m`, in Gbit/s (R14). -/
def State.clientSum (s : State) (m : Nat) : Nat :=
  ((sidePorts m).filter (fun p => p != m && s.portOn p)).foldl
    (fun a p => a + typeRate (s.ob (Ix.port p) Sub.port_PORT_TYPE)) 0

/-- A client frame of `MAX_FRAME` still fits on the bound line port once sealed (R40). -/
def maxFrameFits (client line : Nat) : Bool := decide (client + 32 ≤ line)

/-- The checks of enabling a port, in the order of R37, then R39 and R40 (R14, R15, R35, R36). -/
def State.enableCheck (s : State) (m : Nat) : Status :=
  if isLine m && s.otnMode (sliceOfPort m) != 0 then .range
  else if !s.rowFits m then .range
  else if m % 8 % s.laneCount m ≠ 0 then .range
  else if (s.portLanes m).any (fun l => (s.portOfLane l).isSome) then .range
  else if isLine m then .ok
  else if 800 < s.clientSum m + typeRate (s.ob (Ix.port m) Sub.port_PORT_TYPE) then .range
  else match s.boundLine m with
    | none => if s.otnMode (sliceOfPort m) = 0 then .range else .ok
    | some l =>
      if s.otnMode (sliceOfPort m) ≠ 0 ∨ sliceOfPort l ≠ sliceOfPort m then .range
      else if maxFrameFits (s.ob (Ix.port m) Sub.port_MAX_FRAME) (s.ob (Ix.port l) Sub.port_MAX_FRAME) then .ok
      else .range

/-- The index of a port's timing objects (R321). -/
def timeIx (m : Nat) : Nat := if isLine m then Ix.timeLine (m - 0x40) else Ix.timeClient m

/-- On enabling, the firmware writes the characterised latencies for the port's type, lane rate and FEC (R305). -/
def State.characterise (m : Nat) (s : State) : State :=
  let t := s.ob (Ix.port m) Sub.port_PORT_TYPE
  let r := s.ob (Ix.lane m) Sub.lane_RATE
  let f := s.ob (Ix.port m) Sub.port_FEC
  (s.put (timeIx m) Sub.timeClient_RX_LATENCY_NS (Config.latency 0 t r f % 2 ^ 32)).put
    (timeIx m) Sub.timeClient_TX_LATENCY_NS (Config.latency 1 t r f % 2 ^ 32)

/-- `ENABLE` takes a value: an enable makes the checks of R37 and takes the port into use; a disable ends its use. A port
of a gated slice is refused NOT_READY, and one whose block-level reset runs BUSY (R575, R597). What `LINK_STATE` reads of a port
that is disabled is left open: it keeps its last value, DESIGN CHOICE (log 130). -/
def portUse (m v : Nat) (s : State) : State × Status :=
  if v = 0 then (s.put (Ix.port m) Sub.port_ENABLE 0, .ok)
  else if s.portOn m then (s, .ok)
  else if s.blockHeld (if isLine m then 2 else 1) (m % 0x40) || s.blockHeld 0 (sliceOfPort m) then (s, .busy)
  else if s.gated (sliceOfPort m) then (s, .notReady)
  else match s.enableCheck m with
    | .ok => ((s.put (Ix.port m) Sub.port_ENABLE 1).characterise m, .ok)
    | st => (s, st)

/-- R40 holds for every enabled client port when the port `m` takes the `MAX_FRAME` `v`. -/
def State.maxFrameOk (s : State) (m v : Nat) : Bool :=
  if isLine m then
    (sidePorts (m - 0x40)).all (fun c => !s.portOn c || s.boundLine c != some m
      || maxFrameFits (s.ob (Ix.port c) Sub.port_MAX_FRAME) v)
  else
    match s.boundLine m with
    | some l => !s.portOn m || maxFrameFits v (s.ob (Ix.port l) Sub.port_MAX_FRAME)
    | none => true

/-- A value of `BOUND_LINE` names a line port 0 to 31 or a tributary 0 to 7 (R65). -/
def boundOk (v : Nat) : Bool := decide (v < 32) || (decide (0x80 ≤ v) && decide (v < 0x88))

/-- A write of `ENABLE`: an enable that comes while a LOAD runs is BUSY (R486). -/
def portEnable (m v : Nat) (s : State) : State × Status :=
  if v ≠ 0 ∧ s.loadRuns then (s, .busy) else portUse m v s

/-- The chapter's own part of a write to a port's objects (R38, R40, R65). `BOUND_LINE` of a line port is RANGE by R65 whether or
not the port is enabled, though R38 has BUSY for it too: DESIGN CHOICE (log 105). -/
def portWrite (m sub : Nat) (v : Val) (s : State) : State × Status :=
  match v with
  | .oct b => (s.putO (Ix.port m) sub b, .ok)
  | .num n =>
    if sub = Sub.port_ENABLE then portEnable m n s
    else if isLine m && (sub == Sub.port_LF_PROPAGATE || sub == Sub.port_BOUND_LINE) then (s, .range)
    else if (sub = Sub.port_PORT_TYPE ∨ sub = Sub.port_LANE_COUNT ∨ sub = Sub.port_FEC ∨ sub = Sub.port_BOUND_LINE)
        ∧ s.portOn m then (s, .busy)
    else if sub = Sub.port_BOUND_LINE ∧ !boundOk n then (s, .range)
    else if sub = Sub.port_MAX_FRAME ∧ !s.maxFrameOk m n then (s, .range)
    else (s.put (Ix.port m) sub n, .ok)

/-! ### Link faults (R54, R55, R65) -/

/-- The client ports bound to a line port. -/
def State.boundClients (s : State) (l : Nat) : List Nat :=
  (sidePorts (l - 0x40)).filter (fun c => s.portOn c && s.boundLine c == some l)

/-- The tributary that a client port is bound to is in TSF (R260). -/
def State.clientTsf (s : State) (m : Nat) : Bool :=
  match s.boundTrib m with
  | some t => bit (s.ob (Ix.otn (sliceOfPort m) (0x10 + t)) Sub.trib_DEFECTS) 9
  | none => false

/-- Local fault is propagated to the client port: from the line port that it is bound to (R54), or from its tributary in
TSF (R260). -/
def State.lfHere (s : State) (m : Nat) : Bool :=
  !isLine m && (match s.boundLine m with
    | some l => s.ob (Ix.port l) Sub.port_LINK_STATE == 2
    | none => s.clientTsf m)

/-- What R54 and R260 have a port send in place of frames. A client port that is itself in fault follows its own row,
whatever its line port's (log 94). -/
def State.faultFill (s : State) (m : Nat) : Option Fill :=
  let st := s.ob (Ix.port m) Sub.port_LINK_STATE
  if st = 2 then some .remoteFault
  else if st = 3 then some .idles
  else if !s.lfHere m then none
  else if s.obB (Ix.port m) Sub.port_LF_PROPAGATE then some .localFault
  else if s.clientTsf m then some .idles
  else none

/-- A client port that is in no fault of its own transmits what its line port or tributary has it transmit: its frames wait
until that ends (R54, R55, R260). -/
def State.propagates (s : State) (m : Nat) : Bool :=
  let st := s.ob (Ix.port m) Sub.port_LINK_STATE
  st != 2 && st != 3 && (s.faultFill m).isSome

/-- What a port's transmitter sends in place of frames; none where frames may go (R32, R47, R48, R51, R54, R260). -/
def State.portFill (s : State) (m : Nat) : Option Fill :=
  if (s.portLanes m).any (fun l => s.txEffective l != 3) then some .electricalIdle
  else if !s.traffic m then some .idles
  else match (s.portLanes m).findSome? s.lanePattern with
    | some f => some f
    | none => if s.laneLoop m = 3 then some .received else s.faultFill m

/-- The port's transmitter forms frames: its lanes are ACTIVE and R32 permits normal traffic, no pattern replaces it and no
fault holds it (R42, R47, R51, R54). -/
def State.forms (s : State) (m : Nat) : Bool :=
  s.traffic m && (s.portLanes m).all (fun k => mget 1 s.lanes.now k == 3 && (s.lanePattern k).isNone)
    && (s.faultFill m).isNone

/-- A lane's near-end loop is in force (R48, R49). -/
def State.laneTurns (s : State) (m : Nat) : Bool := s.traffic m && (s.laneLoop m == 1 || s.laneLoop m == 2)

/-- A near-end loop is in force at a port, or in OTN mode on a lane of the group: the receiver takes what the transmitter sends,
and nothing from the pins (R48, R49). -/
def State.nearLoop (s : State) (m : Nat) : Bool :=
  if s.groupLane m then (s.carrierLanes (sliceOfPort m)).any (fun j => s.laneTurns (0x40 + 8 * sliceOfPort m + j))
  else s.laneTurns m

/-- Near-end loops on every lane of a slice's group turn its OTUCn around (R48). -/
def State.otnLoop (s : State) (sl : Nat) : Bool :=
  s.otnMode sl != 0 && (s.carrierLanes sl).all (fun j => s.laneTurns (0x40 + 8 * sl + j))

/-- A port's far-end loop is in force (R48, R49). -/
def State.farLoop (s : State) (m : Nat) : Bool := s.traffic m && s.laneLoop m == 3

/-- Frame bytes are turned around into the port's own receiver (R48). -/
def State.loopBack (m : Nat) (b : Bytes) (cut : Bool) (s : State) : State :=
  { s with lanes := { s.lanes with loop := mset [] s.lanes.loop m (mget [] s.lanes.loop m ++ [(b, cut)]) } }

/-- What an Ethernet port forms goes out of its pins as `e`; a near-end loop turns the frame bytes `b` around, `cut` where an
error control block ends them, and with a far-end loop nothing of the part's own is sent (R48 to R50). -/
def sendOut (m : Nat) (e : Emission) (b : Bytes) (cut : Bool) (s : State) : State :=
  if s.forms m then
    match s.laneLoop m with
    | 0 => s.emit e
    | 3 => s
    | _ => (s.emit (.looped m b)).loopBack m b cut
  else s

/-- Report what a port's transmitter now sends between frames: its fill, or idles (R54). -/
def State.emitFill (m : Nat) (s : State) : State := s.emit (.fill m ((s.portFill m).getD .idles))

/-- What the lanes of a port see: bit i of each mask for the port's lane i (R54, R62). -/
def seeLanes (m signal lock : Nat) (s : State) : State :=
  ((List.range (s.laneCount m)).foldl (fun t i => t.rxReport (m + i) (bit signal i) (bit lock i)) s).synceSelect s.synceOut

/-- The fault state that a port takes when its receiver reports `st`: without signal and lock on every lane it is in local
fault (R54). -/
def State.faultSeen (s : State) (m st : Nat) : Nat :=
  if st % 4 % 2 = 1 ∧ !(s.portLanes m).all (fun l => s.obB (Ix.lane l) Sub.lane_CDR_LOCK) then 2 else st % 4

/-- A port's fault state changes: 0 down, 1 up, 2 local fault, 3 remote fault. The port, and for a line port every
client port bound to it that propagates local fault, sends what R54 gives. -/
def linkFaultChange (m st signal lock : Nat) (s : State) : State :=
  let s := seeLanes m signal lock s
  let s := (s.put (Ix.port m) Sub.port_LINK_STATE (s.faultSeen m st)).emitFill m
  if isLine m then
    ((s.boundClients m).filter (fun c => s.obB (Ix.port c) Sub.port_LF_PROPAGATE)).foldl (fun t c => t.emitFill c) s
  else s

/-- A window of 2^24 codewords ends with `errors` symbol errors: above `FEC_SER_THRESH` the event is raised (R65,
R468). -/
def fecSerWindow (m errors : Nat) (s : State) : State :=
  if s.ob (Ix.port m) Sub.port_FEC_SER_THRESH < errors then
    s.raise 0x0201 (sliceOfPort m) (be 1 m ++ be 4 errors)
  else s

/-! ### The commands -/

/-- `TX_STATE_WRITE` (R42). -/
def execTxStateWrite (c : Caller) (m v : Nat) (s : State) : Out :=
  .next (rowWrite c (Ix.lane m) Sub.lane_TX_STATE (.num v) (txStateWrite m v) s)

/-- `RX_STATE_WRITE` (R43). -/
def execRxStateWrite (c : Caller) (m v : Nat) (s : State) : Out :=
  .next (rowWrite c (Ix.lane m) Sub.lane_RX_STATE (.num v) (rxStateWrite m v) s)

/-- `LANE_TRANSITION_END` (R44). -/
def execLaneTransitionEnd (m ns : Nat) (s : State) : Out := .next (transitionEnd m ns s)

/-- `RATE_WRITE` (R34). -/
def execRateWrite (c : Caller) (m v : Nat) (s : State) : Out :=
  .next (rowWrite c (Ix.lane m) Sub.lane_RATE (.num v) (rateWrite m v) s)

/-- `PORT_ENABLE` (R37). -/
def execPortEnable (c : Caller) (m v : Nat) (s : State) : Out :=
  .next (rowWrite c (Ix.port m) Sub.port_ENABLE (.num v) (portEnable m v) s)

/-- `PRBS_GEN_WRITE` (R51). -/
def execPrbsGenWrite (c : Caller) (m v : Nat) (s : State) : Out :=
  .next (rowWrite c (Ix.lane m) Sub.lane_PRBS_GEN (.num v) (prbsGenWrite m v) s)

/-- `PRBS_CHK_WRITE` (R51). -/
def execPrbsChkWrite (c : Caller) (m v : Nat) (s : State) : Out :=
  .next (rowWrite c (Ix.lane m) Sub.lane_PRBS_CHK (.num v) (prbsChkWrite m v) s)

/-- `SCAN_START` (R53). -/
def execScanStart (c : Caller) (m : Nat) (s : State) : Out :=
  .next (rowWrite c (Ix.scan m) Sub.scan_SCAN_CTRL (.num 1) (scanStart m) s)

/-- `SCAN_ABORT` (R64). -/
def execScanAbort (c : Caller) (m : Nat) (s : State) : Out :=
  .next (rowWrite c (Ix.scan m) Sub.scan_SCAN_CTRL (.num 2) (scanAbort m) s)

/-- `SCAN_DONE` (R53). -/
def execScanDone (m errors : Nat) (s : State) : Out := .next (scanDone m errors s)

/-- `FEC_SER_WINDOW` (R65). -/
def execFecSerWindow (m errors : Nat) (s : State) : Out := .next (fecSerWindow m errors s)

end Sys2Proof.Machine
end

