-- ==== Sys2Proof/Machine/Entries.lean ====
section
/-! DEFINITION. The fields of SecY, SC, SA and key-store entries (R114, R119, R120, R125, R127, R128), and reading and
writing those tables. -/

namespace Sys2Proof.Machine

/-! ### SecY fields (R114) -/

namespace Secy

abbrev enable (e : Nat) : Bool := bit e 127
abbrev confidential (e : Nat) : Bool := bit e 125
abbrev replayProtect (e : Nat) : Bool := bit e 124
abbrev validate (e : Nat) : Nat := bits e 123 122
abbrev suite (e : Nat) : Nat := bits e 121 120
abbrev offset (e : Nat) : Nat := bits e 119 118
abbrev vlanClear (e : Nat) : Nat := bits e 117 116
abbrev includeSci (e : Nat) : Bool := bit e 115
abbrev useEs (e : Nat) : Bool := bit e 114
abbrev useScb (e : Nat) : Bool := bit e 113
abbrev ptpClear (e : Nat) : Bool := bit e 112
abbrev port (e : Nat) : Nat := bits e 111 107
abbrev window (e : Nat) : Nat := bits e 95 64
abbrev sci (e : Nat) : Nat := bits e 63 0

/-- The suite uses 64-bit packet numbers (R117). -/
abbrev xpn (e : Nat) : Bool := decide (2 ≤ suite e)

/-- The suite's keys are 256 bits long (R117). -/
abbrev long (e : Nat) : Bool := suite e % 2 == 1

end Secy

/-! ### Transmit SC fields (R119) -/

namespace Txsc

abbrev anValid (e an : Nat) : Bool := bit e (68 + an)
abbrev encodingAn (e : Nat) : Nat := bits e 67 66
/-- The slot of an AN: SA_AN0 stands highest. -/
abbrev slot (e an : Nat) : Nat := bits e (63 - 16 * an) (48 - 16 * an)

end Txsc

/-! ### Receive SC fields (R120) -/

namespace Rxsc

abbrev valid (e : Nat) : Bool := bit e 159
abbrev anValid (e an : Nat) : Bool := bit e (155 + an)
abbrev ltValid (e : Nat) : Bool := bit e 154
abbrev learnTarget (e : Nat) : Nat := bits e 153 143
abbrev secy (e : Nat) : Nat := bits e 142 132
abbrev sci (e : Nat) : Nat := bits e 127 64
abbrev slot (e an : Nat) : Nat := bits e (63 - 16 * an) (48 - 16 * an)

end Rxsc

/-! ### SA fields (R125) -/

namespace Sa

abbrev valid (e : Nat) : Bool := bit e 319
abbrev dir (e : Nat) : Nat := bits e 318 318
abbrev inUse (e : Nat) : Bool := bit e 317
abbrev xpn (e : Nat) : Bool := bit e 316
abbrev an (e : Nat) : Nat := bits e 315 314
abbrev threshHit (e : Nat) : Bool := bit e 313
abbrev exhausted (e : Nat) : Bool := bit e 312
abbrev sc (e : Nat) : Nat := bits e 300 288
abbrev handle (e : Nat) : Nat := bits e 287 256
abbrev nextPn (e : Nat) : Nat := bits e 255 192
abbrev pnThresh (e : Nat) : Nat := bits e 191 128
abbrev ssci (e : Nat) : Nat := bits e 127 96
abbrev salt (e : Nat) : Nat := bits e 95 0

/-- The highest PN of an SA: the top of its range (R126). -/
def highest (e : Nat) : Nat := if xpn e then 2 ^ 64 - 1 else 2 ^ 32 - 1

abbrev setNextPn (e pn : Nat) : Nat := setBits e 255 192 pn
abbrev setThreshHit (e : Nat) (b : Bool) : Nat := setBit e 313 b
abbrev setExhausted (e : Nat) (b : Bool) : Nat := setBit e 312 b

end Sa

/-! ### The tables -/

/-- A SecY's image, where the SecY is valid (R110). -/
def State.secyAt (s : State) (sl i : Nat) : Option Nat := mfind s.asc.secy (skey sl i)

/-- The SecY is valid and no DELETE of it is in progress: it is visible to new fetches (R144). -/
def State.deletingIs (s : State) (sl table i : Nat) : Bool := mfind s.asc.deleting sl == some (table, i)

/-- A SecY is enabled (R111). -/
def State.secyOn (s : State) (sl i : Nat) : Bool :=
  match s.secyAt sl i with
  | some e => Secy.enable e && !s.deletingIs sl 0 i
  | none => false

/-- The client port of a valid SecY. -/
def State.secyPort (s : State) (sl i : Nat) : Option Nat := (s.secyAt sl i).map Secy.port

/-- A transmit SC's image. -/
def State.txscAt (s : State) (sl i : Nat) : Nat := mget 0 s.asc.txsc (skey sl i)

/-- A receive SC's image. -/
def State.rxscAt (s : State) (sl i : Nat) : Nat := mget 0 s.asc.rxsc (skey sl i)

/-- An SA's image. -/
def State.saAt (s : State) (sl i : Nat) : Nat := mget 0 s.asc.sa (skey sl i)

/-- A key-store entry. -/
def State.keyAt (s : State) (sl i : Nat) : KeyEntry := mget {} s.asc.keys (skey sl i)

def State.putSecy (sl i e : Nat) (s : State) : State :=
  { s with asc := { s.asc with secy := minsert s.asc.secy (skey sl i) e } }

def State.putTxsc (sl i e : Nat) (s : State) : State :=
  { s with asc := { s.asc with txsc := mset 0 s.asc.txsc (skey sl i) e } }

def State.putRxsc (sl i e : Nat) (s : State) : State :=
  { s with asc := { s.asc with rxsc := mset 0 s.asc.rxsc (skey sl i) e } }

def State.putSa (sl i e : Nat) (s : State) : State :=
  { s with asc := { s.asc with sa := mset 0 s.asc.sa (skey sl i) e } }

def State.putKey (sl i : Nat) (e : KeyEntry) (s : State) : State :=
  { s with asc := { s.asc with keys := mset {} s.asc.keys (skey sl i) e } }

/-! ### Key handles (R127) -/

abbrev handleSlice (h : Nat) : Nat := bits h 31 30
abbrev handleGen (h : Nat) : Nat := bits h 29 16
abbrev handleIndex (h : Nat) : Nat := bits h 12 0

/-- The handle of a key-store entry. -/
def handleOf (sl gen i : Nat) : Nat := sl * 2 ^ 30 + gen * 2 ^ 16 + i

/-- The handle is live in a slice (R127). -/
def State.handleLive (s : State) (sl h : Nat) : Bool :=
  let e := s.keyAt sl (handleIndex h)
  handleSlice h == sl && bits h 15 13 == 0 && e.valid && e.gen == handleGen h && handleGen h != 0

/-- The entry that a handle names with its current generation, valid or held (R128). -/
def State.handleNames (s : State) (sl h i : Nat) : Bool :=
  handleSlice h == sl && handleIndex h == i && handleGen h == (s.keyAt sl i).gen

/-- The next generation: from 16,383 to 1 (R129). -/
def nextGen (g : Nat) : Nat := if 16383 ≤ g then 1 else g + 1

/-- Free a key-store entry: its secret bits are zeroed and its generation rises (R129); no SA names the new generation
(R128). -/
def KeyEntry.freed (e : KeyEntry) : KeyEntry := { gen := nextGen e.gen }

/-! ### Association counters (R136) -/

/-- The key of counter `n` of an entry: table 0 SecY, 2 receive SC, 3 SA, 5 line port. -/
def ackey (table sl i n : Nat) : Nat := table * 2 ^ 28 + skey sl i * 16 + n

/-- Raise an association counter by `k`, wrapping at 2^64. -/
def State.abump (table sl i n k : Nat) (s : State) : State :=
  { s with asc := { s.asc with cnt := mset 0 s.asc.cnt (ackey table sl i n) ((mget 0 s.asc.cnt (ackey table sl i n) + k) % 2 ^ 64) } }

/-- Zero the counters of an entry that becomes valid (R136). -/
def State.azero (table sl i : Nat) (s : State) : State :=
  { s with asc := { s.asc with cnt := mdrop (fun k => k / 16 == (ackey table sl i 0) / 16) s.asc.cnt } }

namespace ACtr

abbrev OUT_OCTETS_PROTECTED : Nat := 0
abbrev OUT_OCTETS_ENCRYPTED : Nat := 1
abbrev IN_OCTETS_VALIDATED : Nat := 2
abbrev IN_OCTETS_DECRYPTED : Nat := 3
abbrev IN_PKTS_UNTAGGED : Nat := 4
abbrev IN_PKTS_NO_TAG : Nat := 5
abbrev OUT_PKTS_PROTECTED : Nat := 0
abbrev OUT_PKTS_ENCRYPTED : Nat := 1
abbrev IN_PKTS_OK : Nat := 0
abbrev IN_PKTS_INVALID : Nat := 1
abbrev IN_PKTS_NOT_VALID : Nat := 2
abbrev IN_PKTS_UNCHECKED : Nat := 3
abbrev IN_PKTS_DELAYED : Nat := 4
abbrev IN_PKTS_LATE : Nat := 5
abbrev IN_PKTS_NOT_USING_SA : Nat := 0
abbrev IN_PKTS_UNUSED_SA : Nat := 1
abbrev IN_PKTS_BAD_TAG : Nat := 0
abbrev IN_PKTS_NO_SCI : Nat := 1

end ACtr

/-- A client port is bound to a line port or tributary, by slice-local number (R15, R123). -/
def State.boundTo (s : State) (client sl p : Nat) : Bool :=
  let b := s.ob (Ix.port client) Sub.port_BOUND_LINE
  sliceOfPort client == sl && (if s.otnMode sl = 0 then b == 8 * sl + p else b == 0x80 + p)

/-- The core cycles of an 8 ns period at a performance point (R30). -/
def cyclesPer8 (p : Nat) : Nat := if p = 0 then 12 else if p = 1 then 9 else 6

/-- The performance point of a slice's clock. -/
def State.pointOf (s : State) (sl : Nat) : Nat := mget 0 s.pwr.slicePt sl

/-- A window operation of a slice: NOT_READY while the slice is gated (R575). -/
def sliceOp (sl : Nat) (act : State → State × Status) (s : State) : State × Status :=
  if s.gated sl then (s, .notReady) else act s

end Sys2Proof.Machine
end

