-- ==== Sys2Proof/Machine/Frames.lean ====
section
/-! DEFINITION. What the parsers see in an Ethernet frame: tags, EtherType, PTP messages (R68, R151, R306). A frame's
octets run from the destination address through the FCS. -/

namespace Sys2Proof.Machine

/-- The destination and source address as numbers, first wire byte highest. -/
def frameDa (b : Bytes) : Nat := fld b 0 6
def frameSa (b : Bytes) : Nat := fld b 6 6

/-- A TPID of a tag that the part knows: 0x8100 or 0x88A8 (R68). -/
def isTpid (t : Nat) : Bool := t == 0x8100 || t == 0x88A8

/-- The number of outer tags, at most `k` (R118). -/
def tagCount (b : Bytes) : Nat → Nat
  | 0 => 0
  | k + 1 => if isTpid (fld b 12 2) then 1 + tagCount (b.take 12 ++ b.drop 16) k else 0

/-- The VID of the outermost tag; 0 for an untagged frame (R68). -/
def outerVid (b : Bytes) : Nat := if isTpid (fld b 12 2) then fld b 14 2 % 4096 else 0

/-- The PCP of the outermost tag, if the frame is tagged (R151). -/
def outerPcp (b : Bytes) : Option Nat := if isTpid (fld b 12 2) then some (fld b 14 2 / 2 ^ 13) else none

/-- The EtherType of the frame, after no tag. -/
def etherType (b : Bytes) : Nat := fld b 12 2

/-- Where the PTP message starts, and the offset of the UDP header where there is one with its IP version (R306). -/
def ptpAt (b : Bytes) : Option (Nat × Option (Nat × Nat)) :=
  let e := 12 + 4 * tagCount b 2
  let t := fld b e 2
  let p := e + 2
  let port (u : Nat) : Bool := fld b (u + 2) 2 == 319 || fld b (u + 2) 2 == 320
  if t = 0x88F7 then some (p, none)
  else if t = 0x0800 ∧ fld b p 1 = 0x45 ∧ fld b (p + 9) 1 = 17 ∧ port (p + 20) ∧ p + 28 ≤ b.length then
    some (p + 28, some (p + 20, 4))
  else if t = 0x86DD ∧ fld b p 1 / 16 = 6 ∧ fld b (p + 6) 1 = 17 ∧ port (p + 40) ∧ p + 48 ≤ b.length then
    some (p + 48, some (p + 40, 6))
  else none

/-- The frame is a PTP frame (R306). -/
def isPtp (b : Bytes) : Bool := (ptpAt b).isSome

/-- The messageType of the PTP message at an offset. -/
def ptpType (b : Bytes) (o : Nat) : Nat := fld b o 1 % 16

/-- An event message: Sync, Delay_Req, Pdelay_Req or Pdelay_Resp (R306). -/
def ptpEvent (b : Bytes) (o : Nat) : Bool := decide (ptpType b o < 4)

/-- The frame is correctable: version 2 and the whole 34-octet header before the FCS (R306). -/
def ptpCorrectable (b : Bytes) (o : Nat) : Bool := fld b (o + 1) 1 % 16 == 2 && decide (o + 34 + 4 ≤ b.length)

/-- The twoStepFlag (R313). -/
def ptpTwoStep (b : Bytes) (o : Nat) : Bool := bit (fld b (o + 6) 1) 1

/-- One's complement sum of two 16-bit words. -/
def onesAdd (a b : Nat) : Nat := if a + b < 65536 then a + b else a + b - 65535

/-- RFC 1624: a checksum updated for one changed word (R311). -/
def rfc1624 (hc m m' : Nat) : Nat := 65535 - onesAdd (onesAdd (65535 - hc) (65535 - m)) m'

/-- The sum of a correctionField and a residence, saturated (R310); the flag tells a saturation. -/
def addCorrection (field : Nat) (r : Int) : Nat × Bool :=
  let v := toInt 8 field + r
  if field = 2 ^ 63 - 1 ∨ v < -(2 ^ 63) ∨ 2 ^ 63 ≤ v then (2 ^ 63 - 1, true) else (ofInt 8 v, false)

/-- Write a correctionField of the message at offset `o`, with the UDP checksum as R311 gives and a new FCS. -/
def writeCorrection (b : Bytes) (o : Nat) (udp : Option (Nat × Nat)) (v : Nat) : Bytes :=
  let body := patch (b.take (b.length - 4)) (o + 8) (be 8 v)
  let body := match udp with
    | none => body
    | some (u, 4) => patch body (u + 6) [0, 0]
    | some (u, _) =>
      let hc := (List.range 4).foldl (fun a k => rfc1624 a (fld b (o + 8 + 2 * k) 2) (fld body (o + 8 + 2 * k) 2))
        (fld b (u + 6) 2)
      patch body (u + 6) (be 2 (if hc = 0 then 0xFFFF else hc))
  withFcs body

/-- The number of 128-octet words that `n` octets occupy (R16). -/
def wordsOf (n : Nat) : Nat := (n + 127) / 128

end Sys2Proof.Machine
end

