-- ==== Sys2Proof/Machine/Time.lean ====
section
/-! DEFINITION. Time (chapter 09): the local clock, steps and rate, the transparent clock, the PPS pins and the
SyncE output. -/

namespace Sys2Proof.Machine

/-! ### The local clock (R295 to R298) -/

/-- The span of the clock: 2^48 seconds in units of 2^-32 ns (R295). -/
def clockSpan : Nat := 2 ^ 48 * 10 ^ 9 * 2 ^ 32

/-- `n` core cycles of a slice in local time, truncated (R298). -/
def State.cycleTime (s : State) (sl n : Nat) : Nat := n * 5 * s.time.incr / cyclesPer8 (s.pointOf sl)

/-- The 384 cycles of R20 in local time, rounded to nearest (R304). -/
def State.sealDelay (s : State) (sl : Nat) : Nat :=
  (2 * 1920 * s.time.incr + cyclesPer8 (s.pointOf sl)) / (2 * cyclesPer8 (s.pointOf sl))

/-- The core-cycle count of a slice (R30). -/
def State.cyc (s : State) (sl : Nat) : Nat := mget 0 s.time.cycles sl

/-- `STEP_EPOCH` (R300). -/
def State.epoch (s : State) : Nat := s.ob 0x3A00 Sub.clock_STEP_EPOCH

/-- A local time plus a signed latency in units of 2^-16 ns (R304, R305). -/
def timePlus (t : Nat) (lat : Int) : Nat := (((t : Int) + lat * 2 ^ 16) % (clockSpan : Int)).toNat

/-- `t` plus `n`, in the clock's span. -/
def timeAdd (t n : Nat) : Nat := (t + n) % clockSpan

/-- `t` less `n`, in the clock's span. -/
def timeMinus (t n : Nat) : Nat := (t + clockSpan - n % clockSpan) % clockSpan

/-- The clock at the start of an 8 ns period, its rate there and its epoch: of the clock as it then was (R297, R300). -/
def State.clockAt (s : State) (p : Nat) : Nat × Nat × Nat :=
  match s.time.past.find? (fun r => decide (p < r.upTo)) with
  | some r => (timeMinus r.now ((r.upTo - p) * 5 * r.incr), r.incr, r.epoch)
  | none =>
    (if p ≤ s.time.periods then timeMinus s.time.now ((s.time.periods - p) * 5 * s.time.incr)
     else timeAdd s.time.now ((p - s.time.periods) * 5 * s.time.incr), s.time.incr, s.epoch)

/-- The local time of a core cycle: that of its period's start, and of the cycles after it, truncated (R298). -/
def State.timeOf (s : State) (sl c : Nat) : Nat :=
  let n := cyclesPer8 (s.pointOf sl)
  let back := (s.cyc sl - c + n - 1) / n
  let r := s.clockAt (s.time.periods + (c - s.cyc sl) / n - back)
  timeAdd r.1 ((c + back * n - s.cyc sl) % n * 5 * r.2.1 / n)

/-- The clock as it read `l` units of 2^-32 ns before the present instant, and its epoch then. -/
def State.ago (s : State) (l : Nat) : Nat × Nat :=
  match s.time.past.find? (fun r => decide ((s.time.periods - r.upTo) * 5 * s.time.incr < l)) with
  | some r => (timeMinus r.now (l - (s.time.periods - r.upTo) * 5 * s.time.incr), r.epoch)
  | none => (timeMinus s.time.now l, s.epoch)

/-- A lane capture made `lag` units of 2^-8 ns before the present instant, with a resolution of 2^-8 ns, less the port's receive
latency; and the `STEP_EPOCH` of the capture (R304). -/
def State.laneStamp (s : State) (m lag : Nat) : Nat × Nat :=
  let r := s.ago (lag * 2 ^ 24)
  (timePlus (r.1 / 2 ^ 24 * 2 ^ 24) (-(s.obInt 4 (timeIx m) Sub.timeClient_RX_LATENCY_NS)), r.2)

/-- The clock is about to change: how it ran until now is kept for the stamps of frames on their way, for 8,192 periods, longer
than a frame takes on a lane. -/
def State.noteClock (s : State) : State :=
  let kept := s.time.past.filter (fun r => decide (s.time.periods < r.upTo + 8192))
  let last : ClockPast := { upTo := s.time.periods, now := s.time.now, incr := s.time.incr, epoch := s.epoch }
  { s with time := { s.time with past := kept ++ [last] } }

/-- The present instant plus a port's transmit latency (R304). -/
def State.egressStamp (s : State) (m t : Nat) : Nat := timePlus t (s.obInt 4 (timeIx m) Sub.timeClient_TX_LATENCY_NS)

/-- The signed difference of two local times. -/
def timeDiff (a b : Nat) : Int :=
  let d := (a + clockSpan - b) % clockSpan
  if d < clockSpan / 2 then (d : Int) else (d : Int) - clockSpan

/-- The 14 octets of a clock value (R322). -/
def clockBytes (t : Nat) : Bytes := be 6 (t / 2 ^ 32 / 10 ^ 9) ++ be 4 (t / 2 ^ 32 % 10 ^ 9) ++ be 4 (t % 2 ^ 32)

/-- The compare of R303: the target has been reached. -/
def reached (now target : Nat) : Bool := decide ((now + 2 ^ 64 - target % 2 ^ 64) % 2 ^ 64 < 2 ^ 63)

/-! ### Steps and rate (R297, R299, R300) -/

/-- STEP_SET and STEP_OFFSET commit: LOCKED finds them BUSY; otherwise the state becomes LOCKED and the step waits for
its boundary (R299). -/
def timeStepCommit (op : Nat) (arg : Int) (s : State) : State × Option Status :=
  if s.time.locked then (s, some .busy)
  else ({ s with time := { s.time with locked := true, step := some (op, arg) } }, none)

/-- STEP_SET (R299). -/
def timeStepSet (s : State) : State × Option Status :=
  let b := s.oct 0x3A00 Sub.clock_STEP_TIME
  timeStepCommit 1 ((fld b 0 6 * 10 ^ 9 + fld b 6 4 : Nat) : Int) s

/-- STEP_OFFSET (R299). -/
def timeStepOffset (s : State) : State × Option Status := timeStepCommit 2 (s.obInt 8 0x3A00 Sub.clock_STEP_OFFSET_NS) s

/-- UNLOCK (R299). -/
def timeUnlock (s : State) : State × Option Status :=
  if s.time.locked then
    (({ s with time := { s.time with locked := false } } : State).raise 0x0802 0xFF [], some .ok)
  else (s, some .ok)

/-- A `TIME_OP` by its code. -/
def timeOp (code : Nat) (s : State) : State × Option Status :=
  match code with
  | 1 => timeStepSet s
  | 2 => timeStepOffset s
  | 3 => timeUnlock s
  | _ => (s, some .ok)

/-- The clock after a step: STEP_SET replaces seconds and nanoseconds, STEP_OFFSET adds nanoseconds; the fraction is
kept (R299, R300). -/
def steppedClock (op : Nat) (arg : Int) (t : Nat) : Nat :=
  if op = 1 then (arg.toNat * 2 ^ 32 + t % 2 ^ 32) % clockSpan
  else (((t : Int) + arg * 4294967296) % (clockSpan : Int)).toNat

/-- The signed size of a step in nanoseconds (R300). -/
def stepSize (op : Nat) (arg : Int) (t : Nat) : Int :=
  if op = 1 then arg - ((t / 2 ^ 32 : Nat) : Int) else arg

/-- `TIME_STEP_APPLY`: the pending step is applied; `edge` acts on a change of the seconds field (R264, R300). -/
def timeStepApply (edge : State → State) (s : State) : State :=
  match s.time.step with
  | none => s
  | some (op, arg) =>
    let s := s.noteClock
    let old := s.time.now
    let new := steppedClock op arg old
    let size : Nat := ofInt 8 (stepSize op arg old)
    let s := { s with time := { s.time with now := new, step := none
                                            ppsWait := s.time.ppsWait.map (fun w => max 0 (w - stepSize op arg old * 2 ^ 32)) } }
    let s := ((s.addOb 0x3A00 Sub.clock_STEP_EPOCH 8 1).addOb 0x3A00 Sub.clock_STEP_COUNT 32 1).put
      0x3A00 Sub.clock_LAST_STEP_NS size
    let s := (s.raise 0x0801 0xFF (be 8 size)).winEnd 0x3A00 Sub.clock_TIME_STATUS .ok
    if old / 2 ^ 32 / 10 ^ 9 = new / 2 ^ 32 / 10 ^ 9 then s else edge s

/-- `INCR` lies in the range of R297. -/
def incrOk (v : Nat) : Bool := decide (0x1_9965_2BD4 ≤ v) && decide (v ≤ 0x1_99CE_0760)

/-- A write of `INCR`: it takes effect at the next boundary (R297). -/
def incrWrite (v : Nat) (s : State) : State × Status :=
  if incrOk v then
    ({ s with time := { s.time with incrNext := some v } }.put 0x3A00 Sub.clock_INCR v, .ok)
  else (s, .range)

/-- `INCR_APPLY`: the written rate takes effect (R297, R301). -/
def incrApply (s : State) : State :=
  match s.time.incrNext with
  | some v => { s.noteClock with time := { s.noteClock.time with incr := v, incrNext := none } }
  | none => s

/-- PPS_OUT over a span of local time: a pulse that is due rises while PPS_OUT is enabled and the state is LOCKED, and one that
has begun grows longer (R317). -/
def ppsRun (span : Nat) (s : State) : State :=
  let s := if s.time.ppsOut then { s with time := { s.time with ppsHigh := s.time.ppsHigh + span } } else s
  match s.time.ppsWait with
  | none => s
  | some w =>
    if (span : Int) < w then { s with time := { s.time with ppsWait := some (w - span) } }
    else
      let s := { s with time := { s.time with ppsWait := none } }
      if s.obB 0x3A01 Sub.pps_PPS_OUT_ENABLE && s.time.locked then
        { s with time := { s.time with ppsOut := true, ppsHigh := (span - w).toNat } }
      else s

/-- One 8 ns period of the clocks: five ticks of the time engine, and each running slice's core cycles (R30, R296). -/
def State.period (s : State) : State :=
  let cyc (m : SMap Nat) (sl : Nat) : SMap Nat :=
    if s.sliceOn sl && !s.gated sl then mset 0 m sl (mget 0 m sl + cyclesPer8 (s.pointOf sl)) else m
  ppsRun (5 * s.time.incr)
    { s with time := { s.time with now := (s.time.now + 5 * s.time.incr) % clockSpan
                                   periods := s.time.periods + 1
                                   cycles := (List.range 4).foldl cyc s.time.cycles } }

/-! ### PPS (R317 to R319) -/

/-- A one-second edge: PPS_OUT is due to rise `PPS_OUT_OFFSET_NS` after it; with a negative offset it is the rise before the
next edge that is now due. The edge of a step is the step itself, wherever in a second it lands; with a negative offset its pulse
rises at once: DESIGN CHOICE (R317, log 113). -/
def State.ppsEdge (stepped : Bool) (s : State) : State :=
  let off := s.obInt 4 0x3A01 Sub.pps_PPS_OUT_OFFSET_NS
  let past : Nat := s.time.now % (10 ^ 9 * 2 ^ 32)
  let due (w : Int) (t : State) : State := ppsRun 0 { t with time := { t.time with ppsWait := some w } }
  if off < 0 then due ((off + 10 ^ 9) * 2 ^ 32 - past) (if stepped then due 0 s else s)
  else due (off * 2 ^ 32 - (if stepped then (0 : Int) else (past : Int))) s

/-- `PPS_OUT_PULSE_END`: the pulse falls once it has lasted `PPS_OUT_WIDTH_NS`, in the period in which that ends (R317). -/
def ppsPulseEnd (s : State) : State :=
  if s.ob 0x3A01 Sub.pps_PPS_OUT_WIDTH_NS * 2 ^ 32 ≤ s.time.ppsHigh + 5 * s.time.incr then
    { s with time := { s.time with ppsOut := false, ppsHigh := 0 } }
  else s

/-- The signed distance in nanoseconds of a local time from the nearest whole second. -/
def edgeError (t : Nat) : Int :=
  let n : Nat := t / 2 ^ 32 % 10 ^ 9
  if n < 500000000 then (n : Int) else (n : Int) - 1000000000

/-- The firmware, where it runs, follows PPS_IN: its one step brings the edge that comes as long after this one as this came after
the one before to a whole second (R319). The adjusted `INCR` is a free value in the range of R297 (log 3). -/
def ppsDiscipline (prev : Option Nat) (cap : Nat) (s : State) : State :=
  let err := edgeError cap
  if s.ob 0x3A00 Sub.clock_DISCIPLINE = 0 ∨ s.rst.coresHeld then s
  else if !s.time.locked then
    match prev with
    | some p =>
      let gap := timeDiff cap p
      if (gap / 2 ^ 32 - 10 ^ 9).natAbs ≤ 100000 ∧ !s.winBusy 0x3A00 Sub.clock_TIME_STATUS then
        ({ s with time := { s.time with locked := true, step := some (2, -edgeError (timeAdd cap gap.toNat)) } } : State).winRun
          0x3A00 Sub.clock_TIME_STATUS
      else s
    | none => s
  else if s.ob 0x3A00 Sub.clock_DISCIPLINE_LIMIT_NS < err.natAbs then s.raise 0x0804 0xFF (be 8 (ofInt 8 err))
  else
    let r := s.takeFree
    let v := 0x1_9965_2BD4 + r.1 % (0x1_99CE_0760 - 0x1_9965_2BD4 + 1)
    { r.2 with time := { r.2.time with incrNext := some v } }.put 0x3A00 Sub.clock_INCR v

/-- `PPS_IN_EDGE`: a selected edge `lag` units of 2^-8 ns before the present instant is captured, or ignored within
500 ms of the capture before (R318). -/
def ppsInEdge (falling : Bool) (lag : Nat) (s : State) : State :=
  if !s.obB 0x3A01 Sub.pps_PPS_IN_ENABLE || s.obB 0x3A01 Sub.pps_PPS_IN_EDGE != falling then s
  else
    let at_ := s.ago (lag * 2 ^ 24)
    let cap := timePlus at_.1 (-(s.obInt 4 0x3A01 Sub.pps_PPS_IN_DELAY_NS)) / 2 ^ 24 * 2 ^ 24
    let glitch := match s.time.lastPps with
      | some p => decide (0 ≤ timeDiff cap p) && decide (timeDiff cap p < 500000000 * 2 ^ 32)
      | none => false
    if glitch then s.addOb 0x3A01 Sub.pps_PPS_IN_GLITCH 32 1
    else
      let prev := s.time.lastPps
      let s := { s with time := { s.time with lastPps := some cap } }
      let s := ((s.putO 0x3A01 Sub.pps_PPS_IN_TIME (clockBytes cap)).put 0x3A01 Sub.pps_PPS_IN_EPOCH at_.2).addOb
        0x3A01 Sub.pps_PPS_IN_COUNT 32 1
      ppsDiscipline prev cap (s.raise 0x0803 0xFF (clockBytes cap))

/-! ### SyncE (R320) -/

/-- `SYNCE_SOURCE_SWITCH`: what a lane's receiver sees changes, and the device selects the source (R320). -/
def synceSwitch (m : Nat) (signal locked : Bool) (s : State) : State := (s.rxReport m signal locked).synceSelect s.synceOut

/-- A write of `SYNCE_SRC`, its backup, `SYNCE_FREQ` or `SYNCE_SQUELCH`: the device selects by it (R320). -/
def synceWrite (sub_ n : Nat) (s : State) : State × Status := ((s.put 0x3A02 sub_ n).synceSelect s.synceOut, .ok)

/-! ### The transparent clock (R306 to R315) -/

/-- What the transparent clock does with a PTP frame. -/
inductive TcResult where
  | pass
  | discard
  | fix (bytes : Bytes)
  deriving DecidableEq, Repr

/-- The residence between two stamps in units of 2^-16 ns, halves rounded up (R310). -/
def residence (tin tout : Nat) : Int := (timeDiff tout tin + 2 ^ 15) / 2 ^ 16

/-- The key of a per-pipe value: slice and pipe. -/
def pipeKey (sl : Nat) (p : Pipe) : Nat := 2 * sl + p.code

/-- Store a residence for a follow-up; a full store replaces its oldest entry (R314). -/
def fupStore (sl : Nat) (p : Pipe) (e : FupEntry) (s : State) : State :=
  let l := mget [] s.time.fup (pipeKey sl p)
  let full := decide (128 ≤ l.length)
  let s := { s with time := { s.time with fup := mset [] s.time.fup (pipeKey sl p) ((if full then l.drop 1 else l) ++ [e]) } }
  if full then s.bump (Ctr.slice sl + Ctr.PTP_STORE_EVICT + p.code) else s

/-- A follow-up of messageType 8 or 10 matches an entry (R314). -/
def fupMatches (e : FupEntry) (c : Nat) (b : Bytes) (o : Nat) : Bool :=
  e.port == c && e.domain == fld b (o + 4) 1 && e.source == sub b (o + 20) 10 && e.seq == fld b (o + 30) 2
    && (if e.kind then ptpType b o == 10 else ptpType b o == 8)

/-- The procedure of R315 for a PTP frame of client port `c` in one direction: the counters' base is the port's block,
8 higher on the opening path. -/
def tc (c : Nat) (p : Pipe) (b : Bytes) (o : Nat) (udp : Option (Nat × Nat)) (tin ein tout : Nat) (s : State) :
    TcResult × State :=
  let sl := c / 8
  let cnt (k : Nat) (t : State) := t.bump (Ctr.port c + k + 8 * p.code)
  let mode := s.ob (Ix.timeClient c) Sub.timeClient_TC_MODE
  let ty := ptpType b o
  let fix (r : Int) (k : Nat) (t : State) : TcResult × State :=
    let v := addCorrection (fld b (o + 8) 8) r
    (.fix (writeCorrection b o udp v.1), if v.2 then cnt Ctr.PTP_SATURATED (cnt k t) else cnt k t)
  if mode = 0 then (.pass, cnt Ctr.PTP_PASSED s)
  else if !ptpCorrectable b o then (.pass, cnt Ctr.PTP_OTHER s)
  else if !ptpEvent b o && ty != 8 && ty != 10 then (.pass, cnt Ctr.PTP_OTHER s)
  else if ein ≠ s.epoch then (.discard, cnt Ctr.PTP_STEP_DISCARD s)
  else
    let r := residence tin tout
    if ptpEvent b o then
      (if mode = 2 ∧ ptpTwoStep b o ∧ (ty = 0 ∨ ty = 3) then
        (.pass, cnt Ctr.PTP_STORED (fupStore sl p ⟨ty == 3, c, fld b (o + 4) 1, sub b (o + 20) 10, fld b (o + 30) 2, r, s.time.periods⟩ s))
       else fix r Ctr.PTP_CORRECTED s)
    else
      let l := mget [] s.time.fup (pipeKey sl p)
      match l.find? (fun e => fupMatches e c b o) with
      | some e =>
        fix e.residence Ctr.PTP_FUP_CORRECTED
          { s with time := { s.time with fup := mset [] s.time.fup (pipeKey sl p) (l.erase e) } }
      | none => (.pass, cnt Ctr.PTP_FUP_UNMATCHED s)

/-- AGE_MS: milliseconds since an entry was written (R314). -/
def State.fupAge (s : State) (e : FupEntry) : Nat := (s.time.periods - e.written) / 125000

/-- `FUP_ENTRY_TIMEOUT`: an entry, counted from the oldest, is freed once its AGE_MS has reached `FUP_TIMEOUT_MS` (R314). -/
def fupTimeout (sl : Nat) (open_ : Bool) (i : Nat) (s : State) : State :=
  let k := pipeKey sl (if open_ then .open else .seal)
  if !((mget [] s.time.fup k)[i]?).any (fun e => decide (s.ob (0x3A80 + sl) Sub.timeSlice_FUP_TIMEOUT_MS ≤ s.fupAge e)) then s
  else { s with time := { s.time with fup := mset [] s.time.fup k ((mget [] s.time.fup k).eraseIdx i) } }

/-- A write to the clock index (R297, R322). -/
def clockWrite (sub_ : Nat) (v : Val) (s : State) : State × Status :=
  match v with
  | .num n =>
    if sub_ = Sub.clock_INCR then incrWrite n s
    else if sub_ = Sub.clock_TIME_OP then
      (if n = 0 then (s, .ok) else windowStart 0x3A00 Sub.clock_TIME_OP Sub.clock_TIME_STATUS n (timeOp n) s)
    else (s.put 0x3A00 sub_ n, .ok)
  | .oct b => if 10 ^ 9 ≤ fld b 6 4 then (s, .range) else (s.putO 0x3A00 sub_ b, .ok)

/-! ### The commands -/

/-- A `TIME_OP` row. -/
def rowTime (c : Caller) (code : Nat) (act : State → State × Option Status) (s : State) : State :=
  rowWindowStart c 0x3A00 Sub.clock_TIME_OP Sub.clock_TIME_STATUS code act s

/-- `TIME_STEP_SET` (R299). -/
def execTimeStepSet (c : Caller) (s : State) : Out := .next (rowTime c 1 timeStepSet s)

/-- `TIME_STEP_OFFSET` (R299). -/
def execTimeStepOffset (c : Caller) (s : State) : Out := .next (rowTime c 2 timeStepOffset s)

/-- `TIME_UNLOCK` (R299). -/
def execTimeUnlock (c : Caller) (s : State) : Out := .next (rowTime c 3 timeUnlock s)

/-- `INCR_WRITE` (R297). -/
def execIncrWrite (c : Caller) (v : Nat) (s : State) : Out :=
  .next (rowWrite c 0x3A00 Sub.clock_INCR (.num v) (incrWrite v) s)

/-- `INCR_APPLY` (R297). -/
def execIncrApply (s : State) : Out := .next (incrApply s)

/-- `PPS_OUT_PULSE_END` (R317). -/
def execPpsOutPulseEnd (s : State) : Out := .next (ppsPulseEnd s)

/-- `PPS_IN_EDGE` (R318). -/
def execPpsInEdge (falling : Bool) (lag : Nat) (s : State) : Out := .next (ppsInEdge falling lag s)

/-- `FUP_ENTRY_TIMEOUT` (R314). -/
def execFupEntryTimeout (sl : Nat) (open_ : Bool) (i : Nat) (s : State) : Out := .next (fupTimeout sl open_ i s)

end Sys2Proof.Machine
end

