-- ==== Sys2Proof/Machine/Tags.lean ====
section
/-! DEFINITION. Random frame tagging (R623 to R626): the draw at pipe entry and the record at the end. -/

namespace Sys2Proof.Machine

/-- One advance of a pipe's LFSR, x^32 + x^22 + x^2 + x + 1 (R623). -/
def lfsrNext (x : Nat) : Nat := crcBitM 32 0x00400007 x

/-- Tagging is on for the pipe. -/
def State.tagging (s : State) (sl : Nat) (p : Pipe) : Bool := bit (s.ob 0x5002 Sub.tag_TAG_ENABLE) (pipeKey sl p)

/-- A frame enters a pipe: the LFSR advances, and the frame is tagged when the low bits of its draw are all zero
(R623). -/
def drawTag (sl : Nat) (p : Pipe) (t0 : Nat) (s : State) : Option TagInfo × State :=
  if s.tagging sl p then
    let x := lfsrNext (mget 0 s.tel.lfsr (pipeKey sl p))
    let s := { s with tel := { s.tel with lfsr := mset 0 s.tel.lfsr (pipeKey sl p) x } }
    (if x % 2 ^ s.ob 0x5002 Sub.tag_TAG_LOG2 = 0 then some { t0 := t0, epoch := s.epoch } else none, s)
  else (none, s)

/-- A T1 to T5 field: time after T0 in units of 2^-4 ns (R626). -/
def tagTime (t0 : Nat) : Option Nat → Nat
  | none => 0xFFFF_FFFF
  | some t => min ((timeDiff t t0).toNat / 2 ^ 28) 0xFFFF_FFFE

/-- The 64 octets of a tag record (R626). -/
def tagRecord (seq sl : Nat) (p : Pipe) (epoch : Nat) (f : Frm) (g : TagInfo) (ctr : Option Nat) : Bytes :=
  be 4 seq ++ be 1 (16 * sl + p.code)
    ++ be 1 ((if g.epoch = epoch then 0 else 1) + (if f.ptp then 2 else 0) + (if f.enc then 4 else 0))
    ++ be 1 f.inPort ++ be 1 f.outPort ++ be 2 f.len ++ be 2 f.queue ++ be 2 (f.secy.getD 0xFFFF) ++ be 2 (f.sa.getD 0xFFFF)
    ++ be 8 (g.t0 / 2 ^ 16 % 2 ^ 64) ++ be 4 (tagTime g.t0 g.t1) ++ be 4 (tagTime g.t0 g.t2) ++ be 4 (tagTime g.t0 g.t3)
    ++ be 4 (tagTime g.t0 g.t4) ++ be 4 (tagTime g.t0 g.t5) ++ be 1 g.epoch ++ [0] ++ be 2 (ctr.getD 0xFFFF)
    ++ be 8 f.pn ++ be 4 f.depth ++ zeros 4

/-- Put a record into the tag buffer; a full buffer stops or overwrites (R625). -/
def State.tagWrite (mk : Nat → Bytes) (s : State) : State :=
  let seq := s.ob 0x5002 Sub.tag_TAG_HEAD
  let full := decide (1024 ≤ s.tel.tags.length)
  if full ∧ s.ob 0x5002 Sub.tag_TAG_FULL_MODE = 0 then
    let s := s.bump (Ctr.device + Ctr.TAGS_LOST)
    if s.tel.fullRaised then s
    else ({ s with tel := { s.tel with fullRaised := true } } : State).raise 0x1003 0xFF (be 4 seq)
  else
    let old := if full then merase s.tel.tags ((seq + 2 ^ 32 - 1024) % 2 ^ 32) else s.tel.tags
    ((({ s with tel := { s.tel with tags := minsert old seq (mk seq) } } : State).addOb
      0x5002 Sub.tag_TAG_HEAD 32 1).put 0x5002 Sub.tag_TAG_FILL (if full then 1024 else s.tel.tags.length + 1)).bump
      (Ctr.device + Ctr.TAGS_WRITTEN)

/-- `TAG_RECORD_WRITE`: a frame leaves the pipe or is discarded; its outcome incremented the device counter `ctr`, if
any (R625). -/
def tagEnd (sl : Nat) (p : Pipe) (ctr : Option Nat) (f : Frm) (s : State) : State :=
  match f.tag with
  | none => s
  | some g => s.tagWrite (fun seq => tagRecord seq sl p s.epoch f g ctr)

/-- A frame is discarded and counted in a device counter. -/
def discardAs (sl : Nat) (p : Pipe) (ctr : Nat) (f : Frm) (s : State) : State := tagEnd sl p (some ctr) f (s.bump ctr)

end Sys2Proof.Machine
end

