-- ==== Sys2Proof/Machine/Tm.lean ====
section
/-! DEFINITION. The traffic manager (chapter 05): classes, policers, admission and cells, flow control, the scheduler,
samples and the window. -/

namespace Sys2Proof.Machine

/-! ### Entry fields (R155, R168) -/

/-- A 45-bit two's complement field in units of 2^-20 byte. -/
def fill45 (n : Nat) : Int := if n < 2 ^ 44 then (n : Int) else (n : Int) - 35184372088832

/-- The 45-bit code of a fill. -/
def code45 (i : Int) : Nat := (i % 35184372088832).toNat

/-- An 18-bit two's complement deficit. -/
def deficit18 (n : Nat) : Int := if n < 2 ^ 17 then (n : Int) else (n : Int) - 262144

/-- The 18-bit code of a deficit. -/
def code18 (i : Int) : Nat := (i % 262144).toNat

namespace Pol

abbrev enable (e : Nat) : Bool := bit e 223
abbrev cir (e : Nat) : Nat := bits e 207 184
abbrev pir (e : Nat) : Nat := bits e 183 160
abbrev cbs (e : Nat) : Nat := bits e 159 136
abbrev pbs (e : Nat) : Nat := bits e 135 112
abbrev tc (e : Nat) : Int := fill45 (bits e 111 67)
abbrev tp (e : Nat) : Int := fill45 (bits e 66 22)
abbrev last (e : Nat) : Nat := bits e 15 0
def set (e : Nat) (tc tp : Int) (last : Nat) : Nat :=
  setBits (setBits (setBits e 111 67 (code45 tc)) 66 22 (code45 tp)) 15 0 last

end Pol

/-! Fields of a queue entry; a group entry has the same layout with its port node in [154:152] (R168). -/

namespace Que

abbrev valid (e : Nat) : Bool := bit e 159
abbrev group (e : Nat) : Nat := bits e 158 152
abbrev port (e : Nat) : Nat := bits e 154 152
abbrev tc (e : Nat) : Nat := bits e 151 149
abbrev prio (e : Nat) : Nat := bits e 148 146
abbrev weight (e : Nat) : Nat := bits e 145 136
abbrev shapeEn (e : Nat) : Bool := bit e 135
abbrev rate (e : Nat) : Nat := bits e 134 111
abbrev burst (e : Nat) : Nat := bits e 110 87
abbrev tokens (e : Nat) : Int := fill45 (bits e 86 42)
abbrev deficit (e : Nat) : Int := deficit18 (bits e 41 24)
abbrev last (e : Nat) : Nat := bits e 15 0
def setTokens (e : Nat) (t : Int) (last : Nat) : Nat := setBits (setBits e 86 42 (code45 t)) 15 0 last
def setDeficit (e : Nat) (d : Int) : Nat := setBits e 41 24 (code18 d)

end Que

namespace Adm

abbrev minCells (e : Nat) : Nat := bits e 63 48
abbrev maxCells (e : Nat) : Nat := bits e 47 32
abbrev yellowCells (e : Nat) : Nat := bits e 31 16
abbrev used (e : Nat) : Nat := bits e 15 0
def setUsed (e v : Nat) : Nat := setBits e 15 0 v

end Adm

/-- The key of entry `i` of a pipe's table in a slice. -/
def pkey (sl : Nat) (p : Pipe) (i : Nat) : Nat := skey sl (p.code * 4096 + i)

/-- The entries of a pipe's table in a slice: index and image. -/
def pipeEntries (m : SMap Nat) (sl : Nat) (p : Pipe) : List (Nat × Nat) :=
  (m.filter (fun x => decide (x.1 / 4096 = (pkey sl p 0) / 4096))).map (fun x => (x.1 % 4096, x.2))

def State.queueAt (s : State) (sl : Nat) (p : Pipe) (i : Nat) : Nat := mget 0 s.tm.queue (pkey sl p i)
def State.groupAt (s : State) (sl : Nat) (p : Pipe) (i : Nat) : Nat := mget 0 s.tm.group (pkey sl p i)
def State.admAt (s : State) (sl : Nat) (p : Pipe) (i : Nat) : Nat := mget 0 s.tm.admission (pkey sl p i)
def State.heldAt (s : State) (sl : Nat) (p : Pipe) (i : Nat) : List Frm := mget [] s.tm.held (pkey sl p i)

def State.putQueue (sl : Nat) (p : Pipe) (i e : Nat) (s : State) : State :=
  { s with tm := { s.tm with queue := mset 0 s.tm.queue (pkey sl p i) e } }
def State.putGroup (sl : Nat) (p : Pipe) (i e : Nat) (s : State) : State :=
  { s with tm := { s.tm with group := mset 0 s.tm.group (pkey sl p i) e } }
def State.putAdm (sl : Nat) (p : Pipe) (i e : Nat) (s : State) : State :=
  { s with tm := { s.tm with admission := mset 0 s.tm.admission (pkey sl p i) e } }
def State.putHeld (sl : Nat) (p : Pipe) (i : Nat) (l : List Frm) (s : State) : State :=
  { s with tm := { s.tm with held := mset [] s.tm.held (pkey sl p i) l } }

/-- Raise a queue counter (R179). -/
def State.qbump (sl : Nat) (p : Pipe) (q n k : Nat) (s : State) : State :=
  let key := pkey sl p q * 16 + n
  { s with tm := { s.tm with queueCnt := mset 0 s.tm.queueCnt key ((mget 0 s.tm.queueCnt key + k) % 2 ^ 64) } }

/-- Set a queue counter (R174). -/
def State.qset (sl : Nat) (p : Pipe) (q n v : Nat) (s : State) : State :=
  { s with tm := { s.tm with queueCnt := mset 0 s.tm.queueCnt (pkey sl p q * 16 + n) v } }

/-- Raise a policer counter (R179). -/
def State.pbump (sl i n k : Nat) (s : State) : State :=
  let key := skey sl i * 16 + n
  { s with tm := { s.tm with polCnt := mset 0 s.tm.polCnt key ((mget 0 s.tm.polCnt key + k) % 2 ^ 64) } }

/-! ### Indexes of the port objects -/

/-- The index of a client port's traffic-manager objects, by client port number. -/
def tmClientIx (c : Nat) : Nat := Ix.tm (c / 8) (0x10 + c % 8)

/-- The index of a line port's or tributary's objects, by slice and local number. -/
def tmLineIx (sl p : Nat) : Nat := Ix.tm sl (0x20 + p)

/-- The index of a port node's objects (R169). -/
def nodeIx (sl : Nat) (p : Pipe) (n : Nat) : Nat :=
  match p with
  | .seal => tmLineIx sl n
  | .open => Ix.tm sl (0x10 + n)

/-- The index of an ingress port's objects (R161). -/
def ingressIx (sl : Nat) (p : Pipe) (ip : Nat) : Nat :=
  match p with
  | .seal => Ix.tm sl (0x10 + ip)
  | .open => tmLineIx sl ip

/-- The low byte of a port node's port, or of the tributary's index (R169). -/
def nodePort (sl : Nat) (p : Pipe) (n : Nat) : Nat :=
  match p with
  | .seal => 0x40 + 8 * sl + n
  | .open => 8 * sl + n

/-- The low byte of an ingress port. -/
def ingressPort (sl : Nat) (p : Pipe) (ip : Nat) : Nat :=
  match p with
  | .seal => 8 * sl + ip
  | .open => 0x40 + 8 * sl + ip

/-! ### Classes, lengths and rates (R151 to R153, R158) -/

/-- The traffic class of a frame at a client port (R151). -/
def State.classOf (s : State) (c : Nat) (b : Bytes) : Nat :=
  match outerPcp b with
  | some p => bits (s.ob (tmClientIx c) Sub.tmClient_PCP_TO_TC) (3 * p + 2) (3 * p)
  | none => s.ob (tmClientIx c) Sub.tmClient_DEFAULT_TC

/-- The expansion by the seal of a frame's SecY: 24 without SCI, otherwise 32, also where the fetch finds no SecY in force
(R144, R152, R153). -/
def State.expansion (s : State) (sl : Nat) (f : Frm) : Nat :=
  if f.plain then 0
  else match f.secy with
    | some i => if s.secyOn sl i && !Secy.includeSci ((s.secyAt sl i).getD 0) then 24 else 32
    | none => 32

/-- OVERHEAD of an index, in bytes (R152). -/
def State.overhead (s : State) (ix : Nat) : Int := s.obInt 4 ix Sub.tmClient_OVERHEAD

/-- The counted length C at a scheduler node (R152). -/
def State.counted (s : State) (sl : Nat) (p : Pipe) (f : Frm) : Int :=
  let ix := nodeIx sl p f.node
  let e := match p with
    | .seal => if s.obB ix Sub.tmLine_SEALED_LEN then s.expansion sl f else 0
    | .open => 0
  (f.len : Int) + s.overhead ix + (e : Int)

/-- The wire length W that the pacer charges (R153). -/
def State.wireLen (s : State) (sl : Nat) (p : Pipe) (f : Frm) : Nat :=
  f.len + 20 + (match p with | .seal => s.expansion sl f | .open => 0)

/-- Core clock in Hz at a performance point (R571). -/
def coreHz (p : Nat) : Nat := if p = 0 then 1500000000 else if p = 1 then 1125000000 else 750000000

/-- A rate in units of 100 kbit/s as 2^-20 bytes per core cycle, rounded to nearest (R158). -/
def perCycle (point rate : Nat) : Nat := (2 * rate * 12500 * 2 ^ 20 + coreHz point) / (2 * coreHz point)

/-- A bucket after `d` cycles (R156). -/
def refillTo (size : Nat) (fill : Int) (d rate : Nat) : Int := min ((size * 2 ^ 20 : Nat) : Int) (fill + ((d * rate : Nat) : Int))

/-- The core cycles since LAST, modulo 2^16 (R156). -/
def State.since (s : State) (sl last : Nat) : Nat := (s.cyc sl + 2 ^ 16 - last) % 2 ^ 16

/-! ### Policers (R154 to R157) -/

/-- Refill a policer image (R156). -/
def State.refillPol (s : State) (sl e : Nat) : Nat :=
  let d := s.since sl (Pol.last e)
  let pt := s.pointOf sl
  Pol.set e (refillTo (Pol.cbs e) (Pol.tc e) d (perCycle pt (Pol.cir e)))
    (refillTo (Pol.pbs e) (Pol.tp e) d (perCycle pt (Pol.pir e))) (s.cyc sl % 2 ^ 16)

/-- The policer of a client frame, where one is in force (R154). -/
def State.policerOf (s : State) (c tc secy : Nat) : Option Nat :=
  let ix := tmClientIx c
  let base := s.ob ix Sub.tmClient_POLICER_BASE
  let i := match s.ob ix Sub.tmClient_POLICER_MODE with
    | 1 => some base
    | 2 => some (base + tc)
    | 3 => some (base + secy)
    | _ => none
  match i with
  | some k => if k < 4096 ∧ Pol.enable (mget 0 s.tm.policer (skey (c / 8) k)) then some k else none
  | none => none

def State.putPol (sl i e : Nat) (s : State) : State :=
  { s with tm := { s.tm with policer := mset 0 s.tm.policer (skey sl i) e } }

/-- `POLICER_COLOUR`: refill, then 2 = red, 1 = yellow, 0 = green (R156). -/
def polColour (sl i : Nat) (s : State) : Nat × State :=
  let e := s.refillPol sl (mget 0 s.tm.policer (skey sl i))
  (if Pol.tp e < 0 then 2 else if Pol.tc e < 0 then 1 else 0, s.putPol sl i e)

/-- `POLICER_DEBIT`: a green or yellow frame is charged (R156, R157); it is counted with its bytes (R179). -/
def polDebit (sl i colour : Nat) (len : Int) (l : Nat) (s : State) : State :=
  let e := s.refillPol sl (mget 0 s.tm.policer (skey sl i))
  let c := len * 1048576
  let e := Pol.set e (if colour = 0 then Pol.tc e - c else Pol.tc e) (Pol.tp e - c) (Pol.last e)
  ((s.putPol sl i e).pbump sl i colour 1).pbump sl i (3 + colour) l

/-! ### Cells (R160, R161, R163) -/

/-- The accounted pool of a pipe (R160). -/
def poolCells : Nat := 48640

/-- The reserved class: the sum of `MIN_CELLS` over valid queues (R160). -/
def State.reservedClass (s : State) (sl : Nat) (p : Pipe) : Nat :=
  (pipeEntries s.tm.queue sl p).foldl (fun a x => if Que.valid x.2 then a + Adm.minCells (s.admAt sl p x.1) else a) 0

/-- The headroom class: the sum of `HEADROOM_CELLS` over the ingress ports (R160). -/
def State.headroomClass (s : State) (sl : Nat) (p : Pipe) : Nat :=
  (List.range 8).foldl (fun a ip => a + s.ob (ingressIx sl p ip) Sub.tmClient_HEADROOM_CELLS) 0

/-- Free cells of the shared class (R160). -/
def State.sharedFree (s : State) (sl : Nat) (p : Pipe) : Nat :=
  poolCells - s.reservedClass sl p - s.headroomClass sl p - mget 0 s.tm.sharedUsed (pkey sl p 0)

/-- The key of S(ip, t) and H(ip, t) (R166). -/
def ipKey (sl : Nat) (p : Pipe) (ip tc : Nat) : Nat := skey sl ((p.code * 8 + ip) * 8 + tc)

/-- Headroom cells that an ingress port holds. -/
def State.headUsed (s : State) (sl : Nat) (p : Pipe) (ip : Nat) : Nat :=
  (List.range 8).foldl (fun a t => a + mget 0 s.tm.headBy (ipKey sl p ip t)) 0

/-- A TC of an ingress port is lossless (R162). -/
def State.lossless (s : State) (sl : Nat) (p : Pipe) (ip tc : Nat) : Bool :=
  let m := ingressPort sl p ip
  let fc := s.ob (Ix.port m) Sub.port_FLOW_CTRL
  !(p == .open && s.otnMode sl != 0) && (fc == 1 || (fc == 2 && bit (s.ob (Ix.port m) Sub.port_PFC_ENABLE) tc))

/-- Cells of a frame (R160). -/
def cellsOf (l : Nat) : Nat := (l + 255) / 256

/-- Take (`true`) or return cells of a class for an ingress port and TC. -/
def State.moveCells (take : Bool) (sl : Nat) (p : Pipe) (ip tc cls n : Nat) (s : State) : State :=
  let mv (v : Nat) : Nat := if take then v + n else v - n
  let k := ipKey sl p ip tc
  if cls = 2 then
    { s with tm := { s.tm with sharedUsed := mset 0 s.tm.sharedUsed (pkey sl p 0) (mv (mget 0 s.tm.sharedUsed (pkey sl p 0)))
                               sharedBy := mset 0 s.tm.sharedBy k (mv (mget 0 s.tm.sharedBy k)) } }
  else if cls = 3 then { s with tm := { s.tm with headBy := mset 0 s.tm.headBy k (mv (mget 0 s.tm.headBy k)) } }
  else s

/-! ### Flow control (R58, R166, R167) -/

/-- A MAC control frame without its FCS: pause, or PFC for one class (R58). -/
def pauseFrame (sa : Bytes) (pfc : Bool) (tc quanta : Nat) : Bytes :=
  padTo 60 ([0x01, 0x80, 0xC2, 0x00, 0x00, 0x01] ++ sa ++ be 2 0x8808 ++
    (if pfc then be 2 0x0101 ++ be 2 (2 ^ tc) ++ (List.range 8).flatMap (fun t => be 2 (if t = tc then quanta else 0))
     else be 2 0x0001 ++ be 2 quanta))

/-- The pacer rate of a port node in units of 100 kbit/s: the MAC or client rate less 200 ppm (R171). -/
def State.pacerRate (s : State) (sl : Nat) (p : Pipe) (n : Nat) : Nat :=
  let mac := match p with
    | .seal => if s.otnMode sl = 0 then 10000 * typeRate (s.ob (Ix.port (nodePort sl p n)) Sub.port_PORT_TYPE)
        else s.ob (Ix.otn sl (0x10 + n)) Sub.trib_MAC_RATE
    | .open => 10000 * typeRate (s.ob (Ix.port (nodePort sl p n)) Sub.port_PORT_TYPE)
  mac * 9998 / 10000

/-- The pacer rate in 2^-20 bytes per cycle, less 200 ppm before rounding (R171). -/
def State.pacerStep (s : State) (sl : Nat) (p : Pipe) (n : Nat) : Nat := perCycle (s.pointOf sl) (s.pacerRate sl p n)

/-- The pacer's credit now: it rises in each cycle that begins below 0 (R171). -/
def State.creditNow (s : State) (sl : Nat) (p : Pipe) (n : Nat) : Int :=
  let c := mget 0 s.tm.credit (pkey sl p n)
  let r := s.pacerStep sl p n
  let d := s.cyc sl - mget 0 s.tm.creditLast (pkey sl p n)
  if 0 ≤ c ∨ r = 0 then c else c + ((min d (((-c).toNat + r - 1) / r) * r : Nat) : Int)

/-- Charge the pacer of a port node (R171). -/
def State.chargePacer (sl : Nat) (p : Pipe) (n w : Nat) (s : State) : State :=
  let c := s.creditNow sl p n - ((w * 2 ^ 20 : Nat) : Int)
  { s with tm := { s.tm with credit := mset 0 s.tm.credit (pkey sl p n) c
                             creditLast := mset 0 s.tm.creditLast (pkey sl p n) (s.cyc sl) } }

/-- Send a pause or PFC frame out of an enabled ingress port with flow control; on a line port it takes a slot from the pacer
(R58, R167, R171). -/
def sendPause (sl : Nat) (p : Pipe) (ip tc quanta : Nat) (s : State) : State :=
  let m := ingressPort sl p ip
  let fc := s.ob (Ix.port m) Sub.port_FLOW_CTRL
  if fc ≠ 0 ∧ s.portOn m ∧ s.forms m then
    let b := pauseFrame (s.oct (Ix.port m) Sub.port_PAUSE_SA) (fc == 2) tc quanta
    let s := sendOut m (.macControl m b) (withFcs b) false (s.mark (Timer.pause (8 * m + tc)))
    match p with
    | .open => s.chargePacer sl .seal ip 84
    | .seal => s
  else s

/-- Entry `t` of `XOFF_CELLS` or `XON_CELLS`. -/
def State.fcLimit (s : State) (ix sub_ t : Nat) : Nat := fld (s.oct ix sub_) (2 * t) 2

/-- The XOFF state of one class after a change of its counts (R166). -/
def State.xoffNext (s : State) (ix t sc hc : Nat) : Bool :=
  let was := bit (s.ob ix Sub.tmClient_FC_STATE) t
  if s.fcLimit ix Sub.tmClient_XOFF_CELLS t ≤ sc ∨ 0 < hc then true
  else if sc ≤ s.fcLimit ix Sub.tmClient_XON_CELLS t ∧ hc = 0 then false
  else was

/-- One class's flow control: a change of state sends a frame (R166, R167). -/
def flowClass (sl : Nat) (p : Pipe) (ip t sc hc : Nat) (s : State) : State :=
  let ix := ingressIx sl p ip
  let was := bit (s.ob ix Sub.tmClient_FC_STATE) t
  let now := s.xoffNext ix t sc hc
  if was = now then s
  else
    let m := ingressPort sl p ip
    let s := s.put ix Sub.tmClient_FC_STATE (setBit (s.ob ix Sub.tmClient_FC_STATE) t now)
    let q := if now then minsert s.lanes.pausing (8 * m + t) 1 else merase s.lanes.pausing (8 * m + t)
    let s := { s with lanes := { s.lanes with pausing := q } }
    sendPause sl p ip t (if now then s.ob (Ix.port m) Sub.port_PAUSE_QUANTA else 0) s

/-- A class's flow control is in force: with pause, that of class 0 stands for all (R162, R166). -/
def State.governs (s : State) (sl : Nat) (p : Pipe) (ip t : Nat) : Bool :=
  s.lossless sl p ip t && (t == 0 || s.ob (Ix.port (ingressPort sl p ip)) Sub.port_FLOW_CTRL == 2)

/-- A class whose flow control is not in force is in XON, and no frame is sent for it (R58, log 99). -/
def flowOff (sl : Nat) (p : Pipe) (ip t : Nat) (s : State) : State :=
  let ix := ingressIx sl p ip
  if bit (s.ob ix Sub.tmClient_FC_STATE) t then
    let s := s.put ix Sub.tmClient_FC_STATE (setBit (s.ob ix Sub.tmClient_FC_STATE) t false)
    { s with lanes := { s.lanes with pausing := merase s.lanes.pausing (8 * ingressPort sl p ip + t) } }
  else s

/-- The tests of R166 for an ingress port: made when its cells move, and when what they test is written. -/
def flowUpdate (sl : Nat) (p : Pipe) (ip : Nat) (s : State) : State :=
  let pause := s.ob (Ix.port (ingressPort sl p ip)) Sub.port_FLOW_CTRL == 1
  let sum (c : SMap Nat) (k : Nat) : Nat :=
    if pause then (List.range 8).foldl (fun a t => a + mget 0 c (ipKey sl p ip t)) 0 else mget 0 c (ipKey sl p ip k)
  (List.range 8).foldl (fun t k =>
    if t.governs sl p ip k then flowClass sl p ip k (sum t.tm.sharedBy k) (sum t.tm.headBy k) t
    else flowOff sl p ip k t) s

/-- `FLOW_CTRL` or `PFC_ENABLE` of a port has been written: its classes are tested anew (R166). -/
def flowSettle (m : Nat) (s : State) : State :=
  if isLine m then flowUpdate (sliceOfPort m) .open (m % 8) s else flowUpdate (sliceOfPort m) .seal (m % 8) s

/-- `PAUSE_REFRESH_TIMER`: the frame of each class still in XOFF is repeated, `PAUSE_REFRESH` quanta after the last of that class
(R58, R167). -/
def pauseRefresh (m : Nat) (s : State) : State :=
  let sl := sliceOfPort m
  let p : Pipe := if isLine m then .open else .seal
  (List.range 8).foldl (fun t k =>
    if (mfind t.lanes.pausing (8 * m + k)).isSome
        ∧ t.past (Timer.pause (8 * m + k)) (t.quantaNs m (t.ob (Ix.port m) Sub.port_PAUSE_REFRESH)) then
      sendPause sl p (m % 8) k (t.ob (Ix.port m) Sub.port_PAUSE_QUANTA) t
    else t) s

/-! ### Admission (R159, R163, R164) -/

/-- The class that takes `n` cells of a frame, if one can, and otherwise the counter of the discard (R163). -/
def State.admitClass (s : State) (sl : Nat) (p : Pipe) (q ip : Nat) (f : Frm) (n : Nat) : Nat × Nat :=
  let a := s.admAt sl p q
  if f.colour = 1 ∧ Adm.yellowCells a < Adm.used a + n then (0, 3)
  else if Adm.used a + n ≤ Adm.minCells a then (1, 0)
  else if Adm.used a + n ≤ Adm.maxCells a ∧ n ≤ s.sharedFree sl p then (2, 0)
  else if s.lossless sl p ip f.tc then
    (if n + s.headUsed sl p ip ≤ s.ob (ingressIx sl p ip) Sub.tmClient_HEADROOM_CELLS then (3, 0) else (0, 5))
  else (0, 4)

/-- The port node of a queue, through its group (R168). -/
def State.queueNode (s : State) (sl : Nat) (p : Pipe) (q : Nat) : Nat :=
  Que.port (s.groupAt sl p (Que.group (s.queueAt sl p q)))

/-- `FRAME_ADMIT` of R163: a frame for queue `q` from ingress port `ip`, whose client port is `c`, is enqueued or
discarded. -/
def admitFrame (sl : Nat) (p : Pipe) (q ip c : Nat) (f : Frm) (s : State) : State :=
  let e := s.queueAt sl p q
  let n := cellsOf f.len
  let f := { f with tag := f.tag.map (fun g => match p with | .seal => { g with t2 := some s.time.now } | .open => g) }
  if !Que.valid e || s.queueNode sl p q != f.node then discardAs sl p (Ctr.port c + Ctr.TM_NO_QUEUE) f s
  else
    let d := s.admitClass sl p q ip f n
    if d.1 = 0 then tagEnd sl p none { f with queue := q } (s.qbump sl p q d.2 1)
    else
      let a := s.admAt sl p q
      let f := { f with queue := q, cells := n, cls := d.1, enqNs := s.ns, depth := Adm.used a + n }
      let s := (s.putAdm sl p q (Adm.setUsed a (Adm.used a + n))).moveCells true sl p ip f.tc d.1 n
      let s := ((s.putHeld sl p q (s.heldAt sl p q ++ [f])).qbump sl p q 0 1).qbump sl p q 1 f.len
      flowUpdate sl p ip s

/-- The cells of a frame return to the class that took them (R165). -/
def returnCells (sl : Nat) (p : Pipe) (f : Frm) (s : State) : State :=
  let a := s.admAt sl p f.queue
  let s := (s.putAdm sl p f.queue (Adm.setUsed a (Adm.used a - f.cells))).moveCells false sl p (f.inPort % 8) f.tc f.cls f.cells
  flowUpdate sl p (f.inPort % 8) s

/-- `CELLS_RETURN`: the last word of the oldest dequeued frame has been read; its cells return. Reads of the OPEN pipe take 40 to
216 cycles each, and the spec does not say whether a later one may end first: DESIGN CHOICE, the oldest frame's cells return first
(R165, log 131). -/
def cellsReturn (sl : Nat) (open_ : Bool) (s : State) : State :=
  let p : Pipe := if open_ then .open else .seal
  match mget [] s.tm.leaving (pkey sl p 0) with
  | [] => s
  | f :: t => returnCells sl p f { s with tm := { s.tm with leaving := mset [] s.tm.leaving (pkey sl p 0) t } }

/-! ### The scheduler (R170 to R172) -/

/-- A shaper's fill now, for a queue or group image. -/
def State.tokensNow (s : State) (sl e : Nat) : Int :=
  refillTo (Que.burst e) (Que.tokens e) (s.since sl (Que.last e)) (perCycle (s.pointOf sl) (Que.rate e))

/-- The shaper of a queue or group image lets it send. -/
def State.shaperOpen (s : State) (sl e : Nat) : Bool := !Que.shapeEn e || decide (0 ≤ s.tokensNow sl e)

/-- A port node's fill now. -/
def State.nodeTokensNow (s : State) (sl : Nat) (p : Pipe) (n : Nat) : Int :=
  let ix := nodeIx sl p n
  refillTo (s.ob ix Sub.tmClient_SHAPE_BURST) (mget 0 s.tm.nodeTokens (pkey sl p n))
    (s.cyc sl - mget 0 s.tm.nodeLast (pkey sl p n)) (perCycle (s.pointOf sl) (s.ob ix Sub.tmClient_SHAPE_RATE))

/-- A class is paused toward a port (R57). -/
def State.paused (s : State) (m tc : Nat) : Bool := (mfind s.lanes.paused (8 * m + tc)).isSome

/-- Trackers of a pipe in use: frames of the ingress and the egress segments (R25); `verify` are the frames in the
verify store. -/
def State.trackers (s : State) (sl : Nat) (p : Pipe) (verify : Nat) : Nat :=
  (mget [] s.eng.egress (2 * sl + p.code)).length + (match p with
    | .seal => (mget [] s.tm.arriving sl).length
    | .open => verify)

/-- A queue is eligible, its node and slice apart (R170). -/
def State.queueEligible (s : State) (sl : Nat) (p : Pipe) (n q : Nat) : Bool :=
  let e := s.queueAt sl p q
  Que.valid e && s.heldAt sl p q != [] && s.shaperOpen sl e && !s.paused (nodePort sl p n) (Que.tc e)

/-- The valid queues of a group. -/
def State.groupQueues (s : State) (sl : Nat) (p : Pipe) (g : Nat) : List Nat :=
  ((pipeEntries s.tm.queue sl p).filter (fun x => Que.valid x.2 && Que.group x.2 == g)).map (·.1)

/-- The valid groups of a port node. -/
def State.nodeGroups (s : State) (sl : Nat) (p : Pipe) (n : Nat) : List Nat :=
  ((pipeEntries s.tm.group sl p).filter (fun x => Que.valid x.2 && Que.port x.2 == n)).map (·.1)

/-- The eligible queues of a group (R170). -/
def State.readyQueues (s : State) (sl : Nat) (p : Pipe) (n g : Nat) : List Nat :=
  if s.shaperOpen sl (s.groupAt sl p g) then (s.groupQueues sl p g).filter (s.queueEligible sl p n) else []

/-- The eligible groups of a node (R170). -/
def State.readyGroups (s : State) (sl : Nat) (p : Pipe) (n : Nat) : List Nat :=
  (s.nodeGroups sl p n).filter (fun g => s.readyQueues sl p n g != [])

/-- The unit is one of a pair and standby: it runs in shadow (R421, R422). -/
def State.shadow (s : State) : Bool := s.obB 0x4800 Sub.pair_PAIR_ENABLE && !s.obB 0x4801 Sub.pairStat_ROLE

/-- The slice runs: it is enabled, started, ungated, and no reset or missing clock holds it (R32). -/
def State.sliceRuns (s : State) (sl : Nat) : Bool :=
  s.sliceOn sl && !s.rst.gap && !s.pwr.vigil && !s.dark && !s.gated sl && !s.blockHeld 0 sl && !s.clockHeld 0 sl

/-- The port or tributary behind a port node is in use. -/
def State.nodeUsed (s : State) (sl : Nat) (p : Pipe) (n : Nat) : Bool :=
  let m := nodePort sl p n
  !s.portHeld m && !s.clockHeld 2 m && (match p with
    | .seal => if s.otnMode sl = 0 then s.portOn m else s.obB (Ix.otn sl (0x10 + n)) Sub.trib_TRIB_ENABLE
    | .open => s.portOn m)

/-- The pipe dequeues: a SEAL pipe only while it runs; an OPEN pipe that is held or stopped discards at entry, and what it
released before goes on (R207, R213). -/
def State.pipeServes (s : State) (sl : Nat) (p : Pipe) : Bool :=
  let v := s.ob (Ix.pipe sl p.code) Sub.pipe_PIPE_STATE
  match p with
  | .seal => v == 0
  | .open => v != 3

/-- The pipe may dequeue toward a port node: the slice runs and the pipe serves, the unit does not yield the ports of a
pair (R408, R430, R434), no takeover holds the node (R432), and a client port transmits no propagated fault (R54, R260). -/
def State.serves (s : State) (sl : Nat) (p : Pipe) (n : Nat) : Bool :=
  s.sliceRuns sl && s.nodeUsed sl p n && s.pipeServes sl p
    && !s.pair.yielding && !s.pair.stopping && (s.shadow || !s.obB 0x4800 Sub.pair_PAIR_ENABLE || s.pair.selAct)
    && (match p with
      | .seal => !s.pair.sealHold
      | .open => !s.pair.openHold.contains (nodePort sl .open n) && !s.propagates (nodePort sl .open n))

/-- A port node is eligible: its shaper, its pacer, a free tracker, no hold, and an eligible group (R170, R31). -/
def State.nodeEligible (s : State) (sl : Nat) (p : Pipe) (verify n : Nat) : Bool :=
  s.serves sl p n && (!s.obB (nodeIx sl p n) Sub.tmClient_SHAPE_EN || decide (0 ≤ s.nodeTokensNow sl p n))
    && decide (0 ≤ s.creditNow sl p n) && decide (s.trackers sl p verify < 1024) && !s.pointHold sl && !s.held
    && s.readyGroups sl p n != []

/-- Take the member at the head of the round: one whose deficit is not above 0 gains its quantum and goes to the back
(R172). Members that may not be taken keep their place in `seen`. -/
def pickRound (ok : Nat → Bool) (weight : Nat → Nat) : Nat → List Nat → List Nat → (Nat → Int) →
    Option (Nat × List Nat × (Nat → Int))
  | 0, _, _, _ => none
  | _ + 1, [], _, _ => none
  | k + 1, h :: t, seen, d =>
    if ok h then
      (if 0 < d h then some (h, seen ++ h :: t, d)
       else pickRound ok weight k (seen ++ t ++ [h]) [] (fun i => if i = h then d h + ((weight h * 64 : Nat) : Int) else d i))
    else pickRound ok weight k t (seen ++ [h]) d

/-- A round: the stored order, with members not yet in it at its end and those gone left out. -/
def roundOf (stored members : List Nat) : List Nat :=
  stored.filter members.contains ++ members.filter (fun m => !stored.contains m)

/-- The members at the lowest PRIO present (R172). -/
def lowestPrio (prio : Nat → Nat) (l : List Nat) : List Nat :=
  let m := l.foldl (fun a x => min a (prio x)) 8
  l.filter (fun x => prio x == m)

/-- The quanta of `q` bytes that a deficit needs to come above 0 (R172). -/
def quantaNeeded (d : Int) (q : Nat) : Nat := if 0 < d then 0 else (-d).toNat / q + 1

/-- Pick from a set in its round (R172). While no member's deficit can come above 0, whole rounds pass in which each member that
may be taken gains its quantum: those rounds are taken at once, and the rest one by one. -/
def pick (stored members ready : List Nat) (prio weight : Nat → Nat) (d : Nat → Int) :
    Option (Nat × List Nat × (Nat → Int)) :=
  let r := roundOf stored members
  let ok := (lowestPrio prio ready).contains
  let mine := r.filter ok
  match ((mine.filter (fun i => weight i != 0)).map (fun i => quantaNeeded (d i) (weight i * 64))).min? with
  | none => none
  | some 0 => pickRound ok weight ((r.length + 1) * (r.length + 1)) r [] d
  | some n =>
    pickRound ok weight ((r.length + 1) * (r.length + 1)) (r.filter (fun i => !ok i) ++ mine) []
      (fun i => if mine.contains i then d i + ((n * (weight i * 64) : Nat) : Int) else d i)

/-- Dequeue the head frame of the queue that a port node picks (R172). Deficits gained on the way are kept. -/
def dequeueNode (sl : Nat) (p : Pipe) (n : Nat) (s : State) : Option (Frm × State) :=
  let gd (i : Nat) : Int := Que.deficit (s.groupAt sl p i)
  match pick (mget [] s.tm.groupRound (pkey sl p n)) (s.nodeGroups sl p n) (s.readyGroups sl p n)
      (fun i => Que.prio (s.groupAt sl p i)) (fun i => Que.weight (s.groupAt sl p i)) gd with
  | none => none
  | some (g, gr, gd') =>
    match pick (mget [] s.tm.queueRound (pkey sl p g)) (s.groupQueues sl p g) (s.readyQueues sl p n g)
        (fun i => Que.prio (s.queueAt sl p i)) (fun i => Que.weight (s.queueAt sl p i))
        (fun i => Que.deficit (s.queueAt sl p i)) with
    | none => none
    | some (q, qr, qd') =>
      let s := { s with tm := { s.tm with groupRound := mset [] s.tm.groupRound (pkey sl p n) gr
                                          queueRound := mset [] s.tm.queueRound (pkey sl p g) qr } }
      let s : State := gr.foldl (fun (t : State) i => t.putGroup sl p i (Que.setDeficit (t.groupAt sl p i) (gd' i))) s
      let s : State := qr.foldl (fun (t : State) i => t.putQueue sl p i (Que.setDeficit (t.queueAt sl p i) (qd' i))) s
      match s.heldAt sl p q with
      | [] => none
      | f :: t => some (f, (s.putHeld sl p q t).qbump sl p q 2 1)

/-- Refill a shaper image and charge it `c` bytes where it is in force (R172). -/
def State.chargeShaper (s : State) (sl e : Nat) (c : Int) : Nat :=
  if Que.shapeEn e then Que.setTokens e (s.tokensNow sl e - c * 1048576) (s.cyc sl % 2 ^ 16) else e

/-- Charge a dequeued frame: C to the shapers and deficits of its queue, group and node, W to the pacer (R172). -/
def chargeFrame (sl : Nat) (p : Pipe) (f : Frm) (s : State) : State :=
  let c := s.counted sl p f
  let q := s.queueAt sl p f.queue
  let gi := Que.group q
  let g := s.groupAt sl p gi
  let q' := Que.setDeficit (s.chargeShaper sl q c) (Que.deficit q - c)
  let g' := Que.setDeficit (s.chargeShaper sl g c) (Que.deficit g - c)
  let w := s.wireLen sl p f
  let nt := s.nodeTokensNow sl p f.node - c * 1048576
  let on := s.obB (nodeIx sl p f.node) Sub.tmClient_SHAPE_EN
  let s := (s.putQueue sl p f.queue q').putGroup sl p gi g'
  let s := if on then
      { s with tm := { s.tm with nodeTokens := mset 0 s.tm.nodeTokens (pkey sl p f.node) nt
                                 nodeLast := mset 0 s.tm.nodeLast (pkey sl p f.node) (s.cyc sl) } }
    else s
  s.chargePacer sl p f.node w

/-- The dequeued frame holds its cells until its last word is read (R165). -/
def State.leave (sl : Nat) (p : Pipe) (f : Frm) (s : State) : State :=
  { s with tm := { s.tm with leaving := mset [] s.tm.leaving (pkey sl p 0) (mget [] s.tm.leaving (pkey sl p 0) ++ [f]) } }

/-- One dequeue of a pipe's scheduler: the first eligible port node in the round from the one after the last served
gives a frame (R172). `serve` takes it. -/
def schedule (sl : Nat) (p : Pipe) (verify : Nat) (serve : Frm → State → State) (s : State) : State :=
  let start := mget 7 s.tm.served (pkey sl p 0) + 1
  match ((List.range 8).map (fun k => (start + k) % 8)).find? (s.nodeEligible sl p verify) with
  | none => s
  | some n =>
    match dequeueNode sl p n s with
    | some (f, t) => serve f { t with tm := { t.tm with served := mset 7 t.tm.served (pkey sl p 0) n } }
    | none => s

/-! ### Background visits (R158, R174) -/

/-- `BUCKET_REFILL_VISIT`: a policer (kind 0), queue (1), group (2) or port node (3) is refilled (R158). -/
def bucketRefill (sl : Nat) (open_ : Bool) (kind i : Nat) (s : State) : State :=
  let p : Pipe := if open_ then .open else .seal
  let sh (e : Nat) : Nat := Que.setTokens e (s.tokensNow sl e) (s.cyc sl % 2 ^ 16)
  match kind with
  | 0 => s.putPol sl i (s.refillPol sl (mget 0 s.tm.policer (skey sl i)))
  | 1 => s.putQueue sl p i (sh (s.queueAt sl p i))
  | 2 => s.putGroup sl p i (sh (s.groupAt sl p i))
  | _ => { s with tm := { s.tm with nodeTokens := mset 0 s.tm.nodeTokens (pkey sl p i) (s.nodeTokensNow sl p i)
                                    nodeLast := mset 0 s.tm.nodeLast (pkey sl p i) (s.cyc sl) } }

/-- `QUEUE_SAMPLE_VISIT`: the sampler records the next queue (R174, R627). -/
def sampleVisit (sl : Nat) (open_ : Bool) (s : State) : State :=
  let p : Pipe := if open_ then .open else .seal
  if !s.obB (Ix.tm sl 0) Sub.tm_SAMPLE_ENABLE || s.gated sl || s.dark then s
  else
    let q := mget 0 s.tm.samplePos (pkey sl p 0)
    let depth := Adm.used (s.admAt sl p q)
    let soj := match s.heldAt sl p q with
      | [] => 0
      | f :: _ => min (s.ns - f.enqNs) 0xFFFF_FFFF
    let fresh := s.tm.restart.contains (pkey sl p q)
    let old (n : Nat) := if fresh then 0 else mget 0 s.tm.queueCnt (pkey sl p q * 16 + n)
    let mx7 := max (old 7) depth
    let mx9 := max (old 9) soj
    let s := (((s.qset sl p q 6 depth).qset sl p q 7 mx7).qset sl p q 8 soj).qset sl p q 9 mx9
    let pos := mget 0 s.tm.ringPos (pkey sl p 0)
    { s with tm := { s.tm with
        restart := s.tm.restart.filter (· != pkey sl p q)
        samplePos := mset 0 s.tm.samplePos (pkey sl p 0) ((q + 1) % 1024)
        ring := mset [] s.tm.ring (pkey sl p pos) (be 2 q ++ be 2 depth ++ be 4 soj ++ be 8 s.ns)
        ringPos := mset 0 s.tm.ringPos (pkey sl p 0) ((pos + 1) % 1024) } }

/-- A slice changed its core clock between `old` and now: bucket fills are kept and LAST restarts (R158), and each pacer keeps
the credit that it had (R171). -/
def restartLast (old : State) (sl : Nat) (s : State) : State :=
  let now := s.cyc sl % 2 ^ 16
  let on (m : SMap Nat) : SMap Nat := m.map (fun x => if x.1 / 2 ^ 20 = sl then (x.1, setBits x.2 15 0 now) else x)
  let keep (m : SMap Nat) : SMap Nat := (on m).filter (fun x => x.2 != 0)
  let nodes : List (Pipe × Nat) := (List.range 8).flatMap (fun n => [(.seal, n), (.open, n)])
  let credit := nodes.foldl (fun m x => mset 0 m (pkey sl x.1 x.2) (old.creditNow sl x.1 x.2)) s.tm.credit
  let last := nodes.foldl (fun m x => mset 0 m (pkey sl x.1 x.2) (s.cyc sl)) s.tm.creditLast
  { s with tm := { s.tm with policer := keep s.tm.policer, queue := keep s.tm.queue, group := keep s.tm.group
                             nodeLast := s.tm.nodeLast.map (fun x => if x.1 / 2 ^ 20 = sl then (x.1, s.cyc sl) else x)
                             credit := credit, creditLast := last } }

/-! ### The window (R176 to R179) -/

/-- The window's index. -/
abbrev tmIx (sl : Nat) : Nat := Ix.tm sl 1

/-- The table, index and pipe that the window names: 0 policer, 1 queue, 2 group, 3 admission. -/
def State.tmTable (s : State) (sl : Nat) : Nat := s.ob (tmIx sl) Sub.tmWin_TM_TABLE
def State.tmIndex (s : State) (sl : Nat) : Nat := s.ob (tmIx sl) Sub.tmWin_TM_INDEX
def State.tmPipe (s : State) (sl : Nat) : Pipe := if s.ob (tmIx sl) Sub.tmWin_TM_PIPE = 0 then .seal else .open

/-- The size of a table, and of its image in octets (R175, R177). -/
def tmSize (t : Nat) : Nat := if t = 0 then 4096 else if t = 2 then 128 else 1024
def tmOctets (t : Nat) : Nat := if t = 0 then 28 else if t = 3 then 8 else 20

/-- An entry's image. -/
def State.tmImage (s : State) (sl : Nat) : Nat :=
  match s.tmTable sl with
  | 0 => mget 0 s.tm.policer (skey sl (s.tmIndex sl))
  | 1 => s.queueAt sl (s.tmPipe sl) (s.tmIndex sl)
  | 2 => s.groupAt sl (s.tmPipe sl) (s.tmIndex sl)
  | _ => s.admAt sl (s.tmPipe sl) (s.tmIndex sl)

/-- READ (R177, R179). An image shorter than `TM_DATA`, `TM_MASK` or `TM_COUNTERS` stands at its front, with zeros after: DESIGN
CHOICE (log 132). -/
def tmRead (sl : Nat) (s : State) : State × Status :=
  let t := s.tmTable sl
  if tmSize t ≤ s.tmIndex sl ∨ (t = 0 ∧ s.tmPipe sl = .open) then (s, .range)
  else (s.putO (tmIx sl) Sub.tmWin_TM_DATA (padTo 28 (be (tmOctets t) (s.tmImage sl))), .ok)

/-- A mask with bits `[hi:lo]` set. -/
def fieldMask (hi lo : Nat) : Nat := 2 ^ (hi + 1) - 2 ^ lo

/-- The zero fields and the fields that the device sets, as masks (R155, R168). -/
def tmZero (t : Nat) : Nat :=
  match t with
  | 0 => fieldMask 222 208 + fieldMask 21 16
  | 1 => fieldMask 23 16
  | 2 => fieldMask 158 155 + fieldMask 151 149 + fieldMask 23 16
  | _ => 0
def tmDevice (t : Nat) : Nat :=
  match t with
  | 0 => fieldMask 111 22 + fieldMask 15 0
  | 3 => fieldMask 15 0
  | _ => fieldMask 86 24 + fieldMask 15 0

/-- The reserved and headroom classes of a pipe when queue `q` has the image `e` and admission image `a` (R161). -/
def State.classesWith (s : State) (sl : Nat) (p : Pipe) (q e a : Nat) : Nat :=
  let cur := if Que.valid (s.queueAt sl p q) then Adm.minCells (s.admAt sl p q) else 0
  s.reservedClass sl p - cur + (if Que.valid e then Adm.minCells a else 0) + s.headroomClass sl p

/-- The first failing check of a WRITE of image `e` over `old` (R177). -/
def State.tmCheck (s : State) (sl t i : Nat) (p : Pipe) (old e mask : Nat) : Status :=
  if tmSize t ≤ i ∨ e &&& tmZero t ≠ 0 ∨ mask &&& tmDevice t ≠ 0 then .range
  else match t with
  | 0 =>
    if p = .open ∨ (Pol.enable e ∧ (Pol.pir e < Pol.cir e ∨ Pol.cbs e < 64 ∨ Pol.pbs e < 64)) then .range else .ok
  | 1 =>
    if Que.valid e ∧ (Que.weight e = 0 ∨ !Que.valid (s.groupAt sl p (Que.group e))) then .range
    else if Que.valid e ∧ poolCells < s.classesWith sl p i e (s.admAt sl p i) then .range
    else if 0 < Adm.used (s.admAt sl p i) ∧ Que.valid old ∧ (!Que.valid e || Que.group e != Que.group old) then .busy
    else .ok
  | 2 =>
    if Que.valid e ∧ Que.weight e = 0 then .range
    else if Que.valid old ∧ (!Que.valid e || Que.port e != Que.port old) ∧ s.groupQueues sl p i ≠ [] then .busy
    else .ok
  | _ =>
    if Adm.maxCells e < Adm.minCells e ∨ Adm.maxCells e < Adm.yellowCells e
      ∨ poolCells < s.classesWith sl p i (s.queueAt sl p i) e then .range
    else .ok

/-- The fills of a written policer or shaper: full when enabled, otherwise clipped to the new size (R178). -/
def State.tmFill (s : State) (sl t old e : Nat) : Nat :=
  let now := s.cyc sl % 2 ^ 16
  let cap (n : Nat) : Int := ((n * 2 ^ 20 : Nat) : Int)
  match t with
  | 0 =>
    if Pol.enable e ∧ !Pol.enable old then Pol.set e (cap (Pol.cbs e)) (cap (Pol.pbs e)) now
    else Pol.set e (min (cap (Pol.cbs e)) (Pol.tc e)) (min (cap (Pol.pbs e)) (Pol.tp e)) (Pol.last e)
  | 3 => e
  | _ =>
    if Que.shapeEn e ∧ !Que.shapeEn old then Que.setTokens e (cap (Que.burst e)) now
    else Que.setTokens e (min (cap (Que.burst e)) (Que.tokens e)) (Que.last e)

/-- WRITE (R177, R178). -/
def tmWrite (sl : Nat) (s : State) : State × Status :=
  let t := s.tmTable sl
  let i := s.tmIndex sl
  let p := s.tmPipe sl
  let n := tmOctets t
  let mask := fld (s.oct (tmIx sl) Sub.tmWin_TM_MASK) 0 n
  let old := s.tmImage sl
  let e := maskMerge old (fld (s.oct (tmIx sl) Sub.tmWin_TM_DATA) 0 n) mask
  match s.tmCheck sl t i p old e mask with
  | .ok =>
    let e := s.tmFill sl t old e
    (match t with
      | 0 => s.putPol sl i e
      | 1 => s.putQueue sl p i e
      | 2 => s.putGroup sl p i e
      | _ => s.putAdm sl p i e, .ok)
  | st => (s, st)

/-- READ_COUNTERS (R179); a held snapshot answers in place of the live counters (R620). -/
def tmReadCounters (sl : Nat) (s : State) : State × Status :=
  let t := s.tmTable sl
  let i := s.tmIndex sl
  let p := s.tmPipe sl
  if tmSize t ≤ i ∨ 2 ≤ t ∨ (t = 0 ∧ p = .open) then (s, .range)
  else if t = 0 then
    let m := if s.tel.held then s.tel.pol else s.tm.polCnt
    (s.putO (tmIx sl) Sub.tmWin_TM_COUNTERS
      (padTo 80 ((List.range 6).flatMap (fun n => be 8 (mget 0 m (skey sl i * 16 + n))))), .ok)
  else
    let m := if s.tel.held then s.tel.que else s.tm.queueCnt
    let s := s.putO (tmIx sl) Sub.tmWin_TM_COUNTERS
      ((List.range 10).flatMap (fun n => be 8 (mget 0 m (pkey sl p i * 16 + n))))
    ({ s with tm := { s.tm with restart := s.tm.restart ++ [pkey sl p i] } }, .ok)

/-- A window operation, whose access the datapath may delay (R176). -/
def tmTimed (sl : Nat) (act : State → State × Status) (s : State) : State × Status :=
  State.retry (Ix.tm sl 0) Sub.tm_TM_WINDOW_RETRIES (act s)

/-- A window operation by its code (R177). -/
def tmOp (sl code : Nat) : State → State × Status :=
  sliceOp sl (match code with
    | 1 => tmTimed sl (tmRead sl)
    | 2 => tmTimed sl (tmWrite sl)
    | 3 => tmTimed sl (tmReadCounters sl)
    | _ => fun s => (s, .ok))

/-! ### Writes of this chapter's objects (R161, R162, R184, R185) -/

/-- Each entry of XON is at most its entry of XOFF (R184). -/
def xonFits (xoff xon : Bytes) : Bool := (List.range 8).all (fun t => decide (fld xon (2 * t) 2 ≤ fld xoff (2 * t) 2))

/-- A port node's shaper is full (R178, R180). -/
def fillNode (sl : Nat) (p : Pipe) (n : Nat) (s : State) : State :=
  let full : Int := ((s.ob (nodeIx sl p n) Sub.tmClient_SHAPE_BURST * 2 ^ 20 : Nat) : Int)
  { s with tm := { s.tm with nodeTokens := mset 0 s.tm.nodeTokens (pkey sl p n) full
                             nodeLast := mset 0 s.tm.nodeLast (pkey sl p n) (s.cyc sl) } }

/-- Every port-node shaper that is on is full (R180). -/
def fillNodes (s : State) : State :=
  ((List.range 4).flatMap (fun sl => (List.range 8).flatMap (fun n => [(sl, Pipe.seal, n), (sl, Pipe.open, n)]))).foldl
    (fun t x => if t.obB (nodeIx x.1 x.2.1 x.2.2) Sub.tmClient_SHAPE_EN then fillNode x.1 x.2.1 x.2.2 t else t) s

/-- A write to a port's traffic-manager objects: pipe whose ingress port it is, and local number (R161, R184, R185). -/
def tmPortWrite (sl : Nat) (p : Pipe) (n sub_ : Nat) (v : Val) (s : State) : State × Status :=
  let ix := ingressIx sl p n
  match v with
  | .oct b =>
    let xoff := if sub_ = Sub.tmClient_XOFF_CELLS then b else s.oct ix Sub.tmClient_XOFF_CELLS
    let xon := if sub_ = Sub.tmClient_XON_CELLS then b else s.oct ix Sub.tmClient_XON_CELLS
    if xonFits xoff xon then (flowUpdate sl p n (s.putO ix sub_ b), .ok) else (s, .range)
  | .num k =>
    if p = .open ∧ sub_ < 7 then (s, .range)
    else if sub_ = Sub.tmClient_HEADROOM_CELLS ∧
        (poolCells < s.reservedClass sl p + (s.headroomClass sl p - s.ob ix Sub.tmClient_HEADROOM_CELLS + k)
          ∨ (p = .open ∧ s.otnMode sl ≠ 0 ∧ k ≠ 0)) then (s, .range)
    else if sub_ = Sub.tmClient_SHAPE_EN ∧ k = 1 ∧ s.ob ix sub_ = 0 then
      ((fillNode sl (match p with | .seal => .open | .open => .seal) n s).put ix sub_ k, .ok)
    else (s.put ix sub_ k, .ok)

/-! ### The commands -/

/-- A row of the traffic-manager window. -/
def rowTm (c : Caller) (sl code : Nat) (act : State → State × Status) (s : State) : State :=
  rowWindow c (tmIx sl) Sub.tmWin_TM_OP Sub.tmWin_TM_STATUS code (sliceOp sl (tmTimed sl act)) s

/-- `CELLS_RETURN` (R165). -/
def execCellsReturn (sl : Nat) (open_ : Bool) (s : State) : Out := .next (cellsReturn sl open_ s)

/-- `PAUSE_REFRESH_TIMER` (R58). -/
def execPauseRefreshTimer (m : Nat) (s : State) : Out := .next (pauseRefresh m s)

/-- `BUCKET_REFILL_VISIT` (R158). -/
def execBucketRefillVisit (sl : Nat) (open_ : Bool) (kind i : Nat) (s : State) : Out :=
  .next (bucketRefill sl open_ kind i s)

/-- `QUEUE_SAMPLE_VISIT` (R174). -/
def execQueueSampleVisit (sl : Nat) (open_ : Bool) (s : State) : Out := .next (sampleVisit sl open_ s)

/-- `TM_READ` (R177). -/
def execTmRead (c : Caller) (sl : Nat) (s : State) : Out := .next (rowTm c sl 1 (tmRead sl) s)

/-- `TM_WRITE` (R177). -/
def execTmWrite (c : Caller) (sl : Nat) (s : State) : Out := .next (rowTm c sl 2 (tmWrite sl) s)

/-- `TM_READ_COUNTERS` (R179). -/
def execTmReadCounters (c : Caller) (sl : Nat) (s : State) : Out := .next (rowTm c sl 3 (tmReadCounters sl) s)

end Sys2Proof.Machine
end

