-- ==== Sys2Proof/Machine/Tether.lean ====
section
/-! DEFINITION. The Tether's link (R60, R412), sending on it (R413, R414), and the records that checkpoints and CUE_SYNC carry
(R425). -/

namespace Sys2Proof.Machine

/-- The management ports and the Tether are powered and released (R590, R488). -/
def State.portsUp (s : State) : Bool := s.rst.step == 5 && !s.pwr.vigil && !s.dark

/-- The Tether carries words: its four lanes are aligned, and deskewed on their markers, of which no lane's comes more than 32 code
groups after another's (R59, R60, R412). -/
def State.tetherUp (s : State) : Bool :=
  (List.range 4).all (fun k => s.obB (0x1080 + k) Sub.sLane_CG_ALIGNED)
    && (List.range 4).all (fun j => (List.range 4).all (fun k =>
      decide (mget 0 s.pair.late (0x80 + j) ≤ mget 0 s.pair.late (0x80 + k) + 32)))

/-! ### The link (R412, R416) -/

/-- A frame as the four lanes carry it: K27.7 in lane 0, its octets, K29.7 directly after its CRC, and K28.5 to the end of that word
(R412). -/
def frameGroups (f : Bytes) : List CodeGroup :=
  let g := .k277 :: f.map .data ++ [.k297]
  g ++ List.replicate ((4 - g.length % 4) % 4) .k285

/-- The frame that is sent next: TYPE 1 to 8 before FIRMWARE frames, and in order within them (R416). -/
def TetherLink.first (t : TetherLink) : Option (Nat × Bytes) := (t.out.find? (·.1 != 9)).orElse (fun _ => t.out.head?)

/-- One word: of the frame in progress, else a marker that is due, else of the next frame, else four K28.5 (R412). -/
def TetherLink.next (t : TetherLink) : List CodeGroup × TetherLink :=
  let n := (t.words + 1) % 4096
  let t := { t with words := n, due := t.due || n == 0 }
  if t.cur ≠ [] then (t.cur.take 4, { t with cur := t.cur.drop 4 })
  else if t.due then (List.replicate 4 .k283, { t with due := false })
  else match t.first with
  | some f => ((frameGroups f.2).take 4, { t with cur := (frameGroups f.2).drop 4, out := t.out.erase f })
  | none => (List.replicate 4 .k285, t)

/-- One word leaves on the pins. -/
def tetherWord (s : State) : State :=
  let r := s.pair.link.next
  let s := { s with pair := { s.pair with link := r.2 } }
  if r.1 = List.replicate 4 .k285 then s else s.emit (.tetherWord r.1)

/-- The five words of the 625 MHz word clock in a period of 8 ns (R412). -/
def State.tetherWords (s : State) : State := if s.portsUp then tetherWord^[5] s else s

/-! ### Frames (R413, R414) -/

/-- The unit is active: unpaired, or in the active role (R405). -/
def State.active (s : State) : Bool := !s.obB 0x4800 Sub.pair_PAIR_ENABLE || s.obB 0x4801 Sub.pairStat_ROLE

/-- The unit is strapped home (R405). -/
def State.home (s : State) : Bool := s.ob 0x4801 Sub.pairStat_PAIR_STRAP == 0

/-- One Tether frame (R413). -/
def tetherFrame (home active : Bool) (kind seq : Nat) (payload : Bytes) : Bytes :=
  let b := be 1 kind ++ be 1 (home.toNat + 2 * active.toNat) ++ be 2 payload.length ++ be 4 seq ++ payload
  b ++ be 4 (crc32c b)

/-- Hand the link one frame of a type; its SEQ rises (R413). -/
def tetherOne (kind : Nat) (payload : Bytes) (s : State) : State :=
  let seq := mget 0 s.pair.txSeq kind
  let f := tetherFrame s.home s.active kind seq payload
  let s := s.emit (.tether kind f)
  { s with pair := { s.pair with txSeq := mset 0 s.pair.txSeq kind ((seq + 1) % 2 ^ 32)
                                 link := { s.pair.link with out := s.pair.link.out ++ [(kind, f)] } } }

/-- Send a payload: more than 512 octets travel in consecutive frames (R414). Nothing is sent on lanes that are not
aligned. -/
def tetherSend (kind : Nat) (payload : Bytes) (s : State) : State :=
  if s.tetherUp then
    (List.range (max 1 ((payload.length + 511) / 512))).foldl (fun t k => tetherOne kind (sub payload (512 * k) 512) t) s
  else s

/-! ### The pair (R405, R437, R441) -/

abbrev pairIx : Nat := 0x4800
abbrev psIx : Nat := 0x4801
abbrev swIx : Nat := 0x4802

def State.paired (s : State) : Bool := s.obB pairIx Sub.pair_PAIR_ENABLE
def State.roleOn (s : State) : Bool := s.obB psIx Sub.pairStat_ROLE
def State.pairState (s : State) : Nat := s.ob psIx Sub.pairStat_PAIR_STATE
def State.slices (s : State) : List Nat := (List.range 4).filter s.sliceOn

/-- The unit is one of a pair and its hardware runs: configured, out of DARK and VIGIL. -/
def State.pairRuns (s : State) : Bool := s.paired && !s.rst.gap && !s.pwr.vigil && !s.dark

/-- `PAIR_STATE` changes: the event, whose cause octet has no coding, the alarm of REFUSED, and the wait-to-restore timer
(R437, R439, R441, log 3). -/
def setPairState (v : Nat) (s : State) : State :=
  let old := s.pairState
  if old = v then s
  else
    let r := s.takeFree
    let s := (r.2.put psIx Sub.pairStat_PAIR_STATE v).raise 0x0B02 0xFF (be 1 v ++ be 1 (r.1 % 256))
    let s := if v = 6 then s.alarm 0x31 0 else s
    if v = 5 ∧ s.home ∧ !s.roleOn then { s with pair := { s.pair with wtr := some s.time.periods } }
    else if old = 5 then { s with pair := { s.pair with wtr := none } }
    else s

/-- A switch command of the away unit that has not been answered completes NOT_READY: the Tether is down (R435). -/
def cutCmd (s : State) : State :=
  match s.pair.cmd with
  | some c =>
    if !c.running ∧ !s.home then
      ({ s with pair := { s.pair with cmd := none } } : State).put swIx Sub.swWin_SW_STATUS Status.notReady.code
    else s
  | none => s

/-- The Tether is no longer aligned on all four lanes: the alarm while paired, and UNPAIRED. A standby in IN_SYNC keeps it until its
heartbeat loss has been decided, as the row of R430 for an active unit without power takes (R437, R441, log 150). -/
def tetherCut (s : State) : State :=
  if s.pairRuns then
    let s := cutCmd (s.alarm 0x30 0)
    if s.pairState = 0 ∨ (s.pairState = 5 ∧ !s.roleOn) then s else setPairState 0 s
  else s

/-! ### Records (R425) -/

/-- The record of a transmit SA (R425). -/
def State.recordSa (s : State) (sl i : Nat) : Bytes :=
  let e := s.saAt sl i
  be 1 1 ++ be 1 ((Sa.inUse e).toNat * 128 + (Sa.threshHit e).toNat * 64 + (Sa.exhausted e).toNat * 32 + Sa.an e * 8)
    ++ be 2 i ++ be 8 (Sa.nextPn e)

/-- The record of a transmit SC and its cue image (R425). -/
def State.recordSc (s : State) (sl i : Nat) : Bytes :=
  let q := mget 0 s.cue.tx (skey sl i)
  be 1 2 ++ be 1 (Txsc.encodingAn (s.txscAt sl i) * 64 + bits q 159 157 * 8 + bits q 150 150 * 4 + bits q 152 151)
    ++ be 2 i ++ zeros 8

/-- The record of a sealed tributary and its cue image (R425). -/
def State.recordTrib (s : State) (sl t : Nat) : Bytes :=
  let q := mget 0 s.cue.trib (skey sl t)
  be 1 3 ++ be 1 (s.ob (Ix.otn sl (0x30 + t)) Sub.sodu_TX_PHASE * 128 + bits q 154 151 * 8 + bits q 159 157)
    ++ be 2 t ++ be 8 (s.ob (Ix.otn sl (0x30 + t)) Sub.sodu_TX_MFN)

/-- The firmware says something to the peer's in FIRMWARE frames (R414). -/
def firmwareSay (m : Mirror) (s : State) : State := tetherSend 9 (Config.firmwareBody m.code) (s.emit (.mirror m))

/-- The firmware of the active unit of a pair mirrors what it does, from BULK on; while the cores are held it pauses (R427, R437, R440,
log 64). -/
def mirror (m : Mirror) (s : State) : State :=
  if s.paired && s.roleOn && s.tetherUp && decide (3 ≤ s.pairState) && decide (s.pairState ≤ 5) && !s.rst.coresHeld then firmwareSay m s
  else s

/-- The active unit of a pair sends a CUE_SYNC with changed records (R427). -/
def cueSync (sl : Nat) (records : Bytes) (s : State) : State :=
  if s.paired && s.roleOn then
    tetherSend 4 (be 1 sl ++ zeros 3 ++ records) s
  else s

end Sys2Proof.Machine
end

