-- ==== Sys2Proof/Machine/Cues.lean ====
section
/-! DEFINITION. Cues (chapter 07): the transmit cues, the tributary cues, the receive watches and the cue log. -/

namespace Sys2Proof.Machine

/-! ### Entries (R222, R232, R240) -/

/-! The fields of a transmit cue; a tributary cue shares those that R240 names again. -/

namespace Cue

abbrev state (e : Nat) : Nat := bits e 159 157
abbrev trigger (e : Nat) : Nat := bits e 156 155
abbrev nextAn (e : Nat) : Nat := bits e 154 153
abbrev countdown (e : Nat) : Nat := bits e 154 151
abbrev late (e : Nat) : Bool := bit e 150
abbrev nextPhase (e : Nat) : Nat := bits e 149 149
abbrev nextIndex (e : Nat) : Nat := bits e 135 128
abbrev handle (e : Nat) : Nat := bits e 127 96
abbrev time (e : Nat) : Nat := bits e 95 32
abbrev tag (e : Nat) : Nat := bits e 31 0
abbrev setState (e v : Nat) : Nat := setBits e 159 157 v
abbrev setLate (e : Nat) (v : Bool) : Nat := setBit e 150 v

end Cue

namespace Watch

abbrev state (e : Nat) : Nat := bits e 63 62
abbrev oldAn (e : Nat) : Nat := bits e 61 60
abbrev newAn (e : Nat) : Nat := bits e 59 58
abbrev retireMs (e : Nat) : Nat := bits e 47 32
abbrev tag (e : Nat) : Nat := bits e 31 0
abbrev setState (e v : Nat) : Nat := setBits e 63 62 v

end Watch

def State.cueAt (s : State) (sl i : Nat) : Nat := mget 0 s.cue.tx (skey sl i)
def State.tribCueAt (s : State) (sl t : Nat) : Nat := mget 0 s.cue.trib (skey sl t)
def State.watchAt (s : State) (sl i : Nat) : Nat := mget 0 s.cue.watch (skey sl i)
def State.putCue (sl i e : Nat) (s : State) : State :=
  { s with cue := { s.cue with tx := mset 0 s.cue.tx (skey sl i) e } }
def State.putTribCue (sl t e : Nat) (s : State) : State :=
  { s with cue := { s.cue with trib := mset 0 s.cue.trib (skey sl t) e } }
def State.putWatch (sl i e : Nat) (s : State) : State :=
  { s with cue := { s.cue with watch := mset 0 s.cue.watch (skey sl i) e } }

/-- A watch's retire delay in milliseconds (R231, R249). -/
def State.retireMs (s : State) (sl i : Nat) : Nat :=
  if Watch.retireMs (s.watchAt sl i) = 0 then s.ob (Ix.cue sl 0) Sub.cue_RETIRE_MS_DEFAULT else Watch.retireMs (s.watchAt sl i)

/-- The key of a cue's internal flags: transmit cues by index, tributary cues at 4096 and above. -/
def cueFlag (sl : Nat) (trib : Bool) (i : Nat) : Nat := skey sl (if trib then 4096 + i else i)

/-- Clear both internal flags of a cue: an ARM does (R229). -/
def State.clearFlags (k : Nat) (s : State) : State :=
  { s with cue := { s.cue with posted := s.cue.posted.filter (· != k), fired := s.cue.fired.filter (· != k) } }

/-- Set the flag that a FIRE made the trigger hold (R245). -/
def State.markFired (k : Nat) (s : State) : State :=
  if s.cue.fired.contains k then s else { s with cue := { s.cue with fired := s.cue.fired ++ [k] } }

/-- Set the flag that limits `CUE_PENDING` (R229). -/
def State.markPosted (k : Nat) (s : State) : State := { s with cue := { s.cue with posted := s.cue.posted ++ [k] } }

/-- The cue controls of a slice. -/
abbrev cueIx (sl : Nat) : Nat := Ix.cue sl 0

/-! ### The log and the events (R245, R250) -/

/-- Write a log record; answers its sequence number (R245). -/
def cueLog (sl kind : Nat) (late byFire : Bool) (entry from_ to_ pn tag : Nat) (s : State) : Nat × State :=
  let seq := s.ob (cueIx sl) Sub.cue_LOG_HEAD
  let r := be 1 kind ++ be 1 (late.toNat + 2 * byFire.toNat) ++ be 2 entry ++ be 1 from_ ++ be 1 to_ ++ [0, 0]
    ++ be 8 s.ns ++ be 8 pn ++ be 4 tag ++ be 4 seq
  (seq, ({ s with cue := { s.cue with log := minsert s.cue.log (skey sl (seq % 256)) r } } : State).addOb
    (cueIx sl) Sub.cue_LOG_HEAD 32 1)

/-- Log a record and raise the event with the same number and tag. -/
def cueReport (sl kind code : Nat) (late byFire : Bool) (entry from_ to_ pn tag : Nat) (s : State) : State :=
  let r := cueLog sl kind late byFire entry from_ to_ pn tag s
  r.2.raise code sl (be 2 entry ++ be 4 tag ++ be 4 r.1)

/-! ### The transmit switch (R223 to R230) -/

/-- The SA index in the slot of an AN, where AN_VALID is set. -/
def txSlot (sc an : Nat) : Option Nat := if Txsc.anValid sc an then some (Txsc.slot sc an % 2 ^ 14) else none
def rxSlot (sc an : Nat) : Option Nat := if Rxsc.anValid sc an then some (Rxsc.slot sc an % 2 ^ 14) else none

/-- An SA is valid and no DELETE of it is in progress (R144). -/
def State.saValid (s : State) (sl i : Nat) : Bool := Sa.valid (s.saAt sl i) && !s.deletingIs sl 3 i

/-- R227: the next SA of a transmit cue is ready. -/
def State.cueReady (s : State) (sl i : Nat) : Bool :=
  let q := s.cueAt sl i
  match txSlot (s.txscAt sl i) (Cue.nextAn q) with
  | none => false
  | some k =>
    let a := s.saAt sl k
    s.saValid sl k && Sa.dir a == 0 && Sa.sc a == i && !Sa.exhausted a && Sa.handle a == Cue.handle q
      && s.handleLive sl (Sa.handle a)

/-- `IN_USE` of an SA. -/
def setInUse (e : Nat) (b : Bool) : Nat := setBit e 317 b

/-- `CUE_SWITCH`'s commit: ENCODING_AN and IN_USE change together (R228). The PN of the record is a free value where the slot of the old AN
holds no valid SA, or its SA has assigned none: DESIGN CHOICE (R245, log 142). -/
def cueCommit (sl i : Nat) (s : State) : State :=
  let q := s.cueAt sl i
  let sc := s.txscAt sl i
  let old := Txsc.encodingAn sc
  let oldSa := (txSlot sc old).filter (fun k => s.saValid sl k)
  let newSa := Txsc.slot sc (Cue.nextAn q) % 2 ^ 14
  let pn : Nat × State := match oldSa.bind (fun k => mfind s.asc.lastPn (skey sl k)) with
    | some p => (p, s)
    | none => s.takeFree
  let s := pn.2
  let s := match oldSa with
    | some k => s.putSa sl k (setInUse (s.saAt sl k) false)
    | none => s
  let s := s.putSa sl newSa (setInUse (s.saAt sl newSa) true)
  let s := s.putTxsc sl i (setBits sc 67 66 (Cue.nextAn q))
  let q := setBits (Cue.setState q 4) 152 151 old
  let s := (s.putCue sl i q).addOb (cueIx sl) Sub.cue_CUES_FIRED 32 1
  let s := cueReport sl 1 0x0601 (Cue.late q) (s.cue.fired.contains (cueFlag sl false i)) i old (Cue.nextAn q)
    (pn.1 % 2 ^ 64) (Cue.tag q) s
  cueSync sl (s.recordSc sl i ++ (match oldSa with
    | some k => s.recordSa sl k
    | none => []) ++ s.recordSa sl newSa) s

/-- A pending cue finds its next SA not ready: LATE, and `CUE_PENDING` once per arming (R229, R238). -/
def cueNotReady (sl i : Nat) (s : State) : State :=
  let q := Cue.setLate (s.cueAt sl i) true
  let s := s.putCue sl i q
  let k := cueFlag sl false i
  if s.cue.posted.contains k then s
  else cueReport sl 2 0x0602 true (s.cue.fired.contains k) i (Txsc.encodingAn (s.txscAt sl i)) (Cue.nextAn q) 0 (Cue.tag q)
    (s.markPosted k)

/-- Test a pending cue without a commit. -/
def cueTest (sl i : Nat) (s : State) : State :=
  if Cue.state (s.cueAt sl i) = 2 ∧ !s.cueReady sl i then cueNotReady sl i s else s

/-- The trigger of an armed cue holds: it becomes pending and is tested (R226, R229). -/
def cueTrigger (sl i : Nat) (s : State) : State :=
  let q := s.cueAt sl i
  if Cue.state q = 1 then cueTest sl i (s.putCue sl i (Cue.setState q 2)) else s

/-- The transmit cues of a slice, in ascending index. -/
def State.cuesOf (s : State) (sl : Nat) : List Nat := (s.cue.tx.filter (fun x => x.1 / 2 ^ 20 == sl)).map (fun x => x.1 % 2 ^ 20)

/-- Test every pending cue of a slice: an association write may have made a next SA not ready (R238). -/
def cuesTest (sl : Nat) (s : State) : State := if s.shadow then s else (s.cuesOf sl).foldl (fun t i => cueTest sl i t) s

/-- The order in which an engine takes the cues of its slice: those with a PN trigger first, and each kind in ascending index
(R229). -/
def State.cueOrder (s : State) (sl : Nat) : List Nat :=
  let pn (i : Nat) : Bool := Cue.trigger (s.cueAt sl i) == 1
  (s.cuesOf sl).filter pn ++ (s.cuesOf sl).filter (fun i => !pn i)

/-- A commit takes one of the four places of its cycle (R229). -/
def State.takeCommit (sl c : Nat) (s : State) : State :=
  { s with cue := { s.cue with commits := mset [] s.cue.commits sl (mget [] s.cue.commits sl ++ [c]) } }

/-- The commits that a cycle has had. -/
def State.commitsIn (s : State) (sl c : Nat) : Nat := ((mget [] s.cue.commits sl).filter (· == c)).length

/-- Commits of cycles that are past are forgotten. -/
def State.pastCommits (s : State) : State :=
  { s with cue := { s.cue with commits :=
      (s.cue.commits.map (fun x => (x.1, x.2.filter (fun c => decide (s.cyc x.1 ≤ c))))).filter (fun x => x.2 != []) } }

/-- `CUE_SWITCH`: the engine of a slice in core cycle `j` of the present period: at most four switches commit in a cycle, those
of R223 among them (R229). No transmit cue is evaluated on a standby unit (R422). -/
def cueCycle (sl j : Nat) (s : State) : State :=
  let c := s.cyc sl + j % cyclesPer8 (s.pointOf sl)
  if s.shadow || !s.sliceRuns sl then s
  else (s.cueOrder sl).foldl (fun t i =>
    if Cue.state (t.cueAt sl i) = 2 then
      (if !t.cueReady sl i then cueNotReady sl i t
       else if t.commitsIn sl c < 4 then cueCommit sl i (t.takeCommit sl c) else t)
    else t) s

/-- `CUE_PN_TRIGGER`: the SA of a transmit SC has just set THRESH_HIT, in cycle `c`; an armed PN cue switches in this cycle when
its next SA is ready (R223). Where the cycle has had its four commits, it is the first of the next (R229). -/
def cuePn (sl i c : Nat) (s : State) : State :=
  let q := s.cueAt sl i
  if Cue.state q = 1 ∧ Cue.trigger q = 1 then
    let s := cueTrigger sl i s
    if s.cueReady sl i && decide (s.commitsIn sl c < 4) then cueCommit sl i (s.takeCommit sl c) else s
  else s

/-! ### Receive watches (R231 to R234) -/

/-- An OK frame under `an` commits: an armed watch on that AN moves to timing (R233). -/
def watchStart (sl i an : Nat) (s : State) : State :=
  let w := s.watchAt sl i
  if Watch.state w = 1 ∧ Watch.newAn w = an then
    (cueLog sl 4 false false i (Watch.oldAn w) an 0 (Watch.tag w) ((s.putWatch sl i (Watch.setState w 2)).mark
      (Timer.retire sl i))).2
  else s

/-- The retire delay ends, or a FIRE: IN_USE of the old SA is cleared and the watch returns to idle (R234). -/
def watchRetire (sl i : Nat) (byFire : Bool) (s : State) : State :=
  let w := s.watchAt sl i
  let s := s.putWatch sl i (Watch.setState w 0)
  let s := match (rxSlot (s.rxscAt sl i) (Watch.oldAn w)).filter (fun k => s.saValid sl k) with
    | some k => (s.putSa sl k (setInUse (s.saAt sl k) false)).addOb (cueIx sl) Sub.cue_RX_RETIRED 32 1
    | none => s
  cueReport sl 5 0x0603 false byFire i (Watch.oldAn w) (Watch.newAn w) 0 (Watch.tag w) s

/-- `RETIRE_DELAY_END`: the delay has run since the watch moved to timing (R233, R234). -/
def retireDelayEnd (sl i : Nat) (s : State) : State :=
  if Watch.state (s.watchAt sl i) = 2 ∧ s.past (Timer.retire sl i) (1000000 * s.retireMs sl i) then watchRetire sl i false s else s

/-! ### Tributary cues (R240 to R243) -/

/-- The sealed-ODU context of a tributary. -/
abbrev soduIx (sl t : Nat) : Nat := Ix.otn sl (0x30 + t)

/-- The tributary has a sealed-ODU context (R273). -/
def State.hasContext (s : State) (sl t : Nat) : Bool := s.otnMode sl != 0 && s.ob (tribIx sl t) Sub.trib_TRIB_MODE != 0

/-- A handle is live with USE = ODU (R344). -/
def State.oduLive (s : State) (sl h : Nat) : Bool := s.handleLive sl h && bits (s.keyAt sl (handleIndex h)).record 61 60 == 1

/-- The transmit key of a phase. -/
def State.txKey (s : State) (sl t phase : Nat) : Nat :=
  s.ob (soduIx sl t) (if phase = 0 then Sub.sodu_TX_KEY_0 else Sub.sodu_TX_KEY_1)

/-- The next-phase key of a tributary cue is ready (R241). -/
def State.tribReady (s : State) (sl t : Nat) : Bool :=
  let q := s.tribCueAt sl t
  let h := s.txKey sl t (Cue.nextPhase q)
  h == Cue.handle q && s.oduLive sl h

/-- A pending tributary cue enters counting when its key is ready, and is late otherwise (R241). -/
def tribCueTest (sl t : Nat) (s : State) : State :=
  let q := s.tribCueAt sl t
  let k := cueFlag sl true t
  let ph := s.ob (soduIx sl t) Sub.sodu_TX_PHASE
  if Cue.state q ≠ 2 ∨ s.shadow then s
  else if s.tribReady sl t then
    let s := { s with cue := { s.cue with begun := s.cue.begun.filter (· != skey sl t) } }
    (cueLog sl 6 (Cue.late q) (s.cue.fired.contains k) t ph (Cue.nextPhase q) 0 (Cue.tag q)
      (s.putTribCue sl t (Cue.setState q 3))).2
  else
    let s := s.putTribCue sl t (Cue.setLate q true)
    if s.cue.posted.contains k then s
    else cueReport sl 2 0x0602 true (s.cue.fired.contains k) t ph (Cue.nextPhase q) 0 (Cue.tag q) (s.markPosted k)

/-- The trigger of an armed tributary cue holds (R241). -/
def tribCueTrigger (sl t : Nat) (s : State) : State :=
  let q := s.tribCueAt sl t
  if Cue.state q = 1 then tribCueTest sl t (s.putTribCue sl t (Cue.setState q 2)) else s

/-- `CUE_TIME_TRIGGER`: the count has reached the TRIGGER_TIME of an armed cue (R224). -/
def cueTimeTrigger (sl : Nat) (trib : Bool) (i : Nat) (s : State) : State :=
  let q := if trib then s.tribCueAt sl i else s.cueAt sl i
  if Cue.state q = 1 ∧ Cue.trigger q = 2 ∧ reached s.ns (Cue.time q) ∧ !s.shadow ∧ s.sliceRuns sl then
    (if trib then tribCueTrigger sl i s else cueTrigger sl i s)
  else s

/-! ### Responses (R246) -/

/-- Every cue and watch of every slice returns to idle, and each slice's log gains a record of kind 9 (R246). -/
def cuesIdle (s : State) : State :=
  let idle (m : SMap Nat) (f : Nat → Nat) : SMap Nat := (m.map (fun x => (x.1, f x.2))).filter (fun x => x.2 != 0)
  let s := { s with cue := { s.cue with
    tx := idle s.cue.tx (fun e => Cue.setState e 0)
    trib := idle s.cue.trib (fun e => setBits (Cue.setState e 0) 154 151 0)
    watch := idle s.cue.watch (fun e => Watch.setState e 0)
    posted := [], fired := [], begun := [] } }
  ((List.range 4).filter s.sliceOn).foldl (fun t sl => (cueLog sl 9 false false 0xFFFF 0 0 0 0 t).2) s

/-! ### The window (R237, R248, R250) -/

abbrev cwIx (sl : Nat) : Nat := Ix.cue sl 1
def State.cwTable (s : State) (sl : Nat) : Nat := s.ob (cwIx sl) Sub.cwWin_CW_TABLE
def State.cwIndex (s : State) (sl : Nat) : Nat := s.ob (cwIx sl) Sub.cwWin_CW_INDEX

/-- The index lies in the table; the log is checked by its records (R221, R237). -/
def cwIn (t i : Nat) : Bool :=
  match t with
  | 0 => decide (i < 2048)
  | 1 => decide (i < 8)
  | 2 => decide (i < 8192)
  | _ => true

/-- READ (R250). -/
def cwRead (sl : Nat) (s : State) : State × Status :=
  let i := s.cwIndex sl
  let answer (b : Bytes) : State × Status := (s.putO (cwIx sl) Sub.cwWin_CW_DATA (padTo 32 b), .ok)
  if !cwIn (s.cwTable sl) i then (s, .range)
  else match s.cwTable sl with
  | 0 => answer (be 20 (s.cueAt sl i))
  | 1 => answer (be 20 (s.tribCueAt sl i))
  | 2 => answer (be 8 (s.watchAt sl i))
  | _ =>
    match mfind s.cue.log (skey sl (i % 256)) with
    | some r => if fld r 28 4 = i then answer r else (s, .range)
    | none => (s, .range)

/-- A cue or watch that the window or the firmware changes, which is mirrored (R427): 4 transmit cue, 5 tributary cue, 6 watch. -/
def setCue (table sl i img : Nat) (s : State) : State :=
  let s := match table with
    | 4 => s.putCue sl i img
    | 5 => s.putTribCue sl i img
    | _ => s.putWatch sl i img
  mirror (.entry table sl i img) s

/-- ARM of a transmit cue with an image (R222, R223, R225, R237). -/
def armTx (sl i img : Nat) (s : State) : State × Status :=
  let sc := s.txscAt sl i
  let st := Cue.state (s.cueAt sl i)
  if st = 1 ∨ st = 2 then (s, .busy)
  else if (s.secyAt sl i).isNone ∨ Cue.trigger img = 3 ∨ Cue.nextAn img = Txsc.encodingAn sc then (s, .range)
  else
    let hit := (match (txSlot sc (Txsc.encodingAn sc)).filter (fun k => s.saValid sl k) with
        | some k => Sa.threshHit (s.saAt sl k)
        | none => false)
    let holds := (Cue.trigger img == 1 && hit) || (Cue.trigger img == 2 && reached s.ns (Cue.time img))
    let q := setBits (setBits (Cue.setState img (if holds then 2 else 1)) 152 150 holds.toNat) 149 128 0
    (setCue 4 sl i q (s.clearFlags (cueFlag sl false i)), .ok)

/-- ARM of a tributary cue (R237, R240). -/
def armTrib (sl t : Nat) (s : State) : State × Status :=
  let img := fld (s.oct (cwIx sl) Sub.cwWin_CW_DATA) 0 20
  let st := Cue.state (s.tribCueAt sl t)
  if st = 1 ∨ st = 2 ∨ st = 3 then (s, .busy)
  else if !s.hasContext sl t ∨ Cue.trigger img = 1 ∨ Cue.trigger img = 3 then (s, .range)
  else
    let holds := Cue.trigger img == 2 && reached s.ns (Cue.time img)
    let q := setBits (setBits (setBits (Cue.setState img (if holds then 2 else 1)) 154 150 holds.toNat) 149 149
      (1 - s.ob (soduIx sl t) Sub.sodu_TX_PHASE)) 148 136 0
    let s := setCue 5 sl t q (s.clearFlags (cueFlag sl true t))
    (if holds then tribCueTest sl t s else s, .ok)

/-- ARM of a receive watch with an image (R232, R237). -/
def armWatch (sl i img : Nat) (s : State) : State × Status :=
  let sc := s.rxscAt sl i
  if Watch.state (s.watchAt sl i) ≠ 0 then (s, .busy)
  else if !Rxsc.valid sc || s.deletingIs sl 2 i || Watch.oldAn img == Watch.newAn img || !Rxsc.anValid sc (Watch.oldAn img)
      || decide (60000 < Watch.retireMs img) then (s, .range)
  else (setCue 6 sl i (setBits (Watch.setState img 1) 57 48 0) s, .ok)

/-- ARM (R237). -/
def cwArm (sl : Nat) (s : State) : State × Status :=
  let i := s.cwIndex sl
  if !cwIn (s.cwTable sl) i then (s, .range)
  else match s.cwTable sl with
  | 0 => armTx sl i (fld (s.oct (cwIx sl) Sub.cwWin_CW_DATA) 0 20) s
  | 1 => armTrib sl i s
  | 2 => armWatch sl i (fld (s.oct (cwIx sl) Sub.cwWin_CW_DATA) 0 8) s
  | _ => (s, .range)

/-- CANCEL of a transmit cue (R237). -/
def cancelTx (sl i : Nat) (s : State) : State × Status :=
  let q := s.cueAt sl i
  if Cue.state q = 1 ∨ Cue.state q = 2 then
    ((cueLog sl 3 (Cue.late q) (s.cue.fired.contains (cueFlag sl false i)) i (Txsc.encodingAn (s.txscAt sl i))
      (Cue.nextAn q) 0 (Cue.tag q) (setCue 4 sl i (Cue.setState q 5) s)).2, .ok)
  else (s, .range)

/-- CANCEL (R237). -/
def cwCancel (sl : Nat) (s : State) : State × Status :=
  let i := s.cwIndex sl
  if !cwIn (s.cwTable sl) i then (s, .range)
  else match s.cwTable sl with
  | 0 => cancelTx sl i s
  | 1 =>
    let q := s.tribCueAt sl i
    if Cue.state q = 3 then (s, .busy)
    else if Cue.state q = 1 ∨ Cue.state q = 2 then (setCue 5 sl i (Cue.setState q 5) s, .ok)
    else (s, .range)
  | 2 =>
    let w := s.watchAt sl i
    if Watch.state w = 1 ∨ Watch.state w = 2 then (setCue 6 sl i (Watch.setState w 0) s, .ok) else (s, .range)
  | _ => (s, .range)

/-- FIRE of a transmit cue (R226, R237). -/
def fireTx (sl i : Nat) (s : State) : State × Status :=
  let q := s.cueAt sl i
  if Cue.state q = 1 ∨ Cue.state q = 2 then
    (setCue 4 sl i (Cue.setState q 2) (s.markFired (cueFlag sl false i)), .ok)
  else (s, .range)

/-- FIRE (R226, R234, R237). -/
def cwFire (sl : Nat) (s : State) : State × Status :=
  let i := s.cwIndex sl
  if !cwIn (s.cwTable sl) i then (s, .range)
  else match s.cwTable sl with
  | 0 => fireTx sl i s
  | 1 =>
    let q := s.tribCueAt sl i
    if Cue.state q = 1 ∨ Cue.state q = 2 then
      (tribCueTest sl i (setCue 5 sl i (Cue.setState q 2) (s.markFired (cueFlag sl true i))), .ok)
    else (s, .range)
  | 2 =>
    let w := s.watchAt sl i
    if Watch.state w = 1 ∨ Watch.state w = 2 then (watchRetire sl i true s, .ok) else (s, .range)
  | _ => (s, .range)

/-- A window operation by its code (R250). -/
def cwOp (sl code : Nat) : State → State × Status :=
  sliceOp sl (match code with
    | 1 => cwRead sl
    | 2 => cwArm sl
    | 3 => cwCancel sl
    | 4 => cwFire sl
    | _ => fun s => (s, .ok))

/-! ### The commands -/

/-- A row of the cue window. -/
def rowCw (c : Caller) (sl code : Nat) (act : State → State × Status) (s : State) : State :=
  rowWindow c (cwIx sl) Sub.cwWin_CW_OP Sub.cwWin_CW_STATUS code (sliceOp sl act) s

/-- `CW_READ` (R250). -/
def execCwRead (c : Caller) (sl : Nat) (s : State) : Out := .next (rowCw c sl 1 (cwRead sl) s)

/-- `CW_ARM` (R237). -/
def execCwArm (c : Caller) (sl : Nat) (s : State) : Out := .next (rowCw c sl 2 (cwArm sl) s)

/-- `CW_CANCEL` (R237). -/
def execCwCancel (c : Caller) (sl : Nat) (s : State) : Out := .next (rowCw c sl 3 (cwCancel sl) s)

/-- `CW_FIRE` (R226). -/
def execCwFire (c : Caller) (sl : Nat) (s : State) : Out := .next (rowCw c sl 4 (cwFire sl) s)

/-- `CUE_TIME_TRIGGER` (R224). -/
def execCueTimeTrigger (sl : Nat) (trib : Bool) (i : Nat) (s : State) : Out := .next (cueTimeTrigger sl trib i s)

/-- `CUE_SWITCH` (R228). -/
def execCueSwitch (sl j : Nat) (s : State) : Out := .next (cueCycle sl j s)

/-- `RETIRE_DELAY_END` (R234). -/
def execRetireDelayEnd (sl i : Nat) (s : State) : Out := .next (retireDelayEnd sl i s)

end Sys2Proof.Machine
end

