-- ==== Sys2Proof/Machine/Hitch.lean ====
section
/-! DEFINITION. The Hitch table (chapter 03): keys and hashing, parity, lookup, learning, aging and the table window. -/

namespace Sys2Proof.Machine

/-! ### Entries (R69, R74) -/

/-- The packed 72-bit key (R69). -/
def packKey (port vid mac : Nat) : Nat := port % 32 * 2 ^ 60 + vid % 4096 * 2 ^ 48 + mac % 2 ^ 48

/-- The XOR of bits `[25k+24:25k]` of a slot (R74). -/
def parityBit (e k : Nat) : Bool := ((List.range 25).map (fun j => e.testBit (25 * k + j))).foldl xor false

/-- The slot passes its parity check (R75). -/
def parityOk (e : Nat) : Bool := (List.range 4).all (fun k => e.testBit (100 + k) == parityBit e k)

/-- Set PARITY for a write (R74). -/
def withParity (e : Nat) : Nat := (List.range 4).foldl (fun a k => setBit a (100 + k) (parityBit e k)) e

namespace Slot

abbrev valid (e : Nat) : Bool := bit e 99
abbrev static (e : Nat) : Bool := bit e 98
abbrev hit (e : Nat) : Bool := bit e 97
abbrev stale (e : Nat) : Bool := bit e 96
abbrev timestamp (e : Nat) : Nat := bits e 95 80
abbrev secy (e : Nat) : Nat := bits e 79 69
abbrev port (e : Nat) : Nat := bits e 68 64
abbrev vid (e : Nat) : Nat := bits e 63 52
abbrev mac (e : Nat) : Nat := bits e 47 0

/-- The key that a slot holds. -/
abbrev key (e : Nat) : Nat := packKey (port e) (vid e) (mac e)

/-- A valid learned entry. -/
abbrev learned (e : Nat) : Bool := valid e && !static e

end Slot

/-- A valid slot image of the fields (R74). -/
def slotImage (static hit stale : Bool) (ts secy port vid mac : Nat) : Nat :=
  withParity (2 ^ 99 + static.toNat * 2 ^ 98 + hit.toNat * 2 ^ 97 + stale.toNat * 2 ^ 96 + ts % 2 ^ 16 * 2 ^ 80
    + secy % 2048 * 2 ^ 69 + port % 32 * 2 ^ 64 + vid % 4096 * 2 ^ 52 + mac % 2 ^ 48)

/-- A slot of a slice's table. -/
def State.slotAt (s : State) (sl i : Nat) : Nat := mget 0 s.hitch.slots (skey sl i)

/-- Write a slot. -/
def State.putSlot (sl i e : Nat) (s : State) : State :=
  { s with hitch := { s.hitch with slots := mset 0 s.hitch.slots (skey sl i) e } }

/-- The entries of a slice, with their indexes, in ascending index order. -/
def State.hitchEntries (s : State) (sl : Nat) : List (Nat × Nat) :=
  (s.hitch.slots.filter (fun x => decide (x.1 / 2 ^ 20 = sl))).map (fun x => (x.1 % 2 ^ 20, x.2))

/-- Read a slot with its parity check: a failed slot counts as empty, is zeroed, counted and reported (R75). -/
def readSlot (sl i : Nat) (s : State) : Nat × State :=
  let e := s.slotAt sl i
  if parityOk e then (e, s)
  else (0, ((s.putSlot sl i 0).bump (Ctr.slice sl + Ctr.HITCH_PARITY)).raise 0x0301 sl
    (be 4 i ++ be 1 (Slot.static e).toNat))

/-- Read several slots. -/
def readSlots (sl : Nat) (is : List Nat) (s : State) : List (Nat × Nat) × State :=
  is.foldl (fun a i => let r := readSlot sl i a.2; (a.1 ++ [(i, r.1)], r.2)) ([], s)

/-- The bucket of a key in a bank (R71). -/
def State.bucketOf (s : State) (sl bank key : Nat) : Nat :=
  crc32c (sub (s.oct (Ix.hitch sl 0) Sub.hitch_HASH_SEEDS) (4 * bank) 4 ++ be 9 key) % 8192

/-- An entry's index (R72). -/
def slotIndex (bank bucket slot : Nat) : Nat := bank * 32768 + bucket * 4 + slot

/-- The 16 candidate indexes of a key, bank by bank (R71). -/
def State.candidates (s : State) (sl key : Nat) : List Nat :=
  (List.range 4).flatMap (fun b => (List.range 4).map (fun k => slotIndex b (s.bucketOf sl b key) k))

/-- The valid candidate that holds a key. -/
def holder (key : Nat) (cs : List (Nat × Nat)) : Option (Nat × Nat) :=
  cs.find? (fun c => Slot.valid c.2 && Slot.key c.2 == key)

/-- The free slots among one bank's candidates. -/
def freeIn (b : Nat) (cs : List (Nat × Nat)) : List (Nat × Nat) :=
  cs.filter (fun c => c.1 / 32768 == b && !Slot.valid c.2)

/-- The slot for a new entry: the candidate bucket with the most free slots, ties to the lowest bank, and in it the
lowest free slot (R83). -/
def chooseSlot (cs : List (Nat × Nat)) : Option Nat :=
  let best := (List.range 4).foldl
    (fun a b => if (freeIn a cs).length < (freeIn b cs).length then b else a) 0
  (freeIn best cs).head?.map (·.1)

/-- The aging mode in force in a slice (R91). -/
def State.ageMode (s : State) (sl : Nat) : Nat := mget 1 s.hitch.mode sl

/-- The age clock of a slice (R89). -/
def State.ageClock (s : State) (sl : Nat) : Nat := s.ob (Ix.hitch sl 0) Sub.hitch_AGE_CLOCK

/-- Refresh a slot's aging state in a mode (R87, R88). -/
def refreshed (mode clock e : Nat) : Nat :=
  if mode = 1 then withParity (setBit (setBit e 97 true) 96 false)
  else if mode = 2 then withParity (setBits e 95 80 clock)
  else e

/-- What was written within the nine core cycles of a slice that a request takes from its read to its write, and the sweeper at the
least: the entries of the 8 ns periods in which they lie (R85, R96, log 136). -/
def State.lately {α : Type} (s : State) (sl : Nat) (l : List (Nat × α)) : List (Nat × α) :=
  let n := cyclesPer8 (s.pointOf sl)
  l.filter (fun x => decide (s.time.periods < x.1 + (8 + n) / n))

/-- A slot was written: the sweeper must know (R96). -/
def State.noteTouch (sl i : Nat) (s : State) : State :=
  { s with hitch := { s.hitch with
      touched := mset [] s.hitch.touched sl (s.lately sl (mget [] s.hitch.touched sl) ++ [(s.time.periods, i)]) } }

/-- Management writes a slot: the learning engine and the sweeper must know (R95, R96). -/
def State.noteMgmt (sl i key : Nat) (s : State) : State :=
  State.noteTouch sl i { s with hitch := { s.hitch with
    mgmt := mset [] s.hitch.mgmt sl (s.lately sl (mget [] s.hitch.mgmt sl) ++ [(s.time.periods, i, key, s.slotAt sl i)]) } }

/-- Learning wrote a slot. -/
def State.noteLearn (sl i : Nat) (s : State) : State := s.noteTouch sl i

/-! ### Lookup (R66, R68, R70, R79) -/

/-- The index of a client port's Hitch controls. -/
def hitchPortIx (c : Nat) : Nat := Ix.hitch (c / 8) (0x10 + c % 8)

/-- The group SecY of a port, or discard (R79). -/
def hitchGroup (c ctr : Nat) (s : State) : Option Nat × State :=
  let g := s.ob (hitchPortIx c) Sub.hitchPort_GROUP_SECY
  if g ≠ 0xFFFF ∧ s.secyOn (c / 8) g then (some g, s.bump (Ctr.port c + ctr))
  else (none, s.bump (Ctr.port c + Ctr.HITCH_NO_SECY))

/-- `HITCH_LOOKUP`: the SecY of a client frame from port `c` to a destination, or none and the frame is discarded
(R79). -/
def hitchLookup (c vid da : Nat) (s : State) : Option Nat × State :=
  let sl := c / 8
  if !s.obB (hitchPortIx c) Sub.hitchPort_LOOKUP_ENABLE then hitchGroup c Ctr.GROUP_DIRECT s
  else if bit da 40 then hitchGroup c Ctr.GROUP_MCAST s
  else
    let v := if s.ob (hitchPortIx c) Sub.hitchPort_VID_MODE = 0 then 0 else vid
    let key := packKey c v da
    let r := readSlots sl (s.candidates sl key) s
    match holder key r.1 with
    | none => hitchGroup c Ctr.HITCH_MISS r.2
    | some (_, e) =>
      if s.secyOn sl (Slot.secy e) then (some (Slot.secy e), r.2.bump (Ctr.port c + Ctr.HITCH_HIT))
      else hitchGroup c Ctr.HITCH_STALE_SECY r.2

/-! ### Learning (R81, R82) -/

/-- Post a learning request: a queue of 512 is full (R82). -/
def postLearn (sl : Nat) (r : LearnReq) (s : State) : State :=
  let q := mget [] s.hitch.queue sl
  if q.length < 512 then { s with hitch := { s.hitch with queue := mset [] s.hitch.queue sl (q ++ [r]) } }
  else s.bump (Ctr.slice sl + Ctr.LEARN_QUEUE_DROP)

/-- The learned entries of a client port (R82). -/
def State.learnedCount (s : State) (c : Nat) : Nat :=
  ((s.hitchEntries (c / 8)).filter (fun x => Slot.learned x.2 && Slot.port x.2 == c)).length

/-- What a request decides (R82): the counter of its outcome, and the slot and image that it writes, if any. In a new entry the
aging fields that the mode does not use are 0, and in a moved one they keep what they held (log 100). -/
def learnDecide (s : State) (sl : Nat) (r : LearnReq) (y : Nat) (cs : List (Nat × Nat)) : Option Nat × Option (Nat × Nat) :=
  let mode := s.ageMode sl
  let clk := s.ageClock sl
  match holder (packKey r.port r.vid r.mac) cs with
  | some (i, e) =>
    if Slot.static e then (if Slot.secy e = y then none else some Ctr.LEARN_STATIC_CONFLICT, none)
    else if Slot.secy e = y then
      (some Ctr.LEARN_REFRESH, if refreshed mode clk e = e then none else some (i, refreshed mode clk e))
    else (some Ctr.LEARN_MOVE, some (i, refreshed mode clk (withParity (setBits e 79 69 y))))
  | none =>
    if s.ob (hitchPortIx r.port) Sub.hitchPort_LEARN_LIMIT ≤ s.learnedCount r.port then (some Ctr.LEARN_PORT_LIMIT, none)
    else match chooseSlot cs with
      | none => (some Ctr.LEARN_FULL, none)
      | some i =>
        (some Ctr.LEARN_NEW, some (i, slotImage false (mode == 1) false (if mode = 2 then clk else 0) y r.port r.vid r.mac))

/-- The table as it stood before these management writes: each a slot, a key and what the slot held. -/
def State.beforeMgmt (sl : Nat) (l : List (Nat × Nat × Nat)) (s : State) : State :=
  l.reverse.foldl (fun t m => t.putSlot sl m.1 m.2.2) s

/-- The outcome of one learning request (R82). `mgmt` are the management writes that fall between the engine's read and its
write: it decides by the table as it stood before them, and is discarded where one of them is to its key or to the slot that it
would write (R95). A request without a learn target counts as that, also where management has written its key: DESIGN CHOICE
(log 137). -/
def learnOutcome (sl : Nat) (r : LearnReq) (mgmt : List (Nat × Nat × Nat)) (s : State) : State :=
  let ctr (k : Nat) (t : State) := t.bump (Ctr.slice sl + k)
  if bit r.mac 40 || r.mac == 0 then ctr Ctr.LEARN_BAD_SA s
  else match r.target with
  | none => ctr Ctr.LEARN_NO_TARGET s
  | some y =>
    let key := packKey r.port r.vid r.mac
    let seen := s.beforeMgmt sl mgmt
    let d := learnDecide seen sl r y (readSlots sl (s.candidates sl key) seen).1
    let s := (readSlots sl (s.candidates sl key) s).2
    if mgmt.any (fun m => m.2.1 == key || d.2.any (fun w => w.1 == m.1)) then ctr Ctr.LEARN_COLLISION s
    else
      let s := match d.1 with
        | some k => ctr k s
        | none => s
      match d.2 with
      | some (i, e) => (s.putSlot sl i e).noteLearn sl i
      | none => s

/-- `LEARN_REQUEST`: the request at the head of the queue comes to its write. `overlap` says that the management writes of the last
nine cycles fell between its read and its write: every request in flight sees them (R82, R85, R95). -/
def learnStep (sl : Nat) (overlap : Bool) (s : State) : State :=
  match mget [] s.hitch.queue sl with
  | [] => s
  | r :: q =>
    let m := (s.lately sl (mget [] s.hitch.mgmt sl)).map (·.2)
    let s := { s with hitch := { s.hitch with queue := mset [] s.hitch.queue sl q } }
    learnOutcome sl r (if overlap then m else []) s

/-! ### Aging (R86 to R92) -/

/-- Milliseconds of the sweep period in force (R91). -/
def State.sweepMs (s : State) (sl : Nat) : Nat := mget 0 s.hitch.period sl

/-- `SWEEP_START`: the sweep before is done and its period has passed; a sweep begins, and writes of `AGE_MODE` and `SWEEP_PERIOD_MS`
take effect (R86, R91). -/
def sweepStart (sl : Nat) (s : State) : State :=
  let m := s.ob (Ix.hitch sl 0) Sub.hitch_AGE_MODE
  if mget 8192 s.hitch.sweepPos sl < 8192 ∨ !s.past (Timer.sweep sl) (1000000 * s.sweepMs sl) then s
  else State.mark (Timer.sweep sl) { s with hitch := { s.hitch with
      sweepPos := mset 8192 s.hitch.sweepPos sl 0
      period := mset 0 s.hitch.period sl (s.ob (Ix.hitch sl 0) Sub.hitch_SWEEP_PERIOD_MS)
      init := mset false s.hitch.init sl (m != s.ageMode sl)
      mode := mset 1 s.hitch.mode sl m } }

/-- One slot at the sweeper's visit (R87, R88, R91, R92). -/
def sweepSlot (sl : Nat) (skip : List Nat) (s : State) (i : Nat) : State :=
  let r := readSlot sl i s
  let e := r.1
  let s := r.2
  let mode := s.ageMode sl
  if !Slot.learned e || skip.contains i then s
  else if !s.secyOn sl (Slot.secy e) then (s.putSlot sl i 0).bump (Ctr.slice sl + Ctr.AGE_STALE_SECY)
  else if mget false s.hitch.init sl then s.putSlot sl i (refreshed mode (s.ageClock sl) e)
  else if mode = 1 then
    (if Slot.hit e then s.putSlot sl i (withParity (setBit e 97 false))
     else if !Slot.stale e then s.putSlot sl i (withParity (setBit e 96 true))
     else (s.putSlot sl i 0).bump (Ctr.slice sl + Ctr.AGE_REMOVED))
  else if mode = 2 then
    (if s.ob (Ix.hitch sl 0) Sub.hitch_AGE_LIMIT ≤ (s.ageClock sl + 2 ^ 16 - Slot.timestamp e) % 2 ^ 16 then
      (s.putSlot sl i 0).bump (Ctr.slice sl + Ctr.AGE_REMOVED)
     else s)
  else s

/-- `SWEEP_VISIT`: the sweeper visits one bucket of every bank, in its turn: its visits are spaced evenly across the period.
`overlap` says that the writes of the other writers in the last nine cycles fell between its read and its own write (R86, R96). After
a reset no sweep is in progress until the next begins (log 12). -/
def sweepVisit (sl : Nat) (overlap : Bool) (s : State) : State :=
  let pos := mget 8192 s.hitch.sweepPos sl
  if pos < 8192 ∧ s.past (Timer.sweep sl) (1000000 * s.sweepMs sl * pos / 8192) then
    let skip := if overlap then (s.lately sl (mget [] s.hitch.touched sl)).map (·.2) else []
    let s := { s with hitch := { s.hitch with sweepPos := mset 8192 s.hitch.sweepPos sl (pos + 1) } }
    let s : State := ((List.range 4).flatMap (fun b => (List.range 4).map (fun k => slotIndex b pos k))).foldl
      (sweepSlot sl skip) s
    if pos = 8191 then s.addOb (Ix.hitch sl 0) Sub.hitch_SWEEPS_DONE 32 1 else s
  else s

/-- `AGE_CLOCK_TICK`: an interval of `AGE_TICK_MS` has passed, and the next begins (R89). -/
def ageTick (sl : Nat) (s : State) : State :=
  if s.past (Timer.age sl) (1000000 * s.ob (Ix.hitch sl 0) Sub.hitch_AGE_TICK_MS) then
    (s.addOb (Ix.hitch sl 0) Sub.hitch_AGE_CLOCK 16 1).mark (Timer.age sl)
  else s

/-! ### The table window (R97 to R100, R109) -/

/-- The table window's index. -/
abbrev twIx (sl : Nat) : Nat := Ix.hitch sl 1

/-- The key objects of the window. -/
def State.twPort (s : State) (sl : Nat) : Nat := s.ob (twIx sl) Sub.twWin_TW_PORT
def State.twVid (s : State) (sl : Nat) : Nat := s.ob (twIx sl) Sub.twWin_TW_VID
def State.twMac (s : State) (sl : Nat) : Nat := num (s.oct (twIx sl) Sub.twWin_TW_MAC)
def State.twKey (s : State) (sl : Nat) : Nat := packKey (s.twPort sl) (s.twVid sl) (s.twMac sl)

/-- The key rules of R99. -/
def State.twKeyOk (s : State) (sl : Nat) : Bool :=
  s.twPort sl / 8 == sl && !bit (s.twMac sl) 40 && s.twMac sl != 0
    && (s.twVid sl == 0 || s.ob (hitchPortIx (s.twPort sl)) Sub.hitchPort_VID_MODE != 0)

/-- `TW_FLAGS` of a slot (R109). -/
def slotFlags (e : Nat) : Nat :=
  8 * (Slot.valid e).toNat + 4 * (Slot.static e).toNat + 2 * (Slot.hit e).toNat + (Slot.stale e).toNat

/-- Put an entry's fields into the result objects. -/
def State.twResult (sl i e : Nat) (s : State) : State :=
  (((s.put (twIx sl) Sub.twWin_TW_SECY (Slot.secy e)).put (twIx sl) Sub.twWin_TW_FLAGS (slotFlags e)).put
    (twIx sl) Sub.twWin_TW_INDEX i).put (twIx sl) Sub.twWin_TW_AGE (Slot.timestamp e)

/-- Put an entry's key into the key objects. -/
def State.twKeyResult (sl e : Nat) (s : State) : State :=
  ((s.put (twIx sl) Sub.twWin_TW_PORT (Slot.port e)).put (twIx sl) Sub.twWin_TW_VID (Slot.vid e)).putO
    (twIx sl) Sub.twWin_TW_MAC (be 6 (Slot.mac e))

/-- LOOKUP (R99). Where nothing is found, the result objects other than VALID keep what they held; so for DELETE and NEXT
(log 103). -/
def twLookup (sl : Nat) (s : State) : State × Status :=
  if !s.twKeyOk sl then (s, .range)
  else
    let r := readSlots sl (s.candidates sl (s.twKey sl)) s
    match holder (s.twKey sl) r.1 with
    | some (i, e) => (r.2.twResult sl i e, .ok)
    | none => (r.2.put (twIx sl) Sub.twWin_TW_FLAGS 0, .ok)

/-- The slot that INSERT evicts when all candidates are valid: the first learned one with HIT = 0, otherwise the first
learned one (R100). -/
def evictee (cs : List (Nat × Nat)) : Option Nat :=
  match cs.find? (fun c => Slot.learned c.2 && !Slot.hit c.2) with
  | some c => some c.1
  | none => (cs.find? (fun c => Slot.learned c.2)).map (·.1)

/-- Write a static entry's image at a slot: it joins the stored configuration (R76, R100). -/
def State.putStatic (sl i key e : Nat) (s : State) : State :=
  let t := (s.noteMgmt sl i key).putSlot sl i e
  { t with hitch := { t.hitch with statics := minsert t.hitch.statics (skey sl i) e } }

/-- Write a static entry: in place, into a free slot, or over an evicted learned entry; RANGE when all 16 candidates
are static (R100). Its aging fields are 0 in a slot newly taken, and stay as they were in place (log 101). -/
def installStatic (sl port vid mac secy : Nat) (s : State) : State × Option Nat :=
  let key := packKey port vid mac
  let r := readSlots sl (s.candidates sl key) s
  match holder key r.1 with
  | some (i, e) => (r.2.putStatic sl i key (withParity (setBit (setBits e 79 69 secy) 98 true)), some i)
  | none =>
    let e := slotImage true false false 0 secy port vid mac
    match chooseSlot r.1 with
    | some i => (r.2.putStatic sl i key e, some i)
    | none =>
      match evictee r.1 with
      | some i => ((r.2.bump (Ctr.slice sl + Ctr.HITCH_EVICT)).putStatic sl i key e, some i)
      | none => (r.2, none)

/-- INSERT (R100). -/
def twInsert (sl : Nat) (s : State) : State × Status :=
  let y := s.ob (twIx sl) Sub.twWin_TW_SECY
  if !s.twKeyOk sl then (s, .range)
  else if s.secyPort sl y ≠ some (s.twPort sl) then (s, .range)
  else
    match installStatic sl (s.twPort sl) (s.twVid sl) (s.twMac sl) y s with
    | (t, some i) => (t.put (twIx sl) Sub.twWin_TW_INDEX i, .ok)
    | (t, none) => (t, .range)

/-- Remove an entry: the slot is zeroed and leaves the stored configuration. -/
def State.removeSlot (sl i key : Nat) (s : State) : State :=
  let s := (s.noteMgmt sl i key).putSlot sl i 0
  { s with hitch := { s.hitch with statics := merase s.hitch.statics (skey sl i) } }

/-- DELETE (R99). -/
def twDelete (sl : Nat) (s : State) : State × Status :=
  if !s.twKeyOk sl then (s, .range)
  else
    let r := readSlots sl (s.candidates sl (s.twKey sl)) s
    match holder (s.twKey sl) r.1 with
    | some (i, e) => ((r.2.removeSlot sl i (s.twKey sl)).put (twIx sl) Sub.twWin_TW_FLAGS (slotFlags e), .ok)
    | none => (r.2.put (twIx sl) Sub.twWin_TW_FLAGS 0, .ok)

/-- READ (R99): INTEGRITY when the slot fails parity; RANGE for an index beyond the table (log 102). -/
def twRead (sl : Nat) (s : State) : State × Status :=
  let i := s.ob (twIx sl) Sub.twWin_TW_INDEX
  if 131072 ≤ i then (s, .range)
  else if parityOk (s.slotAt sl i) then
    ((s.twKeyResult sl (s.slotAt sl i)).twResult sl i (s.slotAt sl i), .ok)
  else ((readSlot sl i s).2, .integrity)

/-- The first valid entry with good parity above an index; slots that fail are scrubbed on the way. -/
def nextValid (sl i : Nat) : List (Nat × Nat) → State → Option (Nat × Nat) × State
  | [], s => (none, s)
  | (j, _) :: t, s =>
    if j ≤ i then nextValid sl i t s
    else
      let r := readSlot sl j s
      if Slot.valid r.1 then (some (j, r.1), r.2) else nextValid sl i t r.2

/-- NEXT (R99). -/
def twNext (sl : Nat) (s : State) : State × Status :=
  match nextValid sl (s.ob (twIx sl) Sub.twWin_TW_INDEX) (s.hitchEntries sl) s with
  | (some (j, e), t) => ((t.twKeyResult sl e).twResult sl j e, .ok)
  | (none, t) => (t.put (twIx sl) Sub.twWin_TW_FLAGS 0, .ok)

/-- HASH (R99): the four candidate buckets. -/
def twHash (sl : Nat) (s : State) : State × Status :=
  if !s.twKeyOk sl then (s, .range)
  else
    let b (k : Nat) := s.bucketOf sl k (s.twKey sl)
    (s.put (twIx sl) Sub.twWin_TW_BUCKETS (b 0 * 2 ^ 48 + b 1 * 2 ^ 32 + b 2 * 2 ^ 16 + b 3), .ok)

/-- An entry lies in the scope of a FLUSH (R109). -/
def State.flushes (s : State) (sl e : Nat) : Bool :=
  match s.ob (twIx sl) Sub.twWin_TW_FLUSH_SCOPE with
  | 0 => Slot.learned e
  | 1 => Slot.learned e && Slot.port e == s.twPort sl
  | 2 => Slot.learned e && Slot.secy e == s.ob (twIx sl) Sub.twWin_TW_SECY
  | 3 => Slot.valid e && Slot.port e == s.twPort sl
  | _ => Slot.valid e

/-- FLUSH (R99): entries in scope are removed and counted in `TW_INDEX`. -/
def twFlush (sl : Nat) (s : State) : State × Status :=
  let r := readSlots sl ((s.hitchEntries sl).map (·.1)) s
  let gone := r.1.filter (fun x => s.flushes sl x.2)
  ((gone.foldl (fun (t : State) x => t.removeSlot sl x.1 (Slot.key x.2)) r.2).put (twIx sl) Sub.twWin_TW_INDEX gone.length,
    .ok)

/-- A window operation by its code (R99). -/
def twOp (sl code : Nat) : State → State × Status :=
  sliceOp sl (match code with
    | 1 => twLookup sl
    | 2 => twInsert sl
    | 3 => twDelete sl
    | 4 => twRead sl
    | 5 => twNext sl
    | 6 => twHash sl
    | 7 => twFlush sl
    | _ => fun s => (s, .ok))

/-- `STATIC_REINSTALL`: the firmware puts back the static entry of the stored configuration that a scrubbed slot held
(R76). It is placed as an INSERT places it, by R83 or over a learned entry of its key, and the stored index follows: DESIGN CHOICE
(log 138). -/
def staticReinstall (sl i : Nat) (s : State) : State :=
  match mfind s.hitch.statics (skey sl i) with
  | some e =>
    if s.slotAt sl i = e then s
    else
      let t := { s with hitch := { s.hitch with statics := merase s.hitch.statics (skey sl i) } }
      match installStatic sl (Slot.port e) (Slot.vid e) (Slot.mac e) (Slot.secy e) t with
      | (u, some _) => u
      | (_, none) => s
  | none => s

/-! ### Writes of this chapter's objects (R90, R101, R108) -/

/-- The limit of R90 on four values. -/
def ageLimitOk (mode limit period tick : Nat) : Bool :=
  mode != 2 || decide (limit + (period + tick - 1) / tick ≤ 65536)

/-- A write to a slice's Hitch controls (R90, R101). One of `AGE_TICK_MS` abandons the interval in progress (R89). -/
def hitchWrite (sl sub : Nat) (v : Val) (s : State) : State × Status :=
  let ix := Ix.hitch sl 0
  match v with
  | .oct b => if (s.hitchEntries sl).any (fun x => Slot.valid x.2) then (s, .busy) else (s.putO ix sub b, .ok)
  | .num n =>
    let g (k : Nat) := if sub = k then n else s.ob ix k
    if ageLimitOk (g Sub.hitch_AGE_MODE) (g Sub.hitch_AGE_LIMIT) (g Sub.hitch_SWEEP_PERIOD_MS) (g Sub.hitch_AGE_TICK_MS)
    then ((if sub = Sub.hitch_AGE_TICK_MS then s.mark (Timer.age sl) else s).put ix sub n, .ok) else (s, .range)

/-- A write to a client port's Hitch controls (R108). -/
def hitchPortWrite (c sub n : Nat) (s : State) : State × Status :=
  if sub = Sub.hitchPort_VID_MODE ∧ (s.hitchEntries (c / 8)).any (fun x => Slot.valid x.2 && Slot.port x.2 == c) then
    (s, .busy)
  else if sub = Sub.hitchPort_GROUP_SECY ∧ n ≠ 0xFFFF ∧ (s.secyPort (c / 8) n).any (· != c) then (s, .range)
  else (s.put (hitchPortIx c) sub n, .ok)

/-! ### The commands -/

/-- A table-window row. -/
def rowTw (c : Caller) (sl code : Nat) (act : State → State × Status) (s : State) : State :=
  rowWindow c (twIx sl) Sub.twWin_TW_OP Sub.twWin_TW_STATUS code (sliceOp sl act) s

/-- `LEARN_REQUEST` (R82). -/
def execLearnRequest (sl : Nat) (overlap : Bool) (s : State) : Out := .next (learnStep sl overlap s)

/-- `SWEEP_VISIT` (R87, R88). -/
def execSweepVisit (sl : Nat) (overlap : Bool) (s : State) : Out := .next (sweepVisit sl overlap s)

/-- `SWEEP_START` (R91). -/
def execSweepStart (sl : Nat) (s : State) : Out := .next (sweepStart sl s)

/-- `AGE_CLOCK_TICK` (R89). -/
def execAgeClockTick (sl : Nat) (s : State) : Out := .next (ageTick sl s)

/-- `STATIC_REINSTALL` (R76). -/
def execStaticReinstall (sl i : Nat) (s : State) : Out := .next (staticReinstall sl i s)

/-- `TW_LOOKUP` (R99). -/
def execTwLookup (c : Caller) (sl : Nat) (s : State) : Out := .next (rowTw c sl 1 (twLookup sl) s)

/-- `TW_INSERT` (R100). -/
def execTwInsert (c : Caller) (sl : Nat) (s : State) : Out := .next (rowTw c sl 2 (twInsert sl) s)

/-- `TW_DELETE` (R99). -/
def execTwDelete (c : Caller) (sl : Nat) (s : State) : Out := .next (rowTw c sl 3 (twDelete sl) s)

/-- `TW_READ` (R99). -/
def execTwRead (c : Caller) (sl : Nat) (s : State) : Out := .next (rowTw c sl 4 (twRead sl) s)

/-- `TW_NEXT` (R99). -/
def execTwNext (c : Caller) (sl : Nat) (s : State) : Out := .next (rowTw c sl 5 (twNext sl) s)

/-- `TW_HASH` (R99). -/
def execTwHash (c : Caller) (sl : Nat) (s : State) : Out := .next (rowTw c sl 6 (twHash sl) s)

/-- `TW_FLUSH` (R99). -/
def execTwFlush (c : Caller) (sl : Nat) (s : State) : Out := .next (rowTw c sl 7 (twFlush sl) s)

end Sys2Proof.Machine
end

