-- ==== Sys2Proof/Machine/Assoc.lean ====
section
/-! DEFINITION. The association window (R138 to R149), the key-store scrubber and SA faults (R130), and the use of
packet numbers (R131 to R135). -/

namespace Sys2Proof.Machine

/-! ### Keys and their REFS (R128 to R130) -/

/-- A handle is live and names a SAK: USE = MACsec (R344). -/
def State.sakLive (s : State) (sl h : Nat) : Bool := s.handleLive sl h && bits (s.keyAt sl (handleIndex h)).record 61 60 == 0

/-- A sealed-ODU context of the slice names the handle (R130). -/
def State.oduNames (s : State) (sl h : Nat) : Bool :=
  (List.range 8).any (fun t => s.txKey sl t 0 == h || s.txKey sl t 1 == h
    || s.ob (soduIx sl t) Sub.sodu_RX_KEY_0 == h || s.ob (soduIx sl t) Sub.sodu_RX_KEY_1 == h)

/-- A held entry is freed once its REFS is 0 and no context names it (R130). -/
def heldRelease (sl i : Nat) (s : State) : State :=
  let e := s.keyAt sl i
  if e.held ∧ e.refs = 0 ∧ !s.oduNames sl (handleOf sl e.gen i) then s.putKey sl i e.freed else s

/-- REFS of the entry that a handle names with its current generation rises or falls (R128, R142). -/
def refsMove (up : Bool) (sl h : Nat) (s : State) : State :=
  let i := handleIndex h
  if s.handleNames sl h i then
    let e := s.keyAt sl i
    heldRelease sl i (s.putKey sl i { e with refs := if up then e.refs + 1 else e.refs - 1 })
  else s

/-- `KEY_SCRUB_VISIT`: the scrubber checks the next entry; `fault` is an uncorrectable error or a wrong H (R130). A fault in an entry that
is not valid, free or held, is neither counted nor raised: DESIGN CHOICE (log 139). -/
def keyScrub (sl : Nat) (fault : Bool) (s : State) : State :=
  if !s.sliceRuns sl then s
  else
    let i := mget 0 s.asc.scrub sl
    let s := { s with asc := { s.asc with scrub := mset 0 s.asc.scrub sl ((i + 1) % 8192) } }
    let e := s.keyAt sl i
    if fault ∧ e.valid then
      let s := (s.putKey sl i { e with valid := false, held := true }).addOb (Ix.assoc sl 0) Sub.assoc_KEY_SCRUB_FAULTS 32 1
      heldRelease sl i (s.raise 0x0403 sl (be 2 i))
    else s

/-- An uncorrectable error of an SA entry is found on a read: the SA becomes unusable. It is counted and raised once, until the entry is
written as a new SA or deleted: DESIGN CHOICE (R130, log 140). -/
def saFault (sl i : Nat) (s : State) : State :=
  if s.asc.saBad.contains (skey sl i) then s
  else (({ s with asc := { s.asc with saBad := s.asc.saBad ++ [skey sl i] } } : State).addOb
    (Ix.assoc sl 0) Sub.assoc_SA_ECC_FAULTS 32 1).raise 0x0404 sl (be 2 i)

/-- Reading an SA entry, where `ecc` says that the read finds an uncorrectable error. -/
def saRead (sl i : Nat) (ecc : Bool) (s : State) : State := if ecc then saFault sl i s else s

/-- The SA has an uncorrectable error (R130). -/
def State.saBadAt (s : State) (sl i : Nat) : Bool := s.asc.saBad.contains (skey sl i)

/-! ### Packet numbers (R131 to R135) -/

/-- The threshold of R131: the SA sets THRESH_HIT once. The flag tells whether it did so now. -/
def threshold (sl i pn : Nat) (s : State) : Bool × State :=
  let e := s.saAt sl i
  if !Sa.threshHit e ∧ Sa.pnThresh e ≤ pn then
    (true, (s.putSa sl i (Sa.setThreshHit e true)).raise 0x0401 sl (be 2 i ++ be 8 pn))
  else (false, s)

/-- The procedure of R132 past its first line: the PN, and whether the threshold was reached. -/
def assignPn (sl i : Nat) (s : State) : Nat × Bool × State :=
  let e := s.saAt sl i
  let pn := Sa.nextPn e
  let s := if pn = Sa.highest e then (s.putSa sl i (Sa.setExhausted e true)).raise 0x0402 sl (be 2 i)
    else s.putSa sl i (Sa.setNextPn e (pn + 1))
  let s := { s with asc := { s.asc with lastPn := minsert s.asc.lastPn (skey sl i) pn } }
  (pn, threshold sl i pn s)

/-- The lowest acceptable PN of a receive SA image (R133). -/
def lowestPn (e window : Nat) : Nat :=
  let n := if Sa.exhausted e then Sa.highest e + 1 else Sa.nextPn e
  if window < n then n - window else 1

/-- The full PN of a short PN: 64 bits, so that the block after the last is the first (R134). -/
def recoverPn (short l : Nat) : Nat :=
  let block := if l % 2 ^ 32 ≤ short then l / 2 ^ 32 else l / 2 ^ 32 + 1
  block % 2 ^ 32 * 2 ^ 32 + short % 2 ^ 32

/-- A verified PN commits to a receive SA (R135, R131). -/
def commitPn (sl i pn : Nat) (s : State) : State :=
  let e := s.saAt sl i
  let e := if Sa.nextPn e ≤ pn then
      (if pn = Sa.highest e then Sa.setExhausted e true else Sa.setNextPn e (pn + 1)) else e
  (threshold sl i pn (s.putSa sl i e)).2

/-! ### The window's inputs (R141, R148) -/

abbrev awIx (sl : Nat) : Nat := Ix.assoc sl 1
def State.awTable (s : State) (sl : Nat) : Nat := s.ob (awIx sl) Sub.awWin_AW_TABLE
def State.awIndex (s : State) (sl : Nat) : Nat := s.ob (awIx sl) Sub.awWin_AW_INDEX

/-- The entries of a table and the octets of an image (R110, R141). -/
def awSize (t : Nat) : Nat := if t < 2 then 2048 else if t = 3 then 16384 else if t = 5 then 8 else 8192
def awOctets (t : Nat) : Nat := match t with | 0 => 16 | 1 => 9 | 2 => 20 | 3 => 40 | _ => 4

/-- The readable part of a key-store entry, bits [415:384] (R128). -/
def KeyEntry.head (e : KeyEntry) : Nat :=
  e.valid.toNat * 2 ^ 31 + e.long.toNat * 2 ^ 30 + e.generated.toNat * 2 ^ 29 + e.gen * 2 ^ 15 + e.refs % 2 ^ 15

/-- An entry's image. -/
def State.awImage (s : State) (sl t i : Nat) : Nat :=
  match t with
  | 0 => (s.secyAt sl i).getD 0
  | 1 => s.txscAt sl i
  | 2 => s.rxscAt sl i
  | 3 => s.saAt sl i
  | _ => (s.keyAt sl i).head

/-- An entry is valid (R110). -/
def State.awValid (s : State) (sl t i : Nat) : Bool :=
  match t with
  | 0 | 1 => (s.secyAt sl i).isSome
  | 2 => Rxsc.valid (s.rxscAt sl i)
  | 3 => Sa.valid (s.saAt sl i)
  | _ => (s.keyAt sl i).valid

/-- READ; `ecc` says that the SA entry read has an uncorrectable error (R130, R141). `AW_INDEX` beyond the table is RANGE: DESIGN CHOICE
(log 141). -/
def awRead (sl : Nat) (ecc : Bool) (s : State) : State × Status :=
  let t := s.awTable sl
  let i := s.awIndex sl
  if t = 5 ∨ awSize t ≤ i then (s, .range)
  else
    let s := if t = 3 then saRead sl i ecc s else s
    if t = 3 ∧ s.saBadAt sl i then (s, .integrity)
    else (s.putO (awIx sl) Sub.awWin_AW_DATA (padTo 40 (be (awOctets t) (s.awImage sl t i))), .ok)

/-- FIND_SCI (R121, R141). -/
def State.findSci (s : State) (sl sci : Nat) : Option Nat :=
  ((s.asc.rxsc.filter (fun x => x.1 / 2 ^ 20 == sl)).find? (fun x => Rxsc.valid x.2 && Rxsc.sci x.2 == sci)).map (·.1 % 2 ^ 20)

/-- FIND_SCI (R141). -/
def awFindSci (sl : Nat) (s : State) : State × Status :=
  match s.findSci sl (num (s.oct (awIx sl) Sub.awWin_AW_SCI)) with
  | some i => (s.put (awIx sl) Sub.awWin_AW_INDEX i, .ok)
  | none => (s, .range)

/-- The lowest number from `i` on, among the next `k`, that `p` refuses. -/
def firstNot (p : Nat → Bool) : Nat → Nat → Option Nat
  | 0, _ => none
  | k + 1, i => if p i then firstNot p k (i + 1) else some i

/-- FREE (R141). -/
def awFree (sl : Nat) (s : State) : State × Status :=
  let t := s.awTable sl
  if t = 5 then (s, .range) else if t = 4 then (s, .denied)
  else match firstNot (s.awValid sl t) (awSize t) 0 with
    | some i => (s.put (awIx sl) Sub.awWin_AW_INDEX i, .ok)
    | none => (s, .range)

/-- READ_COUNTERS (R136, R141); a held snapshot answers in place of the live counters (R620). `AW_INDEX` beyond the table is RANGE: DESIGN
CHOICE (log 141). -/
def awReadCounters (sl : Nat) (s : State) : State × Status :=
  let t := s.awTable sl
  let i := s.awIndex sl
  if t = 1 ∨ t = 4 ∨ awSize t ≤ i then (s, .range)
  else
    let m := if s.tel.held then s.tel.asc else s.asc.cnt
    let n := if t = 5 then 2 else 6
    (s.putO (awIx sl) Sub.awWin_AW_COUNTERS
      (padTo 64 ((List.range n).flatMap (fun k => be 8 (mget 0 m (ackey t sl i k))))), .ok)

/-! ### WRITE (R142, R236) -/

/-- The four slots of an SC image: AN validity and the 16-bit slot. -/
def slotsOf (valid : Nat → Bool) (slot : Nat → Nat) : List (Nat × Nat) :=
  ((List.range 4).filter valid).map (fun a => (a, slot a))

/-- Every valid slot names a valid SA of this direction, SC and AN (R142). -/
def State.slotsOk (s : State) (sl dir sc : Nat) (l : List (Nat × Nat)) : Bool :=
  l.all (fun x => let a := s.saAt sl x.2
    decide (x.2 < 16384) && Sa.valid a && Sa.dir a == dir && Sa.sc a == sc && Sa.an a == x.1)

/-- A valid SA belongs to the SecY's transmit SC or to one of its receive SCs (R142). -/
def State.secyHasSa (s : State) (sl i : Nat) : Bool :=
  (s.asc.sa.filter (fun x => x.1 / 2 ^ 20 == sl)).any (fun x => Sa.valid x.2 &&
    (if Sa.dir x.2 = 0 then Sa.sc x.2 == i
     else let r := s.rxscAt sl (Sa.sc x.2); Rxsc.valid r && Rxsc.secy r == i))

/-- The first failing SecY row of R142 for an image `e` over `old`. A WRITE that creates a SecY with ENABLE = 1, or an SA with
IN_USE = 1, changes no field of an enabled entry (log 104). -/
def State.secyCheck (s : State) (sl i old e : Nat) : Status :=
  let was := (s.secyAt sl i).isSome
  if Secy.validate e = 3 ∨ Secy.offset e = 3 ∨ Secy.vlanClear e = 3 ∨ bit e 126 ∨ bits e 106 96 ≠ 0 then .range
  else if Secy.port e / 8 ≠ sl ∨ 2 ^ 30 < Secy.window e ∨ (!Secy.includeSci e && Secy.useEs e && Secy.useScb e) then .range
  else if was ∧ Secy.enable e ∧ (Secy.suite e ≠ Secy.suite old ∨ Secy.port e ≠ Secy.port old ∨ Secy.sci e ≠ Secy.sci old
      ∨ Secy.offset e ≠ Secy.offset old ∨ Secy.vlanClear e ≠ Secy.vlanClear old) then .busy
  else if was ∧ Secy.suite e ≠ Secy.suite old ∧ s.secyHasSa sl i then .busy
  else .ok

/-- A cue of a transmit SC is armed or pending (R236). -/
def State.cueActive (s : State) (sl i : Nat) : Bool := Cue.state (s.cueAt sl i) == 1 || Cue.state (s.cueAt sl i) == 2

/-- The first failing transmit SC row of R142 and R236. -/
def State.txscCheck (s : State) (sl i old e : Nat) : Status :=
  match s.secyAt sl i with
  | none => .range
  | some y =>
    let an := Txsc.encodingAn e
    if bits e 65 64 ≠ 0 ∨ (List.range 4).any (fun a => decide (16384 ≤ Txsc.slot e a)) then .range
    else if !s.slotsOk sl 0 i (slotsOf (Txsc.anValid e) (Txsc.slot e)) then .range
    else if Secy.enable y ∧ !Txsc.anValid e an then .range
    else if Secy.enable y ∧ Txsc.anValid old an ∧ Txsc.slot e an ≠ Txsc.slot old an then .busy
    else if an ≠ Txsc.encodingAn old ∧ s.cueActive sl i then .busy
    else .ok

/-- Another valid receive SC of the slice holds the SCI (R121). -/
def State.sciTaken (s : State) (sl i sci : Nat) : Bool :=
  (s.asc.rxsc.filter (fun x => x.1 / 2 ^ 20 == sl)).any (fun x => x.1 % 2 ^ 20 != i && Rxsc.valid x.2 && Rxsc.sci x.2 == sci)

/-- The first failing receive SC row of R142. -/
def State.rxscCheck (s : State) (sl i old e : Nat) : Status :=
  if bits e 131 128 ≠ 0 ∨ (List.range 4).any (fun a => decide (16384 ≤ Rxsc.slot e a)) then .range
  else if Rxsc.valid old ∧ !Rxsc.valid e then .range
  else if (s.secyAt sl (Rxsc.secy e)).isNone ∨ (Rxsc.ltValid e ∧ (s.secyAt sl (Rxsc.learnTarget e)).isNone)
      ∨ s.sciTaken sl i (Rxsc.sci e) ∨ !s.slotsOk sl 1 i (slotsOf (Rxsc.anValid e) (Rxsc.slot e)) then .range
  else .ok

/-- The SecY that owns an SA image (R142). -/
def State.ownerOf (s : State) (sl e : Nat) : Option Nat :=
  if Sa.dir e = 0 then s.secyAt sl (Sa.sc e)
  else if Rxsc.valid (s.rxscAt sl (Sa.sc e)) then s.secyAt sl (Rxsc.secy (s.rxscAt sl (Sa.sc e))) else none

/-- A PN lies in the range of R126. -/
def pnOk (e pn : Nat) : Bool := decide (1 ≤ pn) && decide (pn ≤ Sa.highest e)

/-- The first failing SA row of R142. -/
def State.saCheck (s : State) (sl old e : Nat) : Status :=
  if bits e 311 301 ≠ 0 ∨ (Sa.threshHit e && !Sa.threshHit old) ∨ Sa.exhausted e ≠ Sa.exhausted old then .range
  else if Sa.valid old ∧ !Sa.valid e then .range
  else match s.ownerOf sl e with
  | none => .range
  | some y =>
    if Sa.xpn e ≠ Secy.xpn y ∨ !s.sakLive sl (Sa.handle e) ∨ (s.keyAt sl (handleIndex (Sa.handle e))).long ≠ Secy.long y
        ∨ !pnOk e (Sa.nextPn e) ∨ !pnOk e (Sa.pnThresh e) then .range
    else if Sa.valid old ∧ Sa.inUse e ∧ (Sa.handle e ≠ Sa.handle old ∨ Sa.ssci e ≠ Sa.ssci old ∨ Sa.salt e ≠ Sa.salt old
        ∨ Sa.an e ≠ Sa.an old ∨ Sa.sc e ≠ Sa.sc old ∨ (Sa.dir e = 0 ∧ Sa.nextPn e ≠ Sa.nextPn old)) then .busy
    else if Sa.valid old ∧ Sa.inUse e ∧ Sa.dir e = 1 ∧ Sa.nextPn e < Sa.nextPn old then .range
    else .ok

/-- The first failing row of R142. -/
def State.awCheck (s : State) (sl t i old e : Nat) : Status :=
  match t with
  | 0 => s.secyCheck sl i old e
  | 1 => s.txscCheck sl i old e
  | 2 => s.rxscCheck sl i old e
  | _ => s.saCheck sl old e

/-- PN_THRESH of a new SA whose WRITE leaves the field unmasked (R147). -/
def State.threshDefault (s : State) (sl old e mask : Nat) : Nat :=
  if !Sa.valid old ∧ Sa.valid e ∧ bits mask 191 128 = 0 then
    let d := s.ob (Ix.assoc sl 0) Sub.assoc_PN_THRESH_DEFAULT
    setBits e 191 128 (if Sa.xpn e then d else d / 2 ^ 32)
  else e

/-- The commit of an SA WRITE: REFS moves, and a new SA starts afresh (R136, R142). -/
def saCommit (sl i old e : Nat) (s : State) : State :=
  let h (x : Nat) : Option Nat := if Sa.valid x then some (Sa.handle x) else none
  let s := if h old = h e then s
    else
      let s := (match h e with | some k => refsMove true sl k s | none => s)
      match h old with | some k => refsMove false sl k s | none => s
  let s := s.putSa sl i e
  if Sa.valid e ∧ !Sa.valid old then
    let s := s.azero 3 sl i
    { s with asc := { s.asc with lastPn := merase s.asc.lastPn (skey sl i), saBad := s.asc.saBad.filter (· != skey sl i) } }
  else s

/-- The commit of a WRITE. -/
def awCommit (sl t i old e : Nat) (s : State) : State :=
  match t with
  | 0 => if (s.secyAt sl i).isSome then s.putSecy sl i e else (s.putSecy sl i e).azero 0 sl i
  | 1 => s.putTxsc sl i e
  | 2 => if Rxsc.valid e ∧ !Rxsc.valid old then (s.putRxsc sl i e).azero 2 sl i else s.putRxsc sl i e
  | _ => saCommit sl i old e s

/-- What a WRITE sends to the standby: the entry, and a CUE_SYNC where it changes ENCODING_AN or IN_USE (R427). -/
def awSync (sl t i old e : Nat) (s : State) : State :=
  let s := mirror (.entry t sl i e) s
  if t = 1 ∧ Txsc.encodingAn e ≠ Txsc.encodingAn old then cueSync sl (s.recordSc sl i) s
  else if t = 3 ∧ Sa.dir e = 0 ∧ Sa.inUse e ≠ Sa.inUse old then cueSync sl (s.recordSa sl i) s
  else s

/-- WRITE (R141, R142); pending cues are tested after the commit (R238). `AW_INDEX` beyond the table is RANGE: DESIGN CHOICE (log 141). -/
def awWrite (sl : Nat) (ecc : Bool) (s : State) : State × Status :=
  let t := s.awTable sl
  let i := s.awIndex sl
  if t = 4 then (s, .denied) else if t = 5 ∨ awSize t ≤ i then (s, .range)
  else
    let s := if t = 3 then saRead sl i ecc s else s
    if t = 3 ∧ s.saBadAt sl i then (s, .integrity)
    else
      let n := awOctets t
      let mask := fld (s.oct (awIx sl) Sub.awWin_AW_MASK) 0 n
      let old := s.awImage sl t i
      let e := maskMerge old (fld (s.oct (awIx sl) Sub.awWin_AW_DATA) 0 n) mask
      let e := if t = 3 then s.threshDefault sl old e mask else e
      match s.awCheck sl t i old e with
      | .ok => (awSync sl t i old e (cuesTest sl (awCommit sl t i old e s)), .ok)
      | st => (s, st)

/-! ### DELETE (R144, R236) -/

/-- An entry is named by a valid slot or by an object that holds entry numbers (R144). -/
def State.awNamed (s : State) (sl t i : Nat) : Bool :=
  let rx := s.asc.rxsc.filter (fun x => x.1 / 2 ^ 20 == sl && Rxsc.valid x.2)
  match t with
  | 0 =>
    (List.range 8).any (fun k => s.ob (hitchPortIx (8 * sl + k)) Sub.hitchPort_GROUP_SECY == i
      || s.ob (Ix.assoc sl (0x10 + k)) Sub.linePort_UNTAGGED_SECY == i)
    || rx.any (fun x => Rxsc.ltValid x.2 && Rxsc.learnTarget x.2 == i)
  | 2 => (List.range 8).any (fun k => s.ob (Ix.assoc sl (0x10 + k)) Sub.linePort_DEFAULT_RXSC == i)
  | 3 =>
    rx.any (fun x => (slotsOf (Rxsc.anValid x.2) (Rxsc.slot x.2)).any (fun y => y.2 == i))
    || (s.asc.txsc.filter (fun x => x.1 / 2 ^ 20 == sl)).any
        (fun x => (slotsOf (Txsc.anValid x.2) (Txsc.slot x.2)).any (fun y => y.2 == i))
  | _ => false

/-- The third case of R144: something belongs to the SecY. -/
def State.secyBusy (s : State) (sl i : Nat) : Bool :=
  bits (s.txscAt sl i) 71 68 != 0
    || s.asc.rxsc.any (fun x => x.1 / 2 ^ 20 == sl && Rxsc.valid x.2 && Rxsc.secy x.2 == i)
    || s.asc.sa.any (fun x => x.1 / 2 ^ 20 == sl && Sa.valid x.2 && Sa.dir x.2 == 0 && Sa.sc x.2 == i)

/-- A DELETE is refused BUSY (R144, R236). -/
def State.deleteBusy (s : State) (sl t i : Nat) : Bool :=
  s.awNamed sl t i || (match t with
    | 0 => s.secyBusy sl i || s.cueActive sl i
    | 1 => (s.secyAt sl i).any Secy.enable || s.cueActive sl i
    | 2 => Watch.state (s.watchAt sl i) == 1 || Watch.state (s.watchAt sl i) == 2
    | _ => false)

/-- DELETE: it runs on until no frame in flight holds the entry (R144). `AW_INDEX` beyond the table is RANGE: DESIGN CHOICE (log 141). -/
def awDelete (sl : Nat) (s : State) : State × Option Status :=
  let t := s.awTable sl
  let i := s.awIndex sl
  if t = 4 then (s, some .denied) else if t = 5 ∨ awSize t ≤ i then (s, some .range)
  else if !s.awValid sl t i then (s, some .ok)
  else if s.deleteBusy sl t i then (s, some .busy)
  else if t = 1 then (mirror (.entry 1 sl i 0) (s.putTxsc sl i 0), some .ok)
  else (cuesTest sl { s with asc := { s.asc with deleting := minsert s.asc.deleting sl (t, i) } }, none)

/-- A frame in flight holds an entry by its SecY or SA (R144). -/
def Frm.uses (f : Frm) (t i : Nat) : Bool := if t = 0 then f.secy == some i else t == 3 && f.sa == some i

/-- A frame in the verify store holds an entry (R144). -/
def Vf.holds (f : Vf) (t i : Nat) : Bool := if t = 2 then f.rxsc == some i else f.frm.uses t i

/-- Zero a deleted entry; REFS of its key falls (R144), and its counters are lost: they read as zeros (R136, log 126). -/
def awRemove (sl t i : Nat) (s : State) : State :=
  match t with
  | 1 => s.putTxsc sl i 0
  | 0 => ({ s with asc := { s.asc with secy := merase s.asc.secy (skey sl i), txsc := merase s.asc.txsc (skey sl i) } } : State).azero
      0 sl i
  | 2 => (s.putRxsc sl i 0).azero 2 sl i
  | 3 =>
    let s := ((refsMove false sl (Sa.handle (s.saAt sl i)) s).putSa sl i 0).azero 3 sl i
    { s with asc := { s.asc with lastPn := merase s.asc.lastPn (skey sl i), saBad := s.asc.saBad.filter (· != skey sl i) } }
  | _ => s

/-- `AW_DELETE_DONE` (R144). -/
def awDeleteDone (sl : Nat) (s : State) : State :=
  match mfind s.asc.deleting sl with
  | none => s
  | some (t, i) =>
    if (mget [] s.eng.verify (pipeKey sl .open)).any (fun f => f.holds t i)
        || (mget [] s.eng.egress (pipeKey sl .seal)).any (fun e => e.frm.uses t i) then s
    else
      let s := mirror (.entry t sl i 0) <| awRemove sl t i { s with asc := { s.asc with deleting := merase s.asc.deleting sl } }
      s.winEnd (awIx sl) Sub.awWin_AW_STATUS .ok

/-! ### Writes of this chapter's objects (R149) -/

/-- A write of `DEFAULT_RXSC` or `UNTAGGED_SECY` of a line port or tributary (R149). -/
def linePortWrite (sl p sub_ n : Nat) (s : State) : State × Status :=
  let y := if sub_ = Sub.linePort_DEFAULT_RXSC then
      (if n < 8192 ∧ Rxsc.valid (s.rxscAt sl n) ∧ !s.deletingIs sl 2 n then some (Rxsc.secy (s.rxscAt sl n)) else none)
    else if n < 2048 ∧ !s.deletingIs sl 0 n then some n else none
  let ok := n == 0xFFFF || (match y.bind (s.secyPort sl) with
    | some c => s.boundTo c sl p
    | none => false)
  if ok then (s.put (Ix.assoc sl (0x10 + p)) sub_ n, .ok) else (s, .range)

/-- A window operation, whose access to an SA or key-store entry the datapath may delay (R140, R147). -/
def awTimed (sl : Nat) (act : State → State × Status) (s : State) : State × Status :=
  if s.awTable sl = 3 ∨ s.awTable sl = 4 then State.retry (Ix.assoc sl 0) Sub.assoc_WINDOW_RETRIES (act s) else act s

/-- DELETE, whose access the datapath may delay in the same way. -/
def awDeleteTimed (sl : Nat) (s : State) : State × Option Status :=
  let r := awDelete sl s
  ((awTimed sl (fun _ => (r.1, .ok)) s).1, r.2)

/-- A window operation by its code (R141); a READ or WRITE so made finds no new error. -/
def awOp (sl code : Nat) (s : State) : State × Option Status :=
  if s.gated sl then (s, some .notReady)
  else
    let lift (r : State × Status) : State × Option Status := (r.1, some r.2)
    let now (r : State × Status) : State × Option Status := lift (awTimed sl (fun _ => r) s)
    match code with
    | 1 => now (awRead sl false s)
    | 2 => now (awWrite sl false s)
    | 3 => lift (awFindSci sl s)
    | 4 => lift (awFree sl s)
    | 5 => awDeleteTimed sl s
    | 6 => lift (awReadCounters sl s)
    | _ => (s, some .ok)

/-! ### The commands -/

/-- A row of the association window. -/
def rowAw (c : Caller) (sl code : Nat) (act : State → State × Status) (s : State) : State :=
  rowWindow c (awIx sl) Sub.awWin_AW_OP Sub.awWin_AW_STATUS code (sliceOp sl act) s

/-- `AW_READ` (R141). -/
def execAwRead (c : Caller) (sl : Nat) (ecc : Bool) (s : State) : Out := .next (rowAw c sl 1 (awTimed sl (awRead sl ecc)) s)

/-- `AW_WRITE` (R142). -/
def execAwWrite (c : Caller) (sl : Nat) (ecc : Bool) (s : State) : Out := .next (rowAw c sl 2 (awTimed sl (awWrite sl ecc)) s)

/-- `AW_FIND_SCI` (R141). -/
def execAwFindSci (c : Caller) (sl : Nat) (s : State) : Out := .next (rowAw c sl 3 (awFindSci sl) s)

/-- `AW_FREE` (R141). -/
def execAwFree (c : Caller) (sl : Nat) (s : State) : Out := .next (rowAw c sl 4 (awFree sl) s)

/-- `AW_DELETE` (R144). -/
def execAwDelete (c : Caller) (sl : Nat) (s : State) : Out :=
  .next (rowWindowStart c (awIx sl) Sub.awWin_AW_OP Sub.awWin_AW_STATUS 5 (awOp sl 5) s)

/-- `AW_DELETE_DONE` (R144). -/
def execAwDeleteDone (sl : Nat) (s : State) : Out := .next (awDeleteDone sl s)

/-- `AW_READ_COUNTERS` (R141). -/
def execAwReadCounters (c : Caller) (sl : Nat) (s : State) : Out := .next (rowAw c sl 6 (awReadCounters sl) s)

/-- `KEY_SCRUB_VISIT` (R130). -/
def execKeyScrubVisit (sl : Nat) (fault : Bool) (s : State) : Out := .next (keyScrub sl fault s)

end Sys2Proof.Machine
end

