-- ==== Sys2Proof/Machine/Crypto.lean ====
section
/-! DEFINITION. The ciphers and hashes that the chapters name by their standards: AES (R186), GCM (R193, R279), AES-KW
and AES-KWP (R340, R352), SHA-384, HMAC and the derivation of R329, AES-CMAC and its KDF (R376). The standards
themselves stand outside the spec (log 20). -/

namespace Sys2Proof.Machine

/-- The S-box of AES, 32 octets a row (R186). -/
def sboxRows : List Nat := [
  0x637C777BF26B6FC53001672BFED7AB76CA82C97DFA5947F0ADD4A2AF9CA472C0,
  0xB7FD9326363FF7CC34A5E5F171D8311504C723C31896059A071280E2EB27B275,
  0x09832C1A1B6E5AA0523BD6B329E32F8453D100ED20FCB15B6ACBBE394A4C58CF,
  0xD0EFAAFB434D338545F9027F503C9FA851A3408F929D38F5BCB6DA2110FFF3D2,
  0xCD0C13EC5F974417C4A77E3D645D197360814FDC222A908846EEB814DE5E0BDB,
  0xE0323A0A4906245CC2D3AC629195E479E7C8376D8DD54EA96C56F4EA657AAE08,
  0xBA78252E1CA6B4C6E8DD741F4BBD8B8A703EB5664803F60E613557B986C11D9E,
  0xE1F8981169D98E949B1E87E9CE5528DF8CA1890DBFE6426841992D0FB054BB16]

/-- The inverse S-box of AES. -/
def invSboxRows : List Nat := [
  0x52096AD53036A538BF40A39E81F3D7FB7CE339829B2FFF87348E4344C4DEE9CB,
  0x547B9432A6C2233DEE4C950B42FAC34E082EA16628D924B2765BA2496D8BD125,
  0x72F8F66486689816D4A45CCC5D65B6926C704850FDEDB9DA5E154657A78D9D84,
  0x90D8AB008CBCD30AF7E45805B8B34506D02C1E8FCA3F0F02C1AFBD0301138A6B,
  0x3A9111414F67DCEA97F2CFCEF0B4E67396AC7422E7AD3585E2F937E81C75DF6E,
  0x47F11A711D29C5896FB7620EAA18BE1BFC563E4BC6D279209ADBC0FE78CD5AF4,
  0x1FDDA8338807C731B11210592780EC5F60517FA919B54A0D2DE57A9F93C99CEF,
  0xA0E03B4DAE2AF5B0C8EBBB3C83539961172B047EBA77D626E169146355210C7D]

/-- The round constants of SHA-384, four words a row. -/
def shaKRows : List Nat := [
  0x428A2F98D728AE227137449123EF65CDB5C0FBCFEC4D3B2FE9B5DBA58189DBBC,
  0x3956C25BF348B53859F111F1B605D019923F82A4AF194F9BAB1C5ED5DA6D8118,
  0xD807AA98A303024212835B0145706FBE243185BE4EE4B28C550C7DC3D5FFB4E2,
  0x72BE5D74F27B896F80DEB1FE3B1696B19BDC06A725C71235C19BF174CF692694,
  0xE49B69C19EF14AD2EFBE4786384F25E30FC19DC68B8CD5B5240CA1CC77AC9C65,
  0x2DE92C6F592B02754A7484AA6EA6E4835CB0A9DCBD41FBD476F988DA831153B5,
  0x983E5152EE66DFABA831C66D2DB43210B00327C898FB213FBF597FC7BEEF0EE4,
  0xC6E00BF33DA88FC2D5A79147930AA72506CA6351E003826F142929670A0E6E70,
  0x27B70A8546D22FFC2E1B21385C26C9264D2C6DFC5AC42AED53380D139D95B3DF,
  0x650A73548BAF63DE766A0ABB3C77B2A881C2C92E47EDAEE692722C851482353B,
  0xA2BFE8A14CF10364A81A664BBC423001C24B8B70D0F89791C76C51A30654BE30,
  0xD192E819D6EF5218D69906245565A910F40E35855771202A106AA07032BBD1B8,
  0x19A4C116B8D2D0C81E376C085141AB532748774CDF8EEB9934B0BCB5E19B48A8,
  0x391C0CB3C5C95A634ED8AA4AE3418ACB5B9CCA4F7763E373682E6FF3D6B2B8A3,
  0x748F82EE5DEFB2FC78A5636F43172F6084C87814A1F0AB728CC702081A6439EC,
  0x90BEFFFA23631E28A4506CEBDE82BDE9BEF9A3F7B2C67915C67178F2E372532B,
  0xCA273ECEEA26619CD186B8C721C0C207EADA7DD6CDE0EB1EF57D4F7FEE6ED178,
  0x06F067AA72176FBA0A637DC5A2C898A6113F9804BEF90DAE1B710B35131C471B,
  0x28DB77F523047D8432CAAB7B40C724933C9EBE0A15C9BEBC431D67C49C100D4C,
  0x4CC5D4BECB3E42B6597F299CFC657E2A5FCB6FAB3AD6FAEC6C44198C4A475817]

/-- The initial value of SHA-384. -/
def shaHRows : List Nat := [
  0xCBBB9D5DC1059ED8629A292A367CD5079159015A3070DD17152FECD8F70E5939,
  0x67332667FFC00B318EB44A8768581511DB0C2E0D64F98FA747B5481DBEFA4FA4]

/-! ### AES -/

/-- Octet `i` of a table written 32 octets a row. -/
def tableOctet (t : List Nat) (i : Nat) : Nat := t.getD (i / 32) 0 / 256 ^ (31 - i % 32) % 256

/-- Word `i` of a table written four words a row. -/
def tableWord (t : List Nat) (i : Nat) : Nat := (t.getD (i / 4) 0) / 2 ^ (64 * (3 - i % 4)) % 2 ^ 64

def subByte (b : Byte) : Byte := byte (tableOctet sboxRows b.toNat)

/-- Twice each octet of a block, in the field of AES. -/
def xtimes (n : Nat) : Nat :=
  (n &&& 0x7F7F7F7F7F7F7F7F7F7F7F7F7F7F7F7F) * 2 ^^^ (n / 128 &&& 0x01010101010101010101010101010101) * 0x1B

/-- The next word of the key schedule: word `i`, of a schedule whose words so far stand latest first. -/
def nextKeyWord (nk i : Nat) (ws : List Bytes) : Bytes :=
  let prev := ws.getD 0 []
  let t := if i % nk = 0 then
      xorB ((prev.drop 1 ++ prev.take 1).map subByte) [byte (xtimes^[i / nk - 1] 1), 0, 0, 0]
    else if 6 < nk ∧ i % nk = 4 then prev.map subByte else prev
  xorB (ws.getD (nk - 1) []) t

/-- The round keys of a 16- or 32-octet key, in order. -/
def roundKeys (key : Bytes) : List Nat :=
  let nk := key.length / 4
  let start := ((List.range nk).map (fun i => sub key (4 * i) 4)).reverse
  let ws := ((List.range (4 * (nk + 7) - nk)).foldl (fun ws j => nextKeyWord nk (nk + j) ws :: ws) start).reverse
  (List.range (nk + 7)).map (fun r => num ((ws.drop (4 * r)).take 4).flatten)

/-- A block, column by column, with each octet replaced by the table's and each row shifted by `d` times its number. -/
def subShift (t : List Nat) (d n : Nat) : Nat :=
  (List.range 16).foldl
    (fun a i => a * 256 + tableOctet t (n / 256 ^ (15 - (4 * ((i / 4 + d * (i % 4)) % 4) + i % 4)) % 256)) 0

/-- Each column of a block turned by one octet. -/
def turned (n : Nat) : Nat :=
  (n &&& 0x00FFFFFF00FFFFFF00FFFFFF00FFFFFF) * 256 + (n / 2 ^ 24 &&& 0x000000FF000000FF000000FF000000FF)

/-- Mix each column: its octets by 2, 3, 1, 1 in circulation. -/
def mixColumns (n : Nat) : Nat :=
  let r := turned n
  xtimes (n ^^^ r) ^^^ r ^^^ turned r ^^^ turned (turned r)

/-- Its inverse: the octets by 14, 11, 13, 9. -/
def unmixColumns (n : Nat) : Nat := mixColumns (n ^^^ xtimes (xtimes (n ^^^ turned (turned n))))

/-- AES encryption of one block of 16 octets. -/
def aesEnc (key blk : Bytes) : Bytes :=
  match roundKeys key with
  | [] => blk
  | k0 :: ks =>
    let n := ks.dropLast.foldl (fun n k => mixColumns (subShift sboxRows 1 n) ^^^ k) (num blk ^^^ k0)
    be 16 (subShift sboxRows 1 n ^^^ ks.getLastD 0)

/-- AES decryption of one block of 16 octets. -/
def aesDec (key blk : Bytes) : Bytes :=
  match (roundKeys key).reverse with
  | [] => blk
  | k0 :: ks =>
    let n := ks.dropLast.foldl (fun n k => unmixColumns (subShift invSboxRows 3 n ^^^ k)) (num blk ^^^ k0)
    be 16 (subShift invSboxRows 3 n ^^^ ks.getLastD 0)

/-! ### GCM -/

/-- One step of the multiplication: the accumulated product and the running multiple. -/
def ghashStep (x : Nat) (p : Nat × Nat) (i : Nat) : Nat × Nat :=
  (if x.testBit (127 - i) then p.1 ^^^ p.2 else p.1,
   if p.2 % 2 = 1 then (p.2 / 2) ^^^ (0xE1 * 2 ^ 120) else p.2 / 2)

/-- The product of two elements of the field of GHASH. -/
def ghashMul (x y : Nat) : Nat := ((List.range 128).foldl (ghashStep x) (0, y)).1

/-- The 16-octet pieces of a byte string, the last padded with zeros. -/
def padBlocks (b : Bytes) : List Bytes :=
  (List.range ((b.length + 15) / 16)).map (fun i => padTo 16 (sub b (16 * i) 16))

/-- GHASH of further blocks into an accumulator. -/
def ghashInto (h y : Nat) (bs : List Bytes) : Nat := bs.foldl (fun a b => ghashMul (a ^^^ num b) h) y

/-- GHASH over A and C, each padded, and the length block (R193). -/
def ghash (h : Nat) (a c : Bytes) : Nat :=
  ghashInto h 0 (padBlocks a ++ padBlocks c ++ [be 8 (8 * a.length) ++ be 8 (8 * c.length)])

/-- The hash subkey H (R128). -/
def hashKey (key : Bytes) : Nat := num (aesEnc key (zeros 16))

/-- The counter block J0 + `i` of a 96-bit IV: the 32-bit counter wraps (R193). -/
def gcmCtr (iv : Bytes) (i : Nat) : Bytes := iv ++ be 4 ((1 + i) % 2 ^ 32)

/-- The keystream blocks `i` = 1 … `n`, from block number `from_` on. -/
def keystream (key iv : Bytes) (from_ n : Nat) : List Bytes :=
  (List.range n).map (fun i => aesEnc key (gcmCtr iv (from_ + 1 + i)))

/-- Plaintext or ciphertext under a keystream. -/
def gcmCrypt (key iv p : Bytes) : Bytes := xorB p (keystream key iv 0 ((p.length + 15) / 16)).flatten

/-- The tag of A and C, by a stored H (R128, R193). -/
def gcmTag (key : Bytes) (h : Nat) (iv a c : Bytes) : Bytes := xorB (be 16 (ghash h a c)) (aesEnc key (gcmCtr iv 0))

/-! ### Key wrap (RFC 3394, RFC 5649) -/

/-- One step of wrapping: A and the semiblocks. -/
def kwStep (key : Bytes) (n : Nat) (s : Bytes × List Bytes) (t : Nat) : Bytes × List Bytes :=
  let i := t % n
  let b := aesEnc key (s.1 ++ s.2.getD i [])
  (xorB (b.take 8) (be 8 (t + 1)), s.2.set i (b.drop 8))

/-- One step of unwrapping. -/
def kuStep (key : Bytes) (n : Nat) (s : Bytes × List Bytes) (t : Nat) : Bytes × List Bytes :=
  let i := t % n
  let b := aesDec key (xorB s.1 (be 8 (t + 1)) ++ s.2.getD i [])
  (b.take 8, s.2.set i (b.drop 8))

/-- The semiblocks of a byte string. -/
def semiblocks (b : Bytes) : List Bytes := (List.range (b.length / 8)).map (fun i => sub b (8 * i) 8)

/-- The wrapping function W over an initial value and at least two semiblocks. -/
def wrapW (key iv p : Bytes) : Bytes :=
  let r := semiblocks p
  let s := (List.range (6 * r.length)).foldl (kwStep key r.length) (iv, r)
  s.1 ++ s.2.flatten

/-- Its inverse: the recovered initial value and the plaintext. -/
def unwrapW (key c : Bytes) : Bytes × Bytes :=
  let r := semiblocks (c.drop 8)
  let s := (List.range (6 * r.length)).reverse.foldl (kuStep key r.length) (c.take 8, r)
  (s.1, s.2.flatten)

/-- AES-KW wrap (RFC 3394). -/
def kwWrap (key p : Bytes) : Bytes := wrapW key (List.replicate 8 0xA6) p

/-- AES-KW unwrap: none where the integrity value differs. -/
def kwUnwrap (key c : Bytes) : Option Bytes :=
  let r := unwrapW key c
  if c.length % 8 = 0 ∧ 24 ≤ c.length ∧ r.1 = List.replicate 8 0xA6 then some r.2 else none

/-- AES-KWP wrap (RFC 5649). -/
def kwpWrap (key p : Bytes) : Bytes :=
  let iv := [0xA6, 0x59, 0x59, 0xA6] ++ be 4 p.length
  let q := padTo ((p.length + 7) / 8 * 8) p
  if q.length ≤ 8 then aesEnc key (iv ++ q) else wrapW key iv q

/-- AES-KWP unwrap: none where the integrity check or the length check fails. -/
def kwpUnwrap (key c : Bytes) : Option Bytes :=
  if c.length % 8 ≠ 0 ∨ c.length < 16 then none
  else
    let r : Bytes × Bytes := if c.length = 16 then ((aesDec key c).take 8, (aesDec key c).drop 8) else unwrapW key c
    let n := fld r.1 4 4
    if r.1.take 4 = [0xA6, 0x59, 0x59, 0xA6] ∧ r.2.length - 8 < n ∧ n ≤ r.2.length ∧ (r.2.drop n).all (· == 0) then
      some (r.2.take n)
    else none

/-! ### SHA-384 -/

def rotr64 (x n : Nat) : Nat := x / 2 ^ n + x % 2 ^ n * 2 ^ (64 - n)

/-- The message schedule of one 128-octet block, latest word first. -/
def shaSchedule (b : Bytes) : List Nat :=
  let start := ((List.range 16).map (fun i => fld b (8 * i) 8)).reverse
  (List.range 64).foldl (fun w _ =>
    let a := w.getD 14 0
    let e := w.getD 1 0
    let s0 := rotr64 a 1 ^^^ rotr64 a 8 ^^^ a / 2 ^ 7
    let s1 := rotr64 e 19 ^^^ rotr64 e 61 ^^^ e / 2 ^ 6
    (w.getD 15 0 + s0 + w.getD 6 0 + s1) % 2 ^ 64 :: w) start

/-- One round on the eight working words. -/
def shaRound (w : List Nat) (v : List Nat) (i : Nat) : List Nat :=
  match v with
  | [a, b, c, d, e, f, g, h] =>
    let s1 := rotr64 e 14 ^^^ rotr64 e 18 ^^^ rotr64 e 41
    let ch := (e &&& f) ^^^ ((2 ^ 64 - 1 - e) &&& g)
    let t1 := h + s1 + ch + tableWord shaKRows i + w.getD i 0
    let s0 := rotr64 a 28 ^^^ rotr64 a 34 ^^^ rotr64 a 39
    let mj := (a &&& b) ^^^ (a &&& c) ^^^ (b &&& c)
    [(t1 + s0 + mj) % 2 ^ 64, a, b, c, (d + t1) % 2 ^ 64, e, f, g]
  | _ => v

/-- One block into the chaining value. -/
def shaBlock (v : List Nat) (b : Bytes) : List Nat :=
  let w := (shaSchedule b).reverse
  List.zipWith (fun x y => (x + y) % 2 ^ 64) v ((List.range 80).foldl (shaRound w) v)

/-- SHA-384. -/
def sha384 (m : Bytes) : Bytes :=
  let p := m ++ [0x80] ++ zeros ((239 - m.length % 128) % 128) ++ be 16 (8 * m.length)
  let v := (List.range (p.length / 128)).foldl (fun v i => shaBlock v (sub p (128 * i) 128))
    ((List.range 8).map (tableWord shaHRows))
  (v.flatMap (be 8)).take 48

/-- HMAC-SHA-384. -/
def hmac384 (key m : Bytes) : Bytes :=
  let k := padTo 128 (if 128 < key.length then sha384 key else key)
  sha384 (k.map (· ^^^ 0x5C) ++ sha384 (k.map (· ^^^ 0x36) ++ m))

/-- The octets of an ASCII string. -/
def ascii (t : String) : Bytes := t.toList.map (fun c => byte c.toNat)

/-- The derivation of R329: `l` bits, a multiple of 8. -/
def kdf (ki : Bytes) (label : String) (context : Bytes) (l : Nat) : Bytes :=
  ((List.range ((l + 383) / 384)).flatMap (fun i =>
    hmac384 ki (be 4 (i + 1) ++ ascii label ++ [0] ++ context ++ be 4 l))).take (l / 8)

/-! ### AES-CMAC (SP 800-38B) and the KDF of IEEE 802.1X -/

/-- Twice a block in the field of CMAC. -/
def cmacDouble (x : Nat) : Nat := if x.testBit 127 then (2 * x % 2 ^ 128) ^^^ 0x87 else 2 * x

/-- AES-CMAC. -/
def cmac (key m : Bytes) : Bytes :=
  let k1 := cmacDouble (hashKey key)
  let n := max 1 ((m.length + 15) / 16)
  let tail := sub m (16 * (n - 1)) 16
  let last := if tail.length = 16 then xorB tail (be 16 k1)
    else xorB (padTo 16 (tail ++ [0x80])) (be 16 (cmacDouble k1))
  let y := (List.range (n - 1)).foldl (fun a i => aesEnc key (xorB a (sub m (16 * i) 16))) (zeros 16)
  aesEnc key (xorB y last)

/-- The AES-CMAC KDF of IEEE 802.1X: iteration, label, 0x00, context, length in bits (R376). -/
def kdf8021x (key : Bytes) (label : String) (context : Bytes) (octets : Nat) : Bytes :=
  ((List.range ((octets + 15) / 16)).flatMap (fun i =>
    cmac key (be 1 (i + 1) ++ ascii label ++ [0] ++ context ++ be 2 (8 * octets)))).take octets

end Sys2Proof.Machine
end

