-- ==== Sys2Proof/Machine/Engine.lean ====
section
/-! DEFINITION. The auditing core, the core check and the retest (R205 to R214, R660). -/

namespace Sys2Proof.Machine

/-- The dictionary index of a pipe (R219). -/
abbrev pipeIx (sl : Nat) (p : Pipe) : Nat := Ix.pipe sl p.code

/-- `PIPE_STATE`: 0 running, 1 held, 2 stopped, 3 not started (R220). -/
def State.pipeState (s : State) (sl : Nat) (p : Pipe) : Nat := s.ob (pipeIx sl p) Sub.pipe_PIPE_STATE
def State.setPipe (sl : Nat) (p : Pipe) (v : Nat) (s : State) : State := s.put (pipeIx sl p) Sub.pipe_PIPE_STATE v

/-- `CORE_ROLE` as numbers: 0 to 7 a block position, 8 the auditor, 0xFF fenced (R220). -/
def State.roles (s : State) (sl : Nat) (p : Pipe) : List Nat := (s.oct (pipeIx sl p) Sub.pipe_CORE_ROLE).map (·.toNat)

/-- Set the roles; `AUDITOR_PRESENT` follows. -/
def State.setRoles (sl : Nat) (p : Pipe) (r : List Nat) (s : State) : State :=
  (s.putO (pipeIx sl p) Sub.pipe_CORE_ROLE (r.map byte)).put (pipeIx sl p) Sub.pipe_AUDITOR_PRESENT (r.contains 8).toNat

/-- The role `r` in place of `old`. -/
def swapRole (old new : Nat) (r : List Nat) : List Nat := r.map (fun x => if x = old then new else x)

def State.checkAt (s : State) (sl : Nat) (p : Pipe) : Option CoreCheck := mfind s.eng.check (pipeKey sl p)
def State.putCheck (sl : Nat) (p : Pipe) (c : Option CoreCheck) (s : State) : State :=
  let m := match c with
    | some v => minsert s.eng.check (pipeKey sl p) v
    | none => merase s.eng.check (pipeKey sl p)
  { s with eng := { s.eng with check := m } }

def State.putQueue' (sl : Nat) (p : Pipe) (l : List Nat) (s : State) : State :=
  { s with eng := { s.eng with queue := mset [] s.eng.queue (pipeKey sl p) l } }

/-- The frames in a pipe's egress segment (R18). -/
def State.egressAt (s : State) (sl : Nat) (p : Pipe) : List Egress := mget [] s.eng.egress (pipeKey sl p)
def State.putEgress (sl : Nat) (p : Pipe) (l : List Egress) (s : State) : State :=
  { s with eng := { s.eng with egress := mset [] s.eng.egress (pipeKey sl p) l } }

/-- What the line or client side has taken of a frame once `n` of its words have had their time there: nothing before the first;
of one that is cut, what was not withheld, or the error control block alone where the guard withheld the first word (R21, R197,
R210). -/
def Egress.sent (e : Egress) (n : Nat) : Option Bytes :=
  let w := min n (e.cut.getD e.words)
  if n = 0 ∨ (w = 0 ∧ !e.tripped) then none else some (e.bytes.take (128 * w - 16 * e.base))

/-- The words of a frame that have left the guard stage at a cycle: the first does 256 cycles after the dequeue (R20). -/
def Egress.passed (e : Egress) (at_ : Nat) : Nat := min e.words (at_ - (e.start + 255))

/-- A frame is cut at a word, unless it is cut already: counted against its line port or tributary (R194). -/
def Egress.cutAt (sl ctr w : Nat) (e : Egress) (s : State) : Egress × State :=
  match e.cut with
  | some _ => (e, s)
  | none => ({ e with cut := some w }, discardAs sl .seal (Ctr.port e.frm.outPort + ctr) e.frm s)

/-- A core check at a cycle catches a sealed frame: it is withheld or aborted unless its last word has passed the guard
stage (R210). -/
def catchSealed (sl at_ : Nat) (e : Egress) (s : State) : Egress × State :=
  if e.frm.plain || decide (e.words ≤ e.passed at_) then (e, s) else e.cutAt sl Ctr.SEAL_AUDIT_ABORT (e.passed at_) s

/-- Frames one after another through a step that may change each of them and the state. -/
def eachEgress (f : Egress → State → Egress × State) : List Egress → State → List Egress × State
  | [], s => ([], s)
  | e :: t, s =>
    let r := f e s
    let q := eachEgress f t r.2
    (r.1 :: q.1, q.2)

/-- A core check that finds its mismatch or equal block at a cycle catches every frame that has not passed the guard stage,
or that has not been released (R210). Frames still on their way to the cipher stages are caught too (log 96). -/
def State.catchAll (sl : Nat) (p : Pipe) (at_ : Nat) (s : State) : State :=
  match p with
  | .seal =>
    let r := eachEgress (catchSealed sl at_) (s.egressAt sl .seal) s
    r.2.putEgress sl .seal r.1
  | .open =>
    let l := (mget [] s.eng.verify (pipeKey sl p)).map (fun f => { f with caught := true })
    { s with eng := { s.eng with verify := mset [] s.eng.verify (pipeKey sl p) l } }

/-- Step 1 of R207: the pipe is held and its frames are caught. -/
def beginCheck (sl : Nat) (p : Pipe) (at_ : Nat) (c : CoreCheck) (s : State) : State :=
  ((s.setPipe sl p 1).putCheck sl p (some { c with start := s.ns })).catchAll sl p at_

/-- A core check of R207 starts on a position at a cycle, counted by its cause (R220). -/
def startCheck (sl : Nat) (p : Pipe) (pos : Nat) (guard : Bool) (at_ : Nat) (s : State) : State :=
  beginCheck sl p at_ { pos := pos }
    (s.addOb (pipeIx sl p) (if guard then Sub.pipe_GUARD_TRIPS else Sub.pipe_AUDIT_MISMATCHES) 32 1)

/-- Insert a position once, in ascending order (R660). -/
def insertPos (x : Nat) : List Nat → List Nat
  | [] => [x]
  | h :: t => if x < h then x :: h :: t else if x = h then h :: t else h :: insertPos x t

/-- A guard trip at a cycle calls for a core check: it starts, or is queued while one runs (R197, R660). -/
def guardCheck (sl pos at_ : Nat) (s : State) : State :=
  match s.pipeState sl .seal with
  | 0 => startCheck sl .seal pos true at_ s
  | 1 => s.putQueue' sl .seal (insertPos pos (mget [] s.eng.queue (pipeKey sl .seal)))
  | _ => s

/-- A comparison of the auditor finds a mismatch at a position, in a cycle; none is made while a check or retest runs (R205 to R207,
R660). -/
def auditFound (sl : Nat) (p : Pipe) (pos at_ : Nat) (s : State) : State :=
  if s.sliceRuns sl ∧ s.pipeState sl p = 0 ∧ (s.roles sl p).contains 8 then startCheck sl p pos false at_ s else s

/-- The cycle of the present period of 8 ns in which the auditor comes to a position, if it does: in cycle c to c mod 8 (R205). -/
def State.auditCycle (s : State) (sl pos : Nat) : Option Nat :=
  ((List.range (cyclesPer8 (s.pointOf sl))).map (s.cyc sl + ·)).find? (fun c => c % 8 == pos)

/-- `AUDIT_MISMATCH`: the auditor's block differs from that of the core at a position, in the cycle in which the auditor comes to
that position; at P2 a period of six cycles reaches only six of them (R205 to R207). -/
def auditMismatch (sl : Nat) (p : Pipe) (pos : Nat) (s : State) : State :=
  match s.auditCycle sl pos with
  | some c => auditFound sl p pos c s
  | none => s

/-- The check or retest ends: a queued check runs next, otherwise the pipe resumes (R207, R660). -/
def resumePipe (sl : Nat) (p : Pipe) (s : State) : State :=
  let s := s.putCheck sl p none
  match mget [] s.eng.queue (pipeKey sl p) with
  | pos :: t => startCheck sl p pos true (s.cyc sl) (s.putQueue' sl p t)
  | [] => s.setPipe sl p 0

/-- An event of the engine, with the time of step 1 (R217, R468). -/
def engineEvent (code sl : Nat) (p : Pipe) (pos at_ : Nat) (s : State) : State := s.raiseAt at_ code sl (be 1 p.code ++ be 1 pos)

/-- The pipe stops (R208, R213): its queue is emptied (R660). -/
def stopPipe (sl : Nat) (p : Pipe) (pos at_ : Nat) (s : State) : State :=
  let s := ((s.setPipe sl p 2).putCheck sl p none).putQueue' sl p []
  (engineEvent 0x0504 sl p pos at_ s).alarm 0x22 0

/-- Fence the unit in role `r` (R208). -/
def fence (sl : Nat) (p : Pipe) (r : Nat) (s : State) : State :=
  ((s.setRoles sl p (swapRole r 0xFF (s.roles sl p))).addOb (pipeIx sl p) Sub.pipe_CORE_SWAPS 32 1).alarm 0x21 0

/-- Milliseconds in 8 ns periods. -/
def periodsOfMs (ms : Nat) : Nat := ms * 125000

/-- The key of the last transient of a position. -/
def transKey (sl : Nat) (p : Pipe) (pos : Nat) : Nat := pipeKey sl p * 8 + pos

/-- A second transient at the position falls within the window (R209). -/
def State.transientAgain (s : State) (sl : Nat) (p : Pipe) (pos : Nat) : Bool :=
  match mfind s.eng.transient (transKey sl p pos) with
  | some t => decide (s.time.periods - t ≤ periodsOfMs (s.ob (pipeIx sl p) Sub.pipe_TRANSIENT_WINDOW_MS))
  | none => false

/-- The rows of R208 and R209. -/
def checkResult (sl : Nat) (p : Pipe) (c : CoreCheck) (corePass audPass : Bool) (s : State) : State :=
  let aud := (s.roles sl p).contains 8
  let again := corePass && (audPass || !aud) && s.transientAgain sl p c.pos
  let ev (code : Nat) (t : State) : State := engineEvent code sl p c.pos c.start t
  let s := if again then { s with eng := { s.eng with transient := merase s.eng.transient (transKey sl p c.pos) } } else s
  match corePass && !again, aud, audPass with
  | false, true, true =>
    let s := fence sl p c.pos s
    resumePipe sl p (ev 0x0501 (s.setRoles sl p (swapRole 8 c.pos (s.roles sl p))))
  | true, true, false => resumePipe sl p (ev 0x0502 (fence sl p 8 s))
  | true, _, _ =>
    let m := minsert s.eng.transient (transKey sl p c.pos) s.time.periods
    resumePipe sl p (ev 0x0503 { s with eng := { s.eng with transient := m } })
  | false, true, false => stopPipe sl p c.pos c.start (fence sl p 8 (fence sl p c.pos s))
  | false, false, _ => stopPipe sl p c.pos c.start (fence sl p c.pos s)

/-- `CORE_CHECK_VERDICT` (R207 steps 5 and 6, R208). -/
def coreVerdict (sl : Nat) (p : Pipe) (corePass audPass : Bool) (s : State) : State :=
  match s.checkAt sl p with
  | some c =>
    if c.retest then s
    else checkResult sl p c corePass audPass (s.put (pipeIx sl p) Sub.pipe_LAST_CHECK_CYCLES 141)
  | none => s

/-! ### Retest and start-up (R212, R214) -/

/-- The numbers of the fenced cores. -/
def State.fenced (s : State) (sl : Nat) (p : Pipe) : List Nat :=
  (List.range 9).filter (fun k => (s.roles sl p).getD k 0 == 0xFF)

/-- A write of 1 to `CORE_RETEST` (R212). -/
def coreRetest (sl : Nat) (p : Pipe) (s : State) : State × Status :=
  let start (whole : Bool) : State × Status :=
    (beginCheck sl p (s.cyc sl) { retest := true, whole := whole }
      ((s.put (pipeIx sl p) Sub.pipe_CORE_RETEST 1).put (pipeIx sl p) Sub.pipe_RETEST_STATUS 1), .ok)
  if s.ob (pipeIx sl p) Sub.pipe_RETEST_STATUS = 1 then (s, .busy)
  else match s.pipeState sl p with
  | 1 => (s, .busy)
  | 2 => start true
  | 0 => if s.fenced sl p = [] then (s, .range) else start false
  | _ => (s, .range)

/-- Roles by core number for the cores that pass: positions 0 to 7 in order and a ninth as auditor; 0xFF for the others
(R214). -/
def assignRoles (mask : Nat) : Nat → Nat → List Nat
  | 0, _ => []
  | k + 1, next => if bit mask (8 - k) then next :: assignRoles mask k (next + 1) else 0xFF :: assignRoles mask k next

/-- How many of the nine cores pass. -/
def passing (mask : Nat) : Nat := ((List.range 9).filter (bit mask)).length

/-- Fence the cores that fail and leave the other roles. -/
def fenceFailing (mask : Nat) (r : List Nat) : List Nat :=
  (List.range 9).map (fun k => if bit mask k then r.getD k 0xFF else 0xFF)

/-- The known-answer test of R214 on a pipe that starts; bit c of `mask` = core c passes. A start with fewer than eight
leaves the pipe stopped. -/
def startPipe (sl : Nat) (p : Pipe) (mask : Nat) (s : State) : State :=
  let s := (s.putCheck sl p none).putQueue' sl p []
  if 8 ≤ passing mask then (s.setRoles sl p (assignRoles mask 9 0)).setPipe sl p 0
  else stopPipe sl p 0xFF s.ns (s.setRoles sl p (fenceFailing mask (List.range 9)))

/-- The known-answer test of R214 on a pipe whose slice ungates (R575, R579): a fenced core stays fenced and a stopped pipe
stays stopped, since neither a reset nor a retest has passed (R211, R213); the cores that fail now are fenced. -/
def wakePipe (sl : Nat) (p : Pipe) (mask : Nat) (s : State) : State :=
  let ok := (List.range 9).foldl (fun a k => if bit mask k && (s.roles sl p).getD k 0 != 0xFF then a + 2 ^ k else a) 0
  if s.pipeState sl p = 2 then s.setRoles sl p (fenceFailing ok (s.roles sl p)) else startPipe sl p ok s

/-- The fenced cores of a running pipe are tested in turn: one that passes becomes the auditor when there is none
(R212). -/
def retestRunning (sl : Nat) (p : Pipe) (mask : Nat) (s : State) : State :=
  (s.fenced sl p).foldl (fun t k =>
    let r := t.roles sl p
    if bit mask k && !r.contains 8 then t.setRoles sl p (r.set k 8) else t) s

/-- `RETEST_COMPLETE`; bit c of `mask` = core c passes (R212). -/
def retestComplete (sl : Nat) (p : Pipe) (mask : Nat) (s : State) : State :=
  match s.checkAt sl p with
  | some c =>
    let status (ok : Bool) (t : State) : State := t.put (pipeIx sl p) Sub.pipe_RETEST_STATUS (if ok then 2 else 3)
    if !c.retest then s
    else if c.whole then
      (if 8 ≤ passing mask then resumePipe sl p (status true (s.setRoles sl p (assignRoles mask 9 0)))
       else status false ((((s.setRoles sl p (fenceFailing mask (s.roles sl p))).setPipe sl p 2).putCheck sl p none).putQueue' sl p []))
    else
      resumePipe sl p (status ((s.fenced sl p).all (bit mask)) (retestRunning sl p mask s))
  | none => s

/-- One 8 ns period of audits: one comparison in each core cycle of a running pipe with an auditor (R205, R206). -/
def State.audits (s : State) : State :=
  ((List.range 4).flatMap (fun sl => [(sl, Pipe.seal), (sl, Pipe.open)])).foldl (fun t x =>
    if t.sliceRuns x.1 && t.pipeState x.1 x.2 == 0 && t.obB (pipeIx x.1 x.2) Sub.pipe_AUDITOR_PRESENT then
      t.addOb (pipeIx x.1 x.2) Sub.pipe_AUDITS_DONE 64 (cyclesPer8 (t.pointOf x.1))
    else t) s

/-- A write to a pipe's objects (R220). A write of 0 to `CORE_RETEST`, at any time, completes OK and stops nothing, and the object
keeps reading 1 after the retest it started: DESIGN CHOICE (log 128). -/
def pipeWrite (sl : Nat) (p : Pipe) (sub_ n : Nat) (s : State) : State × Status :=
  if sub_ = Sub.pipe_CORE_RETEST ∧ n = 1 then coreRetest sl p s else (s.put (pipeIx sl p) sub_ n, .ok)

/-- A pipe by its flag. -/
def pipeOf (open_ : Bool) : Pipe := if open_ then .open else .seal

/-! ### The commands -/

/-- `AUDIT_MISMATCH` (R207). -/
def execAuditMismatch (sl : Nat) (open_ : Bool) (pos : Nat) (s : State) : Out := .next (auditMismatch sl (pipeOf open_) pos s)

/-- `CORE_CHECK_VERDICT` (R208). -/
def execCoreCheckVerdict (sl : Nat) (open_ corePass auditorPass : Bool) (s : State) : Out :=
  .next (coreVerdict sl (pipeOf open_) corePass auditorPass s)

/-- `CORE_RETEST` (R212). -/
def execCoreRetest (c : Caller) (sl : Nat) (open_ : Bool) (s : State) : Out :=
  .next (rowWrite c (pipeIx sl (pipeOf open_)) Sub.pipe_CORE_RETEST (.num 1) (coreRetest sl (pipeOf open_)) s)

/-- `RETEST_COMPLETE` (R212). -/
def execRetestComplete (sl : Nat) (open_ : Bool) (mask : Nat) (s : State) : Out :=
  .next (retestComplete sl (pipeOf open_) mask s)

end Sys2Proof.Machine
end

