-- ==== Sys2Proof/Machine/Mac.lean ====
section
/-! DEFINITION. The MAC side of the ports: what a receiver takes and a transmitter sends (R41, R48 to R50), and pause
(R56, R57). -/

namespace Sys2Proof.Machine

/-- The slice's receive side runs, or still drains on the way into DARK (R576). -/
def State.sliceHears (s : State) (sl : Nat) : Bool :=
  s.sliceOn sl && !s.rst.gap && !s.pwr.vigil && !s.gated sl && !s.blockHeld 0 sl && !s.clockHeld 0 sl
    && (s.ob 0x0400 Sub.power_PWR_STATE != 2 || s.pwr.darkEntry)

/-- The receiver of an enabled port takes frames: its lanes are ON, nothing holds it (R43), and it is not in local fault, in which no
frame is seen (R54, log 127). -/
def State.hears (s : State) (m : Nat) : Bool :=
  s.sliceHears (sliceOfPort m) && s.portOn m && !s.portHeld m && !s.clockHeld 2 m
    && (s.portLanes m).all (fun k => s.ob (Ix.lane k) Sub.lane_RX_STATE == 2) && s.ob (Ix.port m) Sub.port_LINK_STATE != 2

/-- The tributary behind a line index is in use (R265). -/
def State.tribOn (s : State) (sl t : Nat) : Bool := s.otnMode sl != 0 && s.obB (Ix.otn sl (0x10 + t)) Sub.trib_TRIB_ENABLE

/-- A tributary is in TSF (R260). -/
def State.tsf (s : State) (sl t : Nat) : Bool := bit (s.ob (Ix.otn sl (0x10 + t)) Sub.trib_DEFECTS) 9

/-- The receivers of the group's line lanes are ON (R43, R252). -/
def State.groupHears (s : State) (sl : Nat) : Bool :=
  (s.carrierLanes sl).all (fun j => s.rxEffective (0x40 + 8 * sl + j) == 2)

/-- Frames reach the pipe from this index: a port's own, or in OTN mode those of a tributary that is not in TSF (R146,
R260, R267). -/
def State.hearsAny (s : State) (m : Nat) : Bool :=
  let sl := sliceOfPort m
  if isLine m && s.otnMode sl != 0 then
    s.sliceHears sl && s.tribOn sl (m % 8) && !s.tsf sl (m % 8) && s.groupHears sl
  else s.hears m

/-- `MAX_FRAME` of an index: 10,272 on a tributary (R267). -/
def State.maxFrame (s : State) (m : Nat) : Nat :=
  if isLine m && s.otnMode (sliceOfPort m) != 0 then 10272 else s.ob (Ix.port m) Sub.port_MAX_FRAME

/-- What the checks of R41 make of a frame. -/
inductive MacVerdict where
  | drop
  | bad (code : Nat)
  | control
  | ok
  deriving DecidableEq, Repr

/-- R41: the verdict and the offset of its counter. A frame that meets several conditions takes the first row in the
table's order (log 95). -/
def macCheck (most : Nat) (b : Bytes) (pcs : Bool) : MacVerdict × Nat :=
  if b.length < 64 then (.drop, Ctr.RX_RUNT)
  else if most < b.length then (.drop, Ctr.RX_OVERSIZE)
  else if pcs then (.bad 1, Ctr.RX_PCS_ERR)
  else if !fcsGood b then (.bad 2, Ctr.RX_FCS_ERR)
  else if etherType b = 0x8808 then (.control, Ctr.RX_MAC_CTRL)
  else (.ok, Ctr.RX_FRAMES)

/-- Set the pause time of one priority toward a port; a time of 0 ends it (R57). -/
def State.setPause (m prio quanta : Nat) (s : State) : State :=
  let l := if quanta = 0 then merase s.lanes.paused (8 * m + prio) else minsert s.lanes.paused (8 * m + prio) quanta
  ({ s with lanes := { s.lanes with paused := l } } : State).mark (Timer.paused (8 * m + prio))

/-- A received MAC control frame acts where its opcode matches `FLOW_CTRL` (R56, R57). -/
def pauseAct (m : Nat) (b : Bytes) (s : State) : State :=
  let fc := s.ob (Ix.port m) Sub.port_FLOW_CTRL
  let op := fld b 14 2
  if fc = 1 ∧ op = 1 then (List.range 8).foldl (fun t k => t.setPause m k (fld b 16 2)) s
  else if fc = 2 ∧ op = 0x0101 then
    (List.range 8).foldl (fun t k =>
      if bit (fld b 16 2) k && bit (t.ob (Ix.port m) Sub.port_PFC_ENABLE) k then t.setPause m k (fld b (18 + 2 * k) 2) else t) s
  else s

/-- `PAUSE_TIME_EXPIRY`: the pause time of these priorities toward a port runs out (R57). -/
def pauseExpiry (m prios : Nat) (s : State) : State :=
  (List.range 8).foldl (fun t k =>
    if bit prios k ∧ t.past (Timer.paused (8 * m + k)) (t.quantaNs m (mget 0 t.lanes.paused (8 * m + k))) then t.setPause m k 0
    else t) s

/-- Send a frame out of an Ethernet port; one that is cut short ends in an error control block (R197). -/
def sendFrame (m : Nat) (cut : Bool) (b : Bytes) (s : State) : State :=
  sendOut m (if cut then .cutFrame m b else .frame m b) b cut s

/-- A frame reaches the pins of a port: with a far-end loop it goes back out as it came (R48). -/
def farEnd (m : Nat) (b : Bytes) (s : State) : State :=
  if s.farLoop m && (s.portLanes m).all (fun k => mget 1 s.lanes.now k == 3) then s.emit (.returned m b) else s

/-- `PAUSE_TIME_EXPIRY` (R57). -/
def execPauseTimeExpiry (m prios : Nat) (s : State) : Out := .next (pauseExpiry m prios s)

end Sys2Proof.Machine
end

