-- ==== Sys2Proof/Machine/Seal.lean ====
section
/-! DEFINITION. The sealing pipe: arrival and admission of client frames (R18, R41, R66 to R79, R150 to R164), and the
seal (R188 to R197). -/

namespace Sys2Proof.Machine

/-! ### Words (R16, R17) -/

/-- A frame of `n` octets takes its place: the word of its first octet, no earlier than cycle `c`, its block position there,
and how far the words are taken then. A word takes two starts at most, and a third goes to byte 0 of the next (R16). -/
def Seat.place (st : Seat) (c n : Nat) : Nat × Nat × Seat :=
  let at_ : Nat × Nat × Nat :=
    if st.word < c then (c, 0, 0)
    else if st.next < 8 ∧ st.starts < 2 then (st.word, st.next, st.starts)
    else (st.word + 1, 0, 0)
  let last := (at_.2.1 * 16 + n - 1) / 128
  (at_.1, at_.2.1,
    { word := at_.1 + last, next := (at_.2.1 * 16 + n + 15) / 16 - 8 * last, starts := if last = 0 then at_.2.2 + 1 else 0 })

/-- A frame takes words of a pipe's ingress (0) or egress (1) segment from cycle `c` on: its first word and its block
position there (R16). -/
def takeWords (sl : Nat) (p : Pipe) (seg c n : Nat) (s : State) : (Nat × Nat) × State :=
  let k := 2 * pipeKey sl p + seg
  let r := (mget {} s.eng.seats k).place c n
  ((r.1, r.2.1), { s with eng := { s.eng with seats := mset {} s.eng.seats k r.2.2 } })

/-- A frame joins a pipe's egress segment (R18). -/
def joinEgress (sl : Nat) (p : Pipe) (e : Egress) (s : State) : State := s.putEgress sl p (s.egressAt sl p ++ [e])

/-! ### Arrival (R18, R26, R41, R150) -/

/-- The slice-local port node that a client port's frames go to: its line port or tributary (R15, R169). -/
def State.clientNode (s : State) (c : Nat) : Nat :=
  match s.boundTrib c with
  | some t => t
  | none => s.ob (Ix.port c) Sub.port_BOUND_LINE % 8

/-- The client's frames are carried in a sealed ODU without a MACsec layer (R67, R273). -/
def State.plainClient (s : State) (c : Nat) : Bool :=
  match s.boundTrib c with
  | some t => s.ob (tribIx (c / 8) t) Sub.trib_TRIB_MODE == 1
  | none => false

/-- A frame in the sealing ingress segment after the lookup: a red frame ends; the rest wait for their last word
(R156, R157). A client that no SecY lookup is made for takes `POLICER_BASE` itself where `POLICER_MODE` is 3: DESIGN CHOICE (R154,
log 133). -/
def sealColour (c : Nat) (f : Frm) (s : State) : State :=
  let sl := c / 8
  let f := { f with tc := s.classOf c f.bytes, policer := s.policerOf c (s.classOf c f.bytes) (f.secy.getD 0) }
  let r := match f.policer with
    | some i => polColour sl i s
    | none => (0, s)
  if r.1 = 2 then
    let i := f.policer.getD 0
    tagEnd sl .seal none f ((r.2.pbump sl i 2 1).pbump sl i 5 f.len)
  else
    let s := r.2
    let l := mget [] s.tm.arriving sl ++ [{ f with colour := r.1 }]
    { s with tm := { s.tm with arriving := mset [] s.tm.arriving sl l } }

/-- A frame enters the sealing pipe: tracker, tag, lookup, colour (R26, R67, R77). -/
def sealEnter (c : Nat) (f : Frm) (s : State) : State :=
  let sl := c / 8
  if 1024 ≤ s.trackers sl .seal 0 then s.bump (Ctr.slice sl + Ctr.SEAL_NO_TRACKER)
  else
    let s := (takeWords sl .seal 0 (s.cyc sl) f.len s).2
    let g := drawTag sl .seal f.stamp s
    let s := g.2
    let t1 := timeAdd s.time.now (s.cycleTime sl 47)
    let f := { f with tag := g.1.map (fun x => { x with t1 := some t1 }), ptp := isPtp f.bytes }
    if s.plainClient c then sealColour c { f with plain := true } s
    else
      let r := hitchLookup c (outerVid f.bytes) (frameDa f.bytes) s
      match r.1 with
      | some y => sealColour c { f with secy := some y } r.2
      | none => tagEnd sl .seal (some (Ctr.port c + Ctr.HITCH_NO_SECY)) f r.2

/-- `CLIENT_FRAME_RECEIVED`: a frame with its FCS reaches the receiver of client port `c`; `pcs` = an error control
character or uncorrectable codeword in it; its first bit was captured `lag` units of 2^-8 ns ago (R41, R304). -/
def clientFrame (c : Nat) (b : Bytes) (pcs : Bool) (lag : Nat) (s : State) : State :=
  if 32 ≤ c ∨ !s.hears c then s
  else
    let s := farEnd c b s
    let v := macCheck (s.maxFrame c) b pcs
    let s := s.bump (Ctr.port c + v.2)
    let enter (bad : Nat) (t : State) : State :=
      if t.dark then t.bump (Ctr.port c + Ctr.DARK_DISCARD)
      else if t.held || t.ob (pipeIx (c / 8) .seal) Sub.pipe_PIPE_STATE == 3 then t
      else
        let n := t.clientNode c
        sealEnter c { bytes := b, len := b.length, inPort := c, outPort := 0x40 + 8 * (c / 8) + n, node := n, bad := bad,
                      stamp := (t.laneStamp c lag).1, epoch := (t.laneStamp c lag).2 } t
    match v.1 with
    | .drop => s
    | .control => pauseAct c b s
    | .bad k => enter k s
    | .ok => enter 0 s

/-- `FRAME_ADMIT`: the oldest arriving frame's last word and FCS verdict are in: the policer is debited, and the frame
is discarded or meets admission (R150, R157, R163). -/
def frameAdmit (sl : Nat) (s : State) : State :=
  match mget [] s.tm.arriving sl with
  | [] => s
  | f :: t =>
    let c := f.inPort
    let s := { s with tm := { s.tm with arriving := mset [] s.tm.arriving sl t } }
    let s := match f.policer with
      | some i => polDebit sl i f.colour ((f.len : Int) + s.overhead (tmClientIx c)) f.len s
      | none => s
    if f.bad ≠ 0 then tagEnd sl .seal (some (Ctr.port c + (if f.bad = 1 then Ctr.RX_PCS_ERR else Ctr.RX_FCS_ERR))) f s
    else admitFrame sl .seal (s.ob (tmClientIx c) Sub.tmClient_SEAL_QUEUE_BASE + f.tc) (c % 8) c f s

/-! ### The sealed frame (R188 to R193) -/

/-- The confidentiality offset in octets (R114). -/
def offsetOf (y : Nat) : Nat := if Secy.offset y = 1 then 30 else if Secy.offset y = 2 then 50 else 0

/-- The IV (R191). -/
def ivOf (y sa sci pn : Nat) : Bytes :=
  if Secy.xpn y then xorB (be 4 (Sa.ssci sa) ++ be 8 pn) (be 12 (Sa.salt sa)) else be 8 sci ++ be 4 pn

/-- The TCI/AN octet (R189). -/
def tciAn (y : Nat) (e : Bool) (an : Nat) : Nat :=
  (if Secy.includeSci y then 32 else (if Secy.useEs y then 64 else 0) + (if Secy.useScb y then 16 else 0))
    + (if e then 12 else 0) + an

/-- A frame laid out for its seal: what goes in the clear ahead of P, A, P, whether it is encrypted, and the length of
its secure data (R188, R193). -/
structure Layout where
  pre : Bytes
  aad : Bytes
  p : Bytes
  enc : Bool
  n : Nat
  deriving DecidableEq, Repr

/-- Lay a client frame out under a SecY image (R118, R188, R190, R193). -/
def layoutSeal (y an pn : Nat) (ptp : Bool) (b : Bytes) : Layout :=
  let t := tagCount b (Secy.vlanClear y)
  let tags := sub b 12 (4 * t)
  let ud := (b.take (b.length - 4)).drop (12 + 4 * t)
  let n := ud.length
  let c := offsetOf y
  let e := Secy.confidential y && !(ptp && Secy.ptpClear y) && !(Secy.offset y != 0 && decide (n ≤ c))
  let clear := if e then c else n
  let tag := be 2 0x88E5 ++ be 1 (tciAn y e an) ++ be 1 (if n < 48 then n else 0) ++ be 4 pn
    ++ (if Secy.includeSci y then be 8 (Secy.sci y) else [])
  { pre := b.take 12 ++ tags ++ tag ++ ud.take clear
    aad := b.take 12 ++ tag ++ ud.take clear
    p := ud.drop clear
    enc := e
    n := n }

/-- The octets of a key (R128). -/
def KeyEntry.octets (e : KeyEntry) : Bytes := (be 32 e.key).take (if e.long then 32 else 16)

/-- The keystream of P with the faults of the cores applied (R196, R661). -/
def faultedStream (ev : SealFault) (ks : List Bytes) : List Bytes :=
  ks.mapIdx (fun i x =>
    if ev.zero.contains i then zeros 16 else ev.aes.foldl (fun v d => if d.1 = i then xorB v (be 16 d.2) else v) x)

/-- The blocks of P that leave the cipher stage equal to their plaintext (R196). -/
def equalBlocks (ks : List Bytes) : List Nat :=
  (List.range ks.length).filter (fun i => ks.getD i [] == zeros 16)

/-- The block of P with number `i` in the datapath, counted from the start of the frame's first word (R16). Where P starts
off a 16-octet position, its blocks straddle two: each is counted at the position of its first octet (log 97). -/
def blockOf (base pre i : Nat) : Nat := base + (pre + 16 * i) / 16

/-! ### Dequeue and seal (R194) -/

/-- A dequeued frame is discarded past the shapers and pacer, counted against its line port or tributary. -/
def sealDrop (sl ctr : Nat) (f : Frm) (s : State) : State := discardAs sl .seal (Ctr.port f.outPort + ctr) f s

/-- The frame as it enters the egress segment: its first word leaves the scheduler in cycle `d`, at block position `base`, and
its first bit enters the line PCS or the client mapper 384 cycles later (R20, R22). -/
def sealedEgress (d base : Nat) (b : Bytes) (f : Frm) : Egress :=
  { frm := f, bytes := b, start := d, base := base, enter := d + 384, words := wordsOf (16 * base + b.length) }

/-- The cipher stages: the frame has its PN and a live key, and is formed; what the guard will find equal goes with it (R193 to
R197). -/
def cipher (sl d base : Nat) (ev : SealFault) (y sa pn : Nat) (k : KeyEntry) (i : Nat) (l : Layout) (f : Frm) (s : State) :
    State :=
  let iv := ivOf y sa (Secy.sci y) pn
  let ks := faultedStream ev (keystream k.octets iv 0 ((l.p.length + 15) / 16))
  let ct := xorB l.p ks.flatten
  let icv := xorB (gcmTag k.octets k.h iv l.aad ct) (be 16 ev.icv)
  joinEgress sl .seal
    { sealedEgress d base (withFcs (l.pre ++ ct ++ icv)) f with
      equal := (equalBlocks ks).map (blockOf base l.pre.length)
      wrong := ((ev.aes.filter (fun d => d.2 % 2 ^ 128 != 0 && decide (d.1 < ks.length))).map
        (fun d => blockOf base l.pre.length d.1)).filter (fun b => !((equalBlocks ks).map (blockOf base l.pre.length)).contains b)
      count := some (i, l.n) } s

/-- The association fetch and what follows it, for a frame whose SecY image is `y` (R112, R132, R194, R195). -/
def sealFetch (sl d base : Nat) (ev : SealFault) (i y : Nat) (f : Frm) (s : State) : State :=
  let sc := s.txscAt sl i
  let an := Txsc.encodingAn sc
  match txSlot sc an with
  | none => sealDrop sl Ctr.SEAL_NO_SA f s
  | some k =>
    let s := saRead sl k ev.saEcc s
    let sa := s.saAt sl k
    let f := { f with sa := some k }
    if s.saBadAt sl k then sealDrop sl Ctr.SEAL_KEY_FAULT f s
    else if !s.saValid sl k || !Sa.inUse sa then sealDrop sl Ctr.SEAL_NO_SA f s
    else if Sa.exhausted sa then sealDrop sl Ctr.SEAL_PN_EXHAUSTED f s
    else
      let r := assignPn sl k s
      let s := if r.2.1 then cuePn sl i d r.2.2 else r.2.2
      let l := layoutSeal y an r.1 f.ptp f.bytes
      let f := { f with pn := r.1, enc := l.enc }
      if s.sakLive sl (Sa.handle sa) then
        cipher sl d base ev y sa r.1 (s.keyAt sl (handleIndex (Sa.handle sa))) k l f s
      else sealDrop sl Ctr.SEAL_KEY_FAULT f s

/-- A frame without a MACsec layer may go on: the slice is in OTN mode, and the tributary of its node carries such clients, in
use and sealed (R2, R67, R273). -/
def State.plainOk (s : State) (sl n : Nat) : Bool := s.tribOn sl n && s.ob (tribIx sl n) Sub.trib_TRIB_MODE == 1

/-- A charged frame's words enter the egress segment: mapped as it stands, or sealed (R172, R194, R274). A frame without a
MACsec layer whose tributary no longer takes such frames is discarded as one that has no SecY (R2, log 98). -/
def sealCharge (sl d base : Nat) (ev : SealFault) (f : Frm) (s : State) : State :=
  if f.plain then
    (if s.plainOk sl f.node then joinEgress sl .seal (sealedEgress d base f.bytes f) s
     else sealDrop sl Ctr.SEAL_SECY_DISABLED f s)
  else match f.secy with
    | none => sealDrop sl Ctr.SEAL_SECY_DISABLED f s
    | some i =>
      match s.secyAt sl i with
      | some y => if s.secyOn sl i then sealFetch sl d base ev i y f s else sealDrop sl Ctr.SEAL_SECY_DISABLED f s
      | none => sealDrop sl Ctr.SEAL_SECY_DISABLED f s

/-- The line port that a frame goes to is in fault (R54). -/
def State.lineFault (s : State) (sl n : Nat) : Bool :=
  let st := s.ob (Ix.port (0x40 + 8 * sl + n)) Sub.port_LINK_STATE
  s.otnMode sl == 0 && (st == 2 || st == 3)

/-- The transparent clock's procedure on a frame that crosses to `tout`; a client without a MACsec layer is not parsed, and
its frames pass (R307, R315). -/
def tcFrame (c : Nat) (p : Pipe) (f : Frm) (tout : Nat) (s : State) : TcResult × State :=
  match (if f.plain then none else ptpAt f.bytes) with
  | some (o, udp) => tc c p f.bytes o udp f.stamp f.epoch tout s
  | none => (.pass, s)

/-- What happens to a frame that the sealing scheduler dequeues in cycle `j` of the present period (R54, R194, R298, R308, R312,
R422). -/
def sealServe (sl j : Nat) (ev : SealFault) (f : Frm) (s : State) : State :=
  if !s.shadow && s.lineFault sl f.node then sealDrop sl Ctr.LINE_FAULT_DISCARD f (returnCells sl .seal f s)
  else
    let take (t : State) : (Nat × Nat) × State :=
      takeWords sl .seal 1 (t.cyc sl + j % cyclesPer8 (t.pointOf sl)) (f.len + t.expansion sl f) t
    let w := take s
    let d := w.1.1
    let t3 := s.timeOf sl d
    let tout := s.egressStamp f.outPort (timeAdd t3 (s.sealDelay sl))
    let f := { f with tag := f.tag.map (fun g => { g with t3 := some t3 }) }
    let go (f : Frm) (t : State) : State := (chargeFrame sl .seal f (take t).2).leave sl .seal f
    if s.shadow then sealDrop sl Ctr.LINE_SHADOW_DISCARD f (go f s)
    else
      let r := tcFrame f.inPort .seal f tout s
      let f4 := { f with tag := f.tag.map (fun g => { g with t4 := some tout }) }
      match r.1 with
      | .discard => tagEnd sl .seal (some (Ctr.port f.inPort + Ctr.PTP_STEP_DISCARD)) f4 (returnCells sl .seal f4 r.2)
      | .pass => sealCharge sl d w.1.2 ev f4 (go f4 r.2)
      | .fix b => sealCharge sl d w.1.2 ev { f4 with bytes := b } (go f4 r.2)

/-- `SEAL_DEQUEUE`: one dequeue of the sealing scheduler, in cycle `j` of the present period of 8 ns; `ev` is what goes wrong
inside the part (R172, R194, R298). -/
def sealDequeue (sl j : Nat) (ev : SealFault) (s : State) : State := schedule sl .seal 0 (sealServe sl j ev) s

/-! ### The egress segment (R20, R196, R197, R210) -/

/-- A frame enters the client mapper of a tributary in use; the mapper of one that is not discards it. -/
def mapIn (sl t : Nat) (cut : Bool) (b : Bytes) (s : State) : State :=
  if s.tribOn sl t then
    ({ s with otn := { s.otn with mapping := mset [] s.otn.mapping (skey sl t) (mget [] s.otn.mapping (skey sl t) ++ [(b, cut)]) } } :
      State).emit (.mapped sl t b cut)
  else s

/-- What the line side takes of a frame: an Ethernet port sends it, a tributary's mapper queues it (R197, R265). -/
def sendLine (sl n : Nat) (cut : Bool) (b : Bytes) (s : State) : State :=
  if s.otnMode sl = 0 then sendFrame (0x40 + 8 * sl + n) cut b s else mapIn sl n cut b s

/-- A frame of the device's own can go out at a line index 0 to 31: its port forms frames, or its tributary is in use and every lane
of the group has normal traffic (R32, R47, R51, R54). -/
def State.ownSends (s : State) (n : Nat) : Bool :=
  if s.otnMode (n / 8) = 0 then s.portOn (0x40 + n) && s.forms (0x40 + n)
  else s.tribOn (n / 8) (n % 8) && (s.carrierLanes (n / 8)).all (fun j => s.traffic (0x40 + 8 * (n / 8) + j))

/-- A frame of the device's own, which no SecY seals, goes out at a line index as `e`: out of the port's transmitter, where it takes
its slot of the pacer, or through the tributary's mapper (R47 to R54, R171, R195). -/
def sendOwn (n : Nat) (e : Emission) (b : Bytes) (s : State) : State :=
  let f := withFcs (padTo 60 b)
  if s.otnMode (n / 8) = 0 then (sendOut (0x40 + n) e f false s).chargePacer (n / 8) .seal (n % 8) (f.length + 20)
  else (mapIn (n / 8) (n % 8) false f s).emit e

/-- What has gone out of a frame that ends in an error control block; nothing of a frame without a MACsec layer whose tributary
no longer takes such frames (R2, R197, R551). -/
def sendCut (sl : Nat) (e : Egress) (b : Bytes) (s : State) : State :=
  if e.frm.plain && !s.plainOk sl e.frm.node then s else sendLine sl e.frm.node true b s

/-- The guard finds block `b` of the `i`-th frame equal, in the cycle in which its word reaches it: the frame is cut before
that word, the alarm is raised, and the position's core is to be checked (R196, R197, R660). -/
def guardTrip (sl i b : Nat) (s : State) : State :=
  match (s.egressAt sl .seal)[i]? with
  | none => s
  | some e =>
    let r := ({ e with equal := e.equal.filter (· != b) } : Egress).cutAt sl Ctr.SEAL_GUARD_ABORT (b / 8) s
    let s := r.2.putEgress sl .seal ((r.2.egressAt sl .seal).set i { r.1 with tripped := e.tripped || e.cut.isNone })
    guardCheck sl (b % 8) (e.start + 255 + b / 8) ((s.alarm 0x20 0).emit (.alarmAt 0x20 sl 0 (b % 8)))

/-- The cycle in which the guard stage compares the audited block of a position first formed wrongly as block `b` of a frame: a
word leaves cipher step 8 in cycle 239, the auditor comes to the position within the next 7 cycles, and the comparison is made 16
cycles after (R20, R205, R661). -/
def auditDue (e : Egress) (b : Nat) : Nat :=
  let f := e.start + 239 + b / 8
  f + (b % 8 + 8 - f % 8) % 8 + 16

/-- What the guard stage finds: an equal block, by its frame's place, or an audited block that differs, by its position. -/
inductive Finding where
  | equal (i b : Nat)
  | wrong (pos : Nat)
  deriving DecidableEq, Repr

/-- Put a finding in the order of cycles, after those of the same cycle. -/
def insertFinding (x : Nat × Finding) : List (Nat × Finding) → List (Nat × Finding)
  | [] => [x]
  | h :: t => if x.1 < h.1 then x :: h :: t else h :: insertFinding x t

/-- What the guard stage has found by a cycle, in the order of the cycles; of one cycle, the equal blocks first. -/
def dueFindings (c : Nat) (l : List Egress) : List (Nat × Finding) :=
  let eq := (l.mapIdx (fun i e => e.equal.map (fun b => (e.start + 255 + b / 8, Finding.equal i b)))).flatten
  let wr := (l.map (fun e => e.wrong.map (fun b => (auditDue e b, Finding.wrong (b % 8))))).flatten
  ((eq ++ wr).filter (fun x => decide (x.1 < c))).foldl (fun a x => insertFinding x a) []

/-- The guard stage acts on what it finds (R196, R205). -/
def findingActs (sl : Nat) (x : Nat × Finding) (s : State) : State :=
  match x.2 with
  | .equal i b => guardTrip sl i b s
  | .wrong pos => auditFound sl .seal pos x.1 s

/-- The audited blocks that have been compared by a cycle are done with. -/
def dropWrong (c : Nat) (e : Egress) : Egress := { e with wrong := e.wrong.filter (fun b => decide (c ≤ auditDue e b)) }

/-- A sealed frame is sent whole: counted (R194). -/
def countSealed (sl : Nat) (e : Egress) (s : State) : State :=
  match e.count with
  | some (i, n) =>
    let y := e.frm.secy.getD 0
    if e.frm.enc then (s.abump 3 sl i ACtr.OUT_PKTS_ENCRYPTED 1).abump 0 sl y ACtr.OUT_OCTETS_ENCRYPTED n
    else (s.abump 3 sl i ACtr.OUT_PKTS_PROTECTED 1).abump 0 sl y ACtr.OUT_OCTETS_PROTECTED n
  | none => s

/-- A frame's last word has entered the line PCS or the mapper: what was not withheld of it has gone out (R21, R194, R197,
R624). -/
def sealLeave (sl : Nat) (e : Egress) (s : State) : State :=
  match e.cut with
  | some _ =>
    match e.sent e.words with
    | some b => sendCut sl e b s
    | none => s
  | none =>
    if e.frm.plain && !s.plainOk sl e.frm.node then sealDrop sl Ctr.SEAL_SECY_DISABLED e.frm s
    else
      let t5 := s.timeOf sl (e.enter + e.words - 1)
      tagEnd sl .seal none { e.frm with tag := e.frm.tag.map (fun g => { g with t5 := some t5 }) }
        (countSealed sl e (sendLine sl e.frm.node false e.bytes s))

/-- The frames of a segment that have left it by a cycle, oldest first. -/
def doneEgress (c : Nat) (l : List Egress) : List Egress := l.takeWhile (fun e => decide (e.enter + e.words ≤ c))

/-- The frames that have left a pipe's egress segment by a cycle do so. -/
def leaveEgress (sl : Nat) (p : Pipe) (leave : Egress → State → State) (c : Nat) (s : State) : State :=
  let l := s.egressAt sl p
  let out := doneEgress c l
  out.foldl (fun t e => leave e t) (s.putEgress sl p (l.drop out.length))

/-- The sealing egress segment up to a cycle: the guard, then the line side. -/
def sealEgress (sl c : Nat) (s : State) : State :=
  if s.egressAt sl .seal = [] then s
  else
    let s := (dueFindings c (s.egressAt sl .seal)).foldl (fun t x => findingActs sl x t) s
    leaveEgress sl .seal (sealLeave sl) c (s.putEgress sl .seal ((s.egressAt sl .seal).map (dropWrong c)))

/-- The cycle by which every frame now in a segment has left it. -/
def endOf (l : List Egress) : Nat := l.foldl (fun a e => max a (e.enter + e.words)) 0

/-- A response of HOLD or above finds frames in a segment: what has entered the line PCS or client MAC of one goes out before an
error control block, and nothing of the others (R551). -/
def cutEgress (sl : Nat) (p : Pipe) (send : Egress → Bytes → State → State) (s : State) : State :=
  (s.egressAt sl p).foldl (fun t e =>
    tagEnd sl p none e.frm (match e.sent (s.cyc sl - e.enter) with
      | some b => send e b t
      | none => t)) (s.putEgress sl p [])

/-! ### The commands -/

/-- `CLIENT_FRAME_RECEIVED`; a near-end loop takes nothing from the pins (R41, R48). -/
def execClientFrameReceived (c : Nat) (b : Bytes) (pcs : Bool) (lag : Nat) (s : State) : Out :=
  .next (if s.nearLoop c then s else clientFrame c b pcs lag s)

/-- `FRAME_ADMIT` (R163). -/
def execFrameAdmit (sl : Nat) (s : State) : Out := .next (frameAdmit sl s)

end Sys2Proof.Machine
end

