-- ==== Sys2Proof/Machine/Open.lean ====
section
/-! DEFINITION. The opening pipe: arrival, the SecTAG checks, release and dequeue (R199 to R204, R421). -/

namespace Sys2Proof.Machine

/-! ### The SecTAG (R122, R199, R200) -/

/-- A received frame taken apart at its SecTAG. -/
structure SecTag where
  /-- Outer tags ahead of it. -/
  t : Nat
  tci : Nat
  sl : Nat
  pn : Nat
  /-- The SCI carried, meaningful when SC = 1. -/
  sci : Nat
  /-- Where the secure data starts, and its length; negative when the frame is too short. -/
  start : Nat
  n : Int
  deriving DecidableEq, Repr

/-- The SecTAG of a frame, if it has one (R199). -/
def secTag (b : Bytes) : Option SecTag :=
  let t := tagCount b 2
  let o := 12 + 4 * t
  if fld b o 2 = 0x88E5 then
    let tci := fld b (o + 2) 1
    let start := o + 8 + (if bit tci 5 then 8 else 0)
    some { t := t, tci := tci, sl := fld b (o + 3) 1, pn := fld b (o + 4) 4, sci := fld b (o + 8) 8, start := start,
           n := (b.length : Int) - 4 - 16 - (start : Int) }
  else none

namespace SecTag

abbrev v (g : SecTag) : Bool := bit g.tci 7
abbrev es (g : SecTag) : Bool := bit g.tci 6
abbrev sc (g : SecTag) : Bool := bit g.tci 5
abbrev scb (g : SecTag) : Bool := bit g.tci 4
abbrev e (g : SecTag) : Bool := bit g.tci 3
abbrev c (g : SecTag) : Bool := bit g.tci 2
abbrev an (g : SecTag) : Nat := g.tci % 4

/-- The checks of R200 that need no SecY. -/
def badForm (g : SecTag) : Bool :=
  g.v || (g.es && g.sc) || (g.sc && g.scb) || g.e != g.c || decide (48 ≤ g.sl) || decide (g.n < 0)
    || (g.sl != 0 && (g.sl : Int) != g.n) || (g.sl == 0 && decide (g.n < 48))

end SecTag

/-- The SCI of a received frame (R122). -/
def State.frameSci (s : State) (sl p : Nat) (g : SecTag) (b : Bytes) : Option Nat :=
  if g.sc then some g.sci
  else if g.es then some (frameSa b * 65536 + 1)
  else
    let d := s.ob (Ix.assoc sl (0x10 + p)) Sub.linePort_DEFAULT_RXSC
    if d < 8192 ∧ Rxsc.valid (s.rxscAt sl d) then some (Rxsc.sci (s.rxscAt sl d)) else none

/-- The receive SC of a frame: found by SCI, visible to new fetches, and its SecY's client port bound to where the frame
arrived (R121, R123, R144). -/
def State.frameRxsc (s : State) (sl p : Nat) (g : SecTag) (b : Bytes) : Option Nat :=
  match (s.frameSci sl p g b).bind (s.findSci sl) with
  | some i =>
    if !s.deletingIs sl 2 i && (match s.secyPort sl (Rxsc.secy (s.rxscAt sl i)) with
      | some c => s.boundTo c sl p
      | none => false) then some i else none
  | none => none

/-! ### The plan of a frame (R201) -/

/-- What the ingress segment decides of a frame. -/
structure Fetched where
  plan : OpenPlan
  /-- The opened frame's octets without an FCS. -/
  body : Bytes := []
  secy : Option Nat := none
  rxsc : Option Nat := none
  sa : Option Nat := none
  pn : Nat := 0
  /-- The frame's AN (R233). -/
  an : Nat := 0
  enc : Bool := false
  n : Nat := 0
  deriving DecidableEq, Repr

/-- The octets of a frame with its SecTAG and ICV removed, over a secure data field. -/
def unsealed (b : Bytes) (g : SecTag) (data : Bytes) : Bytes := b.take (12 + 4 * g.t) ++ data

/-- The tag is verified and the data decrypted: whether the ICV holds, and the user data (R191 to R193). -/
def openCipher (y sa sci pn : Nat) (k : KeyEntry) (b : Bytes) (g : SecTag) : Bool × Bytes :=
  let n := g.n.toNat
  let data := sub b g.start n
  let icv := sub b (g.start + n) 16
  let clear := if g.e then min n (offsetOf y) else n
  let aad := b.take 12 ++ sub b (12 + 4 * g.t) (g.start - 12 - 4 * g.t) ++ data.take clear
  let ct := data.drop clear
  let iv := ivOf y sa sci pn
  (gcmTag k.octets k.h iv aad ct == icv, data.take clear ++ gcmCrypt k.octets iv ct)

/-- Untagged frames (R199, R201). -/
def State.planUntagged (s : State) (sl p : Nat) (b : Bytes) : Fetched :=
  if etherType b = 0x888E ∨ etherType b = 0x88B6 then { plan := .firmware }
  else
    let i := s.ob (Ix.assoc sl (0x10 + p)) Sub.linePort_UNTAGGED_SECY
    match s.secyAt sl i with
    | some y =>
      if i = 0xFFFF ∨ !s.secyOn sl i then { plan := .dropDevice Ctr.OPEN_UNTAGGED_NO_SECY }
      else if Secy.validate y = 2 then { plan := .dropAssoc 0 i ACtr.IN_PKTS_NO_TAG, secy := some i }
      else { plan := .deliver 0 i ACtr.IN_PKTS_UNTAGGED i, secy := some i, body := b.take (b.length - 4) }
    | none => { plan := .dropDevice Ctr.OPEN_UNTAGGED_NO_SECY }

/-- A frame whose SA is usable (R201 from Key fault to the ICV). -/
def State.planSa (s : State) (sl : Nat) (b : Bytes) (g : SecTag) (r i y k : Nat) : Fetched :=
  let rx := s.rxscAt sl r
  let sa := s.saAt sl k
  let plain := unsealed b g (sub b g.start g.n.toNat)
  let pn := if Secy.xpn y then recoverPn g.pn (lowestPn sa (Secy.window y)) else g.pn
  let f : Fetched := { plan := .firmware, secy := some i, rxsc := some r, sa := some k, pn := pn, an := g.an, enc := g.e,
                       n := g.n.toNat, body := plain }
  if !s.sakLive sl (Sa.handle sa) then { f with plan := .dropDevice Ctr.OPEN_KEY_FAULT }
  else if Secy.validate y = 0 ∧ !g.c then { f with plan := .deliver 3 k ACtr.IN_PKTS_UNCHECKED i }
  else
    let o := openCipher y sa (Rxsc.sci rx) pn (s.keyAt sl (handleIndex (Sa.handle sa))) b g
    if o.1 then { f with plan := .verified r i, body := unsealed b g o.2 }
    else if Secy.validate y = 2 ∨ g.c then { f with plan := .dropAssoc 3 k ACtr.IN_PKTS_NOT_VALID }
    else { f with plan := .deliver 3 k ACtr.IN_PKTS_INVALID i }

/-- A frame whose receive SC `r` is known (R201 from SecY disabled on). -/
def State.planRxsc (s : State) (sl p : Nat) (b : Bytes) (g : SecTag) (r : Nat) : Fetched :=
  let rx := s.rxscAt sl r
  let i := Rxsc.secy rx
  let base : Fetched := { plan := .dropDevice Ctr.OPEN_SECY_DISABLED, secy := some i, rxsc := some r }
  match s.secyAt sl i with
  | none => base
  | some y =>
    if !s.secyOn sl i then base
    else if (!Secy.xpn y && g.pn == 0) || decide (Secy.vlanClear y < g.t) then
      { base with plan := .dropAssoc 5 p ACtr.IN_PKTS_BAD_TAG }
    else
      let unusable : Fetched :=
        if Secy.validate y = 2 ∨ g.c then { base with plan := .dropAssoc 2 r ACtr.IN_PKTS_NOT_USING_SA }
        else { base with plan := .deliver 2 r ACtr.IN_PKTS_UNUSED_SA i,
                         body := unsealed b g (sub b g.start g.n.toNat) }
      match rxSlot rx g.an with
      | none => unusable
      | some k =>
        if s.saBadAt sl k then { base with plan := .dropDevice Ctr.OPEN_KEY_FAULT, sa := some k }
        else if !s.saValid sl k || !Sa.inUse (s.saAt sl k) then unusable
        else s.planSa sl b g r i y k

/-- The plan of a frame that reaches the opening parser (R201). -/
def State.planFrame (s : State) (sl p : Nat) (b : Bytes) : Fetched :=
  match secTag b with
  | none => s.planUntagged sl p b
  | some g =>
    if g.badForm then { plan := .dropAssoc 5 p ACtr.IN_PKTS_BAD_TAG }
    else match s.frameRxsc sl p g b with
    | none => { plan := .dropAssoc 5 p ACtr.IN_PKTS_NO_SCI }
    | some r => s.planRxsc sl p b g r

/-- The SA that a frame's fetch reads, for the error of R130: past the checks that precede it in R201. -/
def State.fetchSa (s : State) (sl p : Nat) (b : Bytes) : Option Nat :=
  match secTag b with
  | none => none
  | some g =>
    match (if g.badForm then none else s.frameRxsc sl p g b) with
    | none => none
    | some r =>
      let rx := s.rxscAt sl r
      match s.secyAt sl (Rxsc.secy rx) with
      | some y =>
        if !s.secyOn sl (Rxsc.secy rx) || (!Secy.xpn y && g.pn == 0) || decide (Secy.vlanClear y < g.t) then none
        else rxSlot rx g.an
      | none => none

/-! ### Arrival (R26, R27, R201, R204) -/

/-- The client ports of a slice bound to a tributary. -/
def State.tribClients (s : State) (sl t : Nat) : List Nat :=
  ((List.range 8).map (8 * sl + ·)).filter (fun c => s.boundTrib c == some t)

/-- The plan of a tributary's frame that no MACsec layer protects: it goes to the bound client (R67, R273). Where
several are bound, which of them is left open: a free value (log 3). -/
def planPlain (sl t : Nat) (b : Bytes) (s : State) : Fetched × State :=
  let out (c : Nat) : Fetched := { plan := .plain c, body := b.take (b.length - 4) }
  match s.tribClients sl t with
  | [] => ({ plan := .dropDevice Ctr.OPEN_UNTAGGED_NO_SECY }, s)
  | [c] => (out c, s)
  | l => let r := s.takeFree; (out (l.getD (r.1 % l.length) 0), r.2)

/-- A frame that the pipe has taken in goes to the verify store. -/
def openEnter (m : Nat) (b : Bytes) (bad lag : Nat) (ecc : Bool) (s : State) : State :=
  let sl := sliceOfPort m
  let p := m % 8
  let stamp := s.laneStamp m lag
  let s := (takeWords sl .open 0 (s.cyc sl) b.length s).2
  let r0 := drawTag sl .open stamp.1 s
  let s := r0.2
  let s := if ecc then (match s.fetchSa sl p b with
    | some k => saFault sl k s
    | none => s) else s
  let r := if s.otnMode sl != 0 && s.ob (tribIx sl p) Sub.trib_TRIB_MODE == 1 then planPlain sl p b s
    else (s.planFrame sl p b, s)
  let s := r.2
  let t1 := timeAdd s.time.now (s.cycleTime sl 16)
  let tag := r0.1.map (fun g => { g with t1 := some t1 })
  let f : Frm := { bytes := b, len := b.length, inPort := m, bad := bad, stamp := stamp.1, epoch := stamp.2,
                   secy := r.1.secy, sa := r.1.sa, pn := r.1.pn, enc := r.1.enc, tag := tag,
                   plain := (match r.1.plan with
                     | .plain _ => true
                     | _ => false) }
  let f := if r.1.body = [] then f else { f with bytes := withFcs r.1.body }
  let target := r.1.rxsc.bind (fun k => if Rxsc.ltValid (s.rxscAt sl k) then some (Rxsc.learnTarget (s.rxscAt sl k)) else none)
  let v : Vf := { port := m, frm := f, plan := r.1.plan, rxsc := r.1.rxsc, secLen := r.1.n, target := target
                  y := r.1.secy.bind (s.secyAt sl), an := r.1.an }
  let l := mget [] s.eng.verify (pipeKey sl .open) ++ [v]
  { s with eng := { s.eng with verify := mset [] s.eng.verify (pipeKey sl .open) l } }

/-- The words that the line ports of a slice have delivered and the OPEN pipe, which takes one in each core cycle, has yet to take
(R16, R27). -/
def State.entryBacklog (s : State) (sl : Nat) : Nat :=
  let t : Seat := mget {} s.eng.seats (2 * pipeKey sl .open)
  if t.next = 0 then 0 else t.word + 1 - s.cyc sl

/-- The most that can wait while the line ports keep within the raw rate: they deliver a frame at its end, so the largest frame of
each of them. -/
def State.entryMost (s : State) (sl : Nat) : Nat :=
  (((List.range 8).map (0x40 + 8 * sl + ·)).filter s.hearsAny).foldl (fun a m => a + wordsOf (s.maxFrame m) + 1) 0

/-- A frame is excess under R27: the ports have delivered more than the raw rate carries beyond doubt, or words wait and, as
`overrun` says, the rate of their delivery exceeds it. Which frames the excess is, the spec leaves open: DESIGN CHOICE (log 129). -/
def State.excess (s : State) (sl : Nat) (overrun : Bool) : Bool :=
  (overrun && decide (0 < s.entryBacklog sl)) || decide (s.entryMost sl < s.entryBacklog sl)

/-- `LINE_FRAME_RECEIVED`: a frame with its FCS reaches line port `m`, or in OTN mode is demapped from the tributary with
that index. `pcs`, `lag` are as for a client frame; `overrun` = the slice's line ports deliver at more than the pipe's raw rate
(R27); `ecc` = the SA entry that it reads has an uncorrectable error (R130). A frame that is excess is counted as that also where
the pipe is held or stopped: DESIGN CHOICE (log 36). -/
def lineFrame (m : Nat) (b : Bytes) (pcs : Bool) (lag : Nat) (overrun ecc : Bool) (s : State) : State :=
  if m < 0x40 ∨ 0x60 ≤ m ∨ !s.hearsAny m then s
  else
    let sl := sliceOfPort m
    let s := if s.otnMode sl = 0 then farEnd m b s else s
    let v := macCheck (s.maxFrame m) b pcs
    let s := s.bump (Ctr.port m + v.2)
    let enter (bad : Nat) (t : State) : State :=
      if t.dark then t.bump (Ctr.port m + Ctr.DARK_DISCARD)
      else if t.held || t.pipeState sl .open == 3 then t
      else if t.excess sl overrun then t.bump (Ctr.slice sl + Ctr.OPEN_ENTRY_OVERRUN)
      else if t.pipeState sl .open != 0 then t.bump (Ctr.port m + Ctr.OPEN_AUDIT_DISCARD)
      else if 1024 ≤ t.trackers sl .open (mget [] t.eng.verify (pipeKey sl .open)).length then
        t.bump (Ctr.slice sl + Ctr.OPEN_NO_TRACKER)
      else openEnter m b bad lag ecc t
    match v.1 with
    | .drop => s
    | .control => if s.otnMode sl = 0 then pauseAct m b s else s
    | .bad k => enter k s
    | .ok => enter 0 s

/-! ### Release (R23, R135, R201, R203) -/

/-- What release step 5 makes of a frame: its client port if it is delivered, and the state with its counts. -/
inductive Outcome where
  | discard (ctr : Option Nat)
  | firmware
  | deliver (client : Nat) (learn : Bool)
  deriving DecidableEq, Repr

/-- Deliver through the client port of the SecY that the fetch read (R124, R204). -/
def Vf.toClient (v : Vf) (learn : Bool) : Outcome :=
  match v.y with
  | some y => .deliver (Secy.port y) learn
  | none => .discard none

/-- The replay check of release step 4: the frame's PN lies below the lowest acceptable PN as NEXT_PN stands then, with the window
of the SecY that the fetch read (R133, R135, R204). -/
def State.stale (s : State) (sl : Nat) (v : Vf) (k : Nat) : Bool :=
  decide (v.frm.pn < lowestPn (s.saAt sl k) ((v.y.map Secy.window).getD 0))

/-- The commit of a verified frame that is not stale (R135). -/
def openCommit (sl : Nat) (v : Vf) (s : State) : State :=
  match v.plan, v.frm.sa with
  | .verified _ _, some k =>
    if s.stale sl v k || !Sa.valid (s.saAt sl k) then s else commitPn sl k v.frm.pn s
  | _, _ => s

/-- Release step 5 with its counters; `stale` is the result of step 4 (R201). -/
def openOutcome (sl : Nat) (v : Vf) (stale : Bool) (s : State) : Outcome × State :=
  let m := v.port
  match v.plan with
  | .firmware => (.firmware, s.bump (Ctr.port m + Ctr.OPEN_UNCONTROLLED))
  | .dropDevice c => (.discard (some (Ctr.port m + c)), s.bump (Ctr.port m + c))
  | .dropAssoc t i n => (.discard none, s.abump t sl i n 1)
  | .deliver t i n _ => (v.toClient false, s.abump t sl i n 1)
  | .plain c => (.deliver c false, s)
  | .verified r y =>
    let k := v.frm.sa.getD 0
    if stale then
      (if (v.y.map Secy.replayProtect).getD false then (.discard none, s.abump 3 sl k ACtr.IN_PKTS_LATE 1)
       else (v.toClient false, s.abump 3 sl k ACtr.IN_PKTS_DELAYED 1))
    else
      let s := (s.abump 3 sl k ACtr.IN_PKTS_OK 1).abump 0 sl y
        (if v.frm.enc then ACtr.IN_OCTETS_DECRYPTED else ACtr.IN_OCTETS_VALIDATED) v.secLen
      (v.toClient true, watchStart sl r v.an s)

/-- The learning request of an OK frame; LEARN_TARGET is that of the fetch (R24, R80, R81, R204). -/
def openLearn (sl : Nat) (v : Vf) (s : State) : State :=
  match v.plan with
  | .verified _ _ =>
    let target := v.target
    match (match target with
      | some k => s.secyPort sl k
      | none => v.y.map Secy.port) with
    | some c =>
      if s.obB (hitchPortIx c) Sub.hitchPort_LEARN_ENABLE && !s.plainClient c then
        let vid := if s.ob (hitchPortIx c) Sub.hitchPort_VID_MODE = 0 then 0 else outerVid v.frm.bytes
        postLearn sl { port := c, vid := vid, mac := frameSa v.frm.bytes, target := target } s
      else s
    | none => s
  | _ => s

/-- Release step 7: the frame leaves the verify store toward the firmware or its client's queue (R159, R203). -/
def openDeliver (sl : Nat) (v : Vf) (o : Outcome) (f : Frm) (s : State) : State :=
  match o with
  | .discard c => tagEnd sl .open c f s
  | .firmware => tagEnd sl .open (some (Ctr.port v.port + Ctr.OPEN_UNCONTROLLED)) f (s.emit (.toFirmware v.port f.bytes))
  | .deliver c _ =>
    let tc := s.classOf c f.bytes
    let f := { f with len := f.bytes.length, outPort := c, node := c % 8, tc := tc, ptp := isPtp f.bytes }
    if s.ob (Ix.port c) Sub.port_MAX_FRAME < f.len then discardAs sl .open (Ctr.port v.port + Ctr.OPEN_OVERSIZE) f s
    else admitFrame sl .open (s.ob (tmClientIx c) Sub.tmClient_OPEN_QUEUE_BASE + tc) (v.port % 8) c f s

/-- The stamps of release: the last byte entered the cipher stage 160 cycles ago (R23, R624). -/
def State.releaseStamps (s : State) (sl : Nat) (f : Frm) : Frm :=
  let t2 := s.timeOf sl (s.cyc sl - 160)
  let tag := f.tag.map (fun g => { g with t2 := some t2, t3 := some s.time.now })
  { f with tag := tag }

/-- A frame's release: `caught` tells how far its release had come when a core check caught it: 0 not caught, 1 between steps 4
and 5, 2 after step 5, 3 before step 4 (R201, R210). -/
def releaseFrame (sl : Nat) (v : Vf) (caught : Nat) (s : State) : State :=
  let f := s.releaseStamps sl v.frm
  let audit (t : State) : State := discardAs sl .open (Ctr.port v.port + Ctr.OPEN_AUDIT_DISCARD) f t
  if f.bad ≠ 0 then tagEnd sl .open (some (Ctr.port v.port + (if f.bad = 1 then Ctr.RX_PCS_ERR else Ctr.RX_FCS_ERR))) f s
  else if caught = 3 then audit s
  else
    let stale := match v.plan, f.sa with
      | .verified _ _, some k => s.stale sl v k
      | _, _ => false
    let s := openCommit sl v s
    if caught = 1 then audit s
    else
      let r := openOutcome sl v stale s
      let s := match r.1 with
        | .deliver _ true => openLearn sl v r.2
        | _ => r.2
      if caught = 2 then audit s else openDeliver sl v r.1 f s

/-- `OPEN_RELEASE`: the oldest frame of the verify store reaches its release cycle. Of a frame that a core check has caught,
`caught` tells how far its release had come then: 1 between steps 4 and 5, 2 past step 5, and any other not yet to step 4; of any
other frame it tells nothing (R23, R201, R210). -/
def openRelease (sl caught : Nat) (s : State) : State :=
  match mget [] s.eng.verify (pipeKey sl .open) with
  | [] => s
  | v :: t =>
    let s := { s with eng := { s.eng with verify := mset [] s.eng.verify (pipeKey sl .open) t } }
    releaseFrame sl v (if !v.caught then 0 else if caught = 1 ∨ caught = 2 then caught else 3) s

/-! ### Dequeue (R54, R203, R309, R421) -/

/-- A frame padded to 64 octets with a new FCS (R203). -/
def padFrame (b : Bytes) : Bytes := if b.length < 64 then withFcs (padTo 60 (b.take (b.length - 4))) else b

/-- The client port is in fault (R54). -/
def State.clientFault (s : State) (c : Nat) : Bool :=
  s.ob (Ix.port c) Sub.port_LINK_STATE == 2 || s.ob (Ix.port c) Sub.port_LINK_STATE == 3

/-- What happens to a frame that the opening scheduler dequeues in cycle `j` of the present period; its first word enters the
client MAC stage `wait` cycles later, 96 to 160 (R54, R203, R298). -/
def openServe (sl j wait : Nat) (f : Frm) (s : State) : State :=
  let c := f.outPort
  let s := (chargeFrame sl .open f s).leave sl .open f
  let w := takeWords sl .open 1 (s.cyc sl + j % cyclesPer8 (s.pointOf sl)) f.len s
  let s := w.2
  let d := w.1.1
  let f := { f with tag := f.tag.map (fun g => { g with t4 := some (s.timeOf sl d) }) }
  if s.shadow then discardAs sl .open (Ctr.port c + Ctr.SHADOW_DISCARD) f s
  else if s.clientFault c then discardAs sl .open (Ctr.port c + Ctr.CLIENT_FAULT_DISCARD) f s
  else
    let b := padFrame f.bytes
    joinEgress sl .open
      { frm := f, bytes := b, start := d, base := w.1.2, enter := d + wait, words := wordsOf (16 * w.1.2 + b.length)
        todo := true } s

/-- The first word of an opened frame enters the client MAC transmit stage: it is stamped and corrected there, from the time of
that cycle, or discarded across a step (R304, R309, R312). -/
def clientEnter (sl : Nat) (e : Egress) (s : State) : Option Egress × State :=
  let c := e.frm.outPort
  let tout := s.egressStamp c (s.timeOf sl e.enter)
  let f := { e.frm with tag := e.frm.tag.map (fun g => { g with t5 := some tout }) }
  let r := tcFrame c .open f tout s
  match r.1 with
  | .discard => (none, tagEnd sl .open (some (Ctr.port c + Ctr.PTP_STEP_DISCARD + 8)) f r.2)
  | .pass => (some { e with frm := f, todo := false }, r.2)
  | .fix b => (some { e with frm := f, bytes := padFrame b, todo := false }, r.2)

/-- The frames of a segment that have come to the client MAC by a cycle do so, one after another. -/
def clientEnters (sl c : Nat) : List Egress → State → List Egress × State
  | [], s => ([], s)
  | e :: t, s =>
    let r := if e.todo && decide (e.enter < c) then clientEnter sl e s else (some e, s)
    let q := clientEnters sl c t r.2
    (r.1.toList ++ q.1, q.2)

/-- `OPEN_DEQUEUE`: one dequeue of the opening scheduler, in cycle `j` of the present period of 8 ns (R172, R298). -/
def openDequeue (sl j wait : Nat) (s : State) : State :=
  schedule sl .open (mget [] s.eng.verify (pipeKey sl .open)).length (openServe sl j (max 96 (min wait 160))) s

/-- An opened frame's last word has entered the client MAC: the port sends it (R25, R203). -/
def openLeave (sl : Nat) (e : Egress) (s : State) : State :=
  tagEnd sl .open none e.frm (sendFrame e.frm.outPort e.cut.isSome e.bytes s)

/-- The opening egress segment up to a cycle. -/
def openEgress (sl c : Nat) (s : State) : State :=
  if s.egressAt sl .open = [] then s
  else
    let r := clientEnters sl c (s.egressAt sl .open) s
    leaveEgress sl .open (openLeave sl) c (r.2.putEgress sl .open r.1)

/-- The egress segments of every slice, up to the present cycle. -/
def State.egress (s : State) : State :=
  (List.range 4).foldl (fun t sl => openEgress sl (t.cyc sl) (sealEgress sl (t.cyc sl) t)) s

/-- Both egress segments of a slice drain (R31, R576). -/
def drainSlice (sl : Nat) (s : State) : State :=
  let s := sealEgress sl (endOf (s.egressAt sl .seal)) s
  openEgress sl (endOf (s.egressAt sl .open)) s

/-- A response cuts the frames of a slice's egress segments (R551). -/
def cutSlice (sl : Nat) (s : State) : State :=
  cutEgress sl .open (fun e b => sendFrame e.frm.outPort true b)
    (cutEgress sl .seal (sendCut sl) s)

/-! ### Near-end loops (R48) -/

/-- What a port's near-end loop has turned around reaches its own receiver. -/
def loopPort (m : Nat) (s : State) : State :=
  let l := mget [] s.lanes.loop m
  let s := { s with lanes := { s.lanes with loop := merase s.lanes.loop m } }
  if s.nearLoop m then
    l.foldl (fun t x => if isLine m then lineFrame m x.1 x.2 0 false false t else clientFrame m x.1 x.2 0 t) s
  else s

/-- What every near-end loop has turned around reaches the receivers. -/
def State.loopsIn (s : State) : State := (s.lanes.loop.map (·.1)).foldl (fun t m => loopPort m t) s

/-! ### The commands -/

/-- `LINE_FRAME_RECEIVED`; a near-end loop takes nothing from the pins (R48, R201). -/
def execLineFrameReceived (m : Nat) (b : Bytes) (pcs : Bool) (lag : Nat) (overrun ecc : Bool) (s : State) : Out :=
  .next (if s.nearLoop m then s else lineFrame m b pcs lag overrun ecc s)

/-- `OPEN_RELEASE` (R201). -/
def execOpenRelease (sl caught : Nat) (s : State) : Out := .next (openRelease sl caught s)

/-- `OPEN_DEQUEUE` (R203). -/
def execOpenDequeue (sl j wait : Nat) (s : State) : Out := .next (openDequeue sl j wait s)

end Sys2Proof.Machine
end

