-- ==== Sys2Proof/Machine/Otn.lean ====
section
/-! DEFINITION. The OTN line side (chapter 08): alignment, defects, performance, tributaries, the tributary-slot
interchange and sealed ODUs. -/

namespace Sys2Proof.Machine

/-! ### Objects and fields -/

abbrev pmIx (sl : Nat) : Nat := Ix.otn sl 1
abbrev cmIx (sl : Nat) : Nat := Ix.otn sl 2
abbrev tribPmIx (sl t : Nat) : Nat := Ix.otn sl (0x20 + t)

def State.levelAt (s : State) (sl i : Nat) : FrameLevel := mget {} s.otn.level (skey sl i)
def State.putLevel (sl i : Nat) (v : FrameLevel) (s : State) : State :=
  { s with otn := { s.otn with level := mset {} s.otn.level (skey sl i) v } }
def State.rxAt (s : State) (sl t : Nat) : SoduRx := mget {} s.otn.rx (skey sl t)
def State.putRx (sl t : Nat) (v : SoduRx) (s : State) : State :=
  { s with otn := { s.otn with rx := mset {} s.otn.rx (skey sl t) v } }

/-- Raise a performance count of the second in progress (R263). -/
def State.pmAdd (sl k n : Nat) (s : State) : State :=
  { s with otn := { s.otn with pm := mset 0 s.otn.pm (skey sl k) (mget 0 s.otn.pm (skey sl k) + n) } }

/-- The tributaries in use. -/
def State.tribsOn (s : State) (sl : Nat) : List Nat := (List.range 8).filter (s.tribOn sl)

/-! ### The interchange's memories (R268, R269) -/

/-- The active page of a memory: 0 transmit, 1 receive. -/
def State.cmActive (s : State) (sl dir : Nat) : Nat := bits (s.ob (cmIx sl) Sub.cmWin_CM_ACTIVE) dir dir

/-- An entry of the connection memory (R269). -/
def State.cmEntry (s : State) (sl dir page slot : Nat) : Nat := mget 0 s.otn.cm (skey sl ((2 * dir + page) * 256 + slot))

/-- What a page makes of a slot: 0, or 1 + the tributary (R269). -/
def cmOwner (e : Nat) : Nat := if bit e 15 then 1 + bits e 14 12 else 0

/-- The order indexes that a page gives a tributary (R269). -/
def State.cmOrders (s : State) (sl dir page t : Nat) : List Nat :=
  ((List.range (20 * s.otnN sl)).map (fun k => s.cmEntry sl dir page k)).filterMap
    (fun e => if cmOwner e = 1 + t then some (bits e 7 0) else none)

/-- Check 3 of R266 for one page: exactly `TRIB_SLOTS` entries, each order index once. -/
def State.pageGives (s : State) (sl dir page t : Nat) : Bool :=
  let o := s.cmOrders sl dir page t
  let k := s.ob (tribIx sl t) Sub.trib_TRIB_SLOTS
  o.length == k && (List.range k).all o.contains

/-- The MSI of the active page of a memory: 0 transmit, 1 receive (R272). -/
def State.pageMsi (s : State) (sl dir : Nat) : List Nat :=
  (List.range (20 * s.otnN sl)).map (fun k => cmOwner (s.cmEntry sl dir (s.cmActive sl dir) k))

/-- The slots that carry a tributary's ODU on the active page of a memory, in ascending ORDER (R269). -/
def State.tribSlots (s : State) (sl dir t : Nat) : List Nat :=
  let e (k : Nat) : Nat := s.cmEntry sl dir (s.cmActive sl dir) k
  (List.range 160).flatMap (fun o => (List.range (20 * s.otnN sl)).filter (fun k =>
    cmOwner (e k) == 1 + t && bits (e k) 7 0 == o))

/-! ### Defects and consequent actions (R259, R260) -/

/-- A bit of the slice's `DEFECTS` stands. -/
def State.sliceDefect (s : State) (sl b : Nat) : Bool := bit (s.ob (otnIx sl) Sub.otn_DEFECTS) b
/-- A bit of a tributary's `DEFECTS` stands. -/
def State.tribDefect (s : State) (sl t b : Nat) : Bool := bit (s.ob (tribIx sl t) Sub.trib_DEFECTS) b

/-- The accepted MSI gives a slot to a tributary where the active receive page does not, or the reverse (R259). -/
def State.msiDiffers (s : State) (sl t : Nat) : Bool :=
  (List.zip (s.levelAt sl 0).msiAcc (s.pageMsi sl 1)).any (fun p => (p.1 == 1 + t) != (p.2 == 1 + t))

/-- A slice defect inserts ODU-AIS into every received tributary (R259). -/
def State.groupAis (s : State) (sl : Nat) : Bool :=
  (s.ob (otnIx sl) Sub.otn_DEFECTS &&& 0xFFFF13) != 0
    || (s.sliceDefect sl 2 && s.obB (otnIx sl) Sub.otn_TIM_ACT)

/-- ODU-AIS is inserted into a received tributary (R259). -/
def State.aisInserted (s : State) (sl t : Nat) : Bool :=
  s.groupAis sl || (s.sliceDefect sl 6 && s.msiDiffers sl t)

/-- The BDI that the device sends: level 0 = SM, 1 = PM of the ODUCn, 2 + t = PM of tributary t (R259, R260). -/
def State.bdiSent (s : State) (sl level : Nat) : Bool :=
  match level with
  | 0 => (s.ob (otnIx sl) Sub.otn_DEFECTS &&& 0xFFFF07) != 0
  | 1 => s.sliceDefect sl 4
  | t + 2 => s.tsf sl t

/-- Report a level's BDI where it changed. -/
def bdiReport (sl level : Nat) (old : Bool) (s : State) : State :=
  if s.bdiSent sl level = old then s else s.emit (.bdi sl level (!old))

/-- The performance count that a defect flags: its level's near-end or far-end defect second (R263). -/
def defectSecond (trib : Option Nat) (b : Nat) : Nat :=
  match trib with
  | some t => 4 * (2 + t) + (if b = 3 then 3 else 2)
  | none => if b = 3 then 3 else if b = 5 then 7 else if b = 4 ∨ b = 6 then 6 else 2

/-- A defect is declared or cleared: its bit, its defect second, and `OTN_DEFECT` (R260, R263). A defect of the whole
group names no instance: that item is left open, a free value (log 3). -/
def noteDefect (sl : Nat) (trib : Option Nat) (b : Nat) (on : Bool) (s : State) : State :=
  let at_ (ix sub where_ : Nat) (s : State) : State :=
    if bit (s.ob ix sub) b = on then s
    else (((s.put ix sub (setBit (s.ob ix sub) b on)).pmAdd sl (defectSecond trib b) 1).raise 0x0701 sl
      (be 1 b ++ be 1 where_ ++ be 1 on.toNat))
  match trib with
  | some t => at_ (tribIx sl t) Sub.trib_DEFECTS t s
  | none =>
    if 8 ≤ b then at_ (otnIx sl) Sub.otn_DEFECTS (b % 8) s
    else if s.sliceDefect sl b = on then s
    else
      let r := s.takeFree
      at_ (otnIx sl) Sub.otn_DEFECTS (r.1 % 256) r.2

/-- TSF as R259 gives it for the defects that stand. -/
def State.tsfHolds (s : State) (sl t : Nat) : Bool :=
  (s.ob (tribIx sl t) Sub.trib_DEFECTS &&& 0x1E7) != 0 || (s.tribDefect sl t 4 && s.obB (otnIx sl) Sub.otn_TIM_ACT)

/-- TSF follows the tributary's defects: its clients' fill and the PM BDI change with it (R260). -/
def tsfUpdate (sl t : Nat) (s : State) : State :=
  let v := s.tsfHolds sl t
  if s.tsf sl t = v then s
  else
    let s := s.put (tribIx sl t) Sub.trib_DEFECTS (setBit (s.ob (tribIx sl t) Sub.trib_DEFECTS) 9 v)
    ((s.tribClients sl t).filter s.portOn).foldl (fun u c => u.emitFill c) (s.emit (.bdi sl (2 + t) v))

/-- A tributary's defect is declared or cleared, and TSF follows. -/
def setTribDefect (sl t b : Nat) (on : Bool) (s : State) : State := tsfUpdate sl t (noteDefect sl (some t) b on s)

/-- ODU-AIS inserted into a received tributary raises AIS-T in it (R259). -/
def insertAis (sl : Nat) (s : State) : State :=
  ((s.tribsOn sl).filter (s.aisInserted sl)).foldl (fun t k => setTribDefect sl k 2 true t) s

/-- A slice defect is declared or cleared, with its consequent actions (R259). -/
def setSliceDefect (sl b : Nat) (on : Bool) (s : State) : State :=
  let t := noteDefect sl none b on s
  insertAis sl (bdiReport sl 1 (s.bdiSent sl 1) (bdiReport sl 0 (s.bdiSent sl 0) t))

/-- A lane of the group reports LOS, or a carrier lane has lost block lock (R259). -/
def State.losHolds (s : State) (sl : Nat) : Bool :=
  (s.carrierLanes sl).any (fun j => s.obB (Ix.lane (0x40 + 8 * sl + j)) Sub.lane_LOS || !s.otn.locked.contains (8 * sl + j))

/-- A period of 8 ns in which a lane of the group is lost: LOS is declared, and the 100 µs after which it ends begin anew (R259). -/
def losLook (s : State) (sl : Nat) : State :=
  if s.otnMode sl = 0 ∨ !s.sliceHears sl ∨ !s.losHolds sl then s
  else (setSliceDefect sl 0 true s).mark (Timer.loss sl)

/-- The loss of lanes in every slice. -/
def State.losses (s : State) : State := (List.range 4).foldl losLook s

/-- A level has been out of frame, or out of multiframe, or not so, for 3 ms (R259). -/
def State.outFor (s : State) (sl i : Nat) (multi on : Bool) : Bool :=
  (if multi then (s.levelAt sl i).oom else (s.levelAt sl i).pos.isNone) == on && s.past (Timer.frame sl i multi.toNat) 3000000

/-- A defect's period of persistence has passed, in the sense `on`: LOS, LOF and LOM of the slice, GIDM, LOF-T and LOM-T (R259). The
other defects are set where their condition is received. -/
def State.persists (s : State) (sl : Nat) (trib : Option Nat) (b : Nat) (on : Bool) : Bool :=
  match trib with
  | some t => s.tribOn sl t && decide (b < 2) && s.outFor sl (8 + t) (b == 1) on
  | none =>
    if b = 0 then s.losHolds sl == on && (on || s.past (Timer.loss sl) 100000)
    else if b = 1 then decide (3 ≤ (if on then (s.levelAt sl 0).gidBad else (s.levelAt sl 0).gidGood))
    else if 8 ≤ b ∧ b < 16 then decide (b - 8 < s.otnN sl) && s.outFor sl (b - 8) false on
    else decide (16 ≤ b) && decide (b - 16 < s.otnN sl) && s.outFor sl (b - 16) true on

/-- `OTN_DEFECT_DECLARE` and `OTN_DEFECT_CLEAR` (R259). -/
def defectPersisted (sl : Nat) (trib : Option Nat) (b : Nat) (on : Bool) (s : State) : State :=
  if s.otnMode sl = 0 ∨ !s.sliceHears sl ∨ !s.persists sl trib b on then s
  else match trib with
  | some t => setTribDefect sl t b on s
  | none => setSliceDefect sl b on s

/-- One header of a carrier lane: 64 valid ones in a row give lock, and 16 invalid ones among any 64 end it. Answers whether
the lane is locked, and what it has counted (R254). -/
def headerStep (v : Bool × List Bool) (ok : Bool) : Bool × List Bool :=
  if v.1 then
    (let w := (ok :: v.2).take 64
     if 16 ≤ w.countP (fun x => !x) then (false, []) else (true, w))
  else if !ok then (false, [])
  else if 63 ≤ v.2.length then (true, [])
  else (false, ok :: v.2)

/-- `BLOCK_LOCK_CHANGE`: a carrier lane receives blocks with valid and invalid headers, in turn, and its markers lie `skew`
blocks behind those of the carrier's earliest lane. It declares block lock or loses it; its loss declares LOS at once (R254,
R259). A near-end loop gives it the blocks of its own transmitter (R48), and a receiver that is not ON takes none (R43). -/
def blockLock (sl lane : Nat) (heads : List Bool) (skew : Nat) (s : State) : State :=
  let k := 8 * sl + lane
  let own := s.laneTurns (0x40 + k)
  let heads := if own then heads.map (fun _ => true) else heads
  let skew := if own then 0 else skew
  if !s.sliceHears sl || s.rxEffective (0x40 + k) != 2 then s
  else
  let r := heads.foldl headerStep (s.otn.locked.contains k, mget [] s.otn.heads k)
  let l := s.otn.locked.filter (· != k)
  let t := { s with otn := { s.otn with locked := if r.1 then l ++ [k] else l, heads := mset [] s.otn.heads k r.2
                                        skew := mset 0 s.otn.skew k skew } }
  if s.otn.locked.contains k ∧ !r.1 ∧ s.otnMode sl ≠ 0 ∧ (s.carrierLanes sl).contains lane then
    (setSliceDefect sl 0 true t).mark (Timer.loss sl)
  else t

/-- The skew between the lanes of an instance's carrier can be removed: up to 64 blocks (R254). -/
def State.deskewed (s : State) (sl i : Nat) : Bool :=
  let k := (carrierK (s.carrierRate sl)).getD 0
  (List.range k).all (fun j => decide (mget 0 s.otn.skew (8 * sl + k * i + j) ≤ 64))

/-! ### Alignment (R256 to R258) -/

/-- R256 over one frame time: the positions found, in order; what is left of the candidates of the frame before, those
kept, an accepted position with its MFAS, and how many positions were ignored. -/
def searchFrame : List (Nat × Nat) → List (Nat × Nat × Nat) → List (Nat × Nat × Nat) →
    List (Nat × Nat × Nat) × Option (Nat × Nat) × Nat
  | [], _, kept => (kept, none, 0)
  | (p, m) :: hits, old, kept =>
    let old := old.filter (fun c => decide (p ≤ c.1))
    match old.find? (fun c => c.1 == p) with
    | some c =>
      let old := old.filter (fun c => decide (c.1 ≠ p))
      if m = (c.2.1 + 1) % 256 then
        (if 2 ≤ c.2.2 then ([], some (p, m), 0) else searchFrame hits old (kept ++ [(p, m, c.2.2 + 1)]))
      else searchFrame hits old kept
    | none =>
      if old.length + kept.length < 8 then searchFrame hits old (kept ++ [(p, m, 1)])
      else
        let r := searchFrame hits old kept
        (r.1, r.2.1, r.2.2 + 1)

/-- An instance lies apart from instance 0: its MFAS differs from the one that instance 0 last received, or their skew of more
than 1 µs cannot be removed (R258, log 107). -/
def State.instanceApart (s : State) (sl i : Nat) (f : OduFrame) : Bool :=
  decide (0 < i) && decide (i < 8) && ((s.levelAt sl 0).seen.any (fun m => m != f.mfas) || decide (1000 < f.skew))

/-- Multiframe alignment over one frame of a level in frame; `split` = it lies apart from its group (R257, R258). -/
def multiframeStep (split : Bool) (f : OduFrame) (v : FrameLevel) : FrameLevel :=
  let agrees := f.mfas == v.mfas && !split
  let next := (v.mfas + 1) % 256
  let v : FrameLevel := if split then { v with oom := true, mfasGood := 0, seen := some f.mfas } else { v with seen := some f.mfas }
  if agrees then
    let good := v.mfasGood + 1
    if v.oom && decide (good < 5) then { v with mfas := next, mfasBad := 0, mfasGood := good }
    else { v with mfas := next, mfasBad := 0, mfasGood := 0, oom := false }
  else if v.mfasBad = 4 then
    { v with mfas := (f.mfas + 1) % 256, mfasBad := 0, mfasGood := 0, oom := true, tti := [], ttiReps := 0, msiReps := 0, ptReps := 0 }
  else { v with mfas := next, mfasBad := v.mfasBad + 1, mfasGood := 0 }

/-- One frame time of a level: search while out of frame, otherwise the FAS and the MFAS (R256, R257). Answers the
level and the positions ignored. -/
def levelStep (split : Bool) (f : OduFrame) (v : FrameLevel) : FrameLevel × Nat :=
  match v.pos with
  | none =>
    let r := searchFrame f.hits v.cands []
    (match r.2.1 with
     | some (p, m) => { v with cands := [], pos := some p, mfas := (m + 1) % 256, fasBad := 0, mfasBad := 0
                               mfasGood := 0, oom := false, seen := some m, bip1 := none, bip2 := none
                               tti := [], ttiReps := 0, msiReps := 0, ptReps := 0, aisRun := 0, noAisRun := 0, bdiRun := 0
                               noBdiRun := 0, pmAisRun := 0, pmNoAisRun := 0, pmBdiRun := 0, pmNoBdiRun := 0 }
     | none => { v with cands := r.1 }, r.2.2)
  | some p =>
    if f.hits.any (fun h => h.1 == p) then (multiframeStep split f { v with fasBad := 0 }, 0)
    else if v.fasBad = 4 then ({ v with pos := none, cands := [], fasBad := 0, seen := none }, 0)
    else (multiframeStep split f { v with fasBad := v.fasBad + 1 }, 0)

/-! ### Trail trace (R262) -/

/-- The octet of a frame joins the TTI; answers the level and whether a period ended. A period of which a frame is missing breaks the
succession (R262). -/
def ttiStep (m octet : Nat) (v : FrameLevel) : FrameLevel × Bool :=
  let i := m % 64
  let t := if i = 0 then [byte octet] else if v.tti.length = i then v.tti ++ [byte octet] else []
  let v := if v.tti.length = i then v else { v with ttiReps := 0 }
  if i = 63 ∧ t.length = 64 then
    let n := if t = v.ttiLast then min 3 (v.ttiReps + 1) else 1
    ({ v with tti := [], ttiLast := t, ttiReps := n, ttiAcc := v.ttiAcc || decide (3 ≤ n) }, true)
  else ({ v with tti := t }, false)

/-- The accepted TTI differs in a compared part (R262). -/
def timDiffers (acc sapi dapi : Bytes) (mode : Nat) : Bool :=
  (mode % 2 == 1 && sub acc 0 16 != sapi) || (decide (2 ≤ mode) && sub acc 16 16 != dapi)

/-- TIM-SM or TIM-T as it stands for the accepted TTI (R262). -/
def State.timHolds (s : State) (sl : Nat) (trib : Option Nat) : Bool :=
  match trib with
  | none => (s.levelAt sl 0).ttiAcc && timDiffers (s.oct (otnIx sl) Sub.otn_ACC_TTI) (s.oct (otnIx sl) Sub.otn_EXP_SAPI)
      (s.oct (otnIx sl) Sub.otn_EXP_DAPI) (s.ob (otnIx sl) Sub.otn_TIM_MODE)
  | some t => (s.levelAt sl (8 + t)).ttiAcc && timDiffers (s.oct (tribIx sl t) Sub.trib_ACC_TTI)
      (s.oct (tribIx sl t) Sub.trib_EXP_SAPI) (s.oct (tribIx sl t) Sub.trib_EXP_DAPI)
      (s.ob (tribIx sl t) Sub.trib_TIM_MODE)

/-- The trail trace of a level over one frame: a TTI received in three consecutive periods is accepted, and TIM is set
or cleared at the end of each period (R262). -/
def traceFrame (sl : Nat) (trib : Option Nat) (m octet : Nat) (s : State) : State :=
  let i := (trib.map (8 + ·)).getD 0
  let r := ttiStep m octet (s.levelAt sl i)
  let s := s.putLevel sl i r.1
  if !r.2 then s
  else
    let s := if 3 ≤ r.1.ttiReps then
        s.putO ((trib.map (tribIx sl)).getD (otnIx sl)) Sub.otn_ACC_TTI r.1.ttiLast else s
    match trib with
    | none => setSliceDefect sl 2 (s.timHolds sl none) s
    | some t => setTribDefect sl t 4 (s.timHolds sl (some t)) s

/-! ### Received frames -/

/-- Runs of frames with and without a condition. -/
def runStep (hit : Bool) (r : Nat × Nat) : Nat × Nat := if hit then (min 8 (r.1 + 1), 0) else (0, min 8 (r.2 + 1))

/-- Set or clear a defect once its run is long enough. -/
def runDefect (need : Nat) (r : Nat × Nat) (set : Bool → State → State) (s : State) : State :=
  if need ≤ r.1 then set true s else if need ≤ r.2 then set false s else s

/-- The MSI received and the active receive page: MSIM stands while the accepted value differs (R272). -/
def msimUpdate (sl : Nat) (s : State) : State :=
  let acc := (s.levelAt sl 0).msiAcc
  if acc = [] then s else setSliceDefect sl 6 (acc != s.pageMsi sl 1) s

/-- A multiframe's MSI arrives (R272). -/
def msiFrame (sl : Nat) (x : List Nat) (s : State) : State :=
  let v := s.levelAt sl 0
  let n := if x = v.msi then min 3 (v.msiReps + 1) else 1
  msimUpdate sl (s.putLevel sl 0 { v with msi := x, msiReps := n, msiAcc := if 3 ≤ n then x else v.msiAcc })

/-- BIP-8 over the octets of an OPU: bit k is the parity of their bits k (R263). -/
def bip8 (b : Bytes) : Nat := (b.foldl (· ^^^ ·) 0).toNat

/-- The BIP-8 errors that a received octet shows: the bits in which it differs from what was computed over the frame two
before, as G.709 has it; 0 where that frame was not seen (R263, log 108). -/
def bipErrors (v : FrameLevel) (got : Nat) : Nat :=
  match v.bip2 with
  | some x => (List.range 8).countP (fun k => bit (x ^^^ got) k)
  | none => 0

/-- A level's BIP-8 over one frame. -/
def bipStep (area : Bytes) (v : FrameLevel) : FrameLevel := { v with bip2 := v.bip1, bip1 := some (bip8 area) }

/-- What a level counts of a frame: an errored block, and the far end's BEI; the errors found are sent back as BEI, in the overhead
`out` (R261, R263). -/
def errorBlocks (sl level out errors bei : Nat) (s : State) : State :=
  let s := (s.pmAdd sl (4 * level) (min 1 errors)).pmAdd sl (4 * level + 1) bei
  let s := { s with otn := { s.otn with bei := mset 0 s.otn.bei (skey sl out) errors } }
  if errors = 0 then s else s.emit (.bei sl out errors)

/-- A FlexO multiframe's group identifier: GIDM stands after three that differ from `FLEXO_GID` (R259). -/
def gidFrame (sl : Nat) (x : Nat) (s : State) : State :=
  let v := s.levelAt sl 0
  let r := runStep (x != s.ob (otnIx sl) Sub.otn_FLEXO_GID) (v.gidBad, v.gidGood)
  runDefect 3 r (setSliceDefect sl 1) (s.putLevel sl 0 { v with gidBad := r.1, gidGood := r.2 })

/-- The FlexO FEC of an instance over one frame time (R264). -/
def fecFrame (sl i : Nat) (f : OduFrame) (s : State) : State :=
  (s.bumpBy (Ctr.slice sl + Ctr.FLEXO_FEC_CORR + i) f.fecCorr).bumpBy (Ctr.slice sl + Ctr.FLEXO_FEC_UNCORR + i) f.fecUncorr

/-- The overhead of a frame of an OTUC instance in frame, with the SM and the PM of the ODUCn that it carries; instance 0 carries what
is one for the group (R259, R263). -/
def instanceFrame (sl i : Nat) (m : Nat) (f : OduFrame) (s : State) : State :=
  let v := s.levelAt sl i
  let s := errorBlocks sl 0 (16 + i) (bipErrors v f.bip) f.bei (s.putLevel sl i (bipStep f.area v))
  let s := errorBlocks sl 1 (32 + i) (bipErrors v f.pmBip) f.pmBei s
  if i ≠ 0 then s
  else
    let v := s.levelAt sl 0
    let b := runStep f.bdi (v.bdiRun, v.noBdiRun)
    let pa := runStep (f.pmStat == 7) (v.pmAisRun, v.pmNoAisRun)
    let pb := runStep f.pmBdi (v.pmBdiRun, v.pmNoBdiRun)
    let s := s.putLevel sl 0 { v with bdiRun := b.1, noBdiRun := b.2, pmAisRun := pa.1, pmNoAisRun := pa.2
                                      pmBdiRun := pb.1, pmNoBdiRun := pb.2 }
    let s := runDefect 5 b (setSliceDefect sl 3) s
    let s := runDefect 3 pa (setSliceDefect sl 4) s
    let s := runDefect 5 pb (setSliceDefect sl 5) s
    let s := traceFrame sl none m f.tti s
    match f.msi with
    | some x => msiFrame sl x s
    | none => if m = 255 then s.putLevel sl 0 { s.levelAt sl 0 with msiReps := 0 } else s

/-- The PT that a tributary expects (R273). -/
def State.expectedPt (s : State) (sl t : Nat) : Nat :=
  if s.ob (tribIx sl t) Sub.trib_TRIB_MODE = 0 then Config.g709Pt (s.ob (tribIx sl t) Sub.trib_TRIB_TYPE) % 256
  else s.ob (otnIx sl) Sub.otn_SODU_PT

/-- A multiframe's PT arrives (R259). -/
def ptFrame (sl t : Nat) (x : Nat) (s : State) : State :=
  let v := s.levelAt sl (8 + t)
  let n := if x = v.pt then min 3 (v.ptReps + 1) else 1
  let acc := if 3 ≤ n then some x else v.ptAcc
  let s := s.putLevel sl (8 + t) { v with pt := x, ptReps := n, ptAcc := acc }
  match acc with
  | some p => setTribDefect sl t 5 (p != s.expectedPt sl t) s
  | none => s

/-- The overhead of a frame of a tributary in frame (R259, R263). -/
def tribFrame (sl t : Nat) (m : Nat) (f : OduFrame) (s : State) : State :=
  let v := bipStep f.area (s.levelAt sl (8 + t))
  let s := errorBlocks sl (2 + t) (2 + t) (bipErrors (s.levelAt sl (8 + t)) f.bip) f.bei s
  let a := runStep (f.stat == 7 || s.aisInserted sl t) (v.aisRun, v.noAisRun)
  let b := runStep f.bdi (v.bdiRun, v.noBdiRun)
  let s := s.putLevel sl (8 + t) { v with aisRun := a.1, noAisRun := a.2, bdiRun := b.1, noBdiRun := b.2 }
  let s := runDefect 3 a (setTribDefect sl t 2) s
  let s := runDefect 5 b (setTribDefect sl t 3) s
  let s := traceFrame sl (some t) m f.tti s
  match f.pt with
  | some x => ptFrame sl t x s
  | none => s

/-- The lanes of the group that a level comes over: those of its instance, or all (R252). -/
def State.levelLanes (s : State) (sl i : Nat) : List Nat :=
  let k := (carrierK (s.carrierRate sl)).getD 0
  if i < 8 then (List.range k).map (k * i + ·) else s.carrierLanes sl

/-- What a level's receiver sees of one frame time when near-end loops turn its transmitter's stream around: frames in their
places, whose overhead is what the transmitter sends (R48, R261, R262, R272, R273). -/
def State.ownFrame (s : State) (sl i : Nat) (f : OduFrame) : OduFrame :=
  let v := s.levelAt sl i
  let hit : Nat × Nat := match v.pos, v.cands with
    | some p, _ => (p, v.mfas)
    | none, c :: _ => (c.1, (c.2.1 + 1) % 256)
    | none, [] => (0, 0)
  let bip := v.bip2.getD 0
  let beiOf (k : Nat) : Nat := mget 0 s.otn.bei (skey sl k)
  let ais := decide (8 ≤ i) && (mget none s.otn.sending (skey sl (i - 8))).isNone
  { f with hits := [hit], mfas := hit.2, skew := 0
           tti := num (sub (if i < 8 then s.oct (otnIx sl) Sub.otn_TX_TTI else s.oct (tribIx sl (i - 8)) Sub.trib_TX_TTI) (hit.2 % 64) 1)
           stat := if ais then 7 else 1, bdi := s.bdiSent sl (if i < 8 then 0 else i - 6)
           bip := bip, bei := beiOf (if i < 8 then 16 + i else i - 6)
           pmStat := 1, pmBdi := s.bdiSent sl 1, pmBip := bip, pmBei := beiOf (32 + i)
           gid := f.gid.map (fun _ => s.ob (otnIx sl) Sub.otn_FLEXO_GID), fecCorr := 0, fecUncorr := 0
           pt := f.pt.map (fun _ => s.expectedPt sl (i - 8)), msi := f.msi.map (fun _ => s.pageMsi sl 0) }

/-- A frame time of a level as its receiver sees it: from the pins, or its own transmitter's where near-end loops turn it around.
With loops on some of its lanes alone, or a skew that cannot be removed, it shows no FAS (R48, R254, log 134). -/
def State.seenFrame (s : State) (sl i : Nat) (f : OduFrame) : OduFrame :=
  let l := (s.levelLanes sl i).map (fun j => s.laneTurns (0x40 + 8 * sl + j))
  let f := if l.any id then (if l.all id then s.ownFrame sl i f else { f with hits := [] }) else f
  if i < 8 ∧ !s.deskewed sl i then { f with hits := [] } else f

/-- Note when a level goes out of frame or multiframe, or comes back (R259). -/
def noteAligned (sl i : Nat) (old new : FrameLevel) (s : State) : State :=
  let s := if old.pos.isNone = new.pos.isNone then s else s.mark (Timer.frame sl i 0)
  if old.oom = new.oom then s else s.mark (Timer.frame sl i 1)

/-- `ODU_FRAME_RECEIVED`: a frame time of an OTUC instance (level 0 to 7) or of a tributary's ODU (8 + t) (R43, R256 to
R259). -/
def oduFrame (sl i : Nat) (f : OduFrame) (s : State) : State :=
  let used := if i < 8 then decide (i < s.otnN sl) else s.tribOn sl (i - 8)
  if s.otnMode sl = 0 ∨ !s.sliceHears sl ∨ !s.groupHears sl ∨ 16 ≤ i ∨ !used then s
  else
    let f := s.seenFrame sl i f
    let s := if i < 8 then fecFrame sl i f s else s
    let s := match f.gid with
      | some x => if i = 0 then gidFrame sl x s else s
      | none => s
    let v := s.levelAt sl i
    let r := levelStep (s.instanceApart sl i f) f v
    let s := noteAligned sl i v r.1 ((s.putLevel sl i r.1).addOb (otnIx sl) Sub.otn_FA_CAND_OVERFLOW 32 r.2)
    if v.pos.isNone || r.1.pos.isNone then s
    else if i < 8 then instanceFrame sl i v.mfas f s
    else tribFrame sl (i - 8) v.mfas f s

/-! ### Performance (R263, R264) -/

/-- A defect of this level stands, near-end or far-end (R263). -/
def State.levelDefect (s : State) (sl level : Nat) (far : Bool) : Bool :=
  match level with
  | 0 => if far then s.sliceDefect sl 3 else (s.ob (otnIx sl) Sub.otn_DEFECTS &&& 0xFFFF07) != 0
  | 1 => if far then s.sliceDefect sl 5 else s.sliceDefect sl 4 || s.sliceDefect sl 6
  | t + 2 => if far then s.tribDefect sl t 3 else (s.ob (tribIx sl t) Sub.trib_DEFECTS &&& 0x1F7) != 0

/-- Latch one level's counts into its objects, at an offset `o` of their subindexes (R263, R291). -/
def latchLevel (sl level ix o interval : Nat) (s : State) : State :=
  let c (k : Nat) : Nat := mget 0 s.otn.pm (skey sl (4 * level + k))
  let ds (far : Bool) : Nat := (decide (0 < c (if far then 3 else 2)) || s.levelDefect sl level far).toNat
  ((((((((s.put ix (Sub.tribPm_NE_EB_LAST + o) (c 0 % 2 ^ 32)).put ix (Sub.tribPm_FE_EB_LAST + o) (c 1 % 2 ^ 32)).put
    ix (Sub.tribPm_NE_DS_LAST + o) (ds false)).put ix (Sub.tribPm_FE_DS_LAST + o) (ds true)).addOb
    ix (Sub.tribPm_NE_EB_TOTAL + o) 64 (c 0)).addOb ix (Sub.tribPm_FE_EB_TOTAL + o) 64 (c 1)).addOb
    ix (Sub.tribPm_PM_SEQ + o) 32 1).put ix (Sub.tribPm_PM_INTERVAL_NS + o) interval)

/-- Latch a slice's performance objects: every count, of the levels in use and of the others (R263). -/
def latchSlice (interval : Nat) (s : State) (sl : Nat) : State :=
  (List.range 8).foldl (fun u t => latchLevel sl (2 + t) (tribPmIx sl t) 0 interval u)
    (latchLevel sl 1 (pmIx sl) 0x10 interval (latchLevel sl 0 (pmIx sl) 0 interval s))

/-- The seconds field of the local clock. -/
def State.seconds (s : State) : Nat := s.time.now / 2 ^ 32 / 10 ^ 9

/-- A one-second edge: every count is latched and restarts, and PPS_OUT takes its edge (R263, R317). -/
def secondEdge (stepped : Bool) (s : State) : State :=
  let s := ((List.range 4).filter s.sliceOn).foldl (latchSlice ((s.ns + 2 ^ 64 - s.otn.edge) % 2 ^ 64)) s
  State.ppsEdge stepped { s with otn := { s.otn with pm := [], edge := s.ns, second := s.seconds } }

/-- `ONE_SECOND_EDGE`: the seconds field has changed (R264). -/
def oneSecondEdge (s : State) : State := if s.seconds = s.otn.second then s else secondEdge false s

/-- `TIME_STEP_APPLY`: the step moves the clock, and the start of the interval with it; a change of the seconds field is
one edge (R264, R300). -/
def stepApply (s : State) : State :=
  match s.time.step with
  | none => s
  | some (op, arg) =>
    timeStepApply (secondEdge true)
      { s with otn := { s.otn with edge := ofInt 8 ((s.otn.edge : Int) + stepSize op arg s.time.now) } }

/-! ### Tributaries (R265 to R267) -/

/-- `TRIB_TYPE` and `TRIB_SLOTS` form a row of R265. -/
def tribRow (ty slots : Nat) : Bool := (ty == 0 && slots == 20) || (ty == 1 && decide (1 ≤ slots) && decide (slots ≤ 160))

/-- A handle is live and names a 256-bit key for a sealed ODU (R266, R294, R344). -/
def State.oduKey (s : State) (sl h : Nat) : Bool := s.oduLive sl h && (s.keyAt sl (handleIndex h)).long

/-- The checks of R266 before that of the key, in order, and that of R162. -/
def State.tribShape (s : State) (sl t : Nat) : Bool :=
  s.otnMode sl != 0
    && tribRow (s.ob (tribIx sl t) Sub.trib_TRIB_TYPE) (s.ob (tribIx sl t) Sub.trib_TRIB_SLOTS)
    && s.pageGives sl 0 (s.cmActive sl 0) t && s.pageGives sl 1 (s.cmActive sl 1) t
    && s.ob (ingressIx sl .open t) Sub.tmClient_HEADROOM_CELLS == 0

/-- The checks of R266, in order; `load` is a profile load, which leaves out that of the key (R475). -/
def State.tribCheck (s : State) (load : Bool) (sl t : Nat) : Bool :=
  s.tribShape sl t
    && (load || s.ob (tribIx sl t) Sub.trib_TRIB_MODE == 0 || s.oduKey sl (s.ob (soduIx sl t) Sub.sodu_TX_KEY_0))

/-- The MAC rate in units of 100 kbit/s (R265). -/
def tribRate (ty slots : Nat) : Nat := if ty = 0 then 1000000 else 50000 * slots

/-- What a tributary does not keep out of use: alignment, receive state, the frames that its mapper holds, what its ODU
carries, the tag due to be sent. -/
def State.tribClear (sl t : Nat) (s : State) : State :=
  ({ s with otn := { s.otn with
      level := merase s.otn.level (skey sl (8 + t))
      rx := merase s.otn.rx (skey sl t)
      mapping := merase s.otn.mapping (skey sl t)
      sending := merase s.otn.sending (skey sl t)
      sentTag := merase s.otn.sentTag (skey sl t) } } : State).put (soduIx sl t) Sub.sodu_RX_STATE 0
    |>.mark (Timer.frame sl (8 + t) 0) |>.mark (Timer.frame sl (8 + t) 1)

/-- The slice's tributaries are configured anew: the calendar of cipher slots is formed for those that are sealed, and stands
until the next change (R22). -/
def State.formCalendar (sl : Nat) (s : State) : State :=
  let sealed := (s.tribsOn sl).filter (fun t => s.ob (tribIx sl t) Sub.trib_TRIB_MODE != 0)
  { s with otn := { s.otn with calendar := mset [] s.otn.calendar sl (if sealed = [] then []
      else Config.calendar (sealed.map (fun t => (t, s.ob (tribIx sl t) Sub.trib_TRIB_SLOTS)))) } }

/-- A tributary's ODU carries ODU-AIS from here on (R267, R281). -/
def sendAis (sl t : Nat) (s : State) : State :=
  ({ s with otn := { s.otn with sending := merase s.otn.sending (skey sl t) } } : State).emit (.oduAis sl t)

/-- A tributary's ODU carries a multiframe (R273 to R275). -/
def sendOdu (sl t : Nat) (h : OduHead) (oh payload : Bytes) (s : State) : State :=
  ({ s with otn := { s.otn with sending := mset none s.otn.sending (skey sl t) (some (h, oh, payload)) } } : State).emit
    (.multiframe sl t h oh payload)

/-- Enable a tributary, by a write or by a profile load (R266, R267, R270, R475). -/
def tribStart (load : Bool) (sl t : Nat) (s : State) : State × Status :=
  if s.tribOn sl t then (s, .ok)
  else if (mfind s.otn.cmWait sl).isSome || s.blockHeld 3 sl || s.blockHeld 0 sl then (s, .busy)
  else if s.gated sl then (s, .notReady)
  else if !s.tribCheck load sl t then (s, .range)
  else
    let ty := s.ob (tribIx sl t) Sub.trib_TRIB_TYPE
    let k := s.ob (tribIx sl t) Sub.trib_TRIB_SLOTS
    let s := ((s.tribClear sl t).put (tribIx sl t) Sub.trib_TRIB_ENABLE 1).put (tribIx sl t) Sub.trib_MAC_RATE (tribRate ty k)
    let lx := Ix.timeLine (8 * sl + t)
    let kind := 0x100 + 16 * k + ty
    let s := (s.put lx Sub.timeClient_RX_LATENCY_NS (Config.latency 0 kind (s.carrierRate sl) 2 % 2 ^ 32)).put
      lx Sub.timeClient_TX_LATENCY_NS (Config.latency 1 kind (s.carrierRate sl) 2 % 2 ^ 32)
    let s := sendAis sl t (s.formCalendar sl)
    let s := if s.ob (tribIx sl t) Sub.trib_TRIB_MODE = 0 then s else setTribDefect sl t 6 true s
    (insertAis sl s, .ok)

/-- Disable a tributary: BUSY while its cue is counting (R288). The defects that stand are cleared, each with its event
(R260), and no frame that its mapper holds is kept for another protection (R2). -/
def tribStop (sl t : Nat) (s : State) : State × Status :=
  if !s.tribOn sl t then (s.put (tribIx sl t) Sub.trib_TRIB_ENABLE 0, .ok)
  else if Cue.state (s.tribCueAt sl t) = 3 then (s, .busy)
  else
    let s := (List.range 9).foldl (fun u b => noteDefect sl (some t) b false u) s
    let s := ((((s.tribClear sl t).put (tribIx sl t) Sub.trib_TRIB_ENABLE 0).put (tribIx sl t) Sub.trib_MAC_RATE 0).put
      (tribIx sl t) Sub.trib_DEFECTS 0).formCalendar sl
    (((s.tribClients sl t).filter s.portOn).foldl (fun u c => u.emitFill c) s, .ok)

/-- A write of `TRIB_ENABLE`. -/
def tribEnable (sl t v : Nat) (s : State) : State × Status := if v = 0 then tribStop sl t s else tribStart false sl t s

/-- The chapter's own part of a write to a tributary's controls (R266). -/
def tribWrite (sl t sub_ : Nat) (v : Val) (s : State) : State × Status :=
  match v with
  | .oct b => (s.putO (tribIx sl t) sub_ b, .ok)
  | .num n =>
    if sub_ = Sub.trib_TRIB_ENABLE then tribEnable sl t n s
    else if (sub_ = Sub.trib_TRIB_TYPE ∨ sub_ = Sub.trib_TRIB_SLOTS ∨ sub_ = Sub.trib_TRIB_MODE) ∧ s.tribOn sl t then
      (s, .busy)
    else (s.put (tribIx sl t) sub_ n, .ok)

/-- Any port or tributary of the slice is enabled (R290). -/
def State.anyInUse (s : State) (sl : Nat) : Bool :=
  (List.range 8).any (fun j => s.portOn (8 * sl + j) || s.portOn (0x40 + 8 * sl + j) || s.tribOn sl j)

/-- The slice's FlexO group has taken another form than it had in `was`: its carriers begin anew, and every line lane sends or
idles as R252 says. -/
def regrouped (sl : Nat) (was s : State) : State :=
  let t : State := { s with otn := { s.otn with tx := mdrop (fun k => k / 2 ^ 20 == sl) s.otn.tx, told := merase s.otn.told sl } }
  let t := (List.range 8).foldl (fun u i => (u.mark (Timer.frame sl i 0)).mark (Timer.frame sl i 1)) t
  (List.range 8).foldl (fun u j => (State.showLane was (0x40 + 8 * sl + j) u).settleLane (0x40 + 8 * sl + j)) t

/-- A write of `OTN_MODE` or `OTUC_N` takes its value (R252). -/
def regroup (sl sub_ n : Nat) (s : State) : State :=
  if s.ob (otnIx sl) sub_ = n then s else regrouped sl s (s.put (otnIx sl) sub_ n)

/-- The chapter's own part of a write to the slice controls (R252, R259, R290). -/
def otnWrite (sl sub_ : Nat) (v : Val) (s : State) : State × Status :=
  match v with
  | .oct b => (s.putO (otnIx sl) sub_ b, .ok)
  | .num n =>
    if sub_ = Sub.otn_OTN_MODE then
      (if s.anyInUse sl then (s, .busy)
       else if n = 1 ∧ !s.carrierOk sl (s.otnN sl) then (s, .range)
       else (regroup sl sub_ n s, .ok))
    else if sub_ = Sub.otn_OTUC_N then
      (if s.otnMode sl ≠ 0 ∧ !s.carrierOk sl n then (s, .range) else (regroup sl sub_ n s, .ok))
    else if sub_ = Sub.otn_TIM_ACT then
      (let s := insertAis sl (s.put (otnIx sl) sub_ n)
       ((s.tribsOn sl).foldl (fun u t => tsfUpdate sl t u) s, .ok))
    else (s.put (otnIx sl) sub_ n, .ok)

/-! ### The connection-memory window (R270, R271, R292) -/

/-- The window's slot exists (R268). -/
def State.cmSlotOk (s : State) (sl : Nat) : Bool := decide (s.ob (cmIx sl) Sub.cmWin_CM_SLOT < 20 * s.otnN sl)

/-- READ (R292). -/
def cmRead (sl : Nat) (s : State) : State × Status :=
  if !s.cmSlotOk sl then (s, .range)
  else (s.put (cmIx sl) Sub.cmWin_CM_ENTRY (s.cmEntry sl (s.ob (cmIx sl) Sub.cmWin_CM_DIR)
    (s.ob (cmIx sl) Sub.cmWin_CM_PAGE) (s.ob (cmIx sl) Sub.cmWin_CM_SLOT)), .ok)

/-- WRITE, of an entry of the standby page: BUSY where `CM_PAGE` names the active page, or a SWITCH of the memory waits (R268 to R271,
R292, log 109). -/
def cmWrite (sl : Nat) (s : State) : State × Status :=
  let dir := s.ob (cmIx sl) Sub.cmWin_CM_DIR
  let page := 1 - s.cmActive sl dir
  let e := s.ob (cmIx sl) Sub.cmWin_CM_ENTRY
  if !s.cmSlotOk sl ∨ bits e 11 8 ≠ 0 ∨ 159 < bits e 7 0 then (s, .range)
  else if mfind s.otn.cmWait sl = some dir ∨ s.ob (cmIx sl) Sub.cmWin_CM_PAGE ≠ page then (s, .busy)
  else ({ s with otn := { s.otn with
      cm := mset 0 s.otn.cm (skey sl ((2 * dir + page) * 256 + s.ob (cmIx sl) Sub.cmWin_CM_SLOT)) e } }, .ok)

/-- SWITCH: RANGE where the standby page breaks check 3 of R266 for an enabled tributary; otherwise it waits for its
boundary (R270). -/
def cmSwitch (sl : Nat) (s : State) : State × Option Status :=
  let dir := s.ob (cmIx sl) Sub.cmWin_CM_DIR
  if s.gated sl then (s, some .notReady)
  else if (s.tribsOn sl).all (fun t => s.pageGives sl dir (1 - s.cmActive sl dir) t) then
    ({ s with otn := { s.otn with cmWait := minsert s.otn.cmWait sl dir } }, none)
  else (s, some .range)

/-- `CM_SWITCH_APPLY`: the boundary has come and the standby page becomes active (R270, R272). -/
def cmSwitchApply (sl : Nat) (s : State) : State :=
  match mfind s.otn.cmWait sl with
  | none => s
  | some dir =>
    let a := s.ob (cmIx sl) Sub.cmWin_CM_ACTIVE
    let s := { s with otn := { s.otn with cmWait := merase s.otn.cmWait sl } }
    let s := (s.put (cmIx sl) Sub.cmWin_CM_ACTIVE (setBit a dir (!bit a dir))).winEnd (cmIx sl) Sub.cmWin_CM_STATUS .ok
    if dir = 1 then msimUpdate sl s else s

/-- A window operation by its code. -/
def cmOp (sl code : Nat) (s : State) : State × Option Status :=
  let lift (r : State × Status) : State × Option Status := (r.1, some r.2)
  match code with
  | 1 => lift (sliceOp sl (cmRead sl) s)
  | 2 => lift (sliceOp sl (cmWrite sl) s)
  | 3 => cmSwitch sl s
  | _ => (s, some .ok)

/-! ### The sealing overhead (R275 to R279) -/

/-- SCRC over the five octets of a frame's overhead (R278). -/
def scrc (b : Bytes) : Nat := b.foldl (crcByteM 8 0x07) 0

/-- A phase's objects in a context. -/
def State.txIndex (s : State) (sl t p : Nat) : Nat :=
  s.ob (soduIx sl t) (if p = 0 then Sub.sodu_TX_INDEX_0 else Sub.sodu_TX_INDEX_1)
def State.txEpoch (s : State) (sl t p : Nat) : Nat :=
  s.ob (soduIx sl t) (if p = 0 then Sub.sodu_TX_EPOCH_0 else Sub.sodu_TX_EPOCH_1)
def State.rxKey (s : State) (sl t p : Nat) : Nat :=
  s.ob (soduIx sl t) (if p = 0 then Sub.sodu_RX_KEY_0 else Sub.sodu_RX_KEY_1)
def State.rxIndex (s : State) (sl t p : Nat) : Nat :=
  s.ob (soduIx sl t) (if p = 0 then Sub.sodu_RX_INDEX_0 else Sub.sodu_RX_INDEX_1)

/-- The epoch word of a transmit phase: ROLE in bit 31 (R280). -/
def State.epochWord (s : State) (sl t p : Nat) : Nat :=
  s.ob (soduIx sl t) Sub.sodu_ROLE * 2 ^ 31 + s.txEpoch sl t p % 2 ^ 31

/-- A of a multiframe (R279). -/
def sealA (ctx : Nat) (h : MfHeader) : Bytes := be 4 ctx ++ be 1 h.index ++ be 1 h.phase ++ [0, 0] ++ be 8 h.mfn

/-- The IV of a multiframe (R279). -/
def sealIv (h : MfHeader) : Bytes := be 4 h.epoch ++ be 8 h.mfn

/-- The seal data word of a frame (R277). -/
def sdw (mfas : Nat) (tag : Bytes) (h : MfHeader) (next : Nat) : Bytes :=
  sub (tag ++ be 8 h.mfn ++ be 4 h.epoch ++ be 4 next ++ zeros 480) (2 * mfas) 2

/-- The six octets of one frame (R275, R276). -/
def sealFrame (mfas countdown nextIndex nextEpoch : Nat) (tag : Bytes) (h : MfHeader) : Bytes :=
  let b := be 1 (h.phase * 128 + countdown * 8 + 1) ++ be 1 h.index
    ++ be 1 (if countdown = 0 then 0 else nextIndex) ++ sdw mfas tag h (if countdown = 0 then 0 else nextEpoch)
  b ++ be 1 (scrc b)

/-- The sealing overhead of a multiframe's 256 frames. -/
def sealOverhead (countdown nextIndex nextEpoch : Nat) (tag : Bytes) (h : MfHeader) : Bytes :=
  (List.range 256).flatMap (fun m => sealFrame m countdown nextIndex nextEpoch tag h)

/-! ### Sealing a multiframe (R240 to R243, R280, R281) -/

/-- The countdown and the flip at a boundary, for a cue that is counting (R241, R243). -/
def cueBoundary (sl t : Nat) (s : State) : State :=
  let q := s.tribCueAt sl t
  let k := cueFlag sl true t
  let fired := s.cue.fired.contains k
  let ph := s.ob (soduIx sl t) Sub.sodu_TX_PHASE
  if Cue.state q ≠ 3 then s
  else if !s.cue.begun.contains (skey sl t) then
    { s with cue := { s.cue with begun := s.cue.begun ++ [skey sl t] } }.putTribCue sl t (setBits q 154 151 8)
  else if 1 < Cue.countdown q then s.putTribCue sl t (setBits q 154 151 (Cue.countdown q - 1))
  else
    let next := Cue.nextPhase q
    let live := s.oduLive sl (s.txKey sl t next)
    let s := { s with
      cue := { s.cue with begun := s.cue.begun.filter (· != skey sl t)
                          faulted := (s.cue.faulted.filter (· != skey sl t)) ++ (if live then [] else [skey sl t]) }
      otn := { s.otn with begun := s.otn.begun.filter (· != skey sl t) } }
    let s := ((s.putTribCue sl t (setBits (Cue.setState q 4) 154 151 0)).put (soduIx sl t) Sub.sodu_TX_PHASE next).addOb
      (cueIx sl) Sub.cue_CUES_FIRED 32 1
    if live then cueReport sl 7 0x0604 (Cue.late q) fired t ph next 0 (Cue.tag q) s
    else cueReport sl 8 0x0605 (Cue.late q) fired t ph next 0 (Cue.tag q) s

/-- The key value that a handle names and a 31-bit EPOCH, as the device notes them to keep them from meeting twice: the key by
its GHASH subkey (R280, log 110). -/
def State.epochPair (s : State) (sl h e : Nat) : Nat × Nat := ((s.keyAt sl (handleIndex h)).h, e % 2 ^ 31)

/-- MFN at a boundary: 0 in the first multiframe under a phase key, which the device notes with its EPOCH, one more in every
other (R280). A standby unit's follows the checkpoints, and the first multiframe after a takeover has the MFN that the takeover
advanced it to (R282). -/
def mfnBoundary (sl t : Nat) (s : State) : State :=
  if s.otn.begun.contains (skey sl t) then
    (if s.shadow then s
     else if s.otn.taken.contains (skey sl t) then
      { s with otn := { s.otn with taken := s.otn.taken.filter (· != skey sl t) } }
     else s.addOb (soduIx sl t) Sub.sodu_TX_MFN 64 1)
  else
    let ph := s.ob (soduIx sl t) Sub.sodu_TX_PHASE
    let p := s.epochPair sl (s.txKey sl t ph) (s.txEpoch sl t ph)
    { s with otn := { s.otn with
        begun := s.otn.begun ++ [skey sl t]
        taken := s.otn.taken.filter (· != skey sl t)
        epochs := if s.oduLive sl (s.txKey sl t ph) then s.otn.epochs.filter (· != p) ++ [p] else s.otn.epochs } }.put
      (soduIx sl t) Sub.sodu_TX_MFN 0

/-- The tag that the next multiframe carries. -/
def State.setSentTag (sl t : Nat) (b : Bytes) (s : State) : State :=
  { s with otn := { s.otn with sentTag := minsert s.otn.sentTag (skey sl t) b } }

/-- A multiframe that is not sealed: ODU-AIS. The tag that the next one carries is left open, a free value (log 3). -/
def aisMultiframe (sl t : Nat) (s : State) : State :=
  let r := (sendAis sl t s).takeFreeBytes 16
  r.2.setSentTag sl t r.1

/-- The octets of the OPU payload area in a multiframe: rows 1 to 4, columns 17 to 3,824, of 256 frames (R274). -/
def mfOctets : Nat := 256 * (4 * 3808)

/-- The OPU payload of a tributary's next multiframe, and the frames that its mapper then holds no more: its 64b/66b stream of
those frames and of idles, mapped as R265 says under the justification control `jc`. In a performance-point hold it is idle
fill alone (R32, R261, R265, log 111). -/
def State.mapOpu (s : State) (sl t jc : Nat) : Bytes × State :=
  let q := mget [] s.otn.mapping (skey sl t)
  let hold := s.pointHold sl && s.drained sl
  let r := s.takeFree
  ((List.range mfOctets).map (Config.opuByte (s.ob (tribIx sl t) Sub.trib_TRIB_TYPE) (s.ob (tribIx sl t) Sub.trib_TRIB_SLOTS)
      jc (if hold then [] else q) r.1),
   if hold then r.2 else { r.2 with otn := { r.2.otn with mapping := merase r.2.otn.mapping (skey sl t) } })

/-- The overhead that a tributary's ODU is sent with (R262, R273, R274). -/
def State.oduHead (s : State) (sl t jc : Nat) : OduHead :=
  ⟨s.oct (tribIx sl t) Sub.trib_TX_TTI, s.expectedPt sl t, jc⟩

/-- Seal one multiframe (R274 to R281). -/
def sealMultiframe (sl t jc : Nat) (payload : Bytes) (s : State) : State :=
  let ph := s.ob (soduIx sl t) Sub.sodu_TX_PHASE
  let live := s.oduLive sl (s.txKey sl t ph)
  let s := if live then s else s.bump (Ctr.port (0x40 + 8 * sl + t) + Ctr.SODU_TX_KEY_FAULT)
  if !live || s.held || s.cue.faulted.contains (skey sl t) then aisMultiframe sl t s
  else
    let k := s.keyAt sl (handleIndex (s.txKey sl t ph))
    let q := s.tribCueAt sl t
    let h : MfHeader := ⟨s.ob (soduIx sl t) Sub.sodu_TX_MFN, ph, s.txIndex sl t ph, s.epochWord sl t ph⟩
    let c := gcmCrypt k.octets (sealIv h) payload
    let oh := sealOverhead (Cue.countdown q) (Cue.nextIndex q) (s.epochWord sl t (1 - ph))
      (mget (zeros 16) s.otn.sentTag (skey sl t)) h
    (sendOdu sl t (s.oduHead sl t jc) oh c s).setSentTag sl t
      (gcmTag k.octets k.h (sealIv h) (sealA (s.ob (soduIx sl t) Sub.sodu_CONTEXT_ID) h) c)

/-- Near-end loops on the group turn the frames of a multiframe around, which the tributary's receiver takes where no performance-point
hold kept them in the mapper (R32, R48). A sealed tributary's loop carries its own ROLE, so that its receiver delivers nothing
(R259). -/
def turnFrames (sl t : Nat) (l : List (Bytes × Bool)) (s : State) : State :=
  if s.otnLoop sl && mget [] s.otn.mapping (skey sl t) == [] then
    l.foldl (fun u x => u.loopBack (0x40 + 8 * sl + t) x.1 x.2) s
  else s

/-- What a tributary's ODU carries from a boundary on: its mapper's payload, in the clear or sealed by `TRIB_MODE`, or ODU-AIS
(R32, R273, R281). -/
def sendMultiframe (sl t jc : Nat) (s : State) : State :=
  if s.ob (tribIx sl t) Sub.trib_TRIB_MODE = 0 then
    (if s.held then sendAis sl t s
     else
      let r := s.mapOpu sl t jc
      turnFrames sl t (mget [] s.otn.mapping (skey sl t)) (sendOdu sl t (r.2.oduHead sl t jc) (zeros 1536) r.1 r.2))
  else
    let r := s.mapOpu sl t jc
    sealMultiframe sl t jc r.1 r.2

/-- `MULTIFRAME_BOUNDARY`: a multiframe of an enabled tributary begins on the transmit side; `jc` is the justification of its
mapping, which follows the client clock (R241, R267, R274, R280, R281). A standby unit sends nothing (R422). -/
def multiframeBoundary (sl t jc : Nat) (s : State) : State :=
  if !s.tribOn sl t || !s.sliceRuns sl || s.blockHeld 3 sl then s
  else if s.ob (tribIx sl t) Sub.trib_TRIB_MODE = 0 then
    (if s.standby then s else sendMultiframe sl t jc s)
  else if s.shadow then mfnBoundary sl t s
  else
    let flipping := Cue.state (s.tribCueAt sl t) == 3
    let s := mfnBoundary sl t (cueBoundary sl t s)
    let s := if flipping && Cue.state (s.tribCueAt sl t) == 4 then cueSync sl (s.recordTrib sl t) s else s
    if s.standby then s else sendMultiframe sl t jc s

/-! ### Opening (R283 to R287) -/

/-- The overhead octets of a frame whose SCRC is good (R278). -/
def goodFrame (oh : Bytes) (m : Nat) : Option Bytes :=
  let b := sub oh (6 * m) 6
  if b.length = 6 ∧ fld b 5 1 = scrc (b.take 5) then some b else none

/-- Consecutive seal data words, where every frame is good. -/
def sdwRange (oh : Bytes) (m n : Nat) : Option Bytes :=
  (List.range n).foldl (fun a k => a.bind (fun x => (goodFrame oh (m + k)).map (fun b => x ++ sub b 3 2))) (some [])

/-- The first good frame's overhead. -/
def anyFrame (oh : Bytes) : Option Bytes := (List.range 256).findSome? (goodFrame oh)

/-- What a received multiframe's overhead tells (R283). -/
structure MfRead where
  scb : Option Nat
  index : Option Nat
  next : Option Nat
  mfn : Option Nat
  epoch : Option Nat
  nextEpoch : Option Nat

/-- Read a multiframe's overhead. -/
def mfRead (oh : Bytes) : MfRead :=
  let f := anyFrame oh
  { scb := f.map (fun b => fld b 0 1), index := f.map (fun b => fld b 1 1), next := f.map (fun b => fld b 2 1)
    mfn := (sdwRange oh 8 4).map num, epoch := (sdwRange oh 12 2).map num, nextEpoch := (sdwRange oh 14 2).map num }

/-- A whole header: FORMAT = 0b01, a good MFN and a good epoch word (R283). -/
def MfRead.header (r : MfRead) : Option MfHeader :=
  match r.scb, r.index, r.mfn, r.epoch with
  | some c, some i, some m, some e => if c % 4 = 1 then some ⟨m, bits c 7 7, i, e⟩ else none
  | _, _, _, _ => none

/-- Something that was received differs from what was expected (R283). -/
def MfRead.differs (r : MfRead) (h : MfHeader) : Bool :=
  let ne (o : Option Nat) (x : Nat) : Bool := o.any (fun v => v != x)
  ne r.mfn h.mfn || ne (r.scb.map (fun c => bits c 7 7)) h.phase || ne r.index h.index || ne r.epoch h.epoch

/-- The counter of a tributary's outcome. -/
def soduBump (sl t c : Nat) (s : State) : State := s.bump (Ctr.port (0x40 + 8 * sl + t) + c)

/-- Move the receive state; SLOK stands while it is not LOCKED (R259). -/
def State.setRxState (sl t v : Nat) (s : State) : State :=
  setTribDefect sl t 6 (v != 2) (s.put (soduIx sl t) Sub.sodu_RX_STATE v)

/-- Back to SEARCH. -/
def rxSearch (sl t : Nat) (s : State) : State :=
  (s.putRx sl t { s.rxAt sl t with head := none, ann := none }).setRxState sl t 0

/-- A multiframe becomes the candidate (R283). -/
def rxCandidate (sl t : Nat) (h : Option MfHeader) (s : State) : State :=
  match h with
  | none => rxSearch sl t s
  | some h => (s.putRx sl t { s.rxAt sl t with head := some h, ann := none }).setRxState sl t 1

/-- R284 refuses a candidate whose epoch word and MFN do not exceed the record of its phase. -/
def State.replayed (s : State) (sl t : Nat) (h : MfHeader) : Bool :=
  let r := s.oct (soduIx sl t) Sub.sodu_RX_LAST_GOOD
  s.otn.good.contains (skey sl (2 * t + h.phase)) && decide (h.epoch * 2 ^ 64 + h.mfn ≤ fld r (12 * h.phase) 12)

/-- CONFIRM: the next multiframe confirms the candidate, or becomes it (R283, R284). -/
def rxConfirm (sl t : Nat) (r : MfRead) (s : State) : State :=
  match (s.rxAt sl t).head, r.header with
  | some c, some h =>
    if h.mfn = (c.mfn + 1) % 2 ^ 64 ∧ h.phase = c.phase ∧ h.index = c.index then
      (if s.replayed sl t c then rxCandidate sl t (some h) (soduBump sl t Ctr.SODU_REPLAY s)
       else if h.epoch / 2 ^ 31 = s.ob (soduIx sl t) Sub.sodu_ROLE then rxCandidate sl t (some h) s
       else ((s.putRx sl t { s.rxAt sl t with head := some { h with mfn := (h.mfn + 1) % 2 ^ 64 }, ann := none }).put
          (soduIx sl t) Sub.sodu_RX_PHASE h.phase).setRxState sl t 2)
    else rxCandidate sl t (some h) s
  | _, h => rxCandidate sl t h s

/-- LOCKED: the multiframe follows the expected one, or a tributary cue is followed (R285). -/
def rxFollow (sl t : Nat) (h : MfHeader) (r : MfRead) (s : State) : State :=
  let v := s.rxAt sl t
  let other := 1 - h.phase
  let count := (r.scb.map (fun c => bits c 6 3)).getD 0
  let old := if count = 0 then none else v.ann
  let ann := match r.next, r.nextEpoch with
    | some i, some e => if count = 0 then none else some (i, e, i == s.rxIndex sl t other)
    | _, _ => old
  let wrong := match old, ann with
    | none, some (_, _, ok) => !ok
    | _, _ => false
  let s := if wrong then soduBump sl t Ctr.SODU_KEY_MISMATCH s else s
  if count ≠ 1 then s.putRx sl t { v with head := some { h with mfn := (h.mfn + 1) % 2 ^ 64 }, ann := ann }
  else match ann with
    | some (i, e, true) =>
      (s.putRx sl t { v with head := some ⟨0, other, i, e⟩, ann := none }).put (soduIx sl t) Sub.sodu_RX_PHASE other
    | _ => rxSearch sl t s

/-- The header of a received multiframe moves the receive state (R283 to R285). -/
def rxHeader (sl t : Nat) (r : MfRead) (s : State) : State :=
  let role := s.ob (soduIx sl t) Sub.sodu_ROLE
  let s := match r.epoch with
    | some e => setTribDefect sl t 8 (e / 2 ^ 31 == role) s
    | none => s
  let stray := r.index.any (fun i => i != s.rxIndex sl t 0 && i != s.rxIndex sl t 1)
  if stray then rxSearch sl t (soduBump sl t Ctr.SODU_KEY_MISMATCH s)
  else match s.ob (soduIx sl t) Sub.sodu_RX_STATE, (s.rxAt sl t).head with
    | 1, _ => rxConfirm sl t r s
    | 2, some h =>
      if r.differs h then rxCandidate sl t r.header (soduBump sl t Ctr.SODU_MFN_JUMP s) else rxFollow sl t h r s
    | _, _ => rxCandidate sl t r.header s

/-- A failed or lost tag counts toward the TAG defect (R286). -/
def tagFailed (sl t : Nat) (s : State) : State :=
  let v := s.rxAt sl t
  let s := s.putRx sl t { v with fails := min 16 (v.fails + 1), passes := 0 }
  if s.ob (soduIx sl t) Sub.sodu_TAG_FAIL_LIMIT ≤ v.fails + 1 then setTribDefect sl t 7 true s else s

/-- A good tag counts toward its end, and the record of R284 is updated (R286, R287). -/
def tagPassed (sl t : Nat) (h : MfHeader) (s : State) : State :=
  let v := s.rxAt sl t
  let s := s.putRx sl t { v with fails := 0, passes := min 16 (v.passes + 1) }
  let g := skey sl (2 * t + h.phase)
  let s := { s with otn := { s.otn with good := s.otn.good.filter (· != g) ++ [g] } }
  let s := s.putO (soduIx sl t) Sub.sodu_RX_LAST_GOOD
    (patch (s.oct (soduIx sl t) Sub.sodu_RX_LAST_GOOD) (12 * h.phase) (sealIv h))
  if s.ob (soduIx sl t) Sub.sodu_TAG_GOOD_CLEAR ≤ v.passes + 1 then setTribDefect sl t 7 false s else s

/-- `SODU_TAG_CHECK`: MFAS 7 of the multiframe after one that was opened has been received; `oh` is the overhead of its
first eight frames (R286, R287). -/
def tagCheck (sl t : Nat) (oh : Bytes) (s : State) : State :=
  match (s.rxAt sl t).due with
  | none => s
  | some (h, tag) =>
    let s := s.putRx sl t { s.rxAt sl t with due := none }
    match sdwRange oh 0 8 with
    | none => tagFailed sl t (soduBump sl t Ctr.SODU_TAG_LOST s)
    | some b =>
      if b = tag then tagPassed sl t h (soduBump sl t Ctr.SODU_MF_OK s)
      else tagFailed sl t (soduBump sl t Ctr.SODU_TAG_FAIL s)

/-- Open the payload of a multiframe in LOCKED: none when the phase's key is not live (R287). -/
def openMultiframe (sl t : Nat) (h : MfHeader) (c : Bytes) (s : State) : Option State :=
  let hd := s.rxKey sl t h.phase
  if !s.oduLive sl hd then none
  else
    let k := s.keyAt sl (handleIndex hd)
    let s := if s.tsf sl t then s else s.emit (.demapped sl t (gcmCrypt k.octets (sealIv h) c))
    some (s.putRx sl t { s.rxAt sl t with
      due := some (h, gcmTag k.octets k.h (sealIv h) (sealA (s.ob (soduIx sl t) Sub.sodu_CONTEXT_ID) h) c) })

/-- The sealing overhead and the payload that a tributary's receiver sees: from the pins, or what its own transmitter sends where
near-end loops turn the group around, all ones for ODU-AIS (R48, R259, log 134). -/
def State.seenOverhead (s : State) (sl t : Nat) (oh : Bytes) : Bytes :=
  if s.nearLoop (0x40 + 8 * sl + t) then
    (match mget none s.otn.sending (skey sl t) with
     | some (_, own, _) => if s.otnLoop sl then own else []
     | none => List.replicate 1536 (byte 0xFF))
  else oh
def State.seenPayload (s : State) (sl t : Nat) (c : Bytes) : Bytes :=
  if s.nearLoop (0x40 + 8 * sl + t) then
    (match mget none s.otn.sending (skey sl t) with
     | some (_, _, own) => own
     | none => List.replicate mfOctets (byte 0xFF))
  else c

/-- `SODU_MULTIFRAME_RECEIVED`: a multiframe of a sealed tributary has been received, with its overhead and its payload
(R283 to R287). A tag still due is checked with its first frames. -/
def soduReceived (sl t : Nat) (oh c : Bytes) (s : State) : State :=
  if !s.tribOn sl t || !s.sliceHears sl || !s.groupHears sl || s.blockHeld 3 sl || s.ob (tribIx sl t) Sub.trib_TRIB_MODE == 0 then s
  else
    let oh := s.seenOverhead sl t oh
    let c := s.seenPayload sl t c
    let s := tagCheck sl t (oh.take 48) s
    match s.ob (soduIx sl t) Sub.sodu_RX_STATE, (s.rxAt sl t).head with
    | 2, some h =>
      match openMultiframe sl t h c s with
      | some s => rxHeader sl t (mfRead oh) s
      | none => rxSearch sl t (soduBump sl t Ctr.SODU_RX_KEY_FAULT s)
    | _, _ => rxHeader sl t (mfRead oh) (soduBump sl t Ctr.SODU_UNLOCKED_MF s)

/-- `SODU_TAG_CHECK` of a tributary in use. -/
def soduTagCheck (sl t : Nat) (oh : Bytes) (s : State) : State :=
  if s.tribOn sl t && s.sliceHears sl && s.groupHears sl then tagCheck sl t ((s.seenOverhead sl t oh).take 48) s else s

/-! ### Writes of a context (R288, R294) -/

/-- The handle is the key of an SA, or of another context's transmit phase (R294). -/
def State.oduHandleTaken (s : State) (sl t h : Nat) : Bool :=
  decide ((s.keyAt sl (handleIndex h)).refs ≠ 0)
    || (List.range 8).any (fun k => k != t && (s.txKey sl k 0 == h || s.txKey sl k 1 == h))

/-- R288: the write finds the phase in use, the cue counting, or the receiver locked. -/
def State.soduBusy (s : State) (sl t sub_ : Nat) : Bool :=
  let ph := s.ob (soduIx sl t) Sub.sodu_TX_PHASE
  let txp (a b : Nat) (p : Nat) : Bool := sub_ == (if p = 0 then a else b)
  let tx (p : Nat) : Bool := txp Sub.sodu_TX_KEY_0 Sub.sodu_TX_KEY_1 p || txp Sub.sodu_TX_INDEX_0 Sub.sodu_TX_INDEX_1 p
    || txp Sub.sodu_TX_EPOCH_0 Sub.sodu_TX_EPOCH_1 p
  (tx ph && s.tribOn sl t) || (tx (1 - ph) && Cue.state (s.tribCueAt sl t) == 3)
    || (s.ob (soduIx sl t) Sub.sodu_RX_STATE == 2
      && txp Sub.sodu_RX_KEY_0 Sub.sodu_RX_KEY_1 (s.ob (soduIx sl t) Sub.sodu_RX_PHASE))

/-- The subindex holds a handle, and of which receive phase. -/
def isTxKey (sub_ : Nat) : Bool := sub_ == Sub.sodu_TX_KEY_0 || sub_ == Sub.sodu_TX_KEY_1
def isRxKey (sub_ : Nat) : Bool := sub_ == Sub.sodu_RX_KEY_0 || sub_ == Sub.sodu_RX_KEY_1

/-- A new handle takes the place of the old one, whose entry is let go where nothing else names it (R130). -/
def soduPutKey (sl t sub_ h : Nat) (s : State) : State :=
  let old := s.ob (soduIx sl t) sub_
  let s := s.put (soduIx sl t) sub_ h
  if handleSlice old = sl then heldRelease sl (handleIndex old) s else s

/-- The subindex holds an EPOCH. -/
def isTxEpoch (sub_ : Nat) : Bool := sub_ == Sub.sodu_TX_EPOCH_0 || sub_ == Sub.sodu_TX_EPOCH_1

/-- The key value and EPOCH that stand in a transmit phase, where its key is live. -/
def State.phasePair (s : State) (sl t p : Nat) : Option (Nat × Nat) :=
  if s.oduLive sl (s.txKey sl t p) then some (s.epochPair sl (s.txKey sl t p) (s.txEpoch sl t p)) else none

/-- The transmit phases of every context of the part: slice, tributary, phase. -/
def txPhases : List (Nat × Nat × Nat) :=
  (List.range 64).map (fun k => (k / 16, k / 2 % 8, k % 2))

/-- R280's check of a write: a transmit phase would take a key value with an EPOCH that has been given to it before, in this context or
another, or that it has sealed with. What stands in the phase already is not given anew (log 110). -/
def State.epochUsed (s : State) (sl t sub_ n : Nat) : Bool :=
  let p := if sub_ = Sub.sodu_TX_KEY_1 ∨ sub_ = Sub.sodu_TX_EPOCH_1 then 1 else 0
  let used (x : Nat × Nat) : Bool :=
    s.otn.epochs.contains x || (s.phasePair sl t p != some x && (s.otn.given.contains x
      || txPhases.any (fun k => k != (sl, t, p) && s.phasePair k.1 k.2.1 k.2.2 == some x)))
  if isTxKey sub_ then used (s.epochPair sl n (s.txEpoch sl t p))
  else isTxEpoch sub_ && s.oduLive sl (s.txKey sl t p) && used (s.epochPair sl (s.txKey sl t p) n)

/-- The pair that a write has put into a transmit phase is noted: by a write of `EPOCH`, or of a key beside an `EPOCH` other than the
default 0, which nothing has given (R280, log 110). -/
def noteGiven (sl t sub_ : Nat) (s : State) : State :=
  let p := if sub_ = Sub.sodu_TX_KEY_1 ∨ sub_ = Sub.sodu_TX_EPOCH_1 then 1 else 0
  match s.phasePair sl t p with
  | some x =>
    if (isTxEpoch sub_ || (isTxKey sub_ && x.2 != 0)) && !s.otn.given.contains x then
      { s with otn := { s.otn with given := s.otn.given ++ [x] } }
    else s
  | none => s

/-- The chapter's own part of a write to a sealed-ODU context (R280, R284, R288, R294). -/
def soduSet (sl t sub_ : Nat) (v : Val) (s : State) : State × Status :=
  match v with
  | .oct _ => (s, .range)
  | .num n =>
    if s.soduBusy sl t sub_ then (s, .busy)
    else if isTxKey sub_ || isRxKey sub_ then
      (if !s.oduKey sl n || s.oduHandleTaken sl t n || s.epochUsed sl t sub_ n then (s, .range)
       else
        let s := soduPutKey sl t sub_ n s
        if isTxKey sub_ then
          let s := if sub_ = Sub.sodu_TX_KEY_0 ↔ s.ob (soduIx sl t) Sub.sodu_TX_PHASE = 0 then
              { s with otn := { s.otn with begun := s.otn.begun.filter (· != skey sl t) } } else s
          (tribCueTest sl t (noteGiven sl t sub_ s), .ok)
        else
          let p := if sub_ = Sub.sodu_RX_KEY_0 then 0 else 1
          let s := { s with otn := { s.otn with good := s.otn.good.filter (· != skey sl (2 * t + p)) } }
          (s.putO (soduIx sl t) Sub.sodu_RX_LAST_GOOD
            (patch (s.oct (soduIx sl t) Sub.sodu_RX_LAST_GOOD) (12 * p) (zeros 12)), .ok))
    else if s.epochUsed sl t sub_ n then (s, .range)
    else (noteGiven sl t sub_ (s.put (soduIx sl t) sub_ n), .ok)

/-- A write to a sealed-ODU context, which is mirrored (R427). -/
def soduWrite (sl t sub_ : Nat) (v : Val) (s : State) : State × Status :=
  let r := soduSet sl t sub_ v s
  (if r.2 = .ok then mirror (.write (soduIx sl t) sub_ v) r.1 else r.1, r.2)

/-! ### The commands -/

/-- `ODU_FRAME_RECEIVED` (R257). -/
def execOduFrameReceived (sl i : Nat) (f : OduFrame) (s : State) : Out := .next (oduFrame sl i f s)

/-- `BLOCK_LOCK_CHANGE` (R254). -/
def execBlockLockChange (sl lane : Nat) (heads : List Bool) (skew : Nat) (s : State) : Out :=
  .next (blockLock sl lane heads skew s)

/-- `OTN_DEFECT_DECLARE` (R259). -/
def execOtnDefectDeclare (sl : Nat) (trib : Option Nat) (b : Nat) (s : State) : Out :=
  .next (defectPersisted sl trib b true s)

/-- `OTN_DEFECT_CLEAR` (R259). -/
def execOtnDefectClear (sl : Nat) (trib : Option Nat) (b : Nat) (s : State) : Out :=
  .next (defectPersisted sl trib b false s)

/-- `ONE_SECOND_EDGE` (R264). -/
def execOneSecondEdge (s : State) : Out := .next (oneSecondEdge s)

/-- `TIME_STEP_APPLY` (R300). -/
def execTimeStepApply (s : State) : Out := .next (stepApply s)

/-- `TRIB_ENABLE` (R266). -/
def execTribEnable (c : Caller) (sl t v : Nat) (s : State) : Out :=
  .next (rowWrite c (tribIx sl t) Sub.trib_TRIB_ENABLE (.num v) (tribEnable sl t v) s)

/-- `MULTIFRAME_BOUNDARY` (R280). -/
def execMultiframeBoundary (sl t jc : Nat) (s : State) : Out := .next (multiframeBoundary sl t jc s)

/-- `SODU_MULTIFRAME_RECEIVED` (R283). -/
def execSoduMultiframeReceived (sl t : Nat) (oh c : Bytes) (s : State) : Out := .next (soduReceived sl t oh c s)

/-- `SODU_TAG_CHECK` (R286). -/
def execSoduTagCheck (sl t : Nat) (oh : Bytes) (s : State) : Out := .next (soduTagCheck sl t oh s)

/-- A row of the connection-memory window. -/
def rowCm (c : Caller) (sl code : Nat) (s : State) : State :=
  rowWindowStart c (cmIx sl) Sub.cmWin_CM_OP Sub.cmWin_CM_STATUS code (cmOp sl code) s

/-- `CM_READ` (R292). -/
def execCmRead (c : Caller) (sl : Nat) (s : State) : Out := .next (rowCm c sl 1 s)

/-- `CM_WRITE` (R271). -/
def execCmWrite (c : Caller) (sl : Nat) (s : State) : Out := .next (rowCm c sl 2 s)

/-- `CM_SWITCH` (R270). -/
def execCmSwitch (c : Caller) (sl : Nat) (s : State) : Out := .next (rowCm c sl 3 s)

/-- `CM_SWITCH_APPLY` (R270). -/
def execCmSwitchApply (sl : Nat) (s : State) : Out := .next (cmSwitchApply sl s)

end Sys2Proof.Machine
end

