-- ==== Sys2Proof/Machine/Carrier.lean ====
section
/-! DEFINITION. The line carriers of an OTN slice (R251 to R255): the blocks that each instance's stream is sent in, their
order on the carrier's lanes, and their scrambler. -/

namespace Sys2Proof.Machine

/-! ### The scrambler (R253) -/

/-- One bit through the self-synchronising scrambler x^58 + x^39 + 1: the bit sent is the payload's, added to the bits sent 39
and 58 places before (R253). Answers the last 58 bits sent, the newest lowest, and the bit. -/
def scrambleBit (st : Nat) (x : Bool) : Nat × Bool :=
  let o := (x ^^ bit st 38) ^^ bit st 57
  ((2 * st + o.toNat) % 2 ^ 58, o)

/-- One octet, its lowest bit first (log 112). -/
def scrambleOctet (st : Nat) (x : Byte) : Nat × Byte :=
  let r := (List.range 8).foldl (fun (a : Nat × Nat) k =>
    let b := scrambleBit a.1 (bit x.toNat k)
    (b.1, a.2 + b.2.toNat * 2 ^ k)) (st, 0)
  (r.1, byte r.2)

/-- The octets of a payload, in turn. -/
def scramble (st : Nat) : Bytes → Nat × Bytes
  | [] => (st, [])
  | x :: r =>
    let a := scrambleOctet st x
    let b := scramble a.1 r
    (b.1, a.2 :: b.2)

/-! ### Blocks (R253 to R255) -/

/-- The payload of a marker: lane within the carrier and instance number (R253). -/
def markerPayload (lane inst : Nat) : Bytes := be 1 0xA5 ++ be 1 lane ++ be 2 inst ++ List.replicate 28 (byte 0x5A)

/-- What of an instance's stream comes to wait while one block is sent, at 111.81 and 212.5 Gbit/s, and a word of 256 bits, in
units of 1/21,250 bit (R251, R252, R255). -/
def waitStep : Nat := 258 * 11181
def waitWord : Nat := 256 * 21250

/-- The next block of a carrier of `k` lanes that carries instance `inst`, whose stream's words are `word`: in turn on its
lanes from lane 0, a marker in place of every 16,384th block of a lane, else a data block where 256 bits wait and a fill block
where they do not (R253 to R255). Answers the carrier, the lane within it, the header and the payload sent. -/
def Carrier.next (k inst : Nat) (word : Nat → Bytes) (c : Carrier) : Carrier × Nat × Nat × Bytes :=
  let lane := c.place % k
  let due := c.due + waitStep
  let marker := c.place / k == 16383
  let c := { c with place := (c.place + 1) % (16384 * k), due := due }
  if marker then (c, lane, 2, markerPayload lane inst)
  else if waitWord ≤ due then
    let r := scramble c.scram (word c.words)
    ({ c with due := due - waitWord, words := c.words + 1, scram := r.1 }, lane, 1, r.2)
  else
    let r := scramble c.scram (zeros 32)
    ({ c with scram := r.1 }, lane, 2, r.2)

/-! ### What the instances carry -/

/-- The overhead of the OTUCn that a slice sends (R251, R262, R269, R272). -/
def State.otucHead (s : State) (sl : Nat) : OtucHead :=
  { gid := s.ob (otnIx sl) Sub.otn_FLEXO_GID, n := s.otnN sl, tti := s.oct (otnIx sl) Sub.otn_TX_TTI
    msi := s.pageMsi sl 0, slots := (List.range 8).map (fun t => if s.tribOn sl t then s.tribSlots sl 0 t else []) }

/-- What each tributary's ODU carries, with its slots in ascending ORDER (R269), its BDI and BEI (R259, R261): nothing listed for
ODU-AIS, which a response of HOLD or above puts into all (R288). -/
def State.oduCarried (s : State) (sl : Nat) : List (List Nat × List Nat × Bytes × Bytes) :=
  (s.tribsOn sl).map (fun t => match if s.held then none else mget none s.otn.sending (skey sl t) with
    | some (h, oh, p) => (s.tribSlots sl 0 t, [h.pt, h.jc, (s.bdiSent sl (2 + t)).toNat, mget 0 s.otn.bei (skey sl (2 + t))],
        h.tti ++ oh, p)
    | none => (s.tribSlots sl 0 t, [], [], []))

/-- A word of 256 bits of the FlexO bit stream of an instance (R251). -/
def State.flexoWord (s : State) (sl inst w : Nat) : Bytes :=
  let h := s.otucHead sl
  (List.range 32).map (Config.flexoByte
    ([h.gid, h.n, (s.bdiSent sl 0).toNat, mget 0 s.otn.bei (skey sl (16 + inst)), (s.bdiSent sl 1).toNat,
      mget 0 s.otn.bei (skey sl (32 + inst))] ++ h.msi) h.tti (s.oduCarried sl) inst w)

/-- A group lane's pins carry its carrier's blocks: it is not idle, its transmitter is ACTIVE, and no pattern or far-end loop
replaces them (R32, R47, R50 to R52). -/
def State.carries (s : State) (m : Nat) : Bool := s.laneFill m == .carrier

/-- One block of an instance's carrier: it is put out where its lane carries blocks. -/
def sendBlock (sl inst k : Nat) (s : State) : State :=
  let r := (mget {} s.otn.tx (skey sl inst)).next k inst (s.flexoWord sl inst)
  let m := 0x40 + 8 * sl + k * inst + r.2.1
  let s := { s with otn := { s.otn with tx := mset {} s.otn.tx (skey sl inst) r.1 } }
  if s.carries m then s.emit (.block m r.2.2.1 r.2.2.2) else s

/-- Some blocks of an instance's carrier, in turn. -/
def sendBlocks (sl inst k : Nat) : Nat → State → State
  | 0, s => s
  | n + 1, s => sendBlocks sl inst k n (sendBlock sl inst k s)

/-- One period of 8 ns of an instance's carrier: 1,700 bits of line time, in blocks of 258 bits (R252, R253). -/
def carryInstance (sl k : Nat) (s : State) (inst : Nat) : State :=
  let c := mget {} s.otn.tx (skey sl inst)
  let n := c.line + 1700
  sendBlocks sl inst k (n / 258)
    { s with otn := { s.otn with tx := mset {} s.otn.tx (skey sl inst) { c with line := n % 258 } } }

/-- One period of a slice's OTUCn: its overhead is shown where it changed, and every instance is sent (R251, R253). -/
def carrySlice (s : State) (sl : Nat) : State :=
  match carrierK (s.carrierRate sl) with
  | some k =>
    if s.otnMode sl = 0 ∨ s.sliceIdle sl ∨ s.blockHeld 3 sl then s
    else
      let h := s.otucHead sl
      let s := if mfind s.otn.told sl = some h then s
        else ({ s with otn := { s.otn with told := minsert s.otn.told sl h } } : State).emit (.otuc sl h)
      (List.range (s.otnN sl)).foldl (carryInstance sl k) s
  | none => s

/-- While a response of HOLD or above is in force, and on a standby unit, no tributary carries a multiframe: ODU-AIS lasts until the
next boundary at which one is sent (R288, R422, R433). -/
def State.stopCarried (s : State) : State :=
  if s.held || s.standby then { s with otn := { s.otn with sending := [] } } else s

/-- One period of every OTN slice's line side. -/
def State.carry (s : State) : State := (List.range 4).foldl carrySlice s.stopCarried

end Sys2Proof.Machine
end

