-- ==== Sys2Proof/Machine/Alarm.lean ====
section
/-! DEFINITION. Tamper, environment and alarm responses (chapter 16): the sampler, the monitors, the classes, the
response logic, the always-on log and the alarm window. What a response does to keys, sessions and tables it takes as
an argument, from the file that joins all chapters. -/

namespace Sys2Proof.Machine

/-- The class set for a source (R546, R547). -/
def State.srcClass (s : State) (src : Nat) : Nat := s.ob (0x4D00 + src) Sub.source_SRC_CLASS

/-- The maintenance window is open (R556). -/
def State.maintOpen (s : State) : Bool := s.alm.maintEnd.isSome

/-- The class at which a source acts: SIGNAL for a case switch raised in a maintenance window (R556). -/
def State.actAs (s : State) (src : Nat) (maint : Bool) : Nat :=
  if maint && (src == 1 || src == 2) then 1 else s.srcClass src

/-- The class at which a source acts now. -/
def State.actClass (s : State) (src : Nat) : Nat := s.actAs src s.maintOpen

/-- The STATE field of an always-on record (R559). -/
def State.recordState (s : State) : Nat :=
  if s.pwr.vigil then 3 else if s.rst.gap then 4 else s.ob 0x0400 Sub.power_PWR_STATE

/-- A 16-octet always-on record (R559). -/
def aoRecord (seq src cls response state flags aoTime detail : Nat) : Bytes :=
  be 2 seq ++ be 1 src ++ be 1 cls ++ be 1 response ++ be 1 state ++ be 1 flags ++ [0] ++ be 6 aoTime ++ be 2 detail

/-- Write one always-on record: the 65th overwrites the oldest (R558). -/
def State.aoWrite (src cls response flags detail : Nat) (s : State) : State :=
  let r := aoRecord s.alm.seq src cls response s.recordState flags s.alm.aoTime detail
  let full := decide (64 ≤ s.alm.log.length)
  let log := if full then merase s.alm.log ((s.alm.seq + 2 ^ 16 - 64) % 2 ^ 16) else s.alm.log
  let s := { s with alm := { s.alm with log := minsert log s.alm.seq r, seq := (s.alm.seq + 1) % 2 ^ 16 } }
  if full then s.addOb 0x4C00 Sub.alarm_AO_LOG_LOST 32 1 else s

/-- Insert a raised source in ascending order of source number (R550). -/
def insertRaised (x : Nat × Nat × Bool) : List (Nat × Nat × Bool) → List (Nat × Nat × Bool)
  | [] => [x]
  | y :: t => if x.1 < y.1 then x :: y :: t else y :: insertRaised x t

/-- The raised sources in ascending order (R550). -/
def sortRaised (l : List (Nat × Nat × Bool)) : List (Nat × Nat × Bool) := l.foldr insertRaised []

/-- The highest class among raised sources (R550). -/
def State.topClass (s : State) (l : List (Nat × Nat × Bool)) : Nat := l.foldl (fun a x => max a (s.actAs x.1 x.2.2)) 0

/-- The response that a class latches: none below HOLD; on the backup cell HOLD latches CURTAIN (R549, R557). -/
def responseOf (vigil : Bool) (cls : Nat) : Nat := if cls < 2 then 0 else if vigil ∧ cls = 2 then 3 else cls

/-- The flags of a record: maintenance window for the case switches, and secret zeroised (R559). -/
def recordFlags (maint : Bool) (src : Nat) (zero : Bool) : Nat :=
  (if maint ∧ (src = 1 ∨ src = 2) then 1 else 0) + (if zero then 2 else 0)

/-- The classes and records of the sources raised in one cycle: the highest class is applied when it is above the
response in force, one record is written for each source in ascending number, `ALARM_RAISED` is posted for each, and
ALARM_N is asserted for SIGNAL and above (R549, R550, R557). The Vigil secret is zeroised by a STRIKE, and on the
backup cell by a CURTAIN as well. -/
def State.resolve (l : List (Nat × Nat × Bool)) (s : State) : State :=
  let top := s.topClass l
  let latch := max s.alm.latch (responseOf s.pwr.vigil top)
  let zero := s.alm.vs.isSome && (decide (top = 4) || (s.pwr.vigil && decide (3 ≤ top)))
  let s := { s with alm := { s.alm with
    latch := latch
    vs := if zero then none else s.alm.vs
    unacked := s.alm.unacked || decide (1 ≤ top) } }
  (sortRaised l).foldl (fun t x =>
    let cls := t.actAs x.1 x.2.2
    let t := t.aoWrite x.1 cls latch (recordFlags x.2.2 x.1 zero) x.2.1
    if t.pwr.vigil then t else t.raise 0x0C01 0xFF (be 2 x.1 ++ be 1 cls)) s

/-- `ALARM_RESPONSE`: the response logic takes every source raised since it last acted. When a response of CURTAIN or
above newly comes into force, `curtain` zeroises and closes, and the zeroisation runs until `ZEROISE_DONE`; a new HOLD
ends traffic (R549 to R551). An alarm raised during entry to DARK waits until the entry is complete (R560). -/
def alarmResponse (curtain : State → State) (s : State) : State :=
  if s.alm.raised = [] ∨ s.pwr.darkEntry then s
  else
    let old := s.alm.latch
    let t := ({ s with alm := { s.alm with raised := [] } } : State).resolve s.alm.raised
    let t := if old < 2 ∧ 2 ≤ t.alm.latch then
        ((List.range 32).flatMap (fun i => if t.sliceOn (i / 8) && t.otnMode (i / 8) != 0 then [i] else [])).foldl
          (fun u i => if u.obB (Ix.otn (i / 8) (0x10 + i % 8)) Sub.trib_TRIB_ENABLE then u.emit (.oduAis (i / 8) (i % 8))
            else u) t
      else t
    if old < t.alm.latch ∧ 3 ≤ t.alm.latch then
      let u := curtain t
      { u with alm := { u.alm with zeroising := t.alm.latch } }
    else t

/-- `ZEROISE_DONE`: the zeroisation is complete; a STRIKE then asserts a system reset, with its cause (R551, R588). -/
def zeroiseDone (systemReset : Nat → State → State) (s : State) : State :=
  let c := s.alm.zeroising
  if c = 0 then s
  else
    let t := ({ s with alm := { s.alm with zeroising := 0 } } : State).raise 0x0C03 0xFF (be 1 c)
    if c = 4 then systemReset 4 t else t

/-! ### The tamper sampler (R540 to R544, R557) -/

/-- One step of the PRBS-15 generator x^15 + x^14 + 1 (R543). -/
def prbs15 (x : Nat) : Nat := x * 2 % 2 ^ 15 + (if x.testBit 14 != x.testBit 13 then 1 else 0)

/-- The generator state after `n` bits. -/
def prbs15Run : Nat → Nat → Nat
  | 0, x => x
  | n + 1, x => prbs15Run n (prbs15 x)

/-- The `n` bits that the generator gives from a state on: bit i = the i-th. -/
def prbs15Word : Nat → Nat → Nat
  | 0, _ => 0
  | n + 1, x => prbs15 x % 2 + 2 * prbs15Word n (prbs15 x)

/-- The seed of a loop at a wake (R543). -/
def loopSeed (prev rc : Nat) : Nat := if prev ^^^ (rc % 2 ^ 15) = 0 then 1 else prev ^^^ (rc % 2 ^ 15)

/-- A source's debounced condition in one sample: `bad` counts toward `need` consecutive samples, and a good sample
ends the condition, which latches the source until the next ACK (R540, R554). -/
def State.debounce (key src detail need : Nat) (bad : Bool) (s : State) : State :=
  if bad then
    let n := mget 0 s.alm.counts key + 1
    let s := { s with alm := { s.alm with counts := mset 0 s.alm.counts key (min n need) } }
    if need ≤ n ∧ !s.alm.active.contains src then s.alarm src detail else s
  else
    let s := { s with alm := { s.alm with counts := mset 0 s.alm.counts key 0 } }
    if s.alm.active.contains src then
      { s with alm := { s.alm with active := s.alm.active.filter (· != src), latched := s.alm.latched ++ [src] } }
    else s

/-- One loop in one sample, in its mode (R542, R543). -/
def State.sampleLoop (x : Sample) (s : State) (k : Nat) : State :=
  let ix := 0x4C10 + k
  let need := s.ob 0x4C00 Sub.alarm_TAMPER_DEBOUNCE
  if s.ob ix Sub.loop_LOOP_MODE = 0 then
    let r := x.ohms.getD k 0
    let hi := decide (s.ob ix Sub.loop_LOOP_RMAX_OHM < r)
    let lo := decide (r < s.ob ix Sub.loop_LOOP_RMIN_OHM)
    (s.put ix Sub.loop_LOOP_R_LAST (min r 0xFFFF)).debounce (2 + k) (3 + k) (if hi then 0 else 1) need (hi || lo)
  else
    let seed := loopSeed (mget 0 s.alm.prbs k) (x.rc.getD k 0)
    let driven := prbs15Word 256 seed
    let s := ({ s with alm := { s.alm with prbs := mset 0 s.alm.prbs k (prbs15Run 256 seed) } } : State).emit (.loopDrive k driven)
    s.debounce (2 + k) (3 + k) 2 need (x.sns.getD k 0 != driven)

/-- `TAMPER_SAMPLE`: the case switches, the loops, the sensor and VBAT in one sample. On the backup cell the domain
responds by itself at once (R557); with main power the raised sources go to the response logic. -/
def tamperSample (x : Sample) (s : State) : State :=
  let s := { s with alm := { s.alm with aoTime := (s.alm.aoTime + x.ticks) % 2 ^ 48 } }
  let need := s.ob 0x4C00 Sub.alarm_TAMPER_DEBOUNCE
  let s := s.debounce 0 1 0 need (bit x.switches 0)
  let s := s.debounce 1 2 0 need (bit x.switches 1)
  let s : State := (List.range 4).foldl (fun (t : State) k => t.sampleLoop x k) s
  let s := s.debounce 6 0x07 0 2 (decide (x.vbat < 2600))
  let s := s.debounce 7 0x0E (ofInt 2 x.temp) 1 (decide (x.temp < s.obInt 4 0x4C20 Sub.monitor_TEMP_LOW_C))
  if s.pwr.vigil ∧ s.alm.raised ≠ [] then ({ s with alm := { s.alm with raised := [] } } : State).resolve s.alm.raised
  else s

/-! ### Monitors (R544, R545, R554, R574) -/

/-- The recommended range of VDD_CORE at a performance point, in mV (R636). -/
def coreRange (p : Nat) : Nat × Nat := if p = 0 then (728, 772) else if p = 1 then (679, 721) else (631, 670)

/-- A rail's value lies outside its recommended range: rail 0 is VDD_CORE in mV; rails 1 to 3 are VDD_SERDES,
VDDH_SERDES and VDD_DDR, rails 4 and 5 VDD_IO and VDD_IO33, as deviation from nominal in tenths of a percent. During a
change of point the range of either point is accepted (R574, R636). -/
def State.railOut (s : State) (rail value : Nat) : Bool :=
  let inside (p : Nat) := decide ((coreRange p).1 ≤ value) && decide (value ≤ (coreRange p).2)
  if rail = 0 then
    match s.pwr.change with
    | some c => !inside c.point && !inside c.old
    | none => !inside (s.ob 0x0400 Sub.power_PP_NOW)
  else if rail < 4 then decide (30 < (toInt 4 value).natAbs)
  else decide (50 < (toInt 4 value).natAbs)

/-- A monitor's condition holds (R544): `VOLT_RANGE` by rail and value, the two junction thresholds by temperature in
two's complement degrees; the glitch and clock monitors report their own condition. -/
def State.tripHolds (s : State) (src rail value : Nat) : Bool :=
  if src = 0x09 then s.railOut rail value
  else if src = 0x0C then decide (s.obInt 4 0x4C20 Sub.monitor_TEMP_WARN_C < toInt 4 value)
  else if src = 0x0D then decide (s.obInt 4 0x4C20 Sub.monitor_TEMP_CRIT_C < toInt 4 value)
  else src == 0x08 || src == 0x0A || src == 0x0B

/-- `MONITOR_TRIP`: a monitor sees its condition and raises its source (R544). -/
def monitorTrip (src rail value : Nat) (s : State) : State :=
  let temp := src == 0x0C || src == 0x0D
  let s := if temp then s.put 0x4C20 Sub.monitor_TEMP_NOW_C (value % 2 ^ 32) else s
  if s.tripHolds src rail value then s.alarm src (if temp then value % 2 ^ 16 else 0) else s

/-- The bus integrity code of a transfer: CRC-24 over its address, its data and the identity of its sink (R545). -/
def busCode (transfer : Bytes) (sink : Nat) : Nat := (transfer ++ be 1 sink).foldl (crcByteM 24 0x864CFB) 0xB704CE

/-- `BUS_INTEGRITY_MISMATCH`: the sink recomputes the code; on a mismatch it discards the transfer and raises
`BIC_KEY` on a key bus and `BIC_CFG` otherwise, with the sink's identity as DETAIL (R545, R559). -/
def busMismatch (key : Bool) (transfer : Bytes) (sink code : Nat) (s : State) : State :=
  if busCode transfer sink = code then s else s.alarm (if key then 0x10 else 0x0F) sink

/-- `SOURCE_CONDITION_END`: an active source's condition ends; it is latched until the next ACK (R554). -/
def sourceEnd (src : Nat) (s : State) : State :=
  if s.alm.active.contains src then
    { s with alm := { s.alm with active := s.alm.active.filter (· != src), latched := s.alm.latched ++ [src] } }
  else s

/-- `SRC_STATE` (R567). -/
def State.srcState (s : State) (src : Nat) : Nat :=
  if s.fuse.disabled.contains src then 3 else if s.alm.active.contains src then 1
  else if s.alm.latched.contains src then 2 else 0

/-- ALARM_N is asserted: after configuration, while a record of SIGNAL or above is unacknowledged or a response is in
force (R553). -/
def State.alarmN (s : State) : Bool := !s.rst.gap && (s.alm.unacked || s.held)

/-! ### The alarm window (R553 to R556, R548, R563, R564) -/

/-- The life-cycle state is VENDOR or OWNED (R547, R548). -/
def State.vendorOrOwned (s : State) : Bool := s.fuse.lc == 1 || s.fuse.lc == 2

/-- ACK (R553, R554). -/
def almAck (s : State) : State × Status := ({ s with alm := { s.alm with unacked := false, latched := [] } }, .ok)

/-- CLEAR: BUSY while a source whose class is at least the response in force is active; a CLEAR of CURTAIN or STRIKE
makes a system reset 100 µs later (R555). -/
def almClear (s : State) : State × Status :=
  let r := s.alm.latch
  if r ≠ 0 ∧ s.alm.active.any (fun x => decide (r ≤ s.actClass x)) then (s, .busy)
  else if r = 0 then (s, .ok)
  else ((({ s with alm := { s.alm with latch := 0, clearReset := decide (3 ≤ r) } } : State).mark
      Timer.clear).raise 0x0C02 0xFF (be 1 r), .ok)

/-- FUSE_DISABLE blows the disable fuse of `ALM_SOURCE` (R548). -/
def almFuseDisable (s : State) : State × Status :=
  let src := s.ob 0x4C01 Sub.almWin_ALM_SOURCE
  if !s.vendorOrOwned then (s, .denied)
  else if (sourceInfo src).isNone then (s, .range)
  else if s.fuse.disabled.contains src then (s, .ok)
  else ({ s with
    fuse := { s.fuse with disabled := s.fuse.disabled ++ [src] }
    alm := { s.alm with active := s.alm.active.filter (· != src), latched := s.alm.latched.filter (· != src) } }, .ok)

/-- MAINT opens a maintenance window of `ALM_ARG` seconds, or closes it with 0 (R556). -/
def almMaint (s : State) : State × Status :=
  let n := s.ob 0x4C01 Sub.almWin_ALM_ARG
  if n = 0 then (({ s with alm := { s.alm with maintEnd := none } } : State).raise 0x0C04 0xFF (be 2 0), .ok)
  else if n < 60 ∨ 14400 < n then (s, .range)
  else (({ s with alm := { s.alm with maintEnd := some (s.alm.aoTime + n * 32768) } } : State).raise 0x0C04 0xFF (be 2 n),
    .ok)

/-- `MAINT_LEFT_S` (R562). -/
def State.maintLeft (s : State) : Nat :=
  match s.alm.maintEnd with
  | some e => (e - s.alm.aoTime + 32767) / 32768
  | none => 0

/-- `MAINT_WINDOW_EXPIRY`: an open window ends (R556, R568). -/
def maintExpiry (s : State) : State :=
  if s.maintOpen ∧ s.maintLeft = 0 then ({ s with alm := { s.alm with maintEnd := none } } : State).raise 0x0C04 0xFF (be 2 0) else s

/-- A record as it is read: FLAGS[2] when its source has been fused since (R559). -/
def State.aoShown (s : State) (r : Bytes) : Bytes :=
  if s.fuse.disabled.contains (fld r 2 1) then r.take 6 ++ be 1 (setBit (fld r 6 1) 2 true) ++ r.drop 7 else r

/-- READ of the always-on log (R564). -/
def alRead (s : State) : State × Status :=
  match mfind s.alm.log (s.ob 0x4C02 Sub.alWin_AL_SEQ) with
  | some r => (s.putO 0x4C02 Sub.alWin_AL_RECORD (s.aoShown r), .ok)
  | none => (s, .range)

/-- A write of `SRC_CLASS` (R547). -/
def srcClassWrite (src v : Nat) (s : State) : State × Status :=
  if !s.vendorOrOwned then (s, .denied)
  else if v < ((sourceInfo src).map (·.2.1)).getD 0 then (s, .range)
  else (s.put (0x4D00 + src) Sub.source_SRC_CLASS v, .ok)

/-- A write of a temperature threshold: `TEMP_CRIT_C` stays above `TEMP_WARN_C` (R566). -/
def monitorWrite (sub v : Nat) (s : State) : State × Status :=
  let warn := if sub = Sub.monitor_TEMP_WARN_C then toInt 4 v else s.obInt 4 0x4C20 Sub.monitor_TEMP_WARN_C
  let crit := if sub = Sub.monitor_TEMP_CRIT_C then toInt 4 v else s.obInt 4 0x4C20 Sub.monitor_TEMP_CRIT_C
  if (sub = Sub.monitor_TEMP_WARN_C ∨ sub = Sub.monitor_TEMP_CRIT_C) ∧ crit ≤ warn then (s, .range)
  else (s.put 0x4C20 sub v, .ok)

/-- A write of a loop's limits: the upper stays above the lower (R565). -/
def loopWrite (k sub v : Nat) (s : State) : State × Status :=
  let ix := 0x4C10 + k
  let lo := if sub = Sub.loop_LOOP_RMIN_OHM then v else s.ob ix Sub.loop_LOOP_RMIN_OHM
  let hi := if sub = Sub.loop_LOOP_RMAX_OHM then v else s.ob ix Sub.loop_LOOP_RMAX_OHM
  if (sub = Sub.loop_LOOP_RMIN_OHM ∨ sub = Sub.loop_LOOP_RMAX_OHM) ∧ hi ≤ lo then (s, .range)
  else (s.put ix sub v, .ok)

/-! ### The commands of the alarm windows -/

/-- `BUS_INTEGRITY_MISMATCH` (R545). -/
def execBusIntegrityMismatch (key : Bool) (transfer : Bytes) (sink code : Nat) (s : State) : Out :=
  .next (busMismatch key transfer sink code s)

/-- `SOURCE_CONDITION_END` (R554). -/
def execSourceConditionEnd (src : Nat) (s : State) : Out := .next (sourceEnd src s)

/-- `ALM_ACK` (R553). -/
def execAlmAck (c : Caller) (s : State) : Out :=
  .next (rowWindow c 0x4C01 Sub.almWin_ALM_OP Sub.almWin_ALM_STATUS 1 almAck s)

/-- `ALM_FUSE_DISABLE` (R548). -/
def execAlmFuseDisable (c : Caller) (s : State) : Out :=
  .next (rowWindow c 0x4C01 Sub.almWin_ALM_OP Sub.almWin_ALM_STATUS 3 almFuseDisable s)

/-- `ALM_MAINT` (R556). -/
def execAlmMaint (c : Caller) (s : State) : Out :=
  .next (rowWindow c 0x4C01 Sub.almWin_ALM_OP Sub.almWin_ALM_STATUS 4 almMaint s)

/-- `MAINT_WINDOW_EXPIRY` (R556). -/
def execMaintWindowExpiry (s : State) : Out := .next (maintExpiry s)

/-- `AL_READ` (R564). -/
def execAlRead (c : Caller) (s : State) : Out :=
  .next (rowWindow c 0x4C02 Sub.alWin_AL_OP Sub.alWin_AL_STATUS 1 alRead s)

end Sys2Proof.Machine
end

