-- ==== Sys2Proof/Machine/Power.lean ====
section
/-! DEFINITION. Power states, performance points and clocks (chapter 17). What a wake or an entry to DARK does to
frames, cores and keys it takes as an argument, from the file that joins all chapters. -/

namespace Sys2Proof.Machine

/-- The set point of VDD_CORE at a performance point, in mV (R571). -/
def setPoint (p : Nat) : Nat := if p = 0 then 750 else if p = 1 then 700 else 650

/-- The slices whose clock a change of point moves, in order (R572). -/
def State.clockedSlices (s : State) : List Nat := (List.range 4).filter (fun sl => s.sliceOn sl)

/-- A change of power state or performance point is in progress (R570). -/
def State.changing (s : State) : Bool := s.pwr.change.isSome || s.pwr.darkEntry

/-- Complete the `PWR_REQ` write that started a change. -/
def State.endRequest (st : Status) (s : State) : State :=
  let who := (s.pwr.change.map (·.who)).getD 16
  (({ s with pwr := { s.pwr with change := none } } : State).put 0x0400 Sub.power_PWR_STATUS st.code).finish
    who 0x0400 Sub.power_PWR_REQ st

/-- The new state has been reached: `PP_NOW`, `PWR_STATE`, the events and the request's completion (R570, R587). -/
def State.changeDone (ch : PowerChange) (s : State) : State :=
  let old := s.ob 0x0400 Sub.power_PWR_STATE
  let s := (s.put 0x0400 Sub.power_PP_NOW ch.point).put 0x0400 Sub.power_PWR_STATE ch.state
  let s := (s.put 0x0400 Sub.power_PP_PHASE 0).addOb 0x0402 Sub.residency_PP_CHANGES 32 1
  let s := s.raise 0x0E02 0xFF (be 1 ch.old ++ be 1 ch.point)
  (s.raise 0x0E01 0xFF (be 1 old ++ be 1 ch.state)).endRequest .ok

/-- The refusals of a `PWR_REQ` write (R570, R440, R504). -/
def State.pwrBusy (s : State) (target : Nat) : Bool :=
  s.changing || s.ob 0x0400 Sub.power_PWR_STATE == 2
    || (target == 2 && ((s.obB 0x4800 Sub.pair_PAIR_ENABLE && s.obB 0x4801 Sub.pairStat_ROLE) || s.rst.staging.isSome))

/-- A write of `PWR_REQ` for state `target` (0 ACTIVE, 1 TRIM, 2 DARK) that no refusal meets. ACTIVE raises the
voltage first; TRIM lowers the slice clocks first; DARK begins its entry with `enter` (R570, R572, R576). -/
def startChange (c : Caller) (target : Nat) (enter : State → State) (s : State) : State :=
  let now := s.ob 0x0400 Sub.power_PP_NOW
  let s := s.put 0x0400 Sub.power_PWR_STATUS Status.busy.code
  let begin_ (point : Nat) (slices : List Nat) (t : State) : State :=
    { t with pwr := { t.pwr with
        change := some ⟨c.entry, target, t.ob 0x0400 Sub.power_PWR_REQ, point, now, slices, false⟩ } }.put
      0x0400 Sub.power_PWR_REQ (target + 1)
  match target with
  | 0 => (((begin_ 0 s.clockedSlices s).put 0x0400 Sub.power_PP_PHASE 3).mark Timer.volt).emit (.voltage (setPoint 0))
  | 1 => (begin_ (s.ob 0x0400 Sub.power_TRIM_POINT) s.clockedSlices s).put 0x0400 Sub.power_PP_PHASE 1
  | _ =>
    let t := begin_ now [] s
    enter <| State.mark Timer.dark { t with pwr := { t.pwr with darkEntry := true, darkFrom := s.ob 0x0400 Sub.power_PWR_STATE, wake := none } }

/-- The body of a `PWR_REQ` write: refused BUSY, or nothing for the present state, or a change begun (R570). Answers
whether the write completes now. -/
def pwrReq (c : Caller) (target : Nat) (enter : State → State) (s : State) : State × Option Status :=
  if s.pwrBusy target then (s, some .busy)
  else if s.ob 0x0400 Sub.power_PWR_STATE = target then (s.put 0x0400 Sub.power_PWR_REQ (target + 1), some .ok)
  else (startChange c target enter s, none)

/-- A `PWR_REQ` row: the checks of R458 and the write; a change begun completes later. -/
def rowPwrReq (c : Caller) (target : Nat) (enter : State → State) : State → State :=
  rowLate c 0x0400 Sub.power_PWR_REQ (.num (target + 1)) (pwrReq c target enter)

/-- The PLLs report lock: not within the 2 µs of a move to the other reference input (R581, R583). -/
def State.pllsLocked (s : State) : Bool :=
  match mfind s.time.since Timer.ref with
  | some t => s.gone t 2000
  | none => true

/-- `SLICE_CLOCK_HOLD`: while the PLLs report lock, the next slice in order, held since the change came to it, runs at the new frequency once both its
egress segments are empty; after the last one, lowering sends the voltage target and raising is complete (R31, R572, R583). -/
def sliceClockHold (sl : Nat) (s : State) : State :=
  if !s.pllsLocked then s else
  let ph := s.ob 0x0400 Sub.power_PP_PHASE
  match s.pwr.change with
  | some ch =>
    if (ph = 1 ∨ ph = 4) ∧ ch.slices.head? = some sl ∧ s.drained sl then
      let rest := ch.slices.tail
      let s := { s with pwr := { s.pwr with slicePt := mset 0 s.pwr.slicePt sl ch.point,
                                            change := some { ch with slices := rest } } }
      if rest ≠ [] then s
      else if ph = 1 then ((s.put 0x0400 Sub.power_PP_PHASE 2).mark Timer.volt).emit (.voltage (setPoint ch.point))
      else s.changeDone ch
    else s
  | none => s

/-- `VOLTAGE_REPORTED`: the regulator's reading. A raised rail at its set point less 10 mV lets the clocks rise; a
lowered rail at its set point ends the change (R572, R573). -/
def voltageReported (mv : Nat) (s : State) : State :=
  let s := s.put 0x0400 Sub.power_VDD_CORE_MV (mv % 2 ^ 16)
  match s.pwr.change with
  | some ch =>
    let ph := s.ob 0x0400 Sub.power_PP_PHASE
    if ph = 3 ∧ setPoint ch.point ≤ mv + 10 then
      (if ch.slices = [] then s.changeDone ch else s.put 0x0400 Sub.power_PP_PHASE 4)
    else if ph = 2 ∧ mv ≤ setPoint ch.point then s.changeDone ch
    else s
  | none => s

/-- A raising change is abandoned: the old target is sent again and the request ends NOT_READY (R573); the write changes
nothing (R11). -/
def State.abandonRaise (ch : PowerChange) (s : State) : State :=
  (((((s.emit (.voltage (setPoint ch.old))).put 0x0400 Sub.power_PP_PHASE 0).put 0x0400 Sub.power_PWR_REQ ch.req).endRequest
    .notReady).raise 0x0E03 0xFF (be 1 ch.point ++ be 1 1))

/-- `PP_VOLT_TIMEOUT`: the new voltage was not reported in time (R573). -/
def voltTimeout (s : State) : State :=
  match s.pwr.change with
  | some ch =>
    let ph := s.ob 0x0400 Sub.power_PP_PHASE
    if !s.past Timer.volt (1000 * s.ob 0x0400 Sub.power_PP_VOLT_TIMEOUT_US) then s
    else if ph = 3 then s.abandonRaise ch
    else if ph = 2 ∧ !ch.late then ({ s with pwr := { s.pwr with change := some { ch with late := true } } } : State).raise 0x0E03 0xFF (be 1 ch.point ++ be 1 0)
    else s
  | none => s

/-- `PMB_ALERT`: PMB_ALERT_N asserted while a raising target waits ends the change (R653). -/
def pmbAlert (s : State) : State :=
  match s.pwr.change with
  | some ch => if s.ob 0x0400 Sub.power_PP_PHASE = 3 then s.abandonRaise ch else s
  | none => s

/-- A port or tributary of the slice is enabled (R575). -/
def State.sliceInUse (s : State) (sl : Nat) : Bool :=
  (List.range 8).any (fun p => s.portOn (8 * sl + p) || s.portOn (0x40 + 8 * sl + p)
    || s.obB (Ix.otn sl (0x10 + p)) Sub.trib_TRIB_ENABLE)

/-- A write of `SLICE_POWER`: BUSY during a point change, and to gate a slice in use; 0 ungates it (R575, R583). -/
def slicePowerWrite (sl v : Nat) (s : State) : State × Status :=
  let ix := 0x0410 + sl
  if s.changing then (s, .busy)
  else if v = 1 then
    (if s.sliceInUse sl then (s, .busy)
     else (((s.put ix Sub.slicePwr_SLICE_POWER 1).put ix Sub.slicePwr_SLICE_POWER_NOW 1).settleLanes, .ok))
  else if s.ob ix Sub.slicePwr_SLICE_POWER_NOW = 1 then
    ((s.put ix Sub.slicePwr_SLICE_POWER 0).put ix Sub.slicePwr_SLICE_POWER_NOW 2, .ok)
  else (s.put ix Sub.slicePwr_SLICE_POWER 0, .ok)

/-! ### DARK (R576 to R579) -/

/-- What entry to DARK does outside the slices' tables: the ring bypass closes, lanes go to DEEP, and running scans abort
(R53, R576). -/
def State.darken (s : State) : State :=
  let s : State := allLanes.foldl (fun (t : State) m => (t.abortScan m).rxSettle m) s
  ({ s with acc := { s.acc with joined := false } } : State).settleLanes

/-- A wake of a device in DARK, with its cause and detail: it returns to the state it left, and its slices ungate;
`restart` restarts the entropy source; a PORST_N wake proceeds as a power-on reset (R577, R579). -/
def wakeFrom (restart porst : State → State) (cause detail : Nat) (s : State) : State :=
  let s := (s.put 0x0401 Sub.dark_LAST_WAKE_CAUSE cause).put 0x0401 Sub.dark_LAST_WAKE_DETAIL detail
  if cause = 3 then porst s
  else
    let back := s.pwr.darkFrom
    let s := { s with pwr := { s.pwr with darkEntry := false, wake := none, porstFell := false } }
    let s := s.put 0x0400 Sub.power_PWR_STATE back
    let s : State := s.clockedSlices.foldl (fun (t : State) sl =>
      t.put (0x0410 + sl) Sub.slicePwr_SLICE_POWER_NOW (if t.ob (0x0410 + sl) Sub.slicePwr_SLICE_POWER = 1 then 1 else 2)) s
    let s := restart s.settleLanes
    (s.raise 0x0E04 0xFF (be 1 cause ++ be 4 detail)).raise 0x0E01 0xFF (be 1 2 ++ be 1 back)

/-- The device is in DARK, entry complete. -/
def State.inDark (s : State) : Bool := s.ob 0x0400 Sub.power_PWR_STATE == 2 && !s.pwr.darkEntry

/-- `DARK_ENTRY_COMPLETE`: the slices are gated and the sampler starts; a wake event latched during entry is replayed
at once (R576, R578). -/
def darkEntryComplete (wake : Nat → Nat → State → State) (s : State) : State :=
  if s.pwr.darkEntry then
    let old := s.pwr.darkFrom
    let s := (s.put 0x0400 Sub.power_PWR_STATE 2).addOb 0x0402 Sub.residency_DARK_ENTRIES 32 1
    let s : State := s.clockedSlices.foldl (fun (t : State) sl => t.put (0x0410 + sl) Sub.slicePwr_SLICE_POWER_NOW 1) s
    let s := (s.raise 0x0E01 0xFF (be 1 old ++ be 1 2)).endRequest .ok
    let latched := s.pwr.wake
    let s := ({ s with pwr := { s.pwr with darkEntry := false, wake := none } } : State).mark Timer.sample
    if s.pwr.porstFell then wake 3 0 s else if latched.isSome then wake 7 0 s else s
  else s

/-- `DARK_SAMPLE`: the heartbeat, the LOS of the line lanes and a latched edge of PORST_N are compared, in that order;
the first mismatch wakes the device (R577). -/
def darkSample (wake : Nat → Nat → State → State) (hb : Bool) (los : Nat) (s : State) : State :=
  if s.inDark ∧ s.past Timer.sample (1000 * s.ob 0x0401 Sub.dark_DARK_SAMPLE_US) then
    let s := s.mark Timer.sample
    let exp := s.ob 0x0401 Sub.dark_DARK_EXP_HB
    let lanes := (los ^^^ s.ob 0x0401 Sub.dark_DARK_EXP_LOS) &&& s.ob 0x0401 Sub.dark_DARK_LOS_CARE
    if (exp = 1 ∧ hb = false) ∨ (exp = 2 ∧ hb = true) then wake 1 0 s
    else if lanes ≠ 0 then wake 2 lanes s
    else if s.pwr.porstFell then wake 3 0 s
    else s
  else s

/-- `DARK_WAKE_TIMER`: `DARK_WAKE_S` has passed (R577); during entry the event is latched (R578). -/
def darkWakeTimer (wake : Nat → Nat → State → State) (s : State) : State :=
  if s.ob 0x0401 Sub.dark_DARK_WAKE_S = 0 ∨ !s.past Timer.dark (1000000000 * s.ob 0x0401 Sub.dark_DARK_WAKE_S) then s
  else if s.pwr.darkEntry then { s with pwr := { s.pwr with wake := some (s.pwr.wake.getD (5, 0)) } }
  else if s.inDark then wake 5 0 s
  else s

/-- After a source is raised in DARK, the device wakes at once, whatever its class (R577). -/
def wakeOnAlarm (wake : Nat → Nat → State → State) (s : State) : State :=
  match s.alm.raised with
  | (src, _, _) :: _ => if s.inDark ∧ !s.pwr.vigil then wake 4 src s else s
  | [] => s

/-! ### Reference clocks (R581, R582) -/

/-- CLK_MODE as latched (R581). -/
def State.clkMode (s : State) : Nat := s.rst.straps / 4 % 4

/-- Move to a reference input (R582). -/
def State.refMove (i : Nat) (s : State) : State :=
  (((s.put 0x0600 Sub.clocks_REFCLK_ACTIVE i).addOb 0x0600 Sub.clocks_REFCLK_SWITCHES 32 1).mark Timer.ref).raise 0x0E05 0xFF (be 1 i)

/-- `REFCLK_LOSS`: input `i` (0 A, 1 B) is lost. In mode 1 the device moves to the other input where that is good;
otherwise the PLLs lose lock and `CLOCK_FAULT` is raised (R581, R582). -/
def refclkLoss (i : Nat) (s : State) : State :=
  let s := s.put 0x0600 Sub.clocks_REFCLK_OK (setBit (s.ob 0x0600 Sub.clocks_REFCLK_OK) (i % 2) false)
  if s.ob 0x0600 Sub.clocks_REFCLK_ACTIVE ≠ i % 2 then s
  else if s.clkMode = 1 ∧ bit (s.ob 0x0600 Sub.clocks_REFCLK_OK) (1 - i % 2) then s.refMove (1 - i % 2)
  else (s.put 0x0600 Sub.clocks_PLL_LOCK 0).alarm 0x0B 0

/-- `REFCLK_REVERT`: REFCLK_A has been good for 10 s (R582). -/
def refclkRevert (s : State) : State :=
  let s := s.put 0x0600 Sub.clocks_REFCLK_OK (setBit (s.ob 0x0600 Sub.clocks_REFCLK_OK) 0 true)
  if s.clkMode = 1 ∧ s.obB 0x0600 Sub.clocks_REFCLK_REVERT ∧ s.ob 0x0600 Sub.clocks_REFCLK_ACTIVE = 1 then s.refMove 0
  else s

/-! ### The commands -/

/-- `PWR_REQ_ACTIVE` (R569). -/
def execPwrReqActive (c : Caller) (s : State) : Out := .next (rowPwrReq c 0 id s)

/-- `PWR_REQ_TRIM` (R569). -/
def execPwrReqTrim (c : Caller) (s : State) : Out := .next (rowPwrReq c 1 id s)

/-- `VOLTAGE_REPORTED` (R572). -/
def execVoltageReported (mv : Nat) (s : State) : Out := .next (voltageReported mv s)

/-- `PP_VOLT_TIMEOUT` (R573). -/
def execPpVoltTimeout (s : State) : Out := .next (voltTimeout s)

/-- `PMB_ALERT` (R653). -/
def execPmbAlert (s : State) : Out := .next (pmbAlert s)

/-- `SLICE_POWER_WRITE` (R575). -/
def execSlicePowerWrite (c : Caller) (sl v : Nat) (s : State) : Out :=
  .next (rowWrite c (0x0410 + sl) Sub.slicePwr_SLICE_POWER (.num v) (slicePowerWrite sl v) s)

/-- `REFCLK_LOSS` (R582). -/
def execRefclkLoss (i : Nat) (s : State) : Out := .next (refclkLoss i s)

/-- `REFCLK_REVERT` (R582). -/
def execRefclkRevert (s : State) : Out := .next (refclkRevert s)

end Sys2Proof.Machine
end

