-- ==== Sys2Proof/Machine/Identity.lean ====
section
/-! DEFINITION. The identity of the device: its keys from the device unique secret, and `DEVICE_ID` (R330 to R333). -/

namespace Sys2Proof.Machine

abbrev vaultIx : Nat := 0x4000

/-- `OWNER_ID` as the context takes it: zeros outside OWNED (R330). -/
def State.ownerId (s : State) : Bytes := if s.fuse.lc = 2 then padTo 48 s.fuse.owner else zeros 48

/-- `MEAS` of the running firmware. -/
def State.meas (s : State) : Bytes := s.oct vaultIx Sub.vault_MEAS

/-- The order of the P-384 base point (FIPS 186-5, log 20). -/
def p384n : Nat :=
  0xFFFFFFFFFFFFFFFFFFFFFFFFFFFFFFFFFFFFFFFFFFFFFFFFC7634D81F4372DDF581A0DB248B0A77AECEC196ACCC52973

/-- The two private keys of a 704-bit seed: d, and ξ (R332). -/
def seedKeys (seed : Bytes) : Nat × Nat := (num (seed.take 56) % (p384n - 1) + 1, num (seed.drop 56))

/-- The public keys of a pair, as 2,049 octets (R333). -/
def pairPub (k : Nat × Nat) : Bytes := Config.ecPoint k.1 ++ Config.mldsaPub k.2

/-- The identity key for a life-cycle state and an owner (R331). -/
def State.identity (s : State) (lc : Nat) (owner : Bytes) : Nat × Nat :=
  seedKeys (kdf (be 32 s.fuse.dus) "ISF3204 IDENTITY" (be 1 lc ++ owner) 704)

/-- The identity key in force. -/
def State.identityNow (s : State) : Nat × Nat := s.identity s.fuse.lc s.ownerId

/-- `ID_PUB` (R333). -/
def State.idPub (s : State) : Bytes := pairPub s.identityNow

/-- `DEVICE_ID`: of the identity keys with LC = VENDOR and a zero owner (R333). -/
def State.deviceId (s : State) : Bytes := sha384 (pairPub (s.identity 1 (zeros 48)))

end Sys2Proof.Machine
end

