-- ==== Sys2Proof/Machine/Entropy.lean ====
section
/-! DEFINITION. The entropy source (R390 to R397): the health tests of its samples, start-up, checkpoints, the conditioner, the
random bit generator and its queue, and the line of requests. What a served or failed request does is its consumer's own. -/

namespace Sys2Proof.Machine

abbrev entIx : Nat := 0x4600

/-- The codes of `ENT_STATE` (R403). -/
abbrev entStarting : Nat := 0
abbrev entReady : Nat := 1
abbrev entRecovering : Nat := 2
abbrev entFailed : Nat := 3

def State.entState (s : State) : Nat := s.ob entIx Sub.ent_ENT_STATE
/-- `ENT_QUEUE_FILL`. -/
def State.entFill (s : State) : Nat := s.ke.ent.queue.length

/-- Change the source's own record. -/
def State.putEnt (e : Entropy) (s : State) : State := { s with ke := { s.ke with ent := e } }

/-- The source runs: the control complex is powered and clocked, and the unit is not in DARK (R395, R398). -/
def State.entRuns (s : State) : Bool := !s.ke.ent.stopped && s.rst.step == 5 && !s.pwr.vigil

/-! ### The health tests (R390, R391) -/

/-- The cutoffs of a source: of the repetition count and of the adaptive proportion test (R390). -/
def cutoffs (src : Nat) : Nat × Nat := match src with | 0 => (41, 795) | 1 => (35, 749) | _ => (26, 665)

/-- The tests of one source within a window: its last sample and the run that it ends, how many samples equal the window's first,
and the sample and test of the first failure (test 0 repetition count, 1 adaptive proportion). -/
structure Tested where
  last : Bool
  run : Nat
  count : Nat := 0
  bad : Option (Nat × Nat) := none
  deriving DecidableEq, Repr

/-- Sample `i` of a window whose samples are the bits of `w` (R390, R391). -/
def testSample (src w : Nat) (h : Tested) (i : Nat) : Tested :=
  if h.bad.isSome then h
  else
    let x := w.testBit i
    let run := if h.run ≠ 0 ∧ x = h.last then h.run + 1 else 1
    let count := if x = w.testBit 0 then h.count + 1 else h.count
    ⟨x, run, count, if (cutoffs src).1 ≤ run then some (i, 0) else if (cutoffs src).2 ≤ count then some (i, 1) else none⟩

/-- The first `n` samples of a source in a window; a run goes on from the window before. -/
def State.tested (s : State) (ws : List Nat) (n src : Nat) : Tested :=
  let r := s.ke.ent.runs.getD src (false, 0)
  (List.range n).foldl (testSample src (ws.getD src 0)) ⟨r.1, r.2, 0, none⟩

/-- The source and test that fail first among `n` samples of each source: of one sample, the lower source (log 116). -/
def State.firstFail (s : State) (ws : List Nat) (n : Nat) : Option (Nat × Nat) :=
  let l := (List.range 3).filterMap (fun src => (s.tested ws n src).bad.map (fun x => (x.1, src, x.2)))
  (l.foldl (fun a x => match a with | some y => if x.1 < y.1 then some x else a | none => some x) none).map (·.2)

/-! ### The conditioner and the random bit generator (R392, R393) -/

/-- 512 samples of a source from sample `512 * j` on, as 64 octets; the first sample is the highest bit of the first (log 116). -/
def sampleOctets (w j : Nat) : Bytes :=
  be 64 ((List.range 512).foldl (fun a i => 2 * a + (w.testBit (512 * j + i)).toNat) 0)

/-- The seed of half `j` of a window: SHA-384 over 512 samples of each source, source 0 first (R392). -/
def seedOf (ws : List Nat) (j : Nat) : Bytes :=
  sha384 (sampleOctets (ws.getD 0 0) j ++ sampleOctets (ws.getD 1 0) j ++ sampleOctets (ws.getD 2 0) j)

/-- `n` output blocks of CTR_DRBG: AES-256 of the counter values after V (R393). -/
def ctrBlocks (key : Bytes) (v n : Nat) : Bytes :=
  (List.range n).flatMap (fun i => aesEnc key (be 16 ((v + 1 + i) % 2 ^ 128)))

/-- The update function of CTR_DRBG: a new Key and V, with 48 octets of provided data (R393). -/
def ctrUpdate (data : Bytes) (e : Entropy) : Entropy :=
  let t := xorB (ctrBlocks e.key e.v 3) data
  { e with key := t.take 32, v := num (t.drop 32) }

/-- The generator is instantiated with a seed and a personalisation string (R393). -/
def ctrInstantiate (seed person : Bytes) (e : Entropy) : Entropy :=
  { ctrUpdate (xorB seed person) { e with key := zeros 32, v := 0 } with budget := some 1024 }

/-- A reseed, where the output of the last seed is used up and another seed is held, oldest first (R393). -/
def ctrReseed (e : Entropy) : Entropy :=
  match e.budget, e.seeds with
  | some 0, x :: rest => { ctrUpdate x e with seeds := rest, budget := some 1024 }
  | _, _ => e

/-- `n` blocks of 64 octets, each one request to the generator (R393, log 116). -/
def ctrRun : Nat → Entropy → Bytes × Entropy
  | 0, e => ([], e)
  | n + 1, e =>
    let e := ctrReseed e
    let r := ctrRun n { ctrUpdate (zeros 48) { e with v := (e.v + 4) % 2 ^ 128 } with budget := e.budget.map (· - 64) }
    (ctrBlocks e.key e.v 4 ++ r.1, r.2)

/-- Blocks of 64 octets go to the queue while it has room and a seed remains; each 1 KiB takes a fresh seed (R393). -/
def drbgFill (s : State) : State :=
  let e := s.ke.ent
  match e.budget with
  | none => s
  | some b =>
    let r := ctrRun (min ((8192 - e.queue.length) / 64) ((b + 1024 * e.seeds.length) / 64)) e
    s.putEnt { r.2 with queue := e.queue ++ r.1 }

/-- New seeds are released; of more than two held, the newest two are kept (R392, R393). -/
def seedRelease (l : List Bytes) (s : State) : State :=
  let all := s.ke.ent.seeds ++ l
  (s.putEnt { s.ke.ent with seeds := all.drop (all.length - 2) }).addOb entIx Sub.ent_ENT_SEEDS 64 l.length

/-- A window closes at a checkpoint: the mark, and its seeds (R391 to R393, R395). Start-up runs four windows and forms its first
seed in the fifth, with which the generator is instantiated. -/
def checkpoint (ws : List Nat) (s : State) : State :=
  let s := s.putEnt { s.ke.ent with mark := s.entFill
                                    runs := (List.range 3).map (fun src => let h := s.tested ws 1024 src; (h.last, h.run)) }
  let w := s.ke.ent.windows
  if w < 4 then s.putEnt { s.ke.ent with windows := w + 1 }
  else if w = 4 then
    let s := seedRelease [seedOf ws 0] (s.putEnt { s.ke.ent with windows := 5 })
    let s := s.putEnt { ctrInstantiate (seedOf ws 0) s.deviceId s.ke.ent with seeds := [] }
    drbgFill ((s.put entIx Sub.ent_ENT_STATE entReady).raise 0x0A05 0xFF [])
  else drbgFill (seedRelease [seedOf ws 0, seedOf ws 1] s)

/-! ### Requests (R394) -/

/-- The outcome of a request for random octets (R394). -/
inductive Draw where
  | served (b : Bytes)
  | waits
  | fails (st : Status)
  deriving DecidableEq, Repr

/-- Take octets from the queue's front; the mark moves with them, and the queue refills (R393, R394). -/
def takeQueue (len : Nat) (s : State) : Bytes × State :=
  let e := s.ke.ent
  (e.queue.take len, drbgFill (s.putEnt { e with queue := e.queue.drop len, mark := e.mark - len }))

/-- A new request (R394). -/
def drawRequest (who : EntWho) (len : Nat) (s : State) : Draw × State :=
  if s.ke.ent.stopped ∨ s.entState = entFailed then (.fails .entropyFault, s)
  else if s.entState = entStarting then (.fails .notReady, s)
  else if s.ke.ent.waiting = [] ∧ len ≤ s.entFill then
    let r := takeQueue len s
    (.served r.1, r.2)
  else (.waits, s.putEnt { s.ke.ent with waiting := s.ke.ent.waiting ++ [⟨who, len, s.time.periods⟩] })

/-- The head of the line is served, where the queue holds enough (R394). -/
def serveHead (s : State) : Option (EntWho × Bytes × State) :=
  match s.ke.ent.waiting with
  | [] => none
  | q :: rest =>
    if s.ke.ent.stopped ∨ s.entState = entFailed ∨ s.entState = entStarting ∨ s.entFill < q.len then none
    else
      let r := takeQueue q.len (s.putEnt { s.ke.ent with waiting := rest })
      some (q.who, r.1, r.2)

/-- The head of the line leaves it unserved, once it has waited `ENT_WAIT_US` (R394). -/
def dropHead (s : State) : Option (EntWho × State) :=
  match s.ke.ent.waiting with
  | [] => none
  | q :: rest =>
    if s.gone q.at_ (1000 * s.ob entIx Sub.ent_ENT_WAIT_US) then some (q.who, s.putEnt { s.ke.ent with waiting := rest }) else none

/-- The requests of consumers that are gone leave the line. -/
def dropWaiting (gone : EntWho → Bool) (s : State) : State :=
  s.putEnt { s.ke.ent with waiting := s.ke.ent.waiting.filter (fun q => !gone q.who) }

/-- Every request leaves the line (R397, R398). -/
def dropAll (s : State) : List EntWho × State :=
  (s.ke.ent.waiting.map (·.who), s.putEnt { s.ke.ent with waiting := [] })

/-! ### Failures (R396, R397) -/

/-- A health test of source `src` fails: 0 repetition count, 1 adaptive proportion (R396, R397). Answers the requests
that end with ENTROPY_FAULT because the source enters FAILED. -/
def healthFail (src test : Nat) (s : State) : List EntWho × State :=
  if !s.entRuns ∨ s.entState = entFailed then ([], s)
  else
    let e := s.ke.ent
    let keep := min s.entFill e.mark
    let startUp := decide (e.windows < 5)
    let now := s.time.periods
    let fails := (e.fails.filter (fun t => decide (now < t + 7500000000))) ++ [now]
    let s := s.addOb entIx Sub.ent_ENT_FLUSHED_BYTES 64 (s.entFill - keep)
    let s := s.putEnt { e with queue := e.queue.take keep, seeds := [], budget := none, key := [], v := 0, windows := 0, runs := []
                               fails := fails }
    let s := (s.put entIx Sub.ent_ENT_STATE entRecovering).addOb entIx Sub.ent_ENT_FAILURES 32 1
    let s := (s.put entIx Sub.ent_ENT_LAST_FAIL (src % 4 + 4 * (test % 2) + 8 * startUp.toNat)).alarm 0x29 0
    if s.ob entIx Sub.ent_ENT_RETRY_LIMIT ≤ fails.length then
      dropAll ((s.put entIx Sub.ent_ENT_STATE entFailed).alarm 0x2A 0)
    else ([], s)

/-- 1,024 samples of each source, the bits of three numbers, end a window: the test that fails first, or a checkpoint (R391). -/
def windowClose (ws : List Nat) (s : State) : List EntWho × State :=
  if !s.entRuns ∨ s.entState = entFailed then ([], s)
  else match s.firstFail ws 1024 with
  | some (src, test) => healthFail src test s
  | none => ([], checkpoint ws s)

/-- The `n` samples of each source since a window opened, the last of which fails a test (R396); samples that pass are those of a
window still open. -/
def samplesFail (n : Nat) (ws : List Nat) (s : State) : List EntWho × State :=
  match s.firstFail ws (min n 1024) with
  | some (src, test) => healthFail src test s
  | none => ([], s)

/-- The source starts afresh after DARK: STARTING, nothing queued (R395); one that has FAILED stays so, and the failures of the last
60 s still count (R397). -/
def entStart (s : State) : State :=
  (s.putEnt { fails := s.ke.ent.fails }).put entIx Sub.ent_ENT_STATE (if s.entState = entFailed then entFailed else entStarting)

/-- The source stops at entry to DARK: waiting requests end (R398). -/
def entStop (s : State) : List EntWho × State :=
  let r := dropAll s
  (r.1, (entStart r.2).putEnt { stopped := true, fails := s.ke.ent.fails })

end Sys2Proof.Machine
end

