-- ==== Sys2Proof/Machine/Pke.lean ====
section
/-! DEFINITION. The public-key engine: its queue and the draws of its operations, and its ephemeral contexts (R371 to R373). -/

namespace Sys2Proof.Machine

/-- The octets that an operation draws (R371). -/
def PkeOp.draws : PkeOp → Nat
  | .ecKeyPair | .ecSign | .kemKeyGen => 64
  | .kemEncaps | .dsaSign => 32
  | .ecdh | .ecVerify | .kemDecaps | .dsaKeyGen | .dsaVerify | .dsa87Verify | .hash => 0

/-- The verification of a pair of signatures: by a key pair of a device, an owner or a manager, and by Gizeltan's (R371). -/
def verifyOps : List PkeOp := [.ecVerify, .dsaVerify]
def gizeltanOps : List PkeOp := [.ecVerify, .dsa87Verify]

/-- Change the engine's queue: the first operation is in service, and of the others at most 32 wait in the engine (R371). -/
def setPkeQueue (q : List PkeTask) (s : State) : State :=
  ({ s with ke := { s.ke with queue := q } } : State).put 0x4400 Sub.ke_PKE_QUEUE_FILL (min 32 (q.length - 1))

/-- The operation at the head starts with its draw; one whose draw fails leaves the queue, and its user is answered (R371,
R373). -/
def pkeStart (s : State) : State × Option (PkeWho × Status) :=
  match s.ke.queue with
  | [] => (s, none)
  | t :: rest =>
    if t.op.draws = 0 then (s, none)
    else match drawRequest .pke t.op.draws s with
      | (.served b, s) => ({ s with ke := { s.ke with drawn := some b } }, none)
      | (.waits, s) => (s, none)
      | (.fails st, s) => (setPkeQueue rest s, some (t.who, st))

/-- Queue an operation; an idle engine starts it at once, and its draw can fail (R371, R373). -/
def pkeQueue (t : PkeTask) (s : State) : State × Option Status :=
  if s.ke.queue.isEmpty then
    let r := pkeStart (setPkeQueue [t] s)
    (r.1, r.2.map (·.2))
  else (setPkeQueue (s.ke.queue ++ [t]) s, none)

/-- A window's operation queues its operations, and completes with a status only where the first draw fails at once. -/
def pkeWindow (who : PkeWho) (ops : List PkeOp) (s : State) : State × Option Status :=
  match ops with
  | op :: rest => pkeQueue { op := op, who := who, rest := rest } s
  | [] => (s, none)

/-- `n` operations of the public-key engine are counted (R371). -/
def State.pkeCount (n : Nat) (s : State) : State := s.addOb 0x4400 Sub.ke_PKE_OPS 64 n

/-! ### Ephemeral contexts (R372) -/

def State.ephAt (s : State) (c : Nat) : Eph := mget {} s.ke.eph c
def State.putEph (c : Nat) (e : Eph) (s : State) : State := { s with ke := { s.ke with eph := minsert s.ke.eph c e } }

/-- The lowest context that is free (R372). -/
def State.freeEph (s : State) : Option Nat := firstNot (fun c => (mfind s.ke.eph c).isSome) 16 0

/-- A session uses the context: of a Knot handshake, or of a manager's. -/
def State.ephUsed (s : State) (c : Nat) : Bool :=
  s.ke.knot.any (fun x => x.2.ctx == c)
    || s.acc.sess.any (fun x => match x.2.shake with | some h => h.ctx == c | none => false)

/-- The user of an operation is still there: a window, or a session that has not ended. -/
def State.pkeWanted (s : State) (t : PkeTask) : Bool :=
  match t.who with
  | .knot k => (mfind s.ke.knot k).isSome
  | .hand k n => match (s.sessAt k).shake with | some h => h.serial == n | none => false
  | _ => true

/-- Operations of sessions that have ended leave the engine's queue; the one in service runs to its end (R371). -/
def pkeTrim (s : State) : State :=
  let q := s.ke.queue.take 1 ++ (s.ke.queue.drop 1).filter s.pkeWanted
  if q = s.ke.queue then s else setPkeQueue q s

/-- Contexts that no session uses any more are released: their values are zeroed, and operations of such sessions do not start
(R371, R372). -/
def ephRelease (s : State) : State :=
  pkeTrim { s with ke := { s.ke with eph := mdrop (fun c => !s.ephUsed c) s.ke.eph } }

/-- The result of an operation, kept in a context or with the signatures of a session. -/
def Eph.took (e : Eph) (op : PkeOp) (b : Bytes) : Eph :=
  match op with
  | .ecKeyPair => { e with ecSk := num b }
  | .kemKeyGen => { e with kemSk := num b }
  | .kemEncaps => { e with kemR := num b }
  | _ => e
def Knot.took (x : Knot) (op : PkeOp) (b : Bytes) : Knot :=
  match op with
  | .ecSign => { x with sigEc := num b }
  | .dsaSign => { x with sigDsa := num b }
  | _ => x

end Sys2Proof.Machine
end

