-- ==== Sys2Proof/Machine/Guard.lean ====
section
/-! DEFINITION. Control memory and the memory guard (chapter 15): protected ranges, their lines, counters and tree, the
Stagehand, and what every access ends in. The guard writes a changed counter line and its ancestors through to DDR; the
order in which a real cache writes them back is left open (log 21). -/

namespace Sys2Proof.Machine

/-! ### Ranges and their metadata (R514 to R517) -/

abbrev mgIx : Nat := 0x4A00
abbrev ddrIx : Nat := 0x4A01
abbrev rangeIx (r : Nat) : Nat := 0x4A10 + r

def State.rangeAt (s : State) (r : Nat) : GRange := mget {} s.guard.ranges r
def State.putRange (r : Nat) (g : GRange) (s : State) : State :=
  { s with guard := { s.guard with ranges := mset {} s.guard.ranges r g } }

/-- 2 MiB (R514). -/
abbrev mib2 : Nat := 2 ^ 21

/-- The pages of a range. -/
def GRange.pages (g : GRange) : Nat := 512 * g.size

/-- The nodes of a level of the counter tree over `n` pages (R517). -/
def treeNodes (n : Nat) : Nat → Nat
  | 0 => n
  | l + 1 => (treeNodes n l + 7) / 8

/-- The top level: the first with at most 2,048 nodes (R517). -/
def topLevel (n : Nat) : Nat :=
  if n ≤ 2048 then 0 else if treeNodes n 1 ≤ 2048 then 1 else if treeNodes n 2 ≤ 2048 then 2 else 3

def GRange.top (g : GRange) : Nat := topLevel g.pages

/-- The size of the metadata area in units of 2 MiB (R515). -/
def GRange.metaSize (g : GRange) : Nat := (g.size * 19 + 127) / 128

/-- The physical addresses of R516: the MAC of a data line, a counter line, a leaf MAC, a tree node. -/
def GRange.macAddr (g : GRange) (k : Nat) : Nat := g.metaBase * mib2 + 8 * k
def GRange.leafAddr (g : GRange) (p : Nat) : Nat := g.metaBase * mib2 + 576 * g.pages + 8 * p
def GRange.nodeAddr (g : GRange) (level i : Nat) : Nat :=
  if level = 0 then g.metaBase * mib2 + 512 * g.pages + 64 * i
  else g.metaBase * mib2 + 584 * g.pages + 64 * (((List.range level).map (treeNodes g.pages)).sum - g.pages + i)

/-- The address of a data line of a range. -/
def GRange.lineAddr (g : GRange) (k : Nat) : Nat := g.base * mib2 + 64 * k

/-- Two spans of 2 MiB units are apart. -/
def apart (a m b n : Nat) : Bool := decide (a + m ≤ b) || decide (b + n ≤ a)

/-- R515 for a range beside another: neither the ranges nor the metadata areas overlap. -/
def GRange.clear (a b : GRange) : Bool :=
  apart a.base a.size b.base b.size && apart a.base a.size b.metaBase b.metaSize
    && apart a.metaBase a.metaSize b.base b.size && apart a.metaBase a.metaSize b.metaBase b.metaSize

/-- R515 for a new range: within the fitted DDR, apart from its own metadata and from every other range. -/
def State.rangeFits (s : State) (r : Nat) (g : GRange) : Bool :=
  let top := s.ob ddrIx Sub.ddr_DDR_SIZE * 512
  decide (1 ≤ g.size) && decide (g.size ≤ 2048) && decide (g.base + g.size ≤ top)
    && decide (g.metaBase + g.metaSize ≤ top) && apart g.base g.size g.metaBase g.metaSize
    && s.guard.ranges.all (fun x => x.1 == r || !x.2.valid || g.clear x.2)

/-- What an address belongs to (R515, R521). -/
inductive DdrPlace where
  | free
  | data (r k : Nat)
  | metadata
  deriving DecidableEq, Repr

/-- Where an address lies. -/
def State.ddrPlace (s : State) (a : Nat) : DdrPlace :=
  let u := a / mib2
  match s.guard.ranges.find? (fun x => x.2.valid && decide (x.2.base ≤ u) && decide (u < x.2.base + x.2.size)) with
  | some x => .data x.1 ((a - x.2.base * mib2) / 64)
  | none =>
    if s.guard.ranges.any (fun x => x.2.valid && decide (x.2.metaBase ≤ u) && decide (u < x.2.metaBase + x.2.metaSize)) then
      .metadata
    else .free

/-! ### DDR contents -/

/-- A line of 64 octets. -/
def State.memLine (s : State) (a : Nat) : Bytes := mget (zeros 64) s.guard.mem (a / 64)

/-- Write a line; a written burst is good again (R512). -/
def State.putLine (a : Nat) (b : Bytes) (s : State) : State :=
  { s with guard := { s.guard with
      mem := mset (zeros 64) s.guard.mem (a / 64) (padTo 64 b)
      bad := s.guard.bad.filter (· != a / 64) } }

/-- The eight octets of a MAC. -/
def State.memMac (s : State) (a : Nat) : Nat := fld (s.memLine a) (a % 64) 8
def State.putMac (a v : Nat) (s : State) : State := s.putLine a (patch (s.memLine a) (a % 64) (be 8 v))

/-- The burst at an address is uncorrectable. -/
def State.burstBad (s : State) (a : Nat) : Bool := s.guard.bad.contains (a / 64)

/-- The complement of a MAC (R527). -/
def poisonMac (m : Nat) : Nat := 2 ^ 64 - 1 - m

/-! ### Line formats (R516 to R519) -/

/-- Major and minor counters of a counter line. -/
def ctrMajor (c : Bytes) : Nat := fld c 0 8
def ctrMinor (c : Bytes) (j : Nat) : Nat := bits (num c) (447 - 7 * j) (441 - 7 * j)
def setMinor (c : Bytes) (j v : Nat) : Bytes := be 64 (setBits (num c) (447 - 7 * j) (441 - 7 * j) v)

/-- A child's counter in a node. -/
def nodeCtr (c : Bytes) (i : Nat) : Nat := bits (num c) (511 - 56 * i) (456 - 56 * i)
def setNodeCtr (c : Bytes) (i v : Nat) : Bytes := be 64 (setBits (num c) (511 - 56 * i) (456 - 56 * i) v)

/-- A key of 256 bits as octets. -/
abbrev gkey (k : Nat) : Bytes := be 32 k

/-- The counter block of block `b` of a line (R518). -/
def counterBlock (major minor r b addr : Nat) : Bytes :=
  be 16 (major * 2 ^ 64 + minor * 2 ^ 57 + r * 2 ^ 53 + b * 2 ^ 51 + addr / 64 % 2 ^ 28)

/-- Encryption and decryption of a line under K_D (R518). -/
def lineCrypt (kd major minor r addr : Nat) (p : Bytes) : Bytes :=
  xorB p ((List.range 4).flatMap (fun b => aesEnc (gkey kd) (counterBlock major minor r b addr)))

/-- The 64-bit MAC of a line under a key and a nonce block (R518). -/
def lineMac (key : Nat) (line nonce : Bytes) : Nat :=
  (ghashInto (hashKey (gkey key)) 0 (padBlocks line) ^^^ num (aesEnc (gkey key) nonce)) / 2 ^ 64 % 2 ^ 64

/-- The data MAC (R518). -/
def dataMac (km major minor r addr : Nat) (c : Bytes) : Nat := lineMac km c (counterBlock major minor r 0 addr)

/-- The MAC of a counter line or node with its counter (R518). -/
def nodeMac (kt ctr r level i : Nat) (c : Bytes) : Nat :=
  lineMac kt (if level = 0 then c else c.take 56) (be 16 (ctr * 2 ^ 64 + r * 2 ^ 60 + level * 2 ^ 56 + i))

/-! ### The tree (R517 to R520) -/

/-- Put a line into the counter cache, newest first, 64 entries (R520). -/
def State.cachePut (r level i : Nat) (c : Bytes) (s : State) : State :=
  { s with guard := { s.guard with cache :=
      ((r, level, i, c) :: s.guard.cache.filter (fun x => !(x.1 == r && x.2.1 == level && x.2.2.1 == i))).take 64 } }

/-- A cached line. -/
def State.cacheGet (s : State) (r level i : Nat) : Option Bytes :=
  (s.guard.cache.find? (fun x => x.1 == r && x.2.1 == level && x.2.2.1 == i)).map (·.2.2.2)

/-- Drop a range's cached lines. -/
def State.cacheDrop (r : Nat) (s : State) : State :=
  { s with guard := { s.guard with cache := s.guard.cache.filter (fun x => x.1 != r) } }

/-- A node that fails: its level and index, and whether its MAC failed (R529). -/
structure NodeLoss where
  level : Nat
  idx : Nat
  mac : Bool
  deriving DecidableEq, Repr

/-- The stored MAC of a counter line or node. -/
def State.storedMac (s : State) (g : GRange) (level i : Nat) : Nat :=
  if level = 0 then s.memMac (g.leafAddr i) else fld (s.memLine (g.nodeAddr level i)) 56 8

/-- The burst of a node, or of a counter line or its leaf MAC, is uncorrectable. -/
def State.nodeBad (s : State) (g : GRange) (level i : Nat) : Bool :=
  s.burstBad (g.nodeAddr level i) || (level == 0 && s.burstBad (g.leafAddr i))

/-- A verified counter line or node: from the cache, or checked against its counter, taken from its parent or the root
store. `up` levels stand between it and the top (R518, R520). -/
def fetchNode (r : Nat) (g : GRange) : Nat → Nat → Nat → State → Except NodeLoss (Bytes × State)
  | up, level, i, s =>
    match s.cacheGet r level i with
    | some c => .ok (c, s)
    | none =>
      let counter : Except NodeLoss (Nat × State) := match up with
        | 0 => .ok (mget 0 g.root i, s)
        | u + 1 => match fetchNode r g u (level + 1) (i / 8) s with
          | .ok (c, t) => .ok (nodeCtr c (i % 8), t)
          | .error e => .error e
      match counter with
      | .error e => .error e
      | .ok (ctr, t) =>
        let c := t.memLine (g.nodeAddr level i)
        if t.nodeBad g level i then .error ⟨level, i, false⟩
        else if t.storedMac g level i ≠ nodeMac g.kt ctr r level i c then .error ⟨level, i, true⟩
        else .ok (c, t.cachePut r level i c)

/-- Write a counter line or node: its counter in the parent, or in the root store, rises by one, and so up to the root
(R519). -/
def writeNode (r : Nat) : Nat → Nat → Nat → Bytes → State → Except NodeLoss State
  | up, level, i, c, s =>
    let g := s.rangeAt r
    let store (ctr : Nat) (t : State) : State :=
      let m := nodeMac g.kt ctr r level i c
      let c := if level = 0 then c else c.take 56 ++ be 8 m
      let t := (t.putLine (g.nodeAddr level i) c).cachePut r level i c
      if level = 0 then t.putMac (g.leafAddr i) m else t
    match up with
    | 0 =>
      let ctr := (mget 0 g.root i + 1) % 2 ^ 64
      .ok (store ctr (s.putRange r { g with root := mset 0 g.root i ctr }))
    | u + 1 =>
      match fetchNode r g u (level + 1) (i / 8) s with
      | .error e => .error e
      | .ok (pc, t) =>
        let ctr := (nodeCtr pc (i % 8) + 1) % 2 ^ 56
        match writeNode r u (level + 1) (i / 8) (setNodeCtr pc (i % 8) ctr) t with
        | .error e => .error e
        | .ok t => .ok (store ctr t)

/-- The counter line of a page. -/
def State.counterLine (s : State) (r p : Nat) : Except NodeLoss (Bytes × State) :=
  fetchNode r (s.rangeAt r) (s.rangeAt r).top 0 p s

/-- Write the counter line of a page. -/
def writeCounter (r p : Nat) (c : Bytes) (s : State) : Except NodeLoss State := writeNode r (s.rangeAt r).top 0 p c s

/-! ### Alarms and events (R528 to R530, R534, R535) -/

/-- An uncorrectable data or MAC burst at an address (R528). -/
def ddrUe (a : Nat) (s : State) : State :=
  ((s.addOb ddrIx Sub.ddr_DDR_UE 32 1).raise 0x0D06 0xFF (be 1 (a / 256 % 2) ++ be 8 a)).alarm 0x3B 0

/-- A MAC that fails and is not poisoned (R528). -/
def macFailed (r a : Nat) (s : State) : State :=
  ((s.addOb mgIx Sub.guard_MG_INTEGRITY 32 1).raise 0x0D01 0xFF (be 1 r ++ be 8 a)).alarm 0x38 0

/-- A node is lost: the range is broken, or lost at the ninth loss (R529, R530). -/
def markLost (r : Nat) (e : NodeLoss) (s : State) : State :=
  let g := s.rangeAt r
  let s := if e.mac then s.alarm 0x38 0 else s
  let s := (s.alarm (if g.keyBearing then 0x3A else 0x39) 0).raise 0x0D02 0xFF (be 1 r ++ be 1 e.level ++ be 4 e.idx)
  if 8 ≤ g.lost.length then (s.putRange r { g with st := 5 }).raise 0x0D07 0xFF (be 1 r)
  else s.putRange r { g with st := 4, lost := g.lost ++ [(e.level, e.idx)] }

/-- A page lies beneath a lost node. -/
def GRange.beneathLost (g : GRange) (p : Nat) : Bool := g.lost.any (fun x => p / 8 ^ x.1 == x.2)

/-! ### Data lines (R518, R519, R525, R527) -/

/-- K_D and K_M for a page (R525). -/
def GRange.keysFor (g : GRange) (p : Nat) : Nat × Nat :=
  match g.split with
  | some (false, b) => if p < b then (g.kdNew, g.kmNew) else (g.kd, g.km)
  | _ => (g.kd, g.km)

/-- What a stored line turns out to be: its plaintext, and 0 good, 1 poisoned, 2 failed, 3 uncorrectable. -/
def State.checkLine (s : State) (r : Nat) (keys : Nat × Nat) (k : Nat) (ctr : Bytes) : Bytes × Nat :=
  let g := s.rangeAt r
  let a := g.lineAddr k
  let c := s.memLine a
  let m := dataMac keys.2 (ctrMajor ctr) (ctrMinor ctr (k % 64)) r a c
  let v := s.memMac (g.macAddr k)
  (lineCrypt keys.1 (ctrMajor ctr) (ctrMinor ctr (k % 64)) r a c,
   if s.burstBad a || s.burstBad (g.macAddr k) then 3 else if v = m then 0 else if v = poisonMac m then 1 else 2)

/-- Encrypt and store a line under the counters of `ctr`; a poisoned line gets the complement of its MAC (R518, R527). -/
def storeLine (r : Nat) (keys : Nat × Nat) (k : Nat) (ctr p : Bytes) (poisoned : Bool) (s : State) : State :=
  let g := s.rangeAt r
  let a := g.lineAddr k
  let c := lineCrypt keys.1 (ctrMajor ctr) (ctrMinor ctr (k % 64)) r a p
  let m := dataMac keys.2 (ctrMajor ctr) (ctrMinor ctr (k % 64)) r a c
  (s.putLine a c).putMac (g.macAddr k) (if poisoned then poisonMac m else m)

/-- Poison a line where it stands (R527). -/
def poisonLine (r : Nat) (keys : Nat × Nat) (k : Nat) (ctr : Bytes) (s : State) : State :=
  storeLine r keys k ctr (s.checkLine r keys k ctr).1 true s

/-- Every line of a page is read under `old` and written under `new` with the next major counter and zero minors; a line
that fails is written back poisoned (R523, R525). -/
def rewritePage (r p : Nat) (old new : Nat × Nat) (s : State) : Except NodeLoss State :=
  match s.counterLine r p with
  | .error e => .error e
  | .ok (ctr, s) =>
    let next := be 8 ((ctrMajor ctr + 1) % 2 ^ 64) ++ zeros 56
    let s := (List.range 64).foldl (fun t j =>
      let k := 64 * p + j
      let x := t.checkLine r old k ctr
      let a := (t.rangeAt r).lineAddr k
      let t := if x.2 = 2 then macFailed r a t else if x.2 = 3 then ddrUe a t else t
      storeLine r new k next x.1 (x.2 != 0) t) s
    writeCounter r p next s

/-- A node loss found on the way ends what was being done (R529). -/
def orLost (r : Nat) (x : Except NodeLoss State) (s : State) : State :=
  match x with
  | .ok t => t
  | .error e => markLost r e s

/-! ### Keys and the Stagehand (R524 to R526, R529) -/

/-- A range's keys from a draw: a re-key begins with new K_D and K_M (R524). -/
def rekeyBegin (r : Nat) (b : Bytes) (s : State) : State :=
  let g := s.rangeAt r
  (s.putRange r { g with st := 3, kdNew := fld b 0 32, kmNew := fld b 32 32, epochNew := 0, split := some (false, 0)
                         retry := false }).raise 0x0D03 0xFF (be 1 r ++ be 2 g.keyGen ++ be 1 1)

/-- A re-form begins with new K_D, K_M and K_T and a cleared root store (R529, R533). -/
def reformBegin (r : Nat) (b : Bytes) (s : State) : State :=
  let g := s.rangeAt r
  ((s.cacheDrop r).putRange r { g with
      st := 1, kd := fld b 0 32, km := fld b 32 32, kt := fld b 64 32, kdNew := 0, kmNew := 0, epoch := 0, epochNew := 0
      keyGen := 0, split := some (true, 0), lost := [], root := [], retry := false }).raise
    0x0D03 0xFF (be 1 r ++ be 2 0 ++ be 1 2)

/-- A re-key is due: new keys are drawn, or owed when no seed is available (R524). -/
def rekeyDue (r : Nat) (s : State) : State :=
  match drawRequest (.range r false false) 64 s with
  | (.served b, s) => rekeyBegin r b s
  | (.waits, s) => s
  | (.fails _, s) => (s.putRange r { s.rangeAt r with retry := true }).mark (Timer.seed r)

/-- The epoch threshold, tested in service (R524, R533). -/
def epochTest (r : Nat) (s : State) : State :=
  let g := s.rangeAt r
  if g.st = 2 ∧ s.ob mgIx Sub.guard_EPOCH_REKEY_AT ≤ g.epoch ∧ !g.retry
      ∧ !s.ke.ent.waiting.any (fun q => q.who == .range r false false) then rekeyDue r s else s

/-- A new `EPOCH_REKEY_AT` is tested on every range (R524). -/
def epochTests (s : State) : State := (List.range 16).foldl (fun t r => epochTest r t) s

/-- The boundary reaches the end (R524, R529). -/
def stagehandDone (r : Nat) (reform : Bool) (s : State) : State :=
  let g := s.rangeAt r
  let g := if reform then { g with st := 2, split := none }
    else { g with st := 2, split := none, kd := g.kdNew, km := g.kmNew, kdNew := 0, kmNew := 0, epoch := g.epochNew
                  epochNew := 0, keyGen := (g.keyGen + 1) % 2 ^ 16 }
  epochTest r ((s.putRange r g).raise 0x0D04 0xFF (be 1 r ++ be 2 g.keyGen ++ be 1 (if reform then 2 else 1)))

/-- Write a page as zeros with fresh counters, starting the nodes whose first page it is (R529). -/
def formPage (r p : Nat) (s : State) : Except NodeLoss State :=
  let g := s.rangeAt r
  let s := (List.range g.top).foldl (fun t l =>
    if p % 8 ^ (l + 1) = 0 then t.cachePut r (l + 1) (p / 8 ^ (l + 1)) (zeros 64) else t) s
  let s := (List.range 64).foldl (fun t j => storeLine r (g.kd, g.km) (64 * p + j) (zeros 64) (zeros 64) false t) s
  writeCounter r p (zeros 64) s

/-- The Stagehand's next page (R525, R529). -/
def movePage (r : Nat) (s : State) : State :=
  let g := s.rangeAt r
  match g.split with
  | none => s
  | some (reform, b) =>
    if !(g.valid && (g.st == 1 || g.st == 3)) || s.dark || s.rst.gap then s
    else
      match (if reform then formPage r b s else rewritePage r b (g.kd, g.km) (g.kdNew, g.kmNew) s) with
      | .error e => markLost r e s
      | .ok t =>
        if b + 1 < g.pages then t.putRange r { t.rangeAt r with split := some (reform, b + 1) }
        else stagehandDone r reform t

/-- How long the lines of a page take the Stagehand at `STAGEHAND_SHARE` of the DDR's peak bandwidth, two channels of 4 octets, in
nanoseconds: 148 lines of a re-key, 74 of a re-form (R526, R529). -/
def State.pageNs (s : State) (reform : Bool) : Nat :=
  let mts := 4000 + 400 * s.ob ddrIx Sub.ddr_DDR_SPEED_RUN
  (if reform then 74 else 148) * 64 * 100000 / (max 1 (s.ob mgIx Sub.guard_STAGEHAND_SHARE) * 8 * mts)

/-- `STAGEHAND_PAGE_MOVE`: within its share, or as fast as it can once the old keys' EPOCH is at its end (R526). -/
def pageMove (r : Nat) (s : State) : State :=
  let g := s.rangeAt r
  let reform := (g.split.map (·.1)).getD false
  if s.past Timer.page (s.pageNs reform) ∨ (g.st = 3 ∧ g.epoch = 2 ^ 32 - 1) then movePage r (s.mark Timer.page) else s

/-- A page re-encryption of R523: EPOCH of the key set in use rises. Above the boundary with the old keys' EPOCH at its
end, the Stagehand passes the page first (R526). -/
def pageReencrypt (r p : Nat) (s : State) : Except NodeLoss State :=
  let g := s.rangeAt r
  let b := (g.split.map (·.2)).getD 0
  let s := if g.st = 3 ∧ b ≤ p ∧ g.epoch = 2 ^ 32 - 1 then (List.range (p + 1 - b)).foldl (fun t _ => movePage r t) s else s
  let g := s.rangeAt r
  let keys := g.keysFor p
  match rewritePage r p keys keys s with
  | .error e => .error e
  | .ok t =>
    let g := t.rangeAt r
    let moved := g.st == 3 && decide (p < (g.split.map (·.2)).getD 0)
    let g := if moved then { g with epochNew := min (2 ^ 32 - 1) (g.epochNew + 1) }
      else { g with epoch := min (2 ^ 32 - 1) (g.epoch + 1) }
    .ok ((t.putRange r g).addOb mgIx Sub.guard_MG_PAGE_REENC 64 1)

/-- A data line is written: its minor counter rises by one, after a page re-encryption where it would pass 127 (R519,
R523). -/
def writeData (r k : Nat) (p : Bytes) (s : State) : Except NodeLoss State := do
  let (ctr, s) ← s.counterLine r (k / 64)
  let (ctr, s) ← if ctrMinor ctr (k % 64) = 127 then do
      let s ← pageReencrypt r (k / 64) s
      s.counterLine r (k / 64)
    else pure (ctr, s)
  let ctr := setMinor ctr (k % 64) (ctrMinor ctr (k % 64) + 1)
  let s := storeLine r ((s.rangeAt r).keysFor (k / 64)) k ctr p false s
  writeCounter r (k / 64) ctr s

/-! ### Accesses (R521, R522, R528) -/

/-- R521 permits the access. -/
def State.ddrPermits (s : State) (m : Master) (place : DdrPlace) (write : Bool) : Bool :=
  match m, place with
  | _, .metadata => false
  | .cores, _ => true
  | .lookaside, .free => true
  | .debug, .free => !write && s.fuse.lc == 1
  | _, .data .. => false

/-- The master's number in events and answers: 0 the cores, 1 lookaside, 2 debug (R535). -/
def Master.code : Master → Nat
  | .cores => 0
  | .lookaside => 1
  | .debug => 2

/-- A bus error (R522, R528). -/
def busError (x : DdrAccess) (s : State) : State := s.emit (.busData x.master.code x.addr none)
/-- A completed access. -/
def busDone (x : DdrAccess) (b : Bytes) (s : State) : State := s.emit (.busData x.master.code x.addr (some b))

/-- A blocked access (R522). -/
def blocked (m a : Nat) (s : State) : State :=
  (s.addOb mgIx Sub.guard_MG_BLOCKED 32 1).raise 0x0D05 0xFF (be 1 m ++ be 8 a)

/-- An access to memory outside every range (R515). -/
def plainAccess (x : DdrAccess) (s : State) : State :=
  let full := (x.data.map (fun d => x.addr % 64 == 0 && d.length == 64)).getD false
  if s.burstBad x.addr && !full then busError x (ddrUe x.addr s)
  else match x.data with
    | none => busDone x (s.memLine x.addr) s
    | some d => busDone x [] (s.putLine x.addr (patch (s.memLine x.addr) (x.addr % 64) d))

/-- The Lost row of R528 for a page. -/
def GRange.lostAt (g : GRange) (p : Nat) : Bool :=
  g.st == 5 || g.st == 0 || g.beneathLost p || (match g.split with
    | some (true, b) => decide (b ≤ p)
    | _ => false)

/-- The Lost row. -/
def lostRow (x : DdrAccess) (s : State) : State := busError x (s.addOb mgIx Sub.guard_MG_LOST_READS 32 1)

/-- The rows of R528 from ECC on, with the line's counter line at hand. -/
def lineAccess (x : DdrAccess) (r k : Nat) (ctr : Bytes) (s : State) : Except NodeLoss State :=
  let keys := (s.rangeAt r).keysFor (k / 64)
  let c := s.checkLine r keys k ctr
  let off := x.addr % 64
  if c.2 = 3 then .ok (busError x (ddrUe x.addr (poisonLine r keys k ctr s)))
  else match x.data with
    | some d =>
      if off = 0 ∧ d.length = 64 then (writeData r k d s).map (busDone x [])
      else if c.2 = 1 then .ok (busError x (s.addOb mgIx Sub.guard_MG_POISON_WRITES 32 1))
      else if c.2 = 2 then .ok (busError x (macFailed r x.addr (poisonLine r keys k ctr s)))
      else (writeData r k (patch c.1 off d) s).map (busDone x [])
    | none =>
      if c.2 = 1 then .ok (busError x (s.addOb mgIx Sub.guard_MG_POISON_READS 32 1))
      else if c.2 = 2 then .ok (busError x (macFailed r x.addr (poisonLine r keys k ctr s)))
      else .ok (busDone x c.1 (s.addOb mgIx Sub.guard_MG_READ_MISSES 64 1))

/-- An access of the control cores to a protected line (R520, R528, R529). -/
def guardedAccess (x : DdrAccess) (r k : Nat) (s : State) : State :=
  if (s.rangeAt r).lostAt (k / 64) then lostRow x s
  else
    let hit := x.data.isNone && (s.cacheGet r 0 (k / 64)).isSome
    match s.counterLine r (k / 64) with
    | .error e => lostRow x (markLost r e s)
    | .ok (ctr, t) =>
      let t := if hit then t.addOb mgIx Sub.guard_MG_CTR_HITS 64 1 else t
      match lineAccess x r k ctr t with
      | .ok t => epochTest r t
      | .error e => lostRow x (markLost r e t)

/-- Contents that changed in the DDR from outside, and bursts that prove uncorrectable (R512, R528). -/
def ddrDisturb (changed : List (Nat × Bytes)) (bad : List Nat) (s : State) : State :=
  let s := changed.foldl (fun t x => t.putLine x.1 x.2) s
  { s with guard := { s.guard with bad := s.guard.bad ++ (bad.map (· / 64)).filter (fun l => !s.guard.bad.contains l) } }

/-- `MG_ACCESS`: one access to DDR; `changed` and `bad` are what became of the DDR's contents before it (R521, R528). -/
def mgAccess (x : DdrAccess) (changed : List (Nat × Bytes)) (bad : List Nat) (s : State) : State :=
  let s := (ddrDisturb changed bad s).addOb ddrIx Sub.ddr_DDR_CE 64 x.fixed
  let place := s.ddrPlace x.addr
  if !s.ddrPermits x.master place x.data.isSome then busError x (blocked x.master.code x.addr s)
  else match place with
    | .data r k => guardedAccess x r k s
    | _ => plainAccess x s

/-- The bursts of the fitted DDR, and the time between two reads of the scrubber, in nanoseconds (R512). -/
def State.bursts (s : State) : Nat := s.ob ddrIx Sub.ddr_DDR_SIZE * 2 ^ 24
def State.patrolNs (s : State) : Nat := s.ob ddrIx Sub.ddr_DDR_SCRUB_H * 3600000000000 / s.bursts

/-- `DDR_PATROL_SCRUB`: the scrubber reads the next burst, each once per `DDR_SCRUB_H`: 0 good, 1 corrected and written back, 2
uncorrectable (R512). -/
def patrolScrub (found : Nat) (s : State) : State :=
  if s.bursts = 0 ∨ s.dark ∨ !s.past Timer.patrol s.patrolNs then s
  else
    let a := 64 * s.guard.patrol
    let s := ({ s with guard := { s.guard with patrol := (s.guard.patrol + 1) % s.bursts } } : State).mark Timer.patrol
    if found = 2 ∨ s.burstBad a then ddrUe a (ddrDisturb [] [a] s)
    else if found = 1 then s.addOb ddrIx Sub.ddr_DDR_CE 64 1
    else s

/-! ### REKEY and REFORM (R532, R533, R539) -/

/-- REKEY of a range (R533, R539). -/
def rgRekey (r : Nat) (s : State) : State × Option Status :=
  let g := s.rangeAt r
  if !g.valid ∨ g.st = 0 ∨ g.st = 4 ∨ g.st = 5 then (s, some .range)
  else if g.st = 1 ∨ g.st = 3 then (s, some .busy)
  else match drawRequest (.range r false true) 64 s with
    | (.served b, s) => (rekeyBegin r b s, some .ok)
    | (.waits, s) => (s, none)
    | (.fails st, s) => (s, some st)

/-- REFORM of a range (R529, R532, R533). -/
def rgReform (r : Nat) (s : State) : State × Option Status :=
  let g := s.rangeAt r
  if !g.valid then (s, some .range)
  else if g.keyBearing ∧ 3 ≤ s.alm.latch then (s, some .denied)
  else match drawRequest (.range r true true) 96 s with
    | (.served b, s) => (reformBegin r b s, some .ok)
    | (.waits, s) => (s, none)
    | (.fails st, s) => (s, some st)

/-- A draw for a range's keys is served (R524, R529). -/
def rangeDrawn (r : Nat) (reform asked : Bool) (b : Bytes) (s : State) : State :=
  let s := if reform then reformBegin r b s else if (s.rangeAt r).st = 2 then rekeyBegin r b s else s
  if asked then s.winEnd (rangeIx r) Sub.range_RG_STATUS .ok else s

/-- A draw for a range's keys fails (R524, R539). -/
def rangeFailed (r : Nat) (asked : Bool) (st : Status) (s : State) : State :=
  if asked then s.winEnd (rangeIx r) Sub.range_RG_STATUS st
  else (s.putRange r { s.rangeAt r with retry := true }).mark (Timer.seed r)

/-- `REKEY_SEED_RETRY`: every 10 ms a range that is owed new keys asks again (R524). -/
def seedRetry (r : Nat) (s : State) : State :=
  let g := s.rangeAt r
  if g.retry ∧ g.st = 2 ∧ s.past (Timer.seed r) 10000000 then rekeyDue r (s.putRange r { g with retry := false }) else s

/-- The firmware or the boot ROM forms a range (R514, R515). A range that R515 refuses is not formed. -/
def rangeForm (r base size metaBase : Nat) (keyBearing coreKeep : Bool) (s : State) : State :=
  let g : GRange := { valid := true, keyBearing := keyBearing, coreKeep := coreKeep, base := base, size := size
                      metaBase := metaBase }
  if 16 ≤ r ∨ !s.rangeFits r g then s
  else match drawRequest (.range r true false) 96 (s.putRange r g) with
    | (.served b, s) => reformBegin r b s
    | (_, s) => s

/-- CURTAIN or STRIKE: the keys and root store of every key-bearing range are zeroised and it is lost (R531). -/
def guardCurtain (s : State) : State :=
  (List.range 16).foldl (fun t r =>
    let g := t.rangeAt r
    if g.valid && g.keyBearing then
      ((t.cacheDrop r).putRange r { valid := true, keyBearing := true, coreKeep := g.coreKeep, st := 5, base := g.base
                                    size := g.size, metaBase := g.metaBase, keyGen := g.keyGen }).raise 0x0D07 0xFF (be 1 r)
    else t) s

/-- The 128-bit record of a range (R514). -/
def GRange.info (g : GRange) : Nat :=
  g.valid.toNat * 2 ^ 127 + g.keyBearing.toNat * 2 ^ 126 + g.coreKeep.toNat * 2 ^ 125 + g.st * 2 ^ 122 + g.base * 2 ^ 109
    + g.size % 2 ^ 12 * 2 ^ 97 + g.metaBase * 2 ^ 84
    + (if g.st = 1 ∨ g.st = 3 then (g.split.map (·.2)).getD 0 else 0) * 2 ^ 64 + g.epoch * 2 ^ 32 + g.keyGen * 2 ^ 16

/-! ### The commands -/

/-- `MG_ACCESS` (R528). -/
def execMgAccess (x : DdrAccess) (changed : List (Nat × Bytes)) (bad : List Nat) (s : State) : Out :=
  .next (mgAccess x changed bad s)

/-- `STAGEHAND_PAGE_MOVE` (R525). -/
def execStagehandPageMove (r : Nat) (s : State) : Out := .next (pageMove r s)

/-- `REKEY_SEED_RETRY` (R524). -/
def execRekeySeedRetry (r : Nat) (s : State) : Out := .next (seedRetry r s)

/-- `RG_REKEY` (R539). -/
def execRgRekey (c : Caller) (r : Nat) (s : State) : Out :=
  .next (rowWindowStart c (rangeIx r) Sub.range_RG_OP Sub.range_RG_STATUS 1 (rgRekey r) s)

/-- `RG_REFORM` (R529). -/
def execRgReform (c : Caller) (r : Nat) (s : State) : Out :=
  .next (rowWindowStart c (rangeIx r) Sub.range_RG_OP Sub.range_RG_STATUS 2 (rgReform r) s)

/-- `DDR_PATROL_SCRUB` (R512). -/
def execDdrPatrolScrub (found : Nat) (s : State) : Out := .next (patrolScrub found s)

end Sys2Proof.Machine
end

