-- ==== Sys2Proof/Machine/Vault.lean ====
section
/-! DEFINITION. Key custody (chapter 10): roots and derivation, KEK slots and handles, wrapped blobs, and the operations
of the custody window. -/

namespace Sys2Proof.Machine

/-! ### Roots and derivation (R326 to R333) -/

abbrev kwIx : Nat := 0x4001

/-- The alias key of a firmware by its measurement, and of the running one (R331). -/
def State.aliasOf (s : State) (meas : Bytes) : Nat × Nat :=
  seedKeys (kdf (be 32 s.fuse.dus) "ISF3204 ALIAS" (be 1 s.fuse.lc ++ s.ownerId ++ meas) 704)
def State.aliasKey (s : State) : Nat × Nat := s.aliasOf s.meas

/-- The storage KEK for a measurement; none while VS is empty (R328, R331). -/
def State.storageKek (s : State) (m : Bytes) : Option Nat :=
  s.alm.vs.map (fun vs => num (kdf (be 32 s.fuse.dus ++ be 32 vs) "ISF3204 STORAGE" (be 1 s.fuse.lc ++ s.ownerId ++ m) 256))

/-- A signature by both algorithms: 96 and 3,309 octets (R333, R357). -/
def signBoth (k : Nat × Nat) (m : Bytes) (r : Nat) : Bytes := Config.ecdsaSign k.1 m r ++ Config.mldsaSign k.2 m r

/-- Verification of both signatures of a pair of public keys in the form of R333. -/
def verifyBoth (pub m sig : Bytes) : Bool :=
  Config.ecdsaVerify (pub.take 97) m (sig.take 96) && Config.mldsaVerify 65 (pub.drop 97) m (sig.drop 96)

/-- Verification of a signature by Gizeltan, ECDSA P-384 and ML-DSA-87 (R349, R361). -/
def gizeltanSigned (m ec ml : Bytes) : Bool :=
  Config.ecdsaVerify Config.gizeltanEc m ec && Config.mldsaVerify 87 Config.gizeltanDsa m ml

/-- `ALIAS_ENDORSEMENT` of the running firmware (R333). -/
def State.endorse (r : Nat) (s : State) : State :=
  let b := be 2 0x4145 ++ be 1 1 ++ be 1 s.fuse.lc ++ be 2 (s.ob vaultIx Sub.vault_SVN) ++ zeros 2 ++ s.ownerId ++ s.meas
    ++ pairPub s.aliasKey
  s.putO vaultIx Sub.vault_ALIAS_ENDORSEMENT (b ++ signBoth s.identityNow b r)

/-! ### KEK slots and handles (R334 to R336) -/

def State.kekAt (s : State) (n : Nat) : KekSlot := mget {} s.vault.slots n
def State.putKek (n : Nat) (k : KekSlot) (s : State) : State :=
  { s with vault := { s.vault with slots := mset {} s.vault.slots n k } }

/-- The octets of a KEK. -/
def KekSlot.octets (k : KekSlot) : Bytes := if k.short then be 16 k.kek else be 32 k.kek

/-- The 32-bit record of a slot (R335). -/
def KekSlot.record (k : KekSlot) : Nat :=
  k.valid.toNat * 2 ^ 31 + k.kind * 2 ^ 28 + k.export_ * 2 ^ 26 + k.wrapOut.toNat * 2 ^ 25 + k.unwrapIn.toNat * 2 ^ 24
    + k.from_ * 2 ^ 18 + k.gen

/-- A slot zeroed, its generation one higher (R335). -/
def KekSlot.cleared (k : KekSlot) : KekSlot := if k.valid then { gen := nextGen k.gen } else k

/-- The receive lanes of enabled ports and FlexO groups, by index low byte (R430, R438). -/
def State.rxLanes (s : State) : List Nat :=
  s.slices.flatMap (fun sl =>
    ((List.range 8).map (8 * sl + ·)).filter (fun m => (s.portOfLane m).isSome)
    ++ (if s.otnMode sl = 0 then ((List.range 8).map (0x40 + 8 * sl + ·)).filter (fun m => (s.portOfLane m).isSome)
        else (s.carrierLanes sl).map (0x40 + 8 * sl + ·)))

/-- The conditions of R438. -/
def State.inSync (s : State) : Bool :=
  s.pair.mirrored && (s.kekAt 2).valid
    && s.slices.all (fun sl => decide (2 ≤ mget 0 s.pair.count sl) && !s.pair.aged.contains sl)
    && s.rxLanes.all (fun m => s.peerLos m || s.obB (Ix.lane m) Sub.lane_CDR_LOCK)

/-- The standby enters IN_SYNC, or leaves it (R438). -/
def syncTest (s : State) : State :=
  if !s.pairRuns ∨ s.roleOn ∨ (s.pairState ≠ 4 ∧ s.pairState ≠ 5) then s
  else if s.inSync then setPairState 5 s
  else if s.pairState = 5 then setPairState (if s.tetherUp then 4 else 0) s
  else s

/-- Clear a slot: without slot 2 a standby leaves IN_SYNC (R438). -/
def clearKek (n : Nat) (s : State) : State := syncTest (s.putKek n (s.kekAt n).cleared)

/-- Put a derived or established KEK into a slot: EXPORT = 0 and FROM_SLOT 0x3F; one that is derived from the roots is taken as
formed inside this device (R334, R335, log 114). -/
def placeKek (n kind kek : Nat) (wrapOut unwrapIn : Bool) (s : State) : State :=
  s.putKek n { valid := true, kind := kind, wrapOut := wrapOut, unwrapIn := unwrapIn, from_ := 0x3F, gen := (s.kekAt n).gen
               kek := kek, generated := decide (kind < 2) }

/-- The lowest free slot of 3 to 63 (R339). -/
def State.freeKek (s : State) : Option Nat := firstNot (fun n => (s.kekAt n).valid) 61 3

/-- Slot 0 is derived at a boot: only with VS present and below CURTAIN (R333). -/
def deriveSlot0 (s : State) : State :=
  let s := clearKek 0 s
  match s.storageKek s.meas with
  | some k => if s.alm.latch < 3 ∧ (s.fuse.lc = 1 ∨ s.fuse.lc = 2) then placeKek 0 0 k false true s else s
  | none => s

def State.bankAt (s : State) (i : Nat) : KeyEntry := mget {} s.vault.bank i
def State.putBank (i : Nat) (e : KeyEntry) (s : State) : State :=
  { s with vault := { s.vault with bank := mset {} s.vault.bank i e } }

/-- The kind of a handle (R336). -/
abbrev handleKind (h : Nat) : Nat := bits h 15 13
def kekHandle (n gen : Nat) : Nat := gen * 2 ^ 16 + 1 * 2 ^ 13 + n
def bankHandle (i gen : Nat) : Nat := gen * 2 ^ 16 + 2 * 2 ^ 13 + i

/-- A KEK-slot handle is live (R336). -/
def State.kekLive (s : State) (h : Nat) : Bool :=
  let k := s.kekAt (bits h 5 0)
  handleKind h == 1 && bits h 31 30 == 0 && bits h 12 6 == 0 && k.valid && k.gen == handleGen h

/-- A lookaside-bank handle is live (R336). -/
def State.bankLive (s : State) (h : Nat) : Bool :=
  let e := s.bankAt (bits h 7 0)
  handleKind h == 2 && bits h 31 30 == 0 && bits h 12 8 == 0 && e.valid && e.gen == handleGen h

/-- The live key-store or bank entry that a handle names: its slice, 4 for the bank, its index and the entry. -/
def State.entryOf (s : State) (h : Nat) : Option (Nat × Nat × KeyEntry) :=
  if s.handleLive (handleSlice h) h then some (handleSlice h, handleIndex h, s.keyAt (handleSlice h) (handleIndex h))
  else if s.bankLive h then some (4, bits h 7 0, s.bankAt (bits h 7 0))
  else none

/-- Write a key-store entry, or a bank entry where the slice is 4. -/
def State.putEntry (sl i : Nat) (e : KeyEntry) (s : State) : State := if sl = 4 then s.putBank i e else s.putKey sl i e

/-! ### Blobs (R337 to R341) -/

/-- The octets of the key that a TYPE carries (R338). -/
def blobKey (ty : Nat) : Nat := if ty = 1 ∨ ty = 5 ∨ ty = 7 then 16 else 32

/-- Where a TYPE goes: 0 key store, 1 KEK slot, 2 CAK table, 3 lookaside bank (R338). -/
def blobDest (ty : Nat) : Nat := if ty < 4 then 0 else if ty = 4 then 1 else if ty < 7 then 2 else 3

/-- USE of a key in its custody record (R343). -/
def blobUse (ty : Nat) : Nat := if ty = 3 then 1 else if 7 ≤ ty then 2 else 0

/-- The level that a TYPE's UNWRAP needs (R338). -/
def blobLevel (ty : Nat) : Nat := if 4 ≤ ty ∧ ty ≤ 6 then 2 else 1

/-- The fields of a header. -/
abbrev bType (h : Bytes) : Nat := fld h 3 1
abbrev bSlot (h : Bytes) : Nat := fld h 4 1
abbrev bPolicy (h : Bytes) : Nat := fld h 5 1

/-- The header's own target code; none where R339 refuses the header. -/
def headerTarget (h : Bytes) : Option Nat :=
  let sl := fld h 8 1
  let slot := fld h 9 1
  match blobDest (bType h) with
  | 0 => if slot = 0xFF ∧ (sl < 4 ∨ sl = 0xFF) then some sl else none
  | 1 => if sl = 0xFF ∧ (slot = 0xFF ∨ (3 ≤ slot ∧ slot ≤ 63)) then some (if slot = 0xFF then 0xFF else 0x40 + slot) else none
  | 2 => if sl = 0xFF ∧ slot = 0xFF then some 0xFF else none
  | _ => if sl = 0xFF ∧ slot = 0xFF then some 0xFE else none

/-- `KW_TARGET` is of a kind that a destination takes (R339). -/
def targetKind (dest kw : Nat) : Bool :=
  kw == 0xFF || (match dest with
    | 0 => decide (kw < 4)
    | 1 => decide (0x40 ≤ kw) && decide (kw < 0x80)
    | 2 => true
    | _ => kw == 0xFE)

/-- The Form row of R341 but for the target: the header is well formed and matches its body. -/
def headerForm (blob : Bytes) : Bool :=
  let h := blob.take 32
  let ty := bType h
  let p := bPolicy h
  h.length == 32 && fld h 0 2 == 0x47B1 && fld h 2 1 == 1 && decide (1 ≤ ty) && decide (ty ≤ 8)
    && fld h 10 2 == 0 && p % 32 == 0 && p / 64 != 3 && (!bit p 5 || ty == 4) && decide (bSlot h < 64)
    && fld h 6 2 == blobKey ty + 24 && blob.length == 32 + fld h 6 2

/-- The target of R339; none = the Form row fails. -/
def blobTarget (blob : Bytes) (kw : Nat) : Option Nat :=
  if !headerForm blob then none
  else match headerTarget (blob.take 32) with
  | none => none
  | some t =>
    let dest := blobDest (bType blob)
    if dest = 2 then some 0xFF
    else if !targetKind dest kw ∨ (t ≠ 0xFF ∧ kw ≠ 0xFF ∧ t ≠ kw) then none
    else some (if t = 0xFF then kw else t)

/-- The lowest free entry of a key store, or of the bank (R342). -/
def State.freeKey (s : State) (sl : Nat) : Option Nat :=
  if sl = 4 then firstNot (fun i => (s.bankAt i).valid) 256 0
  else firstNot (fun i => (s.keyAt sl i).valid || (s.keyAt sl i).held) 8192 0

/-- A place for a key: slice or bank (4) and index, or a KEK slot. -/
inductive KeyPlace where
  | entry (sl i : Nat)
  | kek (n : Nat)
  deriving DecidableEq, Repr

/-- The No room and Slot taken rows of R341 for a destination and a target. -/
def State.keyPlace (s : State) (dest target : Nat) : Except Status KeyPlace :=
  match dest with
  | 0 =>
    if target = 0xFF ∨ !s.sliceOn target then .error .range
    else match s.freeKey target with
      | some i => .ok (.entry target i)
      | none => .error .range
  | 1 =>
    if target = 0xFF then
      (match s.freeKek with
       | some n => .ok (.kek n)
       | none => .error .range)
    else if target < 0x43 ∨ 0x7F < target then .error .range
    else if (s.kekAt (target - 0x40)).valid then .error .busy
    else .ok (.kek (target - 0x40))
  | _ =>
    match s.freeKey 4 with
    | some i => .ok (.entry 4 i)
    | none => .error .range

/-- The header digest D (R340). -/
def headerDigest (h : Bytes) : Bytes := (sha384 h).take 16

/-- The body of R340 under a KEK. -/
def wrapBody (kek : Bytes) (h k : Bytes) : Bytes := kwpWrap kek (headerDigest h ++ k)

/-- The Bad wrap and Bad binding rows of R341: the key that a blob carries. -/
def unwrapBody (kek : Bytes) (blob : Bytes) : Option Bytes :=
  match kwpUnwrap kek (blob.drop 32) with
  | none => none
  | some p =>
    if p.length = 16 + blobKey (bType blob) ∧ p.take 16 = headerDigest (blob.take 32) then some (p.drop 16) else none

/-- What a key carries of its origin: TYPE, EXPORT, SERIAL, LABEL, the slot it came from, and for a KEK WRAP_OUT. -/
structure KeyMeta where
  ty : Nat
  export_ : Nat
  serial : Nat
  label : Nat
  from_ : Nat
  wrapOut : Bool
  deriving DecidableEq, Repr

/-- What a header says of its key. -/
def metaOf (h : Bytes) : KeyMeta :=
  ⟨bType h, bPolicy h / 64, fld h 12 4, fld h 16 16, bSlot h, bit (bPolicy h) 5⟩

/-- The custody record (R343). -/
def KeyMeta.record (m : KeyMeta) : Nat :=
  m.label * 2 ^ 64 + m.export_ * 2 ^ 62 + blobUse m.ty * 2 ^ 60 + m.ty * 2 ^ 52 + m.from_ * 2 ^ 46 + m.serial

/-- R346: a slot may wrap a key of an EXPORT policy; one of slots 0 to 2 that the policy allows and that is empty is not ready
(R328). -/
def State.mayWrap (s : State) (slot export_ : Nat) : Status :=
  let k := s.kekAt slot
  if 63 < slot then .range
  else if export_ = 0 then .denied
  else if slot < 3 then (if k.valid then .ok else .notReady)
  else if export_ = 2 ∧ k.wrapOut then .ok
  else .denied

/-- The header of a blob that the vault makes (R346). -/
def makeHeader (slot : Nat) (m : KeyMeta) (target : Nat) : Bytes :=
  be 2 0x47B1 ++ be 1 1 ++ be 1 m.ty ++ be 1 slot ++ be 1 (m.export_ * 64 + m.wrapOut.toNat * 32) ++ be 2 (blobKey m.ty + 24)
    ++ be 1 target ++ be 1 0xFF ++ zeros 2 ++ be 4 m.serial ++ be 16 m.label

/-- A blob under a slot (R340, R346). -/
def State.makeBlob (s : State) (slot : Nat) (m : KeyMeta) (k : Bytes) : Bytes :=
  let h := makeHeader slot m 0xFF
  h ++ wrapBody (s.kekAt slot).octets h k

/-- Place a key and answer its handle (R342, R343). -/
def putKeyAt (p : KeyPlace) (generated : Bool) (m : KeyMeta) (k : Bytes) (s : State) : Nat × State :=
  match p with
  | .kek n =>
    let g := (s.kekAt n).gen
    (kekHandle n g, s.putKek n { valid := true, kind := 3, export_ := m.export_, wrapOut := m.wrapOut, unwrapIn := true
                                 from_ := m.from_, gen := g, kek := num k, label := m.label, serial := m.serial
                                 generated := generated })
  | .entry sl i =>
    let old := if sl = 4 then s.bankAt i else s.keyAt sl i
    let e : KeyEntry := { valid := true, long := k.length == 32, generated := generated, gen := old.gen, refs := old.refs
                          h := num (aesEnc k (zeros 16)), key := num (padTo 32 k), record := m.record }
    (if sl = 4 then bankHandle i old.gen else handleOf sl old.gen i, s.putEntry sl i e)

/-- A SAK or sealed-ODU key that stands in a slice's key store is sent to the standby as a WRAP under slot 2, where its policy allows
it (R346, R427). -/
def mirrorKey (sl : Nat) (m : KeyMeta) (k : Bytes) (handle : Nat) (s : State) : State :=
  if s.mayWrap 2 m.export_ = .ok then mirror (.blob (s.makeBlob 2 m k) sl handle) s else s

/-- Place a key, which is mirrored, and answer its handle. -/
def placeKey (p : KeyPlace) (generated : Bool) (m : KeyMeta) (k : Bytes) (s : State) : Nat × State :=
  let r := putKeyAt p generated m k s
  match p with
  | .entry sl _ => if sl < 4 then (r.1, mirrorKey sl m k r.1 r.2) else r
  | .kek _ => r

/-- A life-cycle state in which the vault works for a level: all operations in OWNED, at Vendor level in VENDOR
(R359). -/
def State.vaultOpen (s : State) (level need : Nat) : Bool :=
  (s.fuse.lc == 2 && decide (need ≤ level)) || (s.fuse.lc == 1 && decide (3 ≤ level))

/-- A blob's KEK slot: the No KEK and Wrap-only rows of R341. -/
def State.blobKek (s : State) (blob : Bytes) : Except Status KekSlot :=
  let k := s.kekAt (bSlot blob)
  if !k.valid then .error .notReady else if !k.unwrapIn then .error .denied else .ok k

/-- The rows of R341 up to Form, for any destination. -/
def State.unwrapGate (s : State) (level : Nat) (blob : Bytes) : Except Status Unit :=
  if s.fuse.lc ≠ 1 ∧ s.fuse.lc ≠ 2 then .error .denied
  else if !s.vaultOpen level (blobLevel (bType blob)) then .error .denied
  else .ok ()

/-- The rows of R341, for a target of the custody window: a place, the key and what it carries. -/
def State.unwrapRows (s : State) (level : Nat) (blob : Bytes) (kw : Nat) : Except Status (KeyPlace × Bytes) := do
  s.unwrapGate level blob
  let t ← match blobTarget blob kw with
    | some t => Except.ok t
    | none => .error .range
  if blobDest (bType blob) = 2 then .error .range
  let k ← s.blobKek blob
  let p ← s.keyPlace (blobDest (bType blob)) t
  match unwrapBody k.octets blob with
  | some x => .ok (p, x)
  | none => .error .integrity

/-- The vault counter of a status (R341). -/
def vaultCounter (st : Status) : Nat :=
  match st with
  | .ok => Ctr.VAULT_UNWRAP_OK
  | .denied => Ctr.VAULT_DENIED
  | .notReady => Ctr.VAULT_NOT_READY
  | .busy => Ctr.VAULT_BUSY
  | .integrity => Ctr.VAULT_INTEGRITY
  | _ => Ctr.VAULT_RANGE

/-- Count an UNWRAP's outcome; the sixteenth INTEGRITY within a second raises the alarm (R341, R662). -/
def unwrapCount (st : Status) (s : State) : State :=
  let s := s.bump (Ctr.device + vaultCounter st)
  if st = .integrity then
    let now := s.time.periods
    let l := (s.vault.integ.filter (fun t => decide (now < t + 125000000))) ++ [now]
    if 16 ≤ l.length then ({ s with vault := { s.vault with integ := [] } } : State).alarm 0x28 0
    else { s with vault := { s.vault with integ := l } }
  else s

/-- UNWRAP of a blob: the status, the handle, and the state (R341, R552). -/
def unwrapBlob (level : Nat) (blob : Bytes) (kw : Nat) (s : State) : Status × Nat × State :=
  if s.held then (.denied, 0, s)
  else match s.unwrapRows level blob kw with
    | .error st => (st, 0, unwrapCount st s)
    | .ok (p, k) =>
      let r := placeKey p false (metaOf blob) k s
      (.ok, r.1, unwrapCount .ok r.2)

/-- KW_UNWRAP (R341, R367). -/
def kwUnwrapOp (level : Nat) (s : State) : State × Status :=
  let r := unwrapBlob level (s.oct kwIx Sub.kwWin_KW_BLOB) (s.ob kwIx Sub.kwWin_KW_TARGET) s
  if r.1 = .ok then (r.2.2.put kwIx Sub.kwWin_KW_HANDLE r.2.1, .ok) else (r.2.2, r.1)

/-! ### WRAP, REWRAP (R346, R347) -/

/-- What an entry carries (R343). -/
def KeyEntry.meta_ (e : KeyEntry) : KeyMeta :=
  ⟨bits e.record 59 52, bits e.record 63 62, bits e.record 31 0, bits e.record 191 64, bits e.record 51 46, false⟩

/-- What a KEK carries. -/
def KekSlot.meta_ (k : KekSlot) : KeyMeta := ⟨4, k.export_, k.serial, k.label, k.from_, k.wrapOut⟩

/-- The key that a live handle of any kind names, and what it carries. -/
def State.keyOf (s : State) (h : Nat) : Option (KeyMeta × Bytes) :=
  match s.entryOf h with
  | some (_, _, e) => some (e.meta_, e.octets)
  | none => if s.kekLive h then some ((s.kekAt (bits h 5 0)).meta_, (s.kekAt (bits h 5 0)).octets) else none

/-- WRAP: the blob, or the status (R346). -/
def State.wrapKey (s : State) (h slot : Nat) : Except Status Bytes :=
  match s.keyOf h with
  | none => .error .range
  | some (m, k) =>
    match s.mayWrap slot m.export_ with
    | .ok => .ok (s.makeBlob slot m k)
    | st => .error st

/-- KW_WRAP (R346). -/
def kwWrapOp (s : State) : State × Status :=
  match s.wrapKey (s.ob kwIx Sub.kwWin_KW_HANDLE) (s.ob kwIx Sub.kwWin_KW_SLOT) with
  | .ok b => (s.putO kwIx Sub.kwWin_KW_BLOB b, .ok)
  | .error st => (s, st)

/-- The rows of R341 for a REWRAP: every row but those of a destination (R347). -/
def State.rewrapRows (s : State) (level : Nat) (blob : Bytes) : Except Status Bytes := do
  s.unwrapGate level blob
  if !headerForm blob || (headerTarget (blob.take 32)).isNone then .error .range
  let k ← s.blobKek blob
  match unwrapBody k.octets blob with
  | some x => .ok x
  | none => .error .integrity

/-- KW_REWRAP (R347): a failing row of R341 is counted as R341 counts it. -/
def kwRewrapOp (level : Nat) (s : State) : State × Status :=
  let blob := s.oct kwIx Sub.kwWin_KW_BLOB
  match s.rewrapRows level blob with
  | .error st => (unwrapCount st s, st)
  | .ok k =>
    let m := metaOf blob
    let slot := s.ob kwIx Sub.kwWin_KW_SLOT
    match s.mayWrap slot m.export_ with
    | .ok => (s.putO kwIx Sub.kwWin_KW_BLOB (s.makeBlob slot m k), .ok)
    | st => (s, st)

/-! ### GENERATE (R345) -/

/-- The checks of a GENERATE: the place of the key. -/
def State.generateRows (s : State) (ty target slot export_ : Nat) : Except Status KeyPlace :=
  if ty = 0 ∨ 8 < ty ∨ ty = 5 ∨ ty = 6 then .error .range
  else if !targetKind (blobDest ty) target then .error .range
  else
    match (if slot = 0xFF then Status.ok else s.mayWrap slot export_) with
    | .ok => s.keyPlace (blobDest ty) target
    | st => .error st

/-- A GENERATE whose draw is served: the key is placed, counted, and wrapped where a slot was named (R345). -/
def generatePlace (ty target slot export_ : Nat) (k : Bytes) (s : State) : Status × Nat × State :=
  if s.held then (.denied, 0, s)
  else match s.generateRows ty target slot export_ with
  | .error st => (st, 0, s)
  | .ok p =>
    let s := s.addOb vaultIx Sub.vault_KEYS_GENERATED 32 1
    let m : KeyMeta := ⟨ty, export_, s.ob vaultIx Sub.vault_KEYS_GENERATED, 0, 0x3F, false⟩
    let r := placeKey p true m k s
    let s := r.2
    (.ok, r.1, if slot = 0xFF then s else s.putO kwIx Sub.kwWin_KW_BLOB (s.makeBlob slot m k))

/-- The custody window takes the result of a GENERATE. -/
def generateDone (ty target slot export_ : Nat) (k : Bytes) (s : State) : State × Status :=
  let r := generatePlace ty target slot export_ k s
  if r.1 = .ok then (r.2.2.put kwIx Sub.kwWin_KW_HANDLE r.2.1, .ok) else (r.2.2, r.1)

/-- KW_GENERATE (R345, R368, R552); none while its draw waits. -/
def kwGenerateOp (level : Nat) (s : State) : State × Option Status :=
  let ty := s.ob kwIx Sub.kwWin_KW_TYPE
  let target := s.ob kwIx Sub.kwWin_KW_TARGET
  let slot := s.ob kwIx Sub.kwWin_KW_SLOT
  let ex := s.ob kwIx Sub.kwWin_KW_EXPORT
  if !s.vaultOpen level (if ty = 4 then 2 else 1) ∨ s.held then (s, some .denied)
  else match s.generateRows ty target slot ex with
  | .error st => (s, some st)
  | .ok _ =>
    match drawRequest (.generate ty target slot ex) (blobKey ty) s with
    | (.served b, s) => let r := generateDone ty target slot ex b s; (r.1, some r.2)
    | (.waits, s) => (s, none)
    | (.fails st, s) => (s, some st)

/-! ### DESTROY, KEK_CLEAR, INFO (R348, R367) -/

/-- A lookaside job that is not idle names a handle (R348). -/
def State.jobNames (s : State) (h : Nat) : Bool :=
  (List.range 16).any (fun j => s.ob (0x4010 + j) Sub.job_JOB_STATE != 0 && (mget {} s.vault.jobs j).key == h)

/-- The handle names an entry that is held faulted (R130, R348). -/
def State.handleHeld (s : State) (h : Nat) : Bool :=
  handleKind h == 0 && (s.keyAt (handleSlice h) (handleIndex h)).held
    && (s.keyAt (handleSlice h) (handleIndex h)).gen == handleGen h

/-- KW_DESTROY (R348). -/
def kwDestroyOp (s : State) : State × Status :=
  let h := s.ob kwIx Sub.kwWin_KW_HANDLE
  if s.handleHeld h then (s, .busy)
  else match s.entryOf h with
  | none => (s, .range)
  | some (sl, i, e) =>
    if e.refs ≠ 0 ∨ (sl < 4 ∧ s.oduNames sl h) ∨ s.jobNames h then (s, .busy)
    else (s.putEntry sl i e.freed, .ok)

/-- KW_KEK_CLEAR (R348). -/
def kwKekClearOp (s : State) : State × Status :=
  let h := s.ob kwIx Sub.kwWin_KW_HANDLE
  if handleKind h ≠ 1 then (s, .range)
  else if bits h 5 0 < 3 then (s, .denied)
  else if !s.kekLive h then (s, .range)
  else (clearKek (bits h 5 0) s, .ok)

/-- KW_INFO (R367). -/
def kwInfoOp (s : State) : State × Status :=
  let h := s.ob kwIx Sub.kwWin_KW_HANDLE
  match s.entryOf h with
  | some (_, _, e) => (s.putO kwIx Sub.kwWin_KW_RECORD (be 24 e.record), .ok)
  | none =>
    if s.kekLive h then
      let k := s.kekAt (bits h 5 0)
      (s.putO kwIx Sub.kwWin_KW_RECORD (be 4 k.record ++ be 16 k.label ++ be 4 k.serial), .ok)
    else (s, .range)

/-! ### MIGRATE (R349 to R351) -/

/-- Form and zero fields of a manifest (R349). -/
def manifestForm (m : Bytes) : Bool :=
  m.length == 4831 && fld m 0 2 == 0x4D46 && fld m 2 1 == 1 && decide (fld m 3 1 < 2) && fld m 102 6 == 0

/-- The fields of a manifest. -/
abbrev mfAnyFrom (m : Bytes) : Bool := fld m 3 1 == 1
abbrev mfFrom (m : Bytes) : Bytes := sub m 4 48
abbrev mfTo (m : Bytes) : Bytes := sub m 52 48
abbrev mfSvn (m : Bytes) : Nat := fld m 100 2

/-- Gizeltan's signatures over a manifest verify (R349). -/
def manifestSigned (m : Bytes) : Bool := gizeltanSigned (m.take 108) (sub m 108 96) (sub m 204 4627)

/-- The checks of MIGRATE past the signatures (R350). -/
def State.migrateStatus (s : State) (m : Bytes) : Status :=
  if !manifestSigned m then .integrity
  else if !mfAnyFrom m ∧ mfFrom m ≠ s.meas then .denied
  else if mfSvn m < s.fuse.svn then .denied
  else if (s.kekAt 1).valid ∧ s.oct vaultIx Sub.vault_MIGRATE_TO ≠ mfTo m then .busy
  else if s.alm.vs.isNone then .notReady
  else .ok

/-- MIGRATE of a manifest: in a state that allows it (R350, R359). -/
def migrate (m : Bytes) (s : State) : State × Status :=
  if s.fuse.lc ≠ 1 ∧ s.fuse.lc ≠ 2 then (s, .denied)
  else if !manifestForm m then (s, .range)
  else
    match s.migrateStatus m with
    | .ok =>
      let s := placeKek 1 1 ((s.storageKek (mfTo m)).getD 0) false false s
      ((s.putO vaultIx Sub.vault_MIGRATE_TO (mfTo m)).raise 0x0903 0xFF [], .ok)
    | st => (s, st)

/-- MIGRATE once the engine has verified the manifest's signatures (R350, R552). -/
def migrateVerified (level : Nat) (manifest : Bytes) (s : State) : State × Status :=
  if !s.vaultOpen level 2 ∨ s.held then (s, .denied) else migrate manifest s

/-- KW_MIGRATE: the rows before the signatures, and then the engine (R350, R371, R552). -/
def kwMigrateOp (level : Nat) (s : State) : State × Option Status :=
  if !s.vaultOpen level 2 ∨ s.held ∨ (s.fuse.lc ≠ 1 ∧ s.fuse.lc ≠ 2) then (s, some .denied)
  else if !manifestForm (s.oct kwIx Sub.kwWin_KW_BLOB) then (s, some .range)
  else pkeWindow (.migrate level (s.oct kwIx Sub.kwWin_KW_BLOB)) gizeltanOps s

/-- KW_MIGRATE_END (R351). -/
def kwMigrateEndOp (s : State) : State × Status :=
  ((clearKek 1 s).putO vaultIx Sub.vault_MIGRATE_TO (zeros 48), .ok)

/-! ### QUOTE (R357, R358) -/

/-- KIND of the quote of a handle: 1 entry, 2 KEK slot, 3 device only for handle 0; none where no handle is of that
kind. -/
def quoteKind (h : Nat) : Option Nat :=
  if h = 0 then some 3 else if handleKind h = 1 then some 2
  else if handleKind h = 0 ∨ handleKind h = 2 then some 1 else none

/-- ATTR, TYPE and LABEL of a quoted handle (R357, R358). -/
def State.quoteAttr (s : State) (h : Nat) : Bytes :=
  let out (long gen : Bool) (ex use ty label : Nat) : Bytes :=
    be 1 (128 + long.toNat * 64 + gen.toNat * 32 + ex * 8 + use * 2) ++ be 1 ty ++ zeros 2 ++ be 16 label
  match s.entryOf h with
  | some (_, _, e) => out e.long e.generated (bits e.record 63 62) (bits e.record 61 60) (bits e.record 59 52)
      (bits e.record 191 64)
  | none =>
    if s.kekLive h then
      let k := s.kekAt (bits h 5 0)
      out (!k.short) k.generated k.export_ 3 k.kind k.label
    else zeros 20

/-- The 224 octets that a quote signs, for the firmware of a measurement and security version (R357). -/
def State.quoteBody (s : State) (kind h : Nat) (nonce meas : Bytes) (svn : Nat) : Bytes :=
  be 2 0x5154 ++ be 1 1 ++ be 1 kind ++ nonce ++ meas ++ be 1 s.fuse.lc ++ be 1 s.fuse.transfers
    ++ be 2 svn ++ s.ownerId ++ sha384 (pairPub (s.aliasOf meas)) ++ be 4 h ++ s.quoteAttr h
    ++ be 8 s.ns ++ be 4 s.vault.quotes ++ zeros 4

/-- A quote whose two signatures the engine has made, the first 64 octets drawn for the one and the rest for the other (R357,
R371); a core reset in between changes nothing of the firmware that it names (R364). -/
def quoteDone (h : Nat) (nonce meas : Bytes) (svn : Nat) (r : Bytes) (s : State) : State × Status :=
  let s := { s with vault := { s.vault with quotes := s.vault.quotes + 1 } }
  let b := s.quoteBody ((quoteKind h).getD 3) h nonce meas svn
  let k := s.aliasOf meas
  let sig := Config.ecdsaSign k.1 b (num (r.take 64)) ++ Config.mldsaSign k.2 b (num (r.drop 64))
  (s.putO kwIx Sub.kwWin_KW_BLOB (b ++ sig), .ok)

/-- KW_QUOTE (R357, R359). -/
def kwQuoteOp (level : Nat) (s : State) : State × Option Status :=
  let h := s.ob kwIx Sub.kwWin_KW_HANDLE
  let nonce := s.oct kwIx Sub.kwWin_KW_NONCE
  if !s.vaultOpen level 1 ∧ !(s.fuse.lc = 3 ∧ h = 0 ∧ 1 ≤ level) then (s, some .denied)
  else if quoteKind h = none then (s, some .range)
  else pkeWindow (.quote h nonce s.meas (s.ob vaultIx Sub.vault_SVN)) [.ecSign, .dsaSign] s

/-! ### Destruction (R362) -/

/-- The secret of every key-store entry, bank entry and KEK slot is zeroed and its generation rises; the tokens and jobs
go with them (R362). -/
def zeroiseVault (s : State) : State :=
  let gone (e : KeyEntry) : KeyEntry := if e.valid || e.held then e.freed else e
  { s with
    asc := { s.asc with keys := s.asc.keys.map (fun x => (x.1, gone x.2)) }
    vault := { s.vault with
      slots := s.vault.slots.map (fun x => (x.1, x.2.cleared))
      bank := s.vault.bank.map (fun x => (x.1, gone x.2))
      jobs := [], tokens := [] } }

/-! ### The custody window (R367, R368) -/

/-- An operation with a level of its own (R359, R368). -/
def State.kwGate (s : State) (level need : Nat) (act : State → State × Status) : State × Option Status :=
  if s.vaultOpen level need then let r := act s; (r.1, some r.2) else (s, some .denied)

/-- A custody operation by its code, for a caller's level; a REWRAP that is denied is counted as R341 counts it (R347). -/
def kwOp (level code : Nat) (s : State) : State × Option Status :=
  match code with
  | 1 => let r := kwUnwrapOp level s; (r.1, some r.2)
  | 2 => kwGenerateOp level s
  | 3 => s.kwGate level 1 kwWrapOp
  | 4 =>
    let r := if s.vaultOpen level 2 then kwRewrapOp level s else (unwrapCount .denied s, .denied)
    (r.1, some r.2)
  | 5 => s.kwGate level 1 kwDestroyOp
  | 6 => s.kwGate level 2 kwKekClearOp
  | 7 => kwMigrateOp level s
  | 8 => s.kwGate level 2 kwMigrateEndOp
  | 9 => kwQuoteOp level s
  | 10 => s.kwGate level 1 kwInfoOp
  | _ => (s, some .ok)

/-- A row of the custody window. -/
def rowKw (c : Caller) (code : Nat) (s : State) : State :=
  rowWindowStart c kwIx Sub.kwWin_KW_OP Sub.kwWin_KW_STATUS code (kwOp (s.levelOf c) code) s

/-- `KW_UNWRAP` (R341). -/
def execKwUnwrap (c : Caller) (s : State) : Out := .next (rowKw c 1 s)

/-- `KW_GENERATE` (R345). -/
def execKwGenerate (c : Caller) (s : State) : Out := .next (rowKw c 2 s)

/-- `KW_WRAP` (R346). -/
def execKwWrap (c : Caller) (s : State) : Out := .next (rowKw c 3 s)

/-- `KW_REWRAP` (R347). -/
def execKwRewrap (c : Caller) (s : State) : Out := .next (rowKw c 4 s)

/-- `KW_DESTROY` (R348). -/
def execKwDestroy (c : Caller) (s : State) : Out := .next (rowKw c 5 s)

/-- `KW_KEK_CLEAR` (R348). -/
def execKwKekClear (c : Caller) (s : State) : Out := .next (rowKw c 6 s)

/-- `KW_MIGRATE` (R350). -/
def execKwMigrate (c : Caller) (s : State) : Out := .next (rowKw c 7 s)

/-- `KW_MIGRATE_END` (R351). -/
def execKwMigrateEnd (c : Caller) (s : State) : Out := .next (rowKw c 8 s)

/-- `KW_QUOTE` (R357). -/
def execKwQuote (c : Caller) (s : State) : Out := .next (rowKw c 9 s)

/-- `KW_INFO` (R367). -/
def execKwInfo (c : Caller) (s : State) : Out := .next (rowKw c 10 s)

end Sys2Proof.Machine
end

