-- ==== Sys2Proof/Machine/Jobs.lean ====
section
/-! DEFINITION. Lookaside jobs (R352 to R355, R370): AES-GCM, AES-KW and AES-KWP over data that the engine moves by
DMA, and the records by which a paused job is saved and restored. -/

namespace Sys2Proof.Machine

/-- The index of a job context (R365). -/
abbrev jobIx (j : Nat) : Nat := 0x4010 + j

def State.jobAt (s : State) (j : Nat) : Job := mget {} s.vault.jobs j
def State.putJob (j : Nat) (x : Job) (s : State) : State :=
  { s with vault := { s.vault with jobs := mset {} s.vault.jobs j x } }

/-- `JOB_STATE`: 0 idle, 1 running, 2 paused, 3 done (R370). -/
def State.jobState (s : State) (j : Nat) : Nat := s.ob (jobIx j) Sub.job_JOB_STATE

/-- A caller may write a job context: the firmware, or a PCIe session that holds its claim (R352, R370). -/
def State.jobMay (s : State) (c : Caller) (j : Nat) : Bool :=
  match c with
  | .firmware => true
  | .session k => (s.sessAt k).port == 0 && mfind s.acc.claims (jobIx j) == some k

/-- The context goes to a state with its chaining state zeroed (R370). -/
def jobLeave (j st : Nat) (s : State) : State := (s.putJob j {}).put (jobIx j) Sub.job_JOB_STATE st

/-! ### The engine's accesses to the bus (R352, R521) -/

/-- The octets of DDR fitted: bus addresses below are DDR, others go over PCIe (log 22). -/
def State.ddrBytes (s : State) : Nat := s.ob ddrIx Sub.ddr_DDR_SIZE * 2 ^ 30

/-- The lines that a span of octets touches. -/
def linesOf (a len : Nat) : List Nat :=
  if len = 0 then [] else (List.range ((a % 64 + len + 63) / 64)).map (fun i => a / 64 * 64 + 64 * i)

/-- The octets of a span that lie in DDR. -/
def State.ddrPart (s : State) (a len : Nat) : Nat := min len (s.ddrBytes - a)

/-- An access of the engine to DDR that ends the job: one that R521 forbids, or a burst past correction. -/
def busStop (a len : Nat) (write : Bool) (s : State) : Option (Status × State) :=
  match (linesOf a len).find? (fun l => !s.ddrPermits .lookaside (s.ddrPlace l) write) with
  | some l => some (.denied, blocked 1 l s)
  | none =>
    match (linesOf a len).find? (fun l => s.burstBad l && !(write && decide (a ≤ l) && decide (l + 64 ≤ a + len))) with
    | some l => some (.integrity, ddrUe l s)
    | none => none

/-- Read `len` octets from bus address `a`; `ext` is what PCIe returns for the octets beyond DDR. -/
def busRead (a len : Nat) (ext : Bytes) (s : State) : Except (Status × State) Bytes :=
  let n := s.ddrPart a len
  match busStop a n false s with
  | some e => .error e
  | none => .ok (sub ((linesOf a n).flatMap s.memLine) (a % 64) n ++ padTo (len - n) ext)

/-- Write octets to bus address `a`. -/
def busWrite (j a : Nat) (b : Bytes) (s : State) : Except (Status × State) State :=
  let n := s.ddrPart a b.length
  match busStop a n true s with
  | some e => .error e
  | none =>
    let old := (linesOf a n).flatMap s.memLine
    let new := patch old (a % 64) (b.take n)
    let t := (linesOf a n).foldl (fun t l => t.putLine l (sub new (l - a / 64 * 64) 64)) s
    .ok (if n < b.length then t.emit (.jobOut j (a + n) (b.drop n)) else t)

/-! ### Parts of a job (R352, R353) -/

/-- The engine takes the addresses of the operation and its DMA runs (R465). -/
def jobBegin (j op : Nat) (x : Job) (s : State) : State × Option Status :=
  let o (sub : Nat) : Nat := s.ob (jobIx j) sub
  let y : Job := { x with op := op, was := s.jobState j, aadAddr := o Sub.job_JOB_AAD_ADDR, aadLen := o Sub.job_JOB_AAD_LEN
                          src := o Sub.job_JOB_SRC, dst := o Sub.job_JOB_DST, len := o Sub.job_JOB_LEN
                          tag := s.oct (jobIx j) Sub.job_JOB_TAG }
  ((s.putJob j y).put (jobIx j) Sub.job_JOB_STATE 1, none)

/-- JOB_LEN suits an operation: a multiple of 16 but at FINISH (R370). -/
def State.jobLenOk (s : State) (j : Nat) : Bool := s.ob (jobIx j) Sub.job_JOB_LEN % 16 == 0

/-- START (R352, R353). -/
def jobStart (j : Nat) (s : State) : State × Option Status :=
  if s.jobState j ≠ 0 ∧ s.jobState j ≠ 3 then (s, some .notIdle)
  else if !s.bankLive (s.ob (jobIx j) Sub.job_JOB_KEY) ∨ !s.jobLenOk j then (s, some .range)
  else jobBegin j 1 { mode := s.ob (jobIx j) Sub.job_JOB_MODE, key := s.ob (jobIx j) Sub.job_JOB_KEY
                      iv := s.oct (jobIx j) Sub.job_JOB_IV } s

/-- CONTINUE of a paused job (R352). -/
def jobContinue (j : Nat) (s : State) : State × Option Status :=
  if s.jobState j ≠ 2 then (s, some .notReady)
  else if !s.jobLenOk j then (s, some .range)
  else jobBegin j 2 (s.jobAt j) s

/-- FINISH of a paused job (R352). -/
def jobFinish (j : Nat) (s : State) : State × Option Status :=
  if s.jobState j ≠ 2 then (s, some .notReady) else jobBegin j 3 (s.jobAt j) s

/-- The octets of a job's key. -/
def State.jobKey (s : State) (x : Job) : Bytes := (s.bankAt (bits x.key 7 0)).octets

/-- A part of a GCM job: its output, and the job after it. -/
def gcmPart (key : Bytes) (x : Job) (aad d : Bytes) : Bytes × Job :=
  let out := xorB d (keystream key x.iv (x.pDone / 16) ((d.length + 15) / 16)).flatten
  let c := if x.mode = 1 then out else d
  (out, { x with y := ghashInto (hashKey key) x.y (padBlocks aad ++ padBlocks c), aDone := x.aDone + aad.length
                 pDone := x.pDone + d.length })

/-- The tag of a GCM job whose parts are done. -/
def gcmFinal (key : Bytes) (x : Job) : Bytes :=
  xorB (be 16 (ghashInto (hashKey key) x.y [be 8 (8 * x.aDone) ++ be 8 (8 * x.pDone)])) (aesEnc key (gcmCtr x.iv 0))

/-- The whole output of a KW or KWP job (R352). A length that its RFC does not allow is RANGE (log 22). -/
def wrapJob (key : Bytes) (mode : Nat) (d : Bytes) : Except Status Bytes :=
  let whole (r : Option Bytes) : Except Status Bytes := match r with
    | some p => .ok p
    | none => .error .integrity
  if mode = 3 then (if d.length % 8 = 0 ∧ 16 ≤ d.length then .ok (kwWrap key d) else .error .range)
  else if mode = 4 then (if d.length % 8 = 0 ∧ 24 ≤ d.length then whole (kwUnwrap key d) else .error .range)
  else if mode = 5 then (if d.length = 0 then .error .range else .ok (kwpWrap key d))
  else (if d.length % 8 = 0 ∧ 16 ≤ d.length then whole (kwpUnwrap key d) else .error .range)

/-- The window of a job completes. -/
def jobEnd (j : Nat) (st : Status) (s : State) : State := s.winEnd (jobIx j) Sub.job_JOB_STATUS st

/-- A job has run to its end. -/
def jobDone (j : Nat) (s : State) : State := jobEnd j .ok (jobLeave j 3 s)

/-- An operation of a job fails: the job stands as it did before, paused, or without the one that a START was to begin (R11). -/
def jobFail (j : Nat) (st : Status) (s : State) : State :=
  let x := s.jobAt j
  jobEnd j st ((s.putJob j (if x.op = 1 then {} else { x with op := 0 })).put (jobIx j) Sub.job_JOB_STATE x.was)

/-- A job pauses between parts. -/
def jobPause (j : Nat) (x : Job) (s : State) : State :=
  jobEnd j .ok ((s.putJob j { x with op := 0 }).put (jobIx j) Sub.job_JOB_STATE 2)

/-- The data of a GCM job's part is in the engine. -/
def gcmMoved (j : Nat) (x : Job) (aad d : Bytes) (s : State) : State :=
  let key := s.jobKey x
  let r := gcmPart key x aad d
  match busWrite j x.dst r.1 s with
  | .error e => jobFail j e.1 e.2
  | .ok s =>
    if x.op ≠ 3 then jobPause j r.2 s
    else
      let tag := gcmFinal key r.2
      if x.mode = 1 then jobDone j (s.putO (jobIx j) Sub.job_JOB_TAG tag)
      else if tag = x.tag then jobDone j s else jobFail j .integrity s

/-- The data of a KW or KWP job's part is in the engine; the whole input is processed at FINISH. -/
def wrapMoved (j : Nat) (x : Job) (d : Bytes) (s : State) : State :=
  if x.op ≠ 3 then jobPause j { x with part := x.part ++ d } s
  else match wrapJob (s.jobKey x) x.mode (x.part ++ d) with
    | .error st => jobFail j st s
    | .ok out =>
      match busWrite j x.dst out s with
      | .error e => jobFail j e.1 e.2
      | .ok s => jobDone j s

/-- The DMA of a job's part completes (R352, R522); `aad` and `data` are what PCIe supplied. -/
def jobDmaDone (j : Nat) (aad data : Bytes) (s : State) : State :=
  let x := s.jobAt j
  if x.op = 0 then s
  else
    let a := if x.op = 1 ∧ x.mode ≤ 2 then busRead x.aadAddr x.aadLen aad s else .ok []
    match a with
    | .error e => jobFail j e.1 e.2
    | .ok a =>
      match busRead x.src x.len data s with
      | .error e => jobFail j e.1 e.2
      | .ok d => if x.mode ≤ 2 then gcmMoved j x a d s else wrapMoved j x d s

/-! ### SAVE and RESTORE (R354, R355) -/

/-- Bytes 0 to 47 of a saved record (R354). -/
def jobRecord (x : Job) (slot token : Nat) : Bytes :=
  be 2 0x4A53 ++ be 1 1 ++ be 1 x.mode ++ be 4 x.key ++ x.iv ++ be 8 x.aDone ++ be 8 x.pDone ++ be 1 slot ++ zeros 3
    ++ be 8 token

/-- Bytes 48 to 111: KWP of D, Y, the partial block and its length (R354). -/
def jobBody (kek : Bytes) (x : Job) (h : Bytes) : Bytes :=
  kwpWrap kek ((sha384 h).take 16 ++ be 16 x.y ++ padTo 16 x.part ++ be 1 x.part.length ++ zeros 7)

/-- The record is written under the KEK slot that the operation took, and the context idles (R354, R465). -/
def jobSaved (j slot token : Nat) (s : State) : State :=
  let x := s.jobAt j
  let h := jobRecord x slot token
  jobLeave j 0 (s.putO (jobIx j) Sub.job_JOB_SAVE (h ++ jobBody (s.kekAt slot).octets x h))

/-- The token of an encrypt save is drawn; the table may have filled meanwhile (R355). -/
def tokenDone (j slot : Nat) (b : Bytes) (s : State) : State × Status :=
  if 64 ≤ s.vault.tokens.length then (s, .busy)
  else if !(s.kekAt slot).valid then (s, .notReady)
  else (jobSaved j slot (num b) { s with vault := { s.vault with tokens := s.vault.tokens ++ [num b] } }, .ok)

/-- SAVE (R354, R355). -/
def jobSave (j : Nat) (s : State) : State × Option Status :=
  let x := s.jobAt j
  let slot := s.ob (jobIx j) Sub.job_JOB_SAVE_SLOT
  if s.jobState j ≠ 2 then (s, some .notReady)
  else if 2 < x.mode then (s, some .range)
  else if !(s.kekAt slot).valid then (s, some .notReady)
  else if x.mode = 2 then (jobSaved j slot 0 s, some .ok)
  else if 64 ≤ s.vault.tokens.length then (s, some .busy)
  else match drawRequest (.token j slot) 8 s with
    | (.served b, s) => let r := tokenDone j slot b s; (r.1, some r.2)
    | (.waits, s) => (s, none)
    | (.fails st, s) => (s, some st)

/-- The form of a record (R354, R355). -/
def recordForm (r : Bytes) : Bool :=
  r.length == 112 && fld r 0 2 == 0x4A53 && fld r 2 1 == 1 && (fld r 3 1 == 1 || fld r 3 1 == 2)
    && (fld r 36 1 == 0 || fld r 36 1 == 2) && fld r 37 3 == 0 && (fld r 3 1 == 1 || fld r 40 8 == 0)

/-- RESTORE (R355). -/
def jobRestore (j : Nat) (s : State) : State × Status :=
  let r := s.oct (jobIx j) Sub.job_JOB_SAVE
  let k := s.kekAt (fld r 36 1)
  let token := fld r 40 8
  if s.jobState j ≠ 0 then (s, .notIdle)
  else if !recordForm r ∨ !s.bankLive (fld r 4 4) then (s, .range)
  else if !k.valid then (s, .notReady)
  else match kwpUnwrap k.octets (r.drop 48) with
    | none => (s, .integrity)
    | some p =>
      if p.length ≠ 56 ∨ p.take 16 ≠ (sha384 (r.take 48)).take 16 then (s, .integrity)
      else if fld r 3 1 = 1 ∧ !s.vault.tokens.contains token then (s, .denied)
      else
        let x : Job := { mode := fld r 3 1, key := fld r 4 4, iv := sub r 8 12, aDone := fld r 20 8, pDone := fld r 28 8
                         y := fld p 16 16, part := sub p 32 (fld p 48 1) }
        let v := if fld r 3 1 = 1 then { s.vault with tokens := s.vault.tokens.erase token } else s.vault
        ((({ s with vault := v } : State).putJob j x).put (jobIx j) Sub.job_JOB_STATE 2, .ok)

/-- Every job context returns to idle and its chaining state is zeroed; an operation that runs ends with `st` (R362,
R370). -/
def abortJobs (st : Status) (s : State) : State :=
  (List.range 16).foldl (fun s j =>
    let s := if s.winBusy (jobIx j) Sub.job_JOB_STATUS then jobEnd j st s else s
    if s.jobState j = 0 then s else jobLeave j 0 s) s

/-- The level at which a write of a job context is decided: R458's checks, then R370's. -/
def rowJob (c : Caller) (j code : Nat) (act : State → State × Option Status) (s : State) : State :=
  let j := j % 16
  rowWrite c (jobIx j) Sub.job_JOB_OP (.num code) (fun s =>
    if !s.jobMay c j then (s, .denied)
    else windowStart (jobIx j) Sub.job_JOB_OP Sub.job_JOB_STATUS code act s) s

/-- ABORT (R370). -/
def jobAbort (j : Nat) (s : State) : State × Status := (jobLeave j 0 s, .ok)

/-- A job operation by its code (R370). -/
def jobOp (j code : Nat) (s : State) : State × Option Status :=
  match code with
  | 1 => jobStart j s
  | 2 => jobContinue j s
  | 3 => jobFinish j s
  | 4 => jobSave j s
  | 5 => let r := jobRestore j s; (r.1, some r.2)
  | 6 => let r := jobAbort j s; (r.1, some r.2)
  | _ => (s, some .ok)

/-- `JOB_START` (R353). -/
def execJobStart (c : Caller) (j : Nat) (s : State) : Out := .next (rowJob c j 1 (jobOp (j % 16) 1) s)

/-- `JOB_CONTINUE` (R352). -/
def execJobContinue (c : Caller) (j : Nat) (s : State) : Out := .next (rowJob c j 2 (jobOp (j % 16) 2) s)

/-- `JOB_FINISH` (R352). -/
def execJobFinish (c : Caller) (j : Nat) (s : State) : Out := .next (rowJob c j 3 (jobOp (j % 16) 3) s)

/-- `JOB_SAVE` (R354). -/
def execJobSave (c : Caller) (j : Nat) (s : State) : Out := .next (rowJob c j 4 (jobOp (j % 16) 4) s)

/-- `JOB_RESTORE` (R355). -/
def execJobRestore (c : Caller) (j : Nat) (s : State) : Out := .next (rowJob c j 5 (jobOp (j % 16) 5) s)

/-- `JOB_ABORT` (R370). -/
def execJobAbort (c : Caller) (j : Nat) (s : State) : Out := .next (rowJob c j 6 (jobOp (j % 16) 6) s)

/-- `JOB_DMA_DONE` (R352). -/
def execJobDmaDone (j : Nat) (aad data : Bytes) (s : State) : Out := .next (jobDmaDone (j % 16) aad data s)

end Sys2Proof.Machine
end

