-- ==== Sys2Proof/Machine/Ke.lean ====
section
/-! DEFINITION. The CAK table, its window, and the moves of SAKs between the key store and MKA (R374 to R378, R401);
writes of the key-establishment objects (R400, R402). -/

namespace Sys2Proof.Machine

abbrev keIx : Nat := 0x4400
abbrev keWinIx : Nat := 0x4401

/-! ### The CAK table (R374) -/

def State.cakAt (s : State) (i : Nat) : Cak := mget {} s.ke.cak i
def State.putCak (i : Nat) (c : Cak) (s : State) : State := { s with ke := { s.ke with cak := mset {} s.ke.cak i c } }

/-- Bits [799:512] of an entry (R374). -/
def Cak.record (c : Cak) : Nat :=
  (c.valid.toNat * 2 ^ 31 + c.long.toNat * 2 ^ 30 + c.source * 2 ^ 28 + c.slot * 2 ^ 22 + c.cknLen * 2 ^ 16 + c.gen * 4)
    * 2 ^ 256 + c.ckn

/-- An entry zeroed, its generation one higher (R374). -/
def Cak.freed (c : Cak) : Cak := if c.valid then { gen := nextGen c.gen } else c

/-- The octets of an entry's ICK. -/
def Cak.ickOctets (c : Cak) : Bytes := if c.long then be 32 c.ick else be 16 (c.ick / 2 ^ 128)

/-- The lowest free entry (R376). -/
def State.freeCak (s : State) : Option Nat := firstNot (fun i => (s.cakAt i).valid) 256 0

/-- Place a CAK and its derived keys (R376, R388): the entry, with its KEK in a slot. -/
def placeCak (i n source cknLen : Nat) (ckn cak : Bytes) (s : State) : State :=
  let len := cak.length
  let context := padTo 16 (ckn.take 16)
  let ick := kdf8021x cak "IEEE8021 ICK" context len
  let kek := kdf8021x cak "IEEE8021 KEK" context len
  let s := s.putCak i { valid := true, long := len == 32, source := source, slot := n, cknLen := cknLen
                        gen := (s.cakAt i).gen, ckn := num (padTo 32 ckn), ick := num (padTo 32 ick)
                        cak := num (padTo 32 cak) }
  s.putKek n { valid := true, kind := 4, wrapOut := true, unwrapIn := true, from_ := 0x3F, gen := (s.kekAt n).gen
               kek := num kek, short := len == 16 }

/-- The firmware keeps what it has of a pre-shared CAK no longer (R375). -/
def forgetCak (i : Nat) (s : State) : State :=
  { s with ke := { s.ke with store := s.ke.store.map (fun x => (x.1, x.2.filter (·.entry != i))) } }

/-- Free an entry and clear its KEK slot (R377). -/
def freeCakEntry (i : Nat) (s : State) : State :=
  let c := s.cakAt i
  if c.valid then forgetCak i ((clearKek c.slot s).putCak i c.freed) else s

/-- The CAK table is zeroised (R372, R375). -/
def zeroiseCaks (s : State) : State := { s with ke := { s.ke with cak := s.ke.cak.map (fun x => (x.1, x.2.freed)) } }

/-! ### The CAK window (R376, R377, R401) -/

/-- The destination rows of R376: the entry and the slot. -/
def State.cakPlace (s : State) (cknLen slot : Nat) : Except Status (Nat × Nat) :=
  if cknLen < 1 ∨ 32 < cknLen then .error .range
  else match s.freeCak with
  | none => .error .range
  | some i =>
    if slot = 0xFF then
      (match s.freeKek with
       | some n => .ok (i, n)
       | none => .error .range)
    else if slot < 3 ∨ 63 < slot then .error .range
    else if (s.kekAt slot).valid then .error .busy
    else .ok (i, slot)

/-- The rows of R341 with the destination rows of R376. -/
def State.cakLoadRows (s : State) (level : Nat) (blob : Bytes) (cknLen slot : Nat) :
    Except Status ((Nat × Nat) × Bytes) := do
  s.unwrapGate level blob
  if !headerForm blob || (headerTarget (blob.take 32)).isNone || blobDest (bType blob) != 2 then .error .range
  let k ← s.blobKek blob
  let p ← s.cakPlace cknLen slot
  match unwrapBody k.octets blob with
  | some x => .ok (p, x)
  | none => .error .integrity

/-- The firmware keeps the blob of a pre-shared CAK, REWRAPped under slot 0, in the storage area of the image that runs (R375);
one that slot 0 may not wrap is not kept. -/
def keepCak (blob k : Bytes) (c : CakBlob) (s : State) : State :=
  let area := s.ob 0x0500 Sub.rstBoot_BOOT_SLOT
  if s.mayWrap 0 (metaOf blob).export_ = .ok then
    let l := (mget [] s.ke.store area).filter (·.entry != c.entry) ++ [{ c with blob := s.makeBlob 0 (metaOf blob) k }]
    { s with ke := { s.ke with store := minsert s.ke.store area l } }
  else s

/-- A kept CAK is loaded again after boot, unless its entry still holds it (R375). -/
def reloadCak (area : Nat) (c : CakBlob) (s : State) : State :=
  if (s.cakAt c.entry).valid then s
  else match unwrapBody (s.kekAt 0).octets c.blob, s.cakPlace c.cknLen c.slot with
    | some k, .ok (i, n) =>
      if (s.kekAt 0).valid then
        let s := placeCak i n 0 c.cknLen (c.ckn.take c.cknLen) k s
        let l := (mget [] s.ke.store area).map (fun x => if x = c then { c with entry := i } else x)
        { s with ke := { s.ke with store := minsert s.ke.store area l } }
      else s
    | _, _ => s

/-- The pre-shared CAKs that the firmware keeps are loaded again after boot, in their order (R375). -/
def reloadCaks (area : Nat) (s : State) : State := (mget [] s.ke.store area).foldl (fun t c => reloadCak area c t) s

/-- The kept CAKs of an image migrate into the storage area of a staged one: REWRAPped from slot 0 to slot 1 (R351). -/
def migrateCaks (from_ to_ : Nat) (s : State) : State :=
  let l := (mget [] s.ke.store from_).filterMap (fun c =>
    (unwrapBody (s.kekAt 0).octets c.blob).map (fun k => { c with blob := s.makeBlob 1 (metaOf c.blob) k }))
  { s with ke := { s.ke with store := minsert s.ke.store to_ l } }

/-- CAK_LOAD (R376, R552). -/
def cakLoad (level : Nat) (s : State) : State × Status :=
  let len := s.ob keWinIx Sub.keWin_KE_CKN_LEN
  if s.held then (s, .denied)
  else match s.cakLoadRows level (s.oct keWinIx Sub.keWin_KE_BLOB) len (s.ob keWinIx Sub.keWin_KE_KEK_SLOT) with
  | .error st => (unwrapCount st s, st)
  | .ok ((i, n), k) =>
    let blob := s.oct keWinIx Sub.keWin_KE_BLOB
    let ckn := (s.oct keWinIx Sub.keWin_KE_CKN).take len
    let s := keepCak blob k ⟨i, blob, ckn, len, s.ob keWinIx Sub.keWin_KE_KEK_SLOT⟩ (placeCak i n 0 len ckn k s)
    (unwrapCount .ok (s.put keWinIx Sub.keWin_KE_INDEX i), .ok)

/-- An `MKA_CAK` names the entry (R377). -/
def State.cakNamed (s : State) (i : Nat) : Bool :=
  (List.range 32).any (fun n => s.ob (Ix.kePort n) Sub.kePort_MKA_CAK == i)

/-- CAK_FREE (R377). -/
def cakFree (s : State) : State × Status :=
  let i := s.ob keWinIx Sub.keWin_KE_INDEX
  if s.cakNamed i then (s, .busy) else (freeCakEntry i s, .ok)

/-- INFO of an entry (R401). -/
def cakInfo (s : State) : State × Status :=
  (s.putO keWinIx Sub.keWin_KE_RECORD (be 36 (s.cakAt (s.ob keWinIx Sub.keWin_KE_INDEX)).record), .ok)

/-- An operation of the CAK window by its code. -/
def keOp (level code : Nat) (s : State) : State × Option Status :=
  let now (r : State × Status) : State × Option Status := (r.1, some r.2)
  match code with
  | 1 => now (cakLoad level s)
  | 2 => now (cakFree s)
  | 3 => now (cakInfo s)
  | _ => (s, some .ok)

/-- A row of the CAK window. -/
def rowKe (c : Caller) (code : Nat) (s : State) : State :=
  rowWindowStart c keWinIx Sub.keWin_KE_OP Sub.keWin_KE_STATUS code (keOp (s.levelOf c) code) s

/-! ### SAKs in and out (R378) -/

/-- The octets of a CAK entry's KEK. -/
def State.cakKek (s : State) (i : Nat) : Bytes := (s.kekAt (s.cakAt i).slot).octets

/-- SAK_EXPORT (R378). -/
def State.sakExport (s : State) (h i : Nat) : Except Status Bytes :=
  if !(s.cakAt i).valid then .error .range
  else if !s.sakLive (handleSlice h) h then .error .range
  else
    let e := s.keyAt (handleSlice h) (handleIndex h)
    if bits e.record 63 62 ≠ 2 then .error .denied else .ok (kwWrap (s.cakKek i) e.octets)

/-- SAK_IMPORT (R378). -/
def State.sakImport (s : State) (wrapped : Bytes) (i target export_ serial label : Nat) : Except Status Bytes :=
  let c := s.cakAt i
  if !c.valid then .error .range
  else if wrapped.length ≠ 24 ∧ wrapped.length ≠ 40 then .error .range
  else match kwUnwrap (s.cakKek i) wrapped with
    | none => .error .integrity
    | some k =>
      let h := makeHeader c.slot ⟨if k.length = 16 then 1 else 2, export_, serial, label, 0, false⟩ target
      .ok (h ++ wrapBody (s.cakKek i) h k)

/-- The result of an operation that only the firmware calls. -/
def fwAnswer (op : Nat) (r : Except Status Bytes) (s : State) : State :=
  match r with
  | .ok b => s.emit (.fwResult op .ok b)
  | .error st => s.emit (.fwResult op st [])

/-! ### Writes of this chapter's objects (R400, R402) -/

/-- `ID_CERT` verifies over `ID_PUB` under an owner's keys (R382, R400). -/
def State.certOk (s : State) (root cert : Bytes) : Bool := verifyBoth root s.idPub cert

/-- The SecY's client port is bound to line port or tributary `n` (R402). -/
def State.mkaSecyOk (s : State) (n y : Nat) : Bool :=
  y == 0xFFFF || (match s.secyPort (n / 8) y with
    | some c => decide (y < 2048) && s.boundTo c (n / 8) (n % 8)
    | none => false)

/-- `MKA_STATE` of a port. -/
def State.mkaState (s : State) (n : Nat) : Nat := s.ob (Ix.kePort n) Sub.kePort_MKA_STATE
def setMkaState (n v : Nat) (s : State) : State := s.put (Ix.kePort n) Sub.kePort_MKA_STATE v

/-- A write of an object of a line port or tributary but `KNOT_RUN`: three of them are refused while a peer lives (R402). -/
def mkaWrite (n sub_ v : Nat) (s : State) : State × Status :=
  if sub_ = Sub.kePort_MKA_SECY ∧ !s.mkaSecyOk n v then (s, .range)
  else if sub_ = Sub.kePort_MKA_CAK ∧ v ≠ 0xFFFF ∧ !(decide (v < 256) && (s.cakAt v).valid) then (s, .range)
  else if 1 < s.mkaState n ∧ (sub_ = Sub.kePort_MKA_MODE ∨ sub_ = Sub.kePort_MKA_SECY ∨ sub_ = Sub.kePort_MKA_CAK) then (s, .busy)
  else
    let s := s.put (Ix.kePort n) sub_ v
    (if sub_ = Sub.kePort_MKA_MODE then setMkaState n (if v = 0 then 0 else 1) s else s, .ok)

/-- An `ID_CERT` whose signatures the engine has verified: it is kept, or the write fails (R400). -/
def certStore (b : Bytes) (s : State) : State × Status :=
  if s.certOk (s.oct keIx Sub.ke_OWNER_ROOT_PUB) b then (s.putO keIx Sub.ke_ID_CERT b, .ok) else (s, .integrity)

/-- A write of `ID_CERT` waits for the engine (R371, R400); a block of writes for which the engine has made the verification already
is taken at once (R460). -/
def certWrite (c : Caller) (b : Bytes) (s : State) : State × Option Status :=
  if s.acc.verified then let r := certStore b s; (r.1, some r.2)
  else pkeWindow (.cert c.entry b) verifyOps s

/-- A write of an octet object of 0x4400 (R400). -/
def keOctWrite (c : Caller) (sub_ : Nat) (b : Bytes) (s : State) : State × Option Status :=
  if sub_ = Sub.ke_OWNER_ROOT_PUB ∧ sha384 b ≠ s.ownerId then (s, some .range)
  else if sub_ = Sub.ke_ID_CERT then certWrite c b s
  else (s.putO keIx sub_ b, some .ok)

/-! ### The commands -/

/-- `KE_CAK_LOAD` (R376). -/
def execKeCakLoad (c : Caller) (s : State) : Out := .next (rowKe c 1 s)

/-- `KE_CAK_FREE` (R377). -/
def execKeCakFree (c : Caller) (s : State) : Out := .next (rowKe c 2 s)

/-- `KE_INFO` (R401). -/
def execKeInfo (c : Caller) (s : State) : Out := .next (rowKe c 3 s)

/-- `SAK_EXPORT` (R378). -/
def execSakExport (h i : Nat) (s : State) : Out := .next (fwAnswer 1 (s.sakExport h i) s)

/-- `SAK_IMPORT` (R378). -/
def execSakImport (wrapped : Bytes) (i target export_ serial label : Nat) (s : State) : Out :=
  .next (fwAnswer 2 (s.sakImport wrapped i target export_ serial label) s)

end Sys2Proof.Machine
end

