-- ==== Sys2Proof/Machine/Knot.lean ====
section
/-! DEFINITION. The Knot handshake and its operations in the public-key engine (R371, R372, R382 to R389). -/

namespace Sys2Proof.Machine

/-! ### Sessions and places -/

def State.putKnot (k : Nat) (x : Knot) (s : State) : State := { s with ke := { s.ke with knot := minsert s.ke.knot k x } }
/-- The sessions that `gone` names end, and their contexts with them (R372). -/
def dropKnots (gone : Nat × Knot → Bool) (s : State) : State :=
  ephRelease { s with ke := { s.ke with knot := s.ke.knot.filter (fun x => !gone x) } }
def State.dropKnot (k : Nat) (s : State) : State := dropKnots (fun x => x.1 == k) s

/-- A new session takes the next number. -/
def State.addKnot (x : Knot) (s : State) : Nat × State :=
  (s.ke.nextKnot, ({ s with ke := { s.ke with nextKnot := s.ke.nextKnot + 1 } } : State).putKnot s.ke.nextKnot
    { x with heard := s.time.periods })

/-- Where no ephemeral context is free, INITs that only wait for a further peer give theirs up (R372, R382). -/
def contextRoom (s : State) : State := if s.freeEph.isNone then dropKnots (fun x => x.2.stage == .answered) s else s

/-- No ephemeral context is free (R372). -/
def State.knotFull (s : State) : Bool := s.freeEph.isNone

/-- The place of purpose 2: the Tether (R382). -/
abbrev tetherPlace : Nat := 32

/-- PURPOSE of a place (R382, R384). -/
abbrev purposeOf (place : Nat) : Nat := if place = tetherPlace then 2 else 1

/-- `KNOT_STATE` or `PAIR_KNOT_STATE` (R400, R402). -/
def setKnotState (place v : Nat) (s : State) : State :=
  if place = tetherPlace then s.put keIx Sub.ke_PAIR_KNOT_STATE v else s.put (Ix.kePort place) Sub.kePort_KNOT_STATE v

/-- A session of the place runs. -/
def State.knotRuns (s : State) (place : Nat) : Bool := s.ke.knot.any (fun x => x.2.place == place && x.2.stage != .answered)

/-- The local check of R382: a handshake may run. -/
def State.knotAllowed (s : State) : Bool :=
  let root := s.oct keIx Sub.ke_OWNER_ROOT_PUB
  s.fuse.lc == 2 && sha384 root == s.ownerId && s.certOk root (s.oct keIx Sub.ke_ID_CERT)

/-- The two verifications of that check, where it comes to them, are counted (R371, R400, log 23). -/
def knotChecked (s : State) : State :=
  if s.fuse.lc = 2 ∧ sha384 (s.oct keIx Sub.ke_OWNER_ROOT_PUB) = s.ownerId then s.pkeCount 2 else s

/-! ### Messages (R383, R384) -/

/-- The octets of a body and its segments, by MSG (R384). -/
def knotSize (msg : Nat) : Nat := match msg with | 1 => 1701 | 2 => 18179 | 3 => 16482 | 4 => 48 | _ => 4
def knotSegs (msg : Nat) : Nat := (knotSize msg + 1399) / 1400

/-- One segment with its header (R383). -/
def knotSegment (msg sid : Nat) (body : Bytes) (i : Nat) : Bytes :=
  let seg := sub body (1400 * i) 1400
  be 1 0x10 ++ be 1 msg ++ be 1 i ++ be 1 (knotSegs msg) ++ be 8 sid ++ be 2 seg.length ++ zeros 2 ++ seg

/-- A place can send: none while HOLD is in force, and a line port only where no row of R32 above normal traffic is (R32,
R398). -/
def State.knotSends (s : State) (place : Nat) : Bool := !s.held && (place == tetherPlace || s.ownSends place)

/-- Send a message (R383). -/
def knotSend (place msg sid : Nat) (da : Bytes) (body : Bytes) (s : State) : State :=
  if !s.knotSends place then s
  else (List.range (knotSegs msg)).foldl (fun t i =>
    let seg := knotSegment msg sid body i
    if place = tetherPlace then tetherSend 9 seg t
    else
      let f := da ++ t.oct (Ix.port (0x40 + place)) Sub.port_PAUSE_SA ++ be 2 0x88B6 ++ seg
      sendOwn place (.knot place f) f t) s

/-- Where a session sends: INIT to `KNOT_DA`, the rest to the other party (R382). -/
def State.knotDa (s : State) (x : Knot) : Bytes := x.peer.getD (s.oct keIx Sub.ke_KNOT_DA)

/-- REASON of a status, and the status of a REASON (R384). -/
def reasonOf (st : Status) : Nat :=
  match st with
  | .version => 1 | .denied => 2 | .integrity => 3 | .entropyFault => 4 | .notReady => 5 | .range => 6 | _ => 7
def statusOfReason (r : Nat) : Status :=
  match r with
  | 1 => .version | 2 => .denied | 3 => .integrity | 4 => .entropyFault | 5 => .notReady | 6 => .range | _ => .busy

/-- The body of ABORT. -/
def abortBody (st : Status) : Bytes := be 1 (reasonOf st) ++ zeros 3

/-- A session sends a message for the first time and waits in a stage; an INIT starts its time (R387). -/
def knotSay (k : Nat) (x : Knot) (stage : KnotStage) (msg : Nat) (body : Bytes) (s : State) : State :=
  (knotSend x.place msg x.sid (s.knotDa x) body s).putKnot k
    { x with stage := stage, lastMsg := msg, last := body, sends := 1, heard := s.time.periods
             began := if msg = 1 then s.time.periods else x.began }

/-! ### The end of a session (R387, R388) -/

/-- A session leaves; the INIT of one that a peer has answered stays open for further peers, while no other session holds it
(R382). -/
def knotLeave (k : Nat) (x : Knot) (s : State) : State :=
  let other := s.ke.knot.any (fun y => y.1 != k && y.2.place == x.place && y.2.init && y.2.sid == x.sid)
  match x.peer with
  | some p =>
    if x.init && x.init1 != [] && x.place != tetherPlace && !other then
      (s.putKnot k { x with stage := .answered, ops := [], seen := p :: x.seen, peer := none })
    else s.dropKnot k
  | none => s.dropKnot k

/-- A session ends with a status; `entry` is the CAK entry placed (R387). -/
def knotEnd (k : Nat) (x : Knot) (st : Status) (entry : Nat) (s : State) : State :=
  let s := knotLeave k x s
  let ok := decide (st = .ok)
  let s := setKnotState x.place (if s.knotRuns x.place then 1 else if ok then 2 else 3) s
  let s := if x.place = tetherPlace then s else s.put (Ix.kePort x.place) Sub.kePort_KNOT_LAST st.code
  s.raise (if ok then 0x0A01 else 0x0A02) 0xFF
    (be 1 (if x.place = tetherPlace then 0xFF else x.place) ++ be 1 (purposeOf x.place)
      ++ be 2 (if ok then entry else st.code))

/-- A session ends with ABORT to the other party, counted (R387). -/
def knotAbort (k : Nat) (x : Knot) (st : Status) (ctr : Nat) (s : State) : State :=
  let s := s.bump (Ctr.device + ctr)
  let s := if x.init ∧ x.peer.isNone ∧ x.place ≠ tetherPlace then s
    else knotSend x.place 5 x.sid (s.knotDa x) (abortBody st) s
  knotEnd k x st 0 s

/-- The operation of a window in the engine completes with a status (R364). -/
def pkeDeny (st : Status) (w : PkeWho) (s : State) : State :=
  match w with
  | .quote _ _ _ _ | .migrate _ _ => s.winEnd kwIx Sub.kwWin_KW_STATUS st
  | .ticket _ _ => s.winEnd 0x4002 Sub.lcWin_LC_STATUS st
  | .cert who _ => s.finish who keIx Sub.ke_ID_CERT st
  | .knot _ | .hand _ _ => s

/-- The operation is a window's, which runs to its end through a core reset (R364). -/
def PkeTask.window (t : PkeTask) : Bool :=
  match t.who with
  | .quote _ _ _ _ | .migrate _ _ | .ticket _ _ | .cert _ _ => true
  | .knot _ | .hand _ _ => false

/-- The operation is a MIGRATE. -/
def PkeTask.migrates (t : PkeTask) : Bool :=
  match t.who with
  | .migrate _ _ => true
  | _ => false

/-- The operations of windows start in turn: one whose draw fails completes with that status. -/
def windowsGo : Nat → State → State
  | 0, s => s
  | n + 1, s =>
    match pkeStart s with
    | (s, some (w, st)) => windowsGo n (pkeDeny st w s)
    | (s, none) => s

/-- Every session is abandoned, and the engine's contexts and queue with it: CURTAIN, STRIKE, a core reset (R372, R398). The
operations of windows stay in the queue where `windows` says so, but for a MIGRATE, which has ended (R364). -/
def knotAbandon (windows : Bool) (s : State) : State :=
  let s := s.ke.knot.foldl (fun t x => setKnotState x.2.place 0 t) s
  let q := s.ke.queue.filter (fun t => windows && t.window && !t.migrates)
  let goes := decide (q.head? = s.ke.queue.head?)
  let s := { s with ke := { s.ke with knot := [], parts := [], eph := [] } }
  if goes then setPkeQueue q s
  else windowsGo 33 (setPkeQueue q (dropWaiting (· == .pke) { s with ke := { s.ke with drawn := none } }))

/-- The operations of windows in the engine's queue complete DENIED (R364). -/
def pkeDenied (s : State) : State := s.ke.queue.foldl (fun t x => pkeDeny .denied x.who t) s

/-! ### The key schedule (R384, R385) -/

namespace Knot

def initPub (x : Knot) : Bytes := sub x.init1 36 97
def ek (x : Knot) : Bytes := x.init1.drop 133
def nonceI (x : Knot) : Bytes := sub x.init1 4 32
def nonceR (x : Knot) : Bytes := x.resp.take 32
def respPub (x : Knot) : Bytes := sub x.resp 32 97
def ct (x : Knot) : Bytes := sub x.resp 129 1568
def protR (x : Knot) : Bytes := x.resp.drop 1697

/-- PRK, of a session with its ephemeral context (R385). -/
def prk (x : Knot) (e : Eph) : Bytes :=
  let ec := if x.init then Config.ecdh e.ecSk x.respPub else Config.ecdh e.ecSk x.initPub
  let kem := if x.init then Config.kemOpen e.kemSk x.ct else Config.kemSecret e.kemR x.ek
  hmac384 (x.nonceI ++ x.nonceR) (kem ++ ec)

/-- The transcript hashes (R385). -/
def th1 (x : Knot) : Bytes := sha384 (x.init1 ++ x.resp.take 1697)
def th2 (x : Knot) : Bytes := sha384 (x.th1 ++ x.protR)
def th3 (x : Knot) : Bytes := sha384 (x.th2 ++ x.auth)

/-- The derived keys (R385). -/
def kRhs (x : Knot) (e : Eph) : Bytes := kdf (x.prk e) "KNOT R HS" x.th1 256
def kIhs (x : Knot) (e : Eph) : Bytes := kdf (x.prk e) "KNOT I HS" x.th1 256
def done (x : Knot) (e : Eph) : Bytes := hmac384 (kdf (x.prk e) "KNOT CONFIRM" x.th3 384) x.th3
def cak (x : Knot) (e : Eph) : Bytes := kdf (x.prk e) "KNOT CAK" x.th3 256
def ckn (x : Knot) (e : Eph) : Bytes := kdf (x.prk e) "KNOT CKN" x.th3 256
def pair (x : Knot) (e : Eph) : Bytes := kdf (x.prk e) "KNOT PAIR" x.th3 256

end Knot

/-- AES-256-GCM with an IV of zeros and no AAD (R384). -/
def protSeal (key p : Bytes) : Bytes :=
  let c := gcmCrypt key (zeros 12) p
  c ++ gcmTag key (hashKey key) (zeros 12) [] c
def protOpen (key b : Bytes) : Option Bytes :=
  let c := b.take (b.length - 16)
  if gcmTag key (hashKey key) (zeros 12) [] c = b.drop (b.length - 16) then some (gcmCrypt key (zeros 12) c) else none

/-- CRED of this unit (R384). -/
def State.cred (s : State) : Bytes :=
  s.idPub ++ s.oct keIx Sub.ke_OWNER_ROOT_PUB ++ s.oct keIx Sub.ke_ID_CERT ++ s.oct vaultIx Sub.vault_ALIAS_ENDORSEMENT

/-- What SIG covers (R384). -/
def sigCovers (th cred : Bytes) (end_ : Nat) : Bytes := th ++ sha384 cred ++ be 1 end_

/-- PROT of this unit (R384). -/
def State.prot (s : State) (x : Knot) (key th : Bytes) (end_ : Nat) : Bytes :=
  let m := sigCovers th s.cred end_
  protSeal key (s.cred ++ Config.ecdsaSign s.aliasKey.1 m x.sigEc ++ Config.mldsaSign s.aliasKey.2 m x.sigDsa)

/-- The endorsement checks of R386 past the signature: its policy, and the peer of a pair. -/
def State.endorsePolicy (s : State) (place : Nat) (idPub e : Bytes) : Bool :=
  let list := s.oct keIx Sub.ke_KNOT_MEAS_LIST
  let want := s.oct keIx Sub.ke_PAIR_PEER_ID
  decide (s.ob keIx Sub.ke_KNOT_MIN_SVN ≤ fld e 4 2)
    && (list.all (· == 0) || (List.range 16).any (fun i => sub list (48 * i) 48 == sub e 56 48))
    && (place != tetherPlace || want.all (· == 0) || sha384 idPub == want)

/-- The checks of R386 of one level, over the opened PROT: 0 = decryption and trust, 1 = ID_CERT, 2 = the endorsement,
3 = SIG over `m`. -/
def State.credCheck (s : State) (place level : Nat) (p : Option Bytes) (th : Bytes) (end_ : Nat) : Status :=
  match p with
  | none => .integrity
  | some p =>
    let idPub := p.take 2049
    let root := sub p 2049 2049
    let e := sub p 7503 5558
    let trust := s.oct keIx Sub.ke_KNOT_TRUST
    let id := sha384 root
    match level with
    | 0 =>
      if id = s.ownerId ∨ (List.range 8).any (fun i => let t := sub trust (48 * i) 48; t == id && t.any (· != 0)) then .ok
      else .denied
    | 1 => if verifyBoth root idPub (sub p 4098 3405) then .ok else .integrity
    | 2 =>
      if !verifyBoth idPub (e.take 2153) (e.drop 2153) || sub e 8 48 != id || fld e 3 1 != 2 then .integrity
      else if s.endorsePolicy place idPub e then .ok
      else .denied
    | _ => if verifyBoth (sub e 104 2049) (sigCovers th (p.take 13061) end_) (p.drop 13061) then .ok else .integrity

/-! ### Placement (R388) -/

/-- MKA of a line index starts anew on the CAK bound now. -/
def mkaRestart (n : Nat) (s : State) : State :=
  let up := s.ob (Ix.kePort n) Sub.kePort_MKA_PEERS != 0
  let s := ({ s with ke := { s.ke with mka := merase s.ke.mka n } } : State).put (Ix.kePort n) Sub.kePort_MKA_PEERS 0
  let s := setMkaState n (if s.ob (Ix.kePort n) Sub.kePort_MKA_MODE = 0 then 0 else 1) s
  if up then s.raise 0x0A04 0xFF (be 1 n ++ be 2 0) else s

/-- A session's outputs are placed: the CAK entry, or none where there is no room (R385, R388). -/
def knotPlace (x : Knot) (s : State) : Option (Nat × State) :=
  let e := s.ephAt x.ctx
  if x.place = tetherPlace then some (0xFFFF, placeKek 2 2 (num (x.pair e)) false true (clearKek 2 s))
  else match s.cakPlace 32 0xFF with
  | .error _ => none
  | .ok (i, n) =>
    let old := s.ob (Ix.kePort x.place) Sub.kePort_MKA_CAK
    let s := placeCak i n 1 32 (x.ckn e) (x.cak e) s
    let s := if old < 256 ∧ (s.cakAt old).source = 1 then
        { s with ke := { s.ke with retired := s.ke.retired ++ [(x.place, old, (s.cakAt old).gen)] } } else s
    some (i, mkaRestart x.place (s.put (Ix.kePort x.place) Sub.kePort_MKA_CAK i))

/-! ### The engine (R371 to R373) -/

/-- A draw of a session fails: ABORT with the status (R387). -/
def knotEntropy (k : Nat) (st : Status) (s : State) : State :=
  match mfind s.ke.knot k with
  | some x => knotAbort k x st Ctr.KNOT_ENTROPY s
  | none => s

/-- A session queues an operation (R371); where its draw fails at once, it ends (R387). -/
def knotQueue (op : PkeOp) (k : Nat) (s : State) : State :=
  match pkeQueue { op := op, who := .knot k } s with
  | (s, some st) => knotEntropy k st s
  | (s, none) => s

/-- A session enters a stage with operations for the engine. -/
def knotWork (k : Nat) (x : Knot) (stage : KnotStage) (ops : List PkeOp) (s : State) : State :=
  let s := s.putKnot k { x with stage := stage, ops := ops }
  match ops with
  | op :: _ => knotQueue op k s
  | [] => s

/-- The operations of each stage, in order (R384 to R386): of a credential, the signatures of ID_CERT, of the endorsement, and
SIG. -/
def keysOps : List PkeOp := [.ecKeyPair, .kemKeyGen]
def credOps : List PkeOp := verifyOps ++ verifyOps ++ verifyOps
def respOps : List PkeOp := [.ecKeyPair, .ecdh, .kemEncaps, .ecSign, .dsaSign]
def checkOps : List PkeOp := [.ecdh, .kemDecaps] ++ credOps ++ [.ecSign, .dsaSign]

/-- The check that follows an operation, when `n` of the stage are left (R372, R386). -/
def State.stageCheck (s : State) (x : Knot) (n : Nat) : Status :=
  let okIf (b : Bool) : Status := if b then .ok else .integrity
  let cred (level : Nat) : Status :=
    if x.init then s.credCheck x.place level (protOpen (x.kRhs (s.ephAt x.ctx)) x.protR) x.th1 0x52
    else s.credCheck x.place level (protOpen (x.kIhs (s.ephAt x.ctx)) x.auth) x.th2 0x49
  match x.stage, n with
  | .checkResp, 9 => okIf (Config.ecdhOk x.respPub)
  | .checkResp, 8 => cred 0
  | .checkResp, 6 => cred 1
  | .checkResp, 4 => cred 2
  | .checkResp, 2 => cred 3
  | .formResp, 3 => okIf (Config.ecdhOk x.initPub)
  | .formResp, 2 => okIf (Config.kemOk x.ek)
  | .checkAuth, 4 => cred 1
  | .checkAuth, 2 => cred 2
  | .checkAuth, 0 => cred 3
  | _, _ => .ok

/-- The INIT body (R384). -/
def Knot.initBody (x : Knot) (e : Eph) : Bytes :=
  be 1 (purposeOf x.place) ++ zeros 3 ++ x.nonce ++ Config.ecPoint e.ecSk ++ Config.kemKey e.kemSk

/-- The RESP body through MLKEM_CT (R384). -/
def Knot.respHead (x : Knot) (e : Eph) : Bytes := x.nonce ++ Config.ecPoint e.ecSk ++ Config.kemCt e.kemR x.ek

/-- The responder has checked AUTH: it places its outputs and sends DONE (R388). -/
def respDone (k : Nat) (x : Knot) (s : State) : State :=
  match knotPlace x s with
  | none => knotAbort k x .range Ctr.KNOT_NO_ROOM s
  | some (i, s) => knotEnd k x .ok i (knotSend x.place 4 x.sid (s.knotDa x) (x.done (s.ephAt x.ctx)) s)

/-- A stage's last operation is done (R384 to R388). -/
def stageDone (k : Nat) (x : Knot) (s : State) : State :=
  let e := s.ephAt x.ctx
  match x.stage with
  | .keys => let y := { x with init1 := x.initBody e }; knotSay k y .sentInit 1 y.init1 s
  | .formResp =>
    let y := { x with resp := x.respHead e }
    let z := { y with resp := y.resp ++ s.prot y (y.kRhs e) y.th1 0x52 }
    knotSay k z .sentResp 2 z.resp s
  | .checkResp =>
    let y := { x with auth := s.prot x (x.kIhs e) x.th2 0x49 }
    knotSay k y .sentAuth 3 y.auth s
  | .checkAuth => respDone k x s
  | _ => s

/-- An operation of a session completes: its result goes to the session or its context, and its check decides; then comes the next
operation, or the stage's end. -/
def knotStep (op : PkeOp) (k : Nat) (b : Bytes) (s : State) : State :=
  match mfind s.ke.knot k with
  | none => s
  | some x =>
    let y := { x.took op b with ops := x.ops.drop 1 }
    let s := s.putEph x.ctx ((s.ephAt x.ctx).took op b)
    match s.stageCheck y y.ops.length with
    | .ok =>
      (match y.ops with
       | next :: _ => knotQueue next k (s.putKnot k y)
       | [] => stageDone k y (s.putKnot k y))
    | st => knotAbort k y st Ctr.KNOT_CRED_FAIL s

/-! ### Draws (R394) -/

/-- SESSION and nonce of an initiator, or the nonce of a responder, are drawn (R383, R384). -/
def knotDrawn (k : Nat) (b : Bytes) (s : State) : State :=
  match mfind s.ke.knot k with
  | none => s
  | some x =>
    match x.stage with
    | .drawing => knotWork k { x with sid := num (b.take 8), nonce := b.drop 8 } .keys keysOps s
    | .nonce => knotWork k { x with nonce := b } .formResp respOps s
    | _ => s

/-- Begin a session in a free context with its draw. -/
def knotBegin (x : Knot) (ctx len : Nat) (s : State) : State :=
  let r := (setKnotState x.place 1 (s.putEph ctx {})).addKnot { x with ctx := ctx }
  match drawRequest (.knot r.1) len r.2 with
  | (.served b, s) => knotDrawn r.1 b s
  | (.waits, s) => s
  | (.fails st, s) => knotEntropy r.1 st s

/-- A session of the place initiates (R402). -/
def State.knotInitiates (s : State) (place : Nat) : Bool :=
  s.ke.knot.any (fun x => x.2.place == place && x.2.init && x.2.stage != .answered)

/-- The firmware starts an INIT at a place (R382, R552); an earlier INIT that only waits for a further peer is given up. -/
def knotStart (place : Nat) (s : State) : State × Status :=
  if !s.knotAllowed ∨ s.held then (knotChecked s, .denied)
  else if s.knotInitiates place then (knotChecked s, .busy)
  else
    let s := contextRoom (dropKnots (fun x => x.2.place == place && x.2.stage == .answered) (knotChecked s))
    match s.freeEph with
    | none => (s, .busy)
    | some c => (knotBegin { place := place, init := true, stage := .drawing } c 40 s, .ok)

/-- Start an INIT at a place that may initiate (R382, R402). -/
def knotRun (place : Nat) (s : State) : State × Status :=
  if place ≠ tetherPlace ∧ s.ob (Ix.kePort place) Sub.kePort_KNOT_MODE ≠ 2 then (s, .denied) else knotStart place s

/-! ### Received messages (R383, R387) -/

/-- A message as the rows of R387 see it. -/
structure KnotMsg where
  place : Nat
  src : Bytes
  ver : Nat
  msg : Nat
  sid : Nat
  body : Bytes

/-- The form of a body (R384). -/
def KnotMsg.form (m : KnotMsg) : Bool :=
  m.body.length == knotSize m.msg && (match m.msg with
    | 1 => fld m.body 0 1 == purposeOf m.place && fld m.body 1 3 == 0
    | 5 => decide (1 ≤ fld m.body 0 1) && decide (fld m.body 0 1 ≤ 7) && fld m.body 1 3 == 0
    | _ => true)

/-- The session that a message is for, with its number (R382, R387). -/
def State.knotFor (s : State) (m : KnotMsg) : Option (Nat × Knot) :=
  let mine (x : Knot) : Bool := x.place == m.place && x.sid == m.sid
  let exact (init : Bool) (stage : KnotStage) : Option (Nat × Knot) :=
    s.ke.knot.find? (fun x => mine x.2 && x.2.init == init && x.2.peer == some m.src && x.2.stage == stage)
  let open_ : Option (Nat × Knot) :=
    if s.ke.knot.any (fun x => mine x.2 && x.2.init && (x.2.peer == some m.src || x.2.seen.contains m.src)) then none
    else s.ke.knot.find? (fun x => mine x.2 && x.2.init && x.2.init1 != [])
  match m.msg with
  | 2 => open_
  | 3 => exact false .sentResp
  | 4 => exact true .sentAuth
  | 5 =>
    (match s.ke.knot.find? (fun x => mine x.2 && x.2.peer == some m.src) with
     | some x => some x
     | none => open_)
  | _ => none

/-- The session of the party that answers an INIT: the INIT's own while no other has answered, else a further one in the same
context (R382). A message of a session's own party is that session's. -/
def State.knotParty (s : State) (k : Nat) (x : Knot) (src : Bytes) : Nat × Knot × State :=
  if x.peer = some src then (k, x, s)
  else if x.stage = .sentInit then (k, { x with peer := some src }, s)
  else
    let y := { x with peer := some src, seen := [] }
    let r := (s.putKnot k { x with seen := src :: x.seen }).addKnot y
    (r.1, y, r.2)

/-- INIT is answered: crossing and replaced sessions, then a new responder (R384, R389). One for which no ephemeral context is free
ends in the row No room (log 117). -/
def knotInit (m : KnotMsg) (s : State) : State :=
  let here (x : Knot) : Bool := x.place == m.place
  if s.ke.knot.any (fun x => here x.2 && !x.2.init && x.2.sid == m.sid && x.2.peer == some m.src) then s
  else if s.ke.knot.any (fun x => here x.2 && x.2.init && x.2.stage == .sentInit && decide (m.sid ≤ x.2.sid)) then s
  else
    let gone (x : Knot) : Bool := here x && (x.peer == some m.src || (x.init && x.stage == .sentInit))
    let s := contextRoom (dropKnots (fun x => gone x.2) s)
    match s.freeEph with
    | none => knotSend m.place 5 m.sid m.src (abortBody .range) (s.bump (Ctr.device + Ctr.KNOT_NO_ROOM))
    | some c => knotBegin { place := m.place, init := false, sid := m.sid, peer := some m.src, stage := .nonce
                            init1 := m.body, began := s.time.periods } c 32 s

/-- RESP: the session of the party that answers takes it up (R382, R386). -/
def knotResp (k : Nat) (x : Knot) (m : KnotMsg) (s : State) : State :=
  knotWork k { x with resp := m.body, auth := [] } .checkResp checkOps s

/-- AUTH: its credential is checked (R386). -/
def knotAuth (k : Nat) (x : Knot) (m : KnotMsg) (s : State) : State :=
  let y := { x with auth := m.body }
  match s.credCheck x.place 0 (protOpen (y.kIhs (s.ephAt y.ctx)) y.auth) y.th2 0x49 with
  | .ok => knotWork k y .checkAuth credOps s
  | st => knotAbort k y st Ctr.KNOT_CRED_FAIL s

/-- DONE: No room, Confirm, or the outputs are placed (R387, R388). -/
def knotDone (k : Nat) (x : Knot) (m : KnotMsg) (s : State) : State :=
  match knotPlace x s with
  | none => knotAbort k x .range Ctr.KNOT_NO_ROOM s
  | some (i, t) =>
    if m.body = x.done (s.ephAt x.ctx) then knotEnd k x .ok i t
    else knotEnd k x .integrity 0 (s.bump (Ctr.device + Ctr.KNOT_CRED_FAIL))

/-- The place refuses every handshake (R387). -/
def State.knotRefuses (s : State) (place : Nat) : Bool :=
  !s.knotAllowed || (place != tetherPlace && s.ob (Ix.kePort place) Sub.kePort_KNOT_MODE == 0)

/-- ABORT is received: the session ends with its REASON (R387). -/
def knotAborted (f : Option (Nat × Knot)) (m : KnotMsg) (s : State) : State :=
  let s := s.bump (Ctr.device + Ctr.KNOT_ABORTED)
  match f with
  | some (k, x) => knotEnd k x (statusOfReason (fld m.body 0 1)) 0 s
  | none => s

/-- R552 refuses a handshake that a peer begins while a response of HOLD or above is in force: it ends DENIED, and nothing is sent
(R398, log 117). -/
def knotHeld (place : Nat) (s : State) : State :=
  if place = tetherPlace then s else s.put (Ix.kePort place) Sub.kePort_KNOT_LAST Status.denied.code

/-- The rows of R387 for a whole message, in the order of its table, once the session of its party is there. -/
def knotRows (m : KnotMsg) (f : Option (Nat × Knot)) (s : State) : State :=
  let refuse (st : Status) (ctr : Nat) : State :=
    match f with
    | some (k, x) => knotAbort k x st ctr s
    | none => knotSend m.place 5 m.sid m.src (abortBody st) (s.bump (Ctr.device + ctr))
  if m.ver / 16 ≠ 1 then refuse .version Ctr.KNOT_VERSION
  else if s.knotRefuses m.place then refuse .denied Ctr.KNOT_REFUSED
  else if m.msg = 5 then knotAborted f m s
  else match f with
  | none => if s.held then knotHeld m.place s else knotInit m s
  | some (k, x) =>
    match m.msg with
    | 2 => knotResp k x m s
    | 3 => knotAuth k x m s
    | _ => knotDone k x m s

/-- A whole message (R387): Bad form and Stale before a session of its party is formed, and the local check of an INIT counted. -/
def knotMessage (m : KnotMsg) (s : State) : State :=
  if !m.form then s.bump (Ctr.device + Ctr.KNOT_BAD_FORM)
  else match s.knotFor m with
  | some (k, x) => let p := s.knotParty k x m.src; knotRows m (some (p.1, p.2.1)) p.2.2
  | none =>
    if m.msg ≠ 1 ∧ m.msg ≠ 5 then s.bump (Ctr.device + Ctr.KNOT_STALE)
    else knotRows m none (if m.msg = 1 ∧ m.ver / 16 = 1 then knotChecked s else s)

/-- The form of a segment's header (R383, R384). -/
def segmentForm (f : Bytes) : Bool :=
  decide (16 ≤ f.length) && decide (1 ≤ fld f 1 1) && decide (fld f 1 1 ≤ 5) && fld f 3 1 == knotSegs (fld f 1 1)
    && decide (fld f 2 1 < fld f 3 1) && decide (1 ≤ fld f 12 2) && decide (fld f 12 2 ≤ 1400)
    && decide (16 + fld f 12 2 ≤ f.length) && fld f 14 2 == 0

/-- One received segment: reassembly in any order, duplicates ignored, at most four messages held (R383). -/
def knotReceive (place : Nat) (src f : Bytes) (s : State) : State :=
  if !segmentForm f then s.bump (Ctr.device + Ctr.KNOT_BAD_FORM)
  else
    let isIt (p : KnotParts) : Bool :=
      p.place == place && p.src == src && p.ver == fld f 0 1 && p.msg == fld f 1 1 && p.sid == fld f 4 8
    let old : KnotParts := (s.ke.parts.find? isIt).getD ⟨place, src, fld f 0 1, fld f 1 1, fld f 3 1, fld f 4 8, []⟩
    let rest := s.ke.parts.filter (fun p => !isIt p)
    let new := if (mfind old.got (fld f 2 1)).isSome then old
      else { old with got := minsert old.got (fld f 2 1) (sub f 16 (fld f 12 2)) }
    if new.got.length < new.segs then
      (if 4 ≤ rest.length then s else { s with ke := { s.ke with parts := rest ++ [new] } })
    else
      knotMessage ⟨place, src, new.ver, new.msg, new.sid, (new.got.map (·.2)).flatten⟩
        { s with ke := { s.ke with parts := rest } }

/-- The place is a line port or tributary of an enabled slice, or the Tether while it carries frames (R59). -/
def State.knotHere (s : State) (place : Nat) : Bool := if place = tetherPlace then s.tetherUp else s.sliceOn (place / 8)

/-- `KNOT_MESSAGE_RECEIVED`: the segments of a message reach the firmware in this order (R387). -/
def knotReceived (place : Nat) (src : Bytes) (segs : List Bytes) (s : State) : State :=
  if s.knotHere place && !s.rst.coresHeld then segs.foldl (fun t f => knotReceive place src f t) s else s

/-! ### Timers (R387) -/

/-- A session has received no message for `KNOT_RETRY_MS` (R387). -/
def State.retryDue (s : State) (x : Knot) : Bool := s.gone x.heard (1000000 * s.ob keIx Sub.ke_KNOT_RETRY_MS)

/-- A session has waited too long: BUSY (R387). -/
def knotTimedOut (k : Nat) (x : Knot) (s : State) : State := knotEnd k x .busy 0 (s.bump (Ctr.device + Ctr.KNOT_TIMEOUT))

/-- `KNOT_TIMEOUT_MS` has passed since the INIT (R387). -/
def State.knotOver (s : State) (x : Knot) : Bool :=
  x.stage != .drawing && x.stage != .keys && s.gone x.began (1000000 * s.ob keIx Sub.ke_KNOT_TIMEOUT_MS)

/-- `KNOT_SESSION_TIMEOUT`: five sends, or `KNOT_TIMEOUT_MS` from INIT (R387); an INIT whose sessions have ended is no longer
open (R382). -/
def knotTimeout (k : Nat) (s : State) : State :=
  match mfind s.ke.knot k with
  | some x =>
    if x.stage = .answered then (if s.knotOver x then s.dropKnot k else s)
    else if s.knotOver x ∨ (5 ≤ x.sends ∧ s.retryDue x) then knotTimedOut k x s else s
  | none => s

/-- `KNOT_RETRY_MS` passes without a message: the last one is sent again, five times at most (R387). -/
def knotRetry (k : Nat) (s : State) : State :=
  match mfind s.ke.knot k with
  | none => s
  | some x =>
    if (x.stage ≠ .sentInit ∧ x.stage ≠ .sentResp ∧ x.stage ≠ .sentAuth) ∨ !s.retryDue x then s
    else if 5 ≤ x.sends then knotTimedOut k x s
    else (knotSend x.place x.lastMsg x.sid (s.knotDa x) x.last s).putKnot k { x with sends := x.sends + 1, heard := s.time.periods }

/-! ### The commands -/

/-- A write of `KNOT_RUN` or `PAIR_KNOT_RUN` (R382, R400, R402). -/
def knotRunWrite (place ix sub_ v : Nat) (s : State) : State × Status :=
  if place = tetherPlace ∧ !s.home then (s, .range)
  else if v = 0 then (s.put ix sub_ 0, .ok)
  else match knotRun place s with
    | (t, .ok) => (t.put ix sub_ v, .ok)
    | r => r

/-- `KNOT_RUN` (R382). -/
def execKnotRun (c : Caller) (n v : Nat) (s : State) : Out :=
  .next (rowWrite c (Ix.kePort (n % 32)) Sub.kePort_KNOT_RUN (.num v)
    (knotRunWrite (n % 32) (Ix.kePort (n % 32)) Sub.kePort_KNOT_RUN v) s)

/-- `PAIR_KNOT_RUN` (R400). -/
def execPairKnotRun (c : Caller) (v : Nat) (s : State) : Out :=
  .next (rowWrite c keIx Sub.ke_PAIR_KNOT_RUN (.num v) (knotRunWrite tetherPlace keIx Sub.ke_PAIR_KNOT_RUN v) s)

/-- `KNOT_MESSAGE_RECEIVED` (R387). -/
def execKnotMessageReceived (place : Nat) (src : Bytes) (segs : List Bytes) (s : State) : Out :=
  .next (knotReceived place src segs s)

/-- `KNOT_RETRY_TIMEOUT` (R387). -/
def execKnotRetryTimeout (k : Nat) (s : State) : Out := .next (knotRetry k s)

/-- `KNOT_SESSION_TIMEOUT` (R387). -/
def execKnotSessionTimeout (k : Nat) (s : State) : Out := .next (knotTimeout k s)

end Sys2Proof.Machine
end

