-- ==== Sys2Proof/Machine/Mka.lean ====
section
/-! DEFINITION. MKA on the line ports and tributaries (R379 to R381): the live peers, the election of the key server,
new SAKs, their receive and transmit SAs, and the cues that bring them into use. -/

namespace Sys2Proof.Machine

/-- MKA's record of a line index. -/
def State.mkaAt (s : State) (n : Nat) : Mka := mget {} s.ke.mka n
def State.putMka (n : Nat) (m : Mka) (s : State) : State := { s with ke := { s.ke with mka := mset {} s.ke.mka n m } }

/-- An object of a line index. -/
def State.mkaOb (s : State) (n sub_ : Nat) : Nat := s.ob (Ix.kePort n) sub_

/-- The SecY that MKA protects, with its image. -/
def State.mkaSecy (s : State) (n : Nat) : Option (Nat × Nat) :=
  (s.secyAt (n / 8) (s.mkaOb n Sub.kePort_MKA_SECY)).map (fun e => (s.mkaOb n Sub.kePort_MKA_SECY, e))

/-- MKA runs: its mode, CAK and SecY stand, the control cores run, and this unit is active (R379, R381). -/
def State.mkaRuns (s : State) (n : Nat) : Bool :=
  s.sliceOn (n / 8) && s.mkaOb n Sub.kePort_MKA_MODE != 0 && (s.cakAt (s.mkaOb n Sub.kePort_MKA_CAK)).valid
    && (s.mkaSecy n).isSome && s.active && !s.rst.coresHeld

/-- The key server priority announced (R380). -/
def State.ksPriority (s : State) (n : Nat) : Nat :=
  if s.mkaOb n Sub.kePort_MKA_MODE = 1 then 0xFF else s.mkaOb n Sub.kePort_KS_PRIORITY

/-- This device is the key server: the lowest priority, and of equal ones the lowest SCI; never with the priority 0xFF (R380,
R381). -/
def State.keyServer (s : State) (n : Nat) : Bool :=
  match s.mkaSecy n with
  | none => false
  | some (_, y) =>
    s.mkaOb n Sub.kePort_MKA_MODE == 2 && s.ksPriority n != 0xFF && (s.mkaAt n).peers.all (fun p =>
      decide (s.ksPriority n < p.prio) || (s.ksPriority n == p.prio && decide (Secy.sci y < p.sci)))

/-! ### Sending (R379, R380) -/

/-- The ICK of a port's CAK. -/
def State.mkaIck (s : State) (n : Nat) : Bytes := (s.cakAt (s.mkaOb n Sub.kePort_MKA_CAK)).ickOctets

/-- The newest SAK as it is distributed: wrapped while a peer has not reported it (R381). -/
def State.mkaWrapped (s : State) (n : Nat) : Bytes :=
  let m := s.mkaAt n
  match m.sak with
  | some (h, _, _) =>
    if m.server ∧ m.peers.any (fun p => !p.reported) then
      (match s.sakExport h (s.mkaOb n Sub.kePort_MKA_CAK) with
       | .ok b => b
       | .error _ => [])
    else []
  | none => []

/-- The member identifier of this device on a line index (R379). -/
abbrev memberId (n : Nat) : Nat := Config.mkaMember n % 2 ^ 96

/-- The values of an MKPDU: version, priority, whether this device is key server, capability, suite, offset, SCI, CKN, member and
message numbers, the AN of the newest SAK, its key server and number and whether it transmits; and the live and the potential
peers, each after its count (R379, R380). -/
def State.mkpduFields (s : State) (n : Nat) : List Nat :=
  let m := s.mkaAt n
  let y := ((s.mkaSecy n).map (·.2)).getD 0
  let c := s.cakAt (s.mkaOb n Sub.kePort_MKA_CAK)
  let peers (l : List MkaPeer) : List Nat := l.length :: l.flatMap (fun p => [p.mi, p.mn])
  [3, s.ksPriority n, (s.keyServer n).toNat, 3, Secy.suite y, Secy.offset y, Secy.sci y, c.cknLen, c.ckn, memberId n, m.mn,
    (m.sak.map (·.2.1)).getD 4, m.ks, m.kn, m.cued.toNat] ++ peers m.peers ++ peers m.potential

/-- An MKPDU is sent, where frames go out of the line port or tributary (R32, R379). -/
def mkaSend (n : Nat) (s : State) : State :=
  if !s.mkaRuns n || !s.ownSends n then s
  else
    let b := be 6 0x0180C2000003 ++ s.oct (Ix.port (0x40 + n)) Sub.port_PAUSE_SA ++ be 2 0x888E
      ++ Config.mkpdu (s.mkpduFields n) (s.mkaWrapped n)
    let m := s.mkaAt n
    let f := b ++ cmac (s.mkaIck n) b
    sendOwn n (.mkpdu n f) f ((s.putMka n { m with mn := m.mn + 1 }).mark (Timer.mka n))

/-! ### Installing a SAK (R231, R380, R381) -/

/-- A place for an SA: the slot's own where it is not in use, else the lowest free entry. -/
def State.saPlace (s : State) (sl : Nat) (slot : Option Nat) : Option Nat :=
  match slot with
  | some i => if Sa.valid (s.saAt sl i) ∧ Sa.inUse (s.saAt sl i) then none else some i
  | none => firstNot (fun i => Sa.valid (s.saAt sl i)) 16384 0

/-- The SSCIs of a CA are over the SCIs of its members (R380). -/
def State.mkaScis (s : State) (n : Nat) : List Nat :=
  ((s.mkaSecy n).map (fun y => Secy.sci y.2)).toList ++ (s.mkaAt n).peers.map (·.sci)

/-- The SSCI of an SCI: the numerically greatest SCI of a CA has 1, the next 2, and so on (R380, log 118). -/
def ssciOf (scis : List Nat) (sci : Nat) : Nat := 1 + (scis.filter (fun x => decide (sci < x))).length

/-- The salt of a SAK: the low 64 bits of the key server's member identifier, and its two 16-bit parts above them with the halves of
the key number, the lower half in the higher part (R380, log 118). -/
def saltOf (mi kn : Nat) : Nat :=
  (bits mi 95 80 ^^^ bits kn 15 0) * 2 ^ 80 + (bits mi 79 64 ^^^ bits kn 31 16) * 2 ^ 64 + bits mi 63 0

/-- The image of a new SA under a SAK (R125, R380). -/
def State.mkaSa (s : State) (n dir sc an h sci server kn : Nat) (inUse : Bool) : Nat :=
  let x := ((s.mkaSecy n).map (fun y => Secy.xpn y.2)).getD false
  let d := s.ob (Ix.assoc (n / 8) 0) Sub.assoc_PN_THRESH_DEFAULT
  2 ^ 319 + dir * 2 ^ 318 + inUse.toNat * 2 ^ 317 + x.toNat * 2 ^ 316 + an * 2 ^ 314 + sc * 2 ^ 288 + h * 2 ^ 256 + 2 ^ 192
    + (if x then d else d / 2 ^ 32) * 2 ^ 128
    + (if x then ssciOf (s.mkaScis n) sci % 2 ^ 32 * 2 ^ 96 + saltOf server kn else 0)

/-- The firmware writes an association entry, where R142 allows it; BUSY, and nothing, while a DELETE of it waits (R144). -/
def fwWrite (sl t i e : Nat) (s : State) : Option State :=
  let old := s.awImage sl t i
  match (if s.deletingIs sl t i then .busy else s.awCheck sl t i old e) with
  | .ok => some (awSync sl t i old e (cuesTest sl (awCommit sl t i old e s)))
  | _ => none

/-- The retirement of the receive SA that a new one succeeds is armed (R232, R234). -/
def mkaRetire (sl i old an : Nat) (s : State) : State :=
  if old ≠ an ∧ Rxsc.anValid (s.rxscAt sl i) old then (armWatch sl i (old * 2 ^ 60 + an * 2 ^ 58) s).1 else s

/-- The receive SA of one receive SC (R231). -/
def mkaInstallRx (n i old an h server kn : Nat) (s : State) : State :=
  let sl := n / 8
  let sc := s.rxscAt sl i
  match s.saPlace sl (rxSlot sc an) with
  | none => s
  | some k =>
    match fwWrite sl 3 k (s.mkaSa n 1 i an h (Rxsc.sci sc) server kn true) s with
    | none => s
    | some s =>
      match fwWrite sl 2 i (setBit (setBits sc (63 - 16 * an) (48 - 16 * an) k) (155 + an) true) s with
      | none => s
      | some s => mkaRetire sl i old an s

/-- The transmit SA; it answers its index (R381). -/
def mkaInstallTx (n y an h server kn : Nat) (s : State) : Option (Nat × State) :=
  let sl := n / 8
  let sc := s.txscAt sl y
  match s.saPlace sl (txSlot sc an) with
  | none => none
  | some k =>
    match fwWrite sl 3 k (s.mkaSa n 0 y an h (((s.mkaSecy n).map (fun e => Secy.sci e.2)).getD 0) server kn false) s with
    | none => none
    | some s =>
      (fwWrite sl 1 y (setBit (setBits sc (63 - 16 * an) (48 - 16 * an) k) (68 + an) true) s).map (fun s => (k, s))

/-- The AN of a new SAK: the one after the newest SAK's, or after ENCODING_AN; ENCODING_AN itself while it has no SA. -/
def State.mkaNextAn (s : State) (n y : Nat) : Nat :=
  let sc := s.txscAt (n / 8) y
  let enc := Txsc.encodingAn sc
  match (s.mkaAt n).sak with
  | some (_, an, _) => (an + 1) % 4
  | none => if (txSlot sc enc).any (fun k => s.saValid (n / 8) k) then (enc + 1) % 4 else enc

/-- The transmit cue is armed anew: one that still stands is cancelled first (R237). -/
def mkaArm (sl y cue : Nat) (s : State) : State := (armTx sl y cue (cancelTx sl y s).1).1

/-- The transmit cue's image: trigger 0 = FIRE, 2 = time (R222). -/
def mkaCue (trigger an h time : Nat) : Nat := trigger * 2 ^ 155 + an * 2 ^ 153 + h * 2 ^ 96 + time * 2 ^ 32

/-- The SAK is in use: `MKA_STATE`, and the Knot CAKs that the new one replaces are freed, those that still stand (R388). -/
def mkaInUse (n : Nat) (s : State) : State :=
  let gone := (s.ke.retired.filter (fun x => x.1 == n)).map (·.2)
  let s := { s with ke := { s.ke with retired := s.ke.retired.filter (fun x => x.1 != n) } }
  setMkaState n 3 (gone.foldl (fun t x => if t.cakNamed x.1 ∨ (t.cakAt x.1).gen ≠ x.2 then t else freeCakEntry x.1 t) s)

/-- The newest SAK transmits: its AN is the SecY's ENCODING_AN, and its SA is in use (R231, R402). -/
def State.mkaTransmits (s : State) (n : Nat) : Bool :=
  match s.mkaSecy n, (s.mkaAt n).sak with
  | some (y, _), some (_, an, k) =>
    let e := s.saAt (n / 8) k
    an == Txsc.encodingAn (s.txscAt (n / 8) y) && Sa.valid e && Sa.inUse e
  | _, _ => false

/-- The firmware sees that a changeover has been made: a SAK that has begun to transmit is in use (R381, R388). -/
def mkaSettle (s : State) : State :=
  s.ke.mka.foldl (fun t x => if t.mkaState x.1 = 2 ∧ t.mkaTransmits x.1 ∧ !t.rst.coresHeld then mkaInUse x.1 t else t) s

/-- Every live peer has reported the SAK: the transmit side changes over by the cue, or at once where no SA transmits
yet (R381). -/
def mkaSwitch (n y : Nat) (s : State) : State :=
  let sl := n / 8
  let m := s.mkaAt n
  match m.sak with
  | none => s
  | some (h, an, k) =>
    if m.cued ∨ m.peers = [] ∨ m.peers.any (fun p => !p.reported) then s
    else
      let s := s.putMka n { m with cued := true }
      if an = Txsc.encodingAn (s.txscAt sl y) then (fwWrite sl 3 k (setInUse (s.saAt sl k) true) s).getD s
      else if s.mkaOb n Sub.kePort_MKA_CUE_MODE = 0 then (fireTx sl y s).1
      else mkaArm sl y (mkaCue 2 an h ((s.ns + s.mkaOb n Sub.kePort_MKA_CUE_DELAY_MS * 1000000) % 2 ^ 64)) s

/-- A SAK is installed on both sides, and the cue is armed (R231, R381). -/
def mkaInstall (n an h server kn : Nat) (mine : Bool) (s : State) : State :=
  let sl := n / 8
  match s.mkaSecy n with
  | none => s
  | some (y, _) =>
    let rx := (s.asc.rxsc.filter (fun x => x.1 / 2 ^ 20 == sl && Rxsc.valid x.2 && Rxsc.secy x.2 == y)).map (·.1 % 2 ^ 20)
    let old := Txsc.encodingAn (s.txscAt sl y)
    let s := rx.foldl (fun t i => mkaInstallRx n i old an h server kn t) s
    match mkaInstallTx n y an h server kn s with
    | none => s
    | some (k, s) =>
      let m := s.mkaAt n
      let s := s.putMka n { m with sak := some (h, an, k), server := mine, kn := kn, ks := server, drawing := false, cued := false, due := false
                                   peers := m.peers.map (fun p => { p with reported := !mine && p.mi == server }) }
      let s := if an ≠ Txsc.encodingAn (s.txscAt sl y) ∧ s.mkaOb n Sub.kePort_MKA_CUE_MODE = 0 then
          mkaArm sl y (mkaCue 0 an h 0) s else s
      mkaSend n (mkaSwitch n y s)

/-! ### The key server (R381) -/

/-- The octets of the SecY's suite (R117). -/
def State.mkaKeyLen (s : State) (n : Nat) : Nat := if ((s.mkaSecy n).map (fun y => Secy.long y.2)).getD false then 32 else 16

/-- The draw of a fresh SAK is served: GENERATE with EXPORT = 2 places it and it is distributed (R345, R381). -/
def mkaDrawn (n : Nat) (b : Bytes) (s : State) : State :=
  let m := s.mkaAt n
  let s := s.putMka n { m with drawing := false }
  match s.mkaSecy n with
  | none => s
  | some (y, _) =>
    if !s.mkaRuns n || !s.keyServer n then s
    else
      let r := generatePlace (if b.length = 16 then 1 else 2) (n / 8) 0xFF 2 b s
      if r.1 = .ok then mkaInstall n (r.2.2.mkaNextAn n y) r.2.1 (memberId n) (m.kn + 1) true r.2.2 else r.2.2

/-- A new SAK is drawn, where this device is the key server and a peer lives; one that cannot be drawn yet stays due (R381). -/
def mkaRekey (n : Nat) (s : State) : State :=
  let m := s.mkaAt n
  if !s.mkaRuns n || !s.keyServer n || m.peers.isEmpty then s
  else
    let s := s.putMka n { m with due := true }
    if m.drawing || s.held then s
    else match drawRequest (.sak n) (s.mkaKeyLen n) s with
    | (.served b, s) => mkaDrawn n b s
    | (.waits, s) => s.putMka n { s.mkaAt n with drawing := true }
    | (.fails _, s) => s

/-- The current transmit SA has reached its PN threshold and no newer SAK waits (R131, R381). -/
def State.mkaThresh (s : State) (n : Nat) : Bool :=
  match s.mkaSecy n with
  | none => false
  | some (y, _) =>
    let sc := s.txscAt (n / 8) y
    let enc := Txsc.encodingAn sc
    (txSlot sc enc).any (fun k => s.saValid (n / 8) k && Sa.threshHit (s.saAt (n / 8) k))
      && (match (s.mkaAt n).sak with
          | some (_, an, _) => an == enc
          | none => true)

/-- The firmware answers `PN_THRESHOLD` of the transmit SAs of a slice (R381). -/
def mkaThresholds (sl : Nat) (s : State) : State :=
  (List.range 8).foldl (fun t p => if t.mkaThresh (8 * sl + p) then mkaRekey (8 * sl + p) t else t) s

/-! ### The live peers (R379 to R381) -/

/-- The changeover to the newest SAK, where a SecY is protected (R381). -/
def mkaChange (n : Nat) (s : State) : State :=
  match s.mkaSecy n with
  | some (y, _) => mkaSwitch n y s
  | none => s

/-- A unit that takes over keeps a cue that waits for FIRE: its SAK is the newest, and the cue is fired again once the live peers have
reported it (R432, log 151). -/
def mkaAdopt (n : Nat) (s : State) : State :=
  match s.mkaSecy n with
  | none => s
  | some (y, _) =>
    let sl := n / 8
    let q := s.cueAt sl y
    if s.mkaOb n Sub.kePort_MKA_MODE ≠ 0 ∧ Cue.state q = 1 ∧ Cue.trigger q = 0 then
      match txSlot (s.txscAt sl y) (Cue.nextAn q) with
      | some k => s.putMka n { s.mkaAt n with sak := some (Cue.handle q, Cue.nextAn q, k) }
      | none => s
    else s

/-- The set of live peers changes: its count, `MKA_CA_UP` and `MKA_CA_DOWN`, the changeover that the peers left or come allow, and a
new SAK of the key server. -/
def mkaPeers (n : Nat) (l : List MkaPeer) (s : State) : State :=
  let m := s.mkaAt n
  let s := (s.putMka n { m with peers := l }).put (Ix.kePort n) Sub.kePort_MKA_PEERS l.length
  let s := if m.peers = [] ∧ l ≠ [] then (setMkaState n 2 s).raise 0x0A03 0xFF (be 1 n ++ be 2 l.length)
    else if m.peers ≠ [] ∧ l = [] then (setMkaState n 1 s).raise 0x0A04 0xFF (be 1 n ++ be 2 0)
    else s
  mkaRekey n (mkaChange n s)

/-- A lowest-acceptable-PN report becomes a NEXT_PN write of the peer's receive SA, which only raises it (R143, R381). -/
def mkaLowest (n sci an pn : Nat) (s : State) : State :=
  let sl := n / 8
  match (s.findSci sl sci).bind (fun i => rxSlot (s.rxscAt sl i) an) with
  | none => s
  | some k =>
    let e := s.saAt sl k
    if Sa.valid e ∧ Sa.dir e = 1 ∧ Sa.nextPn e < pn then (fwWrite sl 3 k (Sa.setNextPn e pn) s).getD s else s

/-- A member imports a distributed SAK, unless it is the one that it has from that key server; it unwraps it and installs it (R378,
R381). -/
def mkaImport (n : Nat) (v : Mkpdu) (w : Bytes) (an kn : Nat) (s : State) : State :=
  let m := s.mkaAt n
  if m.kn = kn ∧ m.ks = v.mi ∧ !m.server ∧ m.sak.isSome then s
  else match s.sakImport w (s.mkaOb n Sub.kePort_MKA_CAK) (n / 8) 1 kn 0 with
  | .error _ => s
  | .ok blob =>
    let r := unwrapBlob 9 blob 0xFF s
    if r.1 = .ok then mkaInstall n (an % 4) r.2.1 v.mi kn false r.2.2 else r.2.2

/-- What an accepted MKPDU does to a peer's record. -/
def Mkpdu.peer (v : Mkpdu) (now : Nat) : MkaPeer := ⟨v.mi, v.mn, v.sci, v.prio, v.reports, now⟩

/-- A sender that does not list this device yet is a potential peer, and is listed as one (R379). -/
def mkaPotential (n : Nat) (v : Mkpdu) (s : State) : State :=
  let m := s.mkaAt n
  mkaSend n (s.putMka n { m with potential := m.potential.filter (fun p => p.mi != v.mi) ++ [v.peer s.time.periods] })

/-- A peer's MKPDU is not newer than the last one accepted from it: its message number has not risen (R379). -/
def State.mkaStale (s : State) (n : Nat) (v : Mkpdu) : Bool :=
  ((s.mkaAt n).peers ++ (s.mkaAt n).potential).any (fun p => p.mi == v.mi && decide (v.mn ≤ p.mn))

/-- `MKPDU_RECEIVED`: an MKPDU whose ICV verifies under the ICK (R379, R381); `v` is what its octets say. -/
def mkpduReceived (n : Nat) (pdu : Bytes) (v : Mkpdu) (s : State) : State :=
  let b := pdu.take (pdu.length - 16)
  if !s.mkaRuns n ∨ pdu.length < 16 ∨ cmac (s.mkaIck n) b ≠ pdu.drop (pdu.length - 16) ∨ s.mkaStale n v then s
  else
    let known := (s.mkaAt n).peers.any (fun p => p.mi == v.mi)
    if !known ∧ !v.listsUs then mkaPotential n v s
    else
      let m := { s.mkaAt n with potential := (s.mkaAt n).potential.filter (fun p => p.mi != v.mi) }
      let s := s.putMka n m
      let s := if known then s.putMka n { m with peers := m.peers.map (fun p => if p.mi = v.mi then v.peer s.time.periods else p) }
        else mkaPeers n (m.peers ++ [v.peer s.time.periods]) s
      let s := match v.lowest with
        | some (an, pn) => mkaLowest n v.sci (an % 4) pn (s.putMka n { s.mkaAt n with bounded := true })
        | none => s
      let s := match v.sak with
        | some (w, an, kn) => if s.keyServer n then s else mkaImport n v w an kn s
        | none => s
      mkaChange n s

/-- The hello time of a port in nanoseconds (R380). -/
def State.mkaHelloNs (s : State) (n : Nat) : Nat := 1000000 * s.ob (Ix.kePort n) Sub.kePort_MKA_HELLO_MS

/-- The time between two MKPDUs of a port: the hello time, or the bounded hello time of 500 ms while PNs are reported (R380,
log 144). -/
def State.mkaSendNs (s : State) (n : Nat) : Nat := if (s.mkaAt n).bounded then min 500000000 (s.mkaHelloNs n) else s.mkaHelloNs n

/-- `MKA_HELLO_TIMER`: the hello time has passed since the last MKPDU, and one is sent (R380). A key server without a SAK, or
whose new SAK could not be drawn, draws one (R381). -/
def mkaHello (n : Nat) (s : State) : State :=
  if !s.past (Timer.mka n) (s.mkaSendNs n) then s else
  let s := if (s.mkaAt n).sak.isNone || (s.mkaAt n).due || s.mkaThresh n then mkaRekey n s else s
  mkaSend n s

/-- The life time of a peer has passed since it was last heard: three hello times (R380). -/
def State.peerGone (s : State) (n mi : Nat) : Bool :=
  ((s.mkaAt n).peers ++ (s.mkaAt n).potential).all (fun p => p.mi != mi || s.gone p.heard (3 * s.mkaHelloNs n))

/-- `MKA_PEER_TIMEOUT`: the life time of a peer passes (R380, R381). -/
def mkaPeerTimeout (n mi : Nat) (s : State) : State :=
  let l := (s.mkaAt n).peers
  if !s.mkaRuns n ∨ !s.peerGone n mi then s
  else if !(l.any (fun p => p.mi == mi)) then
    s.putMka n { s.mkaAt n with potential := (s.mkaAt n).potential.filter (fun p => p.mi != mi) }
  else
    mkaChange n (mkaPeers n (l.filter (fun p => p.mi != mi)) s)

/-! ### The commands -/

/-- `MKPDU_RECEIVED` (R379). -/
def execMkpduReceived (n : Nat) (pdu : Bytes) (v : Mkpdu) (s : State) : Out := .next (mkpduReceived (n % 32) pdu v s)

/-- `MKA_HELLO_TIMER` (R380). -/
def execMkaHelloTimer (n : Nat) (s : State) : Out := .next (mkaHello (n % 32) s)

/-- `MKA_PEER_TIMEOUT` (R380). -/
def execMkaPeerTimeout (n mi : Nat) (s : State) : Out := .next (mkaPeerTimeout (n % 32) mi s)

/-- `SEAL_DEQUEUE` (R194); the firmware answers a PN threshold that the frame reaches (R381). -/
def execSealDequeue (sl base : Nat) (ev : SealFault) (s : State) : Out :=
  .next (mkaThresholds sl (sealDequeue sl base ev s))

end Sys2Proof.Machine
end

