-- ==== Sys2Proof/Machine/Snap.lean ====
section
/-! DEFINITION. Snapshots, the counter window, the tag window and the queue-sample window (chapter 19). -/

namespace Sys2Proof.Machine

abbrev snapIx : Nat := 0x5000
abbrev ctIx : Nat := 0x5001
abbrev tagIx : Nat := 0x5002
abbrev tgIx : Nat := 0x5003
abbrev qsIx : Nat := 0x5004

/-- The residency counters as objects of 0x0402 (R586). -/
def State.residency (s : State) : SMap Nat := s.dict.nums.filter (fun x => x.1 / 256 == 0x0402)

/-- The snapshot is released, or given up before its boundary (R621). -/
def snapRelease (s : State) : State :=
  ({ s with tel := { s.tel with snapDue := false, held := false, cnt := [], asc := [], pol := [], que := [], res := []
                                ring := [], ringPos := [] } } : State).put snapIx Sub.snap_SNAP_STATE 0

/-- The end of a claim of the counter window's group releases the snapshot (R621, R462). -/
def claimEnded (ix : Nat) (s : State) : State := if ix = ctIx ∧ (s.tel.held ∨ s.tel.snapDue) then snapRelease s else s

/-- The writer holds the claim of 0x5001 that SNAPSHOT and RELEASE need; no claim binds the firmware (R619, R464). -/
def State.snapClaim (s : State) : Caller → Bool
  | .session k => mfind s.acc.claims ctIx == some k
  | .firmware => true

/-- A write of `SNAP_OP` (R619, R621). -/
def snapOp (c : Caller) (v : Nat) (s : State) : State × Status :=
  if v = 0 then (s.put ctIx Sub.ctWin_SNAP_OP 0, .ok)
  else if !s.snapClaim c then (s, .claimed)
  else
    let s := s.put ctIx Sub.ctWin_SNAP_OP v
    if v = 1 then ({ s with tel := { s.tel with snapDue := true } }, .ok) else (snapRelease s, .ok)

/-- `SNAPSHOT_BOUNDARY`: at the boundary B every count is copied (R619). -/
def snapBoundary (s : State) : State :=
  if s.tel.snapDue then
    let tel := { s.tel with
      snapDue := false, held := true, cnt := s.cnt, asc := s.asc.cnt, pol := s.tm.polCnt, que := s.tm.queueCnt
      res := s.residency, ring := s.tm.ring, ringPos := s.tm.ringPos }
    let s := ((({ s with tel := tel } : State).put snapIx Sub.snap_SNAP_STATE 1).addOb snapIx Sub.snap_SNAP_SEQ 32 1).put
      snapIx Sub.snap_SNAP_TIME s.ns
    (s.mark Timer.snap).raise 0x1001 0xFF (be 4 (s.ob snapIx Sub.snap_SNAP_SEQ))
  else s

/-- `SNAP_HOLD_EXPIRY`: `SNAP_HOLD_MAX_S` after `SNAP_TIME` (R621). -/
def snapExpiry (s : State) : State :=
  if s.tel.held ∧ s.past Timer.snap (1000000000 * s.ob snapIx Sub.snap_SNAP_HOLD_MAX_S) then (snapRelease s).raise 0x1002 0xFF (be 4 (s.ob snapIx Sub.snap_SNAP_SEQ)) else s

/-- The slice that alone owns a device counter (R613). -/
def counterSlice (n : Nat) : Option Nat :=
  if n < 0x400 then some (n / 256) else if n < 0x800 then some ((n - 0x400) / 256)
  else if n < 0x900 then some ((n - 0x800) / 64) else none

/-- Counter-window READ (R622, R618, R620). -/
def ctRead (s : State) : State × Status :=
  let first := s.ob ctIx Sub.ctWin_CT_FIRST
  let ns := (List.range (s.ob ctIx Sub.ctWin_CT_COUNT)).map (first + ·)
  if ns.any (fun n => decide (4096 ≤ n) || ((counterSlice n).map (fun sl => !s.sliceOn sl)).getD false) then (s, .range)
  else
    let m := if s.tel.held then s.tel.cnt else s.cnt
    (s.putO ctIx Sub.ctWin_CT_DATA (ns.flatMap (fun n => be 8 (mget 0 m n))), .ok)

/-- The pipes that a write of `TAG_ENABLE` turns on (R623). -/
def State.tagOn (s : State) (v : Nat) : List Nat :=
  (List.range 8).filter (fun k => bit v k && !bit (s.ob tagIx Sub.tag_TAG_ENABLE) k)

/-- The seeds of a write of `TAG_ENABLE` are there: the pipes turned on take four octets each, in ascending order, and
the write applies (R623). -/
def tagSeeded (v : Nat) (b : Bytes) (s : State) : State :=
  let on := s.tagOn v
  let lfsr := (List.range on.length).foldl (fun m i => mset 0 m (on.getD i 0) (fld b (4 * i) 4)) s.tel.lfsr
  ({ s with tel := { s.tel with lfsr := lfsr } } : State).put tagIx Sub.tag_TAG_ENABLE v

/-- A write of `TAG_ENABLE` (R623); `none` while it waits for the seeds; a block of writes for which they have been drawn takes them
(R460). -/
def tagEnable (c : Caller) (v : Nat) (s : State) : State × Option Status :=
  if s.tagOn v = [] then (s.put tagIx Sub.tag_TAG_ENABLE v, some .ok)
  else if (s.acc.seeds.map (·.length)) = some (4 * (s.tagOn v).length) then
    (tagSeeded v (s.acc.seeds.getD []) { s with acc := { s.acc with seeds := none } }, some .ok)
  else match drawRequest (.tag c.entry v) (4 * (s.tagOn v).length) s with
    | (.served b, s) => (tagSeeded v b s, some .ok)
    | (.waits, s) => (s, none)
    | (.fails st, s) => (s, some st)

/-- A late write of `TAG_ENABLE` completes (R623). -/
def tagDone (who v : Nat) (r : Except Status Bytes) (s : State) : State :=
  match r with
  | .ok b => (tagSeeded v b s).finish who tagIx Sub.tag_TAG_ENABLE .ok
  | .error st => s.finish who tagIx Sub.tag_TAG_ENABLE st


/-- Tag-window READ (R629). -/
def tgRead (s : State) : State × Status :=
  match mfind s.tel.tags (s.ob tgIx Sub.tgWin_TG_SEQ) with
  | some r => (s.putO tgIx Sub.tgWin_TG_RECORD r, .ok)
  | none => (s, .range)

/-- TAG_RESET empties the buffer (R625). -/
def tgReset (s : State) : State × Status :=
  (({ s with tel := { s.tel with tags := [], fullRaised := false } } : State).put tagIx Sub.tag_TAG_FILL 0, .ok)

/-- The key of a pipe in the tables of the traffic manager, by 2 * slice + pipe. -/
def qsKey (k i : Nat) : Nat := pkey (k / 2) (if k % 2 = 0 then .seal else .open) i

/-- Queue-sample READ: 32 records of the snapshot's ring, from `QS_FIRST` on (R627). -/
def qsRead (s : State) : State × Status :=
  let k := s.ob qsIx Sub.qsWin_QS_PIPE
  let first := s.ob qsIx Sub.qsWin_QS_FIRST
  if !s.sliceOn (k / 2) then (s, .range)
  else if !s.tel.held then (s, .notReady)
  else
    (s.putO qsIx Sub.qsWin_QS_DATA
      ((List.range 32).flatMap (fun i => padTo 16 (mget [] s.tel.ring (qsKey k ((first + i) % 1024))))), .ok)

/-! ### The commands -/

/-- `SNAP_SNAPSHOT` (R619). -/
def execSnapSnapshot (c : Caller) (s : State) : Out :=
  .next (rowWrite c ctIx Sub.ctWin_SNAP_OP (.num 1) (snapOp c 1) s)

/-- `SNAPSHOT_BOUNDARY` (R619). -/
def execSnapshotBoundary (s : State) : Out := .next (snapBoundary s)

/-- `SNAP_RELEASE` (R621). -/
def execSnapRelease (c : Caller) (s : State) : Out :=
  .next (rowWrite c ctIx Sub.ctWin_SNAP_OP (.num 2) (snapOp c 2) s)

/-- `SNAP_HOLD_EXPIRY` (R621). -/
def execSnapHoldExpiry (s : State) : Out := .next (snapExpiry s)

/-- `CT_READ` (R622). -/
def execCtRead (c : Caller) (s : State) : Out :=
  .next (rowWindow c ctIx Sub.ctWin_CT_OP Sub.ctWin_CT_STATUS 1 ctRead s)

/-- `TAG_ENABLE_WRITE` (R623). -/
def execTagEnableWrite (c : Caller) (v : Nat) (s : State) : Out :=
  .next (rowLate c tagIx Sub.tag_TAG_ENABLE (.num v) (tagEnable c v) s)

/-- `TG_READ` (R626). -/
def execTgRead (c : Caller) (s : State) : Out := .next (rowWindow c tgIx Sub.tgWin_TG_OP Sub.tgWin_TG_STATUS 1 tgRead s)

/-- `TG_TAG_RESET` (R625). -/
def execTgTagReset (c : Caller) (s : State) : Out :=
  .next (rowWindow c tgIx Sub.tgWin_TG_OP Sub.tgWin_TG_STATUS 2 tgReset s)

/-- `QS_READ` (R627). -/
def execQsRead (c : Caller) (s : State) : Out := .next (rowWindow c qsIx Sub.qsWin_QS_OP Sub.qsWin_QS_STATUS 1 qsRead s)

end Sys2Proof.Machine
end

