-- ==== Sys2Proof/Machine/Sess.lean ====
section
/-! DEFINITION. The end of claims and sessions (R462, R498, R658), and what leaves the control complex when a session
ends. -/

namespace Sys2Proof.Machine

/-- An event of a management link, with MSI-X vector 2 where the PCIe link is up (R505, R510). -/
def linkEvent (code : Nat) (items : Bytes) (s : State) : State :=
  let s := s.raise code 0xFF items
  if bit (s.ob 0x0202 Sub.pcie_PCIE_LINK) 7 then s.emit (.msix 2) else s

/-- HALA or HALB loses its clock or its power: the port goes down (R510). -/
def halDown (k : Nat) (s : State) : State :=
  if s.obB (Ix.lane k) Sub.sLane_CG_ALIGNED then
    linkEvent 0x1104 (be 1 (k - 0x88) ++ be 1 0) (s.put (Ix.lane k) Sub.sLane_CG_ALIGNED 0)
  else s

/-- The claim of a group ends (R462). -/
def endClaim (ix : Nat) (s : State) : State :=
  claimEnded ix { s with acc := { s.acc with claims := merase s.acc.claims ix } }

/-- The groups that a session holds, ascending. -/
def State.claimsOf (s : State) (k : Nat) : List Nat := (s.acc.claims.filter (fun x => x.2 == k)).map (·.1)

/-- The session has not ended (R498). -/
def Sess.alive (x : Sess) : Bool := x.st == .handshake || x.live

/-- What waits for the host in the queue of a session goes with it, but for answers that came before its end: that of its RELEASE, or of
its HELLO (R498, R507, R508). -/
def queueEnds (number cause : Nat) (l : List (Nat × Bytes)) : List (Nat × Bytes) :=
  if cause = 0 ∨ cause = 3 then l.map (fun m => if m.1 = number then (0, m.2) else m) else l.filter (fun m => m.1 != number)

/-- A session enters CLOSED: its keys, its queue and the answers it is owed are gone, its claims end, and the event
names the cause (R498, R658). A handshake that has no entry of the 16 yet is no session (R495). -/
def closeSess (k cause : Nat) (s : State) : State :=
  let x := s.sessAt k
  if 16 ≤ k then (if x.alive then ephRelease (s.putSess k {}) else s)
  else if x.alive then
    let s := (s.claimsOf k).foldl (fun t ix => endClaim ix t)
      { s with acc := { s.acc with parked := s.acc.parked.filter (fun p => p.k != k), toHost := queueEnds x.number cause s.acc.toHost } }
    let s := ephRelease (s.putSess k { st := .closed, number := x.number, level := x.level, port := x.port, peerAddr := x.peerAddr })
    s.raise 0x1102 0xFF (be 4 x.number ++ be 1 cause)
  else s

/-- Every session that `which` names enters CLOSED. -/
def closeAll (which : Sess → Bool) (cause : Nat) (s : State) : State :=
  (List.range 32).foldl (fun t k => if which (t.sessAt k) then closeSess k cause t else t) s

end Sys2Proof.Machine
end

