-- ==== Sys2Proof/Machine/Reset.lean ====
section
/-! DEFINITION. Resets, the power-up order, clock-valid flags, block-level resets, boot and firmware activation (chapter
18). -/

namespace Sys2Proof.Machine

abbrev rstIx : Nat := 0x0500
abbrev blkIx : Nat := 0x0502
abbrev fwIx : Nat := 0x0503

/-! ### What a reset keeps (R450, R589) -/

/-- An object keeps its value through a reset of this rank (R450). -/
def keepsObject (rank key : Nat) : Bool :=
  match descOf (key / 256) (key % 256) with
  | some d => decide (rank < resetRank d.reset)
  | none => false

def Dict.kept (rank : Nat) (d : Dict) : Dict :=
  { nums := d.nums.filter (fun x => keepsObject rank x.1), octs := d.octs.filter (fun x => keepsObject rank x.1) }

/-- A source that the always-on domain watches (R546). -/
def alwaysOn (src : Nat) : Bool := match sourceInfo src with | some (_, _, w) => w == 2 | none => false

/-- The always-on domain, which no reset level clears (R589, R558). -/
def Alarms.kept (a : Alarms) : Alarms :=
  { a with
    raised := a.raised.filter (fun x => alwaysOn x.1)
    active := a.active.filter alwaysOn
    latched := a.latched.filter alwaysOn
    zeroising := 0
    clearReset := false }

/-- The device outside the always-on domain as a reset of a rank leaves it: fuses, flash, DDR cells and what the pins
show stay (R589). -/
def State.rebuilt (rank : Nat) (s : State) : State :=
  { fuse := s.fuse
    dict := s.dict.kept rank
    alm := s.alm.kept
    acc := { profiles := s.acc.profiles, repBlob := s.acc.repBlob, repKeys := s.acc.repKeys }
    ke := { store := s.ke.store }
    guard := { mem := s.guard.mem, bad := s.guard.bad }
    pair := { mate := s.pair.mate }
    rst := { straps := s.rst.straps, clockOff := s.rst.clockOff, active := s.rst.active, try_ := s.rst.try_
             tries := s.rst.tries, staged := s.rst.staged, seq := s.rst.seq, slots := s.rst.slots
             mgpio := num s.fuse.mgpio }
    free := s.free
    wire := s.wire
    pending := s.pending }

/-- A source of a reset is recorded (R604). -/
def noteCause (bit_ : Nat) (s : State) : State :=
  s.put rstIx Sub.rstBoot_RESET_CAUSE (setBit (s.ob rstIx Sub.rstBoot_RESET_CAUSE) (bit_ % 12) true)

def countReset (s : State) : State := s.addOb rstIx Sub.rstBoot_RESET_COUNT 32 1

/-- Sessions that a reset of everything closes: their events are raised while the cores are held (R658, R470). -/
def State.aliveCount (s : State) : Nat := ((List.range 16).filter (fun k => (s.sessAt k).alive)).length

/-- A system reset with its source (R588, R589). Nothing happens to a device without main power. -/
def systemReset (bit_ : Nat) (s : State) : State :=
  if s.pwr.vigil then s
  else (countReset (noteCause bit_ (s.rebuilt 1))).eventsLost s.aliveCount

/-- The always-on SRAM comes back with some of the bits of the Vigil secret, and of its check word, turned over (R328). -/
def Alarms.turned (secret code : Nat) (a : Alarms) : Alarms :=
  match a.vs with
  | none => a
  | some v =>
    let w := v ^^^ secret % 2 ^ 256
    let code := a.vsCode ^^^ code % 2 ^ 32
    { a with vs := some w
             vsCode := if w = v then code else code ^^^ Config.checkCode v % 2 ^ 32 ^^^ Config.checkCode w % 2 ^ 32 }

/-- The check of the Vigil secret against its check word (R328). -/
def vsCheck (s : State) : State :=
  if s.alm.vs.isSome ∧ s.alm.vsCode ≠ 0 then
    ({ s with alm := { s.alm with vs := none, vsCode := 0 } } : State).raise 0x0901 0xFF []
  else s

/-- A power-on reset with its source, with the bits of the always-on SRAM that it finds turned over (R588, R589): the Vigil
secret is checked, and the loss of both supplies is reported (R328, R558). A life-cycle transition that it finds in progress is
at its end: its destruction set was applied, and of everything else that the set names nothing is left (R363). -/
def powerOnReset (bit_ secret code : Nat) (s : State) : State :=
  let t := (countReset (noteCause bit_ (s.rebuilt 2))).eventsLost s.aliveCount
  let t := vsCheck { t with alm := t.alm.turned secret code, fuse := { t.fuse with change := none } }
  if t.alm.aoLost then (({ t with alm := { t.alm with aoLost := false } } : State).raise 0x0901 0xFF []).raise 0x0C05 0xFF []
  else t

/-! ### Core reset (R589) -/

/-- A consumer of random octets that a core reset ends with its own state (R362, R398). -/
def EntWho.core : EntWho → Bool
  | .knot _ | .sak _ | .hand _ _ | .token _ _ => true
  | _ => false

/-- A MIGRATE that runs completes at a core reset, before the boot that clears slot 1 (R364: it must be repeated; log 143). -/
def migrateEnds (s : State) : State :=
  s.ke.queue.foldl (fun t x => match x.who with
    | .migrate level manifest =>
      let r := migrateVerified level manifest t
      r.1.winEnd kwIx Sub.kwWin_KW_STATUS r.2
    | _ => t) s

/-- A block of writes that still waits is not applied (R486). -/
def blockDrop (s : State) : State :=
  if s.acc.block.isSome then
    dropWaiting EntWho.late { s with ke := { s.ke with queue := s.ke.queue.take 1 ++ (s.ke.queue.drop 1).filter (fun t => !t.who.late) }
                                     acc := { s.acc with block := none } }
  else s

/-- Jobs, public-key contexts, sessions, the event log and the queues are cleared; everything else runs on (R589). -/
def coreClear (s : State) : State :=
  let s := { s with rst := { s.rst with coresHeld := true, staging := none, ddr := none, waiting := false } }
  let s := closeAll (·.alive) 4 s
  let s := dropWaiting EntWho.core (knotAbandon true (abortJobs .denied (migrateEnds (blockDrop s))))
  let mka := s.ke.mka.map (fun x => (x.1, { x.2 with drawing := false }))
  let acc := { s.acc with claims := [], sess := [], log := [], running := s.acc.running.filter (keepsObject 0)
                          posts := s.acc.posts.filter (fun p => keepsObject 0 (okey p.ix p.sub))
                          parts := [], h2dBusy := false, h2d := [], toHost := [], parked := [], block := none, seeds := none
                          verified := false, lastSet := [] }
  { s with ke := { s.ke with mka := mka }, acc := acc, dict := s.dict.kept 0 }

/-- A core reset with its source; one that is requested while a wider reset runs, until the logic is released, is absorbed (R588, R589,
R608). -/
def coreReset (bit_ : Nat) (s : State) : State :=
  if s.pwr.vigil then s
  else if s.rst.step ≠ 5 then noteCause bit_ s
  else (coreClear (countReset (noteCause bit_ s))).mark Timer.core

/-- A power-on or system reset is still held: 1 ms has not passed since it was asserted (R590). -/
def State.resetHeld (s : State) : Bool := !s.gone 0 1000000

/-- RSTOUT_N is released 1 ms after the last source ends (R590). -/
def State.rstoutRun (s : State) : State :=
  if s.rst.rstout ∧ !s.resetHeld then { s with rst := { s.rst with rstout := false } } else s

/-- `WATCHDOG_EXPIRY`: `WDT_TIMEOUT_MS` has passed unfed, which it cannot have before the firmware has run that long: a core reset,
or a system reset when it is the second within 60 s (R588). -/
def watchdog (s : State) : State :=
  if s.rst.coresHeld ∨ !s.past Timer.boot (1000000 * s.ob fwIx Sub.fwWdt_WDT_TIMEOUT_MS) then s
  else match s.rst.lastWdt with
  | some t =>
    if s.time.periods ≤ t + 7500000000 then systemReset 3 s
    else coreReset 2 { s with rst := { s.rst with lastWdt := some s.time.periods } }
  | none => coreReset 2 { s with rst := { s.rst with lastWdt := some s.time.periods } }

/-! ### Clock-valid flags (R593) -/

/-- A block's release waits for its clock: counted and reported (R593). -/
def deferRelease (dom i : Nat) (s : State) : State :=
  if s.clockHeld dom i then s
  else
    (({ s with rst := { s.rst with deferred := s.rst.deferred ++ [dom * 256 + i] } } : State).addOb rstIx
      Sub.rstBoot_RST_DEFERRED 32 1).raise 0x0F02 0xFF (be 1 dom ++ be 1 i)

/-- Every block is released, or its release deferred (R593). -/
def releaseBlocks (s : State) : State := s.rst.clockOff.foldl (fun t k => deferRelease (k / 256) (k % 256) t) s

/-- The parts of a slice's traffic manager that a slice reset clears: fills, tokens, deficits and USED counts (R597). -/
def tmCleared (sl : Nat) (t : TrafficManager) : TrafficManager :=
  let here (k : Nat) : Bool := k / 2 ^ 20 == sl
  let on (f : Nat → Nat) (m : SMap Nat) : SMap Nat :=
    (m.map (fun x => if here x.1 then (x.1, f x.2) else x)).filter (fun x => x.2 != 0)
  { t with
    policer := on (fun e => setBits e 111 0 0) t.policer
    queue := on (fun e => setBits e 86 0 0) t.queue
    group := on (fun e => setBits e 86 0 0) t.group
    admission := on (fun e => setBits e 15 0 0) t.admission
    arriving := merase t.arriving sl
    held := mdrop here t.held
    leaving := mdrop here t.leaving
    sharedBy := mdrop here t.sharedBy
    headBy := mdrop here t.headBy
    sharedUsed := mdrop here t.sharedUsed
    nodeTokens := mdrop here t.nodeTokens
    nodeLast := mdrop here t.nodeLast
    credit := mdrop here t.credit
    creditLast := mdrop here t.creditLast
    served := mdrop here t.served
    groupRound := mdrop here t.groupRound
    queueRound := mdrop here t.queueRound }

/-- A slice reset clears pipes, buffers, queue state, trackers, bucket fills, the learning queue and learned entries; with no cell
held, every class comes to XON (R166, R597). -/
def sliceClear (sl : Nat) (s : State) : State :=
  let here (k : Nat) : Bool := k / 2 ^ 20 == sl
  let hitch := { s.hitch with
    slots := s.hitch.slots.filter (fun x => !(here x.1 && Slot.learned x.2))
    queue := merase s.hitch.queue sl
    sweepPos := merase s.hitch.sweepPos sl
    mgmt := merase s.hitch.mgmt sl
    touched := merase s.hitch.touched sl }
  (List.range 8).foldl (fun t ip => flowUpdate sl .open ip (flowUpdate sl .seal ip t))
    { s with
      tm := tmCleared sl s.tm
      hitch := hitch
      eng := { s.eng with verify := mdrop (fun k => k / 2 == sl) s.eng.verify
                          egress := mdrop (fun k => k / 2 == sl) s.eng.egress
                          seats := mdrop (fun k => k / 4 == sl) s.eng.seats }
      time := { s.time with fup := mdrop (fun k => k / 2 == sl) s.time.fup }
      lanes := { s.lanes with loop := mdrop (fun m => sliceOfPort m == sl) s.lanes.loop } }

/-- A port reset clears the MAC, PCS, FEC and SerDes state of the port's lanes (R597). A class that the traffic manager holds in
XOFF stays in it, and its frames go on once the port sends again (R167). -/
def portClear (m : Nat) (s : State) : State :=
  let mine (k : Nat) : Bool := (s.portLanes m).contains k
  { s with lanes := { s.lanes with
      now := mdrop mine s.lanes.now
      goal := mdrop mine s.lanes.goal
      heldTx := mdrop mine s.lanes.heldTx
      heldRx := mdrop mine s.lanes.heldRx
      dwell := mdrop mine s.lanes.dwell
      loop := merase s.lanes.loop m
      paused := mdrop (fun k => k / 8 == m) s.lanes.paused } }

/-- An OTN-slice reset clears framing, alignment, defects and sealed-ODU receive state (R597). -/
def otnClear (sl : Nat) (s : State) : State :=
  let here (k : Nat) : Bool := k / 2 ^ 20 == sl
  let otn := { s.otn with level := mdrop here s.otn.level, locked := s.otn.locked.filter (· / 8 != sl)
                          rx := mdrop here s.otn.rx, mapping := mdrop here s.otn.mapping
                          heads := mdrop (· / 8 == sl) s.otn.heads, skew := mdrop (· / 8 == sl) s.otn.skew
                          tx := mdrop here s.otn.tx, sending := mdrop here s.otn.sending }
  (List.range 8).foldl (fun (t : State) k =>
    (t.put (tribIx sl k) Sub.trib_DEFECTS 0).put (soduIx sl k) Sub.sodu_RX_STATE 0)
    (({ s with otn := otn } : State).put (Ix.otn sl 0) Sub.otn_DEFECTS 0)

/-- A block of a kind of R609 goes into reset: 0 slice, 1 client port, 2 line port, 3 OTN slice (R597). -/
def blockClear (kind i : Nat) (s : State) : State :=
  if kind = 0 then sliceClear i s else if kind = 1 then portClear i s else if kind = 2 then portClear (0x40 + i) s
  else otnClear i s

/-- The clock domain and its number that a block of R609 needs (R29). -/
def blockClock (kind i : Nat) : Nat × Nat :=
  if kind = 1 then (2, i) else if kind = 2 then (2, 0x40 + i) else (0, i)

/-- `CLOCK_VALID_SET`: the flag of a domain sets, and a release that waited happens (R593). -/
def clockValid (dom i : Nat) (s : State) : State :=
  let k := dom * 256 + i % 256
  ({ s with rst := { s.rst with clockOff := s.rst.clockOff.filter (· != k)
                                deferred := s.rst.deferred.filter (· != k) } } : State).settleLanes

/-- The Tether's lanes lose their alignment together (R593, R441). -/
def tetherDown (s : State) : State :=
  let up := s.tetherUp
  let s := (List.range 4).foldl (fun (t : State) n => t.put (0x1080 + n) Sub.sLane_CG_ALIGNED 0) s
  if up then tetherCut s else s

/-- `BLOCK_CLOCK_LOSS`: a domain's flag clears; a released block goes back into reset and `CLOCK_FAULT` is raised (R593,
R604). -/
def clockLoss (dom i : Nat) (s : State) : State :=
  let k := dom * 256 + i % 256
  if s.rst.clockOff.contains k then s
  else
    let s := { s with rst := { s.rst with clockOff := s.rst.clockOff ++ [k] } }
    if s.rst.step ≠ 5 then s
    else
      let s := { s with rst := { s.rst with deferred := s.rst.deferred ++ [k] } }
      let s := if dom = 0 then sliceClear (i % 256) s
        else if dom = 2 then portClear (i % 256) s
        else if dom = 5 then tetherDown s
        else if dom = 6 then halDown 0x89 (halDown 0x88 s)
        else s
      ((noteCause 11 s).alarm 0x0B 0).settleLanes

/-! ### The power-up order (R594, R595) -/

/-- The straps are latched (R595). -/
def latchStraps (s : State) : State :=
  let p := s.fuse.strapPins % 2 ^ 13
  let s : State := { s with rst := { s.rst with straps := p } }
  (((((s.put 0x0501 Sub.straps_STRAPS p).put 0x0600 Sub.clocks_CLK_MODE (bits p 3 2)).put
    0x0100 Sub.rpCtl_RP_STRAP (bits p 5 4)).put 0x0100 Sub.rpCtl_RP_ACTIVE (bits p 5 4)).put
    0x0201 Sub.ring_NODE_ADDR (bits p 11 6)).put 0x4801 Sub.pairStat_PAIR_STRAP (if bit p 12 then 0 else 1)

/-- Record a boot failure (R604). -/
def bootFailure (code : Nat) (s : State) : State :=
  s.put rstIx Sub.rstBoot_RESET_CAUSE (setBits (s.ob rstIx Sub.rstBoot_RESET_CAUSE) 23 20 code)

/-- The rate at which DDR training starts: `DDR_SPEED` as the profile that will load gives it (R513, R538, R451). -/
def State.ddrSpeed (s : State) : Nat :=
  let next := s.ob 0x0100 Sub.rpCtl_RP_NEXT
  let n := if next = 0xFF then s.ob 0x0100 Sub.rpCtl_RP_STRAP else next
  match mfind s.acc.profiles n with
  | some p => mget 4 p.nums (okey 0x4A01 Sub.ddr_DDR_SPEED)
  | none => 4

/-- Memories are ready: `ddr` is 0 trained at `DDR_SPEED`, 1 at 4,800 MT/s, 2 at 4,000 MT/s, 3 failed (R513); the cores of
every pipe are tested, `masks` showing those that pass by 2 * slice + pipe (R214); the blocks are released (R593). -/
def memoriesReady (ddr : Nat) (masks : List Nat) (s : State) : State :=
  let s := (s.put 0x4A01 Sub.ddr_DDR_TRAIN_STATUS (if ddr = 0 then 0 else if ddr < 3 then 1 else 2)).put
    0x4A01 Sub.ddr_DDR_SPEED_RUN (if ddr = 0 then s.ddrSpeed else if ddr = 1 then 2 else 0)
  let s := if ddr < 3 then s.put 0x4A01 Sub.ddr_DDR_SIZE s.fuse.ddrFit else s
  let s := if 3 ≤ ddr then (bootFailure 3 s).alarm 0x3C 0 else s
  let s := ({ s with rst := { s.rst with step := 5 } } : State).mark Timer.step
  let s := (List.range 4).foldl (fun t sl =>
    if t.sliceOn sl then startPipe sl .open (masks.getD (2 * sl + 1) 0) (startPipe sl .seal (masks.getD (2 * sl) 0) t)
    else t) s
  releaseBlocks s

/-- `POWERUP_STEP_READY`; the logic is not released before the reset has been held for 1 ms (R590, R594). -/
def stepReady (ddr : Nat) (masks : List Nat) (s : State) : State :=
  if s.pwr.vigil then s
  else match s.rst.step with
  | 1 => let s := latchStraps s; ({ s with rst := { s.rst with step := 2 } } : State).mark Timer.step
  | 2 =>
    let s := (s.put 0x0600 Sub.clocks_PLL_LOCK 7).put 0x0600 Sub.clocks_REFCLK_OK (if s.clkMode = 1 then 3 else 1)
    ({ s with rst := { s.rst with step := 3 } } : State).mark Timer.step
  | 3 => if s.resetHeld then s else memoriesReady ddr masks s
  | _ => s

/-- The timeout of the present step of the power-up order (R594). -/
def State.stepNs (s : State) : Nat := if s.rst.step = 1 then 50000000 else if s.rst.step = 2 then 10000000 else 20000000

/-- `POWERUP_STEP_TIMEOUT`: the step is recorded, and the order waits 1 s; a failed fuse-repair load or SRAM self-check
is a boot failure, code 4 or 5 (R594, R604). -/
def stepTimeout (code : Nat) (s : State) : State :=
  if 1 ≤ s.rst.step ∧ s.rst.step ≤ 3 ∧ s.past Timer.step (s.stepNs) then
    let s := s.put rstIx Sub.rstBoot_RESET_CAUSE (setBits (s.ob rstIx Sub.rstBoot_RESET_CAUSE) 19 16 s.rst.step)
    let s := if s.rst.step = 3 ∧ (code = 4 ∨ code = 5) then bootFailure code s else s
    ({ s with rst := { s.rst with step := 0 } } : State).mark Timer.step
  else s

/-- `POWERUP_RETRY_TIMER` (R594). -/
def stepRetry (s : State) : State :=
  if s.rst.step = 0 ∧ s.past Timer.step 1000000000 then ({ s with rst := { s.rst with step := 1 } } : State).mark Timer.step else s

/-! ### Block-level reset (R596, R597) -/

/-- The lanes of a port hold a frame: one that is still arriving from it, or one in an egress segment toward it (R596). -/
def State.laneFrame (s : State) (m : Nat) : Bool :=
  let sl := sliceOfPort m
  (mget [] s.tm.arriving sl).any (·.inPort == m)
    || [Pipe.seal, Pipe.open].any (fun p => (s.egressAt sl p).any (·.frm.outPort == m))

/-- The idle flag of a block (R596). -/
def State.blockIdle (s : State) (kind i : Nat) : Bool :=
  let here (k : Nat) : Bool := k / 2 ^ 20 == i
  if kind = 0 then
    !s.sliceInUse i && (mget [] s.tm.arriving i).isEmpty && !s.tm.held.any (fun x => here x.1)
      && !s.tm.leaving.any (fun x => here x.1) && !s.eng.verify.any (fun x => x.1 / 2 == i) && !s.eng.egress.any (fun x => x.1 / 2 == i)
  else if kind = 1 then !s.portOn i && !s.laneFrame i
  else if kind = 2 then !s.portOn (0x40 + i) && !s.laneFrame (0x40 + i)
  else (List.range 8).all (fun t => !s.obB (tribIx i t) Sub.trib_TRIB_ENABLE) && (mfind s.otn.cmWait i).isNone

/-- The block exists on this part (R5). -/
def State.blockHere (s : State) (kind i : Nat) : Bool :=
  if kind = 1 ∨ kind = 2 then decide (i < 32) && s.sliceOn (i / 8) else s.sliceOn i

/-- `BLK_IDLE` and `BLK_IDLE_LINE` (R609). -/
def State.blkIdle (s : State) : Nat :=
  (List.range 40).foldl (fun a k =>
    let f := if k < 4 then s.blockIdle 0 k else if k < 8 then s.blockIdle 3 (k - 4) else s.blockIdle 1 (k - 8)
    a + f.toNat * 2 ^ k) 0
def State.blkIdleLine (s : State) : Nat :=
  (List.range 32).foldl (fun a k => a + (s.blockIdle 2 k).toNat * 2 ^ k) 0

/-- BLK_RESET (R597). -/
def blkReset (s : State) : State × Option Status :=
  let kind := s.ob blkIx Sub.blkWin_BLK_KIND
  let i := s.ob blkIx Sub.blkWin_BLK_INDEX
  if !s.blockHere kind i then (s, some .range)
  else if !s.blockIdle kind i then (s, some .notIdle)
  else
    ((blockClear kind i { s with rst := { s.rst with blocks := s.rst.blocks ++ [kind * 256 + i] } }).settleLanes, none)

/-- `BLOCK_RESET_DONE`: the block is released, or its release waits for its clock (R597, R593). -/
def blkDone (kind i : Nat) (s : State) : State :=
  if s.blockHeld kind i then
    let s := { s with rst := { s.rst with blocks := s.rst.blocks.filter (· != kind * 256 + i) } }
    let c := blockClock kind i
    let s := if s.rst.clockOff.contains (c.1 * 256 + c.2) then deferRelease c.1 c.2 s else s
    (s.winEnd blkIx Sub.blkWin_BLK_STATUS .ok).settleLanes.raise 0x0F03 0xFF (be 1 kind ++ be 1 i)
  else s

/-! ### Boot (R599 to R603) -/

/-- A range that the boot ROM forms (R514, R531): its number, BASE, SIZE, META_BASE, KEY_BEARING and CORE_KEEP. -/
abbrev RangeSpec : Type := Nat × Nat × Nat × Nat × Bool × Bool

/-- The octets of an image's header and code. -/
def imageCode (b : Bytes) : Nat := 64 + fld b 8 4

/-- The form of an image (R600). -/
def imageForm (b : Bytes) : Bool :=
  decide (64 ≤ b.length) && fld b 0 2 == 0x4A50 && fld b 2 1 == 1 && fld b 3 1 == 0 && fld b 6 2 == 0
    && fld b 8 4 % 64 == 0 && decide (fld b 8 4 ≤ 16767552) && fld b 16 48 == 0 && b.length == imageCode b + 4723

/-- SVN of an image. -/
def imageSvn (b : Bytes) : Nat := fld b 4 2

/-- The checks of R601. -/
def State.imageOk (s : State) (b : Bytes) : Bool :=
  let n := imageCode b
  (decide (1 ≤ s.fuse.lc) && decide (s.fuse.lc ≤ 3)) && imageForm b
    && gizeltanSigned (b.take n) (sub b n 96) (sub b (n + 96) 4627) && decide (s.fuse.svn ≤ imageSvn b)

/-- MEAS of an image (R602). -/
def imageMeas (b : Bytes) : Bytes := sha384 (zeros 48 ++ sha384 (b.take (imageCode b)))

def State.slotAt' (s : State) (n : Nat) : Slot := mget {} s.rst.slots n

/-- The boot record is written (R598). -/
def writeRecord (active try_ tries staged : Nat) (s : State) : State :=
  { s with rst := { s.rst with active := active, try_ := try_, tries := tries, staged := staged
                               seq := (s.rst.seq + 1) % 2 ^ 32 } }

/-- The slot that the boot ROM tries first (R603). -/
def chooseSlot' (s : State) : Nat × State :=
  let r := s.rst
  if r.try_ = 0xFF then (r.active, s)
  else if 0 < r.tries then (r.try_, writeRecord r.active r.try_ (r.tries - 1) r.staged s)
  else
    let t := writeRecord r.active 0xFF 0 r.staged s
    (r.active, { t with rst := { t.rst with reverted := some r.try_ } })

/-- The ranges that this boot forms: those of the list that are new, and those that are there and were not kept (R531). -/
def State.toForm (s : State) (ranges : List RangeSpec) : List RangeSpec :=
  let mine (r : Nat) : Bool := ranges.any (fun x => x.1 == r)
  ranges.filter (fun x => let g := s.rangeAt x.1; !(g.valid && g.coreKeep))
    ++ (s.guard.ranges.filter (fun x => x.2.valid && !x.2.coreKeep && !mine x.1)).map
        (fun x => (x.1, x.2.base, x.2.size, x.2.metaBase, x.2.keyBearing, x.2.coreKeep))

/-- The boot ROM has accepted an image: it measures, derives, endorses, forms the ranges and starts the firmware (R602), which
loads the pre-shared CAKs that it keeps (R375); `us` is the time it took. -/
def startFirmware (slot : Nat) (fallback : Bool) (image : Bytes) (ranges : List RangeSpec) (us : Nat) (s : State) : State :=
  let s := ((s.putO vaultIx Sub.vault_MEAS (imageMeas image)).put vaultIx Sub.vault_SVN (imageSvn image)).put
    0 Sub.identity_FW_VERSION (Config.fwVersion image % 2 ^ 32)
  let s := { s with vault := { s.vault with quotes := 0 } }
  let s := deriveSlot0 ((clearKek 1 s).putO vaultIx Sub.vault_MIGRATE_TO (zeros 48))
  let r := s.takeFree
  let s := r.2.endorse r.1
  let s := (s.toForm ranges).foldl (fun t x => rangeForm x.1 x.2.1 x.2.2.1 x.2.2.2.1 x.2.2.2.2.1 x.2.2.2.2.2 t) s
  let s := ((s.put rstIx Sub.rstBoot_BOOT_SLOT slot).put rstIx Sub.rstBoot_BOOT_FALLBACK fallback.toNat).put
    rstIx Sub.rstBoot_BOOT_TIME_US (us % 2 ^ 32)
  let owed := s.rst.reverted
  let s := (reloadCaks slot { s with rst := { s.rst with coresHeld := false, waiting := false, reverted := none } }).mark Timer.boot
  let s := s.raise 0x0F01 0xFF (be 4 (s.ob rstIx Sub.rstBoot_RESET_CAUSE) ++ be 1 slot ++ be 1 fallback.toNat)
  match owed with
  | some n => s.raise 0x0F06 0xFF (be 1 n)
  | none => s

/-- The boot ROM waits for an image over a management path (R599, R603). -/
def bootWait (s : State) : State := { s with rst := { s.rst with waiting := true } }

/-- The boot ROM runs: power-up is over, the cores are held, memory is trained and no strap error stops it, and
a core reset has been held for 1 ms (R590, R594, R595, R513); a range can be formed once the entropy source has ended its start-up (R394). -/
def State.bootRuns (s : State) (ranges : List RangeSpec) : Bool :=
  s.rst.step == 5 && s.past Timer.core 1000000 && s.rst.coresHeld && s.ob 0x4A01 Sub.ddr_DDR_TRAIN_STATUS != 2 && !s.pwr.vigil
    && ((s.toForm ranges).isEmpty || s.entState != entStarting)

/-- `BOOT_FIRMWARE_START` (R599 to R603). -/
def bootFirmware (ranges : List RangeSpec) (us : Nat) (s : State) : State :=
  if !s.bootRuns ranges then s
  else
    let src := s.rst.straps % 4
    if src = 3 ∨ s.clkMode = 3 then bootFailure 1 s
    else match s.rst.ddr with
    | some d =>
      if s.imageOk d.image then startFirmware 2 false d.image ranges us s
      else bootWait (bootFailure 2 { s with rst := { s.rst with ddr := none } })
    | none =>
      if src ≠ 0 ∨ s.rst.waiting then bootWait s
      else
        let c := chooseSlot' s
        let a := (c.2.slotAt' c.1).image
        let b := (c.2.slotAt' (1 - c.1)).image
        if c.2.imageOk a then startFirmware c.1 false a ranges us c.2
        else if c.2.imageOk b then startFirmware (1 - c.1) true b ranges us c.2
        else bootWait (bootFailure 2 c.2)

/-! ### Activation (R605 to R607) -/

/-- The firmware slot whose storage area the running firmware uses: that of the slot it was booted from, and of ACTIVE
for an image in DDR (R598). -/
def State.storageSlot (s : State) : Nat :=
  let n := s.ob rstIx Sub.rstBoot_BOOT_SLOT
  if n < 2 then n else s.rst.active

/-- The number of the Repertoire key whose blob opens under slot 0, if there is one (R471, R476). -/
def State.repKey (s : State) : Option Nat :=
  match mfind s.acc.repBlob s.storageSlot with
  | some (n, kek) => if (s.kekAt 0).valid ∧ (s.kekAt 0).kek = kek then some n else none
  | none => none

/-- The storage blobs migrate into the storage area of the staged slot, where its manifest allows it (R606, R351). -/
def migrateStaged (s : State) : State × Status :=
  let m := (s.slotAt' s.rst.staged).manifest
  if m = [] then (s, .ok)
  else if s.held then (s, .denied)
  else match migrate m (s.pkeCount 2) with
  | (t, .ok) =>
    (match t.repKey with
     | some n => (migrateCaks t.storageSlot t.rst.staged { t with acc := { t.acc with
         repBlob := minsert t.acc.repBlob t.rst.staged (n, (t.kekAt 1).kek) } }, .ok)
     | none => (migrateCaks t.storageSlot t.rst.staged t, .ok))
  | r => r

/-- A write of `FW_ACTIVATE`; on OK the core reset follows (R606). -/
def fwActivate (v : Nat) (s : State) : State × Status :=
  if v = 0 then (s, .ok)
  else if s.rst.staged = 0xFF then (s, .range)
  else match migrateStaged s with
  | (t, .ok) => (writeRecord t.rst.active t.rst.staged (t.ob fwIx Sub.fwWdt_FW_TRIES) 0xFF t, .ok)
  | r => r

/-- The row of `FW_ACTIVATE`: the write completes and the core reset is asserted (R606). -/
def rowActivate (c : Caller) (v : Nat) (s : State) : State :=
  orWait c fwIx Sub.fwWdt_FW_ACTIVATE (.num v) (fun s =>
    let r := objectWrite c fwIx Sub.fwWdt_FW_ACTIVATE (.num v) (fwActivate v) s
    let t := (r.1.noteCycle c (if r.2 = .ok then [okey fwIx Sub.fwWdt_FW_ACTIVATE] else [])).complete c fwIx Sub.fwWdt_FW_ACTIVATE r.2
    if r.2 = .ok ∧ v = 1 then coreReset 10 t else t) s

/-- A write of `FW_COMMIT` (R607). -/
def fwCommit (v : Nat) (s : State) : State × Status :=
  let slot := s.ob rstIx Sub.rstBoot_BOOT_SLOT
  if v = 1 ∧ s.rst.try_ ≠ 0xFF ∧ slot = s.rst.try_ then
    (((writeRecord slot 0xFF s.rst.tries s.rst.staged s).put fwIx Sub.fwWdt_FW_COMMIT 1).raise 0x0F05 0xFF (be 1 slot), .ok)
  else (s.put fwIx Sub.fwWdt_FW_COMMIT v, .ok)

/-- `FW_TRY_STATE` (R609). -/
def State.fwTryState (s : State) : Bytes := be 1 s.rst.active ++ be 1 s.rst.try_ ++ be 1 s.rst.tries ++ be 1 s.rst.staged

/-- A write of `RESET_CAUSE_CLR` (R604). -/
def causeClear (v : Nat) (s : State) : State × Status :=
  (if v = 1 then s.put rstIx Sub.rstBoot_RESET_CAUSE (setBits (s.ob rstIx Sub.rstBoot_RESET_CAUSE) 11 0 0) else s, .ok)

/-- `RESET_MSG_ASSERT`: 100 µs after its answer, the reset that a RESET message asked for; the one of another session stays due (R503,
R588). -/
def resetMsg (s : State) : State :=
  match s.rst.resetDue.find? (fun x => s.gone x.2 100000) with
  | none => s
  | some x =>
    let s := { s with rst := { s.rst with resetDue := s.rst.resetDue.erase x } }
    if x.1 = 1 then coreReset 7 s else systemReset 8 s

/-! ### The commands -/

/-- `CORE_RESET`: a core reset is asserted by a source of R588, named by its bit of R604. -/
def execCoreReset (bit_ : Nat) (s : State) : Out := .next (coreReset bit_ s)

/-- `SYSTEM_RESET`: a system reset is asserted by a source of R588, named by its bit of R604. -/
def execSystemReset (bit_ : Nat) (s : State) : Out := .next (systemReset bit_ s)

/-- `POWER_ON_RESET`: power-up finds these bits of the Vigil secret and of its check word turned over (R328, R588). -/
def execPowerOnReset (secret code : Nat) (s : State) : Out := .next (powerOnReset 0 secret code s)

/-- `PORST_N_ASSERT`: PORST_N held low for `ns` nanoseconds; in DARK the edge is latched for the sampler (R588, R577). -/
def execPorstNAssert (ns : Nat) (s : State) : Out :=
  .next (if ns < 10000 ∨ s.pwr.vigil then s
    else if s.dark then { s with pwr := { s.pwr with porstFell := true } }
    else powerOnReset 1 0 0 s)

/-- `POWER_GOOD_FALL`: the supplies are out of range for `ns` nanoseconds, and power-up finds these bits of the Vigil secret and
of its check word turned over (R328, R633). -/
def execPowerGoodFall (ns secret code : Nat) (s : State) : Out :=
  .next (if ns < 1000 ∨ s.pwr.vigil then s else powerOnReset 0 secret code s)

/-- `WATCHDOG_EXPIRY` (R588). -/
def execWatchdogExpiry (s : State) : Out := .next (watchdog s)

/-- `POWERUP_STEP_READY` (R594). -/
def execPowerupStepReady (ddr : Nat) (masks : List Nat) (s : State) : Out := .next (stepReady ddr masks s)

/-- `POWERUP_STEP_TIMEOUT` (R594). -/
def execPowerupStepTimeout (code : Nat) (s : State) : Out := .next (stepTimeout code s)

/-- `POWERUP_RETRY_TIMER` (R594). -/
def execPowerupRetryTimer (s : State) : Out := .next (stepRetry s)

/-- `CLOCK_VALID_SET` (R593). -/
def execClockValidSet (dom i : Nat) (s : State) : Out := .next (clockValid dom i s)

/-- `BLOCK_CLOCK_LOSS` (R593). -/
def execBlockClockLoss (dom i : Nat) (s : State) : Out := .next (clockLoss dom i s)

/-- `BLK_RESET` (R597). -/
def execBlkReset (c : Caller) (s : State) : Out :=
  .next (rowWindowStart c blkIx Sub.blkWin_BLK_OP Sub.blkWin_BLK_STATUS 1 blkReset s)

/-- `BLOCK_RESET_DONE` (R597). -/
def execBlockResetDone (kind i : Nat) (s : State) : Out := .next (blkDone kind i s)

/-- `BOOT_FIRMWARE_START` (R602). -/
def execBootFirmwareStart (ranges : List RangeSpec) (us : Nat) (s : State) : Out := .next (bootFirmware ranges us s)

/-- `FW_ACTIVATE` (R606). -/
def execFwActivate (c : Caller) (v : Nat) (s : State) : Out := .next (rowActivate c v s)

/-- `FW_COMMIT` (R607). -/
def execFwCommit (c : Caller) (v : Nat) (s : State) : Out :=
  .next (rowWrite c fwIx Sub.fwWdt_FW_COMMIT (.num v) (fwCommit v) s)

/-- `RESET_CAUSE_CLEAR` (R604). -/
def execResetCauseClear (c : Caller) (v : Nat) (s : State) : Out :=
  .next (rowWrite c rstIx Sub.rstBoot_RESET_CAUSE_CLR (.num v) (causeClear v) s)

/-- `RESET_MSG_ASSERT` (R503). -/
def execResetMsgAssert (s : State) : Out := .next (resetMsg s)

end Sys2Proof.Machine
end

