-- ==== Sys2Proof/Machine/LifeCycle.lean ====
section
/-! DEFINITION. Life-cycle transitions, the renewal of the Vigil secret and the security-version floor (R360 to R363,
R369). -/

namespace Sys2Proof.Machine

abbrev lcIx : Nat := 0x4002

/-- The level that an operation of the window needs, in the states that allow it: Custodian in OWNED, Vendor in VENDOR (R359,
R369). -/
def State.lcLevel (s : State) (level : Nat) : Bool :=
  (s.fuse.lc == 1 && decide (3 ≤ level)) || (s.fuse.lc == 2 && decide (2 ≤ level))

/-! ### Tickets (R360, R361) -/

/-- The fields of a ticket. -/
abbrev ticketKind (t : Bytes) : Nat := fld t 3 1
abbrev ticketDevice (t : Bytes) : Bytes := sub t 4 48
abbrev ticketOwner (t : Bytes) : Bytes := sub t 52 48
abbrev ticketSeq (t : Bytes) : Nat := fld t 100 1
abbrev ticketSigner (t : Bytes) : Bytes := sub t 104 2049

/-- The state that a ticket of this kind leads to, and whether Gizeltan signs it; none where R360 lists no such
transition. -/
def transitionOf (lc kind : Nat) : Option (Nat × Bool) :=
  match lc, kind with
  | 1, 1 => some (2, true)
  | 2, 2 => some (2, false)
  | 2, 3 => some (3, false)
  | 1, 4 => some (4, true)
  | 2, 4 => some (4, false)
  | 3, 4 => some (4, true)
  | _, _ => none

/-- The form of a ticket (R361); who signs it gives its length. -/
def ticketForm (t : Bytes) (gizeltan : Option Bool) : Bool :=
  fld t 0 2 == 0x4C54 && fld t 2 1 == 1 && decide (1 ≤ ticketKind t) && decide (ticketKind t ≤ 4) && fld t 101 3 == 0
    && (decide (ticketKind t ≤ 2) || (ticketOwner t).all (· == 0))
    && (match gizeltan with
        | some true => t.length == 2153 + 96 + 4627 && (ticketSigner t).all (· == 0)
        | some false => t.length == 2153 + 96 + 3309
        | none => true)

/-- Owner records already used (R361). -/
def State.ownerRecords (s : State) : Nat := if s.fuse.lc = 0 ∨ s.fuse.lc = 1 then 0 else 1 + s.fuse.transfers

/-- The signatures of a ticket verify, under Gizeltan's keys or the owner's (R361). -/
def State.ticketSigned (s : State) (gizeltan : Bool) (t : Bytes) : Bool :=
  let m := t.take 2153
  if gizeltan then gizeltanSigned m (sub t 2153 96) (t.drop 2249)
  else sha384 (ticketSigner t) == s.ownerId && verifyBoth (ticketSigner t) m (t.drop 2153)

/-- Gizeltan signs the ticket, and not the owner (R360). -/
def State.gizeltanSigns (s : State) (t : Bytes) : Bool := ((transitionOf s.fuse.lc (ticketKind t)).map (·.2)).getD false

/-- The checks of a TRANSITION: where it leads, or the status of the first that fails; in RETURNED it is the one operation of
the window (R359 to R361). -/
def State.transitionCheck (s : State) (level : Nat) (t : Bytes) : Except Status Nat :=
  if !(s.lcLevel level || (s.fuse.lc == 3 && decide (2 ≤ level))) then .error .denied
  else
    let to_ := transitionOf s.fuse.lc (ticketKind t)
    if !ticketForm t (to_.map (·.2)) then .error .range
    else match to_ with
    | none => .error .denied
    | some (lc, gizeltan) =>
      if ticketDevice t ≠ s.deviceId ∨ ticketSeq t ≠ s.ownerRecords then .error .denied
      else if ticketKind t = 2 ∧ 8 ≤ s.fuse.transfers then .error .denied
      else if !s.ticketSigned gizeltan t then .error .integrity
      else .ok lc

/-! ### The transition (R362, R363) -/

/-- The destruction set that every transition shares: key stores and SAs, slots, bank and jobs, CAKs, and the keys of
key-bearing ranges (R362, R375). -/
def destroyKeys (s : State) : State :=
  let s := zeroiseCaks (zeroiseVault (abortJobs .denied (knotAbandon false (pkeDenied s))))
  let s := guardCurtain s
  { s with asc := { s.asc with sa := [], saBad := [], lastPn := [] } }

/-- The fuses of a transition (R360): with the new owner, the secret drawn at the vendor step, and at entry to SCRAPPED the rest
of DUS blown. -/
def fuseTransition (c : LcChange) (s : State) : State :=
  let f := s.fuse
  let n := if f.lc = 2 ∧ c.lc = 2 then f.transfers + 1 else f.transfers
  { s with fuse := { f with lc := c.lc, transfers := n, owner := if c.lc = 2 then c.owner else f.owner
                            dus := if c.lc = 4 then 2 ^ 256 - 1 else c.dus.getD f.dus
                            dusCode := if c.dus.isSome then 0 else f.dusCode
                            change := some { c with fused := true } } }

/-- Steps 1 and 2 of a transition, once its checks have passed and its secret is drawn: traffic stops, every operation of the
vault and every job is aborted, and the destruction set is zeroised, the Vigil secret with it (R362, R363). The vendor step has
nothing to destroy. -/
def transitionBegin (lc : Nat) (owner : Bytes) (vs dus : Option Nat) (s : State) : State :=
  let s := destroyKeys s
  { s with alm := { s.alm with vs := none, vsCode := 0 }, fuse := { s.fuse with change := some ⟨lc, owner, vs, dus, false⟩ } }

/-- Steps 3 and 4, a period of 8 ns each: the fuses are written, which commits the transition, and a system reset follows
(R363, log 115). -/
def lcAdvance (s : State) : State :=
  match s.fuse.change with
  | none => s
  | some c =>
    if c.fused then systemReset 6 { s with fuse := { s.fuse with change := none } }
    else
      let old := s.fuse.lc
      (fuseTransition c { s with alm := { s.alm with vs := c.vs } }).raise 0x0902 0xFF (be 1 old ++ be 1 c.lc)

/-- A transition whose secret comes from the random bit generator (R326). -/
def lcDrawn (who : EntWho) (begin_ : Bytes → State → State) (s : State) : State × Option Status :=
  match drawRequest who 32 s with
  | (.served b, s) => (begin_ b s, none)
  | (.waits, s) => (s, none)
  | (.fails st, s) => (s, some st)

/-- The vendor step, BLANK to VENDOR, which the boot ROM's factory mode authorises: DUS is drawn and fused (R326, R360). -/
def vendorStep (s : State) : State × Option Status :=
  lcDrawn .vendor (fun b => transitionBegin 1 (zeros 48) none (some (num b))) s

/-- TRANSITION once the engine has verified the ticket's signatures (R363), which it took at its start (R465); a transition into
OWNED draws its Vigil secret (R326). -/
def lcVerified (level : Nat) (t : Bytes) (s : State) : State × Option Status :=
  match s.transitionCheck level t with
  | .error st => (s, some st)
  | .ok lc =>
    if lc = 2 then lcDrawn (.transition (ticketOwner t)) (fun b => transitionBegin 2 (ticketOwner t) (some (num b)) none) s
    else (transitionBegin lc (zeros 48) none none s, none)

/-- LC_TRANSITION: the checks before the signatures, and then the engine verifies them (R361, R371). -/
def lcTransition (level : Nat) (s : State) : State × Option Status :=
  match s.transitionCheck level (s.oct lcIx Sub.lcWin_LC_TICKET) with
  | .error .integrity | .ok _ =>
    pkeWindow (.ticket level (s.oct lcIx Sub.lcWin_LC_TICKET)) (if s.gizeltanSigns (s.oct lcIx Sub.lcWin_LC_TICKET) then gizeltanOps else verifyOps) s
  | .error st => (s, some st)

/-! ### VS_RENEW and SVN_COMMIT (R369) -/

/-- A new Vigil secret is there (R369). -/
def vsRenewed (b : Bytes) (s : State) : State := { s with alm := { s.alm with vs := some (num b), vsCode := 0 } }

/-- VS_RENEW (R369). -/
def vsRenew (level : Nat) (s : State) : State × Option Status :=
  if !s.lcLevel level then (s, some .denied)
  else if s.alm.vs.isSome ∨ s.fuse.lc ≠ 2 then (s, some .busy)
  else match drawRequest .renew 32 s with
    | (.served b, s) => (vsRenewed b s, some .ok)
    | (.waits, s) => (s, none)
    | (.fails st, s) => (s, some st)

/-- SVN_COMMIT (R369). -/
def svnCommit (level : Nat) (s : State) : State × Option Status :=
  let svn := s.ob vaultIx Sub.vault_SVN
  if !s.lcLevel level then (s, some .denied)
  else if 63 ≤ s.fuse.svn ∨ 63 < svn then (s, some .range)
  else ({ s with fuse := { s.fuse with svn := max s.fuse.svn svn } }, some .ok)

/-- An operation of the life-cycle window by its code; `rom` = it is the device's own code that asks (R360). -/
def lcOp (rom : Bool) (level code : Nat) (s : State) : State × Option Status :=
  match code with
  | 1 => if rom && s.fuse.lc == 0 then vendorStep s else lcTransition level s
  | 2 => vsRenew level s
  | 3 => svnCommit level s
  | _ => (s, some .ok)

/-- A row of the life-cycle window. -/
def rowLc (c : Caller) (code : Nat) (s : State) : State :=
  rowWindowStart c lcIx Sub.lcWin_LC_OP Sub.lcWin_LC_STATUS code (lcOp (c == .firmware) (s.levelOf c) code) s

/-- `LC_TRANSITION` (R363). -/
def execLcTransition (c : Caller) (s : State) : Out := .next (rowLc c 1 s)

/-- `LC_VS_RENEW` (R369). -/
def execLcVsRenew (c : Caller) (s : State) : Out := .next (rowLc c 2 s)

/-- `LC_SVN_COMMIT` (R369). -/
def execLcSvnCommit (c : Caller) (s : State) : Out := .next (rowLc c 3 s)

end Sys2Proof.Machine
end

