-- ==== Sys2Proof/Machine/Profile.lean ====
section
/-! DEFINITION. The stored configuration, its digest and the Repertoire key (R451, R471, R476, R479). -/

namespace Sys2Proof.Machine

abbrev rpIx : Nat := 0x0100
abbrev rpWinIx : Nat := 0x0101

/-! ### The stored configuration (R451) -/

/-- The object belongs to the stored configuration: Persist = Yes and Reset = System (R451). -/
def storedObject (key : Nat) : Bool :=
  match descOf (key / 256) (key % 256) with
  | some d => d.persist && d.reset == .system
  | none => false

/-- A transmit SC as it is stored: no AN valid, every SA slot empty (R475). -/
def txscStored (e : Nat) : Nat := setBits (setBits e 71 68 0) 63 0 0
def rxscStored (e : Nat) : Nat := setBits (setBits e 158 155 0) 63 0 0

/-- A table without the entries that are all zero. -/
def stored (f : Nat → Nat) (m : SMap Nat) : SMap Nat := (m.map (fun x => (x.1, f x.2))).filter (fun x => x.2 != 0)

/-- The running stored configuration (R451). -/
def State.config (s : State) : Profile :=
  { nums := s.dict.nums.filter (fun x => storedObject x.1)
    octs := s.dict.octs.filter (fun x => storedObject x.1)
    secy := s.asc.secy
    txsc := stored txscStored s.asc.txsc
    rxsc := stored rxscStored s.asc.rxsc
    statics := s.hitch.statics
    policer := stored (fun e => setBits e 111 0 0) s.tm.policer
    queue := stored (fun e => setBits e 86 0 0) s.tm.queue
    group := stored (fun e => setBits e 86 0 0) s.tm.group
    admission := stored (fun e => setBits e 15 0 0) s.tm.admission
    cm := s.otn.cm }

/-- An object that differs from unit to unit: its default is read from fuses or straps or characterised, and
`PAIR_PEER_ID` (R479). -/
def unitLocal (key : Nat) : Bool :=
  let ix := key / 256
  let n := key % 256
  match setOf ix with
  | some .port => n == Sub.port_PAUSE_SA
  | some .ring => n == Sub.ring_HAL_SA
  | some .hitch => n == Sub.hitch_HASH_SEEDS
  | some .timeClient => n == Sub.timeClient_RX_LATENCY_NS || n == Sub.timeClient_TX_LATENCY_NS
  | some .timeLine => n == Sub.timeClient_RX_LATENCY_NS || n == Sub.timeClient_TX_LATENCY_NS
  | some .ke => n == Sub.ke_PAIR_PEER_ID
  | _ => false

/-- The image of a profile, as it is kept in flash (R471). -/
def Profile.image (p : Profile) : Bytes :=
  Config.profileImage p.nums p.octs [p.secy, p.txsc, p.rxsc, p.statics, p.policer, p.queue, p.group, p.admission, p.cm]

/-- An image holds at most 8 MiB (R471). -/
def Profile.fits (p : Profile) : Bool := decide (p.image.length ≤ 8 * 2 ^ 20)

/-- The digest of a configuration: over its image without the unit-local objects (R479). -/
def Profile.digest (p : Profile) : Bytes :=
  sha384 ({ p with nums := p.nums.filter (fun x => !unitLocal x.1)
                   octs := p.octs.filter (fun x => !unitLocal x.1) } : Profile).image

/-- `RP_PAIR_DIGEST` (R479). -/
def State.pairDigest (s : State) : Bytes := s.config.digest

/-! ### The profiles (R474, R476) -/

/-- Open profile `n`: its contents, or the status of R474. -/
def State.openProfile (s : State) (n : Nat) : Except Status Profile :=
  if !(s.kekAt 0).valid then .error .notReady
  else match mfind s.acc.profiles n, s.repKey with
  | some p, some k => if p.key = k then .ok p else .error .integrity
  | _, _ => .error .integrity

/-- `RP_VALID`: the profiles that open under the current slot 0 (R476). -/
def State.rpValid (s : State) : Nat :=
  (List.range 4).foldl (fun a n => match s.openProfile n with
    | .ok _ => a + 2 ^ n
    | .error _ => a) 0

/-- `RP_DIRTY`: the running stored configuration differs from `RP_ACTIVE` (R483); where that profile does not open, from the
defaults that the device came up with (R474, R476), DESIGN CHOICE (log 148). -/
def State.rpDirty (s : State) : Bool :=
  match s.openProfile (s.ob rpIx Sub.rpCtl_RP_ACTIVE) with
  | .ok p => s.config != { p with key := 0 }
  | .error _ => s.config != {}

end Sys2Proof.Machine
end

