-- ==== Sys2Proof/Machine/Pair.lean ====
section
/-! DEFINITION. The Understudy: heartbeats, negotiation, checkpoints and mirroring, the takeover and switch commands
(chapter 12), and the alignment of Tether and Halyard lanes (R59, R60). -/

namespace Sys2Proof.Machine

/-- The heartbeat held says that the peer is active; that it reports a fault; that it sees IN_SYNC (R417). -/
def State.peerActive (s : State) : Bool := bit (fld s.pair.hb 0 1) 7
def State.peerFault (s : State) : Bool := bit (fld s.pair.hb 0 1) 6
def State.peerSync (s : State) : Bool := bit (fld s.pair.hb 0 1) 5

/-! ### PAIR_STATE (R437 to R439) -/

/-- The pair leaves UNPAIRED once the Tether is aligned (R437). -/
def pairJoin (s : State) : State :=
  if s.pairRuns ∧ s.tetherUp ∧ s.pairState = 0 then setPairState 1 { s with pair := { s.pair with peerDigest := none } } else s

/-- What the standby holds of checkpoints starts afresh. -/
def Understudy.fresh (p : Understudy) : Understudy := { p with done := [], doneAt := [], count := [], asm := [], aged := [], ack := 0 }

/-- The line indexes whose CAK came from a Knot handshake on this unit (R388, R389). -/
def State.ownKnots (s : State) : List Nat :=
  (List.range 32).filter (fun n =>
    let c := s.cakAt (s.ob (Ix.kePort n) Sub.kePort_MKA_CAK)
    s.sliceOn (n / 8) && c.valid && c.source == 1)

/-- The active unit's firmware tells the standby's which they are, whenever they change (R389). -/
def mirrorKnots (s : State) : State :=
  if s.paired ∧ s.roleOn ∧ s.tetherUp ∧ 3 ≤ s.pairState ∧ s.pairState ≤ 5 ∧ !s.rst.coresHeld ∧ s.ownKnots ≠ s.pair.knotSent then
    mirror (.knots s.ownKnots) { s with pair := { s.pair with knotSent := s.ownKnots } }
  else s

/-- The entries of a slice that BULK mirrors: SecYs, SCs and SAs, and the armed cues and watches; receive SCs go before the SAs that name
them, and again after them with their slots (R437, R142). -/
def State.bulkEntries (s : State) (sl : Nat) : List (Nat × Nat × Nat) :=
  let own (t : Nat) (m : SMap Nat) (p : Nat → Bool) : List (Nat × Nat × Nat) :=
    (m.filter (fun x => x.1 / 2 ^ 20 == sl && p x.2)).map (fun x => (t, x.1 % 2 ^ 20, x.2))
  let live (e : Nat) : Bool := Cue.state e == 1 || Cue.state e == 2 || Cue.state e == 3
  own 0 s.asc.secy (fun _ => true) ++ own 2 s.asc.rxsc Rxsc.valid ++ own 3 s.asc.sa Sa.valid ++ own 2 s.asc.rxsc Rxsc.valid
    ++ own 1 s.asc.txsc (fun _ => true) ++ own 4 s.cue.tx live ++ own 5 s.cue.trib live ++ own 6 s.cue.watch (fun e => Watch.state e == 1 || Watch.state e == 2)

/-- Every live key of a slice is mirrored (R437). -/
def mirrorKeys (sl : Nat) (s : State) : State :=
  (s.asc.keys.filter (fun x => x.1 / 2 ^ 20 == sl && x.2.valid)).foldl
    (fun t x => mirrorKey sl x.2.meta_ x.2.octets (handleOf sl x.2.gen (x.1 % 2 ^ 20)) t) s

/-- After a switch, once the peer's heartbeats show it standby, the keys are mirrored again (R427, log 154). -/
def mirrorKeysDue (s : State) : State :=
  if s.pair.keysDue ∧ s.roleOn ∧ 4 ≤ s.pairState ∧ s.pairState ≤ 5 ∧ s.pair.hb ≠ [] ∧ !s.peerActive ∧ s.tetherUp ∧ !s.rst.coresHeld then
    s.slices.foldl (fun t sl => mirrorKeys sl t) { s with pair := { s.pair with keysDue := false } }
  else s

/-- BULK: every live key, then every entry and context, then word that it is complete (R437). -/
def mirrorAll (s : State) : State :=
  let s := s.slices.foldl (fun t sl =>
    let t := mirrorKeys sl t
    let t := (t.bulkEntries sl).foldl (fun u x => mirror (.entry x.1 sl x.2.1 x.2.2) u) t
    (t.dict.nums.filter (fun x => x.1 / 256 / 8 == soduIx sl 0 / 8)).foldl
      (fun u x => mirror (.write (x.1 / 256) (x.1 % 256) (.num x.2)) u) t) s
  mirror .all (mirrorKnots { s with pair := { s.pair with knotSent := [] } })

/-- The peer's digest is compared: where they differ the pair is refused, and where they are equal the active unit mirrors everything
(R437). -/
def digestTake (b : Bytes) (s : State) : State :=
  let s := { s with pair := { s.pair with peerDigest := none } }
  if b ≠ s.pairDigest then setPairState 6 s
  else if s.roleOn ∧ s.pairState = 3 then mirrorAll (setPairState 4 s)
  else s

/-- The digest of this unit is sent, once its firmware runs (R437, R440). -/
def digestSay (s : State) : State :=
  if s.pair.digestDue ∧ s.tetherUp ∧ !s.rst.coresHeld ∧ s.pairState = 3 then
    firmwareSay (.digest s.pairDigest) { s with pair := { s.pair with digestDue := false } }
  else s

/-- BULK begins: the units exchange the digests of their stored configurations; the peer's may have come already (R437). -/
def enterBulk (s : State) : State :=
  let s := digestSay (setPairState 3 { s with pair := { s.pair.fresh with mirrored := false, digestDue := true, handles := [], keysDue := false } })
  match s.pair.peerDigest with
  | some b => if s.rst.coresHeld then s else digestTake b s
  | none => s

/-- KEYING begins: the home unit runs the Knot handshake of purpose 2 (R420). -/
def enterKeying (s : State) : State :=
  let s := setKnotState tetherPlace 0 (setPairState 2 s)
  if s.home then (knotRun tetherPlace s).1 else s

/-- KEYING ends when the new pair KEK stands (R420, R437). -/
def pairAdvance (s : State) : State :=
  if s.pairState = 2 ∧ s.ob keIx Sub.ke_PAIR_KNOT_STATE = 2 ∧ (s.kekAt 2).valid then enterBulk s else s

/-- The age of a checkpoint that was completed in a period: the time since, and 0.8 ms (R426). -/
def State.ageUs (s : State) (t : Nat) : Nat := (s.time.periods - t) * 8 / 1000 + 800

/-- `CKPT_AGE_US`: the greatest age over the enabled slices (R426, R444). -/
def State.ckptAge (s : State) : Nat :=
  if s.slices.any (fun sl => (mfind s.pair.doneAt sl).isNone) then 0xFFFFFFFF
  else s.slices.foldl (fun a sl => max a (min 0xFFFFFFFE (s.ageUs (mget 0 s.pair.doneAt sl)))) 0

/-- `WTR_LEFT_S` (R444). -/
def State.wtrLeft (s : State) : Nat :=
  match s.pair.wtr with
  | some t => s.ob pairIx Sub.pair_WTR_S - (s.time.periods - t) / 125000000
  | none => 0

/-! ### Roles (R408, R411, R430) -/

/-- The active unit releases SEL_ACT and idles its transmitters (R430). -/
def yieldPorts (s : State) : State := ({ s with pair := { s.pair with yielding := true, selAct := false } } : State).settleLanes

/-- SEL_ACT follows the role and the generator (R408). -/
def assertSelAct (s : State) : State :=
  if s.paired ∧ s.roleOn ∧ !s.pair.selAct ∧ !s.pair.yielding ∧ !s.pair.silent then
    ({ s with pair := { s.pair with selAct := true } } : State).settleLanes
  else s

/-- A command that was written here completes: OK when the named unit is active, BUSY otherwise; so does one that the home unit has not
answered yet (R435, R436). -/
def settleCmd (homeActive : Bool) (s : State) : State :=
  match s.pair.cmd with
  | some c =>
    let st : Status := if (c.cmd == 1) == homeActive then .ok else .busy
    let s := { s with pair := { s.pair with cmd := none } }
    if c.reversion ∨ c.forwarded then s else s.put swIx Sub.swWin_SW_STATUS st.code
  | none => s

/-- The active unit becomes standby (R411, R432): it holds every key, and waits for the peer's checkpoints; MKA ends on it (R381), and no
tributary carries a multiframe of its own any more (R433). -/
def becomeStandby (s : State) : State :=
  let p := { s.pair.fresh with selAct := false, yielding := false, taken := false, stopping := false, sealHold := false
                               openHold := [], mirrored := decide (4 ≤ s.pairState), declared := none, losOn := []
                               knotPorts := s.ownKnots, knotOwed := [], handles := [], keysDue := false }
  let s := (({ s with pair := p, otn := { s.otn with sending := [] } } : State).put psIx Sub.pairStat_ROLE 0).settleLanes
  let s := (List.range 32).foldl (fun t n => mkaRestart n t) s
  settleCmd (!s.home) (if s.pairState = 5 then setPairState 4 s else s)

/-! ### The takeover (R428, R431, R432) -/

/-- The guard over one transmit SA: 2^24 more; past the highest PN it is exhausted (R428, R126). -/
def guardSa (e : Nat) : Nat :=
  if Sa.valid e ∧ Sa.dir e = 0 then
    (if Sa.highest e < Sa.nextPn e + 2 ^ 24 then Sa.setExhausted (Sa.setNextPn e (Sa.highest e)) true
     else Sa.setNextPn e (Sa.nextPn e + 2 ^ 24))
  else e

/-- The PN guard over every transmit SA of every slice (R428). -/
def pnGuard (s : State) : State := { s with asc := { s.asc with sa := s.asc.sa.map (fun x => (x.1, guardSa x.2)) } }

/-- The sealed tributaries of a slice (R423). -/
def State.sealedTribs (s : State) (sl : Nat) : List Nat :=
  if s.otnMode sl = 0 then []
  else (s.tribsOn sl).filter (fun t => s.ob (tribIx sl t) Sub.trib_TRIB_MODE != 0)

/-- The MFN advance of every transmit context (R282). -/
def mfnGuard (s : State) : State :=
  s.slices.foldl (fun t sl => (t.sealedTribs sl).foldl (fun u k =>
    { u with otn := { u.otn with begun := u.otn.begun.filter (· != skey sl k) ++ [skey sl k]
                                 taken := u.otn.taken.filter (· != skey sl k) ++ [skey sl k] } }.addOb
      (soduIx sl k) Sub.sodu_TX_MFN 64 (2 ^ 20)) t) s

/-- The PN trigger of a cue holds: its SA of the present AN has set THRESH_HIT (R223). -/
def State.pnHolds (s : State) (sl i : Nat) : Bool :=
  let sc := s.txscAt sl i
  Cue.trigger (s.cueAt sl i) == 1
    && (((txSlot sc (Txsc.encodingAn sc)).map (fun k => Sa.threshHit (s.saAt sl k))).getD false)

/-- Time and PN triggers that held in shadow fire at once (R432), and a pending tributary cue is tested (R238, R241). -/
def cuesWake (s : State) : State :=
  s.slices.foldl (fun t sl =>
    let t := (t.cuesOf sl).foldl (fun u i =>
      if u.pnHolds sl i then cueTrigger sl i u else cueTimeTrigger sl false i u) t
    (List.range 8).foldl (fun u k => tribCueTest sl k (cueTimeTrigger sl true k u)) t) s

/-- A handshake can begin on a line index: the local check, no HOLD, no INIT of its own under way, and a free context (R372,
R382). -/
def State.knotOpen (s : State) (n : Nat) : Bool :=
  !s.rst.coresHeld && !s.held && !s.knotInitiates n
    && (s.freeEph.isSome || s.ke.knot.any (fun x => x.2.stage == .answered)) && s.knotAllowed

/-- The firmware runs the handshake again on each line index whose CAK came from one, once a standby has taken over: no Knot CAK is
mirrored. One that cannot begin yet stays owed (R389, log 119). -/
def knotAgain (s : State) : State :=
  s.pair.knotOwed.foldl (fun t n =>
    if t.knotOpen n then
      let r := knotStart n t
      if r.2 = .ok then { r.1 with pair := { r.1.pair with knotOwed := r.1.pair.knotOwed.filter (· != n) } } else r.1
    else t) s

/-- The time to a takeover commit from what it follows: the declaration of a fault, HANDOVER, or the end of configuration at start-up
(R444, log 152). -/
def State.commitNs (s : State) (cause : Nat) : Nat :=
  let from_ := if cause = 6 then Timer.config else if cause = 4 ∨ cause = 5 then Timer.handover else Timer.declared
  8 * (s.time.periods - mget 0 s.time.since from_)

/-- Sealed and mapped tributaries send ODU-AIS from a takeover commit to their next multiframe boundary (R433). -/
def takeoverAis (s : State) : State :=
  s.slices.foldl (fun t sl => if t.otnMode sl = 0 then t else (t.tribsOn sl).foldl (fun u k => sendAis sl k u) t) s

/-- The takeover commit (R432). The cause is that of `LAST_CAUSE`. -/
def takeover (cause : Nat) (s : State) : State :=
  let lost := s.pair.lost
  let clients := (List.range 0x20).filter s.portOn
  let owed := (List.range 32).filter (fun n => s.ownKnots.contains n || (s.pair.knotPorts.contains n && s.sliceOn (n / 8)))
  let p := { s.pair with selAct := true, silent := false, yielding := false, taken := false, stopping := false
                         sealHold := true, openHold := clients, declared := none, settled := true, wtr := none, losOn := []
                         knotOwed := owed, knotSent := [], keysDue := true }
  let s := cuesWake (mfnGuard (pnGuard (((({ s with pair := p } : State).mark Timer.commit).put psIx Sub.pairStat_ROLE 1).settleLanes)))
  let s := (((takeoverAis s).put psIx Sub.pairStat_LAST_COMMIT_NS (s.commitNs cause % 2 ^ 32)).put psIx Sub.pairStat_LAST_CAUSE cause).addOb
    psIx Sub.pairStat_SWITCHES 32 1
  let s := (s.raise 0x0B01 0xFF (be 1 cause)).alarm 0x34 0
  let s := if s.pairState < 4 ∨ s.pairState = 6 then s
    else if lost then setPairState (if s.tetherUp then 1 else 0) s
    else setPairState 4 s
  let s := (List.range 32).foldl (fun t n => mkaAdopt n t) s
  knotAgain (settleCmd s.home s)

/-- A standby does not take over (R431): a command that runs completes (R436), and a pair whose Tether is cut is UNPAIRED (R437). -/
def noTakeover (lost : Bool) (s : State) : State :=
  let s := settleCmd (!s.home) (s.alarm 0x32 0)
  let s := if lost then s.alarm 0x30 0 else s
  if lost ∧ !s.tetherUp then setPairState 0 s else s

/-- A detected fault is declared on the standby (R431). -/
def declareFault (cause : Nat) (lost : Bool) (s : State) : State :=
  if s.pairState = 5 then ({ s with pair := { s.pair with declared := some (cause, lost) } } : State).mark Timer.declared
  else noTakeover lost s

/-- SEL_MATE reads inactive, and came to do so within 1 µs after the declaration (R431). -/
def State.mateGone (s : State) : Bool :=
  !s.pair.mate && decide (mget 0 s.time.since Timer.mateOff ≤ mget 0 s.time.since Timer.declared + 125)

/-- The microsecond in which SEL_MATE may still read inactive has passed (R431). -/
def State.mateLate (s : State) : Bool := s.past Timer.declared 1001

/-- A declared fault that SEL_MATE did not follow within 1 µs brings no takeover (R431). -/
def declaredRun (s : State) : State :=
  match s.pair.declared with
  | some (_, lost) =>
    if !s.mateGone ∧ (s.mateLate ∨ !s.pair.mate) then noTakeover lost { s with pair := { s.pair with declared := none } } else s
  | none => s

/-- `TAKEOVER_COMMIT`: the takeover of a declared fault, once SEL_MATE reads inactive; while it may still come to, the standby waits, and
after 1 µs it does not take over (R431). -/
def takeoverCommit (s : State) : State :=
  match s.pair.declared with
  | some (cause, _) => if s.mateGone then takeover cause { s with pair := { s.pair with declared := none } } else declaredRun s
  | none => s

/-- SEL_MATE is sampled: a high sample reads active, and the second low one in succession, 100 ns after the first, inactive (R409,
log 153). -/
def selMateSample (high : Bool) (s : State) : State :=
  if high then { s with pair := { s.pair with mate := true, mateLow := false } }
  else if !s.pair.mateLow then ({ s with pair := { s.pair with mateLow := true } } : State).mark Timer.mate
  else if s.pair.mate ∧ s.past Timer.mate 100 then ({ s with pair := { s.pair with mate := false } } : State).mark Timer.mateOff
  else s

/-! ### Heartbeats (R408, R416 to R418) -/

/-- CAUSE of the fault that the unit reports: 1 = a pipe stopped, 2 = HOLD or above; none = no fault (R417). -/
def State.pairFault (s : State) : Option Nat :=
  if s.slices.any (fun sl => s.pipeState sl .seal == 2 || s.pipeState sl .open == 2) then some 1
  else if s.held then some 2 else none

/-- The LOS bits of 32 lanes from an index low byte on. -/
def State.losBits (s : State) (m : Nat) : Nat :=
  (List.range 32).foldl (fun a n => if s.obB (Ix.lane (m + n)) Sub.lane_LOS then a + 2 ^ n else a) 0

/-- The heartbeat's payload (R417). -/
def State.heartbeat (s : State) : Bytes :=
  let f := if s.roleOn then (if s.pair.taken then some (s.pairFault.getD 0) else s.pairFault) else none
  be 1 (s.roleOn.toNat * 128 + f.isSome.toNat * 64 + (s.pairState == 5).toNat * 32) ++ be 1 (f.getD 0)
    ++ be 2 s.pair.hbSeq ++ be 4 (s.losBits 0) ++ be 4 (s.losBits 0x40)
    ++ be 2 (if s.roleOn then 0 else s.pair.ack % 2 ^ 16) ++ zeros 2

/-- `HEARTBEAT_TIMER`, every 1 µs (R416): the generator runs; an active unit with a fault yields at this heartbeat, and takes its ports
back when the fault has gone and nobody has taken them. -/
def heartbeatTimer (s : State) : State :=
  if !s.pairRuns ∨ !s.past Timer.beat 1000 then s
  else
    let s := s.mark Timer.beat
    let s := pairAdvance { s with pair := { s.pair with silent := false } }
    let s :=
      if !s.roleOn then s
      else if s.pairFault.isSome then (if s.pair.yielding then s else yieldPorts s)
      else if s.pair.yielding ∧ !s.pair.taken ∧ !s.pair.stopping ∧ !s.peerActive then
        { s with pair := { s.pair with yielding := false } }
      else s
    let s := assertSelAct { s with pair := { s.pair with hbSeq := (s.pair.hbSeq + 1) % 2 ^ 16 } }
    tetherSend 2 s.heartbeat s

/-- `n` bad frames are discarded and counted (R415). -/
def badFrames (n : Nat) (s : State) : State := s.addOb psIx Sub.pairStat_TTH_BAD_FRAMES 32 n

/-- A Tether frame arrives on aligned lanes: its payload has the length of its type, or it is a bad frame (R415); the firmware and hardware
of a pair take it. -/
def tetherTake (len : Nat) (b : Bytes) (act : State → State) (s : State) : State :=
  if !s.tetherUp then s
  else if b.length ≠ len then badFrames 1 s
  else if s.pairRuns then act s
  else s

/-- At a heartbeat, every lane's LOS is compared (R430). -/
def losWatch (s : State) : State := allLanes.foldl (fun t m => losLane m t) s

/-- The time without a heartbeat begins to run (R410, R418). -/
def heardFrom (s : State) : State := ({ s with pair := { s.pair with missed := 0 } } : State).mark Timer.heard

/-- Each whole interval of 1.25 µs without a heartbeat is counted (R418). -/
def countMissed (s : State) : State :=
  let n := 8 * (s.time.periods - mget 0 s.time.since Timer.heard) / 1250
  if s.pairRuns ∧ s.pair.missed < n then
    ({ s with pair := { s.pair with missed := n } } : State).addOb psIx Sub.pairStat_HB_MISSED 32 (n - s.pair.missed)
  else s

/-- A heartbeat at the active unit (R411, R437). -/
def heartbeatActive (s : State) : State :=
  if s.peerActive then
    (if s.pair.yielding then becomeStandby s
     else if s.pair.mate ∧ !s.home then (becomeStandby s).alarm 0x33 0
     else s)
  else if s.peerSync ∧ s.pairState = 4 then setPairState 5 s
  else if !s.peerSync ∧ s.pairState = 5 then setPairState 4 s
  else s

/-- `HEARTBEAT_RECEIVED` (R417). -/
def heartbeatReceived (b : Bytes) (s : State) : State :=
  tetherTake 16 b (fun s =>
    let before := s.peerFault
    let s := losWatch (heardFrom { countMissed s with pair := { (countMissed s).pair with hb := b, lost := false } })
    if s.roleOn then heartbeatActive s
    else
      let s := syncTest s
      if s.peerFault ∧ !before ∧ s.pair.declared = none then declareFault 2 false s else s) s

/-- Heartbeats are lost on an active unit: the pair is left, and TETHER_DOWN raised where SEL_MATE stays active (R437, R441). -/
def lossActive (s : State) : State :=
  let s := if s.pair.mate then s.alarm 0x30 0 else s
  if s.pairState = 5 then setPairState (if s.tetherUp then 1 else 0) s else s

/-- `HEARTBEAT_LOSS`: declared 3.25 µs after the last heartbeat (R418, R430). -/
def heartbeatLoss (s : State) : State :=
  if !s.pairRuns then s
  else
    let s := countMissed s
    if s.pair.lost ∨ !s.past Timer.heard 3250 then s
    else
      let s := { s with pair := { s.pair with lost := true } }
      if s.roleOn then lossActive s else declareFault 1 true s

/-- `SEL_ACT_RELEASE`: the generator has been silent for 2.0 µs (R408). -/
def selActRelease (s : State) : State :=
  if s.paired ∧ s.past Timer.beat 2000 then ({ s with pair := { s.pair with silent := true, selAct := false } } : State).settleLanes else s

/-- What the pair's hardware and firmware do of themselves: intervals without a heartbeat are counted, a declared fault waits for SEL_MATE,
IN_SYNC is kept only while its conditions hold, and the firmware sends what it owes (R389, R418, R431, R437, R438). -/
def State.pairPeriod (s : State) : State :=
  if s.paired then knotAgain (mirrorKeysDue <| mirrorKnots (digestSay (syncTest (declaredRun (countMissed s))))) else s

/-! ### Negotiation (R419, R420) -/

/-- KCV (R419). -/
def State.kcv (s : State) : Bytes := if (s.kekAt 2).valid then (aesEnc (s.kekAt 2).octets (zeros 16)).take 8 else zeros 8

/-- HELLO (R419). -/
def State.hello (s : State) : Bytes :=
  be 1 1 ++ be 1 0 ++ be 1 (s.ob 0 Sub.identity_PART_CODE) ++ be 1 (s.ob 0 Sub.identity_SLICE_MASK) ++ be 1 s.home.toNat
    ++ zeros 3 ++ s.deviceId ++ s.kcv

/-- A HELLO of this unit's own accord. -/
def sayHello (s : State) : State :=
  tetherSend 1 s.hello (({ s with pair := { s.pair with asked := true } } : State).mark Timer.hello)

/-- `TETHER_HELLO_TIMER`, every 100 µs (R419). -/
def helloTimer (s : State) : State :=
  let s := pairJoin s
  if s.pairRuns ∧ s.pairState = 1 ∧ s.past Timer.hello 100000 then sayHello s else s

/-- A HELLO breaks the pair (R419). -/
def State.helloRefused (s : State) (b : Bytes) : Bool :=
  fld b 0 1 != 1 || fld b 3 1 != s.ob 0 Sub.identity_SLICE_MASK || fld b 4 1 == s.home.toNat

/-- An accepted HELLO: equal KCVs that are not zero keep the pair KEK (R420). One that does not answer a HELLO of this unit's is
answered; one that a unit in BULK has accepted already changes nothing, and one at a unit past BULK comes from a standby that rejoins
(R440). -/
def helloAccepted (b : Bytes) (s : State) : State :=
  let old := s.pair.peer
  let was := s.pairState
  let answer := decide (was ≠ 1) && !s.pair.asked
  let s := ((({ s with pair := { s.pair with peer := b, asked := false } } : State).put psIx Sub.pairStat_PAIR_STATUS 0).put
    psIx Sub.pairStat_PEER_VERSION (fld b 0 2)).put psIx Sub.pairStat_TETHER_VERSION 0x0100
  let s := if answer then tetherSend 1 s.hello s else s
  let same := sub b 56 8 == s.kcv && s.kcv.any (· != 0)
  if same then (if was = 3 ∧ old = b then s else enterBulk s)
  else if was = 2 then s
  else enterKeying s

/-- `TETHER_HELLO_RECEIVED` (R419). -/
def helloReceived (b : Bytes) (s : State) : State :=
  tetherTake 64 b (fun s =>
    let s := pairJoin s
    if s.helloRefused b then
      setPairState 6 ((s.put psIx Sub.pairStat_PEER_VERSION (fld b 0 2)).put psIx Sub.pairStat_PAIR_STATUS Status.version.code)
    else helloAccepted b s) s

/-- `TETHER_BAD_FRAME`, on aligned lanes (R59, R415). -/
def badFrame (s : State) : State := if s.tetherUp then badFrames 1 s else s

/-- `ALONE_WAIT_EXPIRY`: no heartbeat has arrived for `ALONE_WAIT_MS` (R410). -/
def aloneWait (s : State) : State :=
  if s.pairRuns ∧ !s.home ∧ !s.roleOn ∧ !s.pair.mate ∧ s.past Timer.heard (1000000 * s.ob pairIx Sub.pair_ALONE_WAIT_MS) then takeover 6 s else s

/-! ### Checkpoints (R423 to R427) -/

/-- The records of a slice: kind 2, kind 3, kind 1, each in ascending index (R425). -/
def State.records (s : State) (sl : Nat) : List Bytes :=
  let own (m : SMap Nat) : List Nat := (m.filter (fun x => x.1 / 2 ^ 20 == sl)).map (fun x => x.1 % 2 ^ 20)
  let scs := (own s.asc.txsc).filter (s.awValid sl 1)
  let sas := (own s.asc.sa).filter (fun i => Sa.valid (s.saAt sl i) && Sa.dir (s.saAt sl i) == 0)
  scs.map (s.recordSc sl) ++ (s.sealedTribs sl).map (s.recordTrib sl) ++ sas.map (s.recordSa sl)

/-- The blob of part `k` of `n` (R424). -/
def State.ckptBlob (s : State) (sl serial k n : Nat) (records : List Bytes) : Bytes :=
  let body := records.flatten
  let h := be 2 0x47B1 ++ be 1 1 ++ be 1 0x0A ++ be 1 2 ++ be 1 0 ++ be 2 ((16 + body.length + 7) / 8 * 8 + 8) ++ be 1 sl
    ++ be 1 0xFF ++ zeros 2 ++ be 4 serial ++ be 2 k ++ be 2 records.length ++ be 8 s.ns ++ be 1 n ++ zeros 3
  h ++ wrapBody (s.kekAt 2).octets h body

/-- The checkpoint of one slice (R423, R424). -/
def ckptSlice (sl : Nat) (s : State) : State :=
  let serial := (mget 0 s.pair.serial sl + 1) % 2 ^ 32
  let rs := s.records sl
  let n := max 1 ((rs.length + 4095) / 4096)
  let s := { s with pair := { s.pair with serial := mset 0 s.pair.serial sl serial } }
  if (s.kekAt 2).valid then
    (List.range n).foldl (fun t k => tetherSend 3 (s.ckptBlob sl serial k n ((rs.drop (4096 * k)).take 4096)) t) s
  else s

/-- `CHECKPOINT_SNAPSHOT`, every 1 ms (R423). -/
def ckptSnapshot (s : State) : State :=
  if s.pairRuns ∧ s.roleOn ∧ s.past Timer.ckpt 1000000 then s.slices.foldl (fun t sl => ckptSlice sl t) (s.mark Timer.ckpt) else s

/-- The standby applies a record; none where it names an entry that is not valid (R425, R426). -/
def applyRecord (sl : Nat) (r : Bytes) (s : State) : Option State :=
  let f := fld r 1 1
  match fld r 0 1 with
  | 1 =>
    let i := fld r 2 2 % 2 ^ 14
    let e := s.saAt sl i
    if Sa.valid e ∧ Sa.dir e = 0 then
      let e := setBits (setBit e 317 (bit f 7)) 315 314 (bits f 4 3)
      some (s.putSa sl i (Sa.setNextPn (Sa.setExhausted (Sa.setThreshHit e (bit f 6)) (bit f 5)) (fld r 4 8)))
    else none
  | 2 =>
    let i := fld r 2 2 % 2 ^ 11
    let e := s.txscAt sl i
    if s.awValid sl 1 i then
      let q := setBits (setBits (Cue.setLate (s.cueAt sl i) (bit f 2)) 152 151 (bits f 1 0)) 159 157 (bits f 5 3)
      some ((s.putTxsc sl i (setBits e 67 66 (bits f 7 6))).putCue sl i q)
    else none
  | 3 =>
    let t := fld r 2 2 % 8
    if (s.sealedTribs sl).contains t then
      let q := setBits (setBits (s.tribCueAt sl t) 154 151 (bits f 6 3)) 159 157 (bits f 2 0)
      some (((s.put (soduIx sl t) Sub.sodu_TX_PHASE (bits f 7 7)).put (soduIx sl t) Sub.sodu_TX_MFN (fld r 4 8)).putTribCue sl t q)
    else none
  | _ => none

/-- Apply records in order; the number that name no valid entry (R426). -/
def applyRecords (sl : Nat) (b : Bytes) (s : State) : Nat × State :=
  (List.range (b.length / 12)).foldl (fun (a : Nat × State) k =>
    match applyRecord sl (sub b (12 * k) 12) a.2 with
    | some t => (a.1, t)
    | none => (a.1 + 1, a.2.addOb psIx Sub.pairStat_CKPT_ORPHANS 32 1)) (0, s)

/-- The records of a checkpoint blob, when its header is that of R424 and its body opens under slot 2. -/
def State.openCkpt (s : State) (b : Bytes) : Option Bytes :=
  let h := b.take 32
  if b.length < 32 ∨ fld h 0 4 ≠ 0x47B1010A ∨ fld h 4 2 ≠ 0x0200 ∨ fld h 6 2 ≠ b.length - 32 ∨ !s.sliceOn (fld h 8 1)
      ∨ fld h 9 3 ≠ 0xFF0000 ∨ fld h 29 3 ≠ 0 ∨ 3 < fld h 28 1 ∨ fld h 28 1 ≤ fld h 16 2 ∨ !(s.kekAt 2).valid then none
  else match kwpUnwrap (s.kekAt 2).octets (b.drop 32) with
  | none => none
  | some p =>
    if 16 ≤ p.length ∧ p.take 16 = headerDigest h ∧ p.length = 16 + 12 * fld h 18 2 then some (p.drop 16) else none

/-- The part may be applied (R426). -/
def State.ckptDue (s : State) (sl serial part : Nat) : Bool :=
  decide (mget 0 s.pair.done sl < serial)
    && (match mfind s.pair.asm sl with
      | some (n, next, _) => if part = 0 then decide (n < serial) else n == serial && next == part
      | none => part == 0)

/-- A part is applied; its last part completes the checkpoint (R426). -/
def applyPart (sl serial part parts : Nat) (records : Bytes) (s : State) : State :=
  let before := if part = 0 then 0 else ((mfind s.pair.asm sl).map (fun x => x.2.2)).getD 0
  let r := applyRecords sl records s
  let orphans := before + r.1
  let s := r.2
  if part + 1 < parts then { s with pair := { s.pair with asm := minsert s.pair.asm sl (serial, part + 1, orphans) } }
  else
    let s := { s with pair := { s.pair with asm := merase s.pair.asm sl } }
    if orphans = 0 then
      let p := { s.pair with
        done := mset 0 s.pair.done sl serial, doneAt := minsert s.pair.doneAt sl s.time.periods
        count := mset 0 s.pair.count sl (mget 0 s.pair.count sl + 1), ack := serial
        aged := s.pair.aged.filter (· != sl) }
      { s with pair := p }
    else s

/-- Frames arrive whose SEQ rises by one from each to the next (R413). -/
def seqsRun : List Nat → Bool
  | [] => false
  | [_] => true
  | a :: b :: l => b == (a + 1) % 2 ^ 32 && seqsRun (b :: l)

/-- Frames of one payload join in SEQ order; a missing SEQ discards the whole (R414). -/
def joinFrames (l : List (Nat × Bytes)) : Option Bytes := if seqsRun (l.map (·.1)) then some (l.flatMap (·.2)) else none

/-- `CHECKPOINT_PART_RECEIVED` (R426): a frame whose LEN passes 512 is a bad frame, and with it the payload is discarded (R413 to R415). -/
def ckptReceived (l : List (Nat × Bytes)) (s : State) : State :=
  let bad := l.countP (fun f => decide (512 < f.2.length))
  if !s.tetherUp then s
  else if bad ≠ 0 then badFrames bad s
  else if !s.pairRuns ∨ s.roleOn then s
  else match joinFrames l with
  | none => s
  | some b =>
    match s.openCkpt b with
    | some records =>
      let sl := fld b 8 1
      if s.ckptDue sl (fld b 12 4) (fld b 16 2) then
        syncTest (applyPart sl (fld b 12 4) (fld b 16 2) (fld b 28 1) records s)
      else s.addOb psIx Sub.pairStat_CKPT_REFUSED 32 1
    | none => s.addOb psIx Sub.pairStat_CKPT_REFUSED 32 1

/-- `CUE_SYNC_RECEIVED` (R427). -/
def cueSyncReceived (b : Bytes) (s : State) : State :=
  tetherTake (4 + 12 * max 1 (min 3 ((b.length - 4) / 12))) b
    (fun s => if !s.roleOn ∧ s.sliceOn (fld b 0 1) then (applyRecords (fld b 0 1) (b.drop 4) s).2 else s) s

/-- `CKPT_AGE_EXCEEDED`: the newest complete checkpoint of a slice is older than `CKPT_MAX_AGE_MS`, or there is none (R429). -/
def ckptAged (sl : Nat) (s : State) : State :=
  let old : Bool := match mfind s.pair.doneAt sl with
    | some t => decide (s.ob pairIx Sub.pair_CKPT_MAX_AGE_MS * 1000 < s.ageUs t)
    | none => true
  if s.pairRuns ∧ !s.roleOn ∧ s.sliceOn sl ∧ old then
    syncTest { s with pair := { s.pair with aged := s.pair.aged.filter (· != sl) ++ [sl] } }
  else s

/-- This unit's handle of a mirrored key (R427). -/
def State.ownHandle (s : State) (h : Nat) : Nat := (mfind s.pair.handles h).getD h

/-- The handle of an entry that holds a blob's key under the same TYPE, EXPORT, SERIAL and LABEL already (R346). -/
def State.keyHere (s : State) (sl : Nat) (b : Bytes) : Option Nat :=
  (unwrapBody (s.kekAt 2).octets b).bind (fun k =>
    (s.asc.keys.find? (fun x => x.1 / 2 ^ 20 == sl && x.2.valid && !x.2.held && x.2.octets == k
      && ({ x.2.meta_ with from_ := 2 } : KeyMeta) == metaOf b)).map (fun x => handleOf sl x.2.gen (x.1 % 2 ^ 20)))

/-- A mirrored key is unwrapped, unless it is here already, and stands for the sender's handle (R346, R427, log 154). -/
def mirrorBlob (b : Bytes) (target handle : Nat) (s : State) : State :=
  let note (h : Nat) (t : State) : State := { t with pair := { t.pair with handles := minsert t.pair.handles handle h } }
  match s.keyHere target b with
  | some h => note h s
  | none =>
    let r := unwrapBlob 9 b target s
    if r.1 = .ok then note r.2.1 r.2.2 else r.2.2

/-- A mirrored SA image as this unit's firmware writes it: with its own handle, the bits that no window sets as they stand here, and a
NEXT_PN that an SA in use keeps (R142, R427, log 154). -/
def State.mirrorSa (s : State) (sl i e : Nat) : Nat :=
  let old := s.saAt sl i
  let e := setBits (setBits e 287 256 (s.ownHandle (Sa.handle e))) 313 312 (bits old 313 312)
  if Sa.valid old ∧ Sa.inUse old then Sa.setNextPn e (if Sa.dir e = 0 then Sa.nextPn old else max (Sa.nextPn e) (Sa.nextPn old)) else e

/-- One write of an association entry by the firmware, where the checks of R142 allow it. -/
def mirrorWrite (sl t i e : Nat) (s : State) : State :=
  let old := s.awImage sl t i
  if s.awCheck sl t i old e = .ok then awCommit sl t i old e s else s

/-- What the firmware does first where a mirrored write would be BUSY: an SA is taken out of use, a SecY disabled, and a transmit SC's
cue cancelled (R142, R237, log 154). -/
def mirrorClear (sl t i : Nat) (s : State) : State :=
  match t with
  | 3 => mirrorWrite sl 3 i (setInUse (s.saAt sl i) false) s
  | 0 => (match s.secyAt sl i with
    | some y => mirrorWrite sl 0 i (setBit y 127 false) s
    | none => s)
  | 1 => (match s.secyAt sl i with
    | some y => (cancelTx sl i (mirrorWrite sl 0 i (setBit y 127 false) s)).1
    | none => s)
  | _ => s

/-- A mirrored entry is written; a receive SC whose SAs are not here yet is written without them (R427, R475). -/
def mirrorPut (sl t i e : Nat) (s : State) : State :=
  match s.awCheck sl t i (s.awImage sl t i) e with
  | .ok => mirrorWrite sl t i e s
  | .busy =>
    let u := mirrorWrite sl t i e (mirrorClear sl t i s)
    if t = 1 then (match s.secyAt sl i with
      | some y => mirrorWrite sl 0 i y u
      | none => u) else u
  | _ => if t = 2 ∧ !s.awValid sl 2 i then mirrorWrite sl 2 i (rxscStored e) s else s

/-- The firmware applies a mirrored entry of a table as its own write, which a DELETE in progress refuses (R144, R427). -/
def mirrorEntry (table sl i img : Nat) (s : State) : State :=
  match table with
  | 4 => s.putCue sl i (if img = 0 then 0 else setBits img 127 96 (s.ownHandle (Cue.handle img)))
  | 5 => s.putTribCue sl i img
  | 6 => s.putWatch sl i img
  | t =>
    if s.deletingIs sl t i then s
    else if img = 0 then (if s.awValid sl t i then awRemove sl t i s else s)
    else mirrorPut sl t i (if t = 3 then s.mirrorSa sl i img else img) s

/-- A mirrored value of an object: a sealed-ODU context takes this unit's handle of the key. -/
def State.mirrorVal (s : State) (ix sub_ : Nat) (v : Val) : Val :=
  match v with
  | .num n =>
    if setOf ix = some .sodu ∧ (sub_ = Sub.sodu_TX_KEY_0 ∨ sub_ = Sub.sodu_TX_KEY_1 ∨ sub_ = Sub.sodu_RX_KEY_0 ∨ sub_ = Sub.sodu_RX_KEY_1) then
      .num (s.ownHandle n)
    else v
  | .oct _ => v

/-- A FIRMWARE frame at this unit's firmware (R420, R427, R437). -/
def mirrorReceived (write : Nat → Nat → Val → State → State) (m : Mirror) (s : State) : State :=
  if !s.pairRuns ∨ !s.tetherUp ∨ s.rst.coresHeld then s
  else match m with
  | .knot segs => pairAdvance (segs.foldl (fun t f => knotReceive tetherPlace [] f t) s)
  | .digest b =>
    if s.pairState = 0 ∨ s.pairState = 6 then s
    else if s.pairState < 3 then { s with pair := { s.pair with peerDigest := some b } }
    else digestTake b s
  | .blob b target handle => if s.roleOn then s else mirrorBlob b target handle s
  | .write ix sub_ v => if s.roleOn then s else write ix sub_ (s.mirrorVal ix sub_ v) s
  | .knots l => if s.roleOn then s else { s with pair := { s.pair with knotPorts := l } }
  | .entry table sl i img => if s.roleOn ∨ !s.sliceOn sl then s else mirrorEntry table sl i img s
  | .all =>
    if s.roleOn ∨ s.pairState ≠ 3 then s
    else syncTest (setPairState 4 { s with pair := { s.pair with mirrored := true } })
  | .frames seqs m => if seqsRun seqs then mirrorReceived write m s else s

/-! ### Input loss (R430) -/

/-- `LOS_COMPARE_EXPIRY`: LOS at the active unit only, for `LOS_COMPARE_US`, on a lane of an enabled port or FlexO group. -/
def losCompare (m : Nat) (s : State) : State :=
  if s.pairRuns ∧ !s.roleOn ∧ s.rxLanes.contains m ∧ s.pair.losOn.contains m
      ∧ s.past (Timer.los m) (1000 * s.ob pairIx Sub.pair_LOS_COMPARE_US) then
    declareFault 3 false (tetherSend 6 (be 1 m ++ zeros 3) s)
  else s

/-- `TAKE_RECEIVED`: the active unit yields as if it reported a fault. -/
def takeReceived (s : State) : State :=
  if s.pairRuns ∧ s.tetherUp ∧ s.roleOn then yieldPorts { s with pair := { s.pair with taken := true } } else s

/-- `SHADOW_HOLD_END`: sealing dequeues resume 2.0 µs less 384 core cycles after the takeover commit (R432). -/
def holdEnd (s : State) : State :=
  if s.gone (mget 0 s.time.since Timer.commit) (2000 - 3072 / cyclesPer8 (s.pointOf 0)) then
    { s with pair := { s.pair with sealHold := false } }
  else s

/-! ### Switch commands (R434 to R436, R439) -/

/-- The home unit resolves a command: a status at once, or none where the switch runs (R435). -/
def State.swResolve (s : State) (cmd : Nat) : Option Status :=
  let homeActive := s.active
  if (cmd = 1 ∧ homeActive) ∨ (cmd = 2 ∧ !homeActive ∧ s.peerActive) then some .ok
  else if s.pairState ≠ 5 ∨ !s.tetherUp then some .notReady
  else none

/-- The home unit answers a command over the Tether: to the away unit that forwarded it, and to an away unit that is to
stop (R414, R435). -/
def swAnswer (st : Status) (cmd : Nat) (s : State) : State := tetherSend 8 (be 1 st.code ++ be 1 cmd ++ zeros 2) s

/-- A switch runs from the home unit: the outgoing unit stops every dequeue (R434). -/
def swRun (c : SwCommand) (s : State) : State :=
  let s := { s with pair := { s.pair with cmd := some { c with running := true }, stopping := s.roleOn, wtr := none } }
  if c.forwarded ∨ !s.roleOn then swAnswer .ok c.cmd s else s

/-- A command at the home unit (R435). -/
def swHome (c : SwCommand) (s : State) : State :=
  match s.swResolve c.cmd with
  | some st =>
    let s := if c.cmd = 1 ∧ !c.forwarded then { s with pair := { s.pair with wtr := none } } else s
    if c.forwarded then swAnswer st c.cmd s else s.put swIx Sub.swWin_SW_STATUS st.code
  | none => swRun c (if c.forwarded then s else s.put swIx Sub.swWin_SW_STATUS Status.busy.code)

/-- A forwarded command that waits gives way to one written at the home unit (R435). -/
def swDisplace (s : State) : State :=
  match s.pair.cmd with
  | some c => swAnswer .busy c.cmd { s with pair := { s.pair with cmd := none } }
  | none => s

/-- A write of `SW_CMD` (R435). -/
def swCmd (v : Nat) (s : State) : State × Status :=
  if v = 0 then (s.put swIx Sub.swWin_SW_CMD 0, .ok)
  else if s.pair.cmd.any (fun c => c.running || !(c.forwarded && s.home)) then (s, .busy)
  else
    let s := (swDisplace s).put swIx Sub.swWin_SW_CMD v
    if s.home then (swHome { cmd := v } s, .ok)
    else if !s.pairRuns ∨ !s.tetherUp then (s.put swIx Sub.swWin_SW_STATUS Status.notReady.code, .ok)
    else
      let s := { s with pair := { s.pair with cmd := some { cmd := v } } }
      (tetherSend 7 (be 1 v ++ zeros 3) (s.put swIx Sub.swWin_SW_STATUS Status.busy.code), .ok)

/-- `SWITCH_REQ_RECEIVED` at the home unit (R435). -/
def switchReq (cmd : Nat) (s : State) : State :=
  if !s.pairRuns ∨ !s.tetherUp ∨ !s.home then s
  else if cmd ≠ 1 ∧ cmd ≠ 2 then s.addOb psIx Sub.pairStat_TTH_BAD_FRAMES 32 1
  else if s.pair.cmd.isSome then swAnswer .busy cmd s
  else swHome { cmd := cmd, forwarded := true } s

/-- `SWITCH_ANS_RECEIVED` at the away unit (R435). -/
def switchAns (st : Status) (cmd : Nat) (s : State) : State :=
  if !s.pairRuns ∨ !s.tetherUp ∨ s.home then s
  else
    let named := (cmd == 2)
    let own := s.pair.cmd.any (fun c => c.cmd == cmd && !c.running)
    if st ≠ .ok ∨ named = s.roleOn then
      (if own then ({ s with pair := { s.pair with cmd := none } } : State).put swIx Sub.swWin_SW_STATUS st.code else s)
    else
      let c := if own then s.pair.cmd.map (fun c => { c with running := true }) else s.pair.cmd
      { s with pair := { s.pair with cmd := c, stopping := s.roleOn } }

/-- `HANDOVER_SEND`: every transmitter of the outgoing unit has finished (R434). -/
def handoverSend (s : State) : State :=
  if s.pairRuns ∧ s.roleOn ∧ s.pair.stopping then
    let cause := if s.pair.cmd.any (·.reversion) then 5 else 4
    yieldPorts (tetherSend 5 (be 1 cause ++ zeros 3) s)
  else s

/-- `HANDOVER_RECEIVED`: the incoming unit commits (R434, R439). -/
def handoverReceived (cause : Nat) (s : State) : State :=
  if s.pairRuns ∧ s.tetherUp ∧ !s.roleOn then takeover (if s.pair.cmd.any (·.reversion) then 5 else cause) (s.mark Timer.handover) else s

/-- `WTR_EXPIRY`: the timer has reached `WTR_S`, and the home unit switches to itself (R439). -/
def wtrExpiry (s : State) : State :=
  if s.wtrLeft = 0 ∧ s.pairRuns ∧ s.home ∧ !s.roleOn ∧ s.pair.wtr.isSome ∧ s.pair.cmd = none ∧ s.swResolve 1 = none then
    swRun { cmd := 1, reversion := true } s
  else s

/-- The chapter's own part of a write to the control index; unpairing clears the pair KEK (R334, R443). -/
def pairWrite (sub_ v : Nat) (s : State) : State × Status :=
  if sub_ ≠ Sub.pair_PAIR_ENABLE then (s.put pairIx sub_ v, .ok)
  else if s.roleOn ∧ s.pairState = 5 then (s, .busy)
  else if v = s.ob pairIx Sub.pair_PAIR_ENABLE then (s, .ok)
  else if v = 0 then
    let s := setPairState 0 (s.put pairIx Sub.pair_PAIR_ENABLE 0)
    let s := { s with pair := { mate := s.pair.mate, mateLow := s.pair.mateLow, settled := true, serial := s.pair.serial
                                txSeq := s.pair.txSeq } }
    (clearKek 2 (s.put psIx Sub.pairStat_ROLE 1).settleLanes, .ok)
  else (pairJoin (assertSelAct (heardFrom (s.put pairIx Sub.pair_PAIR_ENABLE 1))).settleLanes, .ok)

/-! ### Code-group alignment (R59, R60) -/

/-- The lane is one of the Tether, 0x80 to 0x83, or of HALA or HALB, 0x88 and 0x89 (R61). -/
abbrev cgLane (k : Nat) : Prop := (0x80 ≤ k ∧ k < 0x84) ∨ k = 0x88 ∨ k = 0x89

/-- Code-group alignment of a Tether or Halyard lane is declared; `late` is the number of code groups by which a Tether lane's markers
arrive after the earliest lane's (R59, R60, R412). HALA and HALB answer auto-negotiation, and link also where nobody negotiates
(R60). -/
def cgDeclare (k late : Nat) (s : State) : State :=
    let s := (((s.put (Ix.lane k) Sub.sLane_CG_ALIGNED 1).put (Ix.lane k) Sub.sLane_CG_ERRORS 0).put
      (Ix.lane k) Sub.sLane_SIGNAL_DETECT 1).put (Ix.lane k) Sub.sLane_LOS 0
    let s := ({ s with lanes := { s.lanes with groups := merase s.lanes.groups k } } : State).mark (Timer.aligned k)
    if k < 0x84 then pairJoin { s with pair := { s.pair with late := mset 0 s.pair.late k late } }
    else linkEvent 0x1104 (be 1 (k - 0x88) ++ be 1 1) (s.emit (.autoneg (k - 0x88) true 0))

/-- The commas that a lane has received in succession at one bit phase, with one more: at another phase the count begins anew
(R59). -/
def commaCount (old : Nat × Nat) (phase : Nat) : Nat × Nat := if old.1 = phase then (phase, old.2 + 1) else (phase, 1)

/-- `CG_ALIGN`: a K28.5 comma reaches the lane with this index low byte, `at_` bits behind the place of the earliest lane's: ten bits
are a code group, and what is left is its bit phase. The third in succession at one phase aligns the lane (R59, log 135). -/
def cgAlign (k at_ : Nat) (s : State) : State :=
  if ¬ cgLane k ∨ s.obB (Ix.lane k) Sub.sLane_CG_ALIGNED then s
  else
    let c := commaCount (mget (0, 0) s.lanes.commas k) (at_ % 10)
    if c.2 < 3 then { s with lanes := { s.lanes with commas := minsert s.lanes.commas k c } }
    else cgDeclare k (at_ / 10) { s with lanes := { s.lanes with commas := merase s.lanes.commas k } }

/-- Code groups of an aligned lane, `true` = valid: the last 32, the number that are invalid, and whether four within 32 are, with
which it ends (R60). -/
def cgRun : List Bool → Nat → Nat → Nat × Nat × Bool
  | [], w, n => (w, n, false)
  | ok :: l, w, n =>
    let w := (2 * w + (!ok).toNat) % 2 ^ 32
    if 4 ≤ (List.range 32).countP w.testBit then (0, n + (!ok).toNat, true) else cgRun l w (n + (!ok).toNat)

/-- The lane has lost alignment; `signal` = its receiver still detects a signal (R60, R63). -/
def cgLost (k : Nat) (signal : Bool) (s : State) : State :=
  let up := s.tetherUp
  let s := ((s.put (Ix.lane k) Sub.sLane_CG_ALIGNED 0).put (Ix.lane k) Sub.sLane_SIGNAL_DETECT signal.toNat).put
    (Ix.lane k) Sub.sLane_LOS (!signal).toNat
  if 0x84 ≤ k then linkEvent 0x1104 (be 1 (k - 0x88) ++ be 1 0) s
  else if up then tetherCut s else s

/-- `CG_ALIGN_LOST`: code groups of an aligned lane in their order, `true` = valid. The invalid ones are counted, and four within 32
lose the alignment (R60, R63). -/
def cgAlignLost (k : Nat) (groups : List Bool) (signal : Bool) (s : State) : State :=
  if ¬ cgLane k ∨ !s.obB (Ix.lane k) Sub.sLane_CG_ALIGNED then s
  else
    let r := cgRun groups (mget 0 s.lanes.groups k) 0
    let s := { s with lanes := { s.lanes with groups := mset 0 s.lanes.groups k r.1 } }
    let s := s.addOb (Ix.lane k) Sub.sLane_CG_ERRORS 32 r.2.1
    if r.2.2 then cgLost k signal s else s

/-! ### The commands -/

/-- `CG_ALIGN` (R59). -/
def execCgAlign (k late : Nat) (s : State) : Out := .next (cgAlign k late s)

/-- `CG_ALIGN_LOST` (R60). -/
def execCgAlignLost (k : Nat) (groups : List Bool) (signal : Bool) (s : State) : Out := .next (cgAlignLost k groups signal s)

/-- `HEARTBEAT_TIMER` (R416). -/
def execHeartbeatTimer (s : State) : Out := .next (heartbeatTimer s)

/-- `HEARTBEAT_RECEIVED` (R417). -/
def execHeartbeatReceived (b : Bytes) (s : State) : Out := .next (heartbeatReceived b s)

/-- `HEARTBEAT_LOSS` (R418). -/
def execHeartbeatLoss (s : State) : Out := .next (heartbeatLoss s)

/-- `SEL_ACT_RELEASE` (R408). -/
def execSelActRelease (s : State) : Out := .next (selActRelease s)

/-- `SEL_MATE_CHANGE`: SEL_MATE is sampled high or low (R409). -/
def execSelMateChange (a : Bool) (s : State) : Out := .next (selMateSample a s)

/-- `LINK_FAULT_CHANGE`: the port's receiver reports the fault state `st`, a signal on the lanes of one mask and
clock-recovery lock on those of the other (R54); a standby may enter or leave IN_SYNC (R438). -/
def execLinkFaultChange (m st signal lock : Nat) (s : State) : Out := .next (syncTest (linkFaultChange m st signal lock s))

/-- `SYNCE_SOURCE_SWITCH` (R320); a standby may enter or leave IN_SYNC (R438). -/
def execSynceSourceSwitch (m : Nat) (signal locked : Bool) (s : State) : Out := .next (syncTest (synceSwitch m signal locked s))

/-- `TETHER_HELLO_TIMER` (R419). -/
def execTetherHelloTimer (s : State) : Out := .next (helloTimer s)

/-- `TETHER_HELLO_RECEIVED` (R419). -/
def execTetherHelloReceived (b : Bytes) (s : State) : Out := .next (helloReceived b s)

/-- `TETHER_BAD_FRAME` (R415). -/
def execTetherBadFrame (s : State) : Out := .next (badFrame s)

/-- `ALONE_WAIT_EXPIRY` (R410). -/
def execAloneWaitExpiry (s : State) : Out := .next (aloneWait s)

/-- `CHECKPOINT_SNAPSHOT` (R423). -/
def execCheckpointSnapshot (s : State) : Out := .next (ckptSnapshot s)

/-- `CHECKPOINT_PART_RECEIVED` (R426). -/
def execCheckpointPartReceived (l : List (Nat × Bytes)) (s : State) : Out := .next (ckptReceived l s)

/-- `CUE_SYNC_RECEIVED` (R427). -/
def execCueSyncReceived (b : Bytes) (s : State) : Out := .next (cueSyncReceived b s)

/-- `LOS_COMPARE_EXPIRY` (R430). -/
def execLosCompareExpiry (m : Nat) (s : State) : Out := .next (losCompare m s)

/-- `TAKE_RECEIVED` (R430). -/
def execTakeReceived (s : State) : Out := .next (takeReceived s)

/-- `TAKEOVER_COMMIT` (R432). -/
def execTakeoverCommit (s : State) : Out := .next (takeoverCommit s)

/-- `SHADOW_HOLD_END` (R432). -/
def execShadowHoldEnd (s : State) : Out := .next (holdEnd s)

/-- `SW_CMD` (R435). -/
def execSwCmd (c : Caller) (v : Nat) (s : State) : Out :=
  .next (rowWrite c swIx Sub.swWin_SW_CMD (.num v) (swCmd v) s)

/-- `SWITCH_REQ_RECEIVED` (R435). -/
def execSwitchReqReceived (cmd : Nat) (s : State) : Out := .next (switchReq cmd s)

/-- `SWITCH_ANS_RECEIVED` (R435). -/
def execSwitchAnsReceived (st : Status) (cmd : Nat) (s : State) : Out := .next (switchAns st cmd s)

/-- `HANDOVER_SEND` (R434). -/
def execHandoverSend (s : State) : Out := .next (handoverSend s)

/-- `HANDOVER_RECEIVED` (R434). -/
def execHandoverReceived (cause : Nat) (s : State) : Out := .next (handoverReceived (cause % 256) s)

/-- `WTR_EXPIRY` (R439). -/
def execWtrExpiry (s : State) : Out := .next (wtrExpiry s)

/-- `CKPT_AGE_EXCEEDED` (R429). -/
def execCkptAgeExceeded (sl : Nat) (s : State) : Out := .next (ckptAged sl s)

end Sys2Proof.Machine
end

