-- ==== Sys2Proof/Machine/Repertoire.lean ====
section
/-! DEFINITION. The Repertoire: its window, and the load of a profile that ends configuration (R471 to R477). -/

namespace Sys2Proof.Machine

/-! ### A load (R473 to R475) -/

/-- The enabling objects (R473). -/
def enabling (key : Nat) : Bool :=
  match setOf (key / 256) with
  | some .port => key % 256 == Sub.port_ENABLE
  | some .trib => key % 256 == Sub.trib_TRIB_ENABLE
  | some .pair => key % 256 == Sub.pair_PAIR_ENABLE
  | _ => false

/-- An object of a sealed-ODU context that a load leaves 0 (R475): a handle, an index or an epoch. -/
def soduLoaded (key : Nat) : Bool :=
  setOf (key / 256) == some .sodu &&
    ((Sub.sodu_TX_KEY_0 ≤ key % 256 && key % 256 ≤ Sub.sodu_TX_EPOCH_1) ||
     (Sub.sodu_RX_KEY_0 ≤ key % 256 && key % 256 ≤ Sub.sodu_RX_INDEX_1))

/-- The handles, indexes and epochs of every sealed-ODU context load as 0 (R475). -/
def loadSodus (s : State) : State :=
  (s.dict.nums.filter (fun x => soduLoaded x.1)).foldl (fun t x =>
    soduPutKey ((sliceOf (x.1 / 256)).getD 0) (x.1 / 256 % 0x100 - 0x30) (x.1 % 256) 0 t) s

/-- The port's flow control is on, or a class of it in XOFF (R166). -/
def State.flowPort (s : State) (m : Nat) : Bool :=
  let ix := if isLine m then ingressIx (sliceOfPort m) .open (m % 8) else ingressIx (sliceOfPort m) .seal (m % 8)
  s.ob (Ix.port m) Sub.port_FLOW_CTRL != 0 || s.ob ix Sub.tmClient_FC_STATE != 0

/-- What the loaded objects bring about, as a write of each would: scans of lanes whose rate or receiver changed abort and those
receivers settle (R43, R53), a slice's FlexO group takes its new form (R252), its ageing begins a new interval (R89), the SyncE
source is selected (R320), the flow-control tests are made (R166) and so is that of `EPOCH_REKEY_AT` (R524). `was` is the state before
the load. -/
def loadEffects (was s : State) : State :=
  let differs (ix n : Nat) : Bool := s.ob ix n != was.ob ix n
  let s := allLanes.foldl (fun t m =>
    if differs (Ix.lane m) Sub.lane_RX_STATE then (t.abortScan m).rxKeep m
    else if differs (Ix.lane m) Sub.lane_RATE then t.abortScan m else t) s
  let s := s.slices.foldl (fun t sl =>
    let t := if differs (otnIx sl) Sub.otn_OTN_MODE || differs (otnIx sl) Sub.otn_OTUC_N then regrouped sl was t else t
    if differs (Ix.hitch sl 0) Sub.hitch_AGE_TICK_MS then t.mark (Timer.age sl) else t) s
  let s := s.synceSelect was.synceOut
  epochTests ((allLanes.filter s.flowPort).foldl (fun t m => flowSettle m t) s)

/-- A slice takes the power state that is loaded, as a write of `SLICE_POWER` gives it (R575, R583). -/
def loadPower (sl : Nat) (s : State) : State :=
  let ix := 0x0410 + sl
  if s.ob ix Sub.slicePwr_SLICE_POWER = 1 then s.put ix Sub.slicePwr_SLICE_POWER_NOW 1
  else if s.ob ix Sub.slicePwr_SLICE_POWER_NOW = 1 then s.put ix Sub.slicePwr_SLICE_POWER_NOW 2
  else s

/-- Every persistent object but the enabling ones (R473, step 1): those that the profile does not list have their
defaults. -/
def loadObjects (p : Profile) (was : State) : State :=
  let s := loadSodus was
  let dict : Dict := {
    nums := (p.nums.filter (fun x => !enabling x.1)).foldl (fun m x => minsert m x.1 x.2)
      (s.dict.nums.filter (fun x => !storedObject x.1))
    octs := p.octs.foldl (fun m x => minsert m x.1 x.2) (s.dict.octs.filter (fun x => !storedObject x.1)) }
  let s := { s with dict := dict }
  let s := s.slices.foldl (fun t sl => loadPower sl t) s
  (List.range 32).foldl (fun t n => mkaRestart n t) (loadEffects was s)

/-- Static entries are installed as INSERT does (R104). -/
def loadStatics (p : Profile) (s : State) : State :=
  let gone := s.hitch.statics
  let s := gone.foldl (fun t x =>
    t.removeSlot (x.1 / 2 ^ 20) (x.1 % 2 ^ 20) (packKey (Slot.port x.2) (Slot.vid x.2) (Slot.mac x.2))) s
  p.statics.foldl (fun t x =>
    (installStatic (x.1 / 2 ^ 20) (Slot.port x.2) (Slot.vid x.2) (Slot.mac x.2) (Slot.secy x.2) t).1) s

/-- Admission images put in place, with `USED` the cells that are held now (R168). -/
def loadAdmission (new old : SMap Nat) : SMap Nat :=
  let keep := (old.map (fun x => (x.1, Adm.used x.2))).filter (fun x => x.2 != 0)
  new.foldl (fun m x => minsert m x.1 (Adm.setUsed x.2 (Adm.used (mget 0 old x.1)))) keep

/-- A table of entries as a profile gives it; an entry under DELETE stays as it stands until that is done (R144). -/
def State.loadAssoc (s : State) (t : Nat) (old new : SMap Nat) : SMap Nat :=
  (s.asc.deleting.filter (fun x => x.2.1 == t)).foldl (fun m x =>
    match mfind old (skey x.1 x.2.2) with
    | some e => minsert m (skey x.1 x.2.2) e
    | none => merase m (skey x.1 x.2.2)) new

/-- The table contents (R473, step 2), with every bucket in force full (R180). -/
def loadTables (p : Profile) (s : State) : State :=
  let filled (t : Nat) (m : SMap Nat) : SMap Nat := m.map (fun x => (x.1, s.tmFill (x.1 / 2 ^ 20) t 0 x.2))
  fillNodes <| loadStatics p { s with
    asc := { s.asc with secy := s.loadAssoc 0 s.asc.secy p.secy, txsc := s.loadAssoc 0 s.asc.txsc p.txsc
                        rxsc := s.loadAssoc 2 s.asc.rxsc p.rxsc }
    tm := { s.tm with policer := filled 0 p.policer, queue := filled 1 p.queue, group := filled 2 p.group
                      admission := loadAdmission p.admission s.tm.admission }
    otn := { s.otn with cm := p.cm } }

/-- One enabling object: whether it took effect, and the state (R475). -/
def loadEnable (key v : Nat) (s : State) : Bool × State :=
  let ix := key / 256
  let r : State × Status := match setOf ix with
    | some .port => portUse (ix - 0x1400) v s
    | some .trib => tribStart true ((ix - 0x1800) / 0x100) (ix % 0x100 - 0x10) s
    | _ => (s.put ix (key % 256) v, .ok)
  (decide (r.2 = .ok), r.1)

/-- A profile is applied (R473): the status of R475. -/
def applyProfile (p : Profile) (s : State) : State × Status :=
  let s := loadTables p (loadObjects p s)
  let r := (p.nums.filter (fun x => enabling x.1 && x.2 != 0)).foldl (fun (a : Bool × State) x =>
    let q := loadEnable x.1 x.2 a.2
    (a.1 && q.1, q.2)) (true, s)
  (r.2, if r.1 then .ok else .range)

/-- Load profile `n`: every object keeps its value where the profile does not open (R474). -/
def loadProfile (n : Nat) (s : State) : State × Status :=
  match s.openProfile n with
  | .ok p => applyProfile p s
  | .error st => (s, st)

/-- The status of a load of profile `n` is recorded; one that ends NOT_READY is owed (R474). -/
def recordLoad (n : Nat) (st : Status) (s : State) : State :=
  ({ s with acc := { s.acc with again := if st = .notReady then some n else none } } : State).put
    rpIx Sub.rpCtl_RP_LOAD_STATUS st.code

/-- A paired unit joins its pair on what has been loaded, and R32 lets lanes leave idle. -/
def afterLoad (s : State) : State := (if s.paired then pairJoin (assertSelAct s) else s).settleLanes

/-- Configuration ends: the unit takes its first role (R405, R410) and R32 lets lanes leave idle. -/
def endGap (s : State) : State :=
  let s := heardFrom (({ s with rst := { s.rst with gap := false } } : State).mark Timer.config)
  if !s.paired then (s.put psIx Sub.pairStat_ROLE 1).settleLanes
  else
    let s := pairJoin { s with pair := { s.pair with settled := true } }
    if s.home ∧ !s.pair.mate then takeover 6 s else s.settleLanes

/-- Profile `n` is loaded by the firmware of itself, and `PROFILE_LOADED` raised (R472, R474). -/
def bootLoad (n : Nat) (s : State) : State :=
  let r := loadProfile n s
  (recordLoad n r.2 r.1).raise 0x0103 0xFF (be 1 n ++ be 1 r.2.code)

/-- `PROFILE_LOAD` (R472 to R474): at the end of the reset gap; and the repeat of a load that ended NOT_READY, of the same profile, once
slot 0 is present again (log 149). -/
def profileLoad (s : State) : State :=
  if s.rst.step ≠ 5 ∨ s.rst.coresHeld then s
  else if s.rst.gap then
    let next := s.ob rpIx Sub.rpCtl_RP_NEXT
    let n := if next = 0xFF then s.ob rpIx Sub.rpCtl_RP_STRAP else next
    endGap (bootLoad n (s.put rpIx Sub.rpCtl_RP_ACTIVE n))
  else match s.acc.again with
  | some n => if (s.kekAt 0).valid then afterLoad (bootLoad n s) else s
  | none => s

/-! ### The window (R477) -/

/-- A profile is written under Repertoire key `k`. -/
def saveProfile (n k : Nat) (p : Profile) (s : State) : State :=
  { s with acc := { s.acc with profiles := minsert s.acc.profiles n { p with key := k }, storing := none } }

/-- The Repertoire key that a STORE drew is there: it is wrapped under slot 0 and seals the profile (R476). -/
def storeDone (s : State) : State × Status :=
  match s.acc.storing with
  | none => (s, .ok)
  | some (n, p) =>
    if !(s.kekAt 0).valid then ({ s with acc := { s.acc with storing := none } }, .notReady)
    else
      let k := s.acc.repKeys
      let s := s.addOb vaultIx Sub.vault_KEYS_GENERATED 32 1
      let s := { s with acc := { s.acc with repKeys := k + 1
                                            repBlob := minsert s.acc.repBlob s.storageSlot (k, (s.kekAt 0).kek) } }
      (saveProfile n k p s, .ok)

/-- STORE (R476, R477); none while its key is drawn. A configuration whose image passes 8 MiB (R471) is refused RANGE, DESIGN CHOICE
(log 148). -/
def rpStore (n : Nat) (s : State) : State × Option Status :=
  if !(s.kekAt 0).valid then (s, some .notReady)
  else if !s.config.fits then (s, some .range)
  else match s.repKey with
  | some k => (saveProfile n k s.config s, some .ok)
  | none =>
    if s.held then (s, some .denied)
    else match drawRequest .store 32 { s with acc := { s.acc with storing := some (n, s.config) } } with
    | (.served _, s) => let r := storeDone s; (r.1, some r.2)
    | (.waits, s) => (s, none)
    | (.fails st, s) => ({ s with acc := { s.acc with storing := none } }, some st)

/-- Something is enabled (R477). -/
def State.anyEnabled (s : State) : Bool :=
  s.paired || s.slices.any s.sliceInUse

/-- LOAD (R477). -/
def rpLoad (n : Nat) (s : State) : State × Status :=
  if s.anyEnabled then (s, .busy)
  else
    let r := loadProfile n s
    (afterLoad (recordLoad n r.2 r.1), r.2)

/-- ERASE (R477). -/
def rpErase (n : Nat) (s : State) : State × Status :=
  if s.ob rpIx Sub.rpCtl_RP_ACTIVE = n then (s, .busy)
  else ({ s with acc := { s.acc with profiles := merase s.acc.profiles n } }, .ok)

/-- DIGEST (R479). -/
def rpDigest (n : Nat) (s : State) : State × Status :=
  match s.openProfile n with
  | .ok p => (s.putO rpWinIx Sub.rpWin_RP_DIGEST p.digest, .ok)
  | .error st => (s, st)

/-- The operations of R477 on profile `RP_INDEX`. -/
def rpOp (code : Nat) (s : State) : State × Option Status :=
  let n := s.ob rpWinIx Sub.rpWin_RP_INDEX
  if code = 0 then (s, some .ok)
  else if code = 5 then (s.put rpIx Sub.rpCtl_RP_NEXT n, some .ok)
  else if 4 ≤ n then (s, some .range)
  else match code with
  | 1 => rpStore n s
  | 2 => let r := rpLoad n s; (r.1, some r.2)
  | 3 => let r := rpErase n s; (r.1, some r.2)
  | _ => let r := rpDigest n s; (r.1, some r.2)

/-- A row of the Repertoire window. -/
def rowRp (c : Caller) (code : Nat) (s : State) : State :=
  rowWindowStart c rpWinIx Sub.rpWin_RP_OP Sub.rpWin_RP_STATUS code (rpOp code) s

/-! ### The commands -/

/-- `RP_STORE` (R477). -/
def execRpStore (c : Caller) (s : State) : Out := .next (rowRp c 1 s)

/-- `RP_LOAD` (R477). -/
def execRpLoad (c : Caller) (s : State) : Out := .next (rowRp c 2 s)

/-- `RP_ERASE` (R477). -/
def execRpErase (c : Caller) (s : State) : Out := .next (rowRp c 3 s)

/-- `RP_DIGEST` (R479). -/
def execRpDigest (c : Caller) (s : State) : Out := .next (rowRp c 4 s)

/-- `RP_SELECT` (R477). -/
def execRpSelect (c : Caller) (s : State) : Out := .next (rowRp c 5 s)

/-- `PROFILE_LOAD` (R473). -/
def execProfileLoad (s : State) : Out := .next (profileLoad s)

end Sys2Proof.Machine
end

