-- ==== Sys2Proof/Machine/Session.lean ====
section
/-! DEFINITION. Sessions: frames and messages out of the ring and the mailbox, protection, answers in order, and the
handshake that opens a session (R491 to R499, R506, R507, R659). -/

namespace Sys2Proof.Machine

abbrev ringIx : Nat := 0x0201
abbrev pcieIx : Nat := 0x0202

/-- The node's own address on a port: 0xFD at the mailbox (R487, R506). -/
def State.nodeAddr (s : State) (port : Nat) : Nat := if port = 0 then 0xFD else s.ob ringIx Sub.ring_NODE_ADDR

/-- The port takes what arrives: the mailbox (0), or HALA (1) or HALB (2) with its lane aligned, which discards everything before
(R59). -/
def State.portHears (s : State) (port : Nat) : Bool :=
  s.portsUp && (port == 0 || s.obB (Ix.lane (0x87 + port)) Sub.sLane_CG_ALIGNED)

/-- The control cores hold no session: they are in reset, unless the boot ROM serves sessions while it waits for an image
(R599, R659). -/
def State.noSessions (s : State) : Bool := s.rst.coresHeld && !s.rst.waiting

/-- MB_ID and MB_STATE of the mailbox: version 1.0; device ready, H2D busy, D2H valid (R506, R659). -/
abbrev mbId : Nat := 0x00010000
def State.mbState (s : State) : Nat :=
  (s.portsUp && !s.noSessions).toNat + 2 * s.acc.h2dBusy.toNat + 4 * s.acc.d2hValid.toNat

/-! ### Out of the ports (R490, R491, R506, R507) -/

/-- The frames that the forwarding store holds toward a port (R490). -/
def State.fwd (s : State) (port : Nat) : List (Bytes × Bool) := if port = 1 then s.acc.fwdA else s.acc.fwdB
def State.putFwd (port : Nat) (l : List (Bytes × Bool)) (s : State) : State :=
  if port = 1 then { s with acc := { s.acc with fwdA := l } } else { s with acc := { s.acc with fwdB := l } }

/-- A forwarded frame leaves; one with a bad FCS ends with an error code group (R489). -/
def State.passOn (port : Nat) (f : Bytes × Bool) (s : State) : State := s.emit (if f.2 then .ring port f.1 else .ringCut port f.1)

/-- The stored frames leave a port that is free (R490). -/
def drainFwd (port : Nat) (s : State) : State :=
  (s.fwd port).foldl (fun t f => t.passOn port f) (s.putFwd port [])

/-- A ring header (R491). -/
def ringHeader (kind dst src seg segs session len : Nat) : Bytes :=
  [0x10] ++ be 1 kind ++ be 1 dst ++ be 1 src ++ [64, 0] ++ be 1 seg ++ be 1 segs ++ be 4 session ++ be 2 len ++ zeros 2

/-- One frame out of a ring port, padded to 64 octets with its FCS (R491). -/
def State.ringFrame (s : State) (h payload : Bytes) : Bytes :=
  let b := s.oct ringIx Sub.ring_HAL_DA ++ s.oct ringIx Sub.ring_HAL_SA ++ be 2 0x88B5 ++ h ++ payload
  b ++ zeros (60 - b.length)

/-- The D2H buffer takes the next message that waits (R507). -/
def mailboxOut (s : State) : State :=
  match s.acc.d2hValid, s.acc.toHost with
  | false, m :: rest =>
    (({ s with acc := { s.acc with d2hValid := true, d2h := m.2, toHost := rest } } : State).emit (.mailbox m.2)).emit (.msix 1)
  | _, _ => s

/-- The payload that a port carries at most (R491, R506). -/
def portLimit (port : Nat) : Nat := if port = 0 then 24576 else 23552

/-- Send a payload toward `dst`: through the mailbox, where it waits in the queue of its session, or out of HALA (1) or HALB (2) in
segments of 1,472 octets, behind the forwarded frames that the port holds (R490). -/
def send (port dst kind session : Nat) (payload : Bytes) (s : State) : State :=
  let src := s.nodeAddr port
  if port = 0 then
    let m := ringHeader kind 0xFD 0xFD 0 1 session payload.length ++ payload
    mailboxOut { s with acc := { s.acc with toHost := s.acc.toHost ++ [(session, m)] } }
  else
    let n := max 1 ((payload.length + 1471) / 1472)
    (List.range n).foldl (fun t i =>
      let p := sub payload (1472 * i) 1472
      t.emit (.ring port (t.ringFrame (ringHeader kind dst src i n session p.length) p))) (drainFwd port s)

/-- AAD of a MESSAGE (R496). -/
def messageAad (session src dst : Nat) : Bytes := be 4 session ++ be 1 src ++ be 1 dst ++ zeros 2

/-- A message to the manager of a session by a port, protected (R490, R496). -/
def sayTo (k port : Nat) (body : Bytes) (s : State) : State :=
  let x := s.sessAt k
  let dst := if port = 0 then 0xFD else x.peerAddr
  let key := be 32 x.kD2M
  let iv := zeros 4 ++ be 8 x.txSeq
  let c := gcmCrypt key iv body
  let tag := gcmTag key (hashKey key) iv (messageAad x.number (s.nodeAddr port) dst) c
  let s := (s.putSess k { x with txSeq := x.txSeq + 1 }).emit (.answer k body)
  send port dst 2 x.number (be 8 x.txSeq ++ c ++ tag) s

/-- A response (R499): the body is empty unless the status is OK. -/
def response (op id st : Nat) (body : Bytes) : Bytes :=
  be 1 (op + 0x80) ++ be 1 st ++ be 2 id ++ (if st = 0 then body else [])

/-- A response as a port can carry it: one that no message holds answers RANGE (R491, R506, log 146). -/
def responseBy (port op id st : Nat) (body : Bytes) : Bytes :=
  if portLimit port < body.length + 28 then response op id Status.range.code [] else response op id st body

/-! ### Answers owed (R499, R502) -/

/-- A request of a session is owed an answer, by the port it came by; one whose session has gone gets none, nor one that has been
answered already (R490, R498, R502, R508). -/
def owe (k : Nat) (o : Owed) (s : State) : State :=
  let x := s.sessAt k
  if x.live ∧ !s.acc.silent then s.putSess k { x with owed := x.owed ++ [{ o with port := x.port }] } else s

/-- An answer that stands. -/
def oweNow (k op id : Nat) (st : Status) (body : Bytes) (s : State) : State := owe k { op := op, id := id, ready := some (st.code, body) } s

/-- What follows an answer that has left: a reset falls due (R503), or the session ends (R498). -/
def Owed.after (k : Nat) (o : Owed) (s : State) : State :=
  let s := if o.level = 0 then s
    else { s with rst := { s.rst with resetDue := s.rst.resetDue ++ [(o.level, s.time.periods)] } }
  match o.close with
  | some cause => closeSess k cause s
  | none => s

/-- Answers leave in the order of their requests, up to the first that does not stand yet (R499). -/
def flushUpTo (k : Nat) : Nat → State → State
  | 0, s => s
  | n + 1, s =>
    let x := s.sessAt k
    match x.owed with
    | [] => s
    | o :: rest =>
      match o.ready with
      | some (st, body) =>
        flushUpTo k n (o.after k (sayTo k o.port (responseBy o.port o.op o.id st body) (s.putSess k { x with owed := rest })))
      | none => s

/-! ### The handshake (R493 to R495) -/

/-- CRED of this unit toward a manager: zeros for what only an owned unit has (R493). -/
def State.credM (s : State) : Bytes :=
  if s.fuse.lc = 2 then s.cred
  else s.idPub ++ zeros 2049 ++ zeros 3405 ++ s.oct vaultIx Sub.vault_ALIAS_ENDORSEMENT

/-- A HANDSHAKE payload of the device. -/
def sayHandshake (port dst session msg : Nat) (body : Bytes) (s : State) : State :=
  send port dst 1 session (be 1 msg ++ zeros 3 ++ body) s

/-- A handshake ends with ABORT: counted and reported; its entry, if any, is free again (R495, R510). -/
def handAbort (k : Option Nat) (port dst session : Nat) (st : Status) (s : State) : State :=
  let s := match k with
    | some k => ephRelease (s.putSess k {})
    | none => s
  let s := (s.addOb ringIx Sub.ring_HAL_AUTH_FAIL 32 1).raise 0x1103 0xFF (be 1 port ++ be 1 st.code)
  sayHandshake port dst session 5 (abortBody st) s

/-- The handshake in an entry, by its number. -/
def State.shakeOf (s : State) (k serial : Nat) : Option Knot := (s.sessAt k).shake.filter (fun h => h.serial == serial)
def putShake (k : Nat) (h : Knot) (s : State) : State := s.putSess k { s.sessAt k with shake := some h }

/-- A draw of a handshake fails (R495). -/
def handFailed (k serial : Nat) (st : Status) (s : State) : State :=
  let x := s.sessAt k
  if (s.shakeOf k serial).isSome then handAbort (some k) x.port x.peerAddr x.number st s else s

/-- A handshake enters a stage with operations for the engine; where the draw of the first fails at once, it ends (R371, R495). -/
def handWork (k : Nat) (h : Knot) (stage : KnotStage) (ops : List PkeOp) (s : State) : State :=
  let s := putShake k { h with stage := stage, ops := ops } s
  match ops with
  | op :: _ =>
    (match pkeQueue { op := op, who := .hand k h.serial } s with
     | (s, some st) => handFailed k h.serial st s
     | (s, none) => s)
  | [] => s

/-- The device's nonce is drawn: the operations of RESP follow (R384, R493). -/
def handDrawn (k serial : Nat) (b : Bytes) (s : State) : State :=
  match s.shakeOf k serial with
  | some h => handWork k { h with nonce := b } .formResp respOps s
  | none => s

/-- RESP is formed and sent (R384, R493). -/
def handResp (k : Nat) (h : Knot) (s : State) : State :=
  let x := s.sessAt k
  let e := s.ephAt h.ctx
  let h := { h with resp := h.respHead e }
  let m := sigCovers h.th1 s.credM 0x52
  let prot := protSeal (h.kRhs e)
    (s.credM ++ Config.ecdsaSign s.aliasKey.1 m h.sigEc ++ Config.mldsaSign s.aliasKey.2 m h.sigDsa)
  let h := { h with resp := h.resp ++ prot, stage := .sentResp }
  sayHandshake x.port x.peerAddr x.number 2 h.resp (putShake k h s)

/-- The entry of an open session, by its number (R493). -/
def State.sessOf (s : State) (session : Nat) : Option Nat :=
  (List.range 16).find? (fun k => (s.sessAt k).live && (s.sessAt k).number == session)

/-- The entry of the handshake of a manager, by its number, port and address (R493). -/
def State.handOf (s : State) (port src session : Nat) : Option Nat :=
  (List.range 32).find? (fun k => let x := s.sessAt k
    x.st == .handshake && x.number == session && x.port == port && x.peerAddr == src)

/-- An entry that no session uses: of the 16 of the device, or, where they are all in use, one beyond them, in which a handshake runs
until R495 finds that there is none. -/
def State.freeSess (s : State) : Option Nat := (List.range 32).find? (fun k => !(s.sessAt k).alive)

/-- INIT (R384, R493): a repeated one is not answered again. One for which no ephemeral context is free ends BUSY (R372, log 117). -/
def handInit (port src session : Nat) (body : Bytes) (s : State) : State :=
  if body.length ≠ 1701 ∨ fld body 0 4 ≠ 0x03000000 ∨ session = 0 ∨ (s.handOf port src session).isSome then s
  else
    let s := contextRoom s
    match s.freeSess, s.freeEph with
    | some k, some c =>
      let n := s.ke.nextKnot
      let h : Knot := { place := 33, init := false, serial := n, sid := session, ctx := c, stage := .nonce, init1 := body }
      let s := ({ s with ke := { s.ke with nextKnot := n + 1 } } : State).putEph c {}
      let s := (s.putSess k { st := .handshake, number := session, port := port, peerAddr := src, shake := some h }).mark (Timer.idle k)
      match drawRequest (.hand k n) 32 s with
      | (.served b, s) => handDrawn k n b s
      | (.waits, s) => s
      | (.fails st, s) => handFailed k n st s
    | _, _ => handAbort none port src session .busy s

/-- The form of a manager certificate (R494); its length follows from who signs it. -/
def State.certForm (s : State) (c : Bytes) : Bool :=
  c.length == (if s.fuse.lc = 2 then 5526 else 6844) && fld c 0 2 == 0x4D43 && fld c 2 1 == 1 && decide (fld c 3 1 ≤ 3)
    && fld c 68 4 == 0

/-- The signatures of a manager certificate (R494). -/
def State.certSigned (s : State) (c : Bytes) : Bool :=
  if s.fuse.lc = 2 then verifyBoth (s.oct keIx Sub.ke_OWNER_ROOT_PUB) (c.take 2121) (c.drop 2121)
  else gizeltanSigned (c.take 2121) (sub c 2121 96) (c.drop 2217)

/-- The third check of R495. -/
def State.certDenied (s : State) (c : Bytes) : Bool :=
  let scope := sub c 4 48
  (fld c 3 1 == 3 && s.fuse.lc != 1) || (scope.any (· != 0) && scope != s.deviceId)
    || decide (fld c 52 4 < s.ob ringIx Sub.ring_MGR_MIN_SERIAL)

/-- The fourth check of R495. -/
def State.certTime (s : State) (c : Bytes) : Bool :=
  let now := s.time.now / 2 ^ 32 / 10 ^ 9 % 2 ^ 48
  !s.time.locked || (decide (fld c 56 6 ≤ now) && decide (now ≤ fld c 62 6))

/-- The checks of R495 of one level, over the opened PROT of AUTH, in order: 0 = decryption and form, 1 = the certificate, 2 = SIG.
While the boot ROM serves, only Custodian managers are accepted (R599). -/
def State.managerCheck (s : State) (h : Knot) (level : Nat) (p : Option Bytes) : Status :=
  match p with
  | none => .integrity
  | some p =>
    let c := p.take (p.length - 3405)
    match level with
    | 0 => if s.certForm c then .ok else .range
    | 1 =>
      if !s.certSigned c then .integrity
      else if s.certDenied c ∨ (s.rst.coresHeld ∧ fld c 3 1 < 2) then .denied
      else if s.certTime c then .ok
      else .denied
    | _ => if verifyBoth (sub c 72 2049) (sigCovers h.th2 c 0x49) (p.drop (p.length - 3405)) then .ok else .integrity

/-- PROT of AUTH as it opens. -/
def State.authOpen (s : State) (h : Knot) : Option Bytes := protOpen (h.kIhs (s.ephAt h.ctx)) h.auth

/-- The last check of R495: the entry that the session takes; none where 16 sessions exist, or SESSION is in use. -/
def State.openEntry (s : State) (k : Nat) : Option Nat :=
  if (s.sessOf (s.sessAt k).number).isSome then none
  else if k < 16 then some k
  else match s.freeSess with
    | some j => if j < 16 then some j else none
    | none => none

/-- The manager has passed every check: a session opens at LEVEL in its entry (R495, R498). -/
def sessOpen (k to_ : Nat) (h : Knot) (s : State) : State :=
  let x := s.sessAt k
  let e := s.ephAt h.ctx
  let level := fld ((s.authOpen h).getD []) 3 1
  let m2d := num (kdf (h.prk e) "HAL M2D" h.th3 256)
  let d2m := num (kdf (h.prk e) "HAL D2M" h.th3 256)
  let s := if to_ = k then s else (s.putSess k {}).mark (Timer.idle to_)
  let s := ephRelease (s.putSess to_ { st := .open, number := x.number, level := level, port := x.port, peerAddr := x.peerAddr
                                       kM2D := m2d, kD2M := d2m })
  (sayHandshake x.port x.peerAddr x.number 4 (h.done e) s).raise 0x1101 0xFF (be 4 x.number ++ be 1 level ++ be 1 x.port)

/-- The checks of the manager but the last have passed (R495). -/
def handOpen (k : Nat) (h : Knot) (s : State) : State :=
  let x := s.sessAt k
  match s.openEntry k with
  | some to_ => sessOpen k to_ h s
  | none => handAbort (some k) x.port x.peerAddr x.number .busy s

/-- AUTH: PROT is opened, and the engine verifies the signatures (R371, R495). -/
def handAuth (k : Nat) (h : Knot) (body : Bytes) (s : State) : State :=
  let x := s.sessAt k
  let h := { h with auth := body }
  match s.managerCheck h 0 (s.authOpen h) with
  | .ok => handWork k h .checkAuth ((if s.fuse.lc = 2 then verifyOps else gizeltanOps) ++ verifyOps) s
  | st => handAbort (some k) x.port x.peerAddr x.number st s

/-- The check that follows an operation, when `n` of the stage are left (R372, R495). -/
def State.handCheck (s : State) (h : Knot) (n : Nat) : Status :=
  match h.stage, n with
  | .formResp, 3 => if Config.ecdhOk h.initPub then .ok else .integrity
  | .formResp, 2 => if Config.kemOk h.ek then .ok else .integrity
  | .checkAuth, 2 => s.managerCheck h 1 (s.authOpen h)
  | .checkAuth, 0 => s.managerCheck h 2 (s.authOpen h)
  | _, _ => .ok

/-- An operation of a handshake completes: its check, then the next operation, or what the stage leads to. -/
def handStep (op : PkeOp) (k serial : Nat) (b : Bytes) (s : State) : State :=
  match s.shakeOf k serial with
  | none => s
  | some h =>
    let x := s.sessAt k
    let h := { h.took op b with ops := h.ops.drop 1 }
    let s := s.putEph h.ctx ((s.ephAt h.ctx).took op b)
    match s.handCheck h h.ops.length with
    | .ok =>
      if h.ops = [] then (if h.stage = .formResp then handResp k h s else handOpen k h s) else handWork k h h.stage h.ops s
    | st => handAbort (some k) x.port x.peerAddr x.number st s

/-- `HANDSHAKE_RECEIVED`: a whole HANDSHAKE payload from `src` on a port (R493 to R495, R659). -/
def handshakeReceived (port src session : Nat) (payload : Bytes) (s : State) : State :=
  let msg := fld payload 0 1
  let body := payload.drop 4
  if !s.portHears port ∨ payload.length < 4 ∨ fld payload 1 3 ≠ 0 then s
  else if s.noSessions then (if msg = 1 ∨ port = 0 then sayHandshake port src session 5 (abortBody .busy) s else s)
  else if msg = 1 then handInit port src session body s
  else match s.handOf port src session with
  | none => s
  | some k =>
    match (s.sessAt k).shake with
    | none => s
    | some h =>
      if msg = 5 then ephRelease (s.putSess k {})
      else if msg = 3 ∧ h.stage = .sentResp then handAuth k h body s
      else s

/-! ### The commands -/

/-- `HANDSHAKE_RECEIVED` (R495). -/
def execHandshakeReceived (port src session : Nat) (payload : Bytes) (s : State) : Out :=
  .next (handshakeReceived (port % 3) (src % 256) (session % 2 ^ 32) payload s)

/-- `SESSION_IDLE_TIMEOUT`: `SESS_IDLE_S` without an accepted request (R498). -/
def idleTimeout (k : Nat) (s : State) : State :=
  if s.past (Timer.idle k) (1000000000 * s.ob ringIx Sub.ring_SESS_IDLE_S) then closeSess k 1 s else s

/-- `SESSION_IDLE_TIMEOUT` (R498). -/
def execSessionIdleTimeout (k : Nat) (s : State) : Out := .next (idleTimeout k s)

end Sys2Proof.Machine
end

