-- ==== Sys2Proof/Machine/Draws.lean ====
section
/-! DEFINITION. What a served or failed request for random octets does for its consumer (R394), and the entropy read
window (R404). -/

namespace Sys2Proof.Machine

abbrev entWinIx : Nat := 0x4601

/-- A window's operation that waited for its draw completes. -/
def drawEnd (ix stSub : Nat) (r : State × Status) : State := r.1.winEnd ix stSub r.2

/-- The octets of an entropy read are there (R404). -/
def readDone (b : Bytes) (s : State) : State × Status := (s.putO entWinIx Sub.entWin_ENT_READ_DATA (padTo 256 b), .ok)

/-- A write of 1 to `ENT_READ_OP` (R404). -/
def entRead (s : State) : State × Option Status :=
  match drawRequest .read (s.ob entWinIx Sub.entWin_ENT_READ_LEN) s with
  | (.served b, s) => let r := readDone b s; (r.1, some r.2)
  | (.waits, s) => (s, none)
  | (.fails st, s) => (s, some st)

/-! ### The public-key engine (R371) -/

/-- The draw of an operation fails for its user (R373, R387, R495). -/
def pkeFail (w : PkeWho) (st : Status) (s : State) : State :=
  match w with
  | .knot k => knotEntropy k st s
  | .hand k n => handFailed k n st s
  | w => pkeDeny st w s

/-- The operation at the head of the queue starts; where its draw fails, the next one does. -/
def pkeGo : Nat → State → State
  | 0, s => s
  | n + 1, s =>
    match pkeStart s with
    | (s, some (w, st)) => pkeGo n (pkeFail w st s)
    | (s, none) => s

/-! ### A block of writes that waits (R460) -/

/-- What a block waited for is there: it is the next request at the arbiter. -/
def blockReady (s : State) : State :=
  match s.acc.block with
  | some p => { s with acc := { s.acc with block := none, parked := p :: s.acc.parked } }
  | none => s

/-- OP and REQ_ID of a request. -/
def requestOf (i : Instr) : Nat × Nat :=
  match i with
  | .msgHello _ id _ => (1, id)
  | .msgGet _ id _ _ => (2, id)
  | .msgSet _ id _ _ => (3, id)
  | .msgGetBlock _ id _ => (4, id)
  | .msgSetBlock _ id _ _ => (5, id)
  | .msgTable _ id _ _ _ _ _ => (6, id)
  | .msgSubscribe _ id _ => (7, id)
  | .msgClaim _ id _ _ => (9, id)
  | .msgRelease _ id _ => (10, id)
  | .msgReset _ id _ => (11, id)
  | .fwStageBegin _ id | .fwStageData _ id _ _ | .fwStageEnd _ id | .fwStageAbort _ id => (12, id)
  | _ => (0, 0)

/-- OP and REQ_ID of what waits; none of a row, which no message asked for. -/
def Waits.request (w : Waits) : Option (Nat × Nat) :=
  match w with
  | .msg i => some (requestOf i)
  | .bad op id => some (op, id)
  | .row _ _ _ => none

/-- A request that waits is answered with a status, by the port it came by (R490, R502). -/
def Parked.say (p : Parked) (st : Status) (s : State) : State :=
  match p.what.request with
  | some (op, id) =>
    if p.answered || !(s.sessAt p.k).live then s else sayTo p.k p.port (response op id st.code []) s
  | none => s

/-- What a block waited for fails: nothing of it is applied (R460). -/
def blockFails (st : Status) (s : State) : State :=
  match s.acc.block with
  | some p => p.say st { s with acc := { s.acc with block := none, seeds := none, verified := false } }
  | none => s

/-- The engine has verified an `ID_CERT`: for the block that waits, or the write completes (R400, R460). -/
def certDone (who : Nat) (cert : Bytes) (s : State) : State :=
  if who < 16 ∧ s.acc.block.isSome then blockReady { s with acc := { s.acc with verified := true } }
  else
    let r := certStore cert s
    r.1.finish who keIx Sub.ke_ID_CERT r.2

/-- The octets that a write of `TAG_ENABLE` drew are there, or its draw has failed. -/
def tagDrawn (who v : Nat) (b : Bytes) (s : State) : State :=
  if who < 16 ∧ s.acc.block.isSome then blockReady { s with acc := { s.acc with seeds := some b } } else tagDone who v (.ok b) s
def tagLost (who v : Nat) (st : Status) (s : State) : State :=
  if who < 16 ∧ s.acc.block.isSome then blockFails st s else tagDone who v (.error st) s

/-- A window's operation is done, with what its operations drew. -/
def pkeWindowEnd (ix stSub : Nat) (r : State × Option Status) : State :=
  match r.2 with
  | some st => r.1.winEnd ix stSub st
  | none => r.1
def pkeFinish (w : PkeWho) (b : Bytes) (s : State) : State :=
  match w with
  | .quote h nonce meas svn => drawEnd kwIx Sub.kwWin_KW_STATUS (quoteDone h nonce meas svn b s)
  | .migrate level manifest => drawEnd kwIx Sub.kwWin_KW_STATUS (migrateVerified level manifest s)
  | .ticket level ticket => pkeWindowEnd lcIx Sub.lcWin_LC_STATUS (lcVerified level ticket s)
  | .cert who cert => certDone who cert s
  | .knot _ | .hand _ _ => s

/-- An operation has completed for its user: a window queues the next one of its own. -/
def pkeDone (t : PkeTask) (b : Bytes) (s : State) : State :=
  match t.who with
  | .knot k => knotStep t.op k b s
  | .hand k n => handStep t.op k n b s
  | w =>
    match t.rest with
    | [] => pkeFinish w (t.got ++ b) s
    | op :: rest =>
      match pkeQueue { op := op, who := w, rest := rest, got := t.got ++ b } s with
      | (s, some st) => pkeFail w st s
      | (s, none) => s

/-- `PKE_OPERATION_COMPLETE`: the operation in service ends and the next starts (R371); one that still waits for its draw does not
end. The boot ROM's operations are not counted (log 20). -/
def pkeComplete (s : State) : State :=
  match s.ke.queue with
  | [] => s
  | t :: rest =>
    if t.op.draws ≠ 0 ∧ s.ke.drawn = none then s
    else
      let b := s.ke.drawn.getD []
      let s := if s.rst.coresHeld then s else s.pkeCount 1
      pkeDone t b (pkeGo 33 (setPkeQueue rest { s with ke := { s.ke with drawn := none } }))

/-- The request at the head of the line is served (R394). -/
def drawServed (who : EntWho) (b : Bytes) (s : State) : State :=
  match who with
  | .generate ty target slot ex => drawEnd kwIx Sub.kwWin_KW_STATUS (generateDone ty target slot ex b s)
  | .renew => drawEnd lcIx Sub.lcWin_LC_STATUS (vsRenewed b s, .ok)
  | .transition owner => transitionBegin 2 owner (some (num b)) none s
  | .vendor =>
    if s.fuse.lc = 0 then transitionBegin 1 (zeros 48) none (some (num b)) s
    else s.winEnd lcIx Sub.lcWin_LC_STATUS .denied
  | .pke => { s with ke := { s.ke with drawn := some b } }
  | .knot k => knotDrawn k b s
  | .range r reform asked => rangeDrawn r reform asked b s
  | .read => drawEnd entWinIx Sub.entWin_ENT_READ_STATUS (readDone b s)
  | .token j slot => drawEnd (jobIx j) Sub.job_JOB_STATUS (tokenDone j slot b s)
  | .sak n => mkaDrawn n b s
  | .tag w v => tagDrawn w v b s
  | .hand k n => handDrawn k n b s
  | .store => drawEnd rpWinIx Sub.rpWin_RP_STATUS (storeDone s)

/-- A request ends unserved (R394, R397). -/
def drawFailed (who : EntWho) (st : Status) (s : State) : State :=
  match who with
  | .generate _ _ _ _ => s.winEnd kwIx Sub.kwWin_KW_STATUS st
  | .renew | .transition _ | .vendor => s.winEnd lcIx Sub.lcWin_LC_STATUS st
  | .pke =>
    (match s.ke.queue with
     | t :: rest => pkeGo 33 (pkeFail t.who st (setPkeQueue rest s))
     | [] => s)
  | .knot k => knotEntropy k st s
  | .range r _ asked => rangeFailed r asked st s
  | .read => s.winEnd entWinIx Sub.entWin_ENT_READ_STATUS st
  | .token j _ => jobEnd j st s
  | .sak n => s.putMka n { s.mkaAt n with drawing := false, due := true }
  | .tag w v => tagLost w v st s
  | .hand k n => handFailed k n st s
  | .store => ({ s with acc := { s.acc with storing := none } } : State).winEnd rpWinIx Sub.rpWin_RP_STATUS st

/-- Every request of a list ends unserved. -/
def drawsFailed (l : List EntWho) (st : Status) (s : State) : State := l.foldl (fun t w => drawFailed w st t) s

/-- The head of the line is served when the queue holds its octets. -/
def serveNext (s : State) : State :=
  match serveHead s with
  | some (who, b, t) => drawServed who b t
  | none => s

/-! ### The commands -/

/-- `ENTROPY_REQUEST_SERVED` (R394). -/
def execEntropyRequestServed (s : State) : Out := .next (serveNext s)

/-- `ENTROPY_REQUEST_TIMEOUT`: the request at the head has waited `ENT_WAIT_US` (R394). -/
def execEntropyRequestTimeout (s : State) : Out :=
  .next (match dropHead s with
    | some (who, t) => drawFailed who .entropyFault t
    | none => s)

/-- `ENTROPY_WINDOW_CLOSE`, with the 1,024 samples of sources 0, 1 and 2: bit `i` of each number is sample `i` (R391). -/
def execEntropyWindowClose (w0 w1 w2 : Nat) (s : State) : Out :=
  let r := windowClose [w0, w1, w2] s
  .next (drawsFailed r.1 .entropyFault r.2)

/-- `HEALTH_TEST_FAIL`, with the `n` samples of each source since the window opened, the last of which fails a test (R396). -/
def execHealthTestFail (n w0 w1 w2 : Nat) (s : State) : Out :=
  let r := samplesFail n [w0, w1, w2] s
  .next (drawsFailed r.1 .entropyFault r.2)

/-- `PKE_OPERATION_COMPLETE` (R371). -/
def execPkeOperationComplete (s : State) : Out := .next (pkeComplete s)

/-- `ENT_READ_REQUEST` (R404). -/
def execEntReadRequest (c : Caller) (s : State) : Out :=
  .next (rowWindowStart c entWinIx Sub.entWin_ENT_READ_OP Sub.entWin_ENT_READ_STATUS 1 entRead s)

end Sys2Proof.Machine
end

