-- ==== Sys2Proof/Machine/Respond.lean ====
section
/-! DEFINITION. What alarm responses, DARK and VIGIL do across the chapters: the destruction of keys, sessions and cues
(R549, R551), the pair (R440), entry to DARK and waking (R575 to R579), and the loss of main power (R580). -/

namespace Sys2Proof.Machine

/-! ### Responses (R549 to R552) -/

/-- Requests of the line that a response refuses end DENIED (R552). -/
def denyWaiting (which : EntWho → Bool) (s : State) : State :=
  let gone := (s.ke.ent.waiting.map (·.who)).filter which
  drawsFailed gone .denied (s.putEnt { s.ke.ent with waiting := s.ke.ent.waiting.filter (fun q => !which q.who) })

/-- A GENERATE, or a life-cycle transition before its fuse commit (R552, R560). -/
def EntWho.custody : EntWho → Bool
  | .generate _ _ _ _ | .transition _ | .vendor => true
  | _ => false

/-- Any operation of the vault that waits for its draw (R364). -/
def EntWho.vault : EntWho → Bool
  | .renew => true
  | w => w.custody

/-- A life-cycle transition whose fuses are not yet written completes DENIED (R364, R560). -/
def denyChange (s : State) : State :=
  match s.fuse.change with
  | some c => if c.fused then s
    else ({ s with fuse := { s.fuse with change := none } } : State).winEnd lcIx Sub.lcWin_LC_STATUS .denied
  | none => s

/-- A re-form of a key-bearing range (R532). -/
def State.keyReform (s : State) : EntWho → Bool
  | .range r true _ => (s.rangeAt r).keyBearing
  | _ => false

/-- An operation of the custody, life-cycle, job or CAK window that has not yet completed completes DENIED, without results (R364). -/
def denyPosts (s : State) : State :=
  let vaults (ix : Nat) : Bool := ix == kwIx || ix == lcIx || ix == keWinIx || (ix / 16 == 0x401)
  { s with acc := { s.acc with posts := s.acc.posts.map (fun p =>
      if vaults p.ix then { p with st := Status.denied.code, nums := [], octs := [] } else p) } }

/-- CURTAIN: sessions close, cues and watches go to idle, and the destruction set is zeroised (R549). -/
def curtain (s : State) : State :=
  let s := denyPosts s
  let s := closeAll (·.alive) 6 s
  let s := dropWaiting EntWho.core (destroyKeys (cuesIdle s))
  denyChange (denyWaiting (fun w => w.vault || s.keyReform w) s)

/-- The pair state of a standby under a response: it leaves IN_SYNC, to rejoin from KEYING (R440). -/
def standbyHeld (s : State) : State :=
  if s.pairRuns ∧ !s.roleOn ∧ 3 ≤ s.pairState ∧ s.pairState ≤ 5 then setKnotState tetherPlace 0 (setPairState 2 s) else s

/-- What follows acts as it would with no response in force. -/
def unheld (f : State → State) (s : State) : State :=
  let t := f { s with alm := { s.alm with latch := 0 } }
  { t with alm := { t.alm with latch := s.alm.latch } }

/-- A response of HOLD or above newly comes into force: frames in transmission are ended (R549, R551, R552, R440). -/
def holdBegins (s : State) : State :=
  denyChange <| standbyHeld (denyWaiting EntWho.custody (unheld (fun t => t.slices.foldl (fun u sl => cutSlice sl u) t) s).settleLanes)

/-- A HOLD has been cleared: traffic resumes, and a standby rejoins from KEYING: its HELLO tells the peer, and the home unit runs the
handshake of R420 where the KCVs differ (R555, R440). -/
def holdEnds (s : State) : State :=
  let s := s.settleLanes
  if s.pairRuns ∧ !s.roleOn ∧ s.pairState = 2 then sayHello (if (s.kekAt 2).valid then s else enterKeying s) else s

/-- CLEAR (R555). -/
def alarmClear (s : State) : State × Status :=
  let r := almClear s
  (if s.alm.latch = 2 ∧ r.1.alm.latch = 0 then holdEnds r.1 else r.1, r.2)

/-- A window operation of 0x4C01 by its code (R563). -/
def almOp (code : Nat) (s : State) : State × Status :=
  match code with
  | 1 => almAck s
  | 2 => alarmClear s
  | 3 => almFuseDisable s
  | 4 => almMaint s
  | _ => (s, .ok)

/-! ### DARK (R575 to R579) -/

/-- A frame at rest is discarded (R576). -/
def darkDrop (sl : Nat) (p : Pipe) (s : State) (f : Frm) : State := discardAs sl p (Ctr.port f.inPort + Ctr.DARK_DISCARD) f s

/-- The frames at rest in a pipe's queues are discarded, and their cells return; dequeued frames drain (R576). -/
def darkQueues (sl : Nat) (p : Pipe) (s : State) : State :=
  let mine (k : Nat) : Bool := k / 2 ^ 20 == sl && k % 2 ^ 20 / 4096 == p.code
  let s := ((s.tm.held.filter (fun x => mine x.1)).flatMap (·.2)).foldl
    (fun t f => returnCells sl p f (darkDrop sl p t f)) s
  let s := (mget [] s.tm.leaving (pkey sl p 0)).foldl (fun t f => returnCells sl p f t) s
  { s with tm := { s.tm with held := mdrop mine s.tm.held, leaving := merase s.tm.leaving (pkey sl p 0) } }

/-- The frames of a slice are discarded at entry to DARK (R576). -/
def darkSlice (sl : Nat) (s : State) : State :=
  let s := (mget [] s.tm.arriving sl).foldl (darkDrop sl .seal) s
  let s := (mget [] s.eng.verify (pipeKey sl .open)).foldl (fun t v => darkDrop sl .open t v.frm) s
  let s := { s with
    tm := { s.tm with arriving := merase s.tm.arriving sl }
    eng := { s.eng with verify := merase s.eng.verify (pipeKey sl .open) } }
  darkQueues sl .open (darkQueues sl .seal s)

/-- The management lanes other than PCIe are off in DARK (R577, R488). -/
def linksOff (s : State) : State :=
  halDown 0x89 (halDown 0x88 ([0x80, 0x81, 0x82, 0x83].foldl (fun t k => t.put (Ix.lane k) Sub.sLane_CG_ALIGNED 0) s))

/-- The egress segments of every slice drain at entry to DARK, while the lanes still carry traffic (R576). -/
def darkDrain (s : State) : State :=
  let t := s.slices.foldl (fun u sl => drainSlice sl u) { s with pwr := { s.pwr with darkEntry := false } }
  { t with pwr := { t.pwr with darkEntry := s.pwr.darkEntry } }

/-- Entry to DARK begins: pipe entry stops, the egress segments drain, frames at rest are discarded, the lanes go to DEEP, the ring is bypassed,
waiting requests for entropy end with ENTROPY_FAULT, and a standby leaves its pair (R576, R398, R440). -/
def enterDark (s : State) : State :=
  let s := ((darkDrain s).slices.foldl (fun t sl => darkSlice sl t) (darkDrain s)).darken
  let r := entStop s
  let s := linksOff (drawsFailed r.1 .entropyFault r.2)
  cutCmd (if s.paired ∧ s.pairState ≠ 0 then setPairState 0 s else s)

/-- A wake (R579). -/
def wake (cause detail : Nat) (s : State) : State := wakeFrom entStart (powerOnReset 1 0 0) cause detail s

/-- A slice has ungated: its pipes' cores are tested, bit c of a mask = core c passes (R575, R214). -/
def ungateDone (sl sealMask openMask : Nat) (s : State) : State :=
  if s.sliceOn sl ∧ s.ob (0x0410 + sl) Sub.slicePwr_SLICE_POWER_NOW = 2 then
    (wakePipe sl .open openMask (wakePipe sl .seal sealMask (s.put (0x0410 + sl) Sub.slicePwr_SLICE_POWER_NOW 0))).settleLanes
  else s

/-- A change of point: bucket fills are kept and LAST restarts on a slice whose clock has changed (R158, R572). -/
def clockHold (sl : Nat) (s : State) : State :=
  let t := sliceClockHold sl s
  if mget 0 t.pwr.slicePt sl = mget 0 s.pwr.slicePt sl then t else restartLast s sl t

/-! ### VIGIL (R580, R557, R558) -/

/-- What stays of the always-on domain when both supplies are gone: nothing (R558, R328). -/
def Alarms.lostAll : Alarms := { vs := none, aoLost := true, cell := false }

/-- Main power fails, or VBAT fails after it: everything outside the always-on domain is lost, and that domain too where
the cell does not hold (R580, R558). -/
def mainLoss (cell : Bool) (s : State) : State :=
  let t := if s.pwr.vigil then s else s.rebuilt 2
  let t := { t with guard := {}, pwr := { vigil := true } }
  let t := { t with alm := { t.alm with cell := cell } }
  if cell then t else { t with alm := Alarms.lostAll }.put 0x0402 Sub.residency_RES_VIGIL_MS 0

/-! ### The commands -/

/-- `ALARM_RESPONSE`: in DARK the device wakes first (R551, R577). -/
def execAlarmResponse (s : State) : Out :=
  let t := alarmResponse curtain (wakeOnAlarm wake s)
  .next (if s.alm.latch < 2 ∧ 2 ≤ t.alm.latch then holdBegins t else t)

/-- `ZEROISE_DONE` (R551). -/
def execZeroiseDone (s : State) : Out := .next (zeroiseDone systemReset s)

/-- `CLEAR_RESET_DELAY` (R555). -/
def execClearResetDelay (s : State) : Out := .next (if s.alm.clearReset ∧ s.past Timer.clear 100000 then systemReset 5 s else s)

/-- `ALM_CLEAR` (R555). -/
def execAlmClear (c : Caller) (s : State) : Out :=
  .next (rowWindow c 0x4C01 Sub.almWin_ALM_OP Sub.almWin_ALM_STATUS 2 alarmClear s)

/-- `TAMPER_SAMPLE` (R541). -/
def execTamperSample (x : Sample) (s : State) : Out := .next (wakeOnAlarm wake (tamperSample x s))

/-- `MONITOR_TRIP` (R544). -/
def execMonitorTrip (src rail value : Nat) (s : State) : Out := .next (wakeOnAlarm wake (monitorTrip src rail value s))

/-- `PWR_REQ_DARK` (R576). -/
def execPwrReqDark (c : Caller) (s : State) : Out := .next (rowPwrReq c 2 enterDark s)

/-- `DARK_ENTRY_COMPLETE` (R576). -/
def execDarkEntryComplete (s : State) : Out := .next (darkEntryComplete wake s)

/-- `DARK_SAMPLE` (R577). -/
def execDarkSample (hb : Bool) (los : Nat) (s : State) : Out := .next (darkSample wake hb los s)

/-- `DARK_WAKE_TIMER` (R577). -/
def execDarkWakeTimer (s : State) : Out := .next (darkWakeTimer wake s)

/-- `SLICE_UNGATE_DONE` (R575). -/
def execSliceUngateDone (sl sealMask openMask : Nat) (s : State) : Out := .next (ungateDone sl sealMask openMask s)

/-- `SLICE_CLOCK_HOLD` (R31). -/
def execSliceClockHold (sl : Nat) (s : State) : Out := .next (clockHold sl s)

/-- `MAIN_POWER_LOSS`; `cell` = VBAT holds (R580). -/
def execMainPowerLoss (cell : Bool) (s : State) : Out := .next (mainLoss cell s)

end Sys2Proof.Machine
end

