-- ==== Sys2Proof/Machine/Read.lean ====
section
/-! DEFINITION. Reading objects (R447, R453, R459): the objects whose value other state gives, and the octets of a
value. -/

namespace Sys2Proof.Machine

/-- The listed entries of a per-slice table that satisfy `p`. -/
def countIn (m : SMap Nat) (sl : Nat) (p : Nat → Bool) : Nat :=
  (m.filter (fun x => x.1 / 2 ^ 20 == sl && p x.2)).length

/-- A cue that is armed, pending or counting (R249). -/
def cueLive (e : Nat) : Bool := decide (1 ≤ Cue.state e) && decide (Cue.state e ≤ 3)

/-- `SES_INFO` of an entry (R509). -/
def State.sesInfo (s : State) (k : Nat) : Bytes :=
  let x := s.sessAt k
  let st := match x.st with
    | .free => 0
    | .handshake => 1
    | .open => 2
    | .ready => 3
    | .closed => 4
  if st = 0 then zeros 8
  else be 4 x.number ++ be 1 st ++ be 1 x.level ++ be 1 x.port ++ be 1 (s.claimsOf k).length

/-- `RP_PAIR_DIGEST` and other objects of octets that other state gives. -/
def State.readOct (s : State) (ix sub_ : Nat) : Option Bytes :=
  match setOf ix with
  | some .rpCtl => if sub_ = Sub.rpCtl_RP_PAIR_DIGEST then some (if s.rst.gap then List.replicate 48 0 else s.pairDigest) else none
  | some .sessInfo => some (s.sesInfo (ix - 0x0210))
  | some .fwWdt => if sub_ = Sub.fwWdt_FW_TRY_STATE then some s.fwTryState else none
  | some .clock => if sub_ = Sub.clock_TIME_NOW then some (clockBytes s.time.now) else none
  | some .vault =>
    if sub_ = Sub.vault_OWNER_ID then some s.ownerId
    else if sub_ = Sub.vault_DEVICE_ID then some s.deviceId
    else if sub_ = Sub.vault_ID_PUB then some s.idPub
    else none
  | some .range => if sub_ = Sub.range_RG_INFO then some (be 16 (s.rangeAt (ix - 0x4A10)).info) else none
  | _ => none

/-- Numeric objects of the slices' tables that count entries or show a pool (R106 to R108, R147, R182 to R185, R249,
R325). -/
def State.readTable (s : State) (set : ObjSet) (ix sub_ : Nat) : Option Nat :=
  let sl := (sliceOf ix).getD 0
  match set with
  | .hitch =>
    let es := s.hitchEntries sl
    if sub_ = Sub.hitch_ENTRIES_VALID then some (es.filter (fun x => Slot.valid x.2)).length
    else if sub_ = Sub.hitch_ENTRIES_STATIC then some (es.filter (fun x => Slot.valid x.2 && !Slot.learned x.2)).length
    else if sub_ = Sub.hitch_LEARN_QUEUE_FILL then some (mget [] s.hitch.queue sl).length
    else none
  | .hitchPort =>
    if sub_ = Sub.hitchPort_LEARNED_COUNT then
      some ((s.hitchEntries sl).filter (fun x =>
        Slot.valid x.2 && Slot.learned x.2 && Slot.port x.2 == 8 * sl + (ix % 0x100 - 0x10))).length
    else none
  | .assoc =>
    if sub_ = Sub.assoc_SECY_USED then some (countIn s.asc.secy sl (fun _ => true))
    else if sub_ = Sub.assoc_RXSC_USED then some (countIn s.asc.rxsc sl Rxsc.valid)
    else if sub_ = Sub.assoc_SA_USED then some (countIn s.asc.sa sl Sa.valid)
    else if sub_ = Sub.assoc_KEYS_USED then some (s.asc.keys.filter (fun x => x.1 / 2 ^ 20 == sl && x.2.valid)).length
    else none
  | .tm =>
    if sub_ = Sub.tm_SEAL_SHARED_FREE then some (s.sharedFree sl .seal)
    else if sub_ = Sub.tm_OPEN_SHARED_FREE then some (s.sharedFree sl .open)
    else if sub_ = Sub.tm_SEAL_RESERVED then some (s.reservedClass sl .seal + s.headroomClass sl .seal)
    else if sub_ = Sub.tm_OPEN_RESERVED then some (s.reservedClass sl .open + s.headroomClass sl .open)
    else none
  | .tmClient =>
    let n := ix % 0x100 - 0x10
    if sub_ = Sub.tmClient_HEADROOM_USED then some (s.headUsed sl .seal n)
    else if sub_ = Sub.tmClient_PACER_RATE then some (s.pacerRate sl .open n) else none
  | .tmLine =>
    let n := ix % 0x100 - 0x20
    if sub_ = Sub.tmLine_HEADROOM_USED then some (s.headUsed sl .open n)
    else if sub_ = Sub.tmLine_PACER_RATE then some (s.pacerRate sl .seal n) else none
  | .cue =>
    if sub_ = Sub.cue_CUES_ARMED then some (countIn s.cue.tx sl cueLive + countIn s.cue.trib sl cueLive)
    else if sub_ = Sub.cue_CUES_PENDING then
      some (countIn s.cue.tx sl (fun e => Cue.state e == 2) + countIn s.cue.trib sl (fun e => Cue.state e == 2))
    else if sub_ = Sub.cue_WATCHES_TIMING then some (countIn s.cue.watch sl (fun e => Watch.state e == 2))
    else none
  | .timeSlice =>
    if sub_ = Sub.timeSlice_FUP_FILL_SEAL then some (mget [] s.time.fup (pipeKey (ix - 0x3A80) .seal)).length
    else if sub_ = Sub.timeSlice_FUP_FILL_OPEN then some (mget [] s.time.fup (pipeKey (ix - 0x3A80) .open)).length
    else none
  | _ => none

/-- Numeric objects of the device that other state gives. -/
def State.readDevice (s : State) (set : ObjSet) (ix sub_ : Nat) : Option Nat :=
  match set with
  | .rpCtl =>
    if sub_ = Sub.rpCtl_RP_VALID then some s.rpValid
    else if sub_ = Sub.rpCtl_RP_DIRTY then some s.rpDirty.toNat else none
  | .ring => if sub_ = Sub.ring_HAL_BYPASS then some s.acc.joined.toNat else none
  | .blkWin =>
    if sub_ = Sub.blkWin_BLK_IDLE then some s.blkIdle
    else if sub_ = Sub.blkWin_BLK_IDLE_LINE then some s.blkIdleLine else none
  | .residency => if s.tel.held then some (mget 0 s.tel.res (okey ix sub_)) else none
  | .lane =>
    if sub_ = Sub.lane_TX_EFFECTIVE then some (s.txEffective (ix - 0x1000))
    else if sub_ = Sub.lane_RX_SNR then
      some (if s.obB ix Sub.lane_CDR_LOCK then Config.rxSnr (ix - 0x1000) s.time.periods % 2 ^ 16 else 0)
    else none
  | .sLane => if sub_ = Sub.sLane_TX_EFFECTIVE then some (if s.portsUp then 3 else 1) else none
  | .ent => if sub_ = Sub.ent_ENT_QUEUE_FILL then some s.ke.ent.queue.length else none
  | .clock => if sub_ = Sub.clock_TIME_STATE then some s.time.locked.toNat else none
  | .vault =>
    if sub_ = Sub.vault_LC_STATE then some s.fuse.lc
    else if sub_ = Sub.vault_TRANSFERS then some s.fuse.transfers
    else if sub_ = Sub.vault_SVN_FLOOR then some s.fuse.svn
    else if sub_ = Sub.vault_VS_STATE then some s.alm.vs.isSome.toNat else none
  | .pairStat =>
    if sub_ = Sub.pairStat_CKPT_AGE_US then some s.ckptAge
    else if sub_ = Sub.pairStat_WTR_LEFT_S then some s.wtrLeft else none
  | .guard => if sub_ = Sub.guard_MG_RANGES_USED then some (s.guard.ranges.filter (fun x => x.2.valid)).length else none
  | .range => if sub_ = Sub.range_RG_LOST_NODES then some (s.rangeAt (ix - 0x4A10)).lost.length else none
  | .alarm =>
    if sub_ = Sub.alarm_RESPONSE then some s.alm.latch
    else if sub_ = Sub.alarm_ALARM_N_STATE then some s.alarmN.toNat
    else if sub_ = Sub.alarm_SOURCES_ACTIVE then some s.alm.active.length
    else if sub_ = Sub.alarm_MAINT_LEFT_S then some s.maintLeft
    else if sub_ = Sub.alarm_AO_LOG_HEAD then some (s.alm.seq % 2 ^ 16)
    else if sub_ = Sub.alarm_AO_TIME then some (s.alm.aoTime % 2 ^ 48) else none
  | .source => if sub_ = Sub.source_SRC_STATE then some (s.srcState (ix - 0x4D00)) else none
  | _ => none

/-- The objects of the calling session (R509). -/
def State.readSelf (s : State) (k sub_ : Nat) : Nat :=
  let x := s.sessAt k
  if sub_ = Sub.sessSelf_SESS_NUMBER then x.number
  else if sub_ = Sub.sessSelf_SESS_LEVEL then x.level
  else if sub_ = Sub.sessSelf_SESS_EXPERT then x.expert.toNat
  else if sub_ = Sub.sessSelf_SESS_PORT then x.port
  else x.mask

/-- A number that an object reads as, to the session in entry `k`. -/
def State.readNum (s : State) (k ix sub_ : Nat) : Nat :=
  match setOf ix with
  | some .sessSelf => s.readSelf k sub_
  | some set => ((s.readTable set ix sub_).orElse (fun _ => s.readDevice set ix sub_)).getD (s.ob ix sub_)
  | none => 0

/-- The octets of a type (R448); none where the length is the value's own. -/
def ObjType.size : ObjType → Option Nat
  | .uint size _ _ | .oneOf size _ | .sint size _ _ => some size
  | .bool | .enum _ => some 1
  | .handle => some 4
  | .octets _ | .octetsUpTo _ => none

/-- The highest subindex of an index (R446). -/
def highSub (ix : Nat) : Nat := ((setOf ix).map descsOf).getD [] |>.foldl (fun a d => max a d.sub) 0

/-- The value of an object as octets (R448). -/
def State.value (s : State) (k ix sub_ : Nat) (d : Desc) : Bytes :=
  match d.ty.size with
  | some n => be n (s.readNum k ix sub_)
  | none => (s.readOct ix sub_).getD (s.oct ix sub_)

/-- A read: the first and third checks of R458, then the value (R459). -/
def State.readObj (s : State) (k ix sub_ : Nat) : Except Status Bytes :=
  if s.indexOff ix then .error .range
  else if sub_ = 0 ∧ (setOf ix).isSome then .ok (be 1 (highSub ix))
  else match descOf ix sub_ with
  | none => .error .range
  | some d => if (s.sessAt k).level < d.rd then .error .denied else .ok (s.value k ix sub_ d)

/-- A read of several objects in one arbiter step: the first failure applies to the whole (R460, R499). -/
def State.readBlock (s : State) (k : Nat) : List (Nat × Nat) → Except Status Bytes
  | [] => .ok []
  | (ix, sub_) :: rest =>
    match s.readObj k ix sub_ with
    | .error st => .error st
    | .ok v =>
      match s.readBlock k rest with
      | .error st => .error st
      | .ok b => .ok (be 2 v.length ++ v ++ b)

end Sys2Proof.Machine
end

