-- ==== Sys2Proof/Machine/Write.lean ====
section
/-! DEFINITION. Writing objects: what each chapter does with a write that passes the arbiter's checks (R458, R465), the
windows of R465, and blocks of writes (R460). -/

namespace Sys2Proof.Machine

/-- A window: its operation and status objects (R465). -/
def windowSubs (ix : Nat) : Option (Nat × Nat) :=
  match setOf ix with
  | some .twWin => some (Sub.twWin_TW_OP, Sub.twWin_TW_STATUS)
  | some .awWin => some (Sub.awWin_AW_OP, Sub.awWin_AW_STATUS)
  | some .tmWin => some (Sub.tmWin_TM_OP, Sub.tmWin_TM_STATUS)
  | some .cwWin => some (Sub.cwWin_CW_OP, Sub.cwWin_CW_STATUS)
  | some .cmWin => some (Sub.cmWin_CM_OP, Sub.cmWin_CM_STATUS)
  | some .clock => some (Sub.clock_TIME_OP, Sub.clock_TIME_STATUS)
  | some .kwWin => some (Sub.kwWin_KW_OP, Sub.kwWin_KW_STATUS)
  | some .lcWin => some (Sub.lcWin_LC_OP, Sub.lcWin_LC_STATUS)
  | some .job => some (Sub.job_JOB_OP, Sub.job_JOB_STATUS)
  | some .keWin => some (Sub.keWin_KE_OP, Sub.keWin_KE_STATUS)
  | some .entWin => some (Sub.entWin_ENT_READ_OP, Sub.entWin_ENT_READ_STATUS)
  | some .rpWin => some (Sub.rpWin_RP_OP, Sub.rpWin_RP_STATUS)
  | some .evWin => some (Sub.evWin_EV_OP, Sub.evWin_EV_STATUS)
  | some .blkWin => some (Sub.blkWin_BLK_OP, Sub.blkWin_BLK_STATUS)
  | some .swWin => some (Sub.swWin_SW_CMD, Sub.swWin_SW_STATUS)
  | some .range => some (Sub.range_RG_OP, Sub.range_RG_STATUS)
  | some .almWin => some (Sub.almWin_ALM_OP, Sub.almWin_ALM_STATUS)
  | some .alWin => some (Sub.alWin_AL_OP, Sub.alWin_AL_STATUS)
  | some .ctWin => some (Sub.ctWin_CT_OP, Sub.ctWin_CT_STATUS)
  | some .tgWin => some (Sub.tgWin_TG_OP, Sub.tgWin_TG_STATUS)
  | some .qsWin => some (Sub.qsWin_QS_OP, Sub.qsWin_QS_STATUS)
  | _ => none

/-- Event-log READ (R485). -/
def evRead (s : State) : State × Status :=
  match mfind s.acc.log (s.ob 0x0301 Sub.evWin_EV_SEQ) with
  | some r => (s.putO 0x0301 Sub.evWin_EV_RECORD r, .ok)
  | none => (s, .range)

/-- An operation that completes at once. -/
def now (r : State × Status) : State × Option Status := (r.1, some r.2)

/-- The operation `code` of a window, for a caller (R465). -/
def windowAct (c : Caller) (ix code : Nat) (s : State) : State × Option Status :=
  let sl := (sliceOf ix).getD 0
  match setOf ix with
  | some .twWin => now (twOp sl code s)
  | some .awWin => awOp sl code s
  | some .tmWin => now (tmOp sl code s)
  | some .cwWin => now (cwOp sl code s)
  | some .cmWin => cmOp sl code s
  | some .clock => timeOp code s
  | some .kwWin => kwOp (s.levelOf c) code s
  | some .lcWin => lcOp (c == .firmware) (s.levelOf c) code s
  | some .job => jobOp (ix - 0x4010) code s
  | some .keWin => keOp (s.levelOf c) code s
  | some .entWin => entRead s
  | some .rpWin => rpOp code s
  | some .evWin => now (evRead s)
  | some .blkWin => blkReset s
  | some .range => if code = 1 then rgRekey (ix - 0x4A10) s else rgReform (ix - 0x4A10) s
  | some .almWin => now (almOp code s)
  | some .alWin => now (alRead s)
  | some .ctWin => now (ctRead s)
  | some .tgWin => now (if code = 1 then tgRead s else tgReset s)
  | some .qsWin => now (qsRead s)
  | _ => (s, some .ok)

/-- A write of a window's operation: 0 starts nothing (R465). -/
def windowWrite (c : Caller) (ix opSub stSub code : Nat) (s : State) : State × Option Status :=
  if code = 0 then (s.put ix opSub 0, some .ok)
  else match setOf ix with
  | some .swWin => now (swCmd code s)
  | _ => now (windowStart ix opSub stSub code (windowAct c ix code) s)

/-- A write of a number to an object that is no window's operation. -/
def numWrite (c : Caller) (ix sub_ n : Nat) (s : State) : State × Option Status :=
  let o := ix % 0x100
  let sl := (sliceOf ix).getD 0
  match setOf ix with
  | some .sessSelf =>
    (match c with
     | .session k => (s.putSess k { s.sessAt k with expert := n != 0 }, some .ok)
     | .firmware => (s, some .ok))
  | some .slicePwr => now (slicePowerWrite (ix - 0x0410) n s)
  | some .power =>
    if sub_ ≠ Sub.power_PWR_REQ then (s.put ix sub_ n, some .ok)
    else if n = 0 then (s.put ix sub_ 0, some .ok)
    else pwrReq c (n - 1) enterDark s
  | some .rstBoot => now (if sub_ = Sub.rstBoot_RESET_CAUSE_CLR then causeClear n s else (s.put ix sub_ n, .ok))
  | some .fwWdt =>
    now (if sub_ = Sub.fwWdt_FW_ACTIVATE then fwActivate n s
      else if sub_ = Sub.fwWdt_FW_COMMIT then fwCommit n s else (s.put ix sub_ n, .ok))
  | some .lane => now (laneWrite (ix - 0x1000) sub_ (.num n) s)
  | some .scan => now (scanWrite (ix - 0x1100) sub_ (.num n) s)
  | some .port =>
    let r := portWrite (ix - 0x1400) sub_ (.num n) s
    now (if sub_ = Sub.port_FLOW_CTRL ∨ sub_ = Sub.port_PFC_ENABLE then (flowSettle (ix - 0x1400) r.1, r.2) else r)
  | some .otn => now (otnWrite sl sub_ (.num n) s)
  | some .trib => now (tribWrite sl (o - 0x10) sub_ (.num n) s)
  | some .sodu => now (soduWrite sl (o - 0x30) sub_ (.num n) s)
  | some .hitch => now (hitchWrite sl sub_ (.num n) s)
  | some .hitchPort => now (hitchPortWrite (8 * sl + (o - 0x10)) sub_ n s)
  | some .linePort => now (linePortWrite sl (o - 0x10) sub_ n s)
  | some .tmClient => now (tmPortWrite sl .seal (o - 0x10) sub_ (.num n) s)
  | some .tmLine => now (tmPortWrite sl .open (o - 0x20) sub_ (.num n) s)
  | some .pipe => now (pipeWrite sl (pipeOf (o == 1)) sub_ n s)
  | some .clock => now (clockWrite sub_ (.num n) s)
  | some .syncE => now (synceWrite sub_ n s)
  | some .timeLine => now (if sub_ = Sub.timeClient_TC_MODE then (s, .range) else (s.put ix sub_ n, .ok))
  | some .ke =>
    now (if sub_ = Sub.ke_PAIR_KNOT_RUN then knotRunWrite tetherPlace keIx sub_ n s else (s.put ix sub_ n, .ok))
  | some .kePort =>
    now (if sub_ = Sub.kePort_KNOT_RUN then knotRunWrite (ix - 0x4410) ix sub_ n s else mkaWrite (ix - 0x4410) sub_ n s)
  | some .guard => now (epochTests (s.put ix sub_ n), .ok)
  | some .pair => now (pairWrite sub_ n s)
  | some .loop => now (loopWrite (ix - 0x4C10) sub_ n s)
  | some .monitor => now (monitorWrite sub_ n s)
  | some .source => now (srcClassWrite (ix - 0x4D00) n s)
  | some .ctWin => now (if sub_ = Sub.ctWin_SNAP_OP then snapOp c n s else (s.put ix sub_ n, .ok))
  | some .tag => if sub_ = Sub.tag_TAG_ENABLE then tagEnable c n s else (s.put ix sub_ n, some .ok)
  | _ => (s.put ix sub_ n, some .ok)

/-- A write of octets. -/
def octWrite (c : Caller) (ix sub_ : Nat) (b : Bytes) (s : State) : State × Option Status :=
  let o := ix % 0x100
  let sl := (sliceOf ix).getD 0
  match setOf ix with
  | some .hitch => now (hitchWrite sl sub_ (.oct b) s)
  | some .otn => now (otnWrite sl sub_ (.oct b) s)
  | some .trib => now (tribWrite sl (o - 0x10) sub_ (.oct b) s)
  | some .tmClient => now (tmPortWrite sl .seal (o - 0x10) sub_ (.oct b) s)
  | some .tmLine => now (tmPortWrite sl .open (o - 0x20) sub_ (.oct b) s)
  | some .clock => now (clockWrite sub_ (.oct b) s)
  | some .ke => keOctWrite c sub_ b s
  | _ => (s.putO ix sub_ b, some .ok)

/-- The chapter's own part of a write that has passed the arbiter's checks; none while it completes later. A job context takes
writes only of those that R370 lists. -/
def chapterWrite (c : Caller) (ix sub_ : Nat) (v : Val) (s : State) : State × Option Status :=
  if setOf ix == some .job && !s.jobMay c (ix - 0x4010) then (s, some .denied)
  else match v with
  | .oct b => octWrite c ix sub_ b s
  | .num n =>
    match windowSubs ix with
    | some (op, st) => if sub_ = op then windowWrite c ix op st n s else numWrite c ix sub_ n s
    | none => numWrite c ix sub_ n s

/-- A write by a caller (R458). -/
def writeObj (c : Caller) (ix sub_ : Nat) (v : Val) (s : State) : State × Option Status :=
  match s.writeCheck c ix sub_ v with
  | .ok => chapterWrite c ix sub_ v s
  | st => (s, some st)

/-- The value that octets spell for an object; none where their number breaks its type (R448). -/
def valueOf (ix sub_ : Nat) (b : Bytes) : Option Val :=
  match descOf ix sub_ with
  | some d =>
    (match d.ty.size with
     | some n => if b.length = n then some (.num (num b)) else none
     | none => some (.oct b))
  | none => some (.oct b)

/-- A write of octets by a caller: a length that breaks the type fails where R458 checks the type (R448). -/
def writeBytes (c : Caller) (i : BlockItem) (s : State) : State × Option Status :=
  match valueOf i.ix i.sub i.val with
  | some v => writeObj c i.ix i.sub v s
  | none =>
    match s.writeCheck c i.ix i.sub (.oct i.val) with
    | .ok => (s, some .range)
    | st => (s, some st)

/-- How a block of writes ends: every object is applied; the first that fails gives its status; or one waits, for so many random
octets, or for the engine with a certificate. -/
inductive BlockEnd where
  | all (t : State)
  | fails (st : Status)
  | draws (len : Nat)
  | checks (cert : Bytes)
  deriving DecidableEq, Repr

/-- The objects of a block in order, each checked against the state as the earlier ones leave it (R460). A write of `PWR_REQ` has
passed once its change begins: the block is applied in one step, and the request that the change ends is reported by `PWR_STATUS`. -/
def writeAll (c : Caller) : List BlockItem → State → BlockEnd
  | [], s => .all s
  | i :: rest, s =>
    match writeBytes c i s with
    | (t, none) =>
      if i.ix = tagIx then .draws (4 * (s.tagOn (num i.val)).length)
      else if i.ix = keIx then .checks i.val
      else writeAll c rest t
    | (t, some .ok) => writeAll c rest t
    | (_, some st) => .fails st

/-- A block waits at the arbiter for what its writes need, with nothing of it applied; a draw that fails at once is its status (R394,
R460). -/
def blockDraw (p : Parked) (len : Nat) (s : State) : Option Status × State :=
  match drawRequest (.tag p.k 0) len s with
  | (.served b, t) => (none, blockReady { t with acc := { t.acc with block := some p, seeds := some b } })
  | (.waits, t) => (none, { t with acc := { t.acc with block := some p } })
  | (.fails st, t) => (some st, t)
def blockCheck (p : Parked) (cert : Bytes) (s : State) : Option Status × State :=
  let r := pkeWindow (.cert p.k cert) verifyOps s
  (r.2, { r.1 with acc := { r.1.acc with block := some p } })

/-- A write that is followed by a core reset once it is answered (R606). -/
def activates (i : BlockItem) : Bool := i.ix == fwIx && i.sub == Sub.fwWdt_FW_ACTIVATE && i.val == [1]

end Sys2Proof.Machine
end

