-- ==== Sys2Proof/Machine/Msg.lean ====
section
/-! DEFINITION. Messages: each request of R499 as the arbiter takes it, its answer, and NOTIFY (R456 to R463, R480, R499
to R504). -/

namespace Sys2Proof.Machine

/-! ### Answers -/

/-- What a TABLE reads of its window after a final status: the results where it is OK (R500). -/
def State.tableRead (s : State) (k : Nat) (o : Owed) (code : Nat) : Nat × Bytes :=
  if code ≠ 0 then (code, [])
  else match s.readBlock k (o.results.map (fun r => (o.window, r))) with
    | .ok b => (0, b)
    | .error e => (e.code, [])

/-- The state with the objects of a window as an earlier operation left them (R500). -/
def State.withWindow (s : State) (ix : Nat) (nums : SMap Nat) (octs : SMap Bytes) : State :=
  { s with dict := { nums := nums ++ s.dict.nums.filter (fun x => x.1 / 256 != ix)
                     octs := octs ++ s.dict.octs.filter (fun x => x.1 / 256 != ix) } }

/-- A TABLE: once its window has left BUSY, its final status and results; another operation of the window that has begun since
changes nothing of them (R465, R500). -/
def State.tableLook (s : State) (k : Nat) (o : Owed) : Option (Nat × Bytes) :=
  match windowSubs o.window with
  | none => some (5, [])
  | some (_, st) =>
    match o.kept with
    | some (code, nums, octs) => some ((s.withWindow o.window nums octs).tableRead k o code)
    | none =>
      let code := s.ob o.window st
      if s.winBusy o.window st || (setOf o.window == some .swWin && code == 6) then none
      else some (s.tableRead k o code)

/-- A TABLE whose window has left BUSY has its answer (R500). -/
def Owed.settle (k : Nat) (s : State) (o : Owed) : Owed :=
  if o.op = 6 ∧ o.ready = none then { o with ready := s.tableLook k o } else o

/-- Every answer that stands leaves, in order (R499). -/
def flushAnswers (k : Nat) (s : State) : State :=
  let x := s.sessAt k
  if x.owed = [] then s
  else flushUpTo k x.owed.length (s.putSess k { x with owed := x.owed.map (Owed.settle k s) })

/-- Answer a request, after those that came before it. -/
def answer (k op id : Nat) (st : Status) (body : Bytes) (s : State) : State := flushAnswers k (oweNow k op id st body s)

/-- The boot ROM, while it waits for an image, serves HELLO, GET, CLAIM and FW-STAGE only (R599). -/
def romServes (op : Nat) : Bool := op == 1 || op == 2 || op == 9 || op == 12

/-- A request at the arbiter: one after an accepted RESET is discarded (R508); one before HELLO completes is refused and
not counted (R480, R497); every other is counted and taken. -/
def request (k op id : Nat) (act : State → State) (s : State) : State :=
  let x := s.sessAt k
  if !x.live ∨ x.muted then s
  else if x.st = .open ∧ op ≠ 1 then answer k op id .denied [] s
  else
    let s := (s.addOb ringIx Sub.ring_HAL_REQUESTS 64 1).mark (Timer.idle k)
    if s.rst.coresHeld ∧ !romServes op then answer k op id .denied [] s else act s

/-- The session is at Custodian level (R452). -/
def State.custodian (s : State) (k : Nat) : Bool := decide (2 ≤ (s.sessAt k).level)

/-! ### HELLO, GET, SET (R458 to R460, R480) -/

/-- HELLO (R480). -/
def msgHello (k id : Nat) (versions : List Nat) : State → State :=
  request k 1 id (fun s =>
    if versions.length < 1 ∨ 8 < versions.length then answer k 1 id .range [] s
    else if versions.any (fun v => v / 256 % 256 == 1) then
      let x := s.sessAt k
      answer k 1 id .ok (be 2 0x0100 ++ be 4 x.number ++ be 1 x.level) (s.putSess k { x with st := .ready })
    else flushAnswers k (owe k { op := 1, id := id, ready := some (Status.version.code, []), close := some 3 } s))

/-- GET (R459). -/
def msgGet (k id ix sub_ : Nat) : State → State :=
  request k 2 id (fun s =>
    match s.readObj k ix sub_ with
    | .ok v => answer k 2 id .ok v s
    | .error st => answer k 2 id st [] s)

/-- GET-BLOCK (R460). -/
def msgGetBlock (k id : Nat) (l : List (Nat × Nat)) : State → State :=
  request k 4 id (fun s =>
    if l.length < 1 ∨ 32 < l.length then answer k 4 id .range [] s
    else match s.readBlock k l with
      | .ok b => answer k 4 id .ok b s
      | .error st => answer k 4 id st [] s)

/-- Writes that end OK: an object that an earlier request of the same control cycle wrote is overwritten, which is counted
(R457). `same` = this request arrived in the control cycle of the one that the arbiter took before it. -/
def noteWrites (k : Nat) (same : Bool) (l : List BlockItem) (s : State) : State :=
  let before := if same then s.acc.lastSet else []
  let keys := l.map (fun i => okey i.ix i.sub)
  let s := s.addOb 0x0300 Sub.evCtl_ARB_OVERWRITES 32 (keys.filter (fun n => before.any (fun x => x.1 == n))).length
  { s with acc := { s.acc with lastSet := before ++ keys.map (fun n => (n, (s.sessAt k).port)) } }

/-- A request that writes nothing begins its own control cycle, unless it arrived in that of the one before (R457). -/
def noteNone (same : Bool) (s : State) : State := if same then s else { s with acc := { s.acc with lastSet := [] } }

/-- A write of an object that a session of a later place in R457's order, PCIe, HALA, HALB, has written in the same control cycle: it
was taken before, and the other value stands. -/
def State.cycleLost (s : State) (k : Nat) (same : Bool) (i : BlockItem) : Bool :=
  same && s.acc.lastSet.any (fun x => x.1 == okey i.ix i.sub && decide ((s.sessAt k).port < x.2))

/-- A request waits at the arbiter: one that it orders, behind a write that has not completed or others that wait (R456, R477), or any
behind an earlier request of its session (R499). -/
def State.parks (s : State) (k : Nat) (write arbiter : Bool) : Bool :=
  ((write || arbiter) && s.arbHeld) || (arbiter && s.acc.parked != [])
    || s.acc.parked.any (fun p => p.k == k) || s.acc.block.any (fun p => p.k == k)

/-- A request as it waits. -/
def State.asParked (s : State) (k : Nat) (w : Waits) : Parked :=
  { k := k, what := w, port := (s.sessAt k).port, at_ := s.time.periods, answered := s.acc.silent }

/-- A request, or its place in the line of those that wait. -/
def orPark (k : Nat) (write arbiter : Bool) (w : Waits) (act : State → State) (s : State) : State :=
  if s.parks k write arbiter then { s with acc := { s.acc with parked := s.acc.parked ++ [s.asParked k w] } } else act s

/-- SET (R458). A write of `FW_ACTIVATE` is followed by its core reset (R606). -/
def msgSet (k id : Nat) (i : BlockItem) (same : Bool) : State → State :=
  request k 3 id (fun s =>
    match writeBytes (.session k) i s with
    | (t, some .ok) =>
      if s.cycleLost k same i then answer k 3 id .ok [] (s.addOb 0x0300 Sub.evCtl_ARB_OVERWRITES 32 1)
      else
        let t := answer k 3 id .ok [] (noteWrites k same [i] t)
        if activates i then coreReset 10 t else t
    | (t, some st) => answer k 3 id st [] (noteNone same t)
    | (t, none) => flushAnswers k (owe k { op := 3, id := id, window := i.ix, at_ := t.time.periods } (noteWrites k same [i] t)))

/-- A block that waits (R460): the request stands at the arbiter, or its draw has failed. -/
def blockWaits (k op id : Nat) (r : Option Status × State) : State :=
  match r.1 with
  | some st => answer k op id st [] r.2
  | none => r.2

/-- SET-BLOCK (R460). -/
def msgSetBlock (k id : Nat) (l : List BlockItem) (same : Bool) : State → State :=
  request k 5 id (fun s =>
    if l.length < 1 ∨ 32 < l.length then answer k 5 id .range [] (noteNone same s)
    else match writeAll (.session k) l s with
      | .fails st => answer k 5 id st [] (noteNone same s)
      | .draws n => blockWaits k 5 id (blockDraw (s.asParked k (.msg (.msgSetBlock k id l same))) n s)
      | .checks cert => blockWaits k 5 id (blockCheck (s.asParked k (.msg (.msgSetBlock k id l same))) cert s)
      | .all t =>
        let t := answer k 5 id .ok [] (noteWrites k same l t)
        if l.any activates then coreReset 10 t else t)

/-- TABLE (R500). -/
def msgTable (k id window : Nat) (inputs : List BlockItem) (op : Nat) (results : List Nat) (same : Bool) : State → State :=
  request k 6 id (fun s =>
    match windowSubs window with
    | none => answer k 6 id .range [] s
    | some (opSub, _) =>
      if 16 < inputs.length ∨ 16 < results.length then answer k 6 id .range [] (noteNone same s)
      else match writeAll (.session k) (inputs ++ [⟨window, opSub, be 1 op⟩]) s with
        | .fails st => answer k 6 id st [] (noteNone same s)
        | .draws n => blockWaits k 6 id (blockDraw (s.asParked k (.msg (.msgTable k id window inputs op results same))) n s)
        | .checks cert => blockWaits k 6 id (blockCheck (s.asParked k (.msg (.msgTable k id window inputs op results same))) cert s)
        | .all t =>
          let t := noteWrites k same (inputs ++ [⟨window, opSub, be 1 op⟩]) t
          let o : Owed := { op := 6, id := id, window := window, results := results, at_ := t.time.periods }
          flushAnswers k (owe k (o.settle k t) t))

/-! ### Subscriptions and claims (R461 to R463, R469) -/

/-- SUBSCRIBE: below Operator level only group 0x0C (R469). -/
def msgSubscribe (k id mask : Nat) : State → State :=
  request k 7 id (fun s =>
    let x := s.sessAt k
    if x.level = 0 ∧ mask % 2 ^ 32 &&& (2 ^ 32 - 1 - 2 ^ 12) ≠ 0 then answer k 7 id .denied [] s
    else answer k 7 id .ok [] (s.putSess k { x with mask := mask % 2 ^ 32 }))

/-- The write level of a group: the lowest of its writable objects (R461). -/
def groupLevel (ix : Nat) : Nat :=
  match (((setOf ix).map descsOf).getD []).filter (fun d => !d.ro) with
  | [] => 0
  | d :: t => t.foldl (fun a e => min a e.wr) d.wr

/-- A list without repeats. -/
def once (l : List Nat) : List Nat := l.foldl (fun a x => if a.contains x then a else a ++ [x]) []

/-- The checks of a CLAIM, in the order of R461; `l` has no repeats. -/
def State.claimCheck (s : State) (k : Nat) (force : Bool) (l : List Nat) : Status :=
  let other (ix : Nat) : Bool := match mfind s.acc.claims ix with | some h => h != k | none => false
  let fresh := l.filter (fun ix => mfind s.acc.claims ix != some k)
  if l.any (fun ix => (setOf ix).isNone || s.indexOff ix) then .range
  else if !(force && s.custodian k) && l.any other then .claimed
  else if l.any (fun ix => decide ((s.sessAt k).level < groupLevel ix)) then .denied
  else if 16 < (s.claimsOf k).length + fresh.length
      ∨ 64 < s.acc.claims.length + (l.filter (fun ix => (mfind s.acc.claims ix).isNone)).length then .busy
  else .ok

/-- A group is granted; one held by another session is taken from it, and it is told (R463). -/
def grant (k : Nat) (s : State) (ix : Nat) : State :=
  let s := match mfind s.acc.claims ix with
    | some h => if h = k then s else (endClaim ix s).raiseTo h 0x0101 0xFF (be 2 ix ++ be 4 (s.sessAt k).number)
    | none => s
  { s with acc := { s.acc with claims := minsert s.acc.claims ix k } }

/-- CLAIM (R461, R463). -/
def msgClaim (k id : Nat) (force : Bool) (l : List Nat) : State → State :=
  request k 9 id (fun s =>
    let s := noteNone false s
    if l.length < 1 ∨ 8 < l.length then answer k 9 id .range [] s
    else match s.claimCheck k force (once l) with
      | .ok => answer k 9 id .ok [] ((once l).foldl (grant k) s)
      | st => answer k 9 id st [] s)

/-- RELEASE; an empty list ends the session (R462, R498, R499). -/
def msgRelease (k id : Nat) (l : List Nat) : State → State :=
  request k 10 id (fun s =>
    let s := noteNone false s
    if l = [] then flushAnswers k (owe k { op := 10, id := id, ready := some (0, []), close := some 0 } s)
    else if 8 < l.length ∨ l.any (fun ix => mfind s.acc.claims ix != some k) then answer k 10 id .range [] s
    else answer k 10 id .ok [] ((once l).foldl (fun t ix => endClaim ix t) s))

/-! ### RESET and FW-STAGE (R503, R504, R605) -/

/-- RESET: 1 core, 2 system. The reset is due once its answer has left, after those of the requests before it (R503, R508). -/
def msgReset (k id level : Nat) : State → State :=
  request k 11 id (fun s =>
    if !s.custodian k then answer k 11 id .denied [] s
    else if level ≠ 1 ∧ level ≠ 2 then answer k 11 id .range [] s
    else
      let o : Owed := { op := 11, id := id, ready := some (0, []), level := level, at_ := s.time.periods }
      let s := flushAnswers k (owe k o s)
      s.putSess k { s.sessAt k with muted := true })

/-- FW-STAGE needs Custodian level and a claim of 0x0500 (R504). -/
def stage (k id : Nat) (act : State → State × Status) : State → State :=
  request k 12 id (fun s =>
    if !s.custodian k then answer k 12 id .denied [] s
    else if mfind s.acc.claims 0x0500 ≠ some k then answer k 12 id .claimed [] s
    else
      let r := act s
      answer k 12 id r.2 [] r.1)

/-- Begin: the inactive slot is erased and STAGED is cleared; while the boot ROM waits, the image goes to DDR (R504,
R599, R605). -/
def stageBegin (s : State) : State × Status :=
  if s.rst.staging.isSome then (s, .busy)
  else if s.rst.coresHeld then
    ({ s with rst := { s.rst with staging := some (2, 0), slots := merase s.rst.slots 2, ddr := none } }, .ok)
  else
    let n := 1 - s.rst.active
    let s := writeRecord s.rst.active s.rst.try_ s.rst.tries 0xFF s
    ({ s with rst := { s.rst with staging := some (n, 0), slots := merase s.rst.slots n } }, .ok)

/-- Data: at the end of the last step, within 16 MiB (R504, R598). -/
def stageData (off : Nat) (b : Bytes) (s : State) : State × Status :=
  match s.rst.staging with
  | none => (s, .range)
  | some (n, next) =>
    if off ≠ next ∨ 16384 < b.length ∨ 2 ^ 24 < next + b.length then (s, .range)
    else
      let x := s.slotAt' n
      ({ s with rst := { s.rst with staging := some (n, next + b.length)
                                    slots := mset {} s.rst.slots n { x with image := x.image ++ b } } }, .ok)

/-- A staged image and the manifest after it (R598, R605). -/
def stagedSlot (b : Bytes) : Slot :=
  let n := imageCode b + 4723
  if b.length = n + 4831 then { image := b.take n, manifest := b.drop n } else { image := b }

/-- End: the image is checked as R601 gives; one that passes is STAGED, or is the image of the boot in DDR (R599,
R605). -/
def stageEnd (s : State) : State × Status :=
  match s.rst.staging with
  | none => (s, .range)
  | some (n, _) =>
    let x := stagedSlot (s.slotAt' n).image
    let s := { s with rst := { s.rst with staging := none } }
    if !s.imageOk x.image then (s, .integrity)
    else if n = 2 then ({ s with rst := { s.rst with ddr := some x, slots := merase s.rst.slots 2 } }, .ok)
    else
      let s := { s with rst := { s.rst with slots := mset {} s.rst.slots n x } }
      let s := writeRecord s.rst.active s.rst.try_ s.rst.tries n s
      (s.raise 0x0F04 0xFF (be 1 n ++ be 2 (imageSvn x.image)), .ok)

/-- Abort: the staging is abandoned (R504). -/
def stageAbort (s : State) : State × Status := ({ s with rst := { s.rst with staging := none } }, .ok)

/-! ### The arbiter's line (R456, R477) -/

/-- A row that is one write and that waited is taken. -/
def rowTaken (k ix sub_ : Nat) (v : Val) (s : State) : State :=
  match writeObj (.session k) ix sub_ v s with
  | (t, some st) =>
    let t := (t.noteCycle (.session k) (if st = .ok then [okey ix sub_] else [])).complete (.session k) ix sub_ st
    if ix = fwIx ∧ sub_ = Sub.fwWdt_FW_ACTIVATE ∧ v = .num 1 ∧ st = .ok then coreReset 10 t else t
  | (t, none) => t

/-- A request whose octets do not spell its message (R448, R499). -/
def msgBad (k op id : Nat) : State → State := request k op id (answer k op id .range [])

/-- A message is taken. -/
def takeMsg (k : Nat) (i : Instr) (s : State) : State :=
  match i with
  | .msgGet _ id ix sub_ => msgGet k id ix sub_ s
  | .msgSet _ id x same => msgSet k id x same s
  | .msgGetBlock _ id l => msgGetBlock k id l s
  | .msgSetBlock _ id l same => msgSetBlock k id l same s
  | .msgTable _ id w l op r same => msgTable k id w l op r same s
  | .msgSubscribe _ id mask => msgSubscribe k id mask s
  | .msgClaim _ id force l => msgClaim k id force l s
  | .msgRelease _ id l => msgRelease k id l s
  | .msgReset _ id level => msgReset k id level s
  | .msgHello _ id l => msgHello k id l s
  | .fwStageBegin _ id => stage k id stageBegin s
  | .fwStageData _ id off b => stage k id (stageData off b) s
  | .fwStageEnd _ id => stage k id stageEnd s
  | .fwStageAbort _ id => stage k id stageAbort s
  | _ => s

/-- What waited is taken. -/
def takeWaits (k : Nat) (w : Waits) : State → State :=
  match w with
  | .msg i => takeMsg k i
  | .row ix sub_ v => rowTaken k ix sub_ v
  | .bad op id => msgBad k op id

/-- The port of the last message of a session. -/
def State.setPort (k port : Nat) (s : State) : State :=
  if (s.sessAt k).alive then s.putSess k { s.sessAt k with port := port } else s

/-- A request that waited is taken, as it came by its port; one that has been answered meanwhile gets no second answer (R490, R502).
What a block was given for its writes ends with it. -/
def takeParked (p : Parked) (s : State) : State :=
  let port := (s.sessAt p.k).port
  let s := s.setPort p.k p.port
  let s := takeWaits p.k p.what { s with acc := { s.acc with silent := p.answered } }
  let s := { s with acc := { s.acc with silent := false } }
  let s := if s.acc.block.isSome then s else { s with acc := { s.acc with seeds := none, verified := false } }
  s.setPort p.k port

/-- Once no write holds the arbiter, the requests that waited are taken in their order; one that holds it again leaves the rest
waiting (R456, R477). -/
def unparkList : List Parked → State → State
  | [], s => s
  | p :: rest, s =>
    if s.arbHeld then { s with acc := { s.acc with parked := p :: rest ++ s.acc.parked } } else unparkList rest (takeParked p s)

/-- The requests at the arbiter. -/
def unpark (s : State) : State :=
  if s.acc.parked = [] then s else unparkList s.acc.parked { s with acc := { s.acc with parked := [] } }

/-- A request as it arrives: a write, one that the arbiter orders, and one of neither kind (R456, R477, R499). -/
def takeWrite (k : Nat) (i : Instr) : State → State := orPark k true true (.msg i) (takeMsg k i)
def takeOrdered (k : Nat) (i : Instr) : State → State := orPark k false true (.msg i) (takeMsg k i)
def takeOther (k : Nat) (i : Instr) : State → State := orPark k false false (.msg i) (takeMsg k i)
/-- A request that breaks its form, behind the earlier ones of its session (R499). -/
def msgMalformed (k op id : Nat) : State → State := orPark k false false (.bad op id) (msgBad k op id)

/-! ### NOTIFY (R469, R501) -/

/-- SEQ of a record (R467). -/
def recordSeq (r : Bytes) : Nat := fld r 4 4

/-- The pending `EVENTS_LOST` record in its SEQ place among the queued ones: the records before it, and those after
it (R469). -/
def splitAtSeq (seq : Nat) (q : List Bytes) : List Bytes × List Bytes :=
  (q.takeWhile (fun r => decide (recordSeq r < seq)), q.dropWhile (fun r => decide (recordSeq r < seq)))

/-- A record whose FLAGS[0] is set (R469). -/
def markRecord (r : Bytes) : Bytes := r.take 3 ++ [1] ++ r.drop 4

/-- The first record delivered after drops is marked (R469). -/
def markFirst (on : Bool) : List Bytes → List Bytes
  | [] => []
  | r :: t => (if on then markRecord r else r) :: t

/-- Up to 16 records leave the queue, with `EVENTS_LOST` in its place (R469, R501). -/
def Sess.takeRecords (x : Sess) : List Bytes × Sess :=
  match x.lost with
  | none => (x.queue.take 16, { x with queue := x.queue.drop 16 })
  | some (r, n) =>
    let p := splitAtSeq (recordSeq r) x.queue
    if 16 ≤ p.1.length then (p.1.take 16, { x with queue := x.queue.drop 16 })
    else
      let m := 15 - p.1.length
      (p.1 ++ [r.take 16 ++ padTo 16 (be 4 n)] ++ p.2.take m, { x with queue := p.2.drop m, lost := none })

/-- The host has not yet read a message, or one of the session waits for it: records stay in the session's queue (R469, R507). -/
def State.hostWaits (s : State) (x : Sess) : Bool := s.acc.d2hValid || s.acc.toHost.any (fun m => m.1 == x.number)

/-- `NOTIFY_SEND`: one NOTIFY to a session in READY, at most one in 10 µs (R501). -/
def notifySend (k : Nat) (s : State) : State :=
  let x := s.sessAt k
  if x.st ≠ .ready ∨ !s.past (Timer.notify k) 10000 ∨ (x.port = 0 ∧ s.hostWaits x) then s
  else
    let r := x.takeRecords
    if r.1 = [] then s
    else (sayTo k x.port ([8, 0, 0, 0] ++ (markFirst x.markNext r.1).flatten) (s.putSess k { r.2 with markNext := false })).mark (Timer.notify k)

/-- The completion time of a custody operation in nanoseconds (R368). -/
def kwTimeNs (op : Nat) : Nat :=
  match op with
  | 1 => 6000
  | 2 => 12000
  | 3 | 4 => 8000
  | 7 => 30000000
  | 9 => 25000000
  | _ => 2000

/-- The time within which the operation of a window completes, as its chapter gives it, in nanoseconds (R368, R401, R477); where the
chapter gives core cycles or nothing, 1 µs (log 120). -/
def opTimeNs (s : State) (o : Owed) : Nat :=
  match setOf o.window with
  | some .rpWin => if s.ob rpWinIx Sub.rpWin_RP_OP ≤ 2 then 2000000000 else 1000000000
  | some .kwWin => kwTimeNs (s.ob kwIx Sub.kwWin_KW_OP)
  | some .keWin => if s.ob keWinIx Sub.keWin_KE_OP = 1 then 8000 else 2000
  | _ => 1000

/-- The first answer that does not stand becomes BUSY, 2 s beyond its operation's completion time (R502). -/
def busyFirst (s : State) : List Owed → List Owed
  | [] => []
  | o :: t =>
    if o.ready = none then (if s.gone o.at_ (2000000000 + opTimeNs s o) then { o with ready := some (6, []) } :: t else o :: t)
    else o :: busyFirst s t

/-- A request that has waited at the arbiter for more than 2 s is due BUSY (R502). -/
def State.parkedDue (s : State) (k : Nat) (p : Parked) : Bool :=
  p.k == k && !p.answered && p.what.request.isSome && s.gone p.at_ 2000000000

/-- The oldest request of a session that waits at the arbiter is answered BUSY, once it is due; it stays in the line (R502). -/
def busyParked (k : Nat) (s : State) : State :=
  match s.acc.block with
  | some p =>
    if s.parkedDue k p then { p.say .busy s with acc := { (p.say .busy s).acc with block := some { p with answered := true } } } else s
  | none =>
    match s.acc.parked.find? (fun p => p.k == k && !p.answered && p.what.request.isSome) with
    | some p =>
      if s.parkedDue k p then
        let t := p.say .busy s
        { t with acc := { t.acc with parked := t.acc.parked.map (fun q => if q = p then { q with answered := true } else q) } }
      else s
    | none => s

/-- `REQUEST_ANSWER_TIMEOUT`: the oldest request without an answer is answered BUSY; its operation is not undone
(R502). -/
def answerTimeout (k : Nat) (s : State) : State :=
  let x := s.sessAt k
  let l := busyFirst s x.owed
  if l = [] then busyParked k s else flushAnswers k (s.putSess k { x with owed := l })

/-! ### The commands -/

/-- `MSG_HELLO` (R480). -/
def execMsgHello (k id : Nat) (versions : List Nat) (s : State) : Out :=
  .next (takeOther k (.msgHello k id versions) s)

/-- `MSG_GET` (R459). -/
def execMsgGet (k id ix sub_ : Nat) (s : State) : Out :=
  .next (takeOther k (.msgGet k id ix sub_) s)

/-- `MSG_SET` (R458). -/
def execMsgSet (k id : Nat) (i : BlockItem) (same : Bool) (s : State) : Out :=
  .next (takeWrite k (.msgSet k id i same) s)

/-- `MSG_GET_BLOCK` (R460). -/
def execMsgGetBlock (k id : Nat) (l : List (Nat × Nat)) (s : State) : Out :=
  .next (takeOther k (.msgGetBlock k id l) s)

/-- `MSG_SET_BLOCK` (R460). -/
def execMsgSetBlock (k id : Nat) (l : List BlockItem) (same : Bool) (s : State) : Out :=
  .next (takeWrite k (.msgSetBlock k id l same) s)

/-- `MSG_TABLE` (R500). -/
def execMsgTable (k id window : Nat) (inputs : List BlockItem) (op : Nat) (results : List Nat) (same : Bool) (s : State) : Out :=
  .next (takeWrite k (.msgTable k id window inputs op results same) s)

/-- `MSG_SUBSCRIBE` (R469). -/
def execMsgSubscribe (k id mask : Nat) (s : State) : Out :=
  .next (takeOther k (.msgSubscribe k id mask) s)

/-- `MSG_CLAIM` (R461). -/
def execMsgClaim (k id : Nat) (force : Bool) (l : List Nat) (s : State) : Out :=
  .next (takeOrdered k (.msgClaim k id force l) s)

/-- `MSG_RELEASE` (R462). -/
def execMsgRelease (k id : Nat) (l : List Nat) (s : State) : Out :=
  .next (takeOrdered k (.msgRelease k id l) s)

/-- `MSG_RESET` (R503). -/
def execMsgReset (k id level : Nat) (s : State) : Out :=
  .next (takeOther k (.msgReset k id level) s)

/-- `FW_STAGE_BEGIN` (R504). -/
def execFwStageBegin (k id : Nat) (s : State) : Out := .next (takeOther k (.fwStageBegin k id) s)

/-- `FW_STAGE_DATA` (R504). -/
def execFwStageData (k id off : Nat) (b : Bytes) (s : State) : Out :=
  .next (takeOther k (.fwStageData k id off b) s)

/-- `FW_STAGE_END` (R605). -/
def execFwStageEnd (k id : Nat) (s : State) : Out := .next (takeOther k (.fwStageEnd k id) s)

/-- `FW_STAGE_ABORT` (R504). -/
def execFwStageAbort (k id : Nat) (s : State) : Out := .next (takeOther k (.fwStageAbort k id) s)

/-- `NOTIFY_SEND` (R501). -/
def execNotifySend (k : Nat) (s : State) : Out := .next (notifySend k s)

/-- `REQUEST_ANSWER_TIMEOUT` (R502). -/
def execRequestAnswerTimeout (k : Nat) (s : State) : Out := .next (answerTimeout k s)

/-- `EV_READ` (R485). -/
def execEvRead (c : Caller) (s : State) : Out :=
  .next (rowWindow c 0x0301 Sub.evWin_EV_OP Sub.evWin_EV_STATUS 1 evRead s)

end Sys2Proof.Machine
end

