-- ==== Sys2Proof/Machine/Ring.lean ====
section
/-! DEFINITION. Requests as they arrive: the ring, the mailbox and the PCIe endpoint (R487 to R492, R496, R497, R505 to
R508), and the mirroring of writes over the Tether (R427). -/

namespace Sys2Proof.Machine

/-! ### The body of a request (R499) -/

/-- `n` objects of a block: index, subindex, length, value; and what follows them. -/
def parseItems : Nat → Bytes → Option (List BlockItem × Bytes)
  | 0, b => some ([], b)
  | n + 1, b =>
    let len := fld b 3 2
    if b.length < 5 + len then none
    else match parseItems n (b.drop (5 + len)) with
      | some (l, rest) => some (⟨fld b 0 2, fld b 2 1, sub b 5 len⟩ :: l, rest)
      | none => none

/-- `n` values of `w` octets that fill `b` exactly. -/
def parseWords (w n : Nat) (b : Bytes) : Option (List Nat) :=
  if b.length = w * n then some ((List.range n).map (fun i => fld b (w * i) w)) else none

/-- SET-BLOCK and TABLE, which carry objects. -/
def takeBlock (k id : Nat) (b : Bytes) : State → State :=
  match parseItems (fld b 0 1) (b.drop 1) with
  | some (l, []) => takeWrite k (.msgSetBlock k id l false)
  | _ => msgMalformed k 5 id
def takeTable (k id : Nat) (b : Bytes) : State → State :=
  match parseItems (fld b 2 1) (b.drop 3) with
  | some (l, op :: n :: rest) =>
    if rest.length = n.toNat then takeWrite k (.msgTable k id (fld b 0 2) l op.toNat (rest.map (·.toNat)) false)
    else msgMalformed k 6 id
  | _ => msgMalformed k 6 id

/-- FW-STAGE by its step. -/
def takeStage (k id : Nat) (b : Bytes) : State → State :=
  if b.length < 5 then msgMalformed k 12 id
  else match fld b 0 1 with
  | 1 => takeOther k (.fwStageBegin k id)
  | 2 => takeOther k (.fwStageData k id (fld b 1 4) (b.drop 5))
  | 3 => takeOther k (.fwStageEnd k id)
  | 4 => takeOther k (.fwStageAbort k id)
  | _ => msgMalformed k 12 id

/-- A request by its OP (R499). -/
def takeRequest (k op id : Nat) (b : Bytes) : State → State :=
  match op with
  | 1 => (match parseWords 2 (fld b 0 1) (b.drop 1) with | some l => takeOther k (.msgHello k id l) | none => msgMalformed k 1 id)
  | 2 => if b.length = 3 then takeOther k (.msgGet k id (fld b 0 2) (fld b 2 1)) else msgMalformed k 2 id
  | 3 => (match parseItems 1 b with | some ([i], []) => takeWrite k (.msgSet k id i false) | _ => msgMalformed k 3 id)
  | 4 =>
    (match parseWords 3 (fld b 0 1) (b.drop 1) with
     | some l => takeOther k (.msgGetBlock k id (l.map (fun w => (w / 256, w % 256))))
     | none => msgMalformed k 4 id)
  | 5 => takeBlock k id b
  | 6 => takeTable k id b
  | 7 => if b.length = 4 then takeOther k (.msgSubscribe k id (fld b 0 4)) else msgMalformed k 7 id
  | 9 =>
    (match parseWords 2 (fld b 1 1) (b.drop 2) with
     | some l => takeOrdered k (.msgClaim k id (bit (fld b 0 1) 0) l)
     | none => msgMalformed k 9 id)
  | 10 => (match parseWords 2 (fld b 0 1) (b.drop 1) with | some l => takeOrdered k (.msgRelease k id l) | none => msgMalformed k 10 id)
  | 11 => if b.length = 1 then takeOther k (.msgReset k id (fld b 0 1)) else msgMalformed k 11 id
  | 12 => takeStage k id b
  | _ => msgMalformed k op id

/-- The plaintext of a MESSAGE (R499). One that is shorter than a header breaks its form; what it lacks of OP and REQ_ID counts as zero
(log 147). -/
def takeMessage (k : Nat) (b : Bytes) (s : State) : State :=
  if b.length < 4 then msgMalformed k (fld (padTo 4 b) 0 1) (fld (padTo 4 b) 2 2) s
  else if fld b 1 1 ≠ 0 then msgMalformed k (fld b 0 1) (fld b 2 2) s
  else takeRequest k (fld b 0 1) (fld b 2 2) (b.drop 4) s

/-! ### MESSAGE (R496, R497) -/

/-- SEQ is accepted (R496). -/
def Sess.seqOk (x : Sess) (seq : Nat) : Bool :=
  decide (x.rxHigh < seq) || (decide (x.rxHigh ≤ seq + 64) && !x.rxSeen.contains seq)

/-- An accepted SEQ is noted (R496). -/
def Sess.seqNote (x : Sess) (seq : Nat) : Sess :=
  let high := max x.rxHigh seq
  { x with rxHigh := high, rxSeen := (x.rxSeen ++ [seq]).filter (fun q => decide (high ≤ q + 64)) }

/-- A MESSAGE whose tag is bad: the sixteenth ends the session (R497). -/
def badTag (k : Nat) (s : State) : State :=
  let x := s.sessAt k
  let s := (s.addOb ringIx Sub.ring_HAL_AUTH_FAIL 32 1).putSess k { x with badTags := x.badTags + 1 }
  if 15 ≤ x.badTags then closeSess k 2 s else s

/-- `MESSAGE_RECEIVED`: the rows of R497 in order. Later answers leave by the port that the request came by (R490). -/
def messageReceived (port src session : Nat) (payload : Bytes) (s : State) : State :=
  if !s.portHears port then s
  else match s.sessOf session with
  | none => s.addOb ringIx Sub.ring_HAL_NO_SESSION 32 1
  | some k =>
    let x := s.sessAt k
    let key := be 32 x.kM2D
    let seq := fld payload 0 8
    let iv := zeros 4 ++ be 8 seq
    let c := sub payload 8 (payload.length - 24)
    if payload.length < 24 ∨
        payload.drop (payload.length - 16) ≠ gcmTag key (hashKey key) iv (messageAad session src (s.nodeAddr port)) c then
      badTag k s
    else if !x.seqOk seq then s.addOb ringIx Sub.ring_HAL_REPLAY 32 1
    else takeMessage k (gcmCrypt key iv c) (s.putSess k { x.seqNote seq with port := port })

/-! ### DISCOVER (R492) -/

/-- DISCOVER on HALA (1) or HALB (2) (R492). -/
def discover (port src hops : Nat) (s : State) : State :=
  if !s.portHears port ∨ port = 0 then s
  else
    send port src 4 0 (be 1 (s.ob ringIx Sub.ring_NODE_ADDR) ++ be 1 (s.ob 0 Sub.identity_PART_CODE) ++ be 1 s.fuse.lc
      ++ be 1 (port - 1) ++ be 1 hops ++ zeros 3 ++ be 2 (s.ob 0 Sub.identity_OD_IF_VERSION) ++ s.deviceId) s

/-- DISCOVER_REPLY on HALA (1) or HALB (2): an address in use twice (R492). -/
def discoverReply (port src : Nat) (deviceId : Bytes) (s : State) : State :=
  if s.portHears port ∧ src = s.ob ringIx Sub.ring_NODE_ADDR ∧ deviceId ≠ s.deviceId then linkEvent 0x1105 (be 1 src) s else s

/-! ### Ring frames (R489 to R491) -/

/-- A whole payload that the ring or the mailbox brings. -/
def takePayload (port kind src session hops : Nat) (payload : Bytes) (s : State) : State :=
  match kind with
  | 1 => handshakeReceived port src session payload s
  | 2 => messageReceived port src session payload s
  | 3 => discover port src hops s
  | 4 => discoverReply port src (sub payload 10 48) s
  | _ => s

/-- The form of a ring header and of the frame that carries it (R491). -/
def ringForm (f : Bytes) : Bool :=
  let h := f.drop 14
  fld f 12 2 == 0x88B5 && decide (30 ≤ f.length) && fld h 0 1 == 0x10 && decide (1 ≤ fld h 1 1) && decide (fld h 1 1 ≤ 4)
    && decide (fld h 6 1 < fld h 7 1) && decide (fld h 7 1 ≤ 16) && decide (1 ≤ fld h 12 2) && decide (fld h 12 2 ≤ 1472)
    && decide (30 + fld h 12 2 ≤ f.length)

/-- A frame for this node: its segment joins its message, in any order, duplicates ignored; at most four messages per
session are held (R491, R383). -/
def ringTake (port : Nat) (f : Bytes) (s : State) : State :=
  let h := f.drop 14
  let seg := sub h 16 (fld h 12 2)
  let kind := fld h 1 1
  let src := fld h 3 1
  let hops := fld h 4 1
  let session := fld h 8 4
  let segs := fld h 7 1
  let isIt (p : RingParts) : Bool := p.session == session && p.src == src && p.kind == kind && p.segs == segs
  let old : RingParts := (s.acc.parts.find? isIt).getD { session := session, src := src, kind := kind, segs := segs }
  let rest := s.acc.parts.filter (fun p => !isIt p)
  let new := if (mfind old.got (fld h 6 1)).isSome then old else { old with got := minsert old.got (fld h 6 1) seg }
  if segs ≤ new.got.length then
    takePayload port kind src session hops (new.got.map (·.2)).flatten { s with acc := { s.acc with parts := rest } }
  else if 4 ≤ (rest.filter (fun p => p.session == session)).length then s
  else { s with acc := { s.acc with parts := rest ++ [new] } }

/-- A frame forwarded out of a port: sent, or held in the store of 12 KiB while the node sends one of its own (R490). -/
def forward (port : Nat) (f : Bytes × Bool) (busy : Bool) (s : State) : State :=
  if busy then
    if 12288 < ((s.fwd port).map (·.1.length)).sum + f.1.length then s.addOb ringIx Sub.ring_HAL_FWD_DROP 32 1
    else s.putFwd port (s.fwd port ++ [f])
  else (drainFwd port s).passOn port f

/-- A frame with HOPS one lower. -/
def lessHop (f : Bytes) : Bytes := f.take 18 ++ be 1 (fld f 18 1 - 1) ++ f.drop 19

/-- `RING_FRAME_RECEIVED` on HALA (1) or HALB (2): the frame without its FCS; whether its FCS is good; and whether the
other port is sending a frame of the node's own (R489, R490). A frame for another node is forwarded whatever its form; a
DISCOVER_REPLY that passes is read for its SRC (R492). -/
def ringFrame (port : Nat) (f : Bytes) (fcsOk busy : Bool) (s : State) : State :=
  let h := f.drop 14
  let dst := fld h 2 1
  let own := dst == s.ob ringIx Sub.ring_NODE_ADDR
  if !s.portHears port ∨ !s.acc.joined ∨ f.length < 30 then s
  else if fld h 4 1 = 0 then s.addOb ringIx Sub.ring_HAL_HOPS_EXPIRED 32 1
  else
    let s := if fcsOk && ringForm f && (own || (dst == 0xFF && fld h 1 1 == 3)) then ringTake port f s
      else if fcsOk && ringForm f && fld h 1 1 == 4 then discoverReply port (fld h 3 1) (sub h 26 48) s
      else s
    if own then s
    else forward (3 - port) (lessHop f, fcsOk) busy (if fcsOk then s else s.addOb ringIx Sub.ring_HAL_BAD_FCS 32 1)

/-- `BYPASS_RELEASE`: both ports have held alignment for 10 ms, after configuration, or once the ring logic runs where the
boot ROM needs the ring (R488). -/
def bypassRelease (s : State) : State :=
  let aligned := s.obB (Ix.lane 0x88) Sub.sLane_CG_ALIGNED && s.obB (Ix.lane 0x89) Sub.sLane_CG_ALIGNED
  let early := decide (s.rst.straps % 4 = 1) || (s.rst.waiting && decide (s.rst.straps % 4 = 0))
  let from_ := if early then mget 0 s.time.since Timer.step else mget 0 s.time.since Timer.config
  if s.portsUp ∧ aligned ∧ (!s.rst.gap ∨ early) ∧ s.gone from_ 10000000
      ∧ s.past (Timer.aligned 0x88) 10000000 ∧ s.past (Timer.aligned 0x89) 10000000 then
    { s with acc := { s.acc with joined := true } }
  else s

/-! ### The mailbox and the endpoint (R505 to R508) -/

/-- `H2D_DOORBELL` with a length and the H2D buffer (R507); in DARK the write wakes the device (R577, R578). -/
def doorbell (len : Nat) (b : Bytes) (s : State) : State :=
  if s.rst.step ≠ 5 ∨ s.pwr.vigil then s
  else if s.acc.h2dBusy ∨ len = 0 ∨ 28672 < len then s.addOb pcieIx Sub.pcie_MB_OVERRUN 32 1
  else
    let s := { s with acc := { s.acc with h2dBusy := true, h2d := padTo len (b.take len) } }
    if s.pwr.darkEntry then { s with pwr := { s.pwr with wake := some (s.pwr.wake.getD (6, 0)) } }
    else if s.inDark then wake 6 0 s
    else s

/-- The device copies a waiting H2D message out and takes it (R506, R507). -/
def mailboxIn (s : State) : State :=
  if !s.acc.h2dBusy ∨ !s.portsUp then s
  else
    let b := s.acc.h2d
    let s := ({ s with acc := { s.acc with h2dBusy := false, h2d := [] } } : State).emit (.msix 0)
    if b.length < 16 ∨ fld b 0 1 ≠ 0x10 ∨ fld b 2 1 ≠ 0xFD ∨ fld b 3 1 ≠ 0xFD ∨ fld b 6 1 ≠ 0 ∨ fld b 7 1 ≠ 1
        ∨ 24576 < fld b 12 2 ∨ b.length < 16 + fld b 12 2 ∨ (fld b 1 1 ≠ 1 ∧ fld b 1 1 ≠ 2) then s
    else takePayload 0 (fld b 1 1) 0xFD (fld b 8 4) (fld b 4 1) (sub b 16 (fld b 12 2)) s

/-- The mailbox as it stands after a reset of the endpoint's function. -/
def mailboxClear (s : State) : State :=
  { s with acc := { s.acc with h2dBusy := false, h2d := [], d2hValid := false, d2h := [], toHost := [] } }

/-- The lookaside jobs of the PCIe sessions are aborted (R505). -/
def pcieJobsAbort (s : State) : State :=
  (List.range 16).foldl (fun t j =>
    match mfind t.acc.claims (jobIx j) with
    | some k =>
      if (t.sessAt k).port = 0 then
        let t := if t.winBusy (jobIx j) Sub.job_JOB_STATUS then jobEnd j .denied t else t
        if t.jobState j = 0 then t else jobLeave j 0 t
      else t
    | none => t) s

/-- The PCIe sessions close (R498). -/
def pcieClose (cause : Nat) (s : State) : State := closeAll (fun x => x.alive && x.port == 0) cause s

/-- `PCIE_FLR`: a message in the H2D buffer is discarded (R505, R508). -/
def functionReset (s : State) : State := mailboxClear (pcieClose 7 (pcieJobsAbort s))

/-- The PCIe link goes down (R498, R509, R510). -/
def linkDown (s : State) : State :=
  let up := bit (s.ob pcieIx Sub.pcie_PCIE_LINK) 7
  let s := pcieClose 8 (s.put pcieIx Sub.pcie_PCIE_LINK 0)
  if up then linkEvent 0x1104 (be 1 2 ++ be 1 0) s else s

/-- The PCIe link trains up at Gen `speed`, `width` lanes (R505, R509). -/
def linkUp (speed width : Nat) (s : State) : State :=
  if s.rst.step ≠ 5 ∨ s.pwr.vigil ∨ speed < 1 ∨ 4 < speed ∨ ¬(width = 1 ∨ width = 2 ∨ width = 4) then s
  else linkEvent 0x1104 (be 1 2 ++ be 1 1) (s.put pcieIx Sub.pcie_PCIE_LINK (0x80 + 16 * speed + width))

/-! ### The commands -/

/-- `TETHER_FIRMWARE_FRAME` (R427). -/
def execTetherFirmwareFrame (m : Mirror) (s : State) : Out :=
  .next (mirrorReceived (fun ix sub_ v t => (writeObj .firmware ix sub_ v t).1) m s)

/-- `MESSAGE_RECEIVED` (R497). -/
def execMessageReceived (port src session : Nat) (payload : Bytes) (s : State) : Out :=
  .next (messageReceived (port % 3) (src % 256) (session % 2 ^ 32) payload s)

/-- `RING_FRAME_RECEIVED` on HALB where `b`, else on HALA (R489). -/
def execRingFrameReceived (b : Bool) (f : Bytes) (fcsOk busy : Bool) (s : State) : Out :=
  .next (ringFrame (if b then 2 else 1) f fcsOk busy s)

/-- `DISCOVER_RECEIVED` on HALB where `b`, else on HALA (R492). -/
def execDiscoverReceived (b : Bool) (src hops : Nat) (s : State) : Out := .next (discover (if b then 2 else 1) (src % 256) hops s)

/-- `DISCOVER_REPLY_RECEIVED` on HALB where `b`, else on HALA (R492). -/
def execDiscoverReplyReceived (b : Bool) (src : Nat) (deviceId : Bytes) (s : State) : Out :=
  .next (discoverReply (if b then 2 else 1) src deviceId s)

/-- `BYPASS_RELEASE` (R488). -/
def execBypassRelease (s : State) : Out := .next (bypassRelease s)

/-- `H2D_DOORBELL` (R507). -/
def execH2dDoorbell (len : Nat) (b : Bytes) (s : State) : Out := .next (doorbell len b s)

/-- `D2H_ACK` (R507). -/
def execD2hAck (s : State) : Out := .next (mailboxOut { s with acc := { s.acc with d2hValid := false } })

/-- `PCIE_FLR` (R505). -/
def execPcieFlr (s : State) : Out := .next (functionReset s)

/-- `PCIE_LINK_LOSS` (R498). -/
def execPcieLinkLoss (s : State) : Out := .next (linkDown s)

/-- `PCIE_LINK_UP` (R505). -/
def execPcieLinkUp (speed width : Nat) (s : State) : Out := .next (linkUp speed width s)

/-- `PCIE_HOT_RESET` (R505). -/
def execPcieHotReset (s : State) : Out := .next (coreReset 9 s)

/-- `PCIE_PERST_N` (R588). -/
def execPciePerstN (s : State) : Out := .next (mailboxClear (linkDown s))

end Sys2Proof.Machine
end

