-- ==== Sys2Proof/Machine/Tick.lean ====
section
/-! DEFINITION. What time does of itself: one period of 8 ns on an empty queue (R30, R206, R296, R490, R499, R507, R586). -/

namespace Sys2Proof.Machine

/-- The residency object of the present state (R586). -/
def State.resSub (s : State) : Nat :=
  if s.pwr.vigil then Sub.residency_RES_VIGIL_MS
  else match s.ob 0x0400 Sub.power_PWR_STATE with
  | 0 => Sub.residency_RES_ACTIVE_MS
  | 1 => if s.ob 0x0400 Sub.power_PP_NOW = 2 then Sub.residency_RES_TRIM_P2_MS else Sub.residency_RES_TRIM_P1_MS
  | _ => Sub.residency_RES_DARK_MS

/-- 8 ns of residency (R586). -/
def State.reside (s : State) : State :=
  let n := s.pwr.resNs + 8
  if n < 1000000 then { s with pwr := { s.pwr with resNs := n } }
  else ({ s with pwr := { s.pwr with resNs := n - 1000000 } } : State).addOb 0x0402 s.resSub 64 1

/-- What waits in the control complex moves on: the H2D message, answers that stand, and forwarded frames (R490, R499,
R507). -/
def State.attend (s : State) : State :=
  if !s.portsUp then s
  else
    let s := mailboxIn (drainFwd 2 (drainFwd 1 (unpark { s with acc := { s.acc with lastSet := [] } })))
    (List.range 16).foldl (fun t k => flushAnswers k t) s

/-- One period of 8 ns. -/
def State.tick (s : State) : State :=
  if s.pwr.vigil then s.reside else s.period.pastCommits.audits.checkLanes.losses.carry.tetherWords.egress.loopsIn.reside |> lcAdvance |> mkaSettle |>.pairPeriod.rstoutRun.post.attend

end Sys2Proof.Machine
end

