-- ==== Sys2Proof/Machine/Dispatch.lean ====
section
/-! DEFINITION. The meaning of each command: one call for each constructor. -/

namespace Sys2Proof.Machine

/-- The effect of a command on everything but the queue. -/
def exec (i : Instr) (s : State) : Host.Outcome State Fault Refusal :=
  match i with
  | .clientFrameReceived c b pcs lag => Sys2Proof.Machine.execClientFrameReceived c b pcs lag s
  | .frameAdmit sl => Sys2Proof.Machine.execFrameAdmit sl s
  | .pauseRefreshTimer m => Sys2Proof.Machine.execPauseRefreshTimer m s
  | .sealDequeue sl base ev => Sys2Proof.Machine.execSealDequeue sl base ev s
  | .lineFrameReceived m b pcs lag overrun ecc => Sys2Proof.Machine.execLineFrameReceived m b pcs lag overrun ecc s
  | .openRelease sl caught => Sys2Proof.Machine.execOpenRelease sl caught s
  | .openDequeue sl j wait => Sys2Proof.Machine.execOpenDequeue sl j wait s
  | .cellsReturn sl open_ => Sys2Proof.Machine.execCellsReturn sl open_ s
  | .fupEntryTimeout sl open_ idx => Sys2Proof.Machine.execFupEntryTimeout sl open_ idx s
  | .txStateWrite c m v => Sys2Proof.Machine.execTxStateWrite c m v s
  | .rxStateWrite c m v => Sys2Proof.Machine.execRxStateWrite c m v s
  | .laneTransitionEnd m ns => Sys2Proof.Machine.execLaneTransitionEnd m ns s
  | .rateWrite c m v => Sys2Proof.Machine.execRateWrite c m v s
  | .portEnable c m v => Sys2Proof.Machine.execPortEnable c m v s
  | .linkFaultChange m st signal lock => Sys2Proof.Machine.execLinkFaultChange m st signal lock s
  | .cgAlign k late => Sys2Proof.Machine.execCgAlign k late s
  | .cgAlignLost k groups signal => Sys2Proof.Machine.execCgAlignLost k groups signal s
  | .prbsGenWrite c m v => Sys2Proof.Machine.execPrbsGenWrite c m v s
  | .prbsChkWrite c m v => Sys2Proof.Machine.execPrbsChkWrite c m v s
  | .scanStart c m => Sys2Proof.Machine.execScanStart c m s
  | .scanAbort c m => Sys2Proof.Machine.execScanAbort c m s
  | .scanDone m errors => Sys2Proof.Machine.execScanDone m errors s
  | .fecSerWindow m errors => Sys2Proof.Machine.execFecSerWindow m errors s
  | .learnRequest sl overlap => Sys2Proof.Machine.execLearnRequest sl overlap s
  | .sweepVisit sl overlap => Sys2Proof.Machine.execSweepVisit sl overlap s
  | .sweepStart sl => Sys2Proof.Machine.execSweepStart sl s
  | .ageClockTick sl => Sys2Proof.Machine.execAgeClockTick sl s
  | .staticReinstall sl idx => Sys2Proof.Machine.execStaticReinstall sl idx s
  | .twLookup c sl => Sys2Proof.Machine.execTwLookup c sl s
  | .twInsert c sl => Sys2Proof.Machine.execTwInsert c sl s
  | .twDelete c sl => Sys2Proof.Machine.execTwDelete c sl s
  | .twRead c sl => Sys2Proof.Machine.execTwRead c sl s
  | .twNext c sl => Sys2Proof.Machine.execTwNext c sl s
  | .twHash c sl => Sys2Proof.Machine.execTwHash c sl s
  | .twFlush c sl => Sys2Proof.Machine.execTwFlush c sl s
  | .awRead c sl ecc => Sys2Proof.Machine.execAwRead c sl ecc s
  | .awWrite c sl ecc => Sys2Proof.Machine.execAwWrite c sl ecc s
  | .awFindSci c sl => Sys2Proof.Machine.execAwFindSci c sl s
  | .awFree c sl => Sys2Proof.Machine.execAwFree c sl s
  | .awDelete c sl => Sys2Proof.Machine.execAwDelete c sl s
  | .awDeleteDone sl => Sys2Proof.Machine.execAwDeleteDone sl s
  | .awReadCounters c sl => Sys2Proof.Machine.execAwReadCounters c sl s
  | .keyScrubVisit sl fault => Sys2Proof.Machine.execKeyScrubVisit sl fault s
  | .bucketRefillVisit sl open_ kind idx => Sys2Proof.Machine.execBucketRefillVisit sl open_ kind idx s
  | .queueSampleVisit sl open_ => Sys2Proof.Machine.execQueueSampleVisit sl open_ s
  | .tmRead c sl => Sys2Proof.Machine.execTmRead c sl s
  | .tmWrite c sl => Sys2Proof.Machine.execTmWrite c sl s
  | .tmReadCounters c sl => Sys2Proof.Machine.execTmReadCounters c sl s
  | .auditMismatch sl open_ pos => Sys2Proof.Machine.execAuditMismatch sl open_ pos s
  | .coreCheckVerdict sl open_ corePass auditorPass => Sys2Proof.Machine.execCoreCheckVerdict sl open_ corePass auditorPass s
  | .coreRetest c sl open_ => Sys2Proof.Machine.execCoreRetest c sl open_ s
  | .retestComplete sl open_ mask => Sys2Proof.Machine.execRetestComplete sl open_ mask s
  | .cwRead c sl => Sys2Proof.Machine.execCwRead c sl s
  | .cwArm c sl => Sys2Proof.Machine.execCwArm c sl s
  | .cwCancel c sl => Sys2Proof.Machine.execCwCancel c sl s
  | .cwFire c sl => Sys2Proof.Machine.execCwFire c sl s
  | .cueTimeTrigger sl trib idx => Sys2Proof.Machine.execCueTimeTrigger sl trib idx s
  | .cueSwitch sl j => Sys2Proof.Machine.execCueSwitch sl j s
  | .retireDelayEnd sl idx => Sys2Proof.Machine.execRetireDelayEnd sl idx s
  | .oduFrameReceived sl idx f => Sys2Proof.Machine.execOduFrameReceived sl idx f s
  | .blockLockChange sl lane heads skew => Sys2Proof.Machine.execBlockLockChange sl lane heads skew s
  | .otnDefectDeclare sl trib b => Sys2Proof.Machine.execOtnDefectDeclare sl trib b s
  | .otnDefectClear sl trib b => Sys2Proof.Machine.execOtnDefectClear sl trib b s
  | .oneSecondEdge => Sys2Proof.Machine.execOneSecondEdge s
  | .ppsOutPulseEnd => Sys2Proof.Machine.execPpsOutPulseEnd s
  | .tribEnable c sl t v => Sys2Proof.Machine.execTribEnable c sl t v s
  | .multiframeBoundary sl t jc => Sys2Proof.Machine.execMultiframeBoundary sl t jc s
  | .soduMultiframeReceived sl t oh c => Sys2Proof.Machine.execSoduMultiframeReceived sl t oh c s
  | .soduTagCheck sl t oh => Sys2Proof.Machine.execSoduTagCheck sl t oh s
  | .cmRead c sl => Sys2Proof.Machine.execCmRead c sl s
  | .cmWrite c sl => Sys2Proof.Machine.execCmWrite c sl s
  | .cmSwitch c sl => Sys2Proof.Machine.execCmSwitch c sl s
  | .cmSwitchApply sl => Sys2Proof.Machine.execCmSwitchApply sl s
  | .timeStepSet c => Sys2Proof.Machine.execTimeStepSet c s
  | .timeStepOffset c => Sys2Proof.Machine.execTimeStepOffset c s
  | .timeUnlock c => Sys2Proof.Machine.execTimeUnlock c s
  | .timeStepApply => Sys2Proof.Machine.execTimeStepApply s
  | .incrWrite c v => Sys2Proof.Machine.execIncrWrite c v s
  | .incrApply => Sys2Proof.Machine.execIncrApply s
  | .ppsInEdge falling lag => Sys2Proof.Machine.execPpsInEdge falling lag s
  | .synceSourceSwitch m signal locked => Sys2Proof.Machine.execSynceSourceSwitch m signal locked s
  | .kwUnwrap c => Sys2Proof.Machine.execKwUnwrap c s
  | .kwGenerate c => Sys2Proof.Machine.execKwGenerate c s
  | .kwWrap c => Sys2Proof.Machine.execKwWrap c s
  | .kwRewrap c => Sys2Proof.Machine.execKwRewrap c s
  | .kwDestroy c => Sys2Proof.Machine.execKwDestroy c s
  | .kwKekClear c => Sys2Proof.Machine.execKwKekClear c s
  | .kwMigrate c => Sys2Proof.Machine.execKwMigrate c s
  | .kwMigrateEnd c => Sys2Proof.Machine.execKwMigrateEnd c s
  | .kwQuote c => Sys2Proof.Machine.execKwQuote c s
  | .kwInfo c => Sys2Proof.Machine.execKwInfo c s
  | .lcTransition c => Sys2Proof.Machine.execLcTransition c s
  | .lcVsRenew c => Sys2Proof.Machine.execLcVsRenew c s
  | .lcSvnCommit c => Sys2Proof.Machine.execLcSvnCommit c s
  | .jobStart c j => Sys2Proof.Machine.execJobStart c j s
  | .jobContinue c j => Sys2Proof.Machine.execJobContinue c j s
  | .jobFinish c j => Sys2Proof.Machine.execJobFinish c j s
  | .jobSave c j => Sys2Proof.Machine.execJobSave c j s
  | .jobRestore c j => Sys2Proof.Machine.execJobRestore c j s
  | .jobAbort c j => Sys2Proof.Machine.execJobAbort c j s
  | .jobDmaDone j aad data => Sys2Proof.Machine.execJobDmaDone j aad data s
  | .keCakLoad c => Sys2Proof.Machine.execKeCakLoad c s
  | .keCakFree c => Sys2Proof.Machine.execKeCakFree c s
  | .keInfo c => Sys2Proof.Machine.execKeInfo c s
  | .sakExport h idx => Sys2Proof.Machine.execSakExport h idx s
  | .sakImport wrapped idx target export_ serial label => Sys2Proof.Machine.execSakImport wrapped idx target export_ serial label s
  | .pkeOperationComplete => Sys2Proof.Machine.execPkeOperationComplete s
  | .mkpduReceived n pdu v => Sys2Proof.Machine.execMkpduReceived n pdu v s
  | .mkaHelloTimer n => Sys2Proof.Machine.execMkaHelloTimer n s
  | .mkaPeerTimeout n mi => Sys2Proof.Machine.execMkaPeerTimeout n mi s
  | .knotRun c n v => Sys2Proof.Machine.execKnotRun c n v s
  | .pairKnotRun c v => Sys2Proof.Machine.execPairKnotRun c v s
  | .knotMessageReceived place src segs => Sys2Proof.Machine.execKnotMessageReceived place src segs s
  | .knotRetryTimeout k => Sys2Proof.Machine.execKnotRetryTimeout k s
  | .knotSessionTimeout k => Sys2Proof.Machine.execKnotSessionTimeout k s
  | .entropyWindowClose w0 w1 w2 => Sys2Proof.Machine.execEntropyWindowClose w0 w1 w2 s
  | .healthTestFail n w0 w1 w2 => Sys2Proof.Machine.execHealthTestFail n w0 w1 w2 s
  | .entropyRequestServed => Sys2Proof.Machine.execEntropyRequestServed s
  | .entropyRequestTimeout => Sys2Proof.Machine.execEntropyRequestTimeout s
  | .entReadRequest c => Sys2Proof.Machine.execEntReadRequest c s
  | .heartbeatTimer => Sys2Proof.Machine.execHeartbeatTimer s
  | .heartbeatReceived b => Sys2Proof.Machine.execHeartbeatReceived b s
  | .heartbeatLoss => Sys2Proof.Machine.execHeartbeatLoss s
  | .selActRelease => Sys2Proof.Machine.execSelActRelease s
  | .selMateChange a => Sys2Proof.Machine.execSelMateChange a s
  | .tetherHelloTimer => Sys2Proof.Machine.execTetherHelloTimer s
  | .tetherHelloReceived b => Sys2Proof.Machine.execTetherHelloReceived b s
  | .tetherBadFrame => Sys2Proof.Machine.execTetherBadFrame s
  | .aloneWaitExpiry => Sys2Proof.Machine.execAloneWaitExpiry s
  | .checkpointSnapshot => Sys2Proof.Machine.execCheckpointSnapshot s
  | .checkpointPartReceived l => Sys2Proof.Machine.execCheckpointPartReceived l s
  | .cueSyncReceived b => Sys2Proof.Machine.execCueSyncReceived b s
  | .tetherFirmwareFrame m => Sys2Proof.Machine.execTetherFirmwareFrame m s
  | .losCompareExpiry m => Sys2Proof.Machine.execLosCompareExpiry m s
  | .takeReceived => Sys2Proof.Machine.execTakeReceived s
  | .takeoverCommit => Sys2Proof.Machine.execTakeoverCommit s
  | .shadowHoldEnd => Sys2Proof.Machine.execShadowHoldEnd s
  | .swCmd c v => Sys2Proof.Machine.execSwCmd c v s
  | .switchReqReceived cmd => Sys2Proof.Machine.execSwitchReqReceived cmd s
  | .switchAnsReceived st cmd => Sys2Proof.Machine.execSwitchAnsReceived st cmd s
  | .handoverSend => Sys2Proof.Machine.execHandoverSend s
  | .handoverReceived cause => Sys2Proof.Machine.execHandoverReceived cause s
  | .wtrExpiry => Sys2Proof.Machine.execWtrExpiry s
  | .msgHello k id versions => Sys2Proof.Machine.execMsgHello k id versions s
  | .msgGet k id ix sub_ => Sys2Proof.Machine.execMsgGet k id ix sub_ s
  | .msgSet k id idx same => Sys2Proof.Machine.execMsgSet k id idx same s
  | .msgGetBlock k id l => Sys2Proof.Machine.execMsgGetBlock k id l s
  | .msgSetBlock k id l same => Sys2Proof.Machine.execMsgSetBlock k id l same s
  | .msgTable k id window inputs op results same => Sys2Proof.Machine.execMsgTable k id window inputs op results same s
  | .msgSubscribe k id mask => Sys2Proof.Machine.execMsgSubscribe k id mask s
  | .msgClaim k id force l => Sys2Proof.Machine.execMsgClaim k id force l s
  | .msgRelease k id l => Sys2Proof.Machine.execMsgRelease k id l s
  | .msgReset k id level => Sys2Proof.Machine.execMsgReset k id level s
  | .resetMsgAssert => Sys2Proof.Machine.execResetMsgAssert s
  | .fwStageBegin k id => Sys2Proof.Machine.execFwStageBegin k id s
  | .fwStageData k id off b => Sys2Proof.Machine.execFwStageData k id off b s
  | .fwStageEnd k id => Sys2Proof.Machine.execFwStageEnd k id s
  | .fwStageAbort k id => Sys2Proof.Machine.execFwStageAbort k id s
  | .notifySend k => Sys2Proof.Machine.execNotifySend k s
  | .requestAnswerTimeout k => Sys2Proof.Machine.execRequestAnswerTimeout k s
  | .rpStore c => Sys2Proof.Machine.execRpStore c s
  | .rpLoad c => Sys2Proof.Machine.execRpLoad c s
  | .rpErase c => Sys2Proof.Machine.execRpErase c s
  | .rpDigest c => Sys2Proof.Machine.execRpDigest c s
  | .rpSelect c => Sys2Proof.Machine.execRpSelect c s
  | .profileLoad => Sys2Proof.Machine.execProfileLoad s
  | .evRead c => Sys2Proof.Machine.execEvRead c s
  | .ringFrameReceived b f fcsOk busy => Sys2Proof.Machine.execRingFrameReceived b f fcsOk busy s
  | .discoverReceived b src hops => Sys2Proof.Machine.execDiscoverReceived b src hops s
  | .discoverReplyReceived b src deviceId => Sys2Proof.Machine.execDiscoverReplyReceived b src deviceId s
  | .handshakeReceived port src session payload => Sys2Proof.Machine.execHandshakeReceived port src session payload s
  | .messageReceived port src session payload => Sys2Proof.Machine.execMessageReceived port src session payload s
  | .sessionIdleTimeout k => Sys2Proof.Machine.execSessionIdleTimeout k s
  | .bypassRelease => Sys2Proof.Machine.execBypassRelease s
  | .h2dDoorbell len b => Sys2Proof.Machine.execH2dDoorbell len b s
  | .d2hAck => Sys2Proof.Machine.execD2hAck s
  | .pcieFlr => Sys2Proof.Machine.execPcieFlr s
  | .pcieLinkLoss => Sys2Proof.Machine.execPcieLinkLoss s
  | .pcieHotReset => Sys2Proof.Machine.execPcieHotReset s
  | .mgAccess x changed bad => Sys2Proof.Machine.execMgAccess x changed bad s
  | .stagehandPageMove r => Sys2Proof.Machine.execStagehandPageMove r s
  | .rekeySeedRetry r => Sys2Proof.Machine.execRekeySeedRetry r s
  | .rgRekey c r => Sys2Proof.Machine.execRgRekey c r s
  | .rgReform c r => Sys2Proof.Machine.execRgReform c r s
  | .ddrPatrolScrub found => Sys2Proof.Machine.execDdrPatrolScrub found s
  | .tamperSample x => Sys2Proof.Machine.execTamperSample x s
  | .monitorTrip src rail value => Sys2Proof.Machine.execMonitorTrip src rail value s
  | .busIntegrityMismatch key transfer sink code => Sys2Proof.Machine.execBusIntegrityMismatch key transfer sink code s
  | .alarmResponse => Sys2Proof.Machine.execAlarmResponse s
  | .zeroiseDone => Sys2Proof.Machine.execZeroiseDone s
  | .almAck c => Sys2Proof.Machine.execAlmAck c s
  | .almClear c => Sys2Proof.Machine.execAlmClear c s
  | .clearResetDelay => Sys2Proof.Machine.execClearResetDelay s
  | .almFuseDisable c => Sys2Proof.Machine.execAlmFuseDisable c s
  | .almMaint c => Sys2Proof.Machine.execAlmMaint c s
  | .maintWindowExpiry => Sys2Proof.Machine.execMaintWindowExpiry s
  | .alRead c => Sys2Proof.Machine.execAlRead c s
  | .pwrReqActive c => Sys2Proof.Machine.execPwrReqActive c s
  | .pwrReqTrim c => Sys2Proof.Machine.execPwrReqTrim c s
  | .pwrReqDark c => Sys2Proof.Machine.execPwrReqDark c s
  | .sliceClockHold sl => Sys2Proof.Machine.execSliceClockHold sl s
  | .voltageReported mv => Sys2Proof.Machine.execVoltageReported mv s
  | .ppVoltTimeout => Sys2Proof.Machine.execPpVoltTimeout s
  | .darkEntryComplete => Sys2Proof.Machine.execDarkEntryComplete s
  | .darkSample hb los => Sys2Proof.Machine.execDarkSample hb los s
  | .darkWakeTimer => Sys2Proof.Machine.execDarkWakeTimer s
  | .slicePowerWrite c sl v => Sys2Proof.Machine.execSlicePowerWrite c sl v s
  | .sliceUngateDone sl sealMask openMask => Sys2Proof.Machine.execSliceUngateDone sl sealMask openMask s
  | .mainPowerLoss cell => Sys2Proof.Machine.execMainPowerLoss cell s
  | .refclkLoss idx => Sys2Proof.Machine.execRefclkLoss idx s
  | .refclkRevert => Sys2Proof.Machine.execRefclkRevert s
  | .powerGoodFall ns secret code => Sys2Proof.Machine.execPowerGoodFall ns secret code s
  | .powerOnReset secret code => Sys2Proof.Machine.execPowerOnReset secret code s
  | .porstNAssert ns => Sys2Proof.Machine.execPorstNAssert ns s
  | .watchdogExpiry => Sys2Proof.Machine.execWatchdogExpiry s
  | .coreReset bit_ => Sys2Proof.Machine.execCoreReset bit_ s
  | .systemReset bit_ => Sys2Proof.Machine.execSystemReset bit_ s
  | .powerupStepReady ddr masks => Sys2Proof.Machine.execPowerupStepReady ddr masks s
  | .powerupStepTimeout code => Sys2Proof.Machine.execPowerupStepTimeout code s
  | .powerupRetryTimer => Sys2Proof.Machine.execPowerupRetryTimer s
  | .clockValidSet dom idx => Sys2Proof.Machine.execClockValidSet dom idx s
  | .blockClockLoss dom idx => Sys2Proof.Machine.execBlockClockLoss dom idx s
  | .bootFirmwareStart ranges us => Sys2Proof.Machine.execBootFirmwareStart ranges us s
  | .blkReset c => Sys2Proof.Machine.execBlkReset c s
  | .blockResetDone kind idx => Sys2Proof.Machine.execBlockResetDone kind idx s
  | .fwActivate c v => Sys2Proof.Machine.execFwActivate c v s
  | .fwCommit c v => Sys2Proof.Machine.execFwCommit c v s
  | .resetCauseClear c v => Sys2Proof.Machine.execResetCauseClear c v s
  | .snapSnapshot c => Sys2Proof.Machine.execSnapSnapshot c s
  | .snapshotBoundary => Sys2Proof.Machine.execSnapshotBoundary s
  | .snapRelease c => Sys2Proof.Machine.execSnapRelease c s
  | .snapHoldExpiry => Sys2Proof.Machine.execSnapHoldExpiry s
  | .ctRead c => Sys2Proof.Machine.execCtRead c s
  | .tagEnableWrite c v => Sys2Proof.Machine.execTagEnableWrite c v s
  | .tgRead c => Sys2Proof.Machine.execTgRead c s
  | .tgTagReset c => Sys2Proof.Machine.execTgTagReset c s
  | .qsRead c => Sys2Proof.Machine.execQsRead c s
  | .pauseTimeExpiry m prios => Sys2Proof.Machine.execPauseTimeExpiry m prios s
  | .ckptAgeExceeded sl => Sys2Proof.Machine.execCkptAgeExceeded sl s
  | .pcieLinkUp speed width => Sys2Proof.Machine.execPcieLinkUp speed width s
  | .pciePerstN => Sys2Proof.Machine.execPciePerstN s
  | .pmbAlert => Sys2Proof.Machine.execPmbAlert s
  | .sourceConditionEnd src => Sys2Proof.Machine.execSourceConditionEnd src s

end Sys2Proof.Machine
end

