-- ==== Sys2Proof/Laws/Store.lean ====
section
/-! SUPPORT. Sparse maps: what a read gives after a write, and that every write keeps the canonical form. -/

namespace Sys2Proof.Machine

variable {α : Type}

@[simp] theorem mfind_minsert_self (m : SMap α) (k : Nat) (v : α) : mfind (minsert m k v) k = some v := by
  induction m with
  | nil => simp [minsert, mfind]
  | cons e t ih =>
    obtain ⟨k', v'⟩ := e
    simp only [minsert]
    split
    · simp [mfind]
    · split
      · simp [mfind]
      · have : k' ≠ k := by omega
        simp [mfind, this, ih]

theorem mfind_minsert_ne {m : SMap α} {k j : Nat} {v : α} (h : j ≠ k) : mfind (minsert m k v) j = mfind m j := by
  induction m with
  | nil => simp [minsert, mfind, Ne.symm h]
  | cons e t ih =>
    obtain ⟨k', v'⟩ := e
    simp only [minsert]
    split
    · simp [mfind, Ne.symm h]
    · split
      · rename_i h2; subst h2; simp [mfind, Ne.symm h]
      · simp only [mfind, ih]

theorem mfind_filter {m : SMap α} {p : Nat → Bool} {j : Nat} (h : p j = true) :
    mfind (m.filter (fun e => p e.1)) j = mfind m j := by
  induction m with
  | nil => rfl
  | cons e t ih =>
    obtain ⟨k', v'⟩ := e
    by_cases hk : p k'
    · simp only [List.filter, hk, mfind, ih]
    · have : k' ≠ j := by rintro rfl; exact hk h
      simp only [List.filter, hk, mfind, ih, if_neg this]

theorem mfind_filter_none {m : SMap α} {p : Nat → Bool} {j : Nat} (h : p j = false) :
    mfind (m.filter (fun e => p e.1)) j = none := by
  induction m with
  | nil => rfl
  | cons e t ih =>
    obtain ⟨k', v'⟩ := e
    by_cases hk : p k'
    · have : k' ≠ j := by rintro rfl; rw [h] at hk; cases hk
      simp only [List.filter, hk, mfind, ih, if_neg this]
    · simp only [List.filter, hk, ih]

@[simp] theorem mfind_merase_self (m : SMap α) (k : Nat) : mfind (merase m k) k = none := by
  rw [merase, mfind_filter_none (p := fun x => decide (x ≠ k))]; simp

theorem mfind_merase_ne {m : SMap α} {k j : Nat} (h : j ≠ k) : mfind (merase m k) j = mfind m j := by
  rw [merase, mfind_filter (p := fun x => decide (x ≠ k))]; simp [h]

theorem mfind_mdrop {m : SMap α} {p : Nat → Bool} {j : Nat} (h : p j = false) : mfind (mdrop p m) j = mfind m j := by
  rw [mdrop, mfind_filter (p := fun x => !p x)]; simp [h]

theorem mfind_mdrop_none {m : SMap α} {p : Nat → Bool} {j : Nat} (h : p j = true) : mfind (mdrop p m) j = none := by
  rw [mdrop, mfind_filter_none (p := fun x => !p x)]; simp [h]

@[simp] theorem mget_minsert_self (d : α) (m : SMap α) (k : Nat) (v : α) : mget d (minsert m k v) k = v := by simp [mget]

theorem mget_minsert_ne {d : α} {m : SMap α} {k j : Nat} {v : α} (h : j ≠ k) : mget d (minsert m k v) j = mget d m j := by
  simp [mget, mfind_minsert_ne h]

section

variable [DecidableEq α]

@[simp] theorem mget_mset_self (d : α) (m : SMap α) (k : Nat) (v : α) : mget d (mset d m k v) k = v := by
  unfold mset; split <;> simp_all [mget]

theorem mget_mset_ne {d d' : α} {m : SMap α} {k j : Nat} {v : α} (h : j ≠ k) : mget d' (mset d m k v) j = mget d' m j := by
  unfold mset; split <;> simp [mget, mfind_minsert_ne h, mfind_merase_ne h]

theorem mget_mset {d : α} {m : SMap α} {k j : Nat} {v : α} :
    mget d (mset d m k v) j = if j = k then v else mget d m j := by
  split
  · subst_vars; simp
  · rw [mget_mset_ne ‹_›]

end

/-! ### The canonical form -/

/-- Every key of `m` lies above `b`. -/
def above (b : Nat) : SMap α → Bool
  | [] => true
  | (k, _) :: _ => decide (b < k)

theorem mrising_cons {k : Nat} {v : α} {m : SMap α} : mrising ((k, v) :: m) = (above k m && mrising m) := by
  cases m <;> simp [mrising, above]

theorem above_mono {a b : Nat} {m : SMap α} (h : a ≤ b) (hb : above b m = true) : above a m = true := by
  cases m <;> simp_all [above]; omega

theorem above_minsert {b k : Nat} {v : α} {m : SMap α} (hk : b < k) (hm : above b m = true) : above b (minsert m k v) = true := by
  cases m with
  | nil => simp [minsert, above, hk]
  | cons e t =>
    obtain ⟨k', v'⟩ := e
    simp only [minsert]
    split
    · simp [above, hk]
    · split <;> simp_all [above]

theorem mrising_minsert {m : SMap α} {k : Nat} {v : α} (h : mrising m = true) : mrising (minsert m k v) = true := by
  induction m with
  | nil => simp [minsert, mrising]
  | cons e t ih =>
    obtain ⟨k', v'⟩ := e
    rw [mrising_cons, Bool.and_eq_true] at h
    simp only [minsert]
    split
    · rw [mrising_cons, mrising_cons]; simp_all [above]
    · split
      · subst_vars; rw [mrising_cons]; simp_all
      · rw [mrising_cons, ih h.2, above_minsert (by omega) h.1]; rfl

theorem above_filter {b : Nat} {p : Nat × α → Bool} {m : SMap α} (hr : mrising m = true) (h : above b m = true) :
    above b (m.filter p) = true := by
  induction m generalizing b with
  | nil => rfl
  | cons e t ih =>
    obtain ⟨k', v'⟩ := e
    rw [mrising_cons, Bool.and_eq_true] at hr
    have hb : b < k' := by simpa [above] using h
    by_cases hp : p (k', v')
    · simpa [List.filter, hp, above] using hb
    · simp only [List.filter, hp]; exact ih hr.2 (above_mono (by omega) hr.1)

theorem mrising_filter {p : Nat × α → Bool} {m : SMap α} (h : mrising m = true) : mrising (m.filter p) = true := by
  induction m with
  | nil => rfl
  | cons e t ih =>
    obtain ⟨k', v'⟩ := e
    rw [mrising_cons, Bool.and_eq_true] at h
    by_cases hp : p (k', v')
    · simp only [List.filter, hp]; rw [mrising_cons, ih h.2, above_filter h.2 h.1]; rfl
    · simp only [List.filter, hp]; exact ih h.2

theorem mem_minsert {m : SMap α} {k : Nat} {v : α} {e : Nat × α} (h : e ∈ minsert m k v) : e = (k, v) ∨ e ∈ m := by
  induction m with
  | nil => simpa [minsert] using h
  | cons x t ih =>
    obtain ⟨k', v'⟩ := x
    simp only [minsert] at h
    split at h
    · simpa using h
    · split at h
      · simp only [List.mem_cons] at h ⊢; tauto
      · simp only [List.mem_cons] at h ⊢
        rcases h with h | h
        · exact .inr (.inl h)
        · rcases ih h with h | h <;> tauto

variable [DecidableEq α]

/-- Writing keeps the canonical form. -/
theorem mwf_mset {d : Nat → α} {m : SMap α} {k : Nat} {v : α} (h : mwf d m = true) : mwf d (mset (d k) m k v) = true := by
  simp only [mwf, Bool.and_eq_true, List.all_eq_true] at h ⊢
  unfold mset
  split
  · exact ⟨mrising_filter h.1, fun e he => h.2 e (List.mem_of_mem_filter he)⟩
  · refine ⟨mrising_minsert h.1, fun e he => ?_⟩
    rcases mem_minsert he with rfl | he
    · simpa using ‹¬ v = d k›
    · exact h.2 e he

/-- Dropping entries keeps the canonical form. -/
theorem mwf_filter {d : Nat → α} {p : Nat × α → Bool} {m : SMap α} (h : mwf d m = true) : mwf d (m.filter p) = true := by
  simp only [mwf, Bool.and_eq_true, List.all_eq_true] at h ⊢
  exact ⟨mrising_filter h.1, fun e he => h.2 e (List.mem_of_mem_filter he)⟩

end Sys2Proof.Machine
end

