-- ==== Sys2Proof/Laws/State.lean ====
section
/-! SUPPORT. What the plain updates of State leave alone, field by field, and what objects, counters and sessions read as
after them. -/

namespace Sys2Proof.Machine

variable (s : State)

@[simp] theorem State.put_fuse (ix sub v : Nat) : (s.put ix sub v).fuse = s.fuse := rfl
@[simp] theorem State.put_lanes (ix sub v : Nat) : (s.put ix sub v).lanes = s.lanes := rfl
@[simp] theorem State.put_time (ix sub v : Nat) : (s.put ix sub v).time = s.time := rfl
@[simp] theorem State.put_hitch (ix sub v : Nat) : (s.put ix sub v).hitch = s.hitch := rfl
@[simp] theorem State.put_asc (ix sub v : Nat) : (s.put ix sub v).asc = s.asc := rfl
@[simp] theorem State.put_eng (ix sub v : Nat) : (s.put ix sub v).eng = s.eng := rfl
@[simp] theorem State.put_cue (ix sub v : Nat) : (s.put ix sub v).cue = s.cue := rfl
@[simp] theorem State.put_otn (ix sub v : Nat) : (s.put ix sub v).otn = s.otn := rfl
@[simp] theorem State.put_tm (ix sub v : Nat) : (s.put ix sub v).tm = s.tm := rfl
@[simp] theorem State.put_tel (ix sub v : Nat) : (s.put ix sub v).tel = s.tel := rfl
@[simp] theorem State.put_acc (ix sub v : Nat) : (s.put ix sub v).acc = s.acc := rfl
@[simp] theorem State.put_alm (ix sub v : Nat) : (s.put ix sub v).alm = s.alm := rfl
@[simp] theorem State.put_vault (ix sub v : Nat) : (s.put ix sub v).vault = s.vault := rfl
@[simp] theorem State.put_ke (ix sub v : Nat) : (s.put ix sub v).ke = s.ke := rfl
@[simp] theorem State.put_guard (ix sub v : Nat) : (s.put ix sub v).guard = s.guard := rfl
@[simp] theorem State.put_pair (ix sub v : Nat) : (s.put ix sub v).pair = s.pair := rfl
@[simp] theorem State.put_pwr (ix sub v : Nat) : (s.put ix sub v).pwr = s.pwr := rfl
@[simp] theorem State.put_rst (ix sub v : Nat) : (s.put ix sub v).rst = s.rst := rfl
@[simp] theorem State.put_cnt (ix sub v : Nat) : (s.put ix sub v).cnt = s.cnt := rfl
@[simp] theorem State.put_free (ix sub v : Nat) : (s.put ix sub v).free = s.free := rfl
@[simp] theorem State.put_wire (ix sub v : Nat) : (s.put ix sub v).wire = s.wire := rfl
@[simp] theorem State.put_pending (ix sub v : Nat) : (s.put ix sub v).pending = s.pending := rfl

@[simp] theorem State.putO_fuse (ix sub : Nat) (v : Bytes) : (s.putO ix sub v).fuse = s.fuse := rfl
@[simp] theorem State.putO_lanes (ix sub : Nat) (v : Bytes) : (s.putO ix sub v).lanes = s.lanes := rfl
@[simp] theorem State.putO_time (ix sub : Nat) (v : Bytes) : (s.putO ix sub v).time = s.time := rfl
@[simp] theorem State.putO_hitch (ix sub : Nat) (v : Bytes) : (s.putO ix sub v).hitch = s.hitch := rfl
@[simp] theorem State.putO_asc (ix sub : Nat) (v : Bytes) : (s.putO ix sub v).asc = s.asc := rfl
@[simp] theorem State.putO_eng (ix sub : Nat) (v : Bytes) : (s.putO ix sub v).eng = s.eng := rfl
@[simp] theorem State.putO_cue (ix sub : Nat) (v : Bytes) : (s.putO ix sub v).cue = s.cue := rfl
@[simp] theorem State.putO_otn (ix sub : Nat) (v : Bytes) : (s.putO ix sub v).otn = s.otn := rfl
@[simp] theorem State.putO_tm (ix sub : Nat) (v : Bytes) : (s.putO ix sub v).tm = s.tm := rfl
@[simp] theorem State.putO_tel (ix sub : Nat) (v : Bytes) : (s.putO ix sub v).tel = s.tel := rfl
@[simp] theorem State.putO_acc (ix sub : Nat) (v : Bytes) : (s.putO ix sub v).acc = s.acc := rfl
@[simp] theorem State.putO_alm (ix sub : Nat) (v : Bytes) : (s.putO ix sub v).alm = s.alm := rfl
@[simp] theorem State.putO_vault (ix sub : Nat) (v : Bytes) : (s.putO ix sub v).vault = s.vault := rfl
@[simp] theorem State.putO_ke (ix sub : Nat) (v : Bytes) : (s.putO ix sub v).ke = s.ke := rfl
@[simp] theorem State.putO_guard (ix sub : Nat) (v : Bytes) : (s.putO ix sub v).guard = s.guard := rfl
@[simp] theorem State.putO_pair (ix sub : Nat) (v : Bytes) : (s.putO ix sub v).pair = s.pair := rfl
@[simp] theorem State.putO_pwr (ix sub : Nat) (v : Bytes) : (s.putO ix sub v).pwr = s.pwr := rfl
@[simp] theorem State.putO_rst (ix sub : Nat) (v : Bytes) : (s.putO ix sub v).rst = s.rst := rfl
@[simp] theorem State.putO_cnt (ix sub : Nat) (v : Bytes) : (s.putO ix sub v).cnt = s.cnt := rfl
@[simp] theorem State.putO_free (ix sub : Nat) (v : Bytes) : (s.putO ix sub v).free = s.free := rfl
@[simp] theorem State.putO_wire (ix sub : Nat) (v : Bytes) : (s.putO ix sub v).wire = s.wire := rfl
@[simp] theorem State.putO_pending (ix sub : Nat) (v : Bytes) : (s.putO ix sub v).pending = s.pending := rfl

@[simp] theorem State.addOb_fuse (ix sub w n : Nat) : (s.addOb ix sub w n).fuse = s.fuse := rfl
@[simp] theorem State.addOb_lanes (ix sub w n : Nat) : (s.addOb ix sub w n).lanes = s.lanes := rfl
@[simp] theorem State.addOb_time (ix sub w n : Nat) : (s.addOb ix sub w n).time = s.time := rfl
@[simp] theorem State.addOb_hitch (ix sub w n : Nat) : (s.addOb ix sub w n).hitch = s.hitch := rfl
@[simp] theorem State.addOb_asc (ix sub w n : Nat) : (s.addOb ix sub w n).asc = s.asc := rfl
@[simp] theorem State.addOb_eng (ix sub w n : Nat) : (s.addOb ix sub w n).eng = s.eng := rfl
@[simp] theorem State.addOb_cue (ix sub w n : Nat) : (s.addOb ix sub w n).cue = s.cue := rfl
@[simp] theorem State.addOb_otn (ix sub w n : Nat) : (s.addOb ix sub w n).otn = s.otn := rfl
@[simp] theorem State.addOb_tm (ix sub w n : Nat) : (s.addOb ix sub w n).tm = s.tm := rfl
@[simp] theorem State.addOb_tel (ix sub w n : Nat) : (s.addOb ix sub w n).tel = s.tel := rfl
@[simp] theorem State.addOb_acc (ix sub w n : Nat) : (s.addOb ix sub w n).acc = s.acc := rfl
@[simp] theorem State.addOb_alm (ix sub w n : Nat) : (s.addOb ix sub w n).alm = s.alm := rfl
@[simp] theorem State.addOb_vault (ix sub w n : Nat) : (s.addOb ix sub w n).vault = s.vault := rfl
@[simp] theorem State.addOb_ke (ix sub w n : Nat) : (s.addOb ix sub w n).ke = s.ke := rfl
@[simp] theorem State.addOb_guard (ix sub w n : Nat) : (s.addOb ix sub w n).guard = s.guard := rfl
@[simp] theorem State.addOb_pair (ix sub w n : Nat) : (s.addOb ix sub w n).pair = s.pair := rfl
@[simp] theorem State.addOb_pwr (ix sub w n : Nat) : (s.addOb ix sub w n).pwr = s.pwr := rfl
@[simp] theorem State.addOb_rst (ix sub w n : Nat) : (s.addOb ix sub w n).rst = s.rst := rfl
@[simp] theorem State.addOb_cnt (ix sub w n : Nat) : (s.addOb ix sub w n).cnt = s.cnt := rfl
@[simp] theorem State.addOb_free (ix sub w n : Nat) : (s.addOb ix sub w n).free = s.free := rfl
@[simp] theorem State.addOb_wire (ix sub w n : Nat) : (s.addOb ix sub w n).wire = s.wire := rfl
@[simp] theorem State.addOb_pending (ix sub w n : Nat) : (s.addOb ix sub w n).pending = s.pending := rfl

@[simp] theorem State.emit_fuse (e : Emission) : (s.emit e).fuse = s.fuse := rfl
@[simp] theorem State.emit_dict (e : Emission) : (s.emit e).dict = s.dict := rfl
@[simp] theorem State.emit_lanes (e : Emission) : (s.emit e).lanes = s.lanes := rfl
@[simp] theorem State.emit_time (e : Emission) : (s.emit e).time = s.time := rfl
@[simp] theorem State.emit_hitch (e : Emission) : (s.emit e).hitch = s.hitch := rfl
@[simp] theorem State.emit_asc (e : Emission) : (s.emit e).asc = s.asc := rfl
@[simp] theorem State.emit_eng (e : Emission) : (s.emit e).eng = s.eng := rfl
@[simp] theorem State.emit_cue (e : Emission) : (s.emit e).cue = s.cue := rfl
@[simp] theorem State.emit_otn (e : Emission) : (s.emit e).otn = s.otn := rfl
@[simp] theorem State.emit_tm (e : Emission) : (s.emit e).tm = s.tm := rfl
@[simp] theorem State.emit_tel (e : Emission) : (s.emit e).tel = s.tel := rfl
@[simp] theorem State.emit_acc (e : Emission) : (s.emit e).acc = s.acc := rfl
@[simp] theorem State.emit_alm (e : Emission) : (s.emit e).alm = s.alm := rfl
@[simp] theorem State.emit_vault (e : Emission) : (s.emit e).vault = s.vault := rfl
@[simp] theorem State.emit_ke (e : Emission) : (s.emit e).ke = s.ke := rfl
@[simp] theorem State.emit_guard (e : Emission) : (s.emit e).guard = s.guard := rfl
@[simp] theorem State.emit_pair (e : Emission) : (s.emit e).pair = s.pair := rfl
@[simp] theorem State.emit_pwr (e : Emission) : (s.emit e).pwr = s.pwr := rfl
@[simp] theorem State.emit_rst (e : Emission) : (s.emit e).rst = s.rst := rfl
@[simp] theorem State.emit_cnt (e : Emission) : (s.emit e).cnt = s.cnt := rfl
@[simp] theorem State.emit_free (e : Emission) : (s.emit e).free = s.free := rfl
@[simp] theorem State.emit_pending (e : Emission) : (s.emit e).pending = s.pending := rfl

@[simp] theorem State.bump_fuse (c : Nat) : (s.bump c).fuse = s.fuse := rfl
@[simp] theorem State.bump_dict (c : Nat) : (s.bump c).dict = s.dict := rfl
@[simp] theorem State.bump_lanes (c : Nat) : (s.bump c).lanes = s.lanes := rfl
@[simp] theorem State.bump_time (c : Nat) : (s.bump c).time = s.time := rfl
@[simp] theorem State.bump_hitch (c : Nat) : (s.bump c).hitch = s.hitch := rfl
@[simp] theorem State.bump_asc (c : Nat) : (s.bump c).asc = s.asc := rfl
@[simp] theorem State.bump_eng (c : Nat) : (s.bump c).eng = s.eng := rfl
@[simp] theorem State.bump_cue (c : Nat) : (s.bump c).cue = s.cue := rfl
@[simp] theorem State.bump_otn (c : Nat) : (s.bump c).otn = s.otn := rfl
@[simp] theorem State.bump_tm (c : Nat) : (s.bump c).tm = s.tm := rfl
@[simp] theorem State.bump_tel (c : Nat) : (s.bump c).tel = s.tel := rfl
@[simp] theorem State.bump_acc (c : Nat) : (s.bump c).acc = s.acc := rfl
@[simp] theorem State.bump_alm (c : Nat) : (s.bump c).alm = s.alm := rfl
@[simp] theorem State.bump_vault (c : Nat) : (s.bump c).vault = s.vault := rfl
@[simp] theorem State.bump_ke (c : Nat) : (s.bump c).ke = s.ke := rfl
@[simp] theorem State.bump_guard (c : Nat) : (s.bump c).guard = s.guard := rfl
@[simp] theorem State.bump_pair (c : Nat) : (s.bump c).pair = s.pair := rfl
@[simp] theorem State.bump_pwr (c : Nat) : (s.bump c).pwr = s.pwr := rfl
@[simp] theorem State.bump_rst (c : Nat) : (s.bump c).rst = s.rst := rfl
@[simp] theorem State.bump_free (c : Nat) : (s.bump c).free = s.free := rfl
@[simp] theorem State.bump_wire (c : Nat) : (s.bump c).wire = s.wire := rfl
@[simp] theorem State.bump_pending (c : Nat) : (s.bump c).pending = s.pending := rfl

@[simp] theorem State.bumpBy_fuse (c n : Nat) : (s.bumpBy c n).fuse = s.fuse := rfl
@[simp] theorem State.bumpBy_dict (c n : Nat) : (s.bumpBy c n).dict = s.dict := rfl
@[simp] theorem State.bumpBy_lanes (c n : Nat) : (s.bumpBy c n).lanes = s.lanes := rfl
@[simp] theorem State.bumpBy_time (c n : Nat) : (s.bumpBy c n).time = s.time := rfl
@[simp] theorem State.bumpBy_hitch (c n : Nat) : (s.bumpBy c n).hitch = s.hitch := rfl
@[simp] theorem State.bumpBy_asc (c n : Nat) : (s.bumpBy c n).asc = s.asc := rfl
@[simp] theorem State.bumpBy_eng (c n : Nat) : (s.bumpBy c n).eng = s.eng := rfl
@[simp] theorem State.bumpBy_cue (c n : Nat) : (s.bumpBy c n).cue = s.cue := rfl
@[simp] theorem State.bumpBy_otn (c n : Nat) : (s.bumpBy c n).otn = s.otn := rfl
@[simp] theorem State.bumpBy_tm (c n : Nat) : (s.bumpBy c n).tm = s.tm := rfl
@[simp] theorem State.bumpBy_tel (c n : Nat) : (s.bumpBy c n).tel = s.tel := rfl
@[simp] theorem State.bumpBy_acc (c n : Nat) : (s.bumpBy c n).acc = s.acc := rfl
@[simp] theorem State.bumpBy_alm (c n : Nat) : (s.bumpBy c n).alm = s.alm := rfl
@[simp] theorem State.bumpBy_vault (c n : Nat) : (s.bumpBy c n).vault = s.vault := rfl
@[simp] theorem State.bumpBy_ke (c n : Nat) : (s.bumpBy c n).ke = s.ke := rfl
@[simp] theorem State.bumpBy_guard (c n : Nat) : (s.bumpBy c n).guard = s.guard := rfl
@[simp] theorem State.bumpBy_pair (c n : Nat) : (s.bumpBy c n).pair = s.pair := rfl
@[simp] theorem State.bumpBy_pwr (c n : Nat) : (s.bumpBy c n).pwr = s.pwr := rfl
@[simp] theorem State.bumpBy_rst (c n : Nat) : (s.bumpBy c n).rst = s.rst := rfl
@[simp] theorem State.bumpBy_free (c n : Nat) : (s.bumpBy c n).free = s.free := rfl
@[simp] theorem State.bumpBy_wire (c n : Nat) : (s.bumpBy c n).wire = s.wire := rfl
@[simp] theorem State.bumpBy_pending (c n : Nat) : (s.bumpBy c n).pending = s.pending := rfl

@[simp] theorem State.putSess_fuse (k : Nat) (x : Sess) : (s.putSess k x).fuse = s.fuse := rfl
@[simp] theorem State.putSess_dict (k : Nat) (x : Sess) : (s.putSess k x).dict = s.dict := rfl
@[simp] theorem State.putSess_lanes (k : Nat) (x : Sess) : (s.putSess k x).lanes = s.lanes := rfl
@[simp] theorem State.putSess_time (k : Nat) (x : Sess) : (s.putSess k x).time = s.time := rfl
@[simp] theorem State.putSess_hitch (k : Nat) (x : Sess) : (s.putSess k x).hitch = s.hitch := rfl
@[simp] theorem State.putSess_asc (k : Nat) (x : Sess) : (s.putSess k x).asc = s.asc := rfl
@[simp] theorem State.putSess_eng (k : Nat) (x : Sess) : (s.putSess k x).eng = s.eng := rfl
@[simp] theorem State.putSess_cue (k : Nat) (x : Sess) : (s.putSess k x).cue = s.cue := rfl
@[simp] theorem State.putSess_otn (k : Nat) (x : Sess) : (s.putSess k x).otn = s.otn := rfl
@[simp] theorem State.putSess_tm (k : Nat) (x : Sess) : (s.putSess k x).tm = s.tm := rfl
@[simp] theorem State.putSess_tel (k : Nat) (x : Sess) : (s.putSess k x).tel = s.tel := rfl
@[simp] theorem State.putSess_alm (k : Nat) (x : Sess) : (s.putSess k x).alm = s.alm := rfl
@[simp] theorem State.putSess_vault (k : Nat) (x : Sess) : (s.putSess k x).vault = s.vault := rfl
@[simp] theorem State.putSess_ke (k : Nat) (x : Sess) : (s.putSess k x).ke = s.ke := rfl
@[simp] theorem State.putSess_guard (k : Nat) (x : Sess) : (s.putSess k x).guard = s.guard := rfl
@[simp] theorem State.putSess_pair (k : Nat) (x : Sess) : (s.putSess k x).pair = s.pair := rfl
@[simp] theorem State.putSess_pwr (k : Nat) (x : Sess) : (s.putSess k x).pwr = s.pwr := rfl
@[simp] theorem State.putSess_rst (k : Nat) (x : Sess) : (s.putSess k x).rst = s.rst := rfl
@[simp] theorem State.putSess_cnt (k : Nat) (x : Sess) : (s.putSess k x).cnt = s.cnt := rfl
@[simp] theorem State.putSess_free (k : Nat) (x : Sess) : (s.putSess k x).free = s.free := rfl
@[simp] theorem State.putSess_wire (k : Nat) (x : Sess) : (s.putSess k x).wire = s.wire := rfl
@[simp] theorem State.putSess_pending (k : Nat) (x : Sess) : (s.putSess k x).pending = s.pending := rfl

@[simp] theorem State.complete_fuse (c : Caller) (ix sub : Nat) (st : Status) : (s.complete c ix sub st).fuse = s.fuse := rfl
@[simp] theorem State.complete_dict (c : Caller) (ix sub : Nat) (st : Status) : (s.complete c ix sub st).dict = s.dict := rfl
@[simp] theorem State.complete_lanes (c : Caller) (ix sub : Nat) (st : Status) : (s.complete c ix sub st).lanes = s.lanes := rfl
@[simp] theorem State.complete_time (c : Caller) (ix sub : Nat) (st : Status) : (s.complete c ix sub st).time = s.time := rfl
@[simp] theorem State.complete_hitch (c : Caller) (ix sub : Nat) (st : Status) : (s.complete c ix sub st).hitch = s.hitch := rfl
@[simp] theorem State.complete_asc (c : Caller) (ix sub : Nat) (st : Status) : (s.complete c ix sub st).asc = s.asc := rfl
@[simp] theorem State.complete_eng (c : Caller) (ix sub : Nat) (st : Status) : (s.complete c ix sub st).eng = s.eng := rfl
@[simp] theorem State.complete_cue (c : Caller) (ix sub : Nat) (st : Status) : (s.complete c ix sub st).cue = s.cue := rfl
@[simp] theorem State.complete_otn (c : Caller) (ix sub : Nat) (st : Status) : (s.complete c ix sub st).otn = s.otn := rfl
@[simp] theorem State.complete_tm (c : Caller) (ix sub : Nat) (st : Status) : (s.complete c ix sub st).tm = s.tm := rfl
@[simp] theorem State.complete_tel (c : Caller) (ix sub : Nat) (st : Status) : (s.complete c ix sub st).tel = s.tel := rfl
@[simp] theorem State.complete_acc (c : Caller) (ix sub : Nat) (st : Status) : (s.complete c ix sub st).acc = s.acc := rfl
@[simp] theorem State.complete_alm (c : Caller) (ix sub : Nat) (st : Status) : (s.complete c ix sub st).alm = s.alm := rfl
@[simp] theorem State.complete_vault (c : Caller) (ix sub : Nat) (st : Status) : (s.complete c ix sub st).vault = s.vault := rfl
@[simp] theorem State.complete_ke (c : Caller) (ix sub : Nat) (st : Status) : (s.complete c ix sub st).ke = s.ke := rfl
@[simp] theorem State.complete_guard (c : Caller) (ix sub : Nat) (st : Status) : (s.complete c ix sub st).guard = s.guard := rfl
@[simp] theorem State.complete_pair (c : Caller) (ix sub : Nat) (st : Status) : (s.complete c ix sub st).pair = s.pair := rfl
@[simp] theorem State.complete_pwr (c : Caller) (ix sub : Nat) (st : Status) : (s.complete c ix sub st).pwr = s.pwr := rfl
@[simp] theorem State.complete_rst (c : Caller) (ix sub : Nat) (st : Status) : (s.complete c ix sub st).rst = s.rst := rfl
@[simp] theorem State.complete_cnt (c : Caller) (ix sub : Nat) (st : Status) : (s.complete c ix sub st).cnt = s.cnt := rfl
@[simp] theorem State.complete_free (c : Caller) (ix sub : Nat) (st : Status) : (s.complete c ix sub st).free = s.free := rfl
@[simp] theorem State.complete_pending (c : Caller) (ix sub : Nat) (st : Status) : (s.complete c ix sub st).pending = s.pending := rfl

@[simp] theorem State.winEnd_fuse (ix sub : Nat) (st : Status) : (s.winEnd ix sub st).fuse = s.fuse := rfl
@[simp] theorem State.winEnd_lanes (ix sub : Nat) (st : Status) : (s.winEnd ix sub st).lanes = s.lanes := rfl
@[simp] theorem State.winEnd_time (ix sub : Nat) (st : Status) : (s.winEnd ix sub st).time = s.time := rfl
@[simp] theorem State.winEnd_hitch (ix sub : Nat) (st : Status) : (s.winEnd ix sub st).hitch = s.hitch := rfl
@[simp] theorem State.winEnd_asc (ix sub : Nat) (st : Status) : (s.winEnd ix sub st).asc = s.asc := rfl
@[simp] theorem State.winEnd_eng (ix sub : Nat) (st : Status) : (s.winEnd ix sub st).eng = s.eng := rfl
@[simp] theorem State.winEnd_cue (ix sub : Nat) (st : Status) : (s.winEnd ix sub st).cue = s.cue := rfl
@[simp] theorem State.winEnd_otn (ix sub : Nat) (st : Status) : (s.winEnd ix sub st).otn = s.otn := rfl
@[simp] theorem State.winEnd_tm (ix sub : Nat) (st : Status) : (s.winEnd ix sub st).tm = s.tm := rfl
@[simp] theorem State.winEnd_tel (ix sub : Nat) (st : Status) : (s.winEnd ix sub st).tel = s.tel := rfl
@[simp] theorem State.winEnd_alm (ix sub : Nat) (st : Status) : (s.winEnd ix sub st).alm = s.alm := rfl
@[simp] theorem State.winEnd_vault (ix sub : Nat) (st : Status) : (s.winEnd ix sub st).vault = s.vault := rfl
@[simp] theorem State.winEnd_ke (ix sub : Nat) (st : Status) : (s.winEnd ix sub st).ke = s.ke := rfl
@[simp] theorem State.winEnd_guard (ix sub : Nat) (st : Status) : (s.winEnd ix sub st).guard = s.guard := rfl
@[simp] theorem State.winEnd_pair (ix sub : Nat) (st : Status) : (s.winEnd ix sub st).pair = s.pair := rfl
@[simp] theorem State.winEnd_pwr (ix sub : Nat) (st : Status) : (s.winEnd ix sub st).pwr = s.pwr := rfl
@[simp] theorem State.winEnd_rst (ix sub : Nat) (st : Status) : (s.winEnd ix sub st).rst = s.rst := rfl
@[simp] theorem State.winEnd_cnt (ix sub : Nat) (st : Status) : (s.winEnd ix sub st).cnt = s.cnt := rfl
@[simp] theorem State.winEnd_free (ix sub : Nat) (st : Status) : (s.winEnd ix sub st).free = s.free := rfl
@[simp] theorem State.winEnd_wire (ix sub : Nat) (st : Status) : (s.winEnd ix sub st).wire = s.wire := rfl
@[simp] theorem State.winEnd_pending (ix sub : Nat) (st : Status) : (s.winEnd ix sub st).pending = s.pending := rfl

@[simp] theorem State.winRun_fuse (ix sub : Nat) : (s.winRun ix sub).fuse = s.fuse := rfl
@[simp] theorem State.winRun_lanes (ix sub : Nat) : (s.winRun ix sub).lanes = s.lanes := rfl
@[simp] theorem State.winRun_time (ix sub : Nat) : (s.winRun ix sub).time = s.time := rfl
@[simp] theorem State.winRun_hitch (ix sub : Nat) : (s.winRun ix sub).hitch = s.hitch := rfl
@[simp] theorem State.winRun_asc (ix sub : Nat) : (s.winRun ix sub).asc = s.asc := rfl
@[simp] theorem State.winRun_eng (ix sub : Nat) : (s.winRun ix sub).eng = s.eng := rfl
@[simp] theorem State.winRun_cue (ix sub : Nat) : (s.winRun ix sub).cue = s.cue := rfl
@[simp] theorem State.winRun_otn (ix sub : Nat) : (s.winRun ix sub).otn = s.otn := rfl
@[simp] theorem State.winRun_tm (ix sub : Nat) : (s.winRun ix sub).tm = s.tm := rfl
@[simp] theorem State.winRun_tel (ix sub : Nat) : (s.winRun ix sub).tel = s.tel := rfl
@[simp] theorem State.winRun_alm (ix sub : Nat) : (s.winRun ix sub).alm = s.alm := rfl
@[simp] theorem State.winRun_vault (ix sub : Nat) : (s.winRun ix sub).vault = s.vault := rfl
@[simp] theorem State.winRun_ke (ix sub : Nat) : (s.winRun ix sub).ke = s.ke := rfl
@[simp] theorem State.winRun_guard (ix sub : Nat) : (s.winRun ix sub).guard = s.guard := rfl
@[simp] theorem State.winRun_pair (ix sub : Nat) : (s.winRun ix sub).pair = s.pair := rfl
@[simp] theorem State.winRun_pwr (ix sub : Nat) : (s.winRun ix sub).pwr = s.pwr := rfl
@[simp] theorem State.winRun_rst (ix sub : Nat) : (s.winRun ix sub).rst = s.rst := rfl
@[simp] theorem State.winRun_cnt (ix sub : Nat) : (s.winRun ix sub).cnt = s.cnt := rfl
@[simp] theorem State.winRun_free (ix sub : Nat) : (s.winRun ix sub).free = s.free := rfl
@[simp] theorem State.winRun_wire (ix sub : Nat) : (s.winRun ix sub).wire = s.wire := rfl
@[simp] theorem State.winRun_pending (ix sub : Nat) : (s.winRun ix sub).pending = s.pending := rfl

@[simp] theorem State.mark_fuse (k : Nat) : (s.mark k).fuse = s.fuse := rfl
@[simp] theorem State.mark_dict (k : Nat) : (s.mark k).dict = s.dict := rfl
@[simp] theorem State.mark_lanes (k : Nat) : (s.mark k).lanes = s.lanes := rfl
@[simp] theorem State.mark_hitch (k : Nat) : (s.mark k).hitch = s.hitch := rfl
@[simp] theorem State.mark_asc (k : Nat) : (s.mark k).asc = s.asc := rfl
@[simp] theorem State.mark_eng (k : Nat) : (s.mark k).eng = s.eng := rfl
@[simp] theorem State.mark_cue (k : Nat) : (s.mark k).cue = s.cue := rfl
@[simp] theorem State.mark_otn (k : Nat) : (s.mark k).otn = s.otn := rfl
@[simp] theorem State.mark_tm (k : Nat) : (s.mark k).tm = s.tm := rfl
@[simp] theorem State.mark_tel (k : Nat) : (s.mark k).tel = s.tel := rfl
@[simp] theorem State.mark_acc (k : Nat) : (s.mark k).acc = s.acc := rfl
@[simp] theorem State.mark_alm (k : Nat) : (s.mark k).alm = s.alm := rfl
@[simp] theorem State.mark_vault (k : Nat) : (s.mark k).vault = s.vault := rfl
@[simp] theorem State.mark_ke (k : Nat) : (s.mark k).ke = s.ke := rfl
@[simp] theorem State.mark_guard (k : Nat) : (s.mark k).guard = s.guard := rfl
@[simp] theorem State.mark_pair (k : Nat) : (s.mark k).pair = s.pair := rfl
@[simp] theorem State.mark_pwr (k : Nat) : (s.mark k).pwr = s.pwr := rfl
@[simp] theorem State.mark_rst (k : Nat) : (s.mark k).rst = s.rst := rfl
@[simp] theorem State.mark_cnt (k : Nat) : (s.mark k).cnt = s.cnt := rfl
@[simp] theorem State.mark_free (k : Nat) : (s.mark k).free = s.free := rfl
@[simp] theorem State.mark_wire (k : Nat) : (s.mark k).wire = s.wire := rfl
@[simp] theorem State.mark_pending (k : Nat) : (s.mark k).pending = s.pending := rfl
@[simp] theorem State.mark_now (k : Nat) : (s.mark k).time.now = s.time.now := rfl
@[simp] theorem State.mark_periods (k : Nat) : (s.mark k).time.periods = s.time.periods := rfl
@[simp] theorem State.mark_since (k : Nat) : (s.mark k).time.since = minsert s.time.since k s.time.periods := rfl

@[simp] theorem State.takeFree_fuse : (State.takeFree s).2.fuse = s.fuse := rfl
@[simp] theorem State.takeFree_dict : (State.takeFree s).2.dict = s.dict := rfl
@[simp] theorem State.takeFree_lanes : (State.takeFree s).2.lanes = s.lanes := rfl
@[simp] theorem State.takeFree_time : (State.takeFree s).2.time = s.time := rfl
@[simp] theorem State.takeFree_hitch : (State.takeFree s).2.hitch = s.hitch := rfl
@[simp] theorem State.takeFree_asc : (State.takeFree s).2.asc = s.asc := rfl
@[simp] theorem State.takeFree_eng : (State.takeFree s).2.eng = s.eng := rfl
@[simp] theorem State.takeFree_cue : (State.takeFree s).2.cue = s.cue := rfl
@[simp] theorem State.takeFree_otn : (State.takeFree s).2.otn = s.otn := rfl
@[simp] theorem State.takeFree_tm : (State.takeFree s).2.tm = s.tm := rfl
@[simp] theorem State.takeFree_tel : (State.takeFree s).2.tel = s.tel := rfl
@[simp] theorem State.takeFree_acc : (State.takeFree s).2.acc = s.acc := rfl
@[simp] theorem State.takeFree_alm : (State.takeFree s).2.alm = s.alm := rfl
@[simp] theorem State.takeFree_vault : (State.takeFree s).2.vault = s.vault := rfl
@[simp] theorem State.takeFree_ke : (State.takeFree s).2.ke = s.ke := rfl
@[simp] theorem State.takeFree_guard : (State.takeFree s).2.guard = s.guard := rfl
@[simp] theorem State.takeFree_pair : (State.takeFree s).2.pair = s.pair := rfl
@[simp] theorem State.takeFree_pwr : (State.takeFree s).2.pwr = s.pwr := rfl
@[simp] theorem State.takeFree_rst : (State.takeFree s).2.rst = s.rst := rfl
@[simp] theorem State.takeFree_cnt : (State.takeFree s).2.cnt = s.cnt := rfl
@[simp] theorem State.takeFree_wire : (State.takeFree s).2.wire = s.wire := rfl
@[simp] theorem State.takeFree_pending : (State.takeFree s).2.pending = s.pending := rfl
@[simp] theorem State.takeFree_free : (State.takeFree s).2.free = s.free + 1 := rfl

@[simp] theorem State.holdBack_fuse (ix sub : Nat) (st : Status) (t : State) : (s.holdBack ix sub st t).fuse = t.fuse := rfl
@[simp] theorem State.holdBack_lanes (ix sub : Nat) (st : Status) (t : State) : (s.holdBack ix sub st t).lanes = t.lanes := rfl
@[simp] theorem State.holdBack_time (ix sub : Nat) (st : Status) (t : State) : (s.holdBack ix sub st t).time = t.time := rfl
@[simp] theorem State.holdBack_hitch (ix sub : Nat) (st : Status) (t : State) : (s.holdBack ix sub st t).hitch = t.hitch := rfl
@[simp] theorem State.holdBack_asc (ix sub : Nat) (st : Status) (t : State) : (s.holdBack ix sub st t).asc = t.asc := rfl
@[simp] theorem State.holdBack_eng (ix sub : Nat) (st : Status) (t : State) : (s.holdBack ix sub st t).eng = t.eng := rfl
@[simp] theorem State.holdBack_cue (ix sub : Nat) (st : Status) (t : State) : (s.holdBack ix sub st t).cue = t.cue := rfl
@[simp] theorem State.holdBack_otn (ix sub : Nat) (st : Status) (t : State) : (s.holdBack ix sub st t).otn = t.otn := rfl
@[simp] theorem State.holdBack_tm (ix sub : Nat) (st : Status) (t : State) : (s.holdBack ix sub st t).tm = t.tm := rfl
@[simp] theorem State.holdBack_tel (ix sub : Nat) (st : Status) (t : State) : (s.holdBack ix sub st t).tel = t.tel := rfl
@[simp] theorem State.holdBack_alm (ix sub : Nat) (st : Status) (t : State) : (s.holdBack ix sub st t).alm = t.alm := rfl
@[simp] theorem State.holdBack_vault (ix sub : Nat) (st : Status) (t : State) : (s.holdBack ix sub st t).vault = t.vault := rfl
@[simp] theorem State.holdBack_ke (ix sub : Nat) (st : Status) (t : State) : (s.holdBack ix sub st t).ke = t.ke := rfl
@[simp] theorem State.holdBack_guard (ix sub : Nat) (st : Status) (t : State) : (s.holdBack ix sub st t).guard = t.guard := rfl
@[simp] theorem State.holdBack_pair (ix sub : Nat) (st : Status) (t : State) : (s.holdBack ix sub st t).pair = t.pair := rfl
@[simp] theorem State.holdBack_pwr (ix sub : Nat) (st : Status) (t : State) : (s.holdBack ix sub st t).pwr = t.pwr := rfl
@[simp] theorem State.holdBack_rst (ix sub : Nat) (st : Status) (t : State) : (s.holdBack ix sub st t).rst = t.rst := rfl
@[simp] theorem State.holdBack_cnt (ix sub : Nat) (st : Status) (t : State) : (s.holdBack ix sub st t).cnt = t.cnt := rfl
@[simp] theorem State.holdBack_free (ix sub : Nat) (st : Status) (t : State) : (s.holdBack ix sub st t).free = t.free := rfl
@[simp] theorem State.holdBack_wire (ix sub : Nat) (st : Status) (t : State) : (s.holdBack ix sub st t).wire = t.wire := rfl
@[simp] theorem State.holdBack_pending (ix sub : Nat) (st : Status) (t : State) : (s.holdBack ix sub st t).pending = t.pending := rfl

@[simp] theorem State.emit_wire (e : Emission) : (s.emit e).wire = s.wire ++ [e] := rfl
@[simp] theorem State.complete_wire (c : Caller) (ix sub : Nat) (st : Status) :
    (s.complete c ix sub st).wire = s.wire ++ [.done c.entry ix sub st] := rfl
@[simp] theorem State.winEnd_running (ix sub : Nat) (st : Status) :
    (s.winEnd ix sub st).acc.running = s.acc.running.filter (· != okey ix sub) := rfl
@[simp] theorem State.winRun_running (ix sub : Nat) : (s.winRun ix sub).acc.running = s.acc.running ++ [okey ix sub] := rfl

/-! ### Objects -/

theorem okey_inj {ix sub ix' sub' : Nat} (h : sub < 256) (h' : sub' < 256) (e : okey ix sub = okey ix' sub') :
    ix = ix' ∧ sub = sub' := by
  unfold okey at e; omega

variable {s}

/-- A numeric object that was written. -/
@[simp] theorem State.ob_put_self (ix sub v : Nat) : (s.put ix sub v).ob ix sub = v := by
  simp [State.ob, State.put]

/-- Another numeric object. -/
theorem State.ob_put_ne {ix sub v ix' sub' : Nat} (h : okey ix' sub' ≠ okey ix sub) :
    (s.put ix sub v).ob ix' sub' = s.ob ix' sub' := by
  simp [State.ob, State.put, mget_mset_ne h]

/-- A numeric object after a write of any object. -/
theorem State.ob_put {ix sub v ix' sub' : Nat} (h : sub < 256) (h' : sub' < 256) :
    (s.put ix sub v).ob ix' sub' = if ix' = ix ∧ sub' = sub then v else s.ob ix' sub' := by
  split
  · rename_i e; obtain ⟨rfl, rfl⟩ := e; simp
  · rename_i e; exact ob_put_ne (fun k => e (okey_inj h' h k))

@[simp] theorem State.ob_addOb_self (ix sub w n : Nat) : (s.addOb ix sub w n).ob ix sub = (s.ob ix sub + n) % 2 ^ w := by
  simp [State.addOb]

theorem State.ob_addOb_ne {ix sub w n ix' sub' : Nat} (h : okey ix' sub' ≠ okey ix sub) :
    (s.addOb ix sub w n).ob ix' sub' = s.ob ix' sub' := by
  simp [State.addOb, State.ob_put_ne h]

/-- An octet object that was written. -/
@[simp] theorem State.oct_putO_self (ix sub : Nat) (v : Bytes) : (s.putO ix sub v).oct ix sub = v := by
  simp [State.oct, State.putO]

theorem State.oct_putO_ne {ix sub ix' sub' : Nat} {v : Bytes} (h : okey ix' sub' ≠ okey ix sub) :
    (s.putO ix sub v).oct ix' sub' = s.oct ix' sub' := by
  simp [State.oct, State.putO, mget_mset_ne h]

/-- Numeric and octet objects are apart. -/
@[simp] theorem State.oct_put (ix sub v ix' sub' : Nat) : (s.put ix sub v).oct ix' sub' = s.oct ix' sub' := rfl
@[simp] theorem State.ob_putO (ix sub : Nat) (v : Bytes) (ix' sub' : Nat) : (s.putO ix sub v).ob ix' sub' = s.ob ix' sub' := rfl
@[simp] theorem State.oct_addOb (ix sub w n ix' sub' : Nat) : (s.addOb ix sub w n).oct ix' sub' = s.oct ix' sub' := rfl

/-- Objects read the dictionary and the fuses alone. -/
theorem State.ob_congr {t : State} (hd : t.dict = s.dict) (hf : t.fuse = s.fuse) (ix sub : Nat) : t.ob ix sub = s.ob ix sub := by
  simp [State.ob, hd, hf]

theorem State.oct_congr {t : State} (hd : t.dict = s.dict) (hf : t.fuse = s.fuse) (ix sub : Nat) :
    t.oct ix sub = s.oct ix sub := by
  simp [State.oct, hd, hf]

@[simp] theorem State.ob_emit (e : Emission) (ix sub : Nat) : (s.emit e).ob ix sub = s.ob ix sub := rfl
@[simp] theorem State.ob_bump (c ix sub : Nat) : (s.bump c).ob ix sub = s.ob ix sub := rfl
@[simp] theorem State.ob_bumpBy (c n ix sub : Nat) : (s.bumpBy c n).ob ix sub = s.ob ix sub := rfl
@[simp] theorem State.ob_putSess (k : Nat) (x : Sess) (ix sub : Nat) : (s.putSess k x).ob ix sub = s.ob ix sub := rfl
@[simp] theorem State.ob_complete (c : Caller) (i j : Nat) (st : Status) (ix sub : Nat) :
    (s.complete c i j st).ob ix sub = s.ob ix sub := rfl
@[simp] theorem State.oct_emit (e : Emission) (ix sub : Nat) : (s.emit e).oct ix sub = s.oct ix sub := rfl
@[simp] theorem State.oct_complete (c : Caller) (i j : Nat) (st : Status) (ix sub : Nat) :
    (s.complete c i j st).oct ix sub = s.oct ix sub := rfl

@[simp] theorem State.ob_mark (k ix sub : Nat) : (s.mark k).ob ix sub = s.ob ix sub := rfl
@[simp] theorem State.oct_mark (k ix sub : Nat) : (s.mark k).oct ix sub = s.oct ix sub := rfl
@[simp] theorem State.ns_mark (k : Nat) : (s.mark k).ns = s.ns := rfl

/-- A condition that begins now has not held for any time. -/
@[simp] theorem State.past_mark_self (k ns : Nat) : (s.mark k).past k ns = decide (ns = 0) := by
  simp [State.past, State.gone, State.mark]

/-- Another condition goes on. -/
theorem State.past_mark_ne {j k ns : Nat} (h : j ≠ k) : (s.mark k).past j ns = s.past j ns := by
  simp only [State.past, State.gone, State.mark, mget, mfind_minsert_ne h]; rfl

/-! ### Counters and sessions -/

@[simp] theorem State.bump_self (c : Nat) : mget 0 (s.bump c).cnt c = (mget 0 s.cnt c + 1) % 2 ^ 64 := by
  simp [State.bump]

theorem State.bump_ne {c d : Nat} (h : d ≠ c) : mget 0 (s.bump c).cnt d = mget 0 s.cnt d := by
  simp [State.bump, mget_mset_ne h]

@[simp] theorem State.sessAt_putSess_self (k : Nat) (x : Sess) : (s.putSess k x).sessAt k = x := by
  simp [State.sessAt, State.putSess]

theorem State.sessAt_putSess_ne {k j : Nat} {x : Sess} (h : j ≠ k) : (s.putSess k x).sessAt j = s.sessAt j := by
  simp [State.sessAt, State.putSess, mget_mset_ne h]

end Sys2Proof.Machine
end

