-- ==== Sys2Proof/Laws/Ops.lean ====
section
/-! SUPPORT. What events, alarms, writes and windows do: one lemma for each says everything it can change. -/

namespace Sys2Proof.Machine

variable {s t : State}

/-- `t` differs from `s` in the dictionary and in the access structures alone. -/
def OnlyDictAcc (s t : State) : Prop := ∃ d a, t = { s with dict := d, acc := a }

theorem OnlyDictAcc.refl (s : State) : OnlyDictAcc s s := ⟨s.dict, s.acc, rfl⟩

theorem OnlyDictAcc.trans {u : State} (h : OnlyDictAcc s t) (h' : OnlyDictAcc t u) : OnlyDictAcc s u := by
  obtain ⟨d, a, rfl⟩ := h; obtain ⟨d', a', rfl⟩ := h'; exact ⟨d', a', rfl⟩

theorem OnlyDictAcc.foldl {β : Type} {f : State → β → State} (h : ∀ u b, OnlyDictAcc u (f u b)) (l : List β) (s : State) :
    OnlyDictAcc s (l.foldl f s) := by
  induction l generalizing s with
  | nil => exact .refl s
  | cons b l ih => exact (h s b).trans (ih _)

theorem logEventAt_only (ns code slice : Nat) (items : Bytes) (s : State) :
    OnlyDictAcc s (s.logEventAt ns code slice items).2 := ⟨_, _, rfl⟩

theorem notify_only (k : Nat) (r : Bytes) (s : State) : OnlyDictAcc s (s.notify k r) := by
  unfold State.notify
  dsimp only
  split
  · exact ⟨_, _, rfl⟩
  · split
    · exact ⟨_, _, rfl⟩
    · exact ⟨_, _, rfl⟩

/-- Raising an event changes the dictionary and the access structures alone (R470). -/
theorem raiseAt_only (ns code slice : Nat) (items : Bytes) (s : State) : OnlyDictAcc s (s.raiseAt ns code slice items) := by
  unfold State.raiseAt
  split
  · exact ⟨_, _, rfl⟩
  · refine (logEventAt_only ns code slice items s).trans (OnlyDictAcc.foldl (fun u k => ?_) _ _)
    split
    · exact notify_only ..
    · exact .refl _

theorem raise_only (code slice : Nat) (items : Bytes) (s : State) : OnlyDictAcc s (s.raise code slice items) :=
  raiseAt_only ..

theorem raiseTo_only (k code slice : Nat) (items : Bytes) (s : State) : OnlyDictAcc s (s.raiseTo k code slice items) := by
  unfold State.raiseTo
  split
  · exact ⟨_, _, rfl⟩
  · exact (logEventAt_only ..).trans (notify_only ..)

@[simp] theorem State.raiseAt_fuse (ns code slice : Nat) (items : Bytes) : (s.raiseAt ns code slice items).fuse = s.fuse := by
  obtain ⟨_, _, h⟩ := raiseAt_only ns code slice items s; rw [h]
@[simp] theorem State.raiseAt_lanes (ns code slice : Nat) (items : Bytes) : (s.raiseAt ns code slice items).lanes = s.lanes := by
  obtain ⟨_, _, h⟩ := raiseAt_only ns code slice items s; rw [h]
@[simp] theorem State.raiseAt_time (ns code slice : Nat) (items : Bytes) : (s.raiseAt ns code slice items).time = s.time := by
  obtain ⟨_, _, h⟩ := raiseAt_only ns code slice items s; rw [h]
@[simp] theorem State.raiseAt_hitch (ns code slice : Nat) (items : Bytes) : (s.raiseAt ns code slice items).hitch = s.hitch := by
  obtain ⟨_, _, h⟩ := raiseAt_only ns code slice items s; rw [h]
@[simp] theorem State.raiseAt_asc (ns code slice : Nat) (items : Bytes) : (s.raiseAt ns code slice items).asc = s.asc := by
  obtain ⟨_, _, h⟩ := raiseAt_only ns code slice items s; rw [h]
@[simp] theorem State.raiseAt_eng (ns code slice : Nat) (items : Bytes) : (s.raiseAt ns code slice items).eng = s.eng := by
  obtain ⟨_, _, h⟩ := raiseAt_only ns code slice items s; rw [h]
@[simp] theorem State.raiseAt_cue (ns code slice : Nat) (items : Bytes) : (s.raiseAt ns code slice items).cue = s.cue := by
  obtain ⟨_, _, h⟩ := raiseAt_only ns code slice items s; rw [h]
@[simp] theorem State.raiseAt_otn (ns code slice : Nat) (items : Bytes) : (s.raiseAt ns code slice items).otn = s.otn := by
  obtain ⟨_, _, h⟩ := raiseAt_only ns code slice items s; rw [h]
@[simp] theorem State.raiseAt_tm (ns code slice : Nat) (items : Bytes) : (s.raiseAt ns code slice items).tm = s.tm := by
  obtain ⟨_, _, h⟩ := raiseAt_only ns code slice items s; rw [h]
@[simp] theorem State.raiseAt_tel (ns code slice : Nat) (items : Bytes) : (s.raiseAt ns code slice items).tel = s.tel := by
  obtain ⟨_, _, h⟩ := raiseAt_only ns code slice items s; rw [h]
@[simp] theorem State.raiseAt_alm (ns code slice : Nat) (items : Bytes) : (s.raiseAt ns code slice items).alm = s.alm := by
  obtain ⟨_, _, h⟩ := raiseAt_only ns code slice items s; rw [h]
@[simp] theorem State.raiseAt_vault (ns code slice : Nat) (items : Bytes) : (s.raiseAt ns code slice items).vault = s.vault := by
  obtain ⟨_, _, h⟩ := raiseAt_only ns code slice items s; rw [h]
@[simp] theorem State.raiseAt_ke (ns code slice : Nat) (items : Bytes) : (s.raiseAt ns code slice items).ke = s.ke := by
  obtain ⟨_, _, h⟩ := raiseAt_only ns code slice items s; rw [h]
@[simp] theorem State.raiseAt_guard (ns code slice : Nat) (items : Bytes) : (s.raiseAt ns code slice items).guard = s.guard := by
  obtain ⟨_, _, h⟩ := raiseAt_only ns code slice items s; rw [h]
@[simp] theorem State.raiseAt_pair (ns code slice : Nat) (items : Bytes) : (s.raiseAt ns code slice items).pair = s.pair := by
  obtain ⟨_, _, h⟩ := raiseAt_only ns code slice items s; rw [h]
@[simp] theorem State.raiseAt_pwr (ns code slice : Nat) (items : Bytes) : (s.raiseAt ns code slice items).pwr = s.pwr := by
  obtain ⟨_, _, h⟩ := raiseAt_only ns code slice items s; rw [h]
@[simp] theorem State.raiseAt_rst (ns code slice : Nat) (items : Bytes) : (s.raiseAt ns code slice items).rst = s.rst := by
  obtain ⟨_, _, h⟩ := raiseAt_only ns code slice items s; rw [h]
@[simp] theorem State.raiseAt_cnt (ns code slice : Nat) (items : Bytes) : (s.raiseAt ns code slice items).cnt = s.cnt := by
  obtain ⟨_, _, h⟩ := raiseAt_only ns code slice items s; rw [h]
@[simp] theorem State.raiseAt_free (ns code slice : Nat) (items : Bytes) : (s.raiseAt ns code slice items).free = s.free := by
  obtain ⟨_, _, h⟩ := raiseAt_only ns code slice items s; rw [h]
@[simp] theorem State.raiseAt_wire (ns code slice : Nat) (items : Bytes) : (s.raiseAt ns code slice items).wire = s.wire := by
  obtain ⟨_, _, h⟩ := raiseAt_only ns code slice items s; rw [h]
@[simp] theorem State.raiseAt_pending (ns code slice : Nat) (items : Bytes) : (s.raiseAt ns code slice items).pending = s.pending := by
  obtain ⟨_, _, h⟩ := raiseAt_only ns code slice items s; rw [h]

@[simp] theorem State.raise_fuse (code slice : Nat) (items : Bytes) : (s.raise code slice items).fuse = s.fuse := by
  obtain ⟨_, _, h⟩ := raise_only code slice items s; rw [h]
@[simp] theorem State.raise_lanes (code slice : Nat) (items : Bytes) : (s.raise code slice items).lanes = s.lanes := by
  obtain ⟨_, _, h⟩ := raise_only code slice items s; rw [h]
@[simp] theorem State.raise_time (code slice : Nat) (items : Bytes) : (s.raise code slice items).time = s.time := by
  obtain ⟨_, _, h⟩ := raise_only code slice items s; rw [h]
@[simp] theorem State.raise_hitch (code slice : Nat) (items : Bytes) : (s.raise code slice items).hitch = s.hitch := by
  obtain ⟨_, _, h⟩ := raise_only code slice items s; rw [h]
@[simp] theorem State.raise_asc (code slice : Nat) (items : Bytes) : (s.raise code slice items).asc = s.asc := by
  obtain ⟨_, _, h⟩ := raise_only code slice items s; rw [h]
@[simp] theorem State.raise_eng (code slice : Nat) (items : Bytes) : (s.raise code slice items).eng = s.eng := by
  obtain ⟨_, _, h⟩ := raise_only code slice items s; rw [h]
@[simp] theorem State.raise_cue (code slice : Nat) (items : Bytes) : (s.raise code slice items).cue = s.cue := by
  obtain ⟨_, _, h⟩ := raise_only code slice items s; rw [h]
@[simp] theorem State.raise_otn (code slice : Nat) (items : Bytes) : (s.raise code slice items).otn = s.otn := by
  obtain ⟨_, _, h⟩ := raise_only code slice items s; rw [h]
@[simp] theorem State.raise_tm (code slice : Nat) (items : Bytes) : (s.raise code slice items).tm = s.tm := by
  obtain ⟨_, _, h⟩ := raise_only code slice items s; rw [h]
@[simp] theorem State.raise_tel (code slice : Nat) (items : Bytes) : (s.raise code slice items).tel = s.tel := by
  obtain ⟨_, _, h⟩ := raise_only code slice items s; rw [h]
@[simp] theorem State.raise_alm (code slice : Nat) (items : Bytes) : (s.raise code slice items).alm = s.alm := by
  obtain ⟨_, _, h⟩ := raise_only code slice items s; rw [h]
@[simp] theorem State.raise_vault (code slice : Nat) (items : Bytes) : (s.raise code slice items).vault = s.vault := by
  obtain ⟨_, _, h⟩ := raise_only code slice items s; rw [h]
@[simp] theorem State.raise_ke (code slice : Nat) (items : Bytes) : (s.raise code slice items).ke = s.ke := by
  obtain ⟨_, _, h⟩ := raise_only code slice items s; rw [h]
@[simp] theorem State.raise_guard (code slice : Nat) (items : Bytes) : (s.raise code slice items).guard = s.guard := by
  obtain ⟨_, _, h⟩ := raise_only code slice items s; rw [h]
@[simp] theorem State.raise_pair (code slice : Nat) (items : Bytes) : (s.raise code slice items).pair = s.pair := by
  obtain ⟨_, _, h⟩ := raise_only code slice items s; rw [h]
@[simp] theorem State.raise_pwr (code slice : Nat) (items : Bytes) : (s.raise code slice items).pwr = s.pwr := by
  obtain ⟨_, _, h⟩ := raise_only code slice items s; rw [h]
@[simp] theorem State.raise_rst (code slice : Nat) (items : Bytes) : (s.raise code slice items).rst = s.rst := by
  obtain ⟨_, _, h⟩ := raise_only code slice items s; rw [h]
@[simp] theorem State.raise_cnt (code slice : Nat) (items : Bytes) : (s.raise code slice items).cnt = s.cnt := by
  obtain ⟨_, _, h⟩ := raise_only code slice items s; rw [h]
@[simp] theorem State.raise_free (code slice : Nat) (items : Bytes) : (s.raise code slice items).free = s.free := by
  obtain ⟨_, _, h⟩ := raise_only code slice items s; rw [h]
@[simp] theorem State.raise_wire (code slice : Nat) (items : Bytes) : (s.raise code slice items).wire = s.wire := by
  obtain ⟨_, _, h⟩ := raise_only code slice items s; rw [h]
@[simp] theorem State.raise_pending (code slice : Nat) (items : Bytes) : (s.raise code slice items).pending = s.pending := by
  obtain ⟨_, _, h⟩ := raise_only code slice items s; rw [h]

@[simp] theorem State.raiseTo_fuse (k code slice : Nat) (items : Bytes) : (s.raiseTo k code slice items).fuse = s.fuse := by
  obtain ⟨_, _, h⟩ := raiseTo_only k code slice items s; rw [h]
@[simp] theorem State.raiseTo_lanes (k code slice : Nat) (items : Bytes) : (s.raiseTo k code slice items).lanes = s.lanes := by
  obtain ⟨_, _, h⟩ := raiseTo_only k code slice items s; rw [h]
@[simp] theorem State.raiseTo_time (k code slice : Nat) (items : Bytes) : (s.raiseTo k code slice items).time = s.time := by
  obtain ⟨_, _, h⟩ := raiseTo_only k code slice items s; rw [h]
@[simp] theorem State.raiseTo_hitch (k code slice : Nat) (items : Bytes) : (s.raiseTo k code slice items).hitch = s.hitch := by
  obtain ⟨_, _, h⟩ := raiseTo_only k code slice items s; rw [h]
@[simp] theorem State.raiseTo_asc (k code slice : Nat) (items : Bytes) : (s.raiseTo k code slice items).asc = s.asc := by
  obtain ⟨_, _, h⟩ := raiseTo_only k code slice items s; rw [h]
@[simp] theorem State.raiseTo_eng (k code slice : Nat) (items : Bytes) : (s.raiseTo k code slice items).eng = s.eng := by
  obtain ⟨_, _, h⟩ := raiseTo_only k code slice items s; rw [h]
@[simp] theorem State.raiseTo_cue (k code slice : Nat) (items : Bytes) : (s.raiseTo k code slice items).cue = s.cue := by
  obtain ⟨_, _, h⟩ := raiseTo_only k code slice items s; rw [h]
@[simp] theorem State.raiseTo_otn (k code slice : Nat) (items : Bytes) : (s.raiseTo k code slice items).otn = s.otn := by
  obtain ⟨_, _, h⟩ := raiseTo_only k code slice items s; rw [h]
@[simp] theorem State.raiseTo_tm (k code slice : Nat) (items : Bytes) : (s.raiseTo k code slice items).tm = s.tm := by
  obtain ⟨_, _, h⟩ := raiseTo_only k code slice items s; rw [h]
@[simp] theorem State.raiseTo_tel (k code slice : Nat) (items : Bytes) : (s.raiseTo k code slice items).tel = s.tel := by
  obtain ⟨_, _, h⟩ := raiseTo_only k code slice items s; rw [h]
@[simp] theorem State.raiseTo_alm (k code slice : Nat) (items : Bytes) : (s.raiseTo k code slice items).alm = s.alm := by
  obtain ⟨_, _, h⟩ := raiseTo_only k code slice items s; rw [h]
@[simp] theorem State.raiseTo_vault (k code slice : Nat) (items : Bytes) : (s.raiseTo k code slice items).vault = s.vault := by
  obtain ⟨_, _, h⟩ := raiseTo_only k code slice items s; rw [h]
@[simp] theorem State.raiseTo_ke (k code slice : Nat) (items : Bytes) : (s.raiseTo k code slice items).ke = s.ke := by
  obtain ⟨_, _, h⟩ := raiseTo_only k code slice items s; rw [h]
@[simp] theorem State.raiseTo_guard (k code slice : Nat) (items : Bytes) : (s.raiseTo k code slice items).guard = s.guard := by
  obtain ⟨_, _, h⟩ := raiseTo_only k code slice items s; rw [h]
@[simp] theorem State.raiseTo_pair (k code slice : Nat) (items : Bytes) : (s.raiseTo k code slice items).pair = s.pair := by
  obtain ⟨_, _, h⟩ := raiseTo_only k code slice items s; rw [h]
@[simp] theorem State.raiseTo_pwr (k code slice : Nat) (items : Bytes) : (s.raiseTo k code slice items).pwr = s.pwr := by
  obtain ⟨_, _, h⟩ := raiseTo_only k code slice items s; rw [h]
@[simp] theorem State.raiseTo_rst (k code slice : Nat) (items : Bytes) : (s.raiseTo k code slice items).rst = s.rst := by
  obtain ⟨_, _, h⟩ := raiseTo_only k code slice items s; rw [h]
@[simp] theorem State.raiseTo_cnt (k code slice : Nat) (items : Bytes) : (s.raiseTo k code slice items).cnt = s.cnt := by
  obtain ⟨_, _, h⟩ := raiseTo_only k code slice items s; rw [h]
@[simp] theorem State.raiseTo_free (k code slice : Nat) (items : Bytes) : (s.raiseTo k code slice items).free = s.free := by
  obtain ⟨_, _, h⟩ := raiseTo_only k code slice items s; rw [h]
@[simp] theorem State.raiseTo_wire (k code slice : Nat) (items : Bytes) : (s.raiseTo k code slice items).wire = s.wire := by
  obtain ⟨_, _, h⟩ := raiseTo_only k code slice items s; rw [h]
@[simp] theorem State.raiseTo_pending (k code slice : Nat) (items : Bytes) : (s.raiseTo k code slice items).pending = s.pending := by
  obtain ⟨_, _, h⟩ := raiseTo_only k code slice items s; rw [h]

/-! ### Objects and the log after an event -/

/-- `t` has the objects of `s` but those of index 0x0300. -/
def SameObjects (s t : State) : Prop :=
  (∀ ix sub, sub < 256 → ix ≠ 0x0300 → t.ob ix sub = s.ob ix sub) ∧ ∀ ix sub, t.oct ix sub = s.oct ix sub

theorem SameObjects.refl (s : State) : SameObjects s s := ⟨fun _ _ _ _ => rfl, fun _ _ => rfl⟩

theorem SameObjects.trans {u : State} (h : SameObjects s t) (h' : SameObjects t u) : SameObjects s u :=
  ⟨fun ix sub a b => (h'.1 ix sub a b).trans (h.1 ix sub a b), fun ix sub => (h'.2 ix sub).trans (h.2 ix sub)⟩

theorem SameObjects.foldl {β : Type} {f : State → β → State} (h : ∀ u b, SameObjects u (f u b)) (l : List β) (s : State) :
    SameObjects s (l.foldl f s) := by
  induction l generalizing s with
  | nil => exact .refl s
  | cons b l ih => exact (h s b).trans (ih _)

theorem addOb_same (sub w n : Nat) (hs : sub < 256) (s : State) : SameObjects s (s.addOb 0x0300 sub w n) :=
  ⟨fun _ _ a b => State.ob_addOb_ne (fun e => b (okey_inj a hs e).1), fun _ _ => rfl⟩

theorem logEventAt_same (ns code slice : Nat) (items : Bytes) (s : State) :
    SameObjects s (s.logEventAt ns code slice items).2 := by
  unfold State.logEventAt
  exact SameObjects.trans (t := { s with acc := _ }) ⟨fun _ _ _ _ => rfl, fun _ _ => rfl⟩ (addOb_same _ _ _ (by decide) _)

theorem notify_same (k : Nat) (r : Bytes) (s : State) : SameObjects s (s.notify k r) := by
  unfold State.notify
  dsimp only
  split
  · exact ⟨fun _ _ _ _ => rfl, fun _ _ => rfl⟩
  · split
    · exact ⟨fun _ _ _ _ => rfl, fun _ _ => rfl⟩
    · exact SameObjects.trans (logEventAt_same ..) ⟨fun _ _ _ _ => rfl, fun _ _ => rfl⟩

theorem raiseAt_same (ns code slice : Nat) (items : Bytes) (s : State) : SameObjects s (s.raiseAt ns code slice items) := by
  unfold State.raiseAt
  split
  · exact (addOb_same Sub.evCtl_EV_DROPPED 32 1 (by decide) s).trans (addOb_same Sub.evCtl_EV_HEAD 32 1 (by decide) _)
  · refine (logEventAt_same ns code slice items s).trans (SameObjects.foldl (fun u k => ?_) _ _)
    split
    · exact notify_same ..
    · exact .refl _

/-- An object other than those of 0x0300 after an event. -/
theorem State.ob_raise {code slice : Nat} {items : Bytes} {ix sub : Nat} (h : sub < 256) (h' : ix ≠ 0x0300) :
    (s.raise code slice items).ob ix sub = s.ob ix sub := (raiseAt_same _ code slice items s).1 ix sub h h'

theorem State.ob_raiseAt {ns code slice : Nat} {items : Bytes} {ix sub : Nat} (h : sub < 256) (h' : ix ≠ 0x0300) :
    (s.raiseAt ns code slice items).ob ix sub = s.ob ix sub := (raiseAt_same ns code slice items s).1 ix sub h h'

@[simp] theorem State.oct_raise (code slice : Nat) (items : Bytes) (ix sub : Nat) :
    (s.raise code slice items).oct ix sub = s.oct ix sub := (raiseAt_same _ code slice items s).2 ix sub

/-! ### Writes and windows (R458, R465) -/

/-- A write that passes the arbiter's checks is the chapter's own act. -/
theorem objectWrite_ok {c : Caller} {ix sub : Nat} {v : Val} {act : State → State × Status}
    (h : s.writeCheck c ix sub v = .ok) : objectWrite c ix sub v act s = act s := by simp [objectWrite, h]

/-- A write that fails a check changes nothing (R11). -/
theorem objectWrite_fails {c : Caller} {ix sub : Nat} {v : Val} {act : State → State × Status}
    (h : s.writeCheck c ix sub v ≠ .ok) : objectWrite c ix sub v act s = (s, s.writeCheck c ix sub v) := by
  unfold objectWrite; split <;> simp_all

/-- A row that does not wait at the arbiter and passes its checks. -/
theorem rowWrite_ok {c : Caller} {ix sub : Nat} {v : Val} {act : State → State × Status} (hw : s.writeWaits c = false)
    (h : s.writeCheck c ix sub v = .ok) : rowWrite c ix sub v act s
      = ((act s).1.noteCycle c (if (act s).2 = .ok then [okey ix sub] else [])).complete c ix sub (act s).2 := by
  simp [rowWrite, orWait, hw, objectWrite_ok h]

/-- A row that does not wait at the arbiter and fails a check. -/
theorem rowWrite_fails {c : Caller} {ix sub : Nat} {v : Val} {act : State → State × Status} (hw : s.writeWaits c = false)
    (h : s.writeCheck c ix sub v ≠ .ok) : rowWrite c ix sub v act s
      = (s.noteCycle c []).complete c ix sub (s.writeCheck c ix sub v) := by
  simp [rowWrite, orWait, hw, objectWrite_fails h, h]

/-- A row that waits at the arbiter changes nothing else. -/
theorem rowWrite_waits {c : Caller} {ix sub : Nat} {v : Val} {act : State → State × Status} (hw : s.writeWaits c = true) :
    (rowWrite c ix sub v act s).dict = s.dict ∧ (rowWrite c ix sub v act s).wire = s.wire := by
  simp [rowWrite, orWait, hw]

/-- A window none of whose TABLEs is unread keeps nothing for them. -/
theorem keepOwed_none {ix st : Nat} (h : s.unread ix = false) : keepOwed ix st s = s := by simp [keepOwed, h]

/-- What `noteCycle` leaves as it was. -/
@[simp] theorem State.ob_noteCycle (c : Caller) (l : List Nat) (ix sub : Nat) : (s.noteCycle c l).ob ix sub = s.ob ix sub := by
  cases c <;> rfl
@[simp] theorem State.oct_noteCycle (c : Caller) (l : List Nat) (ix sub : Nat) : (s.noteCycle c l).oct ix sub = s.oct ix sub := by
  cases c <;> rfl
@[simp] theorem State.wire_noteCycle (c : Caller) (l : List Nat) : (s.noteCycle c l).wire = s.wire := by cases c <;> rfl
@[simp] theorem State.dict_noteCycle (c : Caller) (l : List Nat) : (s.noteCycle c l).dict = s.dict := by cases c <;> rfl

/-! ### Completions held back to the end of a period (R465) -/

/-- Entries whose value is a function of their key, put into a store. -/
theorem mfind_storeApply {α : Type} {f : Nat → Option α} {l : List (Nat × Option α)} (h : ∀ x ∈ l, x.2 = f x.1) (m : SMap α)
    (k : Nat) : mfind (storeApply l m) k = if k ∈ l.map (·.1) then f k else mfind m k := by
  induction l generalizing m with
  | nil => simp [storeApply]
  | cons x l ih =>
    obtain ⟨j, v⟩ := x
    have hv : v = f j := h (j, v) (by simp)
    have step : ∀ m' : SMap α, storeApply ((j, v) :: l) m = storeApply l m' → mfind m' j = v →
        (∀ i, i ≠ j → mfind m' i = mfind m i) →
        mfind (storeApply ((j, v) :: l) m) k = if k ∈ ((j, v) :: l).map (·.1) then f k else mfind m k := fun m' e hj hi => by
      rw [e, ih (fun x hx => h x (by simp [hx])) m']
      by_cases hk : k ∈ l.map (·.1)
      · simp only [hk, ↓reduceIte, List.map_cons, List.mem_cons, or_true]
      · by_cases e' : k = j
        · subst e'; simp only [hk, ↓reduceIte, List.map_cons, List.mem_cons, true_or, hj, hv]
        · simp only [hk, ↓reduceIte, List.map_cons, List.mem_cons, e', or_self, hi k e']
    cases v with
    | none => exact step (merase m j) rfl (by simp) (fun i hi => mfind_merase_ne hi)
    | some v => exact step (minsert m j v) rfl (by simp) (fun i hi => mfind_minsert_ne hi)

theorem mem_storeDiff {α : Type} [DecidableEq α] {ix k : Nat} {a b : SMap α} :
    k ∈ (storeDiff ix a b).map (·.1) ↔ k / 256 = ix ∧ mfind a k ≠ mfind b k := by
  have hsome : ∀ m : SMap α, mfind m k ≠ none → ∃ x ∈ m, x.1 = k := by
    intro m
    induction m with
    | nil => simp [mfind]
    | cons e m ih =>
      obtain ⟨j, v⟩ := e
      simp only [mfind]
      split
      · exact fun _ => ⟨(j, v), by simp, by assumption⟩
      · exact fun h => (ih h).imp fun x hx => ⟨by simp [hx.1], hx.2⟩
  constructor
  · intro h
    simp only [storeDiff, List.mem_map, List.mem_filter, Bool.and_eq_true, beq_iff_eq, bne_iff_ne] at h
    obtain ⟨_, ⟨x, ⟨_, hx⟩, rfl⟩, rfl⟩ := h
    exact hx
  · rintro ⟨h1, h2⟩
    have : ∃ x ∈ a ++ b, x.1 = k := by
      by_cases ha : mfind a k = none
      · obtain ⟨x, hx, e⟩ := hsome b (fun e => h2 (by rw [ha, e])); exact ⟨x, by simp [hx], e⟩
      · obtain ⟨x, hx, e⟩ := hsome a ha; exact ⟨x, by simp [hx], e⟩
    obtain ⟨x, hx, e⟩ := this
    simp only [storeDiff, List.mem_map, List.mem_filter, Bool.and_eq_true, beq_iff_eq, bne_iff_ne]
    exact ⟨(x.1, mfind b x.1), ⟨x, ⟨hx, by rw [e]; exact ⟨h1, h2⟩⟩, rfl⟩, e⟩

/-- The results of an index that are held back and then put come back as they were. -/
theorem mfind_storeBack {α : Type} [DecidableEq α] (ix : Nat) (a b : SMap α) (k : Nat) :
    mfind (storeApply (storeDiff ix a b) (storeApply (storeDiff ix b a) b)) k = mfind b k := by
  have hf : ∀ a b : SMap α, ∀ x ∈ storeDiff ix a b, x.2 = mfind b x.1 := by
    intro a b x hx
    simp only [storeDiff, List.mem_map] at hx
    obtain ⟨_, _, rfl⟩ := hx; rfl
  rw [mfind_storeApply (hf a b), mfind_storeApply (hf b a)]
  simp only [mem_storeDiff]
  split
  · rfl
  · rename_i h
    split
    · rename_i h'; exact absurd ⟨h'.1, Ne.symm h'.2⟩ h
    · rfl


/-- A window's operation that starts and ends in this period: its start is reported, and its completion is due (R465). -/
theorem rowWindow_ok {c : Caller} {ix op st code : Nat} {act : State → State × Status} (hw : s.writeWaits c = false)
    (h : s.writeCheck c ix op (.num code) = .ok) (hb : s.winBusy ix st = false) (hu : s.unread ix = false) :
    rowWindow c ix op st code act s
      = (((s.put ix op code).holdBack ix st (act (s.put ix op code)).2 (act (s.put ix op code)).1).noteCycle c
          [okey ix op]).complete c ix op .ok := by
  simp [rowWindow, rowWrite_ok hw h, windowOp, hb, keepOwed_none hu]

theorem mfind_mset_other {α : Type} [DecidableEq α] {d v : α} {m : SMap α} {k j : Nat} (h : j ≠ k) :
    mfind (mset d m k v) j = mfind m j := by
  unfold mset; split
  · exact mfind_merase_ne h
  · exact mfind_minsert_ne h

/-- What an operation left from `s` to `t`, posted at the end of the period with its final status: `t` again, but for the order
of the dictionary's entries. -/
theorem post_holdBack {c : Caller} {ix op st : Nat} {stat : Status} {t : State} (hp : t.acc.posts = [])
    (hr : t.winBusy ix st = false) :
    ∃ d : Dict, ((s.holdBack ix st stat t).complete c ix op .ok).post
        = { t with dict := d, wire := t.wire ++ [.done c.entry ix op .ok] } ∧
      (∀ k, mfind d.nums k = mfind (t.put ix st stat.code).dict.nums k) ∧ ∀ k, mfind d.octs k = mfind t.dict.octs k := by
  have hrun : (t.acc.running ++ [okey ix st]).filter (· != okey ix st) = t.acc.running := by
    have : okey ix st ∉ t.acc.running := by simpa [State.winBusy] using hr
    rw [List.filter_append, List.filter_eq_self.mpr (fun x hx => by
      simp only [bne_iff_ne, ne_eq]; rintro rfl; exact this hx)]
    simp
  refine ⟨{ nums := mset (dfltNum t.fuse ix st) (storeApply (storeDiff ix s.dict.nums t.dict.nums)
              (mset (dfltNum t.fuse ix st) (storeApply (storeDiff ix t.dict.nums s.dict.nums) t.dict.nums) (okey ix st)
                Status.busy.code)) (okey ix st) stat.code
            octs := storeApply (storeDiff ix s.dict.octs t.dict.octs)
              (storeApply (storeDiff ix t.dict.octs s.dict.octs) t.dict.octs) }, ?_, fun k => ?_, mfind_storeBack ix _ _⟩
  · have a0 : ({ t.acc with posts := [], running := (t.acc.running ++ [okey ix st]).filter (· != okey ix st) } : Access)
        = t.acc := by rw [hrun, ← hp]
    simp only [State.post, State.holdBack, State.winRun, State.complete, State.emit, State.put, State.postOne, hp, List.nil_append,
      List.foldl_cons, List.foldl_nil, a0]
  · by_cases e : k = okey ix st
    · subst e; simp only [State.put, mset]; split <;> simp
    · simp only [State.put]
      rw [mfind_mset_other e, mfind_mset_other e, ← mfind_storeBack ix s.dict.nums t.dict.nums k]
      have hf : ∀ x ∈ storeDiff ix s.dict.nums t.dict.nums, x.2 = mfind t.dict.nums x.1 := by
        intro x hx
        simp only [storeDiff, List.mem_map] at hx
        obtain ⟨_, _, rfl⟩ := hx; rfl
      rw [mfind_storeApply hf, mfind_storeApply hf, mfind_mset_other e]

/-- An object after the completion of an operation has been posted. -/
theorem post_holdBack_ob {c : Caller} {ix op st : Nat} {stat : Status} {t : State} (hp : t.acc.posts = [])
    (hr : t.winBusy ix st = false) (ix' sub' : Nat) :
    (((s.holdBack ix st stat t).complete c ix op .ok).post).ob ix' sub' = (t.put ix st stat.code).ob ix' sub' := by
  obtain ⟨d, e, hn, _⟩ := post_holdBack (s := s) (c := c) (op := op) (stat := stat) hp hr
  rw [e]; simp only [State.ob, mget, hn]; rfl

theorem post_holdBack_oct {c : Caller} {ix op st : Nat} {stat : Status} {t : State} (hp : t.acc.posts = [])
    (hr : t.winBusy ix st = false) (ix' sub' : Nat) :
    (((s.holdBack ix st stat t).complete c ix op .ok).post).oct ix' sub' = t.oct ix' sub' := by
  obtain ⟨d, e, _, ho⟩ := post_holdBack (s := s) (c := c) (op := op) (stat := stat) hp hr
  rw [e]; simp only [State.oct, mget, ho]

/-- Where no completion is due, nothing is posted. -/
theorem post_none (h : s.acc.posts = []) : s.post = s := by
  have : ({ s.acc with posts := [] } : Access) = s.acc := by rw [← h]
  simp only [State.post, h, List.foldl_nil, this]

end Sys2Proof.Machine
end

