-- ==== Sys2Proof/Safety.lean ====
section
/-! DEFINITION. What counts as a safe run, and the words that the statements share. -/

namespace Sys2Proof.Machine

/-- A write of a number does not wait at the arbiter and passes its checks (R456, R458). -/
abbrev Accepted (s : State) (c : Caller) (ix sub n : Nat) : Prop :=
  s.writeWaits c = false ∧ s.writeCheck c ix sub (.num n) = .ok

/-- The last thing that the block did was to report this completion of a write (log 16). -/
abbrev Reports (t : State) (c : Caller) (ix sub : Nat) (st : Status) : Prop :=
  t.wire.getLast? = some (.done c.entry ix sub st)

/-- A window's operation is accepted, none of the window runs, the answer of no TABLE on it is still to be formed, and no completion of
another window is due in this period (R458, R465, R500). -/
abbrev Starts (s : State) (c : Caller) (ix op st code : Nat) : Prop :=
  Accepted s c ix op code ∧ s.winBusy ix st = false ∧ s.unread ix = false ∧ s.acc.posts = []

/-- The state after a write that is refused with this status: nothing but its completion is reported, and the arbiter notes no write for
it (R457, R458, log 16). -/
abbrev State.refusing (s : State) (c : Caller) (ix sub : Nat) (st : Status) : State := (s.noteCycle c []).complete c ix sub st

/-- A window's operation was reported OK and ended with a status (R465). -/
abbrev Ends (t : State) (c : Caller) (ix op st : Nat) (code : Status) : Prop :=
  Reports t c ix op .ok ∧ t.ob ix st = code.code

/-- The command runs from the state and answers a next state with this property. -/
abbrev Completes (i : Instr) (s : State) (P : State → Prop) : Prop :=
  ∃ t, exec i s = Host.Outcome.next t ∧ P t

/-- The command starts an operation, and when the period of 8 ns ends and posts its completion, the state has this property
(R465, log 15). -/
abbrev Operates (i : Instr) (s : State) (P : State → Prop) : Prop :=
  ∃ t, exec i s = Host.Outcome.next t ∧ P t.post

/-- From `s` to `t`, a core reset has cleared what its level clears and nothing that it keeps, and has recorded its source `b`
(R589, R604). -/
abbrev CoreCleared (s t : State) (b : Nat) : Prop :=
  t.rst.coresHeld = true ∧ t.rst.gap = s.rst.gap ∧ t.acc.claims = [] ∧ t.acc.sess = [] ∧ t.acc.log = [] ∧
  t.asc = s.asc ∧ t.tm = s.tm ∧ t.eng = s.eng ∧ t.hitch = s.hitch ∧ t.lanes = s.lanes ∧ t.fuse = s.fuse ∧
  bit (t.ob rstIx Sub.rstBoot_RESET_CAUSE) b = true

/-- From `s` to `t`, a system reset or a power-on reset has cleared everything outside the always-on domain, the fuses and the
DDR cells, and has recorded its source `b` (R589, R604). -/
abbrev AllCleared (s t : State) (b : Nat) : Prop :=
  t.asc = {} ∧ t.tm = {} ∧ t.acc.sess = [] ∧ t.acc.log = [] ∧ t.guard.ranges = [] ∧ t.guard.mem = s.guard.mem ∧
  t.alm.log = s.alm.log ∧ t.alm.latch = s.alm.latch ∧ t.fuse.lc = s.fuse.lc ∧ t.fuse.owner = s.fuse.owner ∧
  t.fuse.disabled = s.fuse.disabled ∧ t.rst.coresHeld = true ∧ t.rst.gap = true ∧ t.rst.step = 1 ∧
  bit (t.ob rstIx Sub.rstBoot_RESET_CAUSE) b = true

/-- Every candidate slot of a key passes its parity check (R71, R75). -/
def State.cleanFor (s : State) (sl key : Nat) : Bool := (s.candidates sl key).all (fun i => parityOk (s.slotAt sl i))

/-- The candidate slots of a key with their images, bank by bank (R71). -/
def State.cands (s : State) (sl key : Nat) : List (Nat × Nat) := (s.candidates sl key).map (fun i => (i, s.slotAt sl i))

/-- A window's operation of a slice starts and the slice is not gated (R458, R465, R575). -/
abbrev StartsIn (s : State) (sl : Nat) (c : Caller) (ix op st code : Nat) : Prop :=
  sl < 4 ∧ s.gated sl = false ∧ Starts s c ix op st code

/-- The scheduler of a pipe serves this frame: the first eligible port node from the one after the last served gives it,
and leaves this state (R172). -/
def Serves (s : State) (sl : Nat) (p : Pipe) (verify : Nat) (f : Frm) (u : State) : Prop :=
  ∃ n, ((List.range 8).map (fun k => (mget 7 s.tm.served (pkey sl p 0) + 1 + k) % 8)).find? (s.nodeEligible sl p verify)
    = some n ∧ dequeueNode sl p n s = some (f, u)

/-- A request for this many random octets is served at once (R394). -/
abbrev State.drawsNow (s : State) (len : Nat) : Prop :=
  s.ke.ent.stopped = false ∧ s.entState ≠ entFailed ∧ s.entState ≠ entStarting ∧ s.ke.ent.waiting = [] ∧ len ≤ s.entFill

/-- The random octets that the next request is served with: the oldest of the queue (R394). -/
abbrev State.nextDraw (s : State) (len : Nat) : Bytes := s.ke.ent.queue.take len

/-- A session may be served: it is in READY, nothing is owed to it, the control cores run, and the request is none that was answered
while it waited (R480, R499, R502, R508). -/
abbrev State.readyFor (s : State) (k : Nat) : Prop :=
  (s.sessAt k).st = .ready ∧ (s.sessAt k).muted = false ∧ (s.sessAt k).owed = [] ∧ s.rst.coresHeld = false ∧ s.acc.silent = false

/-- A response with this body is no longer than a message of any port (R491, R506). -/
abbrev Fits (body : Bytes) : Prop := body.length + 28 ≤ 23552

/-- The state with one more request of a session counted, and its idle time started anew (R498, R509). -/
abbrev State.requested (s : State) (k : Nat) : State := (s.addOb ringIx Sub.ring_HAL_REQUESTS 64 1).mark (Timer.idle k)

/-- From `s` to `t`, the response to a request of entry `k` left the block (R499). -/
def Answered (s t : State) (k op id : Nat) (st : Status) (body : Bytes) : Prop :=
  ∃ a b, t.wire = s.wire ++ a ++ .answer k (response op id st.code body) :: b

/-- From `s` to `t`, a Tether frame of this type left the block first (R413). -/
def SendsTether (s t : State) (kind : Nat) : Prop := ∃ f l, t.wire = s.wire ++ .tether kind f :: l

/-- The sessions and the event log as `s` has them, with what the start of a window's operation changes as `t` has it: the completions
that are due, the windows that run, what the arbiter notes and holds back, and the results that an owed TABLE keeps (R456, R457,
R465, R500). -/
abbrev State.accessOf (s t : State) : Access :=
  { s.acc with posts := t.acc.posts, running := t.acc.running, lastSet := t.acc.lastSet, parked := t.acc.parked, sess := t.acc.sess }

/-- The write of an object that a command is, if it is one: who writes, the object's index and subindex, and the value
(R455, R458, R465). -/
def writeOf : Instr → Option (Caller × Nat × Nat × Nat)
  | .txStateWrite c m v => some (c, Ix.lane m, Sub.lane_TX_STATE, v)
  | .rxStateWrite c m v => some (c, Ix.lane m, Sub.lane_RX_STATE, v)
  | .rateWrite c m v => some (c, Ix.lane m, Sub.lane_RATE, v)
  | .portEnable c m v => some (c, Ix.port m, Sub.port_ENABLE, v)
  | .prbsGenWrite c m v => some (c, Ix.lane m, Sub.lane_PRBS_GEN, v)
  | .prbsChkWrite c m v => some (c, Ix.lane m, Sub.lane_PRBS_CHK, v)
  | .scanStart c m => some (c, Ix.scan m, Sub.scan_SCAN_CTRL, 1)
  | .scanAbort c m => some (c, Ix.scan m, Sub.scan_SCAN_CTRL, 2)
  | .twLookup c sl => some (c, twIx sl, Sub.twWin_TW_OP, 1)
  | .twInsert c sl => some (c, twIx sl, Sub.twWin_TW_OP, 2)
  | .twDelete c sl => some (c, twIx sl, Sub.twWin_TW_OP, 3)
  | .twRead c sl => some (c, twIx sl, Sub.twWin_TW_OP, 4)
  | .twNext c sl => some (c, twIx sl, Sub.twWin_TW_OP, 5)
  | .twHash c sl => some (c, twIx sl, Sub.twWin_TW_OP, 6)
  | .twFlush c sl => some (c, twIx sl, Sub.twWin_TW_OP, 7)
  | .awRead c sl _ => some (c, awIx sl, Sub.awWin_AW_OP, 1)
  | .awWrite c sl _ => some (c, awIx sl, Sub.awWin_AW_OP, 2)
  | .awFindSci c sl => some (c, awIx sl, Sub.awWin_AW_OP, 3)
  | .awFree c sl => some (c, awIx sl, Sub.awWin_AW_OP, 4)
  | .awDelete c sl => some (c, awIx sl, Sub.awWin_AW_OP, 5)
  | .awReadCounters c sl => some (c, awIx sl, Sub.awWin_AW_OP, 6)
  | .tmRead c sl => some (c, tmIx sl, Sub.tmWin_TM_OP, 1)
  | .tmWrite c sl => some (c, tmIx sl, Sub.tmWin_TM_OP, 2)
  | .tmReadCounters c sl => some (c, tmIx sl, Sub.tmWin_TM_OP, 3)
  | .coreRetest c sl open_ => some (c, pipeIx sl (pipeOf open_), Sub.pipe_CORE_RETEST, 1)
  | .cwRead c sl => some (c, cwIx sl, Sub.cwWin_CW_OP, 1)
  | .cwArm c sl => some (c, cwIx sl, Sub.cwWin_CW_OP, 2)
  | .cwCancel c sl => some (c, cwIx sl, Sub.cwWin_CW_OP, 3)
  | .cwFire c sl => some (c, cwIx sl, Sub.cwWin_CW_OP, 4)
  | .tribEnable c sl t v => some (c, tribIx sl t, Sub.trib_TRIB_ENABLE, v)
  | .cmRead c sl => some (c, cmIx sl, Sub.cmWin_CM_OP, 1)
  | .cmWrite c sl => some (c, cmIx sl, Sub.cmWin_CM_OP, 2)
  | .cmSwitch c sl => some (c, cmIx sl, Sub.cmWin_CM_OP, 3)
  | .timeStepSet c => some (c, 0x3A00, Sub.clock_TIME_OP, 1)
  | .timeStepOffset c => some (c, 0x3A00, Sub.clock_TIME_OP, 2)
  | .timeUnlock c => some (c, 0x3A00, Sub.clock_TIME_OP, 3)
  | .incrWrite c v => some (c, 0x3A00, Sub.clock_INCR, v)
  | .kwUnwrap c => some (c, kwIx, Sub.kwWin_KW_OP, 1)
  | .kwGenerate c => some (c, kwIx, Sub.kwWin_KW_OP, 2)
  | .kwWrap c => some (c, kwIx, Sub.kwWin_KW_OP, 3)
  | .kwRewrap c => some (c, kwIx, Sub.kwWin_KW_OP, 4)
  | .kwDestroy c => some (c, kwIx, Sub.kwWin_KW_OP, 5)
  | .kwKekClear c => some (c, kwIx, Sub.kwWin_KW_OP, 6)
  | .kwMigrate c => some (c, kwIx, Sub.kwWin_KW_OP, 7)
  | .kwMigrateEnd c => some (c, kwIx, Sub.kwWin_KW_OP, 8)
  | .kwQuote c => some (c, kwIx, Sub.kwWin_KW_OP, 9)
  | .kwInfo c => some (c, kwIx, Sub.kwWin_KW_OP, 10)
  | .lcTransition c => some (c, lcIx, Sub.lcWin_LC_OP, 1)
  | .lcVsRenew c => some (c, lcIx, Sub.lcWin_LC_OP, 2)
  | .lcSvnCommit c => some (c, lcIx, Sub.lcWin_LC_OP, 3)
  | .jobStart c j => some (c, jobIx (j % 16), Sub.job_JOB_OP, 1)
  | .jobContinue c j => some (c, jobIx (j % 16), Sub.job_JOB_OP, 2)
  | .jobFinish c j => some (c, jobIx (j % 16), Sub.job_JOB_OP, 3)
  | .jobSave c j => some (c, jobIx (j % 16), Sub.job_JOB_OP, 4)
  | .jobRestore c j => some (c, jobIx (j % 16), Sub.job_JOB_OP, 5)
  | .jobAbort c j => some (c, jobIx (j % 16), Sub.job_JOB_OP, 6)
  | .keCakLoad c => some (c, keWinIx, Sub.keWin_KE_OP, 1)
  | .keCakFree c => some (c, keWinIx, Sub.keWin_KE_OP, 2)
  | .keInfo c => some (c, keWinIx, Sub.keWin_KE_OP, 3)
  | .knotRun c n v => some (c, Ix.kePort (n % 32), Sub.kePort_KNOT_RUN, v)
  | .pairKnotRun c v => some (c, keIx, Sub.ke_PAIR_KNOT_RUN, v)
  | .entReadRequest c => some (c, entWinIx, Sub.entWin_ENT_READ_OP, 1)
  | .swCmd c v => some (c, swIx, Sub.swWin_SW_CMD, v)
  | .rpStore c => some (c, rpWinIx, Sub.rpWin_RP_OP, 1)
  | .rpLoad c => some (c, rpWinIx, Sub.rpWin_RP_OP, 2)
  | .rpErase c => some (c, rpWinIx, Sub.rpWin_RP_OP, 3)
  | .rpDigest c => some (c, rpWinIx, Sub.rpWin_RP_OP, 4)
  | .rpSelect c => some (c, rpWinIx, Sub.rpWin_RP_OP, 5)
  | .evRead c => some (c, 0x0301, Sub.evWin_EV_OP, 1)
  | .rgRekey c r => some (c, rangeIx r, Sub.range_RG_OP, 1)
  | .rgReform c r => some (c, rangeIx r, Sub.range_RG_OP, 2)
  | .almAck c => some (c, 0x4C01, Sub.almWin_ALM_OP, 1)
  | .almClear c => some (c, 0x4C01, Sub.almWin_ALM_OP, 2)
  | .almFuseDisable c => some (c, 0x4C01, Sub.almWin_ALM_OP, 3)
  | .almMaint c => some (c, 0x4C01, Sub.almWin_ALM_OP, 4)
  | .alRead c => some (c, 0x4C02, Sub.alWin_AL_OP, 1)
  | .pwrReqActive c => some (c, 0x0400, Sub.power_PWR_REQ, 1)
  | .pwrReqTrim c => some (c, 0x0400, Sub.power_PWR_REQ, 2)
  | .pwrReqDark c => some (c, 0x0400, Sub.power_PWR_REQ, 3)
  | .slicePowerWrite c sl v => some (c, 0x0410 + sl, Sub.slicePwr_SLICE_POWER, v)
  | .blkReset c => some (c, blkIx, Sub.blkWin_BLK_OP, 1)
  | .fwActivate c v => some (c, fwIx, Sub.fwWdt_FW_ACTIVATE, v)
  | .fwCommit c v => some (c, fwIx, Sub.fwWdt_FW_COMMIT, v)
  | .resetCauseClear c v => some (c, rstIx, Sub.rstBoot_RESET_CAUSE_CLR, v)
  | .snapSnapshot c => some (c, ctIx, Sub.ctWin_SNAP_OP, 1)
  | .snapRelease c => some (c, ctIx, Sub.ctWin_SNAP_OP, 2)
  | .ctRead c => some (c, ctIx, Sub.ctWin_CT_OP, 1)
  | .tagEnableWrite c v => some (c, tagIx, Sub.tag_TAG_ENABLE, v)
  | .tgRead c => some (c, tgIx, Sub.tgWin_TG_OP, 1)
  | .tgTagReset c => some (c, tgIx, Sub.tgWin_TG_OP, 2)
  | .qsRead c => some (c, qsIx, Sub.qsWin_QS_OP, 1)
  | _ => none

/-- The life-cycle state is one of R360 and the security-version floor is within its fuses (R359, R369); a transition in
progress leads to a state of R360, and only the vendor step, from BLANK, leads to VENDOR and fuses DUS. -/
def State.fuseOk (s : State) : Prop :=
  s.fuse.lc ≤ 4 ∧ s.fuse.svn ≤ 63 ∧
  ∀ c, s.fuse.change = some c →
    1 ≤ c.lc ∧ c.lc ≤ 4 ∧ (c.fused = false → (c.lc = 1 ∨ c.dus.isSome = true) → s.fuse.lc = 0)

/-- A safe step: the block goes on. -/
abbrev Safe (s : State) : Prop := ∃ t, step s = Host.Outcome.next t

end Sys2Proof.Machine
end

