-- ==== Sys2Proof/Certificates/Slice0/Obligations.lean ====
section
/-! DEFINITION. The statements for the provers, family by family of the command table, and then of the block as a whole.
Each clause of a family statement says what one command does under hypotheses on the state and its operands. -/

open Sys2Proof Sys2Proof.Machine

/-- R34, R42, R43, R46, R51: writes of a lane's states, of its rate and of its pattern generator and checker; the last three are
refused BUSY while an enabled port uses the lane, and then nothing but the report happens. -/
def Obligations.LaneWritesTakeEffect : Prop :=
  (∀ (s : State) (c : Caller) (m v : Nat),
      (Accepted s c (Ix.lane m) Sub.lane_TX_STATE v → mfind s.lanes.goal m = none →
        Completes (.txStateWrite c m v) s fun t =>
          t.ob (Ix.lane m) Sub.lane_TX_STATE = v ∧ Reports t c (Ix.lane m) Sub.lane_TX_STATE .ok) ∧
      (∀ g, Accepted s c (Ix.lane m) Sub.lane_TX_STATE v → mfind s.lanes.goal m = some g →
        Completes (.txStateWrite c m v) s fun t =>
          mfind t.lanes.heldTx m = some v ∧ t.dict = s.dict ∧ Reports t c (Ix.lane m) Sub.lane_TX_STATE .ok) ∧
      (Accepted s c (Ix.lane m) Sub.lane_RX_STATE v → mfind s.lanes.goal m = none →
        Completes (.rxStateWrite c m v) s fun t =>
          t.ob (Ix.lane m) Sub.lane_RX_STATE = v ∧ Reports t c (Ix.lane m) Sub.lane_RX_STATE .ok) ∧
      (Accepted s c (Ix.lane m) Sub.lane_RATE v → s.portOfLane m = none →
        (s.groupLane m = false ∨ v = s.ob (Ix.lane m) Sub.lane_RATE) →
        Completes (.rateWrite c m v) s fun t =>
          t.ob (Ix.lane m) Sub.lane_RATE = v ∧ Reports t c (Ix.lane m) Sub.lane_RATE .ok) ∧
      (Accepted s c (Ix.lane m) Sub.lane_PRBS_GEN v → (v = 0 ∨ s.portOfLane m = none) →
        Completes (.prbsGenWrite c m v) s fun t =>
          t.ob (Ix.lane m) Sub.lane_PRBS_GEN = v ∧ Reports t c (Ix.lane m) Sub.lane_PRBS_GEN .ok) ∧
      (Accepted s c (Ix.lane m) Sub.lane_PRBS_CHK v → (v = 0 ∨ s.portOfLane m = none) →
        Completes (.prbsChkWrite c m v) s fun t =>
          t.ob (Ix.lane m) Sub.lane_PRBS_CHK = v ∧
          (v ≠ 0 → s.ob (Ix.lane m) Sub.lane_PRBS_CHK = 0 → t.ob (Ix.lane m) Sub.lane_PRBS_ERRORS = 0) ∧
          Reports t c (Ix.lane m) Sub.lane_PRBS_CHK .ok)) ∧
  (∀ (s : State) (c : Caller) (m v p : Nat), s.portOfLane m = some p →
      (Accepted s c (Ix.lane m) Sub.lane_RATE v →
        exec (.rateWrite c m v) s = .next (s.refusing c (Ix.lane m) Sub.lane_RATE .busy)) ∧
      (v ≠ 0 → Accepted s c (Ix.lane m) Sub.lane_PRBS_GEN v →
        exec (.prbsGenWrite c m v) s = .next (s.refusing c (Ix.lane m) Sub.lane_PRBS_GEN .busy)) ∧
      (v ≠ 0 → Accepted s c (Ix.lane m) Sub.lane_PRBS_CHK v →
        exec (.prbsChkWrite c m v) s = .next (s.refusing c (Ix.lane m) Sub.lane_PRBS_CHK .busy)))

/-- R37, R44, R46, R54, R59, R60, R65, R486: a transition's end, a port taken into use and out of it, an enable during a LOAD, a
link fault, a FEC window, and a management lane that counts commas, comes into alignment and loses it. -/
def Obligations.LanesAndPortsMove : Prop :=
  (∀ (s : State) (c : Caller) (m n : Nat), m < 0x60 →
      (∀ g, mfind s.lanes.goal m = some g → mfind s.lanes.heldTx m = none →
        Completes (.laneTransitionEnd m n) s fun t =>
          (s.txAim m = g → mget 1 t.lanes.now m = g ∧ mfind t.lanes.goal m = none) ∧
          (g = 3 → t.ob (Ix.lane m) Sub.lane_IDLE_EXIT_NS = n % 2 ^ 16)) ∧
      (∀ v, mfind s.lanes.goal m ≠ none → mfind s.lanes.heldTx m = some v →
        Completes (.laneTransitionEnd m n) s fun t => t.ob (Ix.lane m) Sub.lane_TX_STATE = v) ∧
      (Accepted s c (Ix.port m) Sub.port_ENABLE 1 → s.portOn m = false →
        s.blockHeld (if isLine m then 2 else 1) (m % 0x40) = false → s.blockHeld 0 (sliceOfPort m) = false →
        s.gated (sliceOfPort m) = false → s.enableCheck m = .ok → s.loadRuns = false →
        Completes (.portEnable c m 1) s fun t => t.portOn m = true ∧ Reports t c (Ix.port m) Sub.port_ENABLE .ok) ∧
      (Accepted s c (Ix.port m) Sub.port_ENABLE 0 →
        Completes (.portEnable c m 0) s fun t => t.portOn m = false ∧ Reports t c (Ix.port m) Sub.port_ENABLE .ok) ∧
      (∀ v, Accepted s c (Ix.port m) Sub.port_ENABLE v → v ≠ 0 → s.loadRuns = true →
        exec (.portEnable c m v) s = .next (s.refusing c (Ix.port m) Sub.port_ENABLE .busy)) ∧
      (∀ signal lock, s.laneCount m ≤ 8 →
        (n % 2 = 0 ∨ ∀ i, i < s.laneCount m → bit signal i = true ∧ bit lock i = true ∧ s.rxEffective (m + i) = 2) →
        Completes (.linkFaultChange m n signal lock) s fun t =>
          t.ob (Ix.port m) Sub.port_LINK_STATE = n % 4 ∧
          .fill m ((t.portFill m).getD .idles) ∈ t.wire.drop s.wire.length) ∧
      (∀ signal lock i, s.laneCount m ≤ 8 → n % 2 = 1 → i < s.laneCount m →
        (bit signal i = false ∨ bit lock i = false ∨ s.rxEffective (m + i) ≠ 2) →
        Completes (.linkFaultChange m n signal lock) s fun t =>
          t.ob (Ix.port m) Sub.port_LINK_STATE = 2 ∧ t.ob (Ix.lane (m + i)) Sub.lane_CDR_LOCK = 0 ∧
          .fill m ((t.portFill m).getD .idles) ∈ t.wire.drop s.wire.length) ∧
      (s.ob (Ix.port m) Sub.port_FEC_SER_THRESH < n → s.rst.coresHeld = false →
        Completes (.fecSerWindow m n) s fun t =>
          mfind t.acc.log (s.ob 0x0300 Sub.evCtl_EV_HEAD) =
            some (eventRecord 0x0201 (sliceOfPort m) (s.ob 0x0300 Sub.evCtl_EV_HEAD) s.ns (be 1 m ++ be 4 n))) ∧
      (n ≤ s.ob (Ix.port m) Sub.port_FEC_SER_THRESH → exec (.fecSerWindow m n) s = .next s)) ∧
  (∀ (s : State) (k : Nat), (0x80 ≤ k ∧ k < 0x84 ∨ k = 0x88 ∨ k = 0x89) →
      (∀ at_ n, s.obB (Ix.lane k) Sub.sLane_CG_ALIGNED = false → mget (0, 0) s.lanes.commas k = (at_ % 10, n) → 2 ≤ n →
        Completes (.cgAlign k at_) s fun t =>
          t.ob (Ix.lane k) Sub.sLane_CG_ALIGNED = 1 ∧ t.ob (Ix.lane k) Sub.sLane_CG_ERRORS = 0 ∧
          t.ob (Ix.lane k) Sub.sLane_SIGNAL_DETECT = 1 ∧ t.ob (Ix.lane k) Sub.sLane_LOS = 0) ∧
      (∀ at_ p n, s.obB (Ix.lane k) Sub.sLane_CG_ALIGNED = false → mget (0, 0) s.lanes.commas k = (p, n) →
        (p ≠ at_ % 10 ∨ n < 2) →
        Completes (.cgAlign k at_) s fun t =>
          mget (0, 0) t.lanes.commas k = (at_ % 10, if p = at_ % 10 then n + 1 else 1) ∧ t.dict = s.dict ∧ t.wire = s.wire) ∧
      (∀ groups signal w e, s.obB (Ix.lane k) Sub.sLane_CG_ALIGNED = true →
        cgRun groups (mget 0 s.lanes.groups k) 0 = (w, e, true) →
        Completes (.cgAlignLost k groups signal) s fun t =>
          t.ob (Ix.lane k) Sub.sLane_CG_ALIGNED = 0 ∧ t.ob (Ix.lane k) Sub.sLane_LOS = (!signal).toNat ∧
          t.ob (Ix.lane k) Sub.sLane_CG_ERRORS = (s.ob (Ix.lane k) Sub.sLane_CG_ERRORS + e) % 2 ^ 32) ∧
      (∀ groups signal w e, s.obB (Ix.lane k) Sub.sLane_CG_ALIGNED = true →
        cgRun groups (mget 0 s.lanes.groups k) 0 = (w, e, false) →
        Completes (.cgAlignLost k groups signal) s fun t =>
          t.obB (Ix.lane k) Sub.sLane_CG_ALIGNED = true ∧ mget 0 t.lanes.groups k = w ∧
          t.ob (Ix.lane k) Sub.sLane_CG_ERRORS = (s.ob (Ix.lane k) Sub.sLane_CG_ERRORS + e) % 2 ^ 32)) ∧
  (∀ (good bad : Nat), good < 32 → bad < 4 →
      (cgRun (List.replicate bad false ++ List.replicate good true) 0 0).2 = (bad, false) ∧
      (cgRun (List.replicate bad false ++ List.replicate (28 - bad) true ++ List.replicate (4 - bad) false) 0 0).2
        = (4, true))

/-- R53, R64: an eye-scan point starts, is aborted, and ends. -/
def Obligations.EyeScanRuns : Prop :=
  ∀ (s : State) (c : Caller) (m n : Nat),
    (Accepted s c (Ix.scan m) Sub.scan_SCAN_CTRL 1 → s.ob (Ix.lane m) Sub.lane_RX_STATE = 2 →
      Completes (.scanStart c m) s fun t =>
        t.ob (Ix.scan m) Sub.scan_SCAN_STATUS = 1 ∧ Reports t c (Ix.scan m) Sub.scan_SCAN_CTRL .ok) ∧
    (Accepted s c (Ix.scan m) Sub.scan_SCAN_CTRL 1 → s.ob (Ix.lane m) Sub.lane_RX_STATE ≠ 2 →
      exec (.scanStart c m) s = .next (s.refusing c (Ix.scan m) Sub.scan_SCAN_CTRL .notReady)) ∧
    (Accepted s c (Ix.scan m) Sub.scan_SCAN_CTRL 2 → s.ob (Ix.scan m) Sub.scan_SCAN_STATUS = 1 →
      Completes (.scanAbort c m) s fun t =>
        t.ob (Ix.scan m) Sub.scan_SCAN_STATUS = 3 ∧ Reports t c (Ix.scan m) Sub.scan_SCAN_CTRL .ok) ∧
    (s.ob (Ix.scan m) Sub.scan_SCAN_STATUS = 1 →
      s.past (Timer.scan m) (2 ^ mget 24 s.lanes.dwell m * 100000 / s.laneRate m) = true →
      Completes (.scanDone m n) s fun t =>
        t.ob (Ix.scan m) Sub.scan_SCAN_STATUS = 2 ∧
        t.ob (Ix.scan m) Sub.scan_BITS = 2 ^ mget 24 s.lanes.dwell m ∧
        t.ob (Ix.scan m) Sub.scan_ERRORS = min n (2 ^ mget 24 s.lanes.dwell m)) ∧
    ((s.ob (Ix.scan m) Sub.scan_SCAN_STATUS ≠ 1 ∨
        s.past (Timer.scan m) (2 ^ mget 24 s.lanes.dwell m * 100000 / s.laneRate m) = false) →
      exec (.scanDone m n) s = .next s)

/-- R76, R82, R86, R89, R91, R95: a learning request that adds an entry, one that management overtakes, a sweep's start and
visit, the age clock, and a static entry put back. -/
def Obligations.HitchEnginesWork : Prop :=
  ∀ (s : State) (sl : Nat), sl < 4 →
    (∀ (r : LearnReq) (q : List LearnReq) (y i : Nat), mget [] s.hitch.queue sl = r :: q →
      bit r.mac 40 = false → r.mac ≠ 0 → r.target = some y → s.cleanFor sl (packKey r.port r.vid r.mac) = true →
      holder (packKey r.port r.vid r.mac) (s.cands sl (packKey r.port r.vid r.mac)) = none →
      s.learnedCount r.port < s.ob (hitchPortIx r.port) Sub.hitchPort_LEARN_LIMIT →
      chooseSlot (s.cands sl (packKey r.port r.vid r.mac)) = some i →
      Completes (.learnRequest sl false) s fun t =>
        mget [] t.hitch.queue sl = q ∧
        t.slotAt sl i = slotImage false (s.ageMode sl == 1) false (if s.ageMode sl = 2 then s.ageClock sl else 0) y
          r.port r.vid r.mac ∧
        mget 0 t.cnt (Ctr.slice sl + Ctr.LEARN_NEW) = (mget 0 s.cnt (Ctr.slice sl + Ctr.LEARN_NEW) + 1) % 2 ^ 64) ∧
    (∀ (r : LearnReq) (q : List LearnReq) (y : Nat) (m : Nat × Nat × Nat × Nat), mget [] s.hitch.queue sl = r :: q →
      bit r.mac 40 = false → r.mac ≠ 0 → r.target = some y → s.cleanFor sl (packKey r.port r.vid r.mac) = true →
      m ∈ s.lately sl (mget [] s.hitch.mgmt sl) → m.2.2.1 = packKey r.port r.vid r.mac →
      Completes (.learnRequest sl true) s fun t =>
        mget [] t.hitch.queue sl = q ∧ t.hitch.slots = s.hitch.slots ∧
        mget 0 t.cnt (Ctr.slice sl + Ctr.LEARN_COLLISION) = (mget 0 s.cnt (Ctr.slice sl + Ctr.LEARN_COLLISION) + 1) % 2 ^ 64) ∧
    (8192 ≤ mget 8192 s.hitch.sweepPos sl → s.past (Timer.sweep sl) (1000000 * s.sweepMs sl) = true →
      Completes (.sweepStart sl) s fun t =>
      mget 8192 t.hitch.sweepPos sl = 0 ∧ mget 0 t.hitch.period sl = s.ob (Ix.hitch sl 0) Sub.hitch_SWEEP_PERIOD_MS ∧
      t.ageMode sl = s.ob (Ix.hitch sl 0) Sub.hitch_AGE_MODE ∧
      mget false t.hitch.init sl = (s.ob (Ix.hitch sl 0) Sub.hitch_AGE_MODE != s.ageMode sl) ∧ t.dict = s.dict) ∧
    ((mget 8192 s.hitch.sweepPos sl < 8192 ∨ s.past (Timer.sweep sl) (1000000 * s.sweepMs sl) = false) →
      exec (.sweepStart sl) s = .next s) ∧
    (∀ (overlap : Bool) (pos : Nat), mget 8192 s.hitch.sweepPos sl = pos → pos < 8192 →
      s.past (Timer.sweep sl) (1000000 * s.sweepMs sl * pos / 8192) = true →
      Completes (.sweepVisit sl overlap) s fun t =>
        mget 8192 t.hitch.sweepPos sl = pos + 1 ∧
        (pos = 8191 → t.ob (Ix.hitch sl 0) Sub.hitch_SWEEPS_DONE
          = (s.ob (Ix.hitch sl 0) Sub.hitch_SWEEPS_DONE + 1) % 2 ^ 32)) ∧
    (s.past (Timer.age sl) (1000000 * s.ob (Ix.hitch sl 0) Sub.hitch_AGE_TICK_MS) = true →
      Completes (.ageClockTick sl) s fun t =>
        t.ageClock sl = (s.ageClock sl + 1) % 2 ^ 16 ∧ mget 0 t.time.since (Timer.age sl) = s.time.periods) ∧
    (s.past (Timer.age sl) (1000000 * s.ob (Ix.hitch sl 0) Sub.hitch_AGE_TICK_MS) = false →
      exec (.ageClockTick sl) s = .next s) ∧
    (∀ (i j e : Nat), mfind s.hitch.statics (skey sl i) = some e → s.slotAt sl i ≠ e →
      s.cleanFor sl (Slot.key e) = true → holder (Slot.key e) (s.cands sl (Slot.key e)) = none →
      chooseSlot (s.cands sl (Slot.key e)) = some j →
      Completes (.staticReinstall sl i) s fun t =>
        t.slotAt sl j = slotImage true false false 0 (Slot.secy e) (Slot.port e) (Slot.vid e) (Slot.mac e))

/-- R99: the four operations of the table window that read. R99, R100: the three operations of the table window that write. -/
def Obligations.TableWindowOperates : Prop :=
  (∀ (s : State) (c : Caller) (sl : Nat),
      (∀ i e, StartsIn s sl c (twIx sl) Sub.twWin_TW_OP Sub.twWin_TW_STATUS 1 → s.twKeyOk sl = true →
        s.cleanFor sl (s.twKey sl) = true → holder (s.twKey sl) (s.cands sl (s.twKey sl)) = some (i, e) →
        Operates (.twLookup c sl) s fun t =>
          t.ob (twIx sl) Sub.twWin_TW_SECY = Slot.secy e ∧ t.ob (twIx sl) Sub.twWin_TW_FLAGS = slotFlags e ∧
          t.ob (twIx sl) Sub.twWin_TW_INDEX = i ∧ t.ob (twIx sl) Sub.twWin_TW_AGE = Slot.timestamp e ∧
          Ends t c (twIx sl) Sub.twWin_TW_OP Sub.twWin_TW_STATUS .ok) ∧
      (StartsIn s sl c (twIx sl) Sub.twWin_TW_OP Sub.twWin_TW_STATUS 1 → s.twKeyOk sl = true →
        s.cleanFor sl (s.twKey sl) = true → holder (s.twKey sl) (s.cands sl (s.twKey sl)) = none →
        Operates (.twLookup c sl) s fun t =>
          t.ob (twIx sl) Sub.twWin_TW_FLAGS = 0 ∧ Ends t c (twIx sl) Sub.twWin_TW_OP Sub.twWin_TW_STATUS .ok) ∧
      (∀ i, StartsIn s sl c (twIx sl) Sub.twWin_TW_OP Sub.twWin_TW_STATUS 4 →
        s.ob (twIx sl) Sub.twWin_TW_INDEX = i → i < 131072 → parityOk (s.slotAt sl i) = true →
        Operates (.twRead c sl) s fun t =>
          t.ob (twIx sl) Sub.twWin_TW_PORT = Slot.port (s.slotAt sl i) ∧
          t.ob (twIx sl) Sub.twWin_TW_VID = Slot.vid (s.slotAt sl i) ∧
          t.oct (twIx sl) Sub.twWin_TW_MAC = be 6 (Slot.mac (s.slotAt sl i)) ∧
          t.ob (twIx sl) Sub.twWin_TW_SECY = Slot.secy (s.slotAt sl i) ∧
          t.ob (twIx sl) Sub.twWin_TW_FLAGS = slotFlags (s.slotAt sl i) ∧
          Ends t c (twIx sl) Sub.twWin_TW_OP Sub.twWin_TW_STATUS .ok) ∧
      (∀ j e, StartsIn s sl c (twIx sl) Sub.twWin_TW_OP Sub.twWin_TW_STATUS 5 →
        (∀ x ∈ s.hitchEntries sl, parityOk (s.slotAt sl x.1) = true ∧ x.2 = s.slotAt sl x.1) →
        (s.hitchEntries sl).find? (fun x => decide (s.ob (twIx sl) Sub.twWin_TW_INDEX < x.1) && Slot.valid x.2)
          = some (j, e) →
        Operates (.twNext c sl) s fun t =>
          t.ob (twIx sl) Sub.twWin_TW_INDEX = j ∧ t.ob (twIx sl) Sub.twWin_TW_PORT = Slot.port e ∧
          t.ob (twIx sl) Sub.twWin_TW_VID = Slot.vid e ∧ t.oct (twIx sl) Sub.twWin_TW_MAC = be 6 (Slot.mac e) ∧
          Ends t c (twIx sl) Sub.twWin_TW_OP Sub.twWin_TW_STATUS .ok) ∧
      (StartsIn s sl c (twIx sl) Sub.twWin_TW_OP Sub.twWin_TW_STATUS 6 → s.twKeyOk sl = true →
        Operates (.twHash c sl) s fun t =>
          t.ob (twIx sl) Sub.twWin_TW_BUCKETS =
            s.bucketOf sl 0 (s.twKey sl) * 2 ^ 48 + s.bucketOf sl 1 (s.twKey sl) * 2 ^ 32
              + s.bucketOf sl 2 (s.twKey sl) * 2 ^ 16 + s.bucketOf sl 3 (s.twKey sl) ∧
          Ends t c (twIx sl) Sub.twWin_TW_OP Sub.twWin_TW_STATUS .ok)) ∧
  (∀ (s : State) (c : Caller) (sl : Nat),
      (∀ i, StartsIn s sl c (twIx sl) Sub.twWin_TW_OP Sub.twWin_TW_STATUS 2 → s.twKeyOk sl = true →
        s.secyPort sl (s.ob (twIx sl) Sub.twWin_TW_SECY) = some (s.twPort sl) → s.cleanFor sl (s.twKey sl) = true →
        holder (s.twKey sl) (s.cands sl (s.twKey sl)) = none → chooseSlot (s.cands sl (s.twKey sl)) = some i →
        Operates (.twInsert c sl) s fun t =>
          t.slotAt sl i = slotImage true false false 0 (s.ob (twIx sl) Sub.twWin_TW_SECY) (s.twPort sl) (s.twVid sl)
            (s.twMac sl) ∧
          (∀ j, j < 131072 → j ≠ i → t.slotAt sl j = s.slotAt sl j) ∧ t.ob (twIx sl) Sub.twWin_TW_INDEX = i ∧
          Ends t c (twIx sl) Sub.twWin_TW_OP Sub.twWin_TW_STATUS .ok) ∧
      (∀ i e, StartsIn s sl c (twIx sl) Sub.twWin_TW_OP Sub.twWin_TW_STATUS 3 → s.twKeyOk sl = true →
        s.cleanFor sl (s.twKey sl) = true → holder (s.twKey sl) (s.cands sl (s.twKey sl)) = some (i, e) →
        Operates (.twDelete c sl) s fun t =>
          t.slotAt sl i = 0 ∧ (∀ j, j < 131072 → j ≠ i → t.slotAt sl j = s.slotAt sl j) ∧
          t.ob (twIx sl) Sub.twWin_TW_FLAGS = slotFlags e ∧
          Ends t c (twIx sl) Sub.twWin_TW_OP Sub.twWin_TW_STATUS .ok) ∧
      (StartsIn s sl c (twIx sl) Sub.twWin_TW_OP Sub.twWin_TW_STATUS 7 →
        (∀ x ∈ s.hitchEntries sl, parityOk (s.slotAt sl x.1) = true ∧ x.2 = s.slotAt sl x.1 ∧ x.1 < 131072) →
        Operates (.twFlush c sl) s fun t =>
          (∀ x ∈ s.hitchEntries sl, t.slotAt sl x.1 = if s.flushes sl x.2 then 0 else s.slotAt sl x.1) ∧
          t.ob (twIx sl) Sub.twWin_TW_INDEX = ((s.hitchEntries sl).filter (fun x => s.flushes sl x.2)).length ∧
          Ends t c (twIx sl) Sub.twWin_TW_OP Sub.twWin_TW_STATUS .ok))

/-- R141, R136: the four operations of the association window that read. R142, R144, R130: a SecY is written, an entry is
deleted in two steps, and the scrubber finds a bad key. -/
def Obligations.AssociationWindowOperates : Prop :=
  (∀ (s : State) (c : Caller) (sl : Nat),
      (StartsIn s sl c (awIx sl) Sub.awWin_AW_OP Sub.awWin_AW_STATUS 1 → s.awTable sl < 5 →
        s.awIndex sl < awSize (s.awTable sl) → (s.awTable sl = 3 → s.saBadAt sl (s.awIndex sl) = false) →
        Operates (.awRead c sl false) s fun t =>
          t.oct (awIx sl) Sub.awWin_AW_DATA
            = padTo 40 (be (awOctets (s.awTable sl)) (s.awImage sl (s.awTable sl) (s.awIndex sl))) ∧
          t.asc = s.asc ∧ Ends t c (awIx sl) Sub.awWin_AW_OP Sub.awWin_AW_STATUS .ok) ∧
      (∀ i, StartsIn s sl c (awIx sl) Sub.awWin_AW_OP Sub.awWin_AW_STATUS 3 →
        s.findSci sl (num (s.oct (awIx sl) Sub.awWin_AW_SCI)) = some i →
        Operates (.awFindSci c sl) s fun t =>
          t.ob (awIx sl) Sub.awWin_AW_INDEX = i ∧ t.asc = s.asc ∧
          Ends t c (awIx sl) Sub.awWin_AW_OP Sub.awWin_AW_STATUS .ok) ∧
      (StartsIn s sl c (awIx sl) Sub.awWin_AW_OP Sub.awWin_AW_STATUS 3 →
        s.findSci sl (num (s.oct (awIx sl) Sub.awWin_AW_SCI)) = none →
        Operates (.awFindSci c sl) s fun t => t.asc = s.asc ∧
          Ends t c (awIx sl) Sub.awWin_AW_OP Sub.awWin_AW_STATUS .range) ∧
      (∀ i, StartsIn s sl c (awIx sl) Sub.awWin_AW_OP Sub.awWin_AW_STATUS 4 → s.awTable sl < 4 →
        i < awSize (s.awTable sl) → s.awValid sl (s.awTable sl) i = false →
        (∀ j, j < i → s.awValid sl (s.awTable sl) j = true) →
        Operates (.awFree c sl) s fun t =>
          t.ob (awIx sl) Sub.awWin_AW_INDEX = i ∧ t.asc = s.asc ∧
          Ends t c (awIx sl) Sub.awWin_AW_OP Sub.awWin_AW_STATUS .ok) ∧
      (StartsIn s sl c (awIx sl) Sub.awWin_AW_OP Sub.awWin_AW_STATUS 6 → s.tel.held = false →
        (s.awTable sl = 0 ∨ s.awTable sl = 2 ∨ s.awTable sl = 3) → s.awIndex sl < awSize (s.awTable sl) →
        Operates (.awReadCounters c sl) s fun t =>
          t.oct (awIx sl) Sub.awWin_AW_COUNTERS = padTo 64 ((List.range 6).flatMap
            (fun k => be 8 (mget 0 s.asc.cnt (ackey (s.awTable sl) sl (s.awIndex sl) k)))) ∧
          Ends t c (awIx sl) Sub.awWin_AW_OP Sub.awWin_AW_STATUS .ok)) ∧
  (∀ (s : State) (c : Caller) (sl i : Nat),
      (∀ e, StartsIn s sl c (awIx sl) Sub.awWin_AW_OP Sub.awWin_AW_STATUS 2 → s.awTable sl = 0 → s.awIndex sl = i →
        i < 2048 →
        e = maskMerge ((s.secyAt sl i).getD 0) (fld (s.oct (awIx sl) Sub.awWin_AW_DATA) 0 16)
          (fld (s.oct (awIx sl) Sub.awWin_AW_MASK) 0 16) →
        s.secyCheck sl i ((s.secyAt sl i).getD 0) e = .ok →
        Operates (.awWrite c sl false) s fun t =>
          t.secyAt sl i = some e ∧ Ends t c (awIx sl) Sub.awWin_AW_OP Sub.awWin_AW_STATUS .ok) ∧
      (∀ st, StartsIn s sl c (awIx sl) Sub.awWin_AW_OP Sub.awWin_AW_STATUS 2 → s.awTable sl = 0 → s.awIndex sl = i →
        i < 2048 → st ≠ .ok →
        s.secyCheck sl i ((s.secyAt sl i).getD 0) (maskMerge ((s.secyAt sl i).getD 0)
          (fld (s.oct (awIx sl) Sub.awWin_AW_DATA) 0 16) (fld (s.oct (awIx sl) Sub.awWin_AW_MASK) 0 16)) = st →
        Operates (.awWrite c sl false) s fun t =>
          t.asc = s.asc ∧ Ends t c (awIx sl) Sub.awWin_AW_OP Sub.awWin_AW_STATUS st) ∧
      (StartsIn s sl c (awIx sl) Sub.awWin_AW_OP Sub.awWin_AW_STATUS 5 → s.awTable sl = 1 → s.awIndex sl = i →
        (s.secyAt sl i).isSome = true → i < 2048 → s.deleteBusy sl 1 i = false →
        Operates (.awDelete c sl) s fun t =>
          t.txscAt sl i = 0 ∧ t.secyAt sl i = s.secyAt sl i ∧
          Ends t c (awIx sl) Sub.awWin_AW_OP Sub.awWin_AW_STATUS .ok) ∧
      (∀ tb, mfind s.asc.deleting sl = some (tb, i) → (tb = 0 ∨ tb = 2 ∨ tb = 3) →
        (mget [] s.eng.verify (pipeKey sl .open)).all (fun f => !f.holds tb i) = true →
        (mget [] s.eng.egress (pipeKey sl .seal)).all (fun f => !f.frm.uses tb i) = true →
        Completes (.awDeleteDone sl) s fun t =>
          t.awValid sl tb i = false ∧ mfind t.asc.deleting sl = none ∧
          t.ob (awIx sl) Sub.awWin_AW_STATUS = Status.ok.code ∧ t.winBusy (awIx sl) Sub.awWin_AW_STATUS = false) ∧
      (s.sliceRuns sl = true → mget 0 s.asc.scrub sl = i → (s.keyAt sl i).valid = true →
        Completes (.keyScrubVisit sl true) s fun t =>
          (t.keyAt sl i).valid = false ∧ mget 0 t.asc.scrub sl = (i + 1) % 8192 ∧
          t.ob (Ix.assoc sl 0) Sub.assoc_KEY_SCRUB_FAULTS
            = (s.ob (Ix.assoc sl 0) Sub.assoc_KEY_SCRUB_FAULTS + 1) % 2 ^ 32) ∧
      (s.sliceRuns sl = true → mget 0 s.asc.scrub sl = i →
        Completes (.keyScrubVisit sl false) s fun t =>
          t.asc.keys = s.asc.keys ∧ mget 0 t.asc.scrub sl = (i + 1) % 8192))

/-- R177, R179: the three operations of the traffic-manager window. -/
def Obligations.TrafficWindowOperates : Prop :=
  ∀ (s : State) (c : Caller) (sl : Nat),
    (StartsIn s sl c (tmIx sl) Sub.tmWin_TM_OP Sub.tmWin_TM_STATUS 1 → s.tmIndex sl < tmSize (s.tmTable sl) →
      (s.tmTable sl = 0 → s.tmPipe sl = .seal) →
      Operates (.tmRead c sl) s fun t =>
        t.oct (tmIx sl) Sub.tmWin_TM_DATA = padTo 28 (be (tmOctets (s.tmTable sl)) (s.tmImage sl)) ∧ t.tm = s.tm ∧
        Ends t c (tmIx sl) Sub.tmWin_TM_OP Sub.tmWin_TM_STATUS .ok) ∧
    (∀ mask e, StartsIn s sl c (tmIx sl) Sub.tmWin_TM_OP Sub.tmWin_TM_STATUS 2 → s.tmTable sl = 3 →
      mask = fld (s.oct (tmIx sl) Sub.tmWin_TM_MASK) 0 8 →
      e = maskMerge (s.admAt sl (s.tmPipe sl) (s.tmIndex sl)) (fld (s.oct (tmIx sl) Sub.tmWin_TM_DATA) 0 8) mask →
      s.tmCheck sl 3 (s.tmIndex sl) (s.tmPipe sl) (s.admAt sl (s.tmPipe sl) (s.tmIndex sl)) e mask = .ok →
      Operates (.tmWrite c sl) s fun t =>
        t.admAt sl (s.tmPipe sl) (s.tmIndex sl) = e ∧ t.tm.queue = s.tm.queue ∧ t.tm.policer = s.tm.policer ∧
        Ends t c (tmIx sl) Sub.tmWin_TM_OP Sub.tmWin_TM_STATUS .ok) ∧
    (StartsIn s sl c (tmIx sl) Sub.tmWin_TM_OP Sub.tmWin_TM_STATUS 3 → s.tmTable sl = 1 → s.tmIndex sl < 1024 →
      s.tel.held = false →
      Operates (.tmReadCounters c sl) s fun t =>
        t.oct (tmIx sl) Sub.tmWin_TM_COUNTERS = (List.range 10).flatMap
          (fun n => be 8 (mget 0 s.tm.queueCnt (pkey sl (s.tmPipe sl) (s.tmIndex sl) * 16 + n))) ∧
        t.tm.restart = s.tm.restart ++ [pkey sl (s.tmPipe sl) (s.tmIndex sl)] ∧
        Ends t c (tmIx sl) Sub.tmWin_TM_OP Sub.tmWin_TM_STATUS .ok)

/-- R158, R165, R174, R627, R314, R57: what runs beside the frames: a bucket's refill, a queue's sample, the return of a frame's
cells, the end of a follow-up entry, and the end of a pause. -/
def Obligations.TrafficBackgroundWorks : Prop :=
  ∀ (s : State) (sl : Nat) (open_ : Bool) (p : Pipe), p = (if open_ then .open else .seal) →
    (∀ i, Completes (.bucketRefillVisit sl open_ 0 i) s fun t =>
        mget 0 t.tm.policer (skey sl i) = s.refillPol sl (mget 0 s.tm.policer (skey sl i)) ∧ t.tm.queue = s.tm.queue) ∧
    (∀ i, Completes (.bucketRefillVisit sl open_ 1 i) s fun t =>
        t.queueAt sl p i = Que.setTokens (s.queueAt sl p i) (s.tokensNow sl (s.queueAt sl p i)) (s.cyc sl % 2 ^ 16) ∧
        t.tm.group = s.tm.group) ∧
    (∀ i, Completes (.bucketRefillVisit sl open_ 2 i) s fun t =>
        t.groupAt sl p i = Que.setTokens (s.groupAt sl p i) (s.tokensNow sl (s.groupAt sl p i)) (s.cyc sl % 2 ^ 16) ∧
        t.tm.queue = s.tm.queue) ∧
    (∀ i, Completes (.bucketRefillVisit sl open_ 3 i) s fun t =>
      mget 0 t.tm.nodeTokens (pkey sl p i) = s.nodeTokensNow sl p i ∧ mget 0 t.tm.nodeLast (pkey sl p i) = s.cyc sl) ∧
    (∀ q pos, s.obB (Ix.tm sl 0) Sub.tm_SAMPLE_ENABLE = true → s.gated sl = false → s.dark = false →
      mget 0 s.tm.samplePos (pkey sl p 0) = q → mget 0 s.tm.ringPos (pkey sl p 0) = pos →
      s.heldAt sl p q = [] →
      Completes (.queueSampleVisit sl open_) s fun t =>
        mget [] t.tm.ring (pkey sl p pos) = be 2 q ++ be 2 (Adm.used (s.admAt sl p q)) ++ be 4 0 ++ be 8 s.ns ∧
        mget 0 t.tm.samplePos (pkey sl p 0) = (q + 1) % 1024 ∧ mget 0 t.tm.ringPos (pkey sl p 0) = (pos + 1) % 1024) ∧
    (∀ f rest, mget [] s.tm.leaving (pkey sl p 0) = f :: rest →
      Completes (.cellsReturn sl open_) s fun t =>
        mget [] t.tm.leaving (pkey sl p 0) = rest ∧
        t.admAt sl p f.queue = Adm.setUsed (s.admAt sl p f.queue) (Adm.used (s.admAt sl p f.queue) - f.cells)) ∧
    (∀ i e, (mget [] s.time.fup (pipeKey sl p))[i]? = some e →
      s.ob (0x3A80 + sl) Sub.timeSlice_FUP_TIMEOUT_MS ≤ s.fupAge e →
      Completes (.fupEntryTimeout sl open_ i) s fun t =>
        mget [] t.time.fup (pipeKey sl p) = (mget [] s.time.fup (pipeKey sl p)).eraseIdx i ∧ t.dict = s.dict) ∧
    (∀ i e, (mget [] s.time.fup (pipeKey sl p))[i]? = some e →
      s.fupAge e < s.ob (0x3A80 + sl) Sub.timeSlice_FUP_TIMEOUT_MS →
      exec (.fupEntryTimeout sl open_ i) s = .next s) ∧
    (∀ m prios k, k < 8 →
      Completes (.pauseTimeExpiry m prios) s fun t =>
        mfind t.lanes.paused (8 * m + k)
          = if bit prios k = true ∧ s.past (Timer.paused (8 * m + k))
              (s.quantaNs m (mget 0 s.lanes.paused (8 * m + k))) = true then none
            else mfind s.lanes.paused (8 * m + k))

/-- R41, R163, R58: a client frame arrives and is dropped or taken in, an arriving frame is admitted to its queue, and the pause
frames of a port are repeated. -/
def Obligations.ClientFramesEnter : Prop :=
  ∀ (s : State) (sl : Nat),
    (∀ c b pcs lag ctr, c < 32 → s.hears c = true → s.nearLoop c = false → s.farLoop c = false →
      macCheck (s.maxFrame c) b pcs = (.drop, ctr) →
      exec (.clientFrameReceived c b pcs lag) s = .next (s.bump (Ctr.port c + ctr))) ∧
    (∀ c b pcs lag ctr, c < 32 → s.hears c = true → s.nearLoop c = false → s.farLoop c = false →
      macCheck (s.maxFrame c) b pcs = (.control, ctr) →
      exec (.clientFrameReceived c b pcs lag) s = .next (pauseAct c b (s.bump (Ctr.port c + ctr)))) ∧
    (∀ c b pcs lag, c < 32 → s.hears c = true → s.nearLoop c = true → exec (.clientFrameReceived c b pcs lag) s = .next s) ∧
    (∀ c b pcs lag y u, c < 32 → s.hears c = true → s.nearLoop c = false → s.farLoop c = false →
      macCheck (s.maxFrame c) b pcs = (.ok, Ctr.RX_FRAMES) →
      s.dark = false → s.held = false → s.ob (pipeIx (c / 8) .seal) Sub.pipe_PIPE_STATE ≠ 3 →
      s.trackers (c / 8) .seal 0 < 1024 → s.tagging (c / 8) .seal = false → s.plainClient c = false →
      hitchLookup c (outerVid b) (frameDa b)
        (takeWords (c / 8) .seal 0 (s.cyc (c / 8)) b.length (s.bump (Ctr.port c + Ctr.RX_FRAMES))).2 = (some y, u) →
      u.policerOf c (u.classOf c b) y = none →
      Completes (.clientFrameReceived c b pcs lag) s fun t =>
        ∃ f : Machine.Frm, mget [] t.tm.arriving (c / 8) = mget [] s.tm.arriving (c / 8) ++ [f] ∧ f.bytes = b ∧
          f.len = b.length ∧ f.inPort = c ∧ f.secy = some y ∧ f.colour = 0 ∧ f.bad = 0) ∧
    (∀ f rest q n d, mget [] s.tm.arriving sl = f :: rest → f.policer = none → f.bad = 0 →
      s.ob (tmClientIx f.inPort) Sub.tmClient_SEAL_QUEUE_BASE + f.tc = q → cellsOf f.len = n →
      Que.valid (s.queueAt sl .seal q) = true → s.queueNode sl .seal q = f.node →
      s.admitClass sl .seal q (f.inPort % 8) f n = (d, 0) → d ≠ 0 →
      Completes (.frameAdmit sl) s fun t =>
        mget [] t.tm.arriving sl = rest ∧
        t.admAt sl .seal q = Adm.setUsed (s.admAt sl .seal q) (Adm.used (s.admAt sl .seal q) + n) ∧
        ∃ g : Machine.Frm, t.heldAt sl .seal q = s.heldAt sl .seal q ++ [g] ∧ g.bytes = f.bytes ∧ g.cells = n ∧ g.queue = q) ∧
    (∀ m k, k < 8 → (mfind s.lanes.pausing (8 * m + k)).isSome = true → s.ob (Ix.port m) Sub.port_FLOW_CTRL ≠ 0 →
      s.portOn m = true → s.forms m = true → s.laneLoop m = 0 →
      s.past (Timer.pause (8 * m + k)) (s.quantaNs m (s.ob (Ix.port m) Sub.port_PAUSE_REFRESH)) = true →
      ingressPort (sliceOfPort m) (if isLine m then .open else .seal) (m % 8) = m →
      Completes (.pauseRefreshTimer m) s fun t =>
        .macControl m (pauseFrame (s.oct (Ix.port m) Sub.port_PAUSE_SA) (s.ob (Ix.port m) Sub.port_FLOW_CTRL == 2) k
          (s.ob (Ix.port m) Sub.port_PAUSE_QUANTA)) ∈ t.wire)

/-- R199, R201, R203, R274: a line frame enters the opening pipe, a verified frame commits its packet number at its release, a
frame goes out of its client port, and a tributary's frame is mapped as it stands. -/
def Obligations.LineFramesPass : Prop :=
  ∀ (s : State) (sl : Nat),
    (∀ m b pcs lag ctr, 0x40 ≤ m → m < 0x60 → s.hearsAny m = true → s.nearLoop m = false → s.farLoop m = false →
      macCheck (s.maxFrame m) b pcs = (.drop, ctr) →
      exec (.lineFrameReceived m b pcs lag false false) s = .next (s.bump (Ctr.port m + ctr))) ∧
    (∀ m b pcs lag, 0x40 ≤ m → m < 0x60 → s.hearsAny m = true → s.nearLoop m = false → s.farLoop m = false →
      macCheck (s.maxFrame m) b pcs = (.ok, Ctr.RX_FRAMES) → s.dark = false → s.held = false → sliceOfPort m = sl →
      s.pipeState sl .open = 0 → s.trackers sl .open (mget [] s.eng.verify (pipeKey sl .open)).length < 1024 →
      s.tagging sl .open = false → s.otnMode sl = 0 → s.excess sl false = false →
      Completes (.lineFrameReceived m b pcs lag false false) s fun t =>
        ∃ v : Vf, mget [] t.eng.verify (pipeKey sl .open) = mget [] s.eng.verify (pipeKey sl .open) ++ [v] ∧ v.port = m ∧
          v.plan = (s.planFrame sl (m % 8) b).plan ∧ v.frm.sa = (s.planFrame sl (m % 8) b).sa ∧
          v.frm.pn = (s.planFrame sl (m % 8) b).pn ∧ v.caught = false) ∧
    (∀ m b pcs lag overrun ecc, 0x40 ≤ m → m < 0x60 → s.hearsAny m = true → s.nearLoop m = false → s.farLoop m = false →
      macCheck (s.maxFrame m) b pcs = (.ok, Ctr.RX_FRAMES) → s.dark = false → s.held = false → sliceOfPort m = sl →
      s.pipeState sl .open ≠ 3 → s.excess sl overrun = true →
      exec (.lineFrameReceived m b pcs lag overrun ecc) s
        = .next ((s.bump (Ctr.port m + Ctr.RX_FRAMES)).bump (Ctr.slice sl + Ctr.OPEN_ENTRY_OVERRUN))) ∧
    (∀ v rest tb i n caught, mget [] s.eng.verify (pipeKey sl .open) = v :: rest → v.caught = false → v.frm.bad = 0 →
      v.frm.tag = none → v.plan = .dropAssoc tb i n →
      Completes (.openRelease sl caught) s fun t =>
        mget [] t.eng.verify (pipeKey sl .open) = rest ∧
        mget 0 t.asc.cnt (ackey tb sl i n) = (mget 0 s.asc.cnt (ackey tb sl i n) + 1) % 2 ^ 64 ∧ t.tm = s.tm) ∧
    (∀ v rest r y k caught, mget [] s.eng.verify (pipeKey sl .open) = v :: rest → v.caught = false → v.frm.bad = 0 →
      v.plan = .verified r y → v.frm.sa = some k → s.stale sl v k = false →
      Sa.valid (s.saAt sl k) = true → Sa.nextPn (s.saAt sl k) ≤ v.frm.pn → v.frm.pn ≠ Sa.highest (s.saAt sl k) →
      Sa.threshHit (s.saAt sl k) = true →
      Completes (.openRelease sl caught) s fun t =>
        mget [] t.eng.verify (pipeKey sl .open) = rest ∧
        t.saAt sl k = Sa.setNextPn (s.saAt sl k) (v.frm.pn + 1) ∧
        mget 0 t.asc.cnt (ackey 3 sl k ACtr.IN_PKTS_OK) = (mget 0 s.asc.cnt (ackey 3 sl k ACtr.IN_PKTS_OK) + 1) % 2 ^ 64) ∧
    (∀ j wait f u, Serves s sl .open (mget [] s.eng.verify (pipeKey sl .open)).length f u → s.shadow = false →
      s.clientFault f.outPort = false → f.tag = none →
      Completes (.openDequeue sl j wait) s fun t =>
        ∃ e : Egress, t.egressAt sl .open = s.egressAt sl .open ++ [e] ∧ e.frm = f ∧ e.bytes = padFrame f.bytes ∧
          e.cut = none ∧ e.todo = true ∧ e.start + 96 ≤ e.enter ∧ e.enter ≤ e.start + 160 ∧ t.wire = s.wire ∧
          mget [] t.tm.leaving (pkey sl .open 0) = mget [] s.tm.leaving (pkey sl .open 0) ++ [f]) ∧
    (∀ e c, s.egressAt sl .open = [e] → e.frm.tag = none → e.cut = none → e.enter + e.words ≤ c →
      (e.todo = false ∨ e.frm.plain = true ∨ ptpAt e.frm.bytes = none) →
      s.forms e.frm.outPort = true → s.laneLoop e.frm.outPort = 0 →
      let t := openEgress sl c s; t.wire = s.wire ++ [.frame e.frm.outPort e.bytes] ∧ t.egressAt sl .open = []) ∧
    (∀ j ev f u, Serves s sl .seal 0 f u → s.shadow = false → s.plainOk sl f.node = true → f.plain = true → f.tag = none →
      Completes (.sealDequeue sl j ev) s fun t =>
        ∃ e : Egress, t.egressAt sl .seal = s.egressAt sl .seal ++ [e] ∧ e.frm = f ∧ e.bytes = f.bytes ∧ e.cut = none ∧
          e.equal = [] ∧ e.wrong = [] ∧ e.enter = e.start + 384 ∧ t.wire = s.wire) ∧
    (∀ e c, s.egressAt sl .seal = [e] → e.frm.tag = none → e.cut = none → e.equal = [] → e.wrong = [] → e.count = none →
      e.enter + e.words ≤ c → s.plainOk sl e.frm.node = true →
      let t := sealEgress sl c s; t.wire = s.wire ++ [.mapped sl e.frm.node e.bytes false] ∧ t.egressAt sl .seal = [])

/-- R188 to R195: a frame that the sealing scheduler serves under an enabled SecY with a usable SA enters the egress segment as
the octets in the clear, the ciphertext, the ICV and a new FCS, and NEXT_PN rises by one. R20, R194: it leaves the line port
when its last word has entered the line PCS. R196, R197: a block that the cipher stage leaves equal to its plaintext cuts it
at the guard stage. -/
def Obligations.SealedFrameLeavesTheLine : Prop :=
  (∀ (s u : State) (sl j i y k pn : Nat) (f : Machine.Frm) (l : Layout) (key : KeyEntry) (iv : Bytes),
    Serves s sl .seal 0 f u → s.shadow = false → s.lineFault sl f.node = false → f.plain = false →
    ptpAt f.bytes = none → f.tag = none →
    f.secy = some i → s.secyAt sl i = some y → s.secyOn sl i = true →
    txSlot (s.txscAt sl i) (Txsc.encodingAn (s.txscAt sl i)) = some k → s.saBadAt sl k = false →
    s.saValid sl k = true → Sa.inUse (s.saAt sl k) = true → Sa.exhausted (s.saAt sl k) = false →
    Sa.nextPn (s.saAt sl k) = pn → pn ≠ Sa.highest (s.saAt sl k) → Sa.threshHit (s.saAt sl k) = true →
    s.sakLive sl (Sa.handle (s.saAt sl k)) = true → key = s.keyAt sl (handleIndex (Sa.handle (s.saAt sl k))) →
    l = layoutSeal y (Txsc.encodingAn (s.txscAt sl i)) pn f.ptp f.bytes →
    iv = ivOf y (s.saAt sl k) (Secy.sci y) pn →
    equalBlocks (keystream key.octets iv 0 ((l.p.length + 15) / 16)) = [] →
    Completes (.sealDequeue sl j {}) s fun t =>
      (∃ e : Egress, t.egressAt sl .seal = s.egressAt sl .seal ++ [e] ∧ e.bytes = withFcs (l.pre ++
        xorB l.p (keystream key.octets iv 0 ((l.p.length + 15) / 16)).flatten ++
        gcmTag key.octets key.h iv l.aad (xorB l.p (keystream key.octets iv 0 ((l.p.length + 15) / 16)).flatten)) ∧
        e.equal = [] ∧ e.wrong = [] ∧ e.cut = none ∧ e.count = some (k, l.n) ∧ e.enter = e.start + 384) ∧
      t.wire = s.wire ∧ t.saAt sl k = Sa.setNextPn (s.saAt sl k) (pn + 1)) ∧
  (∀ (s : State) (sl c k n : Nat) (e : Egress), s.egressAt sl .seal = [e] → s.otnMode sl = 0 → e.frm.tag = none →
    e.cut = none → e.equal = [] → e.wrong = [] → e.frm.plain = false → e.enter + e.words ≤ c → e.count = some (k, n) →
    s.forms (0x40 + 8 * sl + e.frm.node) = true → s.laneLoop (0x40 + 8 * sl + e.frm.node) = 0 →
    let t := sealEgress sl c s;
    t.wire = s.wire ++ [.frame (0x40 + 8 * sl + e.frm.node) e.bytes] ∧ t.egressAt sl .seal = [] ∧
    mget 0 t.asc.cnt (ackey 3 sl k (if e.frm.enc then ACtr.OUT_PKTS_ENCRYPTED else ACtr.OUT_PKTS_PROTECTED))
      = (mget 0 s.asc.cnt (ackey 3 sl k (if e.frm.enc then ACtr.OUT_PKTS_ENCRYPTED else ACtr.OUT_PKTS_PROTECTED)) + 1)
          % 2 ^ 64) ∧
  (∀ (s : State) (sl c b : Nat) (e : Egress), s.egressAt sl .seal = [e] → e.cut = none → e.equal = [b] → e.wrong = [] →
    e.start + 255 + b / 8 < c → c < e.enter + e.words → e.frm.tag = none → s.pipeState sl .seal = 0 →
    s.otnMode sl = 0 →
    let t := sealEgress sl c s;
    (∃ d : Egress, t.egressAt sl .seal = [d] ∧ d.cut = some (b / 8) ∧ d.bytes = e.bytes) ∧
    t.pipeState sl .seal = 1 ∧ t.checkAt sl .seal = some { pos := b % 8, start := s.ns })

/-- R207, R208, R212, R214: a core check starts, ends in a swap or in a transient, and a stopped pipe is retested. -/
def Obligations.CoreChecksRun : Prop :=
  ∀ (s : State) (sl : Nat) (open_ : Bool) (p : Pipe), p = pipeOf open_ → sl < 4 →
    (∀ pos c, s.sliceRuns sl = true → s.pipeState sl p = 0 → (s.roles sl p).contains 8 = true →
      s.auditCycle sl pos = some c →
      Completes (.auditMismatch sl open_ pos) s fun t =>
        t.pipeState sl p = 1 ∧ t.checkAt sl p = some { pos := pos, start := s.ns } ∧
        t.ob (pipeIx sl p) Sub.pipe_AUDIT_MISMATCHES = (s.ob (pipeIx sl p) Sub.pipe_AUDIT_MISMATCHES + 1) % 2 ^ 32) ∧
    (∀ pos, (s.sliceRuns sl = false ∨ s.pipeState sl p ≠ 0 ∨ s.auditCycle sl pos = none) →
      exec (.auditMismatch sl open_ pos) s = .next s) ∧
    (∀ c, s.checkAt sl p = some c → c.retest = false → c.pos < 8 → (s.roles sl p).contains 8 = true →
      mget [] s.eng.queue (pipeKey sl p) = [] →
      Completes (.coreCheckVerdict sl open_ false true) s fun t =>
        t.roles sl p = swapRole 8 c.pos (swapRole c.pos 0xFF (s.roles sl p)) ∧ t.pipeState sl p = 0 ∧
        t.checkAt sl p = none) ∧
    (∀ c, s.checkAt sl p = some c → c.retest = false → s.transientAgain sl p c.pos = false →
      (s.roles sl p).contains 8 = true → mget [] s.eng.queue (pipeKey sl p) = [] →
      Completes (.coreCheckVerdict sl open_ true true) s fun t =>
        t.roles sl p = s.roles sl p ∧ t.pipeState sl p = 0 ∧ t.checkAt sl p = none ∧
        mfind t.eng.transient (transKey sl p c.pos) = some s.time.periods) ∧
    (∀ c, Accepted s c (pipeIx sl p) Sub.pipe_CORE_RETEST 1 → s.ob (pipeIx sl p) Sub.pipe_RETEST_STATUS ≠ 1 →
      s.pipeState sl p = 2 →
      Completes (.coreRetest c sl open_) s fun t =>
        t.ob (pipeIx sl p) Sub.pipe_RETEST_STATUS = 1 ∧ t.pipeState sl p = 1 ∧
        t.checkAt sl p = some { retest := true, whole := true, start := s.ns } ∧
        Reports t c (pipeIx sl p) Sub.pipe_CORE_RETEST .ok) ∧
    (∀ c, Accepted s c (pipeIx sl p) Sub.pipe_CORE_RETEST 1 → s.ob (pipeIx sl p) Sub.pipe_RETEST_STATUS = 1 →
      exec (.coreRetest c sl open_) s = .next (s.refusing c (pipeIx sl p) Sub.pipe_CORE_RETEST .busy)) ∧
    (∀ c mask, s.checkAt sl p = some c → c.retest = true → c.whole = true → 8 ≤ passing mask →
      mget [] s.eng.queue (pipeKey sl p) = [] →
      Completes (.retestComplete sl open_ mask) s fun t =>
        t.roles sl p = assignRoles mask 9 0 ∧ t.ob (pipeIx sl p) Sub.pipe_RETEST_STATUS = 2 ∧ t.pipeState sl p = 0 ∧
        t.checkAt sl p = none)

/-- R237, R250: the four operations of the cue window on a transmit cue. R224, R226, R228, R234: a cue's time comes, a pending
cue switches the association key, and a watch retires the old one. -/
def Obligations.CuesSwitchKeys : Prop :=
  (∀ (s : State) (c : Caller) (sl i : Nat),
      (StartsIn s sl c (cwIx sl) Sub.cwWin_CW_OP Sub.cwWin_CW_STATUS 1 → s.cwTable sl = 0 → s.cwIndex sl = i → i < 2048 →
        Operates (.cwRead c sl) s fun t =>
          t.oct (cwIx sl) Sub.cwWin_CW_DATA = padTo 32 (be 20 (s.cueAt sl i)) ∧ t.cue = s.cue ∧
          Ends t c (cwIx sl) Sub.cwWin_CW_OP Sub.cwWin_CW_STATUS .ok) ∧
      (∀ img, StartsIn s sl c (cwIx sl) Sub.cwWin_CW_OP Sub.cwWin_CW_STATUS 2 → s.cwTable sl = 0 → s.cwIndex sl = i →
        i < 2048 → img = fld (s.oct (cwIx sl) Sub.cwWin_CW_DATA) 0 20 → Cue.state (s.cueAt sl i) ≠ 1 →
        Cue.state (s.cueAt sl i) ≠ 2 → (s.secyAt sl i).isSome = true → Cue.trigger img = 0 →
        Cue.nextAn img ≠ Txsc.encodingAn (s.txscAt sl i) →
        Operates (.cwArm c sl) s fun t =>
          t.cueAt sl i = setBits (setBits (Cue.setState img 1) 152 150 0) 149 128 0 ∧
          cueFlag sl false i ∉ t.cue.posted ∧ cueFlag sl false i ∉ t.cue.fired ∧
          Ends t c (cwIx sl) Sub.cwWin_CW_OP Sub.cwWin_CW_STATUS .ok) ∧
      (StartsIn s sl c (cwIx sl) Sub.cwWin_CW_OP Sub.cwWin_CW_STATUS 2 → s.cwTable sl = 0 → s.cwIndex sl = i →
        i < 2048 → (Cue.state (s.cueAt sl i) = 1 ∨ Cue.state (s.cueAt sl i) = 2) →
        Operates (.cwArm c sl) s fun t => t.cue = s.cue ∧
          Ends t c (cwIx sl) Sub.cwWin_CW_OP Sub.cwWin_CW_STATUS .busy) ∧
      (StartsIn s sl c (cwIx sl) Sub.cwWin_CW_OP Sub.cwWin_CW_STATUS 3 → s.cwTable sl = 0 → s.cwIndex sl = i →
        i < 2048 → (Cue.state (s.cueAt sl i) = 1 ∨ Cue.state (s.cueAt sl i) = 2) →
        Operates (.cwCancel c sl) s fun t =>
          t.cueAt sl i = Cue.setState (s.cueAt sl i) 5 ∧
          t.ob (cueIx sl) Sub.cue_LOG_HEAD = (s.ob (cueIx sl) Sub.cue_LOG_HEAD + 1) % 2 ^ 32 ∧
          Ends t c (cwIx sl) Sub.cwWin_CW_OP Sub.cwWin_CW_STATUS .ok) ∧
      (StartsIn s sl c (cwIx sl) Sub.cwWin_CW_OP Sub.cwWin_CW_STATUS 4 → s.cwTable sl = 0 → s.cwIndex sl = i →
        i < 2048 → (Cue.state (s.cueAt sl i) = 1 ∨ Cue.state (s.cueAt sl i) = 2) →
        Operates (.cwFire c sl) s fun t =>
          t.cueAt sl i = Cue.setState (s.cueAt sl i) 2 ∧ cueFlag sl false i ∈ t.cue.fired ∧
          Ends t c (cwIx sl) Sub.cwWin_CW_OP Sub.cwWin_CW_STATUS .ok)) ∧
  (∀ (s : State) (sl i : Nat),
      (∀ q, s.cueAt sl i = q → Cue.state q = 1 → Cue.trigger q = 2 → reached s.ns (Cue.time q) = true →
        s.shadow = false → s.sliceRuns sl = true → (s.putCue sl i (Cue.setState q 2)).cueReady sl i = true →
        Completes (.cueTimeTrigger sl false i) s fun t => t.cueAt sl i = Cue.setState q 2 ∧ t.asc = s.asc) ∧
      (∀ j q sc new, s.shadow = false → s.sliceRuns sl = true → s.cuesOf sl = [i] → s.cueAt sl i = q → Cue.state q = 2 →
        s.cueReady sl i = true → s.commitsIn sl (s.cyc sl + j % cyclesPer8 (s.pointOf sl)) < 4 → s.txscAt sl i = sc →
          Txsc.slot sc (Cue.nextAn q) % 2 ^ 14 = new →
        txSlot sc (Txsc.encodingAn sc) ≠ some new →
        Completes (.cueSwitch sl j) s fun t =>
          t.txscAt sl i = setBits sc 67 66 (Cue.nextAn q) ∧ t.saAt sl new = setInUse (s.saAt sl new) true ∧
          (∀ k, txSlot sc (Txsc.encodingAn sc) = some k → s.saValid sl k = true →
            t.saAt sl k = setInUse (s.saAt sl k) false) ∧
          t.cueAt sl i = setBits (Cue.setState q 4) 152 151 (Txsc.encodingAn sc)) ∧
      (∀ j, s.shadow = false → s.sliceRuns sl = true → s.cuesOf sl = [i] → Cue.state (s.cueAt sl i) = 2 →
        s.cueReady sl i = true → 4 ≤ s.commitsIn sl (s.cyc sl + j % cyclesPer8 (s.pointOf sl)) →
        exec (.cueSwitch sl j) s = .next s) ∧
      (∀ w k, s.watchAt sl i = w → Watch.state w = 2 → rxSlot (s.rxscAt sl i) (Watch.oldAn w) = some k →
        s.saValid sl k = true → s.past (Timer.retire sl i) (1000000 * s.retireMs sl i) = true →
        Completes (.retireDelayEnd sl i) s fun t =>
          t.watchAt sl i = Watch.setState w 0 ∧ t.saAt sl k = setInUse (s.saAt sl k) false ∧
          t.ob (cueIx sl) Sub.cue_RX_RETIRED = (s.ob (cueIx sl) Sub.cue_RX_RETIRED + 1) % 2 ^ 32) ∧
      (s.past (Timer.retire sl i) (1000000 * s.retireMs sl i) = false → exec (.retireDelayEnd sl i) s = .next s))

/-- R256, R257: a level is accepted at the third FAS in a row, a ninth candidate is counted and ignored, and five wrong frames
lose it. R254, R259, R260: block lock and its loss, and a defect that is declared or cleared with its consequent actions. -/
def Obligations.OtnFramesAndDefects : Prop :=
  (∀ (s : State) (sl i : Nat) (f : OduFrame) (v : FrameLevel),
      s.otnMode sl ≠ 0 → s.sliceHears sl = true → s.groupHears sl = true →
      (∀ j ∈ s.levelLanes sl i, s.laneTurns (0x40 + 8 * sl + j) = false) → s.levelAt sl i = v →
      (i < 8 ∧ i < s.otnN sl ∧ s.deskewed sl i = true ∨ 8 ≤ i ∧ i < 16 ∧ s.tribOn sl (i - 8) = true) → f.gid = none →
      (∀ p m, v.pos = none → v.cands = [(p, m, 2)] → f.hits = [(p, (m + 1) % 256)] →
        Completes (.oduFrameReceived sl i f) s fun t =>
          (t.levelAt sl i).pos = some p ∧ (t.levelAt sl i).mfas = ((m + 1) % 256 + 1) % 256 ∧ t.wire = s.wire) ∧
      (∀ p m, v.pos = none → v.cands.length = 8 → (∀ c ∈ v.cands, p < c.1) → f.hits = [(p, m)] →
        Completes (.oduFrameReceived sl i f) s fun t =>
          t.ob (otnIx sl) Sub.otn_FA_CAND_OVERFLOW = (s.ob (otnIx sl) Sub.otn_FA_CAND_OVERFLOW + 1) % 2 ^ 32) ∧
      (∀ p, v.pos = some p → v.fasBad = 4 → (∀ h ∈ f.hits, h.1 ≠ p) →
        Completes (.oduFrameReceived sl i f) s fun t => (t.levelAt sl i).pos = none ∧ t.wire = s.wire)) ∧
  (∀ (s : State) (sl : Nat), sl < 4 →
      (∀ lane skew, s.sliceHears sl = true → s.rxEffective (0x40 + (8 * sl + lane)) = 2 →
        s.laneTurns (0x40 + (8 * sl + lane)) = false → 8 * sl + lane ∉ s.otn.locked →
        Completes (.blockLockChange sl lane (List.replicate 64 true) skew) s fun t =>
          8 * sl + lane ∈ t.otn.locked ∧ mget 0 t.otn.skew (8 * sl + lane) = skew ∧ t.dict = s.dict ∧ t.wire = s.wire) ∧
      (∀ lane heads skew, (s.sliceHears sl = false ∨ s.rxEffective (0x40 + (8 * sl + lane)) ≠ 2) →
        exec (.blockLockChange sl lane heads skew) s = .next s) ∧
      (∀ lane skew n, s.sliceHears sl = true → s.rxEffective (0x40 + (8 * sl + lane)) = 2 → 8 * sl + lane ∉ s.otn.locked →
        mget [] s.otn.heads (8 * sl + lane) = [] → n < 64 →
        Completes (.blockLockChange sl lane (List.replicate n true) skew) s fun t =>
          8 * sl + lane ∉ t.otn.locked ∧ t.dict = s.dict ∧ t.wire = s.wire) ∧
      (∀ lane skew, s.sliceHears sl = true → s.rxEffective (0x40 + (8 * sl + lane)) = 2 →
        s.laneTurns (0x40 + (8 * sl + lane)) = false → s.otnMode sl ≠ 0 → lane ∈ s.carrierLanes sl →
          8 * sl + lane ∈ s.otn.locked →
        Completes (.blockLockChange sl lane (List.replicate 16 false) skew) s fun t =>
          8 * sl + lane ∉ t.otn.locked ∧ t.sliceDefect sl 0 = true ∧ t.bdiSent sl 0 = true ∧
          ∀ k, k < 8 → s.tribOn sl k = true → t.tribDefect sl k 2 = true) ∧
      (∀ b, s.otnMode sl ≠ 0 → s.sliceHears sl = true → s.persists sl none b true = true →
        Completes (.otnDefectDeclare sl none b) s fun t => t.sliceDefect sl b = true) ∧
      (∀ b, s.otnMode sl ≠ 0 → s.sliceHears sl = true → s.persists sl none b false = true →
        Completes (.otnDefectClear sl none b) s fun t => t.sliceDefect sl b = false) ∧
      (∀ k b, k < 8 → s.otnMode sl ≠ 0 → s.sliceHears sl = true → s.persists sl (some k) b true = true →
        Completes (.otnDefectDeclare sl (some k) b) s fun t => t.tribDefect sl k b = true ∧ t.tsf sl k = true) ∧
      (∀ k b, k < 8 → s.otnMode sl ≠ 0 → s.sliceHears sl = true → s.persists sl (some k) b false = true →
        Completes (.otnDefectClear sl (some k) b) s fun t => t.tribDefect sl k b = false))

/-- R263, R264: the one-second edge latches the counts of the second, once for each change of the seconds field. R317, R318,
R320: the PPS_OUT pulse ends, a selected PPS_IN edge is captured or counted as a glitch, and a lane's lock moves the SyncE
source. -/
def Obligations.TimePinsWork : Prop :=
  (∀ (s : State),
      (s.seconds ≠ s.otn.second →
        Completes .oneSecondEdge s fun t =>
          t.otn.second = s.seconds ∧ t.otn.pm = [] ∧ t.otn.edge = s.ns ∧
          ∀ sl, sl < 4 → s.sliceOn sl = true →
            t.ob (pmIx sl) Sub.tribPm_NE_EB_LAST = mget 0 s.otn.pm (skey sl 0) % 2 ^ 32 ∧
            t.ob (pmIx sl) Sub.tribPm_FE_EB_LAST = mget 0 s.otn.pm (skey sl 1) % 2 ^ 32 ∧
            t.ob (pmIx sl) Sub.tribPm_PM_SEQ = (s.ob (pmIx sl) Sub.tribPm_PM_SEQ + 1) % 2 ^ 32) ∧
      (s.seconds = s.otn.second → exec .oneSecondEdge s = .next s)) ∧
  (∀ (s : State),
      (s.ob 0x3A01 Sub.pps_PPS_OUT_WIDTH_NS * 2 ^ 32 ≤ s.time.ppsHigh + 5 * s.time.incr →
        Completes .ppsOutPulseEnd s fun t => t.time.ppsOut = false ∧ t.dict = s.dict ∧ t.wire = s.wire) ∧
      (s.time.ppsHigh + 5 * s.time.incr < s.ob 0x3A01 Sub.pps_PPS_OUT_WIDTH_NS * 2 ^ 32 →
        exec .ppsOutPulseEnd s = .next s) ∧
      (∀ falling lag cap, s.obB 0x3A01 Sub.pps_PPS_IN_ENABLE = true → s.obB 0x3A01 Sub.pps_PPS_IN_EDGE = falling →
        cap = timePlus (timeMinus s.time.now (lag * 2 ^ 24)) (-(s.obInt 4 0x3A01 Sub.pps_PPS_IN_DELAY_NS)) / 2 ^ 24 * 2 ^ 24 →
        s.time.lastPps = none →
        Completes (.ppsInEdge falling lag) s fun t =>
          t.time.lastPps = some cap ∧ t.oct 0x3A01 Sub.pps_PPS_IN_TIME = clockBytes cap ∧
          t.ob 0x3A01 Sub.pps_PPS_IN_EPOCH = s.ob 0x3A00 Sub.clock_STEP_EPOCH ∧
          t.ob 0x3A01 Sub.pps_PPS_IN_COUNT = (s.ob 0x3A01 Sub.pps_PPS_IN_COUNT + 1) % 2 ^ 32) ∧
      (∀ falling lag cap p, s.obB 0x3A01 Sub.pps_PPS_IN_ENABLE = true → s.obB 0x3A01 Sub.pps_PPS_IN_EDGE = falling →
        cap = timePlus (timeMinus s.time.now (lag * 2 ^ 24)) (-(s.obInt 4 0x3A01 Sub.pps_PPS_IN_DELAY_NS)) / 2 ^ 24 * 2 ^ 24 →
        s.time.lastPps = some p → 0 ≤ timeDiff cap p → timeDiff cap p < 500000000 * 2 ^ 32 →
        Completes (.ppsInEdge falling lag) s fun t =>
          t.time = s.time ∧ t.ob 0x3A01 Sub.pps_PPS_IN_GLITCH = (s.ob 0x3A01 Sub.pps_PPS_IN_GLITCH + 1) % 2 ^ 32) ∧
      (∀ falling lag, s.obB 0x3A01 Sub.pps_PPS_IN_EDGE ≠ falling → exec (.ppsInEdge falling lag) s = .next s) ∧
      (∀ m, m < 0x60 → s.ob 0x3A02 Sub.syncE_SYNCE_SRC = m → s.rxEffective m = 2 →
        Completes (.synceSourceSwitch m true true) s fun t =>
          t.ob 0x3A02 Sub.syncE_SYNCE_ACTIVE = 1 ∧ t.ob (Ix.lane m) Sub.lane_CDR_LOCK = 1 ∧
          t.ob (Ix.lane m) Sub.lane_SIGNAL_DETECT = 1 ∧ t.ob (Ix.lane m) Sub.lane_LOS = 0 ∧
          t.wire = s.wire ++ (if t.synceOut = s.synceOut then [] else [.synce t.synceOut])) ∧
      (∀ m signal locked, m < 0x60 → s.rxEffective m ≠ 2 →
        Completes (.synceSourceSwitch m signal locked) s fun t =>
          t.ob (Ix.lane m) Sub.lane_CDR_LOCK = 0 ∧
          t.ob (Ix.lane m) Sub.lane_SIGNAL_DETECT = (signal && s.rxEffective m != 0).toNat) ∧
      (∀ m b, m < 0x60 → s.ob 0x3A02 Sub.syncE_SYNCE_SRC = m → s.ob 0x3A02 Sub.syncE_SYNCE_SRC_BACKUP = b → b ≠ m →
        s.laneLocked b = true →
        ∀ locked, Completes (.synceSourceSwitch m false locked) s fun t => t.ob 0x3A02 Sub.syncE_SYNCE_ACTIVE = 2) ∧
      (∀ m, m < 0x60 → s.ob 0x3A02 Sub.syncE_SYNCE_SRC = m → s.ob 0x3A02 Sub.syncE_SYNCE_SRC_BACKUP = 0xFF →
        s.obB 0x3A02 Sub.syncE_SYNCE_SQUELCH = true →
        ∀ locked, Completes (.synceSourceSwitch m false locked) s fun t => t.ob 0x3A02 Sub.syncE_SYNCE_ACTIVE = 3))

/-- R265, R266, R288: a tributary is enabled when the checks of R266 hold and refused RANGE when they do not; its disabling
waits for a counting cue. -/
def Obligations.TributariesStartAndStop : Prop :=
  ∀ (s : State) (c : Caller) (sl k : Nat), sl < 4 → k < 8 →
    (Accepted s c (tribIx sl k) Sub.trib_TRIB_ENABLE 1 → s.tribOn sl k = false → mfind s.otn.cmWait sl = none →
      s.blockHeld 3 sl = false → s.blockHeld 0 sl = false → s.gated sl = false →
      (s.tribCheck false sl k = true →
        Completes (.tribEnable c sl k 1) s fun t =>
          t.tribOn sl k = true ∧ .oduAis sl k ∈ t.wire ∧
          t.ob (tribIx sl k) Sub.trib_MAC_RATE =
            tribRate (s.ob (tribIx sl k) Sub.trib_TRIB_TYPE) (s.ob (tribIx sl k) Sub.trib_TRIB_SLOTS) ∧
          Reports t c (tribIx sl k) Sub.trib_TRIB_ENABLE .ok) ∧
      (s.tribCheck false sl k = false →
        exec (.tribEnable c sl k 1) s = .next (s.refusing c (tribIx sl k) Sub.trib_TRIB_ENABLE .range))) ∧
    (Accepted s c (tribIx sl k) Sub.trib_TRIB_ENABLE 0 → s.tribOn sl k = true → Cue.state (s.tribCueAt sl k) ≠ 3 →
      Completes (.tribEnable c sl k 0) s fun t =>
        t.tribOn sl k = false ∧ t.ob (tribIx sl k) Sub.trib_MAC_RATE = 0 ∧ t.ob (tribIx sl k) Sub.trib_DEFECTS = 0 ∧
        t.ob (soduIx sl k) Sub.sodu_RX_STATE = 0 ∧ Reports t c (tribIx sl k) Sub.trib_TRIB_ENABLE .ok) ∧
    (Accepted s c (tribIx sl k) Sub.trib_TRIB_ENABLE 0 → s.tribOn sl k = true → Cue.state (s.tribCueAt sl k) = 3 →
      exec (.tribEnable c sl k 0) s = .next (s.refusing c (tribIx sl k) Sub.trib_TRIB_ENABLE .busy))

/-- R265, R273 to R275, R279 to R281: a plain tributary's ODU carries what its mapper forms, in the clear; a sealed one's leaves
as the ciphertext under the sealing overhead, with MFN one higher (R282: as the takeover advanced it, in the first after
one) and its tag kept for the next multiframe. R283, R285 to R287: a multiframe in LOCKED is opened, one outside it is
counted, and a multiframe's tag is checked against the one computed. -/
def Obligations.SealedMultiframesPass : Prop :=
  (∀ (s : State) (sl k jc : Nat),
      s.tribOn sl k = true → s.sliceRuns sl = true → s.blockHeld 3 sl = false → s.standby = false →
      (s.held = false → s.ob (tribIx sl k) Sub.trib_TRIB_MODE = 0 →
        Completes (.multiframeBoundary sl k jc) s fun t =>
          t.wire = s.wire ++ [.multiframe sl k (s.oduHead sl k jc) (zeros 1536) (s.mapOpu sl k jc).1] ∧
          mfind t.otn.sending (skey sl k) = some (some (s.oduHead sl k jc, zeros 1536, (s.mapOpu sl k jc).1)) ∧
          (s.pointHold sl = false → mget [] t.otn.mapping (skey sl k) = [])) ∧
      (s.held = true → s.ob (tribIx sl k) Sub.trib_TRIB_MODE = 0 →
        Completes (.multiframeBoundary sl k jc) s fun t =>
          t.wire = s.wire ++ [.oduAis sl k] ∧ mfind t.otn.sending (skey sl k) = none) ∧
      (∀ ph q key h payload, s.held = false → payload = (s.mapOpu sl k jc).1 → s.ob (tribIx sl k) Sub.trib_TRIB_MODE ≠ 0 →
        s.shadow = false → s.ob (soduIx sl k) Sub.sodu_TX_PHASE = ph →
        s.tribCueAt sl k = q → Cue.state q ≠ 3 → s.cue.faulted.contains (skey sl k) = false →
        s.otn.begun.contains (skey sl k) = true → s.oduLive sl (s.txKey sl k ph) = true →
        key = s.keyAt sl (handleIndex (s.txKey sl k ph)) →
        h = ⟨if s.otn.taken.contains (skey sl k) then s.ob (soduIx sl k) Sub.sodu_TX_MFN
          else (s.ob (soduIx sl k) Sub.sodu_TX_MFN + 1) % 2 ^ 64, ph, s.txIndex sl k ph, s.epochWord sl k ph⟩ →
        Completes (.multiframeBoundary sl k jc) s fun t =>
          t.wire = s.wire ++ [.multiframe sl k (s.oduHead sl k jc)
            (sealOverhead (Cue.countdown q) (Cue.nextIndex q) (s.epochWord sl k (1 - ph))
              (mget (zeros 16) s.otn.sentTag (skey sl k)) h)
            (gcmCrypt key.octets (sealIv h) payload)] ∧
          t.ob (soduIx sl k) Sub.sodu_TX_MFN = h.mfn ∧
          mfind t.otn.sentTag (skey sl k) = some (gcmTag key.octets key.h (sealIv h)
            (sealA (s.ob (soduIx sl k) Sub.sodu_CONTEXT_ID) h) (gcmCrypt key.octets (sealIv h) payload)))) ∧
  (∀ (s : State) (sl k : Nat) (oh : Bytes), sl < 4 → k < 8 → s.tribOn sl k = true → s.sliceHears sl = true →
      s.groupHears sl = true → s.nearLoop (0x40 + 8 * sl + k) = false →
      (∀ c h key, s.blockHeld 3 sl = false → s.ob (tribIx sl k) Sub.trib_TRIB_MODE ≠ 0 → (s.rxAt sl k).due = none →
        s.ob (soduIx sl k) Sub.sodu_RX_STATE = 2 → (s.rxAt sl k).head = some h → s.oduLive sl (s.rxKey sl k h.phase) = true →
        key = s.keyAt sl (handleIndex (s.rxKey sl k h.phase)) → s.tsf sl k = false →
        Completes (.soduMultiframeReceived sl k oh c) s fun t =>
          .demapped sl k (gcmCrypt key.octets (sealIv h) c) ∈ t.wire) ∧
      (∀ c, s.blockHeld 3 sl = false → s.ob (tribIx sl k) Sub.trib_TRIB_MODE ≠ 0 → (s.rxAt sl k).due = none →
        s.ob (soduIx sl k) Sub.sodu_RX_STATE ≠ 2 →
        Completes (.soduMultiframeReceived sl k oh c) s fun t =>
          mget 0 t.cnt (Ctr.port (0x40 + 8 * sl + k) + Ctr.SODU_UNLOCKED_MF) =
            (mget 0 s.cnt (Ctr.port (0x40 + 8 * sl + k) + Ctr.SODU_UNLOCKED_MF) + 1) % 2 ^ 64) ∧
      (∀ h tag, (s.rxAt sl k).due = some (h, tag) → sdwRange oh 0 8 = some tag →
        Completes (.soduTagCheck sl k oh) s fun t =>
          (t.rxAt sl k).due = none ∧
          t.oct (soduIx sl k) Sub.sodu_RX_LAST_GOOD =
            patch (s.oct (soduIx sl k) Sub.sodu_RX_LAST_GOOD) (12 * h.phase) (sealIv h) ∧
          t.cnt = mset 0 s.cnt (Ctr.port (0x40 + 8 * sl + k) + Ctr.SODU_MF_OK)
            ((mget 0 s.cnt (Ctr.port (0x40 + 8 * sl + k) + Ctr.SODU_MF_OK) + 1) % 2 ^ 64)) ∧
      (∀ h tag b, (s.rxAt sl k).due = some (h, tag) → sdwRange oh 0 8 = some b → b ≠ tag →
        Completes (.soduTagCheck sl k oh) s fun t =>
          (t.rxAt sl k).due = none ∧
          t.cnt = mset 0 s.cnt (Ctr.port (0x40 + 8 * sl + k) + Ctr.SODU_TAG_FAIL)
            ((mget 0 s.cnt (Ctr.port (0x40 + 8 * sl + k) + Ctr.SODU_TAG_FAIL) + 1) % 2 ^ 64)))

/-- R268 to R272, R292: the connection-memory window reads and writes an entry, and a switch waits for its boundary, where the
standby page becomes active. -/
def Obligations.ConnectionMemoryWorks : Prop :=
  ∀ (s : State) (c : Caller) (sl dir page slot e : Nat),
    s.ob (cmIx sl) Sub.cmWin_CM_DIR = dir → s.ob (cmIx sl) Sub.cmWin_CM_PAGE = page →
    s.ob (cmIx sl) Sub.cmWin_CM_SLOT = slot → s.ob (cmIx sl) Sub.cmWin_CM_ENTRY = e →
    (StartsIn s sl c (cmIx sl) Sub.cmWin_CM_OP Sub.cmWin_CM_STATUS 1 → slot < 20 * s.otnN sl →
      Operates (.cmRead c sl) s fun t =>
        t.ob (cmIx sl) Sub.cmWin_CM_ENTRY = s.cmEntry sl dir page slot ∧ t.otn = s.otn ∧
        Ends t c (cmIx sl) Sub.cmWin_CM_OP Sub.cmWin_CM_STATUS .ok) ∧
    (StartsIn s sl c (cmIx sl) Sub.cmWin_CM_OP Sub.cmWin_CM_STATUS 2 → slot < 20 * s.otnN sl → bits e 11 8 = 0 →
      bits e 7 0 ≤ 159 → mfind s.otn.cmWait sl ≠ some dir → page = 1 - s.cmActive sl dir →
      Operates (.cmWrite c sl) s fun t =>
        t.cmEntry sl dir page slot = e ∧
        t.cmEntry sl dir (s.cmActive sl dir) slot = s.cmEntry sl dir (s.cmActive sl dir) slot ∧
          Ends t c (cmIx sl) Sub.cmWin_CM_OP Sub.cmWin_CM_STATUS .ok) ∧
    (StartsIn s sl c (cmIx sl) Sub.cmWin_CM_OP Sub.cmWin_CM_STATUS 2 → slot < 20 * s.otnN sl → bits e 11 8 = 0 →
      bits e 7 0 ≤ 159 → (mfind s.otn.cmWait sl = some dir ∨ page ≠ 1 - s.cmActive sl dir) →
      Operates (.cmWrite c sl) s fun t =>
        t.otn = s.otn ∧ Ends t c (cmIx sl) Sub.cmWin_CM_OP Sub.cmWin_CM_STATUS .busy) ∧
    (StartsIn s sl c (cmIx sl) Sub.cmWin_CM_OP Sub.cmWin_CM_STATUS 3 →
      (∀ k, k < 8 → s.tribOn sl k = true → s.pageGives sl dir (1 - s.cmActive sl dir) k = true) →
      Operates (.cmSwitch c sl) s fun t =>
        mfind t.otn.cmWait sl = some dir ∧ t.winBusy (cmIx sl) Sub.cmWin_CM_STATUS = true ∧
        Ends t c (cmIx sl) Sub.cmWin_CM_OP Sub.cmWin_CM_STATUS .busy) ∧
    (∀ d a, sl < 4 → mfind s.otn.cmWait sl = some d → s.ob (cmIx sl) Sub.cmWin_CM_ACTIVE = a →
      Completes (.cmSwitchApply sl) s fun t =>
        t.ob (cmIx sl) Sub.cmWin_CM_ACTIVE = setBit a d (!bit a d) ∧ mfind t.otn.cmWait sl = none ∧
        t.ob (cmIx sl) Sub.cmWin_CM_STATUS = Status.ok.code ∧ t.winBusy (cmIx sl) Sub.cmWin_CM_STATUS = false)

/-- R297, R299, R300, R301: a step is committed and locks the clock, is applied at its boundary, a second step is BUSY, and the
rate written takes effect at its boundary. -/
def Obligations.ClockStepsAndRate : Prop :=
  ∀ (s : State) (c : Caller),
    (Starts s c 0x3A00 Sub.clock_TIME_OP Sub.clock_TIME_STATUS 1 → s.time.locked = false →
      Operates (.timeStepSet c) s fun t =>
        t.time = { s.time with locked := true, step := some (1,
          ((fld (s.oct 0x3A00 Sub.clock_STEP_TIME) 0 6 * 10 ^ 9 + fld (s.oct 0x3A00 Sub.clock_STEP_TIME) 6 4 : Nat) : Int)) } ∧
        Ends t c 0x3A00 Sub.clock_TIME_OP Sub.clock_TIME_STATUS .busy) ∧
    (Starts s c 0x3A00 Sub.clock_TIME_OP Sub.clock_TIME_STATUS 2 → s.time.locked = false →
      Operates (.timeStepOffset c) s fun t =>
        t.time = { s.time with locked := true, step := some (2, s.obInt 8 0x3A00 Sub.clock_STEP_OFFSET_NS) } ∧
        Ends t c 0x3A00 Sub.clock_TIME_OP Sub.clock_TIME_STATUS .busy) ∧
    (Starts s c 0x3A00 Sub.clock_TIME_OP Sub.clock_TIME_STATUS 1 → s.time.locked = true →
      Operates (.timeStepSet c) s fun t => t.time = s.time ∧
        Ends t c 0x3A00 Sub.clock_TIME_OP Sub.clock_TIME_STATUS .busy ∧
        t.winBusy 0x3A00 Sub.clock_TIME_STATUS = false) ∧
    (Starts s c 0x3A00 Sub.clock_TIME_OP Sub.clock_TIME_STATUS 3 →
      Operates (.timeUnlock c) s fun t => t.time = { s.time with locked := false } ∧
        Ends t c 0x3A00 Sub.clock_TIME_OP Sub.clock_TIME_STATUS .ok) ∧
    (∀ op arg, s.time.step = some (op, arg) →
      Completes .timeStepApply s fun t =>
        t.time.now = steppedClock op arg s.time.now ∧ t.time.step = none ∧
        t.ob 0x3A00 Sub.clock_STEP_EPOCH = (s.ob 0x3A00 Sub.clock_STEP_EPOCH + 1) % 2 ^ 8 ∧
        t.ob 0x3A00 Sub.clock_STEP_COUNT = (s.ob 0x3A00 Sub.clock_STEP_COUNT + 1) % 2 ^ 32 ∧
        t.ob 0x3A00 Sub.clock_LAST_STEP_NS = ofInt 8 (stepSize op arg s.time.now) ∧
        t.ob 0x3A00 Sub.clock_TIME_STATUS = Status.ok.code) ∧
    (∀ v, Accepted s c 0x3A00 Sub.clock_INCR v → incrOk v = true →
      Completes (.incrWrite c v) s fun t =>
        t.time = { s.time with incrNext := some v } ∧ t.ob 0x3A00 Sub.clock_INCR = v ∧
        Reports t c 0x3A00 Sub.clock_INCR .ok) ∧
    (∀ v, Accepted s c 0x3A00 Sub.clock_INCR v → incrOk v = false →
      exec (.incrWrite c v) s = .next (s.refusing c 0x3A00 Sub.clock_INCR .range)) ∧
    (∀ v, s.time.incrNext = some v →
      Completes .incrApply s fun t =>
        t = { s with time := { s.time with incr := v, incrNext := none, past := t.time.past } })

/-- R341, R346, R347: the custody window unwraps a blob into its place, names the row that fails, wraps a key, and wraps a blob
anew. -/
def Obligations.CustodyUnwrapsAndWraps : Prop :=
  ∀ (s : State) (c : Caller) (blob : Bytes) (target h slot : Nat),
    s.oct kwIx Sub.kwWin_KW_BLOB = blob → s.ob kwIx Sub.kwWin_KW_TARGET = target →
    s.ob kwIx Sub.kwWin_KW_HANDLE = h → s.ob kwIx Sub.kwWin_KW_SLOT = slot →
    (∀ sl i k, Starts s c kwIx Sub.kwWin_KW_OP Sub.kwWin_KW_STATUS 1 → s.held = false → sl < 4 →
      s.unwrapRows (s.levelOf c) blob target = .ok (.entry sl i, k) →
      Operates (.kwUnwrap c) s fun t =>
        (t.keyAt sl i).valid = true ∧ (t.keyAt sl i).key = num (padTo 32 k) ∧
        (t.keyAt sl i).record = (metaOf blob).record ∧
        t.ob kwIx Sub.kwWin_KW_HANDLE = handleOf sl (s.keyAt sl i).gen i ∧
        mget 0 t.cnt (Ctr.device + Ctr.VAULT_UNWRAP_OK) = (mget 0 s.cnt (Ctr.device + Ctr.VAULT_UNWRAP_OK) + 1) % 2 ^ 64 ∧
        Ends t c kwIx Sub.kwWin_KW_OP Sub.kwWin_KW_STATUS .ok) ∧
    (∀ st, Starts s c kwIx Sub.kwWin_KW_OP Sub.kwWin_KW_STATUS 1 → s.held = false →
      s.unwrapRows (s.levelOf c) blob target = .error st →
      Operates (.kwUnwrap c) s fun t =>
        t.asc = s.asc ∧ t.vault.slots = s.vault.slots ∧ t.vault.bank = s.vault.bank ∧
        mget 0 t.cnt (Ctr.device + vaultCounter st) = (mget 0 s.cnt (Ctr.device + vaultCounter st) + 1) % 2 ^ 64 ∧
        Ends t c kwIx Sub.kwWin_KW_OP Sub.kwWin_KW_STATUS st) ∧
    (Starts s c kwIx Sub.kwWin_KW_OP Sub.kwWin_KW_STATUS 1 → s.held = true →
      Operates (.kwUnwrap c) s fun t =>
        t.asc = s.asc ∧ t.vault = s.vault ∧ t.cnt = s.cnt ∧
        Ends t c kwIx Sub.kwWin_KW_OP Sub.kwWin_KW_STATUS .denied) ∧
    (∀ m k, Starts s c kwIx Sub.kwWin_KW_OP Sub.kwWin_KW_STATUS 3 → s.vaultOpen (s.levelOf c) 1 = true →
      s.keyOf h = some (m, k) → s.mayWrap slot m.export_ = .ok →
      Operates (.kwWrap c) s fun t =>
        t.oct kwIx Sub.kwWin_KW_BLOB = s.makeBlob slot m k ∧ t.vault = s.vault ∧ t.asc = s.asc ∧
        Ends t c kwIx Sub.kwWin_KW_OP Sub.kwWin_KW_STATUS .ok) ∧
    (∀ k, Starts s c kwIx Sub.kwWin_KW_OP Sub.kwWin_KW_STATUS 4 → s.vaultOpen (s.levelOf c) 2 = true →
      s.rewrapRows (s.levelOf c) blob = .ok k → s.mayWrap slot (metaOf blob).export_ = .ok →
      Operates (.kwRewrap c) s fun t =>
        t.oct kwIx Sub.kwWin_KW_BLOB = s.makeBlob slot (metaOf blob) k ∧ t.vault = s.vault ∧ t.asc = s.asc ∧
        Ends t c kwIx Sub.kwWin_KW_OP Sub.kwWin_KW_STATUS .ok)

/-- R345, R348, R367: the custody window draws a key into its place, destroys a key that nothing names, clears a KEK slot, and
tells a key's record. -/
def Obligations.CustodyMakesAndDestroys : Prop :=
  ∀ (s : State) (c : Caller) (h : Nat), s.ob kwIx Sub.kwWin_KW_HANDLE = h →
    (∀ ty target ex sl i, Starts s c kwIx Sub.kwWin_KW_OP Sub.kwWin_KW_STATUS 2 → s.held = false → sl < 4 →
      s.ob kwIx Sub.kwWin_KW_TYPE = ty → s.ob kwIx Sub.kwWin_KW_TARGET = target → s.ob kwIx Sub.kwWin_KW_SLOT = 0xFF →
      s.ob kwIx Sub.kwWin_KW_EXPORT = ex → s.vaultOpen (s.levelOf c) (if ty = 4 then 2 else 1) = true →
      s.generateRows ty target 0xFF ex = .ok (.entry sl i) → s.drawsNow (blobKey ty) →
      Operates (.kwGenerate c) s fun t =>
        (t.keyAt sl i).valid = true ∧ (t.keyAt sl i).generated = true ∧
        (t.keyAt sl i).key = num (padTo 32 (s.nextDraw (blobKey ty))) ∧
        t.ob kwIx Sub.kwWin_KW_HANDLE = handleOf sl (s.keyAt sl i).gen i ∧
        t.ob vaultIx Sub.vault_KEYS_GENERATED = (s.ob vaultIx Sub.vault_KEYS_GENERATED + 1) % 2 ^ 32 ∧
        Ends t c kwIx Sub.kwWin_KW_OP Sub.kwWin_KW_STATUS .ok) ∧
    (∀ sl i e, Starts s c kwIx Sub.kwWin_KW_OP Sub.kwWin_KW_STATUS 5 → s.vaultOpen (s.levelOf c) 1 = true →
      s.handleHeld h = false → s.entryOf h = some (sl, i, e) → sl < 4 → e.refs = 0 → s.oduNames sl h = false →
      s.jobNames h = false →
      Operates (.kwDestroy c) s fun t =>
        t.keyAt sl i = e.freed ∧ t.vault = s.vault ∧ Ends t c kwIx Sub.kwWin_KW_OP Sub.kwWin_KW_STATUS .ok) ∧
    (∀ sl i e, Starts s c kwIx Sub.kwWin_KW_OP Sub.kwWin_KW_STATUS 5 → s.vaultOpen (s.levelOf c) 1 = true →
      s.handleHeld h = false → s.entryOf h = some (sl, i, e) → e.refs ≠ 0 →
      Operates (.kwDestroy c) s fun t =>
        t.asc = s.asc ∧ t.vault = s.vault ∧ Ends t c kwIx Sub.kwWin_KW_OP Sub.kwWin_KW_STATUS .busy) ∧
    (Starts s c kwIx Sub.kwWin_KW_OP Sub.kwWin_KW_STATUS 6 → s.vaultOpen (s.levelOf c) 2 = true → 3 ≤ bits h 5 0 →
      s.kekLive h = true →
      Operates (.kwKekClear c) s fun t =>
        t.kekAt (bits h 5 0) = { gen := nextGen (s.kekAt (bits h 5 0)).gen } ∧ t.asc = s.asc ∧
        Ends t c kwIx Sub.kwWin_KW_OP Sub.kwWin_KW_STATUS .ok) ∧
    (∀ sl i e, Starts s c kwIx Sub.kwWin_KW_OP Sub.kwWin_KW_STATUS 10 → s.vaultOpen (s.levelOf c) 1 = true →
      s.entryOf h = some (sl, i, e) →
      Operates (.kwInfo c) s fun t =>
        t.oct kwIx Sub.kwWin_KW_RECORD = be 24 e.record ∧ t.vault = s.vault ∧ t.asc = s.asc ∧
        Ends t c kwIx Sub.kwWin_KW_OP Sub.kwWin_KW_STATUS .ok)

/-- R350, R351, R357, R465: the custody window hands a migration's manifest and a quote to the engine; the engine's last
operation places the storage KEK or signs the quote, and a migration ends. -/
def Obligations.CustodyMigratesAndQuotes : Prop :=
  ∀ (s : State) (c : Caller) (m : Bytes) (h : Nat),
    s.oct kwIx Sub.kwWin_KW_BLOB = m → s.ob kwIx Sub.kwWin_KW_HANDLE = h →
    (Starts s c kwIx Sub.kwWin_KW_OP Sub.kwWin_KW_STATUS 7 → s.held = false → s.vaultOpen (s.levelOf c) 2 = true →
      (s.fuse.lc = 1 ∨ s.fuse.lc = 2) → manifestForm m = true → s.ke.queue = [] →
      Operates (.kwMigrate c) s fun t =>
        t.ke.queue = [⟨.ecVerify, .migrate (s.levelOf c) m, [.dsa87Verify], []⟩] ∧ t.vault = s.vault ∧
        Ends t c kwIx Sub.kwWin_KW_OP Sub.kwWin_KW_STATUS .busy) ∧
    (∀ level m', s.ke.queue = [⟨.dsa87Verify, .migrate level m', [], []⟩] → s.held = false → s.vaultOpen level 2 = true →
      (s.fuse.lc = 1 ∨ s.fuse.lc = 2) → manifestForm m' = true → s.migrateStatus m' = .ok → s.rst.coresHeld = false →
      Completes .pkeOperationComplete s fun t =>
        t.kekAt 1 = { valid := true, kind := 1, from_ := 0x3F, gen := (s.kekAt 1).gen,
                      kek := (s.storageKek (mfTo m')).getD 0, generated := true } ∧
        t.oct vaultIx Sub.vault_MIGRATE_TO = mfTo m' ∧
        t.ke.queue = [] ∧ t.ob keIx Sub.ke_PKE_OPS = (s.ob keIx Sub.ke_PKE_OPS + 1) % 2 ^ 64 ∧
        t.ob kwIx Sub.kwWin_KW_STATUS = Status.ok.code) ∧
    (Starts s c kwIx Sub.kwWin_KW_OP Sub.kwWin_KW_STATUS 8 → s.vaultOpen (s.levelOf c) 2 = true →
      Operates (.kwMigrateEnd c) s fun t =>
        (t.kekAt 1).valid = false ∧ t.oct vaultIx Sub.vault_MIGRATE_TO = zeros 48 ∧
        Ends t c kwIx Sub.kwWin_KW_OP Sub.kwWin_KW_STATUS .ok) ∧
    (∀ kind, Starts s c kwIx Sub.kwWin_KW_OP Sub.kwWin_KW_STATUS 9 → s.vaultOpen (s.levelOf c) 1 = true →
      quoteKind h = some kind → s.ke.queue = [] → s.drawsNow 64 →
      Operates (.kwQuote c) s fun t =>
        t.ke.queue = [⟨.ecSign, .quote h (s.oct kwIx Sub.kwWin_KW_NONCE) s.meas (s.ob vaultIx Sub.vault_SVN),
          [.dsaSign], []⟩] ∧
        t.ke.drawn = some (s.nextDraw 64) ∧ t.vault = s.vault ∧
        Ends t c kwIx Sub.kwWin_KW_OP Sub.kwWin_KW_STATUS .busy) ∧
    (∀ h' nonce meas svn a r u b, s.ke.queue = [⟨.dsaSign, .quote h' nonce meas svn, [], a⟩] → a.length = 64 →
      s.ke.drawn = some r →
      u = { s with vault := { s.vault with quotes := s.vault.quotes + 1 } } →
      b = u.quoteBody ((quoteKind h').getD 3) h' nonce meas svn → s.rst.coresHeld = false →
      Completes .pkeOperationComplete s fun t =>
        t.oct kwIx Sub.kwWin_KW_BLOB =
          b ++ (Config.ecdsaSign (s.aliasOf meas).1 b (num a) ++ Config.mldsaSign (s.aliasOf meas).2 b (num r)) ∧
        t.vault = u.vault ∧ t.ke.queue = [] ∧ t.ob kwIx Sub.kwWin_KW_STATUS = Status.ok.code)

/-- R360 to R363, R369: a ticket goes to the engine; one that passes destroys the keys, then writes the fuses, and then a system
reset follows; an OWNED unit draws a new Vigil secret, and the security-version floor rises to the version that runs. -/
def Obligations.LifeCycleMoves : Prop :=
  ∀ (s : State) (c : Caller) (ticket : Bytes), s.oct lcIx Sub.lcWin_LC_TICKET = ticket →
    (∀ lc, Starts s c lcIx Sub.lcWin_LC_OP Sub.lcWin_LC_STATUS 1 → (c ≠ .firmware ∨ s.fuse.lc ≠ 0) →
      (s.transitionCheck (s.levelOf c) ticket = .ok lc ∨ s.transitionCheck (s.levelOf c) ticket = .error .integrity) →
      s.ke.queue = [] →
      Operates (.lcTransition c) s fun t =>
        t.ke.queue = [⟨.ecVerify, .ticket (s.levelOf c) ticket,
          [if s.gizeltanSigns ticket then .dsa87Verify else .dsaVerify], []⟩] ∧
        t.fuse = s.fuse ∧ t.vault = s.vault ∧ Ends t c lcIx Sub.lcWin_LC_OP Sub.lcWin_LC_STATUS .busy) ∧
    (∀ op level ticket' lc, s.ke.queue = [⟨op, .ticket level ticket', [], []⟩] → op.draws = 0 →
      s.transitionCheck level ticket' = .ok lc → lc ≠ 2 →
      Completes .pkeOperationComplete s fun t =>
        t.fuse = { s.fuse with change := some ⟨lc, zeros 48, none, none, false⟩ } ∧ t.alm.vs = none ∧ t.asc.sa = [] ∧
        t.vault.jobs = [] ∧ t.vault.tokens = []) ∧
    (∀ op level ticket', s.ke.queue = [⟨op, .ticket level ticket', [], []⟩] → op.draws = 0 →
      s.transitionCheck level ticket' = .ok 2 → s.drawsNow 32 →
      Completes .pkeOperationComplete s fun t =>
        t.fuse = { s.fuse with change := some ⟨2, ticketOwner ticket', some (num (s.nextDraw 32)), none, false⟩ } ∧
        t.alm.vs = none ∧ t.asc.sa = []) ∧
    (∀ op level ticket', s.ke.queue = [⟨op, .ticket level ticket', [], []⟩] → op.draws = 0 →
      s.transitionCheck level ticket' = .error .integrity →
      Completes .pkeOperationComplete s fun t =>
        t.fuse = s.fuse ∧ t.vault = s.vault ∧ t.ob lcIx Sub.lcWin_LC_STATUS = Status.integrity.code) ∧
    (∀ x, s.fuse.change = some x → x.fused = false →
      let t := lcAdvance s;
      t.fuse.lc = x.lc ∧ t.alm.vs = x.vs ∧
        t.fuse.transfers = s.fuse.transfers + (if s.fuse.lc = 2 ∧ x.lc = 2 then 1 else 0) ∧
        (x.lc = 2 → t.fuse.owner = x.owner)) ∧
    (∀ x, s.fuse.change = some x → x.fused = true →
      lcAdvance s = systemReset 6 { s with fuse := { s.fuse with change := none } }) ∧
    (Starts s c lcIx Sub.lcWin_LC_OP Sub.lcWin_LC_STATUS 1 → c = .firmware → s.fuse.lc = 0 → s.drawsNow 32 →
      Operates (.lcTransition c) s fun t =>
        t.fuse = { s.fuse with change := some ⟨1, zeros 48, none, some (num (s.nextDraw 32)), false⟩ } ∧
        Ends t c lcIx Sub.lcWin_LC_OP Sub.lcWin_LC_STATUS .busy) ∧
    (∀ st, st ≠ .integrity → (c ≠ .firmware ∨ s.fuse.lc ≠ 0) → Starts s c lcIx Sub.lcWin_LC_OP Sub.lcWin_LC_STATUS 1 →
      s.transitionCheck (s.levelOf c) ticket = .error st →
      Operates (.lcTransition c) s fun t =>
        t.fuse = s.fuse ∧ t.vault = s.vault ∧ Ends t c lcIx Sub.lcWin_LC_OP Sub.lcWin_LC_STATUS st) ∧
    (Starts s c lcIx Sub.lcWin_LC_OP Sub.lcWin_LC_STATUS 2 → s.lcLevel (s.levelOf c) = true → s.alm.vs = none →
      s.fuse.lc = 2 → s.drawsNow 32 →
      Operates (.lcVsRenew c) s fun t =>
        t.alm.vs = some (num (s.nextDraw 32)) ∧ t.fuse = s.fuse ∧
        Ends t c lcIx Sub.lcWin_LC_OP Sub.lcWin_LC_STATUS .ok) ∧
    (Starts s c lcIx Sub.lcWin_LC_OP Sub.lcWin_LC_STATUS 3 → s.lcLevel (s.levelOf c) = true → s.fuse.svn < 63 →
      s.ob vaultIx Sub.vault_SVN ≤ 63 →
      Operates (.lcSvnCommit c) s fun t =>
        t.fuse = { s.fuse with svn := max s.fuse.svn (s.ob vaultIx Sub.vault_SVN) } ∧ t.vault = s.vault ∧
        Ends t c lcIx Sub.lcWin_LC_OP Sub.lcWin_LC_STATUS .ok)

/-- R374 to R378: the CAK window loads and frees an entry with its KEK slot and tells its record; SAKs go out to MKA and come in
under a CAK's KEK. -/
def Obligations.CaksAndSaksMove : Prop :=
  ∀ (s : State) (c : Caller),
    (∀ blob len slot i n k, Starts s c keWinIx Sub.keWin_KE_OP Sub.keWin_KE_STATUS 1 → s.held = false →
      s.oct keWinIx Sub.keWin_KE_BLOB = blob → s.ob keWinIx Sub.keWin_KE_CKN_LEN = len →
      s.ob keWinIx Sub.keWin_KE_KEK_SLOT = slot → s.cakLoadRows (s.levelOf c) blob len slot = .ok ((i, n), k) →
      Operates (.keCakLoad c) s fun t =>
        (t.cakAt i).valid = true ∧ (t.cakAt i).slot = n ∧ (t.cakAt i).cak = num (padTo 32 k) ∧
        (t.cakAt i).ckn = num (padTo 32 ((s.oct keWinIx Sub.keWin_KE_CKN).take len)) ∧
        (t.kekAt n).valid = true ∧ (t.kekAt n).kind = 4 ∧
        (t.kekAt n).kek = num (kdf8021x k "IEEE8021 KEK"
          (padTo 16 (((s.oct keWinIx Sub.keWin_KE_CKN).take len).take 16)) k.length) ∧
        t.ob keWinIx Sub.keWin_KE_INDEX = i ∧ Ends t c keWinIx Sub.keWin_KE_OP Sub.keWin_KE_STATUS .ok) ∧
    (∀ i, Starts s c keWinIx Sub.keWin_KE_OP Sub.keWin_KE_STATUS 2 → s.ob keWinIx Sub.keWin_KE_INDEX = i →
      s.cakNamed i = false → (s.cakAt i).valid = true →
      Operates (.keCakFree c) s fun t =>
        t.cakAt i = { gen := nextGen (s.cakAt i).gen } ∧ (t.kekAt (s.cakAt i).slot).valid = false ∧
        Ends t c keWinIx Sub.keWin_KE_OP Sub.keWin_KE_STATUS .ok) ∧
    (∀ i, Starts s c keWinIx Sub.keWin_KE_OP Sub.keWin_KE_STATUS 2 → s.ob keWinIx Sub.keWin_KE_INDEX = i →
      s.cakNamed i = true →
      Operates (.keCakFree c) s fun t =>
        t.ke = s.ke ∧ t.vault = s.vault ∧ Ends t c keWinIx Sub.keWin_KE_OP Sub.keWin_KE_STATUS .busy) ∧
    (∀ i, Starts s c keWinIx Sub.keWin_KE_OP Sub.keWin_KE_STATUS 3 → s.ob keWinIx Sub.keWin_KE_INDEX = i →
      Operates (.keInfo c) s fun t =>
        t.oct keWinIx Sub.keWin_KE_RECORD = be 36 (s.cakAt i).record ∧ t.ke = s.ke ∧
        Ends t c keWinIx Sub.keWin_KE_OP Sub.keWin_KE_STATUS .ok) ∧
    (∀ h i e, (s.cakAt i).valid = true → s.sakLive (handleSlice h) h = true →
      s.keyAt (handleSlice h) (handleIndex h) = e →
      (bits e.record 63 62 = 2 →
        exec (.sakExport h i) s = .next (s.emit (.fwResult 1 .ok (kwWrap (s.cakKek i) e.octets)))) ∧
      (bits e.record 63 62 ≠ 2 → exec (.sakExport h i) s = .next (s.emit (.fwResult 1 .denied [])))) ∧
    (∀ w i target ex serial label, (s.cakAt i).valid = true → (w.length = 24 ∨ w.length = 40) →
      (∀ k, kwUnwrap (s.cakKek i) w = some k →
        ∀ h, h = makeHeader (s.cakAt i).slot ⟨if k.length = 16 then 1 else 2, ex, serial, label, 0, false⟩ target →
          exec (.sakImport w i target ex serial label) s =
            .next (s.emit (.fwResult 2 .ok (h ++ wrapBody (s.cakKek i) h k)))) ∧
      (kwUnwrap (s.cakKek i) w = none →
        exec (.sakImport w i target ex serial label) s = .next (s.emit (.fwResult 2 .integrity []))))

/-- R390 to R397: a window whose samples pass the tests leads to READY in the fifth and releases two seeds from then on, and a
failed health test, in a window or at its end, flushes the octets past the checkpoint and leads to RECOVERING or FAILED.
R394, R404: a request for random octets is served from the queue, waits its turn, is served at the head of the line, or ends
there with ENTROPY_FAULT. -/
def Obligations.EntropyIsDrawn : Prop :=
  (∀ (s : State) (w0 w1 w2 : Nat), s.entRuns = true → s.entState ≠ entFailed →
      (s.ke.ent.windows < 4 → s.firstFail [w0, w1, w2] 1024 = none →
        Completes (.entropyWindowClose w0 w1 w2) s fun t =>
          t.ke.ent.windows = s.ke.ent.windows + 1 ∧ t.ke.ent.mark = s.entFill ∧ t.ke.ent.queue = s.ke.ent.queue ∧
          t.dict = s.dict) ∧
      (s.ke.ent.windows = 4 → s.firstFail [w0, w1, w2] 1024 = none →
        Completes (.entropyWindowClose w0 w1 w2) s fun t =>
          t.ke.ent.windows = 5 ∧ t.entState = entReady ∧ t.ke.ent.mark = s.entFill ∧
          t.ob entIx Sub.ent_ENT_SEEDS = (s.ob entIx Sub.ent_ENT_SEEDS + 1) % 2 ^ 64) ∧
      (4 < s.ke.ent.windows → s.firstFail [w0, w1, w2] 1024 = none →
        Completes (.entropyWindowClose w0 w1 w2) s fun t =>
          t.ke.ent.windows = s.ke.ent.windows ∧ t.entState = s.entState ∧ t.ke.ent.mark = s.entFill ∧
          t.ob entIx Sub.ent_ENT_SEEDS = (s.ob entIx Sub.ent_ENT_SEEDS + 2) % 2 ^ 64) ∧
      (∀ src test, s.firstFail [w0, w1, w2] 1024 = some (src, test) →
        exec (.entropyWindowClose w0 w1 w2) s = exec (.healthTestFail 1024 w0 w1 w2) s) ∧
      (∀ m, s.firstFail [w0, w1, w2] (min m 1024) = none → exec (.healthTestFail m w0 w1 w2) s = .next s) ∧
      (∀ src test m n, s.firstFail [w0, w1, w2] (min m 1024) = some (src, test) →
        n = (s.ke.ent.fails.filter (fun x => decide (s.time.periods < x + 7500000000))).length + 1 →
        n < s.ob entIx Sub.ent_ENT_RETRY_LIMIT →
        Completes (.healthTestFail m w0 w1 w2) s fun t =>
          t.entState = entRecovering ∧ t.ke.ent.queue = s.ke.ent.queue.take (min s.entFill s.ke.ent.mark) ∧
          t.ke.ent.seeds = [] ∧ t.ke.ent.windows = 0 ∧ t.ke.ent.waiting = s.ke.ent.waiting ∧
          t.ob entIx Sub.ent_ENT_FAILURES = (s.ob entIx Sub.ent_ENT_FAILURES + 1) % 2 ^ 32) ∧
      (∀ src test m n, s.firstFail [w0, w1, w2] (min m 1024) = some (src, test) →
        n = (s.ke.ent.fails.filter (fun x => decide (s.time.periods < x + 7500000000))).length + 1 →
        s.ob entIx Sub.ent_ENT_RETRY_LIMIT ≤ n → s.ke.ent.waiting = [] →
        Completes (.healthTestFail m w0 w1 w2) s fun t =>
          t.entState = entFailed ∧ t.ke.ent.queue = s.ke.ent.queue.take (min s.entFill s.ke.ent.mark) ∧
          t.ke.ent.seeds = [])) ∧
  (∀ (s : State) (c : Caller) (len : Nat),
      (Starts s c entWinIx Sub.entWin_ENT_READ_OP Sub.entWin_ENT_READ_STATUS 1 →
        s.ob entWinIx Sub.entWin_ENT_READ_LEN = len → s.drawsNow len →
        Operates (.entReadRequest c) s fun t =>
          t.oct entWinIx Sub.entWin_ENT_READ_DATA = padTo 256 (s.nextDraw len) ∧
          Ends t c entWinIx Sub.entWin_ENT_READ_OP Sub.entWin_ENT_READ_STATUS .ok) ∧
      (Starts s c entWinIx Sub.entWin_ENT_READ_OP Sub.entWin_ENT_READ_STATUS 1 →
        s.ob entWinIx Sub.entWin_ENT_READ_LEN = len → s.ke.ent.stopped = false → s.entState = entReady →
        s.entFill < len →
        Operates (.entReadRequest c) s fun t =>
          t.ke.ent.waiting = s.ke.ent.waiting ++ [⟨.read, len, s.time.periods⟩] ∧
          Ends t c entWinIx Sub.entWin_ENT_READ_OP Sub.entWin_ENT_READ_STATUS .busy) ∧
      (Starts s c entWinIx Sub.entWin_ENT_READ_OP Sub.entWin_ENT_READ_STATUS 1 → s.entState = entFailed →
        Operates (.entReadRequest c) s fun t =>
          t.ke = s.ke ∧ Ends t c entWinIx Sub.entWin_ENT_READ_OP Sub.entWin_ENT_READ_STATUS .entropyFault) ∧
      (∀ rest at_, s.ke.ent.waiting = ⟨.read, len, at_⟩ :: rest → s.ke.ent.stopped = false → s.entState = entReady →
        len ≤ s.entFill →
        Completes .entropyRequestServed s fun t =>
          t.oct entWinIx Sub.entWin_ENT_READ_DATA = padTo 256 (s.nextDraw len) ∧ t.ke.ent.waiting = rest ∧
          t.ob entWinIx Sub.entWin_ENT_READ_STATUS = Status.ok.code ∧
          t.winBusy entWinIx Sub.entWin_ENT_READ_STATUS = false) ∧
      (∀ rest at_, s.ke.ent.waiting = ⟨.read, len, at_⟩ :: rest →
        s.gone at_ (1000 * s.ob entIx Sub.ent_ENT_WAIT_US) = false → exec .entropyRequestTimeout s = .next s) ∧
      (∀ rest at_, s.ke.ent.waiting = ⟨.read, len, at_⟩ :: rest → s.gone at_ (1000 * s.ob entIx Sub.ent_ENT_WAIT_US) = true →
        Completes .entropyRequestTimeout s fun t =>
          t.ke.ent.waiting = rest ∧ t.ob entWinIx Sub.entWin_ENT_READ_STATUS = Status.entropyFault.code ∧
          t.winBusy entWinIx Sub.entWin_ENT_READ_STATUS = false))

/-- R352 to R355, R370: a job starts, goes on and finishes, is saved, restored and aborted. -/
def Obligations.JobContextsMove : Prop :=
  ∀ (s : State) (c : Caller) (j : Nat), j < 16 → s.jobMay c j = true →
    (Starts s c (jobIx j) Sub.job_JOB_OP Sub.job_JOB_STATUS 1 → (s.jobState j = 0 ∨ s.jobState j = 3) →
      s.bankLive (s.ob (jobIx j) Sub.job_JOB_KEY) = true → s.jobLenOk j = true →
      Operates (.jobStart c j) s fun t =>
        t.jobState j = 1 ∧ (t.jobAt j).op = 1 ∧ (t.jobAt j).mode = s.ob (jobIx j) Sub.job_JOB_MODE ∧
        (t.jobAt j).key = s.ob (jobIx j) Sub.job_JOB_KEY ∧ (t.jobAt j).iv = s.oct (jobIx j) Sub.job_JOB_IV ∧
        Ends t c (jobIx j) Sub.job_JOB_OP Sub.job_JOB_STATUS .busy) ∧
    (Starts s c (jobIx j) Sub.job_JOB_OP Sub.job_JOB_STATUS 2 → s.jobState j = 2 → s.jobLenOk j = true →
      Operates (.jobContinue c j) s fun t =>
        t.jobState j = 1 ∧ (t.jobAt j).op = 2 ∧ (t.jobAt j).y = (s.jobAt j).y ∧
        Ends t c (jobIx j) Sub.job_JOB_OP Sub.job_JOB_STATUS .busy) ∧
    (Starts s c (jobIx j) Sub.job_JOB_OP Sub.job_JOB_STATUS 3 → s.jobState j = 2 →
      Operates (.jobFinish c j) s fun t =>
        t.jobState j = 1 ∧ (t.jobAt j).op = 3 ∧ (t.jobAt j).y = (s.jobAt j).y ∧
        Ends t c (jobIx j) Sub.job_JOB_OP Sub.job_JOB_STATUS .busy) ∧
    (∀ x slot, Starts s c (jobIx j) Sub.job_JOB_OP Sub.job_JOB_STATUS 4 → s.jobState j = 2 → s.jobAt j = x → x.mode = 2 →
      s.ob (jobIx j) Sub.job_JOB_SAVE_SLOT = slot → (s.kekAt slot).valid = true →
      Operates (.jobSave c j) s fun t =>
        t.oct (jobIx j) Sub.job_JOB_SAVE = jobRecord x slot 0 ++ jobBody (s.kekAt slot).octets x (jobRecord x slot 0) ∧
        t.jobState j = 0 ∧ t.jobAt j = {} ∧ Ends t c (jobIx j) Sub.job_JOB_OP Sub.job_JOB_STATUS .ok) ∧
    (∀ r p, Starts s c (jobIx j) Sub.job_JOB_OP Sub.job_JOB_STATUS 5 → s.jobState j = 0 →
      s.oct (jobIx j) Sub.job_JOB_SAVE = r → recordForm r = true → s.bankLive (fld r 4 4) = true →
      (s.kekAt (fld r 36 1)).valid = true → kwpUnwrap (s.kekAt (fld r 36 1)).octets (r.drop 48) = some p → p.length = 56 →
      p.take 16 = (sha384 (r.take 48)).take 16 → (fld r 3 1 = 2 ∨ fld r 40 8 ∈ s.vault.tokens) →
      Operates (.jobRestore c j) s fun t =>
        t.jobState j = 2 ∧ (t.jobAt j).mode = fld r 3 1 ∧ (t.jobAt j).key = fld r 4 4 ∧ (t.jobAt j).aDone = fld r 20 8 ∧
        (t.jobAt j).pDone = fld r 28 8 ∧ (t.jobAt j).y = fld p 16 16 ∧
        (fld r 3 1 = 1 → t.vault.tokens = s.vault.tokens.erase (fld r 40 8)) ∧
        Ends t c (jobIx j) Sub.job_JOB_OP Sub.job_JOB_STATUS .ok) ∧
    (∀ r, Starts s c (jobIx j) Sub.job_JOB_OP Sub.job_JOB_STATUS 5 → s.jobState j ≠ 0 →
      s.oct (jobIx j) Sub.job_JOB_SAVE = r →
      Operates (.jobRestore c j) s fun t =>
        t.vault = s.vault ∧ Ends t c (jobIx j) Sub.job_JOB_OP Sub.job_JOB_STATUS .notIdle) ∧
    (Starts s c (jobIx j) Sub.job_JOB_OP Sub.job_JOB_STATUS 6 →
      Operates (.jobAbort c j) s fun t =>
        t.jobState j = 0 ∧ t.jobAt j = {} ∧ Ends t c (jobIx j) Sub.job_JOB_OP Sub.job_JOB_STATUS .ok)

/-- R352, R353, R370: a part's DMA completes over addresses beyond DDR: a paused part, the last part of an encryption with its
tag, and the last part of a key wrap. -/
def Obligations.JobDataMoves : Prop :=
  ∀ (s : State) (j : Nat) (x : Job) (key aad data d : Bytes), j < 16 → s.jobAt j = x → s.jobKey x = key →
    s.ddrBytes ≤ x.src → s.ddrBytes ≤ x.dst → d = padTo x.len data →
    (x.mode = 3 → x.op = 2 →
      Completes (.jobDmaDone j aad data) s fun t =>
        t.jobState j = 2 ∧ (t.jobAt j).part = x.part ++ d ∧ t.wire = s.wire ∧
        t.ob (jobIx j) Sub.job_JOB_STATUS = Status.ok.code) ∧
    (x.mode = 1 → x.op = 3 → 0 < x.len →
      Completes (.jobDmaDone j aad data) s fun t =>
        t.wire = s.wire ++ [.jobOut j x.dst (gcmPart key x [] d).1] ∧
        t.oct (jobIx j) Sub.job_JOB_TAG = gcmFinal key (gcmPart key x [] d).2 ∧ t.jobState j = 3 ∧
        t.ob (jobIx j) Sub.job_JOB_STATUS = Status.ok.code) ∧
    (x.mode = 3 → x.op = 3 → (x.part ++ d).length % 8 = 0 → 16 ≤ (x.part ++ d).length →
      Completes (.jobDmaDone j aad data) s fun t =>
        .jobOut j x.dst (kwWrap key (x.part ++ d)) ∈ t.wire ∧ t.jobState j = 3 ∧
        t.ob (jobIx j) Sub.job_JOB_STATUS = Status.ok.code)

/-- R382, R383, R387: a handshake starts at its place, a segment waits for the rest, ABORT ends a session, and the timers of a
session repeat its message or end it. R371, R386: an operation of the public-key engine ends and the session's next one
joins the queue; the operation of a session that is gone is only counted. R387: a timer that has not run out does nothing.
-/
def Obligations.KnotSessionsRun : Prop :=
  (∀ (s : State) (c : Caller) (n : Nat), n < 32 →
      (∀ e, Accepted s c (Ix.kePort n) Sub.kePort_KNOT_RUN 1 → s.knotAllowed = true →
        s.held = false → s.ob (Ix.kePort n) Sub.kePort_KNOT_MODE = 2 → s.knotInitiates n = false →
        (contextRoom (dropKnots (fun x => x.2.place == n && x.2.stage == .answered) s)).freeEph = some e →
        s.ke.ent.stopped = false → s.entState = entReady → s.entFill < 40 →
        Completes (.knotRun c n 1) s fun t =>
          mfind t.ke.knot s.ke.nextKnot = some { place := n, init := true, stage := .drawing, ctx := e,
                                                 heard := s.time.periods } ∧
          mfind t.ke.eph e = some {} ∧
          t.ob (Ix.kePort n) Sub.kePort_KNOT_STATE = 1 ∧ t.ob (Ix.kePort n) Sub.kePort_KNOT_RUN = 1 ∧
          t.ke.ent.waiting = s.ke.ent.waiting ++ [⟨.knot s.ke.nextKnot, 40, s.time.periods⟩] ∧
          t.ob keIx Sub.ke_PKE_OPS = (s.ob keIx Sub.ke_PKE_OPS + 2) % 2 ^ 64 ∧
          Reports t c (Ix.kePort n) Sub.kePort_KNOT_RUN .ok) ∧
      (Accepted s c (Ix.kePort n) Sub.kePort_KNOT_RUN 1 → (s.knotAllowed = false ∨ s.held = true) →
        s.ob (Ix.kePort n) Sub.kePort_KNOT_MODE = 2 →
        exec (.knotRun c n 1) s =
          .next (((knotChecked (s.noteCycle c [])).complete c (Ix.kePort n) Sub.kePort_KNOT_RUN .denied))) ∧
      (Accepted s c (Ix.kePort n) Sub.kePort_KNOT_RUN 1 → s.ob (Ix.kePort n) Sub.kePort_KNOT_MODE ≠ 2 →
        exec (.knotRun c n 1) s = .next (s.refusing c (Ix.kePort n) Sub.kePort_KNOT_RUN .denied)) ∧
      (∀ v, Accepted s c keIx Sub.ke_PAIR_KNOT_RUN v → s.home = false →
        exec (.pairKnotRun c v) s = .next (s.refusing c keIx Sub.ke_PAIR_KNOT_RUN .range)) ∧
      (∀ e, Accepted s c keIx Sub.ke_PAIR_KNOT_RUN 1 → s.home = true → s.knotAllowed = true → s.held = false →
        s.knotInitiates tetherPlace = false →
        (contextRoom (dropKnots (fun x => x.2.place == tetherPlace && x.2.stage == .answered) s)).freeEph = some e →
        s.ke.ent.stopped = false → s.entState = entReady → s.entFill < 40 →
        Completes (.pairKnotRun c 1) s fun t =>
          mfind t.ke.knot s.ke.nextKnot = some { place := tetherPlace, init := true, stage := .drawing, ctx := e,
                                                 heard := s.time.periods } ∧
          mfind t.ke.eph e = some {} ∧
          t.ob keIx Sub.ke_PAIR_KNOT_STATE = 1 ∧ t.ob keIx Sub.ke_PAIR_KNOT_RUN = 1 ∧
          Reports t c keIx Sub.ke_PAIR_KNOT_RUN .ok) ∧
      (∀ src f, s.sliceOn (n / 8) = true → s.rst.coresHeld = false → segmentForm f = false →
        exec (.knotMessageReceived n src [f]) s = .next (s.bump (Ctr.device + Ctr.KNOT_BAD_FORM))) ∧
      (∀ src f, s.sliceOn (n / 8) = true → s.rst.coresHeld = false → segmentForm f = true → 1 < fld f 3 1 →
        s.ke.parts = [] →
        Completes (.knotMessageReceived n src [f]) s fun t =>
          t.ke.parts = [⟨n, src, fld f 0 1, fld f 1 1, fld f 3 1, fld f 4 8, [(fld f 2 1, sub f 16 (fld f 12 2))]⟩] ∧
          t.dict = s.dict ∧ t.wire = s.wire) ∧
      (∀ src f m k x, s.sliceOn (n / 8) = true → s.rst.coresHeld = false → segmentForm f = true → s.ke.parts = [] →
        fld f 1 1 = 5 → m = (⟨n, src, fld f 0 1, 5, fld f 4 8, sub f 16 (fld f 12 2)⟩ : KnotMsg) → m.form = true →
        s.knotFor m = some (k, x) → x.peer = some src → fld f 0 1 / 16 = 1 → s.knotRefuses n = false →
        Completes (.knotMessageReceived n src [f]) s fun t =>
          mfind t.ke.knot k =
            (if x.init && x.init1 != [] &&
                !s.ke.knot.any (fun y => y.1 != k && y.2.place == n && y.2.init && y.2.sid == x.sid)
              then some { x with stage := .answered, ops := [], seen := src :: x.seen, peer := none } else none) ∧
          t.cnt = mset 0 s.cnt (Ctr.device + Ctr.KNOT_ABORTED) ((mget 0 s.cnt (Ctr.device + Ctr.KNOT_ABORTED) + 1) % 2 ^ 64)) ∧
      (∀ k x, mfind s.ke.knot k = some x → x.place = n → x.stage = .sentInit → x.sends < 5 →
        s.retryDue x = true → s.knotSends n = true → s.otnMode (n / 8) = 0 → s.laneLoop (0x40 + n) = 0 →
        Completes (.knotRetryTimeout k) s fun t =>
          mfind t.ke.knot k = some { x with sends := x.sends + 1, heard := s.time.periods } ∧
          t.wire.length = s.wire.length + knotSegs x.lastMsg) ∧
      (∀ k x, mfind s.ke.knot k = some x → s.retryDue x = false → exec (.knotRetryTimeout k) s = .next s) ∧
      (∀ k x, mfind s.ke.knot k = some x → s.knotOver x = false → x.sends < 5 →
        exec (.knotSessionTimeout k) s = .next s) ∧
      (∀ k x, mfind s.ke.knot k = some x → x.stage = .answered → s.knotOver x = true →
        exec (.knotSessionTimeout k) s = .next (s.dropKnot k)) ∧
      (∀ k x, mfind s.ke.knot k = some x → x.stage ≠ .answered → (x.peer = none ∨ x.init1 = []) →
        (s.knotOver x = true ∨ (5 ≤ x.sends ∧ s.retryDue x = true)) →
        Completes (.knotSessionTimeout k) s fun t =>
          mfind t.ke.knot k = none ∧
          t.cnt = mset 0 s.cnt (Ctr.device + Ctr.KNOT_TIMEOUT) ((mget 0 s.cnt (Ctr.device + Ctr.KNOT_TIMEOUT) + 1) % 2 ^ 64))) ∧
  (∀ (s : State) (op next : PkeOp) (k : Nat) (rest : List PkeOp), s.ke.queue = [{ op := op, who := .knot k }] →
      op.draws = 0 → s.rst.coresHeld = false →
      (∀ x, next.draws = 0 → mfind s.ke.knot k = some x → x.ops = op :: next :: rest →
        s.stageCheck { x with ops := next :: rest } (rest.length + 1) = .ok →
        Completes .pkeOperationComplete s fun t =>
          t.ke.queue = [{ op := next, who := .knot k }] ∧ mfind t.ke.knot k = some { x with ops := next :: rest } ∧
          t.ob keIx Sub.ke_PKE_OPS = (s.ob keIx Sub.ke_PKE_OPS + 1) % 2 ^ 64) ∧
      (mfind s.ke.knot k = none →
        Completes .pkeOperationComplete s fun t =>
          t.ke.queue = [] ∧ t.ob keIx Sub.ke_PKE_OPS = (s.ob keIx Sub.ke_PKE_OPS + 1) % 2 ^ 64 ∧
          t.ob keIx Sub.ke_PKE_QUEUE_FILL = 0))

/-- R379 to R381: MKA says hello, answers a stranger's MKPDU, refreshes a live peer's record, ignores an MKPDU whose ICV fails
or that repeats an earlier message number, and loses its last peer. -/
def Obligations.MkaKeepsPeers : Prop :=
  ∀ (s : State) (n : Nat), n < 32 → s.mkaRuns n = true →
    (s.past (Timer.mka n) (s.mkaSendNs n) = false → exec (.mkaHelloTimer n) s = .next s) ∧
    (∀ b, s.past (Timer.mka n) (s.mkaSendNs n) = true → s.ownSends n = true → (s.mkaAt n).sak.isSome = true →
      (s.mkaAt n).due = false → s.mkaThresh n = false → s.laneLoop (0x40 + n) = 0 →
      b = be 6 0x0180C2000003 ++ s.oct (Ix.port (0x40 + n)) Sub.port_PAUSE_SA ++ be 2 0x888E ++
        Config.mkpdu (s.mkpduFields n) (s.mkaWrapped n) →
      Completes (.mkaHelloTimer n) s fun t =>
        t.wire = s.wire ++ (if s.otnMode (n / 8) = 0 then []
            else [.mapped (n / 8) (n % 8) (withFcs (padTo 60 (b ++ cmac (s.mkaIck n) b))) false]) ++
          [.mkpdu n (b ++ cmac (s.mkaIck n) b)] ∧ (t.mkaAt n).mn = (s.mkaAt n).mn + 1 ∧
        t.dict = s.dict) ∧
    (∀ pdu v, 16 ≤ pdu.length → cmac (s.mkaIck n) (pdu.take (pdu.length - 16)) ≠ pdu.drop (pdu.length - 16) →
      exec (.mkpduReceived n pdu v) s = .next s) ∧
    (∀ pdu v, s.ownSends n = true → s.otnMode (n / 8) = 0 → s.laneLoop (0x40 + n) = 0 → s.mkaStale n v = false →
      16 ≤ pdu.length →
      cmac (s.mkaIck n) (pdu.take (pdu.length - 16)) = pdu.drop (pdu.length - 16) →
      (s.mkaAt n).peers = [] → v.listsUs = false →
      Completes (.mkpduReceived n pdu v) s fun t =>
        (t.mkaAt n).peers = [] ∧
        (t.mkaAt n).potential = (s.mkaAt n).potential.filter (fun p => p.mi != v.mi) ++ [v.peer s.time.periods] ∧
        ∃ b, t.wire = s.wire ++ [.mkpdu n b]) ∧
    (∀ pdu v, 16 ≤ pdu.length → cmac (s.mkaIck n) (pdu.take (pdu.length - 16)) = pdu.drop (pdu.length - 16) →
      s.mkaStale n v = false → (s.mkaAt n).peers.any (fun p => p.mi == v.mi) = true → v.lowest = none → v.sak = none →
        (s.mkaAt n).sak = none →
      Completes (.mkpduReceived n pdu v) s fun t =>
        (t.mkaAt n).peers = (s.mkaAt n).peers.map (fun p => if p.mi = v.mi then v.peer s.time.periods else p) ∧
          t.dict = s.dict) ∧
    (∀ pdu v, s.mkaStale n v = true → exec (.mkpduReceived n pdu v) s = .next s) ∧
    (∀ mi, s.peerGone n mi = false → exec (.mkaPeerTimeout n mi) s = .next s) ∧
    (∀ p, (s.mkaAt n).peers = [p] → s.peerGone n p.mi = true →
      Completes (.mkaPeerTimeout n p.mi) s fun t =>
        (t.mkaAt n).peers = [] ∧ t.ob (Ix.kePort n) Sub.kePort_MKA_PEERS = 0 ∧
        t.ob (Ix.kePort n) Sub.kePort_MKA_STATE = 1)

/-- R408, R409, R416 to R418, R437, R441: a heartbeat leaves, arrives and is missed; SEL_ACT falls with the generator and
SEL_MATE is sampled. A timer that has not run out, and a unit that is no pair, do nothing. -/
def Obligations.HeartbeatsRun : Prop :=
  ∀ (s : State),
    ((s.pairRuns = false ∨ s.past Timer.beat 1000 = false) → exec .heartbeatTimer s = .next s) ∧
    ((s.paired = false ∨ s.past Timer.beat 2000 = false) → exec .selActRelease s = .next s) ∧
    (s.past Timer.beat 1000 = true → s.pairRuns = true →
      (s.pairState = 2 → s.ob keIx Sub.ke_PAIR_KNOT_STATE ≠ 2) →
      (s.roleOn = true → s.pairFault = none ∧ s.pair.yielding = false ∧ s.pair.selAct = true) →
      Completes .heartbeatTimer s fun t =>
        t.pair.hbSeq = (s.pair.hbSeq + 1) % 2 ^ 16 ∧ t.pair.silent = false ∧ (s.tetherUp = true → SendsTether s t 2)) ∧
    (s.past Timer.beat 1000 = true → s.pairRuns = true → s.pairState = 2 → s.roleOn = false →
      s.ob keIx Sub.ke_PAIR_KNOT_STATE = 2 → (s.kekAt 2).valid = true → s.pair.peerDigest = none →
      Completes .heartbeatTimer s fun t => t.pairState = 3 ∧ t.pair.hbSeq = (s.pair.hbSeq + 1) % 2 ^ 16) ∧
    (s.past Timer.beat 1000 = true → s.pairRuns = true → s.pairState ≠ 2 → s.roleOn = true → s.pairFault = none →
      s.pair.yielding = false → s.pair.selAct = false →
      Completes .heartbeatTimer s fun t => t.pair.selAct = true ∧ t.pair.hbSeq = (s.pair.hbSeq + 1) % 2 ^ 16) ∧
    (s.past Timer.beat 1000 = true → s.pairRuns = true → s.pairState ≠ 2 → s.roleOn = true → s.pairFault ≠ none →
      s.pair.yielding = false →
      Completes .heartbeatTimer s fun t => t.pair.yielding = true ∧ t.pair.selAct = false) ∧
    (∀ b, (s.tetherUp = false ∨ (s.pairRuns = false ∧ b.length = 16)) → exec (.heartbeatReceived b) s = .next s) ∧
    (∀ b, s.tetherUp = true → b.length ≠ 16 →
      Completes (.heartbeatReceived b) s fun t =>
        t.ob psIx Sub.pairStat_TTH_BAD_FRAMES = (s.ob psIx Sub.pairStat_TTH_BAD_FRAMES + 1) % 2 ^ 32 ∧ t.pair = s.pair) ∧
    (∀ b, s.pairRuns = true → s.tetherUp = true → b.length = 16 → s.roleOn = true → bit (fld b 0 1) 7 = false →
      Completes (.heartbeatReceived b) s fun t =>
        t.pairState = (if s.pairState = 4 ∧ bit (fld b 0 1) 5 = true then 5
          else if s.pairState = 5 ∧ bit (fld b 0 1) 5 = false then 4 else s.pairState) ∧
        t.pair.hb = b ∧ t.pair.lost = false ∧ t.roleOn = true) ∧
    (∀ b, s.pairRuns = true → s.tetherUp = true → b.length = 16 → s.roleOn = false → bit (fld b 0 1) 6 = false →
      Completes (.heartbeatReceived b) s fun t =>
        t.pair.hb = b ∧ t.pair.lost = false ∧ t.pair.missed = 0 ∧ t.roleOn = false ∧ t.pair.declared = s.pair.declared) ∧
    (∀ b, s.pairRuns = true → s.tetherUp = true → b.length = 16 → s.roleOn = false → bit (fld b 0 1) 6 = true →
      s.peerFault = false → s.pair.declared = none →
      Completes (.heartbeatReceived b) s fun t =>
        t.pair.hb = b ∧ t.pair.lost = false ∧ t.pair.declared = (if t.pairState = 5 then some (2, false) else none)) ∧
    (s.pairRuns = false → exec .heartbeatLoss s = .next s) ∧
    (∀ n, n = 8 * (s.time.periods - mget 0 s.time.since Timer.heard) / 1250 → s.pairRuns = true → s.pair.missed < n →
      (s.past Timer.heard 3250 = false ∨ s.pair.lost = true →
        Completes .heartbeatLoss s fun t =>
          t.pair = { s.pair with missed := n } ∧
          t.ob psIx Sub.pairStat_HB_MISSED = (s.ob psIx Sub.pairStat_HB_MISSED + (n - s.pair.missed)) % 2 ^ 32) ∧
      (s.past Timer.heard 3250 = true → s.pair.lost = false → s.roleOn = false → s.pairState = 5 →
        Completes .heartbeatLoss s fun t =>
          t.pair.lost = true ∧ t.pair.declared = some (1, true) ∧
          t.ob psIx Sub.pairStat_HB_MISSED = (s.ob psIx Sub.pairStat_HB_MISSED + (n - s.pair.missed)) % 2 ^ 32) ∧
      (s.past Timer.heard 3250 = true → s.pair.lost = false → s.roleOn = true →
        Completes .heartbeatLoss s fun t =>
          t.pair.lost = true ∧ t.pairState = (if s.pairState = 5 then (if s.tetherUp then 1 else 0) else s.pairState) ∧
          (s.pair.mate = true → s.watched 0x30 = true → t.alm.raised = s.alm.raised ++ [(0x30, 0, s.alm.maintEnd.isSome)]) ∧
          t.ob psIx Sub.pairStat_HB_MISSED = (s.ob psIx Sub.pairStat_HB_MISSED + (n - s.pair.missed)) % 2 ^ 32)) ∧
    (s.past Timer.beat 2000 = true → s.paired = true →
      Completes .selActRelease s fun t => t.pair.silent = true ∧ t.pair.selAct = false ∧ t.dict = s.dict) ∧
    (Completes (.selMateChange true) s fun t =>
      t.pair = { s.pair with mate := true, mateLow := false } ∧ t.dict = s.dict ∧ t.wire = s.wire) ∧
    (s.pair.mateLow = false →
      Completes (.selMateChange false) s fun t => t.pair = { s.pair with mateLow := true } ∧ t.dict = s.dict ∧
        t.wire = s.wire) ∧
    (s.pair.mateLow = true → s.pair.mate = true → s.past Timer.mate 100 = true →
      Completes (.selMateChange false) s fun t => t.pair = { s.pair with mate := false } ∧ t.dict = s.dict ∧
        t.wire = s.wire) ∧
    (s.pair.mateLow = true → (s.pair.mate = false ∨ s.past Timer.mate 100 = false) → exec (.selMateChange false) s = .next s)

/-- R415, R419, R420, R437, R440: the HELLO of a pair leaves, is accepted with an equal pair KEK or brings KEYING, or breaks the
pair; a bad frame is counted. R410, R431, R432, R434: the ways to the active role, each with its cause; a declared fault is
dropped while SEL_MATE reads active; the seal hold ends. -/
def Obligations.PairsFormAndTakeOver : Prop :=
  (∀ (s : State), s.pairRuns = true → s.tetherUp = true →
      (s.pairState = 1 → s.past Timer.hello 100000 = true → Completes .tetherHelloTimer s fun t => SendsTether s t 1) ∧
      (s.pairState ≠ 0 → (s.pairState ≠ 1 ∨ s.past Timer.hello 100000 = false) → exec .tetherHelloTimer s = .next s) ∧
      (∀ b, b.length ≠ 64 →
        Completes (.tetherHelloReceived b) s fun t =>
          t.ob psIx Sub.pairStat_TTH_BAD_FRAMES = (s.ob psIx Sub.pairStat_TTH_BAD_FRAMES + 1) % 2 ^ 32 ∧ t.pair = s.pair) ∧
      (∀ b, b.length = 64 → s.helloRefused b = true →
        Completes (.tetherHelloReceived b) s fun t =>
          t.pairState = 6 ∧ t.ob psIx Sub.pairStat_PAIR_STATUS = Status.version.code ∧
          t.ob psIx Sub.pairStat_PEER_VERSION = fld b 0 2) ∧
      (∀ b, b.length = 64 → s.pairState = 1 ∨ s.pairState = 4 ∨ s.pairState = 5 → s.helloRefused b = false →
        sub b 56 8 = s.kcv →
        s.kcv.any (· != 0) = true → s.pair.peerDigest = none →
        Completes (.tetherHelloReceived b) s fun t =>
          t.pairState = 3 ∧ t.pair.peer = b ∧ t.pair.mirrored = false ∧ t.ob psIx Sub.pairStat_PAIR_STATUS = 0) ∧
      (∀ b, b.length = 64 → s.pairState = 1 → s.home = false → s.helloRefused b = false → sub b 56 8 ≠ s.kcv →
        Completes (.tetherHelloReceived b) s fun t =>
          t.pairState = 2 ∧ t.pair.peer = b ∧ t.ob psIx Sub.pairStat_PAIR_STATUS = 0) ∧
      (Completes .tetherBadFrame s fun t =>
        t.ob psIx Sub.pairStat_TTH_BAD_FRAMES = (s.ob psIx Sub.pairStat_TTH_BAD_FRAMES + 1) % 2 ^ 32 ∧ t.pair = s.pair)) ∧
  (∀ (s : State),
      (s.past Timer.heard (1000000 * s.ob pairIx Sub.pair_ALONE_WAIT_MS) = false → exec .aloneWaitExpiry s = .next s) ∧
      (s.pairRuns = true → s.home = false → s.roleOn = false → s.pair.mate = false →
        s.past Timer.heard (1000000 * s.ob pairIx Sub.pair_ALONE_WAIT_MS) = true →
        Completes .aloneWaitExpiry s fun t =>
          t.roleOn = true ∧ t.pair.selAct = true ∧ t.ob psIx Sub.pairStat_LAST_CAUSE = 6 ∧
          t.ob psIx Sub.pairStat_LAST_COMMIT_NS = s.commitNs 6 % 2 ^ 32) ∧
      (s.pair.declared = none → exec .takeoverCommit s = .next s) ∧
      (∀ cause lost, s.pair.declared = some (cause, lost) → s.mateGone = true →
        Completes .takeoverCommit s fun t =>
          t.roleOn = true ∧ t.pair.selAct = true ∧ t.ob psIx Sub.pairStat_LAST_CAUSE = cause ∧
          t.ob psIx Sub.pairStat_LAST_COMMIT_NS = s.commitNs cause % 2 ^ 32) ∧
      (∀ cause lost, s.pair.declared = some (cause, lost) → s.pair.mate = true → s.mateLate = false →
        exec .takeoverCommit s = .next s) ∧
      (∀ cause lost, s.pair.declared = some (cause, lost) → s.mateGone = false → (s.mateLate = true ∨ s.pair.mate = false) →
        Completes .takeoverCommit s fun t => t.pair.declared = none ∧ t.roleOn = s.roleOn ∧ t.asc = s.asc) ∧
      ((s.pairRuns = false ∨ s.tetherUp = false ∨ s.roleOn = true) → ∀ cause, exec (.handoverReceived cause) s = .next s) ∧
      (∀ cause c, s.pairRuns = true → s.tetherUp = true → s.roleOn = false → s.pair.cmd = some c → c.reversion = true →
        Completes (.handoverReceived cause) s fun t => t.roleOn = true ∧ t.ob psIx Sub.pairStat_LAST_CAUSE = 5) ∧
      (s.gone (mget 0 s.time.since Timer.commit) (2000 - 3072 / cyclesPer8 (s.pointOf 0)) = false →
        exec .shadowHoldEnd s = .next s) ∧
      (∀ cause, s.pairRuns = true → s.tetherUp = true → s.roleOn = false → s.pair.cmd = none →
        Completes (.handoverReceived cause) s fun t =>
          t.roleOn = true ∧ t.ob psIx Sub.pairStat_LAST_CAUSE = cause % 256) ∧
      (s.gone (mget 0 s.time.since Timer.commit) (2000 - 3072 / cyclesPer8 (s.pointOf 0)) = true →
        Completes .shadowHoldEnd s fun t => t.pair.sealHold = false ∧ t.dict = s.dict ∧ t.wire = s.wire))

/-- R423, R426, R427, R429: checkpoints leave, are applied or refused, and age; a CUE_SYNC record moves a transmit SA. R415: a
frame of a wrong LEN is counted, and a payload with a missing SEQ discarded (R414). R427, R437: what the peer's firmware
mirrors: a table entry and the Knot lines are kept; a configuration digest that differs breaks the pair, one that agrees
ends BULK at the active unit, and the end of the bulk transfer ends it at the standby. -/
def Obligations.CheckpointsAndMirrors : Prop :=
  (∀ (s : State), s.pairRuns = true →
      (s.past Timer.ckpt 1000000 = false ∨ s.roleOn = false → exec .checkpointSnapshot s = .next s) ∧
      (s.past Timer.ckpt 1000000 = true → s.roleOn = true →
        Completes .checkpointSnapshot s fun t =>
          (∀ sl, sl < 4 → s.sliceOn sl = true → mget 0 t.pair.serial sl = (mget 0 s.pair.serial sl + 1) % 2 ^ 32) ∧
          t.dict = s.dict ∧ t.asc = s.asc) ∧
      (∀ l, s.tetherUp = true → l.countP (fun f => decide (512 < f.2.length)) ≠ 0 →
        Completes (.checkpointPartReceived l) s fun t =>
          t.ob psIx Sub.pairStat_TTH_BAD_FRAMES =
            (s.ob psIx Sub.pairStat_TTH_BAD_FRAMES + l.countP (fun f => decide (512 < f.2.length))) % 2 ^ 32 ∧
              t.asc = s.asc) ∧
      (∀ l, (∀ f ∈ l, f.2.length ≤ 512) → (joinFrames l = none ∨ s.roleOn = true) →
        exec (.checkpointPartReceived l) s = .next s) ∧
      (∀ l b, s.tetherUp = true → s.roleOn = false → (∀ f ∈ l, f.2.length ≤ 512) → joinFrames l = some b →
        s.openCkpt b = none →
        Completes (.checkpointPartReceived l) s fun t =>
          t.ob psIx Sub.pairStat_CKPT_REFUSED = (s.ob psIx Sub.pairStat_CKPT_REFUSED + 1) % 2 ^ 32 ∧ t.asc = s.asc) ∧
      (∀ l b records sl, s.tetherUp = true → s.roleOn = false → (∀ f ∈ l, f.2.length ≤ 512) → joinFrames l = some b →
        s.openCkpt b = some records → fld b 8 1 = sl →
        s.ckptDue sl (fld b 12 4) (fld b 16 2) = true → fld b 16 2 = 0 → fld b 28 1 ≤ 1 →
        (applyRecords sl records s).1 = 0 →
        Completes (.checkpointPartReceived l) s fun t =>
          mget 0 t.pair.done sl = fld b 12 4 ∧ t.pair.ack = fld b 12 4 ∧ sl ∉ t.pair.aged) ∧
      (∀ b r f sl i e, s.roleOn = false → s.tetherUp = true → b.length = 16 → fld b 0 1 = sl → s.sliceOn sl = true →
        r = sub (b.drop 4) 0 12 → f = fld r 1 1 → fld r 0 1 = 1 → fld r 2 2 % 2 ^ 14 = i → s.saAt sl i = e →
          Sa.valid e = true → Sa.dir e = 0 →
        Completes (.cueSyncReceived b) s fun t =>
          t.saAt sl i = Sa.setNextPn (Sa.setExhausted (Sa.setThreshHit
            (setBits (setBit e 317 (bit f 7)) 315 314 (bits f 4 3)) (bit f 6)) (bit f 5)) (fld r 4 8) ∧ t.dict = s.dict) ∧
      (∀ b, s.tetherUp = true → b.length ≠ 16 → b.length ≠ 28 → b.length ≠ 40 →
        Completes (.cueSyncReceived b) s fun t =>
          t.ob psIx Sub.pairStat_TTH_BAD_FRAMES = (s.ob psIx Sub.pairStat_TTH_BAD_FRAMES + 1) % 2 ^ 32 ∧ t.asc = s.asc) ∧
      (∀ sl, ((mfind s.pair.doneAt sl).all
          (fun x => decide (s.ob pairIx Sub.pair_CKPT_MAX_AGE_MS * 1000 < s.ageUs x))) = true →
        s.roleOn = false → s.sliceOn sl = true →
        Completes (.ckptAgeExceeded sl) s fun t =>
          sl ∈ t.pair.aged ∧ (s.pairState ≠ 5 → t.dict = s.dict) ∧ (s.pairState = 5 → s.tetherUp = true → t.pairState = 4))) ∧
  (∀ (s : State), s.pairRuns = true → s.tetherUp = true → s.rst.coresHeld = false →
      (∀ b, 3 ≤ s.pairState → s.pairState < 6 → b ≠ s.pairDigest →
        Completes (.tetherFirmwareFrame (.digest b)) s fun t => t.pairState = 6) ∧
      (∀ b, 1 ≤ s.pairState → s.pairState < 3 →
        Completes (.tetherFirmwareFrame (.digest b)) s fun t => t.pair.peerDigest = some b ∧ t.pairState = s.pairState) ∧
      (∀ seqs m, seqsRun seqs = false → exec (.tetherFirmwareFrame (.frames seqs m)) s = .next s) ∧
      (∀ l, s.roleOn = false →
        Completes (.tetherFirmwareFrame (.knots l)) s fun t => t.pair.knotPorts = l ∧ t.dict = s.dict) ∧
      (∀ sl i img, s.roleOn = false → s.sliceOn sl = true →
        Completes (.tetherFirmwareFrame (.entry 6 sl i img)) s fun t => t.watchAt sl i = img ∧ t.dict = s.dict) ∧
      (s.roleOn = true → s.pairState = 3 →
        Completes (.tetherFirmwareFrame (.digest s.pairDigest)) s fun t => t.pairState = 4 ∧ t.asc = s.asc) ∧
      (s.roleOn = false → s.pairState = 3 →
        Completes (.tetherFirmwareFrame .all) s fun t =>
          t.pair.mirrored = true ∧ (t.pairState = 4 ∨ t.pairState = 5)))

/-- R430, R434, R435, R436, R439: a loss at the active unit alone, TAKE, the switch command at its own unit and as it is
forwarded, the handover and the return home. -/
def Obligations.SwitchesRun : Prop :=
  ∀ (s : State) (c : Caller), s.pairRuns = true → s.tetherUp = true →
    (∀ m, (s.roleOn = true ∨ m ∉ s.pair.losOn) → exec (.losCompareExpiry m) s = .next s) ∧
    (∀ m, s.roleOn = false → s.rxLanes.contains m = true → s.pair.losOn.contains m = true →
      s.past (Timer.los m) (1000 * s.ob pairIx Sub.pair_LOS_COMPARE_US) = true → s.pairState = 5 →
      Completes (.losCompareExpiry m) s fun t => t.pair.declared = some (3, false) ∧ SendsTether s t 6) ∧
    (s.roleOn = true →
      Completes .takeReceived s fun t => t.pair.taken = true ∧ t.pair.yielding = true ∧ t.pair.selAct = false) ∧
    (Accepted s c swIx Sub.swWin_SW_CMD 1 → s.home = true → s.roleOn = true → s.pair.cmd = none →
      Completes (.swCmd c 1) s fun t =>
        t.ob swIx Sub.swWin_SW_STATUS = Status.ok.code ∧ t.pair.cmd = none ∧ t.pair.wtr = none ∧
        Reports t c swIx Sub.swWin_SW_CMD .ok) ∧
    (Accepted s c swIx Sub.swWin_SW_CMD 2 → s.home = true → s.roleOn = true → s.pair.cmd = none → s.pairState = 5 →
      Completes (.swCmd c 2) s fun t =>
        t.ob swIx Sub.swWin_SW_STATUS = Status.busy.code ∧ t.pair.cmd = some { cmd := 2, running := true } ∧
        t.pair.stopping = true ∧ Reports t c swIx Sub.swWin_SW_CMD .ok) ∧
    (∀ v x, Accepted s c swIx Sub.swWin_SW_CMD v → v ≠ 0 → s.pair.cmd = some x → x.running = true →
      exec (.swCmd c v) s = .next (s.refusing c swIx Sub.swWin_SW_CMD .busy)) ∧
    (s.home = true → s.roleOn = true → s.pair.cmd = none → s.pairState = 5 →
      Completes (.switchReqReceived 2) s fun t =>
        t.pair.cmd = some { cmd := 2, forwarded := true, running := true } ∧ t.pair.stopping = true ∧
        SendsTether s t 8) ∧
    (∀ cmd, s.home = true → cmd ≠ 1 → cmd ≠ 2 →
      Completes (.switchReqReceived cmd) s fun t =>
        t.ob psIx Sub.pairStat_TTH_BAD_FRAMES = (s.ob psIx Sub.pairStat_TTH_BAD_FRAMES + 1) % 2 ^ 32 ∧ t.pair = s.pair) ∧
    (∀ x, s.home = true → s.pair.cmd = some x →
      Completes (.switchReqReceived 1) s fun t => t.pair.cmd = some x ∧ SendsTether s t 8) ∧
    (∀ cmd st, s.home = false → s.pair.cmd = some { cmd := cmd } → st ≠ .ok →
      Completes (.switchAnsReceived st cmd) s fun t =>
        t.pair.cmd = none ∧ t.ob swIx Sub.swWin_SW_STATUS = st.code) ∧
    (s.home = false → s.roleOn = true → s.pair.cmd = some { cmd := 1 } →
      Completes (.switchAnsReceived .ok 1) s fun t =>
        t.pair.cmd = some { cmd := 1, running := true } ∧ t.pair.stopping = true ∧ t.dict = s.dict) ∧
    (s.roleOn = true → s.pair.stopping = true →
      Completes .handoverSend s fun t =>
        t.pair.yielding = true ∧ t.pair.selAct = false ∧ SendsTether s t 5) ∧
    (s.home = true → s.roleOn = false → s.pair.wtr.isSome = true → s.wtrLeft = 0 → s.pair.cmd = none → s.pairState = 5 →
      Completes .wtrExpiry s fun t =>
        t.pair.cmd = some { cmd := 1, reversion := true, running := true } ∧ t.pair.wtr = none ∧ SendsTether s t 8)

/-- R458 to R460, R480, R499: a session opens with HELLO, is refused before it, and reads and writes objects, each answer
leaving the block. R456, R477: a write waits at the arbiter while a STORE runs. -/
def Obligations.SessionsReadAndWrite : Prop :=
  ∀ (s u : State) (k id : Nat), u = s.requested k →
    (∀ versions, s.parks k false false = false → (s.sessAt k).st = .open → (s.sessAt k).muted = false →
      (s.sessAt k).owed = [] → s.acc.silent = false →
      1 ≤ versions.length → versions.length ≤ 8 → versions.any (fun v => v / 256 % 256 == 1) = true →
      Completes (.msgHello k id versions) s fun t =>
        (t.sessAt k).st = .ready ∧
        Answered s t k 1 id .ok (be 2 0x0100 ++ be 4 (s.sessAt k).number ++ be 1 (s.sessAt k).level)) ∧
    (∀ ix sub_, s.parks k false false = false → (s.sessAt k).st = .open → (s.sessAt k).muted = false →
      (s.sessAt k).owed = [] → s.acc.silent = false →
      Completes (.msgGet k id ix sub_) s fun t => t.dict = s.dict ∧ Answered s t k 2 id .denied []) ∧
    (∀ ix sub_ v, s.parks k false false = false → s.readyFor k → u.readObj k ix sub_ = .ok v → Fits v →
      Completes (.msgGet k id ix sub_) s fun t => t.dict = u.dict ∧ Answered s t k 2 id .ok v) ∧
    (∀ ix sub_ st, s.parks k false false = false → s.readyFor k → u.readObj k ix sub_ = .error st →
      Completes (.msgGet k id ix sub_) s fun t => t.dict = u.dict ∧ Answered s t k 2 id st []) ∧
    (∀ l b, s.parks k false false = false → s.readyFor k → 1 ≤ l.length → l.length ≤ 32 → u.readBlock k l = .ok b → Fits b →
      Completes (.msgGetBlock k id l) s fun t => t.dict = u.dict ∧ Answered s t k 4 id .ok b) ∧
    (∀ l b, s.parks k false false = false → s.readyFor k → 1 ≤ l.length → l.length ≤ 32 → u.readBlock k l = .ok b →
      portLimit (s.sessAt k).port < b.length + 28 →
      Completes (.msgGetBlock k id l) s fun t => t.dict = u.dict ∧ Answered s t k 4 id .range []) ∧
    (∀ i same, s.parks k true true = true →
      exec (.msgSet k id i same) s =
        .next { s with acc := { s.acc with parked := s.acc.parked ++ [s.asParked k (.msg (.msgSet k id i same))] } }) ∧
    (∀ i same w, s.parks k true true = false → s.readyFor k → s.cycleLost k same i = false →
      writeBytes (.session k) i u = (w, some .ok) → w.sessAt k = s.sessAt k → w.wire = s.wire →
      activates i = false →
      Completes (.msgSet k id i same) s fun t =>
        t.acc.lastSet = (if same then w.acc.lastSet else []) ++ [(okey i.ix i.sub, (s.sessAt k).port)] ∧
          t.dict.octs = w.dict.octs ∧
        (∀ ix sub_, ix ≠ 0x0300 → sub_ < 256 → t.ob ix sub_ = w.ob ix sub_) ∧ Answered s t k 3 id .ok []) ∧
    (∀ i w, s.parks k true true = false → s.readyFor k → s.cycleLost k true i = true →
      writeBytes (.session k) i u = (w, some .ok) →
      Completes (.msgSet k id i true) s fun t => t.dict.octs = s.dict.octs ∧ t.asc = s.asc ∧ Answered s t k 3 id .ok []) ∧
    (∀ i same w st, s.parks k true true = false → s.readyFor k → writeBytes (.session k) i u = (w, some st) →
      w.sessAt k = s.sessAt k →
      w.wire = s.wire → st ≠ .ok →
      Completes (.msgSet k id i same) s fun t => t.dict = w.dict ∧ Answered s t k 3 id st []) ∧
    (∀ l same w, s.parks k true true = false → s.readyFor k → 1 ≤ l.length → l.length ≤ 32 →
      writeAll (.session k) l u = .all w →
      w.sessAt k = s.sessAt k → w.wire = s.wire → l.any activates = false →
      Completes (.msgSetBlock k id l same) s fun t =>
        t.acc.lastSet = (if same then w.acc.lastSet else []) ++ l.map (fun i => (okey i.ix i.sub, (s.sessAt k).port)) ∧
          t.dict.octs = w.dict.octs ∧
        (∀ ix sub_, ix ≠ 0x0300 → sub_ < 256 → t.ob ix sub_ = w.ob ix sub_) ∧ Answered s t k 5 id .ok []) ∧
    (∀ l same st, s.parks k true true = false → s.readyFor k → 1 ≤ l.length → l.length ≤ 32 →
      writeAll (.session k) l u = .fails st →
      Completes (.msgSetBlock k id l same) s fun t => t.dict = u.dict ∧ t.asc = s.asc ∧ Answered s t k 5 id st []) ∧
    (∀ l same n, s.parks k true true = false → s.readyFor k → 1 ≤ l.length → l.length ≤ 32 →
      writeAll (.session k) l u = .draws n →
      s.ke.ent.stopped = false → s.entState = entReady → s.entFill < n →
      Completes (.msgSetBlock k id l same) s fun t =>
        t.acc.block = some (s.asParked k (.msg (.msgSetBlock k id l same))) ∧ t.dict = u.dict ∧ t.wire = s.wire)

/-- R461, R462, R469, R485, R500 to R503: TABLE, SUBSCRIBE, CLAIM, RELEASE and RESET of a session, its notifications, the answer
that is overdue, and the event log's window. -/
def Obligations.SessionsOperate : Prop :=
  ∀ (s u : State) (k id : Nat), u = s.requested k →
    (∀ window opSub stSub inputs op results same w, s.parks k true true = false → s.readyFor k →
      windowSubs window = some (opSub, stSub) → inputs.length ≤ 16 → results.length ≤ 16 →
      writeAll (.session k) (inputs ++ [⟨window, opSub, be 1 op⟩]) u = .all w → w.sessAt k = s.sessAt k → w.wire = s.wire →
      w.winBusy window stSub = true →
      Completes (.msgTable k id window inputs op results same) s fun t =>
        (t.sessAt k).owed = [{ op := 6, id := id, window := window, results := results, at_ := w.time.periods,
                                    port := (s.sessAt k).port }] ∧
        t.wire = s.wire ∧ t.dict.octs = w.dict.octs) ∧
    (∀ o opSub stSub b, (s.sessAt k).owed = [o] → o.op = 6 → o.ready = none → o.id = id → o.level = 0 → o.close = none →
      o.kept = none →
      windowSubs o.window = some (opSub, stSub) → setOf o.window ≠ some .swWin → s.winBusy o.window stSub = false →
      s.ob o.window stSub = 0 → s.readBlock k (o.results.map (fun r => (o.window, r))) = .ok b → Fits b →
      let t := flushAnswers k s; t.dict = s.dict ∧ (t.sessAt k).owed = [] ∧ Answered s t k 6 id .ok b) ∧
    (∀ mask, s.parks k false false = false → s.readyFor k → 1 ≤ (s.sessAt k).level →
      Completes (.msgSubscribe k id mask) s fun t =>
        (t.sessAt k).mask = mask % 2 ^ 32 ∧ Answered s t k 7 id .ok []) ∧
    (∀ force ix, s.parks k false true = false → s.readyFor k → u.claimCheck k force [ix] = .ok →
      mfind s.acc.claims ix = none →
      Completes (.msgClaim k id force [ix]) s fun t =>
        mfind t.acc.claims ix = some k ∧ Answered s t k 9 id .ok []) ∧
    (∀ force ix st, s.parks k false true = false → s.readyFor k → u.claimCheck k force [ix] = st → st ≠ .ok →
      Completes (.msgClaim k id force [ix]) s fun t =>
        t.acc.claims = s.acc.claims ∧ Answered s t k 9 id st []) ∧
    (∀ ix, s.parks k false true = false → s.readyFor k → mfind s.acc.claims ix ≠ some k →
      Completes (.msgRelease k id [ix]) s fun t =>
        t.acc.claims = s.acc.claims ∧ Answered s t k 10 id .range []) ∧
    (∀ ix, s.parks k false true = false → s.readyFor k → mfind s.acc.claims ix = some k →
      Completes (.msgRelease k id [ix]) s fun t =>
        mfind t.acc.claims ix = none ∧ Answered s t k 10 id .ok []) ∧
    (k < 16 → s.parks k false true = false → s.readyFor k →
      Completes (.msgRelease k id []) s fun t => (t.sessAt k).st = .closed ∧ Answered s t k 10 id .ok []) ∧
    (∀ level, s.parks k false false = false → s.readyFor k → 2 ≤ (s.sessAt k).level → (level = 1 ∨ level = 2) →
      Completes (.msgReset k id level) s fun t =>
        t.rst.resetDue = s.rst.resetDue ++ [(level, s.time.periods)] ∧ (t.sessAt k).muted = true ∧
          Answered s t k 11 id .ok []) ∧
    (s.past (Timer.notify k) 10000 = false → exec (.notifySend k) s = .next s) ∧
    (∀ r, s.readyFor k → s.past (Timer.notify k) 10000 = true → (s.sessAt k).queue = [r] → (s.sessAt k).lost = none →
      (s.sessAt k).markNext = false →
      ((s.sessAt k).port = 0 → s.hostWaits (s.sessAt k) = false) →
      Completes (.notifySend k) s fun t =>
        (t.sessAt k).queue = [] ∧ ∃ l, t.wire = s.wire ++ .answer k ([8, 0, 0, 0] ++ r) :: l) ∧
    (∀ o, (s.sessAt k).owed = [o] → o.ready = none → o.level = 0 → o.close = none →
      s.gone o.at_ (2000000000 + opTimeNs s o) = true →
      Completes (.requestAnswerTimeout k) s fun t =>
        (t.sessAt k).owed = [] ∧ t.dict = s.dict ∧ Answered s t k o.op o.id .busy []) ∧
    (∀ c r, Starts s c 0x0301 Sub.evWin_EV_OP Sub.evWin_EV_STATUS 1 →
      mfind s.acc.log (s.ob 0x0301 Sub.evWin_EV_SEQ) = some r →
      Operates (.evRead c) s fun t =>
        t.oct 0x0301 Sub.evWin_EV_RECORD = r ∧ t.acc = s.accessOf t ∧
        Ends t c 0x0301 Sub.evWin_EV_OP Sub.evWin_EV_STATUS .ok) ∧
    (∀ c, Starts s c 0x0301 Sub.evWin_EV_OP Sub.evWin_EV_STATUS 1 →
      mfind s.acc.log (s.ob 0x0301 Sub.evWin_EV_SEQ) = none →
      Operates (.evRead c) s fun t =>
        t.acc = s.accessOf t ∧ Ends t c 0x0301 Sub.evWin_EV_OP Sub.evWin_EV_STATUS .range)

/-- R504, R598, R605: an image is staged into the inactive slot, in order, and is refused where its check fails. -/
def Obligations.ImagesAreStaged : Prop :=
  ∀ (s : State) (k id : Nat), s.parks k false false = false → s.readyFor k → 2 ≤ (s.sessAt k).level →
    (mfind s.acc.claims 0x0500 ≠ some k →
      Completes (.fwStageBegin k id) s fun t => t.rst = s.rst ∧ Answered s t k 12 id .claimed []) ∧
    (mfind s.acc.claims 0x0500 = some k → s.rst.staging = none →
      Completes (.fwStageBegin k id) s fun t =>
        t.rst.staging = some (1 - s.rst.active, 0) ∧ mfind t.rst.slots (1 - s.rst.active) = none ∧
        Answered s t k 12 id .ok []) ∧
    (∀ n off b, mfind s.acc.claims 0x0500 = some k → s.rst.staging = some (n, off) → b.length ≤ 16384 →
      off + b.length ≤ 2 ^ 24 →
      Completes (.fwStageData k id off b) s fun t =>
        t.rst.staging = some (n, off + b.length) ∧ (t.slotAt' n).image = (s.slotAt' n).image ++ b ∧
        Answered s t k 12 id .ok []) ∧
    (∀ n next off b, mfind s.acc.claims 0x0500 = some k → s.rst.staging = some (n, next) → off ≠ next →
      Completes (.fwStageData k id off b) s fun t => t.rst = s.rst ∧ Answered s t k 12 id .range []) ∧
    (∀ n off, mfind s.acc.claims 0x0500 = some k → s.rst.staging = some (n, off) → n < 2 →
      s.imageOk (stagedSlot (s.slotAt' n).image).image = true →
      Completes (.fwStageEnd k id) s fun t =>
        t.rst.staging = none ∧ t.slotAt' n = stagedSlot (s.slotAt' n).image ∧ Answered s t k 12 id .ok []) ∧
    (∀ n off, mfind s.acc.claims 0x0500 = some k → s.rst.staging = some (n, off) →
      s.imageOk (stagedSlot (s.slotAt' n).image).image = false →
      Completes (.fwStageEnd k id) s fun t => t.rst.staging = none ∧ Answered s t k 12 id .integrity []) ∧
    (mfind s.acc.claims 0x0500 = some k →
      Completes (.fwStageAbort k id) s fun t => t.rst.staging = none ∧ Answered s t k 12 id .ok [])

/-- R384, R493, R495, R498: a handshake opens an entry and ends one; with the control cores in reset INIT is answered BUSY
(R659); an open session that is idle closes. -/
def Obligations.SessionsOpenAndClose : Prop :=
  ∀ (s : State),
    (∀ port src n k body, port < 3 → src < 256 → 0 < n → n < 2 ^ 32 → s.noSessions = false →
      s.portHears port = true → body.length = 1701 → fld body 0 4 = 0x03000000 → s.handOf port src n = none →
      s.freeSess = some k → s.freeEph.isSome = true →
      s.ke.ent.stopped = false → s.entState = entReady → s.entFill < 32 →
      Completes (.handshakeReceived port src n ([1, 0, 0, 0] ++ body)) s fun t =>
        (t.sessAt k).st = .handshake ∧ (t.sessAt k).number = n ∧ (t.sessAt k).port = port ∧
        (t.sessAt k).peerAddr = src ∧
        t.ke.ent.waiting = s.ke.ent.waiting ++ [⟨.hand k s.ke.nextKnot, 32, s.time.periods⟩]) ∧
    (∀ port src n k h body, port < 3 → src < 256 → n < 2 ^ 32 → s.portHears port = true → s.noSessions = false →
      s.handOf port src n = some k → (s.sessAt k).shake = some h →
      Completes (.handshakeReceived port src n ([5, 0, 0, 0] ++ body)) s fun t => t.sessAt k = {} ∧ t.asc = s.asc ∧
        t.wire = s.wire) ∧
    (∀ port src n body, port < 3 → src < 256 → n < 2 ^ 32 → s.portHears port = true → s.noSessions = true →
      exec (.handshakeReceived port src n ([1, 0, 0, 0] ++ body)) s = .next (sayHandshake port src n 5 (abortBody .busy) s)) ∧
    (∀ k, s.past (Timer.idle k) (1000000000 * s.ob ringIx Sub.ring_SESS_IDLE_S) = false →
      exec (.sessionIdleTimeout k) s = .next s) ∧
    (∀ k, k < 16 → (s.sessAt k).alive = true → s.claimsOf k = [] →
      s.past (Timer.idle k) (1000000000 * s.ob ringIx Sub.ring_SESS_IDLE_S) = true →
      Completes (.sessionIdleTimeout k) s fun t =>
        (t.sessAt k).st = .closed ∧ (t.sessAt k).kM2D = 0 ∧ (t.sessAt k).kD2M = 0)

/-- R490, R492, R496, R497: a MESSAGE is matched to its session, its tag is checked and its request taken; a ring frame for
another node goes on, and DISCOVER is answered. -/
def Obligations.RingCarriesMessages : Prop :=
  ∀ (s : State),
    (∀ port src n payload, s.portHears port = false →
      port < 3 → exec (.messageReceived port src n payload) s = .next s) ∧
    (∀ port src n payload, port < 3 → s.portHears port = true → src < 256 → n < 2 ^ 32 → s.sessOf n = none →
      Completes (.messageReceived port src n payload) s fun t =>
        t.ob ringIx Sub.ring_HAL_NO_SESSION = (s.ob ringIx Sub.ring_HAL_NO_SESSION + 1) % 2 ^ 32 ∧ t.acc = s.acc) ∧
    (∀ port src n payload k, port < 3 → s.portHears port = true → src < 256 → n < 2 ^ 32 → s.sessOf n = some k →
      payload.length < 24 →
      (s.sessAt k).badTags < 15 →
      Completes (.messageReceived port src n payload) s fun t =>
        (t.sessAt k).badTags = (s.sessAt k).badTags + 1 ∧ (t.sessAt k).st = (s.sessAt k).st ∧
        t.ob ringIx Sub.ring_HAL_AUTH_FAIL = (s.ob ringIx Sub.ring_HAL_AUTH_FAIL + 1) % 2 ^ 32) ∧
    (∀ port src n k seq id mask key iv p c, port < 3 → s.portHears port = true → s.parks k false false = false →
      src < 256 → n < 2 ^ 32 → seq < 2 ^ 64 → id < 2 ^ 16 →
      mask < 2 ^ 32 → s.sessOf n = some k → s.readyFor k → 1 ≤ (s.sessAt k).level →
      (s.sessAt k).seqOk seq = true → key = be 32 (s.sessAt k).kM2D → iv = zeros 4 ++ be 8 seq →
      p = [7, 0] ++ be 2 id ++ be 4 mask → c = gcmCrypt key iv p → gcmCrypt key iv c = p → c.length = 8 →
      Completes (.messageReceived port src n
          (be 8 seq ++ c ++ gcmTag key (hashKey key) iv (messageAad n src (s.nodeAddr port)) c)) s fun t =>
        (t.sessAt k).mask = mask ∧ (t.sessAt k).rxHigh = max (s.sessAt k).rxHigh seq ∧ Answered s t k 7 id .ok []) ∧
    (∀ b f port, port = (if b then 2 else 1) → s.portHears port = true → s.acc.joined = true → 30 ≤ f.length →
      fld (f.drop 14) 4 1 ≠ 0 →
      fld (f.drop 14) 2 1 ≠ s.ob ringIx Sub.ring_NODE_ADDR →
      (fld (f.drop 14) 1 1 ≠ 3 → fld (f.drop 14) 1 1 ≠ 4 → s.fwd (3 - port) = [] →
        Completes (.ringFrameReceived b f true false) s fun t =>
          t.wire = s.wire ++ [.ring (3 - port) (lessHop f)] ∧ t.dict = s.dict) ∧
      (fld (f.drop 14) 1 1 ≠ 3 → fld (f.drop 14) 1 1 ≠ 4 → ((s.fwd (3 - port)).map (·.1.length)).sum + f.length ≤ 12288 →
        Completes (.ringFrameReceived b f true true) s fun t =>
          t.fwd (3 - port) = s.fwd (3 - port) ++ [(lessHop f, true)] ∧ t.wire = s.wire ∧ t.dict = s.dict) ∧
      (s.fwd (3 - port) = [] →
        Completes (.ringFrameReceived b f false false) s fun t =>
          t.wire = s.wire ++ [.ringCut (3 - port) (lessHop f)] ∧
          t.ob ringIx Sub.ring_HAL_BAD_FCS = (s.ob ringIx Sub.ring_HAL_BAD_FCS + 1) % 2 ^ 32)) ∧
    (∀ b f ok busy, s.portHears (if b then 2 else 1) = true → s.acc.joined = true → 30 ≤ f.length → fld (f.drop 14) 4 1 = 0 →
      Completes (.ringFrameReceived b f ok busy) s fun t =>
        t.ob ringIx Sub.ring_HAL_HOPS_EXPIRED = (s.ob ringIx Sub.ring_HAL_HOPS_EXPIRED + 1) % 2 ^ 32 ∧ t.wire = s.wire) ∧
    (∀ b src hops, s.portHears (if b then 2 else 1) = true → s.fwd (if b then 2 else 1) = [] →
      Completes (.discoverReceived b src hops) s fun t =>
      ∃ f l, t.wire = s.wire ++ .ring (if b then 2 else 1) f :: l) ∧
    (∀ b src dev head, s.portHears (if b then 2 else 1) = true → src = s.ob ringIx Sub.ring_NODE_ADDR → dev ≠ s.deviceId →
      s.rst.coresHeld = false →
      s.ob 0x0300 Sub.evCtl_EV_HEAD = head →
      Completes (.discoverReplyReceived b src dev) s fun t =>
        mfind t.acc.log head = some (eventRecord 0x1105 0xFF head s.ns (be 1 src)))

/-- R488, R498, R505 to R508: the bypass is released, the mailbox moves one message each way, and the PCIe link comes up, goes
down and is reset. -/
def Obligations.MailboxAndLinkMove : Prop :=
  ∀ (s : State),
    (s.portsUp = true → s.obB (Ix.lane 0x88) Sub.sLane_CG_ALIGNED = true → s.obB (Ix.lane 0x89) Sub.sLane_CG_ALIGNED = true →
      (s.rst.gap = false ∨ s.rst.straps % 4 = 1) → s.gone (mget 0 s.time.since Timer.config) 10000000 = true →
      s.gone (mget 0 s.time.since Timer.step) 10000000 = true → s.past (Timer.aligned 0x88) 10000000 = true →
      s.past (Timer.aligned 0x89) 10000000 = true → Completes .bypassRelease s fun t => t.acc.joined = true ∧
        t.dict = s.dict) ∧
    (s.past (Timer.aligned 0x88) 10000000 = false → exec .bypassRelease s = .next s) ∧
    (∀ len b, s.rst.step = 5 → s.pwr.vigil = false → s.pwr.darkEntry = false → s.inDark = false → s.acc.h2dBusy = false →
      0 < len → len ≤ 28672 →
      Completes (.h2dDoorbell len b) s fun t =>
        t.acc.h2dBusy = true ∧ t.acc.h2d = padTo len (b.take len) ∧ t.dict = s.dict) ∧
    (∀ len b, s.rst.step = 5 → s.pwr.vigil = false → s.acc.h2dBusy = true →
      Completes (.h2dDoorbell len b) s fun t =>
        t.acc = s.acc ∧ t.ob pcieIx Sub.pcie_MB_OVERRUN = (s.ob pcieIx Sub.pcie_MB_OVERRUN + 1) % 2 ^ 32) ∧
    (∀ m rest, s.acc.toHost = m :: rest →
      Completes .d2hAck s fun t =>
        t.acc.d2hValid = true ∧ t.acc.d2h = m.2 ∧ t.acc.toHost = rest ∧ t.wire = s.wire ++ [.mailbox m.2, .msix 1]) ∧
    (s.acc.toHost = [] → Completes .d2hAck s fun t => t.acc.d2hValid = false ∧ t.wire = s.wire) ∧
    (Completes .pcieFlr s fun t =>
      t.acc.h2dBusy = false ∧ t.acc.h2d = [] ∧ t.acc.d2hValid = false ∧ t.acc.toHost = [] ∧
      ∀ k, k < 16 → (t.sessAt k).alive = true → (t.sessAt k).port ≠ 0) ∧
    (Completes .pcieLinkLoss s fun t => t.ob pcieIx Sub.pcie_PCIE_LINK = 0) ∧
    (∀ speed width, s.rst.step = 5 → s.pwr.vigil = false → 1 ≤ speed → speed ≤ 4 → (width = 1 ∨ width = 2 ∨ width = 4) →
      Completes (.pcieLinkUp speed width) s fun t =>
        t.ob pcieIx Sub.pcie_PCIE_LINK = 0x80 + 16 * speed + width ∧ .msix 2 ∈ t.wire) ∧
    (Completes .pciePerstN s fun t =>
      t.ob pcieIx Sub.pcie_PCIE_LINK = 0 ∧ t.acc.h2dBusy = false ∧ t.acc.d2hValid = false ∧ t.acc.toHost = [])

/-- R472 to R479: the Repertoire window stores, loads, erases, digests and selects a profile, and the load that ends
configuration. An image beyond 8 MiB is refused RANGE, the model's choice (log 148). -/
def Obligations.RepertoireWorks : Prop :=
  ∀ (s : State) (c : Caller) (n : Nat), s.ob rpWinIx Sub.rpWin_RP_INDEX = n → n < 4 →
    (∀ k p, Starts s c rpWinIx Sub.rpWin_RP_OP Sub.rpWin_RP_STATUS 1 → (s.kekAt 0).valid = true → s.repKey = some k →
      p = (s.put rpWinIx Sub.rpWin_RP_OP 1).config →
      Operates (.rpStore c) s fun t =>
        mfind t.acc.profiles n = (if p.fits then some { p with key := k } else mfind s.acc.profiles n) ∧
        Ends t c rpWinIx Sub.rpWin_RP_OP Sub.rpWin_RP_STATUS (if p.fits then .ok else .range)) ∧
    (Starts s c rpWinIx Sub.rpWin_RP_OP Sub.rpWin_RP_STATUS 1 → (s.kekAt 0).valid = false →
      Operates (.rpStore c) s fun t =>
        t.acc = s.accessOf t ∧ Ends t c rpWinIx Sub.rpWin_RP_OP Sub.rpWin_RP_STATUS .notReady) ∧
    (∀ p w, Starts s c rpWinIx Sub.rpWin_RP_OP Sub.rpWin_RP_STATUS 2 → s.anyEnabled = false → s.openProfile n = .ok p →
      applyProfile p (s.put rpWinIx Sub.rpWin_RP_OP 2) = (w, .ok) →
      Operates (.rpLoad c) s fun t =>
        t.asc = w.asc ∧ t.tm = w.tm ∧ t.hitch = w.hitch ∧ t.ob rpIx Sub.rpCtl_RP_LOAD_STATUS = Status.ok.code ∧
        Ends t c rpWinIx Sub.rpWin_RP_OP Sub.rpWin_RP_STATUS .ok) ∧
    (Starts s c rpWinIx Sub.rpWin_RP_OP Sub.rpWin_RP_STATUS 2 → s.anyEnabled = true →
      Operates (.rpLoad c) s fun t =>
        t.acc = s.accessOf t ∧ t.asc = s.asc ∧ Ends t c rpWinIx Sub.rpWin_RP_OP Sub.rpWin_RP_STATUS .busy) ∧
    (Starts s c rpWinIx Sub.rpWin_RP_OP Sub.rpWin_RP_STATUS 3 → s.ob rpIx Sub.rpCtl_RP_ACTIVE ≠ n →
      Operates (.rpErase c) s fun t =>
        mfind t.acc.profiles n = none ∧ Ends t c rpWinIx Sub.rpWin_RP_OP Sub.rpWin_RP_STATUS .ok) ∧
    (Starts s c rpWinIx Sub.rpWin_RP_OP Sub.rpWin_RP_STATUS 3 → s.ob rpIx Sub.rpCtl_RP_ACTIVE = n →
      Operates (.rpErase c) s fun t =>
        t.acc = s.accessOf t ∧ Ends t c rpWinIx Sub.rpWin_RP_OP Sub.rpWin_RP_STATUS .busy) ∧
    (∀ p, Starts s c rpWinIx Sub.rpWin_RP_OP Sub.rpWin_RP_STATUS 4 → s.openProfile n = .ok p →
      Operates (.rpDigest c) s fun t =>
        t.oct rpWinIx Sub.rpWin_RP_DIGEST = p.digest ∧ t.acc = s.accessOf t ∧
        Ends t c rpWinIx Sub.rpWin_RP_OP Sub.rpWin_RP_STATUS .ok) ∧
    (Starts s c rpWinIx Sub.rpWin_RP_OP Sub.rpWin_RP_STATUS 5 →
      Operates (.rpSelect c) s fun t =>
        t.ob rpIx Sub.rpCtl_RP_NEXT = n ∧ t.acc = s.accessOf t ∧ Ends t c rpWinIx Sub.rpWin_RP_OP Sub.rpWin_RP_STATUS .ok) ∧
    (∀ p w, s.rst.step = 5 → s.rst.coresHeld = false → s.rst.gap = true → s.paired = false →
      s.ob rpIx Sub.rpCtl_RP_NEXT = n → s.openProfile n = .ok p →
      applyProfile p (s.put rpIx Sub.rpCtl_RP_ACTIVE n) = (w, .ok) → w.paired = false →
      Completes .profileLoad s fun t =>
        t.rst.gap = false ∧ t.ob rpIx Sub.rpCtl_RP_LOAD_STATUS = Status.ok.code ∧ t.asc = w.asc ∧ t.tm = w.tm ∧
        t.hitch = w.hitch ∧ t.roleOn = true) ∧
    ((s.rst.step ≠ 5 ∨ s.rst.coresHeld = true ∨ (s.rst.gap = false ∧ s.acc.again = none)) → exec .profileLoad s = .next s) ∧
    (∀ st, s.rst.step = 5 → s.rst.coresHeld = false → s.rst.gap = true → s.paired = false →
      s.ob rpIx Sub.rpCtl_RP_NEXT = n → s.openProfile n = .error st →
      Completes .profileLoad s fun t =>
        t.rst.gap = false ∧ t.ob rpIx Sub.rpCtl_RP_ACTIVE = n ∧ t.ob rpIx Sub.rpCtl_RP_LOAD_STATUS = st.code ∧
        t.roleOn = true)

/-- R515, R521, R522, R528: what an access to DDR ends in, after `changed` and `bad` came to the contents and `fixed` bursts
were corrected: a blocked access, a read and a write outside every range, a lost line, a good line and a line whose MAC
fails. -/
def Obligations.MemoryAccessesEnd : Prop :=
  ∀ (s u : State) (x : DdrAccess) (changed : List (Nat × Bytes)) (bad : List Nat), (ddrDisturb changed bad s).addOb ddrIx Sub.ddr_DDR_CE 64 x.fixed = u →
    (u.ddrPermits x.master (u.ddrPlace x.addr) x.data.isSome = false →
      Completes (.mgAccess x changed bad) s fun t =>
        t.wire = s.wire ++ [.busData x.master.code x.addr none] ∧ t.guard = u.guard ∧
        t.ob mgIx Sub.guard_MG_BLOCKED = (s.ob mgIx Sub.guard_MG_BLOCKED + 1) % 2 ^ 32) ∧
    (u.ddrPermits x.master .free x.data.isSome = true → u.ddrPlace x.addr = .free → u.burstBad x.addr = false →
      x.data = none →
      Completes (.mgAccess x changed bad) s fun t =>
        t.wire = s.wire ++ [.busData x.master.code x.addr (some (u.memLine x.addr))] ∧ t.guard = u.guard ∧ t.dict = u.dict) ∧
    (∀ d, u.ddrPermits x.master .free x.data.isSome = true → u.ddrPlace x.addr = .free → u.burstBad x.addr = false →
      x.data = some d →
      Completes (.mgAccess x changed bad) s fun t =>
        t.wire = s.wire ++ [.busData x.master.code x.addr (some [])] ∧
        t.memLine x.addr = padTo 64 (patch (u.memLine x.addr) (x.addr % 64) d) ∧
        (∀ a, a / 64 ≠ x.addr / 64 → t.memLine a = u.memLine a) ∧ t.dict = u.dict ∧ t.guard.ranges = u.guard.ranges) ∧
    (∀ r k, x.master = .cores → u.ddrPlace x.addr = .data r k → (u.rangeAt r).lostAt (k / 64) = true →
      Completes (.mgAccess x changed bad) s fun t =>
        t.wire = s.wire ++ [.busData 0 x.addr none] ∧ t.guard = u.guard ∧
        t.ob mgIx Sub.guard_MG_LOST_READS = (s.ob mgIx Sub.guard_MG_LOST_READS + 1) % 2 ^ 32) ∧
    (∀ r k ctr p st, x.master = .cores → x.data = none → u.ddrPlace x.addr = .data r k →
      (u.rangeAt r).lostAt (k / 64) = false → u.cacheGet r 0 (k / 64) = some ctr →
      u.checkLine r ((u.rangeAt r).keysFor (k / 64)) k ctr = (p, st) →
      ((u.rangeAt r).st ≠ 2 ∨ (u.rangeAt r).epoch < s.ob mgIx Sub.guard_EPOCH_REKEY_AT) →
      (st = 0 →
        Completes (.mgAccess x changed bad) s fun t =>
          t.wire = s.wire ++ [.busData 0 x.addr (some p)] ∧ t.guard = u.guard ∧
          t.ob mgIx Sub.guard_MG_CTR_HITS = (s.ob mgIx Sub.guard_MG_CTR_HITS + 1) % 2 ^ 64 ∧
          t.ob mgIx Sub.guard_MG_READ_MISSES = (s.ob mgIx Sub.guard_MG_READ_MISSES + 1) % 2 ^ 64) ∧
      (st = 2 → u.watched 0x38 = true →
        Completes (.mgAccess x changed bad) s fun t =>
          t.wire = s.wire ++ [.busData 0 x.addr none] ∧ 0x38 ∈ t.alm.latched ∧ t.guard.ranges = u.guard.ranges ∧
          t.ob mgIx Sub.guard_MG_INTEGRITY = (s.ob mgIx Sub.guard_MG_INTEGRITY + 1) % 2 ^ 32))

/-- R512, R524 to R526, R529, R532, R533, R539: the Stagehand's page, the retry of an owed re-key, REKEY and REFORM, and what
the scrubber finds. -/
def Obligations.RangesAreRekeyed : Prop :=
  ∀ (s : State) (r : Nat) (g : GRange), r < 16 → s.rangeAt r = g →
    (s.past Timer.page (s.pageNs ((g.split.map (·.1)).getD false)) = false → ¬(g.st = 3 ∧ g.epoch = 2 ^ 32 - 1) →
      exec (.stagehandPageMove r) s = .next s) ∧
    (∀ b w, g.split = some (false, b) → g.valid = true → g.st = 3 → s.dark = false → s.rst.gap = false →
      s.past Timer.page (s.pageNs false) = true →
      rewritePage r b (g.kd, g.km) (g.kdNew, g.kmNew) (s.mark Timer.page) = .ok w →
      (b + 1 < g.pages →
        Completes (.stagehandPageMove r) s fun t => (t.rangeAt r).split = some (false, b + 1) ∧ (t.rangeAt r).st = 3) ∧
      (b + 1 = g.pages → g.epochNew < s.ob mgIx Sub.guard_EPOCH_REKEY_AT →
        Completes (.stagehandPageMove r) s fun t =>
          (t.rangeAt r).st = 2 ∧ (t.rangeAt r).split = none ∧ (t.rangeAt r).kd = g.kdNew ∧ (t.rangeAt r).km = g.kmNew ∧
          (t.rangeAt r).keyGen = (g.keyGen + 1) % 2 ^ 16)) ∧
    (s.past (Timer.seed r) 10000000 = false → exec (.rekeySeedRetry r) s = .next s) ∧
    (g.retry = true → g.st = 2 → s.past (Timer.seed r) 10000000 = true → s.drawsNow 64 →
      Completes (.rekeySeedRetry r) s fun t =>
        (t.rangeAt r).st = 3 ∧ (t.rangeAt r).retry = false ∧ (t.rangeAt r).kdNew = fld (s.nextDraw 64) 0 32 ∧
        (t.rangeAt r).kmNew = fld (s.nextDraw 64) 32 32 ∧ (t.rangeAt r).split = some (false, 0)) ∧
    (∀ c, Starts s c (rangeIx r) Sub.range_RG_OP Sub.range_RG_STATUS 1 → g.valid = true → g.st = 2 → s.drawsNow 64 →
      Operates (.rgRekey c r) s fun t =>
        (t.rangeAt r).st = 3 ∧ (t.rangeAt r).kdNew = fld (s.nextDraw 64) 0 32 ∧ (t.rangeAt r).split = some (false, 0) ∧
        Ends t c (rangeIx r) Sub.range_RG_OP Sub.range_RG_STATUS .ok) ∧
    (∀ c, Starts s c (rangeIx r) Sub.range_RG_OP Sub.range_RG_STATUS 1 → g.valid = true → (g.st = 1 ∨ g.st = 3) →
      Operates (.rgRekey c r) s fun t =>
        t.guard = s.guard ∧ Ends t c (rangeIx r) Sub.range_RG_OP Sub.range_RG_STATUS .busy) ∧
    (∀ c, Starts s c (rangeIx r) Sub.range_RG_OP Sub.range_RG_STATUS 2 → g.valid = true →
      (g.keyBearing = true → s.alm.latch < 3) → s.drawsNow 96 →
      Operates (.rgReform c r) s fun t =>
        (t.rangeAt r).st = 1 ∧ (t.rangeAt r).lost = [] ∧ (t.rangeAt r).split = some (true, 0) ∧
        (t.rangeAt r).kt = fld (s.nextDraw 96) 64 32 ∧ (t.rangeAt r).keyGen = 0 ∧
        Ends t c (rangeIx r) Sub.range_RG_OP Sub.range_RG_STATUS .ok) ∧
    (∀ found, s.past Timer.patrol s.patrolNs = false → exec (.ddrPatrolScrub found) s = .next s) ∧
    (s.dark = false → 0 < s.bursts → s.past Timer.patrol s.patrolNs = true → s.burstBad (64 * s.guard.patrol) = false →
      Completes (.ddrPatrolScrub 1) s fun t =>
      t.guard = { s.guard with patrol := (s.guard.patrol + 1) % s.bursts } ∧
      t.ob ddrIx Sub.ddr_DDR_CE = (s.ob ddrIx Sub.ddr_DDR_CE + 1) % 2 ^ 64 ∧ t.alm = s.alm) ∧
    (s.dark = false → 0 < s.bursts → s.past Timer.patrol s.patrolNs = true → Completes (.ddrPatrolScrub 2) s fun t =>
      t.guard.patrol = (s.guard.patrol + 1) % s.bursts ∧
      t.ob ddrIx Sub.ddr_DDR_UE = (s.ob ddrIx Sub.ddr_DDR_UE + 1) % 2 ^ 32 ∧ t.burstBad (64 * s.guard.patrol) = true ∧
      (s.watched 0x3B = true → 0x3B ∈ t.alm.latched))

/-- R540 to R545, R549, R554, R557: a tamper sample counts toward a source and ends its condition, a monitor and a bus code
raise theirs, and a condition ends. -/
def Obligations.SourcesAreRaised : Prop :=
  ∀ (s : State),
    (∀ x, s.pwr.vigil = false → s.inDark = false →
      Completes (.tamperSample x) s fun t =>
        t.alm.aoTime = (s.alm.aoTime + x.ticks) % 2 ^ 48 ∧ t.alm.latch = s.alm.latch ∧ t.alm.vs = s.alm.vs ∧
        t.asc = s.asc ∧
        ((∀ k, k < 4 → s.ob (0x4C10 + k) Sub.loop_LOOP_MODE = 0) → t.wire = s.wire) ∧
        (s.ob 0x4C13 Sub.loop_LOOP_MODE ≠ 0 →
          .loopDrive 3 (prbs15Word 256 (loopSeed (mget 0 s.alm.prbs 3) (x.rc.getD 3 0))) ∈ t.wire) ∧
        (bit x.switches 0 = true → s.ob 0x4C00 Sub.alarm_TAMPER_DEBOUNCE ≤ mget 0 s.alm.counts 0 + 1 →
          s.watched 1 = true → 1 ∈ t.alm.active) ∧
        (bit x.switches 0 = false → mget 0 t.alm.counts 0 = 0 ∧ 1 ∉ t.alm.active)) ∧
    (∀ src rail v, s.tripHolds src rail v = true → src ≠ 0x0C → src ≠ 0x0D → s.watched src = true → s.inDark = false →
      Completes (.monitorTrip src rail v) s fun t =>
        src ∈ t.alm.active ∧ t.alm.raised = s.alm.raised ++ [(src, 0, s.maintOpen)] ∧
        t.ob (0x4D00 + src) Sub.source_SRC_COUNT = (s.ob (0x4D00 + src) Sub.source_SRC_COUNT + 1) % 2 ^ 32 ∧
        t.alm.latch = s.alm.latch ∧ t.wire = s.wire) ∧
    (∀ key transfer sink,
      exec (.busIntegrityMismatch key transfer sink (busCode transfer sink)) s = .next s) ∧
    (∀ key transfer sink code, busCode transfer sink ≠ code → s.watched (if key then 0x10 else 0x0F) = true →
      Completes (.busIntegrityMismatch key transfer sink code) s fun t =>
        (if key then 0x10 else 0x0F) ∈ t.alm.latched ∧
        t.alm.raised = s.alm.raised ++ [(if key then 0x10 else 0x0F, sink, s.maintOpen)] ∧ t.asc = s.asc ∧ t.tm = s.tm) ∧
    (∀ src, src ∈ s.alm.active →
      Completes (.sourceConditionEnd src) s fun t =>
        src ∉ t.alm.active ∧ src ∈ t.alm.latched ∧ t.alm.latch = s.alm.latch ∧ t.dict = s.dict)

/-- R549 to R552, R555: one source alone in the response logic latches the response of its class, CURTAIN begins the
zeroisation, and its end is reported; a CLEAR of CURTAIN makes a system reset later. -/
def Obligations.ResponsesAct : Prop :=
  ∀ (s : State),
    (∀ src d m, s.alm.raised = [(src, d, m)] → s.pwr.darkEntry = false → s.pwr.vigil = false → s.inDark = false →
      s.actAs src m ≤ 1 →
      Completes .alarmResponse s fun t =>
        t.alm.latch = s.alm.latch ∧ t.alm.raised = [] ∧ (s.actAs src m = 1 → t.alm.unacked = true) ∧
        t.alm.vs = s.alm.vs ∧ t.asc = s.asc) ∧
    (∀ src d m, s.alm.raised = [(src, d, m)] → s.pwr.darkEntry = false → s.pwr.vigil = false → s.inDark = false →
      s.actAs src m = 3 → s.alm.latch < 3 →
      Completes .alarmResponse s fun t =>
        t.alm.latch = 3 ∧ t.alm.raised = [] ∧ t.alm.zeroising = 3 ∧ t.alm.unacked = true ∧
        (∀ k, k < 16 → (t.sessAt k).alive = false)) ∧
    (s.alm.raised = [] → exec .alarmResponse s = .next s) ∧
    (s.alm.zeroising = 3 →
      Completes .zeroiseDone s fun t => t.alm.zeroising = 0 ∧ t.alm.latch = s.alm.latch ∧ t.rst = s.rst) ∧
    (s.alm.zeroising = 4 → s.pwr.vigil = false →
      Completes .zeroiseDone s fun t =>
        t.alm.zeroising = 0 ∧ t.rst.coresHeld = true ∧ t.rst.gap = true ∧
        bit (t.ob rstIx Sub.rstBoot_RESET_CAUSE) 4 = true) ∧
    (s.alm.clearReset = true → s.past Timer.clear 100000 = true → s.pwr.vigil = false →
      Completes .clearResetDelay s fun t =>
        t.alm.clearReset = false ∧ t.rst.coresHeld = true ∧ t.rst.gap = true ∧
        bit (t.ob rstIx Sub.rstBoot_RESET_CAUSE) 5 = true) ∧
    ((s.alm.clearReset = false ∨ s.past Timer.clear 100000 = false) → exec .clearResetDelay s = .next s)

/-- R547, R548, R553 to R556, R558, R559, R563, R564: the operations of the alarm window and of the always-on log's, and the end
of a maintenance window. -/
def Obligations.AlarmWindowOperates : Prop :=
  ∀ (s : State) (c : Caller),
    (Starts s c 0x4C01 Sub.almWin_ALM_OP Sub.almWin_ALM_STATUS 1 →
      Operates (.almAck c) s fun t =>
        t.alm.unacked = false ∧ t.alm.latched = [] ∧ t.alm.active = s.alm.active ∧ t.alm.latch = s.alm.latch ∧
        Ends t c 0x4C01 Sub.almWin_ALM_OP Sub.almWin_ALM_STATUS .ok) ∧
    (Starts s c 0x4C01 Sub.almWin_ALM_OP Sub.almWin_ALM_STATUS 2 → s.alm.latch ≠ 0 →
      (∀ x ∈ s.alm.active, s.actClass x < s.alm.latch) →
      Operates (.almClear c) s fun t =>
        t.alm.latch = 0 ∧ (3 ≤ s.alm.latch → t.alm.clearReset = true) ∧ t.alm.active = s.alm.active ∧
        Ends t c 0x4C01 Sub.almWin_ALM_OP Sub.almWin_ALM_STATUS .ok) ∧
    (∀ x, Starts s c 0x4C01 Sub.almWin_ALM_OP Sub.almWin_ALM_STATUS 2 → s.alm.latch ≠ 0 → x ∈ s.alm.active →
      s.alm.latch ≤ s.actClass x →
      Operates (.almClear c) s fun t =>
        t.alm = s.alm ∧ Ends t c 0x4C01 Sub.almWin_ALM_OP Sub.almWin_ALM_STATUS .busy) ∧
    (∀ src, Starts s c 0x4C01 Sub.almWin_ALM_OP Sub.almWin_ALM_STATUS 3 → s.ob 0x4C01 Sub.almWin_ALM_SOURCE = src →
      s.vendorOrOwned = true → (sourceInfo src).isSome = true → src ∉ s.fuse.disabled →
      Operates (.almFuseDisable c) s fun t =>
        t.fuse.disabled = s.fuse.disabled ++ [src] ∧ src ∉ t.alm.active ∧ t.watched src = false ∧
        Ends t c 0x4C01 Sub.almWin_ALM_OP Sub.almWin_ALM_STATUS .ok) ∧
    (Starts s c 0x4C01 Sub.almWin_ALM_OP Sub.almWin_ALM_STATUS 3 → s.vendorOrOwned = false →
      Operates (.almFuseDisable c) s fun t =>
        t.fuse = s.fuse ∧ Ends t c 0x4C01 Sub.almWin_ALM_OP Sub.almWin_ALM_STATUS .denied) ∧
    (∀ n, Starts s c 0x4C01 Sub.almWin_ALM_OP Sub.almWin_ALM_STATUS 4 → s.ob 0x4C01 Sub.almWin_ALM_ARG = n →
      60 ≤ n → n ≤ 14400 →
      Operates (.almMaint c) s fun t =>
        t.maintOpen = true ∧ t.maintLeft = n ∧ Ends t c 0x4C01 Sub.almWin_ALM_OP Sub.almWin_ALM_STATUS .ok) ∧
    (s.maintLeft ≠ 0 → exec .maintWindowExpiry s = .next s) ∧
    (s.maintLeft = 0 → Completes .maintWindowExpiry s fun t => t.maintOpen = false ∧ t.alm.latch = s.alm.latch ∧
      t.wire = s.wire) ∧
    (∀ r, Starts s c 0x4C02 Sub.alWin_AL_OP Sub.alWin_AL_STATUS 1 →
      mfind s.alm.log (s.ob 0x4C02 Sub.alWin_AL_SEQ) = some r → fld r 2 1 ∉ s.fuse.disabled →
      Operates (.alRead c) s fun t =>
        t.oct 0x4C02 Sub.alWin_AL_RECORD = r ∧ t.alm = s.alm ∧ Ends t c 0x4C02 Sub.alWin_AL_OP Sub.alWin_AL_STATUS .ok) ∧
    (Starts s c 0x4C02 Sub.alWin_AL_OP Sub.alWin_AL_STATUS 1 → mfind s.alm.log (s.ob 0x4C02 Sub.alWin_AL_SEQ) = none →
      Operates (.alRead c) s fun t => Ends t c 0x4C02 Sub.alWin_AL_OP Sub.alWin_AL_STATUS .range)

/-- R31, R569 to R573, R653: PWR_REQ, its refusals, a change of performance point and how it ends. -/
def Obligations.PowerChangesRun : Prop :=
  ∀ (s : State) (c : Caller),
    (Accepted s c 0x0400 Sub.power_PWR_REQ 1 → s.pwrBusy 0 = false → s.ob 0x0400 Sub.power_PWR_STATE = 1 →
      Completes (.pwrReqActive c) s fun t =>
        t.pwr.change = some ⟨c.entry, 0, s.ob 0x0400 Sub.power_PWR_REQ, 0, s.ob 0x0400 Sub.power_PP_NOW, s.clockedSlices, false⟩ ∧
        t.ob 0x0400 Sub.power_PP_PHASE = 3 ∧ t.ob 0x0400 Sub.power_PWR_STATUS = Status.busy.code ∧
        t.wire = s.wire ++ [.voltage 750]) ∧
    (Accepted s c 0x0400 Sub.power_PWR_REQ 2 → s.pwrBusy 1 = false → s.ob 0x0400 Sub.power_PWR_STATE = 0 →
      Completes (.pwrReqTrim c) s fun t =>
        t.pwr.change = some ⟨c.entry, 1, s.ob 0x0400 Sub.power_PWR_REQ, s.ob 0x0400 Sub.power_TRIM_POINT,
          s.ob 0x0400 Sub.power_PP_NOW, s.clockedSlices, false⟩ ∧
        t.ob 0x0400 Sub.power_PP_PHASE = 1 ∧ t.wire = s.wire) ∧
    (Accepted s c 0x0400 Sub.power_PWR_REQ 2 → s.pwrBusy 1 = true →
      exec (.pwrReqTrim c) s = .next (s.refusing c 0x0400 Sub.power_PWR_REQ .busy)) ∧
    (∀ sl, (s.pllsLocked = false ∨ s.drained sl = false) → exec (.sliceClockHold sl) s = .next s) ∧
    (∀ ch sl rest, s.pllsLocked = true → s.drained sl = true → s.pwr.change = some ch → ch.slices = sl :: rest →
      (s.ob 0x0400 Sub.power_PP_PHASE = 1 ∨ s.ob 0x0400 Sub.power_PP_PHASE = 4) → rest ≠ [] →
      Completes (.sliceClockHold sl) s fun t =>
        t.pwr.change = some { ch with slices := rest } ∧ mget 0 t.pwr.slicePt sl = ch.point ∧
        t.ob 0x0400 Sub.power_PP_PHASE = s.ob 0x0400 Sub.power_PP_PHASE) ∧
    (∀ ch sl, s.pllsLocked = true → s.drained sl = true → s.pwr.change = some ch → ch.slices = [sl] →
      s.ob 0x0400 Sub.power_PP_PHASE = 1 →
      Completes (.sliceClockHold sl) s fun t =>
        t.ob 0x0400 Sub.power_PP_PHASE = 2 ∧ mget 0 t.pwr.slicePt sl = ch.point ∧
        .voltage (setPoint ch.point) ∈ t.wire) ∧
    (∀ ch sl mv, s.pwr.change = some ch → ch.slices = [sl] → s.ob 0x0400 Sub.power_PP_PHASE = 3 →
      setPoint ch.point ≤ mv + 10 →
      Completes (.voltageReported mv) s fun t =>
        t.ob 0x0400 Sub.power_PP_PHASE = 4 ∧ t.ob 0x0400 Sub.power_VDD_CORE_MV = mv % 2 ^ 16 ∧ t.pwr = s.pwr) ∧
    (∀ ch mv, s.pwr.change = some ch → s.ob 0x0400 Sub.power_PP_PHASE = 2 → mv ≤ setPoint ch.point →
      Completes (.voltageReported mv) s fun t =>
        t.pwr.change = none ∧ t.ob 0x0400 Sub.power_PP_PHASE = 0 ∧ t.ob 0x0400 Sub.power_PP_NOW = ch.point ∧
        t.ob 0x0400 Sub.power_PWR_STATE = ch.state ∧ t.ob 0x0400 Sub.power_PWR_STATUS = Status.ok.code) ∧
    (s.past Timer.volt (1000 * s.ob 0x0400 Sub.power_PP_VOLT_TIMEOUT_US) = false → exec .ppVoltTimeout s = .next s) ∧
    (∀ ch i, (i = .ppVoltTimeout ∧
      s.past Timer.volt (1000 * s.ob 0x0400 Sub.power_PP_VOLT_TIMEOUT_US) = true ∨ i = .pmbAlert) →
      s.pwr.change = some ch → s.ob 0x0400 Sub.power_PP_PHASE = 3 →
      Completes i s fun t =>
        t.pwr.change = none ∧ t.ob 0x0400 Sub.power_PP_PHASE = 0 ∧
        t.ob 0x0400 Sub.power_PWR_STATUS = Status.notReady.code ∧ t.ob 0x0400 Sub.power_PWR_REQ = ch.req ∧
        t.ob 0x0400 Sub.power_PP_NOW = s.ob 0x0400 Sub.power_PP_NOW ∧ .voltage (setPoint ch.old) ∈ t.wire) ∧
    (s.pwr.change = none → exec .pmbAlert s = .next s ∧ exec .ppVoltTimeout s = .next s)

/-- R558, R575 to R580, R582: entry to DARK and the ways out of it, the gating of a slice, the loss of main power, and the
reference clocks. -/
def Obligations.DarkAndClocks : Prop :=
  ∀ (s : State) (c : Caller),
    (Accepted s c 0x0400 Sub.power_PWR_REQ 3 → s.pwrBusy 2 = false →
      Completes (.pwrReqDark c) s fun t =>
        t.pwr.darkEntry = true ∧ t.pwr.darkFrom = s.ob 0x0400 Sub.power_PWR_STATE ∧ t.acc.joined = false ∧
        t.ob 0x0400 Sub.power_PWR_STATE = s.ob 0x0400 Sub.power_PWR_STATE) ∧
    (s.pwr.darkEntry = true → s.pwr.porstFell = false → s.pwr.wake = none →
      Completes .darkEntryComplete s fun t =>
        t.ob 0x0400 Sub.power_PWR_STATE = 2 ∧ t.pwr.darkEntry = false ∧
        t.ob 0x0402 Sub.residency_DARK_ENTRIES = (s.ob 0x0402 Sub.residency_DARK_ENTRIES + 1) % 2 ^ 32 ∧
        (∀ sl, sl < 4 → s.sliceOn sl = true → t.gated sl = true)) ∧
    (∀ hb los, s.past Timer.sample (1000 * s.ob 0x0401 Sub.dark_DARK_SAMPLE_US) = false →
      exec (.darkSample hb los) s = .next s) ∧
    (∀ hb los, s.inDark = true → s.past Timer.sample (1000 * s.ob 0x0401 Sub.dark_DARK_SAMPLE_US) = true →
      (s.ob 0x0401 Sub.dark_DARK_EXP_HB = 1 ∧ hb = false ∨ s.ob 0x0401 Sub.dark_DARK_EXP_HB = 2 ∧ hb = true) →
      Completes (.darkSample hb los) s fun t =>
        t.ob 0x0400 Sub.power_PWR_STATE = s.pwr.darkFrom ∧ t.ob 0x0401 Sub.dark_LAST_WAKE_CAUSE = 1) ∧
    (∀ hb los, s.inDark = true → s.past Timer.sample (1000 * s.ob 0x0401 Sub.dark_DARK_SAMPLE_US) = true →
      s.ob 0x0401 Sub.dark_DARK_EXP_HB = 0 → s.pwr.porstFell = false →
      (los ^^^ s.ob 0x0401 Sub.dark_DARK_EXP_LOS) &&& s.ob 0x0401 Sub.dark_DARK_LOS_CARE = 0 →
      exec (.darkSample hb los) s = .next (s.mark Timer.sample)) ∧
    (s.past Timer.dark (1000000000 * s.ob 0x0401 Sub.dark_DARK_WAKE_S) = false → exec .darkWakeTimer s = .next s) ∧
    (s.inDark = true → s.ob 0x0401 Sub.dark_DARK_WAKE_S ≠ 0 →
      s.past Timer.dark (1000000000 * s.ob 0x0401 Sub.dark_DARK_WAKE_S) = true →
      Completes .darkWakeTimer s fun t =>
        t.ob 0x0400 Sub.power_PWR_STATE = s.pwr.darkFrom ∧ t.ob 0x0401 Sub.dark_LAST_WAKE_CAUSE = 5) ∧
    (∀ sl, sl < 4 → s.changing = false →
      (Accepted s c (0x0410 + sl) Sub.slicePwr_SLICE_POWER 1 → s.sliceInUse sl = false →
        Completes (.slicePowerWrite c sl 1) s fun t =>
          t.gated sl = true ∧ t.ob (0x0410 + sl) Sub.slicePwr_SLICE_POWER_NOW = 1 ∧
          Reports t c (0x0410 + sl) Sub.slicePwr_SLICE_POWER .ok) ∧
      (Accepted s c (0x0410 + sl) Sub.slicePwr_SLICE_POWER 1 → s.sliceInUse sl = true →
        exec (.slicePowerWrite c sl 1) s = .next (s.refusing c (0x0410 + sl) Sub.slicePwr_SLICE_POWER .busy)) ∧
      (Accepted s c (0x0410 + sl) Sub.slicePwr_SLICE_POWER 0 → s.ob (0x0410 + sl) Sub.slicePwr_SLICE_POWER_NOW = 1 →
        Completes (.slicePowerWrite c sl 0) s fun t =>
          t.ob (0x0410 + sl) Sub.slicePwr_SLICE_POWER_NOW = 2 ∧
          Reports t c (0x0410 + sl) Sub.slicePwr_SLICE_POWER .ok)) ∧
    (∀ sl a b, s.sliceOn sl = true → s.ob (0x0410 + sl) Sub.slicePwr_SLICE_POWER_NOW = 2 → 8 ≤ passing a → 8 ≤ passing b →
      Completes (.sliceUngateDone sl a b) s fun t =>
        t.gated sl = false ∧ t.ob (pipeIx sl .seal) Sub.pipe_PIPE_STATE = 0 ∧
        t.ob (pipeIx sl .open) Sub.pipe_PIPE_STATE = 0) ∧
    (∀ cell, s.pwr.vigil = false →
      Completes (.mainPowerLoss cell) s fun t =>
        t.pwr.vigil = true ∧ t.guard.mem = [] ∧ t.asc.sa = [] ∧ t.tm = {} ∧ t.fuse = s.fuse ∧
        (cell = true → t.alm.vs = s.alm.vs ∧ t.alm.log = s.alm.log) ∧ (cell = false → t.alm.vs = none)) ∧
    (∀ i, i < 2 → s.ob 0x0600 Sub.clocks_REFCLK_ACTIVE = i →
      (s.clkMode = 1 → bit (s.ob 0x0600 Sub.clocks_REFCLK_OK) (1 - i) = true →
        Completes (.refclkLoss i) s fun t =>
          t.ob 0x0600 Sub.clocks_REFCLK_ACTIVE = 1 - i ∧ bit (t.ob 0x0600 Sub.clocks_REFCLK_OK) i = false ∧
          t.ob 0x0600 Sub.clocks_REFCLK_SWITCHES = (s.ob 0x0600 Sub.clocks_REFCLK_SWITCHES + 1) % 2 ^ 32) ∧
      (s.clkMode ≠ 1 → s.watched 0x0B = true →
        Completes (.refclkLoss i) s fun t => t.ob 0x0600 Sub.clocks_PLL_LOCK = 0 ∧ 0x0B ∈ t.alm.active)) ∧
    (s.clkMode = 1 → s.obB 0x0600 Sub.clocks_REFCLK_REVERT = true → s.ob 0x0600 Sub.clocks_REFCLK_ACTIVE = 1 →
      Completes .refclkRevert s fun t =>
        t.ob 0x0600 Sub.clocks_REFCLK_ACTIVE = 0 ∧ bit (t.ob 0x0600 Sub.clocks_REFCLK_OK) 0 = true)

/-- R450, R588, R589, R503, R505, R604, R633: what each reset clears, keeps and records: a power-on reset and what asserts it, a
system reset, a core reset and what asserts it. R328: a power-up that finds the Vigil secret's check word turned over
zeroises the secret. -/
def Obligations.ResetsClear : Prop :=
  ∀ (s : State),
    (∀ secret code, Completes (.powerOnReset secret code) s fun t =>
      AllCleared s t 0 ∧ t.fuse = { s.fuse with change := none } ∧
      (s.alm.vsCode = 0 → secret % 2 ^ 256 = 0 → code % 2 ^ 32 = 0 → t.alm.vs = s.alm.vs) ∧
      (s.alm.vsCode = 0 → secret % 2 ^ 256 = 0 → code % 2 ^ 32 ≠ 0 → t.alm.vs = none)) ∧
    (∀ ns secret code, s.pwr.vigil = false →
      (ns < 1000 → exec (.powerGoodFall ns secret code) s = .next s) ∧
      (1000 ≤ ns → Completes (.powerGoodFall ns secret code) s fun t => AllCleared s t 0) ∧
      (ns < 10000 → exec (.porstNAssert ns) s = .next s) ∧
      (10000 ≤ ns → s.dark = false →
        Completes (.porstNAssert ns) s fun t => AllCleared s t 1 ∧ (s.alm.vsCode = 0 → t.alm.vs = s.alm.vs)) ∧
      (10000 ≤ ns → s.dark = true →
        Completes (.porstNAssert ns) s fun t => t.pwr.porstFell = true ∧ t.dict = s.dict ∧ t.rst = s.rst)) ∧
    (∀ b, b < 12 → s.pwr.vigil = false →
      Completes (.systemReset b) s fun t => AllCleared s t b ∧ t.fuse = s.fuse ∧ t.alm.vs = s.alm.vs) ∧
    (∀ b, b < 12 → s.pwr.vigil = false → s.rst.step = 5 → Completes (.coreReset b) s fun t => CoreCleared s t b) ∧
    (s.pwr.vigil = false → s.rst.step = 5 → Completes .pcieHotReset s fun t => CoreCleared s t 9) ∧
    (∀ n rest, s.pwr.vigil = false → s.rst.step = 5 → s.gone n 100000 = true → s.rst.resetDue = (1, n) :: rest →
      Completes .resetMsgAssert s fun t => CoreCleared s t 7 ∧ t.rst.resetDue = rest) ∧
    (∀ n rest, s.pwr.vigil = false → s.gone n 100000 = true → s.rst.resetDue = (2, n) :: rest →
      Completes .resetMsgAssert s fun t => AllCleared s t 8 ∧ t.rst.resetDue = []) ∧
    (s.rst.resetDue.all (fun x => !s.gone x.2 100000) = true → exec .resetMsgAssert s = .next s) ∧
    (∀ b, s.pwr.vigil = false → s.rst.step ≠ 5 →
      Completes (.coreReset b) s fun t =>
        t.acc = s.acc ∧ t.asc = s.asc ∧ t.ke = s.ke ∧ t.rst = s.rst ∧
          bit (t.ob rstIx Sub.rstBoot_RESET_CAUSE) (b % 12) = true) ∧
    (s.past Timer.boot (1000000 * s.ob fwIx Sub.fwWdt_WDT_TIMEOUT_MS) = false → exec .watchdogExpiry s = .next s) ∧
    (s.pwr.vigil = false → s.rst.step = 5 → s.rst.coresHeld = false → s.rst.lastWdt = none →
      s.past Timer.boot (1000000 * s.ob fwIx Sub.fwWdt_WDT_TIMEOUT_MS) = true →
      Completes .watchdogExpiry s fun t => CoreCleared s t 2 ∧ t.rst.lastWdt = some s.time.periods) ∧
    (∀ n, s.pwr.vigil = false → s.rst.coresHeld = false → s.rst.lastWdt = some n → s.time.periods ≤ n + 7500000000 →
      s.past Timer.boot (1000000 * s.ob fwIx Sub.fwWdt_WDT_TIMEOUT_MS) = true →
      Completes .watchdogExpiry s fun t => AllCleared s t 3)

/-- R513, R593 to R595, R599 to R604: the power-up order, its time-out and retry, the clock-valid flags, and the boot of the
active slot. -/
def Obligations.PowerUpAndBoot : Prop :=
  ∀ (s : State), s.pwr.vigil = false →
    (∀ ddr masks, s.rst.step = 1 →
      Completes (.powerupStepReady ddr masks) s fun t =>
        t.rst.step = 2 ∧ t.rst.straps = s.fuse.strapPins % 2 ^ 13 ∧
        t.ob 0x0201 Sub.ring_NODE_ADDR = bits s.fuse.strapPins 11 6 ∧
        t.ob 0x0600 Sub.clocks_CLK_MODE = bits s.fuse.strapPins 3 2) ∧
    (∀ ddr masks, s.rst.step = 2 →
      Completes (.powerupStepReady ddr masks) s fun t =>
        t.rst.step = 3 ∧ t.ob 0x0600 Sub.clocks_PLL_LOCK = 7 ∧ t.wire = s.wire) ∧
    (∀ ddr masks, s.rst.step = 3 → s.resetHeld = true → exec (.powerupStepReady ddr masks) s = .next s) ∧
    (∀ masks, s.rst.step = 3 → s.resetHeld = false →
      Completes (.powerupStepReady 0 masks) s fun t =>
        t.rst.step = 5 ∧ t.rst.coresHeld = s.rst.coresHeld ∧
        t.ob 0x4A01 Sub.ddr_DDR_TRAIN_STATUS = 0 ∧ t.ob 0x4A01 Sub.ddr_DDR_SPEED_RUN = s.ddrSpeed) ∧
    (∀ masks, s.rst.step = 3 → s.resetHeld = false →
      Completes (.powerupStepReady 3 masks) s fun t =>
        t.rst.step = 5 ∧ t.ob 0x4A01 Sub.ddr_DDR_TRAIN_STATUS = 2 ∧
        bits (t.ob rstIx Sub.rstBoot_RESET_CAUSE) 23 20 = 3) ∧
    (s.resetHeld = false → s.rstoutRun.rst.rstout = false) ∧
    (∀ code, s.past Timer.step s.stepNs = false → exec (.powerupStepTimeout code) s = .next s) ∧
    (∀ code, s.past Timer.step s.stepNs = true → (s.rst.step = 1 ∨ s.rst.step = 2 ∨ (s.rst.step = 3 ∧ code ≠ 4 ∧ code ≠ 5)) →
      Completes (.powerupStepTimeout code) s fun t =>
        t.rst.step = 0 ∧ bits (t.ob rstIx Sub.rstBoot_RESET_CAUSE) 19 16 = s.rst.step ∧
        bits (t.ob rstIx Sub.rstBoot_RESET_CAUSE) 11 0 = bits (s.ob rstIx Sub.rstBoot_RESET_CAUSE) 11 0) ∧
    (s.rst.step = 0 → s.past Timer.step 1000000000 = true → Completes .powerupRetryTimer s fun t => t.rst.step = 1 ∧
      t.dict = s.dict) ∧
    (∀ dom i k, k = dom * 256 + i % 256 →
      Completes (.clockValidSet dom i) s fun t =>
        k ∉ t.rst.clockOff ∧ k ∉ t.rst.deferred ∧ t.rst.step = s.rst.step ∧ t.asc = s.asc) ∧
    (∀ dom i k, k = dom * 256 + i % 256 → k ∉ s.rst.clockOff → s.rst.step = 5 →
      Completes (.blockClockLoss dom i) s fun t =>
        k ∈ t.rst.clockOff ∧ k ∈ t.rst.deferred ∧ (s.watched 0x0B = true → 0x0B ∈ t.alm.active) ∧
        bit (t.ob rstIx Sub.rstBoot_RESET_CAUSE) 11 = true ∧ t.asc = s.asc) ∧
    (∀ us b, s.bootRuns [] = true → s.toForm [] = [] → s.rst.straps % 4 = 0 → s.clkMode ≠ 3 → s.rst.ddr = none →
      s.rst.waiting = false → s.rst.try_ = 0xFF → (s.slotAt' s.rst.active).image = b →
      (s.imageOk b = true →
        Completes (.bootFirmwareStart [] us) s fun t =>
          t.rst.coresHeld = false ∧ t.ob rstIx Sub.rstBoot_BOOT_SLOT = s.rst.active ∧
          t.ob rstIx Sub.rstBoot_BOOT_FALLBACK = 0 ∧ t.oct vaultIx Sub.vault_MEAS = imageMeas b) ∧
      (s.imageOk b = false → s.imageOk (s.slotAt' (1 - s.rst.active)).image = false →
        Completes (.bootFirmwareStart [] us) s fun t =>
          t.rst.coresHeld = true ∧ t.rst.waiting = true ∧ bits (t.ob rstIx Sub.rstBoot_RESET_CAUSE) 23 20 = 2))

/-- R596, R597, R604, R606, R607: BLK_RESET and its end, FW_ACTIVATE, FW_COMMIT and RESET_CAUSE_CLR. -/
def Obligations.BlocksAndActivation : Prop :=
  ∀ (s : State) (c : Caller),
    (∀ kind i, Starts s c blkIx Sub.blkWin_BLK_OP Sub.blkWin_BLK_STATUS 1 → s.ob blkIx Sub.blkWin_BLK_KIND = kind →
      s.ob blkIx Sub.blkWin_BLK_INDEX = i →
      (s.blockHere kind i = true → s.blockIdle kind i = true →
        Operates (.blkReset c) s fun t =>
          t.blockHeld kind i = true ∧ t.asc = s.asc ∧ (kind = 0 → mget [] t.hitch.queue i = []) ∧
          Ends t c blkIx Sub.blkWin_BLK_OP Sub.blkWin_BLK_STATUS .busy) ∧
      (s.blockHere kind i = true → s.blockIdle kind i = false →
        Operates (.blkReset c) s fun t =>
          t.rst = s.rst ∧ Ends t c blkIx Sub.blkWin_BLK_OP Sub.blkWin_BLK_STATUS .notIdle) ∧
      (s.blockHere kind i = false →
        Operates (.blkReset c) s fun t =>
          t.rst = s.rst ∧ Ends t c blkIx Sub.blkWin_BLK_OP Sub.blkWin_BLK_STATUS .range)) ∧
    (∀ kind i, s.blockHeld kind i = true →
      Completes (.blockResetDone kind i) s fun t =>
        t.blockHeld kind i = false ∧ t.ob blkIx Sub.blkWin_BLK_STATUS = Status.ok.code ∧
        t.winBusy blkIx Sub.blkWin_BLK_STATUS = false) ∧
    (Accepted s c fwIx Sub.fwWdt_FW_ACTIVATE 1 → s.rst.staged ≠ 0xFF → (s.slotAt' s.rst.staged).manifest = [] →
      s.pwr.vigil = false → s.rst.step = 5 →
      Completes (.fwActivate c 1) s fun t =>
        t.rst.try_ = s.rst.staged ∧ t.rst.staged = 0xFF ∧ t.rst.tries = s.ob fwIx Sub.fwWdt_FW_TRIES ∧
        t.rst.active = s.rst.active ∧ t.rst.coresHeld = true ∧
        bit (t.ob rstIx Sub.rstBoot_RESET_CAUSE) 10 = true ∧
        .done c.entry fwIx Sub.fwWdt_FW_ACTIVATE .ok ∈ t.wire) ∧
    (Accepted s c fwIx Sub.fwWdt_FW_ACTIVATE 1 → s.rst.staged = 0xFF →
      exec (.fwActivate c 1) s = .next (s.refusing c fwIx Sub.fwWdt_FW_ACTIVATE .range)) ∧
    (Accepted s c fwIx Sub.fwWdt_FW_COMMIT 1 → s.rst.try_ ≠ 0xFF → s.ob rstIx Sub.rstBoot_BOOT_SLOT = s.rst.try_ →
      Completes (.fwCommit c 1) s fun t =>
        t.rst.active = s.rst.try_ ∧ t.rst.try_ = 0xFF ∧ t.ob fwIx Sub.fwWdt_FW_COMMIT = 1 ∧
        Reports t c fwIx Sub.fwWdt_FW_COMMIT .ok) ∧
    (Accepted s c rstIx Sub.rstBoot_RESET_CAUSE_CLR 1 →
      Completes (.resetCauseClear c 1) s fun t =>
        bits (t.ob rstIx Sub.rstBoot_RESET_CAUSE) 11 0 = 0 ∧
        t.ob rstIx Sub.rstBoot_RESET_CAUSE / 2 ^ 12 = s.ob rstIx Sub.rstBoot_RESET_CAUSE / 2 ^ 12 ∧
        Reports t c rstIx Sub.rstBoot_RESET_CAUSE_CLR .ok)

/-- R619 to R622, R465: a snapshot is asked for, taken at the boundary, read, released and given up. -/
def Obligations.SnapshotsHold : Prop :=
  ∀ (s : State) (c : Caller),
    (Accepted s c ctIx Sub.ctWin_SNAP_OP 1 → s.snapClaim c = true →
      Completes (.snapSnapshot c) s fun t =>
        t.tel.snapDue = true ∧ t.cnt = s.cnt ∧ Reports t c ctIx Sub.ctWin_SNAP_OP .ok) ∧
    (Accepted s c ctIx Sub.ctWin_SNAP_OP 1 → s.snapClaim c = false →
      exec (.snapSnapshot c) s = .next (s.refusing c ctIx Sub.ctWin_SNAP_OP .claimed)) ∧
    (s.tel.snapDue = true →
      Completes .snapshotBoundary s fun t =>
        t.tel.held = true ∧ t.tel.snapDue = false ∧ t.tel.cnt = s.cnt ∧ t.tel.que = s.tm.queueCnt ∧
        t.tel.asc = s.asc.cnt ∧ t.cnt = s.cnt ∧ t.ob snapIx Sub.snap_SNAP_STATE = 1 ∧
        t.ob snapIx Sub.snap_SNAP_SEQ = (s.ob snapIx Sub.snap_SNAP_SEQ + 1) % 2 ^ 32 ∧
        t.ob snapIx Sub.snap_SNAP_TIME = s.ns) ∧
    (s.tel.snapDue = false → exec .snapshotBoundary s = .next s) ∧
    (Accepted s c ctIx Sub.ctWin_SNAP_OP 2 → s.snapClaim c = true →
      Completes (.snapRelease c) s fun t =>
        t.tel.held = false ∧ t.tel.snapDue = false ∧ t.ob snapIx Sub.snap_SNAP_STATE = 0 ∧ t.cnt = s.cnt ∧
        Reports t c ctIx Sub.ctWin_SNAP_OP .ok) ∧
    (s.tel.held = true → s.past Timer.snap (1000000000 * s.ob snapIx Sub.snap_SNAP_HOLD_MAX_S) = true →
      Completes .snapHoldExpiry s fun t =>
        t.tel.held = false ∧ t.ob snapIx Sub.snap_SNAP_STATE = 0 ∧ t.cnt = s.cnt ∧ t.wire = s.wire) ∧
    (s.past Timer.snap (1000000000 * s.ob snapIx Sub.snap_SNAP_HOLD_MAX_S) = false →
      exec .snapHoldExpiry s = .next s) ∧
    (∀ first n, Starts s c ctIx Sub.ctWin_CT_OP Sub.ctWin_CT_STATUS 1 → s.ob ctIx Sub.ctWin_CT_FIRST = first →
      s.ob ctIx Sub.ctWin_CT_COUNT = n → first + n ≤ 4096 → (∀ sl, sl < 4 → s.sliceOn sl = true) →
      Operates (.ctRead c) s fun t =>
        t.oct ctIx Sub.ctWin_CT_DATA =
          (List.range n).flatMap (fun i => be 8 (mget 0 (if s.tel.held then s.tel.cnt else s.cnt) (first + i))) ∧
        t.cnt = s.cnt ∧ Ends t c ctIx Sub.ctWin_CT_OP Sub.ctWin_CT_STATUS .ok) ∧
    (∀ first n, Starts s c ctIx Sub.ctWin_CT_OP Sub.ctWin_CT_STATUS 1 → s.ob ctIx Sub.ctWin_CT_FIRST = first →
      s.ob ctIx Sub.ctWin_CT_COUNT = n → 0 < n → 4096 < first + n →
      Operates (.ctRead c) s fun t => t.cnt = s.cnt ∧ Ends t c ctIx Sub.ctWin_CT_OP Sub.ctWin_CT_STATUS .range)

/-- R623, R625 to R627, R629: tagging is turned on with its seeds, the records are read and the buffer emptied, and the queue
samples of a snapshot are read. -/
def Obligations.TagsAndSamples : Prop :=
  ∀ (s : State) (c : Caller),
    (∀ v k, Accepted s c tagIx Sub.tag_TAG_ENABLE v → s.tagOn v = [k] → s.drawsNow 4 →
      Completes (.tagEnableWrite c v) s fun t =>
        t.ob tagIx Sub.tag_TAG_ENABLE = v ∧ mget 0 t.tel.lfsr k = fld (s.nextDraw 4) 0 4 ∧
        Reports t c tagIx Sub.tag_TAG_ENABLE .ok) ∧
    (∀ v, Accepted s c tagIx Sub.tag_TAG_ENABLE v → s.tagOn v = [] →
      Completes (.tagEnableWrite c v) s fun t =>
        t.ob tagIx Sub.tag_TAG_ENABLE = v ∧ t.tel = s.tel ∧ t.ke = s.ke ∧ Reports t c tagIx Sub.tag_TAG_ENABLE .ok) ∧
    (∀ r, Starts s c tgIx Sub.tgWin_TG_OP Sub.tgWin_TG_STATUS 1 →
      mfind s.tel.tags (s.ob tgIx Sub.tgWin_TG_SEQ) = some r →
      Operates (.tgRead c) s fun t =>
        t.oct tgIx Sub.tgWin_TG_RECORD = r ∧ t.tel = s.tel ∧ Ends t c tgIx Sub.tgWin_TG_OP Sub.tgWin_TG_STATUS .ok) ∧
    (Starts s c tgIx Sub.tgWin_TG_OP Sub.tgWin_TG_STATUS 1 → mfind s.tel.tags (s.ob tgIx Sub.tgWin_TG_SEQ) = none →
      Operates (.tgRead c) s fun t => t.tel = s.tel ∧ Ends t c tgIx Sub.tgWin_TG_OP Sub.tgWin_TG_STATUS .range) ∧
    (Starts s c tgIx Sub.tgWin_TG_OP Sub.tgWin_TG_STATUS 2 →
      Operates (.tgTagReset c) s fun t =>
        t.tel.tags = [] ∧ t.tel.fullRaised = false ∧ t.ob tagIx Sub.tag_TAG_FILL = 0 ∧ t.tel.lfsr = s.tel.lfsr ∧
        Ends t c tgIx Sub.tgWin_TG_OP Sub.tgWin_TG_STATUS .ok) ∧
    (∀ k first, Starts s c qsIx Sub.qsWin_QS_OP Sub.qsWin_QS_STATUS 1 → s.ob qsIx Sub.qsWin_QS_PIPE = k →
      s.ob qsIx Sub.qsWin_QS_FIRST = first → s.sliceOn (k / 2) = true →
      (s.tel.held = true →
        Operates (.qsRead c) s fun t =>
          t.oct qsIx Sub.qsWin_QS_DATA = (List.range 32).flatMap (fun i =>
            padTo 16 (mget [] s.tel.ring (qsKey k ((first + i) % 1024)))) ∧
          t.tel = s.tel ∧ Ends t c qsIx Sub.qsWin_QS_OP Sub.qsWin_QS_STATUS .ok) ∧
      (s.tel.held = false →
        Operates (.qsRead c) s fun t => t.tel = s.tel ∧ Ends t c qsIx Sub.qsWin_QS_OP Sub.qsWin_QS_STATUS .notReady))

/-- Log 10, log 11: a step takes the command at the front of the queue and is that command's meaning over the rest; with no
command waiting it is one period of 8 ns. -/
def Obligations.StepTakesTheFront : Prop :=
  (∀ (c : Instr) (rest : List Instr) (s : State), s.pending = c :: rest → step s = exec c { s with pending := rest }) ∧
  (∀ s : State, s.pending = [] → step s = .next s.tick)

/-- R589, R594, R598, R62, R220, R296, R483, R562, R585: the machine right after a power-on reset is asserted. Every stored
object reads its default, and what lies beside the objects stands as after a power-on reset. -/
def Obligations.ResetLeavesTheDefaults : Prop :=
  (∀ ix sub, State.reset.ob ix sub = dfltNum State.reset.fuse ix sub ∧
    State.reset.oct ix sub = dfltOct State.reset.fuse ix sub) ∧
  (∀ m, m < 0x20 ∨ (0x40 ≤ m ∧ m < 0x60) →
    State.reset.ob (Ix.lane m) Sub.lane_TX_STATE = 1 ∧ State.reset.ob (Ix.lane m) Sub.lane_RX_STATE = 1 ∧
    State.reset.ob (Ix.lane m) Sub.lane_RATE = 3 ∧ State.reset.ob (Ix.lane m) Sub.lane_LOS = 1) ∧
  (∀ sl, sl < 4 → State.reset.pipeState sl .seal = 3 ∧ State.reset.pipeState sl .open = 3) ∧
  State.reset.time.incr = 0x1_9999_999A ∧ State.reset.time.locked = false ∧
  State.reset.ob rpIx Sub.rpCtl_RP_NEXT = 0xFF ∧ State.reset.ob 0x0400 Sub.power_PWR_STATE = 0 ∧
  State.reset.ob 0x4C00 Sub.alarm_RESPONSE = 0 ∧
  State.reset.rst.gap = true ∧ State.reset.rst.coresHeld = true ∧ State.reset.rst.rstout = true ∧ State.reset.rst.step = 1 ∧
  State.reset.asc = {} ∧ State.reset.tm = {} ∧ State.reset.acc.sess = [] ∧ State.reset.cnt = [] ∧ State.reset.pending = []

/-- R359, R369: the fuses right after reset are within their ranges. The life-cycle state there is the model's choice (log 5).
-/
def Obligations.FusesAreInRangeAtReset : Prop := State.reset.fuseOk

/-- R360, R363, R369, R548: every step keeps the fuses in range and burns them one way only: the life cycle never goes back to
BLANK, and to VENDOR only from it, the security-version floor and the number of transfers never fall, a disabled source
stays disabled, DUS is fused in BLANK and then stays as it is or is blown whole; and the step takes one command from the
queue. -/
def Obligations.FusesBurnOneWay : Prop :=
  ∀ s t : State, s.fuseOk → step s = .next t →
    t.fuseOk ∧ (t.fuse.lc = s.fuse.lc ∨ 2 ≤ t.fuse.lc ∨ (s.fuse.lc = 0 ∧ t.fuse.lc = 1)) ∧ s.fuse.svn ≤ t.fuse.svn ∧
      s.fuse.transfers ≤ t.fuse.transfers ∧
    (∀ src ∈ s.fuse.disabled, src ∈ t.fuse.disabled) ∧ (t.fuse.dus = s.fuse.dus ∨ t.fuse.dus = 2 ^ 256 - 1 ∨ s.fuse.lc = 0) ∧
    t.fuse.part = s.fuse.part ∧ t.fuse.baseMac = s.fuse.baseMac ∧ t.pending = s.pending.tail

/-- R5, R11, R448, R453, R454, R456, R458, R461: the arbiter's checks before the chapter's own, for every command that is a
write: it waits behind a write of a session that has not completed; otherwise the first check that fails is reported, and
nothing else happens. -/
def Obligations.WritesAreChecked : Prop :=
  ∀ (s : State) (i : Instr) (c : Caller) (ix sub v : Nat), writeOf i = some (c, ix, sub, v) →
    (s.writeWaits c = true →
      exec i s = .next { s with acc := { s.acc with parked := s.acc.parked ++
        [{ k := c.entry, what := .row ix sub (.num v), port := (s.sessAt c.entry).port, at_ := s.time.periods }] } }) ∧
    (s.writeWaits c = false →
    (s.indexOff ix = true → exec i s = .next (s.refusing c ix sub .range)) ∧
    (∀ d, s.indexOff ix = false → descOf ix sub = some d → d.ro = false →
      (s.levelOf c < writeLevel ix sub (.num v) d → exec i s = .next (s.refusing c ix sub .denied)) ∧
      (writeLevel ix sub (.num v) d ≤ s.levelOf c →
        (d.expert = true → s.expertOf c = false → exec i s = .next (s.refusing c ix sub .denied)) ∧
        ((d.expert = true → s.expertOf c = true) →
          (s.claimedAgainst c ix sub = true → exec i s = .next (s.refusing c ix sub .claimed)) ∧
          (s.claimedAgainst c ix sub = false → fitsType d.ty (.num v) = false →
            exec i s = .next (s.refusing c ix sub .range))))))

/-- R34: a write to a lane's rate while an enabled port uses the lane is BUSY and changes nothing. -/
def Obligations.RateIsBusyUnderAPort : Prop :=
  ∀ (s : State) (c : Caller) (m v p : Nat), Accepted s c (Ix.lane m) Sub.lane_RATE v → p ∈ sidePorts m →
    s.portOn p = true → m ∈ s.portLanes p →
    exec (.rateWrite c m v) s = .next (s.refusing c (Ix.lane m) Sub.lane_RATE .busy)

/-- R532: REFORM of a key-bearing range under CURTAIN or STRIKE is DENIED. -/
def Obligations.ReformIsDeniedUnderCurtain : Prop :=
  ∀ (s : State) (c : Caller) (r : Nat), Starts s c (rangeIx r) Sub.range_RG_OP Sub.range_RG_STATUS 2 →
    (s.rangeAt r).valid = true → (s.rangeAt r).keyBearing = true → 3 ≤ s.alm.latch →
    Operates (.rgReform c r) s fun t =>
      t.guard = s.guard ∧ t.ke = s.ke ∧ Ends t c (rangeIx r) Sub.range_RG_OP Sub.range_RG_STATUS .denied

/-- R11, R99, R141, R177, R250, R299, R348, R378, R465, R499, R553, R619: the frame of the commands that only read or that work
in one unit. What a reading command changes is its window's objects and the report; what the others change lies in their own
unit, in the dictionary, in the windows' completions that are due, and in the events and sessions, where a rule has them
raise an event or answer. -/
def Obligations.CommandsKeepToTheirUnits : Prop :=
  ∀ (s t : State) (i : Instr) (c : Caller) (sl k id : Nat), exec i s = .next t →
    ((i = .twHash c sl ∨ i = .cwRead c sl ∨ i = .cmRead c sl ∨ i = .kwWrap c ∨ i = .kwInfo c ∨ i = .keInfo c ∨ i = .evRead c ∨
        i = .alRead c ∨ i = .ctRead c ∨ i = .tgRead c ∨ i = .qsRead c ∨ i = .rpDigest c ∨ i = .rpSelect c) →
      t = { s with dict := t.dict, acc := s.accessOf t, wire := t.wire }) ∧
    (i = .awFree c sl ∨ i = .awReadCounters c sl →
      t = { s with dict := t.dict, acc := s.accessOf t, free := t.free
                   wire := t.wire }) ∧
    ((∃ v, i = .resetCauseClear c v) ∨ (∃ m v, i = .prbsGenWrite c m v) ∨ (∃ m v, i = .prbsChkWrite c m v) →
      t = { s with dict := t.dict, acc := { s.acc with lastSet := t.acc.lastSet, parked := t.acc.parked }
                   wire := t.wire }) ∧
    (i = .twLookup c sl ∨ i = .twInsert c sl ∨ i = .twDelete c sl ∨ i = .twRead c sl ∨ i = .twNext c sl ∨ i = .twFlush c sl →
      t = { s with hitch := t.hitch, cnt := t.cnt, dict := t.dict, acc := t.acc, free := t.free, wire := t.wire }) ∧
    (i = .tmRead c sl ∨ i = .tmWrite c sl ∨ i = .tmReadCounters c sl →
      t = { s with tm := t.tm, dict := t.dict, acc := s.accessOf t
                   free := t.free, wire := t.wire }) ∧
    (i = .cwCancel c sl →
      t = { s with cue := t.cue, dict := t.dict, acc := s.accessOf t
                   wire := t.wire }) ∧
    (i = .cueTimeTrigger sl false k → t = { s with cue := t.cue, dict := t.dict, acc := t.acc, wire := t.wire }) ∧
    (i = .timeStepSet c ∨ i = .timeStepOffset c ∨ i = .timeUnlock c ∨ (∃ v, i = .incrWrite c v) ∨ i = .incrApply ∨
        i = .ppsOutPulseEnd →
      t = { s with time := t.time, dict := t.dict, acc := t.acc, wire := t.wire }) ∧
    (i = .kwKekClear c ∨ i = .kwMigrateEnd c →
      t = { s with vault := t.vault, pair := t.pair, free := t.free, dict := t.dict, acc := t.acc, wire := t.wire }) ∧
    (i = .jobContinue c k ∨ i = .jobFinish c k ∨ i = .jobAbort c k →
      t = { s with vault := t.vault, dict := t.dict, acc := t.acc, wire := t.wire }) ∧
    (i = .kwMigrate c ∨ i = .kwQuote c → t = { s with ke := t.ke, dict := t.dict, acc := t.acc, wire := t.wire }) ∧
    (i = .almAck c ∨ i = .almMaint c ∨ i = .maintWindowExpiry ∨ i = .sourceConditionEnd k →
      t = { s with alm := t.alm, dict := t.dict, acc := t.acc, wire := t.wire }) ∧
    (i = .almFuseDisable c →
      t = { s with alm := t.alm, fuse := t.fuse, dict := t.dict, acc := t.acc, wire := t.wire }) ∧
    (i = .snapSnapshot c ∨ i = .snapRelease c ∨ i = .snapHoldExpiry ∨ i = .snapshotBoundary ∨ i = .tgTagReset c →
      t = { s with tel := t.tel, time := t.time, dict := t.dict, acc := t.acc, wire := t.wire }) ∧
    ((∃ l, i = .msgGetBlock k id l) ∨ (∃ ix sub_, i = .msgGet k id ix sub_) ∨
        (∃ mask, i = .msgSubscribe k id mask) → (∀ o ∈ (s.sessAt k).owed, o.close = none) →
      t = { s with acc := t.acc, dict := t.dict, time := t.time, rst := { s.rst with resetDue := t.rst.resetDue }
                   wire := t.wire }) ∧
    (i = .fwStageBegin k id ∨ (∃ off b, i = .fwStageData k id off b) ∨ i = .fwStageAbort k id →
      (∀ o ∈ (s.sessAt k).owed, o.close = none) →
      t = { s with rst := t.rst, acc := t.acc, dict := t.dict, time := t.time, wire := t.wire }) ∧
    ((∃ h n, i = .sakExport h n) ∨ (∃ w n g ex serial label, i = .sakImport w n g ex serial label) →
      t = { s with wire := t.wire })
end

