-- ==== Sys2Proof/Laws/Crypto.lean ====
section
/-! SUPPORT. The lengths of what the standards' functions give, and the fields of octets put one after another. -/

namespace Sys2Proof.Machine

@[simp] theorem be_length (k n : Nat) : (be k n).length = k := by
  induction k generalizing n with
  | zero => rfl
  | succ k ih => simp [be, ih]

theorem shaRound_length (w v : List Nat) (i : Nat) : (shaRound w v i).length = v.length := by
  unfold shaRound; split <;> simp only [List.length_cons, List.length_nil]

theorem shaBlock_length (v : List Nat) (b : Bytes) : (shaBlock v b).length = v.length := by
  have h : ∀ (l : List Nat) (u : List Nat), (l.foldl (shaRound (shaSchedule b).reverse) u).length = u.length := by
    intro l
    induction l with
    | nil => exact fun _ => rfl
    | cons i l ih => exact fun u => (ih _).trans (shaRound_length ..)
  simp [shaBlock, h]

/-- A digest of SHA-384 has 48 octets. -/
@[simp] theorem sha384_length (m : Bytes) : (sha384 m).length = 48 := by
  have h : ∀ (p : Bytes) (l : List Nat) (v : List Nat), (l.foldl (fun v i => shaBlock v (sub p (128 * i) 128)) v).length = v.length := by
    intro p l
    induction l with
    | nil => exact fun _ => rfl
    | cons i l ih => exact fun v => (ih _).trans (shaBlock_length ..)
  have f : ∀ v : List Nat, (v.flatMap (be 8)).length = 8 * v.length := by
    intro v
    induction v with
    | nil => rfl
    | cons x v ih => simp only [List.flatMap_cons, List.length_append, be_length, ih, List.length_cons]; omega
  simp only [sha384, List.length_take, f, h, List.length_map, List.length_range]
  rfl

theorem padTo_self {k : Nat} {b : Bytes} (h : b.length = k) : padTo k b = b := by simp [padTo, zeros, h]

theorem padTo_length (k : Nat) (b : Bytes) : (padTo k b).length = k := by
  simp only [padTo, zeros, List.length_take, List.length_append, List.length_replicate]; omega

/-- A field that ends before octet `n` of `a ++ b`, where `a` has `n` octets, is one of `a`. -/
theorem sub_append_left {a b : Bytes} {off len : Nat} (h : off + len ≤ a.length) : sub (a ++ b) off len = sub a off len := by
  simp only [sub, List.drop_append_of_le_length (by omega : off ≤ a.length)]
  exact List.take_append_of_le_length (by simp only [List.length_drop]; omega)

/-- A field that starts at or after octet `n` is one of `b`. -/
theorem sub_append_right {a b : Bytes} {off len : Nat} (h : a.length ≤ off) :
    sub (a ++ b) off len = sub b (off - a.length) len := by
  simp only [sub, List.drop_append, List.drop_eq_nil_of_le h, List.nil_append]

end Sys2Proof.Machine
end

