-- ==== Sys2Proof/Laws/Events.lean ====
section
/-! SUPPORT. What raising an event does: its record stands in the log under the number that the log's head gave. -/

namespace Sys2Proof.Machine

variable {s : State}

/-- Raising an event puts its record into the log. -/
theorem notify_log {k : Nat} {r r0 : Bytes} {q : Nat} {u : State} (h : mfind u.acc.log q = some r0)
    (hne : u.ob 0x0300 Sub.evCtl_EV_HEAD ≠ q) (hne' : (u.ob 0x0300 Sub.evCtl_EV_HEAD + 2 ^ 32 - 1024) % 2 ^ 32 ≠ q) :
    mfind (u.notify k r).acc.log q = some r0 ∧
      ((u.notify k r).ob 0x0300 Sub.evCtl_EV_HEAD = u.ob 0x0300 Sub.evCtl_EV_HEAD ∨
       (u.notify k r).ob 0x0300 Sub.evCtl_EV_HEAD = (u.ob 0x0300 Sub.evCtl_EV_HEAD + 1) % 2 ^ 32) := by
  unfold State.notify
  dsimp only
  split
  · exact ⟨h, .inl rfl⟩
  · split
    · exact ⟨h, .inl rfl⟩
    · refine ⟨?_, .inr ?_⟩
      · show mfind (minsert (merase u.acc.log _) _ _) q = _
        rw [mfind_minsert_ne (Ne.symm hne), mfind_merase_ne (Ne.symm hne'), h]
      · simp [State.logEvent, State.logEventAt, State.putSess, State.addOb, State.put, State.ob]

theorem raiseAt_logged {ns code slice : Nat} {items : Bytes} (h : s.rst.coresHeld = false) :
    mfind (s.raiseAt ns code slice items).acc.log (s.ob 0x0300 Sub.evCtl_EV_HEAD) =
      some (eventRecord code slice (s.ob 0x0300 Sub.evCtl_EV_HEAD) ns items) := by
  unfold State.raiseAt
  simp only [h, Bool.false_eq_true, ↓reduceIte]
  generalize hq : s.ob 0x0300 Sub.evCtl_EV_HEAD = q
  generalize hr : eventRecord code slice q ns items = r0
  have key : ∀ (l : List Nat) (u : State) (j : Nat) (r : Bytes), 1 ≤ j → j + l.length ≤ 1000 →
      mfind u.acc.log q = some r0 → u.ob 0x0300 Sub.evCtl_EV_HEAD = (q + j) % 2 ^ 32 →
      mfind (l.foldl (fun u k => if (u.sessAt k).live && bit (u.sessAt k).mask (code / 256) then u.notify k r else u) u).acc.log q
        = some r0 := by
    intro l
    induction l with
    | nil => intro u j r _ _ h _; exact h
    | cons a l ih =>
      intro u j r hj hl hm hh
      simp only [List.length_cons] at hl
      simp only [List.foldl_cons]
      by_cases hc : ((u.sessAt a).live && bit (u.sessAt a).mask (code / 256)) = true
      · simp only [hc, ↓reduceIte]
        have hn := notify_log (k := a) (r := r) hm (by rw [hh]; omega) (by rw [hh]; omega)
        rcases hn with ⟨h1, h2 | h2⟩
        · exact ih _ j r hj (by omega) h1 (h2.trans hh)
        · exact ih _ (j + 1) r (by omega) (by omega) h1 (by rw [h2, hh]; omega)
      · simp only [hc, ↓reduceIte, Bool.false_eq_true]
        exact ih _ j r hj (by omega) hm hh
  refine key _ _ 1 _ (by omega) (by simp) ?_ ?_
  · simp [State.logEventAt, hq, hr, State.addOb, State.put]
  · simp [State.logEventAt, State.addOb, State.put, State.ob] at hq ⊢
    rw [hq]

theorem raise_logged {code slice : Nat} {items : Bytes} (h : s.rst.coresHeld = false) :
    mfind (s.raise code slice items).acc.log (s.ob 0x0300 Sub.evCtl_EV_HEAD) =
      some (eventRecord code slice (s.ob 0x0300 Sub.evCtl_EV_HEAD) s.ns items) := raiseAt_logged h

end Sys2Proof.Machine
end

