-- ==== Sys2Proof/Laws/Hitch.lean ====
section
/-! SUPPORT. What the operations of the Hitch table do: a window's start in a slice, slots read with good parity, the
installation of a static entry. -/

namespace Sys2Proof.Machine

variable {s : State}

/-- A slice's window operation that starts and completes (R465, R575). -/
theorem rowSlice_ok {c : Caller} {sl ix op st code : Nat} {act : State → State × Status} (h : StartsIn s sl c ix op st code)
    (hix : 0x1000 ≤ ix) (hop : op < 256) :
    rowWindow c ix op st code (sliceOp sl act) s
      = (((s.put ix op code).holdBack ix st (act (s.put ix op code)).2 (act (s.put ix op code)).1).noteCycle c
          [okey ix op]).complete c ix op .ok := by
  have hg : (s.put ix op code).gated sl = false := by
    have : (s.put ix op code).gated sl = s.gated sl := by
      unfold State.gated; rw [State.ob_put hop (by decide), if_neg]; rintro ⟨e, _⟩; have := h.1; omega
    rw [this]; exact h.2.1
  rw [rowWindow_ok h.2.2.1.1 h.2.2.1.2 h.2.2.2.1 h.2.2.2.2.1, sliceOp, hg]; rfl

/-- Slots read with good parity: nothing is scrubbed (R75). -/
theorem readSlots_ok {sl : Nat} {is : List Nat} (h : ∀ i ∈ is, parityOk (s.slotAt sl i) = true) :
    readSlots sl is s = (is.map (fun i => (i, s.slotAt sl i)), s) := by
  have key : ∀ (l : List Nat) (a : List (Nat × Nat)), (∀ i ∈ l, parityOk (s.slotAt sl i) = true) →
      l.foldl (fun a i => ((a.1 ++ [(i, (readSlot sl i a.2).1)], (readSlot sl i a.2).2) : List (Nat × Nat) × State)) (a, s)
        = (a ++ l.map (fun i => (i, s.slotAt sl i)), s) := by
    intro l
    induction l with
    | nil => simp
    | cons x l ih =>
      intro a hl
      have hx : readSlot sl x s = (s.slotAt sl x, s) := by simp [readSlot, hl x (by simp)]
      simp only [List.foldl_cons, hx]
      rw [ih _ (fun i hi => hl i (by simp [hi]))]
      simp
  simpa [readSlots] using key is [] h

theorem readSlots_clean {sl key : Nat} (h : s.cleanFor sl key = true) :
    readSlots sl (s.candidates sl key) s = (s.cands sl key, s) :=
  readSlots_ok (by simpa [State.cleanFor] using h)

@[simp] theorem slotAt_putSlot_self (sl i e : Nat) : (s.putSlot sl i e).slotAt sl i = e := by
  simp [State.slotAt, State.putSlot]

theorem slotAt_putSlot_ne {sl i j e : Nat} (h : j ≠ i) : (s.putSlot sl i e).slotAt sl j = s.slotAt sl j := by
  simp only [State.slotAt, State.putSlot]
  exact mget_mset_ne (by unfold skey; omega)

@[simp] theorem bucketOf_put {s : State} (ix sub v sl b k : Nat) : (s.put ix sub v).bucketOf sl b k = s.bucketOf sl b k := by
  unfold State.bucketOf; rw [State.oct_put]

theorem putStatic_slotAt (sl i key e j : Nat) (s : State) : (s.putStatic sl i key e).slotAt sl j = (s.putSlot sl i e).slotAt sl j := by
  simp only [State.slotAt, State.putStatic, State.noteMgmt, State.noteTouch, State.putSlot]
@[simp] theorem putStatic_dict (sl i key e : Nat) (s : State) : (s.putStatic sl i key e).dict = s.dict := rfl
@[simp] theorem putStatic_fuse (sl i key e : Nat) (s : State) : (s.putStatic sl i key e).fuse = s.fuse := rfl

/-- A static entry of a key that no slot holds takes the chosen slot (R83, R100). -/
theorem installStatic_new {sl port vid mac secy i : Nat} (hc : s.cleanFor sl (packKey port vid mac) = true)
    (hh : holder (packKey port vid mac) (s.cands sl (packKey port vid mac)) = none)
    (hi : chooseSlot (s.cands sl (packKey port vid mac)) = some i) :
    installStatic sl port vid mac secy s
      = (s.putStatic sl i (packKey port vid mac) (slotImage true false false 0 secy port vid mac), some i) := by
  unfold installStatic
  dsimp only; rw [readSlots_clean hc]; rw [hh]; rw [hi]

end Sys2Proof.Machine
end

