-- ==== Sys2Proof/Laws/Lanes.lean ====
section
/-! SUPPORT. What the operations of the lanes do: the start and the end of a transition, a receive state, the control
frames that follow a link's state. -/

namespace Sys2Proof.Machine

variable {s : State}

/-- What a lane's pins carry is put out, and nothing else changes. -/
theorem showLane_eq (b : State) (m : Nat) (s : State) : ∃ w, b.showLane m s = { s with wire := w } := by
  unfold State.showLane; split
  exacts [⟨s.wire, rfl⟩, ⟨_, rfl⟩]
@[simp] theorem showLane_dict (b : State) (m : Nat) (s : State) : (b.showLane m s).dict = s.dict := by
  obtain ⟨w, h⟩ := showLane_eq b m s; rw [h]
@[simp] theorem showLane_fuse (b : State) (m : Nat) (s : State) : (b.showLane m s).fuse = s.fuse := by
  obtain ⟨w, h⟩ := showLane_eq b m s; rw [h]
@[simp] theorem showLane_lanes (b : State) (m : Nat) (s : State) : (b.showLane m s).lanes = s.lanes := by
  obtain ⟨w, h⟩ := showLane_eq b m s; rw [h]
@[simp] theorem showLane_pwr (b : State) (m : Nat) (s : State) : (b.showLane m s).pwr = s.pwr := by
  obtain ⟨w, h⟩ := showLane_eq b m s; rw [h]
@[simp] theorem showLane_rst (b : State) (m : Nat) (s : State) : (b.showLane m s).rst = s.rst := by
  obtain ⟨w, h⟩ := showLane_eq b m s; rw [h]
@[simp] theorem showLane_pair (b : State) (m : Nat) (s : State) : (b.showLane m s).pair = s.pair := by
  obtain ⟨w, h⟩ := showLane_eq b m s; rw [h]

theorem startTx_dict (m : Nat) (s : State) : (s.startTx m).dict = s.dict := by
  unfold State.startTx State.setNow State.setGoal; dsimp only
  split_ifs <;> simp
theorem startTx_fuse (m : Nat) (s : State) : (s.startTx m).fuse = s.fuse := by
  unfold State.startTx State.setNow State.setGoal; dsimp only
  split_ifs <;> simp
theorem startTx_ob (m ix sub : Nat) (s : State) : (s.startTx m).ob ix sub = s.ob ix sub :=
  State.ob_congr (startTx_dict ..) (startTx_fuse ..) ..

theorem abortScan_ob {m ix sub : Nat} {s : State} (h : sub < 256) (h' : ix ≠ Ix.scan m) : (s.abortScan m).ob ix sub = s.ob ix sub := by
  unfold State.abortScan; split
  · rw [State.ob_put (by decide) h]; simp [h']
  · rfl

theorem lane_ne_scan (m : Nat) : Ix.lane m ≠ Ix.scan m := by simp [Ix.lane, Ix.scan]

/-- An object that tells of neither a lane's receiver nor the recovered clock. -/
def apartRx (m ix sub : Nat) : Prop :=
  ix ≠ 0x3A02 ∧ ¬(ix = Ix.lane m ∧ (sub = Sub.lane_SIGNAL_DETECT ∨ sub = Sub.lane_LOS ∨ sub = Sub.lane_CDR_LOCK))

theorem synceSelect_ob {w : Option (Nat × Nat)} {s : State} {ix sub : Nat} (h : sub < 256) (h' : ix ≠ 0x3A02) :
    (s.synceSelect w).ob ix sub = s.ob ix sub := by
  have hp : (s.put 0x3A02 Sub.syncE_SYNCE_ACTIVE s.synceNext).ob ix sub = s.ob ix sub := by
    rw [State.ob_put (by decide) h]; simp [h']
  unfold State.synceSelect; dsimp only
  split
  · exact hp
  · rw [← hp]; rfl

/-- The comparison of a lane's LOS touches its own record and its timer alone (R430). -/
theorem losLane_frame (m : Nat) (s : State) : (losLane m s).dict = s.dict ∧ (losLane m s).fuse = s.fuse ∧
    (losLane m s).lanes = s.lanes ∧ (losLane m s).pwr = s.pwr ∧ (losLane m s).rst = s.rst ∧
    (losLane m s).pair.selAct = s.pair.selAct := by
  unfold losLane State.mark; split_ifs <;> exact ⟨rfl, rfl, rfl, rfl, rfl, rfl⟩

theorem dropLock_eq (m : Nat) (s : State) : ∃ o, s.dropLock m = { s with otn := o } := by
  unfold State.dropLock; split
  exacts [⟨_, rfl⟩, ⟨s.otn, rfl⟩]

/-- A lane's report touches its three objects and the comparison of its LOS (R43). -/
theorem rxReport_frame (m : Nat) (a b : Bool) (s : State) : (s.rxReport m a b).lanes = s.lanes ∧ (s.rxReport m a b).pwr = s.pwr ∧
    (s.rxReport m a b).rst = s.rst ∧ (s.rxReport m a b).pair.selAct = s.pair.selAct := by
  obtain ⟨_, _, h1, h2, h3, h4⟩ := losLane_frame m (((s.put (Ix.lane m) Sub.lane_SIGNAL_DETECT (a && s.rxEffective m != 0).toNat).put
    (Ix.lane m) Sub.lane_LOS (!(a && s.rxEffective m != 0)).toNat).put
      (Ix.lane m) Sub.lane_CDR_LOCK (b && (a && s.rxEffective m != 0) && s.rxEffective m == 2).toNat)
  exact ⟨h1, h2, h3, h4⟩

theorem rxReport_ob {m ix sub : Nat} {a b : Bool} {s : State} (h : sub < 256) (h' : apartRx m ix sub) :
    (s.rxReport m a b).ob ix sub = s.ob ix sub := by
  unfold State.rxReport; dsimp only
  have hx := h'.2
  rw [State.ob_congr (losLane_frame m _).1 (losLane_frame m _).2.1]
  rw [State.ob_put (by decide) h, State.ob_put (by decide) h, State.ob_put (by decide) h]
  simp only [not_and_or, not_or] at hx
  rcases hx with hx | ⟨h1, h2, h3⟩
  · simp [hx]
  · simp [h1, h2, h3]

theorem rxKeep_ob {m ix sub : Nat} {s : State} (h : sub < 256) (h' : apartRx m ix sub) : (s.rxKeep m).ob ix sub = s.ob ix sub := by
  unfold State.rxKeep; rw [rxReport_ob h h']
  obtain ⟨o, ho⟩ := dropLock_eq m s; rw [ho]; rfl

theorem rxSettle_ob {m ix sub : Nat} {s : State} (h : sub < 256) (h' : apartRx m ix sub) :
    (s.rxSettle m).ob ix sub = s.ob ix sub := by
  unfold State.rxSettle; rw [synceSelect_ob h h'.1, rxKeep_ob h h']

/-- A receive state takes its value, and of the objects apart from the receiver's report no other changes (R43). -/
theorem setRx_ob {m v ix sub : Nat} {s : State} (h : sub < 256) (h' : ix ≠ Ix.scan m) (hr : apartRx m ix sub) :
   (s.setRx m v).ob ix sub = if ix = Ix.lane m ∧ sub = Sub.lane_RX_STATE then v else s.ob ix sub := by
  unfold State.setRx; split
  · rename_i e; split
    · rename_i e'; rw [e'.1, e'.2, e]
    · rfl
  · rw [rxSettle_ob h hr, abortScan_ob h h', State.ob_put (by decide) h]

theorem emitFold (l : List Nat) (s : State) : (l.foldl (fun t c => t.emitFill c) s) = { s with wire := s.wire ++ l.map (fun c => .fill c ((s.portFill c).getD .idles)) } := by
  induction l generalizing s with
  | nil => simp
  | cons a l ih => 
    rw [List.foldl_cons, ih]
    simp only [State.emitFill, State.emit, List.map_cons, List.append_assoc, List.singleton_append]
    rfl

theorem ob_putln {m v : Nat} {s : State} {ix sub sub0 : Nat} (h : sub < 256) (h0 : sub0 < 256) (hne : ¬ (ix = Ix.lane m ∧ sub = sub0)) :
   (s.put (Ix.lane m) sub0 v).ob ix sub = s.ob ix sub := by
  rw [State.ob_put h0 h]; simp [hne]

/-- txAim reads these alone -/
theorem txAim_congr {s t : State} (m : Nat) (hp : t.pwr = s.pwr) (hr : t.rst = s.rst) (hpa : t.pair.selAct = s.pair.selAct)
  (ho : ∀ ix sub, sub < 256 → (ix < 0x1000 ∨ (0x4800 ≤ ix ∧ ix ≤ 0x4801) ∨ (∃ p, p ∈ sidePorts m ∧ ix = Ix.port p) ∨ ix = otnIx (sliceOfPort m) ∨ (∃ l, ix = Ix.lane l ∧ sub = Sub.lane_RATE) ∨ (ix = Ix.lane m ∧ sub = Sub.lane_TX_STATE)) → t.ob ix sub = s.ob ix sub) :
  t.txAim m = s.txAim m := by
  have hd : t.dark = s.dark := by simp [State.dark, hp, ho 0x0400 Sub.power_PWR_STATE (by decide) (.inl (by decide))]
  have hso : ∀ sl, t.sliceOn sl = s.sliceOn sl := by intro sl; simp [State.sliceOn, ho 0 Sub.identity_SLICE_MASK (by decide) (.inl (by decide))]
  have hst : t.standby = s.standby := by
    simp [State.standby, State.obB, hpa, ho 0x4800 Sub.pair_PAIR_ENABLE (by decide) (.inr (.inl (by decide))), ho 0x4801 Sub.pairStat_ROLE (by decide) (.inr (.inl (by decide)))]
  have hga : ∀ sl, sl < 4 → t.gated sl = s.gated sl := by
    intro sl h; simp [State.gated, ho (0x0410+sl) Sub.slicePwr_SLICE_POWER_NOW (by decide) (.inl (by omega))]
  have hsl : sliceOfPort m < 4 := by unfold sliceOfPort; omega
  have hpl : ∀ p ∈ sidePorts m, t.portOn p = s.portOn p ∧ t.portLanes p = s.portLanes p := by
    intro p hpm
    simp [State.portOn, State.obB, State.portLanes, State.laneCount, ho (Ix.port p) Sub.port_ENABLE (by decide) (.inr (.inr (.inl ⟨p, hpm, rfl⟩))), ho (Ix.port p) Sub.port_LANE_COUNT (by decide) (.inr (.inr (.inl ⟨p, hpm, rfl⟩)))]
  have hpo : t.portOfLane m = s.portOfLane m := by
    unfold State.portOfLane
    have hf : ∀ l : List Nat, (∀ x ∈ l, x ∈ sidePorts m) → List.find? (fun p => t.portOn p && (t.portLanes p).contains m) l = List.find? (fun p => s.portOn p && (s.portLanes p).contains m) l := by
      intro l
      induction l with
      | nil => intro _; rfl
      | cons a l ih =>
        intro h
        have := hpl a (h a (by simp))
        simp only [List.find?_cons, this.1, this.2, ih (fun x hx => h x (by simp [hx]))]
    exact hf _ (fun _ h => h)
  have hsp : t.spareLane m = s.spareLane m := by
    simp only [State.spareLane, State.otnMode, State.carrierLanes, State.otnN, State.carrierRate,
      ho (otnIx (sliceOfPort m)) Sub.otn_OTN_MODE (by decide) (.inr (.inr (.inr (.inl rfl)))),
      ho (otnIx (sliceOfPort m)) Sub.otn_OTUC_N (by decide) (.inr (.inr (.inr (.inl rfl)))),
      ho (Ix.lane (0x40 + 8 * sliceOfPort m)) Sub.lane_RATE (by decide) (.inr (.inr (.inr (.inr (.inl ⟨_, rfl, rfl⟩)))))]
  have hph : t.portHeld m = s.portHeld m := by
    have hany : ∀ l : List Nat, (∀ x ∈ l, x ∈ sidePorts m) →
        (l.any fun p => t.blockHeld (if isLine m then 2 else 1) (p % 0x40) && (p == m || (t.portLanes p).contains m))
          = l.any fun p => s.blockHeld (if isLine m then 2 else 1) (p % 0x40) && (p == m || (s.portLanes p).contains m) := by
      intro l
      induction l with
      | nil => intro _; rfl
      | cons a l ih =>
        intro h
        rw [List.any_cons, List.any_cons, ih (fun x hx => h x (by simp [hx])), (hpl a (h a (by simp))).2]
        simp only [State.blockHeld, hr]
    simp only [State.portHeld, hpo, hany _ (fun _ h => h)]
    simp only [State.blockHeld, hr]
  have hli : t.laneIdle m = s.laneIdle m := by
    simp [State.laneIdle, hph, State.sliceIdle, State.blockHeld, State.clockHeld, hr, hp, hso, hd, hst, hga _ hsl, hsp]
  simp [State.txAim, hd, hp, hli, ho (Ix.lane m) Sub.lane_TX_STATE (by decide) (.inr (.inr (.inr (.inr (.inr ⟨rfl, rfl⟩)))))]


theorem exitIdle_eq (m : Nat) (s : State) : ∃ w, exitIdle m s = { s with wire := w } := by
  unfold exitIdle; split
  exacts [⟨s.wire, rfl⟩, ⟨_, rfl⟩]

theorem openEnd_eq (m : Nat) (s : State) :
    ∃ h, openEnd m s = { s with pair := { s.pair with openHold := h } } := by
  unfold openEnd; split
  · split
    exacts [⟨_, rfl⟩, ⟨s.pair.openHold, rfl⟩]
  · exact ⟨s.pair.openHold, rfl⟩

/-- What reaching a state leaves of the lanes and their conditions (R44). -/
theorem reach_frame (m g n : Nat) (s : State) : let u := reachGoal m g n s
  u.lanes.heldTx = s.lanes.heldTx ∧ u.lanes.heldRx = s.lanes.heldRx ∧ mget 1 u.lanes.now m = g ∧ mfind u.lanes.goal m = none ∧ u.fuse = s.fuse ∧ u.pwr = s.pwr ∧ u.rst = s.rst ∧ u.pair.selAct = s.pair.selAct ∧ 
  u.dict = if g = 3 then (s.put (Ix.lane m) Sub.lane_IDLE_EXIT_NS (n % 2 ^ 16)).dict else s.dict := by
  unfold reachGoal; dsimp only; split
  · obtain ⟨w, hw⟩ := exitIdle_eq m (s.setGoal m none)
    rw [hw]
    obtain ⟨h, ho⟩ := openEnd_eq m ((({ s.setGoal m none with wire := w }).setNow m g).put (Ix.lane m) Sub.lane_IDLE_EXIT_NS (n % 2 ^ 16))
    rw [ho]
    simp [State.setGoal, State.setNow, State.put]
  · simp [State.setGoal, State.setNow]

theorem reach_ob {m g n : Nat} {s : State} {ix sub : Nat} (h1 : sub < 256) (h2 : ¬ (ix = Ix.lane m ∧ sub = Sub.lane_IDLE_EXIT_NS)) :
   (reachGoal m g n s).ob ix sub = s.ob ix sub := by
  obtain ⟨_, _, _, _, hf, _, _, _, hd⟩ := reach_frame m g n s
  by_cases h3 : g = 3
  · rw [State.ob_congr (s := s.put (Ix.lane m) Sub.lane_IDLE_EXIT_NS (n % 2 ^ 16)) (by rw [hd, if_pos h3]) (by rw [hf]; rfl)]
    exact ob_putln h1 (by decide) h2
  · exact State.ob_congr (by rw [hd, if_neg h3]) hf ..

theorem synceSelect_eq (w : Option (Nat × Nat)) (s : State) :
    ∃ e, s.synceSelect w = { s.put 0x3A02 Sub.syncE_SYNCE_ACTIVE s.synceNext with wire := e } := by
  unfold State.synceSelect; dsimp only; split
  exacts [⟨s.wire, rfl⟩, ⟨_, rfl⟩]

theorem rxSettle_frame (m : Nat) (s : State) : (s.rxSettle m).lanes = s.lanes ∧ (s.rxSettle m).pwr = s.pwr ∧
    (s.rxSettle m).rst = s.rst ∧ (s.rxSettle m).pair.selAct = s.pair.selAct := by
  unfold State.rxSettle
  obtain ⟨e, he⟩ := synceSelect_eq s.synceOut (s.rxKeep m)
  obtain ⟨o, ho⟩ := dropLock_eq m s
  rw [he]
  show (s.rxKeep m).lanes = _ ∧ (s.rxKeep m).pwr = _ ∧ (s.rxKeep m).rst = _ ∧ (s.rxKeep m).pair.selAct = _
  unfold State.rxKeep; rw [ho]
  exact rxReport_frame ..

theorem abortScan_frame (m : Nat) (s : State) : (s.abortScan m).lanes = s.lanes ∧ (s.abortScan m).pwr = s.pwr ∧
    (s.abortScan m).rst = s.rst ∧ (s.abortScan m).pair = s.pair := by
  unfold State.abortScan; split <;> exact ⟨rfl, rfl, rfl, rfl⟩

/-- A receive state touches neither a transmitter nor the conditions of R32 (R43). -/
theorem setRx_frame (m v : Nat) (s : State) : (s.setRx m v).lanes = s.lanes ∧ (s.setRx m v).pwr = s.pwr ∧
    (s.setRx m v).rst = s.rst ∧ (s.setRx m v).pair.selAct = s.pair.selAct := by
  unfold State.setRx; split
  · exact ⟨rfl, rfl, rfl, rfl⟩
  · obtain ⟨h1, h2, h3, h4⟩ := rxSettle_frame m ((s.put (Ix.lane m) Sub.lane_RX_STATE v).abortScan m)
    obtain ⟨g1, g2, g3, g4⟩ := abortScan_frame m (s.put (Ix.lane m) Sub.lane_RX_STATE v)
    exact ⟨h1.trans g1, h2.trans g2, h3.trans g3, h4.trans (by rw [g4]; rfl)⟩

theorem rxApply_frame (m : Nat) (u : State) : let w := heldRxApply m u
  w.lanes.heldTx = u.lanes.heldTx ∧ w.lanes.now = u.lanes.now ∧ w.lanes.goal = u.lanes.goal ∧ w.pwr = u.pwr ∧ w.rst = u.rst ∧ w.pair.selAct = u.pair.selAct := by
  unfold heldRxApply; dsimp only; split
  · rename_i v _
    obtain ⟨h1, h2, h3, h4⟩ := setRx_frame m v { u with lanes := { u.lanes with heldRx := merase u.lanes.heldRx m } }
    rw [h1, h2, h3, h4]; simp
  · simp

theorem rxApply_ob {m : Nat} {u : State} {ix sub : Nat} (h1 : sub < 256) (h2 : ix ≠ Ix.scan m)
    (h3 : ¬ (ix = Ix.lane m ∧ sub = Sub.lane_RX_STATE)) (h4 : apartRx m ix sub) :
   (heldRxApply m u).ob ix sub = u.ob ix sub := by
  unfold heldRxApply; split
  · rw [setRx_ob h1 h2 h4, if_neg h3]; rfl
  · rfl

end Sys2Proof.Machine
end

