-- ==== Sys2Proof/Laws/Root.lean ====
section
/-! SUPPORT. What no operation but a handful changes: the fuses and the queue of waiting commands. -/

namespace Sys2Proof.Machine

/-- The fuses and the commands that wait. -/
def State.root (s : State) : Fuse × List Instr := (s.fuse, s.pending)

variable {s : State}

@[simp] theorem State.root_mk (a b c d e f g h i j k l m n o p q r u v w x y) :
    State.root ⟨a, b, c, d, e, f, g, h, i, j, k, l, m, n, o, p, q, r, u, v, w, x, y⟩ = (a, y) := rfl

@[simp] theorem State.root_eta (s : State) : (s.fuse, s.pending) = s.root := rfl

@[simp] theorem State.root_ite (c : Prop) [Decidable c] (s t : State) :
    (if c then s else t).root = if c then s.root else t.root := by split <;> rfl

/-- A fold whose every turn keeps the root keeps it. -/
theorem State.root_foldl {β : Type} {f : State → β → State} (h : ∀ u b, (f u b).root = u.root) (l : List β) (s : State) :
    (l.foldl f s).root = s.root := by
  induction l generalizing s with
  | nil => rfl
  | cons b l ih => exact (ih _).trans (h s b)

/-- The same of a fold over a pair. -/
theorem State.root_foldl_fst {α β : Type} {f : State × α → β → State × α} (h : ∀ u b, (f u b).1.root = u.1.root)
    (l : List β) (p : State × α) : (l.foldl f p).1.root = p.1.root := by
  induction l generalizing p with
  | nil => rfl
  | cons b l ih => exact (ih _).trans (h p b)

theorem State.root_foldl_snd {α β : Type} {f : α × State → β → α × State} (h : ∀ u b, (f u b).2.root = u.2.root)
    (l : List β) (p : α × State) : (l.foldl f p).2.root = p.2.root := by
  induction l generalizing p with
  | nil => rfl
  | cons b l ih => exact (ih _).trans (h p b)

theorem root_only {s t : State} (h : OnlyDictAcc s t) : t.root = s.root := by
  obtain ⟨_, _, rfl⟩ := h; rfl

end Sys2Proof.Machine
end

