-- ==== Sys2Proof/WellFormed.lean ====
section
/-! DEFINITION. Well-formed commands: every operand lies in the range that its own encoding has. The meanings are total;
a command that is not well formed names something that the block does not have. -/

namespace Sys2Proof

open Sys2Proof.Machine

/-- A session is named by one of the 16 entries. -/
def callerOk : Caller → Bool
  | .session k => decide (k < 16)
  | .firmware => true

/-- An object in a message: a 16-bit index, an 8-bit subindex and a 16-bit length (R446, R499). -/
def itemOk (i : BlockItem) : Bool := decide (i.ix < 2 ^ 16) && decide (i.sub < 2 ^ 8) && decide (i.val.length < 2 ^ 16)

/-- The index low byte of a lane or port (R61). -/
def indexOk (m : Nat) : Bool := decide (m < 0x20) || (decide (0x40 ≤ m) && decide (m < 0x60))

/-- The index low byte of a Tether or Halyard lane (R61). -/
def mgmtOk (k : Nat) : Bool := (decide (0x80 ≤ k) && decide (k < 0x84)) || k == 0x88 || k == 0x89

/-- A level of a slice's OTN line: the ODUCn, or a tributary. -/
def tribOk : Option Nat → Bool
  | some t => decide (t < 8)
  | none => true

/-- Every operand of the command lies in its range. -/
def wellFormed : Instr → Bool
  | .clientFrameReceived _ _ _ _ => true
  | .frameAdmit sl => decide (sl < 4)
  | .pauseRefreshTimer m => indexOk m
  | .sealDequeue sl _ _ => decide (sl < 4)
  | .lineFrameReceived m _ _ _ _ _ => indexOk m
  | .openRelease sl _ => decide (sl < 4)
  | .openDequeue sl j _ => decide (sl < 4) && decide (j < 16)
  | .cellsReturn sl _ => decide (sl < 4)
  | .fupEntryTimeout sl _ _ => decide (sl < 4)
  | .txStateWrite c m _ => callerOk c && indexOk m
  | .rxStateWrite c m _ => callerOk c && indexOk m
  | .laneTransitionEnd m _ => indexOk m
  | .rateWrite c m _ => callerOk c && indexOk m
  | .portEnable c m _ => callerOk c && indexOk m
  | .linkFaultChange m _ _ _ => indexOk m
  | .cgAlign k _ => mgmtOk k
  | .cgAlignLost k _ _ => mgmtOk k
  | .prbsGenWrite c m _ => callerOk c && indexOk m
  | .prbsChkWrite c m _ => callerOk c && indexOk m
  | .scanStart c m => callerOk c && indexOk m
  | .scanAbort c m => callerOk c && indexOk m
  | .scanDone m _ => indexOk m
  | .fecSerWindow m _ => indexOk m
  | .learnRequest sl _ => decide (sl < 4)
  | .sweepVisit sl _ => decide (sl < 4)
  | .sweepStart sl => decide (sl < 4)
  | .ageClockTick sl => decide (sl < 4)
  | .staticReinstall sl _ => decide (sl < 4)
  | .twLookup c sl => callerOk c && decide (sl < 4)
  | .twInsert c sl => callerOk c && decide (sl < 4)
  | .twDelete c sl => callerOk c && decide (sl < 4)
  | .twRead c sl => callerOk c && decide (sl < 4)
  | .twNext c sl => callerOk c && decide (sl < 4)
  | .twHash c sl => callerOk c && decide (sl < 4)
  | .twFlush c sl => callerOk c && decide (sl < 4)
  | .awRead c sl _ => callerOk c && decide (sl < 4)
  | .awWrite c sl _ => callerOk c && decide (sl < 4)
  | .awFindSci c sl => callerOk c && decide (sl < 4)
  | .awFree c sl => callerOk c && decide (sl < 4)
  | .awDelete c sl => callerOk c && decide (sl < 4)
  | .awDeleteDone sl => decide (sl < 4)
  | .awReadCounters c sl => callerOk c && decide (sl < 4)
  | .keyScrubVisit sl _ => decide (sl < 4)
  | .bucketRefillVisit sl _ _ _ => decide (sl < 4)
  | .queueSampleVisit sl _ => decide (sl < 4)
  | .tmRead c sl => callerOk c && decide (sl < 4)
  | .tmWrite c sl => callerOk c && decide (sl < 4)
  | .tmReadCounters c sl => callerOk c && decide (sl < 4)
  | .auditMismatch sl _ _ => decide (sl < 4)
  | .coreCheckVerdict sl _ _ _ => decide (sl < 4)
  | .coreRetest c sl _ => callerOk c && decide (sl < 4)
  | .retestComplete sl _ mask => decide (sl < 4) && decide (mask < 2 ^ 9)
  | .cwRead c sl => callerOk c && decide (sl < 4)
  | .cwArm c sl => callerOk c && decide (sl < 4)
  | .cwCancel c sl => callerOk c && decide (sl < 4)
  | .cwFire c sl => callerOk c && decide (sl < 4)
  | .cueTimeTrigger sl _ _ => decide (sl < 4)
  | .cueSwitch sl j => decide (sl < 4) && decide (j < 16)
  | .retireDelayEnd sl _ => decide (sl < 4)
  | .oduFrameReceived sl _ _ => decide (sl < 4)
  | .blockLockChange sl _ _ _ => decide (sl < 4)
  | .otnDefectDeclare sl trib _ => decide (sl < 4) && tribOk trib
  | .otnDefectClear sl trib _ => decide (sl < 4) && tribOk trib
  | .oneSecondEdge => true
  | .ppsOutPulseEnd => true
  | .tribEnable c sl t _ => callerOk c && decide (sl < 4) && decide (t < 8)
  | .multiframeBoundary sl t _ => decide (sl < 4) && decide (t < 8)
  | .soduMultiframeReceived sl t _ _ => decide (sl < 4) && decide (t < 8)
  | .soduTagCheck sl t _ => decide (sl < 4) && decide (t < 8)
  | .cmRead c sl => callerOk c && decide (sl < 4)
  | .cmWrite c sl => callerOk c && decide (sl < 4)
  | .cmSwitch c sl => callerOk c && decide (sl < 4)
  | .cmSwitchApply sl => decide (sl < 4)
  | .timeStepSet c => callerOk c
  | .timeStepOffset c => callerOk c
  | .timeUnlock c => callerOk c
  | .timeStepApply => true
  | .incrWrite c _ => callerOk c
  | .incrApply => true
  | .ppsInEdge _ _ => true
  | .synceSourceSwitch m _ _ => indexOk m
  | .kwUnwrap c => callerOk c
  | .kwGenerate c => callerOk c
  | .kwWrap c => callerOk c
  | .kwRewrap c => callerOk c
  | .kwDestroy c => callerOk c
  | .kwKekClear c => callerOk c
  | .kwMigrate c => callerOk c
  | .kwMigrateEnd c => callerOk c
  | .kwQuote c => callerOk c
  | .kwInfo c => callerOk c
  | .lcTransition c => callerOk c
  | .lcVsRenew c => callerOk c
  | .lcSvnCommit c => callerOk c
  | .jobStart c j => callerOk c && decide (j < 16)
  | .jobContinue c j => callerOk c && decide (j < 16)
  | .jobFinish c j => callerOk c && decide (j < 16)
  | .jobSave c j => callerOk c && decide (j < 16)
  | .jobRestore c j => callerOk c && decide (j < 16)
  | .jobAbort c j => callerOk c && decide (j < 16)
  | .jobDmaDone j _ _ => decide (j < 16)
  | .keCakLoad c => callerOk c
  | .keCakFree c => callerOk c
  | .keInfo c => callerOk c
  | .sakExport _ _ => true
  | .sakImport _ _ _ _ _ _ => true
  | .pkeOperationComplete => true
  | .mkpduReceived n _ _ => decide (n < 32)
  | .mkaHelloTimer n => decide (n < 32)
  | .mkaPeerTimeout n _ => decide (n < 32)
  | .knotRun c n _ => callerOk c && decide (n < 32)
  | .pairKnotRun c _ => callerOk c
  | .knotMessageReceived place _ _ => decide (place ≤ 32)
  | .knotRetryTimeout _ => true
  | .knotSessionTimeout _ => true
  | .entropyWindowClose _ _ _ => true
  | .healthTestFail _ _ _ _ => true
  | .entropyRequestServed => true
  | .entropyRequestTimeout => true
  | .entReadRequest c => callerOk c
  | .heartbeatTimer => true
  | .heartbeatReceived _ => true
  | .heartbeatLoss => true
  | .selActRelease => true
  | .selMateChange _ => true
  | .tetherHelloTimer => true
  | .tetherHelloReceived _ => true
  | .tetherBadFrame => true
  | .aloneWaitExpiry => true
  | .checkpointSnapshot => true
  | .checkpointPartReceived _ => true
  | .cueSyncReceived _ => true
  | .tetherFirmwareFrame _ => true
  | .losCompareExpiry m => indexOk m
  | .takeReceived => true
  | .takeoverCommit => true
  | .shadowHoldEnd => true
  | .swCmd c _ => callerOk c
  | .switchReqReceived _ => true
  | .switchAnsReceived _ _ => true
  | .handoverSend => true
  | .handoverReceived _ => true
  | .wtrExpiry => true
  | .msgHello k id _ => decide (k < 16) && decide (id < 2 ^ 16)
  | .msgGet k id ix sub_ => decide (k < 16) && decide (id < 2 ^ 16) && decide (ix < 2 ^ 16) && decide (sub_ < 2 ^ 8)
  | .msgSet k id i _ => decide (k < 16) && decide (id < 2 ^ 16) && itemOk i
  | .msgGetBlock k id _ => decide (k < 16) && decide (id < 2 ^ 16)
  | .msgSetBlock k id l _ => decide (k < 16) && decide (id < 2 ^ 16) && l.all itemOk
  | .msgTable k id window inputs op _ _ => decide (k < 16) && decide (id < 2 ^ 16) && decide (window < 2 ^ 16) && inputs.all itemOk && decide (op < 2 ^ 8)
  | .msgSubscribe k id _ => decide (k < 16) && decide (id < 2 ^ 16)
  | .msgClaim k id _ _ => decide (k < 16) && decide (id < 2 ^ 16)
  | .msgRelease k id _ => decide (k < 16) && decide (id < 2 ^ 16)
  | .msgReset k id _ => decide (k < 16) && decide (id < 2 ^ 16)
  | .resetMsgAssert => true
  | .fwStageBegin k id => decide (k < 16) && decide (id < 2 ^ 16)
  | .fwStageData k id _ _ => decide (k < 16) && decide (id < 2 ^ 16)
  | .fwStageEnd k id => decide (k < 16) && decide (id < 2 ^ 16)
  | .fwStageAbort k id => decide (k < 16) && decide (id < 2 ^ 16)
  | .notifySend k => decide (k < 16)
  | .requestAnswerTimeout k => decide (k < 16)
  | .rpStore c => callerOk c
  | .rpLoad c => callerOk c
  | .rpErase c => callerOk c
  | .rpDigest c => callerOk c
  | .rpSelect c => callerOk c
  | .profileLoad => true
  | .evRead c => callerOk c
  | .ringFrameReceived _ _ _ _ => true
  | .discoverReceived _ src hops => decide (src < 2 ^ 8) && decide (hops < 2 ^ 8)
  | .discoverReplyReceived _ src _ => decide (src < 2 ^ 8)
  | .handshakeReceived port src session _ => decide (port < 3) && decide (src < 2 ^ 8) && decide (session < 2 ^ 32)
  | .messageReceived port src session _ => decide (port < 3) && decide (src < 2 ^ 8) && decide (session < 2 ^ 32)
  | .sessionIdleTimeout k => decide (k < 16)
  | .bypassRelease => true
  | .h2dDoorbell _ _ => true
  | .d2hAck => true
  | .pcieFlr => true
  | .pcieLinkLoss => true
  | .pcieHotReset => true
  | .mgAccess _ _ _ => true
  | .stagehandPageMove r => decide (r < 16)
  | .rekeySeedRetry r => decide (r < 16)
  | .rgRekey c r => callerOk c && decide (r < 16)
  | .rgReform c r => callerOk c && decide (r < 16)
  | .ddrPatrolScrub _ => true
  | .tamperSample _ => true
  | .monitorTrip _ _ _ => true
  | .busIntegrityMismatch _ _ _ _ => true
  | .alarmResponse => true
  | .zeroiseDone => true
  | .almAck c => callerOk c
  | .almClear c => callerOk c
  | .clearResetDelay => true
  | .almFuseDisable c => callerOk c
  | .almMaint c => callerOk c
  | .maintWindowExpiry => true
  | .alRead c => callerOk c
  | .pwrReqActive c => callerOk c
  | .pwrReqTrim c => callerOk c
  | .pwrReqDark c => callerOk c
  | .sliceClockHold sl => decide (sl < 4)
  | .voltageReported _ => true
  | .ppVoltTimeout => true
  | .darkEntryComplete => true
  | .darkSample _ _ => true
  | .darkWakeTimer => true
  | .slicePowerWrite c sl _ => callerOk c && decide (sl < 4)
  | .sliceUngateDone sl sealMask openMask => decide (sl < 4) && decide (sealMask < 2 ^ 9) && decide (openMask < 2 ^ 9)
  | .mainPowerLoss _ => true
  | .refclkLoss _ => true
  | .refclkRevert => true
  | .powerGoodFall _ _ _ => true
  | .powerOnReset _ _ => true
  | .porstNAssert _ => true
  | .watchdogExpiry => true
  | .coreReset bit_ => decide (bit_ < 12)
  | .systemReset bit_ => decide (bit_ < 12)
  | .powerupStepReady _ masks => decide (masks.length = 8)
  | .powerupStepTimeout _ => true
  | .powerupRetryTimer => true
  | .clockValidSet _ _ => true
  | .blockClockLoss _ _ => true
  | .bootFirmwareStart _ _ => true
  | .blkReset c => callerOk c
  | .blockResetDone _ _ => true
  | .fwActivate c _ => callerOk c
  | .fwCommit c _ => callerOk c
  | .resetCauseClear c _ => callerOk c
  | .snapSnapshot c => callerOk c
  | .snapshotBoundary => true
  | .snapRelease c => callerOk c
  | .snapHoldExpiry => true
  | .ctRead c => callerOk c
  | .tagEnableWrite c _ => callerOk c
  | .tgRead c => callerOk c
  | .tgTagReset c => callerOk c
  | .qsRead c => callerOk c
  | .pauseTimeExpiry m _ => indexOk m
  | .ckptAgeExceeded sl => decide (sl < 4)
  | .pcieLinkUp speed width => decide (speed < 2 ^ 3) && decide (width < 2 ^ 4)
  | .pciePerstN => true
  | .pmbAlert => true
  | .sourceConditionEnd _ => true

/-- The proposition that a command is well formed. -/
abbrev WellFormed (i : Instr) : Prop := wellFormed i = true

end Sys2Proof
end

