-- ==== Sys2Proof/Tests/Slice0.lean ====
section
/-! SUPPORT. A witness for the hypotheses of each statement, clause by clause, on small states; a term that each check of
well-formedness refuses; the published examples of the standards that the chapters name; a few single steps. -/

namespace Sys2Proof.Tests

set_option maxRecDepth 100000
set_option Elab.async false

open Sys2Proof.Machine

/-! ### Small states -/

/-- A device that is powered up, configured and runs its firmware, long after its reset. -/
def up : State := { State.reset with
  rst := { State.reset.rst with gap := false, step := 5, coresHeld := false, rstout := false }
  time := { State.reset.time with periods := 10 ^ 12 } }
/-- A device with this learning request waiting in slice 0. -/
def learning (r : LearnReq) : State := { up with hitch := { up.hitch with queue := [(0, [r])] } }
/-- A device whose slice 0 table holds a static entry of port 0. -/
def hitchKey : Nat := packKey 0 0 0x0200_0000_0001
def hitchSlot (s : State) : Nat := ((chooseSlot (s.cands 0 hitchKey)).getD 0)
def hitched : State := up.putSlot 0 (hitchSlot up) (slotImage true false false 0 0 0 0 0x0200_0000_0001)
/-- With its key in the table window. -/
def keyed (s : State) : State := s.putO (twIx 0) Sub.twWin_TW_MAC [2, 0, 0, 0, 0, 1]
/-- The association window asks for entry `i` of table `t`. -/
def aw (t i : Nat) (s : State) : State := (s.put (awIx 0) Sub.awWin_AW_TABLE t).put (awIx 0) Sub.awWin_AW_INDEX i
/-- The traffic-manager window asks for entry `i` of table `t` of the SEAL pipe. -/
def tmw (t i : Nat) (s : State) : State := (s.put (tmIx 0) Sub.tmWin_TM_TABLE t).put (tmIx 0) Sub.tmWin_TM_INDEX i
/-- A good frame of 64 octets. -/
def good : Bytes := withFcs (zeros 60)
/-- Client port 0 and line port 0 are enabled and their lanes run. -/
def ported : State :=
  let s := (((((up.setPipe 0 .seal 0).setPipe 0 .open 0).put (Ix.port 0) Sub.port_ENABLE 1).put (Ix.lane 0) Sub.lane_RX_STATE 2).put
    (Ix.port 0x40) Sub.port_ENABLE 1).put (Ix.lane 0x40) Sub.lane_RX_STATE 2
  { s with lanes := { s.lanes with now := [(0, 3), (0x40, 3)] } }
/-- A queue and a group of port node 0, with these frames at rest in the queue. -/
def queued (p : Pipe) (l : List Machine.Frm) (s : State) : State :=
  ((s.putQueue 0 p 0 (2 ^ 159 + 2 ^ 136)).putGroup 0 p 0 (2 ^ 159 + 2 ^ 136)).putHeld 0 p 0 l
def frame0 : Machine.Frm := { bytes := good, len := 64, inPort := 0, outPort := 0, node := 0, queue := 0, cells := 1, cls := 1 }
def entry (p : OpenPlan) (sa : Option Nat) : Vf := { port := 0x40, frm := { frame0 with inPort := 0x40, sa := sa, pn := 5 }, plan := p }
def verifying (v : Vf) (s : State) : State := { s with eng := { s.eng with verify := [(pipeKey 0 .open, [v])] } }
/-- A frame at rest toward line port 0 under SecY 0 with a live SA. -/
def sealing : State :=
  let s := queued .seal [{ frame0 with secy := some 0 }] ported
  let s := ((s.putSecy 0 0 (2 ^ 127 + 2 ^ 125)).putTxsc 0 0 (2 ^ 68 + 2 ^ 48 * 4)).putSa 0 4
    (2 ^ 319 + 2 ^ 317 + 2 ^ 313 + 2 ^ 256 * handleOf 0 1 0 + 2 ^ 192 * 9)
  { s with asc := { s.asc with keys := [(0, { valid := true, key := 7 })] } }
/-- A frame of one word in an egress segment. -/
def leaving0 : Egress := { frm := frame0, bytes := good, start := 0, base := 0, enter := 96, words := 1 }
/-- Slice 0 is in OTN mode, its tributary 0 carries a client without a MACsec layer, and a frame of it rests in its queue. -/
def plainUp : State := queued .seal [{ frame0 with plain := true }]
  (((ported.put (Ix.otn 0 0) Sub.otn_OTN_MODE 1).put (Ix.otn 0 0x10) Sub.trib_TRIB_ENABLE 1).put (Ix.otn 0 0x10) Sub.trib_TRIB_MODE 1)
/-- Both pipes of slice 0 run on their first eight cores, with the ninth as auditor. -/
def cored : State := ((((up.setPipe 0 .seal 0).setPipe 0 .open 0).setRoles 0 .seal (List.range 9)).setRoles 0 .open (List.range 9))
def checking (c : CoreCheck) : State := (cored.putCheck 0 .seal (some c)).setPipe 0 .seal 1
/-- The cue window names transmit cue `i`. -/
def cw (i : Nat) (s : State) : State := (s.put (cwIx 0) Sub.cwWin_CW_TABLE 0).put (cwIx 0) Sub.cwWin_CW_INDEX i
/-- Cue 0 of slice 0 is ready to switch to AN 1. -/
def cueing (st trigger : Nat) : State :=
  let s := ((up.putSecy 0 0 0).putTxsc 0 0 (2 ^ 68 + 2 ^ 69 + 2 ^ 48 * 4 + 2 ^ 32 * 5)).putSa 0 4 (2 ^ 319 + 2 ^ 317)
  let s := s.putSa 0 5 (2 ^ 319 + 2 ^ 256 * handleOf 0 1 0)
  let s := s.putCue 0 0 (2 ^ 157 * st + 2 ^ 155 * trigger + 2 ^ 153 + 2 ^ 96 * handleOf 0 1 0)
  { s with asc := { s.asc with keys := [(0, { valid := true, key := 7, record := 2 ^ 60 })] } }
/-- Slice 0 is in OTN mode with tributary 0 in use. -/
def otn : State :=
  let s := (List.range 8).foldl (fun s k => s.put (Ix.lane (0x40 + k)) Sub.lane_RX_STATE 2)
    ((up.put (Ix.otn 0 0) Sub.otn_OTN_MODE 1).put (tribIx 0 0) Sub.trib_TRIB_ENABLE 1)
  { s with otn := { s.otn with cm := [(skey 0 0, 2 ^ 15), (skey 0 512, 2 ^ 15)] } }
def levelled (i : Nat) (v : FrameLevel) : State := otn.putLevel 0 i v
/-- Tributary 0 is sealed under a live key. -/
def sealedOdu : State :=
  let s := ((otn.put (tribIx 0 0) Sub.trib_TRIB_MODE 1).put (soduIx 0 0) Sub.sodu_TX_KEY_0 (handleOf 0 1 0)).put
    (soduIx 0 0) Sub.sodu_RX_KEY_0 (handleOf 0 1 0)
  { s with otn := { s.otn with begun := [0] }, asc := { s.asc with keys := [(0, { valid := true, key := 7, record := 2 ^ 60 })] } }
def hd : MfHeader := ⟨9, 0, 3, 4⟩
/-- A device whose KEK slot 2 wraps and unwraps. -/
def vaulted : State := up.putKek 2 { valid := true, kind := 2, unwrapIn := true, kek := 77 }
def sakMeta : KeyMeta := ⟨2, 2, 5, 6, 2, false⟩
def withKe (f : KeyEst → KeyEst) (s : State) : State := { s with ke := f s.ke }
/-- A blob under slot 2 of a key of this type. -/
def blobOf (ty len : Nat) : Bytes := vaulted.makeBlob 2 { sakMeta with ty := ty } (zeros len)
/-- The custody window with these operands. -/
def kw (blob : Bytes) (target h slot : Nat) (s : State) : State :=
  (((s.putO kwIx Sub.kwWin_KW_BLOB blob).put kwIx Sub.kwWin_KW_TARGET target).put kwIx Sub.kwWin_KW_HANDLE h).put
    kwIx Sub.kwWin_KW_SLOT slot
/-- The vault window holds a manifest for any measurement. -/
def migrating : State :=
  kw (be 2 0x4D46 ++ be 1 1 ++ be 1 1 ++ zeros 4827) 0 0 0 { vaulted with alm := { vaulted.alm with vs := some 7 } }
/-- Key-store entry 8191 of slice 1 holds a key. -/
def stored (refs : Nat) (s : State) : State :=
  s.putKey 1 8191 { valid := true, long := true, gen := 3, refs := refs, key := 9, record := (KeyMeta.record sakMeta) }
/-- The entropy source answers requests at once. -/
def random (s : State) : State :=
  let s := s.put entIx Sub.ent_ENT_STATE 2
  { s with ke := { s.ke with ent := { s.ke.ent with queue := List.replicate 512 5 } } }
/-- The life-cycle window with this ticket. -/
def ticketHead (kind : Nat) : Bytes := be 2 0x4C54 ++ be 1 1 ++ be 1 kind
def ticketTail (seq len : Nat) (owner signer : Bytes) : Bytes :=
  padTo 48 owner ++ (be 1 seq ++ zeros 3 ++ (padTo 2049 signer ++ zeros len))
def ticketFor (kind seq len : Nat) (dev owner signer : Bytes) : Bytes :=
  ticketHead kind ++ (padTo 48 dev ++ ticketTail seq len owner signer)
def ownedUp : State := { up with fuse := { up.fuse with owner := sha384 (zeros 2049) } }
def lcw (t : Bytes) (s : State) : State := s.putO lcIx Sub.lcWin_LC_TICKET t
/-- The engine verifies this ticket. -/
def asked (t : Bytes) (s : State) : State := { s with ke := { s.ke with queue := [⟨.dsaVerify, .ticket 3 t, [], []⟩] } }
/-- The CAK window with these operands. -/
def kew (blob : Bytes) (len slot i : Nat) (s : State) : State :=
  (((s.putO keWinIx Sub.keWin_KE_BLOB blob).put keWinIx Sub.keWin_KE_CKN_LEN len).put keWinIx Sub.keWin_KE_KEK_SLOT slot).put
    keWinIx Sub.keWin_KE_INDEX i
def caked (i : Nat) : State :=
  ((vaulted.putCak i { valid := true, slot := 5, gen := 2, cknLen := 4 }).putKek 5 { valid := true, kind := 4, kek := 8, unwrapIn := true })
/-- Job context `j` holds this job; bank entry 255 holds a key. -/
def jobbed (j st : Nat) (x : Job) (s : State) : State :=
  (((s.putBank 255 { valid := true, gen := 3, key := 9 }).putJob j x).put (jobIx j) Sub.job_JOB_STATE st).put
    (jobIx j) Sub.job_JOB_KEY (bankHandle 255 3)
/-- A record of a saved job under KEK slot 0. -/
def savedRecord (mode token : Nat) : Bytes :=
  let h := jobRecord { mode := mode, key := bankHandle 255 3, iv := zeros 12 } 0 token
  h ++ jobBody (be 32 77) { mode := mode } h
/-- The key-establishment window of entropy with a read of `len` octets. -/
def reading (len : Nat) (s : State) : State := s.put entWinIx Sub.entWin_ENT_READ_LEN len
/-- 1,024 samples that alternate. -/
def fair : Nat := num (List.replicate 128 0xAA)
/-- The queue is short. -/
def drained (s : State) : State :=
  let s := s.put entIx Sub.ent_ENT_STATE entReady
  { s with ke := { s.ke with ent := { s.ke.ent with queue := List.replicate 4 5 } } }
def knotted (k : Nat) (x : Knot) (s : State) : State := { s with ke := { s.ke with knot := [(k, x)] } }
/-- The owner's root key is in place. -/
def owned : State := { up with fuse := { up.fuse with owner := sha384 (up.oct keIx Sub.ke_OWNER_ROOT_PUB) } }
/-- Port 0x5F is enabled and its lane transmits. -/
def lined : State := let s := up.put (Ix.port 0x5F) Sub.port_ENABLE 1; { s with lanes := { s.lanes with now := [(0x5F, 3)] } }
/-- Port 0x5F runs MKA under CAK 0 and SecY 5. -/
def mka (m : Mka) : State :=
  let s := ((up.putCak 0 { valid := true, ick := 5 }).putSecy 3 5 (2 ^ 127 + 2 ^ 125)).putTxsc 3 5 (2 ^ 68 + 2 ^ 48 * 4)
  let s := ((s.put (Ix.kePort 31) Sub.kePort_MKA_MODE 2).put (Ix.kePort 31) Sub.kePort_MKA_CAK 0).put (Ix.kePort 31) Sub.kePort_MKA_SECY 5
  let s := s.put (Ix.port 0x5F) Sub.port_ENABLE 1
  { s.putMka 31 m with lanes := { s.lanes with now := [(0x5F, 3)] } }
def signedPdu : Bytes := zeros 16 ++ cmac (be 16 0) (zeros 16)
/-- One of a pair with its Tether up, in this `PAIR_STATE` and role, strapped home (0) or away (1). -/
def pairUp (st role strap : Nat) : State :=
  let s := (((up.put 0x4800 Sub.pair_PAIR_ENABLE 1).put psIx Sub.pairStat_PAIR_STATE st).put psIx Sub.pairStat_ROLE role).put
    psIx Sub.pairStat_PAIR_STRAP strap
  (List.range 4).foldl (fun s k => s.put (0x1080 + k) Sub.sLane_CG_ALIGNED 1) s
def pairYoung (st role strap : Nat) : State := { pairUp st role strap with time := State.reset.time }
/-- No time has passed since the reset. -/
def young : State := { up with time := State.reset.time }
def withPair (f : Understudy → Understudy) (s : State) : State := { s with pair := f s.pair }
/-- A checkpoint of slice 3 without records, under KEK slot 2. -/
def ckptHeader : Bytes := be 4 0x47B1010A ++ be 2 0x0200 ++ be 2 24 ++ be 4 0x03FF0000 ++ be 4 9 ++ zeros 12 ++ be 4 0x01000000
def ckpt : Bytes := ckptHeader ++ kwpWrap (be 32 77) (headerDigest ckptHeader)
/-- A HELLO of an away unit of the same part. -/
def helloOf (s : State) : Bytes := [1, 0, 0] ++ be 1 (s.ob 0 Sub.identity_SLICE_MASK) ++ zeros 52 ++ s.kcv
/-- Client port 31 is enabled. -/
def port31 (s : State) : State := s.put (Ix.port 31) Sub.port_ENABLE 1
/-- Session `k` in this state. -/
def sess (k : Nat) (x : Sess) (s : State) : State := s.putSess k x
def ready : Sess := { st := .ready, number := 9, level := 3, port := 0, expert := true }
def claimed (ix k : Nat) (s : State) : State := { s with acc := { s.acc with claims := [(ix, k)] } }
/-- An image without code, and its manifest. -/
def image : Bytes := [0x4A, 0x50, 1, 0, 0, 9] ++ zeros (58 + 4723)
def staging (n off : Nat) (img : Bytes) (s : State) : State :=
  { s with rst := { s.rst with staging := some (n, off), slots := [(n, { image := img })] } }
def opened (s : State) : State := { s with rst := { s.rst with staging := none } }
/-- Session 15 is in READY. -/
def sess15 : State := sess 15 ready up
def withSess (f : Sess → Sess) (s : State) : State := s.putSess 15 (f (s.sessAt 15))
def repped (n : Nat) : State :=
  let s := (up.putKek 0 { valid := true, kek := 77 }).put rpWinIx Sub.rpWin_RP_INDEX n
  { s with acc := { s.acc with repBlob := [(0, (6, 77)), (1, (6, 77))], profiles := [(n, { up.config with key := 6 })] } }
def ringFrame (hops dst : Nat) : Bytes :=
  zeros 12 ++ be 2 0x88B5 ++ be 1 0x10 ++ be 1 1 ++ be 1 dst ++ be 1 0 ++ be 1 hops ++ be 1 0 ++ be 1 0 ++ be 1 1 ++ zeros 8
/-- Both ring ports are aligned. -/
def ringUp : State := (up.put (Ix.lane 0x88) Sub.sLane_CG_ALIGNED 1).put (Ix.lane 0x89) Sub.sLane_CG_ALIGNED 1
def joined (s : State) : State := { s with acc := { s.acc with joined := true } }
/-- Memory range 15 is formed; the counter line of page `p` and the nodes above it are in the cache, and the bursts of the
page's lines are uncorrectable. -/
def ranged (p : Nat) (f : GRange → GRange) : State :=
  let s : State := { up with guard := { up.guard with
    cache := [(15, 0, p, zeros 64), (15, 1, p / 8, zeros 64), (15, 2, p / 64, zeros 64)]
    bad := (List.range 64).map (fun k => 0x8000 + 64 * p + k) } }
  s.putRange 15 (f { valid := true, st := 2, base := 1, size := 1, metaBase := 0, kd := 3, km := 4, kdNew := 5, kmNew := 6 })
/-- DDR of 8 GiB, at its last burst. -/
def ddrUp : State :=
  let s := up.put ddrIx Sub.ddr_DDR_SIZE 8
  { s with guard := { s.guard with patrol := s.bursts - 1 } }
def sample0 : Sample := { switches := 0, ohms := [1000, 1000, 1000, 1000], sns := [0, 0, 0, 0], rc := [0, 0, 0, 0], temp := 25, vbat := 3000, ticks := 7 }
/-- In this response. -/
def latched (r : Nat) (s : State) : State := { s with alm := { s.alm with latch := r } }
def raised (src : Nat) (s : State) : State := { s with alm := { s.alm with raised := [(src, 0, false)], active := [src] } }
def cls (src v : Nat) (s : State) : State := s.put (0x4D00 + src) Sub.source_SRC_CLASS v
/-- A change of performance point to `p` in this phase. -/
def changing (st p old phase : Nat) (l : List Nat) : State :=
  let s := up.put 0x0400 Sub.power_PP_PHASE phase
  { s with pwr := { s.pwr with change := some { who := 0, state := st, point := p, old := old, slices := l } } }
def darkUp : State := let s := up.put 0x0400 Sub.power_PWR_STATE 2; { s with pwr := { s.pwr with darkFrom := 1 } }
def vendor (s : State) : State := { s with fuse := { s.fuse with lc := 1 } }
/-- Both references are strapped in, and input `i` is active. -/
def clocked (i : Nat) : State :=
  let s := ((up.put 0x0600 Sub.clocks_REFCLK_ACTIVE i).put 0x0600 Sub.clocks_REFCLK_OK 3).put 0x0600 Sub.clocks_REFCLK_REVERT 1
  { s with rst := { s.rst with straps := 4 } }
/-- The power-up sequence stands at step `n`. -/
def stepped (n : Nat) : State := { up with rst := { up.rst with step := n } }
/-- The boot ROM runs, with this image in both slots. -/
def booting (img : Bytes) : State :=
  { up with rst := { up.rst with coresHeld := true, gap := true, slots := [(0, { image := img }), (1, { image := img })] } }
/-- The frame that node 0 of a pipe gives, and the state that it leaves. -/
def sv (s : State) (sl : Nat) (p : Pipe) : Machine.Frm × State := (dequeueNode sl p 0 s).getD ({}, s)
/-- Every signature verifies: `Config` leaves it open, so that what rests on it is met under this hypothesis. -/
structure AllVerify : Prop where
  ec : ∀ k m g, Config.ecdsaVerify k m g = true
  dsa : ∀ n k m g, Config.mldsaVerify n k m g = true

theorem AllVerify.gizeltan (h : AllVerify) (m e d : Bytes) : gizeltanSigned m e d = true := by
  simp [gizeltanSigned, h.ec, h.dsa]

/-- `OWNER_ID` of a device whose owner's root key is all zeros. -/
theorem owner_zeros {s : State} (hl : s.fuse.lc = 2) (ho : s.fuse.owner = sha384 (zeros 2049)) :
    s.ownerId = sha384 (zeros 2049) := by
  rw [State.ownerId, if_pos hl, ho, padTo_self (sha384_length _)]

theorem AllVerify.knot (h : AllVerify) {s : State} (hl : s.fuse.lc = 2) (ho : s.fuse.owner = sha384 (zeros 2049))
    (hr : s.oct keIx Sub.ke_OWNER_ROOT_PUB = zeros 2049) : s.knotAllowed = true := by
  simp [State.knotAllowed, State.certOk, verifyBoth, hl, owner_zeros hl ho, hr, h.ec, h.dsa]

theorem ticketHead_length (kind : Nat) : (ticketHead kind).length = 4 := rfl

/-- The device of a ticket stands apart from its other fields. -/
theorem ticket_sub {kind seq len off n : Nat} {owner signer : Bytes} (d : Bytes) (h : off + n ≤ 4 ∨ 52 ≤ off) :
    sub (ticketFor kind seq len d owner signer) off n = sub (ticketFor kind seq len [] owner signer) off n := by
  have hk := ticketHead_length kind
  rcases h with h | h
  · rw [ticketFor, ticketFor, sub_append_left (by omega), sub_append_left (by omega)]
  · have p := padTo_length 48 d
    have q := padTo_length 48 []
    rw [ticketFor, ticketFor, sub_append_right (by omega), sub_append_right (by omega), sub_append_right (by omega),
      sub_append_right (by omega), p, q]

/-- Who signs it stands in its place. -/
theorem ticket_signer {kind seq len : Nat} {owner : Bytes} (d : Bytes) :
    ticketSigner (ticketFor kind seq len d owner (zeros 2049)) = zeros 2049 := by
  have hk := ticketHead_length kind
  have p := padTo_length 48 d
  have q := padTo_length 48 owner
  have r : (be 1 seq ++ zeros 3).length = 4 := rfl
  rw [ticketSigner, ticketFor, sub_append_right (by omega), sub_append_right (by omega), ticketTail,
    sub_append_right (by omega), sub_append_right (by omega), p, q, r, hk, sub, padTo_self (by simp [zeros])]
  exact List.take_left' (by simp [zeros])

/-- What a TRANSITION checks of a ticket, but for its device. -/
def ticketFits (s : State) (level : Nat) (t : Bytes) (lc : Nat) (g : Bool) : Bool :=
  (s.lcLevel level || (s.fuse.lc == 3 && decide (2 ≤ level))) && transitionOf s.fuse.lc (ticketKind t) == some (lc, g) &&
    ticketForm t (some g) && ticketSeq t == s.ownerRecords && !(ticketKind t == 2 && decide (8 ≤ s.fuse.transfers))

theorem ticket_checks {s : State} {kind seq level len lc : Nat} {g : Bool} {owner signer : Bytes}
    (hd : s.fuse.dus = up.fuse.dus) (hf : ticketFits s level (ticketFor kind seq len [] owner signer) lc g = true) :
    s.transitionCheck level (ticketFor kind seq len up.deviceId owner signer) =
      if s.ticketSigned g (ticketFor kind seq len up.deviceId owner signer) then .ok lc else .error .integrity := by
  generalize hq : ticketFor kind seq len up.deviceId owner signer = t
  have e : ∀ off n, off + n ≤ 4 ∨ 52 ≤ off → sub t off n = sub (ticketFor kind seq len [] owner signer) off n :=
    fun _ _ h => hq ▸ ticket_sub _ h
  have dev : ticketDevice t = s.deviceId := by
    have : s.deviceId = up.deviceId := by simp only [State.deviceId, State.identity, hd]
    rw [this, ← hq]
    have hk := ticketHead_length kind
    rw [ticketDevice, ticketFor, sub_append_right (by omega), hk]
    exact (List.take_left' (padTo_length ..)).trans (padTo_self (sha384_length _))
  have len' : t.length = (ticketFor kind seq len [] owner signer).length := by
    rw [← hq]; simp only [ticketFor, List.length_append, padTo_length]
  have f : ∀ off n, off + n ≤ 4 ∨ 52 ≤ off → fld t off n = fld (ticketFor kind seq len [] owner signer) off n :=
    fun off n h => by rw [fld, fld, e off n h]
  have form : ticketForm t (some g) = ticketForm (ticketFor kind seq len [] owner signer) (some g) := by
    simp only [ticketForm, ticketOwner, ticketKind, ticketSigner, f 0 2 (by decide), f 2 1 (by decide), f 3 1 (by decide),
      f 101 3 (by decide), e 52 48 (by decide), e 104 2049 (by decide), len']
  simp only [ticketFits, Bool.and_eq_true, beq_iff_eq, Bool.not_eq_true', ticketKind, ticketSeq,
    ← f 3 1 (by decide), ← f 100 1 (by decide), ← form] at hf
  obtain ⟨⟨⟨⟨h1, h2⟩, h3⟩, h4⟩, h5⟩ := hf
  have h6 : ¬(fld t 3 1 = 2 ∧ 8 ≤ s.fuse.transfers) := by simpa using h5
  simp only [State.transitionCheck, ticketKind, ticketSeq, h1, h2, Option.map_some, h3, dev, h4, h6]
  cases s.ticketSigned g t <;> simp

theorem AllVerify.ticket (h : AllVerify) {s : State} {kind seq level len lc : Nat} {owner : Bytes}
    (hd : s.fuse.dus = up.fuse.dus) (hl : s.fuse.lc = 2) (ho : s.fuse.owner = sha384 (zeros 2049))
    (hf : ticketFits s level (ticketFor kind seq len [] owner (zeros 2049)) lc false = true) :
    s.transitionCheck level (ticketFor kind seq len up.deviceId owner (zeros 2049)) = .ok lc := by
  have hs := ticket_signer (kind := kind) (seq := seq) (len := len) (owner := owner) up.deviceId
  rw [ticket_checks hd hf, if_pos]
  simp only [State.ticketSigned, hs, owner_zeros hl ho, verifyBoth, h.ec, h.dsa]; rfl

/-- A device whose owner is another than the holder of the key of zeros. -/
def stranger : State := { up with fuse := { up.fuse with owner := (sha384 (zeros 2049)).map (· ^^^ 1) } }

theorem ticket_refused {s : State} {kind seq level len lc : Nat} {owner : Bytes}
    (hd : s.fuse.dus = up.fuse.dus) (hl : s.fuse.lc = 2) (ho : s.fuse.owner = (sha384 (zeros 2049)).map (· ^^^ 1))
    (hf : ticketFits s level (ticketFor kind seq len [] owner (zeros 2049)) lc false = true) :
    s.transitionCheck level (ticketFor kind seq len up.deviceId owner (zeros 2049)) = .error .integrity := by
  have hs := ticket_signer (kind := kind) (seq := seq) (len := len) (owner := owner) up.deviceId
  have hn : sha384 (zeros 2049) ≠ s.ownerId := by
    rw [State.ownerId, if_pos hl, ho, padTo_self (by simp)]
    have := sha384_length (zeros 2049)
    generalize sha384 (zeros 2049) = d at this
    have flip : ∀ x : Byte, x ≠ x ^^^ 1 := by decide
    cases d with
    | nil => exact absurd this (by decide)
    | cons x d => exact fun e => flip x (List.cons.inj e).1
  rw [ticket_checks hd hf, if_neg]
  simp only [State.ticketSigned, hs, beq_eq_false_iff_ne.mpr hn, Bool.false_and, Bool.false_eq_true, ↓reduceIte, not_false_eq_true]

theorem AllVerify.image (h : AllVerify) {s : State} {b : Bytes} (hl : 1 ≤ s.fuse.lc ∧ s.fuse.lc ≤ 3) (hf : imageForm b = true)
    (hv : s.fuse.svn ≤ imageSvn b) : s.imageOk b = true := by
  simp [State.imageOk, hl, hf, hv, h.gizeltan]

/-- A result that is there is that result. -/
theorem of_some {α : Type} {x : Option α} (h : x.isSome = true) : x = some (x.get h) := by simp

theorem of_ok {ε α : Type} {x : Except ε α} (h : x.toOption.isSome = true) : x = .ok (x.toOption.get h) := by
  cases x with
  | ok a => rfl
  | error e => exact nomatch (show false = true from h)
/-! Several facts, decided together, before another. -/

theorem meet2 {p1 p2 p : Prop} (h : p1 ∧ p2) (k : p) : p1 ∧ p2 ∧ p := by
  simpa only [and_assoc] using And.intro h k

theorem meet3 {p1 p2 p3 p : Prop} (h : p1 ∧ p2 ∧ p3) (k : p) : p1 ∧ p2 ∧ p3 ∧ p := by
  simpa only [and_assoc] using And.intro h k

theorem meet4 {p1 p2 p3 p4 p : Prop} (h : p1 ∧ p2 ∧ p3 ∧ p4) (k : p) : p1 ∧ p2 ∧ p3 ∧ p4 ∧ p := by
  simpa only [and_assoc] using And.intro h k

theorem meet5 {p1 p2 p3 p4 p5 p : Prop} (h : p1 ∧ p2 ∧ p3 ∧ p4 ∧ p5) (k : p) : p1 ∧ p2 ∧ p3 ∧ p4 ∧ p5 ∧ p := by
  simpa only [and_assoc] using And.intro h k

theorem meet6 {p1 p2 p3 p4 p5 p6 p : Prop} (h : p1 ∧ p2 ∧ p3 ∧ p4 ∧ p5 ∧ p6) (k : p) : p1 ∧ p2 ∧ p3 ∧ p4 ∧ p5 ∧ p6 ∧ p := by
  simpa only [and_assoc] using And.intro h k

theorem meet7 {p1 p2 p3 p4 p5 p6 p7 p : Prop} (h : p1 ∧ p2 ∧ p3 ∧ p4 ∧ p5 ∧ p6 ∧ p7) (k : p) : p1 ∧ p2 ∧ p3 ∧ p4 ∧ p5 ∧ p6 ∧ p7 ∧ p := by
  simpa only [and_assoc] using And.intro h k

theorem meet8 {p1 p2 p3 p4 p5 p6 p7 p8 p : Prop} (h : p1 ∧ p2 ∧ p3 ∧ p4 ∧ p5 ∧ p6 ∧ p7 ∧ p8) (k : p) : p1 ∧ p2 ∧ p3 ∧ p4 ∧ p5 ∧ p6 ∧ p7 ∧ p8 ∧ p := by
  simpa only [and_assoc] using And.intro h k

theorem meet10 {p1 p2 p3 p4 p5 p6 p7 p8 p9 p10 p : Prop} (h : p1 ∧ p2 ∧ p3 ∧ p4 ∧ p5 ∧ p6 ∧ p7 ∧ p8 ∧ p9 ∧ p10) (k : p) : p1 ∧ p2 ∧ p3 ∧ p4 ∧ p5 ∧ p6 ∧ p7 ∧ p8 ∧ p9 ∧ p10 ∧ p := by
  simpa only [and_assoc] using And.intro h k

theorem meet11 {p1 p2 p3 p4 p5 p6 p7 p8 p9 p10 p11 p : Prop} (h : p1 ∧ p2 ∧ p3 ∧ p4 ∧ p5 ∧ p6 ∧ p7 ∧ p8 ∧ p9 ∧ p10 ∧ p11) (k : p) : p1 ∧ p2 ∧ p3 ∧ p4 ∧ p5 ∧ p6 ∧ p7 ∧ p8 ∧ p9 ∧ p10 ∧ p11 ∧ p := by
  simpa only [and_assoc] using And.intro h k

theorem meet12 {p1 p2 p3 p4 p5 p6 p7 p8 p9 p10 p11 p12 p : Prop} (h : p1 ∧ p2 ∧ p3 ∧ p4 ∧ p5 ∧ p6 ∧ p7 ∧ p8 ∧ p9 ∧ p10 ∧ p11 ∧ p12) (k : p) : p1 ∧ p2 ∧ p3 ∧ p4 ∧ p5 ∧ p6 ∧ p7 ∧ p8 ∧ p9 ∧ p10 ∧ p11 ∧ p12 ∧ p := by
  simpa only [and_assoc] using And.intro h k


/-! ### Witnesses, family by family: each clause of a statement has a state and operands that meet its hypotheses -/

theorem witness_LaneWritesTakeEffect :
    (∃ (s : State) (c : Caller) (m : Nat) (v : Nat), Accepted s c (Ix.lane m) Sub.lane_TX_STATE v ∧
      mfind s.lanes.goal m = none) ∧
    (∃ (s : State) (c : Caller) (m : Nat) (v : Nat) (g : _), Accepted s c (Ix.lane m) Sub.lane_TX_STATE v ∧
      mfind s.lanes.goal m = some g) ∧
    (∃ (s : State) (c : Caller) (m : Nat) (v : Nat), Accepted s c (Ix.lane m) Sub.lane_RX_STATE v ∧
      mfind s.lanes.goal m = none) ∧
    (∃ (s : State) (c : Caller) (m : Nat) (v : Nat), Accepted s c (Ix.lane m) Sub.lane_RATE v ∧ s.portOfLane m = none ∧
      ((s.groupLane m = false ∨ v = s.ob (Ix.lane m) Sub.lane_RATE))) ∧
    (∃ (s : State) (c : Caller) (m : Nat) (v : Nat), Accepted s c (Ix.lane m) Sub.lane_PRBS_GEN v ∧
      ((v = 0 ∨ s.portOfLane m = none))) ∧
    (∃ (s : State) (c : Caller) (m : Nat) (v : Nat), Accepted s c (Ix.lane m) Sub.lane_PRBS_CHK v ∧
      ((v = 0 ∨ s.portOfLane m = none))) ∧
    (∃ (s : State) (c : Caller) (m : Nat) (v : Nat) (p : Nat), s.portOfLane m = some p ∧
      Accepted s c (Ix.lane m) Sub.lane_RATE v) ∧
    (∃ (s : State) (c : Caller) (m : Nat) (v : Nat) (p : Nat), s.portOfLane m = some p ∧ v ≠ 0 ∧
      Accepted s c (Ix.lane m) Sub.lane_PRBS_GEN v) ∧
    (∃ (s : State) (c : Caller) (m : Nat) (v : Nat) (p : Nat), s.portOfLane m = some p ∧ v ≠ 0 ∧
      Accepted s c (Ix.lane m) Sub.lane_PRBS_CHK v) :=
  ⟨⟨up, .firmware, 0, 1, by decide +kernel⟩,
    ⟨{ up with lanes := { up.lanes with goal := [(0, 2)] } }, .firmware, 0, 1, 2, by decide +kernel⟩,
    ⟨up, .firmware, 3, 2, by decide +kernel⟩,
    ⟨up, .firmware, 3, 1, by decide +kernel⟩,
    ⟨up, .firmware, 3, 1, by decide +kernel⟩,
    ⟨up, .firmware, 3, 1, by decide +kernel⟩,
    ⟨(up.put (Ix.port 0) Sub.port_ENABLE 1), .firmware, 0, 1, 0, by decide +kernel⟩,
    ⟨(up.put (Ix.port 0) Sub.port_ENABLE 1), .firmware, 0, 1, 0, by decide +kernel⟩,
    ⟨(up.put (Ix.port 0) Sub.port_ENABLE 1), .firmware, 0, 1, 0, by decide +kernel⟩⟩

theorem witness_LanesAndPortsMove_1 :
    (∃ (s : State) (m : Nat) (g : _), m < 0x60 ∧ mfind s.lanes.goal m = some g ∧ mfind s.lanes.heldTx m = none) ∧
    (∃ (s : State) (m : Nat) (v : _), m < 0x60 ∧ mfind s.lanes.goal m ≠ none ∧ mfind s.lanes.heldTx m = some v) ∧
    (∃ (s : State) (c : Caller) (m : Nat), m < 0x60 ∧ Accepted s c (Ix.port m) Sub.port_ENABLE 1 ∧ s.portOn m = false ∧
      s.blockHeld (if isLine m then 2 else 1) (m % 0x40) = false ∧ s.blockHeld 0 (sliceOfPort m) = false ∧
      s.gated (sliceOfPort m) = false ∧ s.enableCheck m = .ok ∧ s.loadRuns = false) ∧
    (∃ (s : State) (c : Caller) (m : Nat), m < 0x60 ∧ Accepted s c (Ix.port m) Sub.port_ENABLE 0) ∧
    (∃ (s : State) (c : Caller) (m : Nat) (v : _), m < 0x60 ∧ Accepted s c (Ix.port m) Sub.port_ENABLE v ∧ v ≠ 0 ∧
      s.loadRuns = true) ∧
    (∃ (s : State) (m : Nat) (n : Nat) (signal : _) (lock : _), m < 0x60 ∧ s.laneCount m ≤ 8 ∧ ((n % 2 = 0 ∨ ∀ i : Nat,
      i < s.laneCount m → bit signal i = true ∧ bit lock i = true ∧ s.rxEffective (m + i) = 2))) ∧
    (∃ (s : State) (m : Nat) (n : Nat) (signal : _) (lock : _) (i : _), m < 0x60 ∧ s.laneCount m ≤ 8 ∧ n % 2 = 1 ∧
      i < s.laneCount m ∧ ((bit signal i = false ∨ bit lock i = false ∨ s.rxEffective (m + i) ≠ 2))) ∧
    (∃ (s : State) (m : Nat) (n : Nat), m < 0x60 ∧ s.ob (Ix.port m) Sub.port_FEC_SER_THRESH < n ∧ s.rst.coresHeld = false) ∧
    (∃ (s : State) (m : Nat) (n : Nat), m < 0x60 ∧ n ≤ s.ob (Ix.port m) Sub.port_FEC_SER_THRESH) ∧
    (∃ (s : State) (k : Nat) (at_ : _) (n : _), ((0x80 ≤ k ∧ k < 0x84 ∨ k = 0x88 ∨ k = 0x89)) ∧
      s.obB (Ix.lane k) Sub.sLane_CG_ALIGNED = false ∧ mget (0, 0) s.lanes.commas k = (at_ % 10, n) ∧ 2 ≤ n) ∧
    (∃ (s : State) (k : Nat) (at_ : _) (p : _) (n : _), ((0x80 ≤ k ∧ k < 0x84 ∨ k = 0x88 ∨ k = 0x89)) ∧
      s.obB (Ix.lane k) Sub.sLane_CG_ALIGNED = false ∧ mget (0, 0) s.lanes.commas k = (p, n) ∧ ((p ≠ at_ % 10 ∨ n < 2))) ∧
    (∃ (s : State) (k : Nat) (groups : _) (w : _) (e : _), ((0x80 ≤ k ∧ k < 0x84 ∨ k = 0x88 ∨ k = 0x89)) ∧
      s.obB (Ix.lane k) Sub.sLane_CG_ALIGNED = true ∧ cgRun groups (mget 0 s.lanes.groups k) 0 = (w, e, true)) :=
  ⟨⟨{ up.put (Ix.lane 0) Sub.lane_TX_STATE 3 with lanes := { up.lanes with goal := [(0, 3)] } }, 0, 3, by decide +kernel⟩,
    ⟨{ up with lanes := { up.lanes with goal := [(0, 2)], heldTx := [(0, 3)] } }, 0, 3, by decide +kernel⟩,
    ⟨((up.put (Ix.port 0x40) Sub.port_PORT_TYPE 1).put (Ix.lane 0x40) Sub.lane_RATE 0), .firmware, 0x40, by decide +kernel⟩,
    ⟨(up.put (Ix.port 0) Sub.port_ENABLE 1), .firmware, 0, by decide +kernel⟩,
    ⟨up.put 0x0101 Sub.rpWin_RP_OP 2 |> fun s : State =>
      { s with acc := { s.acc with running := [okey 0x0101 Sub.rpWin_RP_STATUS] } }, .firmware, 0, 1, by decide +kernel⟩,
    ⟨((up.put (Ix.lane 0x40) Sub.lane_RX_STATE 2).put (Ix.port 0x40) Sub.port_LANE_COUNT 1), 0x40, 1, 255, 255,
      by decide +kernel⟩,
    ⟨((up.put (Ix.lane 0x5F) Sub.lane_RX_STATE 2).put (Ix.port 0x5F) Sub.port_LANE_COUNT 1), 0x5F, 3, 1, 0, 0,
      by decide +kernel⟩,
    ⟨up, 0, 1000000000, by decide +kernel⟩,
    ⟨up, 0, 0, by decide +kernel⟩,
    ⟨{ up with lanes := { up.lanes with commas := [(0x80, (3, 2))] } }, 0x80, 3, 2, by decide +kernel⟩,
    ⟨{ up with lanes := { up.lanes with commas := [(0x83, (9, 2))] } }, 0x83, 13, 9, 2, by decide +kernel⟩,
    ⟨(up.put (Ix.lane 0x83) Sub.sLane_CG_ALIGNED 1), 0x83, [false, true, false, false, false, true], 0, 4, by decide +kernel⟩⟩

theorem witness_LanesAndPortsMove_2 :
    (∃ (s : State) (k : Nat) (groups : _) (w : _) (e : _), ((0x80 ≤ k ∧ k < 0x84 ∨ k = 0x88 ∨ k = 0x89)) ∧
      s.obB (Ix.lane k) Sub.sLane_CG_ALIGNED = true ∧ cgRun groups (mget 0 s.lanes.groups k) 0 = (w, e, false)) ∧
    (∃ (good : Nat) (bad : Nat), good < 32 ∧ bad < 4) ∧
    (∃ (good : Nat) (bad : Nat), good < 32 ∧ bad < 4) :=
  ⟨⟨(up.put (Ix.lane 0x89) Sub.sLane_CG_ALIGNED 1), 0x89, [true, false], 1, 1, by decide +kernel⟩,
    ⟨31, 3, by decide +kernel⟩,
    ⟨0, 0, by decide +kernel⟩⟩

theorem witness_EyeScanRuns :
    (∃ (s : State) (c : Caller) (m : Nat), Accepted s c (Ix.scan m) Sub.scan_SCAN_CTRL 1 ∧
      s.ob (Ix.lane m) Sub.lane_RX_STATE = 2) ∧
    (∃ (s : State) (c : Caller) (m : Nat), Accepted s c (Ix.scan m) Sub.scan_SCAN_CTRL 1 ∧
      s.ob (Ix.lane m) Sub.lane_RX_STATE ≠ 2) ∧
    (∃ (s : State) (c : Caller) (m : Nat), Accepted s c (Ix.scan m) Sub.scan_SCAN_CTRL 2 ∧
      s.ob (Ix.scan m) Sub.scan_SCAN_STATUS = 1) ∧
    (∃ (s : State) (m : Nat), s.ob (Ix.scan m) Sub.scan_SCAN_STATUS = 1 ∧
      s.past (Timer.scan m) (2 ^ mget 24 s.lanes.dwell m * 100000 / s.laneRate m) = true) ∧
    (∃ (s : State) (m : Nat),
      ((s.ob (Ix.scan m) Sub.scan_SCAN_STATUS ≠ 1 ∨ s.past (Timer.scan m) (2 ^ mget 24 s.lanes.dwell m * 100000 / s.laneRate
      m) = false))) :=
  ⟨⟨(up.put (Ix.lane 0) Sub.lane_RX_STATE 2), .firmware, 0, by decide +kernel⟩,
    ⟨(up.put (Ix.lane 0) Sub.lane_RX_STATE 0), .firmware, 0, by decide +kernel⟩,
    ⟨(up.put (Ix.scan 0) Sub.scan_SCAN_STATUS 1), .firmware, 0, by decide +kernel⟩,
    ⟨(up.put (Ix.scan 0) Sub.scan_SCAN_STATUS 1), 0, by decide +kernel⟩,
    ⟨up, 0, by decide +kernel⟩⟩

theorem witness_HitchEnginesWork :
    (∃ (s : State) (sl : Nat) (r : LearnReq) (q : List LearnReq) (y : Nat) (i : Nat), sl < 4 ∧
      mget [] s.hitch.queue sl = r :: q ∧ bit r.mac 40 = false ∧ r.mac ≠ 0 ∧ r.target = some y ∧
      s.cleanFor sl (packKey r.port r.vid r.mac) = true ∧
      holder (packKey r.port r.vid r.mac) (s.cands sl (packKey r.port r.vid r.mac)) = none ∧
      s.learnedCount r.port < s.ob (hitchPortIx r.port) Sub.hitchPort_LEARN_LIMIT ∧
      chooseSlot (s.cands sl (packKey r.port r.vid r.mac)) = some i) ∧
    (∃ (s : State) (sl : Nat) (r : LearnReq) (q : List LearnReq) (y : Nat) (m : Nat × Nat × Nat × Nat), sl < 4 ∧
      mget [] s.hitch.queue sl = r :: q ∧ bit r.mac 40 = false ∧ r.mac ≠ 0 ∧ r.target = some y ∧
      s.cleanFor sl (packKey r.port r.vid r.mac) = true ∧ m ∈ s.lately sl (mget [] s.hitch.mgmt sl) ∧
      m.2.2.1 = packKey r.port r.vid r.mac) ∧
    (∃ (s : State) (sl : Nat), sl < 4 ∧ 8192 ≤ mget 8192 s.hitch.sweepPos sl ∧
      s.past (Timer.sweep sl) (1000000 * s.sweepMs sl) = true) ∧
    (∃ (s : State) (sl : Nat), sl < 4 ∧
      ((mget 8192 s.hitch.sweepPos sl < 8192 ∨ s.past (Timer.sweep sl) (1000000 * s.sweepMs sl) = false))) ∧
    (∃ (s : State) (sl : Nat) (pos : Nat), sl < 4 ∧ mget 8192 s.hitch.sweepPos sl = pos ∧ pos < 8192 ∧
      s.past (Timer.sweep sl) (1000000 * s.sweepMs sl * pos / 8192) = true) ∧
    (∃ (s : State) (sl : Nat), sl < 4 ∧ s.past (Timer.age sl) (1000000 * s.ob (Ix.hitch sl 0) Sub.hitch_AGE_TICK_MS) = true) ∧
    (∃ (s : State) (sl : Nat), sl < 4 ∧
      s.past (Timer.age sl) (1000000 * s.ob (Ix.hitch sl 0) Sub.hitch_AGE_TICK_MS) = false) ∧
    (∃ (s : State) (sl : Nat) (i : Nat) (j : Nat) (e : Nat), sl < 4 ∧ mfind s.hitch.statics (skey sl i) = some e ∧
      s.slotAt sl i ≠ e ∧ s.cleanFor sl (Slot.key e) = true ∧ holder (Slot.key e) (s.cands sl (Slot.key e)) = none ∧
      chooseSlot (s.cands sl (Slot.key e)) = some j) :=
  ⟨⟨(learning ⟨0, 0, 0x0200_0000_0001, some 0⟩), 0, (mget [] ((learning ⟨0, 0, 0x0200_0000_0001,
      some 0⟩)).hitch.queue 0).head (by decide +kernel), (mget [] ((learning ⟨0, 0, 0x0200_0000_0001,
      some 0⟩)).hitch.queue 0).tail, _, _, meet4 (by decide +kernel) ⟨of_some (by decide +kernel),
      meet3 (by decide +kernel) (of_some (by decide +kernel))⟩⟩,
    ⟨{ learning ⟨0, 0, 0x0200_0000_0001, some 0⟩ with hitch := { (learning ⟨0, 0, 0x0200_0000_0001, some 0⟩).hitch with mgmt := [(0, [(up.time.periods, 5, hitchKey, 0)])] } }, 0, (mget [] ({ learning ⟨0, 0, 0x0200_0000_0001, some 0⟩ with hitch := { (learning ⟨0, 0, 0x0200_0000_0001, some 0⟩).hitch with mgmt := [(0, [(up.time.periods, 5, hitchKey, 0)])] } } : State).hitch.queue 0).head (by decide +kernel), (mget [] ({ learning ⟨0, 0, 0x0200_0000_0001, some 0⟩ with hitch := { (learning ⟨0, 0, 0x0200_0000_0001, some 0⟩).hitch with mgmt := [(0, [(up.time.periods, 5, hitchKey, 0)])] } } : State).hitch.queue 0).tail, 0, (up.time.periods, 5, hitchKey, 0), by decide +kernel⟩,
    ⟨up, 0, by decide +kernel⟩,
    ⟨{ up with hitch := { up.hitch with sweepPos := [(0, 5)] } }, 0, by decide +kernel⟩,
    ⟨{ up with hitch := { up.hitch with sweepPos := [(0, 8191)] } }, 0, _, by decide +kernel, rfl, by decide +kernel⟩,
    ⟨up, 0, by decide +kernel⟩,
    ⟨young, 3, by decide +kernel⟩,
    ⟨{ up with hitch := { up.hitch with statics := [(7, slotImage true false false 0 0 0 0 0x0200_0000_0001)] } }, 0, 7, _, _,
      by decide +kernel, of_some (by decide +kernel), meet3 (by decide +kernel) (of_some (by decide +kernel))⟩⟩

theorem witness_TableWindowOperates :
    (∃ (s : State) (c : Caller) (sl : Nat) (i : _) (e : _), StartsIn s sl c (twIx sl) Sub.twWin_TW_OP Sub.twWin_TW_STATUS 1 ∧
      s.twKeyOk sl = true ∧ s.cleanFor sl (s.twKey sl) = true ∧ holder (s.twKey sl) (s.cands sl (s.twKey sl)) = some (i, e)) ∧
    (∃ (s : State) (c : Caller) (sl : Nat), StartsIn s sl c (twIx sl) Sub.twWin_TW_OP Sub.twWin_TW_STATUS 1 ∧
      s.twKeyOk sl = true ∧ s.cleanFor sl (s.twKey sl) = true ∧ holder (s.twKey sl) (s.cands sl (s.twKey sl)) = none) ∧
    (∃ (s : State) (c : Caller) (sl : Nat) (i : _), StartsIn s sl c (twIx sl) Sub.twWin_TW_OP Sub.twWin_TW_STATUS 4 ∧
      s.ob (twIx sl) Sub.twWin_TW_INDEX = i ∧ i < 131072 ∧ parityOk (s.slotAt sl i) = true) ∧
    (∃ (s : State) (c : Caller) (sl : Nat) (j : _) (e : _), StartsIn s sl c (twIx sl) Sub.twWin_TW_OP Sub.twWin_TW_STATUS 5 ∧
      (∀ x ∈ s.hitchEntries sl, parityOk (s.slotAt sl x.1) = true ∧ x.2 = s.slotAt sl x.1) ∧
      (s.hitchEntries sl).find? (fun x => decide (s.ob (twIx sl) Sub.twWin_TW_INDEX < x.1) && Slot.valid x.2) = some (j, e)) ∧
    (∃ (s : State) (c : Caller) (sl : Nat), StartsIn s sl c (twIx sl) Sub.twWin_TW_OP Sub.twWin_TW_STATUS 6 ∧
      s.twKeyOk sl = true) ∧
    (∃ (s : State) (c : Caller) (sl : Nat) (i : _), StartsIn s sl c (twIx sl) Sub.twWin_TW_OP Sub.twWin_TW_STATUS 2 ∧
      s.twKeyOk sl = true ∧ s.secyPort sl (s.ob (twIx sl) Sub.twWin_TW_SECY) = some (s.twPort sl) ∧
      s.cleanFor sl (s.twKey sl) = true ∧ holder (s.twKey sl) (s.cands sl (s.twKey sl)) = none ∧
      chooseSlot (s.cands sl (s.twKey sl)) = some i) ∧
    (∃ (s : State) (c : Caller) (sl : Nat) (i : _) (e : _), StartsIn s sl c (twIx sl) Sub.twWin_TW_OP Sub.twWin_TW_STATUS 3 ∧
      s.twKeyOk sl = true ∧ s.cleanFor sl (s.twKey sl) = true ∧ holder (s.twKey sl) (s.cands sl (s.twKey sl)) = some (i, e)) ∧
    (∃ (s : State) (c : Caller) (sl : Nat), StartsIn s sl c (twIx sl) Sub.twWin_TW_OP Sub.twWin_TW_STATUS 7 ∧
      (∀ x ∈ s.hitchEntries sl, parityOk (s.slotAt sl x.1) = true ∧ x.2 = s.slotAt sl x.1 ∧ x.1 < 131072)) :=
  ⟨⟨(keyed hitched), .firmware, 0,
      ((holder (((keyed hitched)).twKey 0) (((keyed hitched)).cands 0 (((keyed hitched)).twKey 0))).get
      (by decide +kernel)).1,
      ((holder (((keyed hitched)).twKey 0) (((keyed hitched)).cands 0 (((keyed hitched)).twKey 0))).get
      (by decide +kernel)).2, by decide +kernel⟩,
    ⟨(keyed up), .firmware, 0, by decide +kernel⟩,
    ⟨(hitched.put (twIx 0) Sub.twWin_TW_INDEX (hitchSlot up)), .firmware, 0, _, by decide +kernel, rfl, by decide +kernel⟩,
    ⟨hitched, .firmware, 0,
      (((hitched.hitchEntries 0).find? (fun x => decide (hitched.ob (twIx 0) Sub.twWin_TW_INDEX < x.1) && Slot.valid x.2)).get
      (by decide +kernel)).1,
      (((hitched.hitchEntries 0).find? (fun x => decide (hitched.ob (twIx 0) Sub.twWin_TW_INDEX < x.1) && Slot.valid x.2)).get
      (by decide +kernel)).2, by decide +kernel⟩,
    ⟨(keyed up), .firmware, 0, by decide +kernel⟩,
    ⟨(keyed { up with asc := { up.asc with secy := [(0, 0)] } }), .firmware, 0, _,
      meet5 (by decide +kernel) (of_some (by decide +kernel))⟩,
    ⟨(keyed hitched), .firmware, 0,
      ((holder (((keyed hitched)).twKey 0) (((keyed hitched)).cands 0 (((keyed hitched)).twKey 0))).get
      (by decide +kernel)).1,
      ((holder (((keyed hitched)).twKey 0) (((keyed hitched)).cands 0 (((keyed hitched)).twKey 0))).get
      (by decide +kernel)).2, by decide +kernel⟩,
    ⟨(hitched.put (twIx 0) Sub.twWin_TW_FLUSH_SCOPE 4), .firmware, 0, by decide +kernel⟩⟩

theorem witness_AssociationWindowOperates :
    (∃ (s : State) (c : Caller) (sl : Nat), StartsIn s sl c (awIx sl) Sub.awWin_AW_OP Sub.awWin_AW_STATUS 1 ∧
      s.awTable sl < 5 ∧ s.awIndex sl < awSize (s.awTable sl) ∧ ((s.awTable sl = 3 → s.saBadAt sl (s.awIndex sl) = false))) ∧
    (∃ (s : State) (c : Caller) (sl : Nat) (i : _), StartsIn s sl c (awIx sl) Sub.awWin_AW_OP Sub.awWin_AW_STATUS 3 ∧
      s.findSci sl (num (s.oct (awIx sl) Sub.awWin_AW_SCI)) = some i) ∧
    (∃ (s : State) (c : Caller) (sl : Nat), StartsIn s sl c (awIx sl) Sub.awWin_AW_OP Sub.awWin_AW_STATUS 3 ∧
      s.findSci sl (num (s.oct (awIx sl) Sub.awWin_AW_SCI)) = none) ∧
    (∃ (s : State) (c : Caller) (sl : Nat) (i : _), StartsIn s sl c (awIx sl) Sub.awWin_AW_OP Sub.awWin_AW_STATUS 4 ∧
      s.awTable sl < 4 ∧ i < awSize (s.awTable sl) ∧ s.awValid sl (s.awTable sl) i = false ∧ ((∀ j : Nat,
      j < i → s.awValid sl (s.awTable sl) j = true))) ∧
    (∃ (s : State) (c : Caller) (sl : Nat), StartsIn s sl c (awIx sl) Sub.awWin_AW_OP Sub.awWin_AW_STATUS 6 ∧
      s.tel.held = false ∧ ((s.awTable sl = 0 ∨ s.awTable sl = 2 ∨ s.awTable sl = 3)) ∧
      s.awIndex sl < awSize (s.awTable sl)) ∧
    (∃ (s : State) (c : Caller) (sl : Nat) (i : Nat) (e : _),
      StartsIn s sl c (awIx sl) Sub.awWin_AW_OP Sub.awWin_AW_STATUS 2 ∧ s.awTable sl = 0 ∧ s.awIndex sl = i ∧ i < 2048 ∧
      e = maskMerge ((s.secyAt sl i).getD 0) (fld (s.oct (awIx sl) Sub.awWin_AW_DATA) 0 16) (fld (s.oct (awIx sl)
      Sub.awWin_AW_MASK) 0 16) ∧ s.secyCheck sl i ((s.secyAt sl i).getD 0) e = .ok) ∧
    (∃ (s : State) (c : Caller) (sl : Nat) (i : Nat) (st : _),
      StartsIn s sl c (awIx sl) Sub.awWin_AW_OP Sub.awWin_AW_STATUS 2 ∧ s.awTable sl = 0 ∧ s.awIndex sl = i ∧ i < 2048 ∧
      st ≠ .ok ∧ s.secyCheck sl i ((s.secyAt sl i).getD 0) (maskMerge ((s.secyAt sl i).getD 0) (fld (s.oct (awIx sl)
      Sub.awWin_AW_DATA) 0 16) (fld (s.oct (awIx sl) Sub.awWin_AW_MASK) 0 16)) = st) ∧
    (∃ (s : State) (c : Caller) (sl : Nat) (i : Nat), StartsIn s sl c (awIx sl) Sub.awWin_AW_OP Sub.awWin_AW_STATUS 5 ∧
      s.awTable sl = 1 ∧ s.awIndex sl = i ∧ (s.secyAt sl i).isSome = true ∧ i < 2048 ∧ s.deleteBusy sl 1 i = false) ∧
    (∃ (s : State) (sl : Nat) (i : Nat) (tb : _), mfind s.asc.deleting sl = some (tb, i) ∧ ((tb = 0 ∨ tb = 2 ∨ tb = 3)) ∧
      (mget [] s.eng.verify (pipeKey sl .open)).all (fun f => !f.holds tb i) = true ∧
      (mget [] s.eng.egress (pipeKey sl .seal)).all (fun f => !f.frm.uses tb i) = true) ∧
    (∃ (s : State) (sl : Nat) (i : Nat), s.sliceRuns sl = true ∧ mget 0 s.asc.scrub sl = i ∧ (s.keyAt sl i).valid = true) ∧
    (∃ (s : State) (sl : Nat) (i : Nat), s.sliceRuns sl = true ∧ mget 0 s.asc.scrub sl = i) :=
  ⟨⟨(aw 0 5 (up.putSecy 0 5 (2 ^ 125))), .firmware, 0, by decide +kernel⟩,
    ⟨((up.putRxsc 0 9 (2 ^ 159 + 7 * 2 ^ 64)).putO (awIx 0) Sub.awWin_AW_SCI (be 8 7)), .firmware, 0, _, by decide +kernel,
      of_some (by decide +kernel)⟩,
    ⟨up, .firmware, 0, by decide +kernel⟩,
    ⟨(aw 2 0 (up.putRxsc 0 0 (2 ^ 159))), .firmware, 0, 1, by decide +kernel⟩,
    ⟨(aw 0 5 (up.putSecy 0 5 (2 ^ 125))), .firmware, 0, by decide +kernel⟩,
    ⟨(((aw 0 2047 up).putO (awIx 0) Sub.awWin_AW_DATA (padTo 40 (be 16 (2 ^ 127)))).putO (awIx 0) Sub.awWin_AW_MASK
      (List.replicate 40 255)), .firmware, 0, 2047, _, meet4 (by decide +kernel) ⟨rfl, by decide +kernel⟩⟩,
    ⟨(((aw 0 2047 up).putO (awIx 0) Sub.awWin_AW_DATA (padTo 40 (be 16 (2 ^ 126)))).putO (awIx 0) Sub.awWin_AW_MASK
      (List.replicate 40 255)), .firmware, 0, 2047, .range, by decide +kernel⟩,
    ⟨(aw 1 5 ((up.putSecy 0 5 0).putTxsc 0 5 (2^66))), .firmware, 0, 5, by decide +kernel⟩,
    ⟨{ up.putSecy 0 5 0 with asc := { (up.putSecy 0 5 0).asc with deleting := [(0, (0, 5))] } }, 0, 5, 0, by decide +kernel⟩,
    ⟨{ up with asc := { up.asc with keys := [(0, { valid := true })] } }, 0, 0, by decide +kernel⟩,
    ⟨{ up with asc := { up.asc with scrub := [(0, 8191)] } }, 0, 8191, by decide +kernel⟩⟩

theorem witness_TrafficWindowOperates :
    (∃ (s : State) (c : Caller) (sl : Nat), StartsIn s sl c (tmIx sl) Sub.tmWin_TM_OP Sub.tmWin_TM_STATUS 1 ∧
      s.tmIndex sl < tmSize (s.tmTable sl) ∧ ((s.tmTable sl = 0 → s.tmPipe sl = .seal))) ∧
    (∃ (s : State) (c : Caller) (sl : Nat) (mask : _) (e : _),
      StartsIn s sl c (tmIx sl) Sub.tmWin_TM_OP Sub.tmWin_TM_STATUS 2 ∧ s.tmTable sl = 3 ∧
      mask = fld (s.oct (tmIx sl) Sub.tmWin_TM_MASK) 0 8 ∧
      e = maskMerge (s.admAt sl (s.tmPipe sl) (s.tmIndex sl)) (fld (s.oct (tmIx sl) Sub.tmWin_TM_DATA) 0 8) mask ∧
      s.tmCheck sl 3 (s.tmIndex sl) (s.tmPipe sl) (s.admAt sl (s.tmPipe sl) (s.tmIndex sl)) e mask = .ok) ∧
    (∃ (s : State) (c : Caller) (sl : Nat), StartsIn s sl c (tmIx sl) Sub.tmWin_TM_OP Sub.tmWin_TM_STATUS 3 ∧
      s.tmTable sl = 1 ∧ s.tmIndex sl < 1024 ∧ s.tel.held = false) :=
  ⟨⟨(tmw 1 3 (up.putQueue 0 .seal 3 (2 ^ 159))), .firmware, 0, by decide +kernel⟩,
    ⟨(((tmw 3 1023 up).putO (tmIx 0) Sub.tmWin_TM_DATA (padTo 28 (be 8 (2 ^ 34)))).putO (tmIx 0) Sub.tmWin_TM_MASK (padTo 28
      (be 8 (2 ^ 48 - 2 ^ 32)))), .firmware, 0, _, _, meet2 (by decide +kernel) ⟨rfl, rfl, by decide +kernel⟩⟩,
    ⟨(tmw 1 3 up), .firmware, 0, by decide +kernel⟩⟩

theorem witness_TrafficBackgroundWorks :
    (∃ (open_ : Bool) (p : Pipe), p = (if open_ then .open else .seal)) ∧
    (∃ (open_ : Bool) (p : Pipe), p = (if open_ then .open else .seal)) ∧
    (∃ (open_ : Bool) (p : Pipe), p = (if open_ then .open else .seal)) ∧
    (∃ (open_ : Bool) (p : Pipe), p = (if open_ then .open else .seal)) ∧
    (∃ (s : State) (sl : Nat) (open_ : Bool) (p : Pipe) (q : _) (pos : _), p = (if open_ then .open else .seal) ∧
      s.obB (Ix.tm sl 0) Sub.tm_SAMPLE_ENABLE = true ∧ s.gated sl = false ∧ s.dark = false ∧
      mget 0 s.tm.samplePos (pkey sl p 0) = q ∧ mget 0 s.tm.ringPos (pkey sl p 0) = pos ∧ s.heldAt sl p q = []) ∧
    (∃ (s : State) (sl : Nat) (open_ : Bool) (p : Pipe) (f : _) (rest : _), p = (if open_ then .open else .seal) ∧
      mget [] s.tm.leaving (pkey sl p 0) = f :: rest) ∧
    (∃ (s : State) (sl : Nat) (open_ : Bool) (p : Pipe) (i : Nat) (e : _), p = (if open_ then .open else .seal) ∧
      (mget [] s.time.fup (pipeKey sl p))[i]? = some e ∧ s.ob (0x3A80 + sl) Sub.timeSlice_FUP_TIMEOUT_MS ≤ s.fupAge e) ∧
    (∃ (s : State) (sl : Nat) (open_ : Bool) (p : Pipe) (i : Nat) (e : _), p = (if open_ then .open else .seal) ∧
      (mget [] s.time.fup (pipeKey sl p))[i]? = some e ∧ s.fupAge e < s.ob (0x3A80 + sl) Sub.timeSlice_FUP_TIMEOUT_MS) ∧
    (∃ (open_ : Bool) (p : Pipe) (k : _), p = (if open_ then .open else .seal) ∧ k < 8) :=
  ⟨⟨false, _, rfl⟩,
    ⟨true, _, rfl⟩,
    ⟨true, _, rfl⟩,
    ⟨true, _, rfl⟩,
    ⟨(up.put (Ix.tm 0 0) Sub.tm_SAMPLE_ENABLE 1), 0, false, _, _, _, rfl, meet3 (by decide +kernel) ⟨rfl, rfl,
      by decide +kernel⟩⟩,
    ⟨{ up.putAdm 0 .open 0 7 with tm := { (up.putAdm 0 .open 0 7).tm with leaving := [(pkey 0 .open 0, [frame0])] } }, 0,
      true, _, (mget []
      ({ up.putAdm 0 .open 0 7 with tm := { (up.putAdm 0 .open 0 7).tm with leaving := [(pkey 0 .open 0, [frame0])] } } :
      State).tm.leaving (pkey 0 ((if true then .open else .seal)) 0)).head (by decide +kernel),
      (mget [] ({ up.putAdm 0 .open 0 7 with tm := { (up.putAdm 0 .open 0 7).tm with leaving := [(pkey 0 .open 0, [frame0])] } } : State).tm.leaving (pkey 0 ((if true then .open else .seal)) 0)).tail, rfl, by decide +kernel⟩,
    ⟨{ up with time := { up.time with fup := [(1, [⟨false, 0, 0, [], 0, 0, 5⟩])] } }, 0, true, _, 0, ⟨false, 0, 0, [], 0, 0,
      5⟩, rfl, by decide +kernel⟩,
    ⟨{ up with time := { up.time with fup := [(1, [⟨false, 0, 0, [], 0, 0, 10 ^ 12⟩])] } }, 0, true, _, 0, ⟨false, 0, 0, [],
      0, 0, 10 ^ 12⟩, rfl, by decide +kernel⟩,
    ⟨true, _, 0, rfl, by decide +kernel⟩⟩

theorem witness_ClientFramesEnter :
    (∃ (s : State) (c : _) (b : _) (pcs : _) (ctr : _), c < 32 ∧ s.hears c = true ∧ s.nearLoop c = false ∧
      s.farLoop c = false ∧ macCheck (s.maxFrame c) b pcs = (.drop, ctr)) ∧
    (∃ (s : State) (c : _) (b : _) (pcs : _) (ctr : _), c < 32 ∧ s.hears c = true ∧ s.nearLoop c = false ∧
      s.farLoop c = false ∧ macCheck (s.maxFrame c) b pcs = (.control, ctr)) ∧
    (∃ (s : State) (c : _), c < 32 ∧ s.hears c = true ∧ s.nearLoop c = true) ∧
    (∃ (s : State) (c : _) (b : _) (pcs : _) (y : _) (u : _), c < 32 ∧ s.hears c = true ∧ s.nearLoop c = false ∧
      s.farLoop c = false ∧ macCheck (s.maxFrame c) b pcs = (.ok, Ctr.RX_FRAMES) ∧ s.dark = false ∧ s.held = false ∧
      s.ob (pipeIx (c / 8) .seal) Sub.pipe_PIPE_STATE ≠ 3 ∧ s.trackers (c / 8) .seal 0 < 1024 ∧
      s.tagging (c / 8) .seal = false ∧ s.plainClient c = false ∧
      hitchLookup c (outerVid b) (frameDa b) (takeWords (c / 8) .seal 0 (s.cyc (c / 8)) b.length (s.bump (Ctr.port c +
      Ctr.RX_FRAMES))).2 = (some y, u) ∧ u.policerOf c (u.classOf c b) y = none) ∧
    (∃ (s : State) (sl : Nat) (f : _) (rest : _) (q : _) (n : _) (d : _), mget [] s.tm.arriving sl = f :: rest ∧
      f.policer = none ∧ f.bad = 0 ∧ s.ob (tmClientIx f.inPort) Sub.tmClient_SEAL_QUEUE_BASE + f.tc = q ∧ cellsOf f.len = n ∧
      Que.valid (s.queueAt sl .seal q) = true ∧ s.queueNode sl .seal q = f.node ∧
      s.admitClass sl .seal q (f.inPort % 8) f n = (d, 0) ∧ d ≠ 0) ∧
    (∃ (s : State) (m : _) (k : _), k < 8 ∧ (mfind s.lanes.pausing (8 * m + k)).isSome = true ∧
      s.ob (Ix.port m) Sub.port_FLOW_CTRL ≠ 0 ∧ s.portOn m = true ∧ s.forms m = true ∧ s.laneLoop m = 0 ∧
      s.past (Timer.pause (8 * m + k)) (s.quantaNs m (s.ob (Ix.port m) Sub.port_PAUSE_REFRESH)) = true ∧
      ingressPort (sliceOfPort m) (if isLine m then .open else .seal) (m % 8) = m) :=
  ⟨⟨ported, 0, (zeros 60), false, Ctr.RX_RUNT, by decide +kernel⟩,
    ⟨ported, 0, (withFcs (padTo 60 (zeros 12 ++ [0x88, 8]))), false, Ctr.RX_MAC_CTRL, by decide +kernel⟩,
    ⟨(ported.put (Ix.lane 0) Sub.lane_LOOP 1), 0, by decide +kernel⟩,
    ⟨{ (ported.put (hitchPortIx 0) Sub.hitchPort_GROUP_SECY 3) with asc := { ported.asc with secy := [(3, 2 ^ 127)] } }, 0,
      good, false, 3,
      (hitchLookup 0 (outerVid good) (frameDa good) (takeWords (0 / 8) .seal 0
      (({ (ported.put (hitchPortIx 0) Sub.hitchPort_GROUP_SECY 3) with asc := { ported.asc with secy := [(3, 2 ^ 127)] } } :
      State).cyc (0 / 8)) good.length
      (({ (ported.put (hitchPortIx 0) Sub.hitchPort_GROUP_SECY 3) with asc := { ported.asc with secy := [(3, 2 ^ 127)] } } :
      State).bump (Ctr.port 0 + Ctr.RX_FRAMES))).2).2, by decide +kernel⟩,
    ⟨(({ up with tm := { up.tm with arriving := [(0, [frame0])] } }).putQueue 0 .seal 0 (2 ^ 159)).putAdm 0 .seal 0 (2 ^ 32 *
      100), 0, frame0, [], _, _, 2, meet3 (by decide +kernel) ⟨rfl, rfl, by decide +kernel⟩⟩,
    ⟨(({ ported with lanes := { ported.lanes with pausing := [(2, 1)] } } : State).put (Ix.port 0) Sub.port_FLOW_CTRL 2).put
      (Ix.port 0) Sub.port_LINK_STATE 1, 0, 2, by decide +kernel⟩⟩

theorem witness_LineFramesPass :
    (∃ (s : State) (m : _) (b : _) (pcs : _) (ctr : _), 0x40 ≤ m ∧ m < 0x60 ∧ s.hearsAny m = true ∧ s.nearLoop m = false ∧
      s.farLoop m = false ∧ macCheck (s.maxFrame m) b pcs = (.drop, ctr)) ∧
    (∃ (s : State) (sl : Nat) (m : _) (b : _) (pcs : _), 0x40 ≤ m ∧ m < 0x60 ∧ s.hearsAny m = true ∧ s.nearLoop m = false ∧
      s.farLoop m = false ∧ macCheck (s.maxFrame m) b pcs = (.ok, Ctr.RX_FRAMES) ∧ s.dark = false ∧ s.held = false ∧
      sliceOfPort m = sl ∧ s.pipeState sl .open = 0 ∧
      s.trackers sl .open (mget [] s.eng.verify (pipeKey sl .open)).length < 1024 ∧ s.tagging sl .open = false ∧
      s.otnMode sl = 0 ∧ s.excess sl false = false) ∧
    (∃ (s : State) (sl : Nat) (m : _) (b : _) (pcs : _) (overrun : _), 0x40 ≤ m ∧ m < 0x60 ∧ s.hearsAny m = true ∧
      s.nearLoop m = false ∧ s.farLoop m = false ∧ macCheck (s.maxFrame m) b pcs = (.ok, Ctr.RX_FRAMES) ∧ s.dark = false ∧
      s.held = false ∧ sliceOfPort m = sl ∧ s.pipeState sl .open ≠ 3 ∧ s.excess sl overrun = true) ∧
    (∃ (s : State) (sl : Nat) (v : _) (rest : _) (tb : _) (i : _) (n : _),
      mget [] s.eng.verify (pipeKey sl .open) = v :: rest ∧ v.caught = false ∧ v.frm.bad = 0 ∧ v.frm.tag = none ∧
      v.plan = .dropAssoc tb i n) ∧
    (∃ (s : State) (sl : Nat) (v : _) (rest : _) (r : _) (y : _) (k : _),
      mget [] s.eng.verify (pipeKey sl .open) = v :: rest ∧ v.caught = false ∧ v.frm.bad = 0 ∧ v.plan = .verified r y ∧
      v.frm.sa = some k ∧ s.stale sl v k = false ∧ Sa.valid (s.saAt sl k) = true ∧ Sa.nextPn (s.saAt sl k) ≤ v.frm.pn ∧
      v.frm.pn ≠ Sa.highest (s.saAt sl k) ∧ Sa.threshHit (s.saAt sl k) = true) ∧
    (∃ (s : State) (sl : Nat) (f : _) (u : _), Serves s sl .open (mget [] s.eng.verify (pipeKey sl .open)).length f u ∧
      s.shadow = false ∧ s.clientFault f.outPort = false ∧ f.tag = none) ∧
    (∃ (s : State) (sl : Nat) (e : _) (c : _), s.egressAt sl .open = [e] ∧ e.frm.tag = none ∧ e.cut = none ∧
      e.enter + e.words ≤ c ∧ ((e.todo = false ∨ e.frm.plain = true ∨ ptpAt e.frm.bytes = none)) ∧
      s.forms e.frm.outPort = true ∧ s.laneLoop e.frm.outPort = 0) ∧
    (∃ (s : State) (sl : Nat) (f : _) (u : _), Serves s sl .seal 0 f u ∧ s.shadow = false ∧ s.plainOk sl f.node = true ∧
      f.plain = true ∧ f.tag = none) ∧
    (∃ (s : State) (sl : Nat) (e : _) (c : _), s.egressAt sl .seal = [e] ∧ e.frm.tag = none ∧ e.cut = none ∧ e.equal = [] ∧
      e.wrong = [] ∧ e.count = none ∧ e.enter + e.words ≤ c ∧ s.plainOk sl e.frm.node = true) :=
  ⟨⟨ported, 0x40, (zeros 3), false, Ctr.RX_RUNT, by decide +kernel⟩,
    ⟨ported, 0, 0x40, good, false, by decide +kernel⟩,
    ⟨{ ported with eng := { ported.eng with seats := [(2 * pipeKey 0 .open, { word := 5, next := 1 })] } }, 0, 0x40, good,
      false, true, by decide +kernel⟩,
    ⟨(verifying (entry (.dropAssoc 5 0 2) none) up), 0,
      (mget [] ((verifying (entry (.dropAssoc 5 0 2) none) up)).eng.verify (pipeKey 0 .open)).head (by decide +kernel),
      (mget [] ((verifying (entry (.dropAssoc 5 0 2) none) up)).eng.verify (pipeKey 0 .open)).tail, 5, 0, 2,
      by decide +kernel⟩,
    ⟨((verifying (entry (.verified 0 0) (some 4)) up).putSa 0 4 (2 ^ 319 + 2 ^ 313 + 2 ^ 192)), 0,
      (mget [] (((verifying (entry (.verified 0 0) (some 4)) up).putSa 0 4 (2 ^ 319 + 2 ^ 313 + 2 ^ 192))).eng.verify (pipeKey
      0 .open)).head (by decide +kernel),
      (mget [] (((verifying (entry (.verified 0 0) (some 4)) up).putSa 0 4 (2 ^ 319 + 2 ^ 313 + 2 ^ 192))).eng.verify (pipeKey
      0 .open)).tail, 0, 0, _, meet4 (by decide +kernel) ⟨of_some (by decide +kernel), by decide +kernel⟩⟩,
    ⟨(queued .open [frame0] ported), 0, (sv ((queued .open [frame0] ported)) 0 .open).1,
      (sv ((queued .open [frame0] ported)) 0 .open).2, ⟨0, by decide +kernel⟩, by decide +kernel⟩,
    ⟨(ported.putEgress 0 .open [leaving0]), 0, leaving0, 200, by decide +kernel⟩,
    ⟨plainUp, 0, (sv plainUp 0 .seal).1, (sv plainUp 0 .seal).2, ⟨0, by decide +kernel⟩, by decide +kernel⟩,
    ⟨(plainUp.putEgress 0 .seal [{ leaving0 with enter := 384 }]), 0, { leaving0 with enter := 384 }, 385, by decide +kernel⟩⟩

theorem witness_SealedFrameLeavesTheLine :
    (∃ (s : State) (u : State) (sl : Nat) (i : Nat) (y : Nat) (k : Nat) (pn : Nat) (f : Machine.Frm) (l : Layout) (key :
      KeyEntry) (iv : Bytes), Serves s sl .seal 0 f u ∧ s.shadow = false ∧ s.lineFault sl f.node = false ∧ f.plain = false ∧
      ptpAt f.bytes = none ∧ f.tag = none ∧ f.secy = some i ∧ s.secyAt sl i = some y ∧ s.secyOn sl i = true ∧
      txSlot (s.txscAt sl i) (Txsc.encodingAn (s.txscAt sl i)) = some k ∧ s.saBadAt sl k = false ∧ s.saValid sl k = true ∧
      Sa.inUse (s.saAt sl k) = true ∧ Sa.exhausted (s.saAt sl k) = false ∧ Sa.nextPn (s.saAt sl k) = pn ∧
      pn ≠ Sa.highest (s.saAt sl k) ∧ Sa.threshHit (s.saAt sl k) = true ∧ s.sakLive sl (Sa.handle (s.saAt sl k)) = true ∧
      key = s.keyAt sl (handleIndex (Sa.handle (s.saAt sl k))) ∧
      l = layoutSeal y (Txsc.encodingAn (s.txscAt sl i)) pn f.ptp f.bytes ∧ iv = ivOf y (s.saAt sl k) (Secy.sci y) pn ∧
      equalBlocks (keystream key.octets iv 0 ((l.p.length + 15) / 16)) = []) ∧
    (∃ (s : State) (sl : Nat) (c : Nat) (k : Nat) (n : Nat) (e : Egress), s.egressAt sl .seal = [e] ∧ s.otnMode sl = 0 ∧
      e.frm.tag = none ∧ e.cut = none ∧ e.equal = [] ∧ e.wrong = [] ∧ e.frm.plain = false ∧ e.enter + e.words ≤ c ∧
      e.count = some (k, n) ∧ s.forms (0x40 + 8 * sl + e.frm.node) = true ∧ s.laneLoop (0x40 + 8 * sl + e.frm.node) = 0) ∧
    (∃ (s : State) (sl : Nat) (c : Nat) (b : Nat) (e : Egress), s.egressAt sl .seal = [e] ∧ e.cut = none ∧ e.equal = [b] ∧
      e.wrong = [] ∧ e.start + 255 + b / 8 < c ∧ c < e.enter + e.words ∧ e.frm.tag = none ∧ s.pipeState sl .seal = 0 ∧
      s.otnMode sl = 0) :=
  ⟨⟨sealing, (sv sealing 0 .seal).2, 0, 0, _, _, _, (sv sealing 0 .seal).1, _, _, _, ⟨0, by decide +kernel⟩,
      meet6 (by decide +kernel) ⟨of_some (by decide +kernel), by decide +kernel, of_some (by decide +kernel),
      meet4 (by decide +kernel) ⟨rfl, meet3 (by decide +kernel) ⟨rfl, rfl, rfl, by decide +kernel⟩⟩⟩⟩,
    ⟨(ported.putEgress 0 .seal [{ leaving0 with enter := 384, count := some (4, 46) }]), 0, 385, 4, 46,
      { leaving0 with enter := 384, count := some (4, 46) }, by decide +kernel⟩,
    ⟨(ported.putEgress 0 .seal [{ leaving0 with enter := 384, equal := [3] }]), 0, 300, 3,
      { leaving0 with enter := 384, equal := [3] }, by decide +kernel⟩⟩

theorem witness_CoreChecksRun :
    (∃ (s : State) (sl : Nat) (open_ : Bool) (p : Pipe) (pos : _) (c : _), p = pipeOf open_ ∧ sl < 4 ∧ s.sliceRuns sl = true ∧
      s.pipeState sl p = 0 ∧ (s.roles sl p).contains 8 = true ∧ s.auditCycle sl pos = some c) ∧
    (∃ (s : State) (sl : Nat) (open_ : Bool) (p : Pipe) (pos : _), p = pipeOf open_ ∧ sl < 4 ∧
      ((s.sliceRuns sl = false ∨ s.pipeState sl p ≠ 0 ∨ s.auditCycle sl pos = none))) ∧
    (∃ (s : State) (sl : Nat) (open_ : Bool) (p : Pipe) (c : _), p = pipeOf open_ ∧ sl < 4 ∧ s.checkAt sl p = some c ∧
      c.retest = false ∧ c.pos < 8 ∧ (s.roles sl p).contains 8 = true ∧ mget [] s.eng.queue (pipeKey sl p) = []) ∧
    (∃ (s : State) (sl : Nat) (open_ : Bool) (p : Pipe) (c : _), p = pipeOf open_ ∧ sl < 4 ∧ s.checkAt sl p = some c ∧
      c.retest = false ∧ s.transientAgain sl p c.pos = false ∧ (s.roles sl p).contains 8 = true ∧
      mget [] s.eng.queue (pipeKey sl p) = []) ∧
    (∃ (s : State) (sl : Nat) (open_ : Bool) (p : Pipe) (c : _), p = pipeOf open_ ∧ sl < 4 ∧
      Accepted s c (pipeIx sl p) Sub.pipe_CORE_RETEST 1 ∧ s.ob (pipeIx sl p) Sub.pipe_RETEST_STATUS ≠ 1 ∧
      s.pipeState sl p = 2) ∧
    (∃ (s : State) (sl : Nat) (open_ : Bool) (p : Pipe) (c : _), p = pipeOf open_ ∧ sl < 4 ∧
      Accepted s c (pipeIx sl p) Sub.pipe_CORE_RETEST 1 ∧ s.ob (pipeIx sl p) Sub.pipe_RETEST_STATUS = 1) ∧
    (∃ (s : State) (sl : Nat) (open_ : Bool) (p : Pipe) (c : _) (mask : _), p = pipeOf open_ ∧ sl < 4 ∧
      s.checkAt sl p = some c ∧ c.retest = true ∧ c.whole = true ∧ 8 ≤ passing mask ∧
      mget [] s.eng.queue (pipeKey sl p) = []) :=
  ⟨⟨cored, 0, false, .seal, 7, 7, by decide +kernel⟩,
    ⟨cored, 3, true, .open, 0, by decide +kernel⟩,
    ⟨(checking { pos := 7 }), 0, false, .seal, _, meet2 (by decide +kernel) ⟨of_some (by decide +kernel), by decide +kernel⟩⟩,
    ⟨(checking { pos := 0 }), 0, false, .seal, _, meet2 (by decide +kernel) ⟨of_some (by decide +kernel), by decide +kernel⟩⟩,
    ⟨(cored.setPipe 0 .open 2), 0, true, .open, .firmware, by decide +kernel⟩,
    ⟨(cored.put (pipeIx 0 .open) Sub.pipe_RETEST_STATUS 1), 0, true, .open, .firmware, by decide +kernel⟩,
    ⟨(checking { retest := true, whole := true }), 0, false, .seal, _, 0x1FF,
      meet2 (by decide +kernel) ⟨of_some (by decide +kernel), by decide +kernel⟩⟩⟩

theorem witness_CuesSwitchKeys :
    (∃ (s : State) (c : Caller) (sl : Nat) (i : Nat), StartsIn s sl c (cwIx sl) Sub.cwWin_CW_OP Sub.cwWin_CW_STATUS 1 ∧
      s.cwTable sl = 0 ∧ s.cwIndex sl = i ∧ i < 2048) ∧
    (∃ (s : State) (c : Caller) (sl : Nat) (i : Nat) (img : _),
      StartsIn s sl c (cwIx sl) Sub.cwWin_CW_OP Sub.cwWin_CW_STATUS 2 ∧ s.cwTable sl = 0 ∧ s.cwIndex sl = i ∧ i < 2048 ∧
      img = fld (s.oct (cwIx sl) Sub.cwWin_CW_DATA) 0 20 ∧ Cue.state (s.cueAt sl i) ≠ 1 ∧ Cue.state (s.cueAt sl i) ≠ 2 ∧
      (s.secyAt sl i).isSome = true ∧ Cue.trigger img = 0 ∧ Cue.nextAn img ≠ Txsc.encodingAn (s.txscAt sl i)) ∧
    (∃ (s : State) (c : Caller) (sl : Nat) (i : Nat), StartsIn s sl c (cwIx sl) Sub.cwWin_CW_OP Sub.cwWin_CW_STATUS 2 ∧
      s.cwTable sl = 0 ∧ s.cwIndex sl = i ∧ i < 2048 ∧ ((Cue.state (s.cueAt sl i) = 1 ∨ Cue.state (s.cueAt sl i) = 2))) ∧
    (∃ (s : State) (c : Caller) (sl : Nat) (i : Nat), StartsIn s sl c (cwIx sl) Sub.cwWin_CW_OP Sub.cwWin_CW_STATUS 3 ∧
      s.cwTable sl = 0 ∧ s.cwIndex sl = i ∧ i < 2048 ∧ ((Cue.state (s.cueAt sl i) = 1 ∨ Cue.state (s.cueAt sl i) = 2))) ∧
    (∃ (s : State) (c : Caller) (sl : Nat) (i : Nat), StartsIn s sl c (cwIx sl) Sub.cwWin_CW_OP Sub.cwWin_CW_STATUS 4 ∧
      s.cwTable sl = 0 ∧ s.cwIndex sl = i ∧ i < 2048 ∧ ((Cue.state (s.cueAt sl i) = 1 ∨ Cue.state (s.cueAt sl i) = 2))) ∧
    (∃ (s : State) (sl : Nat) (i : Nat) (q : _), s.cueAt sl i = q ∧ Cue.state q = 1 ∧ Cue.trigger q = 2 ∧
      reached s.ns (Cue.time q) = true ∧ s.shadow = false ∧ s.sliceRuns sl = true ∧
      (s.putCue sl i (Cue.setState q 2)).cueReady sl i = true) ∧
    (∃ (s : State) (sl : Nat) (i : Nat) (j : _) (q : _) (sc : _) (new : _), s.shadow = false ∧ s.sliceRuns sl = true ∧
      s.cuesOf sl = [i] ∧ s.cueAt sl i = q ∧ Cue.state q = 2 ∧ s.cueReady sl i = true ∧
      s.commitsIn sl (s.cyc sl + j % cyclesPer8 (s.pointOf sl)) < 4 ∧ s.txscAt sl i = sc ∧
      Txsc.slot sc (Cue.nextAn q) % 2 ^ 14 = new ∧ txSlot sc (Txsc.encodingAn sc) ≠ some new) ∧
    (∃ (s : State) (sl : Nat) (i : Nat) (j : _), s.shadow = false ∧ s.sliceRuns sl = true ∧ s.cuesOf sl = [i] ∧
      Cue.state (s.cueAt sl i) = 2 ∧ s.cueReady sl i = true ∧ 4 ≤ s.commitsIn sl (s.cyc sl + j % cyclesPer8 (s.pointOf sl))) ∧
    (∃ (s : State) (sl : Nat) (i : Nat) (w : _) (k : _), s.watchAt sl i = w ∧ Watch.state w = 2 ∧
      rxSlot (s.rxscAt sl i) (Watch.oldAn w) = some k ∧ s.saValid sl k = true ∧
      s.past (Timer.retire sl i) (1000000 * s.retireMs sl i) = true) ∧
    (∃ (s : State) (sl : Nat) (i : Nat), s.past (Timer.retire sl i) (1000000 * s.retireMs sl i) = false) :=
  ⟨⟨(cw 2047 up), .firmware, 0, 2047, by decide +kernel⟩,
    ⟨((cw 0 (cueing 0 0)).putO (cwIx 0) Sub.cwWin_CW_DATA (padTo 32 (be 20 (2 ^ 153)))), .firmware, 0, 0, _,
      meet4 (by decide +kernel) ⟨rfl, by decide +kernel⟩⟩,
    ⟨(cw 0 (cueing 1 0)), .firmware, 0, 0, by decide +kernel⟩,
    ⟨(cw 0 (cueing 2 0)), .firmware, 0, 0, by decide +kernel⟩,
    ⟨(cw 0 (cueing 1 0)), .firmware, 0, 0, by decide +kernel⟩,
    ⟨(cueing 1 2), 0, 0, _, rfl, by decide +kernel⟩,
    ⟨(cueing 2 0), 0, 0, 0, _, _, _, meet3 (by decide +kernel) ⟨rfl, meet3 (by decide +kernel) ⟨rfl, rfl,
      by decide +kernel⟩⟩⟩,
    ⟨{ cueing 2 0 with cue := { (cueing 2 0).cue with commits := [(0, [1, 1, 1, 1])] } }, 0, 0, 1, by decide +kernel⟩,
    ⟨((({ up with cue := { up.cue with watch := [(skey 0 3, 2 ^ 63)] } }).putRxsc 0 3 (2 ^ 159 + 2 ^ 155 + 2 ^ 48 * 4)).putSa
      0 4 (2 ^ 319 + 2 ^ 317)), 0, 3, _, 4, rfl, by decide +kernel⟩,
    ⟨{ up with time := { up.time with periods := 0 } }, 0, 3, by decide +kernel⟩⟩

theorem witness_OtnFramesAndDefects :
    (∃ (s : State) (sl : Nat) (i : Nat) (f : OduFrame) (v : FrameLevel) (p : _) (m : _), s.otnMode sl ≠ 0 ∧
      s.sliceHears sl = true ∧ s.groupHears sl = true ∧ (∀ j ∈ s.levelLanes sl i, s.laneTurns (0x40 + 8 * sl + j) = false) ∧
      s.levelAt sl i = v ∧ ((i < 8 ∧ i < s.otnN sl ∧ s.deskewed sl i = true ∨ 8 ≤ i ∧ i < 16 ∧ s.tribOn sl (i - 8) = true)) ∧
      f.gid = none ∧ v.pos = none ∧ v.cands = [(p, m, 2)] ∧ f.hits = [(p, (m + 1) % 256)]) ∧
    (∃ (s : State) (sl : Nat) (i : Nat) (f : OduFrame) (v : FrameLevel) (p : _) (m : _), s.otnMode sl ≠ 0 ∧
      s.sliceHears sl = true ∧ s.groupHears sl = true ∧ (∀ j ∈ s.levelLanes sl i, s.laneTurns (0x40 + 8 * sl + j) = false) ∧
      s.levelAt sl i = v ∧ ((i < 8 ∧ i < s.otnN sl ∧ s.deskewed sl i = true ∨ 8 ≤ i ∧ i < 16 ∧ s.tribOn sl (i - 8) = true)) ∧
      f.gid = none ∧ v.pos = none ∧ v.cands.length = 8 ∧ (∀ c ∈ v.cands, p < c.1) ∧ f.hits = [(p, m)]) ∧
    (∃ (s : State) (sl : Nat) (i : Nat) (f : OduFrame) (v : FrameLevel) (p : _), s.otnMode sl ≠ 0 ∧ s.sliceHears sl = true ∧
      s.groupHears sl = true ∧ (∀ j ∈ s.levelLanes sl i, s.laneTurns (0x40 + 8 * sl + j) = false) ∧ s.levelAt sl i = v ∧
      ((i < 8 ∧ i < s.otnN sl ∧ s.deskewed sl i = true ∨ 8 ≤ i ∧ i < 16 ∧ s.tribOn sl (i - 8) = true)) ∧ f.gid = none ∧
      v.pos = some p ∧ v.fasBad = 4 ∧ (∀ h ∈ f.hits, h.1 ≠ p)) ∧
    (∃ (s : State) (sl : Nat) (lane : _), sl < 4 ∧ s.sliceHears sl = true ∧ s.rxEffective (0x40 + (8 * sl + lane)) = 2 ∧
      s.laneTurns (0x40 + (8 * sl + lane)) = false ∧ 8 * sl + lane ∉ s.otn.locked) ∧
    (∃ (s : State) (sl : Nat) (lane : _), sl < 4 ∧ ((s.sliceHears sl = false ∨ s.rxEffective (0x40 + (8 * sl + lane)) ≠ 2))) ∧
    (∃ (s : State) (sl : Nat) (lane : _) (n : _), sl < 4 ∧ s.sliceHears sl = true ∧
      s.rxEffective (0x40 + (8 * sl + lane)) = 2 ∧ 8 * sl + lane ∉ s.otn.locked ∧ mget [] s.otn.heads (8 * sl + lane) = [] ∧
      n < 64) ∧
    (∃ (s : State) (sl : Nat) (lane : _), sl < 4 ∧ s.sliceHears sl = true ∧ s.rxEffective (0x40 + (8 * sl + lane)) = 2 ∧
      s.laneTurns (0x40 + (8 * sl + lane)) = false ∧ s.otnMode sl ≠ 0 ∧ lane ∈ s.carrierLanes sl ∧
      8 * sl + lane ∈ s.otn.locked) ∧
    (∃ (s : State) (sl : Nat) (b : _), sl < 4 ∧ s.otnMode sl ≠ 0 ∧ s.sliceHears sl = true ∧
      s.persists sl none b true = true) ∧
    (∃ (s : State) (sl : Nat) (b : _), sl < 4 ∧ s.otnMode sl ≠ 0 ∧ s.sliceHears sl = true ∧
      s.persists sl none b false = true) ∧
    (∃ (s : State) (sl : Nat) (k : _) (b : _), sl < 4 ∧ k < 8 ∧ s.otnMode sl ≠ 0 ∧ s.sliceHears sl = true ∧
      s.persists sl (some k) b true = true) ∧
    (∃ (s : State) (sl : Nat) (k : _) (b : _), sl < 4 ∧ k < 8 ∧ s.otnMode sl ≠ 0 ∧ s.sliceHears sl = true ∧
      s.persists sl (some k) b false = true) :=
  ⟨⟨(levelled 8 { cands := [(5, 255, 2)] }), 0, 8, { hits := [(5, 0)] }, _, 5, 255, meet4 (by decide +kernel) ⟨rfl,
      by decide +kernel⟩⟩,
    ⟨(levelled 0 { cands := (List.range 8).map (fun k => (100 + k, 0, 1)) }), 0, 0, { hits := [(5, 9)] }, _, 5, 9,
      meet4 (by decide +kernel) ⟨rfl, by decide +kernel⟩⟩,
    ⟨(levelled 0 { pos := some 5, fasBad := 4 }), 0, 0, { hits := [(6, 9)] }, _, 5, meet4 (by decide +kernel) ⟨rfl,
      by decide +kernel⟩⟩,
    ⟨otn, 0, 3, by decide +kernel⟩,
    ⟨(otn.put (Ix.lane 0x43) Sub.lane_RX_STATE 1), 0, 3, by decide +kernel⟩,
    ⟨otn, 0, 3, 63, by decide +kernel⟩,
    ⟨{ otn.put (Ix.lane 0x40) Sub.lane_RATE 4 with otn := { otn.otn with locked := [0] } }, 0, 0, by decide +kernel⟩,
    ⟨otn, 0, 0, by decide +kernel⟩,
    ⟨((levelled 0 { gidGood := 3 }).put (Ix.otn 0 0) Sub.otn_DEFECTS 2), 0, 1, by decide +kernel⟩,
    ⟨otn, 0, 0, 0, by decide +kernel⟩,
    ⟨(otn.put (tribIx 0 0) Sub.trib_DEFECTS 0x202), 0, 0, 1, by decide +kernel⟩⟩

theorem witness_TimePinsWork :
    (∃ (s : State), s.seconds ≠ s.otn.second) ∧
    (∃ (s : State), s.seconds = s.otn.second) ∧
    (∃ (s : State), s.ob 0x3A01 Sub.pps_PPS_OUT_WIDTH_NS * 2 ^ 32 ≤ s.time.ppsHigh + 5 * s.time.incr) ∧
    (∃ (s : State), s.time.ppsHigh + 5 * s.time.incr < s.ob 0x3A01 Sub.pps_PPS_OUT_WIDTH_NS * 2 ^ 32) ∧
    (∃ (s : State) (falling : _) (lag : _) (cap : _), s.obB 0x3A01 Sub.pps_PPS_IN_ENABLE = true ∧
      s.obB 0x3A01 Sub.pps_PPS_IN_EDGE = falling ∧
      cap = timePlus (timeMinus s.time.now (lag * 2 ^ 24)) (-(s.obInt 4 0x3A01 Sub.pps_PPS_IN_DELAY_NS)) / 2 ^ 24 * 2 ^ 24 ∧
      s.time.lastPps = none) ∧
    (∃ (s : State) (falling : _) (lag : _) (cap : _) (p : _), s.obB 0x3A01 Sub.pps_PPS_IN_ENABLE = true ∧
      s.obB 0x3A01 Sub.pps_PPS_IN_EDGE = falling ∧
      cap = timePlus (timeMinus s.time.now (lag * 2 ^ 24)) (-(s.obInt 4 0x3A01 Sub.pps_PPS_IN_DELAY_NS)) / 2 ^ 24 * 2 ^ 24 ∧
      s.time.lastPps = some p ∧ 0 ≤ timeDiff cap p ∧ timeDiff cap p < 500000000 * 2 ^ 32) ∧
    (∃ (s : State) (falling : _), s.obB 0x3A01 Sub.pps_PPS_IN_EDGE ≠ falling) ∧
    (∃ (s : State) (m : _), m < 0x60 ∧ s.ob 0x3A02 Sub.syncE_SYNCE_SRC = m ∧ s.rxEffective m = 2) ∧
    (∃ (s : State) (m : _), m < 0x60 ∧ s.rxEffective m ≠ 2) ∧
    (∃ (s : State) (m : _) (b : _), m < 0x60 ∧ s.ob 0x3A02 Sub.syncE_SYNCE_SRC = m ∧
      s.ob 0x3A02 Sub.syncE_SYNCE_SRC_BACKUP = b ∧ b ≠ m ∧ s.laneLocked b = true) ∧
    (∃ (s : State) (m : _), m < 0x60 ∧ s.ob 0x3A02 Sub.syncE_SYNCE_SRC = m ∧ s.ob 0x3A02 Sub.syncE_SYNCE_SRC_BACKUP = 0xFF ∧
      s.obB 0x3A02 Sub.syncE_SYNCE_SQUELCH = true) :=
  ⟨⟨{ otn with time := { otn.time with now := 5 * 10 ^ 9 * 2 ^ 32 } }, by decide +kernel⟩,
    ⟨up, by decide +kernel⟩,
    ⟨{ up with time := { up.time with ppsOut := true, ppsHigh := 10 ^ 20 } }, by decide +kernel⟩,
    ⟨{ up with time := { up.time with ppsOut := true } }, by decide +kernel⟩,
    ⟨(up.put 0x3A01 Sub.pps_PPS_IN_ENABLE 1), _, 0, _, by decide +kernel, rfl, rfl, by decide +kernel⟩,
    ⟨{ up.put 0x3A01 Sub.pps_PPS_IN_ENABLE 1 with time := { up.time with lastPps := some 0 } }, _, 0, _, _, by decide +kernel,
      rfl, rfl, of_some (by decide +kernel), by decide +kernel⟩,
    ⟨up, true, by decide +kernel⟩,
    ⟨((up.put 0x3A02 Sub.syncE_SYNCE_SRC 0x40).put (Ix.lane 0x40) Sub.lane_RX_STATE 2), 0x40, by decide +kernel⟩,
    ⟨(up.put (Ix.lane 0x5F) Sub.lane_RX_STATE 1), 0x5F, by decide +kernel⟩,
    ⟨(((up.put 0x3A02 Sub.syncE_SYNCE_SRC 0x40).put 0x3A02 Sub.syncE_SYNCE_SRC_BACKUP 0).put (Ix.lane 0) Sub.lane_CDR_LOCK
      1).put (Ix.lane 0) Sub.lane_LOS 0, 0x40, _, meet2 (by decide +kernel) ⟨rfl, by decide +kernel⟩⟩,
    ⟨((up.put 0x3A02 Sub.syncE_SYNCE_SRC 0x40).put 0x3A02 Sub.syncE_SYNCE_SQUELCH 1), 0x40, by decide +kernel⟩⟩

theorem witness_TributariesStartAndStop :
    (∃ (s : State) (c : Caller) (sl : Nat) (k : Nat), sl < 4 ∧ k < 8 ∧ Accepted s c (tribIx sl k) Sub.trib_TRIB_ENABLE 1 ∧
      s.tribOn sl k = false ∧ mfind s.otn.cmWait sl = none ∧ s.blockHeld 3 sl = false ∧ s.blockHeld 0 sl = false ∧
      s.gated sl = false ∧ s.tribCheck false sl k = true) ∧
    (∃ (s : State) (c : Caller) (sl : Nat) (k : Nat), sl < 4 ∧ k < 8 ∧ Accepted s c (tribIx sl k) Sub.trib_TRIB_ENABLE 1 ∧
      s.tribOn sl k = false ∧ mfind s.otn.cmWait sl = none ∧ s.blockHeld 3 sl = false ∧ s.blockHeld 0 sl = false ∧
      s.gated sl = false ∧ s.tribCheck false sl k = false) ∧
    (∃ (s : State) (c : Caller) (sl : Nat) (k : Nat), sl < 4 ∧ k < 8 ∧ Accepted s c (tribIx sl k) Sub.trib_TRIB_ENABLE 0 ∧
      s.tribOn sl k = true ∧ Cue.state (s.tribCueAt sl k) ≠ 3) ∧
    (∃ (s : State) (c : Caller) (sl : Nat) (k : Nat), sl < 4 ∧ k < 8 ∧ Accepted s c (tribIx sl k) Sub.trib_TRIB_ENABLE 0 ∧
      s.tribOn sl k = true ∧ Cue.state (s.tribCueAt sl k) = 3) :=
  ⟨⟨((otn.put (tribIx 0 0) Sub.trib_TRIB_MODE 0).put (tribIx 0 0) Sub.trib_TRIB_ENABLE 0), .firmware, 0, 0,
      by decide +kernel⟩,
    ⟨(otn.put (tribIx 0 0) Sub.trib_TRIB_ENABLE 0), .firmware, 0, 0, by decide +kernel⟩,
    ⟨otn, .firmware, 0, 0, by decide +kernel⟩,
    ⟨(otn.putTribCue 0 0 (3 * 2 ^ 157)), .firmware, 0, 0, by decide +kernel⟩⟩

theorem witness_SealedMultiframesPass :
    (∃ (s : State) (sl : Nat) (k : Nat), s.tribOn sl k = true ∧ s.sliceRuns sl = true ∧ s.blockHeld 3 sl = false ∧
      s.standby = false ∧ s.held = false ∧ s.ob (tribIx sl k) Sub.trib_TRIB_MODE = 0) ∧
    (∃ (s : State) (sl : Nat) (k : Nat), s.tribOn sl k = true ∧ s.sliceRuns sl = true ∧ s.blockHeld 3 sl = false ∧
      s.standby = false ∧ s.held = true ∧ s.ob (tribIx sl k) Sub.trib_TRIB_MODE = 0) ∧
    (∃ (s : State) (sl : Nat) (k : Nat) (jc : Nat) (ph : _) (q : _) (key : _) (h : MfHeader) (payload : _),
      s.tribOn sl k = true ∧ s.sliceRuns sl = true ∧ s.blockHeld 3 sl = false ∧ s.standby = false ∧ s.held = false ∧
      payload = (s.mapOpu sl k jc).1 ∧ s.ob (tribIx sl k) Sub.trib_TRIB_MODE ≠ 0 ∧ s.shadow = false ∧
      s.ob (soduIx sl k) Sub.sodu_TX_PHASE = ph ∧ s.tribCueAt sl k = q ∧ Cue.state q ≠ 3 ∧
      s.cue.faulted.contains (skey sl k) = false ∧ s.otn.begun.contains (skey sl k) = true ∧
      s.oduLive sl (s.txKey sl k ph) = true ∧ key = s.keyAt sl (handleIndex (s.txKey sl k ph)) ∧
      h = ⟨if s.otn.taken.contains (skey sl k) then s.ob (soduIx sl k) Sub.sodu_TX_MFN else (s.ob (soduIx sl k)
      Sub.sodu_TX_MFN + 1) % 2 ^ 64, ph, s.txIndex sl k ph, s.epochWord sl k ph⟩) ∧
    (∃ (s : State) (sl : Nat) (k : Nat) (h : MfHeader) (key : _), sl < 4 ∧ k < 8 ∧ s.tribOn sl k = true ∧
      s.sliceHears sl = true ∧ s.groupHears sl = true ∧ s.nearLoop (0x40 + 8 * sl + k) = false ∧ s.blockHeld 3 sl = false ∧
      s.ob (tribIx sl k) Sub.trib_TRIB_MODE ≠ 0 ∧ (s.rxAt sl k).due = none ∧ s.ob (soduIx sl k) Sub.sodu_RX_STATE = 2 ∧
      (s.rxAt sl k).head = some h ∧ s.oduLive sl (s.rxKey sl k h.phase) = true ∧
      key = s.keyAt sl (handleIndex (s.rxKey sl k h.phase)) ∧ s.tsf sl k = false) ∧
    (∃ (s : State) (sl : Nat) (k : Nat), sl < 4 ∧ k < 8 ∧ s.tribOn sl k = true ∧ s.sliceHears sl = true ∧
      s.groupHears sl = true ∧ s.nearLoop (0x40 + 8 * sl + k) = false ∧ s.blockHeld 3 sl = false ∧
      s.ob (tribIx sl k) Sub.trib_TRIB_MODE ≠ 0 ∧ (s.rxAt sl k).due = none ∧ s.ob (soduIx sl k) Sub.sodu_RX_STATE ≠ 2) ∧
    (∃ (s : State) (sl : Nat) (k : Nat) (oh : Bytes) (h : MfHeader) (tag : _), sl < 4 ∧ k < 8 ∧ s.tribOn sl k = true ∧
      s.sliceHears sl = true ∧ s.groupHears sl = true ∧ s.nearLoop (0x40 + 8 * sl + k) = false ∧ (s.rxAt sl k).due = some (h,
      tag) ∧ sdwRange oh 0 8 = some tag) ∧
    (∃ (s : State) (sl : Nat) (k : Nat) (oh : Bytes) (h : MfHeader) (tag : _) (b : _), sl < 4 ∧ k < 8 ∧ s.tribOn sl k = true ∧
      s.sliceHears sl = true ∧ s.groupHears sl = true ∧ s.nearLoop (0x40 + 8 * sl + k) = false ∧ (s.rxAt sl k).due = some (h,
      tag) ∧ sdwRange oh 0 8 = some b ∧ b ≠ tag) :=
  ⟨⟨(otn.put (tribIx 0 0) Sub.trib_TRIB_MODE 0), 0, 0, by decide +kernel⟩,
    ⟨latched 2 (otn.put (tribIx 0 0) Sub.trib_TRIB_MODE 0), 0, 0, by decide +kernel⟩,
    ⟨sealedOdu, 0, 0, 5, _, _, _, _, _, meet5 (by decide +kernel) ⟨rfl, meet2 (by decide +kernel) ⟨rfl, rfl,
      meet4 (by decide +kernel) ⟨rfl, rfl⟩⟩⟩⟩,
    ⟨((sealedOdu.putRx 0 0 { head := some hd }).put (soduIx 0 0) Sub.sodu_RX_STATE 2), 0, 0, _, _,
      meet10 (by decide +kernel) ⟨of_some (by decide +kernel), by decide +kernel, rfl, by decide +kernel⟩⟩,
    ⟨sealedOdu, 0, 0, by decide +kernel⟩,
    ⟨(sealedOdu.putRx 0 0 { head := some hd, due := some (hd, List.replicate 16 7) }), 0, 0,
      (sealOverhead 0 0 0 (List.replicate 16 7) hd),
      (((((sealedOdu.putRx 0 0 { head := some hd, due := some (hd, List.replicate 16 7) })).rxAt 0 0).due).get
      (by decide +kernel)).1,
      (((((sealedOdu.putRx 0 0 { head := some hd, due := some (hd, List.replicate 16 7) })).rxAt 0 0).due).get
      (by decide +kernel)).2, by decide +kernel⟩,
    ⟨(sealedOdu.putRx 0 0 { head := some hd, due := some (hd, List.replicate 16 8) }), 0, 0,
      (sealOverhead 0 0 0 (List.replicate 16 7) hd),
      (((((sealedOdu.putRx 0 0 { head := some hd, due := some (hd, List.replicate 16 8) })).rxAt 0 0).due).get
      (by decide +kernel)).1,
      (((((sealedOdu.putRx 0 0 { head := some hd, due := some (hd, List.replicate 16 8) })).rxAt 0 0).due).get
      (by decide +kernel)).2, _, meet7 (by decide +kernel) ⟨of_some (by decide +kernel), by decide +kernel⟩⟩⟩

theorem witness_ConnectionMemoryWorks :
    (∃ (s : State) (c : Caller) (sl : Nat) (dir : Nat) (page : Nat) (slot : Nat) (e : Nat),
      s.ob (cmIx sl) Sub.cmWin_CM_DIR = dir ∧ s.ob (cmIx sl) Sub.cmWin_CM_PAGE = page ∧
      s.ob (cmIx sl) Sub.cmWin_CM_SLOT = slot ∧ s.ob (cmIx sl) Sub.cmWin_CM_ENTRY = e ∧
      StartsIn s sl c (cmIx sl) Sub.cmWin_CM_OP Sub.cmWin_CM_STATUS 1 ∧ slot < 20 * s.otnN sl) ∧
    (∃ (s : State) (c : Caller) (sl : Nat) (dir : Nat) (page : Nat) (slot : Nat) (e : Nat),
      s.ob (cmIx sl) Sub.cmWin_CM_DIR = dir ∧ s.ob (cmIx sl) Sub.cmWin_CM_PAGE = page ∧
      s.ob (cmIx sl) Sub.cmWin_CM_SLOT = slot ∧ s.ob (cmIx sl) Sub.cmWin_CM_ENTRY = e ∧
      StartsIn s sl c (cmIx sl) Sub.cmWin_CM_OP Sub.cmWin_CM_STATUS 2 ∧ slot < 20 * s.otnN sl ∧ bits e 11 8 = 0 ∧
      bits e 7 0 ≤ 159 ∧ mfind s.otn.cmWait sl ≠ some dir ∧ page = 1 - s.cmActive sl dir) ∧
    (∃ (s : State) (c : Caller) (sl : Nat) (dir : Nat) (page : Nat) (slot : Nat) (e : Nat),
      s.ob (cmIx sl) Sub.cmWin_CM_DIR = dir ∧ s.ob (cmIx sl) Sub.cmWin_CM_PAGE = page ∧
      s.ob (cmIx sl) Sub.cmWin_CM_SLOT = slot ∧ s.ob (cmIx sl) Sub.cmWin_CM_ENTRY = e ∧
      StartsIn s sl c (cmIx sl) Sub.cmWin_CM_OP Sub.cmWin_CM_STATUS 2 ∧ slot < 20 * s.otnN sl ∧ bits e 11 8 = 0 ∧
      bits e 7 0 ≤ 159 ∧ ((mfind s.otn.cmWait sl = some dir ∨ page ≠ 1 - s.cmActive sl dir))) ∧
    (∃ (s : State) (c : Caller) (sl : Nat) (dir : Nat) (page : Nat) (slot : Nat) (e : Nat),
      s.ob (cmIx sl) Sub.cmWin_CM_DIR = dir ∧ s.ob (cmIx sl) Sub.cmWin_CM_PAGE = page ∧
      s.ob (cmIx sl) Sub.cmWin_CM_SLOT = slot ∧ s.ob (cmIx sl) Sub.cmWin_CM_ENTRY = e ∧
      StartsIn s sl c (cmIx sl) Sub.cmWin_CM_OP Sub.cmWin_CM_STATUS 3 ∧ ((∀ k : Nat,
      k < 8 → s.tribOn sl k = true → s.pageGives sl dir (1 - s.cmActive sl dir) k = true))) ∧
    (∃ (s : State) (sl : Nat) (dir : Nat) (page : Nat) (slot : Nat) (e : Nat) (d : _) (a : _),
      s.ob (cmIx sl) Sub.cmWin_CM_DIR = dir ∧ s.ob (cmIx sl) Sub.cmWin_CM_PAGE = page ∧
      s.ob (cmIx sl) Sub.cmWin_CM_SLOT = slot ∧ s.ob (cmIx sl) Sub.cmWin_CM_ENTRY = e ∧ sl < 4 ∧
      mfind s.otn.cmWait sl = some d ∧ s.ob (cmIx sl) Sub.cmWin_CM_ACTIVE = a) :=
  ⟨⟨otn, .firmware, 0, _, _, _, _, rfl, rfl, rfl, rfl, by decide +kernel⟩,
    ⟨((otn.put (cmIx 0) Sub.cmWin_CM_ENTRY 0x8005).put (cmIx 0) Sub.cmWin_CM_PAGE 1), .firmware, 0, _, _, _, _, rfl, rfl, rfl,
      rfl, by decide +kernel⟩,
    ⟨otn, .firmware, 0, _, _, _, _, rfl, rfl, rfl, rfl, by decide +kernel⟩,
    ⟨(otn.put (tribIx 0 0) Sub.trib_TRIB_ENABLE 0), .firmware, 0, _, _, _, _, rfl, rfl, rfl, rfl, by decide +kernel⟩,
    ⟨{ otn with otn := { otn.otn with cmWait := [(0, 1)] } }, 0, _, _, _, _, _, _, rfl, rfl, rfl, rfl, by decide +kernel,
      of_some (by decide +kernel), rfl⟩⟩

theorem witness_ClockStepsAndRate :
    (∃ (s : State) (c : Caller), Starts s c 0x3A00 Sub.clock_TIME_OP Sub.clock_TIME_STATUS 1 ∧ s.time.locked = false) ∧
    (∃ (s : State) (c : Caller), Starts s c 0x3A00 Sub.clock_TIME_OP Sub.clock_TIME_STATUS 2 ∧ s.time.locked = false) ∧
    (∃ (s : State) (c : Caller), Starts s c 0x3A00 Sub.clock_TIME_OP Sub.clock_TIME_STATUS 1 ∧ s.time.locked = true) ∧
    (∃ (s : State) (c : Caller), Starts s c 0x3A00 Sub.clock_TIME_OP Sub.clock_TIME_STATUS 3) ∧
    (∃ (s : State) (op : _) (arg : _), s.time.step = some (op, arg)) ∧
    (∃ (s : State) (c : Caller) (v : _), Accepted s c 0x3A00 Sub.clock_INCR v ∧ incrOk v = true) ∧
    (∃ (s : State) (c : Caller) (v : _), Accepted s c 0x3A00 Sub.clock_INCR v ∧ incrOk v = false) ∧
    (∃ (s : State) (v : _), s.time.incrNext = some v) :=
  ⟨⟨(up.putO 0x3A00 Sub.clock_STEP_TIME [0,0,0,0,0,1,0,0,0,9]), .firmware, by decide +kernel⟩,
    ⟨(up.putO 0x3A00 Sub.clock_STEP_OFFSET_NS [0xFF,0xFF,0xFF,0xFF,0xFF,0xFF,0xFF,0xFE]), .firmware, by decide +kernel⟩,
    ⟨{ up with time := { up.time with locked := true } }, .firmware, by decide +kernel⟩,
    ⟨{ up with time := { up.time with locked := true } }, .firmware, by decide +kernel⟩,
    ⟨{ up.put 0x3A00 Sub.clock_STEP_EPOCH 255 with time := { up.time with step := some (2, -3) } },
      ((({ up.put 0x3A00 Sub.clock_STEP_EPOCH 255 with time := { up.time with step := some (2, -3) } } : State).time.step).get
      (by decide +kernel)).1,
      ((({ up.put 0x3A00 Sub.clock_STEP_EPOCH 255 with time := { up.time with step := some (2, -3) } } : State).time.step).get
      (by decide +kernel)).2, by decide +kernel⟩,
    ⟨up, .firmware, 0x1_99CE_0760, by decide +kernel⟩,
    ⟨up, .firmware, 0, by decide +kernel⟩,
    ⟨{ up with time := { up.time with incrNext := some 7 } }, _, of_some (by decide +kernel)⟩⟩

theorem witness_CustodyUnwrapsAndWraps_1 :
    ∃ (s : State) (c : Caller) (blob : Bytes) (target : Nat) (h : Nat) (slot : Nat) (sl : _) (i : _) (k : _),
      s.oct kwIx Sub.kwWin_KW_BLOB = blob ∧ s.ob kwIx Sub.kwWin_KW_TARGET = target ∧ s.ob kwIx Sub.kwWin_KW_HANDLE = h ∧
      s.ob kwIx Sub.kwWin_KW_SLOT = slot ∧ Starts s c kwIx Sub.kwWin_KW_OP Sub.kwWin_KW_STATUS 1 ∧ s.held = false ∧ sl < 4 ∧
      s.unwrapRows (s.levelOf c) blob target = .ok (.entry sl i, k) :=
  ⟨kw (blobOf 2 32) 3 0 0 vaulted, .firmware, _, _, _, _, 3, 0, zeros 32, rfl, rfl, rfl, rfl, by decide +kernel⟩

theorem witness_CustodyUnwrapsAndWraps_2 :
    ∃ (s : State) (c : Caller) (blob : Bytes) (target : Nat) (h : Nat) (slot : Nat) (st : _),
      s.oct kwIx Sub.kwWin_KW_BLOB = blob ∧ s.ob kwIx Sub.kwWin_KW_TARGET = target ∧ s.ob kwIx Sub.kwWin_KW_HANDLE = h ∧
      s.ob kwIx Sub.kwWin_KW_SLOT = slot ∧ Starts s c kwIx Sub.kwWin_KW_OP Sub.kwWin_KW_STATUS 1 ∧ s.held = false ∧
      s.unwrapRows (s.levelOf c) blob target = .error st :=
  ⟨kw (blobOf 2 32) 3 0 0 up, .firmware, _, _, _, _, .notReady, rfl, rfl, rfl, rfl, by decide +kernel⟩

theorem witness_CustodyUnwrapsAndWraps_3 :
    ∃ (s : State) (c : Caller) (blob : Bytes) (target : Nat) (h : Nat) (slot : Nat), s.oct kwIx Sub.kwWin_KW_BLOB = blob ∧
      s.ob kwIx Sub.kwWin_KW_TARGET = target ∧ s.ob kwIx Sub.kwWin_KW_HANDLE = h ∧ s.ob kwIx Sub.kwWin_KW_SLOT = slot ∧
      Starts s c kwIx Sub.kwWin_KW_OP Sub.kwWin_KW_STATUS 1 ∧ s.held = true :=
  ⟨kw (blobOf 2 32) 3 0 0 { vaulted with alm := { vaulted.alm with latch := 2 } }, .firmware, _, _, _, _, rfl, rfl, rfl, rfl,
      by decide +kernel⟩

theorem witness_CustodyUnwrapsAndWraps_4 :
    ∃ (s : State) (c : Caller) (blob : Bytes) (target : Nat) (h : Nat) (slot : Nat) (m : _) (k : _),
      s.oct kwIx Sub.kwWin_KW_BLOB = blob ∧ s.ob kwIx Sub.kwWin_KW_TARGET = target ∧ s.ob kwIx Sub.kwWin_KW_HANDLE = h ∧
      s.ob kwIx Sub.kwWin_KW_SLOT = slot ∧ Starts s c kwIx Sub.kwWin_KW_OP Sub.kwWin_KW_STATUS 3 ∧
      s.vaultOpen (s.levelOf c) 1 = true ∧ s.keyOf h = some (m, k) ∧ s.mayWrap slot m.export_ = .ok :=
  ⟨kw [] 0 (handleOf 1 3 8191) 2 (stored 0 vaulted), .firmware, _, _, _, _,
      (((kw [] 0 (handleOf 1 3 8191) 2 (stored 0 vaulted) : State).keyOf ((kw [] 0 (handleOf 1 3 8191) 2 (stored 0 vaulted) :
      State).ob kwIx Sub.kwWin_KW_HANDLE : Nat)).get (by decide +kernel)).1,
      (((kw [] 0 (handleOf 1 3 8191) 2 (stored 0 vaulted) : State).keyOf ((kw [] 0 (handleOf 1 3 8191) 2 (stored 0 vaulted) :
      State).ob kwIx Sub.kwWin_KW_HANDLE : Nat)).get (by decide +kernel)).2, rfl, rfl, rfl, rfl, by decide +kernel⟩

theorem witness_CustodyUnwrapsAndWraps_5 :
    ∃ (s : State) (c : Caller) (blob : Bytes) (target : Nat) (h : Nat) (slot : Nat) (k : _),
      s.oct kwIx Sub.kwWin_KW_BLOB = blob ∧ s.ob kwIx Sub.kwWin_KW_TARGET = target ∧ s.ob kwIx Sub.kwWin_KW_HANDLE = h ∧
      s.ob kwIx Sub.kwWin_KW_SLOT = slot ∧ Starts s c kwIx Sub.kwWin_KW_OP Sub.kwWin_KW_STATUS 4 ∧
      s.vaultOpen (s.levelOf c) 2 = true ∧ s.rewrapRows (s.levelOf c) blob = .ok k ∧
      s.mayWrap slot (metaOf blob).export_ = .ok :=
  ⟨kw (blobOf 2 32) 0 0 2 vaulted, .firmware, _, _, _, _, _, rfl, rfl, rfl, rfl,
      meet2 (by decide +kernel) ⟨of_ok (by decide +kernel), by decide +kernel⟩⟩

theorem witness_CustodyMakesAndDestroys :
    (∃ (s : State) (c : Caller) (h : Nat) (ty : _) (target : _) (ex : _) (sl : _) (i : _), s.ob kwIx Sub.kwWin_KW_HANDLE = h ∧
      Starts s c kwIx Sub.kwWin_KW_OP Sub.kwWin_KW_STATUS 2 ∧ s.held = false ∧ sl < 4 ∧ s.ob kwIx Sub.kwWin_KW_TYPE = ty ∧
      s.ob kwIx Sub.kwWin_KW_TARGET = target ∧ s.ob kwIx Sub.kwWin_KW_SLOT = 0xFF ∧ s.ob kwIx Sub.kwWin_KW_EXPORT = ex ∧
      s.vaultOpen (s.levelOf c) (if ty = 4 then 2 else 1) = true ∧ s.generateRows ty target 0xFF ex = .ok (.entry sl i) ∧
      s.drawsNow (blobKey ty)) ∧
    (∃ (s : State) (c : Caller) (h : Nat) (sl : _) (i : _) (e : _), s.ob kwIx Sub.kwWin_KW_HANDLE = h ∧
      Starts s c kwIx Sub.kwWin_KW_OP Sub.kwWin_KW_STATUS 5 ∧ s.vaultOpen (s.levelOf c) 1 = true ∧ s.handleHeld h = false ∧
      s.entryOf h = some (sl, i, e) ∧ sl < 4 ∧ e.refs = 0 ∧ s.oduNames sl h = false ∧ s.jobNames h = false) ∧
    (∃ (s : State) (c : Caller) (h : Nat) (sl : _) (i : _) (e : _), s.ob kwIx Sub.kwWin_KW_HANDLE = h ∧
      Starts s c kwIx Sub.kwWin_KW_OP Sub.kwWin_KW_STATUS 5 ∧ s.vaultOpen (s.levelOf c) 1 = true ∧ s.handleHeld h = false ∧
      s.entryOf h = some (sl, i, e) ∧ e.refs ≠ 0) ∧
    (∃ (s : State) (c : Caller) (h : Nat), s.ob kwIx Sub.kwWin_KW_HANDLE = h ∧
      Starts s c kwIx Sub.kwWin_KW_OP Sub.kwWin_KW_STATUS 6 ∧ s.vaultOpen (s.levelOf c) 2 = true ∧ 3 ≤ bits h 5 0 ∧
      s.kekLive h = true) ∧
    (∃ (s : State) (c : Caller) (h : Nat) (sl : _) (i : _) (e : _), s.ob kwIx Sub.kwWin_KW_HANDLE = h ∧
      Starts s c kwIx Sub.kwWin_KW_OP Sub.kwWin_KW_STATUS 10 ∧ s.vaultOpen (s.levelOf c) 1 = true ∧ s.entryOf h = some (sl, i,
      e)) :=
  ⟨⟨random ((kw [] 3 0 0xFF vaulted).put kwIx Sub.kwWin_KW_TYPE 2), .firmware, _, _, _, _, 3, 0, rfl,
      meet3 (by decide +kernel) ⟨rfl, rfl, by decide +kernel, rfl, by decide +kernel⟩⟩,
    ⟨kw [] 0 (handleOf 1 3 8191) 2 (stored 0 vaulted), .firmware, _, 1, 8191, (stored 0 vaulted).keyAt 1 8191, rfl,
      by decide +kernel⟩,
    ⟨kw [] 0 (handleOf 1 3 8191) 2 (stored 1 vaulted), .firmware, _, 1, 8191, (stored 1 vaulted).keyAt 1 8191, rfl,
      by decide +kernel⟩,
    ⟨kw [] 0 (kekHandle 63 1) 2 (vaulted.putKek 63 { valid := true }), .firmware, _, rfl, by decide +kernel⟩,
    ⟨kw [] 0 (handleOf 1 3 8191) 2 (stored 1 vaulted), .firmware, _, 1, 8191, (stored 1 vaulted).keyAt 1 8191, rfl,
      by decide +kernel⟩⟩

theorem witness_CustodyMigratesAndQuotes_1 :
    ∃ (s : State) (c : Caller) (m : Bytes) (h : Nat), s.oct kwIx Sub.kwWin_KW_BLOB = m ∧ s.ob kwIx Sub.kwWin_KW_HANDLE = h ∧
      Starts s c kwIx Sub.kwWin_KW_OP Sub.kwWin_KW_STATUS 7 ∧ s.held = false ∧ s.vaultOpen (s.levelOf c) 2 = true ∧
      ((s.fuse.lc = 1 ∨ s.fuse.lc = 2)) ∧ manifestForm m = true ∧ s.ke.queue = [] :=
  ⟨migrating, .firmware, _, _, rfl, rfl, by decide +kernel⟩

theorem witness_CustodyMigratesAndQuotes_2
    (h : AllVerify) :
    ∃ (s : State) (m : Bytes) (h : Nat) (level : _) (m' : _), s.oct kwIx Sub.kwWin_KW_BLOB = m ∧
      s.ob kwIx Sub.kwWin_KW_HANDLE = h ∧ s.ke.queue = [⟨.dsa87Verify, .migrate level m', [], []⟩] ∧ s.held = false ∧
      s.vaultOpen level 2 = true ∧ ((s.fuse.lc = 1 ∨ s.fuse.lc = 2)) ∧ manifestForm m' = true ∧ s.migrateStatus m' = .ok ∧
      s.rst.coresHeld = false :=
  ⟨withKe (fun k => { k with queue := [⟨.dsa87Verify, .migrate 3 (migrating.oct kwIx Sub.kwWin_KW_BLOB), [], []⟩] })
      migrating, _, _, 3, migrating.oct kwIx Sub.kwWin_KW_BLOB, rfl, rfl, meet5 (by decide +kernel) ⟨by
    have e := h.gizeltan
    simp only [State.migrateStatus, manifestSigned, e]
    decide +kernel, by decide +kernel⟩⟩

theorem witness_CustodyMigratesAndQuotes_3 :
    (∃ (s : State) (c : Caller) (m : Bytes) (h : Nat), s.oct kwIx Sub.kwWin_KW_BLOB = m ∧ s.ob kwIx Sub.kwWin_KW_HANDLE = h ∧
      Starts s c kwIx Sub.kwWin_KW_OP Sub.kwWin_KW_STATUS 8 ∧ s.vaultOpen (s.levelOf c) 2 = true) ∧
    (∃ (s : State) (c : Caller) (m : Bytes) (h : Nat) (kind : _), s.oct kwIx Sub.kwWin_KW_BLOB = m ∧
      s.ob kwIx Sub.kwWin_KW_HANDLE = h ∧ Starts s c kwIx Sub.kwWin_KW_OP Sub.kwWin_KW_STATUS 9 ∧
      s.vaultOpen (s.levelOf c) 1 = true ∧ quoteKind h = some kind ∧ s.ke.queue = [] ∧ s.drawsNow 64) ∧
    (∃ (s : State) (m : Bytes) (h : Nat) (h' : _) (nonce : _) (meas : _) (svn : _) (a : _) (r : _) (u : _) (b : _),
      s.oct kwIx Sub.kwWin_KW_BLOB = m ∧ s.ob kwIx Sub.kwWin_KW_HANDLE = h ∧ s.ke.queue = [⟨.dsaSign,
      .quote h' nonce meas svn, [], a⟩] ∧ a.length = 64 ∧ s.ke.drawn = some r ∧
      u = { s with vault := { s.vault with quotes := s.vault.quotes + 1 } } ∧
      b = u.quoteBody ((quoteKind h').getD 3) h' nonce meas svn ∧ s.rst.coresHeld = false) :=
  ⟨⟨kw [] 0 0 0 (vaulted.putKek 1 { valid := true }), .firmware, _, _, rfl, rfl, by decide +kernel⟩,
    ⟨random (kw [] 0 0 0 vaulted), .firmware, _, _, 3, rfl, rfl, by decide +kernel⟩,
    ⟨withKe (fun k =>
      { k with queue := [⟨.dsaSign, .quote 0 (zeros 32) (zeros 48) 3, [], zeros 64⟩], drawn := some (zeros 32) }) vaulted, _,
      _, 0, zeros 32, zeros 48, 3, zeros 64, zeros 32, _, _, rfl, rfl, meet3 (by decide +kernel) ⟨rfl, rfl,
      by decide +kernel⟩⟩⟩

theorem witness_LifeCycleMoves_1
    (h : AllVerify) :
    ∃ (s : State) (c : Caller) (ticket : Bytes) (lc : _), s.oct lcIx Sub.lcWin_LC_TICKET = ticket ∧
      Starts s c lcIx Sub.lcWin_LC_OP Sub.lcWin_LC_STATUS 1 ∧ ((c ≠ .firmware ∨ s.fuse.lc ≠ 0)) ∧
      ((s.transitionCheck (s.levelOf c) ticket = .ok lc ∨ s.transitionCheck (s.levelOf c) ticket = .error .integrity)) ∧
      s.ke.queue = [] :=
  ⟨lcw (ticketFor 3 1 3405 up.deviceId [] (zeros 2049)) ownedUp, .firmware, (ticketFor 3 1 3405 up.deviceId [] (zeros 2049)),
      3, State.oct_putO_self _ _ _, meet2 (by decide +kernel) ⟨.inl (h.ticket rfl rfl rfl (by decide +kernel)), rfl⟩⟩

theorem witness_LifeCycleMoves_2
    (h : AllVerify) :
    ∃ (s : State) (ticket : Bytes) (op : _) (level : _) (ticket' : _) (lc : _), s.oct lcIx Sub.lcWin_LC_TICKET = ticket ∧
      s.ke.queue = [⟨op, .ticket level ticket', [], []⟩] ∧ op.draws = 0 ∧ s.transitionCheck level ticket' = .ok lc ∧ lc ≠ 2 :=
  ⟨asked (ticketFor 3 1 3405 up.deviceId [] (zeros 2049)) ownedUp, _, .dsaVerify, 3,
      (ticketFor 3 1 3405 up.deviceId [] (zeros 2049)), 3, rfl, rfl, rfl, h.ticket rfl rfl rfl (by decide +kernel), by decide⟩

theorem witness_LifeCycleMoves_3
    (h : AllVerify) :
    ∃ (s : State) (ticket : Bytes) (op : _) (level : _) (ticket' : _), s.oct lcIx Sub.lcWin_LC_TICKET = ticket ∧
      s.ke.queue = [⟨op, .ticket level ticket', [], []⟩] ∧ op.draws = 0 ∧ s.transitionCheck level ticket' = .ok 2 ∧
      s.drawsNow 32 :=
  ⟨asked (ticketFor 2 1 3405 up.deviceId [7] (zeros 2049)) (random ownedUp), _, .dsaVerify, 3,
      (ticketFor 2 1 3405 up.deviceId [7] (zeros 2049)), rfl, rfl, rfl, h.ticket rfl rfl rfl (by decide +kernel),
      by decide +kernel⟩

theorem witness_LifeCycleMoves_4 :
    ∃ (s : State) (ticket : Bytes) (op : _) (level : _) (ticket' : _), s.oct lcIx Sub.lcWin_LC_TICKET = ticket ∧
      s.ke.queue = [⟨op, .ticket level ticket', [], []⟩] ∧ op.draws = 0 ∧
      s.transitionCheck level ticket' = .error .integrity :=
  ⟨asked (ticketFor 3 1 3405 up.deviceId [] (zeros 2049)) stranger, _, .dsaVerify, 3,
      (ticketFor 3 1 3405 up.deviceId [] (zeros 2049)), rfl, rfl, rfl,
      ticket_refused (lc := 3) rfl rfl rfl (by decide +kernel)⟩

theorem witness_LifeCycleMoves_5 :
    (∃ (s : State) (ticket : Bytes) (x : _), s.oct lcIx Sub.lcWin_LC_TICKET = ticket ∧ s.fuse.change = some x ∧
      x.fused = false) ∧
    (∃ (s : State) (ticket : Bytes) (x : _), s.oct lcIx Sub.lcWin_LC_TICKET = ticket ∧ s.fuse.change = some x ∧
      x.fused = true) ∧
    (∃ (s : State) (c : Caller) (ticket : Bytes), s.oct lcIx Sub.lcWin_LC_TICKET = ticket ∧
      Starts s c lcIx Sub.lcWin_LC_OP Sub.lcWin_LC_STATUS 1 ∧ c = .firmware ∧ s.fuse.lc = 0 ∧ s.drawsNow 32) ∧
    (∃ (s : State) (c : Caller) (ticket : Bytes) (st : _), s.oct lcIx Sub.lcWin_LC_TICKET = ticket ∧ st ≠ .integrity ∧
      ((c ≠ .firmware ∨ s.fuse.lc ≠ 0)) ∧ Starts s c lcIx Sub.lcWin_LC_OP Sub.lcWin_LC_STATUS 1 ∧
      s.transitionCheck (s.levelOf c) ticket = .error st) ∧
    (∃ (s : State) (c : Caller) (ticket : Bytes), s.oct lcIx Sub.lcWin_LC_TICKET = ticket ∧
      Starts s c lcIx Sub.lcWin_LC_OP Sub.lcWin_LC_STATUS 2 ∧ s.lcLevel (s.levelOf c) = true ∧ s.alm.vs = none ∧
      s.fuse.lc = 2 ∧ s.drawsNow 32) ∧
    (∃ (s : State) (c : Caller) (ticket : Bytes), s.oct lcIx Sub.lcWin_LC_TICKET = ticket ∧
      Starts s c lcIx Sub.lcWin_LC_OP Sub.lcWin_LC_STATUS 3 ∧ s.lcLevel (s.levelOf c) = true ∧ s.fuse.svn < 63 ∧
      s.ob vaultIx Sub.vault_SVN ≤ 63) :=
  ⟨⟨{ ownedUp with fuse := { ownedUp.fuse with change := some ⟨3, zeros 48, none, none, false⟩ } }, _, ⟨3, zeros 48, none,
      none, false⟩, rfl, by decide +kernel⟩,
    ⟨{ ownedUp with fuse := { ownedUp.fuse with change := some ⟨3, zeros 48, none, none, true⟩ } }, _, ⟨3, zeros 48, none,
      none, true⟩, rfl, by decide +kernel⟩,
    ⟨random { up with fuse := { up.fuse with lc := 0 } }, .firmware, _, rfl, by decide +kernel⟩,
    ⟨lcw [] up, .firmware, _, .range, rfl, by decide +kernel⟩,
    ⟨random { up with alm := { up.alm with vs := none } }, .firmware, _, rfl, by decide +kernel⟩,
    ⟨{ up.put vaultIx Sub.vault_SVN 63 with fuse := { up.fuse with svn := 62 } }, .firmware, _, rfl, by decide +kernel⟩⟩

theorem witness_CaksAndSaksMove_1 :
    ∃ (s : State) (c : Caller) (blob : _) (len : _) (slot : _) (i : _) (n : _) (k : _),
      Starts s c keWinIx Sub.keWin_KE_OP Sub.keWin_KE_STATUS 1 ∧ s.held = false ∧ s.oct keWinIx Sub.keWin_KE_BLOB = blob ∧
      s.ob keWinIx Sub.keWin_KE_CKN_LEN = len ∧ s.ob keWinIx Sub.keWin_KE_KEK_SLOT = slot ∧
      s.cakLoadRows (s.levelOf c) blob len slot = .ok ((i, n), k) :=
  ⟨kew (blobOf 6 32) 32 0xFF 0 vaulted, .firmware, _, _, _, 0, 3, zeros 32, meet2 (by decide +kernel) ⟨rfl, rfl, rfl,
      by decide +kernel⟩⟩

theorem witness_CaksAndSaksMove_2 :
    ∃ (s : State) (c : Caller) (i : _), Starts s c keWinIx Sub.keWin_KE_OP Sub.keWin_KE_STATUS 2 ∧
      s.ob keWinIx Sub.keWin_KE_INDEX = i ∧ s.cakNamed i = false ∧ (s.cakAt i).valid = true :=
  ⟨kew [] 32 0xFF 255 (caked 255), .firmware, _, by decide +kernel, rfl, by decide +kernel⟩

theorem witness_CaksAndSaksMove_3 :
    ∃ (s : State) (c : Caller) (i : _), Starts s c keWinIx Sub.keWin_KE_OP Sub.keWin_KE_STATUS 2 ∧
      s.ob keWinIx Sub.keWin_KE_INDEX = i ∧ s.cakNamed i = true :=
  ⟨(kew [] 32 0xFF 255 (caked 255)).put (Ix.kePort 31) Sub.kePort_MKA_CAK 255, .firmware, _, by decide +kernel, rfl,
      by decide +kernel⟩

theorem witness_CaksAndSaksMove_4 :
    ∃ (s : State) (c : Caller) (i : _), Starts s c keWinIx Sub.keWin_KE_OP Sub.keWin_KE_STATUS 3 ∧
      s.ob keWinIx Sub.keWin_KE_INDEX = i :=
  ⟨kew [] 32 0xFF 255 (caked 255), .firmware, _, by decide +kernel, rfl⟩

theorem witness_CaksAndSaksMove_5 :
    ∃ (s : State) (h : _) (i : _) (e : _), (s.cakAt i).valid = true ∧ s.sakLive (handleSlice h) h = true ∧
      s.keyAt (handleSlice h) (handleIndex h) = e ∧ bits e.record 63 62 = 2 :=
  ⟨stored 0 (caked 0), handleOf 1 3 8191, 0, _, meet2 (by decide +kernel) ⟨rfl, by decide +kernel⟩⟩

theorem witness_CaksAndSaksMove_6 :
    ∃ (s : State) (h : _) (i : _) (e : _), (s.cakAt i).valid = true ∧ s.sakLive (handleSlice h) h = true ∧
      s.keyAt (handleSlice h) (handleIndex h) = e ∧ bits e.record 63 62 ≠ 2 :=
  ⟨(stored 0 (caked 0)).putKey 1 8191 { valid := true, gen := 3, record := 2 ^ 62 }, handleOf 1 3 8191, 0, _,
      meet2 (by decide +kernel) ⟨rfl, by decide +kernel⟩⟩

theorem witness_CaksAndSaksMove_7 :
    ∃ (s : State) (w : _) (i : _) (target : _) (ex : _) (serial : _) (label : _) (k : _) (h : _), (s.cakAt i).valid = true ∧
      ((w.length = 24 ∨ w.length = 40)) ∧ kwUnwrap (s.cakKek i) w = some k ∧
      h = makeHeader (s.cakAt i).slot ⟨if k.length = 16 then 1 else 2, ex, serial, label, 0, false⟩ target :=
  ⟨caked 255, kwWrap ((caked 255).cakKek 255) (zeros 16), 255, 0, 1, 5, 6, _, _,
      meet2 (by decide +kernel) ⟨of_some (by decide +kernel), rfl⟩⟩

theorem witness_CaksAndSaksMove_8 :
    ∃ (s : State) (w : _) (i : _), (s.cakAt i).valid = true ∧ ((w.length = 24 ∨ w.length = 40)) ∧
      kwUnwrap (s.cakKek i) w = none :=
  ⟨caked 255, zeros 24, 255, by decide +kernel⟩

theorem witness_EntropyIsDrawn_1 :
    (∃ (s : State) (w0 : Nat) (w1 : Nat) (w2 : Nat), s.entRuns = true ∧ s.entState ≠ entFailed ∧ s.ke.ent.windows < 4 ∧
      s.firstFail [w0, w1, w2] 1024 = none) ∧
    (∃ (s : State) (w0 : Nat) (w1 : Nat) (w2 : Nat), s.entRuns = true ∧ s.entState ≠ entFailed ∧ s.ke.ent.windows = 4 ∧
      s.firstFail [w0, w1, w2] 1024 = none) ∧
    (∃ (s : State) (w0 : Nat) (w1 : Nat) (w2 : Nat), s.entRuns = true ∧ s.entState ≠ entFailed ∧ 4 < s.ke.ent.windows ∧
      s.firstFail [w0, w1, w2] 1024 = none) ∧
    (∃ (s : State) (w0 : Nat) (w1 : Nat) (w2 : Nat) (src : _) (test : _), s.entRuns = true ∧ s.entState ≠ entFailed ∧
      s.firstFail [w0, w1, w2] 1024 = some (src, test)) ∧
    (∃ (s : State) (w0 : Nat) (w1 : Nat) (w2 : Nat) (m : _), s.entRuns = true ∧ s.entState ≠ entFailed ∧ s.firstFail [w0, w1,
      w2] (min m 1024) = none) ∧
    (∃ (s : State) (w0 : Nat) (w1 : Nat) (w2 : Nat) (src : _) (test : _) (m : _) (n : _), s.entRuns = true ∧
      s.entState ≠ entFailed ∧ s.firstFail [w0, w1, w2] (min m 1024) = some (src, test) ∧
      n = (s.ke.ent.fails.filter (fun x => decide (s.time.periods < x + 7500000000))).length + 1 ∧
      n < s.ob entIx Sub.ent_ENT_RETRY_LIMIT) ∧
    (∃ (s : State) (w0 : Nat) (w1 : Nat) (w2 : Nat) (src : _) (test : _) (m : _) (n : _), s.entRuns = true ∧
      s.entState ≠ entFailed ∧ s.firstFail [w0, w1, w2] (min m 1024) = some (src, test) ∧
      n = (s.ke.ent.fails.filter (fun x => decide (s.time.periods < x + 7500000000))).length + 1 ∧
      s.ob entIx Sub.ent_ENT_RETRY_LIMIT ≤ n ∧ s.ke.ent.waiting = []) ∧
    (∃ (s : State) (c : Caller) (len : Nat), Starts s c entWinIx Sub.entWin_ENT_READ_OP Sub.entWin_ENT_READ_STATUS 1 ∧
      s.ob entWinIx Sub.entWin_ENT_READ_LEN = len ∧ s.drawsNow len) ∧
    (∃ (s : State) (c : Caller) (len : Nat), Starts s c entWinIx Sub.entWin_ENT_READ_OP Sub.entWin_ENT_READ_STATUS 1 ∧
      s.ob entWinIx Sub.entWin_ENT_READ_LEN = len ∧ s.ke.ent.stopped = false ∧ s.entState = entReady ∧ s.entFill < len) ∧
    (∃ (s : State) (c : Caller), Starts s c entWinIx Sub.entWin_ENT_READ_OP Sub.entWin_ENT_READ_STATUS 1 ∧
      s.entState = entFailed) ∧
    (∃ (s : State) (len : Nat) (rest : _) (at_ : _), s.ke.ent.waiting = ⟨.read, len, at_⟩ :: rest ∧ s.ke.ent.stopped = false ∧
      s.entState = entReady ∧ len ≤ s.entFill) ∧
    (∃ (s : State) (len : Nat) (rest : _) (at_ : _), s.ke.ent.waiting = ⟨.read, len, at_⟩ :: rest ∧
      s.gone at_ (1000 * s.ob entIx Sub.ent_ENT_WAIT_US) = false) :=
  ⟨⟨{ up with ke := { up.ke with ent := { up.ke.ent with windows := 3 } } }, fair, fair, fair, by decide +kernel⟩,
    ⟨{ up with ke := { up.ke with ent := { up.ke.ent with windows := 4 } } }, fair, fair, fair, by decide +kernel⟩,
    ⟨{ random up with ke := { (random up).ke with ent := { (random up).ke.ent with windows := 5, budget := some 64, key := zeros 32 } } }, fair, fair, fair, by decide +kernel⟩,
    ⟨random up, 0, fair, fair, 0, 0, by decide +kernel⟩,
    ⟨random up, fair, fair, 0, 25, by decide +kernel⟩,
    ⟨random up, fair, fair, 0, 2, 0, 26, _, meet3 (by decide +kernel) ⟨rfl, by decide +kernel⟩⟩,
    ⟨{ (random up) with ke := { (random up).ke with ent := { (random up).ke.ent with fails := [10 ^ 12, 10 ^ 12] } } }, 0,
      fair, fair, 0, 0, 41, _, meet3 (by decide +kernel) ⟨rfl, by decide +kernel⟩⟩,
    ⟨reading 256 (random up), .firmware, 256, by decide +kernel⟩,
    ⟨reading 40 (drained up), .firmware, 40, by decide +kernel⟩,
    ⟨reading 40 (up.put entIx Sub.ent_ENT_STATE entFailed), .firmware, by decide +kernel⟩,
    ⟨{ (random up).put entIx Sub.ent_ENT_STATE entReady with ke := { (random up).ke with ent := { (random up).ke.ent with waiting := [⟨.read, 256, 0⟩] } } }, 256, [], 0, by decide +kernel⟩,
    ⟨{ (random up).put entIx Sub.ent_ENT_STATE entReady with ke := { (random up).ke with ent := { (random up).ke.ent with waiting := [⟨.read, 256, 10 ^ 12⟩] } } }, 256, [], 10 ^ 12, by decide +kernel⟩⟩

theorem witness_EntropyIsDrawn_2 :
    ∃ (s : State) (len : Nat) (rest : _) (at_ : _), s.ke.ent.waiting = ⟨.read, len, at_⟩ :: rest ∧
      s.gone at_ (1000 * s.ob entIx Sub.ent_ENT_WAIT_US) = true :=
  ⟨{ (random up).put entIx Sub.ent_ENT_STATE entReady with ke := { (random up).ke with ent := { (random up).ke.ent with waiting := [⟨.read, 256, 0⟩] } } }, 256, [], 0, by decide +kernel⟩

theorem witness_JobContextsMove_1 :
    (∃ (s : State) (c : Caller) (j : Nat), j < 16 ∧ s.jobMay c j = true ∧
      Starts s c (jobIx j) Sub.job_JOB_OP Sub.job_JOB_STATUS 1 ∧ ((s.jobState j = 0 ∨ s.jobState j = 3)) ∧
      s.bankLive (s.ob (jobIx j) Sub.job_JOB_KEY) = true ∧ s.jobLenOk j = true) ∧
    (∃ (s : State) (c : Caller) (j : Nat), j < 16 ∧ s.jobMay c j = true ∧
      Starts s c (jobIx j) Sub.job_JOB_OP Sub.job_JOB_STATUS 2 ∧ s.jobState j = 2 ∧ s.jobLenOk j = true) :=
  ⟨⟨jobbed 15 0 {} up, .firmware, 15, by decide +kernel⟩,
    ⟨jobbed 15 2 { mode := 2, key := bankHandle 255 3 } up, .firmware, 15, by decide +kernel⟩⟩

theorem witness_JobContextsMove_2 :
    (∃ (s : State) (c : Caller) (j : Nat), j < 16 ∧ s.jobMay c j = true ∧
      Starts s c (jobIx j) Sub.job_JOB_OP Sub.job_JOB_STATUS 3 ∧ s.jobState j = 2) ∧
    (∃ (s : State) (c : Caller) (j : Nat) (x : _) (slot : _), j < 16 ∧ s.jobMay c j = true ∧
      Starts s c (jobIx j) Sub.job_JOB_OP Sub.job_JOB_STATUS 4 ∧ s.jobState j = 2 ∧ s.jobAt j = x ∧ x.mode = 2 ∧
      s.ob (jobIx j) Sub.job_JOB_SAVE_SLOT = slot ∧ (s.kekAt slot).valid = true) :=
  ⟨⟨jobbed 15 2 { mode := 2, key := bankHandle 255 3 } up, .firmware, 15, by decide +kernel⟩,
    ⟨jobbed 15 2 { mode := 2, key := bankHandle 255 3, iv := zeros 12 } (up.putKek 0 { valid := true, kek := 77 }), .firmware,
      15, _, 0, meet4 (by decide +kernel) ⟨rfl, by decide +kernel⟩⟩⟩

theorem witness_JobContextsMove_3 :
    (∃ (s : State) (c : Caller) (j : Nat) (r : _) (p : _), j < 16 ∧ s.jobMay c j = true ∧
      Starts s c (jobIx j) Sub.job_JOB_OP Sub.job_JOB_STATUS 5 ∧ s.jobState j = 0 ∧ s.oct (jobIx j) Sub.job_JOB_SAVE = r ∧
      recordForm r = true ∧ s.bankLive (fld r 4 4) = true ∧ (s.kekAt (fld r 36 1)).valid = true ∧
      kwpUnwrap (s.kekAt (fld r 36 1)).octets (r.drop 48) = some p ∧ p.length = 56 ∧
      p.take 16 = (sha384 (r.take 48)).take 16 ∧ ((fld r 3 1 = 2 ∨ fld r 40 8 ∈ s.vault.tokens))) ∧
    (∃ (s : State) (c : Caller) (j : Nat) (r : _), j < 16 ∧ s.jobMay c j = true ∧
      Starts s c (jobIx j) Sub.job_JOB_OP Sub.job_JOB_STATUS 5 ∧ s.jobState j ≠ 0 ∧ s.oct (jobIx j) Sub.job_JOB_SAVE = r) :=
  ⟨⟨(jobbed 15 0 {} (up.putKek 0 { valid := true, kek := 77 })).putO (jobIx 15) Sub.job_JOB_SAVE (savedRecord 2 0), .firmware,
      15, _, _, meet4 (by decide +kernel) ⟨rfl, meet3 (by decide +kernel) ⟨of_some (by decide +kernel), by decide +kernel⟩⟩⟩,
    ⟨jobbed 15 2 {} up, .firmware, 15, (jobbed 15 2 {} up : State).oct (jobIx 15) Sub.job_JOB_SAVE, by decide +kernel⟩⟩

theorem witness_JobContextsMove_4 :
    ∃ (s : State) (c : Caller) (j : Nat), j < 16 ∧ s.jobMay c j = true ∧
      Starts s c (jobIx j) Sub.job_JOB_OP Sub.job_JOB_STATUS 6 :=
  ⟨jobbed 15 1 {} up, .firmware, 15, by decide +kernel⟩

theorem witness_JobDataMoves :
    (∃ (s : State) (j : Nat) (x : Job) (key : Bytes) (data : Bytes) (d : Bytes), j < 16 ∧ s.jobAt j = x ∧ s.jobKey x = key ∧
      s.ddrBytes ≤ x.src ∧ s.ddrBytes ≤ x.dst ∧ d = padTo x.len data ∧ x.mode = 3 ∧ x.op = 2) ∧
    (∃ (s : State) (j : Nat) (x : Job) (key : Bytes) (data : Bytes) (d : Bytes), j < 16 ∧ s.jobAt j = x ∧ s.jobKey x = key ∧
      s.ddrBytes ≤ x.src ∧ s.ddrBytes ≤ x.dst ∧ d = padTo x.len data ∧ x.mode = 1 ∧ x.op = 3 ∧ 0 < x.len) ∧
    (∃ (s : State) (j : Nat) (x : Job) (key : Bytes) (data : Bytes) (d : Bytes), j < 16 ∧ s.jobAt j = x ∧ s.jobKey x = key ∧
      s.ddrBytes ≤ x.src ∧ s.ddrBytes ≤ x.dst ∧ d = padTo x.len data ∧ x.mode = 3 ∧ x.op = 3 ∧ (x.part ++ d).length % 8 = 0 ∧
      16 ≤ (x.part ++ d).length) :=
  ⟨⟨jobbed 15 1 ({ mode := 3, op := 2, key := bankHandle 255 3, src := 2 ^ 60, dst := 2 ^ 60, len := 16, part := zeros 16 } :
      Job) up, 15, { mode := 3, op := 2, key := bankHandle 255 3, src := 2 ^ 60, dst := 2 ^ 60, len := 16, part := zeros 16 },
      _, zeros 16, _, meet2 (by decide +kernel) ⟨rfl, meet2 (by decide +kernel) ⟨rfl, by decide +kernel⟩⟩⟩,
    ⟨jobbed 15 1 ({ mode := 1, op := 3, key := bankHandle 255 3, iv := zeros 12, src := 2 ^ 60, dst := 2 ^ 60, len := 17 } :
      Job) up, 15, { mode := 1, op := 3, key := bankHandle 255 3, iv := zeros 12, src := 2 ^ 60, dst := 2 ^ 60, len := 17 },
      _, zeros 17, _, meet2 (by decide +kernel) ⟨rfl, meet2 (by decide +kernel) ⟨rfl, by decide +kernel⟩⟩⟩,
    ⟨jobbed 15 1 ({ mode := 3, op := 3, key := bankHandle 255 3, src := 2 ^ 60, dst := 2 ^ 60, len := 16, part := zeros 16 } :
      Job) up, 15, { mode := 3, op := 3, key := bankHandle 255 3, src := 2 ^ 60, dst := 2 ^ 60, len := 16, part := zeros 16 },
      _, zeros 16, _, meet2 (by decide +kernel) ⟨rfl, meet2 (by decide +kernel) ⟨rfl, by decide +kernel⟩⟩⟩⟩

theorem witness_KnotSessionsRun_1
    (h : AllVerify) :
    ∃ (s : State) (c : Caller) (n : Nat) (e : _), n < 32 ∧ Accepted s c (Ix.kePort n) Sub.kePort_KNOT_RUN 1 ∧
      s.knotAllowed = true ∧ s.held = false ∧ s.ob (Ix.kePort n) Sub.kePort_KNOT_MODE = 2 ∧ s.knotInitiates n = false ∧
      (contextRoom (dropKnots (fun x => x.2.place == n && x.2.stage == .answered) s)).freeEph = some e ∧
      s.ke.ent.stopped = false ∧ s.entState = entReady ∧ s.entFill < 40 :=
  ⟨drained (owned.put (Ix.kePort 31) Sub.kePort_KNOT_MODE 2), .firmware, 31, 0, meet2 (by decide +kernel) ⟨h.knot rfl rfl rfl,
      by decide +kernel⟩⟩

theorem witness_KnotSessionsRun_2 :
    (∃ (s : State) (c : Caller) (n : Nat), n < 32 ∧ Accepted s c (Ix.kePort n) Sub.kePort_KNOT_RUN 1 ∧
      ((s.knotAllowed = false ∨ s.held = true)) ∧ s.ob (Ix.kePort n) Sub.kePort_KNOT_MODE = 2) ∧
    (∃ (s : State) (c : Caller) (n : Nat), n < 32 ∧ Accepted s c (Ix.kePort n) Sub.kePort_KNOT_RUN 1 ∧
      s.ob (Ix.kePort n) Sub.kePort_KNOT_MODE ≠ 2) ∧
    (∃ (s : State) (c : Caller) (n : Nat) (v : _), n < 32 ∧ Accepted s c keIx Sub.ke_PAIR_KNOT_RUN v ∧ s.home = false) :=
  ⟨⟨({ up with fuse := { up.fuse with lc := 1 } } : State).put (Ix.kePort 31) Sub.kePort_KNOT_MODE 2, .firmware, 31,
      by decide +kernel⟩,
    ⟨up, .firmware, 31, by decide +kernel⟩,
    ⟨pairUp 3 0 1, .firmware, 31, 0, by decide +kernel⟩⟩

theorem witness_KnotSessionsRun_3
    (h : AllVerify) :
    ∃ (s : State) (c : Caller) (n : Nat) (e : _), n < 32 ∧ Accepted s c keIx Sub.ke_PAIR_KNOT_RUN 1 ∧ s.home = true ∧
      s.knotAllowed = true ∧ s.held = false ∧ s.knotInitiates tetherPlace = false ∧
      (contextRoom (dropKnots (fun x => x.2.place == tetherPlace && x.2.stage == .answered) s)).freeEph = some e ∧
      s.ke.ent.stopped = false ∧ s.entState = entReady ∧ s.entFill < 40 :=
  ⟨drained owned, .firmware, 31, 0, meet3 (by decide +kernel) ⟨h.knot rfl rfl rfl, by decide +kernel⟩⟩

theorem witness_KnotSessionsRun_4 :
    (∃ (s : State) (n : Nat) (f : _), n < 32 ∧ s.sliceOn (n / 8) = true ∧ s.rst.coresHeld = false ∧ segmentForm f = false) ∧
    (∃ (s : State) (n : Nat) (f : _), n < 32 ∧ s.sliceOn (n / 8) = true ∧ s.rst.coresHeld = false ∧ segmentForm f = true ∧
      1 < fld f 3 1 ∧ s.ke.parts = []) :=
  ⟨⟨up, 31, [], by decide +kernel⟩,
    ⟨up, 31, be 1 0x10 ++ be 1 1 ++ be 1 0 ++ be 1 2 ++ zeros 8 ++ be 2 1 ++ zeros 2 ++ [0], by decide +kernel⟩⟩

theorem witness_KnotSessionsRun_5
    (h : AllVerify) :
    ∃ (s : State) (n : Nat) (src : _) (f : _) (m : _) (k : _) (x : _), n < 32 ∧ s.sliceOn (n / 8) = true ∧
      s.rst.coresHeld = false ∧ segmentForm f = true ∧ s.ke.parts = [] ∧ fld f 1 1 = 5 ∧ m = (⟨n, src, fld f 0 1, 5,
      fld f 4 8, sub f 16 (fld f 12 2)⟩ : KnotMsg) ∧ m.form = true ∧ s.knotFor m = some (k, x) ∧ x.peer = some src ∧
      fld f 0 1 / 16 = 1 ∧ s.knotRefuses n = false :=
  ⟨knotted 4 ({ place := 31, init := true, stage := .sentInit, peer := some (zeros 6) }) (owned.put (Ix.kePort 31)
      Sub.kePort_KNOT_MODE 2), 31, zeros 6, be 1 0x10 ++ be 1 5 ++ be 1 0 ++ be 1 1 ++ zeros 8 ++ be 2 4 ++ zeros 2 ++ [7, 0,
      0, 0], _, 4, { place := 31, init := true, stage := .sentInit, peer := some (zeros 6) }, meet6 (by decide +kernel) ⟨rfl,
      meet4 (by decide +kernel) (by
      rw [State.knotRefuses, h.knot rfl rfl rfl]; decide +kernel)⟩⟩

theorem witness_KnotSessionsRun_6 :
    (∃ (s : State) (n : Nat) (k : _) (x : _), n < 32 ∧ mfind s.ke.knot k = some x ∧ x.place = n ∧ x.stage = .sentInit ∧
      x.sends < 5 ∧ s.retryDue x = true ∧ s.knotSends n = true ∧ s.otnMode (n / 8) = 0 ∧ s.laneLoop (0x40 + n) = 0) ∧
    (∃ (s : State) (n : Nat) (k : _) (x : _), n < 32 ∧ mfind s.ke.knot k = some x ∧ s.retryDue x = false) ∧
    (∃ (s : State) (n : Nat) (k : _) (x : _), n < 32 ∧ mfind s.ke.knot k = some x ∧ s.knotOver x = false ∧ x.sends < 5) ∧
    (∃ (s : State) (n : Nat) (k : _) (x : _), n < 32 ∧ mfind s.ke.knot k = some x ∧ x.stage = .answered ∧
      s.knotOver x = true) ∧
    (∃ (s : State) (n : Nat) (k : _) (x : _), n < 32 ∧ mfind s.ke.knot k = some x ∧ x.stage ≠ .answered ∧
      ((x.peer = none ∨ x.init1 = [])) ∧ ((s.knotOver x = true ∨ (5 ≤ x.sends ∧ s.retryDue x = true)))) :=
  ⟨⟨knotted 4 ({ place := 31, init := true, stage := .sentInit, lastMsg := 1, last := zeros 1701, sends := 4 }) lined, 31, 4,
      { place := 31, init := true, stage := .sentInit, lastMsg := 1, last := zeros 1701, sends := 4 }, by decide +kernel⟩,
    ⟨knotted 4 ({ place := 31, init := true, stage := .sentInit, heard := 10 ^ 12 }) up, 31, 4,
      { place := 31, init := true, stage := .sentInit, heard := 10 ^ 12 }, by decide +kernel⟩,
    ⟨knotted 4 ({ place := 31, init := true, stage := .sentInit, began := 10 ^ 12 }) up, 31, 4,
      { place := 31, init := true, stage := .sentInit, began := 10 ^ 12 }, by decide +kernel⟩,
    ⟨knotted 4 ({ place := 31, init := true, stage := .answered, init1 := [1] }) up, 31, 4,
      { place := 31, init := true, stage := .answered, init1 := [1] }, by decide +kernel⟩,
    ⟨knotted 4 ({ place := 31, init := true, stage := .sentInit, lastMsg := 1, last := zeros 1701, sends := 5 }) up, 31, 4,
      { place := 31, init := true, stage := .sentInit, lastMsg := 1, last := zeros 1701, sends := 5 }, by decide +kernel⟩⟩

theorem witness_KnotSessionsRun_7 :
    (∃ (s : State) (op : PkeOp) (next : PkeOp) (k : Nat) (rest : List PkeOp) (x : _),
      s.ke.queue = [{ op := op, who := .knot k }] ∧ op.draws = 0 ∧ s.rst.coresHeld = false ∧ next.draws = 0 ∧
      mfind s.ke.knot k = some x ∧ x.ops = op :: next :: rest ∧
      s.stageCheck { x with ops := next :: rest } (rest.length + 1) = .ok) ∧
    (∃ (s : State) (op : PkeOp) (k : Nat), s.ke.queue = [{ op := op, who := .knot k }] ∧ op.draws = 0 ∧
      s.rst.coresHeld = false ∧ mfind s.ke.knot k = none) :=
  ⟨⟨withKe (fun y => { y with queue := [⟨(.ecdh : PkeOp), .knot 4, [], []⟩] }) (knotted 4
      ({ place := 31, init := true, stage := .keys, ops := [.ecdh, .dsaVerify] }) up), .ecdh, .dsaVerify, 4, [],
      { place := 31, init := true, stage := .keys, ops := [.ecdh, .dsaVerify] }, by decide +kernel⟩,
    ⟨withKe (fun y => { y with queue := [⟨(.dsaVerify : PkeOp), .knot 4, [], []⟩] }) up, .dsaVerify, 4, by decide +kernel⟩⟩

theorem witness_MkaKeepsPeers_1 :
    (∃ (s : State) (n : Nat), n < 32 ∧ s.mkaRuns n = true ∧ s.past (Timer.mka n) (s.mkaSendNs n) = false) ∧
    (∃ (s : State) (n : Nat) (b : _), n < 32 ∧ s.mkaRuns n = true ∧ s.past (Timer.mka n) (s.mkaSendNs n) = true ∧
      s.ownSends n = true ∧ (s.mkaAt n).sak.isSome = true ∧ (s.mkaAt n).due = false ∧ s.mkaThresh n = false ∧
      s.laneLoop (0x40 + n) = 0 ∧
      b = be 6 0x0180C2000003 ++ s.oct (Ix.port (0x40 + n)) Sub.port_PAUSE_SA ++ be 2 0x888E ++ Config.mkpdu (s.mkpduFields n)
      (s.mkaWrapped n)) ∧
    (∃ (s : State) (n : Nat) (pdu : Bytes), n < 32 ∧ s.mkaRuns n = true ∧ 16 ≤ pdu.length ∧
      cmac (s.mkaIck n) (pdu.take (pdu.length - 16)) ≠ pdu.drop (pdu.length - 16)) :=
  ⟨⟨(mka {}).mark (Timer.mka 31), 31, by decide +kernel⟩,
    ⟨mka { sak := some (0, 0, 4) }, 31, _, meet8 (by decide +kernel) rfl⟩,
    ⟨mka {}, 31, zeros 16, by decide +kernel⟩⟩

theorem witness_MkaKeepsPeers_2 :
    (∃ (s : State) (n : Nat) (pdu : Bytes) (v : Mkpdu), n < 32 ∧ s.mkaRuns n = true ∧ s.ownSends n = true ∧
      s.otnMode (n / 8) = 0 ∧ s.laneLoop (0x40 + n) = 0 ∧ s.mkaStale n v = false ∧ 16 ≤ pdu.length ∧
      cmac (s.mkaIck n) (pdu.take (pdu.length - 16)) = pdu.drop (pdu.length - 16) ∧ (s.mkaAt n).peers = [] ∧
      v.listsUs = false) ∧
    (∃ (s : State) (n : Nat) (pdu : Bytes) (v : Mkpdu), n < 32 ∧ s.mkaRuns n = true ∧ 16 ≤ pdu.length ∧
      cmac (s.mkaIck n) (pdu.take (pdu.length - 16)) = pdu.drop (pdu.length - 16) ∧ s.mkaStale n v = false ∧
      (s.mkaAt n).peers.any (fun p => p.mi == v.mi) = true ∧ v.lowest = none ∧ v.sak = none ∧ (s.mkaAt n).sak = none) ∧
    (∃ (s : State) (n : Nat) (v : Mkpdu), n < 32 ∧ s.mkaRuns n = true ∧ s.mkaStale n v = true) :=
  ⟨⟨mka {}, 31, zeros 16 ++ cmac ((mka {} : State).mkaIck 31) (zeros 16), { mi := 1, sci := 2, prio := 3, listsUs := false },
      by decide +kernel⟩,
    ⟨mka { peers := [{ mi := 1 }] }, 31, zeros 16 ++ cmac ((mka { peers := [{ mi := 1 }] } : State).mkaIck 31) (zeros 16),
      { mi := 1, sci := 2, prio := 3, mn := 1, listsUs := true }, by decide +kernel⟩,
    ⟨mka { peers := [{ mi := 1, mn := 7 }] }, 31, { mi := 1, sci := 2, prio := 3, mn := 7, listsUs := true },
      by decide +kernel⟩⟩

theorem witness_MkaKeepsPeers_3 :
    (∃ (s : State) (n : Nat) (mi : _), n < 32 ∧ s.mkaRuns n = true ∧ s.peerGone n mi = false) ∧
    (∃ (s : State) (n : Nat) (p : _), n < 32 ∧ s.mkaRuns n = true ∧ (s.mkaAt n).peers = [p] ∧ s.peerGone n p.mi = true) :=
  ⟨⟨mka { peers := [{ mi := 1, heard := 10 ^ 12 }] }, 31, 1, by decide +kernel⟩,
    ⟨mka { peers := [{ mi := 1 }] }, 31, { mi := 1 }, by decide +kernel⟩⟩

theorem witness_HeartbeatsRun_1 :
    (∃ (s : State), ((s.pairRuns = false ∨ s.past Timer.beat 1000 = false))) ∧
    (∃ (s : State), ((s.paired = false ∨ s.past Timer.beat 2000 = false))) ∧
    (∃ (s : State), s.past Timer.beat 1000 = true ∧ s.pairRuns = true ∧
      ((s.pairState = 2 → s.ob keIx Sub.ke_PAIR_KNOT_STATE ≠ 2)) ∧ ((s.roleOn = true → s.pairFault = none ∧
      s.pair.yielding = false ∧ s.pair.selAct = true))) ∧
    (∃ (s : State), s.past Timer.beat 1000 = true ∧ s.pairRuns = true ∧ s.pairState = 2 ∧ s.roleOn = false ∧
      s.ob keIx Sub.ke_PAIR_KNOT_STATE = 2 ∧ (s.kekAt 2).valid = true ∧ s.pair.peerDigest = none) ∧
    (∃ (s : State), s.past Timer.beat 1000 = true ∧ s.pairRuns = true ∧ s.pairState ≠ 2 ∧ s.roleOn = true ∧
      s.pairFault = none ∧ s.pair.yielding = false ∧ s.pair.selAct = false) ∧
    (∃ (s : State), s.past Timer.beat 1000 = true ∧ s.pairRuns = true ∧ s.pairState ≠ 2 ∧ s.roleOn = true ∧
      s.pairFault ≠ none ∧ s.pair.yielding = false) ∧
    (∃ (s : State) (b : Bytes), ((s.tetherUp = false ∨ (s.pairRuns = false ∧ b.length = 16)))) ∧
    (∃ (s : State) (b : Bytes), s.tetherUp = true ∧ b.length ≠ 16) ∧
    (∃ (s : State) (b : Bytes), s.pairRuns = true ∧ s.tetherUp = true ∧ b.length = 16 ∧ s.roleOn = true ∧
      bit (fld b 0 1) 7 = false) ∧
    (∃ (s : State) (b : Bytes), s.pairRuns = true ∧ s.tetherUp = true ∧ b.length = 16 ∧ s.roleOn = false ∧
      bit (fld b 0 1) 6 = false) ∧
    (∃ (s : State) (b : Bytes), s.pairRuns = true ∧ s.tetherUp = true ∧ b.length = 16 ∧ s.roleOn = false ∧
      bit (fld b 0 1) 6 = true ∧ s.peerFault = false ∧ s.pair.declared = none) ∧
    (∃ (s : State), s.pairRuns = false) :=
  ⟨⟨young, by decide +kernel⟩,
    ⟨young, by decide +kernel⟩,
    ⟨withPair (fun p => { p with selAct := true }) (pairUp 5 1 0), by decide +kernel⟩,
    ⟨((pairUp 2 0 0).putKek 2 { valid := true, kek := 77 }).put keIx Sub.ke_PAIR_KNOT_STATE 2, by decide +kernel⟩,
    ⟨pairUp 5 1 0, by decide +kernel⟩,
    ⟨{ pairUp 5 1 0 with alm := { up.alm with latch := 2 } }, by decide +kernel⟩,
    ⟨young, [], by decide +kernel⟩,
    ⟨pairUp 4 1 0, [], by decide +kernel⟩,
    ⟨pairUp 4 1 0, 0x20 :: zeros 15, by decide +kernel⟩,
    ⟨pairUp 4 0 0, 0x80 :: zeros 15, by decide +kernel⟩,
    ⟨withPair (fun p => { p with mirrored := true }) (pairUp 4 0 0), 0xC0 :: zeros 15, by decide +kernel⟩,
    ⟨young, by decide +kernel⟩⟩

theorem witness_HeartbeatsRun_2 :
    (∃ (s : State) (n : Nat), n = 8 * (s.time.periods - mget 0 s.time.since Timer.heard) / 1250 ∧ s.pairRuns = true ∧
      s.pair.missed < n ∧ (s.past Timer.heard 3250 = false ∨ s.pair.lost = true)) ∧
    (∃ (s : State) (n : Nat), n = 8 * (s.time.periods - mget 0 s.time.since Timer.heard) / 1250 ∧ s.pairRuns = true ∧
      s.pair.missed < n ∧ s.past Timer.heard 3250 = true ∧ s.pair.lost = false ∧ s.roleOn = false ∧ s.pairState = 5) ∧
    (∃ (s : State) (n : Nat), n = 8 * (s.time.periods - mget 0 s.time.since Timer.heard) / 1250 ∧ s.pairRuns = true ∧
      s.pair.missed < n ∧ s.past Timer.heard 3250 = true ∧ s.pair.lost = false ∧ s.roleOn = true) ∧
    (∃ (s : State), s.past Timer.beat 2000 = true ∧ s.paired = true) ∧
    (∃ (s : State), s.pair.mateLow = false) ∧
    (∃ (s : State), s.pair.mateLow = true ∧ s.pair.mate = true ∧ s.past Timer.mate 100 = true) ∧
    (∃ (s : State), s.pair.mateLow = true ∧ ((s.pair.mate = false ∨ s.past Timer.mate 100 = false))) :=
  ⟨⟨withPair (fun p => { p with lost := true }) (pairUp 5 0 0), 6400000000, by decide +kernel⟩,
    ⟨withPair (fun p => { p with lost := false }) (pairUp 5 0 0), 6400000000, by decide +kernel⟩,
    ⟨withPair (fun p => { p with lost := false, mate := true }) (pairUp 5 1 0), 6400000000, by decide +kernel⟩,
    ⟨pairUp 5 1 0, by decide +kernel⟩,
    ⟨pairUp 5 1 0, by decide +kernel⟩,
    ⟨withPair (fun p => { p with mate := true, mateLow := true }) (pairUp 5 1 0), by decide +kernel⟩,
    ⟨withPair (fun p => { p with mateLow := true }) (pairUp 5 1 0), by decide +kernel⟩⟩

theorem witness_PairsFormAndTakeOver_1 :
    (∃ (s : State), s.pairRuns = true ∧ s.tetherUp = true ∧ s.pairState = 1 ∧ s.past Timer.hello 100000 = true) ∧
    (∃ (s : State), s.pairRuns = true ∧ s.tetherUp = true ∧ s.pairState ≠ 0 ∧
      ((s.pairState ≠ 1 ∨ s.past Timer.hello 100000 = false))) ∧
    (∃ (s : State) (b : Bytes), s.pairRuns = true ∧ s.tetherUp = true ∧ b.length ≠ 64) ∧
    (∃ (s : State) (b : Bytes), s.pairRuns = true ∧ s.tetherUp = true ∧ b.length = 64 ∧ s.helloRefused b = true) ∧
    (∃ (s : State) (b : Bytes), s.pairRuns = true ∧ s.tetherUp = true ∧ b.length = 64 ∧
      (s.pairState = 1 ∨ s.pairState = 4 ∨ s.pairState = 5) ∧ s.helloRefused b = false ∧ sub b 56 8 = s.kcv ∧
      s.kcv.any (· != 0) = true ∧ s.pair.peerDigest = none) ∧
    (∃ (s : State) (b : Bytes), s.pairRuns = true ∧ s.tetherUp = true ∧ b.length = 64 ∧ s.pairState = 1 ∧ s.home = false ∧
      s.helloRefused b = false ∧ sub b 56 8 ≠ s.kcv) ∧
    (∃ (s : State), s.pairRuns = true ∧ s.tetherUp = true) ∧
    (∃ (s : State), s.past Timer.heard (1000000 * s.ob pairIx Sub.pair_ALONE_WAIT_MS) = false) ∧
    (∃ (s : State), s.pairRuns = true ∧ s.home = false ∧ s.roleOn = false ∧ s.pair.mate = false ∧
      s.past Timer.heard (1000000 * s.ob pairIx Sub.pair_ALONE_WAIT_MS) = true) ∧
    (∃ (s : State), s.pair.declared = none) ∧
    (∃ (s : State) (cause : _) (lost : _), s.pair.declared = some (cause, lost) ∧ s.mateGone = true) ∧
    (∃ (s : State) (cause : _) (lost : _), s.pair.declared = some (cause, lost) ∧ s.pair.mate = true ∧ s.mateLate = false) :=
  ⟨⟨pairUp 1 1 0, by decide +kernel⟩,
    ⟨pairUp 3 1 0, by decide +kernel⟩,
    ⟨pairUp 3 1 0, [], by decide +kernel⟩,
    ⟨pairUp 4 1 0, zeros 64, by decide +kernel⟩,
    ⟨(pairUp 5 1 0).putKek 2 { valid := true, kek := 77 },
      helloOf ((pairUp 5 1 0).putKek 2 { valid := true, kek := 77 } : State), by decide +kernel⟩,
    ⟨(pairUp 1 0 1).putKek 2 { valid := true, kek := 77 },
      ((helloOf ((pairUp 1 0 1).putKek 2 { valid := true, kek := 77 } : State)).take 4 ++ 1 :: zeros 59), by decide +kernel⟩,
    ⟨pairUp 1 1 0, by decide +kernel⟩,
    ⟨young, by decide +kernel⟩,
    ⟨withPair (fun p => { p with lost := true }) (pairUp 1 0 1), by decide +kernel⟩,
    ⟨pairUp 5 0 1, by decide +kernel⟩,
    ⟨withPair (fun p => { p with declared := some (1, true) }) (pairUp 5 0 1), 1, true, by decide +kernel⟩,
    ⟨withPair (fun p => { p with declared := some (1, true), mate := true }) (pairYoung 5 0 1), 1, true, by decide +kernel⟩⟩

theorem witness_PairsFormAndTakeOver_2 :
    (∃ (s : State) (cause : _) (lost : _), s.pair.declared = some (cause, lost) ∧ s.mateGone = false ∧
      ((s.mateLate = true ∨ s.pair.mate = false))) ∧
    (∃ (s : State), ((s.pairRuns = false ∨ s.tetherUp = false ∨ s.roleOn = true))) ∧
    (∃ (s : State) (c : _), s.pairRuns = true ∧ s.tetherUp = true ∧ s.roleOn = false ∧ s.pair.cmd = some c ∧
      c.reversion = true) ∧
    (∃ (s : State), s.gone (mget 0 s.time.since Timer.commit) (2000 - 3072 / cyclesPer8 (s.pointOf 0)) = false) ∧
    (∃ (s : State), s.pairRuns = true ∧ s.tetherUp = true ∧ s.roleOn = false ∧ s.pair.cmd = none) ∧
    (∃ (s : State), s.gone (mget 0 s.time.since Timer.commit) (2000 - 3072 / cyclesPer8 (s.pointOf 0)) = true) :=
  ⟨⟨withPair (fun p => { p with declared := some (1, true), mate := true }) (pairUp 5 0 1), 1, true, by decide +kernel⟩,
    ⟨pairUp 5 1 1, by decide +kernel⟩,
    ⟨withPair (fun p => { p with cmd := some { cmd := 1, reversion := true, running := true } }) (pairUp 5 0 0),
      { cmd := 1, reversion := true, running := true }, by decide +kernel⟩,
    ⟨(pairYoung 5 0 1).mark Timer.commit, by decide +kernel⟩,
    ⟨pairUp 5 0 1, by decide +kernel⟩,
    ⟨pairUp 5 0 1, by decide +kernel⟩⟩

theorem witness_CheckpointsAndMirrors_1 :
    (∃ (s : State), s.pairRuns = true ∧ (s.past Timer.ckpt 1000000 = false ∨ s.roleOn = false)) ∧
    (∃ (s : State), s.pairRuns = true ∧ s.past Timer.ckpt 1000000 = true ∧ s.roleOn = true) ∧
    (∃ (s : State) (l : List (Nat × Bytes)), s.pairRuns = true ∧ s.tetherUp = true ∧
      l.countP (fun f => decide (512 < f.2.length)) ≠ 0) :=
  ⟨⟨withPair (fun p => p) (pairYoung 5 1 0), by decide +kernel⟩,
    ⟨pairUp 5 1 0, by decide +kernel⟩,
    ⟨pairUp 5 0 0, [(0, zeros 513)], by decide +kernel⟩⟩

theorem witness_CheckpointsAndMirrors_2 :
    (∃ (s : State) (l : List (Nat × Bytes)), s.pairRuns = true ∧ (∀ f ∈ l, f.2.length ≤ 512) ∧
      ((joinFrames l = none ∨ s.roleOn = true))) ∧
    (∃ (s : State) (l : List (Nat × Bytes)) (b : Bytes), s.pairRuns = true ∧ s.tetherUp = true ∧ s.roleOn = false ∧ (∀ f ∈ l,
      f.2.length ≤ 512) ∧ joinFrames l = some b ∧ s.openCkpt b = none) ∧
    (∃ (s : State) (l : List (Nat × Bytes)) (b : Bytes) (records : _) (sl : _), s.pairRuns = true ∧ s.tetherUp = true ∧
      s.roleOn = false ∧ (∀ f ∈ l, f.2.length ≤ 512) ∧ joinFrames l = some b ∧ s.openCkpt b = some records ∧ fld b 8 1 = sl ∧
      s.ckptDue sl (fld b 12 4) (fld b 16 2) = true ∧ fld b 16 2 = 0 ∧ fld b 28 1 ≤ 1 ∧ (applyRecords sl records s).1 = 0) :=
  ⟨⟨pairUp 5 0 0, [(0, [1]), (2, [2])], by decide +kernel⟩,
    ⟨pairUp 5 0 0, [(0, zeros 40)], _, meet4 (by decide +kernel) ⟨of_some (by decide +kernel), by decide +kernel⟩⟩,
    ⟨(pairUp 5 0 0).putKek 2 { valid := true, kek := 77 }, [(0, ckpt)], _, _, 3,
      meet4 (by decide +kernel) ⟨of_some (by decide +kernel), of_some (by decide +kernel), by decide +kernel⟩⟩⟩

theorem witness_CheckpointsAndMirrors_3 :
    (∃ (s : State) (b : Bytes) (r : _) (f : _) (sl : _) (i : _) (e : _), s.pairRuns = true ∧ s.roleOn = false ∧
      s.tetherUp = true ∧ b.length = 16 ∧ fld b 0 1 = sl ∧ s.sliceOn sl = true ∧ r = sub (b.drop 4) 0 12 ∧ f = fld r 1 1 ∧
      fld r 0 1 = 1 ∧ fld r 2 2 % 2 ^ 14 = i ∧ s.saAt sl i = e ∧ Sa.valid e = true ∧ Sa.dir e = 0) ∧
    (∃ (s : State) (b : Bytes), s.pairRuns = true ∧ s.tetherUp = true ∧ b.length ≠ 16 ∧ b.length ≠ 28 ∧ b.length ≠ 40) ∧
    (∃ (s : State) (sl : _), s.pairRuns = true ∧
      ((mfind s.pair.doneAt sl).all (fun x => decide (s.ob pairIx Sub.pair_CKPT_MAX_AGE_MS * 1000 < s.ageUs x))) = true ∧
      s.roleOn = false ∧ s.sliceOn sl = true) :=
  ⟨⟨(pairUp 5 0 0).putSa 3 8191 (2 ^ 319), [3, 0, 0, 0, 1, 0] ++ be 2 8191 ++ be 8 99, _, _, 3, 8191, 2 ^ 319,
      meet6 (by decide +kernel) ⟨rfl, rfl, by decide +kernel⟩⟩,
    ⟨pairUp 5 0 0, zeros 15, by decide +kernel⟩,
    ⟨pairUp 5 0 0, 3, by decide +kernel⟩⟩

theorem witness_CheckpointsAndMirrors_4 :
    (∃ (s : State) (b : Bytes), s.pairRuns = true ∧ s.tetherUp = true ∧ s.rst.coresHeld = false ∧ 3 ≤ s.pairState ∧
      s.pairState < 6 ∧ b ≠ s.pairDigest) ∧
    (∃ (s : State), s.pairRuns = true ∧ s.tetherUp = true ∧ s.rst.coresHeld = false ∧ 1 ≤ s.pairState ∧ s.pairState < 3) ∧
    (∃ (s : State) (seqs : List Nat), s.pairRuns = true ∧ s.tetherUp = true ∧ s.rst.coresHeld = false ∧
      seqsRun seqs = false) :=
  ⟨⟨pairUp 3 0 0, (pairUp 3 0 0).pairDigest ++ [0], meet5 (by decide +kernel) (by simp)⟩,
    ⟨pairUp 2 0 0, by decide +kernel⟩,
    ⟨pairUp 3 0 0, [1, 3], by decide +kernel⟩⟩

theorem witness_CheckpointsAndMirrors_5 :
    (∃ (s : State), s.pairRuns = true ∧ s.tetherUp = true ∧ s.rst.coresHeld = false ∧ s.roleOn = false) ∧
    (∃ (s : State) (sl : _), s.pairRuns = true ∧ s.tetherUp = true ∧ s.rst.coresHeld = false ∧ s.roleOn = false ∧
      s.sliceOn sl = true) ∧
    (∃ (s : State), s.pairRuns = true ∧ s.tetherUp = true ∧ s.rst.coresHeld = false ∧ s.roleOn = true ∧ s.pairState = 3) :=
  ⟨⟨pairUp 5 0 0, by decide +kernel⟩,
    ⟨pairUp 5 0 0, 3, by decide +kernel⟩,
    ⟨pairUp 3 1 0, by decide +kernel⟩⟩

theorem witness_CheckpointsAndMirrors_6 :
    ∃ (s : State), s.pairRuns = true ∧ s.tetherUp = true ∧ s.rst.coresHeld = false ∧ s.roleOn = false ∧ s.pairState = 3 :=
  ⟨pairUp 3 0 0, by decide +kernel⟩

theorem witness_SwitchesRun_1 :
    (∃ (s : State) (m : _), s.pairRuns = true ∧ s.tetherUp = true ∧ ((s.roleOn = true ∨ m ∉ s.pair.losOn))) ∧
    (∃ (s : State) (m : _), s.pairRuns = true ∧ s.tetherUp = true ∧ s.roleOn = false ∧ s.rxLanes.contains m = true ∧
      s.pair.losOn.contains m = true ∧ s.past (Timer.los m) (1000 * s.ob pairIx Sub.pair_LOS_COMPARE_US) = true ∧
      s.pairState = 5) ∧
    (∃ (s : State), s.pairRuns = true ∧ s.tetherUp = true ∧ s.roleOn = true) ∧
    (∃ (s : State) (c : Caller), s.pairRuns = true ∧ s.tetherUp = true ∧ Accepted s c swIx Sub.swWin_SW_CMD 1 ∧
      s.home = true ∧ s.roleOn = true ∧ s.pair.cmd = none) ∧
    (∃ (s : State) (c : Caller), s.pairRuns = true ∧ s.tetherUp = true ∧ Accepted s c swIx Sub.swWin_SW_CMD 2 ∧
      s.home = true ∧ s.roleOn = true ∧ s.pair.cmd = none ∧ s.pairState = 5) ∧
    (∃ (s : State) (c : Caller) (v : _) (x : _), s.pairRuns = true ∧ s.tetherUp = true ∧
      Accepted s c swIx Sub.swWin_SW_CMD v ∧ v ≠ 0 ∧ s.pair.cmd = some x ∧ x.running = true) ∧
    (∃ (s : State), s.pairRuns = true ∧ s.tetherUp = true ∧ s.home = true ∧ s.roleOn = true ∧ s.pair.cmd = none ∧
      s.pairState = 5) ∧
    (∃ (s : State) (cmd : _), s.pairRuns = true ∧ s.tetherUp = true ∧ s.home = true ∧ cmd ≠ 1 ∧ cmd ≠ 2) ∧
    (∃ (s : State) (x : _), s.pairRuns = true ∧ s.tetherUp = true ∧ s.home = true ∧ s.pair.cmd = some x) ∧
    (∃ (s : State) (cmd : _) (st : Status), s.pairRuns = true ∧ s.tetherUp = true ∧ s.home = false ∧
      s.pair.cmd = some { cmd := cmd } ∧ st ≠ .ok) ∧
    (∃ (s : State), s.pairRuns = true ∧ s.tetherUp = true ∧ s.home = false ∧ s.roleOn = true ∧
      s.pair.cmd = some { cmd := 1 }) ∧
    (∃ (s : State), s.pairRuns = true ∧ s.tetherUp = true ∧ s.roleOn = true ∧ s.pair.stopping = true) :=
  ⟨⟨pairUp 5 0 0, 31, by decide +kernel⟩,
    ⟨withPair (fun p => { p with losOn := [31] }) (port31 (pairUp 5 0 0)), 31, by decide +kernel⟩,
    ⟨pairUp 5 1 0, by decide +kernel⟩,
    ⟨pairUp 5 1 0, .firmware, by decide +kernel⟩,
    ⟨pairUp 5 1 0, .firmware, by decide +kernel⟩,
    ⟨withPair (fun p => { p with cmd := some { cmd := 2, running := true } }) (pairUp 5 1 0), .firmware, 2, _,
      meet4 (by decide +kernel) ⟨of_some (by decide +kernel), by decide +kernel⟩⟩,
    ⟨pairUp 5 1 0, by decide +kernel⟩,
    ⟨pairUp 5 1 0, 3, by decide +kernel⟩,
    ⟨withPair (fun p => { p with cmd := some { cmd := 2, running := true } }) (pairUp 5 1 0), { cmd := 2, running := true },
      by decide +kernel⟩,
    ⟨withPair (fun p => { p with cmd := some { cmd := 1 } }) (pairUp 5 0 1), 1, .denied, by decide +kernel⟩,
    ⟨withPair (fun p => { p with cmd := some { cmd := 1 } }) (pairUp 5 1 1), by decide +kernel⟩,
    ⟨withPair (fun p => { p with stopping := true }) (pairUp 5 1 0), by decide +kernel⟩⟩

theorem witness_SwitchesRun_2 :
    ∃ (s : State), s.pairRuns = true ∧ s.tetherUp = true ∧ s.home = true ∧ s.roleOn = false ∧ s.pair.wtr.isSome = true ∧
      s.wtrLeft = 0 ∧ s.pair.cmd = none ∧ s.pairState = 5 :=
  ⟨withPair (fun p => { p with wtr := some 0 }) (pairUp 5 0 0), by decide +kernel⟩

theorem witness_SessionsReadAndWrite_1 :
    (∃ (s : State) (u : State) (k : Nat) (versions : List Nat), u = s.requested k ∧ s.parks k false false = false ∧
      (s.sessAt k).st = .open ∧ (s.sessAt k).muted = false ∧ (s.sessAt k).owed = [] ∧ s.acc.silent = false ∧
      1 ≤ versions.length ∧ versions.length ≤ 8 ∧ versions.any (fun v => v / 256 % 256 == 1) = true) ∧
    (∃ (s : State) (u : State) (k : Nat), u = s.requested k ∧ s.parks k false false = false ∧ (s.sessAt k).st = .open ∧
      (s.sessAt k).muted = false ∧ (s.sessAt k).owed = [] ∧ s.acc.silent = false) ∧
    (∃ (s : State) (u : State) (k : Nat) (ix : _) (sub_ : _) (v : _), u = s.requested k ∧ s.parks k false false = false ∧
      s.readyFor k ∧ u.readObj k ix sub_ = .ok v ∧ Fits v) ∧
    (∃ (s : State) (u : State) (k : Nat) (ix : _) (sub_ : _) (st : _), u = s.requested k ∧ s.parks k false false = false ∧
      s.readyFor k ∧ u.readObj k ix sub_ = .error st) ∧
    (∃ (s : State) (u : State) (k : Nat) (l : _) (b : _), u = s.requested k ∧ s.parks k false false = false ∧ s.readyFor k ∧
      1 ≤ l.length ∧ l.length ≤ 32 ∧ u.readBlock k l = .ok b ∧ Fits b) ∧
    (∃ (s : State) (u : State) (k : Nat) (l : _) (b : _), u = s.requested k ∧ s.parks k false false = false ∧ s.readyFor k ∧
      1 ≤ l.length ∧ l.length ≤ 32 ∧ u.readBlock k l = .ok b ∧ portLimit (s.sessAt k).port < b.length + 28) ∧
    (∃ (s : State) (u : State) (k : Nat), u = s.requested k ∧ s.parks k true true = true) ∧
    (∃ (s : State) (u : State) (k : Nat) (i : _) (same : _) (w : _), u = s.requested k ∧ s.parks k true true = false ∧
      s.readyFor k ∧ s.cycleLost k same i = false ∧ writeBytes (.session k) i u = (w, some .ok) ∧ w.sessAt k = s.sessAt k ∧
      w.wire = s.wire ∧ activates i = false) ∧
    (∃ (s : State) (u : State) (k : Nat) (i : _) (w : _), u = s.requested k ∧ s.parks k true true = false ∧ s.readyFor k ∧
      s.cycleLost k true i = true ∧ writeBytes (.session k) i u = (w, some .ok)) ∧
    (∃ (s : State) (u : State) (k : Nat) (i : _) (w : _) (st : _), u = s.requested k ∧ s.parks k true true = false ∧
      s.readyFor k ∧ writeBytes (.session k) i u = (w, some st) ∧ w.sessAt k = s.sessAt k ∧ w.wire = s.wire ∧ st ≠ .ok) ∧
    (∃ (s : State) (u : State) (k : Nat) (l : _) (w : _), u = s.requested k ∧ s.parks k true true = false ∧ s.readyFor k ∧
      1 ≤ l.length ∧ l.length ≤ 32 ∧ writeAll (.session k) l u = .all w ∧ w.sessAt k = s.sessAt k ∧ w.wire = s.wire ∧
      l.any activates = false) ∧
    (∃ (s : State) (u : State) (k : Nat) (l : _) (st : _), u = s.requested k ∧ s.parks k true true = false ∧ s.readyFor k ∧
      1 ≤ l.length ∧ l.length ≤ 32 ∧ writeAll (.session k) l u = .fails st) :=
  ⟨⟨withSess (fun x => { x with st := .open }) sess15, _, 15, [0x0100], rfl, by decide +kernel⟩,
    ⟨withSess (fun x => { x with st := .open }) sess15, _, 15, rfl, by decide +kernel⟩,
    ⟨sess15, _, 15, 0, Sub.identity_PART_CODE, _, rfl, meet2 (by decide +kernel) ⟨of_ok (by decide +kernel),
      by decide +kernel⟩⟩,
    ⟨sess15, _, 15, 0xFFFF, 0, .range, rfl, by decide +kernel⟩,
    ⟨sess15, _, 15, [(0, Sub.identity_PART_CODE)], _, rfl, meet4 (by decide +kernel) ⟨of_ok (by decide +kernel),
      by decide +kernel⟩⟩,
    ⟨withSess (fun x => { x with port := 1 }) (sess15.putO lcIx Sub.lcWin_LC_TICKET (zeros 900)), _, 15,
      List.replicate 32 (lcIx, Sub.lcWin_LC_TICKET), List.flatten (List.replicate 32 (be 2 900 ++ zeros 900)), rfl,
      by decide +kernel⟩,
    ⟨{ sess15 with acc := { sess15.acc with storing := some (0, sess15.config) } }, _, 15, rfl, by decide +kernel⟩,
    ⟨sess15, _, 15, ⟨0x3A00, Sub.clock_STEP_OFFSET_NS, be 8 5⟩, false, (writeBytes (.session 15) (⟨0x3A00,
      Sub.clock_STEP_OFFSET_NS, be 8 5⟩) (sess15.requested 15 : State)).1, rfl, by decide +kernel⟩,
    ⟨{ sess15 with acc := { sess15.acc with lastSet := [(okey 0x3A00 Sub.clock_STEP_OFFSET_NS, 2)] } }, _, 15, ⟨0x3A00,
      Sub.clock_STEP_OFFSET_NS, be 8 5⟩, (writeBytes (.session 15) (⟨0x3A00, Sub.clock_STEP_OFFSET_NS,
      be 8 5⟩) (({ sess15 with acc := { sess15.acc with lastSet := [(okey 0x3A00 Sub.clock_STEP_OFFSET_NS, 2)] } } :
      State).requested 15 : State)).1, rfl, by decide +kernel⟩,
    ⟨sess15, _, 15, ⟨0xFFFF, 0, be 8 5⟩, (writeBytes (.session 15) (⟨0xFFFF, 0, be 8 5⟩) (sess15.requested 15 : State)).1,
      .range, rfl, by decide +kernel⟩,
    ⟨sess15, _, 15, [⟨0x3A00, Sub.clock_STEP_OFFSET_NS, be 8 5⟩], (match writeAll (.session 15) ([⟨0x3A00,
      Sub.clock_STEP_OFFSET_NS, be 8 5⟩]) (sess15.requested 15 : State) with | .all t => t | _ => up), rfl,
      by decide +kernel⟩,
    ⟨sess15, _, 15, [⟨0xFFFF, 0, be 8 5⟩], .range, rfl, by decide +kernel⟩⟩

theorem witness_SessionsReadAndWrite_2 :
    ∃ (s : State) (u : State) (k : Nat) (l : _) (n : _), u = s.requested k ∧ s.parks k true true = false ∧ s.readyFor k ∧
      1 ≤ l.length ∧ l.length ≤ 32 ∧ writeAll (.session k) l u = .draws n ∧ s.ke.ent.stopped = false ∧ s.entState = entReady ∧
      s.entFill < n :=
  ⟨sess 15 { ready with level := 3 } (drained up), _, 15, [⟨tagIx, Sub.tag_TAG_ENABLE, [0xFF]⟩], 32, rfl, by decide +kernel⟩

theorem witness_SessionsOperate_1 :
    (∃ (s : State) (u : State) (k : Nat) (window : _) (opSub : _) (stSub : _) (inputs : List BlockItem) (op : _) (results :
      List Nat) (w : State), u = s.requested k ∧ s.parks k true true = false ∧ s.readyFor k ∧ windowSubs window = some (opSub,
      stSub) ∧ inputs.length ≤ 16 ∧ results.length ≤ 16 ∧ writeAll (.session k) (inputs ++ [⟨window, opSub,
      be 1 op⟩]) u = .all w ∧ w.sessAt k = s.sessAt k ∧ w.wire = s.wire ∧ w.winBusy window stSub = true) ∧
    (∃ (s : State) (u : State) (k : Nat) (id : Nat) (o : _) (opSub : _) (stSub : _) (b : _), u = s.requested k ∧
      (s.sessAt k).owed = [o] ∧ o.op = 6 ∧ o.ready = none ∧ o.id = id ∧ o.level = 0 ∧ o.close = none ∧ o.kept = none ∧
      windowSubs o.window = some (opSub, stSub) ∧ setOf o.window ≠ some .swWin ∧ s.winBusy o.window stSub = false ∧
      s.ob o.window stSub = 0 ∧ s.readBlock k (o.results.map (fun r => (o.window, r))) = .ok b ∧ Fits b) ∧
    (∃ (s : State) (u : State) (k : Nat), u = s.requested k ∧ s.parks k false false = false ∧ s.readyFor k ∧
      1 ≤ (s.sessAt k).level) ∧
    (∃ (s : State) (u : State) (k : Nat) (force : _) (ix : _), u = s.requested k ∧ s.parks k false true = false ∧
      s.readyFor k ∧ u.claimCheck k force [ix] = .ok ∧ mfind s.acc.claims ix = none) ∧
    (∃ (s : State) (u : State) (k : Nat) (force : _) (ix : _) (st : _), u = s.requested k ∧ s.parks k false true = false ∧
      s.readyFor k ∧ u.claimCheck k force [ix] = st ∧ st ≠ .ok) ∧
    (∃ (s : State) (u : State) (k : Nat) (ix : _), u = s.requested k ∧ s.parks k false true = false ∧ s.readyFor k ∧
      mfind s.acc.claims ix ≠ some k) ∧
    (∃ (s : State) (u : State) (k : Nat) (ix : _), u = s.requested k ∧ s.parks k false true = false ∧ s.readyFor k ∧
      mfind s.acc.claims ix = some k) ∧
    (∃ (s : State) (u : State) (k : Nat), u = s.requested k ∧ k < 16 ∧ s.parks k false true = false ∧ s.readyFor k) ∧
    (∃ (s : State) (u : State) (k : Nat) (level : _), u = s.requested k ∧ s.parks k false false = false ∧ s.readyFor k ∧
      2 ≤ (s.sessAt k).level ∧ ((level = 1 ∨ level = 2))) ∧
    (∃ (s : State) (u : State) (k : Nat), u = s.requested k ∧ s.past (Timer.notify k) 10000 = false) ∧
    (∃ (s : State) (u : State) (k : Nat) (r : _), u = s.requested k ∧ s.readyFor k ∧ s.past (Timer.notify k) 10000 = true ∧
      (s.sessAt k).queue = [r] ∧ (s.sessAt k).lost = none ∧ (s.sessAt k).markNext = false ∧
      (((s.sessAt k).port = 0 → s.hostWaits (s.sessAt k) = false))) ∧
    (∃ (s : State) (u : State) (k : Nat) (o : _), u = s.requested k ∧ (s.sessAt k).owed = [o] ∧ o.ready = none ∧ o.level = 0 ∧
      o.close = none ∧ s.gone o.at_ (2000000000 + opTimeNs s o) = true) :=
  ⟨⟨sess15, _, 15, 0x3A00, Sub.clock_TIME_OP, Sub.clock_TIME_STATUS, [], 3, [Sub.clock_TIME_STATUS],
      (match writeAll (.session 15) (([] : List BlockItem) ++ [⟨0x3A00, Sub.clock_TIME_OP,
      be 1 3⟩]) (sess15.requested 15 : State) with | .all t => t | _ => up), rfl, by decide +kernel⟩,
    ⟨sess 15 { ready with owed := [{ op := 6, id := 7, window := 0x3A00, results := [Sub.clock_TIME_STATUS] }] } up, _, 15, 7,
      { op := 6, id := 7, window := 0x3A00, results := [Sub.clock_TIME_STATUS] }, Sub.clock_TIME_OP, Sub.clock_TIME_STATUS, _,
      rfl, meet11 (by decide +kernel) ⟨of_ok (by decide +kernel), by decide +kernel⟩⟩,
    ⟨sess15, _, 15, rfl, by decide +kernel⟩,
    ⟨sess15, _, 15, false, 0x0500, rfl, by decide +kernel⟩,
    ⟨claimed 0x0500 3 sess15, _, 15, false, 0x0500, .claimed, rfl, by decide +kernel⟩,
    ⟨sess15, _, 15, 0x0500, rfl, by decide +kernel⟩,
    ⟨claimed 0x0500 15 sess15, _, 15, 0x0500, rfl, by decide +kernel⟩,
    ⟨sess15, _, 15, rfl, by decide +kernel⟩,
    ⟨sess15, _, 15, 2, rfl, by decide +kernel⟩,
    ⟨sess15.mark (Timer.notify 15), _, 15, rfl, by decide +kernel⟩,
    ⟨withSess (fun x => { x with queue := [zeros 32] }) sess15, _, 15, zeros 32, rfl, by decide +kernel⟩,
    ⟨withSess (fun x => { x with owed := [{ op := 6, id := 7 }] }) sess15, _, 15, { op := 6, id := 7 }, rfl,
      by decide +kernel⟩⟩

theorem witness_SessionsOperate_2 :
    (∃ (s : State) (u : State) (k : Nat) (c : _) (r : _), u = s.requested k ∧
      Starts s c 0x0301 Sub.evWin_EV_OP Sub.evWin_EV_STATUS 1 ∧ mfind s.acc.log (s.ob 0x0301 Sub.evWin_EV_SEQ) = some r) ∧
    (∃ (s : State) (u : State) (k : Nat) (c : _), u = s.requested k ∧
      Starts s c 0x0301 Sub.evWin_EV_OP Sub.evWin_EV_STATUS 1 ∧ mfind s.acc.log (s.ob 0x0301 Sub.evWin_EV_SEQ) = none) :=
  ⟨⟨{ up.put 0x0301 Sub.evWin_EV_SEQ 5 with acc := { up.acc with log := [(5, zeros 32)] } }, _, 15, .firmware, _, rfl,
      by decide +kernel, of_some (by decide +kernel)⟩,
    ⟨up.put 0x0301 Sub.evWin_EV_SEQ 5, _, 15, .firmware, rfl, by decide +kernel⟩⟩

theorem witness_ImagesAreStaged_1 :
    (∃ (s : State) (k : Nat), s.parks k false false = false ∧ s.readyFor k ∧ 2 ≤ (s.sessAt k).level ∧
      mfind s.acc.claims 0x0500 ≠ some k) ∧
    (∃ (s : State) (k : Nat), s.parks k false false = false ∧ s.readyFor k ∧ 2 ≤ (s.sessAt k).level ∧
      mfind s.acc.claims 0x0500 = some k ∧ s.rst.staging = none) ∧
    (∃ (s : State) (k : Nat) (n : _) (off : _) (b : Bytes), s.parks k false false = false ∧ s.readyFor k ∧
      2 ≤ (s.sessAt k).level ∧ mfind s.acc.claims 0x0500 = some k ∧ s.rst.staging = some (n, off) ∧ b.length ≤ 16384 ∧
      off + b.length ≤ 2 ^ 24) ∧
    (∃ (s : State) (k : Nat) (n : _) (next : _) (off : _), s.parks k false false = false ∧ s.readyFor k ∧
      2 ≤ (s.sessAt k).level ∧ mfind s.acc.claims 0x0500 = some k ∧ s.rst.staging = some (n, next) ∧ off ≠ next) :=
  ⟨⟨sess15, 15, by decide +kernel⟩,
    ⟨opened (claimed 0x0500 15 sess15), 15, by decide +kernel⟩,
    ⟨staging 1 (2 ^ 24 - 2) [] (claimed 0x0500 15 sess15), 15, 1, 2 ^ 24 - 2, [1, 2], by decide +kernel⟩,
    ⟨staging 1 0 [] (claimed 0x0500 15 sess15), 15, 1, 0, 1, by decide +kernel⟩⟩

theorem witness_ImagesAreStaged_2
    (h : AllVerify) :
    ∃ (s : State) (k : Nat) (n : _) (off : _), s.parks k false false = false ∧ s.readyFor k ∧ 2 ≤ (s.sessAt k).level ∧
      mfind s.acc.claims 0x0500 = some k ∧ s.rst.staging = some (n, off) ∧ n < 2 ∧
      s.imageOk (stagedSlot (s.slotAt' n).image).image = true :=
  ⟨staging 1 0 image (claimed 0x0500 15 sess15), 15, 1, 0,
      meet6 (by decide +kernel) (h.image (by decide +kernel) (by decide +kernel) (by decide +kernel))⟩

theorem witness_ImagesAreStaged_3 :
    (∃ (s : State) (k : Nat) (n : _) (off : _), s.parks k false false = false ∧ s.readyFor k ∧ 2 ≤ (s.sessAt k).level ∧
      mfind s.acc.claims 0x0500 = some k ∧ s.rst.staging = some (n, off) ∧
      s.imageOk (stagedSlot (s.slotAt' n).image).image = false) ∧
    (∃ (s : State) (k : Nat), s.parks k false false = false ∧ s.readyFor k ∧ 2 ≤ (s.sessAt k).level ∧
      mfind s.acc.claims 0x0500 = some k) :=
  ⟨⟨staging 1 0 (image.drop 1) (claimed 0x0500 15 sess15), 15, 1, 0, by decide +kernel⟩,
    ⟨staging 1 0 image (claimed 0x0500 15 sess15), 15, by decide +kernel⟩⟩

theorem witness_SessionsOpenAndClose :
    (∃ (s : State) (port : _) (src : _) (n : _) (k : _) (body : _), port < 3 ∧ src < 256 ∧ 0 < n ∧ n < 2 ^ 32 ∧
      s.noSessions = false ∧ s.portHears port = true ∧ body.length = 1701 ∧ fld body 0 4 = 0x03000000 ∧
      s.handOf port src n = none ∧ s.freeSess = some k ∧ s.freeEph.isSome = true ∧ s.ke.ent.stopped = false ∧
      s.entState = entReady ∧ s.entFill < 32) ∧
    (∃ (s : State) (port : _) (src : _) (n : _) (k : _) (h : _), port < 3 ∧ src < 256 ∧ n < 2 ^ 32 ∧ s.portHears port = true ∧
      s.noSessions = false ∧ s.handOf port src n = some k ∧ (s.sessAt k).shake = some h) ∧
    (∃ (s : State) (port : _) (src : _) (n : _), port < 3 ∧ src < 256 ∧ n < 2 ^ 32 ∧ s.portHears port = true ∧
      s.noSessions = true) ∧
    (∃ (s : State) (k : _), s.past (Timer.idle k) (1000000000 * s.ob ringIx Sub.ring_SESS_IDLE_S) = false) ∧
    (∃ (s : State) (k : _), k < 16 ∧ (s.sessAt k).alive = true ∧ s.claimsOf k = [] ∧
      s.past (Timer.idle k) (1000000000 * s.ob ringIx Sub.ring_SESS_IDLE_S) = true) :=
  ⟨⟨(drained up).put (Ix.lane 0x89) Sub.sLane_CG_ALIGNED 1, 2, 255, 2 ^ 32 - 1, 0, [3, 0, 0, 0] ++ zeros 1697,
      by decide +kernel⟩,
    ⟨sess 15 { ready with st := .handshake, number := 9, port := 2, peerAddr := 255, shake := some { place := 33, init := false, stage := .nonce } } (up.put (Ix.lane 0x89) Sub.sLane_CG_ALIGNED 1), 2, 255, 9, 15, { place := 33, init := false, stage := .nonce }, by decide +kernel⟩,
    ⟨({ up.put (Ix.lane 0x89) Sub.sLane_CG_ALIGNED 1 with rst := { up.rst with coresHeld := true } } : State), 2, 255,
      2 ^ 32 - 1, by decide +kernel⟩,
    ⟨sess15.mark (Timer.idle 15), 15, by decide +kernel⟩,
    ⟨sess15, 15, by decide +kernel⟩⟩

theorem witness_RingCarriesMessages :
    (∃ (s : State) (port : _), s.portHears port = false ∧ port < 3) ∧
    (∃ (s : State) (port : _) (src : _) (n : _), port < 3 ∧ s.portHears port = true ∧ src < 256 ∧ n < 2 ^ 32 ∧
      s.sessOf n = none) ∧
    (∃ (s : State) (port : _) (src : _) (n : _) (payload : Bytes) (k : _), port < 3 ∧ s.portHears port = true ∧ src < 256 ∧
      n < 2 ^ 32 ∧ s.sessOf n = some k ∧ payload.length < 24 ∧ (s.sessAt k).badTags < 15) ∧
    (∃ (s : State) (port : _) (src : _) (n : _) (k : _) (seq : _) (id : _) (mask : _) (key : _) (iv : _) (p : _) (c : _),
      port < 3 ∧ s.portHears port = true ∧ s.parks k false false = false ∧ src < 256 ∧ n < 2 ^ 32 ∧ seq < 2 ^ 64 ∧
      id < 2 ^ 16 ∧ mask < 2 ^ 32 ∧ s.sessOf n = some k ∧ s.readyFor k ∧ 1 ≤ (s.sessAt k).level ∧
      (s.sessAt k).seqOk seq = true ∧ key = be 32 (s.sessAt k).kM2D ∧ iv = zeros 4 ++ be 8 seq ∧ p = [7,
      0] ++ be 2 id ++ be 4 mask ∧ c = gcmCrypt key iv p ∧ gcmCrypt key iv c = p ∧ c.length = 8) ∧
    (∃ (s : State) (b : Bool) (f : Bytes) (port : _), port = (if b then 2 else 1) ∧ s.portHears port = true ∧
      s.acc.joined = true ∧ 30 ≤ f.length ∧ fld (f.drop 14) 4 1 ≠ 0 ∧ fld (f.drop 14) 2 1 ≠ s.ob ringIx Sub.ring_NODE_ADDR ∧
      fld (f.drop 14) 1 1 ≠ 3 ∧ fld (f.drop 14) 1 1 ≠ 4 ∧ s.fwd (3 - port) = []) ∧
    (∃ (s : State) (b : Bool) (f : Bytes) (port : _), port = (if b then 2 else 1) ∧ s.portHears port = true ∧
      s.acc.joined = true ∧ 30 ≤ f.length ∧ fld (f.drop 14) 4 1 ≠ 0 ∧ fld (f.drop 14) 2 1 ≠ s.ob ringIx Sub.ring_NODE_ADDR ∧
      fld (f.drop 14) 1 1 ≠ 3 ∧ fld (f.drop 14) 1 1 ≠ 4 ∧ ((s.fwd (3 - port)).map (·.1.length)).sum + f.length ≤ 12288) ∧
    (∃ (s : State) (b : Bool) (f : Bytes) (port : _), port = (if b then 2 else 1) ∧ s.portHears port = true ∧
      s.acc.joined = true ∧ 30 ≤ f.length ∧ fld (f.drop 14) 4 1 ≠ 0 ∧ fld (f.drop 14) 2 1 ≠ s.ob ringIx Sub.ring_NODE_ADDR ∧
      s.fwd (3 - port) = []) ∧
    (∃ (s : State) (b : Bool) (f : Bytes), s.portHears (if b then 2 else 1) = true ∧ s.acc.joined = true ∧ 30 ≤ f.length ∧
      fld (f.drop 14) 4 1 = 0) ∧
    (∃ (s : State) (b : Bool), s.portHears (if b then 2 else 1) = true ∧ s.fwd (if b then 2 else 1) = []) ∧
    (∃ (s : State) (b : Bool) (src : _) (dev : _) (head : _), s.portHears (if b then 2 else 1) = true ∧
      src = s.ob ringIx Sub.ring_NODE_ADDR ∧ dev ≠ s.deviceId ∧ s.rst.coresHeld = false ∧
      s.ob 0x0300 Sub.evCtl_EV_HEAD = head) :=
  ⟨⟨up, 2, by decide +kernel⟩,
    ⟨ringUp, 2, 255, 2 ^ 32 - 1, by decide +kernel⟩,
    ⟨sess 15 { ready with badTags := 14 } up, 0, 255, 9, zeros 23, 15, by decide +kernel⟩,
    ⟨sess 15 { ready with kM2D := 5 } up, 0, 255, 9, 15, 2 ^ 64 - 1, 2 ^ 16 - 1, 2 ^ 32 - 1, _, _, [7,
      0] ++ be 2 (2 ^ 16 - 1) ++ be 4 (2 ^ 32 - 1), _, meet12 (by decide +kernel) ⟨rfl, rfl, by decide +kernel, rfl,
      by decide +kernel⟩⟩,
    ⟨joined ringUp, true, ringFrame 255 17, 2, by decide +kernel⟩,
    ⟨joined ringUp, true, ringFrame 255 17, 2, by decide +kernel⟩,
    ⟨joined ringUp, false, ringFrame 255 17, 1, by decide +kernel⟩,
    ⟨joined ringUp, true, ringFrame 0 17, by decide +kernel⟩,
    ⟨joined ringUp, true, by decide +kernel⟩,
    ⟨ringUp, false, _, [], _, by decide +kernel, rfl, meet2 (by decide +kernel) rfl⟩⟩

theorem witness_MailboxAndLinkMove :
    (∃ (s : State), s.portsUp = true ∧ s.obB (Ix.lane 0x88) Sub.sLane_CG_ALIGNED = true ∧
      s.obB (Ix.lane 0x89) Sub.sLane_CG_ALIGNED = true ∧ ((s.rst.gap = false ∨ s.rst.straps % 4 = 1)) ∧
      s.gone (mget 0 s.time.since Timer.config) 10000000 = true ∧ s.gone (mget 0 s.time.since Timer.step) 10000000 = true ∧
      s.past (Timer.aligned 0x88) 10000000 = true ∧ s.past (Timer.aligned 0x89) 10000000 = true) ∧
    (∃ (s : State), s.past (Timer.aligned 0x88) 10000000 = false) ∧
    (∃ (s : State) (len : _), s.rst.step = 5 ∧ s.pwr.vigil = false ∧ s.pwr.darkEntry = false ∧ s.inDark = false ∧
      s.acc.h2dBusy = false ∧ 0 < len ∧ len ≤ 28672) ∧
    (∃ (s : State), s.rst.step = 5 ∧ s.pwr.vigil = false ∧ s.acc.h2dBusy = true) ∧
    (∃ (s : State) (m : _) (rest : _), s.acc.toHost = m :: rest) ∧
    (∃ (s : State), s.acc.toHost = []) ∧
    (∃ (s : State) (speed : _) (width : _), s.rst.step = 5 ∧ s.pwr.vigil = false ∧ 1 ≤ speed ∧ speed ≤ 4 ∧
      ((width = 1 ∨ width = 2 ∨ width = 4))) :=
  ⟨⟨ringUp, by decide +kernel⟩,
    ⟨up.mark (Timer.aligned 0x88), by decide +kernel⟩,
    ⟨up, 28672, by decide +kernel⟩,
    ⟨{ up with acc := { up.acc with h2dBusy := true } }, by decide +kernel⟩,
    ⟨{ up with acc := { up.acc with toHost := [(9, [1]), (0, [2])] } }, (9, [1]), [(0, [2])], by decide +kernel⟩,
    ⟨up, by decide +kernel⟩,
    ⟨up, 4, 4, by decide +kernel⟩⟩

theorem witness_RepertoireWorks :
    (∃ (s : State) (c : Caller) (n : Nat) (k : _) (p : _), s.ob rpWinIx Sub.rpWin_RP_INDEX = n ∧ n < 4 ∧
      Starts s c rpWinIx Sub.rpWin_RP_OP Sub.rpWin_RP_STATUS 1 ∧ (s.kekAt 0).valid = true ∧ s.repKey = some k ∧
      p = (s.put rpWinIx Sub.rpWin_RP_OP 1).config) ∧
    (∃ (s : State) (c : Caller) (n : Nat), s.ob rpWinIx Sub.rpWin_RP_INDEX = n ∧ n < 4 ∧
      Starts s c rpWinIx Sub.rpWin_RP_OP Sub.rpWin_RP_STATUS 1 ∧ (s.kekAt 0).valid = false) ∧
    (∃ (s : State) (c : Caller) (n : Nat) (p : _) (w : _), s.ob rpWinIx Sub.rpWin_RP_INDEX = n ∧ n < 4 ∧
      Starts s c rpWinIx Sub.rpWin_RP_OP Sub.rpWin_RP_STATUS 2 ∧ s.anyEnabled = false ∧ s.openProfile n = .ok p ∧
      applyProfile p (s.put rpWinIx Sub.rpWin_RP_OP 2) = (w, .ok)) ∧
    (∃ (s : State) (c : Caller) (n : Nat), s.ob rpWinIx Sub.rpWin_RP_INDEX = n ∧ n < 4 ∧
      Starts s c rpWinIx Sub.rpWin_RP_OP Sub.rpWin_RP_STATUS 2 ∧ s.anyEnabled = true) ∧
    (∃ (s : State) (c : Caller) (n : Nat), s.ob rpWinIx Sub.rpWin_RP_INDEX = n ∧ n < 4 ∧
      Starts s c rpWinIx Sub.rpWin_RP_OP Sub.rpWin_RP_STATUS 3 ∧ s.ob rpIx Sub.rpCtl_RP_ACTIVE ≠ n) ∧
    (∃ (s : State) (c : Caller) (n : Nat), s.ob rpWinIx Sub.rpWin_RP_INDEX = n ∧ n < 4 ∧
      Starts s c rpWinIx Sub.rpWin_RP_OP Sub.rpWin_RP_STATUS 3 ∧ s.ob rpIx Sub.rpCtl_RP_ACTIVE = n) ∧
    (∃ (s : State) (c : Caller) (n : Nat) (p : _), s.ob rpWinIx Sub.rpWin_RP_INDEX = n ∧ n < 4 ∧
      Starts s c rpWinIx Sub.rpWin_RP_OP Sub.rpWin_RP_STATUS 4 ∧ s.openProfile n = .ok p) ∧
    (∃ (s : State) (c : Caller) (n : Nat), s.ob rpWinIx Sub.rpWin_RP_INDEX = n ∧ n < 4 ∧
      Starts s c rpWinIx Sub.rpWin_RP_OP Sub.rpWin_RP_STATUS 5) ∧
    (∃ (s : State) (n : Nat) (p : _) (w : _), s.ob rpWinIx Sub.rpWin_RP_INDEX = n ∧ n < 4 ∧ s.rst.step = 5 ∧
      s.rst.coresHeld = false ∧ s.rst.gap = true ∧ s.paired = false ∧ s.ob rpIx Sub.rpCtl_RP_NEXT = n ∧
      s.openProfile n = .ok p ∧ applyProfile p (s.put rpIx Sub.rpCtl_RP_ACTIVE n) = (w, .ok) ∧ w.paired = false) ∧
    (∃ (s : State) (n : Nat), s.ob rpWinIx Sub.rpWin_RP_INDEX = n ∧ n < 4 ∧
      ((s.rst.step ≠ 5 ∨ s.rst.coresHeld = true ∨ (s.rst.gap = false ∧ s.acc.again = none)))) ∧
    (∃ (s : State) (n : Nat) (st : _), s.ob rpWinIx Sub.rpWin_RP_INDEX = n ∧ n < 4 ∧ s.rst.step = 5 ∧
      s.rst.coresHeld = false ∧ s.rst.gap = true ∧ s.paired = false ∧ s.ob rpIx Sub.rpCtl_RP_NEXT = n ∧
      s.openProfile n = .error st) :=
  ⟨⟨repped 3, .firmware, _, _, _, rfl, meet3 (by decide +kernel) ⟨of_some (by decide +kernel), rfl⟩⟩,
    ⟨(repped 3).putKek 0 {}, .firmware, _, rfl, by decide +kernel⟩,
    ⟨repped 3, .firmware, _, _,
      (applyProfile (((repped 3 : State).openProfile ((repped 3 : State).ob rpWinIx Sub.rpWin_RP_INDEX : Nat)).toOption.get
      (by decide +kernel)) ((repped 3 : State).put rpWinIx Sub.rpWin_RP_OP 2)).1, rfl,
      meet3 (by decide +kernel) ⟨of_ok (by decide +kernel), by decide +kernel⟩⟩,
    ⟨(repped 3).put (Ix.port 31) Sub.port_ENABLE 1, .firmware, _, rfl, by decide +kernel⟩,
    ⟨repped 3, .firmware, _, rfl, by decide +kernel⟩,
    ⟨(repped 3).put rpIx Sub.rpCtl_RP_ACTIVE 3, .firmware, _, meet3 (by decide +kernel) rfl⟩,
    ⟨repped 3, .firmware, _, _, rfl, meet2 (by decide +kernel) (of_ok (by decide +kernel))⟩,
    ⟨repped 3, .firmware, _, rfl, by decide +kernel⟩,
    ⟨{ repped 3 with rst := { up.rst with gap := true } }.put rpIx Sub.rpCtl_RP_NEXT 3, _, _,
      (applyProfile ((({ repped 3 with rst := { up.rst with gap := true } }.put rpIx Sub.rpCtl_RP_NEXT 3 : State).openProfile
      (({ repped 3 with rst := { up.rst with gap := true } }.put rpIx Sub.rpCtl_RP_NEXT 3 : State).ob rpIx Sub.rpCtl_RP_NEXT :
      Nat)).toOption.get (by decide +kernel)) (({ repped 3 with rst := { up.rst with gap := true } }.put rpIx
      Sub.rpCtl_RP_NEXT 3 : State).put rpIx Sub.rpCtl_RP_ACTIVE 3)).1, meet6 (by decide +kernel) ⟨rfl,
      of_ok (by decide +kernel), by decide +kernel⟩⟩,
    ⟨up, _, rfl, by decide +kernel⟩,
    ⟨{ (repped 3).putKek 0 {} with rst := { up.rst with gap := true } }.put rpIx Sub.rpCtl_RP_NEXT 3, _, .notReady,
      meet6 (by decide +kernel) ⟨rfl, by decide +kernel⟩⟩⟩

theorem witness_MemoryAccessesEnd :
    (∃ (s : State) (u : State) (x : DdrAccess) (changed : List (Nat × Bytes)) (bad : List Nat),
      (ddrDisturb changed bad s).addOb ddrIx Sub.ddr_DDR_CE 64 x.fixed = u ∧
      u.ddrPermits x.master (u.ddrPlace x.addr) x.data.isSome = false) ∧
    (∃ (s : State) (u : State) (x : DdrAccess) (changed : List (Nat × Bytes)) (bad : List Nat),
      (ddrDisturb changed bad s).addOb ddrIx Sub.ddr_DDR_CE 64 x.fixed = u ∧
      u.ddrPermits x.master .free x.data.isSome = true ∧ u.ddrPlace x.addr = .free ∧ u.burstBad x.addr = false ∧
      x.data = none) ∧
    (∃ (s : State) (u : State) (x : DdrAccess) (changed : List (Nat × Bytes)) (bad : List Nat) (d : _),
      (ddrDisturb changed bad s).addOb ddrIx Sub.ddr_DDR_CE 64 x.fixed = u ∧
      u.ddrPermits x.master .free x.data.isSome = true ∧ u.ddrPlace x.addr = .free ∧ u.burstBad x.addr = false ∧
      x.data = some d) ∧
    (∃ (s : State) (u : State) (x : DdrAccess) (changed : List (Nat × Bytes)) (bad : List Nat) (r : _) (k : _),
      (ddrDisturb changed bad s).addOb ddrIx Sub.ddr_DDR_CE 64 x.fixed = u ∧ x.master = .cores ∧
      u.ddrPlace x.addr = .data r k ∧ (u.rangeAt r).lostAt (k / 64) = true) ∧
    (∃ (s : State) (u : State) (x : DdrAccess) (changed : List (Nat × Bytes)) (bad : List Nat) (r : _) (k : _) (ctr : _) (p :
      _) (st : _), (ddrDisturb changed bad s).addOb ddrIx Sub.ddr_DDR_CE 64 x.fixed = u ∧ x.master = .cores ∧ x.data = none ∧
      u.ddrPlace x.addr = .data r k ∧ (u.rangeAt r).lostAt (k / 64) = false ∧ u.cacheGet r 0 (k / 64) = some ctr ∧
      u.checkLine r ((u.rangeAt r).keysFor (k / 64)) k ctr = (p, st) ∧
      (((u.rangeAt r).st ≠ 2 ∨ (u.rangeAt r).epoch < s.ob mgIx Sub.guard_EPOCH_REKEY_AT)) ∧ st = 0) ∧
    (∃ (s : State) (u : State) (x : DdrAccess) (changed : List (Nat × Bytes)) (bad : List Nat) (r : _) (k : _) (ctr : _) (p :
      _) (st : _), (ddrDisturb changed bad s).addOb ddrIx Sub.ddr_DDR_CE 64 x.fixed = u ∧ x.master = .cores ∧ x.data = none ∧
      u.ddrPlace x.addr = .data r k ∧ (u.rangeAt r).lostAt (k / 64) = false ∧ u.cacheGet r 0 (k / 64) = some ctr ∧
      u.checkLine r ((u.rangeAt r).keysFor (k / 64)) k ctr = (p, st) ∧
      (((u.rangeAt r).st ≠ 2 ∨ (u.rangeAt r).epoch < s.ob mgIx Sub.guard_EPOCH_REKEY_AT)) ∧ st = 2 ∧ u.watched 0x38 = true) :=
  ⟨⟨ranged 0 id, _, ⟨.lookaside, 2 ^ 21, none, 3⟩, [], [], rfl, by decide +kernel⟩,
    ⟨ranged 0 id, _, ⟨.lookaside, 2 ^ 22, none, 3⟩, [], [], rfl, by decide +kernel⟩,
    ⟨ranged 0 id, _, ⟨.lookaside, 2 ^ 22 + 63, some [1], 3⟩, [], [], [1], rfl, by decide +kernel⟩,
    ⟨ranged 0 (fun y => { y with st := 5 }), _, ⟨.cores, 2 ^ 22 - 64, none, 3⟩, [], [], 15, 32767, rfl, by decide +kernel⟩,
    ⟨storeLine 15 (3, 4) 0 (zeros 64) (padTo 64 [1, 2]) false (ranged 0 id), _, ⟨.cores, 2 ^ 21, none, 3⟩, [], [], 15, 0, _,
      (((ddrDisturb ([] : List (Nat × Bytes)) ([] : List Nat) (storeLine 15 (3, 4) 0 (zeros 64) (padTo 64 [1,
      2]) false (ranged 0 id) : State)).addOb ddrIx Sub.ddr_DDR_CE 64 (⟨.cores, 2 ^ 21, none,
      3⟩ : DdrAccess).fixed : State).checkLine 15 ((((ddrDisturb ([] : List (Nat × Bytes)) ([] : List Nat) (storeLine 15 (3,
      4) 0 (zeros 64) (padTo 64 [1, 2]) false (ranged 0 id) : State)).addOb ddrIx Sub.ddr_DDR_CE 64 (⟨.cores, 2 ^ 21, none,
      3⟩ : DdrAccess).fixed : State).rangeAt 15).keysFor (0 / 64)) 0 ((((ddrDisturb ([] : List (Nat × Bytes)) ([] : List Nat)
      (storeLine 15 (3, 4) 0 (zeros 64) (padTo 64 [1,
      2]) false (ranged 0 id) : State)).addOb ddrIx Sub.ddr_DDR_CE 64 (⟨.cores, 2 ^ 21, none,
      3⟩ : DdrAccess).fixed : State).cacheGet 15 0 (0 / 64)).get (by decide +kernel))).1, 0, rfl,
      meet4 (by decide +kernel) ⟨of_some (by decide +kernel), by decide +kernel⟩⟩,
    ⟨storeLine 15 (3, 4) 0 (zeros 64) (padTo 64 [1, 2]) false (ranged 0 id), _, ⟨.cores, 2 ^ 21, none, 3⟩, [(2 ^ 21,
      zeros 64)], [], 15, 0, _, (((ddrDisturb ([(2 ^ 21, zeros 64)] : List (Nat × Bytes)) ([] : List Nat) (storeLine 15 (3,
      4) 0 (zeros 64) (padTo 64 [1, 2]) false (ranged 0 id) : State)).addOb ddrIx Sub.ddr_DDR_CE 64 (⟨.cores, 2 ^ 21, none,
      3⟩ : DdrAccess).fixed : State).checkLine 15 ((((ddrDisturb ([(2 ^ 21,
      zeros 64)] : List (Nat × Bytes)) ([] : List Nat) (storeLine 15 (3, 4) 0 (zeros 64) (padTo 64 [1,
      2]) false (ranged 0 id) : State)).addOb ddrIx Sub.ddr_DDR_CE 64 (⟨.cores, 2 ^ 21, none,
      3⟩ : DdrAccess).fixed : State).rangeAt 15).keysFor (0 / 64)) 0 ((((ddrDisturb ([(2 ^ 21,
      zeros 64)] : List (Nat × Bytes)) ([] : List Nat) (storeLine 15 (3, 4) 0 (zeros 64) (padTo 64 [1,
      2]) false (ranged 0 id) : State)).addOb ddrIx Sub.ddr_DDR_CE 64 (⟨.cores, 2 ^ 21, none,
      3⟩ : DdrAccess).fixed : State).cacheGet 15 0 (0 / 64)).get (by decide +kernel))).1, 2, rfl,
      meet4 (by decide +kernel) ⟨of_some (by decide +kernel), by decide +kernel⟩⟩⟩

theorem witness_RangesAreRekeyed :
    (∃ (s : State) (r : Nat) (g : GRange), r < 16 ∧ s.rangeAt r = g ∧
      s.past Timer.page (s.pageNs ((g.split.map (·.1)).getD false)) = false ∧ ¬(g.st = 3 ∧ g.epoch = 2 ^ 32 - 1)) ∧
    (∃ (s : State) (r : Nat) (g : GRange) (b : _) (w : _), r < 16 ∧ s.rangeAt r = g ∧ g.split = some (false, b) ∧
      g.valid = true ∧ g.st = 3 ∧ s.dark = false ∧ s.rst.gap = false ∧ s.past Timer.page (s.pageNs false) = true ∧
      rewritePage r b (g.kd, g.km) (g.kdNew, g.kmNew) (s.mark Timer.page) = .ok w ∧ b + 1 < g.pages) ∧
    (∃ (s : State) (r : Nat) (g : GRange) (b : _) (w : _), r < 16 ∧ s.rangeAt r = g ∧ g.split = some (false, b) ∧
      g.valid = true ∧ g.st = 3 ∧ s.dark = false ∧ s.rst.gap = false ∧ s.past Timer.page (s.pageNs false) = true ∧
      rewritePage r b (g.kd, g.km) (g.kdNew, g.kmNew) (s.mark Timer.page) = .ok w ∧ b + 1 = g.pages ∧
      g.epochNew < s.ob mgIx Sub.guard_EPOCH_REKEY_AT) ∧
    (∃ (s : State) (r : Nat) (g : GRange), r < 16 ∧ s.rangeAt r = g ∧ s.past (Timer.seed r) 10000000 = false) ∧
    (∃ (s : State) (r : Nat) (g : GRange), r < 16 ∧ s.rangeAt r = g ∧ g.retry = true ∧ g.st = 2 ∧
      s.past (Timer.seed r) 10000000 = true ∧ s.drawsNow 64) ∧
    (∃ (s : State) (r : Nat) (g : GRange) (c : _), r < 16 ∧ s.rangeAt r = g ∧
      Starts s c (rangeIx r) Sub.range_RG_OP Sub.range_RG_STATUS 1 ∧ g.valid = true ∧ g.st = 2 ∧ s.drawsNow 64) ∧
    (∃ (s : State) (r : Nat) (g : GRange) (c : _), r < 16 ∧ s.rangeAt r = g ∧
      Starts s c (rangeIx r) Sub.range_RG_OP Sub.range_RG_STATUS 1 ∧ g.valid = true ∧ ((g.st = 1 ∨ g.st = 3))) ∧
    (∃ (s : State) (r : Nat) (g : GRange) (c : _), r < 16 ∧ s.rangeAt r = g ∧
      Starts s c (rangeIx r) Sub.range_RG_OP Sub.range_RG_STATUS 2 ∧ g.valid = true ∧
      ((g.keyBearing = true → s.alm.latch < 3)) ∧ s.drawsNow 96) ∧
    (∃ (s : State) (r : Nat) (g : GRange), r < 16 ∧ s.rangeAt r = g ∧ s.past Timer.patrol s.patrolNs = false) ∧
    (∃ (s : State) (r : Nat) (g : GRange), r < 16 ∧ s.rangeAt r = g ∧ s.dark = false ∧ 0 < s.bursts ∧
      s.past Timer.patrol s.patrolNs = true ∧ s.burstBad (64 * s.guard.patrol) = false) ∧
    (∃ (s : State) (r : Nat) (g : GRange), r < 16 ∧ s.rangeAt r = g ∧ s.dark = false ∧ 0 < s.bursts ∧
      s.past Timer.patrol s.patrolNs = true) :=
  ⟨⟨young, 15, _, by decide +kernel, rfl, by decide +kernel⟩,
    ⟨ranged 510 (fun y => { y with st := 3, split := some (false, 510) }), 15, _, 510, _, by decide +kernel, rfl,
      meet6 (by decide +kernel) ⟨of_ok (by decide +kernel), by decide +kernel⟩⟩,
    ⟨ranged 511 (fun y => { y with st := 3, split := some (false, 511) }), 15, _, 511, _, by decide +kernel, rfl,
      meet6 (by decide +kernel) ⟨of_ok (by decide +kernel), by decide +kernel⟩⟩,
    ⟨up.mark (Timer.seed 15), 15, _, by decide +kernel, rfl, by decide +kernel⟩,
    ⟨random (ranged 0 (fun y => { y with retry := true })), 15, _, by decide +kernel, rfl, by decide +kernel⟩,
    ⟨random (ranged 0 id), 15, _, .firmware, by decide +kernel, rfl, by decide +kernel⟩,
    ⟨ranged 0 (fun y => { y with st := 1 }), 15, _, .firmware, by decide +kernel, rfl, by decide +kernel⟩,
    ⟨random (ranged 0 id), 15, _, .firmware, by decide +kernel, rfl, by decide +kernel⟩,
    ⟨ddrUp.mark Timer.patrol, 15, _, by decide +kernel, rfl, by decide +kernel⟩,
    ⟨ddrUp, 15, _, by decide +kernel, rfl, by decide +kernel⟩,
    ⟨ddrUp, 15, _, by decide +kernel, rfl, by decide +kernel⟩⟩

theorem witness_SourcesAreRaised :
    (∃ (s : State), s.pwr.vigil = false ∧ s.inDark = false) ∧
    (∃ (s : State) (src : _) (rail : _) (v : _), s.tripHolds src rail v = true ∧ src ≠ 0x0C ∧ src ≠ 0x0D ∧
      s.watched src = true ∧ s.inDark = false) ∧
    (∃ (s : State) (key : Bool) (transfer : _) (sink : _) (code : _), busCode transfer sink ≠ code ∧
      s.watched (if key then 0x10 else 0x0F) = true) ∧
    (∃ (s : State) (src : _), src ∈ s.alm.active) :=
  ⟨⟨up.put 0x4C00 Sub.alarm_TAMPER_DEBOUNCE 1, by decide +kernel⟩,
    ⟨up, 0x0A, 0, 0, by decide +kernel⟩,
    ⟨up, true, [1, 2], 7, 0, by decide +kernel⟩,
    ⟨raised 0x0A up, 0x0A, by decide +kernel⟩⟩

theorem witness_ResponsesAct :
    (∃ (s : State) (src : _) (d : _) (m : _), s.alm.raised = [(src, d, m)] ∧ s.pwr.darkEntry = false ∧ s.pwr.vigil = false ∧
      s.inDark = false ∧ s.actAs src m ≤ 1) ∧
    (∃ (s : State) (src : _) (d : _) (m : _), s.alm.raised = [(src, d, m)] ∧ s.pwr.darkEntry = false ∧ s.pwr.vigil = false ∧
      s.inDark = false ∧ s.actAs src m = 3 ∧ s.alm.latch < 3) ∧
    (∃ (s : State), s.alm.raised = []) ∧
    (∃ (s : State), s.alm.zeroising = 3) ∧
    (∃ (s : State), s.alm.zeroising = 4 ∧ s.pwr.vigil = false) ∧
    (∃ (s : State), s.alm.clearReset = true ∧ s.past Timer.clear 100000 = true ∧ s.pwr.vigil = false) ∧
    (∃ (s : State), ((s.alm.clearReset = false ∨ s.past Timer.clear 100000 = false))) :=
  ⟨⟨cls 0x0A 1 (raised 0x0A up), 0x0A, 0, false, by decide +kernel⟩,
    ⟨cls 0x0A 3 (raised 0x0A (latched 2 sess15)), 0x0A, 0, false, by decide +kernel⟩,
    ⟨up, by decide +kernel⟩,
    ⟨{ up with alm := { up.alm with zeroising := 3 } }, by decide +kernel⟩,
    ⟨{ up with alm := { up.alm with zeroising := 4 } }, by decide +kernel⟩,
    ⟨{ up with alm := { up.alm with clearReset := true } }, by decide +kernel⟩,
    ⟨up, by decide +kernel⟩⟩

theorem witness_AlarmWindowOperates :
    (∃ (s : State) (c : Caller), Starts s c 0x4C01 Sub.almWin_ALM_OP Sub.almWin_ALM_STATUS 1) ∧
    (∃ (s : State) (c : Caller), Starts s c 0x4C01 Sub.almWin_ALM_OP Sub.almWin_ALM_STATUS 2 ∧ s.alm.latch ≠ 0 ∧
      (∀ x ∈ s.alm.active, s.actClass x < s.alm.latch)) ∧
    (∃ (s : State) (c : Caller) (x : _), Starts s c 0x4C01 Sub.almWin_ALM_OP Sub.almWin_ALM_STATUS 2 ∧ s.alm.latch ≠ 0 ∧
      x ∈ s.alm.active ∧ s.alm.latch ≤ s.actClass x) ∧
    (∃ (s : State) (c : Caller) (src : _), Starts s c 0x4C01 Sub.almWin_ALM_OP Sub.almWin_ALM_STATUS 3 ∧
      s.ob 0x4C01 Sub.almWin_ALM_SOURCE = src ∧ s.vendorOrOwned = true ∧ (sourceInfo src).isSome = true ∧
      src ∉ s.fuse.disabled) ∧
    (∃ (s : State) (c : Caller), Starts s c 0x4C01 Sub.almWin_ALM_OP Sub.almWin_ALM_STATUS 3 ∧ s.vendorOrOwned = false) ∧
    (∃ (s : State) (c : Caller) (n : _), Starts s c 0x4C01 Sub.almWin_ALM_OP Sub.almWin_ALM_STATUS 4 ∧
      s.ob 0x4C01 Sub.almWin_ALM_ARG = n ∧ 60 ≤ n ∧ n ≤ 14400) ∧
    (∃ (s : State), s.maintLeft ≠ 0) ∧
    (∃ (s : State), s.maintLeft = 0) ∧
    (∃ (s : State) (c : Caller) (r : _), Starts s c 0x4C02 Sub.alWin_AL_OP Sub.alWin_AL_STATUS 1 ∧
      mfind s.alm.log (s.ob 0x4C02 Sub.alWin_AL_SEQ) = some r ∧ fld r 2 1 ∉ s.fuse.disabled) ∧
    (∃ (s : State) (c : Caller), Starts s c 0x4C02 Sub.alWin_AL_OP Sub.alWin_AL_STATUS 1 ∧
      mfind s.alm.log (s.ob 0x4C02 Sub.alWin_AL_SEQ) = none) :=
  ⟨⟨raised 0x0A up, .firmware, by decide +kernel⟩,
    ⟨latched 3 (cls 0x0A 2 (raised 0x0A up)), .firmware, by decide +kernel⟩,
    ⟨latched 3 (cls 0x0A 3 (raised 0x0A up)), .firmware, 0x0A, by decide +kernel⟩,
    ⟨(raised 0x0A up).put 0x4C01 Sub.almWin_ALM_SOURCE 0x0A, .firmware, _, by decide +kernel, rfl, by decide +kernel⟩,
    ⟨{ up with fuse := { up.fuse with lc := 3 } }, .firmware, by decide +kernel⟩,
    ⟨up.put 0x4C01 Sub.almWin_ALM_ARG 14400, .firmware, _, by decide +kernel, rfl, by decide +kernel⟩,
    ⟨{ up with alm := { up.alm with maintEnd := some 1 } }, by decide +kernel⟩,
    ⟨{ up with alm := { up.alm with maintEnd := some 0 } }, by decide +kernel⟩,
    ⟨{ up.put 0x4C02 Sub.alWin_AL_SEQ 9 with alm := { up.alm with log := [(9, zeros 16)] } }, .firmware, _, by decide +kernel,
      of_some (by decide +kernel), by decide +kernel⟩,
    ⟨up.put 0x4C02 Sub.alWin_AL_SEQ 9, .firmware, by decide +kernel⟩⟩

theorem witness_PowerChangesRun :
    (∃ (s : State) (c : Caller), Accepted s c 0x0400 Sub.power_PWR_REQ 1 ∧ s.pwrBusy 0 = false ∧
      s.ob 0x0400 Sub.power_PWR_STATE = 1) ∧
    (∃ (s : State) (c : Caller), Accepted s c 0x0400 Sub.power_PWR_REQ 2 ∧ s.pwrBusy 1 = false ∧
      s.ob 0x0400 Sub.power_PWR_STATE = 0) ∧
    (∃ (s : State) (c : Caller), Accepted s c 0x0400 Sub.power_PWR_REQ 2 ∧ s.pwrBusy 1 = true) ∧
    (∃ (s : State) (sl : _), ((s.pllsLocked = false ∨ s.drained sl = false))) ∧
    (∃ (s : State) (ch : _) (sl : _) (rest : _), s.pllsLocked = true ∧ s.drained sl = true ∧ s.pwr.change = some ch ∧
      ch.slices = sl :: rest ∧ ((s.ob 0x0400 Sub.power_PP_PHASE = 1 ∨ s.ob 0x0400 Sub.power_PP_PHASE = 4)) ∧ rest ≠ []) ∧
    (∃ (s : State) (ch : _) (sl : _), s.pllsLocked = true ∧ s.drained sl = true ∧ s.pwr.change = some ch ∧ ch.slices = [sl] ∧
      s.ob 0x0400 Sub.power_PP_PHASE = 1) ∧
    (∃ (s : State) (ch : _) (sl : _) (mv : _), s.pwr.change = some ch ∧ ch.slices = [sl] ∧
      s.ob 0x0400 Sub.power_PP_PHASE = 3 ∧ setPoint ch.point ≤ mv + 10) ∧
    (∃ (s : State) (ch : _) (mv : _), s.pwr.change = some ch ∧ s.ob 0x0400 Sub.power_PP_PHASE = 2 ∧ mv ≤ setPoint ch.point) ∧
    (∃ (s : State), s.past Timer.volt (1000 * s.ob 0x0400 Sub.power_PP_VOLT_TIMEOUT_US) = false) ∧
    (∃ (s : State) (ch : _) (i : Instr), ((i = .ppVoltTimeout ∧
      s.past Timer.volt (1000 * s.ob 0x0400 Sub.power_PP_VOLT_TIMEOUT_US) = true ∨ i = .pmbAlert)) ∧ s.pwr.change = some ch ∧
      s.ob 0x0400 Sub.power_PP_PHASE = 3) ∧
    (∃ (s : State), s.pwr.change = none) ∧
    (∃ (s : State), s.pwr.change = none) :=
  ⟨⟨up.put 0x0400 Sub.power_PWR_STATE 1, .firmware, by decide +kernel⟩,
    ⟨up, .firmware, by decide +kernel⟩,
    ⟨changing 1 1 0 1 [3], .firmware, by decide +kernel⟩,
    ⟨up.mark Timer.ref, 3, by decide +kernel⟩,
    ⟨changing 1 1 0 1 [2, 3], { who := 0, state := 1, point := 1, old := 0, slices := [2, 3] }, 2, [3], by decide +kernel⟩,
    ⟨changing 1 1 0 1 [3], { who := 0, state := 1, point := 1, old := 0, slices := [3] }, 3, by decide +kernel⟩,
    ⟨changing 0 0 1 3 [3], { who := 0, state := 0, point := 0, old := 1, slices := [3] }, 3, 740, by decide +kernel⟩,
    ⟨changing 1 1 0 2 [], { who := 0, state := 1, point := 1, old := 0, slices := [] }, 700, by decide +kernel⟩,
    ⟨(changing 0 0 1 3 [3]).mark Timer.volt, by decide +kernel⟩,
    ⟨changing 0 0 1 3 [3], { who := 0, state := 0, point := 0, old := 1, slices := [3] }, .pmbAlert, by decide +kernel⟩,
    ⟨up, by decide +kernel⟩,
    ⟨up, by decide +kernel⟩⟩

theorem witness_DarkAndClocks_1 :
    (∃ (s : State) (c : Caller), Accepted s c 0x0400 Sub.power_PWR_REQ 3 ∧ s.pwrBusy 2 = false) ∧
    (∃ (s : State), s.pwr.darkEntry = true ∧ s.pwr.porstFell = false ∧ s.pwr.wake = none) ∧
    (∃ (s : State), s.past Timer.sample (1000 * s.ob 0x0401 Sub.dark_DARK_SAMPLE_US) = false) ∧
    (∃ (s : State) (hb : _), s.inDark = true ∧ s.past Timer.sample (1000 * s.ob 0x0401 Sub.dark_DARK_SAMPLE_US) = true ∧
      ((s.ob 0x0401 Sub.dark_DARK_EXP_HB = 1 ∧ hb = false ∨ s.ob 0x0401 Sub.dark_DARK_EXP_HB = 2 ∧ hb = true))) ∧
    (∃ (s : State) (los : _), s.inDark = true ∧ s.past Timer.sample (1000 * s.ob 0x0401 Sub.dark_DARK_SAMPLE_US) = true ∧
      s.ob 0x0401 Sub.dark_DARK_EXP_HB = 0 ∧ s.pwr.porstFell = false ∧
      (los ^^^ s.ob 0x0401 Sub.dark_DARK_EXP_LOS) &&& s.ob 0x0401 Sub.dark_DARK_LOS_CARE = 0) ∧
    (∃ (s : State), s.past Timer.dark (1000000000 * s.ob 0x0401 Sub.dark_DARK_WAKE_S) = false) ∧
    (∃ (s : State), s.inDark = true ∧ s.ob 0x0401 Sub.dark_DARK_WAKE_S ≠ 0 ∧
      s.past Timer.dark (1000000000 * s.ob 0x0401 Sub.dark_DARK_WAKE_S) = true) ∧
    (∃ (s : State) (c : Caller) (sl : _), sl < 4 ∧ s.changing = false ∧
      Accepted s c (0x0410 + sl) Sub.slicePwr_SLICE_POWER 1 ∧ s.sliceInUse sl = false) ∧
    (∃ (s : State) (c : Caller) (sl : _), sl < 4 ∧ s.changing = false ∧
      Accepted s c (0x0410 + sl) Sub.slicePwr_SLICE_POWER 1 ∧ s.sliceInUse sl = true) ∧
    (∃ (s : State) (c : Caller) (sl : _), sl < 4 ∧ s.changing = false ∧
      Accepted s c (0x0410 + sl) Sub.slicePwr_SLICE_POWER 0 ∧ s.ob (0x0410 + sl) Sub.slicePwr_SLICE_POWER_NOW = 1) ∧
    (∃ (s : State) (sl : _) (a : _) (b : _), s.sliceOn sl = true ∧ s.ob (0x0410 + sl) Sub.slicePwr_SLICE_POWER_NOW = 2 ∧
      8 ≤ passing a ∧ 8 ≤ passing b) ∧
    (∃ (s : State), s.pwr.vigil = false) :=
  ⟨⟨up, .firmware, by decide +kernel⟩,
    ⟨{ up with pwr := { up.pwr with darkEntry := true } }, by decide +kernel⟩,
    ⟨darkUp.mark Timer.sample, by decide +kernel⟩,
    ⟨darkUp.put 0x0401 Sub.dark_DARK_EXP_HB 1, false, by decide +kernel⟩,
    ⟨darkUp, 0, by decide +kernel⟩,
    ⟨(darkUp.put 0x0401 Sub.dark_DARK_WAKE_S 1).mark Timer.dark, by decide +kernel⟩,
    ⟨darkUp.put 0x0401 Sub.dark_DARK_WAKE_S 1, by decide +kernel⟩,
    ⟨up, .firmware, 3, by decide +kernel⟩,
    ⟨up.put (Ix.port 31) Sub.port_ENABLE 1, .firmware, 3, by decide +kernel⟩,
    ⟨up.put 0x0413 Sub.slicePwr_SLICE_POWER_NOW 1, .firmware, 3, by decide +kernel⟩,
    ⟨up.put 0x0413 Sub.slicePwr_SLICE_POWER_NOW 2, 3, 255, 510, by decide +kernel⟩,
    ⟨sess15, by decide +kernel⟩⟩

theorem witness_DarkAndClocks_2 :
    (∃ (s : State) (i : _), i < 2 ∧ s.ob 0x0600 Sub.clocks_REFCLK_ACTIVE = i ∧ s.clkMode = 1 ∧
      bit (s.ob 0x0600 Sub.clocks_REFCLK_OK) (1 - i) = true) ∧
    (∃ (s : State) (i : _), i < 2 ∧ s.ob 0x0600 Sub.clocks_REFCLK_ACTIVE = i ∧ s.clkMode ≠ 1 ∧ s.watched 0x0B = true) ∧
    (∃ (s : State), s.clkMode = 1 ∧ s.obB 0x0600 Sub.clocks_REFCLK_REVERT = true ∧
      s.ob 0x0600 Sub.clocks_REFCLK_ACTIVE = 1) :=
  ⟨⟨clocked 1, 1, by decide +kernel⟩,
    ⟨{ clocked 1 with rst := { (clocked 1).rst with straps := 0 } }, 1, by decide +kernel⟩,
    ⟨clocked 1, by decide +kernel⟩⟩

theorem witness_ResetsClear_1 :
    (∃ (s : State) (ns : _), s.pwr.vigil = false ∧ ns < 1000) ∧
    (∃ (s : State) (ns : _), s.pwr.vigil = false ∧ 1000 ≤ ns) ∧
    (∃ (s : State) (ns : _), s.pwr.vigil = false ∧ ns < 10000) ∧
    (∃ (s : State) (ns : _), s.pwr.vigil = false ∧ 10000 ≤ ns ∧ s.dark = false) ∧
    (∃ (s : State) (ns : _), s.pwr.vigil = false ∧ 10000 ≤ ns ∧ s.dark = true) ∧
    (∃ (s : State) (b : _), b < 12 ∧ s.pwr.vigil = false) ∧
    (∃ (s : State) (b : _), b < 12 ∧ s.pwr.vigil = false ∧ s.rst.step = 5) ∧
    (∃ (s : State), s.pwr.vigil = false ∧ s.rst.step = 5) ∧
    (∃ (s : State) (n : _) (rest : _), s.pwr.vigil = false ∧ s.rst.step = 5 ∧ s.gone n 100000 = true ∧ s.rst.resetDue = (1,
      n) :: rest) ∧
    (∃ (s : State) (n : _) (rest : _), s.pwr.vigil = false ∧ s.gone n 100000 = true ∧ s.rst.resetDue = (2, n) :: rest) ∧
    (∃ (s : State), s.rst.resetDue.all (fun x => !s.gone x.2 100000) = true) ∧
    (∃ (s : State), s.pwr.vigil = false ∧ s.rst.step ≠ 5) :=
  ⟨⟨up, 999, by decide +kernel⟩,
    ⟨sess15, 1000, by decide +kernel⟩,
    ⟨up, 9999, by decide +kernel⟩,
    ⟨sess15, 10000, by decide +kernel⟩,
    ⟨darkUp, 10000, by decide +kernel⟩,
    ⟨sess15, 11, by decide +kernel⟩,
    ⟨sess15, 7, by decide +kernel⟩,
    ⟨sess15, by decide +kernel⟩,
    ⟨{ sess15 with rst := { sess15.rst with resetDue := [(1, 5), (2, 10 ^ 12)] } }, 5, [(2, 10 ^ 12)], by decide +kernel⟩,
    ⟨{ sess15 with rst := { sess15.rst with resetDue := [(2, 5)] } }, 5, [], by decide +kernel⟩,
    ⟨{ sess15 with rst := { sess15.rst with resetDue := [(2, 10 ^ 12)] } }, by decide +kernel⟩,
    ⟨stepped 3, by decide +kernel⟩⟩

theorem witness_ResetsClear_2 :
    (∃ (s : State), s.past Timer.boot (1000000 * s.ob fwIx Sub.fwWdt_WDT_TIMEOUT_MS) = false) ∧
    (∃ (s : State), s.pwr.vigil = false ∧ s.rst.step = 5 ∧ s.rst.coresHeld = false ∧ s.rst.lastWdt = none ∧
      s.past Timer.boot (1000000 * s.ob fwIx Sub.fwWdt_WDT_TIMEOUT_MS) = true) ∧
    (∃ (s : State) (n : _), s.pwr.vigil = false ∧ s.rst.coresHeld = false ∧ s.rst.lastWdt = some n ∧
      s.time.periods ≤ n + 7500000000 ∧ s.past Timer.boot (1000000 * s.ob fwIx Sub.fwWdt_WDT_TIMEOUT_MS) = true) :=
  ⟨⟨up.mark Timer.boot, by decide +kernel⟩,
    ⟨{ up with rst := { up.rst with lastWdt := none } }, by decide +kernel⟩,
    ⟨{ up with rst := { up.rst with lastWdt := some (10 ^ 12 - 7500000000) } }, 10 ^ 12 - 7500000000, by decide +kernel⟩⟩

theorem witness_PowerUpAndBoot_1 :
    (∃ (s : State), s.pwr.vigil = false ∧ s.rst.step = 1) ∧
    (∃ (s : State), s.pwr.vigil = false ∧ s.rst.step = 2) ∧
    (∃ (s : State), s.pwr.vigil = false ∧ s.rst.step = 3 ∧ s.resetHeld = true) ∧
    (∃ (s : State), s.pwr.vigil = false ∧ s.rst.step = 3 ∧ s.resetHeld = false) ∧
    (∃ (s : State), s.pwr.vigil = false ∧ s.rst.step = 3 ∧ s.resetHeld = false) ∧
    (∃ (s : State), s.pwr.vigil = false ∧ s.resetHeld = false) ∧
    (∃ (s : State), s.pwr.vigil = false ∧ s.past Timer.step s.stepNs = false) ∧
    (∃ (s : State) (code : _), s.pwr.vigil = false ∧ s.past Timer.step s.stepNs = true ∧
      ((s.rst.step = 1 ∨ s.rst.step = 2 ∨ (s.rst.step = 3 ∧ code ≠ 4 ∧ code ≠ 5)))) ∧
    (∃ (s : State), s.pwr.vigil = false ∧ s.rst.step = 0 ∧ s.past Timer.step 1000000000 = true) ∧
    (∃ (s : State) (dom : _) (i : _) (k : _), s.pwr.vigil = false ∧ k = dom * 256 + i % 256) ∧
    (∃ (s : State) (dom : _) (i : _) (k : _), s.pwr.vigil = false ∧ k = dom * 256 + i % 256 ∧ k ∉ s.rst.clockOff ∧
      s.rst.step = 5) :=
  ⟨⟨stepped 1, by decide +kernel⟩,
    ⟨stepped 2, by decide +kernel⟩,
    ⟨{ stepped 3 with time := State.reset.time }, by decide +kernel⟩,
    ⟨stepped 3, by decide +kernel⟩,
    ⟨stepped 3, by decide +kernel⟩,
    ⟨stepped 3, by decide +kernel⟩,
    ⟨(stepped 3).mark Timer.step, by decide +kernel⟩,
    ⟨stepped 3, 3, by decide +kernel⟩,
    ⟨stepped 0, by decide +kernel⟩,
    ⟨{ up with rst := { up.rst with clockOff := [513], deferred := [513] } }, 2, 1, 513, by decide +kernel⟩,
    ⟨up, 2, 257, 513, by decide +kernel⟩⟩

theorem witness_PowerUpAndBoot_2
    (h : AllVerify) :
    ∃ (s : State) (b : _), s.pwr.vigil = false ∧ s.bootRuns [] = true ∧ s.toForm [] = [] ∧ s.rst.straps % 4 = 0 ∧
      s.clkMode ≠ 3 ∧ s.rst.ddr = none ∧ s.rst.waiting = false ∧ s.rst.try_ = 0xFF ∧ (s.slotAt' s.rst.active).image = b ∧
      s.imageOk b = true :=
  ⟨booting image, _, meet8 (by decide +kernel) ⟨rfl, h.image (by decide +kernel) (by decide +kernel) (by decide +kernel)⟩⟩

theorem witness_PowerUpAndBoot_3 :
    ∃ (s : State) (b : _), s.pwr.vigil = false ∧ s.bootRuns [] = true ∧ s.toForm [] = [] ∧ s.rst.straps % 4 = 0 ∧
      s.clkMode ≠ 3 ∧ s.rst.ddr = none ∧ s.rst.waiting = false ∧ s.rst.try_ = 0xFF ∧ (s.slotAt' s.rst.active).image = b ∧
      s.imageOk b = false ∧ s.imageOk (s.slotAt' (1 - s.rst.active)).image = false :=
  ⟨booting [], _, meet8 (by decide +kernel) ⟨rfl, by decide +kernel⟩⟩

theorem witness_BlocksAndActivation :
    (∃ (s : State) (c : Caller) (kind : _) (i : _), Starts s c blkIx Sub.blkWin_BLK_OP Sub.blkWin_BLK_STATUS 1 ∧
      s.ob blkIx Sub.blkWin_BLK_KIND = kind ∧ s.ob blkIx Sub.blkWin_BLK_INDEX = i ∧ s.blockHere kind i = true ∧
      s.blockIdle kind i = true) ∧
    (∃ (s : State) (c : Caller) (kind : _) (i : _), Starts s c blkIx Sub.blkWin_BLK_OP Sub.blkWin_BLK_STATUS 1 ∧
      s.ob blkIx Sub.blkWin_BLK_KIND = kind ∧ s.ob blkIx Sub.blkWin_BLK_INDEX = i ∧ s.blockHere kind i = true ∧
      s.blockIdle kind i = false) ∧
    (∃ (s : State) (c : Caller) (kind : _) (i : _), Starts s c blkIx Sub.blkWin_BLK_OP Sub.blkWin_BLK_STATUS 1 ∧
      s.ob blkIx Sub.blkWin_BLK_KIND = kind ∧ s.ob blkIx Sub.blkWin_BLK_INDEX = i ∧ s.blockHere kind i = false) ∧
    (∃ (s : State) (kind : _) (i : _), s.blockHeld kind i = true) ∧
    (∃ (s : State) (c : Caller), Accepted s c fwIx Sub.fwWdt_FW_ACTIVATE 1 ∧ s.rst.staged ≠ 0xFF ∧
      (s.slotAt' s.rst.staged).manifest = [] ∧ s.pwr.vigil = false ∧ s.rst.step = 5) ∧
    (∃ (s : State) (c : Caller), Accepted s c fwIx Sub.fwWdt_FW_ACTIVATE 1 ∧ s.rst.staged = 0xFF) ∧
    (∃ (s : State) (c : Caller), Accepted s c fwIx Sub.fwWdt_FW_COMMIT 1 ∧ s.rst.try_ ≠ 0xFF ∧
      s.ob rstIx Sub.rstBoot_BOOT_SLOT = s.rst.try_) ∧
    (∃ (s : State) (c : Caller), Accepted s c rstIx Sub.rstBoot_RESET_CAUSE_CLR 1) :=
  ⟨⟨(up.put blkIx Sub.blkWin_BLK_KIND 0).put blkIx Sub.blkWin_BLK_INDEX 3, .firmware, _, _, by decide +kernel, rfl, rfl,
      by decide +kernel⟩,
    ⟨(port31 (up.put blkIx Sub.blkWin_BLK_KIND 0)).put blkIx Sub.blkWin_BLK_INDEX 3, .firmware, _, _, by decide +kernel, rfl,
      rfl, by decide +kernel⟩,
    ⟨(up.put blkIx Sub.blkWin_BLK_KIND 0).put blkIx Sub.blkWin_BLK_INDEX 200, .firmware, _, _, by decide +kernel, rfl, rfl,
      by decide +kernel⟩,
    ⟨{ up with rst := { up.rst with blocks := [3] } }, 0, 3, by decide +kernel⟩,
    ⟨staging 1 0 image { up with rst := { up.rst with staged := 1 } }, .firmware, by decide +kernel⟩,
    ⟨{ up with rst := { up.rst with staged := 0xFF } }, .firmware, by decide +kernel⟩,
    ⟨{ up.put rstIx Sub.rstBoot_BOOT_SLOT 1 with rst := { up.rst with try_ := 1 } }, .firmware, by decide +kernel⟩,
    ⟨up.put rstIx Sub.rstBoot_RESET_CAUSE (2 ^ 24 - 1), .firmware, by decide +kernel⟩⟩

theorem witness_SnapshotsHold :
    (∃ (s : State) (c : Caller), Accepted s c ctIx Sub.ctWin_SNAP_OP 1 ∧ s.snapClaim c = true) ∧
    (∃ (s : State) (c : Caller), Accepted s c ctIx Sub.ctWin_SNAP_OP 1 ∧ s.snapClaim c = false) ∧
    (∃ (s : State), s.tel.snapDue = true) ∧
    (∃ (s : State), s.tel.snapDue = false) ∧
    (∃ (s : State) (c : Caller), Accepted s c ctIx Sub.ctWin_SNAP_OP 2 ∧ s.snapClaim c = true) ∧
    (∃ (s : State), s.tel.held = true ∧ s.past Timer.snap (1000000000 * s.ob snapIx Sub.snap_SNAP_HOLD_MAX_S) = true) ∧
    (∃ (s : State), s.past Timer.snap (1000000000 * s.ob snapIx Sub.snap_SNAP_HOLD_MAX_S) = false) ∧
    (∃ (s : State) (c : Caller) (first : _) (n : _), Starts s c ctIx Sub.ctWin_CT_OP Sub.ctWin_CT_STATUS 1 ∧
      s.ob ctIx Sub.ctWin_CT_FIRST = first ∧ s.ob ctIx Sub.ctWin_CT_COUNT = n ∧ first + n ≤ 4096 ∧ ((∀ sl : Nat,
      sl < 4 → s.sliceOn sl = true))) ∧
    (∃ (s : State) (c : Caller) (first : _) (n : _), Starts s c ctIx Sub.ctWin_CT_OP Sub.ctWin_CT_STATUS 1 ∧
      s.ob ctIx Sub.ctWin_CT_FIRST = first ∧ s.ob ctIx Sub.ctWin_CT_COUNT = n ∧ 0 < n ∧ 4096 < first + n) :=
  ⟨⟨up, .firmware, by decide +kernel⟩,
    ⟨sess15, .session 15, by decide +kernel⟩,
    ⟨{ up with tel := { up.tel with snapDue := true } }, by decide +kernel⟩,
    ⟨up, by decide +kernel⟩,
    ⟨{ up with tel := { up.tel with held := true } }, .firmware, by decide +kernel⟩,
    ⟨{ up with tel := { up.tel with held := true } }, by decide +kernel⟩,
    ⟨{ up.mark Timer.snap with tel := { up.tel with held := true } }, by decide +kernel⟩,
    ⟨(up.put ctIx Sub.ctWin_CT_FIRST 4080).put ctIx Sub.ctWin_CT_COUNT 16, .firmware, _, _, by decide +kernel, rfl, rfl,
      by decide +kernel⟩,
    ⟨(up.put ctIx Sub.ctWin_CT_FIRST 4081).put ctIx Sub.ctWin_CT_COUNT 16, .firmware, _, _, by decide +kernel, rfl, rfl,
      by decide +kernel⟩⟩

theorem witness_TagsAndSamples :
    (∃ (s : State) (c : Caller) (v : _) (k : _), Accepted s c tagIx Sub.tag_TAG_ENABLE v ∧ s.tagOn v = [k] ∧ s.drawsNow 4) ∧
    (∃ (s : State) (c : Caller) (v : _), Accepted s c tagIx Sub.tag_TAG_ENABLE v ∧ s.tagOn v = []) ∧
    (∃ (s : State) (c : Caller) (r : _), Starts s c tgIx Sub.tgWin_TG_OP Sub.tgWin_TG_STATUS 1 ∧
      mfind s.tel.tags (s.ob tgIx Sub.tgWin_TG_SEQ) = some r) ∧
    (∃ (s : State) (c : Caller), Starts s c tgIx Sub.tgWin_TG_OP Sub.tgWin_TG_STATUS 1 ∧
      mfind s.tel.tags (s.ob tgIx Sub.tgWin_TG_SEQ) = none) ∧
    (∃ (s : State) (c : Caller), Starts s c tgIx Sub.tgWin_TG_OP Sub.tgWin_TG_STATUS 2) ∧
    (∃ (s : State) (c : Caller) (k : _) (first : _), Starts s c qsIx Sub.qsWin_QS_OP Sub.qsWin_QS_STATUS 1 ∧
      s.ob qsIx Sub.qsWin_QS_PIPE = k ∧ s.ob qsIx Sub.qsWin_QS_FIRST = first ∧ s.sliceOn (k / 2) = true ∧ s.tel.held = true) ∧
    (∃ (s : State) (c : Caller) (k : _) (first : _), Starts s c qsIx Sub.qsWin_QS_OP Sub.qsWin_QS_STATUS 1 ∧
      s.ob qsIx Sub.qsWin_QS_PIPE = k ∧ s.ob qsIx Sub.qsWin_QS_FIRST = first ∧ s.sliceOn (k / 2) = true ∧
      s.tel.held = false) :=
  ⟨⟨random up, .firmware, 2 ^ 7, ((random up : State).tagOn (2 ^ 7)).head (by decide +kernel), by decide +kernel⟩,
    ⟨up, .firmware, 0, by decide +kernel⟩,
    ⟨{ up.put tgIx Sub.tgWin_TG_SEQ 9 with tel := { up.tel with tags := [(9, zeros 32)] } }, .firmware, _, by decide +kernel,
      of_some (by decide +kernel)⟩,
    ⟨up.put tgIx Sub.tgWin_TG_SEQ 9, .firmware, by decide +kernel⟩,
    ⟨{ up with tel := { up.tel with tags := [(9, zeros 32)] } }, .firmware, by decide +kernel⟩,
    ⟨{ up.put qsIx Sub.qsWin_QS_PIPE 7 with tel := { up.tel with held := true } }, .firmware, _, _, by decide +kernel, rfl,
      rfl, by decide +kernel⟩,
    ⟨up.put qsIx Sub.qsWin_QS_PIPE 7, .firmware, _, _, by decide +kernel, rfl, rfl, by decide +kernel⟩⟩

/-! ### Witnesses of the statements about the block as a whole -/

theorem witness_StepTakesTheFront :
    (∃ (c : Instr) (rest : List Instr) (s : State), s.pending = c :: rest) ∧ (∃ s : State, s.pending = []) :=
  ⟨⟨.kwInfo .firmware, [.timeUnlock .firmware], { up with pending := [.kwInfo .firmware, .timeUnlock .firmware] }, rfl⟩, up, rfl⟩

/-- The step burns a fuse: the floor rises to the last value that it can have. -/
theorem witness_FusesBurnOneWay : ∃ s t : State, s.fuseOk ∧ step s = .next t :=
  ⟨{ (up.put vaultIx Sub.vault_SVN 63) with fuse := { up.fuse with svn := 62 }, pending := [.lcSvnCommit .firmware] }, _,
    ⟨by decide +kernel, by decide +kernel, fun _ h => nomatch h⟩, rfl⟩

theorem witness_WritesAreChecked :
    (∃ (s : State) (i : Instr) (c : Caller) (ix sub v : Nat), writeOf i = some (c, ix, sub, v) ∧ s.writeWaits c = true) ∧
    (∃ (s : State) (i : Instr) (c : Caller) (ix sub v : Nat), writeOf i = some (c, ix, sub, v) ∧ s.writeWaits c = false ∧ s.indexOff ix = true) ∧
    (∃ (s : State) (i : Instr) (c : Caller) (ix sub v : Nat) (d : Desc), writeOf i = some (c, ix, sub, v) ∧ s.writeWaits c = false ∧
      s.indexOff ix = false ∧ descOf ix sub = some d ∧ d.ro = false ∧ s.levelOf c < writeLevel ix sub (.num v) d) ∧
    (∃ (s : State) (i : Instr) (c : Caller) (ix sub v : Nat) (d : Desc), writeOf i = some (c, ix, sub, v) ∧ s.writeWaits c = false ∧
      s.indexOff ix = false ∧ descOf ix sub = some d ∧ d.ro = false ∧ writeLevel ix sub (.num v) d ≤ s.levelOf c ∧
      d.expert = true ∧ s.expertOf c = false) ∧
    (∃ (s : State) (i : Instr) (c : Caller) (ix sub v : Nat) (d : Desc), writeOf i = some (c, ix, sub, v) ∧ s.writeWaits c = false ∧
      s.indexOff ix = false ∧ descOf ix sub = some d ∧ d.ro = false ∧ writeLevel ix sub (.num v) d ≤ s.levelOf c ∧
      (d.expert = true → s.expertOf c = true) ∧ s.claimedAgainst c ix sub = true) ∧
    (∃ (s : State) (i : Instr) (c : Caller) (ix sub v : Nat) (d : Desc), writeOf i = some (c, ix, sub, v) ∧ s.writeWaits c = false ∧
      s.indexOff ix = false ∧ descOf ix sub = some d ∧ d.ro = false ∧ writeLevel ix sub (.num v) d ≤ s.levelOf c ∧
      (d.expert = true → s.expertOf c = true) ∧ s.claimedAgainst c ix sub = false ∧ fitsType d.ty (.num v) = false) :=
  ⟨⟨{ sess15 with acc := { sess15.acc with storing := some (0, sess15.config) } }, .prbsGenWrite (.session 15) 0 1, _, _, _, _, rfl,
      by decide +kernel⟩,
    ⟨up.put 0 Sub.identity_SLICE_MASK 7, .twHash .firmware 3, _, _, _, _, rfl, by decide +kernel, by decide +kernel⟩,
    ⟨up, .txStateWrite (.session 3) 0x5F 1, _, _, _, _, _, rfl, by decide +kernel, by decide +kernel, of_some (by decide +kernel), by decide +kernel⟩,
    ⟨sess 15 { ready with expert := false, level := 1 } up, .prbsGenWrite (.session 15) 0 1, _, _, _, _, _, rfl, by decide +kernel, by decide +kernel,
      of_some (by decide +kernel), by decide +kernel⟩,
    ⟨claimed (Ix.lane 0) 14 sess15, .rateWrite (.session 15) 0 1, _, _, _, _, _, rfl, by decide +kernel, by decide +kernel,
      of_some (by decide +kernel), by decide +kernel⟩,
    ⟨up, .txStateWrite .firmware 0 256, _, _, _, _, _, rfl, by decide +kernel, by decide +kernel, of_some (by decide +kernel), by decide +kernel⟩⟩

theorem witness_RateIsBusyUnderAPort :
    ∃ (s : State) (c : Caller) (m v p : Nat), Accepted s c (Ix.lane m) Sub.lane_RATE v ∧ p ∈ sidePorts m ∧ s.portOn p = true ∧
      m ∈ s.portLanes p :=
  ⟨up.put (Ix.port 0x5F) Sub.port_ENABLE 1, .firmware, 0x5F, 1, 0x5F, by decide +kernel⟩

theorem witness_ReformIsDeniedUnderCurtain :
    ∃ (s : State) (c : Caller) (r : Nat), Starts s c (rangeIx r) Sub.range_RG_OP Sub.range_RG_STATUS 2 ∧
      (s.rangeAt r).valid = true ∧ (s.rangeAt r).keyBearing = true ∧ 3 ≤ s.alm.latch :=
  ⟨latched 3 (ranged 0 fun y => { y with keyBearing := true }), .firmware, 15, by decide +kernel⟩

/-- A command of each clause, and a state in which it runs. -/
def unitSamples : List (Instr × State) :=
  [(.kwInfo .firmware, up), (.awFree .firmware 3, up), (.resetCauseClear .firmware 1, up), (.twRead .firmware 3, up),
   (.tmRead .firmware 3, up), (.cwCancel .firmware 3, up), (.cueTimeTrigger 0 false 3, up), (.ppsOutPulseEnd, up),
   (.kwKekClear .firmware, up), (.kwMigrate .firmware, up), (.almAck .firmware, up), (.almFuseDisable .firmware, up),
   (.snapSnapshot .firmware, up), (.msgSubscribe 15 1 1, sess15), (.fwStageAbort 15 1, sess15), (.sakExport 0 0, up)]

theorem witness_CommandsKeepToTheirUnits :
    (∀ x ∈ unitSamples, ∃ t, exec x.1 x.2 = .next t) ∧ ∀ o ∈ (sess15.sessAt 15).owed, o.close = none := by
  refine ⟨fun x h => ?_, by decide +kernel⟩
  simp only [unitSamples, List.mem_cons, List.not_mem_nil, or_false] at h
  rcases h with rfl | rfl | rfl | rfl | rfl | rfl | rfl | rfl | rfl | rfl | rfl | rfl | rfl | rfl | rfl | rfl
  all_goals exact ⟨_, rfl⟩

/-! ### Ill-formed commands -/

def noMkpdu : Mkpdu := { mi := 0, sci := 0, prio := 0, listsUs := false }

/-- For each check of `wellFormed`, a command that it refuses. -/
def illFormed : List Instr := [
  .txStateWrite (.session 16) 0 0, .txStateWrite .firmware 0x20 0, .pauseRefreshTimer 0x60, .cgAlign 0x84 0,
  .cgAlignLost 0x84 [] false, .frameAdmit 4, .openDequeue 4 0 0, .openDequeue 0 16 0,
  .twLookup (.session 16) 0, .twLookup .firmware 4, .retestComplete 4 false 0, .retestComplete 0 false 512,
  .otnDefectDeclare 4 none 0, .otnDefectDeclare 0 (some 8) 0, .tribEnable (.session 16) 0 0 1, .tribEnable .firmware 4 0 1,
  .tribEnable .firmware 0 8 1, .multiframeBoundary 4 0 0, .multiframeBoundary 0 8 0, .timeStepSet (.session 16),
  .jobStart (.session 16) 0, .jobStart .firmware 16, .jobDmaDone 16 [] [], .mkpduReceived 32 [] noMkpdu,
  .knotRun (.session 16) 0 1, .knotRun .firmware 32 1, .knotMessageReceived 33 [] []]

/-- The same, of the messages and the commands after them. -/
def illFormedLater : List Instr := [
  .msgHello 16 0 [], .msgHello 0 65536 [], .msgGet 16 0 0 0, .msgGet 0 65536 0 0, .msgGet 0 0 65536 0, .msgGet 0 0 0 256,
  .msgSet 16 0 ⟨0, 0, []⟩ false, .msgSet 0 65536 ⟨0, 0, []⟩ false, .msgSet 0 0 ⟨65536, 0, []⟩ false,
  .msgSet 0 0 ⟨0, 256, []⟩ false, .msgSetBlock 0 0 [⟨65536, 0, []⟩] false, .msgTable 0 0 65536 [] 0 [] false,
  .msgTable 0 0 0 [⟨0, 256, []⟩] 0 [] false, .msgTable 0 0 0 [] 256 [] false,
  .discoverReceived false 256 0, .discoverReceived false 0 256,
  .discoverReplyReceived false 256 [], .handshakeReceived 3 0 0 [], .handshakeReceived 0 256 0 [], .handshakeReceived 0 0 (2 ^ 32) [],
  .stagehandPageMove 16, .rgRekey (.session 16) 0, .rgRekey .firmware 16, .sliceUngateDone 4 0 0, .sliceUngateDone 0 512 0,
  .sliceUngateDone 0 0 512, .coreReset 12, .powerupStepReady 0 [], .pcieLinkUp 8 0, .pcieLinkUp 0 16]

theorem test_ill_formed : (illFormed ++ illFormedLater).all (fun i => !wellFormed i) = true := by decide +kernel

theorem test_well_formed : wellFormed (.txStateWrite (.session 15) 0x5F 3) = true ∧ wellFormed (.rgRekey .firmware 15) = true := by
  decide

/-- The table gives no row a word, so that no word spells a command. -/
theorem test_no_words : decodeTableWord 0 0 = none ∧ (up.withFetchWord 8 1).pending = [] := by decide

/-! ### The standards that the chapters name, by their own published examples -/

/-- FIPS 197, appendices C.1 and C.3. -/
theorem test_aes :
    aesEnc (be 16 0x000102030405060708090A0B0C0D0E0F) (be 16 0x00112233445566778899AABBCCDDEEFF)
      = be 16 0x69C4E0D86A7B0430D8CDB78070B4C55A ∧
    aesDec (be 32 0x000102030405060708090A0B0C0D0E0F101112131415161718191A1B1C1D1E1F) (be 16 0x8EA2B7CA516745BFEAFC49904B496089)
      = be 16 0x00112233445566778899AABBCCDDEEFF := by decide +kernel

/-- RFC 3394, section 4.1. -/
theorem test_key_wrap :
    kwWrap (be 16 0x000102030405060708090A0B0C0D0E0F) (be 16 0x00112233445566778899AABBCCDDEEFF)
      = be 24 0x1FA68B0A8112B447AEF34BD8FB5A7B829D3E862371D2CFE5 := by decide +kernel

/-- The GCM specification, test case 2. -/
theorem test_gcm :
    gcmCrypt (zeros 16) (zeros 12) (zeros 16) = be 16 0x0388DACE60B6A392F328C2B971B2FE78 ∧
    gcmTag (zeros 16) (hashKey (zeros 16)) (zeros 12) [] (be 16 0x0388DACE60B6A392F328C2B971B2FE78)
      = be 16 0xAB6E47D42CEC13BDF53A67B21257BDDF := by decide +kernel

/-- RFC 4493, example 1. -/
theorem test_cmac : cmac (be 16 0x2B7E151628AED2A6ABF7158809CF4F3C) [] = be 16 0xBB1D6929E95937287FA37D129B756746 := by
  decide +kernel

/-- FIPS 180-4, the message "abc". -/
theorem test_sha384 :
    sha384 (ascii "abc") = be 24 0xCB00753F45A35E8BB5A03D699AC65007272C32AB0EDED163
      ++ be 24 0x1A8B605A43FF5BED8086072BA1E7CC2358BAECA134C825A7 := by decide +kernel

/-- The check values of CRC-32 and CRC-32C, of the digits 1 to 9. -/
theorem test_crc : crc32 (ascii "123456789") = 0xCBF43926 ∧ crc32c (ascii "123456789") = 0xE3069283 := by decide +kernel

/-! ### Single steps -/

/-- The state after one command. -/
def after (i : Instr) (s : State) : State :=
  match step { s with pending := [i] } with
  | .next t => t
  | _ => s

/-- R34: a lane's rate is written while no enabled port uses it, and is not while one does. -/
theorem test_rate : (after (.rateWrite .firmware 3 1) up).ob (Ix.lane 3) Sub.lane_RATE = 1 ∧
    (after (.rateWrite .firmware 3 1) (up.put (Ix.port 3) Sub.port_ENABLE 1)).ob (Ix.lane 3) Sub.lane_RATE = 3 := by decide +kernel

/-- R369: the floor rises to the running firmware's number and never falls. -/
theorem test_svn :
    (after (.lcSvnCommit .firmware) (up.put vaultIx Sub.vault_SVN 5)).fuse.svn = 5 ∧
    (after (.lcSvnCommit .firmware) { up.put vaultIx Sub.vault_SVN 5 with fuse := { up.fuse with svn := 7 } }).fuse.svn = 7 := by
  decide +kernel

/-- R297: TIME_UNLOCK clears the lock. -/
theorem test_unlock : (after (.timeUnlock .firmware) { up with time := { up.time with locked := true } }).time.locked = false := by
  decide +kernel

end Sys2Proof.Tests
end

section
/-! The block as a whole (chapter 00): the step, and the arbiter's checks before every write. -/

namespace Sys2Proof.Machine

/-! ### The step -/

theorem step_of_cons {s : State} {c : Instr} {rest : List Instr} (h : s.pending = c :: rest) :
    step s = exec c { s with pending := rest } := by simp only [step, h]

theorem step_of_nil {s : State} (h : s.pending = []) : step s = .next s.tick := by simp only [step, h]

/-- Settles O53: the step function's two cases. -/
theorem stepTakesTheFront : Obligations.StepTakesTheFront :=
  ⟨fun _ _ _ => step_of_cons, fun _ => step_of_nil⟩

/-! ### The arbiter before a write (R456, R458) -/

/-- The state in which a write of a caller has been put at the end of the arbiter's line (R456, R477). -/
def State.parking (s : State) (c : Caller) (ix sub : Nat) (v : Val) : State :=
  { s with acc := { s.acc with parked := s.acc.parked ++
      [{ k := c.entry, what := .row ix sub v, port := (s.sessAt c.entry).port, at_ := s.time.periods }] } }

theorem orWait_waits {c : Caller} {ix sub : Nat} {v : Val} {act : State → State} {s : State} (h : s.writeWaits c = true) :
    orWait c ix sub v act s = s.parking c ix sub v := if_pos h

theorem orWait_acts {c : Caller} {ix sub : Nat} {v : Val} {act : State → State} {s : State} (h : s.writeWaits c = false) :
    orWait c ix sub v act s = act s := by simp only [orWait, h, Bool.false_eq_true, if_false]

/-- The outcome `o` of a write in `s` is the arbiter's, unless the write passes it: the write is put in the line where it waits, and is
refused with the first check that fails. -/
structure ArbiterFirst (c : Caller) (ix sub : Nat) (v : Val) (s : State) (o : Out) : Prop where
  waits : s.writeWaits c = true → o = .next (s.parking c ix sub v)
  refused : ∀ st, s.writeWaits c = false → s.writeCheck c ix sub v = st → st ≠ .ok → o = .next (s.refusing c ix sub st)

section Rows
variable (c : Caller) (ix sub : Nat) (v : Val) (s : State)

theorem rowWrite_arbiterFirst (act : State → State × Status) : ArbiterFirst c ix sub v s (.next (rowWrite c ix sub v act s)) where
  waits h := congrArg _ (orWait_waits h)
  refused st hw hc hne := by rw [rowWrite_fails hw (hc ▸ hne), hc]

theorem rowLate_arbiterFirst (act : State → State × Option Status) :
    ArbiterFirst c ix sub v s (.next (rowLate c ix sub v act s)) where
  waits h := congrArg _ (orWait_waits h)
  refused st hw hc hne := by
    rw [rowLate, orWait_acts hw, hc]
    cases st
    case ok => exact absurd rfl hne
    all_goals rfl

theorem rowActivate_arbiterFirst (n : Nat) :
    ArbiterFirst c fwIx Sub.fwWdt_FW_ACTIVATE (.num n) s (.next (rowActivate c n s)) where
  waits h := congrArg _ (orWait_waits h)
  refused st hw hc hne := by
    rw [rowActivate, orWait_acts hw, objectWrite_fails (hc ▸ hne), hc]
    simp [hne]

end Rows

/-- Every command that is a write passes the arbiter before its chapter's own checks: `TAG_ENABLE` and `PWR_REQ` may complete later,
`FW_ACTIVATE` ends in a core reset, and every other is one write. -/
theorem exec_arbiterFirst {i : Instr} {c : Caller} {ix sub v : Nat} (h : writeOf i = some (c, ix, sub, v)) (s : State) :
    ArbiterFirst c ix sub (.num v) s (exec i s) := by
  cases i <;> cases h
  case tagEnableWrite => exact rowLate_arbiterFirst ..
  case pwrReqActive => exact rowLate_arbiterFirst ..
  case pwrReqTrim => exact rowLate_arbiterFirst ..
  case pwrReqDark => exact rowLate_arbiterFirst ..
  case fwActivate => exact rowActivate_arbiterFirst ..
  all_goals exact rowWrite_arbiterFirst ..

/-! The first check that fails (R458), in their order. -/

section Checks
variable {s : State} {c : Caller} {ix sub : Nat} {v : Val} {d : Desc}

theorem writeCheck_indexOff (h : s.indexOff ix = true) : s.writeCheck c ix sub v = .range := by
  simp only [State.writeCheck, h, if_true]

/-- The checks of a write of an assigned object that is not read-only, in an index that the part enables. -/
theorem writeCheck_writable (hon : s.indexOff ix = false) (hd : descOf ix sub = some d) (hro : d.ro = false) :
    s.writeCheck c ix sub v =
      if s.levelOf c < writeLevel ix sub v d then .denied
      else if d.expert && !s.expertOf c then .denied
      else if s.claimedAgainst c ix sub then .claimed
      else if fitsType d.ty v then .ok else .range := by
  simp only [State.writeCheck, hon, hd, hro, Bool.false_eq_true, if_false]

end Checks

/-- Settles O57: the outcome of a write is the arbiter's, and each check in turn is the first that fails. -/
theorem writesAreChecked : Obligations.WritesAreChecked := by
  intro s i c ix sub v hi
  have hrow := exec_arbiterFirst hi s
  refine ⟨hrow.waits, fun hw => ⟨fun hoff => hrow.refused _ hw (writeCheck_indexOff hoff) (by decide), ?_⟩⟩
  intro d hon hd hro
  have hcheck := writeCheck_writable (c := c) (v := .num v) hon hd hro
  refine ⟨fun hlow => hrow.refused _ hw (by simp [hcheck, hlow]) (by decide), fun hlevel => ?_⟩
  have hlevel : ¬ s.levelOf c < writeLevel ix sub (.num v) d := Nat.not_lt.mpr hlevel
  refine ⟨fun hex hno => hrow.refused _ hw (by simp [hcheck, hlevel, hex, hno]) (by decide), fun hex => ?_⟩
  have hexpert : (d.expert && !s.expertOf c) = false := by simpa using hex
  exact ⟨fun hcl => hrow.refused _ hw (by simp [hcheck, hlevel, hexpert, hcl]) (by decide),
    fun hcl hfit => hrow.refused _ hw (by simp [hcheck, hlevel, hexpert, hcl, hfit]) (by decide)⟩

end Sys2Proof.Machine
end

section
/-! The frame of a command: CANCEL of the cue window speaks to the peer (R427). Where the unit is active in a pair, `CW_CANCEL`
mirrors the cue or watch that it changed: FIRMWARE frames join the Tether link's queue and take SEQ numbers of their type, and
both stand in the pair's own record, `State.pair`. -/

namespace Sys2Proof.Machine

/-- The Tether frames that wait to be sent. -/
def State.tetherQueued (s : State) : Nat := s.pair.link.out.length

theorem tetherOne_queued (kind : Nat) (b : Bytes) (s : State) : (tetherOne kind b s).tetherQueued = s.tetherQueued + 1 := by
  simp [tetherOne, State.tetherQueued]

theorem tetherOne_foldl_queued (kind : Nat) (f : Nat → Bytes) (l : List Nat) (s : State) :
    (l.foldl (fun t k => tetherOne kind (f k) t) s).tetherQueued = s.tetherQueued + l.length := by
  induction l generalizing s with
  | nil => rfl
  | cons k l ih => rw [List.foldl_cons, ih, tetherOne_queued, List.length_cons]; omega

/-- What is sent on an aligned Tether is at least one frame (R414). -/
theorem tetherSend_queued {s : State} (h : s.tetherUp = true) (kind : Nat) (b : Bytes) :
    s.tetherQueued < (tetherSend kind b s).tetherQueued := by
  rw [tetherSend, if_pos h, tetherOne_foldl_queued, List.length_range]; omega

/-- The firmware mirrors what it does (R427). -/
def State.mirrors (s : State) : Bool :=
  s.paired && s.roleOn && s.tetherUp && decide (3 ≤ s.pairState) && decide (s.pairState ≤ 5) && !s.rst.coresHeld

theorem mirror_queued {s : State} (h : s.mirrors = true) (m : Mirror) : s.tetherQueued < (mirror m s).tetherQueued := by
  have hup : s.tetherUp = true := by
    simp only [State.mirrors, Bool.and_eq_true] at h
    obtain ⟨⟨⟨⟨_, hup⟩, _⟩, _⟩, _⟩ := h
    exact hup
  rw [show mirror m s = firmwareSay m s from if_pos h]
  exact tetherSend_queued (s := s.emit (.mirror m)) hup 9 _

/-- CANCEL of a watch that is armed or timing: it returns to idle, and is mirrored (R237, R427). -/
theorem cwCancel_watch {sl : Nat} {s : State} (ht : s.cwTable sl = 2) (hi : s.cwIndex sl < 8192)
    (hw : Watch.state (s.watchAt sl (s.cwIndex sl)) = 1 ∨ Watch.state (s.watchAt sl (s.cwIndex sl)) = 2) :
    cwCancel sl s = (setCue 6 sl (s.cwIndex sl) (Watch.setState (s.watchAt sl (s.cwIndex sl)) 0) s, .ok) := by
  simp [cwCancel, ht, cwIn, hi, hw]

theorem setCue_watch_queued {s : State} (h : s.mirrors = true) (sl i img : Nat) :
    s.tetherQueued < (setCue 6 sl i img s).tetherQueued :=
  mirror_queued (s := s.putWatch sl i img) h _

@[simp] theorem State.pair_noteCycle (c : Caller) (l : List Nat) (s : State) : (s.noteCycle c l).pair = s.pair := by
  cases c <;> rfl

/-- A window's operation that starts leaves the pair as its act left it: what is held back lies in the dictionary (R465). -/
theorem rowWindow_pair {s : State} {c : Caller} {ix op st code : Nat} (act : State → State × Status) (h : Starts s c ix op st code) :
    (rowWindow c ix op st code act s).pair = (act (s.put ix op code)).1.pair := by
  obtain ⟨⟨hw, hc⟩, hb, hu, _⟩ := h
  rw [rowWindow_ok hw hc hb hu]
  exact State.pair_noteCycle ..

/-- The active unit of a pair in IN_SYNC with its Tether aligned: its firmware runs, watch 0 of slice 0 is armed, and the cue window names
that watch. -/
def watchArmedUnderMirror : State :=
  { State.reset with
    rst := { gap := false, step := 5, coresHeld := false, rstout := false }
    cue := { watch := [(skey 0 0, Watch.setState 0 1)] }
    dict := { nums := [
      (okey 0x1080 Sub.sLane_CG_ALIGNED, 1), (okey 0x1081 Sub.sLane_CG_ALIGNED, 1),
      (okey 0x1082 Sub.sLane_CG_ALIGNED, 1), (okey 0x1083 Sub.sLane_CG_ALIGNED, 1),
      (okey (cwIx 0) Sub.cwWin_CW_TABLE, 2),
      (okey pairIx Sub.pair_PAIR_ENABLE, 1),
      (okey psIx Sub.pairStat_ROLE, 1), (okey psIx Sub.pairStat_PAIR_STATE, 5)] } }

/-- The same, once the window has taken the CANCEL. -/
def cancelTaken : State := watchArmedUnderMirror.put (cwIx 0) Sub.cwWin_CW_OP 3

theorem watchArmed_starts :
    Starts watchArmedUnderMirror .firmware (cwIx 0) Sub.cwWin_CW_OP Sub.cwWin_CW_STATUS 3 := by decide +kernel

theorem cancelTaken_mirrors : cancelTaken.mirrors = true := by decide +kernel

theorem cancelTaken_cancels :
    sliceOp 0 (cwCancel 0) cancelTaken = (setCue 6 0 0 (Watch.setState (cancelTaken.watchAt 0 0) 0) cancelTaken, .ok) := by
  have hi : cancelTaken.cwIndex 0 = 0 := by decide +kernel
  rw [sliceOp, if_neg (by decide +kernel), cwCancel_watch (by decide +kernel) (by rw [hi]; decide) (by decide +kernel), hi]

/-- The command sends: the Tether's queue is longer after it. -/
theorem cwCancel_watchArmed_queued : watchArmedUnderMirror.tetherQueued
    < (rowCw .firmware 0 3 (cwCancel 0) watchArmedUnderMirror).tetherQueued := by
  have hpair : (rowCw .firmware 0 3 (cwCancel 0) watchArmedUnderMirror).pair = (sliceOp 0 (cwCancel 0) cancelTaken).1.pair :=
    rowWindow_pair _ watchArmed_starts
  rw [cancelTaken_cancels] at hpair
  calc watchArmedUnderMirror.tetherQueued
    _ = cancelTaken.tetherQueued := rfl
    _ < (setCue 6 0 0 (Watch.setState (cancelTaken.watchAt 0 0) 0) cancelTaken).tetherQueued :=
        setCue_watch_queued cancelTaken_mirrors ..
    _ = (rowCw .firmware 0 3 (cwCancel 0) watchArmedUnderMirror).tetherQueued := by
        rw [State.tetherQueued, State.tetherQueued, hpair]

/-- What `CommandsKeepToTheirUnits` lets `CW_CANCEL` change holds no Tether frame. -/
theorem tetherQueued_of_cueFrame {s t : State}
    (h : t = { s with cue := t.cue, dict := t.dict, acc := s.accessOf t, wire := t.wire }) : t.tetherQueued = s.tetherQueued := by
  have hpair := congrArg State.pair h
  exact congrArg (fun p => p.link.out.length) hpair

/-- Refutes O60: `CW_CANCEL` in the active unit of a pair mirrors the watch that it cancels, so that frames join the Tether's queue in
`State.pair`, which the statement's frame of `CW_CANCEL` leaves as it was (R427). -/
theorem not_commandsKeepToTheirUnits : ¬ Obligations.CommandsKeepToTheirUnits := by
  intro h
  obtain ⟨-, -, -, -, -, hcancel, -⟩ :=
    h watchArmedUnderMirror (rowCw .firmware 0 3 (cwCancel 0) watchArmedUnderMirror) (.cwCancel .firmware 0) .firmware 0 0 0 rfl
  exact cwCancel_watchArmed_queued.ne' (tetherQueued_of_cueFrame (hcancel rfl))

end Sys2Proof.Machine
end

section
/-! Power (chapter 17): `PWR_REQ` and its refusals, the change of performance point in the order of R572, and its ends (R570,
R573, R653). A change ends in one of two ways, `State.changeDone` and `State.abandonRaise`. -/

namespace Sys2Proof.Machine

variable {s : State}

/-! ### A write that completes later (R458) -/

@[simp] theorem State.pwr_noteCycle (c : Caller) (l : List Nat) (s : State) : (s.noteCycle c l).pwr = s.pwr := by
  cases c <;> rfl

/-- A write that passes the arbiter and begins what completes later. -/
theorem rowLate_begins {c : Caller} {ix sub n : Nat} {act : State → State × Option Status} {t : State}
    (h : Accepted s c ix sub n) (ha : act s = (t, none)) :
    rowLate c ix sub (.num n) act s = t.noteCycle c [okey ix sub] := by
  simp only [rowLate, orWait_acts h.1, h.2, ha]

/-- A write that passes the arbiter and that its chapter refuses. -/
theorem rowLate_refuses {c : Caller} {ix sub n : Nat} {act : State → State × Option Status} {st : Status}
    (h : Accepted s c ix sub n) (ha : act s = (s, some st)) (hst : st ≠ .ok) :
    rowLate c ix sub (.num n) act s = s.refusing c ix sub st := by
  simp only [rowLate, orWait_acts h.1, h.2, ha, if_neg hst]

/-! ### The completion of a request (R570, R499) -/

/-- A completion in a later step is reported, and changes the access structures alone. -/
theorem finish_eq (who ix sub : Nat) (st : Status) (s : State) :
    ∃ a, s.finish who ix sub st = { s with acc := a, wire := s.wire ++ [.done who ix sub st] } := by
  unfold State.finish
  dsimp only
  split
  · split
    · exact ⟨s.acc, rfl⟩
    · exact ⟨_, rfl⟩
  · exact ⟨s.acc, rfl⟩

/-- The end of a request: no change is in progress, `PWR_STATUS` tells how the last one ended, and the completion is reported. -/
theorem endRequest_eq (st : Status) (s : State) : ∃ a e,
    s.endRequest st = { ({ s with pwr := { s.pwr with change := none } } : State).put 0x0400 Sub.power_PWR_STATUS st.code with
      acc := a, wire := s.wire ++ [e] } := by
  obtain ⟨a, h⟩ := finish_eq ((s.pwr.change.map (·.who)).getD 16) 0x0400 Sub.power_PWR_REQ st
    (({ s with pwr := { s.pwr with change := none } } : State).put 0x0400 Sub.power_PWR_STATUS st.code)
  exact ⟨a, _, h⟩

theorem endRequest_ob (st : Status) (ix sub : Nat) (s : State) :
    (s.endRequest st).ob ix sub = (s.put 0x0400 Sub.power_PWR_STATUS st.code).ob ix sub := by
  obtain ⟨a, e, h⟩ := endRequest_eq st s
  rw [h]; rfl

@[simp] theorem endRequest_pwr (st : Status) (s : State) : (s.endRequest st).pwr = { s.pwr with change := none } := by
  obtain ⟨a, e, h⟩ := endRequest_eq st s
  rw [h]; rfl

/-- What was sent before the end of a change stays sent. -/
theorem mem_endRequest_wire {x : Emission} {st : Status} (hx : x ∈ s.wire) : x ∈ (s.endRequest st).wire := by
  obtain ⟨a, e, h⟩ := endRequest_eq st s
  rw [h]; exact List.mem_append_left _ hx

/-! ### The two ends of a change (R570, R573) -/

/-- An object of the power controller after a write of any object. -/
theorem ob_put_power {ix sub sub' v : Nat} (h : sub < 256) (h' : sub' < 256) :
    (s.put ix sub' v).ob 0x0400 sub = if 0x0400 = ix ∧ sub = sub' then v else s.ob 0x0400 sub := State.ob_put h' h

@[simp] theorem changeDone_change (ch : PowerChange) (s : State) : (s.changeDone ch).pwr.change = none := by
  simp [State.changeDone]

/-- The power controller's objects once the new state has been reached. -/
theorem changeDone_ob (ch : PowerChange) {sub : Nat} (h : sub < 256) (s : State) :
    (s.changeDone ch).ob 0x0400 sub =
      if sub = Sub.power_PWR_STATUS then Status.ok.code
      else if sub = Sub.power_PP_PHASE then 0
      else if sub = Sub.power_PWR_STATE then ch.state
      else if sub = Sub.power_PP_NOW then ch.point
      else s.ob 0x0400 sub := by
  simp (disch := decide) [State.changeDone, endRequest_ob, ob_put_power h, State.ob_raise h, State.addOb]

@[simp] theorem abandonRaise_change (ch : PowerChange) (s : State) : (s.abandonRaise ch).pwr.change = none := by
  simp [State.abandonRaise]

/-- The power controller's objects once a raising change has been abandoned: the write that began it has changed nothing (R11). -/
theorem abandonRaise_ob (ch : PowerChange) {sub : Nat} (h : sub < 256) (s : State) :
    (s.abandonRaise ch).ob 0x0400 sub =
      if sub = Sub.power_PWR_STATUS then Status.notReady.code
      else if sub = Sub.power_PWR_REQ then ch.req
      else if sub = Sub.power_PP_PHASE then 0
      else s.ob 0x0400 sub := by
  simp (disch := decide) [State.abandonRaise, endRequest_ob, ob_put_power h, State.ob_raise h]

/-- The old target is sent again. -/
theorem abandonRaise_sends (ch : PowerChange) (s : State) : .voltage (setPoint ch.old) ∈ (s.abandonRaise ch).wire := by
  rw [State.abandonRaise, State.raise_wire]
  exact mem_endRequest_wire (by simp)

/-! ### `PWR_REQ` (R570, R572) -/

section Request
variable {c : Caller} {target : Nat} {enter : State → State}

theorem pwrReq_busy (h : s.pwrBusy target = true) : pwrReq c target enter s = (s, some .busy) := if_pos h

theorem pwrReq_begins (h : s.pwrBusy target = false) (hs : s.ob 0x0400 Sub.power_PWR_STATE ≠ target) :
    pwrReq c target enter s = (startChange c target enter s, none) := by
  simp only [pwrReq, h, hs, Bool.false_eq_true, if_false]

/-- A write of `PWR_REQ` that nothing refuses and that names another state begins a change. -/
theorem rowPwrReq_begins (ha : Accepted s c 0x0400 Sub.power_PWR_REQ (target + 1)) (h : s.pwrBusy target = false)
    (hs : s.ob 0x0400 Sub.power_PWR_STATE ≠ target) :
    rowPwrReq c target enter s = (startChange c target enter s).noteCycle c [okey 0x0400 Sub.power_PWR_REQ] :=
  rowLate_begins ha (pwrReq_begins h hs)

theorem rowPwrReq_busy (ha : Accepted s c 0x0400 Sub.power_PWR_REQ (target + 1)) (h : s.pwrBusy target = true) :
    rowPwrReq c target enter s = s.refusing c 0x0400 Sub.power_PWR_REQ .busy :=
  rowLate_refuses ha (pwrReq_busy h) (by decide)

end Request

/-- The state in which a change has been begun (R570). -/
def State.withChange (ch : PowerChange) (s : State) : State := { s with pwr := { s.pwr with change := some ch } }

@[simp] theorem State.withChange_change (ch : PowerChange) (s : State) : (s.withChange ch).pwr.change = some ch := rfl
@[simp] theorem State.ob_withChange (ch : PowerChange) (ix sub : Nat) (s : State) :
    (s.withChange ch).ob ix sub = s.ob ix sub := rfl
@[simp] theorem State.withChange_wire (ch : PowerChange) (s : State) : (s.withChange ch).wire = s.wire := rfl

/-- The power controller's objects do not tell which slices have a clock. -/
theorem clockedSlices_put_power {sub : Nat} (h : sub < 256) (v : Nat) (s : State) :
    (s.put 0x0400 sub v).clockedSlices = s.clockedSlices := by
  have hmask : (s.put 0x0400 sub v).ob 0 Sub.identity_SLICE_MASK = s.ob 0 Sub.identity_SLICE_MASK := by
    rw [State.ob_put h (by decide), if_neg (by simp)]
  simp only [State.clockedSlices, State.sliceOn, hmask]

/-- Raising: the higher voltage is sent at once (R572). -/
theorem startChange_active (c : Caller) (enter : State → State) (s : State) :
    startChange c 0 enter s =
      (((((s.put 0x0400 Sub.power_PWR_STATUS Status.busy.code).withChange
        ⟨c.entry, 0, s.ob 0x0400 Sub.power_PWR_REQ, 0, s.ob 0x0400 Sub.power_PP_NOW, s.clockedSlices, false⟩).put
          0x0400 Sub.power_PWR_REQ 1).put 0x0400 Sub.power_PP_PHASE 3).mark Timer.volt).emit (.voltage 750) := by
  simp (disch := decide) only [startChange, State.ob_put_ne, clockedSlices_put_power]
  rfl

/-- Lowering: the slices' clocks come first, and nothing is sent (R572). -/
theorem startChange_trim (c : Caller) (enter : State → State) (s : State) :
    startChange c 1 enter s =
      (((s.put 0x0400 Sub.power_PWR_STATUS Status.busy.code).withChange
        ⟨c.entry, 1, s.ob 0x0400 Sub.power_PWR_REQ, s.ob 0x0400 Sub.power_TRIM_POINT, s.ob 0x0400 Sub.power_PP_NOW,
          s.clockedSlices, false⟩).put 0x0400 Sub.power_PWR_REQ 2).put 0x0400 Sub.power_PP_PHASE 1 := by
  simp (disch := decide) only [startChange, State.ob_put_ne, clockedSlices_put_power]
  rfl

/-! ### The slices' clocks in turn (R31, R572, R583) -/

/-- The state in which a slice runs at the point of a change, and the slices `rest` have still to follow. -/
def State.clockMoved (ch : PowerChange) (sl : Nat) (rest : List Nat) (s : State) : State :=
  { s with pwr := { s.pwr with slicePt := mset 0 s.pwr.slicePt sl ch.point, change := some { ch with slices := rest } } }

theorem State.clockMoved_point (ch : PowerChange) (sl : Nat) (rest : List Nat) (s : State) :
    mget 0 (s.clockMoved ch sl rest).pwr.slicePt sl = ch.point := mget_mset_self ..

section Clocks
variable {sl : Nat} {ch : PowerChange} {rest : List Nat}

/-- No slice changes its clock while the PLLs are out of lock or frames are in its egress segments. -/
theorem sliceClockHold_waits (h : s.pllsLocked = false ∨ s.drained sl = false) : sliceClockHold sl s = s := by
  unfold sliceClockHold
  rcases h with hl | hd
  · simp [hl]
  · cases hch : s.pwr.change <;> simp [hd]

/-- The slice whose turn it is changes its clock; what follows the last one hangs on the phase. -/
theorem sliceClockHold_moves (hl : s.pllsLocked = true) (hd : s.drained sl = true) (hch : s.pwr.change = some ch)
    (hs : ch.slices = sl :: rest) (hph : s.ob 0x0400 Sub.power_PP_PHASE = 1 ∨ s.ob 0x0400 Sub.power_PP_PHASE = 4) :
    sliceClockHold sl s =
      if rest ≠ [] then s.clockMoved ch sl rest
      else if s.ob 0x0400 Sub.power_PP_PHASE = 1 then
        (((s.clockMoved ch sl rest).put 0x0400 Sub.power_PP_PHASE 2).mark Timer.volt).emit (.voltage (setPoint ch.point))
      else (s.clockMoved ch sl rest).changeDone ch := by
  simp only [sliceClockHold, hl, hch, hs, hd, hph, Bool.not_true, Bool.false_eq_true, if_false, List.head?_cons,
    List.tail_cons, and_self, if_true]
  rfl

/-- Around the change of its clock, only the slice's buckets and pacers change (R158, R171). -/
theorem clockHold_eq (sl : Nat) (s : State) : ∃ m, clockHold sl s = { sliceClockHold sl s with tm := m } := by
  unfold clockHold
  dsimp only
  split
  · exact ⟨_, rfl⟩
  · exact ⟨_, rfl⟩

theorem clockHold_still (h : sliceClockHold sl s = s) : clockHold sl s = s := by simp [clockHold, h]

end Clocks

/-! ### The regulator's reading (R572, R573, R653) -/

section Voltage
variable {ch : PowerChange} {mv : Nat}

/-- The state in which the regulator's reading is shown. -/
def State.readVoltage (mv : Nat) (s : State) : State := s.put 0x0400 Sub.power_VDD_CORE_MV (mv % 2 ^ 16)

/-- A raised rail, read at its set point less 10 mV or above, lets the clocks rise. -/
theorem voltageReported_raised (hch : s.pwr.change = some ch) (hs : ch.slices ≠ [])
    (hph : s.ob 0x0400 Sub.power_PP_PHASE = 3) (hmv : setPoint ch.point ≤ mv + 10) :
    voltageReported mv s = (s.readVoltage mv).put 0x0400 Sub.power_PP_PHASE 4 := by
  simp (disch := decide) [voltageReported, State.readVoltage, State.ob_put, hch, hs, hph, hmv]

/-- A lowered rail, read at its set point or below, ends the change (log 84). -/
theorem voltageReported_lowered (hch : s.pwr.change = some ch) (hph : s.ob 0x0400 Sub.power_PP_PHASE = 2)
    (hmv : mv ≤ setPoint ch.point) : voltageReported mv s = (s.readVoltage mv).changeDone ch := by
  simp (disch := decide) [voltageReported, State.readVoltage, State.ob_put, hch, hph, hmv]

theorem voltTimeout_none (h : s.pwr.change = none) : voltTimeout s = s := by simp only [voltTimeout, h]

theorem pmbAlert_none (h : s.pwr.change = none) : pmbAlert s = s := by simp only [pmbAlert, h]

theorem voltTimeout_early (h : s.past Timer.volt (1000 * s.ob 0x0400 Sub.power_PP_VOLT_TIMEOUT_US) = false) :
    voltTimeout s = s := by
  cases hch : s.pwr.change with
  | none => exact voltTimeout_none hch
  | some ch => simp [voltTimeout, hch, h]

theorem voltTimeout_raising (h : s.past Timer.volt (1000 * s.ob 0x0400 Sub.power_PP_VOLT_TIMEOUT_US) = true)
    (hch : s.pwr.change = some ch) (hph : s.ob 0x0400 Sub.power_PP_PHASE = 3) : voltTimeout s = s.abandonRaise ch := by
  simp [voltTimeout, hch, h, hph]

theorem pmbAlert_raising (hch : s.pwr.change = some ch) (hph : s.ob 0x0400 Sub.power_PP_PHASE = 3) :
    pmbAlert s = s.abandonRaise ch := by
  simp [pmbAlert, hch, hph]

end Voltage

/-- Settles O46: at each point of a change, its command does what the lemma about it says. That a lowering ends at a reading at or below
the set point is the model's choice (log 84). -/
theorem powerChangesRun : Obligations.PowerChangesRun := by
  intro s c
  refine ⟨fun ha hb hs => ?active, fun ha hb hs => ?trim,
    fun ha hb => congrArg Host.Outcome.next (rowPwrReq_busy ha hb),
    fun sl h => congrArg Host.Outcome.next (clockHold_still (sliceClockHold_waits h)),
    fun ch sl rest hl hd hch hs hph hr => ?next, fun ch sl hl hd hch hs hph => ?last,
    fun ch sl mv hch hs hph hmv => ?raised, fun ch mv hch hph hmv => ?lowered,
    fun h => congrArg Host.Outcome.next (voltTimeout_early h), fun ch i hi hch hph => ?abandoned,
    fun h => ⟨congrArg Host.Outcome.next (pmbAlert_none h), congrArg Host.Outcome.next (voltTimeout_none h)⟩⟩
  case active =>
    refine ⟨_, congrArg Host.Outcome.next (rowPwrReq_begins ha hb (by simp [hs])), ?_⟩
    rw [startChange_active]
    simp (disch := decide) [State.ob_put]
  case trim =>
    refine ⟨_, congrArg Host.Outcome.next (rowPwrReq_begins ha hb (by simp [hs])), ?_⟩
    rw [startChange_trim]
    simp
  case next =>
    obtain ⟨m, hm⟩ := clockHold_eq sl s
    rw [sliceClockHold_moves hl hd hch hs hph, if_pos hr] at hm
    exact ⟨_, congrArg Host.Outcome.next hm, rfl, s.clockMoved_point .., rfl⟩
  case last =>
    obtain ⟨m, hm⟩ := clockHold_eq sl s
    rw [sliceClockHold_moves hl hd hch hs (.inl hph), if_neg (by simp), if_pos hph] at hm
    exact ⟨_, congrArg Host.Outcome.next hm, State.ob_put_self .., s.clockMoved_point ..,
      List.mem_append_right _ (List.mem_singleton_self _)⟩
  case raised =>
    refine ⟨_, congrArg Host.Outcome.next (voltageReported_raised hch (by simp [hs]) hph hmv), State.ob_put_self .., ?_, rfl⟩
    simp (disch := decide) [State.readVoltage, State.ob_put]
  case lowered =>
    refine ⟨_, congrArg Host.Outcome.next (voltageReported_lowered hch hph hmv), changeDone_change .., ?_⟩
    simp (disch := decide) [changeDone_ob]
  case abandoned =>
    have hexec : exec i s = .next (s.abandonRaise ch) := by
      rcases hi with ⟨rfl, hpast⟩ | rfl
      · exact congrArg Host.Outcome.next (voltTimeout_raising hpast hch hph)
      · exact congrArg Host.Outcome.next (pmbAlert_raising hch hph)
    refine ⟨_, hexec, abandonRaise_change .., ?_⟩
    simp (disch := decide) [abandonRaise_ob, abandonRaise_sends]

end Sys2Proof.Machine
end

section
/-! Writes of a lane, and eye scans (chapter 02): a lane's states, rate and patterns (R34, R42, R43, R46, R51), and a scan point from its
start to its end (R53, R64). -/

namespace Sys2Proof.Machine

variable {s t : State} {c : Caller}

/-! ### A write that completes at once (R458) -/

/-- A write that passes the arbiter and that its chapter takes. -/
theorem rowWrite_takes {ix sub n : Nat} {act : State → State × Status} (h : Accepted s c ix sub n) (ha : act s = (t, .ok)) :
    rowWrite c ix sub (.num n) act s = (t.noteCycle c [okey ix sub]).complete c ix sub .ok := by
  rw [rowWrite_ok h.1 h.2, ha]; rfl

/-- A write that passes the arbiter and that its chapter refuses. -/
theorem rowWrite_refuses {ix sub n : Nat} {act : State → State × Status} {st : Status} (h : Accepted s c ix sub n)
    (ha : act s = (s, st)) (hst : st ≠ .ok) : rowWrite c ix sub (.num n) act s = s.refusing c ix sub st := by
  rw [rowWrite_ok h.1 h.2, ha, if_neg hst]

@[simp] theorem State.lanes_noteCycle (c : Caller) (l : List Nat) (s : State) : (s.noteCycle c l).lanes = s.lanes := by
  cases c <;> rfl

theorem reports_complete (s : State) (c : Caller) (ix sub : Nat) (st : Status) : Reports (s.complete c ix sub st) c ix sub st := by
  simp [Reports]

/-! ### What a receiver's state tells (R43, R53, R62, R320) -/

/-- The objects that follow the state of a lane's receiver: the lane's report of its signal, its eye scan and the recovered clock. -/
def FollowsRx (m ix sub : Nat) : Prop :=
  (ix = 0x3A02 ∧ sub = Sub.syncE_SYNCE_ACTIVE) ∨ (ix = Ix.scan m ∧ sub = Sub.scan_SCAN_STATUS) ∨
    (ix = Ix.lane m ∧ (sub = Sub.lane_SIGNAL_DETECT ∨ sub = Sub.lane_LOS ∨ sub = Sub.lane_CDR_LOCK))

section Receiver
variable {m ix sub : Nat}

theorem synceSelect_ob_ne (h : sub < 256) (hne : ¬ (ix = 0x3A02 ∧ sub = Sub.syncE_SYNCE_ACTIVE)) (w : Option (Nat × Nat))
    (s : State) : (s.synceSelect w).ob ix sub = s.ob ix sub := by
  obtain ⟨e, he⟩ := synceSelect_eq w s
  rw [he]
  exact (State.ob_put (by decide) h).trans (if_neg hne)

theorem abortScan_ob_apart (h : sub < 256) (hf : ¬ FollowsRx m ix sub) (s : State) :
    (s.abortScan m).ob ix sub = s.ob ix sub := by
  unfold State.abortScan
  split
  · exact (State.ob_put (by decide) h).trans (if_neg fun hx => hf (.inr (.inl hx)))
  · rfl

/-- The report of a lane's receiver, object by object. -/
theorem rxReport_ob_eq (h : sub < 256) (a b : Bool) (s : State) :
    (s.rxReport m a b).ob ix sub =
      if ix = Ix.lane m ∧ sub = Sub.lane_CDR_LOCK then (b && (a && s.rxEffective m != 0) && s.rxEffective m == 2).toNat
      else if ix = Ix.lane m ∧ sub = Sub.lane_LOS then (!(a && s.rxEffective m != 0)).toNat
      else if ix = Ix.lane m ∧ sub = Sub.lane_SIGNAL_DETECT then (a && s.rxEffective m != 0).toNat
      else s.ob ix sub := by
  unfold State.rxReport
  obtain ⟨hd, hf, -⟩ := losLane_frame m
    (((s.put (Ix.lane m) Sub.lane_SIGNAL_DETECT (a && s.rxEffective m != 0).toNat).put
      (Ix.lane m) Sub.lane_LOS (!(a && s.rxEffective m != 0)).toNat).put
        (Ix.lane m) Sub.lane_CDR_LOCK (b && (a && s.rxEffective m != 0) && s.rxEffective m == 2).toNat)
  rw [State.ob_congr hd hf, State.ob_put (by decide) h, State.ob_put (by decide) h, State.ob_put (by decide) h]

theorem rxReport_ob_apart (h : sub < 256) (hf : ¬ FollowsRx m ix sub) (a b : Bool) (s : State) :
    (s.rxReport m a b).ob ix sub = s.ob ix sub := by
  rw [rxReport_ob_eq h, if_neg fun hx => hf (.inr (.inr ⟨hx.1, .inr (.inr hx.2)⟩)),
    if_neg fun hx => hf (.inr (.inr ⟨hx.1, .inr (.inl hx.2)⟩)), if_neg fun hx => hf (.inr (.inr ⟨hx.1, .inl hx.2⟩))]

theorem rxSettle_ob_apart (h : sub < 256) (hf : ¬ FollowsRx m ix sub) (s : State) : (s.rxSettle m).ob ix sub = s.ob ix sub := by
  obtain ⟨o, ho⟩ := dropLock_eq m s
  rw [State.rxSettle, synceSelect_ob_ne h fun hx => hf (.inl hx), State.rxKeep, rxReport_ob_apart h hf, ho]
  rfl

/-- A receive state takes its value, and of the objects that do not follow it no other changes (R43). -/
theorem setRx_ob_apart (h : sub < 256) (hf : ¬ FollowsRx m ix sub) (v : Nat) (s : State) :
    (s.setRx m v).ob ix sub = if ix = Ix.lane m ∧ sub = Sub.lane_RX_STATE then v else s.ob ix sub := by
  unfold State.setRx
  split
  case isTrue hv =>
    split
    case isTrue hx => rw [hx.1, hx.2, hv]
    case isFalse => rfl
  case isFalse => rw [rxSettle_ob_apart h hf, abortScan_ob_apart h hf, State.ob_put (by decide) h]

end Receiver

theorem rxState_apart (m : Nat) : ¬ FollowsRx m (Ix.lane m) Sub.lane_RX_STATE := by
  rintro (⟨-, h⟩ | ⟨-, h⟩ | ⟨-, h | h | h⟩) <;> exact absurd h (by decide)

theorem setRx_rxState (m v : Nat) (s : State) : (s.setRx m v).ob (Ix.lane m) Sub.lane_RX_STATE = v := by
  rw [setRx_ob_apart (by decide) (rxState_apart m), if_pos ⟨rfl, rfl⟩]

/-! ### The writes of a lane (R34, R42, R43, R46, R51) -/

section Writes
variable {m v : Nat}

theorem txStateWrite_applies (h : mfind s.lanes.goal m = none) :
    txStateWrite m v s = ((s.put (Ix.lane m) Sub.lane_TX_STATE v).startTx m, .ok) := by simp only [txStateWrite, h]

theorem txStateWrite_holds {g : Nat} (h : mfind s.lanes.goal m = some g) :
    txStateWrite m v s = ({ s with lanes := { s.lanes with heldTx := minsert s.lanes.heldTx m v } }, .ok) := by
  simp only [txStateWrite, h]

theorem rxStateWrite_applies (h : mfind s.lanes.goal m = none) : rxStateWrite m v s = (s.setRx m v, .ok) := by
  simp only [rxStateWrite, h]

/-- An enabled port uses the lane: its rate stays (R34). -/
theorem rateWrite_busy (h : (s.portOfLane m).isSome = true) : rateWrite m v s = (s, .busy) := if_pos h

/-- The rate of a lane that no port uses takes its value, whether or not it is another than before (R34, R53). -/
theorem rateWrite_takes (hp : s.portOfLane m = none) (hg : s.groupLane m = false ∨ v = s.ob (Ix.lane m) Sub.lane_RATE) :
    ∃ t, rateWrite m v s = (t, .ok) ∧ t.ob (Ix.lane m) Sub.lane_RATE = v := by
  have hgroup : (s.groupLane m && v != s.ob (Ix.lane m) Sub.lane_RATE) = false := by
    rcases hg with hg | hg <;> simp [hg]
  simp only [rateWrite, hp, hgroup, Option.isSome_none, Bool.false_eq_true, if_false]
  split
  case isTrue hv => exact ⟨s, rfl, hv⟩
  case isFalse => exact ⟨_, rfl, by rw [abortScan_ob (by decide) (lane_ne_scan m), State.ob_put_self]⟩

theorem prbsGenWrite_busy (hv : v ≠ 0) (h : (s.portOfLane m).isSome = true) : prbsGenWrite m v s = (s, .busy) := if_pos ⟨hv, h⟩

theorem prbsChkWrite_busy (hv : v ≠ 0) (h : (s.portOfLane m).isSome = true) : prbsChkWrite m v s = (s, .busy) := if_pos ⟨hv, h⟩

/-- A write of 0 passes at every lane, and any at a lane that no port uses. -/
theorem pattern_allowed (h : v = 0 ∨ s.portOfLane m = none) : ¬ (v ≠ 0 ∧ (s.portOfLane m).isSome = true) := by
  rcases h with h | h <;> simp [h]

theorem prbsGenWrite_takes (h : v = 0 ∨ s.portOfLane m = none) :
    prbsGenWrite m v s = (s.showLane m (s.put (Ix.lane m) Sub.lane_PRBS_GEN v), .ok) := if_neg (pattern_allowed h)

/-- A checker's write, and the error count that starts with it (R51, R62). -/
theorem prbsChkWrite_takes (h : v = 0 ∨ s.portOfLane m = none) :
    prbsChkWrite m v s =
      ((if v ≠ 0 ∧ s.ob (Ix.lane m) Sub.lane_PRBS_CHK = 0 then s.put (Ix.lane m) Sub.lane_PRBS_ERRORS 0 else s).put
        (Ix.lane m) Sub.lane_PRBS_CHK v, .ok) := if_neg (pattern_allowed h)

theorem showLane_ob (b : State) (ix sub : Nat) : (b.showLane m s).ob ix sub = s.ob ix sub :=
  State.ob_congr (showLane_dict ..) (showLane_fuse ..) ..

end Writes

/-- Settles O1. That a held write is reported OK at once is the model's choice (log 25). -/
theorem laneWritesTakeEffect : Obligations.LaneWritesTakeEffect := by
  refine ⟨fun s c m v => ⟨fun ha hg => ?tx, fun g ha hg => ?held, fun ha hg => ?rx, fun ha hp hg => ?rate, fun ha hp => ?gen,
    fun ha hp => ?chk⟩, fun s c m v p hp => ?busy⟩
  case tx =>
    refine ⟨_, congrArg Host.Outcome.next (rowWrite_takes ha (txStateWrite_applies hg)), ?_, reports_complete ..⟩
    simp [startTx_ob]
  case held =>
    refine ⟨_, congrArg Host.Outcome.next (rowWrite_takes ha (txStateWrite_holds hg)), ?_, ?_, reports_complete ..⟩ <;> simp
  case rx =>
    refine ⟨_, congrArg Host.Outcome.next (rowWrite_takes ha (rxStateWrite_applies hg)), ?_, reports_complete ..⟩
    simp [setRx_rxState]
  case rate =>
    obtain ⟨t, ht, hob⟩ := rateWrite_takes hp hg
    exact ⟨_, congrArg Host.Outcome.next (rowWrite_takes ha ht), by simpa using hob, reports_complete ..⟩
  case gen =>
    refine ⟨_, congrArg Host.Outcome.next (rowWrite_takes ha (prbsGenWrite_takes hp)), ?_, reports_complete ..⟩
    simp [showLane_ob]
  case chk =>
    refine ⟨_, congrArg Host.Outcome.next (rowWrite_takes ha (prbsChkWrite_takes hp)), by simp, fun hv h0 => ?_,
      reports_complete ..⟩
    simp (disch := decide) [State.ob_put, hv, h0]
  case busy =>
    have hs : (s.portOfLane m).isSome = true := by simp [hp]
    exact ⟨fun ha => congrArg Host.Outcome.next (rowWrite_refuses ha (rateWrite_busy hs) (by decide)),
      fun hv ha => congrArg Host.Outcome.next (rowWrite_refuses ha (prbsGenWrite_busy hv hs) (by decide)),
      fun hv ha => congrArg Host.Outcome.next (rowWrite_refuses ha (prbsChkWrite_busy hv hs) (by decide))⟩

/-- An enabled port of the lane's side that has the lane among its own uses it (R13). -/
theorem portOfLane_isSome {m p : Nat} (hp : p ∈ sidePorts m) (hon : s.portOn p = true) (hm : m ∈ s.portLanes p) :
    (s.portOfLane m).isSome = true :=
  List.find?_isSome.mpr ⟨p, hp, by simp [hon, hm]⟩

/-- Settles O58: the port that uses the lane makes its rate BUSY. -/
theorem rateIsBusyUnderAPort : Obligations.RateIsBusyUnderAPort := fun _ _ _ _ _ ha hp hon hm =>
  congrArg Host.Outcome.next (rowWrite_refuses ha (rateWrite_busy (portOfLane_isSome hp hon hm)) (by decide))

/-! ### Eye scans (R53, R64) -/

section Scan
variable {m n : Nat}

theorem scanStart_notReady (h : s.ob (Ix.lane m) Sub.lane_RX_STATE ≠ 2) : scanStart m s = (s, .notReady) := if_pos h

theorem scanStart_status (h : s.ob (Ix.lane m) Sub.lane_RX_STATE = 2) :
    ∃ t, scanStart m s = (t, .ok) ∧ t.ob (Ix.scan m) Sub.scan_SCAN_STATUS = 1 :=
  ⟨_, if_neg (not_not.mpr h), State.ob_put_self ..⟩

/-- A running point that is aborted. -/
theorem scanAbort_status (h : s.ob (Ix.scan m) Sub.scan_SCAN_STATUS = 1) :
    ∃ t, scanAbort m s = (t, .ok) ∧ t.ob (Ix.scan m) Sub.scan_SCAN_STATUS = 3 := by
  have hrun : (s.put (Ix.scan m) Sub.scan_SCAN_CTRL 2).ob (Ix.scan m) Sub.scan_SCAN_STATUS = 1 := by
    simpa (disch := decide) [State.ob_put] using h
  refine ⟨_, rfl, ?_⟩
  rw [State.abortScan, if_pos hrun, State.ob_put_self]

/-- A scan point that has run all its bits. -/
def State.scanOver (s : State) (m : Nat) : Prop :=
  s.ob (Ix.scan m) Sub.scan_SCAN_STATUS = 1 ∧ s.past (Timer.scan m) (2 ^ mget 24 s.lanes.dwell m * 100000 / s.laneRate m) = true

theorem scanDone_over (h : s.scanOver m) :
    scanDone m n s =
      ((s.put (Ix.scan m) Sub.scan_BITS (2 ^ mget 24 s.lanes.dwell m)).put (Ix.scan m) Sub.scan_ERRORS
        (min n (2 ^ mget 24 s.lanes.dwell m))).put (Ix.scan m) Sub.scan_SCAN_STATUS 2 := if_pos h

theorem scanDone_early (h : ¬ s.scanOver m) : scanDone m n s = s := if_neg h

end Scan

/-- Settles O3: each clause is one of the ways in which a scan point starts, is aborted or ends. -/
theorem eyeScanRuns : Obligations.EyeScanRuns := by
  intro s c m n
  refine ⟨fun ha hrx => ?start, fun ha hrx => ?notReady, fun ha hst => ?abort, fun hst hpast => ?ended, fun h => ?early⟩
  case start =>
    obtain ⟨t, ht, hob⟩ := scanStart_status hrx
    exact ⟨_, congrArg Host.Outcome.next (rowWrite_takes ha ht), by simpa using hob, reports_complete ..⟩
  case notReady => exact congrArg Host.Outcome.next (rowWrite_refuses ha (scanStart_notReady hrx) (by decide))
  case abort =>
    obtain ⟨t, ht, hob⟩ := scanAbort_status hst
    exact ⟨_, congrArg Host.Outcome.next (rowWrite_takes ha ht), by simpa using hob, reports_complete ..⟩
  case ended =>
    refine ⟨_, congrArg Host.Outcome.next (scanDone_over ⟨hst, hpast⟩), ?_, ?_, ?_⟩ <;> simp (disch := decide) [State.ob_put]
  case early =>
    refine congrArg Host.Outcome.next (scanDone_early ?_)
    rintro ⟨hst, hpast⟩
    rcases h with h | h
    · exact h hst
    · exact absurd hpast (by simp [h])

end Sys2Proof.Machine
end

section
/-! Transitions and ports (chapter 02): the end of a lane's transition (R44, R46), a port taken into use (R37), and the faults that its
receiver sees (R54, R62). -/

namespace Sys2Proof.Machine

variable {s : State}

/-! ### The end of a transition (R44, R46) -/

theorem followsRx_sub {m ix sub : Nat} (h : FollowsRx m ix sub) :
    sub = Sub.syncE_SYNCE_ACTIVE ∨ sub = Sub.scan_SCAN_STATUS ∨ sub = Sub.lane_SIGNAL_DETECT ∨ sub = Sub.lane_LOS ∨
      sub = Sub.lane_CDR_LOCK := by
  rcases h with ⟨-, h⟩ | ⟨-, h⟩ | ⟨-, h⟩
  · exact .inl h
  · exact .inr (.inl h)
  · exact .inr (.inr h)

theorem followsRx_ix {m ix sub : Nat} (h : FollowsRx m ix sub) : ix = 0x3A02 ∨ ix = 0x1100 + m ∨ ix = 0x1000 + m := by
  rcases h with ⟨h, -⟩ | ⟨h, -⟩ | ⟨h, -⟩
  · exact .inl h
  · exact .inr (.inl h)
  · exact .inr (.inr h)

/-- The objects that the end of a lane's transition may change, before the transmitter moves on. -/
def AtTransitionEnd (m ix sub : Nat) : Prop :=
  FollowsRx m ix sub ∨ (ix = Ix.lane m ∧ (sub = Sub.lane_RX_STATE ∨ sub = Sub.lane_IDLE_EXIT_NS))

theorem atTransitionEnd_ix {m ix sub : Nat} (h : AtTransitionEnd m ix sub) : ix = 0x3A02 ∨ ix = 0x1100 + m ∨ ix = 0x1000 + m := by
  rcases h with h | ⟨h, -⟩
  · exact followsRx_ix h
  · exact .inr (.inr h)

theorem atTransitionEnd_sub {m ix sub : Nat} (h : AtTransitionEnd m ix sub) : sub ≠ Sub.lane_TX_STATE ∧ sub ≠ Sub.lane_RATE := by
  rcases h with h | ⟨-, rfl | rfl⟩
  · rcases followsRx_sub h with rfl | rfl | rfl | rfl | rfl <;> decide
  · decide
  · decide

theorem heldRxApply_ob_apart {m ix sub : Nat} (h : sub < 256) (hf : ¬ FollowsRx m ix sub)
    (hr : ¬ (ix = Ix.lane m ∧ sub = Sub.lane_RX_STATE)) (s : State) : (heldRxApply m s).ob ix sub = s.ob ix sub := by
  unfold heldRxApply
  split
  · rw [setRx_ob_apart h hf, if_neg hr]; rfl
  · rfl

/-- The state in which a lane has come to the end of its transition, and a held write of its receive state has been applied. -/
def State.transitioned (m g n : Nat) (s : State) : State := heldRxApply m (reachGoal m g n s)

theorem transitioned_ob {m g n ix sub : Nat} (h : sub < 256) (ha : ¬ AtTransitionEnd m ix sub) (s : State) :
    (s.transitioned m g n).ob ix sub = s.ob ix sub := by
  rw [State.transitioned, heldRxApply_ob_apart h (fun k => ha (.inl k)) (fun k => ha (.inr ⟨k.1, .inl k.2⟩)),
    reach_ob h fun k => ha (.inr ⟨k.1, .inr k.2⟩)]

/-- The duration of an exit from IDLE (R44). -/
theorem transitioned_idleExit (m n : Nat) (s : State) :
    (s.transitioned m 3 n).ob (Ix.lane m) Sub.lane_IDLE_EXIT_NS = n % 2 ^ 16 := by
  have hf : ¬ FollowsRx m (Ix.lane m) Sub.lane_IDLE_EXIT_NS := fun h => absurd (followsRx_sub h) (by decide)
  obtain ⟨-, -, -, -, hfuse, -, -, -, hdict⟩ := reach_frame m 3 n s
  rw [State.transitioned, heldRxApply_ob_apart (by decide) hf (by simp),
    State.ob_congr (s := s.put (Ix.lane m) Sub.lane_IDLE_EXIT_NS (n % 2 ^ 16)) hdict hfuse, State.ob_put_self]

/-- The lane stands in the state that it made for, in no transition. -/
theorem transitioned_lanes (m g n : Nat) (s : State) :
    mget 1 (s.transitioned m g n).lanes.now m = g ∧ mfind (s.transitioned m g n).lanes.goal m = none ∧
      (s.transitioned m g n).lanes.heldTx = s.lanes.heldTx := by
  obtain ⟨hheld, -, hnow, hgoal, -⟩ := reach_frame m g n s
  obtain ⟨hheld', hnow', hgoal', -⟩ := rxApply_frame m (reachGoal m g n s)
  exact ⟨by rw [State.transitioned, hnow', hnow], by rw [State.transitioned, hgoal', hgoal], hheld'.trans hheld⟩

/-- What the end of a transition changes does not decide what the transmitter makes for (R47). -/
theorem transitioned_txAim {m : Nat} (hm : m < 0x60) (g n : Nat) (s : State) : (s.transitioned m g n).txAim m = s.txAim m := by
  obtain ⟨-, -, -, -, -, hpwr, hrst, hsel, -⟩ := reach_frame m g n s
  obtain ⟨-, -, -, hpwr', hrst', hsel'⟩ := rxApply_frame m (reachGoal m g n s)
  refine txAim_congr m (hpwr'.trans hpwr) (hrst'.trans hrst) (hsel'.trans hsel) fun ix sub hsub hreads =>
    transitioned_ob hsub (fun ha => ?_) s
  obtain ⟨htx, hrate⟩ := atTransitionEnd_sub ha
  have hix := atTransitionEnd_ix ha
  rcases hreads with h | h | ⟨p, hp, rfl⟩ | rfl | ⟨l, -, h⟩ | ⟨-, h⟩
  · omega
  · omega
  · simp only [sidePorts, List.mem_map, List.mem_range] at hp
    simp only [Ix.port] at hix
    omega
  · simp only [otnIx, Ix.otn, sliceOfPort] at hix
    omega
  · exact hrate h
  · exact htx h

theorem startTx_settled {m : Nat} (h : s.txAim m = mget 1 s.lanes.now m) : s.startTx m = s := if_pos h

section Ends
variable {m g v : Nat} (n : Nat)

theorem transitionEnd_free (hg : mfind s.lanes.goal m = some g) (hh : mfind s.lanes.heldTx m = none) :
    transitionEnd m n s = (s.transitioned m g n).startTx m := by
  have hheld : mfind (heldRxApply m (reachGoal m g n s)).lanes.heldTx m = none := by
    rw [← hh, ← (transitioned_lanes m g n s).2.2]; rfl
  simp only [transitionEnd, hg, applyHeld, heldTxApply, hheld]
  rfl

/-- A held write of the transmit state is applied at the end of the transition (R46). -/
theorem transitionEnd_held (hg : mfind s.lanes.goal m = some g) (hh : mfind s.lanes.heldTx m = some v) :
    (transitionEnd m n s).ob (Ix.lane m) Sub.lane_TX_STATE = v := by
  have hheld : mfind (heldRxApply m (reachGoal m g n s)).lanes.heldTx m = some v := by
    rw [← hh, ← (transitioned_lanes m g n s).2.2]; rfl
  simp only [transitionEnd, hg, applyHeld, heldTxApply, hheld, startTx_ob, State.ob_put_self]

end Ends

/-! ### Ports (R37, R486) -/

theorem characterise_ob {m ix sub : Nat} (h : sub < 256) (hix : ix ≠ timeIx m) (s : State) :
    (s.characterise m).ob ix sub = s.ob ix sub := by
  simp (disch := decide) [State.characterise, State.ob_put _ h, hix]

theorem port_ne_timeIx {m : Nat} (hm : m < 0x60) : Ix.port m ≠ timeIx m := by
  simp only [timeIx, Ix.port, Ix.timeLine, Ix.timeClient]
  split <;> omega

/-- A port that passes the checks of R37 is taken into use. -/
theorem portEnable_on {m : Nat} (hoff : s.portOn m = false) (hblock : s.blockHeld (if isLine m then 2 else 1) (m % 0x40) = false)
    (hslice : s.blockHeld 0 (sliceOfPort m) = false) (hgated : s.gated (sliceOfPort m) = false) (hcheck : s.enableCheck m = .ok)
    (hload : s.loadRuns = false) : portEnable m 1 s = ((s.put (Ix.port m) Sub.port_ENABLE 1).characterise m, .ok) := by
  simp [portEnable, portUse, hoff, hblock, hslice, hgated, hcheck, hload]

theorem portOn_enabled {m : Nat} (hm : m < 0x60) (s : State) :
    ((s.put (Ix.port m) Sub.port_ENABLE 1).characterise m).portOn m = true := by
  rw [State.portOn, State.obB, characterise_ob (by decide) (port_ne_timeIx hm), State.ob_put_self]
  rfl

theorem portEnable_off (m : Nat) (s : State) : portEnable m 0 s = (s.put (Ix.port m) Sub.port_ENABLE 0, .ok) := rfl

theorem portEnable_busy {m v : Nat} (hv : v ≠ 0) (h : s.loadRuns = true) : portEnable m v s = (s, .busy) := if_pos ⟨hv, h⟩

@[simp] theorem State.portOn_done (c : Caller) (l : List Nat) (ix sub m : Nat) (st : Status) (t : State) :
    ((t.noteCycle c l).complete c ix sub st).portOn m = t.portOn m := by simp [State.portOn, State.obB]

/-! ### Faults (R54, R62) -/

theorem rxReport_wire (m : Nat) (a b : Bool) (s : State) : (s.rxReport m a b).wire = s.wire := by
  have h : ∀ u : State, (losLane m u).wire = u.wire := fun u => by unfold losLane; split_ifs <;> rfl
  exact h _

/-- What a lane's receiver reports does not change the state that it is in. -/
theorem rxReport_rxEffective (m j : Nat) (a b : Bool) (s : State) : (s.rxReport m a b).rxEffective j = s.rxEffective j := by
  have hmask : (s.rxReport m a b).ob 0 Sub.identity_SLICE_MASK = s.ob 0 Sub.identity_SLICE_MASK :=
    rxReport_ob_apart (by decide) (fun h => by have := followsRx_ix h; omega) ..
  have hpower : (s.rxReport m a b).ob 0x0400 Sub.power_PWR_STATE = s.ob 0x0400 Sub.power_PWR_STATE :=
    rxReport_ob_apart (by decide) (fun h => by have := followsRx_ix h; omega) ..
  have hrx : (s.rxReport m a b).ob (Ix.lane j) Sub.lane_RX_STATE = s.ob (Ix.lane j) Sub.lane_RX_STATE :=
    rxReport_ob_apart (by decide) (fun h => absurd (followsRx_sub h) (by decide)) ..
  obtain ⟨-, hpwr, -⟩ := rxReport_frame m a b s
  unfold State.rxEffective State.sliceOn State.dark
  rw [hmask, hpower, hrx, hpwr]

/-- The first `k` lanes of a port have reported what they see. -/
def State.seen (m signal lock k : Nat) (s : State) : State :=
  (List.range k).foldl (fun t i => t.rxReport (m + i) (bit signal i) (bit lock i)) s

/-- A lane of a port has a signal and clock-recovery lock, and its receiver is ON (R43). -/
def State.laneGood (s : State) (m signal lock i : Nat) : Bool :=
  bit lock i && (bit signal i && s.rxEffective (m + i) != 0) && s.rxEffective (m + i) == 2

section Seen
variable {m signal lock : Nat}

theorem seen_succ (k : Nat) (s : State) :
    s.seen m signal lock (k + 1) = (s.seen m signal lock k).rxReport (m + k) (bit signal k) (bit lock k) := by
  simp [State.seen, List.range_succ]

theorem seen_wire (k : Nat) (s : State) : (s.seen m signal lock k).wire = s.wire := by
  induction k with
  | zero => rfl
  | succ k ih => rw [seen_succ, rxReport_wire, ih]

theorem seen_rxEffective (k j : Nat) (s : State) : (s.seen m signal lock k).rxEffective j = s.rxEffective j := by
  induction k with
  | zero => rfl
  | succ k ih => rw [seen_succ, rxReport_rxEffective, ih]

theorem seen_ob_apart {ix sub : Nat} (h : sub < 256) (hf : ∀ i, ¬ FollowsRx (m + i) ix sub) (k : Nat) (s : State) :
    (s.seen m signal lock k).ob ix sub = s.ob ix sub := by
  induction k with
  | zero => rfl
  | succ k ih => rw [seen_succ, rxReport_ob_apart h (hf k), ih]

theorem seen_lock {k i : Nat} (hi : i < k) (s : State) :
    (s.seen m signal lock k).ob (Ix.lane (m + i)) Sub.lane_CDR_LOCK = (s.laneGood m signal lock i).toNat := by
  induction k with
  | zero => omega
  | succ k ih =>
    rw [seen_succ, rxReport_ob_eq (by decide), seen_rxEffective]
    rcases Nat.lt_succ_iff_lt_or_eq.mp hi with hi | rfl
    · simp [ih hi, Nat.ne_of_lt hi]
    · simp [State.laneGood]

/-! A port's lanes have all reported, and the recovered clock is selected anew (`seeLanes`). -/

theorem synceSelect_wire (o : Option (Nat × Nat)) (s : State) : ∃ w, (s.synceSelect o).wire = s.wire ++ w := by
  unfold State.synceSelect
  dsimp only
  split
  · exact ⟨[], (List.append_nil _).symm⟩
  · exact ⟨_, rfl⟩

theorem seeLanes_wire (s : State) : ∃ w, (seeLanes m signal lock s).wire = s.wire ++ w := by
  obtain ⟨w, hw⟩ := synceSelect_wire s.synceOut (s.seen m signal lock (s.laneCount m))
  exact ⟨w, hw.trans (by rw [seen_wire])⟩

theorem seeLanes_laneCount (s : State) : (seeLanes m signal lock s).laneCount m = s.laneCount m :=
  (synceSelect_ob_ne (by decide) (fun h => absurd h.2 (by decide)) ..).trans
    (seen_ob_apart (by decide) (fun _ h => absurd (followsRx_sub h) (by decide)) ..)

theorem seeLanes_lock {i : Nat} (hi : i < s.laneCount m) :
    (seeLanes m signal lock s).ob (Ix.lane (m + i)) Sub.lane_CDR_LOCK = (s.laneGood m signal lock i).toNat :=
  (synceSelect_ob_ne (by decide) (fun h => absurd h.2 (by decide)) ..).trans (seen_lock hi s)

/-- A port whose receiver reports neither fault, or all of whose lanes are good, takes the state that is reported. -/
theorem seeLanes_faultSeen {n : Nat} (h : n % 2 = 0 ∨ ∀ i, i < s.laneCount m → s.laneGood m signal lock i = true) :
    (seeLanes m signal lock s).faultSeen m n = n % 4 := by
  refine if_neg ?_
  rintro ⟨hodd, hlanes⟩
  rcases h with h | h
  · omega
  · have hall : ((seeLanes m signal lock s).portLanes m).all
        (fun l => (seeLanes m signal lock s).obB (Ix.lane l) Sub.lane_CDR_LOCK) = true := by
      simp only [State.portLanes, seeLanes_laneCount, List.all_map, List.all_eq_true, List.mem_range]
      intro i hi
      simp [State.obB, seeLanes_lock hi, h i hi]
    simp [hall] at hlanes

/-- A port with a lane that is not good takes fault state 2, whatever else its receiver reports (R54). -/
theorem seeLanes_localFault {n i : Nat} (hn : n % 2 = 1) (hi : i < s.laneCount m) (hbad : s.laneGood m signal lock i = false) :
    (seeLanes m signal lock s).faultSeen m n = 2 := by
  have hall : ((seeLanes m signal lock s).portLanes m).all
      (fun l => (seeLanes m signal lock s).obB (Ix.lane l) Sub.lane_CDR_LOCK) = false := by
    simp only [State.portLanes, seeLanes_laneCount, List.all_map, List.all_eq_false, List.mem_range]
    exact ⟨i, hi, by simp [State.obB, seeLanes_lock hi, hbad]⟩
  exact if_pos ⟨by omega, by simp [hall]⟩

end Seen

/-- What a port sends does not hang on what has gone out. -/
theorem portFill_wire (m : Nat) (w : List Emission) (s : State) : ({ s with wire := w } : State).portFill m = s.portFill m := rfl

/-- The state in which a port has taken the fault state that its receiver reports. -/
def State.faultTaken (m n signal lock : Nat) (s : State) : State :=
  (seeLanes m signal lock s).put (Ix.port m) Sub.port_LINK_STATE ((seeLanes m signal lock s).faultSeen m n)

/-- The port puts out what it now sends, and then client ports that are bound to it do (R54). -/
theorem linkFaultChange_eq (m n signal lock : Nat) (s : State) :
    ∃ l, linkFaultChange m n signal lock s = { s.faultTaken m n signal lock with
      wire := (s.faultTaken m n signal lock).wire ++ .fill m (((s.faultTaken m n signal lock).portFill m).getD .idles) :: l } := by
  unfold linkFaultChange
  dsimp only
  split
  · rw [emitFold]
    exact ⟨_, by simp only [State.emitFill, State.emit, List.append_assoc, List.singleton_append]; rfl⟩
  · exact ⟨[], rfl⟩

theorem linkFaultChange_ob (m n signal lock ix sub : Nat) (s : State) :
    (linkFaultChange m n signal lock s).ob ix sub = (s.faultTaken m n signal lock).ob ix sub := by
  obtain ⟨l, h⟩ := linkFaultChange_eq m n signal lock s
  rw [h]; rfl

theorem linkFaultChange_fills (m n signal lock : Nat) (s : State) :
    .fill m (((linkFaultChange m n signal lock s).portFill m).getD .idles) ∈
      (linkFaultChange m n signal lock s).wire.drop s.wire.length := by
  obtain ⟨l, h⟩ := linkFaultChange_eq m n signal lock s
  obtain ⟨w, hw⟩ := seeLanes_wire (m := m) (signal := signal) (lock := lock) s
  have hwire : (s.faultTaken m n signal lock).wire = s.wire ++ w := hw
  have hfill : (linkFaultChange m n signal lock s).portFill m = (s.faultTaken m n signal lock).portFill m := by
    rw [h, portFill_wire]
  rw [hfill, h, hwire]
  simp

end Sys2Proof.Machine
end

section
/-! A standby's test for IN_SYNC follows a link fault (R54, R438). It may change `PAIR_STATE`, and with it the event log: neither decides
what a port sends. -/

namespace Sys2Proof.Machine

/-- `t` has what `s` has of all that decides what a port's transmitter sends (R32, R42, R47 to R54, R260). -/
structure SameTransmit (s t : State) : Prop where
  rst : t.rst = s.rst
  pwr : t.pwr = s.pwr
  lanes : t.lanes = s.lanes
  alm : t.alm = s.alm
  fuse : t.fuse = s.fuse
  eng : t.eng = s.eng
  selAct : t.pair.selAct = s.pair.selAct
  ob : ∀ {ix sub : Nat}, sub < 256 → ix ≠ 0x0300 → ¬ (ix = psIx ∧ sub = Sub.pairStat_PAIR_STATE) → t.ob ix sub = s.ob ix sub

namespace SameTransmit

variable {s t : State}

theorem refl (s : State) : SameTransmit s s := ⟨rfl, rfl, rfl, rfl, rfl, rfl, rfl, fun _ _ _ => rfl⟩

variable (h : SameTransmit s t)
include h

/-- An object outside the pair's own whose subindex is not that of `PAIR_STATE`. -/
theorem ob_sub {ix sub : Nat} (hsub : sub < 256 ∧ sub ≠ Sub.pairStat_PAIR_STATE) (hix : 0x0310 ≤ ix) : t.ob ix sub = s.ob ix sub :=
  h.ob hsub.1 (by omega) fun k => hsub.2 k.2

/-! The conditions of R32, lane by lane. -/

theorem sliceOn (sl : Nat) : t.sliceOn sl = s.sliceOn sl := by
  simp only [State.sliceOn, h.ob (ix := 0) (sub := Sub.identity_SLICE_MASK) (by decide) (by decide) (by decide)]

theorem dark : t.dark = s.dark := by
  simp only [State.dark, h.pwr, h.ob_sub (ix := 0x0400) (sub := Sub.power_PWR_STATE) (by decide) (by decide)]

theorem standby : t.standby = s.standby := by
  simp only [State.standby, State.obB, h.selAct, h.ob_sub (ix := 0x4800) (sub := Sub.pair_PAIR_ENABLE) (by decide) (by decide),
    h.ob_sub (ix := 0x4801) (sub := Sub.pairStat_ROLE) (by decide) (by decide)]

theorem gated (sl : Nat) : t.gated sl = s.gated sl := by
  simp only [State.gated, h.ob_sub (ix := 0x0410 + sl) (sub := Sub.slicePwr_SLICE_POWER_NOW) (by decide) (by omega)]

theorem blockHeld (kind i : Nat) : t.blockHeld kind i = s.blockHeld kind i := by simp only [State.blockHeld, h.rst]

theorem clockHeld (dom i : Nat) : t.clockHeld dom i = s.clockHeld dom i := by simp only [State.clockHeld, h.rst]

theorem sliceIdle (sl : Nat) : t.sliceIdle sl = s.sliceIdle sl := by
  simp only [State.sliceIdle, h.rst, h.pwr, h.sliceOn, h.dark, h.standby, h.gated, h.blockHeld, h.clockHeld]

theorem port_ob (m : Nat) {sub : Nat} (hsub : sub < 256 ∧ sub ≠ Sub.pairStat_PAIR_STATE) : t.ob (Ix.port m) sub = s.ob (Ix.port m) sub :=
  h.ob_sub hsub (by simp only [Ix.port]; omega)

theorem lane_ob (m : Nat) {sub : Nat} (hsub : sub < 256 ∧ sub ≠ Sub.pairStat_PAIR_STATE) : t.ob (Ix.lane m) sub = s.ob (Ix.lane m) sub :=
  h.ob_sub hsub (by simp only [Ix.lane]; omega)

theorem otn_ob (sl o : Nat) {sub : Nat} (hsub : sub < 256 ∧ sub ≠ Sub.pairStat_PAIR_STATE) :
    t.ob (Ix.otn sl o) sub = s.ob (Ix.otn sl o) sub :=
  h.ob_sub hsub (by simp only [Ix.otn]; omega)

/-- The rate of a lane, by index low byte. -/
theorem rate {m : Nat} (hm : m < 0x100) : t.ob (Ix.lane m) Sub.lane_RATE = s.ob (Ix.lane m) Sub.lane_RATE :=
  h.ob (by decide) (by simp only [Ix.lane]; omega) fun k => by simp only [Ix.lane, psIx] at k; omega

theorem laneCount (m : Nat) : t.laneCount m = s.laneCount m := h.port_ob m (by decide)

theorem portOn (m : Nat) : t.portOn m = s.portOn m := by
  simp only [State.portOn, State.obB, h.port_ob m (sub := Sub.port_ENABLE) (by decide)]

theorem portLanes (m : Nat) : t.portLanes m = s.portLanes m := by simp only [State.portLanes, h.laneCount]

theorem portOfLane (m : Nat) : t.portOfLane m = s.portOfLane m := by simp only [State.portOfLane, h.portOn, h.portLanes]

theorem portHeld (m : Nat) : t.portHeld m = s.portHeld m := by
  simp only [State.portHeld, h.portOfLane, h.portLanes, h.blockHeld]

theorem otnMode (sl : Nat) : t.otnMode sl = s.otnMode sl := h.otn_ob sl 0 (by decide)

theorem carrierLanes {sl : Nat} (hsl : sl < 4) : t.carrierLanes sl = s.carrierLanes sl := by
  simp only [State.carrierLanes, State.otnN, State.carrierRate, h.otn_ob sl 0 (sub := Sub.otn_OTUC_N) (by decide),
    h.rate (m := 0x40 + 8 * sl) (by omega)]

theorem spareLane (m : Nat) : t.spareLane m = s.spareLane m := by
  have hsl : sliceOfPort m < 4 := by unfold sliceOfPort; omega
  simp only [State.spareLane, h.otnMode, h.carrierLanes hsl]

theorem laneIdle (m : Nat) : t.laneIdle m = s.laneIdle m := by
  simp only [State.laneIdle, h.sliceIdle, h.portHeld, h.clockHeld, h.spareLane]

theorem traffic (m : Nat) : t.traffic m = s.traffic m := by
  simp only [State.traffic, State.held, State.pointHold, State.drained, h.laneIdle, h.alm, h.fuse, h.pwr, h.eng,
    h.ob_sub (ix := 0x0400) (sub := Sub.power_PP_PHASE) (by decide) (by decide)]

/-! What a port sends in place of frames. -/

theorem laneLoop (m : Nat) : t.laneLoop m = s.laneLoop m := by
  simp only [State.laneLoop, h.portOfLane, h.lane_ob _ (sub := Sub.lane_LOOP) (by decide)]

theorem txEffective (m : Nat) : t.txEffective m = s.txEffective m := by
  unfold State.txEffective
  rw [h.laneIdle, h.traffic, h.laneLoop, h.lanes]

theorem lanePattern {m : Nat} (hm : m < 0x100) : t.lanePattern m = s.lanePattern m := by
  unfold State.lanePattern State.pam4
  rw [h.rate hm, h.lane_ob m (by decide)]

theorem clientTsf (m : Nat) : t.clientTsf m = s.clientTsf m := by
  simp only [State.clientTsf, State.boundTrib, h.port_ob m (sub := Sub.port_BOUND_LINE) (by decide),
    h.otn_ob _ _ (sub := Sub.trib_DEFECTS) (by decide)]

theorem lfHere (m : Nat) : t.lfHere m = s.lfHere m := by
  simp only [State.lfHere, State.boundLine, h.clientTsf, h.port_ob m (sub := Sub.port_BOUND_LINE) (by decide),
    h.port_ob _ (sub := Sub.port_LINK_STATE) (by decide)]

theorem faultFill (m : Nat) : t.faultFill m = s.faultFill m := by
  unfold State.faultFill State.obB
  rw [h.lfHere, h.clientTsf, h.port_ob m (sub := Sub.port_LINK_STATE) (by decide),
    h.port_ob m (sub := Sub.port_LF_PROPAGATE) (by decide)]

theorem portFill {m : Nat} (hm : m < 0x60) (hc : s.laneCount m ≤ 8) : t.portFill m = s.portFill m := by
  have hpattern : (s.portLanes m).findSome? t.lanePattern = (s.portLanes m).findSome? s.lanePattern := by
    have hlanes : ∀ l ∈ s.portLanes m, t.lanePattern l = s.lanePattern l := by
      intro l hl
      simp only [State.portLanes, List.mem_map, List.mem_range] at hl
      exact h.lanePattern (by omega)
    rw [← List.head?_filterMap, ← List.head?_filterMap, List.filterMap_congr hlanes]
  unfold State.portFill
  simp only [h.portLanes, h.txEffective, h.traffic, h.laneLoop, h.faultFill, hpattern]

end SameTransmit

variable {s : State}

/-- `PAIR_STATE` has taken a value, and its event has been raised (R441). -/
def State.pairStateTaken (v : Nat) (s : State) : State :=
  (s.takeFree.2.put psIx Sub.pairStat_PAIR_STATE v).raise 0x0B02 0xFF (be 1 v ++ be 1 (s.takeFree.1 % 256))

theorem pairStateTaken_sameTransmit (v : Nat) (s : State) : SameTransmit s (s.pairStateTaken v) where
  rst := by simp [State.pairStateTaken]
  pwr := by simp [State.pairStateTaken]
  lanes := by simp [State.pairStateTaken]
  alm := by simp [State.pairStateTaken]
  fuse := by simp [State.pairStateTaken]
  eng := by simp [State.pairStateTaken]
  selAct := by simp [State.pairStateTaken]
  ob hsub hev hps := (State.ob_raise hsub hev).trans ((State.ob_put (by decide) hsub).trans (if_neg hps))

/-- `PAIR_STATE` changes, but not to REFUSED, which raises an alarm (R437, R441). -/
theorem setPairState_cases {v : Nat} (hv : v ≠ 6) (s : State) : setPairState v s = s ∨ ∃ w,
    setPairState v s = { s.pairStateTaken v with pair := { (s.pairStateTaken v).pair with wtr := w } } := by
  unfold setPairState
  dsimp only
  split
  · exact .inl rfl
  · refine .inr ?_
    split_ifs
    · exact ⟨_, rfl⟩
    · exact ⟨_, rfl⟩
    · exact ⟨(s.pairStateTaken v).pair.wtr, rfl⟩

theorem setPairState_sameTransmit {v : Nat} (hv : v ≠ 6) (s : State) :
    SameTransmit s (setPairState v s) ∧ (setPairState v s).wire = s.wire := by
  rcases setPairState_cases hv s with h | ⟨w, h⟩
  · rw [h]; exact ⟨.refl s, rfl⟩
  · obtain ⟨hrst, hpwr, hlanes, halm, hfuse, heng, hsel, hob⟩ := pairStateTaken_sameTransmit v s
    rw [h]
    exact ⟨⟨hrst, hpwr, hlanes, halm, hfuse, heng, hsel, hob⟩, by simp [State.pairStateTaken]⟩

/-- A standby enters or leaves IN_SYNC: no port sends anything else for it (R438). -/
theorem syncTest_sameTransmit (s : State) : SameTransmit s (syncTest s) ∧ (syncTest s).wire = s.wire := by
  unfold syncTest
  split_ifs
  · exact ⟨.refl s, rfl⟩
  · exact setPairState_sameTransmit (by decide) s
  · exact setPairState_sameTransmit (by decide) s
  · exact setPairState_sameTransmit (by decide) s
  · exact ⟨.refl s, rfl⟩

/-! ### The port after a link fault (R54, R438) -/

section Port
variable {m n signal lock : Nat}

theorem faultTaken_laneCount (s : State) : (s.faultTaken m n signal lock).laneCount m = s.laneCount m :=
  ((State.ob_put (by decide) (by decide)).trans (if_neg fun k => absurd k.2 (by decide))).trans (seeLanes_laneCount s)

theorem linkFault_ob {ix sub : Nat} (h : sub < 256) (hev : ix ≠ 0x0300) (hps : ¬ (ix = psIx ∧ sub = Sub.pairStat_PAIR_STATE))
    (s : State) : (syncTest (linkFaultChange m n signal lock s)).ob ix sub = (s.faultTaken m n signal lock).ob ix sub :=
  ((syncTest_sameTransmit _).1.ob h hev hps).trans (linkFaultChange_ob ..)

/-- What the port sends from now on is put out. -/
theorem linkFault_fills (hm : m < 0x60) (hc : s.laneCount m ≤ 8) :
    .fill m (((syncTest (linkFaultChange m n signal lock s)).portFill m).getD .idles) ∈
      (syncTest (linkFaultChange m n signal lock s)).wire.drop s.wire.length := by
  obtain ⟨hsame, hwire⟩ := syncTest_sameTransmit (linkFaultChange m n signal lock s)
  have hcount : (linkFaultChange m n signal lock s).laneCount m = s.laneCount m :=
    (linkFaultChange_ob ..).trans (faultTaken_laneCount s)
  rw [hsame.portFill hm (by rw [hcount]; exact hc), hwire]
  exact linkFaultChange_fills ..

end Port

end Sys2Proof.Machine
end

section
/-! Management lanes (chapter 02): a lane of the Tether or of a Halyard port counts commas, comes into alignment and loses it (R59, R60,
R63); and the statement on lanes and ports. -/

namespace Sys2Proof.Machine

variable {s : State}

/-! ### What a change of the pair's state leaves of the objects (R437, R441, R505) -/

section Objects
variable {ix sub : Nat}

theorem alarm_ob {src : Nat} (h : sub < 256) (hix : ix ≠ 0x4D00 + src) (detail : Nat) (s : State) :
    (s.alarm src detail).ob ix sub = s.ob ix sub := by
  unfold State.alarm
  split
  · rw [State.ob_put (by decide) h, State.addOb, State.ob_put (by decide) h, if_neg fun k => hix k.1, if_neg fun k => hix k.1]
    rfl
  · rfl

theorem setPairState_ob {v : Nat} (hv : v ≠ 6) (h : sub < 256) (hev : ix ≠ 0x0300)
    (hps : ¬ (ix = psIx ∧ sub = Sub.pairStat_PAIR_STATE)) (s : State) : (setPairState v s).ob ix sub = s.ob ix sub :=
  (setPairState_sameTransmit hv s).1.ob h hev hps

theorem pairJoin_ob (h : sub < 256) (hev : ix ≠ 0x0300) (hps : ¬ (ix = psIx ∧ sub = Sub.pairStat_PAIR_STATE)) (s : State) :
    (pairJoin s).ob ix sub = s.ob ix sub := by
  unfold pairJoin
  split
  · rw [setPairState_ob (by decide) h hev hps]; rfl
  · rfl

theorem cutCmd_ob (h : sub < 256) (hsw : ix ≠ swIx) (s : State) : (cutCmd s).ob ix sub = s.ob ix sub := by
  unfold cutCmd
  split
  · split
    · rw [State.ob_put (by decide) h, if_neg fun k => hsw k.1]; rfl
    · rfl
  · rfl

theorem tetherCut_ob (h : sub < 256) (hix : ix < 0x4800) (hev : ix ≠ 0x0300) (s : State) :
    (tetherCut s).ob ix sub = s.ob ix sub := by
  have hcut : (cutCmd (s.alarm 0x30 0)).ob ix sub = s.ob ix sub := by
    rw [cutCmd_ob h (by unfold swIx; omega), alarm_ob h (by omega)]
  unfold tetherCut
  dsimp only
  split_ifs
  · exact hcut
  · rw [setPairState_ob (by decide) h hev (by unfold psIx; omega), hcut]
  · rfl

theorem linkEvent_ob (h : sub < 256) (hev : ix ≠ 0x0300) (code : Nat) (items : Bytes) (s : State) :
    (linkEvent code items s).ob ix sub = s.ob ix sub := by
  unfold linkEvent
  dsimp only
  split
  · rw [State.ob_emit, State.ob_raise h hev]
  · rw [State.ob_raise h hev]

end Objects

/-! ### Alignment and its loss (R59, R60, R63) -/

section Lane
variable {k : Nat}

theorem cgLane_lt (h : cgLane k) : k < 0x100 := by unfold cgLane at h; omega

/-- The objects of a lane whose alignment has been declared. -/
theorem cgDeclare_ob (hk : cgLane k) {sub : Nat} (h : sub < 256) (late : Nat) (s : State) :
    (cgDeclare k late s).ob (Ix.lane k) sub =
      if sub = Sub.sLane_LOS then 0 else if sub = Sub.sLane_SIGNAL_DETECT then 1
      else if sub = Sub.sLane_CG_ERRORS then 0 else if sub = Sub.sLane_CG_ALIGNED then 1 else s.ob (Ix.lane k) sub := by
  have hlt := cgLane_lt hk
  have hev : Ix.lane k ≠ 0x0300 := by simp only [Ix.lane]; omega
  have hps : ¬ (Ix.lane k = psIx ∧ sub = Sub.pairStat_PAIR_STATE) := by simp only [Ix.lane, psIx]; omega
  have hputs : ((((s.put (Ix.lane k) Sub.sLane_CG_ALIGNED 1).put (Ix.lane k) Sub.sLane_CG_ERRORS 0).put
      (Ix.lane k) Sub.sLane_SIGNAL_DETECT 1).put (Ix.lane k) Sub.sLane_LOS 0).ob (Ix.lane k) sub =
      if sub = Sub.sLane_LOS then 0 else if sub = Sub.sLane_SIGNAL_DETECT then 1
      else if sub = Sub.sLane_CG_ERRORS then 0 else if sub = Sub.sLane_CG_ALIGNED then 1 else s.ob (Ix.lane k) sub := by
    simp (disch := decide) only [State.ob_put _ h, true_and]
  rw [← hputs]
  unfold cgDeclare
  dsimp only
  split
  · rw [pairJoin_ob h hev hps]; rfl
  · rw [linkEvent_ob h hev]; rfl

/-- The third comma in succession at one bit phase aligns the lane. -/
theorem cgAlign_third (hk : cgLane k) (hoff : s.obB (Ix.lane k) Sub.sLane_CG_ALIGNED = false) {at_ n : Nat}
    (hc : mget (0, 0) s.lanes.commas k = (at_ % 10, n)) (hn : 2 ≤ n) :
    cgAlign k at_ s = cgDeclare k (at_ / 10) { s with lanes := { s.lanes with commas := merase s.lanes.commas k } } := by
  have hthree : ¬ n + 1 < 3 := by omega
  simp [cgAlign, commaCount, hk, hoff, hc, hthree]

/-- Any other comma is counted, and nothing else changes. -/
theorem cgAlign_counts (hk : cgLane k) (hoff : s.obB (Ix.lane k) Sub.sLane_CG_ALIGNED = false) {at_ p n : Nat}
    (hc : mget (0, 0) s.lanes.commas k = (p, n)) (hn : p ≠ at_ % 10 ∨ n < 2) :
    cgAlign k at_ s = { s with lanes := { s.lanes with
      commas := minsert s.lanes.commas k (at_ % 10, if p = at_ % 10 then n + 1 else 1) } } := by
  have hcount : commaCount (p, n) (at_ % 10) = (at_ % 10, if p = at_ % 10 then n + 1 else 1) := by
    unfold commaCount; split <;> rfl
  have hfew : (if p = at_ % 10 then n + 1 else 1) < 3 := by split <;> omega
  simp [cgAlign, hk, hoff, hc, hcount, hfew]

/-- An aligned lane has received code groups: the last 32 are kept and the invalid ones counted (R60). -/
def State.groupsTaken (k w e : Nat) (s : State) : State :=
  ({ s with lanes := { s.lanes with groups := mset 0 s.lanes.groups k w } } : State).addOb (Ix.lane k) Sub.sLane_CG_ERRORS 32 e

theorem groupsTaken_ob {w e sub : Nat} (h : sub < 256) (s : State) : (s.groupsTaken k w e).ob (Ix.lane k) sub =
    if sub = Sub.sLane_CG_ERRORS then (s.ob (Ix.lane k) Sub.sLane_CG_ERRORS + e) % 2 ^ 32 else s.ob (Ix.lane k) sub := by
  rw [State.groupsTaken, State.addOb, State.ob_put (by decide) h]
  simp only [true_and]
  rfl

theorem cgAlignLost_runs (hk : cgLane k) (hon : s.obB (Ix.lane k) Sub.sLane_CG_ALIGNED = true) {groups : List Bool} {w e : Nat}
    {lost : Bool} (hrun : cgRun groups (mget 0 s.lanes.groups k) 0 = (w, e, lost)) (signal : Bool) :
    cgAlignLost k groups signal s = if lost then cgLost k signal (s.groupsTaken k w e) else s.groupsTaken k w e := by
  simp [cgAlignLost, hk, hon, hrun, State.groupsTaken]

/-- The objects of a lane that has lost its alignment. -/
theorem cgLost_ob (hk : cgLane k) {sub : Nat} (h : sub < 256) (signal : Bool) (s : State) :
    (cgLost k signal s).ob (Ix.lane k) sub =
      if sub = Sub.sLane_LOS then (!signal).toNat else if sub = Sub.sLane_SIGNAL_DETECT then signal.toNat
      else if sub = Sub.sLane_CG_ALIGNED then 0 else s.ob (Ix.lane k) sub := by
  have hlt := cgLane_lt hk
  have hev : Ix.lane k ≠ 0x0300 := by simp only [Ix.lane]; omega
  have hputs : (((s.put (Ix.lane k) Sub.sLane_CG_ALIGNED 0).put (Ix.lane k) Sub.sLane_SIGNAL_DETECT signal.toNat).put
      (Ix.lane k) Sub.sLane_LOS (!signal).toNat).ob (Ix.lane k) sub =
      if sub = Sub.sLane_LOS then (!signal).toNat else if sub = Sub.sLane_SIGNAL_DETECT then signal.toNat
      else if sub = Sub.sLane_CG_ALIGNED then 0 else s.ob (Ix.lane k) sub := by
    simp (disch := decide) only [State.ob_put _ h, true_and]
  rw [← hputs]
  unfold cgLost
  dsimp only
  split_ifs
  · rw [linkEvent_ob h hev]
  · rw [tetherCut_ob h (by simp only [Ix.lane]; omega) hev]
  · rfl

end Lane

/-! ### Code groups of an aligned lane (R60) -/

/-- The invalid code groups among the last 32. -/
def invalidOf (w : Nat) : Nat := (List.range 32).countP w.testBit

theorem invalidOf_zero : invalidOf 0 = 0 := by decide

theorem invalidOf_push (ok : Bool) (w : Nat) : invalidOf ((2 * w + (!ok).toNat) % 2 ^ 32) ≤ invalidOf w + (!ok).toNat := by
  have hzero : ((2 * w + (!ok).toNat) % 2 ^ 32).testBit 0 = !ok := by
    cases ok <;> simp [Nat.testBit_zero]
  have hsucc : ∀ i ∈ List.range 31, ((2 * w + (!ok).toNat) % 2 ^ 32).testBit (i + 1) = true ↔ w.testBit i = true := by
    intro i hi
    have hi : i + 1 < 32 := by rw [List.mem_range] at hi; omega
    have hdiv : (2 * w + (!ok).toNat) / 2 = w := by cases ok <;> simp; omega
    rw [Nat.testBit_mod_two_pow, Nat.testBit_succ, hdiv]
    simp [hi]
  have hmore : (List.range 31).countP w.testBit ≤ invalidOf w := by
    rw [invalidOf, List.range_succ (n := 31), List.countP_append]
    exact Nat.le_add_right ..
  rw [invalidOf, List.range_succ_eq_map, List.countP_cons, List.countP_map, hzero]
  have hcount : (List.range 31).countP (((2 * w + (!ok).toNat) % 2 ^ 32).testBit ∘ Nat.succ) = (List.range 31).countP w.testBit :=
    List.countP_congr hsucc
  rw [hcount]
  cases ok <;> simpa using hmore

/-- Fewer than four invalid code groups within any 32 lose nothing. -/
theorem cgRun_keeps (l : List Bool) (w n : Nat) (h : invalidOf w + l.count false < 4) :
    (cgRun l w n).2 = (n + l.count false, false) := by
  induction l generalizing w n with
  | nil => rfl
  | cons ok l ih =>
    have hcount : (ok :: l).count false = (!ok).toNat + l.count false := by cases ok <;> simp; omega
    have hpush := invalidOf_push ok w
    have hfew : ¬ 4 ≤ invalidOf ((2 * w + (!ok).toNat) % 2 ^ 32) := by omega
    rw [show cgRun (ok :: l) w n = cgRun l ((2 * w + (!ok).toNat) % 2 ^ 32) (n + (!ok).toNat) from if_neg hfew,
      ih _ _ (by omega), hcount, Nat.add_assoc]

/-- The fourth invalid code group, of 32 less those before it, loses the alignment. -/
theorem cgRun_loses : ∀ bad < 4,
    (cgRun (List.replicate bad false ++ List.replicate (28 - bad) true ++ List.replicate (4 - bad) false) 0 0).2 = (4, true) := by
  decide +kernel

/-! ### A window of codewords (R65) -/

theorem fecSerWindow_above {m n : Nat} (h : s.ob (Ix.port m) Sub.port_FEC_SER_THRESH < n) :
    fecSerWindow m n s = s.raise 0x0201 (sliceOfPort m) (be 1 m ++ be 4 n) := if_pos h

theorem fecSerWindow_within {m n : Nat} (h : n ≤ s.ob (Ix.port m) Sub.port_FEC_SER_THRESH) : fecSerWindow m n s = s :=
  if_neg (Nat.not_lt.mpr h)

/-! ### The statement -/

/-- Settles O2. That the place of a comma is `CG_ALIGN`'s operand is the model's choice (log 135), as are the objects that follow the third
comma and the loss (log 29). -/
theorem lanesAndPortsMove : Obligations.LanesAndPortsMove := by
  refine ⟨fun s c m n hm => ⟨fun g hg hh => ?free, fun v hg hh => ?held, fun ha hoff hb hsl hga hch hl => ?on, fun ha => ?off,
    fun v ha hv hl => ?load, fun signal lock hle h => ?fault, fun signal lock i hle hn hi hbad => ?lost, fun hlt hcores => ?window,
    fun hle => ?quiet⟩, fun s k hk => ⟨fun at_ n hal hc hn => ?third, fun at_ p n hal hc hn => ?comma,
    fun groups signal w e hal hrun => ?loses, fun groups signal w e hal hrun => ?keeps⟩, fun good bad hgood hbad => ⟨?few, ?four⟩⟩
  case free =>
    refine ⟨_, congrArg Host.Outcome.next (transitionEnd_free n hg hh), fun haim => ?_, fun h3 => ?_⟩
    · obtain ⟨hnow, hgoal, -⟩ := transitioned_lanes m g n s
      rw [startTx_settled (by rw [transitioned_txAim hm, haim, hnow])]
      exact ⟨hnow, hgoal⟩
    · rw [h3, startTx_ob, transitioned_idleExit]
  case held =>
    obtain ⟨g, hg⟩ := Option.ne_none_iff_exists'.mp hg
    exact ⟨transitionEnd m n s, rfl, transitionEnd_held n hg hh⟩
  case on =>
    refine ⟨_, congrArg Host.Outcome.next (rowWrite_takes ha (portEnable_on hoff hb hsl hga hch hl)), ?_, reports_complete ..⟩
    rw [State.portOn_done, portOn_enabled hm]
  case off =>
    refine ⟨_, congrArg Host.Outcome.next (rowWrite_takes ha (portEnable_off m s)), ?_, reports_complete ..⟩
    simp [State.portOn, State.obB]
  case load => exact congrArg Host.Outcome.next (rowWrite_refuses ha (portEnable_busy hv hl) (by decide))
  case fault =>
    have hgood : n % 2 = 0 ∨ ∀ i, i < s.laneCount m → s.laneGood m signal lock i = true :=
      h.imp_right fun h i hi => by simp [State.laneGood, h i hi]
    refine ⟨syncTest (linkFaultChange m n signal lock s), rfl, ?_, linkFault_fills hm hle⟩
    rw [linkFault_ob (by decide) (by simp only [Ix.port]; omega) (fun k => absurd k.2 (by decide)), State.faultTaken, State.ob_put_self,
      seeLanes_faultSeen hgood]
  case lost =>
    have hbad : s.laneGood m signal lock i = false := by
      rcases hbad with h | h | h <;> simp [State.laneGood, h]
    refine ⟨syncTest (linkFaultChange m n signal lock s), rfl, ?_, ?_, linkFault_fills hm hle⟩
    · rw [linkFault_ob (by decide) (by simp only [Ix.port]; omega) (fun k => absurd k.2 (by decide)), State.faultTaken, State.ob_put_self,
        seeLanes_localFault hn hi hbad]
    · rw [linkFault_ob (by decide) (by simp only [Ix.lane]; omega) (fun k => absurd k.2 (by decide)), State.faultTaken,
        State.ob_put (by decide) (by decide), if_neg (by simp only [Ix.lane, Ix.port]; omega), seeLanes_lock hi, hbad]
      rfl
  case window => exact ⟨_, congrArg Host.Outcome.next (fecSerWindow_above hlt), raise_logged hcores⟩
  case quiet => exact congrArg Host.Outcome.next (fecSerWindow_within hle)
  case third =>
    refine ⟨_, congrArg Host.Outcome.next (cgAlign_third hk hal hc hn), ?_, ?_, ?_, ?_⟩ <;>
      simp (disch := decide) [cgDeclare_ob hk]
  case comma => exact ⟨_, congrArg Host.Outcome.next (cgAlign_counts hk hal hc hn), mget_minsert_self .., rfl, rfl⟩
  case loses =>
    refine ⟨_, congrArg Host.Outcome.next (cgAlignLost_runs hk hal hrun signal), ?_, ?_, ?_⟩ <;>
      simp (disch := decide) [cgLost_ob hk, groupsTaken_ob]
  case keeps =>
    refine ⟨_, congrArg Host.Outcome.next (cgAlignLost_runs hk hal hrun signal), ?_, ?_, ?_⟩
    · simpa (disch := decide) [State.obB, groupsTaken_ob] using hal
    · simp [State.groupsTaken]
    · simp (disch := decide) [groupsTaken_ob]
  case few =>
    rw [cgRun_keeps _ _ _ (by simpa [invalidOf_zero, List.count_replicate] using hbad)]
    simp [List.count_replicate]
  case four => exact cgRun_loses bad hbad

end Sys2Proof.Machine
end

section
/-! Client frames (chapters 02 and 05): a frame that arrives is dropped, acts as a control frame or is taken into the sealing pipe (R41, R48,
R79), is admitted to its queue (R163), and the pause frames of a port are repeated (R58, R167). -/

namespace Sys2Proof.Machine

variable {s t u : State}

/-! ### Arrival (R41, R48, R79) -/

section Arrival
variable {c : Nat} {b : Bytes} {pcs : Bool} {lag ctr : Nat}

theorem exec_clientFrame (hnear : s.nearLoop c = false) :
    exec (.clientFrameReceived c b pcs lag) s = .next (clientFrame c b pcs lag s) := by
  show Host.Outcome.next (if s.nearLoop c = true then s else clientFrame c b pcs lag s) = _
  rw [hnear]; rfl

/-- The receiver of a client port takes a frame from its pins, and a far-end loop does not return it. -/
structure TakesFrames (s : State) (c : Nat) : Prop where
  client : c < 32
  hears : s.hears c = true
  noFarLoop : s.farLoop c = false

theorem TakesFrames.gate (h : TakesFrames s c) : ¬ (32 ≤ c ∨ (!s.hears c) = true) := by simp [h.client, h.hears]

theorem farEnd_off (h : s.farLoop c = false) : farEnd c b s = s := by simp [farEnd, h]

/-- A frame that fails a check of its length is counted. -/
theorem clientFrame_drop (h : TakesFrames s c) (hm : macCheck (s.maxFrame c) b pcs = (.drop, ctr)) :
    clientFrame c b pcs lag s = s.bump (Ctr.port c + ctr) := by
  simp only [clientFrame, if_neg h.gate, farEnd_off h.noFarLoop, hm]

/-- A MAC control frame is counted and acts (R56). -/
theorem clientFrame_control (h : TakesFrames s c) (hm : macCheck (s.maxFrame c) b pcs = (.control, ctr)) :
    clientFrame c b pcs lag s = pauseAct c b (s.bump (Ctr.port c + ctr)) := by
  simp only [clientFrame, if_neg h.gate, farEnd_off h.noFarLoop, hm]

/-- A good frame as its client port hands it to the sealing pipe. -/
def State.clientFrm (s : State) (c : Nat) (b : Bytes) (lag : Nat) : Frm :=
  { bytes := b, len := b.length, inPort := c, outPort := 0x40 + 8 * (c / 8) + s.clientNode c, node := s.clientNode c, bad := 0
    stamp := (s.laneStamp c lag).1, epoch := (s.laneStamp c lag).2 }

theorem clientFrame_ok (h : TakesFrames s c) (hm : macCheck (s.maxFrame c) b pcs = (.ok, ctr)) (hdark : s.dark = false)
    (hheld : s.held = false) (hpipe : s.ob (pipeIx (c / 8) .seal) Sub.pipe_PIPE_STATE ≠ 3) :
    clientFrame c b pcs lag s =
      sealEnter c ((s.bump (Ctr.port c + ctr)).clientFrm c b lag) (s.bump (Ctr.port c + ctr)) := by
  have hdark' : (s.bump (Ctr.port c + ctr)).dark = false := hdark
  have hheld' : (s.bump (Ctr.port c + ctr)).held = false := hheld
  have hpipe' : ((s.bump (Ctr.port c + ctr)).ob (pipeIx (c / 8) .seal) Sub.pipe_PIPE_STATE == 3) = false := by simpa using hpipe
  simp only [clientFrame, if_neg h.gate, farEnd_off h.noFarLoop, hm, hdark', hheld', hpipe', Bool.false_eq_true, if_false,
    Bool.or_false]
  rfl

/-- A frame with a tracker and a SecY goes on to its colour, and its first word has been taken (R26, R77). -/
theorem sealEnter_secy {f : Frm} {y : Nat} (htr : s.trackers (c / 8) .seal 0 < 1024) (htag : s.tagging (c / 8) .seal = false)
    (hplain : s.plainClient c = false)
    (hl : hitchLookup c (outerVid f.bytes) (frameDa f.bytes) (takeWords (c / 8) .seal 0 (s.cyc (c / 8)) f.len s).2 = (some y, u)) :
    sealEnter c f s = sealColour c { f with secy := some y, tag := none, ptp := isPtp f.bytes } u := by
  have htag' : (takeWords (c / 8) .seal 0 (s.cyc (c / 8)) f.len s).2.tagging (c / 8) .seal = false := htag
  have hplain' : (takeWords (c / 8) .seal 0 (s.cyc (c / 8)) f.len s).2.plainClient c = false := hplain
  have htr' : ¬ 1024 ≤ s.trackers (c / 8) .seal 0 := by omega
  simp [sealEnter, htr', drawTag, htag', hplain', hl]

/-- A frame waits for its last word in a slice's sealing ingress segment. -/
def State.arrived (sl : Nat) (f : Frm) (s : State) : State :=
  { s with tm := { s.tm with arriving := mset [] s.tm.arriving sl (mget [] s.tm.arriving sl ++ [f]) } }

theorem arrived_arriving (h : u.tm = s.tm) (sl : Nat) (f : Frm) :
    mget [] (u.arrived sl f).tm.arriving sl = mget [] s.tm.arriving sl ++ [f] := by
  rw [← h]
  exact mget_mset_self ..

/-- A frame without a policer is green, and waits for its last word (R154, R156). -/
theorem sealColour_green {f : Frm} (hp : s.policerOf c (s.classOf c f.bytes) (f.secy.getD 0) = none) :
    sealColour c f s = s.arrived (c / 8) { f with tc := s.classOf c f.bytes, policer := none, colour := 0 } := by
  simp [sealColour, hp, State.arrived]

/-- The frame of a client port whose lookup gives a SecY, and for which no policer is in force (R77, R154). -/
theorem sealEnter_green {f : Frm} {y : Nat} (hb : f.bytes = b) (hlen : f.len = b.length)
    (htr : s.trackers (c / 8) .seal 0 < 1024) (htag : s.tagging (c / 8) .seal = false) (hplain : s.plainClient c = false)
    (hl : hitchLookup c (outerVid b) (frameDa b) (takeWords (c / 8) .seal 0 (s.cyc (c / 8)) b.length s).2 = (some y, u))
    (hp : u.policerOf c (u.classOf c b) y = none) :
    sealEnter c f s = u.arrived (c / 8)
      { f with secy := some y, tag := none, ptp := isPtp b, tc := u.classOf c b, policer := none, colour := 0 } := by
  subst hb
  rw [← hlen] at hl
  rw [sealEnter_secy htr htag hplain hl]
  exact sealColour_green (f := { f with secy := some y, tag := none, ptp := isPtp f.bytes }) hp

end Arrival

/-! A lookup leaves the traffic manager as it was. -/

theorem readSlots_tm (sl : Nat) (is : List Nat) (s : State) : (readSlots sl is s).2.tm = s.tm := by
  have hslot : ∀ i u, (readSlot sl i u).2.tm = u.tm := by
    intro i u
    unfold readSlot
    dsimp only
    split
    · rfl
    · rw [State.raise_tm, State.bump_tm]; rfl
  have hfold : ∀ (l : List Nat) (a : List (Nat × Nat) × State),
      (l.foldl (fun a i => let r := readSlot sl i a.2; (a.1 ++ [(i, r.1)], r.2)) a).2.tm = a.2.tm := by
    intro l
    induction l with
    | nil => intro a; rfl
    | cons i l ih => intro a; rw [List.foldl_cons, ih]; exact hslot i a.2
  exact hfold is _

theorem hitchGroup_tm (c ctr : Nat) (s : State) : (hitchGroup c ctr s).2.tm = s.tm := by
  unfold hitchGroup
  dsimp only
  split <;> rfl

theorem hitchLookup_tm (c vid da : Nat) (s : State) : (hitchLookup c vid da s).2.tm = s.tm := by
  unfold hitchLookup
  dsimp only
  split
  · exact hitchGroup_tm ..
  · split
    · exact hitchGroup_tm ..
    · have hr := fun key => readSlots_tm (c / 8) (s.candidates (c / 8) key) s
      split
      · rw [hitchGroup_tm, hr]
      · split
        · rw [State.bump_tm, hr]
        · rw [hitchGroup_tm, hr]

/-! ### Admission (R163) -/

/-- A pause frame for an ingress port of the sealing pipe takes no slot of a pacer (R171). -/
theorem sendOut_tm (m : Nat) (e : Emission) (b : Bytes) (cut : Bool) (s : State) : (sendOut m e b cut s).tm = s.tm := by
  unfold sendOut
  split
  · split <;> rfl
  · rfl

theorem sendPause_seal_tm (sl ip tc quanta : Nat) (s : State) : (sendPause sl .seal ip tc quanta s).tm = s.tm := by
  unfold sendPause
  dsimp only
  split
  · exact sendOut_tm ..
  · rfl

/-- Flow control toward a client port leaves the traffic manager as it was (R166). -/
theorem flowUpdate_seal_tm (sl ip : Nat) (s : State) : (flowUpdate sl .seal ip s).tm = s.tm := by
  have hclass : ∀ k a b u, (flowClass sl .seal ip k a b u).tm = u.tm := by
    intro k a b u
    unfold flowClass
    dsimp only
    split
    · rfl
    · rw [sendPause_seal_tm]; rfl
  have hoff : ∀ k u, (flowOff sl .seal ip k u).tm = u.tm := by
    intro k u
    unfold flowOff
    dsimp only
    split <;> rfl
  refine List.foldlRecOn (motive := fun u : State => u.tm = s.tm) _ _ rfl fun u hu k _ => ?_
  split
  · rw [hclass, hu]
  · rw [hoff, hu]

section Admit
variable {sl : Nat} {f : Frm} {rest : List Frm}

/-- The oldest arriving frame, with no policer and a good FCS, leaves the segment and meets admission (R157). -/
theorem frameAdmit_admits (ha : mget [] s.tm.arriving sl = f :: rest) (hp : f.policer = none) (hbad : f.bad = 0) :
    ∃ left, mget [] left sl = rest ∧ frameAdmit sl s =
      admitFrame sl .seal (s.ob (tmClientIx f.inPort) Sub.tmClient_SEAL_QUEUE_BASE + f.tc) (f.inPort % 8) f.inPort f
        { s with tm := { s.tm with arriving := left } } := by
  refine ⟨mset [] s.tm.arriving sl rest, mget_mset_self .., ?_⟩
  simp only [frameAdmit, ha, hp, hbad]
  rfl

/-! What the counts of a queue and of a class leave alone. -/

section Counts
variable (sl : Nat) (p : Pipe) (q : Nat) (s : State)

/-- Cells that a class takes or gives back are counted there. -/
theorem moveCells_eq (take : Bool) (ip tc cls n : Nat) : ∃ used by_ head, s.moveCells take sl p ip tc cls n =
    { s with tm := { s.tm with sharedUsed := used, sharedBy := by_, headBy := head } } := by
  by_cases hshared : cls = 2
  · rw [State.moveCells, if_pos hshared]
    exact ⟨_, _, s.tm.headBy, rfl⟩
  · rw [State.moveCells, if_neg hshared]
    by_cases hhead : cls = 3
    · rw [if_pos hhead]
      exact ⟨s.tm.sharedUsed, s.tm.sharedBy, _, rfl⟩
    · rw [if_neg hhead]
      exact ⟨s.tm.sharedUsed, s.tm.sharedBy, s.tm.headBy, rfl⟩

@[simp] theorem arriving_moveCells (take : Bool) (ip tc cls n : Nat) :
    (s.moveCells take sl p ip tc cls n).tm.arriving = s.tm.arriving := by
  obtain ⟨_, _, _, h⟩ := moveCells_eq sl p s take ip tc cls n; rw [h]
@[simp] theorem admission_moveCells (take : Bool) (ip tc cls n : Nat) :
    (s.moveCells take sl p ip tc cls n).tm.admission = s.tm.admission := by
  obtain ⟨_, _, _, h⟩ := moveCells_eq sl p s take ip tc cls n; rw [h]
@[simp] theorem held_moveCells (take : Bool) (ip tc cls n : Nat) : (s.moveCells take sl p ip tc cls n).tm.held = s.tm.held := by
  obtain ⟨_, _, _, h⟩ := moveCells_eq sl p s take ip tc cls n; rw [h]

@[simp] theorem arriving_qbump (n k : Nat) : (s.qbump sl p q n k).tm.arriving = s.tm.arriving := rfl
@[simp] theorem admission_qbump (n k : Nat) : (s.qbump sl p q n k).tm.admission = s.tm.admission := rfl
@[simp] theorem held_qbump (n k : Nat) : (s.qbump sl p q n k).tm.held = s.tm.held := rfl

@[simp] theorem arriving_putHeld (l : List Frm) : (s.putHeld sl p q l).tm.arriving = s.tm.arriving := rfl
@[simp] theorem admission_putHeld (l : List Frm) : (s.putHeld sl p q l).tm.admission = s.tm.admission := rfl
@[simp] theorem held_putHeld_self (l : List Frm) : mget [] (s.putHeld sl p q l).tm.held (pkey sl p q) = l := mget_mset_self ..

@[simp] theorem arriving_putAdm (e : Nat) : (s.putAdm sl p q e).tm.arriving = s.tm.arriving := rfl
@[simp] theorem admission_putAdm_self (e : Nat) : mget 0 (s.putAdm sl p q e).tm.admission (pkey sl p q) = e := mget_mset_self ..
@[simp] theorem held_putAdm (e : Nat) : (s.putAdm sl p q e).tm.held = s.tm.held := rfl

end Counts

/-- A frame as it stands in queue `q` of the sealing pipe, with `n` cells of class `d` (R163). -/
def State.queuedFrm (s : State) (sl q n d : Nat) (f : Frm) : Frm :=
  { f with tag := f.tag.map (fun g => { g with t2 := some s.time.now }), queue := q, cells := n, cls := d, enqNs := s.ns
           depth := Adm.used (s.admAt sl .seal q) + n }

/-- The cells of a frame of `n` have been counted at its queue and taken from class `d`. -/
def State.cellsTaken (sl ip q n d : Nat) (f : Frm) (s : State) : State :=
  (s.putAdm sl .seal q (Adm.setUsed (s.admAt sl .seal q) (Adm.used (s.admAt sl .seal q) + n))).moveCells true sl .seal ip f.tc d n

/-- A frame has been put at the end of its queue, and counted there (R163, R179). -/
def State.enqueued (sl ip q n d : Nat) (f : Frm) (s : State) : State :=
  (((s.cellsTaken sl ip q n d f).putHeld sl .seal q ((s.cellsTaken sl ip q n d f).heldAt sl .seal q ++ [s.queuedFrm sl q n d f])).qbump
    sl .seal q 0 1).qbump sl .seal q 1 f.len

theorem admitFrame_enqueues {q ip c d : Nat} (hv : Que.valid (s.queueAt sl .seal q) = true)
    (hn : s.queueNode sl .seal q = f.node) (hd : s.admitClass sl .seal q ip f (cellsOf f.len) = (d, 0)) (hd0 : d ≠ 0) :
    admitFrame sl .seal q ip c f s = flowUpdate sl .seal ip (s.enqueued sl ip q (cellsOf f.len) d f) := by
  have hclass : ∀ tag, s.admitClass sl .seal q ip { f with tag := tag } (cellsOf f.len) = (d, 0) := fun _ => hd
  simp only [admitFrame, hv, hn, hclass, hd0, bne_self_eq_false, Bool.not_true, Bool.or_false, Bool.false_eq_true, if_false]
  rfl

section Enqueued
variable (sl ip q n d : Nat) (f : Frm) (s : State)

theorem enqueued_arriving : (s.enqueued sl ip q n d f).tm.arriving = s.tm.arriving := by
  rw [State.enqueued, arriving_qbump, arriving_qbump, arriving_putHeld, State.cellsTaken, arriving_moveCells, arriving_putAdm]

theorem enqueued_admAt : (s.enqueued sl ip q n d f).admAt sl .seal q =
    Adm.setUsed (s.admAt sl .seal q) (Adm.used (s.admAt sl .seal q) + n) := by
  rw [State.admAt, State.enqueued, admission_qbump, admission_qbump, admission_putHeld, State.cellsTaken, admission_moveCells,
    admission_putAdm_self]

theorem cellsTaken_heldAt : (s.cellsTaken sl ip q n d f).heldAt sl .seal q = s.heldAt sl .seal q := by
  rw [State.heldAt, State.heldAt, State.cellsTaken, held_moveCells, held_putAdm]

theorem enqueued_heldAt : (s.enqueued sl ip q n d f).heldAt sl .seal q = s.heldAt sl .seal q ++ [s.queuedFrm sl q n d f] := by
  rw [State.heldAt, State.enqueued, held_qbump, held_qbump, held_putHeld_self, cellsTaken_heldAt]

end Enqueued

end Admit

/-! ### Pause frames (R58, R167) -/

/-- `t` differs from `s` in what has gone out, in the times since which, and in what the traffic manager holds. -/
def OnlySends (s t : State) : Prop := ∃ since m w, t = { s with time := { s.time with since := since }, tm := m, wire := s.wire ++ w }

theorem OnlySends.refl (s : State) : OnlySends s s := ⟨s.time.since, s.tm, [], by simp⟩

theorem OnlySends.trans (h : OnlySends s t) (h' : OnlySends t u) : OnlySends s u := by
  obtain ⟨_, _, w, rfl⟩ := h
  obtain ⟨since, m, w', rfl⟩ := h'
  exact ⟨since, m, w ++ w', by simp⟩

theorem OnlySends.sent (h : OnlySends s t) {e : Emission} (he : e ∈ s.wire) : e ∈ t.wire := by
  obtain ⟨_, _, w, rfl⟩ := h
  exact List.mem_append_left _ he

section Pause
variable {m : Nat}

/-- A port sends pause frames: it is enabled with flow control, it forms frames and no loop turns them (R48, R58). -/
def SendsPauses (s : State) (m : Nat) : Prop :=
  s.ob (Ix.port m) Sub.port_FLOW_CTRL ≠ 0 ∧ s.portOn m = true ∧ s.forms m = true ∧ s.laneLoop m = 0

theorem SendsPauses.keeps (h : SendsPauses s m) (ht : OnlySends s t) : SendsPauses t m := by
  obtain ⟨_, _, _, rfl⟩ := ht
  exact h

/-- The frame that a port repeats for a class in XOFF (R58). -/
def State.pauseAgain (s : State) (m k : Nat) : Emission :=
  .macControl m (pauseFrame (s.oct (Ix.port m) Sub.port_PAUSE_SA) (s.ob (Ix.port m) Sub.port_FLOW_CTRL == 2) k
    (s.ob (Ix.port m) Sub.port_PAUSE_QUANTA))

/-- The last frame of a class was sent `PAUSE_REFRESH` quanta ago. -/
def State.pauseDue (s : State) (m k : Nat) : Prop :=
  (mfind s.lanes.pausing (8 * m + k)).isSome = true ∧
    s.past (Timer.pause (8 * m + k)) (s.quantaNs m (s.ob (Ix.port m) Sub.port_PAUSE_REFRESH)) = true

theorem sendOut_noLoop (hf : s.forms m = true) (hl : s.laneLoop m = 0) (e : Emission) (b : Bytes) (cut : Bool) :
    sendOut m e b cut s = s.emit e := by
  simp only [sendOut, hf, hl, if_true]

/-- The frame goes out, its time starts anew, and on a line port it takes a slot of the pacer (R167, R171). -/
theorem sendPause_sends {sl : Nat} {p : Pipe} {ip : Nat} (h : SendsPauses s m) (hm : ingressPort sl p ip = m) (k : Nat) :
    ∃ held, sendPause sl p ip k (s.ob (Ix.port m) Sub.port_PAUSE_QUANTA) s =
      { (s.mark (Timer.pause (8 * m + k))).emit (s.pauseAgain m k) with tm := held } := by
  obtain ⟨hfc, hon, hforms, hloop⟩ := h
  have hforms' : (s.mark (Timer.pause (8 * m + k))).forms m = true := hforms
  have hloop' : (s.mark (Timer.pause (8 * m + k))).laneLoop m = 0 := hloop
  simp only [sendPause, hm, hfc, hon, hforms, ne_eq, not_false_eq_true, and_self, if_true,
    sendOut_noLoop hforms' hloop']
  cases p
  · exact ⟨s.tm, rfl⟩
  · exact ⟨_, rfl⟩

/-- The frame of one class is repeated where it is due: one step of `pauseRefresh`. -/
def pauseStep (m : Nat) (t : State) (k : Nat) : State :=
  if (mfind t.lanes.pausing (8 * m + k)).isSome ∧
      t.past (Timer.pause (8 * m + k)) (t.quantaNs m (t.ob (Ix.port m) Sub.port_PAUSE_REFRESH)) then
    sendPause (sliceOfPort m) (if isLine m then .open else .seal) (m % 8) k (t.ob (Ix.port m) Sub.port_PAUSE_QUANTA) t
  else t

theorem pauseRefresh_steps (m : Nat) (s : State) : pauseRefresh m s = (List.range 8).foldl (pauseStep m) s := rfl

variable (hm : ingressPort (sliceOfPort m) (if isLine m then .open else .seal) (m % 8) = m)
include hm

theorem pauseStep_onlySends (h : SendsPauses s m) (j : Nat) : OnlySends s (pauseStep m s j) := by
  unfold pauseStep
  split
  · obtain ⟨held, he⟩ := sendPause_sends h hm j
    rw [he]
    exact ⟨_, held, _, rfl⟩
  · exact .refl s

/-- Another class's frame does not put off that of class `k`. -/
theorem pauseStep_due (h : SendsPauses s m) {j k : Nat} (hjk : j ≠ k) (hk : s.pauseDue m k) : (pauseStep m s j).pauseDue m k := by
  unfold pauseStep
  split
  · obtain ⟨held, he⟩ := sendPause_sends h hm j
    rw [he]
    refine ⟨hk.1, ?_⟩
    rw [← hk.2]
    exact State.past_mark_ne (by simp only [Timer.pause]; omega)
  · exact hk

theorem pauseStep_sends (h : SendsPauses s m) {k : Nat} (hk : s.pauseDue m k) : s.pauseAgain m k ∈ (pauseStep m s k).wire := by
  obtain ⟨held, he⟩ := sendPause_sends h hm k
  obtain ⟨hxoff, hpast⟩ := hk
  rw [pauseStep, if_pos ⟨hxoff, hpast⟩, he]
  exact List.mem_append_right _ (List.mem_singleton_self _)

/-- Of the classes in turn, one that is due at the start has its frame repeated. -/
theorem pauseSteps_send (h : SendsPauses s m) {k : Nat} (hk : s.pauseDue m k) {l : List Nat} (hl : k ∈ l) :
    s.pauseAgain m k ∈ (l.foldl (pauseStep m) s).wire := by
  have hsent : ∀ (l : List Nat) (t : State), SendsPauses t m → OnlySends t (l.foldl (pauseStep m) t) := by
    intro l
    induction l with
    | nil => exact fun t _ => .refl t
    | cons j l ih =>
      intro t ht
      have hstep := pauseStep_onlySends hm ht j
      exact hstep.trans (ih _ (ht.keeps hstep))
  induction l generalizing s with
  | nil => cases hl
  | cons j l ih =>
    have hstep := pauseStep_onlySends hm h j
    by_cases hj : j = k
    · subst hj
      exact (hsent l _ (h.keeps hstep)).sent (pauseStep_sends hm h hk)
    · have hsame : (pauseStep m s j).pauseAgain m k = s.pauseAgain m k := by
        obtain ⟨_, _, _, he⟩ := hstep
        rw [he]; rfl
      rw [← hsame]
      exact ih (h.keeps hstep) (pauseStep_due hm h hj hk) ((List.mem_cons.mp hl).resolve_left (Ne.symm hj))

end Pause

/-- Settles O9. That a port in a near-end loop takes nothing from its pins is the loopback rule (R48, log 28). -/
theorem clientFramesEnter : Obligations.ClientFramesEnter := by
  intro s sl
  refine ⟨fun c b pcs lag ctr hc hh hnear hfar hmac => ?drop, fun c b pcs lag ctr hc hh hnear hfar hmac => ?control,
    fun c b pcs lag _ _ hnear => congrArg Host.Outcome.next (if_pos hnear),
    fun c b pcs lag y u hc hh hnear hfar hmac hdark hheld hpipe htr htag hplain hlook hpol => ?enter,
    fun f rest q n d harr hpol hbad hq hn hv hnode hd hd0 => ?admitted,
    fun m k hk hpausing hfc hon hforms hloop hpast hport => ?pause⟩
  case drop => rw [exec_clientFrame hnear, clientFrame_drop ⟨hc, hh, hfar⟩ hmac]
  case control => rw [exec_clientFrame hnear, clientFrame_control ⟨hc, hh, hfar⟩ hmac]
  case enter =>
    have htm : u.tm = s.tm := by
      have := hitchLookup_tm c (outerVid b) (frameDa b)
        (takeWords (c / 8) .seal 0 (s.cyc (c / 8)) b.length (s.bump (Ctr.port c + Ctr.RX_FRAMES))).2
      rwa [hlook] at this
    have henter := sealEnter_green (s := s.bump (Ctr.port c + Ctr.RX_FRAMES))
      (f := (s.bump (Ctr.port c + Ctr.RX_FRAMES)).clientFrm c b lag) rfl rfl htr htag hplain hlook hpol
    rw [← clientFrame_ok ⟨hc, hh, hfar⟩ hmac hdark hheld hpipe] at henter
    exact ⟨_, (exec_clientFrame hnear).trans (congrArg _ henter), _, arrived_arriving htm .., rfl, rfl, rfl, rfl, rfl, rfl⟩
  case admitted =>
    subst hq hn
    obtain ⟨left, hleft, hadmit⟩ := frameAdmit_admits harr hpol hbad
    rw [admitFrame_enqueues (s := { s with tm := { s.tm with arriving := left } }) hv hnode hd hd0] at hadmit
    refine ⟨_, congrArg Host.Outcome.next hadmit, ?_, ?_, s.queuedFrm sl _ (cellsOf f.len) d f, ?_, rfl, rfl, rfl⟩
    · rw [flowUpdate_seal_tm, enqueued_arriving, hleft]
    · rw [State.admAt, flowUpdate_seal_tm]
      exact enqueued_admAt ..
    · rw [State.heldAt, flowUpdate_seal_tm]
      exact enqueued_heldAt ..
  case pause =>
    refine ⟨pauseRefresh m s, rfl, ?_⟩
    rw [pauseRefresh_steps]
    exact pauseSteps_send hport ⟨hfc, hon, hforms, hloop⟩ ⟨hpausing, hpast⟩ (List.mem_range.mpr hk)

end Sys2Proof.Machine
end

section
/-! The engines of the Hitch table (chapter 03): the learning engine (R82, R95), the sweeper and the age clock (R86 to R92), and the
static entries that the firmware puts back (R76). -/

namespace Sys2Proof.Machine

variable {s t u : State} {sl : Nat}

/-! ### Learning (R82, R95) -/

section Learning
variable {r : LearnReq} {q : List LearnReq} {y i : Nat} {mgmt : List (Nat × Nat × Nat)}

/-- The key that a request asks for (R69, R81). -/
abbrev LearnReq.key (r : LearnReq) : Nat := packKey r.port r.vid r.mac

/-- The learning queue of a slice has come to hold `q`. -/
def State.learnQueued (sl : Nat) (q : List LearnReq) (s : State) : State :=
  { s with hitch := { s.hitch with queue := mset [] s.hitch.queue sl q } }

@[simp] theorem queue_learnQueued (sl : Nat) (q : List LearnReq) (s : State) : mget [] (s.learnQueued sl q).hitch.queue sl = q :=
  mget_mset_self ..

/-! What the engine reads does not hang on the queue. -/

@[simp] theorem cleanFor_learnQueued (k : Nat) : (s.learnQueued sl q).cleanFor sl k = s.cleanFor sl k := rfl
@[simp] theorem cands_learnQueued (k : Nat) : (s.learnQueued sl q).cands sl k = s.cands sl k := rfl
@[simp] theorem learnedCount_learnQueued (c : Nat) : (s.learnQueued sl q).learnedCount c = s.learnedCount c := rfl
@[simp] theorem ob_learnQueued (ix sub : Nat) : (s.learnQueued sl q).ob ix sub = s.ob ix sub := rfl

theorem learnStep_cons (h : mget [] s.hitch.queue sl = r :: q) (overlap : Bool) :
    learnStep sl overlap s =
      learnOutcome sl r (if overlap then (s.lately sl (mget [] s.hitch.mgmt sl)).map (·.2) else []) (s.learnQueued sl q) := by
  simp only [learnStep, h]
  rfl

/-- A request with a good source address and the target `y`, whose candidate slots all pass their parity check (R75, R82). -/
structure Learnable (s : State) (sl : Nat) (r : LearnReq) (y : Nat) : Prop where
  unicast : bit r.mac 40 = false
  mac : r.mac ≠ 0
  target : r.target = some y
  clean : s.cleanFor sl r.key = true

theorem Learnable.goodSa (h : Learnable s sl r y) : (bit r.mac 40 || r.mac == 0) = false := by simp [h.unicast, h.mac]

/-- A request that management overtakes at its key is discarded, whatever it would have written (R95). -/
theorem learnOutcome_overtaken (h : Learnable s sl r y) {m : Nat × Nat × Nat} (hm : m ∈ mgmt) (hk : m.2.1 = r.key) :
    learnOutcome sl r mgmt s = s.bump (Ctr.slice sl + Ctr.LEARN_COLLISION) := by
  have hany : ∀ d : Option (Nat × Nat),
      (mgmt.any fun m => m.2.1 == r.key || d.any (fun w => w.1 == m.1)) = true :=
    fun d => List.any_eq_true.mpr ⟨m, hm, by simp [hk]⟩
  simp only [learnOutcome, h.goodSa, h.target, readSlots_clean h.clean, hany, Bool.false_eq_true, if_false, if_true]

/-- The image of an entry that the learning engine adds: of its aging fields it sets the one that the slice's mode uses (R82, R91). -/
def State.newImage (s : State) (sl : Nat) (r : LearnReq) (y : Nat) : Nat :=
  slotImage false (s.ageMode sl == 1) false (if s.ageMode sl = 2 then s.ageClock sl else 0) y r.port r.vid r.mac

/-- A key that no slot holds, below its port's limit, and for which a candidate is free (R82, R83). -/
theorem learnDecide_new (hh : holder r.key (s.cands sl r.key) = none)
    (hlimit : s.learnedCount r.port < s.ob (hitchPortIx r.port) Sub.hitchPort_LEARN_LIMIT)
    (hi : chooseSlot (s.cands sl r.key) = some i) :
    learnDecide s sl r y (s.cands sl r.key) = (some Ctr.LEARN_NEW, some (i, s.newImage sl r y)) := by
  simp only [learnDecide, hh, if_neg (Nat.not_le.mpr hlimit), hi]
  rfl

/-- What the engine decides to write goes to its slot and is counted, and the sweeper is told (R82, R96). -/
theorem learnOutcome_writes {k e : Nat} (h : Learnable s sl r y)
    (hd : learnDecide s sl r y (s.cands sl r.key) = (some k, some (i, e))) :
    learnOutcome sl r [] s = ((s.bump (Ctr.slice sl + k)).putSlot sl i e).noteLearn sl i := by
  simp only [learnOutcome, h.goodSa, h.target, show s.beforeMgmt sl [] = s from rfl, readSlots_clean h.clean, hd, List.any_nil,
    Bool.false_eq_true, if_false]

@[simp] theorem newImage_learnQueued : (s.learnQueued sl q).newImage sl r y = s.newImage sl r y := rfl

@[simp] theorem slotAt_noteLearn (j : Nat) : (s.noteLearn sl i).slotAt sl j = s.slotAt sl j := rfl

theorem Learnable.learnQueued (h : Learnable s sl r y) : Learnable (s.learnQueued sl q) sl r y := by
  obtain ⟨hsa, hmac, ht, hc⟩ := h
  exact ⟨hsa, hmac, ht, by simpa using hc⟩

/-- The learning engine has taken a request from its queue and written the image `e` of a new entry to slot `i` (R82, R96). -/
def State.learned (sl i e : Nat) (q : List LearnReq) (s : State) : State :=
  (((s.learnQueued sl q).bump (Ctr.slice sl + Ctr.LEARN_NEW)).putSlot sl i e).noteLearn sl i

theorem learned_slotAt (sl i e : Nat) (q : List LearnReq) (s : State) : (s.learned sl i e q).slotAt sl i = e := by
  simp [State.learned]

theorem learned_queue (sl i e : Nat) (q : List LearnReq) (s : State) : mget [] (s.learned sl i e q).hitch.queue sl = q :=
  queue_learnQueued sl q s

theorem learned_counts (sl i e : Nat) (q : List LearnReq) (s : State) :
    mget 0 (s.learned sl i e q).cnt (Ctr.slice sl + Ctr.LEARN_NEW) = (mget 0 s.cnt (Ctr.slice sl + Ctr.LEARN_NEW) + 1) % 2 ^ 64 :=
  State.bump_self (s := s.learnQueued sl q) _

theorem learnStep_new (hq : mget [] s.hitch.queue sl = r :: q) (h : Learnable s sl r y)
    (hh : holder r.key (s.cands sl r.key) = none)
    (hlimit : s.learnedCount r.port < s.ob (hitchPortIx r.port) Sub.hitchPort_LEARN_LIMIT)
    (hi : chooseSlot (s.cands sl r.key) = some i) : learnStep sl false s = s.learned sl i (s.newImage sl r y) q := by
  have hdecide : learnDecide (s.learnQueued sl q) sl r y ((s.learnQueued sl q).cands sl r.key) =
      (some Ctr.LEARN_NEW, some (i, (s.learnQueued sl q).newImage sl r y)) :=
    learnDecide_new (by simpa using hh) (by simpa using hlimit) (by simpa using hi)
  rw [learnStep_cons hq, if_neg Bool.false_ne_true, learnOutcome_writes h.learnQueued hdecide, newImage_learnQueued, State.learned]

/-- A request that comes to its write after management has written its key (R95). -/
theorem learnStep_overtaken (hq : mget [] s.hitch.queue sl = r :: q) (h : Learnable s sl r y) {m : Nat × Nat × Nat × Nat}
    (hm : m ∈ s.lately sl (mget [] s.hitch.mgmt sl)) (hk : m.2.2.1 = r.key) :
    learnStep sl true s = (s.learnQueued sl q).bump (Ctr.slice sl + Ctr.LEARN_COLLISION) := by
  rw [learnStep_cons hq, if_pos rfl]
  exact learnOutcome_overtaken h.learnQueued (List.mem_map_of_mem hm) hk

end Learning

/-! ### The sweeper (R86 to R92) -/

/-- The last sweep has ended, and its period has passed. -/
def State.sweepDue (s : State) (sl : Nat) : Prop :=
  8192 ≤ mget 8192 s.hitch.sweepPos sl ∧ s.past (Timer.sweep sl) (1000000 * s.sweepMs sl) = true

/-- A sweep begins: the period and the aging mode that management last wrote take effect, and nothing is written to a slot (R86, R91). -/
theorem sweepStart_due (h : s.sweepDue sl) :
    mget 8192 (sweepStart sl s).hitch.sweepPos sl = 0 ∧
      mget 0 (sweepStart sl s).hitch.period sl = s.ob (Ix.hitch sl 0) Sub.hitch_SWEEP_PERIOD_MS ∧
      (sweepStart sl s).ageMode sl = s.ob (Ix.hitch sl 0) Sub.hitch_AGE_MODE ∧
      mget false (sweepStart sl s).hitch.init sl = (s.ob (Ix.hitch sl 0) Sub.hitch_AGE_MODE != s.ageMode sl) ∧
      (sweepStart sl s).dict = s.dict := by
  simp [sweepStart, State.ageMode, Nat.not_lt.mpr h.1, h.2]

theorem sweepStart_early (h : mget 8192 s.hitch.sweepPos sl < 8192 ∨ s.past (Timer.sweep sl) (1000000 * s.sweepMs sl) = false) :
    sweepStart sl s = s := if_pos (by simpa using h)

/-- `t` has every sweep where `s` has it, and the objects of `s` but those of the event log. -/
def SameSweep (s t : State) : Prop := t.hitch.sweepPos = s.hitch.sweepPos ∧ SameObjects s t

theorem SameSweep.refl (s : State) : SameSweep s s := ⟨rfl, .refl s⟩

theorem SameSweep.trans (h : SameSweep s t) (h' : SameSweep t u) : SameSweep s u := ⟨h'.1.trans h.1, h.2.trans h'.2⟩

theorem putSlot_sameSweep (sl i e : Nat) (s : State) : SameSweep s (s.putSlot sl i e) := ⟨rfl, .refl s⟩

theorem bump_sameSweep (k : Nat) (s : State) : SameSweep s (s.bump k) := ⟨rfl, .refl s⟩

theorem raise_sameSweep (code slice : Nat) (items : Bytes) (s : State) : SameSweep s (s.raise code slice items) :=
  ⟨by rw [State.raise_hitch], raiseAt_same ..⟩

/-- A slot is read: one that fails its parity check is zeroed, counted and reported (R75). -/
theorem readSlot_sameSweep (sl i : Nat) (s : State) : SameSweep s (readSlot sl i s).2 := by
  unfold readSlot
  dsimp only
  split
  · exact .refl s
  · exact ((putSlot_sameSweep sl i 0 s).trans (bump_sameSweep ..)).trans (raise_sameSweep ..)

/-- The sweeper leaves a slot that it has read, removes its entry and counts it, or writes its aging fields. -/
theorem sweepSlot_cases (sl : Nat) (skip : List Nat) (s : State) (i : Nat) :
    sweepSlot sl skip s i = (readSlot sl i s).2 ∨
      (∃ k, sweepSlot sl skip s i = ((readSlot sl i s).2.putSlot sl i 0).bump k) ∨
      ∃ e, sweepSlot sl skip s i = (readSlot sl i s).2.putSlot sl i e := by
  unfold sweepSlot
  dsimp only
  split_ifs
  case pos => exact .inl rfl
  case pos => exact .inr (.inl ⟨_, rfl⟩)
  case pos => exact .inr (.inr ⟨_, rfl⟩)
  case pos => exact .inr (.inr ⟨_, rfl⟩)
  case pos => exact .inr (.inr ⟨_, rfl⟩)
  case neg => exact .inr (.inl ⟨_, rfl⟩)
  case pos => exact .inr (.inl ⟨_, rfl⟩)
  case neg => exact .inl rfl
  case neg => exact .inl rfl

theorem sweepSlot_sameSweep (sl : Nat) (skip : List Nat) (s : State) (i : Nat) : SameSweep s (sweepSlot sl skip s i) := by
  have hread := readSlot_sameSweep sl i s
  rcases sweepSlot_cases sl skip s i with h | ⟨k, h⟩ | ⟨e, h⟩
  · rw [h]; exact hread
  · rw [h]; exact (hread.trans (putSlot_sameSweep ..)).trans (bump_sameSweep ..)
  · rw [h]; exact hread.trans (putSlot_sameSweep ..)

theorem sweepSlots_sameSweep (sl : Nat) (skip l : List Nat) (s : State) : SameSweep s (l.foldl (sweepSlot sl skip) s) :=
  List.foldlRecOn (motive := SameSweep s) l _ (.refl s) fun _ h i _ => h.trans (sweepSlot_sameSweep sl skip _ i)

/-- The turn of the bucket at `pos` has come. -/
def State.visitDue (s : State) (sl pos : Nat) : Prop :=
  mget 8192 s.hitch.sweepPos sl = pos ∧ pos < 8192 ∧ s.past (Timer.sweep sl) (1000000 * s.sweepMs sl * pos / 8192) = true

/-- A visit in its turn: the sweep moves on by one bucket, slots are swept, and the last visit counts the sweep (R86). -/
theorem sweepVisit_due {pos : Nat} (h : s.visitDue sl pos) (overlap : Bool) :
    ∃ t, mget 8192 t.hitch.sweepPos sl = pos + 1 ∧ SameObjects s t ∧
      sweepVisit sl overlap s = if pos = 8191 then t.addOb (Ix.hitch sl 0) Sub.hitch_SWEEPS_DONE 32 1 else t := by
  obtain ⟨rfl, hpos, hpast⟩ := h
  have hsame := sweepSlots_sameSweep sl (if overlap then (s.lately sl (mget [] s.hitch.touched sl)).map (·.2) else [])
    ((List.range 4).flatMap fun b => (List.range 4).map fun k => slotIndex b (mget 8192 s.hitch.sweepPos sl) k)
    { s with hitch := { s.hitch with sweepPos := mset 8192 s.hitch.sweepPos sl (mget 8192 s.hitch.sweepPos sl + 1) } }
  refine ⟨_, ?_, hsame.2, if_pos ⟨hpos, hpast⟩⟩
  rw [hsame.1]
  exact mget_mset_self ..

/-! ### The age clock (R89) -/

/-- An interval of the age clock has passed. -/
def State.ageTickDue (s : State) (sl : Nat) : Bool := s.past (Timer.age sl) (1000000 * s.ob (Ix.hitch sl 0) Sub.hitch_AGE_TICK_MS)

theorem ageTick_due (h : s.ageTickDue sl = true) :
    ageTick sl s = (s.addOb (Ix.hitch sl 0) Sub.hitch_AGE_CLOCK 16 1).mark (Timer.age sl) := if_pos h

theorem ageTick_early (h : s.ageTickDue sl = false) : ageTick sl s = s := if_neg (by rw [← State.ageTickDue, h]; simp)

/-! ### Static entries (R76) -/

/-- An entry has left the stored configuration. -/
def State.unstored (sl i : Nat) (s : State) : State :=
  { s with hitch := { s.hitch with statics := merase s.hitch.statics (skey sl i) } }

/-- An entry of the stored configuration that its slot no longer holds is put back as an INSERT places it. -/
theorem staticReinstall_new {i j e : Nat} (he : mfind s.hitch.statics (skey sl i) = some e) (hne : s.slotAt sl i ≠ e)
    (hc : s.cleanFor sl (Slot.key e) = true) (hh : holder (Slot.key e) (s.cands sl (Slot.key e)) = none)
    (hj : chooseSlot (s.cands sl (Slot.key e)) = some j) :
    staticReinstall sl i s =
      (s.unstored sl i).putStatic sl j (Slot.key e)
        (slotImage true false false 0 (Slot.secy e) (Slot.port e) (Slot.vid e) (Slot.mac e)) := by
  have hinstall := installStatic_new (secy := Slot.secy e) (s := s.unstored sl i) hc hh hj
  simp only [State.unstored] at hinstall
  simp only [staticReinstall, he, if_neg hne, hinstall]
  rfl

/-- Settles O4. The slot that a static entry goes back to is the model's choice (log 138), as are the 0 of the aging fields that a new
entry does not use (log 100). -/
theorem hitchEnginesWork : Obligations.HitchEnginesWork := by
  intro s sl hsl
  refine ⟨fun r q y i hq hsa hmac ht hc hh hlimit hi => ?new, fun r q y m hq hsa hmac ht hc hm hkey => ?overtaken,
    fun hpos hpast => ?start, fun h => congrArg Host.Outcome.next (sweepStart_early h), fun overlap pos hpos hlt hpast => ?visit,
    fun h => ?tick, fun h => congrArg Host.Outcome.next (ageTick_early h), fun i j e he hne hc hh hj => ?static⟩
  case new =>
    exact ⟨_, congrArg Host.Outcome.next (learnStep_new hq ⟨hsa, hmac, ht, hc⟩ hh hlimit hi), learned_queue ..,
      learned_slotAt .., learned_counts ..⟩
  case overtaken =>
    exact ⟨_, congrArg Host.Outcome.next (learnStep_overtaken hq ⟨hsa, hmac, ht, hc⟩ hm hkey), queue_learnQueued sl q s, rfl,
      State.bump_self ..⟩
  case start =>
    exact ⟨sweepStart sl s, rfl, sweepStart_due ⟨hpos, hpast⟩⟩
  case visit =>
    obtain ⟨t, hnext, hobs, ht⟩ := sweepVisit_due ⟨hpos, hlt, hpast⟩ overlap
    refine ⟨_, congrArg Host.Outcome.next ht, ?_, fun hlast => ?_⟩
    · split <;> exact hnext
    · rw [if_pos hlast, State.ob_addOb_self, hobs.1 _ _ (by decide) (by simp only [Ix.hitch]; omega)]
  case tick =>
    exact ⟨_, congrArg Host.Outcome.next (ageTick_due h), State.ob_addOb_self .., mget_minsert_self ..⟩
  case static =>
    exact ⟨_, congrArg Host.Outcome.next (staticReinstall_new he hne hc hh hj),
      (putStatic_slotAt ..).trans (slotAt_putSlot_self ..)⟩

end Sys2Proof.Machine
end

section
/-! A slice's window operation as the end of its period posts it (R465), and the seven operations of the table window (R97 to R100,
R109). -/

namespace Sys2Proof.Machine

variable {s t u : State} {c : Caller} {sl : Nat}

/-! ### An operation of a window, posted (R458, R465) -/

/-- What the arbiter notes of a write stands in the access structures (R457). -/
theorem noteCycle_eq (c : Caller) (l : List Nat) (s : State) : ∃ a, s.noteCycle c l = { s with acc := a } := by
  cases c
  case session => exact ⟨_, rfl⟩
  case firmware => exact ⟨s.acc, rfl⟩

theorem complete_noteCycle (c : Caller) (l : List Nat) (ix sub : Nat) (st : Status) (s : State) :
    (s.noteCycle c l).complete c ix sub st = (s.complete c ix sub st).noteCycle c l := by
  cases c <;> rfl

theorem postOne_noteCycle (c : Caller) (l : List Nat) (p : Post) (s : State) :
    (s.noteCycle c l).postOne p = (s.postOne p).noteCycle c l := by
  cases c <;> rfl

/-- What the arbiter notes of a write does not hang on the completions that are due. -/
theorem post_noteCycle (c : Caller) (l : List Nat) (s : State) : (s.noteCycle c l).post = s.post.noteCycle c l := by
  have hfold : ∀ (ps : List Post) (t : State),
      ps.foldl State.postOne (t.noteCycle c l) = (ps.foldl State.postOne t).noteCycle c l := by
    intro ps
    induction ps with
    | nil => exact fun _ => rfl
    | cons p ps ih => intro t; rw [List.foldl_cons, postOne_noteCycle, ih]; rfl
  unfold State.post
  rw [← hfold]
  cases c <;> rfl

/-- `t` is what an operation left as `u`, once its completion has been posted with the final status `stat`. -/
structure PostedFrom (u : State) (c : Caller) (ix op st : Nat) (stat : Status) (t : State) : Prop where
  ob : ∀ ix' sub', t.ob ix' sub' = (u.put ix st stat.code).ob ix' sub'
  oct : ∀ ix' sub', t.oct ix' sub' = u.oct ix' sub'
  rest : ∃ d a, t = { u with dict := d, acc := a, wire := u.wire ++ [.done c.entry ix op .ok] }

/-- A slice's operation that acts and leaves the access structures alone. -/
theorem rowSlice_posts {ix op st code : Nat} {act : State → State × Status} {stat : Status} (h : StartsIn s sl c ix op st code)
    (hix : 0x1000 ≤ ix) (hop : op < 256) (hact : act (s.put ix op code) = (u, stat)) (hacc : u.acc = s.acc) :
    PostedFrom u c ix op st stat (rowWindow c ix op st code (sliceOp sl act) s).post := by
  obtain ⟨-, -, -, hbusy, -, hposts⟩ := id h
  have hp : u.acc.posts = [] := by rw [hacc, hposts]
  have hr : u.winBusy ix st = false := by rw [← hbusy, State.winBusy, hacc, State.winBusy]
  obtain ⟨d, hpost, -⟩ := post_holdBack (s := s.put ix op code) (c := c) (op := op) (stat := stat) hp hr
  rw [rowSlice_ok h hix hop, hact, complete_noteCycle, post_noteCycle]
  obtain ⟨a, hnote⟩ := noteCycle_eq c [okey ix op] ((s.put ix op code).holdBack ix st stat u |>.complete c ix op .ok).post
  exact {
    ob := fun _ _ => (State.ob_noteCycle ..).trans (post_holdBack_ob hp hr ..)
    oct := fun _ _ => (State.oct_noteCycle ..).trans (post_holdBack_oct hp hr ..)
    rest := ⟨d, a, by rw [hnote, hpost]⟩ }

section Posted
variable {ix op st : Nat} {stat : Status}

theorem PostedFrom.slotAt (h : PostedFrom u c ix op st stat t) (sl i : Nat) : t.slotAt sl i = u.slotAt sl i := by
  obtain ⟨d, a, ht⟩ := h.rest
  rw [ht]; rfl

/-- A number in the window, but its status. -/
theorem PostedFrom.ob_ne (h : PostedFrom u c ix op st stat t) {sub : Nat} (hsub : sub < 256) (hst : st < 256) (hne : sub ≠ st) :
    t.ob ix sub = u.ob ix sub := by
  rw [h.ob, State.ob_put hst hsub, if_neg fun k => hne k.2]

theorem PostedFrom.ends (h : PostedFrom u c ix op st stat t) : Ends t c ix op st stat := by
  obtain ⟨d, a, ht⟩ := h.rest
  exact ⟨by rw [Reports, ht]; simp, (h.ob ..).trans (State.ob_put_self ..)⟩

end Posted

/-! ### The start of a table-window operation -/

/-- The table window of a slice has taken the operation `code`. -/
def State.twTaken (sl code : Nat) (s : State) : State := s.put (twIx sl) Sub.twWin_TW_OP code

/-- A table-window operation that acts on the table and the objects alone. -/
theorem rowTw_posts {code : Nat} {act : State → State × Status} {stat : Status}
    (h : StartsIn s sl c (twIx sl) Sub.twWin_TW_OP Sub.twWin_TW_STATUS code) (hact : act (s.twTaken sl code) = (u, stat))
    (hacc : u.acc = s.acc) :
    PostedFrom u c (twIx sl) Sub.twWin_TW_OP Sub.twWin_TW_STATUS stat (rowTw c sl code act s).post :=
  rowSlice_posts h (by simp only [twIx, Ix.hitch]; omega) (by decide) hact hacc

/-! What an operation reads does not hang on its code. -/

section Taken
variable (sl code : Nat) (s : State)

theorem ob_twTaken {ix sub : Nat} (h : sub < 256) (hne : ¬ (ix = twIx sl ∧ sub = Sub.twWin_TW_OP)) :
    (s.twTaken sl code).ob ix sub = s.ob ix sub := by rw [State.twTaken, State.ob_put (by decide) h, if_neg hne]

theorem twObject_twTaken {sub : Nat} (h : sub < 256) (hne : sub ≠ Sub.twWin_TW_OP) :
    (s.twTaken sl code).ob (twIx sl) sub = s.ob (twIx sl) sub := ob_twTaken sl code s h fun k => hne k.2

@[simp] theorem slotAt_twTaken (i : Nat) : (s.twTaken sl code).slotAt sl i = s.slotAt sl i := rfl
@[simp] theorem hitchEntries_twTaken : (s.twTaken sl code).hitchEntries sl = s.hitchEntries sl := rfl
@[simp] theorem secyPort_twTaken (y : Nat) : (s.twTaken sl code).secyPort sl y = s.secyPort sl y := rfl
@[simp] theorem bucketOf_twTaken (b k : Nat) : (s.twTaken sl code).bucketOf sl b k = s.bucketOf sl b k := bucketOf_put ..

@[simp] theorem candidates_twTaken (k : Nat) : (s.twTaken sl code).candidates sl k = s.candidates sl k := by
  simp [State.candidates]

@[simp] theorem cleanFor_twTaken (k : Nat) : (s.twTaken sl code).cleanFor sl k = s.cleanFor sl k := by simp [State.cleanFor]

@[simp] theorem cands_twTaken (k : Nat) : (s.twTaken sl code).cands sl k = s.cands sl k := by simp [State.cands]

@[simp] theorem twPort_twTaken : (s.twTaken sl code).twPort sl = s.twPort sl := twObject_twTaken sl code s (by decide) (by decide)
@[simp] theorem twVid_twTaken : (s.twTaken sl code).twVid sl = s.twVid sl := twObject_twTaken sl code s (by decide) (by decide)
@[simp] theorem twMac_twTaken : (s.twTaken sl code).twMac sl = s.twMac sl := by
  rw [State.twMac, State.twTaken, State.oct_put, State.twMac]
@[simp] theorem twKey_twTaken : (s.twTaken sl code).twKey sl = s.twKey sl := by simp [State.twKey]

@[simp] theorem twKeyOk_twTaken : (s.twTaken sl code).twKeyOk sl = s.twKeyOk sl := by
  have hmode : ∀ p, (s.twTaken sl code).ob (hitchPortIx p) Sub.hitchPort_VID_MODE = s.ob (hitchPortIx p) Sub.hitchPort_VID_MODE :=
    fun p => ob_twTaken sl code s (by decide) (by simp only [hitchPortIx, twIx, Ix.hitch]; omega)
  simp [State.twKeyOk, hmode]

@[simp] theorem flushes_twTaken (e : Nat) : (s.twTaken sl code).flushes sl e = s.flushes sl e := by
  unfold State.flushes
  rw [twObject_twTaken sl code s (by decide) (by decide), twPort_twTaken, twObject_twTaken sl code s (by decide) (by decide)]

end Taken

/-! ### The operations that read (R99) -/

section Reads
variable {i e : Nat}

theorem twLookup_found (hk : s.twKeyOk sl = true) (hc : s.cleanFor sl (s.twKey sl) = true)
    (hh : holder (s.twKey sl) (s.cands sl (s.twKey sl)) = some (i, e)) : twLookup sl s = (s.twResult sl i e, .ok) := by
  simp only [twLookup, hk, readSlots_clean hc, hh]
  rfl

theorem twLookup_missed (hk : s.twKeyOk sl = true) (hc : s.cleanFor sl (s.twKey sl) = true)
    (hh : holder (s.twKey sl) (s.cands sl (s.twKey sl)) = none) :
    twLookup sl s = (s.put (twIx sl) Sub.twWin_TW_FLAGS 0, .ok) := by
  simp only [twLookup, hk, readSlots_clean hc, hh]
  rfl

theorem twRead_good (hi : s.ob (twIx sl) Sub.twWin_TW_INDEX = i) (hlt : i < 131072) (hp : parityOk (s.slotAt sl i) = true) :
    twRead sl s = ((s.twKeyResult sl (s.slotAt sl i)).twResult sl i (s.slotAt sl i), .ok) := by
  simp only [twRead, hi, if_neg (Nat.not_le.mpr hlt), hp, if_true]

/-- The entries of a list hold what their slots hold, with good parity. -/
def State.entriesGood (s : State) (sl : Nat) (l : List (Nat × Nat)) : Prop :=
  ∀ x ∈ l, parityOk (s.slotAt sl x.1) = true ∧ x.2 = s.slotAt sl x.1

/-- Among good entries NEXT passes over none but those at or below its index and those that are not valid. -/
theorem nextValid_good {l : List (Nat × Nat)} (h : s.entriesGood sl l) :
    nextValid sl i l s = (l.find? (fun x => decide (i < x.1) && Slot.valid x.2), s) := by
  induction l with
  | nil => rfl
  | cons x l ih =>
    obtain ⟨j, e⟩ := x
    obtain ⟨hp, rfl⟩ : parityOk (s.slotAt sl j) = true ∧ e = s.slotAt sl j := h (j, e) (List.mem_cons_self ..)
    have ih := ih fun y hy => h y (List.mem_cons_of_mem _ hy)
    have hread : readSlot sl j s = (s.slotAt sl j, s) := if_pos hp
    by_cases hj : j ≤ i
    · simp [nextValid, hj, Nat.not_lt.mpr hj, ih]
    · by_cases hv : Slot.valid (s.slotAt sl j) = true
      · simp [nextValid, hj, Nat.lt_of_not_le hj, hread, hv]
      · simp [nextValid, hj, hread, hv, ih]

theorem twNext_found {j : Nat} (h : s.entriesGood sl (s.hitchEntries sl))
    (hf : (s.hitchEntries sl).find? (fun x => decide (s.ob (twIx sl) Sub.twWin_TW_INDEX < x.1) && Slot.valid x.2) = some (j, e)) :
    twNext sl s = ((s.twKeyResult sl e).twResult sl j e, .ok) := by
  simp only [twNext, nextValid_good h, hf]

theorem twHash_ok (hk : s.twKeyOk sl = true) :
    twHash sl s = (s.put (twIx sl) Sub.twWin_TW_BUCKETS
      (s.bucketOf sl 0 (s.twKey sl) * 2 ^ 48 + s.bucketOf sl 1 (s.twKey sl) * 2 ^ 32
        + s.bucketOf sl 2 (s.twKey sl) * 2 ^ 16 + s.bucketOf sl 3 (s.twKey sl)), .ok) := by
  simp only [twHash, hk]
  rfl

end Reads

/-! The result objects (R109). -/

section Results
variable {i e sub : Nat}

theorem twResult_ob (h : sub < 256) (s : State) : (s.twResult sl i e).ob (twIx sl) sub =
    if sub = Sub.twWin_TW_AGE then Slot.timestamp e else if sub = Sub.twWin_TW_INDEX then i
    else if sub = Sub.twWin_TW_FLAGS then slotFlags e else if sub = Sub.twWin_TW_SECY then Slot.secy e
    else s.ob (twIx sl) sub := by
  simp (disch := decide) only [State.twResult, State.ob_put _ h, true_and]

theorem twKeyResult_ob (h : sub < 256) (s : State) : (s.twKeyResult sl e).ob (twIx sl) sub =
    if sub = Sub.twWin_TW_VID then Slot.vid e else if sub = Sub.twWin_TW_PORT then Slot.port e else s.ob (twIx sl) sub := by
  have hput : (s.twKeyResult sl e).ob (twIx sl) sub =
      ((s.put (twIx sl) Sub.twWin_TW_PORT (Slot.port e)).put (twIx sl) Sub.twWin_TW_VID (Slot.vid e)).ob (twIx sl) sub := rfl
  simp (disch := decide) only [hput, State.ob_put _ h, true_and]

theorem twKeyResult_mac (s : State) :
    ((s.twKeyResult sl e).twResult sl i e).oct (twIx sl) Sub.twWin_TW_MAC = be 6 (Slot.mac e) := by
  simp only [State.twResult, State.oct_put, State.twKeyResult, State.oct_putO_self]

end Results

/-! ### The operations that write (R99, R100) -/

section Writes
variable {i e : Nat}

theorem twInsert_new (hk : s.twKeyOk sl = true) (hy : s.secyPort sl (s.ob (twIx sl) Sub.twWin_TW_SECY) = some (s.twPort sl))
    (hc : s.cleanFor sl (s.twKey sl) = true) (hh : holder (s.twKey sl) (s.cands sl (s.twKey sl)) = none)
    (hi : chooseSlot (s.cands sl (s.twKey sl)) = some i) :
    twInsert sl s = ((s.putStatic sl i (s.twKey sl) (slotImage true false false 0 (s.ob (twIx sl) Sub.twWin_TW_SECY) (s.twPort sl)
      (s.twVid sl) (s.twMac sl))).put (twIx sl) Sub.twWin_TW_INDEX i, .ok) := by
  have hinstall := installStatic_new (secy := s.ob (twIx sl) Sub.twWin_TW_SECY) hc hh hi
  simp only [twInsert, hk, hy, hinstall, Bool.not_true, Bool.false_eq_true, ne_eq, not_true_eq_false, if_false]
  rfl

theorem twDelete_found (hk : s.twKeyOk sl = true) (hc : s.cleanFor sl (s.twKey sl) = true)
    (hh : holder (s.twKey sl) (s.cands sl (s.twKey sl)) = some (i, e)) :
    twDelete sl s = ((s.removeSlot sl i (s.twKey sl)).put (twIx sl) Sub.twWin_TW_FLAGS (slotFlags e), .ok) := by
  simp only [twDelete, hk, readSlots_clean hc, hh]
  rfl

@[simp] theorem slotAt_put (ix sub v j : Nat) (s : State) : (s.put ix sub v).slotAt sl j = s.slotAt sl j := rfl

theorem removeSlot_slotAt (sl i key j : Nat) (s : State) :
    (s.removeSlot sl i key).slotAt sl j = (s.putSlot sl i 0).slotAt sl j := rfl

/-- The slots of a list's entries are emptied in turn. -/
def State.removeSlots (sl : Nat) (l : List (Nat × Nat)) (s : State) : State :=
  l.foldl (fun t x => t.removeSlot sl x.1 (Slot.key x.2)) s

theorem removeSlots_slotAt (sl j : Nat) (l : List (Nat × Nat)) (s : State) :
    (s.removeSlots sl l).slotAt sl j = if j ∈ l.map (·.1) then 0 else s.slotAt sl j := by
  induction l generalizing s with
  | nil => simp [State.removeSlots]
  | cons x l ih =>
    have hstep : (s.removeSlot sl x.1 (Slot.key x.2)).slotAt sl j = if j = x.1 then 0 else s.slotAt sl j := by
      rw [removeSlot_slotAt]
      split
      case isTrue hj => rw [hj, slotAt_putSlot_self]
      case isFalse hj => rw [slotAt_putSlot_ne hj]
    rw [State.removeSlots, List.foldl_cons, ← State.removeSlots, ih, hstep]
    by_cases hj : j = x.1 <;> simp only [List.map_cons, List.mem_cons, hj, true_or, false_or, if_true, if_false, ite_self]

/-- Removing entries changes the table alone. -/
theorem removeSlots_eq (sl : Nat) (l : List (Nat × Nat)) (s : State) : ∃ h, s.removeSlots sl l = { s with hitch := h } := by
  induction l generalizing s with
  | nil => exact ⟨s.hitch, rfl⟩
  | cons x l ih => exact ih (s.removeSlot sl x.1 (Slot.key x.2))

/-- The entries that a FLUSH removes (R109). -/
def State.flushed (s : State) (sl : Nat) : List (Nat × Nat) := (s.hitchEntries sl).filter fun x => s.flushes sl x.2

theorem twFlush_good (h : s.entriesGood sl (s.hitchEntries sl)) :
    twFlush sl s = ((s.removeSlots sl (s.flushed sl)).put (twIx sl) Sub.twWin_TW_INDEX (s.flushed sl).length, .ok) := by
  have hread : readSlots sl ((s.hitchEntries sl).map (·.1)) s = (s.hitchEntries sl, s) := by
    have hgood : ∀ i ∈ (s.hitchEntries sl).map (·.1), parityOk (s.slotAt sl i) = true := by
      intro i hi
      obtain ⟨x, hx, rfl⟩ := List.mem_map.mp hi
      exact (h x hx).1
    have hsame : (s.hitchEntries sl).map (fun x => (x.1, s.slotAt sl x.1)) = s.hitchEntries sl := by
      conv_rhs => rw [← List.map_id (s.hitchEntries sl)]
      exact List.map_congr_left fun x hx => Prod.ext rfl (h x hx).2.symm
    rw [readSlots_ok hgood, List.map_map]
    exact congrArg (·, s) hsame
  simp only [twFlush, hread]
  rfl

/-- Of good entries, just those in scope have their slots emptied. -/
theorem flushed_slotAt (h : s.entriesGood sl (s.hitchEntries sl)) {x : Nat × Nat} (hx : x ∈ s.hitchEntries sl) :
    (s.removeSlots sl (s.flushed sl)).slotAt sl x.1 = if s.flushes sl x.2 then 0 else s.slotAt sl x.1 := by
  have hmem : x.1 ∈ (s.flushed sl).map (·.1) ↔ s.flushes sl x.2 = true := by
    constructor
    · intro hin
      obtain ⟨y, hy, hxy⟩ := List.mem_map.mp hin
      obtain ⟨hy, hfl⟩ := List.mem_filter.mp hy
      rw [(h x hx).2, ← hxy, ← (h y hy).2]
      exact hfl
    · exact fun hfl => List.mem_map_of_mem (List.mem_filter.mpr ⟨hx, hfl⟩)
  rw [removeSlots_slotAt]
  simp only [hmem]

end Writes

/-- Settles O5. That the image of an inserted entry has no aging state is the model's choice (log 101). -/
theorem tableWindowOperates : Obligations.TableWindowOperates := by
  refine ⟨fun s c sl => ⟨fun i e h hk hc hh => ?found, fun h hk hc hh => ?missed, fun i h hi hlt hp => ?read,
    fun j e h hgood hf => ?next, fun h hk => ?hash⟩, fun s c sl => ⟨fun i h hk hy hc hh hi => ?insert,
    fun i e h hk hc hh => ?delete, fun h hgood => ?flush⟩⟩
  case found =>
    have hact : twLookup sl (s.twTaken sl 1) = ((s.twTaken sl 1).twResult sl i e, .ok) :=
      twLookup_found (by simpa using hk) (by simpa using hc) (by simpa using hh)
    have ht := rowTw_posts h hact rfl
    refine ⟨rowTw c sl 1 (twLookup sl) s, rfl, ?_, ?_, ?_, ?_, ht.ends⟩ <;> simp (disch := decide) [ht.ob_ne, twResult_ob]
  case missed =>
    have hact : twLookup sl (s.twTaken sl 1) = ((s.twTaken sl 1).put (twIx sl) Sub.twWin_TW_FLAGS 0, .ok) :=
      twLookup_missed (by simpa using hk) (by simpa using hc) (by simpa using hh)
    have ht := rowTw_posts h hact rfl
    refine ⟨rowTw c sl 1 (twLookup sl) s, rfl, ?_, ht.ends⟩
    simp (disch := decide) [ht.ob_ne]
  case read =>
    have hact : twRead sl (s.twTaken sl 4) =
        (((s.twTaken sl 4).twKeyResult sl (s.slotAt sl i)).twResult sl i (s.slotAt sl i), .ok) :=
      twRead_good ((twObject_twTaken sl 4 s (by decide) (by decide)).trans hi) hlt hp
    have ht := rowTw_posts h hact rfl
    refine ⟨rowTw c sl 4 (twRead sl) s, rfl, ?_, ?_, (ht.oct ..).trans (twKeyResult_mac ..), ?_, ?_, ht.ends⟩ <;>
      simp (disch := decide) [ht.ob_ne, twResult_ob, twKeyResult_ob]
  case next =>
    have hact : twNext sl (s.twTaken sl 5) = (((s.twTaken sl 5).twKeyResult sl e).twResult sl j e, .ok) :=
      twNext_found hgood (by rw [twObject_twTaken sl 5 s (by decide) (by decide)]; exact hf)
    have ht := rowTw_posts h hact rfl
    refine ⟨rowTw c sl 5 (twNext sl) s, rfl, ?_, ?_, ?_, (ht.oct ..).trans (twKeyResult_mac ..), ht.ends⟩ <;>
      simp (disch := decide) [ht.ob_ne, twResult_ob, twKeyResult_ob]
  case hash =>
    have hact := twHash_ok (sl := sl) (s := s.twTaken sl 6) (by simpa using hk)
    have ht := rowTw_posts h hact (State.put_acc ..)
    refine ⟨rowTw c sl 6 (twHash sl) s, rfl, ?_, ht.ends⟩
    simp (disch := decide) [ht.ob_ne]
  case insert =>
    have hsecy := twObject_twTaken sl 2 s (sub := Sub.twWin_TW_SECY) (by decide) (by decide)
    have hact := twInsert_new (sl := sl) (i := i) (s := s.twTaken sl 2) (by simpa using hk)
      (by rw [hsecy, secyPort_twTaken, twPort_twTaken, hy]) (by simpa using hc) (by simpa using hh) (by simpa using hi)
    have ht := rowTw_posts h hact rfl
    refine ⟨rowTw c sl 2 (twInsert sl) s, rfl, ?_, fun j _ hj => ?_, ?_, ht.ends⟩
    · rw [ht.slotAt, slotAt_put, putStatic_slotAt, slotAt_putSlot_self, hsecy, twPort_twTaken, twVid_twTaken,
        twMac_twTaken]
    · rw [ht.slotAt, slotAt_put, putStatic_slotAt, slotAt_putSlot_ne hj, slotAt_twTaken]
    · simp (disch := decide) [ht.ob_ne]
  case delete =>
    have hact := twDelete_found (sl := sl) (s := s.twTaken sl 3) (by simpa using hk) (by simpa using hc) (by simpa using hh)
    have ht := rowTw_posts h hact rfl
    refine ⟨rowTw c sl 3 (twDelete sl) s, rfl, ?_, fun j _ hj => ?_, ?_, ht.ends⟩
    · rw [ht.slotAt, slotAt_put, removeSlot_slotAt, slotAt_putSlot_self]
    · rw [ht.slotAt, slotAt_put, removeSlot_slotAt, slotAt_putSlot_ne hj, slotAt_twTaken]
    · simp (disch := decide) [ht.ob_ne]
  case flush =>
    have hentries : s.entriesGood sl (s.hitchEntries sl) := fun x hx => ⟨(hgood x hx).1, (hgood x hx).2.1⟩
    have hflushed : (s.twTaken sl 7).flushed sl = s.flushed sl := by simp [State.flushed]
    obtain ⟨k, hk⟩ := removeSlots_eq sl (s.flushed sl) (s.twTaken sl 7)
    have hact := twFlush_good (s := s.twTaken sl 7) hentries
    rw [hflushed] at hact
    have ht := rowTw_posts h hact (by rw [hk]; rfl)
    refine ⟨rowTw c sl 7 (twFlush sl) s, rfl, fun x hx => ?_, ?_, ht.ends⟩
    · rw [ht.slotAt, slotAt_put, ← flushed_slotAt hentries hx, removeSlots_slotAt, removeSlots_slotAt, slotAt_twTaken]
    · simp (disch := decide) [ht.ob_ne, State.flushed]

end Sys2Proof.Machine
end

section
/-! The association window (R136, R141, R142, R144) and the key-store scrubber (R130). An operation may raise events and mirror what it
does to the peer; neither reaches an association table or the completion of a window's operation. -/

namespace Sys2Proof.Machine

variable {s t u : State} {c : Caller} {sl : Nat}

/-! ### What events and mirroring leave alone (R427, R470) -/

/-- The completions that are due and the windows that run (R465). -/
def State.due (s : State) : List Post × List Nat := (s.acc.posts, s.acc.running)

/-- The association tables, and what is due of the windows. -/
def State.tables (s : State) : Assocs × List Post × List Nat := (s.asc, s.due)

theorem asc_of_tables (h : t.tables = s.tables) : t.asc = s.asc := congrArg Prod.fst h
theorem due_of_tables (h : t.tables = s.tables) : t.due = s.due := congrArg Prod.snd h

theorem tables_foldl {β : Type} {f : State → β → State} (h : ∀ u b, (f u b).tables = u.tables) (l : List β) (s : State) :
    (l.foldl f s).tables = s.tables :=
  List.foldlRecOn (motive := fun t => t.tables = s.tables) l f rfl fun u hu b _ => (h u b).trans hu

theorem addOb_tables (ix sub w n : Nat) (s : State) : (s.addOb ix sub w n).tables = s.tables := rfl

theorem logEventAt_tables (ns code slice : Nat) (items : Bytes) (s : State) :
    (s.logEventAt ns code slice items).2.tables = s.tables := by
  unfold State.logEventAt
  exact (addOb_tables ..).trans rfl

theorem putSess_tables (k : Nat) (x : Sess) (s : State) : (s.putSess k x).tables = s.tables := rfl

theorem notify_tables (k : Nat) (r : Bytes) (s : State) : (s.notify k r).tables = s.tables := by
  unfold State.notify
  dsimp only
  split
  · exact putSess_tables ..
  · split
    · exact putSess_tables ..
    · exact (putSess_tables ..).trans (logEventAt_tables ..)

theorem raise_tables (code slice : Nat) (items : Bytes) (s : State) : (s.raise code slice items).tables = s.tables := by
  unfold State.raise State.raiseAt
  split
  · exact (addOb_tables ..).trans (addOb_tables ..)
  · refine (tables_foldl (fun u k => ?_) _ _).trans (logEventAt_tables ..)
    split
    · exact notify_tables ..
    · rfl

theorem cueLog_tables (sl kind : Nat) (late byFire : Bool) (entry old new pn tag : Nat) (s : State) :
    (cueLog sl kind late byFire entry old new pn tag s).2.tables = s.tables := by
  unfold cueLog
  exact (addOb_tables ..).trans rfl

theorem cueReport_tables (sl kind code : Nat) (late byFire : Bool) (entry old new pn tag : Nat) (s : State) :
    (cueReport sl kind code late byFire entry old new pn tag s).tables = s.tables :=
  (raise_tables ..).trans (cueLog_tables ..)

theorem putCue_tables (sl i e : Nat) (s : State) : (s.putCue sl i e).tables = s.tables := rfl
theorem markPosted_tables (k : Nat) (s : State) : (s.markPosted k).tables = s.tables := rfl

theorem cueNotReady_tables (sl i : Nat) (s : State) : (cueNotReady sl i s).tables = s.tables := by
  unfold cueNotReady
  dsimp only
  split
  · exact putCue_tables ..
  · exact (cueReport_tables ..).trans ((markPosted_tables ..).trans (putCue_tables ..))

/-- The test of the pending cues changes cues, and raises events (R238). -/
theorem cuesTest_tables (sl : Nat) (s : State) : (cuesTest sl s).tables = s.tables := by
  unfold cuesTest
  split
  · rfl
  · refine tables_foldl (fun u i => ?_) _ _
    unfold cueTest
    split
    · exact cueNotReady_tables ..
    · rfl

theorem tetherOne_tables (kind : Nat) (b : Bytes) (s : State) : (tetherOne kind b s).tables = s.tables := rfl

theorem tetherSend_tables (kind : Nat) (b : Bytes) (s : State) : (tetherSend kind b s).tables = s.tables := by
  unfold tetherSend
  split
  · exact tables_foldl (fun _ _ => tetherOne_tables ..) _ _
  · rfl

theorem mirror_tables (m : Mirror) (s : State) : (mirror m s).tables = s.tables := by
  unfold mirror
  split
  · exact tetherSend_tables ..
  · rfl

/-! ### Entries of the association tables (R110) -/

section Entries
variable (sl i e : Nat) (s : State)

@[simp] theorem txscAt_putTxsc : (s.putTxsc sl i e).txscAt sl i = e := by rw [State.txscAt, State.putTxsc, mget_mset_self]
@[simp] theorem rxscAt_putRxsc : (s.putRxsc sl i e).rxscAt sl i = e := by rw [State.rxscAt, State.putRxsc, mget_mset_self]
@[simp] theorem saAt_putSa : (s.putSa sl i e).saAt sl i = e := by rw [State.saAt, State.putSa, mget_mset_self]
@[simp] theorem keyAt_putKey (x : KeyEntry) : (s.putKey sl i x).keyAt sl i = x := by
  rw [State.keyAt, State.putKey, mget_mset_self]

end Entries

/-! An entry reads the association tables alone. -/

section SameTables
variable (h : t.asc = s.asc) (sl i : Nat)
include h

theorem secyAt_congr : t.secyAt sl i = s.secyAt sl i := by rw [State.secyAt, h, State.secyAt]
theorem txscAt_congr : t.txscAt sl i = s.txscAt sl i := by rw [State.txscAt, h, State.txscAt]
theorem keyAt_congr : t.keyAt sl i = s.keyAt sl i := by rw [State.keyAt, h, State.keyAt]

theorem awValid_congr (tb : Nat) : t.awValid sl tb i = s.awValid sl tb i := by
  unfold State.awValid State.secyAt State.rxscAt State.saAt State.keyAt
  rw [h]

end SameTables

/-! ### Operations that change sessions or the link beside the tables, posted (R465) -/

section Posted
variable {ix op st code : Nat} {stat : Status}

theorem PostedFrom.asc (h : PostedFrom u c ix op st stat t) : t.asc = u.asc := by
  obtain ⟨d, a, ht⟩ := h.rest
  rw [ht]

/-- What an operation left from `s` to `u` is posted, where `u` has due what `s` had. -/
theorem holdBack_posts {s₀ : State} (h : Starts s c ix op st code) (hdue : u.due = s.due) (l : List Nat) :
    PostedFrom u c ix op st stat (((s₀.holdBack ix st stat u).noteCycle c l).complete c ix op .ok).post := by
  obtain ⟨-, hbusy, -, hposts⟩ := h
  obtain ⟨hp, hrun⟩ := Prod.ext_iff.mp hdue
  have hp : u.acc.posts = [] := hp.trans hposts
  have hr : u.winBusy ix st = false := (congrArg (List.contains · (okey ix st)) hrun).trans hbusy
  obtain ⟨d, hpost, -⟩ := post_holdBack (s := s₀) (c := c) (op := op) (stat := stat) hp hr
  rw [complete_noteCycle, post_noteCycle]
  obtain ⟨a, hnote⟩ := noteCycle_eq c l ((s₀.holdBack ix st stat u).complete c ix op .ok).post
  exact {
    ob := fun _ _ => (State.ob_noteCycle ..).trans (post_holdBack_ob hp hr ..)
    oct := fun _ _ => (State.oct_noteCycle ..).trans (post_holdBack_oct hp hr ..)
    rest := ⟨d, a, by rw [hnote, hpost]⟩ }

/-- An operation that may complete later still, and that completes in this step. -/
theorem rowWindowStart_posts {act : State → State × Option Status} (h : Starts s c ix op st code)
    (hact : act (s.put ix op code) = (u, some stat)) (hdue : u.due = s.due) :
    PostedFrom u c ix op st stat (rowWindowStart c ix op st code act s).post := by
  have hrow : rowWindowStart c ix op st code act s
      = (((s.put ix op code).holdBack ix st stat u).noteCycle c [okey ix op]).complete c ix op .ok := by
    obtain ⟨⟨hw, hc⟩, hb, hu, -⟩ := h
    simp [rowWindowStart, rowWrite_ok hw hc, windowStart, hb, keepOwed_none hu, hact]
  rw [hrow]
  exact holdBack_posts h hdue _

end Posted

/-! ### The start of an association-window operation -/

/-- The association window of a slice has taken the operation `code`. -/
def State.awTaken (sl code : Nat) (s : State) : State := s.put (awIx sl) Sub.awWin_AW_OP code

theorem rowAw_posts {code : Nat} {act : State → State × Status} {stat : Status}
    (h : StartsIn s sl c (awIx sl) Sub.awWin_AW_OP Sub.awWin_AW_STATUS code) (hact : act (s.awTaken sl code) = (u, stat))
    (hdue : u.due = s.due) :
    PostedFrom u c (awIx sl) Sub.awWin_AW_OP Sub.awWin_AW_STATUS stat (rowAw c sl code act s).post := by
  have hrow := rowSlice_ok (act := act) h (by simp only [awIx, Ix.assoc]; omega) (by decide)
  rw [show act (s.put (awIx sl) Sub.awWin_AW_OP code) = (u, stat) from hact] at hrow
  obtain ⟨-, -, hstarts⟩ := h
  rw [rowAw, hrow]
  exact holdBack_posts hstarts hdue _

/-! What an operation reads does not hang on its code. -/

section Taken
variable (sl code : Nat) (s : State)

theorem ob_awTaken {ix sub : Nat} (h : sub < 256) (hne : ¬ (ix = awIx sl ∧ sub = Sub.awWin_AW_OP)) :
    (s.awTaken sl code).ob ix sub = s.ob ix sub := by rw [State.awTaken, State.ob_put (by decide) h, if_neg hne]

@[simp] theorem asc_awTaken : (s.awTaken sl code).asc = s.asc := rfl

@[simp] theorem awTable_awTaken : (s.awTaken sl code).awTable sl = s.awTable sl :=
  ob_awTaken sl code s (by decide) fun h => absurd h.2 (by decide)

@[simp] theorem awIndex_awTaken : (s.awTaken sl code).awIndex sl = s.awIndex sl :=
  ob_awTaken sl code s (by decide) fun h => absurd h.2 (by decide)

theorem gated_awTaken : (s.awTaken sl code).gated sl = s.gated sl := by
  unfold State.gated
  rw [ob_awTaken sl code s (by decide) fun h => by simp only [awIx, Ix.assoc] at h; omega]

end Taken

/-- An access that the datapath may delay ends as its operation does, but for the count of delays and the free value taken for it
(R140, log 32). -/
theorem awTimed_eq (sl : Nat) (act : State → State × Status) (s : State) : ∃ n f,
    awTimed sl act s = ({ (act s).1 with dict := { (act s).1.dict with nums := n }, free := f }, (act s).2) := by
  unfold awTimed
  split
  · exact ⟨_, _, rfl⟩
  · exact ⟨_, _, rfl⟩

/-- Accesses to the SecY and SC tables are not delayed. -/
theorem awTimed_prompt {act : State → State × Status} (h : s.awTable sl < 3) : awTimed sl act s = act s :=
  if_neg (by omega)

/-! ### The operations that read (R136, R141) -/

section Reads
variable {i : Nat}

/-- The octets that a READ of the window's entry shows. -/
def State.awShown (s : State) (sl : Nat) : Bytes :=
  padTo 40 (be (awOctets (s.awTable sl)) (s.awImage sl (s.awTable sl) (s.awIndex sl)))

theorem awRead_good (ht : s.awTable sl < 5) (hi : s.awIndex sl < awSize (s.awTable sl))
    (hb : s.awTable sl = 3 → s.saBadAt sl (s.awIndex sl) = false) :
    awRead sl false s = (s.putO (awIx sl) Sub.awWin_AW_DATA (s.awShown sl), .ok) := by
  have hbad : ¬ (s.awTable sl = 3 ∧ s.saBadAt sl (s.awIndex sl) = true) := fun h => by simp [hb h.1] at h
  simp only [awRead, saRead, Bool.false_eq_true, if_false, ite_self, hbad, Nat.ne_of_lt ht, Nat.not_le.mpr hi, or_self]
  rfl

theorem awFindSci_found (h : s.findSci sl (num (s.oct (awIx sl) Sub.awWin_AW_SCI)) = some i) :
    awFindSci sl s = (s.put (awIx sl) Sub.awWin_AW_INDEX i, .ok) := by simp only [awFindSci, h]

theorem awFindSci_missed (h : s.findSci sl (num (s.oct (awIx sl) Sub.awWin_AW_SCI)) = none) :
    awFindSci sl s = (s, .range) := by simp only [awFindSci, h]

/-- The search from `a` ends at the first number that is refused. -/
theorem firstNot_eq {p : Nat → Bool} {k a : Nat} (hai : a ≤ i) (hik : i < a + k) (hi : p i = false)
    (hp : ∀ j, a ≤ j → j < i → p j = true) : firstNot p k a = some i := by
  induction k generalizing a with
  | zero => omega
  | succ k ih =>
    rcases Nat.eq_or_lt_of_le hai with rfl | hlt
    · simp [firstNot, hi]
    · rw [firstNot, if_pos (hp a (Nat.le_refl a) hlt)]
      exact ih hlt (by omega) fun j hj => hp j (Nat.le_of_succ_le hj)

theorem awFree_lowest (ht : s.awTable sl < 4) (hi : i < awSize (s.awTable sl))
    (hfree : s.awValid sl (s.awTable sl) i = false) (hused : ∀ j, j < i → s.awValid sl (s.awTable sl) j = true) :
    awFree sl s = (s.put (awIx sl) Sub.awWin_AW_INDEX i, .ok) := by
  have hfirst := firstNot_eq (a := 0) (Nat.zero_le i) (by rwa [Nat.zero_add]) hfree fun j _ => hused j
  have ht5 : s.awTable sl ≠ 5 := by omega
  simp only [awFree, ht5, Nat.ne_of_lt ht, if_false, hfirst]

/-- The six counters of an entry, as READ_COUNTERS shows them. -/
def State.awCounted (s : State) (sl : Nat) : Bytes :=
  padTo 64 ((List.range 6).flatMap fun k => be 8 (mget 0 s.asc.cnt (ackey (s.awTable sl) sl (s.awIndex sl) k)))

theorem awReadCounters_live (hs : s.tel.held = false) (ht : s.awTable sl = 0 ∨ s.awTable sl = 2 ∨ s.awTable sl = 3)
    (hi : s.awIndex sl < awSize (s.awTable sl)) :
    awReadCounters sl s = (s.putO (awIx sl) Sub.awWin_AW_COUNTERS (s.awCounted sl), .ok) := by
  have hrange : ¬ (s.awTable sl = 1 ∨ s.awTable sl = 4 ∨ awSize (s.awTable sl) ≤ s.awIndex sl) := by omega
  have hline : s.awTable sl ≠ 5 := by omega
  simp only [awReadCounters, hrange, hs, hline, Bool.false_eq_true, if_false]
  rfl

end Reads

/-! ### WRITE of a SecY (R142) -/

/-- The image that a WRITE of SecY `i` would leave. -/
def State.secyWritten (s : State) (sl i : Nat) : Nat :=
  maskMerge ((s.secyAt sl i).getD 0) (fld (s.oct (awIx sl) Sub.awWin_AW_DATA) 0 16)
    (fld (s.oct (awIx sl) Sub.awWin_AW_MASK) 0 16)

/-- The state in which a checked WRITE of a SecY has been carried out and mirrored. -/
def State.secyCommitted (s : State) (sl i e : Nat) : State :=
  mirror (.entry 0 sl i e) (cuesTest sl (awCommit sl 0 i ((s.secyAt sl i).getD 0) e s))

section Write
variable {i : Nat}

/-- A WRITE of a SecY is carried out where its check passes, and changes nothing otherwise (R11, R142). -/
theorem awWrite_secy (ht : s.awTable sl = 0) (hx : s.awIndex sl = i) (hi : i < 2048) :
    awWrite sl false s =
      if s.secyCheck sl i ((s.secyAt sl i).getD 0) (s.secyWritten sl i) = .ok
      then (s.secyCommitted sl i (s.secyWritten sl i), .ok)
      else (s, s.secyCheck sl i ((s.secyAt sl i).getD 0) (s.secyWritten sl i)) := by
  have hrange : ¬ awSize 0 ≤ i := Nat.not_le.mpr hi
  simp only [awWrite, ht, hx, hrange, OfNat.zero_ne_ofNat, if_false, or_self, false_and]
  split
  case h_1 hok => exact (if_pos hok).symm
  case h_2 hne => exact (if_neg hne).symm

theorem awCommit_secyAt (sl i old e : Nat) (s : State) : (awCommit sl 0 i old e s).secyAt sl i = some e := by
  simp only [awCommit]
  split <;> exact mfind_minsert_self ..

theorem awCommit_due (sl i old e : Nat) (s : State) : (awCommit sl 0 i old e s).due = s.due := by
  simp only [awCommit]
  split <;> rfl

theorem secyCommitted_tables (sl i e : Nat) (s : State) :
    (s.secyCommitted sl i e).tables = (awCommit sl 0 i ((s.secyAt sl i).getD 0) e s).tables :=
  (mirror_tables ..).trans (cuesTest_tables ..)

theorem secyCommitted_secyAt (sl i e : Nat) (s : State) : (s.secyCommitted sl i e).secyAt sl i = some e :=
  (secyAt_congr (asc_of_tables (secyCommitted_tables ..)) sl i).trans (awCommit_secyAt ..)

theorem secyCommitted_due (sl i e : Nat) (s : State) : (s.secyCommitted sl i e).due = s.due :=
  (due_of_tables (secyCommitted_tables ..)).trans (awCommit_due ..)

end Write

/-! ### DELETE (R144) -/

section Delete
variable {i tb : Nat}

/-- The state in which a transmit SC has been deleted and the deletion mirrored. -/
def State.txscDeleted (s : State) (sl i : Nat) : State := mirror (.entry 1 sl i 0) (s.putTxsc sl i 0)

/-- A transmit SC is deleted at once. -/
theorem awDelete_txsc (hg : s.gated sl = false) (ht : s.awTable sl = 1) (hx : s.awIndex sl = i)
    (hv : (s.secyAt sl i).isSome = true) (hi : i < 2048) (hb : s.deleteBusy sl 1 i = false) :
    awOp sl 5 s = (s.txscDeleted sl i, some .ok) := by
  have hdelete : awDelete sl s = (s.txscDeleted sl i, some .ok) := by
    have hrange : ¬ awSize 1 ≤ i := Nat.not_le.mpr hi
    have hvalid : s.awValid sl 1 i = true := hv
    simp only [awDelete, ht, hx, hrange, hvalid, hb, OfNat.one_ne_ofNat, or_self, Bool.not_true,
      Bool.false_eq_true, if_false, if_true]
    rfl
  simp only [awOp, hg, Bool.false_eq_true, if_false, awDeleteTimed, hdelete, awTimed_prompt (show s.awTable sl < 3 by omega)]

theorem txscDeleted_asc (sl i : Nat) (s : State) : (s.txscDeleted sl i).asc = (s.putTxsc sl i 0).asc :=
  asc_of_tables (mirror_tables ..)

theorem txscDeleted_due (sl i : Nat) (s : State) : (s.txscDeleted sl i).due = s.due :=
  (due_of_tables (mirror_tables ..)).trans rfl

/-- The release of a held entry changes the key store alone. -/
theorem heldRelease_eq (sl i : Nat) (s : State) : ∃ k, heldRelease sl i s = { s with asc := { s.asc with keys := k } } := by
  unfold heldRelease
  dsimp only
  split
  · exact ⟨_, rfl⟩
  · exact ⟨s.asc.keys, rfl⟩

/-- So does a change of an entry's REFS. -/
theorem refsMove_eq (up : Bool) (sl h : Nat) (s : State) :
    ∃ k, refsMove up sl h s = { s with asc := { s.asc with keys := k } } := by
  unfold refsMove
  dsimp only
  split
  · obtain ⟨k, hk⟩ := heldRelease_eq sl (handleIndex h) (s.putKey sl (handleIndex h) { s.keyAt sl (handleIndex h) with
      refs := if up = true then (s.keyAt sl (handleIndex h)).refs + 1 else (s.keyAt sl (handleIndex h)).refs - 1 })
    exact ⟨k, hk⟩
  · exact ⟨s.asc.keys, rfl⟩

theorem awRemove_deleting (htb : tb = 0 ∨ tb = 2 ∨ tb = 3) (sl i : Nat) (s : State) :
    (awRemove sl tb i s).asc.deleting = s.asc.deleting := by
  rcases htb with rfl | rfl | rfl
  · rfl
  · rfl
  · obtain ⟨k, hk⟩ := refsMove_eq false sl (Sa.handle (s.saAt sl i)) s
    simp only [awRemove, hk]
    rfl

/-- An entry that is removed is not valid (R110, R144). -/
theorem awRemove_invalid (htb : tb = 0 ∨ tb = 2 ∨ tb = 3) (sl i : Nat) (s : State) :
    (awRemove sl tb i s).awValid sl tb i = false := by
  rcases htb with rfl | rfl | rfl
  · exact congrArg Option.isSome (mfind_merase_self s.asc.secy (skey sl i))
  · show Rxsc.valid ((s.putRxsc sl i 0).rxscAt sl i) = false
    rw [rxscAt_putRxsc]
    rfl
  · show Sa.valid (((refsMove false sl (Sa.handle (s.saAt sl i)) s).putSa sl i 0).saAt sl i) = false
    rw [saAt_putSa]
    rfl

/-- The state in which no DELETE is in progress in the slice. -/
def State.deleteOver (s : State) (sl : Nat) : State := { s with asc := { s.asc with deleting := merase s.asc.deleting sl } }

/-- The second step of a DELETE: no frame in flight holds the entry any more. -/
theorem awDeleteDone_drained (hd : mfind s.asc.deleting sl = some (tb, i))
    (hv : (mget [] s.eng.verify (pipeKey sl .open)).all (fun f => !f.holds tb i) = true)
    (he : (mget [] s.eng.egress (pipeKey sl .seal)).all (fun f => !f.frm.uses tb i) = true) :
    awDeleteDone sl s =
      (mirror (.entry tb sl i 0) (awRemove sl tb i (s.deleteOver sl))).winEnd (awIx sl) Sub.awWin_AW_STATUS .ok := by
  have hverify : (mget [] s.eng.verify (pipeKey sl .open)).any (fun f => f.holds tb i) = false := by
    simpa [List.any_eq_false] using hv
  have hegress : (mget [] s.eng.egress (pipeKey sl .seal)).any (fun f => f.frm.uses tb i) = false := by
    simpa [List.any_eq_false] using he
  simp only [awDeleteDone, hd, hverify, hegress, Bool.or_self, Bool.false_eq_true, if_false]
  rfl

theorem winEnd_idle (ix st : Nat) (stat : Status) (s : State) : (s.winEnd ix st stat).winBusy ix st = false := by
  simp [State.winBusy]

end Delete

/-! ### The key-store scrubber (R130) -/

section Scrub
variable {i : Nat}

/-- The scrubber has passed entry `i`. -/
def State.scrubbed (s : State) (sl i : Nat) : State :=
  { s with asc := { s.asc with scrub := mset 0 s.asc.scrub sl ((i + 1) % 8192) } }

/-- The scrubber holds a faulty entry, counts it and raises `KEY_STORE_FAULT`. -/
def State.keyHeld (s : State) (sl i : Nat) : State :=
  ((s.putKey sl i { s.keyAt sl i with valid := false, held := true }).addOb
    (Ix.assoc sl 0) Sub.assoc_KEY_SCRUB_FAULTS 32 1).raise 0x0403 sl (be 2 i)

theorem keyScrub_good (hr : s.sliceRuns sl = true) (hi : mget 0 s.asc.scrub sl = i) :
    keyScrub sl false s = s.scrubbed sl i := by
  simp only [keyScrub, hr, hi, Bool.not_true, Bool.false_eq_true, if_false, false_and]
  rfl

theorem keyScrub_bad (hr : s.sliceRuns sl = true) (hi : mget 0 s.asc.scrub sl = i) (hv : (s.keyAt sl i).valid = true) :
    keyScrub sl true s = heldRelease sl i ((s.scrubbed sl i).keyHeld sl i) := by
  have hkey : ((s.scrubbed sl i).keyAt sl i).valid = true := hv
  simp only [keyScrub, hr, hi, Bool.not_true, Bool.false_eq_true, if_false]
  exact if_pos ⟨trivial, hkey⟩

theorem keyHeld_valid (sl i : Nat) (s : State) : ((s.keyHeld sl i).keyAt sl i).valid = false := by
  rw [State.keyHeld, keyAt_congr (State.raise_asc ..), keyAt_congr (State.addOb_asc ..), keyAt_putKey]

theorem keyHeld_scrub (sl i : Nat) (s : State) : (s.keyHeld sl i).asc.scrub = s.asc.scrub := by
  rw [State.keyHeld, State.raise_asc]; rfl

theorem keyHeld_faults (sl i : Nat) (s : State) : (s.keyHeld sl i).ob (Ix.assoc sl 0) Sub.assoc_KEY_SCRUB_FAULTS =
    (s.ob (Ix.assoc sl 0) Sub.assoc_KEY_SCRUB_FAULTS + 1) % 2 ^ 32 := by
  rw [State.keyHeld, State.ob_raise (by decide) (by simp only [Ix.assoc]; omega), State.ob_addOb_self]
  rfl

/-- Whether or not a held entry is freed, it is not valid. -/
theorem heldRelease_invalid (h : (s.keyAt sl i).valid = false) : ((heldRelease sl i s).keyAt sl i).valid = false := by
  unfold heldRelease
  dsimp only
  split
  · rw [keyAt_putKey]; rfl
  · exact h

end Scrub

/-- Settles O6: the window's operation or the scrubber's visit of each clause does what the lemma about it says. The statement has WRITE
for a SecY, and the first step of DELETE for a transmit SC alone, which is deleted in that step; the second step is that of SecYs, receive
SCs and SAs. -/
theorem associationWindowOperates : Obligations.AssociationWindowOperates := by
  refine ⟨fun s c sl => ⟨fun h ht hi hb => ?read, fun i h hf => ?found, fun h hf => ?missed,
    fun i h ht hi hfree hused => ?free, fun h hs ht hi => ?counters⟩,
    fun s c sl i => ⟨fun e h ht hx hi he hc => ?write, fun st h ht hx hi hst hc => ?refused,
    fun h ht hx hv hi hb => ?delete, fun tb hd htb hv he => ?done, fun hr hi hv => ?bad, fun hr hi => ?good⟩⟩
  case read =>
    have hread := awRead_good (sl := sl) (s := s.awTaken sl 1) (by simpa using ht) (by simpa using hi)
      (by rw [awTable_awTaken, awIndex_awTaken]; exact hb)
    obtain ⟨n, f, hact⟩ := awTimed_eq sl (awRead sl false) (s.awTaken sl 1)
    rw [hread] at hact
    have hpost := rowAw_posts h hact rfl
    have hdata := (hpost.oct (awIx sl) Sub.awWin_AW_DATA).trans (State.oct_putO_self ..)
    rw [State.awShown, awTable_awTaken, awIndex_awTaken] at hdata
    exact ⟨_, rfl, hdata, hpost.asc, hpost.ends⟩
  case found =>
    have hpost := rowAw_posts h (awFindSci_found (s := s.awTaken sl 3) hf) rfl
    exact ⟨_, rfl, (hpost.ob_ne (by decide) (by decide) (by decide)).trans (State.ob_put_self ..), hpost.asc, hpost.ends⟩
  case missed =>
    have hpost := rowAw_posts h (awFindSci_missed (s := s.awTaken sl 3) hf) rfl
    exact ⟨_, rfl, hpost.asc, hpost.ends⟩
  case free =>
    have hact := awFree_lowest (sl := sl) (s := s.awTaken sl 4) (i := i) (by simpa using ht) (by simpa using hi)
      (by rw [awTable_awTaken]; exact hfree) (by rw [awTable_awTaken]; exact hused)
    have hpost := rowAw_posts h hact rfl
    exact ⟨_, rfl, (hpost.ob_ne (by decide) (by decide) (by decide)).trans (State.ob_put_self ..), hpost.asc, hpost.ends⟩
  case counters =>
    have hact := awReadCounters_live (sl := sl) (s := s.awTaken sl 6) hs (by simpa using ht) (by simpa using hi)
    have hpost := rowAw_posts h hact rfl
    refine ⟨_, rfl, ?_, hpost.ends⟩
    rw [hpost.oct, State.oct_putO_self, State.awCounted, awTable_awTaken, awIndex_awTaken, asc_awTaken]
  case write =>
    subst he
    have hprompt : (s.awTaken sl 2).awTable sl < 3 := by simp [ht]
    have hact := (awTimed_prompt hprompt).trans
      ((awWrite_secy (by simpa using ht) (by simpa using hx) hi).trans (if_pos hc))
    have hpost := rowAw_posts h hact (secyCommitted_due ..)
    exact ⟨_, rfl, (secyAt_congr hpost.asc ..).trans (secyCommitted_secyAt ..), hpost.ends⟩
  case refused =>
    subst hc
    have hprompt : (s.awTaken sl 2).awTable sl < 3 := by simp [ht]
    have hact := (awTimed_prompt hprompt).trans
      ((awWrite_secy (by simpa using ht) (by simpa using hx) hi).trans (if_neg hst))
    have hpost := rowAw_posts h hact rfl
    exact ⟨_, rfl, hpost.asc, hpost.ends⟩
  case delete =>
    obtain ⟨-, hg, hstarts⟩ := h
    have hact := awDelete_txsc (sl := sl) (s := s.awTaken sl 5) (by rw [gated_awTaken, hg]) (by simpa using ht)
      (by simpa using hx) hv hi hb
    have hpost := rowWindowStart_posts hstarts hact (txscDeleted_due ..)
    have hasc := hpost.asc.trans (txscDeleted_asc ..)
    exact ⟨_, rfl, (txscAt_congr hasc ..).trans (txscAt_putTxsc ..), secyAt_congr hasc .., hpost.ends⟩
  case done =>
    refine ⟨_, congrArg Host.Outcome.next (awDeleteDone_drained hd hv he), ?_, ?_, State.ob_put_self .., winEnd_idle ..⟩
    · exact (awValid_congr (asc_of_tables (mirror_tables ..)) sl i tb).trans (awRemove_invalid htb ..)
    · rw [State.winEnd_asc, asc_of_tables (mirror_tables ..), awRemove_deleting htb]
      exact mfind_merase_self ..
  case bad =>
    obtain ⟨k, hk⟩ := heldRelease_eq sl i ((s.scrubbed sl i).keyHeld sl i)
    refine ⟨_, congrArg Host.Outcome.next (keyScrub_bad hr hi hv), heldRelease_invalid (keyHeld_valid ..), ?_, ?_⟩
    · rw [hk, keyHeld_scrub]
      exact mget_mset_self ..
    · rw [hk]
      exact keyHeld_faults ..
  case good =>
    exact ⟨_, congrArg Host.Outcome.next (keyScrub_good hr hi), rfl, mget_mset_self ..⟩

end Sys2Proof.Machine
end

section
/-! The traffic-manager window (R176 to R179): READ, WRITE of an admission entry, and READ_COUNTERS of a queue. -/

namespace Sys2Proof.Machine

variable {s t u : State} {c : Caller} {sl : Nat}

/-! ### A traffic-manager-window operation, started and posted (R176, R465) -/

/-- The traffic-manager window of a slice has taken the operation `code`. -/
def State.tmTaken (sl code : Nat) (s : State) : State := s.put (tmIx sl) Sub.tmWin_TM_OP code

/-- Whether the datapath delayed the access has been drawn, and a delay counted (R176, log 32). -/
def State.tmDelayed (sl : Nat) (s : State) : State :=
  s.takeFree.2.addOb (Ix.tm sl 0) Sub.tm_TM_WINDOW_RETRIES 32 (s.takeFree.1 % 2)

theorem tmTimed_eq {act : State → State × Status} {stat : Status} (h : act s = (u, stat)) :
    tmTimed sl act s = (u.tmDelayed sl, stat) := by
  rw [tmTimed, h]; rfl

@[simp] theorem tm_tmDelayed (sl : Nat) (s : State) : (s.tmDelayed sl).tm = s.tm := rfl
@[simp] theorem acc_tmDelayed (sl : Nat) (s : State) : (s.tmDelayed sl).acc = s.acc := rfl
@[simp] theorem oct_tmDelayed (sl : Nat) (s : State) (ix sub : Nat) : (s.tmDelayed sl).oct ix sub = s.oct ix sub := rfl

theorem rowTm_posts {code : Nat} {act : State → State × Status} {stat : Status}
    (h : StartsIn s sl c (tmIx sl) Sub.tmWin_TM_OP Sub.tmWin_TM_STATUS code) (hact : act (s.tmTaken sl code) = (u, stat))
    (hacc : u.acc = s.acc) :
    PostedFrom (u.tmDelayed sl) c (tmIx sl) Sub.tmWin_TM_OP Sub.tmWin_TM_STATUS stat (rowTm c sl code act s).post :=
  rowSlice_posts h (by simp only [tmIx, Ix.tm]; omega) (by decide) (tmTimed_eq hact) ((acc_tmDelayed ..).trans hacc)

theorem PostedFrom.tm {ix op st : Nat} {stat : Status} (h : PostedFrom u c ix op st stat t) : t.tm = u.tm := by
  obtain ⟨d, a, ht⟩ := h.rest
  rw [ht]

/-! What an operation reads does not hang on its code. -/

section Taken
variable (sl code : Nat) (s : State)

theorem ob_tmTaken {ix sub : Nat} (h : sub < 256) (hne : sub ≠ Sub.tmWin_TM_OP) : (s.tmTaken sl code).ob ix sub = s.ob ix sub := by
  rw [State.tmTaken, State.ob_put (by decide) h, if_neg fun k => hne k.2]

@[simp] theorem tm_tmTaken : (s.tmTaken sl code).tm = s.tm := rfl
@[simp] theorem oct_tmTaken (ix sub : Nat) : (s.tmTaken sl code).oct ix sub = s.oct ix sub := rfl
@[simp] theorem admAt_tmTaken (p : Pipe) (i : Nat) : (s.tmTaken sl code).admAt sl p i = s.admAt sl p i := rfl

@[simp] theorem tmTable_tmTaken : (s.tmTaken sl code).tmTable sl = s.tmTable sl := ob_tmTaken sl code s (by decide) (by decide)
@[simp] theorem tmIndex_tmTaken : (s.tmTaken sl code).tmIndex sl = s.tmIndex sl := ob_tmTaken sl code s (by decide) (by decide)

@[simp] theorem tmPipe_tmTaken : (s.tmTaken sl code).tmPipe sl = s.tmPipe sl := by
  rw [State.tmPipe, ob_tmTaken sl code s (by decide) (by decide), State.tmPipe]

@[simp] theorem tmImage_tmTaken : (s.tmTaken sl code).tmImage sl = s.tmImage sl := by
  simp only [State.tmImage, tmTable_tmTaken, tmIndex_tmTaken, tmPipe_tmTaken]
  rfl

@[simp] theorem tmCheck_tmTaken (tb i : Nat) (p : Pipe) (old e mask : Nat) :
    (s.tmTaken sl code).tmCheck sl tb i p old e mask = s.tmCheck sl tb i p old e mask := by
  have hhead : (s.tmTaken sl code).headroomClass sl p = s.headroomClass sl p := by
    simp only [State.headroomClass, ob_tmTaken sl code s (sub := Sub.tmClient_HEADROOM_CELLS) (by decide) (by decide)]
  simp only [State.tmCheck, State.classesWith, hhead]
  rfl

end Taken

/-! ### The operations (R177, R179) -/

/-- The octets that a READ of the window's entry shows: the image at the front, zeros after (log 132). -/
def State.tmShown (s : State) (sl : Nat) : Bytes := padTo 28 (be (tmOctets (s.tmTable sl)) (s.tmImage sl))

theorem tmRead_inRange (hi : s.tmIndex sl < tmSize (s.tmTable sl)) (hp : s.tmTable sl = 0 → s.tmPipe sl = .seal) :
    tmRead sl s = (s.putO (tmIx sl) Sub.tmWin_TM_DATA (s.tmShown sl), .ok) := by
  have hrange : ¬ (tmSize (s.tmTable sl) ≤ s.tmIndex sl ∨ (s.tmTable sl = 0 ∧ s.tmPipe sl = .open)) := by
    rintro (hle | ⟨ht, hopen⟩)
    · exact absurd hi (Nat.not_lt.mpr hle)
    · rw [hp ht] at hopen; cases hopen
  exact if_neg hrange

/-- The admission entry that the window names. -/
def State.tmAdm (s : State) (sl : Nat) : Nat := s.admAt sl (s.tmPipe sl) (s.tmIndex sl)

/-- The mask of a WRITE of an admission entry. -/
def State.admMask (s : State) (sl : Nat) : Nat := fld (s.oct (tmIx sl) Sub.tmWin_TM_MASK) 0 8

/-- The image that a WRITE of an admission entry would leave. -/
def State.admWritten (s : State) (sl : Nat) : Nat :=
  maskMerge (s.tmAdm sl) (fld (s.oct (tmIx sl) Sub.tmWin_TM_DATA) 0 8) (s.admMask sl)

/-- A WRITE of an admission entry that passes its checks leaves the image as it was given. -/
theorem tmWrite_adm (ht : s.tmTable sl = 3)
    (hc : s.tmCheck sl 3 (s.tmIndex sl) (s.tmPipe sl) (s.tmAdm sl) (s.admWritten sl) (s.admMask sl) = .ok) :
    tmWrite sl s = (s.putAdm sl (s.tmPipe sl) (s.tmIndex sl) (s.admWritten sl), .ok) := by
  have himage : s.tmImage sl = s.tmAdm sl := by
    rw [State.tmImage, ht]; rfl
  simp only [State.admWritten, State.admMask] at hc
  simp only [tmWrite, ht, himage, show tmOctets 3 = 8 from rfl, hc]
  rfl

/-- The ten counters of the window's queue, as READ_COUNTERS shows them. -/
def State.tmCounted (s : State) (sl : Nat) : Bytes :=
  (List.range 10).flatMap fun n => be 8 (mget 0 s.tm.queueCnt (pkey sl (s.tmPipe sl) (s.tmIndex sl) * 16 + n))

/-- The maxima of the window's queue start anew at its next sample (R179). -/
def State.tmRestarted (s : State) (sl : Nat) : State :=
  { s with tm := { s.tm with restart := s.tm.restart ++ [pkey sl (s.tmPipe sl) (s.tmIndex sl)] } }

theorem tmReadCounters_queue (hs : s.tel.held = false) (ht : s.tmTable sl = 1) (hi : s.tmIndex sl < 1024) :
    tmReadCounters sl s = ((s.tmRestarted sl).putO (tmIx sl) Sub.tmWin_TM_COUNTERS (s.tmCounted sl), .ok) := by
  have hrange : ¬ tmSize 1 ≤ s.tmIndex sl := Nat.not_le.mpr hi
  simp only [tmReadCounters, ht, hs, hrange, Nat.reduceLeDiff, one_ne_zero, false_and, or_self,
    Bool.false_eq_true, if_false]
  rfl

/-- Settles O7. That a short image stands at the front of `TM_DATA` with zeros after is the model's choice (log 132). The statement has
WRITE for an admission entry and READ_COUNTERS for a queue alone. -/
theorem trafficWindowOperates : Obligations.TrafficWindowOperates := by
  intro s c sl
  refine ⟨fun h hi hp => ?read, fun mask e h ht hm he hc => ?write, fun h ht hi hs => ?counters⟩
  case read =>
    have hact := tmRead_inRange (sl := sl) (s := s.tmTaken sl 1) (by simpa using hi) (by simpa using hp)
    have hpost := rowTm_posts h hact rfl
    refine ⟨_, rfl, ?_, hpost.tm, hpost.ends⟩
    rw [hpost.oct, oct_tmDelayed, State.oct_putO_self, State.tmShown, tmTable_tmTaken, tmImage_tmTaken]
  case write =>
    subst hm he
    have hact := tmWrite_adm (sl := sl) (s := s.tmTaken sl 2) (by simpa using ht)
      (by simpa [State.tmAdm, State.admWritten, State.admMask] using hc)
    have hpost := rowTm_posts h hact rfl
    refine ⟨_, rfl, ?_, congrArg (·.queue) hpost.tm, congrArg (·.policer) hpost.tm, hpost.ends⟩
    rw [State.admAt, hpost.tm, tm_tmDelayed, tmPipe_tmTaken, tmIndex_tmTaken, admission_putAdm_self]
    simp [State.tmAdm, State.admWritten, State.admMask]
  case counters =>
    have hact := tmReadCounters_queue (sl := sl) (s := s.tmTaken sl 3) hs (by simpa using ht) (by simpa using hi)
    have hpost := rowTm_posts h hact rfl
    refine ⟨_, rfl, ?_, ?_, hpost.ends⟩
    · rw [hpost.oct, oct_tmDelayed, State.oct_putO_self, State.tmCounted, tmPipe_tmTaken, tmIndex_tmTaken, tm_tmTaken]
    · rw [hpost.tm, tm_tmDelayed, State.putO_tm, State.tmRestarted, tmPipe_tmTaken, tmIndex_tmTaken, tm_tmTaken]

end Sys2Proof.Machine
end

section
/-! The traffic manager beside the frames (chapter 05): the refill of buckets (R158), the samples of queues (R174, R627), the return of
cells (R165), the end of a follow-up entry (R314) and the end of pause times (R57). -/

namespace Sys2Proof.Machine

variable {s : State} {sl : Nat} {open_ : Bool} {p : Pipe}

/-! ### The refill of buckets (R158) -/

section Refill
variable (sl : Nat) (i : Nat) (s : State)

/-- A queue or group image with its shaper filled to now. -/
def State.refillShaper (s : State) (sl e : Nat) : Nat := Que.setTokens e (s.tokensNow sl e) (s.cyc sl % 2 ^ 16)

theorem policer_putPol_self (e : Nat) : mget 0 (s.putPol sl i e).tm.policer (skey sl i) = e := mget_mset_self ..
theorem queueAt_putQueue_self (p : Pipe) (e : Nat) : (s.putQueue sl p i e).queueAt sl p i = e := mget_mset_self ..
theorem groupAt_putGroup_self (p : Pipe) (e : Nat) : (s.putGroup sl p i e).groupAt sl p i = e := mget_mset_self ..

theorem queue_putPol (e : Nat) : (s.putPol sl i e).tm.queue = s.tm.queue := rfl
theorem group_putQueue (p : Pipe) (e : Nat) : (s.putQueue sl p i e).tm.group = s.tm.group := rfl
theorem queue_putGroup (p : Pipe) (e : Nat) : (s.putGroup sl p i e).tm.queue = s.tm.queue := rfl

theorem bucketRefill_policer : bucketRefill sl open_ 0 i s = s.putPol sl i (s.refillPol sl (mget 0 s.tm.policer (skey sl i))) := rfl

variable (hp : p = if open_ then .open else .seal)
include hp

theorem bucketRefill_queue : bucketRefill sl open_ 1 i s = s.putQueue sl p i (s.refillShaper sl (s.queueAt sl p i)) := by
  subst hp; rfl

theorem bucketRefill_group : bucketRefill sl open_ 2 i s = s.putGroup sl p i (s.refillShaper sl (s.groupAt sl p i)) := by
  subst hp; rfl

theorem bucketRefill_node : bucketRefill sl open_ 3 i s = { s with tm := { s.tm with
    nodeTokens := mset 0 s.tm.nodeTokens (pkey sl p i) (s.nodeTokensNow sl p i)
    nodeLast := mset 0 s.tm.nodeLast (pkey sl p i) (s.cyc sl) } } := by
  subst hp; rfl

end Refill

/-! ### The sampler (R174, R627) -/

/-- The slice's sampler runs: it is enabled, and the slice has its clock. -/
structure Samples (s : State) (sl : Nat) : Prop where
  enabled : s.obB (Ix.tm sl 0) Sub.tm_SAMPLE_ENABLE = true
  clocked : s.gated sl = false
  lit : s.dark = false

/-- The record of a queue that holds no frame: its sojourn is 0 (R627). -/
def State.emptySample (s : State) (sl : Nat) (p : Pipe) (q : Nat) : Bytes :=
  be 2 q ++ be 2 (Adm.used (s.admAt sl p q)) ++ be 4 0 ++ be 8 s.ns

/-- A visit to an empty queue sets the queue's counters, puts its record into the ring, and goes on to the next queue. -/
theorem sampleVisit_empty {q pos : Nat} (hp : p = if open_ then .open else .seal) (h : Samples s sl)
    (hq : mget 0 s.tm.samplePos (pkey sl p 0) = q) (hpos : mget 0 s.tm.ringPos (pkey sl p 0) = pos) (he : s.heldAt sl p q = []) :
    ∃ counts again, sampleVisit sl open_ s = { s with tm := { s.tm with
      queueCnt := counts, restart := again
      samplePos := mset 0 s.tm.samplePos (pkey sl p 0) ((q + 1) % 1024)
      ring := mset [] s.tm.ring (pkey sl p pos) (s.emptySample sl p q)
      ringPos := mset 0 s.tm.ringPos (pkey sl p 0) ((pos + 1) % 1024) } } := by
  obtain ⟨hon, hgated, hdark⟩ := h
  simp only [sampleVisit, hon, hgated, hdark, Bool.not_true, Bool.or_self, Bool.false_eq_true, if_false, ← hp, hq, hpos, he,
    State.qset]
  exact ⟨_, _, rfl⟩

/-! ### The return of cells (R165, R166) -/

/-- The frames whose cells are still to return, and the admission table. -/
def State.cellsOut (s : State) : SMap (List Frm) × SMap Nat := (s.tm.leaving, s.tm.admission)

/-- A pause frame takes at most a slot of a pacer (R167, R171). -/
theorem sendPause_cellsOut (sl : Nat) (p : Pipe) (ip tc quanta : Nat) (s : State) :
    (sendPause sl p ip tc quanta s).cellsOut = s.cellsOut := by
  have hsent : ∀ m e b, (sendOut m e b false (s.mark (Timer.pause (8 * ingressPort sl p ip + tc)))).cellsOut = s.cellsOut := by
    intro m e b
    rw [State.cellsOut, sendOut_tm]; rfl
  unfold sendPause
  dsimp only
  split
  · cases p <;> exact hsent ..
  · rfl

/-- Flow control toward an ingress port moves no cells (R166). -/
theorem flowUpdate_cellsOut (sl : Nat) (p : Pipe) (ip : Nat) (s : State) : (flowUpdate sl p ip s).cellsOut = s.cellsOut := by
  have hclass : ∀ k a b u, (flowClass sl p ip k a b u).cellsOut = u.cellsOut := by
    intro k a b u
    unfold flowClass
    dsimp only
    split
    · rfl
    · rw [sendPause_cellsOut]; rfl
  have hoff : ∀ k u, (flowOff sl p ip k u).cellsOut = u.cellsOut := by
    intro k u
    unfold flowOff
    dsimp only
    split <;> rfl
  refine List.foldlRecOn (motive := fun u : State => u.cellsOut = s.cellsOut) _ _ rfl fun u hu k _ => ?_
  split
  · rw [hclass, hu]
  · rw [hoff, hu]

/-- The cells of a frame have returned to the count of its queue. -/
def State.cellsBack (sl : Nat) (p : Pipe) (f : Frm) (s : State) : State :=
  s.putAdm sl p f.queue (Adm.setUsed (s.admAt sl p f.queue) (Adm.used (s.admAt sl p f.queue) - f.cells))

theorem returnCells_cellsOut (sl : Nat) (p : Pipe) (f : Frm) (s : State) :
    (returnCells sl p f s).cellsOut = (s.cellsBack sl p f).cellsOut := by
  obtain ⟨_, _, _, h⟩ := moveCells_eq sl p (s.cellsBack sl p f) false (f.inPort % 8) f.tc f.cls f.cells
  refine (flowUpdate_cellsOut ..).trans ?_
  rw [← State.cellsBack, h]; rfl

/-- The frames of a pipe that leave after the first. -/
def State.left (sl : Nat) (p : Pipe) (rest : List Frm) (s : State) : State :=
  { s with tm := { s.tm with leaving := mset [] s.tm.leaving (pkey sl p 0) rest } }

theorem cellsReturn_oldest {f : Frm} {rest : List Frm} (hp : p = if open_ then .open else .seal)
    (h : mget [] s.tm.leaving (pkey sl p 0) = f :: rest) : cellsReturn sl open_ s = returnCells sl p f (s.left sl p rest) := by
  subst hp
  simp only [cellsReturn, h]
  rfl

/-! ### Follow-up entries (R314) -/

section Followups
variable {i : Nat} {e : FupEntry} (hp : p = if open_ then .open else .seal)
  (he : (mget [] s.time.fup (pipeKey sl p))[i]? = some e)
include hp he

theorem fupTimeout_due (hage : s.ob (0x3A80 + sl) Sub.timeSlice_FUP_TIMEOUT_MS ≤ s.fupAge e) :
    fupTimeout sl open_ i s = { s with time := { s.time with
      fup := mset [] s.time.fup (pipeKey sl p) ((mget [] s.time.fup (pipeKey sl p)).eraseIdx i) } } := by
  subst hp
  simp only [fupTimeout, he, Option.any_some, hage, decide_true, Bool.not_true, Bool.false_eq_true, if_false]

theorem fupTimeout_early (hage : s.fupAge e < s.ob (0x3A80 + sl) Sub.timeSlice_FUP_TIMEOUT_MS) : fupTimeout sl open_ i s = s := by
  subst hp
  simp only [fupTimeout, he, Option.any_some, Nat.not_le.mpr hage, decide_false, Bool.not_false, if_true]

end Followups

/-! ### Pause times (R57) -/

section Pauses
variable (m prios : Nat)

/-- The pause time of a priority toward a port has run out. -/
def State.pauseOver (s : State) (m k : Nat) : Bool :=
  s.past (Timer.paused (8 * m + k)) (s.quantaNs m (mget 0 s.lanes.paused (8 * m + k)))

/-- The pause time of a priority toward a port, and whether it has run out. -/
def State.pauseAt (s : State) (m k : Nat) : Option Nat × Bool := (mfind s.lanes.paused (8 * m + k), s.pauseOver m k)

/-- The end of one priority's pause time: one step of `pauseExpiry`. -/
def expiryStep (s : State) (k : Nat) : State := if bit prios k ∧ s.pauseOver m k then s.setPause m k 0 else s

theorem pauseExpiry_steps (s : State) : pauseExpiry m prios s = (List.range 8).foldl (expiryStep m prios) s := rfl

theorem expiryStep_self (s : State) (k : Nat) : mfind (expiryStep m prios s k).lanes.paused (8 * m + k) =
    if bit prios k = true ∧ s.pauseOver m k = true then none else mfind s.lanes.paused (8 * m + k) := by
  unfold expiryStep
  split
  · exact mfind_merase_self ..
  · rfl

theorem setPause_pauseAt {j k : Nat} (h : k ≠ j) (s : State) : (s.setPause m j 0).pauseAt m k = s.pauseAt m k := by
  have hkey : 8 * m + k ≠ 8 * m + j := by omega
  have hfind : mfind (s.setPause m j 0).lanes.paused (8 * m + k) = mfind s.lanes.paused (8 * m + k) := mfind_merase_ne hkey
  have hover : (s.setPause m j 0).pauseOver m k = s.pauseOver m k := by
    rw [State.pauseOver, mget, hfind]
    exact State.past_mark_ne (by simp only [Timer.paused]; omega)
  rw [State.pauseAt, hfind, hover, State.pauseAt]

/-- The priorities of a list leave another's pause time. -/
theorem expirySteps_other {l : List Nat} {k : Nat} (hk : k ∉ l) (s : State) :
    (l.foldl (expiryStep m prios) s).pauseAt m k = s.pauseAt m k := by
  refine List.foldlRecOn (motive := fun u : State => u.pauseAt m k = s.pauseAt m k) _ _ rfl fun u hu j hj => ?_
  unfold expiryStep
  split
  · exact (setPause_pauseAt m (ne_of_mem_of_not_mem hj hk).symm u).trans hu
  · exact hu

/-- Of priorities in turn, each once, every one ends as it stood at the start. -/
theorem expirySteps_find {l : List Nat} (hl : l.Nodup) {k : Nat} (hk : k ∈ l) (s : State) :
    mfind (l.foldl (expiryStep m prios) s).lanes.paused (8 * m + k) =
      if bit prios k = true ∧ s.pauseOver m k = true then none else mfind s.lanes.paused (8 * m + k) := by
  obtain ⟨before, after, rfl⟩ := List.append_of_mem hk
  obtain ⟨-, hafter, hapart⟩ := List.nodup_append.mp hl
  have hk_before : k ∉ before := fun h => hapart k h k (List.mem_cons_self ..) rfl
  have hfind := congrArg Prod.fst (expirySteps_other m prios hk_before s)
  have hover := congrArg Prod.snd (expirySteps_other m prios hk_before s)
  simp only [State.pauseAt] at hfind hover
  rw [List.foldl_append, List.foldl_cons]
  refine (congrArg Prod.fst (expirySteps_other m prios (List.nodup_cons.mp hafter).1 _)).trans ?_
  rw [State.pauseAt, expiryStep_self, hfind, hover]

end Pauses

/-- Settles O8. That the cells of the frame dequeued first return first is the model's choice (log 131). -/
theorem trafficBackgroundWorks : Obligations.TrafficBackgroundWorks := by
  intro s sl open_ p hp
  refine ⟨fun i => ?policer, fun i => ?queue, fun i => ?group, fun i => ?node, fun q pos hon hg hd hq hpos hheld => ?sample,
    fun f rest hl => ?cells, fun i e he hage => ?due, fun i e he hage => ?early, fun m prios k hk => ?pause⟩
  case policer => exact ⟨_, congrArg Host.Outcome.next (bucketRefill_policer ..), policer_putPol_self .., queue_putPol ..⟩
  case queue => exact ⟨_, congrArg Host.Outcome.next (bucketRefill_queue sl i s hp), queueAt_putQueue_self .., group_putQueue ..⟩
  case group => exact ⟨_, congrArg Host.Outcome.next (bucketRefill_group sl i s hp), groupAt_putGroup_self .., queue_putGroup ..⟩
  case node => exact ⟨_, congrArg Host.Outcome.next (bucketRefill_node sl i s hp), mget_mset_self .., mget_mset_self ..⟩
  case sample =>
    obtain ⟨counts, again, hvisit⟩ := sampleVisit_empty hp ⟨hon, hg, hd⟩ hq hpos hheld
    have hrecord := mget_mset_self [] s.tm.ring (pkey sl p pos) (s.emptySample sl p q)
    exact ⟨_, congrArg Host.Outcome.next hvisit, hrecord, mget_mset_self .., mget_mset_self ..⟩
  case cells =>
    have hout := returnCells_cellsOut sl p f (s.left sl p rest)
    refine ⟨_, congrArg Host.Outcome.next (cellsReturn_oldest hp hl), ?_, ?_⟩
    · rw [show (returnCells sl p f (s.left sl p rest)).tm.leaving = _ from congrArg Prod.fst hout]
      exact mget_mset_self ..
    · rw [State.admAt, show (returnCells sl p f (s.left sl p rest)).tm.admission = _ from congrArg Prod.snd hout]
      exact admission_putAdm_self ..
  case due => exact ⟨_, congrArg Host.Outcome.next (fupTimeout_due hp he hage), mget_mset_self .., rfl⟩
  case early => exact congrArg Host.Outcome.next (fupTimeout_early hp he hage)
  case pause =>
    refine ⟨pauseExpiry m prios s, rfl, ?_⟩
    rw [pauseExpiry_steps]
    exact expirySteps_find m prios List.nodup_range (List.mem_range.mpr hk) s

end Sys2Proof.Machine
end

section
/-! The audit of the cores (chapter 06): a core check begins, and ends in a swap or in a transient (R207, R208), and a stopped pipe is
retested (R212, R214). -/

namespace Sys2Proof.Machine

variable {s t u : State} {sl : Nat} {p : Pipe}

/-! ### What stands beside a pipe's own objects -/

/-- The pipes' indices begin at 0x3400, the first two of every block of 256 (R219). -/
theorem pipeIx_ne {ix : Nat} (h : ix < 0x3400 ∨ 2 ≤ ix % 256) : pipeIx sl p ≠ ix := by
  have hcode : p.code ≤ 1 := by cases p <;> decide
  simp only [pipeIx, Ix.pipe]
  omega

/-- The checks in progress, the checks that are queued and the transients, of every pipe. -/
def State.checks (s : State) : SMap CoreCheck × SMap (List Nat) × SMap Nat := (s.eng.check, s.eng.queue, s.eng.transient)

/-- From `s` to `t` a pipe's objects, and the checks and transients of every pipe, stand as they were. -/
structure SameCores (sl : Nat) (p : Pipe) (s t : State) : Prop where
  ob : ∀ sub < 256, t.ob (pipeIx sl p) sub = s.ob (pipeIx sl p) sub
  roles : t.roles sl p = s.roles sl p
  checks : t.checks = s.checks

namespace SameCores

theorem refl (s : State) : SameCores sl p s s := ⟨fun _ _ => rfl, rfl, rfl⟩

theorem trans (h : SameCores sl p s t) (h' : SameCores sl p t u) : SameCores sl p s u :=
  ⟨fun sub hs => (h'.ob sub hs).trans (h.ob sub hs), h'.roles.trans h.roles, h'.checks.trans h.checks⟩

variable (h : SameCores sl p s t)
include h

theorem pipeState : t.pipeState sl p = s.pipeState sl p := h.ob _ (by decide)
theorem check : t.eng.check = s.eng.check := congrArg Prod.fst h.checks
theorem queue : t.eng.queue = s.eng.queue := congrArg (·.2.1) h.checks
theorem transient : t.eng.transient = s.eng.transient := congrArg (·.2.2) h.checks

theorem put {ix sub : Nat} (hsub : sub < 256) (hix : ix < 0x3400 ∨ 2 ≤ ix % 256) (v : Nat) : SameCores sl p s (t.put ix sub v) :=
  h.trans ⟨fun _ hs => (State.ob_put hsub hs).trans (if_neg fun k => pipeIx_ne hix k.1), rfl, rfl⟩

theorem bump (ctr : Nat) : SameCores sl p s (t.bump ctr) := h.trans ⟨fun _ _ => rfl, rfl, rfl⟩

theorem raiseAt (at_ code slice : Nat) (items : Bytes) : SameCores sl p s (t.raiseAt at_ code slice items) := by
  refine h.trans ⟨fun _ hs => State.ob_raiseAt hs (pipeIx_ne (by decide)), ?_, ?_⟩
  · rw [State.roles, (raiseAt_same at_ code slice items t).2, State.roles]
  · rw [State.checks, State.raiseAt_eng, State.checks]

theorem tagWrite (mk : Nat → Bytes) : SameCores sl p s (t.tagWrite mk) := by
  have htel : ∀ u w, SameCores sl p s u → SameCores sl p s { u with tel := w } := fun u w hu => hu.trans ⟨fun _ _ => rfl, rfl, rfl⟩
  unfold State.tagWrite
  dsimp only
  split
  · split
    · exact h.bump _
    · exact (htel _ _ (h.bump _)).raiseAt ..
  · exact (((htel _ _ h).put (by decide) (by decide) _).put (by decide) (by decide) _).bump _

theorem discard (sl' : Nat) (p' : Pipe) (ctr : Nat) (f : Frm) : SameCores sl p s (discardAs sl' p' ctr f t) := by
  unfold discardAs tagEnd
  split
  · exact h.bump _
  · exact (h.bump _).tagWrite _

end SameCores

/-! ### A check begins (R207, R210) -/

theorem catchSealed_cores (sl' at_ : Nat) (e : Egress) (s : State) : SameCores sl p s (catchSealed sl' at_ e s).2 := by
  unfold catchSealed Egress.cutAt
  split
  · exact .refl s
  · split
    · exact .refl s
    · exact (SameCores.refl s).discard ..

theorem eachEgress_cores {f : Egress → State → Egress × State} (h : ∀ e u, SameCores sl p u (f e u).2) (l : List Egress)
    (s : State) : SameCores sl p s (eachEgress f l s).2 := by
  induction l generalizing s with
  | nil => exact .refl s
  | cons e l ih => exact (h e s).trans (ih _)

/-- The frames that a check catches are cut, counted and tagged. -/
theorem catchAll_cores (at_ : Nat) (s : State) : SameCores sl p s (s.catchAll sl p at_) :=
  match p with
  | .seal => (eachEgress_cores (catchSealed_cores sl at_) (s.egressAt sl .seal) s).trans ⟨fun _ _ => rfl, rfl, rfl⟩
  | .open => ⟨fun _ _ => rfl, rfl, rfl⟩

/-- The pipe is held, and the check `c` has begun. -/
def State.checkBegun (sl : Nat) (p : Pipe) (c : CoreCheck) (s : State) : State :=
  (s.setPipe sl p 1).putCheck sl p (some { c with start := s.ns })

theorem beginCheck_cores (at_ : Nat) (c : CoreCheck) (s : State) : SameCores sl p (s.checkBegun sl p c) (beginCheck sl p at_ c s) :=
  catchAll_cores ..

section Begin
variable (at_ : Nat) (c : CoreCheck) (s : State)

theorem beginCheck_pipeState : (beginCheck sl p at_ c s).pipeState sl p = 1 :=
  (beginCheck_cores at_ c s).pipeState.trans (State.ob_put_self ..)

theorem beginCheck_checkAt : (beginCheck sl p at_ c s).checkAt sl p = some { c with start := s.ns } :=
  (congrArg (mfind · _) (beginCheck_cores at_ c s).check).trans (mfind_minsert_self ..)

theorem beginCheck_ob {sub : Nat} (h : sub < 256) (hne : sub ≠ Sub.pipe_PIPE_STATE) :
    (beginCheck sl p at_ c s).ob (pipeIx sl p) sub = s.ob (pipeIx sl p) sub :=
  ((beginCheck_cores at_ c s).ob sub h).trans ((State.ob_put (by decide) h).trans (if_neg fun k => hne k.2))

end Begin

/-- A comparison that differs starts a check where one is made: in a running pipe with an auditor (R205, R206). -/
theorem auditMismatch_starts {pos cycle : Nat} (hr : s.sliceRuns sl = true) (hp : s.pipeState sl p = 0)
    (ha : (s.roles sl p).contains 8 = true) (hc : s.auditCycle sl pos = some cycle) :
    auditMismatch sl p pos s = startCheck sl p pos false cycle s := by
  simp only [auditMismatch, hc, auditFound, hr, hp, ha, and_self, if_true]

theorem auditMismatch_none {pos : Nat} (h : s.sliceRuns sl = false ∨ s.pipeState sl p ≠ 0 ∨ s.auditCycle sl pos = none) :
    auditMismatch sl p pos s = s := by
  unfold auditMismatch
  split
  · next cycle hc =>
    refine if_neg fun ⟨hr, hp, _⟩ => ?_
    rcases h with h | h | h
    · simp [h] at hr
    · exact h hp
    · simp [h] at hc
  · rfl

/-! ### Roles (R208, R214) -/

theorem roles_lt : ∀ x ∈ s.roles sl p, x < 256 := by
  simp only [State.roles, List.mem_map]
  rintro _ ⟨b, -, rfl⟩
  exact b.isLt

theorem roles_setRoles {r : List Nat} (h : ∀ x ∈ r, x < 256) (s : State) : (s.setRoles sl p r).roles sl p = r := by
  rw [State.roles, State.setRoles, State.oct_put, State.oct_putO_self, List.map_map]
  exact (List.map_congr_left (g := id) fun x hx => Nat.mod_eq_of_lt (h x hx)).trans (List.map_id r)

theorem swapRole_lt {old new : Nat} {r : List Nat} (hnew : new < 256) (h : ∀ x ∈ r, x < 256) :
    ∀ x ∈ swapRole old new r, x < 256 := by
  simp only [swapRole, List.mem_map]
  rintro _ ⟨x, hx, rfl⟩
  split
  · exact hnew
  · exact h x hx

theorem assignRoles_lt {mask k next : Nat} (h : next + k ≤ 256) : ∀ x ∈ assignRoles mask k next, x < 256 := by
  induction k generalizing next with
  | zero => simp [assignRoles]
  | succ k ih =>
    unfold assignRoles
    split
    · exact List.forall_mem_cons.mpr ⟨by omega, ih (by omega)⟩
    · exact List.forall_mem_cons.mpr ⟨by omega, ih (by omega)⟩

/-! ### A check ends (R207, R208) -/

/-- With no check queued, the pipe runs again. -/
theorem resumePipe_runs (h : mget [] s.eng.queue (pipeKey sl p) = []) :
    resumePipe sl p s = (s.putCheck sl p none).setPipe sl p 0 := by
  have h' : mget [] (s.putCheck sl p none).eng.queue (pipeKey sl p) = [] := h
  simp only [resumePipe, h']

/-- `t` is the running pipe without a check, with the roles `r`. -/
structure Resumed (sl : Nat) (p : Pipe) (r : List Nat) (t : State) : Prop where
  roles : t.roles sl p = r
  running : t.pipeState sl p = 0
  noCheck : t.checkAt sl p = none

theorem resumePipe_resumed {r : List Nat} (h : mget [] s.eng.queue (pipeKey sl p) = []) (hr : s.roles sl p = r) :
    Resumed sl p r (resumePipe sl p s) := by
  rw [resumePipe_runs h]
  exact ⟨hr, State.ob_put_self .., mfind_merase_self ..⟩

/-- The verdict of a check has come in, and its cycles are shown (R207). -/
def State.verdictIn (sl : Nat) (p : Pipe) (s : State) : State := s.put (pipeIx sl p) Sub.pipe_LAST_CHECK_CYCLES 141

/-- The core at a check's position has been fenced, and the auditor has taken its place (R208). -/
def State.swapped (sl : Nat) (p : Pipe) (pos : Nat) (s : State) : State :=
  (fence sl p pos s).setRoles sl p (swapRole 8 pos ((fence sl p pos s).roles sl p))

/-- The period of a check's transient has been noted (R208, R209). -/
def State.transientNoted (sl : Nat) (p : Pipe) (pos : Nat) (s : State) : State :=
  { s with eng := { s.eng with transient := minsert s.eng.transient (transKey sl p pos) s.time.periods } }

theorem transientAgain_verdictIn (pos : Nat) (s : State) : (s.verdictIn sl p).transientAgain sl p pos = s.transientAgain sl p pos := by
  have hwindow : (s.verdictIn sl p).ob (pipeIx sl p) Sub.pipe_TRANSIENT_WINDOW_MS = s.ob (pipeIx sl p) Sub.pipe_TRANSIENT_WINDOW_MS :=
    (State.ob_put (by decide) (by decide)).trans (if_neg fun k => absurd k.2 (by decide))
  rw [State.transientAgain, hwindow]
  rfl

section Verdict
variable {c : CoreCheck}

theorem coreVerdict_checks (hc : s.checkAt sl p = some c) (hr : c.retest = false) (corePass audPass : Bool) :
    coreVerdict sl p corePass audPass s = checkResult sl p c corePass audPass (s.verdictIn sl p) := by
  simp only [coreVerdict, hc, hr, Bool.false_eq_true, if_false]
  rfl

/-- The core fails and the auditor passes: the two change places. -/
theorem checkResult_swap (ha : (s.roles sl p).contains 8 = true) :
    checkResult sl p c false true s = resumePipe sl p (engineEvent 0x0501 sl p c.pos c.start (s.swapped sl p c.pos)) := by
  unfold checkResult
  simp only [ha, Bool.false_and, Bool.false_eq_true, if_false]
  rfl

/-- Both pass, and the position has had no transient lately: this is one. -/
theorem checkResult_transient (ha : (s.roles sl p).contains 8 = true) (hagain : s.transientAgain sl p c.pos = false) :
    checkResult sl p c true true s = resumePipe sl p (engineEvent 0x0503 sl p c.pos c.start (s.transientNoted sl p c.pos)) := by
  unfold checkResult
  simp only [ha, hagain, Bool.and_false, Bool.false_eq_true, if_false]
  rfl

end Verdict

@[simp] theorem alarm_eng (src detail : Nat) (s : State) : (s.alarm src detail).eng = s.eng := by
  unfold State.alarm; split <;> rfl

@[simp] theorem alarm_oct (src detail ix sub : Nat) (s : State) : (s.alarm src detail).oct ix sub = s.oct ix sub := by
  unfold State.alarm; split <;> rfl

theorem fence_roles (r : Nat) (s : State) : (fence sl p r s).roles sl p = swapRole r 0xFF (s.roles sl p) := by
  rw [fence, State.roles, alarm_oct]
  exact roles_setRoles (swapRole_lt (by decide) roles_lt) s

theorem swapped_roles {pos : Nat} (h : pos < 8) (s : State) :
    (s.swapped sl p pos).roles sl p = swapRole 8 pos (swapRole pos 0xFF (s.roles sl p)) := by
  rw [State.swapped, roles_setRoles (swapRole_lt (by omega) roles_lt), fence_roles]

theorem swapped_eng (pos : Nat) (s : State) : (s.swapped sl p pos).eng = s.eng := alarm_eng ..

theorem engineEvent_cores (code pos at_ : Nat) (s : State) : SameCores sl p s (engineEvent code sl p pos at_ s) :=
  (SameCores.refl s).raiseAt ..

@[simp] theorem State.eng_noteCycle (c : Caller) (l : List Nat) (s : State) : (s.noteCycle c l).eng = s.eng := by
  cases c <;> rfl

/-! ### A retest of a stopped pipe (R212) -/

/-- A retest has been asked for, and runs. -/
def State.retestAsked (sl : Nat) (p : Pipe) (s : State) : State :=
  (s.put (pipeIx sl p) Sub.pipe_CORE_RETEST 1).put (pipeIx sl p) Sub.pipe_RETEST_STATUS 1

theorem coreRetest_stopped (hs : s.ob (pipeIx sl p) Sub.pipe_RETEST_STATUS ≠ 1) (hp : s.pipeState sl p = 2) :
    coreRetest sl p s = (beginCheck sl p (s.cyc sl) { retest := true, whole := true } (s.retestAsked sl p), .ok) := by
  simp only [coreRetest, hs, hp, if_false]
  rfl

theorem coreRetest_busy (hs : s.ob (pipeIx sl p) Sub.pipe_RETEST_STATUS = 1) : coreRetest sl p s = (s, .busy) := if_pos hs

/-- A whole retest has passed, and the cores have their places (R214). -/
def State.retestPassed (sl : Nat) (p : Pipe) (mask : Nat) (s : State) : State :=
  (s.setRoles sl p (assignRoles mask 9 0)).put (pipeIx sl p) Sub.pipe_RETEST_STATUS 2

theorem retestComplete_passes {c : CoreCheck} {mask : Nat} (hc : s.checkAt sl p = some c) (hr : c.retest = true)
    (hw : c.whole = true) (hm : 8 ≤ passing mask) : retestComplete sl p mask s = resumePipe sl p (s.retestPassed sl p mask) := by
  simp only [retestComplete, hc, hr, hw, hm, Bool.not_true, Bool.false_eq_true, if_false, if_true]
  rfl

/-- Settles O12: each clause is one way in which a check or a retest begins or ends. -/
theorem coreChecksRun : Obligations.CoreChecksRun := by
  rintro s sl open_ p rfl -
  refine ⟨fun pos cycle hr hp ha hc => ?mismatch, fun pos h => congrArg Host.Outcome.next (auditMismatch_none h),
    fun c hc hr hpos ha hq => ?swap, fun c hc hr hagain ha hq => ?transient, fun c hacc hst hp => ?retest,
    fun c hacc hst => congrArg Host.Outcome.next (rowWrite_refuses hacc (coreRetest_busy hst) (by decide)),
    fun c mask hc hr hw hm hq => ?passed⟩
  case mismatch =>
    refine ⟨_, congrArg Host.Outcome.next (auditMismatch_starts hr hp ha hc), beginCheck_pipeState .., beginCheck_checkAt .., ?_⟩
    exact (beginCheck_ob _ _ _ (by decide) (by decide)).trans (State.ob_addOb_self ..)
  case swap =>
    have hevent := engineEvent_cores (sl := sl) (p := pipeOf open_) 0x0501 c.pos c.start
      ((s.verdictIn sl (pipeOf open_)).swapped sl (pipeOf open_) c.pos)
    have hend := resumePipe_resumed (by rw [hevent.queue, swapped_eng]; exact hq) (hevent.roles.trans (swapped_roles hpos _))
    have hverdict := (coreVerdict_checks hc hr false true).trans (checkResult_swap ha)
    exact ⟨_, congrArg Host.Outcome.next hverdict, hend.roles, hend.running, hend.noCheck⟩
  case transient =>
    have hevent := engineEvent_cores (sl := sl) (p := pipeOf open_) 0x0503 c.pos c.start
      ((s.verdictIn sl (pipeOf open_)).transientNoted sl (pipeOf open_) c.pos)
    have hqueue := (congrArg (mget [] · (pipeKey sl (pipeOf open_))) hevent.queue).trans hq
    have hend := resumePipe_resumed hqueue hevent.roles
    have hverdict := (coreVerdict_checks hc hr true true).trans
      (checkResult_transient ha ((transientAgain_verdictIn c.pos s).trans hagain))
    refine ⟨_, congrArg Host.Outcome.next hverdict, hend.roles, hend.running, hend.noCheck, ?_⟩
    rw [resumePipe_runs hqueue]
    exact (congrArg (mfind · _) hevent.transient).trans (mfind_minsert_self ..)
  case retest =>
    refine ⟨_, congrArg Host.Outcome.next (rowWrite_takes hacc (coreRetest_stopped hst hp)), ?_, ?_, ?_, reports_complete ..⟩
    · rw [State.ob_complete, State.ob_noteCycle, beginCheck_ob _ _ _ (by decide) (by decide)]
      exact State.ob_put_self ..
    · rw [State.pipeState, State.ob_complete, State.ob_noteCycle]
      exact beginCheck_pipeState ..
    · rw [State.checkAt, State.complete_eng, State.eng_noteCycle]
      exact beginCheck_checkAt ..
  case passed =>
    have hend := resumePipe_resumed (s := s.retestPassed sl (pipeOf open_) mask) hq (roles_setRoles (assignRoles_lt (by decide)) s)
    refine ⟨_, congrArg Host.Outcome.next (retestComplete_passes hc hr hw hm), hend.roles, ?_, hend.running, hend.noCheck⟩
    rw [resumePipe_runs (s := s.retestPassed sl (pipeOf open_) mask) hq, State.setPipe, State.ob_put (by decide) (by decide),
      if_neg fun k => absurd k.2 (by decide)]
    exact State.ob_put_self ..

end Sys2Proof.Machine
end

section
/-! Egress while a slice is held for a change of its core clock (chapters 01 and 06). The egress segments drain first, so that the frames in
them go out (R31), and once they are empty the ports send idles only (R32). The model takes a frame out of its segment before its port
sends it; for the last one the segments are then empty, so that the port forms no frames and this one is lost. -/

namespace Sys2Proof.Machine

variable {s : State} {sl c : Nat} {p : Pipe} {e : Egress}

/-- The slice is held for a change of its clock, and a port of it sends idles only once its segments have drained (R31, R32). -/
theorem forms_drained {m : Nat} (hm : sliceOfPort m = sl) (hold : s.pointHold sl = true) (hd : s.drained sl = true) :
    s.forms m = false := by
  simp [State.forms, State.traffic, hm, hold, hd]

/-- A port that forms no frames sends nothing. -/
theorem sendFrame_unformed {m : Nat} (h : s.forms m = false) (cut : Bool) (b : Bytes) : sendFrame m cut b s = s := by
  simp [sendFrame, sendOut, h]

theorem code_ne : ∀ p q : Pipe, q ≠ p → q.code ≠ p.code := by
  rintro ⟨⟩ ⟨⟩ <;> decide

theorem egressAt_putEgress_self (l : List Egress) (s : State) : (s.putEgress sl p l).egressAt sl p = l := mget_mset_self ..

theorem egressAt_putEgress_ne {q : Pipe} (h : q ≠ p) (l : List Egress) (s : State) :
    (s.putEgress sl p l).egressAt sl q = s.egressAt sl q := by
  have hcode : q.code ≠ p.code := code_ne p q h
  exact mget_mset_ne (by unfold pipeKey; omega)

/-- The last frame of a segment has been taken out of it. -/
def State.emptied (sl : Nat) (p : Pipe) (e : Egress) (s : State) : State := (s.putEgress sl p [e]).putEgress sl p []

/-- A frame that is alone in its segment is taken out of it before it leaves. -/
theorem leaveEgress_last (hout : e.enter + e.words ≤ c) (leave : Egress → State → State) (s : State) :
    leaveEgress sl p leave c (s.putEgress sl p [e]) = leave e (s.emptied sl p e) := by
  simp [leaveEgress, egressAt_putEgress_self, doneEgress, hout, State.emptied]

/-- `e` is the last frame in the egress segments of a slice that is held for a change of its clock: alone in that of pipe `p`, untagged
and whole, with its last word gone by cycle `c`. -/
structure LastUnderHold (s : State) (sl : Nat) (p : Pipe) (e : Egress) (c : Nat) : Prop where
  hold : s.pointHold sl = true
  alone : s.egressAt sl p = [e]
  last : ∀ q, q ≠ p → s.egressAt sl q = []
  untagged : e.frm.tag = none
  whole : e.cut = none
  out : e.enter + e.words ≤ c

theorem emptied_drained (h : LastUnderHold s sl p e c) : (s.emptied sl p e).drained sl = true := by
  have hempty : ∀ q, (s.emptied sl p e).egressAt sl q = [] := by
    intro q
    by_cases hq : q = p
    · rw [hq]
      exact egressAt_putEgress_self ..
    · rw [State.emptied, egressAt_putEgress_ne hq, egressAt_putEgress_ne hq, h.last q hq]
  simp only [State.drained, Bool.and_eq_true, List.isEmpty_iff]
  exact ⟨hempty .seal, hempty .open⟩

theorem LastUnderHold.unformed (h : LastUnderHold s sl p e c) {m : Nat} (hm : sliceOfPort m = sl) : (s.emptied sl p e).forms m = false :=
  forms_drained hm h.hold (emptied_drained h)

/-- The last opened frame of a held slice is not sent. -/
theorem openEgress_last (h : LastUnderHold s sl .open e c) (htodo : e.todo = false) (hm : sliceOfPort e.frm.outPort = sl) :
    openEgress sl c s = s.emptied sl .open e := by
  have henters : clientEnters sl c [e] s = ([e], s) := by simp [clientEnters, htodo]
  rw [openEgress, h.alone, if_neg (List.cons_ne_nil e []), henters, leaveEgress_last h.out, openLeave, tagEnd, h.untagged, h.whole]
  exact sendFrame_unformed (h.unformed hm) ..

/-- The last sealed frame of a slice, where the guard stage has nothing to find in it. -/
theorem sealEgress_last (h : LastUnderHold s sl .seal e c) (heq : e.equal = []) (hwr : e.wrong = []) :
    sealEgress sl c s = sealLeave sl e (s.emptied sl .seal e) := by
  have hdrop : dropWrong c e = e := by
    cases e
    subst hwr
    rfl
  have hdue : dueFindings c [e] = [] := by simp [dueFindings, heq, hwr]
  rw [sealEgress, h.alone, if_neg (List.cons_ne_nil e []), hdue, List.foldl_nil]
  simp only [h.alone, List.map_singleton, hdrop, leaveEgress_last h.out]

theorem countSealed_wire (e : Egress) (s : State) : (countSealed sl e s).wire = s.wire := by
  unfold countSealed
  split
  · dsimp only
    split <;> rfl
  · rfl

/-- The last sealed frame of a held slice on Ethernet is not sent. -/
theorem sealEgress_last_wire (h : LastUnderHold s sl .seal e c) (heq : e.equal = []) (hwr : e.wrong = []) (hp : e.frm.plain = false)
    (hm : sliceOfPort (0x40 + 8 * sl + e.frm.node) = sl) (heth : s.otnMode sl = 0) : (sealEgress sl c s).wire = s.wire := by
  have heth' : (s.emptied sl .seal e).otnMode sl = 0 := heth
  have hline : sendLine sl e.frm.node false e.bytes (s.emptied sl .seal e) = s.emptied sl .seal e := by
    rw [sendLine, if_pos heth', sendFrame_unformed (h.unformed hm)]
  rw [sealEgress_last h heq hwr, sealLeave, h.whole]
  simp only [hp, Bool.false_and, Bool.false_eq_true, if_false, h.untagged, Option.map_none, tagEnd, hline, countSealed_wire]
  rfl

/-! ### A concrete hold -/

/-- The performance point is being lowered, and slice 0 is the next to change its clock; client port 0 and line port 0 run. -/
def clockHeldUp : State :=
  { State.reset with
    rst := { gap := false, step := 5, coresHeld := false, rstout := false }
    lanes := { now := [(0, 3), (0x40, 3)] }
    pwr := { State.reset.pwr with change := some { state := 1, req := 1, point := 1, slices := [0] } }
    dict := { nums := [
      (okey 0x0400 Sub.power_PP_PHASE, 1),
      (okey (Ix.port 0) Sub.port_ENABLE, 1),
      (okey (Ix.port 0x40) Sub.port_ENABLE, 1)] } }

/-- An opened frame of one word on its way to client port 0. -/
def openedFrame : Egress :=
  { frm := { bytes := withFcs (zeros 60), len := 64, inPort := 0x40, outPort := 0 }, bytes := withFcs (zeros 60)
    start := 0, base := 0, enter := 96, words := 1 }

/-- A sealed frame of one word on its way to line port 0, under SA 4. -/
def sealedFrame : Egress :=
  { frm := { bytes := withFcs (zeros 60), len := 64, inPort := 0, outPort := 0x40, secy := some 0, sa := some 4, enc := true }
    bytes := withFcs (zeros 92)
    start := 0, base := 0, enter := 384, words := 1, count := some (4, 48) }

/-- The opened frame is the last in the segments of the held slice. -/
def openedUnderHold : State := clockHeldUp.putEgress 0 .open [openedFrame]
/-- The sealed frame is the last in the segments of the held slice. -/
def sealedUnderHold : State := clockHeldUp.putEgress 0 .seal [sealedFrame]

theorem openedUnderHold_last : LastUnderHold openedUnderHold 0 .open openedFrame 97 where
  hold := by decide +kernel
  alone := rfl
  last
    | .seal, _ => rfl
    | .open, h => absurd rfl h
  untagged := rfl
  whole := rfl
  out := by decide

theorem sealedUnderHold_last : LastUnderHold sealedUnderHold 0 .seal sealedFrame 385 where
  hold := by decide +kernel
  alone := rfl
  last
    | .seal, h => absurd rfl h
    | .open, _ => rfl
  untagged := rfl
  whole := rfl
  out := by decide

/-- Refutes O10: an opened frame is not sent where it is the last that slice 0, held for a change of its clock, has in its egress
segments. Its port forms frames until then, as the statement asks, and none once the model has taken the frame out. -/
theorem not_lineFramesPass : ¬ Obligations.LineFramesPass := by
  intro h
  obtain ⟨-, -, -, -, -, -, hleave, -⟩ := h openedUnderHold 0
  obtain ⟨hsent, -⟩ := hleave openedFrame 97 rfl rfl rfl (by decide) (.inl rfl) (by decide +kernel) (by decide +kernel)
  rw [openEgress_last openedUnderHold_last rfl rfl] at hsent
  exact List.cons_ne_nil _ _ (List.self_eq_append_right.mp hsent)

/-- Refutes O11: so is a sealed frame not sent by its line port, though R20 and R31 have every frame in the segments go out. -/
theorem not_sealedFrameLeavesTheLine : ¬ Obligations.SealedFrameLeavesTheLine := by
  rintro ⟨-, hleave, -⟩
  obtain ⟨hsent, -⟩ := hleave sealedUnderHold 0 385 4 48 sealedFrame rfl (by decide +kernel) rfl rfl rfl rfl rfl (by decide) rfl
    (by decide +kernel) (by decide +kernel)
  rw [sealEgress_last_wire sealedUnderHold_last rfl rfl rfl rfl (by decide +kernel)] at hsent
  exact List.cons_ne_nil _ _ (List.self_eq_append_right.mp hsent)

end Sys2Proof.Machine
end

section
/-! The cues (chapter 07): the four operations of the cue window on a transmit cue (R237, R250), the time trigger (R224), the switch of the
association key (R228) and the end of a retire delay (R234). What the unit tells its peer of these reaches no cue and no association. -/

namespace Sys2Proof.Machine

variable {s t u : State} {c : Caller} {sl i : Nat}

/-! ### What is sent to the peer (R414, R427) -/

/-- `t` differs from `s` in the pair's own record and in what has left the block alone. -/
def OnlySent (s t : State) : Prop := ∃ p w, t = { s with pair := p, wire := w }

namespace OnlySent

theorem refl (s : State) : OnlySent s s := ⟨s.pair, s.wire, rfl⟩

theorem trans (h : OnlySent s t) (h' : OnlySent t u) : OnlySent s u := by
  obtain ⟨_, _, rfl⟩ := h
  obtain ⟨p, w, rfl⟩ := h'
  exact ⟨p, w, rfl⟩

theorem asc (h : OnlySent s t) : t.asc = s.asc := by obtain ⟨_, _, rfl⟩ := h; rfl
theorem cue (h : OnlySent s t) : t.cue = s.cue := by obtain ⟨_, _, rfl⟩ := h; rfl
theorem acc (h : OnlySent s t) : t.acc = s.acc := by obtain ⟨_, _, rfl⟩ := h; rfl
theorem ob (h : OnlySent s t) (ix sub : Nat) : t.ob ix sub = s.ob ix sub := by obtain ⟨_, _, rfl⟩ := h; rfl

end OnlySent

theorem tetherSend_sent (kind : Nat) (b : Bytes) (s : State) : OnlySent s (tetherSend kind b s) := by
  unfold tetherSend
  split
  · exact List.foldlRecOn (motive := OnlySent s) _ _ (.refl s) fun _ h _ _ => h.trans ⟨_, _, rfl⟩
  · exact .refl s

theorem mirror_sent (m : Mirror) (s : State) : OnlySent s (mirror m s) := by
  unfold mirror
  split
  · exact OnlySent.trans ⟨_, _, rfl⟩ (tetherSend_sent 9 _ (s.emit (.mirror m)))
  · exact .refl s

theorem cueSync_sent (sl : Nat) (records : Bytes) (s : State) : OnlySent s (cueSync sl records s) := by
  unfold cueSync
  split
  · exact tetherSend_sent ..
  · exact .refl s

/-! ### Cues and watches (R222, R232) -/

@[simp] theorem cueAt_putCue (sl i q : Nat) (s : State) : (s.putCue sl i q).cueAt sl i = q := mget_mset_self ..
@[simp] theorem acc_putCue (sl i q : Nat) (s : State) : (s.putCue sl i q).acc = s.acc := rfl
@[simp] theorem asc_putCue (sl i q : Nat) (s : State) : (s.putCue sl i q).asc = s.asc := rfl
@[simp] theorem fired_putCue (sl i q : Nat) (s : State) : (s.putCue sl i q).cue.fired = s.cue.fired := rfl
@[simp] theorem posted_putCue (sl i q : Nat) (s : State) : (s.putCue sl i q).cue.posted = s.cue.posted := rfl
@[simp] theorem ob_putCue (sl i q : Nat) (s : State) (ix sub : Nat) : (s.putCue sl i q).ob ix sub = s.ob ix sub := rfl
@[simp] theorem cueAt_addOb (ix sub w n sl i : Nat) (s : State) : (s.addOb ix sub w n).cueAt sl i = s.cueAt sl i := rfl

@[simp] theorem watchAt_putWatch (sl i w : Nat) (s : State) : (s.putWatch sl i w).watchAt sl i = w := mget_mset_self ..
@[simp] theorem watchAt_addOb (ix sub w n sl i : Nat) (s : State) : (s.addOb ix sub w n).watchAt sl i = s.watchAt sl i := rfl
@[simp] theorem watchAt_putSa (sl k e i : Nat) (s : State) : (s.putSa sl k e).watchAt sl i = s.watchAt sl i := rfl

theorem cueAt_congr (h : t.cue = s.cue) (sl i : Nat) : t.cueAt sl i = s.cueAt sl i := by rw [State.cueAt, h, State.cueAt]

theorem watchAt_congr (h : t.cue = s.cue) (sl i : Nat) : t.watchAt sl i = s.watchAt sl i := by
  rw [State.watchAt, h, State.watchAt]

/-! ### Associations beside them (R110) -/

section Associations
variable (sl i e : Nat) (s : State)

@[simp] theorem ob_putSa (ix sub : Nat) : (s.putSa sl i e).ob ix sub = s.ob ix sub := rfl
@[simp] theorem ob_putWatch (ix sub : Nat) : (s.putWatch sl i e).ob ix sub = s.ob ix sub := rfl
@[simp] theorem saAt_putWatch (k : Nat) : (s.putWatch sl i e).saAt sl k = s.saAt sl k := rfl
@[simp] theorem saValid_putWatch (k : Nat) : (s.putWatch sl i e).saValid sl k = s.saValid sl k := rfl
@[simp] theorem rxscAt_putWatch (k : Nat) : (s.putWatch sl i e).rxscAt sl k = s.rxscAt sl k := rfl
@[simp] theorem saAt_putTxsc (k : Nat) : (s.putTxsc sl i e).saAt sl k = s.saAt sl k := rfl
@[simp] theorem saAt_addOb (ix sub w n k : Nat) : (s.addOb ix sub w n).saAt sl k = s.saAt sl k := rfl

end Associations

theorem saAt_congr (h : t.asc = s.asc) (sl i : Nat) : t.saAt sl i = s.saAt sl i := by rw [State.saAt, h, State.saAt]

theorem saAt_putSa_ne {j k : Nat} (h : j ≠ k) (sl e : Nat) (s : State) : (s.putSa sl k e).saAt sl j = s.saAt sl j :=
  mget_mset_ne (by unfold skey; omega)

/-! A transmit cue that the window changes, and that is mirrored. -/

section Set
variable (sl i q : Nat) (s : State)

theorem setCue_tx_sent : OnlySent (s.putCue sl i q) (setCue 4 sl i q s) := mirror_sent ..

theorem setCue_acc : (setCue 4 sl i q s).acc = s.acc := (setCue_tx_sent ..).acc.trans (acc_putCue ..)

theorem setCue_cueAt : (setCue 4 sl i q s).cueAt sl i = q := (cueAt_congr (setCue_tx_sent ..).cue sl i).trans (cueAt_putCue ..)

theorem setCue_fired : (setCue 4 sl i q s).cue.fired = s.cue.fired := by rw [(setCue_tx_sent ..).cue, fired_putCue]

theorem setCue_posted : (setCue 4 sl i q s).cue.posted = s.cue.posted := by rw [(setCue_tx_sent ..).cue, posted_putCue]

theorem setCue_ob (ix sub : Nat) : (setCue 4 sl i q s).ob ix sub = s.ob ix sub := ((setCue_tx_sent ..).ob ..).trans (ob_putCue ..)

end Set

/-! A record of the cue log, and the event with it (R245). -/

section Reported
variable (sl kind code : Nat) (late byFire : Bool) (entry old new pn tag : Nat) (s : State)

theorem cueLog_acc : (cueLog sl kind late byFire entry old new pn tag s).2.acc = s.acc := rfl

theorem cueLog_cueAt (i : Nat) : (cueLog sl kind late byFire entry old new pn tag s).2.cueAt sl i = s.cueAt sl i := rfl

/-- The record takes the next sequence number. -/
theorem cueLog_head : (cueLog sl kind late byFire entry old new pn tag s).2.ob (cueIx sl) Sub.cue_LOG_HEAD =
    (s.ob (cueIx sl) Sub.cue_LOG_HEAD + 1) % 2 ^ 32 := State.ob_addOb_self ..

theorem cueReport_asc : (cueReport sl kind code late byFire entry old new pn tag s).asc = s.asc := State.raise_asc ..

theorem cueReport_cueAt (i : Nat) : (cueReport sl kind code late byFire entry old new pn tag s).cueAt sl i = s.cueAt sl i :=
  cueAt_congr (State.raise_cue ..) sl i

theorem cueReport_watchAt (i : Nat) : (cueReport sl kind code late byFire entry old new pn tag s).watchAt sl i = s.watchAt sl i :=
  watchAt_congr (State.raise_cue ..) sl i

theorem cueReport_ob {sub : Nat} (hsub : sub < 256) (hne : sub ≠ Sub.cue_LOG_HEAD) :
    (cueReport sl kind code late byFire entry old new pn tag s).ob (cueIx sl) sub = s.ob (cueIx sl) sub :=
  (State.ob_raise hsub (by simp only [cueIx, Ix.cue]; omega)).trans
    ((State.ob_put (by decide) hsub).trans (if_neg fun k => hne k.2))

end Reported

/-! ### The start of a cue-window operation (R250, R465) -/

/-- The cue window of a slice has taken the operation `code`. -/
def State.cwTaken (sl code : Nat) (s : State) : State := s.put (cwIx sl) Sub.cwWin_CW_OP code

theorem rowCw_posts {code : Nat} {act : State → State × Status} {stat : Status}
    (h : StartsIn s sl c (cwIx sl) Sub.cwWin_CW_OP Sub.cwWin_CW_STATUS code) (hact : act (s.cwTaken sl code) = (u, stat))
    (hacc : u.acc = s.acc) :
    PostedFrom u c (cwIx sl) Sub.cwWin_CW_OP Sub.cwWin_CW_STATUS stat (rowCw c sl code act s).post :=
  rowSlice_posts h (by simp only [cwIx, Ix.cue]; omega) (by decide) hact hacc

theorem PostedFrom.cue {ix op st : Nat} {stat : Status} (h : PostedFrom u c ix op st stat t) : t.cue = u.cue := by
  obtain ⟨d, a, ht⟩ := h.rest
  rw [ht]

/-- The cue controls are not the window's. -/
theorem PostedFrom.ob_cue {op st sub : Nat} {stat : Status} (h : PostedFrom u c (cwIx sl) op st stat t) (hst : st < 256)
    (hsub : sub < 256) : t.ob (cueIx sl) sub = u.ob (cueIx sl) sub := by
  rw [h.ob, State.ob_put hst hsub, if_neg (by simp only [cueIx, cwIx, Ix.cue]; omega)]

/-- The window names transmit cue `i`. -/
structure NamesTx (sl i : Nat) (s : State) : Prop where
  table : s.cwTable sl = 0
  index : s.cwIndex sl = i
  inTable : i < 2048

theorem cueAt_cwTaken (sl code i : Nat) (s : State) : (s.cwTaken sl code).cueAt sl i = s.cueAt sl i := rfl

theorem ob_cwTaken (sl code : Nat) (s : State) {ix sub : Nat} (hsub : sub < 256) (hne : sub ≠ Sub.cwWin_CW_OP) :
    (s.cwTaken sl code).ob ix sub = s.ob ix sub := (State.ob_put (by decide) hsub).trans (if_neg fun k => hne k.2)

/-- What the window names does not hang on its code. -/
theorem NamesTx.taken (h : NamesTx sl i s) (code : Nat) : NamesTx sl i (s.cwTaken sl code) where
  table := (ob_cwTaken sl code s (by decide) (by decide)).trans h.table
  index := (ob_cwTaken sl code s (by decide) (by decide)).trans h.index
  inTable := h.inTable

/-! ### The four operations on a transmit cue (R237) -/

/-- The image that the window holds for an ARM. -/
def State.cwImage (s : State) (sl : Nat) : Nat := fld (s.oct (cwIx sl) Sub.cwWin_CW_DATA) 0 20

theorem cwRead_tx (h : NamesTx sl i s) :
    cwRead sl s = (s.putO (cwIx sl) Sub.cwWin_CW_DATA (padTo 32 (be 20 (s.cueAt sl i))), .ok) := by
  simp [cwRead, cwIn, h.table, h.index, h.inTable]

theorem cwArm_tx (h : NamesTx sl i s) : cwArm sl s = armTx sl i (s.cwImage sl) s := by
  simp [cwArm, cwIn, h.table, h.index, h.inTable, State.cwImage]

theorem cwCancel_tx (h : NamesTx sl i s) : cwCancel sl s = cancelTx sl i s := by
  simp [cwCancel, cwIn, h.table, h.index, h.inTable]

theorem cwFire_tx (h : NamesTx sl i s) : cwFire sl s = fireTx sl i s := by
  simp [cwFire, cwIn, h.table, h.index, h.inTable]

/-- The image of a cue that an ARM has armed: R222's own fields of the caller's image are not taken. -/
abbrev Cue.armed (img : Nat) : Nat := setBits (setBits (Cue.setState img 1) 152 150 0) 149 128 0

/-- An ARM with no trigger but the command: the cue is armed and its flags are clear. -/
theorem armTx_command {img : Nat} (hidle : ¬ (Cue.state (s.cueAt sl i) = 1 ∨ Cue.state (s.cueAt sl i) = 2))
    (hsecy : (s.secyAt sl i).isSome = true) (htrig : Cue.trigger img = 0)
    (hnext : Cue.nextAn img ≠ Txsc.encodingAn (s.txscAt sl i)) :
    armTx sl i img s = (setCue 4 sl i (Cue.armed img) (s.clearFlags (cueFlag sl false i)), .ok) := by
  have hrange : ¬ ((s.secyAt sl i).isNone = true ∨ Cue.trigger img = 3 ∨ Cue.nextAn img = Txsc.encodingAn (s.txscAt sl i)) := by
    rintro (h | h | h)
    · rw [Option.isNone_iff_eq_none.mp h] at hsecy; cases hsecy
    · omega
    · exact hnext h
  rw [armTx, if_neg hidle, if_neg hrange, htrig]
  rfl

/-! A cue that is armed or pending. -/

section Active
variable {q : Nat} (he : s.cueAt sl i = q) (h : Cue.state q = 1 ∨ Cue.state q = 2)
include he h

theorem armTx_busy (img : Nat) : armTx sl i img s = (s, .busy) := if_pos (he ▸ h)

theorem cancelTx_active : cancelTx sl i s =
    ((cueLog sl 3 (Cue.late q) (s.cue.fired.contains (cueFlag sl false i)) i (Txsc.encodingAn (s.txscAt sl i))
      (Cue.nextAn q) 0 (Cue.tag q) (setCue 4 sl i (Cue.setState q 5) s)).2, .ok) := by
  rw [cancelTx, he, if_pos h]

theorem fireTx_active : fireTx sl i s = (setCue 4 sl i (Cue.setState q 2) (s.markFired (cueFlag sl false i)), .ok) := by
  rw [fireTx, he, if_pos h]

end Active

theorem not_mem_posted_clearFlags (k : Nat) (s : State) : k ∉ (s.clearFlags k).cue.posted := by simp [State.clearFlags]

theorem not_mem_fired_clearFlags (k : Nat) (s : State) : k ∉ (s.clearFlags k).cue.fired := by simp [State.clearFlags]

theorem markFired_acc (k : Nat) (s : State) : (s.markFired k).acc = s.acc := by
  unfold State.markFired; split <;> rfl

theorem mem_fired_markFired (k : Nat) (s : State) : k ∈ (s.markFired k).cue.fired := by
  unfold State.markFired
  split
  case isTrue h => exact List.contains_iff_mem.mp h
  case isFalse => simp

/-! ### The triggers and the switch (R224, R228) -/

/-- The trigger of an armed cue whose next SA is ready holds: the cue is pending, and no more. -/
theorem cueTrigger_ready (hq : Cue.state (s.cueAt sl i) = 1)
    (hr : (s.putCue sl i (Cue.setState (s.cueAt sl i) 2)).cueReady sl i = true) :
    cueTrigger sl i s = s.putCue sl i (Cue.setState (s.cueAt sl i) 2) := by
  simp only [cueTrigger, hq, if_true, cueTest, hr, Bool.not_true, Bool.false_eq_true, and_false, if_false]

theorem cueTimeTrigger_reached (hq : Cue.state (s.cueAt sl i) = 1) (ht : Cue.trigger (s.cueAt sl i) = 2)
    (hr : reached s.ns (Cue.time (s.cueAt sl i)) = true) (hs : s.shadow = false) (hruns : s.sliceRuns sl = true) :
    cueTimeTrigger sl false i s = cueTrigger sl i s := by
  simp [cueTimeTrigger, hq, ht, hr, hs, hruns]

theorem cueOrder_single (h : s.cuesOf sl = [i]) : s.cueOrder sl = [i] := by
  simp only [State.cueOrder, h]
  cases hpn : Cue.trigger (s.cueAt sl i) == 1 <;> simp [hpn]

section Place
variable (sl place i : Nat) (s : State)

@[simp] theorem cueAt_takeCommit : (s.takeCommit sl place).cueAt sl i = s.cueAt sl i := rfl
@[simp] theorem txscAt_takeCommit : (s.takeCommit sl place).txscAt sl i = s.txscAt sl i := rfl
@[simp] theorem saAt_takeCommit : (s.takeCommit sl place).saAt sl i = s.saAt sl i := rfl
@[simp] theorem saValid_takeCommit : (s.takeCommit sl place).saValid sl i = s.saValid sl i := rfl

end Place

/-- The core cycle that is number `j` of the present period. -/
def State.cycleOf (s : State) (sl j : Nat) : Nat := s.cyc sl + j % cyclesPer8 (s.pointOf sl)

/-- The only cue of a slice is pending and its next SA is ready: it switches where the cycle has a commit free (R229). -/
theorem cueCycle_single (hs : s.shadow = false) (hruns : s.sliceRuns sl = true) (honly : s.cuesOf sl = [i])
    (hq : Cue.state (s.cueAt sl i) = 2) (hr : s.cueReady sl i = true) (j : Nat) :
    cueCycle sl j s = if s.commitsIn sl (s.cycleOf sl j) < 4 then cueCommit sl i (s.takeCommit sl (s.cycleOf sl j)) else s := by
  unfold State.cycleOf
  simp [cueCycle, hs, hruns, cueOrder_single honly, hq, hr]

/-- The valid SA that a transmit SC seals under. -/
def State.sealingSa (s : State) (sl i : Nat) : Option Nat :=
  (txSlot (s.txscAt sl i) (Txsc.encodingAn (s.txscAt sl i))).filter (fun k => s.saValid sl k)

/-- The SA that a transmit cue names next. -/
def State.nextSa (s : State) (sl i : Nat) : Nat := Txsc.slot (s.txscAt sl i) (Cue.nextAn (s.cueAt sl i)) % 2 ^ 14

/-- The valid SA that a transmit SC sealed under, if any, is out of use. -/
def State.oldOut (sl i : Nat) (s : State) : State :=
  match s.sealingSa sl i with
  | some k => s.putSa sl k (setInUse (s.saAt sl k) false)
  | none => s

/-- The associations once a transmit cue has switched the key: the old SA is out of use, the new one in use, and the SC seals under it
(R228). -/
def State.keySwitched (sl i : Nat) (s : State) : State :=
  ((s.oldOut sl i).putSa sl (s.nextSa sl i) (setInUse ((s.oldOut sl i).saAt sl (s.nextSa sl i)) true)).putTxsc sl i
    (setBits (s.txscAt sl i) 67 66 (Cue.nextAn (s.cueAt sl i)))

/-- What else a commit does reaches no association. -/
theorem cueCommit_asc (sl i : Nat) (s : State) : (cueCommit sl i s).asc = (s.keySwitched sl i).asc := by
  unfold cueCommit
  dsimp only
  rw [(cueSync_sent ..).asc, cueReport_asc, State.addOb_asc, State.keySwitched, State.oldOut, ← State.sealingSa]
  cases s.sealingSa sl i with
  | none => rfl
  | some k =>
    dsimp only [Option.bind]
    split <;> rfl

section Switch
variable {q sc new k : Nat} (he : s.cueAt sl i = q) (hsc : s.txscAt sl i = sc)
include he hsc

theorem cueCommit_cueAt :
    (cueCommit sl i s).cueAt sl i = setBits (Cue.setState q 4) 152 151 (Txsc.encodingAn sc) := by
  subst he hsc
  unfold cueCommit
  dsimp only
  rw [cueAt_congr (cueSync_sent ..).cue, cueReport_cueAt, cueAt_addOb, cueAt_putCue]

theorem cueCommit_txscAt : (cueCommit sl i s).txscAt sl i = setBits sc 67 66 (Cue.nextAn q) := by
  rw [txscAt_congr (cueCommit_asc sl i s), State.keySwitched, txscAt_putTxsc, he, hsc]

variable (hnew : Txsc.slot sc (Cue.nextAn q) % 2 ^ 14 = new) (hne : txSlot sc (Txsc.encodingAn sc) ≠ some new)
include hnew hne

theorem cueCommit_saAt_next : (cueCommit sl i s).saAt sl new = setInUse (s.saAt sl new) true := by
  have hnext : s.nextSa sl i = new := by rw [State.nextSa, hsc, he, hnew]
  have hold : (s.oldOut sl i).saAt sl new = s.saAt sl new := by
    unfold State.oldOut
    split
    case h_1 k hk =>
      rw [State.sealingSa, hsc, Option.filter_eq_some_iff] at hk
      exact saAt_putSa_ne (fun h => hne (hk.1.trans (congrArg some h.symm))) ..
    case h_2 => rfl
  rw [saAt_congr (cueCommit_asc sl i s), State.keySwitched, saAt_putTxsc, hnext, saAt_putSa, hold]

theorem cueCommit_saAt_old (hk : txSlot sc (Txsc.encodingAn sc) = some k) (hv : s.saValid sl k = true) :
    (cueCommit sl i s).saAt sl k = setInUse (s.saAt sl k) false := by
  have hnext : k ≠ s.nextSa sl i := by
    rw [State.nextSa, hsc, he, hnew]
    exact fun h => hne (h ▸ hk)
  have hold : s.sealingSa sl i = some k := by rw [State.sealingSa, hsc, hk, Option.filter_some, if_pos hv]
  have hout : s.oldOut sl i = s.putSa sl k (setInUse (s.saAt sl k) false) := by simp only [State.oldOut, hold]
  rw [saAt_congr (cueCommit_asc sl i s), State.keySwitched, saAt_putTxsc, saAt_putSa_ne hnext, hout, saAt_putSa]

end Switch

/-! ### The end of a retire delay (R234) -/

/-- A watch has returned to idle and the SA that it retires is out of use. -/
def State.retired (sl i k : Nat) (s : State) : State :=
  ((s.putWatch sl i (Watch.setState (s.watchAt sl i) 0)).putSa sl k (setInUse (s.saAt sl k) false)).addOb
    (cueIx sl) Sub.cue_RX_RETIRED 32 1

theorem watchRetire_valid {k : Nat} (hk : rxSlot (s.rxscAt sl i) (Watch.oldAn (s.watchAt sl i)) = some k)
    (hv : s.saValid sl k = true) (byFire : Bool) :
    watchRetire sl i byFire s = cueReport sl 5 0x0603 false byFire i (Watch.oldAn (s.watchAt sl i)) (Watch.newAn (s.watchAt sl i)) 0
      (Watch.tag (s.watchAt sl i)) (s.retired sl i k) := by
  have hold : ∀ w, (rxSlot ((s.putWatch sl i w).rxscAt sl i) (Watch.oldAn (s.watchAt sl i))).filter
      (fun k => (s.putWatch sl i w).saValid sl k) = some k := fun w => by
    rw [rxscAt_putWatch, hk, Option.filter_some, saValid_putWatch, if_pos hv]
  rw [watchRetire, hold, State.retired]
  dsimp only
  rw [saAt_putWatch]

theorem retired_watchAt (sl i k : Nat) (s : State) : (s.retired sl i k).watchAt sl i = Watch.setState (s.watchAt sl i) 0 := by
  rw [State.retired, watchAt_addOb, watchAt_putSa, watchAt_putWatch]

theorem retired_saAt (sl i k : Nat) (s : State) : (s.retired sl i k).saAt sl k = setInUse (s.saAt sl k) false := by
  rw [State.retired, saAt_addOb, saAt_putSa]

theorem retired_count (sl i k : Nat) (s : State) : (s.retired sl i k).ob (cueIx sl) Sub.cue_RX_RETIRED =
    (s.ob (cueIx sl) Sub.cue_RX_RETIRED + 1) % 2 ^ 32 := by
  rw [State.retired, State.ob_addOb_self, ob_putSa, ob_putWatch]

theorem retireDelayEnd_due (hw : Watch.state (s.watchAt sl i) = 2)
    (h : s.past (Timer.retire sl i) (1000000 * s.retireMs sl i) = true) : retireDelayEnd sl i s = watchRetire sl i false s := by
  rw [retireDelayEnd, if_pos ⟨hw, h⟩]

theorem retireDelayEnd_early (h : s.past (Timer.retire sl i) (1000000 * s.retireMs sl i) = false) : retireDelayEnd sl i s = s := by
  simp [retireDelayEnd, h]

/-- Settles O13: each clause is one operation of the window on a transmit cue, or one event of the cue engine. The statement has the
window's operations for transmit cues alone. -/
theorem cuesSwitchKeys : Obligations.CuesSwitchKeys := by
  refine ⟨fun s c sl i => ⟨fun h ht hx hi => ?read, fun img h ht hx hi himg harmed hpending hsecy htrig hnext => ?arm,
    fun h ht hx hi hq => ?busy, fun h ht hx hi hq => ?cancel, fun h ht hx hi hq => ?fire⟩,
    fun s sl i => ⟨fun q he hq ht hr hs hruns hready => ?time,
      fun j q sc new hs hruns honly he hq hready hfree hsc hnew hne => ?switch,
      fun j hs hruns honly hq hready hfull => ?full, fun w k hw hq hk hv hp => ?retire, fun hp => ?early⟩⟩
  case read =>
    have hpost := rowCw_posts h (cwRead_tx (NamesTx.taken ⟨ht, hx, hi⟩ 1)) rfl
    exact ⟨_, rfl, (hpost.oct ..).trans (State.oct_putO_self ..), hpost.cue, hpost.ends⟩
  case arm =>
    subst himg
    have hact := (cwArm_tx (NamesTx.taken ⟨ht, hx, hi⟩ 2)).trans
      (armTx_command (not_or.mpr ⟨harmed, hpending⟩) hsecy htrig hnext)
    have hpost := rowCw_posts h hact (setCue_acc ..)
    refine ⟨_, rfl, (cueAt_congr hpost.cue sl i).trans (setCue_cueAt ..), ?_, ?_, hpost.ends⟩
    · rw [hpost.cue, setCue_posted]
      exact not_mem_posted_clearFlags _ _
    · rw [hpost.cue, setCue_fired]
      exact not_mem_fired_clearFlags _ _
  case busy =>
    have hact := (cwArm_tx (NamesTx.taken ⟨ht, hx, hi⟩ 2)).trans (armTx_busy (cueAt_cwTaken ..) hq _)
    have hpost := rowCw_posts h hact rfl
    exact ⟨_, rfl, hpost.cue, hpost.ends⟩
  case cancel =>
    have hact := (cwCancel_tx (NamesTx.taken ⟨ht, hx, hi⟩ 3)).trans (cancelTx_active (cueAt_cwTaken ..) hq)
    have hpost := rowCw_posts h hact ((cueLog_acc ..).trans (setCue_acc ..))
    refine ⟨_, rfl, ?_, ?_, hpost.ends⟩
    · rw [cueAt_congr hpost.cue, cueLog_cueAt, setCue_cueAt]
    · rw [hpost.ob_cue (by decide) (by decide), cueLog_head, setCue_ob, ob_cwTaken sl 3 s (by decide) (by decide)]
  case fire =>
    have hact := (cwFire_tx (NamesTx.taken ⟨ht, hx, hi⟩ 4)).trans (fireTx_active (cueAt_cwTaken ..) hq)
    have hpost := rowCw_posts h hact ((setCue_acc ..).trans (markFired_acc ..))
    refine ⟨_, rfl, (cueAt_congr hpost.cue sl i).trans (setCue_cueAt ..), ?_, hpost.ends⟩
    rw [hpost.cue, setCue_fired]
    exact mem_fired_markFired ..
  case time =>
    subst he
    have htrigger := (cueTimeTrigger_reached hq ht hr hs hruns).trans (cueTrigger_ready hq hready)
    exact ⟨_, congrArg Host.Outcome.next htrigger, cueAt_putCue .., asc_putCue ..⟩
  case switch =>
    have hcycle := (cueCycle_single hs hruns honly (he ▸ hq) hready j).trans (if_pos hfree)
    have he := (cueAt_takeCommit sl (s.cycleOf sl j) i s).trans he
    have hsc := (txscAt_takeCommit sl (s.cycleOf sl j) i s).trans hsc
    refine ⟨_, congrArg Host.Outcome.next hcycle, cueCommit_txscAt he hsc, ?_, fun k hk hv => ?_, cueCommit_cueAt he hsc⟩
    · rw [cueCommit_saAt_next he hsc hnew hne, saAt_takeCommit]
    · rw [cueCommit_saAt_old he hsc hnew hne hk ((saValid_takeCommit ..).trans hv), saAt_takeCommit]
  case full => exact congrArg Host.Outcome.next ((cueCycle_single hs hruns honly hq hready j).trans (if_neg (Nat.not_lt.mpr hfull)))
  case retire =>
    subst hw
    have hend := (retireDelayEnd_due hq hp).trans (watchRetire_valid hk hv false)
    refine ⟨_, congrArg Host.Outcome.next hend, (cueReport_watchAt ..).trans (retired_watchAt ..), ?_, ?_⟩
    · exact (saAt_congr (cueReport_asc ..) sl k).trans (retired_saAt ..)
    · exact (cueReport_ob _ _ _ _ _ _ _ _ _ _ _ (by decide) (by decide)).trans (retired_count ..)
  case early => exact congrArg Host.Outcome.next (retireDelayEnd_early hp)

end Sys2Proof.Machine
end

section
/-! The defects of the OTN line side (chapter 08): what noting a defect and its consequent actions do, and all that they leave alone
(R259, R260). -/

namespace Sys2Proof.Machine

variable {s t u : State} {sl : Nat}

theorem setBit_eq (n i : Nat) (v : Bool) : setBit n i v = 2 ^ i * (2 * (n / 2 ^ (i + 1)) + v.toNat) + n % 2 ^ i := by
  have hv : v.toNat % 2 ^ (i + 1 - i) = v.toNat := by rw [Nat.add_sub_cancel_left]; cases v <;> rfl
  rw [setBit, setBits, hv, Nat.pow_succ]
  ring

/-- A bit after another bit, or the same, has been set. -/
theorem bit_setBit (n i j : Nat) (v : Bool) : bit (setBit n i v) j = if j = i then v else bit n j := by
  rw [setBit_eq, bit, bit, Nat.testBit_two_pow_mul_add _ (Nat.mod_lt _ (Nat.two_pow_pos i))]
  rcases Nat.lt_trichotomy j i with h | rfl | h
  · rw [if_pos h, if_neg h.ne, Nat.testBit_mod_two_pow, decide_eq_true h, Bool.true_and]
  · cases v <;> simp
  · obtain ⟨k, rfl⟩ := Nat.exists_eq_add_of_lt h
    have hhalf : (2 * (n / 2 ^ (i + 1)) + v.toNat) / 2 = n / 2 ^ (i + 1) := by have := v.toNat_lt; omega
    rw [if_neg (by omega), if_neg (by omega), show i + k + 1 - i = k + 1 by omega, Nat.testBit_succ, hhalf,
      Nat.testBit_div_two_pow]
    congr 1; omega

/-- A bit that a number shares with a mask. -/
theorem and_ne_zero_of_bit {n m i : Nat} (hn : bit n i = true) (hm : bit m i = true) : n &&& m ≠ 0 := fun h => by
  have : (n &&& m).testBit i = true := by rw [Nat.testBit_and, ← bit, hn, ← bit, hm]; rfl
  rw [h, Nat.zero_testBit] at this
  cases this

/-! ### What reporting defects leaves alone (R259, R260) -/

/-- From `s` to `t`, `DEFECTS` has moved at indexes of `P` alone, and the moves have been counted and reported: events may have been
raised, and something may have gone out. -/
structure DefectsMoved (P : Nat → Prop) (s t : State) : Prop where
  rest : ∃ d p a f w, t = { s with dict := d, otn := { s.otn with pm := p }, acc := a, free := f, wire := s.wire ++ w }
  due : t.due = s.due
  oct : ∀ ix sub, t.oct ix sub = s.oct ix sub
  ob : ∀ ix sub, sub < 256 → ix ≠ 0x0300 → ¬ (P ix ∧ sub = Sub.otn_DEFECTS) → t.ob ix sub = s.ob ix sub

namespace DefectsMoved
variable {P Q : Nat → Prop}

theorem refl (P : Nat → Prop) (s : State) : DefectsMoved P s s where
  rest := ⟨s.dict, s.otn.pm, s.acc, s.free, [], by rw [List.append_nil]⟩
  due := rfl
  oct _ _ := rfl
  ob _ _ _ _ _ := rfl

theorem trans (h : DefectsMoved P s t) (h' : DefectsMoved P t u) : DefectsMoved P s u where
  rest := by
    obtain ⟨_, _, _, _, w, rfl⟩ := h.rest
    obtain ⟨d, p, a, f, w', rfl⟩ := h'.rest
    exact ⟨d, p, a, f, w ++ w', by rw [List.append_assoc]⟩
  due := h'.due.trans h.due
  oct ix sub := (h'.oct ix sub).trans (h.oct ix sub)
  ob ix sub hsub hix hne := (h'.ob ix sub hsub hix hne).trans (h.ob ix sub hsub hix hne)

theorem mono (h : DefectsMoved P s t) (hpq : ∀ ix, P ix → Q ix) : DefectsMoved Q s t :=
  { h with ob := fun ix sub hsub hix hne => h.ob ix sub hsub hix fun k => hne ⟨hpq ix k.1, k.2⟩ }

theorem foldl {β : Type} {f : State → β → State} {l : List β} (h : ∀ u, ∀ b ∈ l, DefectsMoved P u (f u b)) (s : State) :
    DefectsMoved P s (l.foldl f s) :=
  List.foldlRecOn (motive := DefectsMoved P s) l f (refl P s) fun u hu b hb => hu.trans (h u b hb)

/-- Any object but a `DEFECTS` stays. -/
theorem ob_ne (h : DefectsMoved P s t) {ix sub : Nat} (hsub : sub < 256) (hix : ix ≠ 0x0300) (hne : sub ≠ Sub.otn_DEFECTS) :
    t.ob ix sub = s.ob ix sub := h.ob ix sub hsub hix fun k => hne k.2

theorem wire (h : DefectsMoved P s t) : ∃ w, t.wire = s.wire ++ w := by
  obtain ⟨_, _, _, _, w, rfl⟩ := h.rest
  exact ⟨w, rfl⟩

theorem cnt (h : DefectsMoved P s t) : t.cnt = s.cnt := by obtain ⟨_, _, _, _, _, rfl⟩ := h.rest; rfl
theorem locked (h : DefectsMoved P s t) : t.otn.locked = s.otn.locked := by obtain ⟨_, _, _, _, _, rfl⟩ := h.rest; rfl
theorem cmWait (h : DefectsMoved P s t) : t.otn.cmWait = s.otn.cmWait := by obtain ⟨_, _, _, _, _, rfl⟩ := h.rest; rfl
theorem rxAt (h : DefectsMoved P s t) (k : Nat) : t.rxAt sl k = s.rxAt sl k := by obtain ⟨_, _, _, _, _, rfl⟩ := h.rest; rfl

end DefectsMoved

theorem emit_moves (P : Nat → Prop) (e : Emission) (s : State) : DefectsMoved P s (s.emit e) :=
  { DefectsMoved.refl P s with rest := ⟨s.dict, s.otn.pm, s.acc, s.free, [e], rfl⟩ }

theorem raise_moves (P : Nat → Prop) (code slice : Nat) (items : Bytes) (s : State) :
    DefectsMoved P s (s.raise code slice items) where
  rest := by
    obtain ⟨d, a, h⟩ := raise_only code slice items s
    exact ⟨d, s.otn.pm, a, s.free, [], by rw [h, List.append_nil]⟩
  due := due_of_tables (raise_tables ..)
  oct _ _ := State.oct_raise ..
  ob _ _ hsub hix _ := State.ob_raise hsub hix

theorem pmAdd_moves (P : Nat → Prop) (sl k n : Nat) (s : State) : DefectsMoved P s (s.pmAdd sl k n) :=
  { DefectsMoved.refl P s with rest := ⟨s.dict, _, s.acc, s.free, [], by rw [List.append_nil]; rfl⟩ }

theorem putDefects_moves (ix v : Nat) (s : State) : DefectsMoved (· = ix) s (s.put ix Sub.otn_DEFECTS v) where
  rest := ⟨_, s.otn.pm, s.acc, s.free, [], by rw [List.append_nil]; rfl⟩
  due := rfl
  oct _ _ := rfl
  ob _ _ hsub _ hne := (State.ob_put (by decide) hsub).trans (if_neg hne)

/-! ### A defect is noted (R260, R263) -/

/-- The index whose `DEFECTS` tells of a tributary, or of the whole group. -/
def defectIx (sl : Nat) : Option Nat → Nat
  | some k => tribIx sl k
  | none => otnIx sl

theorem defectIx_inj {x y : Option Nat} (h : defectIx sl x = defectIx sl y) : x = y := by
  cases x <;> cases y <;> simp only [defectIx, otnIx, tribIx, Ix.otn, Option.some.injEq, reduceCtorEq] at h ⊢ <;> omega

theorem defectIx_ne (sl : Nat) (x : Option Nat) : defectIx sl x ≠ 0x0300 := by
  cases x <;> simp only [defectIx, otnIx, tribIx, Ix.otn] <;> omega

/-- A defect of a tributary, or of the whole group, stands. -/
def State.defect (s : State) (sl : Nat) (x : Option Nat) (b : Nat) : Bool := bit (s.ob (defectIx sl x) Sub.otn_DEFECTS) b

/-- A `DEFECTS` apart from those that move stays. -/
theorem DefectsMoved.defect {P : Nat → Prop} (h : DefectsMoved P s t) {x : Option Nat} (hx : ¬ P (defectIx sl x)) (b : Nat) :
    t.defect sl x b = s.defect sl x b := by
  rw [State.defect, h.ob _ _ (by decide) (defectIx_ne sl x) fun k => hx k.1, State.defect]

/-- A bit of a `DEFECTS` takes its value, its defect second is counted, and `OTN_DEFECT` is raised for `place`. -/
def State.defectTaken (sl : Nat) (x : Option Nat) (b place : Nat) (on : Bool) (s : State) : State :=
  ((s.put (defectIx sl x) Sub.otn_DEFECTS (setBit (s.ob (defectIx sl x) Sub.otn_DEFECTS) b on)).pmAdd sl
    (defectSecond x b) 1).raise 0x0701 sl (be 1 b ++ be 1 place ++ be 1 on.toNat)

/-- A defect is noted where it is not so already; `OTN_DEFECT` names its place, which is a free value for a defect of the whole
group (log 3). -/
theorem noteDefect_eq (sl : Nat) (x : Option Nat) (b : Nat) (on : Bool) (s : State) :
    ∃ place f, noteDefect sl x b on s = if s.defect sl x b = on then s else { s with free := f }.defectTaken sl x b place on := by
  cases x with
  | some k => exact ⟨k, s.free, rfl⟩
  | none =>
    by_cases hb : 8 ≤ b
    · exact ⟨b % 8, s.free, by rw [noteDefect]; exact if_pos hb⟩
    · refine ⟨s.takeFree.1 % 256, s.free + 1, ?_⟩
      by_cases hon : s.sliceDefect sl b = on
      · simp only [noteDefect, if_neg hb, if_pos hon]; exact (if_pos hon).symm
      · simp only [noteDefect, if_neg hb, if_neg hon]; exact (if_neg hon).trans (if_neg hon).symm

theorem defectTaken_moves (sl : Nat) (x : Option Nat) (b place : Nat) (on : Bool) (s : State) :
    DefectsMoved (· = defectIx sl x) s (s.defectTaken sl x b place on) :=
  ((putDefects_moves ..).trans (pmAdd_moves ..)).trans (raise_moves ..)

theorem takeFree_moves (P : Nat → Prop) (f : Nat) (s : State) : DefectsMoved P s { s with free := f } :=
  { DefectsMoved.refl P s with rest := ⟨s.dict, s.otn.pm, s.acc, f, [], by rw [List.append_nil]⟩ }

theorem noteDefect_moves (sl : Nat) (x : Option Nat) (b : Nat) (on : Bool) (s : State) :
    DefectsMoved (· = defectIx sl x) s (noteDefect sl x b on s) := by
  obtain ⟨place, f, h⟩ := noteDefect_eq sl x b on s
  rw [h]
  split
  · exact .refl ..
  · exact (takeFree_moves _ f s).trans (defectTaken_moves ..)

theorem noteDefect_defect (sl : Nat) (x : Option Nat) (b c : Nat) (on : Bool) (s : State) :
    (noteDefect sl x b on s).defect sl x c = if c = b then on else s.defect sl x c := by
  obtain ⟨place, f, h⟩ := noteDefect_eq sl x b on s
  rw [h]
  split
  case isTrue hon =>
    split
    case isTrue hc => rw [hc, hon]
    case isFalse => rfl
  case isFalse =>
    rw [State.defect, State.defectTaken, State.ob_raise (by decide) (defectIx_ne sl x)]
    exact (congrArg (bit · c) (State.ob_put_self ..)).trans (bit_setBit ..)

/-! ### Consequent actions (R259, R260) -/

theorem emitFills_moves (P : Nat → Prop) (l : List Nat) (s : State) : DefectsMoved P s (l.foldl (fun u c => u.emitFill c) s) :=
  .foldl (fun _ _ _ => emit_moves ..) s

/-- TSF takes the value that the standing defects give, and no other bit of a tributary's `DEFECTS` moves. -/
theorem tsfUpdate_moves (sl k : Nat) (s : State) : DefectsMoved (· = tribIx sl k) s (tsfUpdate sl k s) := by
  unfold tsfUpdate
  dsimp only
  split
  · exact .refl ..
  · exact ((putDefects_moves ..).trans (emit_moves ..)).trans (emitFills_moves ..)

theorem tsfUpdate_defect (sl k c : Nat) (s : State) :
    (tsfUpdate sl k s).tribDefect sl k c = if c = 9 then s.tsfHolds sl k else s.tribDefect sl k c := by
  unfold tsfUpdate
  dsimp only
  split
  case isTrue h =>
    split
    case isTrue hc => rw [hc, ← h]; rfl
    case isFalse => rfl
  case isFalse =>
    exact ((emitFills_moves (fun _ => False) _ _).defect (x := some k) not_false c).trans
      ((congrArg (bit · c) (State.ob_put_self ..)).trans (bit_setBit ..))

theorem setTribDefect_moves (sl k b : Nat) (on : Bool) (s : State) :
    DefectsMoved (· = tribIx sl k) s (setTribDefect sl k b on s) :=
  (noteDefect_moves sl (some k) b on s).trans (tsfUpdate_moves ..)

/-- A defect of a tributary that has been set, TSF (bit 9) apart. -/
theorem setTribDefect_self {b : Nat} (hb : b ≠ 9) (sl k : Nat) (on : Bool) (s : State) :
    (setTribDefect sl k b on s).tribDefect sl k b = on := by
  rw [setTribDefect, tsfUpdate_defect, if_neg hb]
  exact (noteDefect_defect sl (some k) b b on s).trans (if_pos rfl)

/-- A declared LOF-T or LOM-T is among the defects that make TSF (R259). -/
theorem setTribDefect_tsf {b : Nat} (hb : bit 0x1E7 b = true) (sl k : Nat) (s : State) :
    (setTribDefect sl k b true s).tsf sl k = true := by
  have hset : (noteDefect sl (some k) b true s).tribDefect sl k b = true :=
    (noteDefect_defect sl (some k) b b true s).trans (if_pos rfl)
  have hmask := and_ne_zero_of_bit hset hb
  refine (tsfUpdate_defect sl k 9 _).trans ?_
  simp [State.tsfHolds, hmask]

theorem bdiReport_moves (P : Nat → Prop) (sl level : Nat) (old : Bool) (s : State) :
    DefectsMoved P s (bdiReport sl level old s) := by
  unfold bdiReport
  split
  · exact .refl ..
  · exact emit_moves ..

/-- An index of a tributary of the slice. -/
def IsTribIx (sl ix : Nat) : Prop := ∃ k, ix = tribIx sl k

/-- An index of the slice's controls or of one of its tributaries. -/
def HasDefects (sl ix : Nat) : Prop := ∃ x, ix = defectIx sl x

theorem otnIx_not_isTribIx (sl : Nat) : ¬ IsTribIx sl (otnIx sl) := by
  rintro ⟨k, h⟩
  exact absurd (defectIx_inj (x := none) (y := some k) h) (by simp)

theorem insertAis_moves (sl : Nat) (s : State) : DefectsMoved (IsTribIx sl) s (insertAis sl s) :=
  .foldl (fun _ k _ => (setTribDefect_moves ..).mono fun _ h => ⟨k, h⟩) s

/-- Every tributary of the list gets AIS-T. -/
theorem aisFold_defect {k : Nat} {l : List Nat} (hk : k ∈ l) (s : State) :
    (l.foldl (fun t j => setTribDefect sl j 2 true t) s).tribDefect sl k 2 = true := by
  induction l using List.reverseRecOn with
  | nil => cases hk
  | append_singleton l j ih =>
    rw [List.foldl_append, List.foldl_cons, List.foldl_nil]
    rcases eq_or_ne k j with rfl | hne
    · exact setTribDefect_self (by decide) ..
    · have hl : k ∈ l := by simpa [hne] using hk
      refine ((setTribDefect_moves ..).defect (x := some k) (fun h => hne ?_) 2).trans (ih hl)
      exact Option.some_inj.mp (defectIx_inj (x := some k) (y := some j) h)

theorem insertAis_defect {k : Nat} (hk : k < 8) (hon : s.tribOn sl k = true) (h : s.groupAis sl = true) :
    (insertAis sl s).tribDefect sl k 2 = true :=
  aisFold_defect (by simp [State.tribsOn, State.aisInserted, hk, hon, h]) s

theorem setSliceDefect_moves (sl b : Nat) (on : Bool) (s : State) : DefectsMoved (HasDefects sl) s (setSliceDefect sl b on s) :=
  ((((noteDefect_moves sl none b on s).mono fun _ h => ⟨none, h⟩).trans (bdiReport_moves ..)).trans (bdiReport_moves ..)).trans
    ((insertAis_moves ..).mono fun _ ⟨k, h⟩ => ⟨some k, h⟩)

/-- The state in which a slice defect has been noted and the BDI that follow it have been reported. -/
def State.sliceNoted (sl b : Nat) (on : Bool) (s : State) : State :=
  bdiReport sl 1 (s.bdiSent sl 1) (bdiReport sl 0 (s.bdiSent sl 0) (noteDefect sl none b on s))

theorem sliceNoted_defect (sl b : Nat) (on : Bool) (s : State) : (s.sliceNoted sl b on).sliceDefect sl b = on :=
  (((bdiReport_moves (fun _ => False) ..).trans (bdiReport_moves ..)).defect (x := none) not_false b).trans
    ((noteDefect_defect sl none b b on s).trans (if_pos rfl))

theorem setSliceDefect_self (sl b : Nat) (on : Bool) (s : State) : (setSliceDefect sl b on s).sliceDefect sl b = on :=
  ((insertAis_moves sl (s.sliceNoted sl b on)).defect (x := none) (otnIx_not_isTribIx sl) b).trans (sliceNoted_defect ..)

theorem DefectsMoved.tribOn {P : Nat → Prop} (h : DefectsMoved P s t) (sl k : Nat) : t.tribOn sl k = s.tribOn sl k := by
  simp only [State.tribOn, State.otnMode, State.obB]
  rw [h.ob_ne (by decide) (by simp only [otnIx, Ix.otn]; omega) (by decide),
    h.ob_ne (by decide) (by simp only [Ix.otn]; omega) (by decide)]

theorem groupAis_of_los (h : s.sliceDefect sl 0 = true) : s.groupAis sl = true := by
  rw [State.groupAis, bne_iff_ne.mpr (and_ne_zero_of_bit (m := 0xFFFF13) h (by decide)), Bool.true_or]

/-- LOS of a slice inserts ODU-AIS into its tributaries in use (R259). -/
theorem setSliceDefect_los_ais {k : Nat} (hk : k < 8) (hon : s.tribOn sl k = true) :
    (setSliceDefect sl 0 true s).tribDefect sl k 2 = true := by
  have hmoved : DefectsMoved (· = otnIx sl) s (s.sliceNoted sl 0 true) :=
    ((noteDefect_moves sl none 0 true s).trans (bdiReport_moves ..)).trans (bdiReport_moves ..)
  exact insertAis_defect hk ((hmoved.tribOn sl k).trans hon) (groupAis_of_los (sliceNoted_defect sl 0 true s))

end Sys2Proof.Machine
end

section
/-! The OTN line side's receivers (chapter 08): a level's alignment (R256, R257), a carrier lane's block lock (R254), and the defects that
persist (R259). -/

namespace Sys2Proof.Machine

variable {s t u : State} {sl : Nat}

/-! ### Alignment (R256, R257) -/

section Alignment
variable {i : Nat} {f : OduFrame} {v : FrameLevel}

/-- A level in use receives a frame time from the pins (R43, R48, R254), which tells of no group identifier. -/
structure FromPins (s : State) (sl i : Nat) (f : OduFrame) : Prop where
  inOtn : s.otnMode sl ≠ 0
  slice : s.sliceHears sl = true
  group : s.groupHears sl = true
  noLoop : ∀ j ∈ s.levelLanes sl i, s.laneTurns (0x40 + 8 * sl + j) = false
  used : i < 8 ∧ i < s.otnN sl ∧ s.deskewed sl i = true ∨ 8 ≤ i ∧ i < 16 ∧ s.tribOn sl (i - 8) = true
  noGid : f.gid = none

theorem FromPins.seenFrame (h : FromPins s sl i f) : s.seenFrame sl i f = f := by
  have hloop : ((s.levelLanes sl i).map fun j => s.laneTurns (0x40 + 8 * sl + j)).any id = false := by
    simp only [List.any_map, List.any_eq_false, Function.comp, id]
    exact fun j hj => by simp [h.noLoop j hj]
  have hskew : ¬ (i < 8 ∧ (!s.deskewed sl i) = true) := by
    rintro ⟨hi, hskew⟩
    rcases h.used with ⟨-, -, hd⟩ | ⟨hi', -⟩
    · simp [hd] at hskew
    · omega
  rw [State.seenFrame, hloop]
  exact if_neg hskew

/-- The FEC counts of a frame time have been added, where the level is a FlexO one (R264). -/
def State.fecCounted (sl i : Nat) (f : OduFrame) (s : State) : State := if i < 8 then fecFrame sl i f s else s

theorem fecCounted_eq (sl i : Nat) (f : OduFrame) (s : State) : ∃ n, s.fecCounted sl i f = { s with cnt := n } := by
  unfold State.fecCounted
  split
  exacts [⟨_, rfl⟩, ⟨s.cnt, rfl⟩]

/-- What the level makes of the frame time. -/
def State.levelRead (s : State) (sl i : Nat) (f : OduFrame) : FrameLevel × Nat :=
  levelStep (s.instanceApart sl i f) f (s.levelAt sl i)

/-- The level has moved over the frame time, and the positions that it ignored have been counted. -/
def State.levelMoved (sl i : Nat) (f : OduFrame) (s : State) : State :=
  noteAligned sl i (s.levelAt sl i) (s.levelRead sl i f).1
    (((s.fecCounted sl i f).putLevel sl i (s.levelRead sl i f).1).addOb (otnIx sl) Sub.otn_FA_CAND_OVERFLOW 32
      (s.levelRead sl i f).2)

/-- Nothing more comes of a frame time before or after which its level is out of frame. -/
theorem oduFrame_outOfFrame (h : FromPins s sl i f)
    (hout : ((s.levelAt sl i).pos.isNone || (s.levelRead sl i f).1.pos.isNone) = true) :
    oduFrame sl i f s = s.levelMoved sl i f := by
  have hused : (if i < 8 then decide (i < s.otnN sl) else s.tribOn sl (i - 8)) = true := by
    rcases h.used with ⟨hi, hn, -⟩ | ⟨hi, -, hon⟩
    · rw [if_pos hi, decide_eq_true hn]
    · rw [if_neg (by omega), hon]
  have hi : ¬ 16 ≤ i := by have := h.used; omega
  obtain ⟨n, hfec⟩ := fecCounted_eq sl i f s
  have hfec' : (if i < 8 then fecFrame sl i f s else s) = { s with cnt := n } := hfec
  simp only [oduFrame, h.inOtn, h.slice, h.group, hused, hi, h.seenFrame, h.noGid, hfec', Bool.not_true, Bool.false_eq_true,
    or_self, if_false]
  exact (if_pos hout).trans (by rw [State.levelMoved, hfec]; rfl)

theorem noteAligned_eq (sl i : Nat) (old new : FrameLevel) (s : State) :
    ∃ m, noteAligned sl i old new s = { s with time := m } := by
  unfold noteAligned
  split_ifs
  exacts [⟨s.time, rfl⟩, ⟨_, rfl⟩, ⟨_, rfl⟩, ⟨_, rfl⟩]

theorem levelMoved_eq (sl i : Nat) (f : OduFrame) (s : State) : ∃ m n, s.levelMoved sl i f =
    { (s.putLevel sl i (s.levelRead sl i f).1).addOb (otnIx sl) Sub.otn_FA_CAND_OVERFLOW 32 (s.levelRead sl i f).2 with
      time := m, cnt := n } := by
  obtain ⟨n, hfec⟩ := fecCounted_eq sl i f s
  rw [State.levelMoved, hfec]
  obtain ⟨m, hm⟩ := noteAligned_eq sl i (s.levelAt sl i) (s.levelRead sl i f).1
    ((({ s with cnt := n } : State).putLevel sl i (s.levelRead sl i f).1).addOb (otnIx sl) Sub.otn_FA_CAND_OVERFLOW 32
      (s.levelRead sl i f).2)
  exact ⟨m, n, hm⟩

theorem levelMoved_levelAt (sl i : Nat) (f : OduFrame) (s : State) :
    (s.levelMoved sl i f).levelAt sl i = (s.levelRead sl i f).1 := by
  obtain ⟨m, n, h⟩ := levelMoved_eq sl i f s
  rw [h]
  exact mget_mset_self ..

theorem levelMoved_wire (sl i : Nat) (f : OduFrame) (s : State) : (s.levelMoved sl i f).wire = s.wire := by
  obtain ⟨m, n, h⟩ := levelMoved_eq sl i f s
  rw [h]
  rfl

theorem levelMoved_overflow (sl i : Nat) (f : OduFrame) (s : State) :
    (s.levelMoved sl i f).ob (otnIx sl) Sub.otn_FA_CAND_OVERFLOW =
      (s.ob (otnIx sl) Sub.otn_FA_CAND_OVERFLOW + (s.levelRead sl i f).2) % 2 ^ 32 := by
  obtain ⟨m, n, h⟩ := levelMoved_eq sl i f s
  rw [h]
  exact State.ob_addOb_self ..

/-- The third FAS in a row at a place, with the MFAS that follows (R256). -/
theorem searchFrame_third (p m : Nat) :
    searchFrame [(p, (m + 1) % 256)] [(p, m, 2)] [] = ([], some (p, (m + 1) % 256), 0) := by simp [searchFrame]

/-- A position beside eight candidates that are still awaited (R256). -/
theorem searchFrame_ninth {p : Nat} {l : List (Nat × Nat × Nat)} (hl : l.length = 8) (h : ∀ c ∈ l, p < c.1) (m : Nat) :
    searchFrame [(p, m)] l [] = ([], none, 1) := by
  have hold : l.filter (fun c => decide (p ≤ c.1)) = l := List.filter_eq_self.mpr fun c hc => decide_eq_true (h c hc).le
  have hnew : l.find? (fun c => c.1 == p) = none := List.find?_eq_none.mpr fun c hc => by simp [(h c hc).ne']
  simp [searchFrame, hold, hnew, hl]

theorem levelStep_accepts {p m : Nat} (hpos : v.pos = none) (hc : v.cands = [(p, m, 2)]) (hf : f.hits = [(p, (m + 1) % 256)])
    (split : Bool) :
    (levelStep split f v).1.pos = some p ∧ (levelStep split f v).1.mfas = ((m + 1) % 256 + 1) % 256 := by
  simp [levelStep, hpos, hc, hf, searchFrame_third]

theorem levelStep_ignores {p m : Nat} (hpos : v.pos = none) (hl : v.cands.length = 8) (h : ∀ c ∈ v.cands, p < c.1)
    (hf : f.hits = [(p, m)]) (split : Bool) : (levelStep split f v).2 = 1 := by
  simp [levelStep, hpos, hf, searchFrame_ninth hl h]

/-- The fifth wrong frame in a row (R256). -/
theorem levelStep_loses {p : Nat} (hpos : v.pos = some p) (hbad : v.fasBad = 4) (hf : ∀ h ∈ f.hits, h.1 ≠ p) (split : Bool) :
    (levelStep split f v).1.pos = none := by
  have hmiss : f.hits.any (fun h => h.1 == p) = false := List.any_eq_false.mpr fun h hh => by simp [hf h hh]
  simp [levelStep, hpos, hmiss, hbad]

end Alignment

/-! ### Block lock (R254) -/

section BlockLock
variable {n k lane : Nat} {w : List Bool}

/-- Valid headers keep a lane in lock whose window holds none but valid ones. -/
theorem validHeaders_keepLock (n k : Nat) :
    ((List.replicate n true).foldl headerStep (true, List.replicate k true)).1 = true := by
  induction n generalizing k with
  | zero => rfl
  | succ n ih =>
    have hstep : headerStep (true, List.replicate k true) true = (true, List.replicate (min 64 (k + 1)) true) := by
      simp [headerStep, ← List.replicate_succ, List.countP_replicate]
    rw [List.replicate_succ, List.foldl_cons, hstep]
    exact ih _

/-- The 64th valid header in a row gives lock. -/
theorem validHeaders_lock (hn : 0 < n) (h : 64 ≤ n + w.length) :
    ((List.replicate n true).foldl headerStep (false, w)).1 = true := by
  induction n generalizing w with
  | zero => omega
  | succ n ih =>
    rw [List.replicate_succ, List.foldl_cons]
    by_cases hw : 63 ≤ w.length
    · have hstep : headerStep (false, w) true = (true, List.replicate 0 true) := by simp [headerStep, hw]
      rw [hstep]
      exact validHeaders_keepLock ..
    · have hstep : headerStep (false, w) true = (false, true :: w) := by simp [headerStep, hw]
      rw [hstep]
      exact ih (by omega) (by rw [List.length_cons]; omega)

theorem validHeaders_tooFew (h : n + w.length < 64) : ((List.replicate n true).foldl headerStep (false, w)).1 = false := by
  induction n generalizing w with
  | zero => rfl
  | succ n ih =>
    have hstep : headerStep (false, w) true = (false, true :: w) := by simp [headerStep, show ¬ 63 ≤ w.length by omega]
    rw [List.replicate_succ, List.foldl_cons, hstep]
    exact ih (by rw [List.length_cons]; omega)

theorem invalidHeaders_noLock (n : Nat) (w : List Bool) : ((List.replicate n false).foldl headerStep (false, w)).1 = false := by
  induction n generalizing w with
  | zero => rfl
  | succ n ih => exact ih []

/-- The 16th invalid header in the window ends lock. -/
theorem invalidHeaders_loseLock (hk : k < 16) (h : 16 ≤ n + k) :
    ((List.replicate n false).foldl headerStep (true, List.replicate k false ++ w)).1 = false := by
  induction n generalizing k w with
  | zero => omega
  | succ n ih =>
    have hwindow : (false :: (List.replicate k false ++ w)).take 64 = List.replicate (k + 1) false ++ w.take (63 - k) := by
      rw [← List.cons_append, ← List.replicate_succ, List.take_append, List.take_of_length_le (by simp; omega),
        List.length_replicate]
      congr 2
      omega
    rw [List.replicate_succ, List.foldl_cons]
    by_cases hlost : 16 ≤ ((false :: (List.replicate k false ++ w)).take 64).countP (fun x => !x)
    · have hstep : headerStep (true, List.replicate k false ++ w) false = (false, []) := by
        simp only [headerStep, if_pos hlost]; rfl
      rw [hstep]
      exact invalidHeaders_noLock ..
    · have hstep : headerStep (true, List.replicate k false ++ w) false =
          (true, List.replicate (k + 1) false ++ w.take (63 - k)) := by
        rw [← hwindow]; exact if_neg hlost
      have hk' : k + 1 < 16 := by
        rw [hwindow, List.countP_append, List.countP_replicate] at hlost
        simp at hlost
        omega
      rw [hstep]
      exact ih hk' (by omega)

/-- What a lane has made of headers, in turn. -/
def State.headersRead (s : State) (k : Nat) (heads : List Bool) : Bool × List Bool :=
  heads.foldl headerStep (s.otn.locked.contains k, mget [] s.otn.heads k)

/-- The headers that a lane sees: a near-end loop gives it the valid ones of its own transmitter (R48). -/
def State.headersSeen (s : State) (k : Nat) (heads : List Bool) : List Bool :=
  if s.laneTurns (0x40 + k) then heads.map (fun _ => true) else heads

theorem headersSeen_valid (k n : Nat) (s : State) : s.headersSeen k (List.replicate n true) = List.replicate n true := by
  rw [State.headersSeen, List.map_replicate, ite_self]

/-- A lane's lock, its count of headers and its skew are noted. -/
def State.lockNoted (k : Nat) (r : Bool × List Bool) (skew : Nat) (s : State) : State :=
  { s with otn := { s.otn with
    locked := if r.1 then s.otn.locked.filter (· != k) ++ [k] else s.otn.locked.filter (· != k)
    heads := mset [] s.otn.heads k r.2, skew := mset 0 s.otn.skew k skew } }

theorem mem_lockNoted (k : Nat) (r : Bool × List Bool) (skew : Nat) (s : State) :
    k ∈ (s.lockNoted k r skew).otn.locked ↔ r.1 = true := by
  unfold State.lockNoted
  cases r.1 <;> simp

theorem lockNoted_dict (k : Nat) (r : Bool × List Bool) (skew : Nat) (s : State) : (s.lockNoted k r skew).dict = s.dict := rfl

theorem lockNoted_wire (k : Nat) (r : Bool × List Bool) (skew : Nat) (s : State) : (s.lockNoted k r skew).wire = s.wire := rfl

theorem lockNoted_skew (k : Nat) (r : Bool × List Bool) (skew : Nat) (s : State) :
    mget 0 (s.lockNoted k r skew).otn.skew k = skew := mget_mset_self ..

theorem blockLock_deaf {heads : List Bool} {skew : Nat}
    (h : s.sliceHears sl = false ∨ s.rxEffective (0x40 + (8 * sl + lane)) ≠ 2) :
    blockLock sl lane heads skew s = s := by
  refine if_pos ?_
  rcases h with h | h <;> simp [h]

section Hears
variable (hs : s.sliceHears sl = true) (hrx : s.rxEffective (0x40 + (8 * sl + lane)) = 2)
include hs hrx

/-- What a lane that listens makes of blocks; its loss of lock declares LOS at once where its group needs it (R254, R259). -/
theorem blockLock_heard (heads : List Bool) (skew : Nat) : blockLock sl lane heads skew s =
    let r := s.headersRead (8 * sl + lane) (s.headersSeen (8 * sl + lane) heads)
    let t := s.lockNoted (8 * sl + lane) r (if s.laneTurns (0x40 + (8 * sl + lane)) then 0 else skew)
    if s.otn.locked.contains (8 * sl + lane) ∧ (!r.1) = true ∧ s.otnMode sl ≠ 0 ∧ (s.carrierLanes sl).contains lane then
      (setSliceDefect sl 0 true t).mark (Timer.loss sl)
    else t :=
  if_neg (by simp [hs, hrx])

theorem blockLock_valid (hk : 8 * sl + lane ∉ s.otn.locked) (n skew : Nat) :
    blockLock sl lane (List.replicate n true) skew s = s.lockNoted (8 * sl + lane)
      (s.headersRead (8 * sl + lane) (List.replicate n true)) (if s.laneTurns (0x40 + (8 * sl + lane)) then 0 else skew) := by
  rw [blockLock_heard hs hrx, headersSeen_valid]
  exact if_neg (by simp [hk])

theorem blockLock_lost {heads : List Bool} (hturn : s.laneTurns (0x40 + (8 * sl + lane)) = false) (hmode : s.otnMode sl ≠ 0)
    (hlane : lane ∈ s.carrierLanes sl) (hk : 8 * sl + lane ∈ s.otn.locked)
    (hr : (s.headersRead (8 * sl + lane) heads).1 = false) (skew : Nat) :
    blockLock sl lane heads skew s = (setSliceDefect sl 0 true
      (s.lockNoted (8 * sl + lane) (s.headersRead (8 * sl + lane) heads) skew)).mark (Timer.loss sl) := by
  have hseen : s.headersSeen (8 * sl + lane) heads = heads := if_neg (by simp [hturn])
  simp only [blockLock_heard hs hrx, hseen, hturn]
  exact if_pos ⟨by simpa using hk, by simp [hr], hmode, by simpa using hlane⟩

end Hears

end BlockLock

/-! ### Defects declared and cleared (R259) -/

section Persists
variable {b k : Nat} {on : Bool}

theorem defectPersisted_slice (hmode : s.otnMode sl ≠ 0) (hs : s.sliceHears sl = true) (h : s.persists sl none b on = true) :
    defectPersisted sl none b on s = setSliceDefect sl b on s := by simp [defectPersisted, hmode, hs, h]

theorem defectPersisted_trib (hmode : s.otnMode sl ≠ 0) (hs : s.sliceHears sl = true) (h : s.persists sl (some k) b on = true) :
    defectPersisted sl (some k) b on s = setTribDefect sl k b on s := by simp [defectPersisted, hmode, hs, h]

/-- Of a tributary's defects LOF-T and LOM-T alone persist: the others are set where their condition is received. -/
theorem persists_trib_lt (h : s.persists sl (some k) b on = true) : b < 2 := by
  simp only [State.persists, Bool.and_eq_true, decide_eq_true_eq] at h
  exact h.1.2

end Persists

/-- Settles O14: a frame time of a level, block headers of a lane, and defects that have persisted, in turn. -/
theorem otnFramesAndDefects : Obligations.OtnFramesAndDefects := by
  refine ⟨fun s sl i f v hmode hs hg hloop hv hused hgid => ?level, fun s sl hsl => ?lanes⟩
  case level =>
    subst hv
    have hf : FromPins s sl i f := ⟨hmode, hs, hg, hloop, hused, hgid⟩
    refine ⟨fun p m hpos hc hh => ?third, fun p m hpos hl hc hh => ?ninth, fun p hpos hbad hh => ?fifth⟩
    case third =>
      obtain ⟨hnew, hmfas⟩ := levelStep_accepts hpos hc hh (s.instanceApart sl i f)
      refine ⟨_, congrArg Host.Outcome.next (oduFrame_outOfFrame hf (by simp [hpos])), ?_, ?_, levelMoved_wire ..⟩
      · rw [levelMoved_levelAt]; exact hnew
      · rw [levelMoved_levelAt]; exact hmfas
    case ninth =>
      refine ⟨_, congrArg Host.Outcome.next (oduFrame_outOfFrame hf (by simp [hpos])), (levelMoved_overflow ..).trans ?_⟩
      rw [State.levelRead, levelStep_ignores hpos hl hc hh]
    case fifth =>
      have hlost : (s.levelRead sl i f).1.pos = none := levelStep_loses hpos hbad hh _
      exact ⟨_, congrArg Host.Outcome.next (oduFrame_outOfFrame hf (by simp [hlost])), by rw [levelMoved_levelAt, hlost],
        levelMoved_wire ..⟩
  case lanes =>
    refine ⟨fun lane skew hs hrx hturn hk => ?locks, fun lane heads skew h => congrArg Host.Outcome.next (blockLock_deaf h),
      fun lane skew n hs hrx hk hheads hn => ?tooFew, fun lane skew hs hrx hturn hmode hlane hk => ?loses,
      fun b hmode hs h => ?declare, fun b hmode hs h => ?clear, fun k b hk hmode hs h => ?declareTrib,
      fun k b hk hmode hs h => ?clearTrib⟩
    case locks =>
      have hlock : (s.headersRead (8 * sl + lane) (List.replicate 64 true)).1 = true := by
        rw [State.headersRead, List.contains_eq_mem, decide_eq_false hk]
        exact validHeaders_lock (by decide) (Nat.le_add_right ..)
      refine ⟨_, congrArg Host.Outcome.next (blockLock_valid hs hrx hk 64 skew), (mem_lockNoted ..).mpr hlock,
        (lockNoted_skew ..).trans (if_neg (by simp [hturn])), lockNoted_dict .., lockNoted_wire ..⟩
    case tooFew =>
      have hnone : (s.headersRead (8 * sl + lane) (List.replicate n true)).1 = false := by
        rw [State.headersRead, List.contains_eq_mem, decide_eq_false hk, hheads]
        exact validHeaders_tooFew (by simpa using hn)
      exact ⟨_, congrArg Host.Outcome.next (blockLock_valid hs hrx hk n skew), by simp [mem_lockNoted, hnone],
        lockNoted_dict .., lockNoted_wire ..⟩
    case loses =>
      have hlost : (s.headersRead (8 * sl + lane) (List.replicate 16 false)).1 = false := by
        rw [State.headersRead, List.contains_eq_mem, decide_eq_true hk]
        exact invalidHeaders_loseLock (k := 0) (by decide) (by decide)
      have hlos := setSliceDefect_self sl 0 true
        (s.lockNoted (8 * sl + lane) (s.headersRead (8 * sl + lane) (List.replicate 16 false)) skew)
      refine ⟨_, congrArg Host.Outcome.next (blockLock_lost hs hrx hturn hmode hlane hk hlost skew), ?_, hlos, ?_,
        fun k hk' hon => setSliceDefect_los_ais hk' hon⟩
      · rw [State.mark_otn, (setSliceDefect_moves ..).locked, mem_lockNoted, hlost]
        exact Bool.false_ne_true
      · exact bne_iff_ne.mpr (and_ne_zero_of_bit (m := 0xFFFF07) hlos (by decide))
    case declare =>
      exact ⟨_, congrArg Host.Outcome.next (defectPersisted_slice hmode hs h), setSliceDefect_self ..⟩
    case clear =>
      exact ⟨_, congrArg Host.Outcome.next (defectPersisted_slice hmode hs h), setSliceDefect_self ..⟩
    case declareTrib =>
      have hb := persists_trib_lt h
      refine ⟨_, congrArg Host.Outcome.next (defectPersisted_trib hmode hs h), setTribDefect_self (by omega) ..,
        setTribDefect_tsf ?_ ..⟩
      interval_cases b <;> decide
    case clearTrib =>
      have hb := persists_trib_lt h
      exact ⟨_, congrArg Host.Outcome.next (defectPersisted_trib hmode hs h), setTribDefect_self (by omega) ..⟩

end Sys2Proof.Machine
end

section
/-! The connection-memory window (R268 to R271, R292) and the switch of a memory's pages (R270, R272). -/

namespace Sys2Proof.Machine

variable {s t u : State} {c : Caller} {sl : Nat}

/-! ### The start of a connection-memory operation (R292, R465) -/

/-- The connection-memory window of a slice has taken the operation `code`. -/
def State.cmTaken (sl code : Nat) (s : State) : State := s.put (cmIx sl) Sub.cmWin_CM_OP code

theorem rowCm_posts {code : Nat} {stat : Status} (h : Starts s c (cmIx sl) Sub.cmWin_CM_OP Sub.cmWin_CM_STATUS code)
    (hact : cmOp sl code (s.cmTaken sl code) = (u, some stat)) (hdue : u.due = s.due) :
    PostedFrom u c (cmIx sl) Sub.cmWin_CM_OP Sub.cmWin_CM_STATUS stat (rowCm c sl code s).post :=
  rowWindowStart_posts h hact hdue

/-- The write that starts an operation which completes in a later step completes OK, and the window is busy (R465). -/
theorem rowWindowStart_waits {ix op st code : Nat} {act : State → State × Option Status} (h : Starts s c ix op st code)
    (hact : act (s.put ix op code) = (u, none)) :
    rowWindowStart c ix op st code act s = ((u.winRun ix st).noteCycle c [okey ix op]).complete c ix op .ok := by
  obtain ⟨⟨hw, hc⟩, hb, hu, -⟩ := h
  simp [rowWindowStart, rowWrite_ok hw hc, windowStart, hb, keepOwed_none hu, hact]

/-- An operation that completes in a later step is still running at the end of its period. -/
theorem rowWindowStart_runs {ix op st code : Nat} {act : State → State × Option Status} (h : Starts s c ix op st code)
    (hact : act (s.put ix op code) = (u, none)) (hdue : u.due = s.due) :
    ∃ d a w, (rowWindowStart c ix op st code act s).post = { u with dict := d, acc := a, wire := w } ∧
      (rowWindowStart c ix op st code act s).post.winBusy ix st = true ∧
      Ends (rowWindowStart c ix op st code act s).post c ix op st .busy := by
  obtain ⟨-, -, -, hposts⟩ := id h
  have hp : ((u.winRun ix st).complete c ix op .ok).acc.posts = [] := (Prod.ext_iff.mp hdue).1.trans hposts
  rw [rowWindowStart_waits h hact, complete_noteCycle, post_noteCycle, post_none hp]
  obtain ⟨a, hnote⟩ := noteCycle_eq c [okey ix op] ((u.winRun ix st).complete c ix op .ok)
  refine ⟨_, a, _, hnote, ?_, ?_, ?_⟩
  · have : ∀ l (t : State), (t.noteCycle c l).winBusy ix st = t.winBusy ix st := fun l t => by cases c <;> rfl
    rw [this]
    simp [State.winBusy, State.complete, State.emit]
  · rw [Reports, State.wire_noteCycle]
    exact reports_complete ..
  · rw [State.ob_noteCycle]
    exact State.ob_put_self ..

theorem PostedFrom.otn {ix op st : Nat} {stat : Status} (h : PostedFrom u c ix op st stat t) : t.otn = u.otn := by
  obtain ⟨d, a, ht⟩ := h.rest
  rw [ht]

theorem cmEntry_congr (h : t.otn = s.otn) (sl dir page slot : Nat) : t.cmEntry sl dir page slot = s.cmEntry sl dir page slot := by
  rw [State.cmEntry, h, State.cmEntry]

/-! What an operation reads does not hang on its code. -/

section Taken
variable (sl code : Nat) (s : State)

theorem ob_cmTaken {ix sub : Nat} (h : sub < 256) (hne : ¬ (ix = cmIx sl ∧ sub = Sub.cmWin_CM_OP)) :
    (s.cmTaken sl code).ob ix sub = s.ob ix sub := by rw [State.cmTaken, State.ob_put (by decide) h, if_neg hne]

theorem cmObject_cmTaken {sub : Nat} (h : sub < 256) (hne : sub ≠ Sub.cmWin_CM_OP) :
    (s.cmTaken sl code).ob (cmIx sl) sub = s.ob (cmIx sl) sub := ob_cmTaken sl code s h fun k => hne k.2

@[simp] theorem otn_cmTaken : (s.cmTaken sl code).otn = s.otn := rfl
@[simp] theorem cmEntry_cmTaken (dir page slot : Nat) :
    (s.cmTaken sl code).cmEntry sl dir page slot = s.cmEntry sl dir page slot := rfl

theorem gated_cmTaken : (s.cmTaken sl code).gated sl = s.gated sl := by
  rw [State.gated, ob_cmTaken sl code s (by decide) fun h => by simp only [cmIx, Ix.otn] at h; omega, State.gated]

@[simp] theorem otnN_cmTaken : (s.cmTaken sl code).otnN sl = s.otnN sl :=
  ob_cmTaken sl code s (by decide) fun h => absurd h.2 (by decide)

@[simp] theorem cmActive_cmTaken (dir : Nat) : (s.cmTaken sl code).cmActive sl dir = s.cmActive sl dir := by
  rw [State.cmActive, cmObject_cmTaken sl code s (by decide) (by decide), State.cmActive]

@[simp] theorem pageGives_cmTaken (dir page k : Nat) : (s.cmTaken sl code).pageGives sl dir page k = s.pageGives sl dir page k := by
  simp only [State.pageGives, State.cmOrders, otnN_cmTaken, cmEntry_cmTaken,
    ob_cmTaken sl code s (ix := tribIx sl k) (sub := Sub.trib_TRIB_SLOTS) (by decide) fun h => absurd h.2 (by decide)]

@[simp] theorem tribOn_cmTaken (k : Nat) : (s.cmTaken sl code).tribOn sl k = s.tribOn sl k := by
  have hmode : (s.cmTaken sl code).otnMode sl = s.otnMode sl :=
    ob_cmTaken sl code s (by decide) fun h => by simp only [otnIx, cmIx, Ix.otn] at h; omega
  rw [State.tribOn, State.obB, hmode, ob_cmTaken sl code s (by decide) fun h => by simp only [cmIx, Ix.otn] at h; omega,
    State.tribOn, State.obB]

end Taken

/-! ### The three operations (R268 to R271) -/

section Operations
variable {dir page slot e : Nat}

/-- The window names an entry of a memory's page, and holds an image for it. -/
structure NamesCm (sl dir page slot e : Nat) (s : State) : Prop where
  dir : s.ob (cmIx sl) Sub.cmWin_CM_DIR = dir
  page : s.ob (cmIx sl) Sub.cmWin_CM_PAGE = page
  slot : s.ob (cmIx sl) Sub.cmWin_CM_SLOT = slot
  image : s.ob (cmIx sl) Sub.cmWin_CM_ENTRY = e

theorem NamesCm.taken (h : NamesCm sl dir page slot e s) (code : Nat) : NamesCm sl dir page slot e (s.cmTaken sl code) where
  dir := (cmObject_cmTaken sl code s (by decide) (by decide)).trans h.dir
  page := (cmObject_cmTaken sl code s (by decide) (by decide)).trans h.page
  slot := (cmObject_cmTaken sl code s (by decide) (by decide)).trans h.slot
  image := (cmObject_cmTaken sl code s (by decide) (by decide)).trans h.image

theorem NamesCm.slotOk (h : NamesCm sl dir page slot e s) (hslot : slot < 20 * s.otnN sl) : s.cmSlotOk sl = true := by
  rw [State.cmSlotOk, h.slot, decide_eq_true hslot]

theorem cmRead_named (h : NamesCm sl dir page slot e s) (hslot : slot < 20 * s.otnN sl) :
    cmRead sl s = (s.put (cmIx sl) Sub.cmWin_CM_ENTRY (s.cmEntry sl dir page slot), .ok) := by
  rw [cmRead, h.slotOk hslot, h.dir, h.page, h.slot]
  rfl

/-- The page that is not active. -/
theorem standby_ne_active (s : State) (sl dir : Nat) : 1 - s.cmActive sl dir ≠ s.cmActive sl dir := by
  have hlt : s.cmActive sl dir < 2 := by
    rw [State.cmActive, bits, Nat.add_sub_cancel_left]
    exact Nat.mod_lt _ (by decide)
  omega

/-- An entry of the connection memory has taken an image. -/
def State.cmPut (sl dir page slot e : Nat) (s : State) : State :=
  { s with otn := { s.otn with cm := mset 0 s.otn.cm (skey sl ((2 * dir + page) * 256 + slot)) e } }

theorem cmPut_cmEntry (sl dir page slot e : Nat) (s : State) : (s.cmPut sl dir page slot e).cmEntry sl dir page slot = e :=
  mget_mset_self ..

theorem cmPut_cmEntry_ne {p : Nat} (hp : p ≠ page) (sl dir slot e : Nat) (s : State) :
    (s.cmPut sl dir page slot e).cmEntry sl dir p slot = s.cmEntry sl dir p slot :=
  mget_mset_ne (by unfold skey; omega)

/-- A WRITE whose entry is well formed is taken into the standby page, where no SWITCH of the memory waits (R270, R271). -/
theorem cmWrite_checked (h : NamesCm sl dir page slot e s) (hslot : slot < 20 * s.otnN sl) (hlow : bits e 11 8 = 0)
    (hord : bits e 7 0 ≤ 159) : cmWrite sl s =
    if mfind s.otn.cmWait sl = some dir ∨ page ≠ 1 - s.cmActive sl dir then (s, .busy)
    else (s.cmPut sl dir (1 - s.cmActive sl dir) slot e, .ok) := by
  have hrange : ¬ ((!s.cmSlotOk sl) = true ∨ bits e 11 8 ≠ 0 ∨ 159 < bits e 7 0) := by
    rw [h.slotOk hslot]
    rintro (hx | hx | hx)
    · cases hx
    · exact hx hlow
    · omega
  unfold cmWrite
  rw [h.dir, h.page, h.slot, h.image]
  exact if_neg hrange

theorem cmOp_read (hg : s.gated sl = false) : cmOp sl 1 s = ((cmRead sl s).1, some (cmRead sl s).2) := by
  rw [cmOp, sliceOp, hg]; rfl

theorem cmOp_write (hg : s.gated sl = false) : cmOp sl 2 s = ((cmWrite sl s).1, some (cmWrite sl s).2) := by
  rw [cmOp, sliceOp, hg]; rfl

theorem cmSwitch_waits (hg : s.gated sl = false) (hd : s.ob (cmIx sl) Sub.cmWin_CM_DIR = dir)
    (h : ∀ k, k < 8 → s.tribOn sl k = true → s.pageGives sl dir (1 - s.cmActive sl dir) k = true) :
    cmSwitch sl s = ({ s with otn := { s.otn with cmWait := minsert s.otn.cmWait sl dir } }, none) := by
  have hall : (s.tribsOn sl).all (fun k => s.pageGives sl dir (1 - s.cmActive sl dir) k) = true := by
    simp only [State.tribsOn, List.all_eq_true, List.mem_filter, List.mem_range]
    exact fun k hk => h k hk.1 hk.2
  simp only [cmSwitch, hg, hd, hall, Bool.false_eq_true, if_false, if_true]

end Operations

/-! ### The switch at its boundary (R270, R272) -/

/-- The standby page of a memory has become active, and the SWITCH has ended. -/
def State.pageSwitched (sl dir : Nat) (s : State) : State :=
  ({ s with otn := { s.otn with cmWait := merase s.otn.cmWait sl } }.put (cmIx sl) Sub.cmWin_CM_ACTIVE
    (setBit (s.ob (cmIx sl) Sub.cmWin_CM_ACTIVE) dir (!bit (s.ob (cmIx sl) Sub.cmWin_CM_ACTIVE) dir))).winEnd
      (cmIx sl) Sub.cmWin_CM_STATUS .ok

theorem msimUpdate_moves (sl : Nat) (s : State) : DefectsMoved (HasDefects sl) s (msimUpdate sl s) := by
  unfold msimUpdate
  dsimp only
  split
  · exact .refl ..
  · exact setSliceDefect_moves ..

/-- Of what follows the switch, MSIM alone moves (R272). -/
theorem cmSwitchApply_moves {dir : Nat} (h : mfind s.otn.cmWait sl = some dir) :
    DefectsMoved (HasDefects sl) (s.pageSwitched sl dir) (cmSwitchApply sl s) := by
  simp only [cmSwitchApply, h]
  split
  · exact msimUpdate_moves ..
  · exact .refl ..

theorem DefectsMoved.winBusy {P : Nat → Prop} (h : DefectsMoved P s t) (ix st : Nat) : t.winBusy ix st = s.winBusy ix st :=
  congrArg (fun d : List Post × List Nat => d.2.contains (okey ix st)) h.due

theorem DefectsMoved.ob_cm {P : Nat → Prop} (h : DefectsMoved P s t) {sub : Nat} (hsub : sub < 256)
    (hne : sub ≠ Sub.otn_DEFECTS) : t.ob (cmIx sl) sub = s.ob (cmIx sl) sub := h.ob_ne hsub (by simp only [cmIx, Ix.otn]; omega) hne

/-- Settles O18: the window's three operations, and the boundary at which a SWITCH ends. -/
theorem connectionMemoryWorks : Obligations.ConnectionMemoryWorks := by
  intro s c sl dir page slot e hdir hpage hslot he
  have hn : NamesCm sl dir page slot e s := ⟨hdir, hpage, hslot, he⟩
  refine ⟨fun ⟨_, hg, h⟩ hok => ?read, fun ⟨_, hg, h⟩ hok hlow hord hfree hstandby => ?write,
    fun ⟨_, hg, h⟩ hok hlow hord hbusy => ?busy, fun ⟨_, hg, h⟩ hgives => ?switch, fun d a _ hd ha => ?apply⟩
  case read =>
    have hact : cmOp sl 1 (s.cmTaken sl 1) =
        ((s.cmTaken sl 1).put (cmIx sl) Sub.cmWin_CM_ENTRY (s.cmEntry sl dir page slot), some .ok) := by
      rw [cmOp_read ((gated_cmTaken ..).trans hg), cmRead_named (hn.taken 1) (by simpa using hok), cmEntry_cmTaken]
    have hpost := rowCm_posts h hact rfl
    exact ⟨_, rfl, (hpost.ob_ne (by decide) (by decide) (by decide)).trans (State.ob_put_self ..), hpost.otn, hpost.ends⟩
  case write =>
    have hact : cmOp sl 2 (s.cmTaken sl 2) = ((s.cmTaken sl 2).cmPut sl dir page slot e, some .ok) := by
      rw [cmOp_write ((gated_cmTaken ..).trans hg), cmWrite_checked (hn.taken 2) (by simpa using hok) hlow hord,
        if_neg (by simp [hfree, hstandby]), cmActive_cmTaken, ← hstandby]
    have hpost := rowCm_posts h hact rfl
    refine ⟨_, rfl, ?_, ?_, hpost.ends⟩
    · rw [cmEntry_congr hpost.otn, cmPut_cmEntry]
    · rw [cmEntry_congr hpost.otn, cmPut_cmEntry_ne (hstandby ▸ (standby_ne_active s sl dir).symm), cmEntry_cmTaken]
  case busy =>
    have hact : cmOp sl 2 (s.cmTaken sl 2) = (s.cmTaken sl 2, some .busy) := by
      rw [cmOp_write ((gated_cmTaken ..).trans hg), cmWrite_checked (hn.taken 2) (by simpa using hok) hlow hord,
        if_pos (by simpa using hbusy)]
    have hpost := rowCm_posts h hact rfl
    exact ⟨_, rfl, hpost.otn, hpost.ends⟩
  case switch =>
    have hact := cmSwitch_waits (sl := sl) (s := s.cmTaken sl 3) ((gated_cmTaken ..).trans hg) (hn.taken 3).dir
      (by simpa using hgives)
    obtain ⟨d, a, w, hpost, hrun, hends⟩ := rowWindowStart_runs (act := cmOp sl 3) h hact rfl
    refine ⟨_, rfl, ?_, hrun, hends⟩
    rw [rowCm, hpost]
    exact mfind_minsert_self ..
  case apply =>
    subst ha
    have hmoved := cmSwitchApply_moves hd
    refine ⟨_, rfl, (hmoved.ob_cm (by decide) (by decide)).trans ?_, ?_, (hmoved.ob_cm (by decide) (by decide)).trans ?_,
      (hmoved.winBusy ..).trans ?_⟩
    · exact (State.ob_put (by decide) (by decide)).trans ((if_neg fun h => absurd h.2 (by decide)).trans (State.ob_put_self ..))
    · rw [hmoved.cmWait]
      exact mfind_merase_self ..
    · exact State.ob_put_self ..
    · simp [State.winBusy, State.pageSwitched]

end Sys2Proof.Machine
end

section
/-! The start and the stop of a tributary (R265 to R267, R288). -/

namespace Sys2Proof.Machine

variable {s t u : State} {c : Caller} {sl k : Nat}

@[simp] theorem State.tribOn_done (c : Caller) (l : List Nat) (ix sub sl k : Nat) (st : Status) (t : State) :
    ((t.noteCycle c l).complete c ix sub st).tribOn sl k = t.tribOn sl k := by simp [State.tribOn, State.otnMode, State.obB]

/-- What a tributary keeps in use alone is gone; of the objects its receive state is told (R283). -/
theorem tribClear_ob {ix sub : Nat} (hsub : sub < 256) (sl k : Nat) (s : State) :
    (s.tribClear sl k).ob ix sub = if ix = soduIx sl k ∧ sub = Sub.sodu_RX_STATE then 0 else s.ob ix sub :=
  State.ob_put (by decide) hsub

/-! ### Enabling (R265 to R267) -/

section Start
variable (sl k : Nat) (s : State)

/-- A tributary's own objects tell that it is in use. -/
def State.tribInUse : State :=
  ((s.tribClear sl k).put (tribIx sl k) Sub.trib_TRIB_ENABLE 1).put (tribIx sl k) Sub.trib_MAC_RATE
    (tribRate (s.ob (tribIx sl k) Sub.trib_TRIB_TYPE) (s.ob (tribIx sl k) Sub.trib_TRIB_SLOTS))

/-- The latencies of a tributary of this kind stand in its timing objects. -/
def State.tribTimed (kind : Nat) : State :=
  (s.put (Ix.timeLine (8 * sl + k)) Sub.timeClient_RX_LATENCY_NS (Config.latency 0 kind (s.carrierRate sl) 2 % 2 ^ 32)).put
    (Ix.timeLine (8 * sl + k)) Sub.timeClient_TX_LATENCY_NS (Config.latency 1 kind (s.carrierRate sl) 2 % 2 ^ 32)

/-- A tributary has been taken into use and sends ODU-AIS; its defects are still to be noted. -/
def State.tribTaken : State :=
  sendAis sl k (((s.tribInUse sl k).tribTimed sl k
    (0x100 + 16 * s.ob (tribIx sl k) Sub.trib_TRIB_SLOTS + s.ob (tribIx sl k) Sub.trib_TRIB_TYPE)).formCalendar sl)

/-- The defects with which a tributary starts: SLOK where it is sealed, and AIS-T under ODU-AIS (R259). -/
def State.tribStarted : State :=
  insertAis sl (if (s.tribTaken sl k).ob (tribIx sl k) Sub.trib_TRIB_MODE = 0 then s.tribTaken sl k
    else setTribDefect sl k 6 true (s.tribTaken sl k))

theorem tribTaken_wire : (s.tribTaken sl k).wire = s.wire ++ [.oduAis sl k] := rfl

theorem tribTaken_ob {ix sub : Nat} (hsub : sub < 256) (hline : ix ≠ Ix.timeLine (8 * sl + k)) (hsodu : ix ≠ soduIx sl k) :
    (s.tribTaken sl k).ob ix sub =
      if ix = tribIx sl k ∧ sub = Sub.trib_MAC_RATE then
        tribRate (s.ob (tribIx sl k) Sub.trib_TRIB_TYPE) (s.ob (tribIx sl k) Sub.trib_TRIB_SLOTS)
      else if ix = tribIx sl k ∧ sub = Sub.trib_TRIB_ENABLE then 1 else s.ob ix sub := by
  have hob : (s.tribTaken sl k).ob ix sub = ((s.tribInUse sl k).tribTimed sl k
    (0x100 + 16 * s.ob (tribIx sl k) Sub.trib_TRIB_SLOTS + s.ob (tribIx sl k) Sub.trib_TRIB_TYPE)).ob ix sub := rfl
  rw [hob, State.tribTimed, State.ob_put (by decide) hsub, if_neg fun h => hline h.1, State.ob_put (by decide) hsub,
    if_neg fun h => hline h.1, State.tribInUse, State.ob_put (by decide) hsub, State.ob_put (by decide) hsub,
    (tribClear_ob hsub sl k s).trans (if_neg fun h => hsodu h.1)]

theorem tribStarted_moves : DefectsMoved (HasDefects sl) (s.tribTaken sl k) (s.tribStarted sl k) := by
  have hais : ∀ u, DefectsMoved (HasDefects sl) u (insertAis sl u) := fun u =>
    (insertAis_moves sl u).mono fun _ ⟨j, h⟩ => ⟨some j, h⟩
  unfold State.tribStarted
  split
  · exact hais _
  · exact ((setTribDefect_moves ..).mono fun _ h => ⟨some k, h⟩).trans (hais _)

/-- A tributary's objects other than `DEFECTS` are as it was taken into use with them. -/
theorem tribStarted_ob (hsl : sl < 4) {sub : Nat} (hsub : sub < 256) (hne : sub ≠ Sub.otn_DEFECTS) :
    (s.tribStarted sl k).ob (tribIx sl k) sub =
      if sub = Sub.trib_MAC_RATE then tribRate (s.ob (tribIx sl k) Sub.trib_TRIB_TYPE) (s.ob (tribIx sl k) Sub.trib_TRIB_SLOTS)
      else if sub = Sub.trib_TRIB_ENABLE then 1 else s.ob (tribIx sl k) sub := by
  rw [(tribStarted_moves sl k s).ob_ne hsub (by simp only [tribIx, Ix.otn]; omega) hne,
    tribTaken_ob sl k s hsub (by simp only [tribIx, Ix.otn, Ix.timeLine]; omega) (by simp only [tribIx, soduIx, Ix.otn]; omega)]
  simp only [true_and]

theorem tribStarted_tribOn (hsl : sl < 4) (hmode : s.otnMode sl ≠ 0) : (s.tribStarted sl k).tribOn sl k = true := by
  have hmode' : (s.tribStarted sl k).otnMode sl = s.otnMode sl := by
    rw [State.otnMode, (tribStarted_moves sl k s).ob_ne (by decide) (by simp only [otnIx, Ix.otn]; omega) (by decide),
      tribTaken_ob sl k s (by decide) (by simp only [otnIx, Ix.otn, Ix.timeLine]; omega)
        (by simp only [otnIx, soduIx, Ix.otn]; omega), if_neg fun h => absurd h.2 (by decide),
      if_neg fun h => by simp only [otnIx, tribIx, Ix.otn] at h; omega, State.otnMode]
  rw [State.tribOn, hmode', bne_iff_ne.mpr hmode, State.obB, tribStarted_ob sl k s hsl (by decide) (by decide)]
  rfl

variable {sl k s}

/-- A tributary out of use, with nothing held and no SWITCH waiting, starts where the checks of R266 pass. -/
theorem tribStart_free (hoff : s.tribOn sl k = false) (hw : mfind s.otn.cmWait sl = none) (h3 : s.blockHeld 3 sl = false)
    (h0 : s.blockHeld 0 sl = false) (hg : s.gated sl = false) :
    tribStart false sl k s = if s.tribCheck false sl k then (s.tribStarted sl k, .ok) else (s, .range) := by
  simp only [tribStart, hoff, hw, h3, h0, hg]
  cases s.tribCheck false sl k <;> rfl

theorem tribCheck_otnMode (h : s.tribCheck false sl k = true) : s.otnMode sl ≠ 0 := by
  simp only [State.tribCheck, State.tribShape, Bool.and_eq_true, bne_iff_ne, ne_eq] at h
  tauto

end Start

/-! ### Disabling (R288) -/

section Stop
variable (sl k : Nat) (s : State)

/-- Every defect of a tributary has been cleared, each with its event (R260). -/
def State.tribCleared : State := (List.range 9).foldl (fun u b => noteDefect sl (some k) b false u) s

/-- A tributary is out of use. -/
def State.tribOut : State :=
  (((((s.tribCleared sl k).tribClear sl k).put (tribIx sl k) Sub.trib_TRIB_ENABLE 0).put (tribIx sl k) Sub.trib_MAC_RATE 0).put
    (tribIx sl k) Sub.trib_DEFECTS 0).formCalendar sl

/-- A tributary is out of use, and its clients show what they send without it. -/
def State.tribStopped : State :=
  (((s.tribOut sl k).tribClients sl k).filter (s.tribOut sl k).portOn).foldl (fun u m => u.emitFill m) (s.tribOut sl k)

theorem tribStopped_ob {ix sub : Nat} (hsub : sub < 256) (hix : ix ≠ 0x0300) : (s.tribStopped sl k).ob ix sub =
    (((((s.tribCleared sl k).tribClear sl k).put (tribIx sl k) Sub.trib_TRIB_ENABLE 0).put (tribIx sl k) Sub.trib_MAC_RATE 0).put
      (tribIx sl k) Sub.trib_DEFECTS 0).ob ix sub :=
  (emitFills_moves (fun _ => False) _ _).ob ix sub hsub hix fun h => h.1

/-- The objects of a tributary that tell of its use read 0. -/
theorem tribStopped_zero {sub : Nat} (h : sub = Sub.trib_TRIB_ENABLE ∨ sub = Sub.trib_MAC_RATE ∨ sub = Sub.trib_DEFECTS) :
    (s.tribStopped sl k).ob (tribIx sl k) sub = 0 := by
  have hix : tribIx sl k ≠ 0x0300 := by simp only [tribIx, Ix.otn]; omega
  rcases h with rfl | rfl | rfl <;> rw [tribStopped_ob sl k s (by decide) hix] <;> simp (disch := decide) [State.ob_put]

theorem tribStopped_rxState : (s.tribStopped sl k).ob (soduIx sl k) Sub.sodu_RX_STATE = 0 := by
  have hne : soduIx sl k ≠ tribIx sl k := by simp only [tribIx, soduIx, Ix.otn]; omega
  rw [tribStopped_ob sl k s (by decide) (by simp only [soduIx, Ix.otn]; omega), State.ob_put (by decide) (by decide),
    if_neg fun h => hne h.1, State.ob_put (by decide) (by decide), if_neg fun h => hne h.1, State.ob_put (by decide) (by decide),
    if_neg fun h => hne h.1, tribClear_ob (by decide), if_pos ⟨rfl, rfl⟩]

variable {sl k s}

theorem tribStop_on (hon : s.tribOn sl k = true) (hq : Cue.state (s.tribCueAt sl k) ≠ 3) :
    tribStop sl k s = (s.tribStopped sl k, .ok) := by
  rw [tribStop, hon, if_neg hq]
  rfl

/-- A counting cue refuses the disabling (R288). -/
theorem tribStop_counting (hon : s.tribOn sl k = true) (hq : Cue.state (s.tribCueAt sl k) = 3) : tribStop sl k s = (s, .busy) := by
  rw [tribStop, hon, if_pos hq]
  rfl

end Stop

/-- Settles O16. The disabling does not wait for a counting cue: it is refused BUSY (R288). -/
theorem tributariesStartAndStop : Obligations.TributariesStartAndStop := by
  intro s c sl k hsl hk
  refine ⟨fun ha hoff hw h3 h0 hg => ⟨fun hcheck => ?start, fun hcheck => ?range⟩, fun ha hon hq => ?stop,
    fun ha hon hq => ?busy⟩
  case start =>
    have hact : tribEnable sl k 1 s = (s.tribStarted sl k, .ok) := (tribStart_free hoff hw h3 h0 hg).trans (if_pos hcheck)
    refine ⟨_, congrArg Host.Outcome.next (rowWrite_takes ha hact), ?_, ?_, ?_, reports_complete ..⟩
    · rw [State.tribOn_done]
      exact tribStarted_tribOn sl k s hsl (tribCheck_otnMode hcheck)
    · obtain ⟨w, hw⟩ := (tribStarted_moves sl k s).wire
      simp [hw, tribTaken_wire]
    · rw [State.ob_complete, State.ob_noteCycle, tribStarted_ob sl k s hsl (by decide) (by decide), if_pos rfl]
  case range =>
    have hact : tribEnable sl k 1 s = (s, .range) := (tribStart_free hoff hw h3 h0 hg).trans (if_neg (by simp [hcheck]))
    exact congrArg Host.Outcome.next (rowWrite_refuses ha hact (by decide))
  case stop =>
    have hact : tribEnable sl k 0 s = (s.tribStopped sl k, .ok) := tribStop_on hon hq
    refine ⟨_, congrArg Host.Outcome.next (rowWrite_takes ha hact), ?_, ?_, ?_, ?_, reports_complete ..⟩
    · rw [State.tribOn_done, State.tribOn, State.obB, tribStopped_zero sl k s (.inl rfl)]
      simp
    · rw [State.ob_complete, State.ob_noteCycle, tribStopped_zero sl k s (.inr (.inl rfl))]
    · rw [State.ob_complete, State.ob_noteCycle, tribStopped_zero sl k s (.inr (.inr rfl))]
    · rw [State.ob_complete, State.ob_noteCycle, tribStopped_rxState]
  case busy =>
    have hact : tribEnable sl k 0 s = (s, .busy) := tribStop_counting hon hq
    exact congrArg Host.Outcome.next (rowWrite_refuses ha hact (by decide))

end Sys2Proof.Machine
end

section
/-! Multiframes (chapter 08): what a tributary's ODU carries from a boundary on (R273 to R282), and what its receiver makes of a multiframe
and of a tag (R283 to R287). -/

namespace Sys2Proof.Machine

variable {s t u v : State} {sl k jc : Nat}

/-! ### What a tributary's mapper gives (R265) -/

/-- From `s` to `t` a multiframe was begun: MFN has moved, and a free value and the mapper's frames may have been taken. -/
structure MultiframeBegun (sl k : Nat) (s t : State) : Prop where
  rest : ∃ d f l m, t = { s with dict := d, free := f, otn := { s.otn with taken := l, mapping := m } }
  ob : ∀ ix sub, sub < 256 → ¬ (ix = soduIx sl k ∧ sub = Sub.sodu_TX_MFN) → t.ob ix sub = s.ob ix sub
  oct : ∀ ix sub, t.oct ix sub = s.oct ix sub

namespace MultiframeBegun

theorem trans (h : MultiframeBegun sl k s t) (h' : MultiframeBegun sl k t u) : MultiframeBegun sl k s u where
  rest := by
    obtain ⟨_, _, _, _, rfl⟩ := h.rest
    obtain ⟨d, f, l, m, rfl⟩ := h'.rest
    exact ⟨d, f, l, m, rfl⟩
  ob ix sub hsub hne := (h'.ob ix sub hsub hne).trans (h.ob ix sub hsub hne)
  oct ix sub := (h'.oct ix sub).trans (h.oct ix sub)

theorem wire (h : MultiframeBegun sl k s t) : t.wire = s.wire := by obtain ⟨_, _, _, _, rfl⟩ := h.rest; rfl
theorem held (h : MultiframeBegun sl k s t) : t.held = s.held := by obtain ⟨_, _, _, _, rfl⟩ := h.rest; rfl
theorem cue (h : MultiframeBegun sl k s t) : t.cue = s.cue := by obtain ⟨_, _, _, _, rfl⟩ := h.rest; rfl
theorem asc (h : MultiframeBegun sl k s t) : t.asc = s.asc := by obtain ⟨_, _, _, _, rfl⟩ := h.rest; rfl
theorem sentTag (h : MultiframeBegun sl k s t) : t.otn.sentTag = s.otn.sentTag := by obtain ⟨_, _, _, _, rfl⟩ := h.rest; rfl

/-- Another object of a context than `TX_MFN`. -/
theorem sodu (h : MultiframeBegun sl k s t) {sub : Nat} (hsub : sub < 256) (hne : sub ≠ Sub.sodu_TX_MFN) :
    t.ob (soduIx sl k) sub = s.ob (soduIx sl k) sub := h.ob _ _ hsub fun e => hne e.2

theorem trib (h : MultiframeBegun sl k s t) {sub : Nat} (hsub : sub < 256) : t.ob (tribIx sl k) sub = s.ob (tribIx sl k) sub :=
  h.ob _ _ hsub fun ⟨e, _⟩ => by simp only [tribIx, soduIx, Ix.otn] at e; omega

theorem tribCueAt (h : MultiframeBegun sl k s t) : t.tribCueAt sl k = s.tribCueAt sl k := by
  rw [State.tribCueAt, h.cue, State.tribCueAt]

theorem keyAt (h : MultiframeBegun sl k s t) (i : Nat) : t.keyAt sl i = s.keyAt sl i := keyAt_congr h.asc sl i

theorem oduLive (h : MultiframeBegun sl k s t) (x : Nat) : t.oduLive sl x = s.oduLive sl x := by
  rw [State.oduLive, State.handleLive, h.keyAt, State.oduLive, State.handleLive]

theorem txKey (h : MultiframeBegun sl k s t) (p : Nat) : t.txKey sl k p = s.txKey sl k p := by
  unfold State.txKey
  split <;> exact h.sodu (by decide) (by decide)

theorem txIndex (h : MultiframeBegun sl k s t) (p : Nat) : t.txIndex sl k p = s.txIndex sl k p := by
  unfold State.txIndex
  split <;> exact h.sodu (by decide) (by decide)

theorem epochWord (h : MultiframeBegun sl k s t) (p : Nat) : t.epochWord sl k p = s.epochWord sl k p := by
  have hepoch : t.txEpoch sl k p = s.txEpoch sl k p := by
    unfold State.txEpoch
    split <;> exact h.sodu (by decide) (by decide)
  rw [State.epochWord, hepoch, h.sodu (by decide) (by decide), State.epochWord]

theorem oduHead (h : MultiframeBegun sl k s t) (jc : Nat) : t.oduHead sl k jc = s.oduHead sl k jc := by
  have hpt : t.ob (otnIx sl) Sub.otn_SODU_PT = s.ob (otnIx sl) Sub.otn_SODU_PT :=
    h.ob _ _ (by decide) fun e => absurd e.2 (by decide)
  rw [State.oduHead, State.expectedPt, h.oct, h.trib (by decide), h.trib (by decide), hpt, State.oduHead, State.expectedPt]

end MultiframeBegun

theorem mapOpu_begins (sl k jc : Nat) (s : State) : MultiframeBegun sl k s (s.mapOpu sl k jc).2 := by
  unfold State.mapOpu
  dsimp only
  split
  · exact { rest := ⟨s.dict, _, s.otn.taken, s.otn.mapping, rfl⟩, ob := fun _ _ _ _ => rfl, oct := fun _ _ => rfl }
  · exact { rest := ⟨s.dict, _, s.otn.taken, _, rfl⟩, ob := fun _ _ _ _ => rfl, oct := fun _ _ => rfl }

theorem mapOpu_mfn (sl k jc : Nat) (s : State) :
    (s.mapOpu sl k jc).2.ob (soduIx sl k) Sub.sodu_TX_MFN = s.ob (soduIx sl k) Sub.sodu_TX_MFN := by
  unfold State.mapOpu
  dsimp only
  split <;> rfl

/-- Where no performance point is held, the mapper holds no frame that the multiframe has taken. -/
theorem mapOpu_mapping (h : s.pointHold sl = false) (k jc : Nat) : mget [] (s.mapOpu sl k jc).2.otn.mapping (skey sl k) = [] := by
  simp [State.mapOpu, h, mget]

/-! ### A plain tributary (R273, R274) -/

theorem turnFrames_eq (sl k : Nat) (l : List (Bytes × Bool)) (s : State) : ∃ x, turnFrames sl k l s = { s with lanes := x } := by
  unfold turnFrames
  split
  · refine List.foldlRecOn (motive := fun u => ∃ x, u = { s with lanes := x }) l _ ⟨s.lanes, rfl⟩ fun u hu b _ => ?_
    obtain ⟨x, rfl⟩ := hu
    exact ⟨_, rfl⟩
  · exact ⟨s.lanes, rfl⟩

theorem multiframeBoundary_plain (hon : s.tribOn sl k = true) (hruns : s.sliceRuns sl = true) (hheld : s.blockHeld 3 sl = false)
    (hstandby : s.standby = false) (hmode : s.ob (tribIx sl k) Sub.trib_TRIB_MODE = 0) (jc : Nat) :
    multiframeBoundary sl k jc s = sendMultiframe sl k jc s := by
  simp [multiframeBoundary, hon, hruns, hheld, hstandby, hmode]

theorem sendMultiframe_held (hmode : s.ob (tribIx sl k) Sub.trib_TRIB_MODE = 0) (h : s.held = true) (jc : Nat) :
    sendMultiframe sl k jc s = sendAis sl k s := by
  rw [sendMultiframe, if_pos hmode, if_pos h]

/-- The mapper's payload goes out in the clear; near-end loops may turn frames around inside the part. -/
theorem sendMultiframe_plain (hmode : s.ob (tribIx sl k) Sub.trib_TRIB_MODE = 0) (h : s.held = false) (jc : Nat) :
    ∃ x, sendMultiframe sl k jc s =
      { sendOdu sl k (s.oduHead sl k jc) (zeros 1536) (s.mapOpu sl k jc).1 (s.mapOpu sl k jc).2 with lanes := x } := by
  obtain ⟨x, hx⟩ := turnFrames_eq sl k (mget [] s.otn.mapping (skey sl k))
    (sendOdu sl k (s.oduHead sl k jc) (zeros 1536) (s.mapOpu sl k jc).1 (s.mapOpu sl k jc).2)
  refine ⟨x, Eq.trans ?_ hx⟩
  simp only [sendMultiframe, if_pos hmode, h, Bool.false_eq_true, if_false, (mapOpu_begins sl k jc s).oduHead]

/-! What a tributary's ODU carries (R267, R273). -/

section Sending
variable (sl k : Nat) (h : OduHead) (oh payload : Bytes) (s : State)

theorem sendOdu_wire : (sendOdu sl k h oh payload s).wire = s.wire ++ [.multiframe sl k h oh payload] := rfl

theorem sendOdu_sending : mfind (sendOdu sl k h oh payload s).otn.sending (skey sl k) = some (some (h, oh, payload)) := by
  simp [sendOdu, mset]

theorem sendOdu_ob (ix sub : Nat) : (sendOdu sl k h oh payload s).ob ix sub = s.ob ix sub := rfl

theorem sendAis_wire : (sendAis sl k s).wire = s.wire ++ [.oduAis sl k] := rfl

theorem sendAis_sending : mfind (sendAis sl k s).otn.sending (skey sl k) = none := mfind_merase_self ..

end Sending

/-! ### A sealed tributary (R275 to R282) -/

/-- The MFN of the next multiframe: one higher, but for the first after a takeover, which has advanced it (R280, R282). -/
def State.nextMfn (s : State) (sl k : Nat) : Nat :=
  if s.otn.taken.contains (skey sl k) then s.ob (soduIx sl k) Sub.sodu_TX_MFN
  else (s.ob (soduIx sl k) Sub.sodu_TX_MFN + 1) % 2 ^ 64

section Mfn
variable (hbegun : s.otn.begun.contains (skey sl k) = true) (hs : s.shadow = false)
include hbegun hs

theorem mfnBoundary_begun : mfnBoundary sl k s =
    if s.otn.taken.contains (skey sl k) then { s with otn := { s.otn with taken := s.otn.taken.filter (· != skey sl k) } }
    else s.addOb (soduIx sl k) Sub.sodu_TX_MFN 64 1 := by
  simp only [mfnBoundary, hbegun, hs, Bool.false_eq_true, if_false, if_true]

theorem mfnBoundary_begins : MultiframeBegun sl k s (mfnBoundary sl k s) := by
  rw [mfnBoundary_begun hbegun hs]
  split
  · exact { rest := ⟨s.dict, s.free, _, s.otn.mapping, rfl⟩, ob := fun _ _ _ _ => rfl, oct := fun _ _ => rfl }
  · exact {
      rest := ⟨_, s.free, s.otn.taken, s.otn.mapping, rfl⟩
      ob := fun _ _ hsub hne => (State.ob_put (by decide) hsub).trans (if_neg hne)
      oct := fun _ _ => rfl }

theorem mfnBoundary_mfn : (mfnBoundary sl k s).ob (soduIx sl k) Sub.sodu_TX_MFN = s.nextMfn sl k := by
  rw [mfnBoundary_begun hbegun hs, State.nextMfn]
  split
  · rfl
  · exact State.ob_addOb_self ..

/-- The frames that the mapper holds do not hang on MFN. -/
theorem mfnBoundary_payload (jc : Nat) : ((mfnBoundary sl k s).mapOpu sl k jc).1 = (s.mapOpu sl k jc).1 := by
  have hbegins := mfnBoundary_begins hbegun hs
  have hmapping : (mfnBoundary sl k s).otn.mapping = s.otn.mapping ∧ (mfnBoundary sl k s).free = s.free := by
    rw [mfnBoundary_begun hbegun hs]
    split <;> exact ⟨rfl, rfl⟩
  have hhold : (mfnBoundary sl k s).pointHold sl = s.pointHold sl := by
    have hphase := hbegins.ob 0x0400 Sub.power_PP_PHASE (by decide) fun ⟨e, _⟩ => by simp only [soduIx, Ix.otn] at e; omega
    have hpwr : (mfnBoundary sl k s).pwr = s.pwr := by obtain ⟨_, _, _, _, e⟩ := hbegins.rest; rw [e]
    unfold State.pointHold
    rw [hphase, hpwr]
  have hdrained : (mfnBoundary sl k s).drained sl = s.drained sl := by obtain ⟨_, _, _, _, e⟩ := hbegins.rest; rw [e]; rfl
  simp only [State.mapOpu, hhold, hdrained, hmapping.1, hbegins.trib (sub := Sub.trib_TRIB_TYPE) (by decide),
    hbegins.trib (sub := Sub.trib_TRIB_SLOTS) (by decide), State.takeFree, hmapping.2]

end Mfn

theorem cueBoundary_idle (hq : Cue.state (s.tribCueAt sl k) ≠ 3) : cueBoundary sl k s = s := if_pos hq

theorem multiframeBoundary_sealed (hon : s.tribOn sl k = true) (hruns : s.sliceRuns sl = true) (hheld : s.blockHeld 3 sl = false)
    (hstandby : s.standby = false) (hmode : s.ob (tribIx sl k) Sub.trib_TRIB_MODE ≠ 0) (hs : s.shadow = false)
    (hq : Cue.state (s.tribCueAt sl k) ≠ 3) (hbegun : s.otn.begun.contains (skey sl k) = true) (jc : Nat) :
    multiframeBoundary sl k jc s = sendMultiframe sl k jc (mfnBoundary sl k s) := by
  have hbegins := mfnBoundary_begins hbegun hs
  have hstandby' : (mfnBoundary sl k s).standby = false := by
    have hpair : (mfnBoundary sl k s).pair = s.pair := by obtain ⟨_, _, _, _, e⟩ := hbegins.rest; rw [e]
    rw [State.standby, State.obB, State.obB, hpair, hbegins.ob _ _ (by decide) fun e => absurd e.2 (by decide),
      hbegins.ob _ _ (by decide) fun e => absurd e.2 (by decide)]
    exact hstandby
  simp [multiframeBoundary, hon, hruns, hheld, hmode, hs, hq, cueBoundary_idle hq, hstandby']

/-- The header of the multiframe that a context seals now (R275, R280). -/
def State.sealHeader (s : State) (sl k : Nat) : MfHeader :=
  let ph := s.ob (soduIx sl k) Sub.sodu_TX_PHASE
  ⟨s.ob (soduIx sl k) Sub.sodu_TX_MFN, ph, s.txIndex sl k ph, s.epochWord sl k ph⟩

/-- The handle of the key under which a context seals. -/
def State.sealHandle (s : State) (sl k : Nat) : Nat := s.txKey sl k (s.ob (soduIx sl k) Sub.sodu_TX_PHASE)

/-- The sealing overhead of a multiframe with this header: it announces the next key, and carries the tag of the multiframe before
(R276, R277). -/
def State.sealOver (s : State) (sl k : Nat) (h : MfHeader) : Bytes :=
  sealOverhead (Cue.countdown (s.tribCueAt sl k)) (Cue.nextIndex (s.tribCueAt sl k)) (s.epochWord sl k (1 - h.phase))
    (mget (zeros 16) s.otn.sentTag (skey sl k)) h

/-- The tag of a ciphertext under a header (R279). -/
def State.sealTag (s : State) (sl k : Nat) (key : KeyEntry) (h : MfHeader) (c : Bytes) : Bytes :=
  gcmTag key.octets key.h (sealIv h) (sealA (s.ob (soduIx sl k) Sub.sodu_CONTEXT_ID) h) c

theorem sealMultiframe_live (hlive : s.oduLive sl (s.sealHandle sl k) = true) (hheld : s.held = false)
    (hfault : s.cue.faulted.contains (skey sl k) = false) (jc : Nat) (payload : Bytes) :
    let key := s.keyAt sl (handleIndex (s.sealHandle sl k))
    let h := s.sealHeader sl k
    let c := gcmCrypt key.octets (sealIv h) payload
    sealMultiframe sl k jc payload s =
      (sendOdu sl k (s.oduHead sl k jc) (s.sealOver sl k h) c s).setSentTag sl k (s.sealTag sl k key h c) := by
  rw [State.sealHandle] at hlive
  simp only [sealMultiframe, hlive, hheld, hfault, if_true, Bool.not_true, Bool.or_self, Bool.false_eq_true, if_false]
  rfl

theorem setSentTag_sentTag (sl k : Nat) (b : Bytes) (s : State) :
    mfind (s.setSentTag sl k b).otn.sentTag (skey sl k) = some b := mfind_minsert_self ..

theorem setSentTag_wire (sl k : Nat) (b : Bytes) (s : State) : (s.setSentTag sl k b).wire = s.wire := rfl

theorem setSentTag_ob (sl k : Nat) (b : Bytes) (s : State) (ix sub : Nat) : (s.setSentTag sl k b).ob ix sub = s.ob ix sub := rfl

/-- What sealing reads does not hang on the mapper, and of MFN alone on the boundary. -/
theorem MultiframeBegun.sealHandle (h : MultiframeBegun sl k s t) : t.sealHandle sl k = s.sealHandle sl k := by
  rw [State.sealHandle, h.txKey, h.sodu (by decide) (by decide), State.sealHandle]

theorem MultiframeBegun.sealHeader (h : MultiframeBegun sl k s t) :
    t.sealHeader sl k = { s.sealHeader sl k with mfn := t.ob (soduIx sl k) Sub.sodu_TX_MFN } := by
  simp only [State.sealHeader, h.sodu (sub := Sub.sodu_TX_PHASE) (by decide) (by decide), h.txIndex, h.epochWord]

theorem MultiframeBegun.sealOver (h : MultiframeBegun sl k s t) (hd : MfHeader) : t.sealOver sl k hd = s.sealOver sl k hd := by
  rw [State.sealOver, h.tribCueAt, h.epochWord, h.sentTag, State.sealOver]

theorem MultiframeBegun.sealTag (h : MultiframeBegun sl k s t) (key : KeyEntry) (hd : MfHeader) (c : Bytes) :
    t.sealTag sl k key hd c = s.sealTag sl k key hd c := by
  rw [State.sealTag, h.sodu (by decide) (by decide), State.sealTag]

/-- A sealed multiframe at a boundary: its octets, and the tag kept for the next. -/
theorem sendMultiframe_sealed (hb : MultiframeBegun sl k s u) (hmode : s.ob (tribIx sl k) Sub.trib_TRIB_MODE ≠ 0)
    (hlive : s.oduLive sl (s.sealHandle sl k) = true) (hheld : s.held = false)
    (hfault : s.cue.faulted.contains (skey sl k) = false) (jc : Nat) :
    let key := s.keyAt sl (handleIndex (s.sealHandle sl k))
    let h : MfHeader := { s.sealHeader sl k with mfn := u.ob (soduIx sl k) Sub.sodu_TX_MFN }
    let c := gcmCrypt key.octets (sealIv h) (u.mapOpu sl k jc).1
    sendMultiframe sl k jc u =
      (sendOdu sl k (s.oduHead sl k jc) (s.sealOver sl k h) c (u.mapOpu sl k jc).2).setSentTag sl k (s.sealTag sl k key h c) := by
  have hmap := mapOpu_begins sl k jc u
  have hv := hb.trans hmap
  rw [sendMultiframe, if_neg fun h => hmode ((hb.trib (by decide)).symm.trans h),
    sealMultiframe_live (by rw [hv.oduLive, hv.sealHandle, hlive]) (hv.held.trans hheld) (by rw [hv.cue, hfault])]
  simp only [hv.sealHandle, hv.keyAt, hv.sealHeader, mapOpu_mfn, hv.oduHead, hv.sealOver, hv.sealTag]

/-! ### What the header of a received multiframe leaves alone (R283 to R285) -/

/-- From `s` to `t` a header has moved the receive state of a tributary: what went out stays, and no multiframe was counted as
outside LOCKED. -/
structure HeaderMoved (sl k : Nat) (s t : State) : Prop where
  wire : ∃ w, t.wire = s.wire ++ w
  unlocked : mget 0 t.cnt (Ctr.port (0x40 + 8 * sl + k) + Ctr.SODU_UNLOCKED_MF) =
    mget 0 s.cnt (Ctr.port (0x40 + 8 * sl + k) + Ctr.SODU_UNLOCKED_MF)

theorem HeaderMoved.trans (h : HeaderMoved sl k s t) (h' : HeaderMoved sl k t u) : HeaderMoved sl k s u where
  wire := by
    obtain ⟨w, hw⟩ := h.wire
    obtain ⟨w', hw'⟩ := h'.wire
    exact ⟨w ++ w', by rw [hw', hw, List.append_assoc]⟩
  unlocked := h'.unlocked.trans h.unlocked

theorem HeaderMoved.refl (s : State) : HeaderMoved sl k s s where
  wire := ⟨[], (List.append_nil _).symm⟩
  unlocked := rfl

theorem HeaderMoved.mem_wire (h : HeaderMoved sl k s t) {e : Emission} (he : e ∈ s.wire) : e ∈ t.wire := by
  obtain ⟨w, hw⟩ := h.wire
  exact hw ▸ List.mem_append_left w he

theorem DefectsMoved.header {P : Nat → Prop} (h : DefectsMoved P s t) : HeaderMoved sl k s t where
  wire := h.wire
  unlocked := by rw [h.cnt]

theorem soduBump_header (sl k : Nat) {c : Nat} (hc : c ≠ Ctr.SODU_UNLOCKED_MF) (s : State) :
    HeaderMoved sl k s (soduBump sl k c s) where
  wire := ⟨[], (List.append_nil _).symm⟩
  unlocked := State.bump_ne (by omega)

section Header
variable (sl k : Nat)

theorem putRx_header (v : SoduRx) (s : State) : HeaderMoved sl k s (s.putRx sl k v) where
  wire := ⟨[], (List.append_nil _).symm⟩
  unlocked := rfl

theorem put_header (ix sub n : Nat) (s : State) : HeaderMoved sl k s (s.put ix sub n) where
  wire := ⟨[], (List.append_nil _).symm⟩
  unlocked := rfl

theorem setRxState_header (n : Nat) (s : State) : HeaderMoved sl k s (s.setRxState sl k n) := by
  unfold State.setRxState
  exact (put_header ..).trans (setTribDefect_moves ..).header

theorem rxSearch_header (s : State) : HeaderMoved sl k s (rxSearch sl k s) := by
  unfold rxSearch
  exact (putRx_header ..).trans (setRxState_header ..)

theorem rxCandidate_header (o : Option MfHeader) (s : State) : HeaderMoved sl k s (rxCandidate sl k o s) := by
  cases o with
  | none => rw [rxCandidate]; exact rxSearch_header ..
  | some h => rw [rxCandidate]; exact (putRx_header ..).trans (setRxState_header ..)

theorem rxConfirm_header (r : MfRead) (s : State) : HeaderMoved sl k s (rxConfirm sl k r s) := by
  unfold rxConfirm
  split
  · split_ifs
    · exact (soduBump_header sl k (by decide) s).trans (rxCandidate_header ..)
    · exact rxCandidate_header ..
    · exact ((putRx_header ..).trans (put_header ..)).trans (setRxState_header ..)
    · exact rxCandidate_header ..
  · exact rxCandidate_header ..

theorem rxFollow_header (h : MfHeader) (r : MfRead) (s : State) : HeaderMoved sl k s (rxFollow sl k h r s) := by
  unfold rxFollow
  extract_lets v other count old ann wrong u
  have hcounted : HeaderMoved sl k s u := by
    unfold u
    split
    · exact soduBump_header sl k (by decide) s
    · exact .refl s
  clear_value u wrong ann
  refine hcounted.trans ?_
  split
  · exact putRx_header ..
  · split
    · exact (putRx_header ..).trans (put_header ..)
    · exact rxSearch_header ..

/-- The header of a multiframe counts what is wrong with it, and no more (R283 to R285). -/
theorem rxHeader_header (r : MfRead) (s : State) : HeaderMoved sl k s (rxHeader sl k r s) := by
  unfold rxHeader
  extract_lets role u stray
  have hrole : HeaderMoved sl k s u := by
    unfold u
    split
    · exact (setTribDefect_moves ..).header
    · exact .refl s
  refine hrole.trans ?_
  split
  · exact (soduBump_header sl k (by decide) u).trans (rxSearch_header ..)
  · split
    · exact rxConfirm_header ..
    · split
      · exact (soduBump_header sl k (by decide) u).trans (rxCandidate_header ..)
      · exact rxFollow_header ..
    · exact rxCandidate_header ..

end Header

/-! ### The overhead and the tag of a received multiframe (R278, R286, R287) -/

theorem sdwRange_take (oh : Bytes) : sdwRange (oh.take 48) 0 8 = sdwRange oh 0 8 := by
  have hframe : ∀ m ∈ List.range 8, goodFrame (oh.take 48) (0 + m) = goodFrame oh (0 + m) := fun m hm => by
    have hm8 : m < 8 := List.mem_range.1 hm
    have hsub : sub (oh.take 48) (6 * (0 + m)) 6 = sub oh (6 * (0 + m)) 6 := by
      simp only [sub, List.drop_take, List.take_take]
      congr 1
      omega
    simp only [goodFrame, hsub]
  exact List.foldl_ext _ _ _ fun _ m hm => by rw [hframe m hm]

theorem putRx_rxAt (sl k : Nat) (v : SoduRx) (s : State) : (s.putRx sl k v).rxAt sl k = v := mget_mset_self ..

theorem tagCheck_notDue (h : (s.rxAt sl k).due = none) (oh : Bytes) : tagCheck sl k oh s = s := by
  unfold tagCheck
  simp only [h]

/-- A tag that is due is checked with the first frames of the next multiframe, and is due no more (R286). -/
theorem tagCheck_due {h : MfHeader} {tag b oh : Bytes} (hdue : (s.rxAt sl k).due = some (h, tag)) (hb : sdwRange oh 0 8 = some b) :
    tagCheck sl k oh s =
      let u := s.putRx sl k { s.rxAt sl k with due := none }
      if b = tag then tagPassed sl k h (soduBump sl k Ctr.SODU_MF_OK u)
      else tagFailed sl k (soduBump sl k Ctr.SODU_TAG_FAIL u) := by
  unfold tagCheck
  simp only [hdue, hb]

/-- What a threshold of tags does to the TAG defect. -/
theorem tagDefect_moves (sl k : Nat) (c : Prop) [Decidable c] (on : Bool) (s : State) :
    DefectsMoved (· = tribIx sl k) s (if c then setTribDefect sl k 7 on s else s) := by
  split
  · exact setTribDefect_moves ..
  · exact .refl _ s

theorem tagFailed_due (sl k : Nat) (s : State) : ((tagFailed sl k s).rxAt sl k).due = (s.rxAt sl k).due := by
  unfold tagFailed
  rw [(tagDefect_moves ..).rxAt, putRx_rxAt]

theorem tagFailed_cnt (sl k : Nat) (s : State) : (tagFailed sl k s).cnt = s.cnt := by
  unfold tagFailed
  rw [(tagDefect_moves ..).cnt]
  rfl

section Passed
variable (sl k : Nat) (h : MfHeader) (s : State)

theorem tagPassed_due : ((tagPassed sl k h s).rxAt sl k).due = (s.rxAt sl k).due := by
  unfold tagPassed
  rw [(tagDefect_moves ..).rxAt]
  simp [State.putO, State.rxAt, State.putRx]

theorem tagPassed_cnt : (tagPassed sl k h s).cnt = s.cnt := by
  unfold tagPassed
  rw [(tagDefect_moves ..).cnt]
  rfl

/-- The record of R284 takes the header at its phase's place. -/
theorem tagPassed_lastGood : (tagPassed sl k h s).oct (soduIx sl k) Sub.sodu_RX_LAST_GOOD =
    patch (s.oct (soduIx sl k) Sub.sodu_RX_LAST_GOOD) (12 * h.phase) (sealIv h) := by
  unfold tagPassed
  rw [(tagDefect_moves ..).oct]
  exact State.oct_putO_self ..

end Passed

/-! ### A tributary that listens (R283 to R287) -/

section Hears
variable (hon : s.tribOn sl k = true) (hhears : s.sliceHears sl = true) (hgroup : s.groupHears sl = true)
  (hloop : s.nearLoop (0x40 + 8 * sl + k) = false)

include hloop in
theorem seenOverhead_pins (oh : Bytes) : s.seenOverhead sl k oh = oh := if_neg (by simp [hloop])

include hloop in
theorem seenPayload_pins (c : Bytes) : s.seenPayload sl k c = c := if_neg (by simp [hloop])

include hon hhears hgroup hloop

theorem soduTagCheck_hears (oh : Bytes) : soduTagCheck sl k oh s = tagCheck sl k (oh.take 48) s := by
  rw [soduTagCheck, hon, hhears, hgroup, seenOverhead_pins hloop]
  rfl

section Received
variable (hheld : s.blockHeld 3 sl = false) (hmode : s.ob (tribIx sl k) Sub.trib_TRIB_MODE ≠ 0) (hdue : (s.rxAt sl k).due = none)
include hheld hmode hdue

theorem soduReceived_locked {h : MfHeader} (hrx : s.ob (soduIx sl k) Sub.sodu_RX_STATE = 2) (hhead : (s.rxAt sl k).head = some h)
    (hopens : openMultiframe sl k h c s = some u) (oh : Bytes) : soduReceived sl k oh c s = rxHeader sl k (mfRead oh) u := by
  simp [soduReceived, hon, hhears, hgroup, hheld, hmode, seenOverhead_pins hloop, seenPayload_pins hloop, tagCheck_notDue hdue, hrx,
    hhead, hopens]

theorem soduReceived_unlocked (hrx : s.ob (soduIx sl k) Sub.sodu_RX_STATE ≠ 2) (oh c : Bytes) :
    soduReceived sl k oh c s = rxHeader sl k (mfRead oh) (soduBump sl k Ctr.SODU_UNLOCKED_MF s) := by
  simp [soduReceived, hon, hhears, hgroup, hheld, hmode, seenOverhead_pins hloop, tagCheck_notDue hdue, hrx]

end Received
end Hears

/-- In LOCKED, outside TSF, the multiframe's payload goes to the demapper in the clear (R260, R285). -/
theorem openMultiframe_demapped {h : MfHeader} (hlive : s.oduLive sl (s.rxKey sl k h.phase) = true) (htsf : s.tsf sl k = false)
    (c : Bytes) : ∃ u, openMultiframe sl k h c s = some u ∧
      .demapped sl k (gcmCrypt (s.keyAt sl (handleIndex (s.rxKey sl k h.phase))).octets (sealIv h) c) ∈ u.wire := by
  simp only [openMultiframe, hlive, htsf, Bool.not_true, Bool.false_eq_true, if_false]
  exact ⟨_, rfl, List.mem_append_right _ (List.mem_singleton_self _)⟩

/-- Settles O17: a multiframe to send by the tributary's mode, and one received by its receive state; then the tag that is due. -/
theorem sealedMultiframesPass : Obligations.SealedMultiframesPass := by
  refine ⟨fun s sl k jc hon hruns hheld hstandby => ⟨fun hh hmode => ?plain, fun hh hmode => ?ais,
      fun ph q key h payload hh hpayload hmode hs hph hq hq3 hfault hbegun hlive hkey hhead => ?sealed⟩,
    fun s sl k oh _ _ hon hhears hgroup hloop =>
      ⟨fun c h key hheld hmode hdue hrx hhead hlive hkey htsf => ?opened, fun c hheld hmode hdue hrx => ?unlocked,
        fun h tag hdue hgood => ?good, fun h tag b hdue hread hbad => ?bad⟩⟩
  case plain =>
    obtain ⟨x, hx⟩ := sendMultiframe_plain hmode hh jc (sl := sl) (k := k)
    refine ⟨_, congrArg Host.Outcome.next ((multiframeBoundary_plain hon hruns hheld hstandby hmode jc).trans hx), ?_,
      sendOdu_sending .., fun hp => mapOpu_mapping hp k jc⟩
    rw [← (mapOpu_begins sl k jc s).wire]
    exact sendOdu_wire ..
  case ais =>
    exact ⟨_, congrArg Host.Outcome.next ((multiframeBoundary_plain hon hruns hheld hstandby hmode jc).trans
      (sendMultiframe_held hmode hh jc)), sendAis_wire .., sendAis_sending ..⟩
  case sealed =>
    subst hph hq
    have hheader : h = { s.sealHeader sl k with mfn := s.nextMfn sl k } := hhead
    have hkeyAt : key = s.keyAt sl (handleIndex (s.sealHandle sl k)) := hkey
    have hbegins := mfnBoundary_begins hbegun hs
    have hsends := sendMultiframe_sealed hbegins hmode hlive hh hfault jc
    rw [mfnBoundary_mfn hbegun hs, mfnBoundary_payload hbegun hs, ← hpayload, ← hheader, ← hkeyAt] at hsends
    have hmaps := hbegins.trans (mapOpu_begins sl k jc _)
    refine ⟨_, congrArg Host.Outcome.next
      ((multiframeBoundary_sealed hon hruns hheld hstandby hmode hs hq3 hbegun jc).trans hsends), ?_, ?_, setSentTag_sentTag ..⟩
    · have hphase : h.phase = s.ob (soduIx sl k) Sub.sodu_TX_PHASE := congrArg MfHeader.phase hhead
      rw [setSentTag_wire, sendOdu_wire, hmaps.wire, State.sealOver, hphase]
    · rw [setSentTag_ob, sendOdu_ob, mapOpu_mfn, mfnBoundary_mfn hbegun hs, hheader]
  case opened =>
    subst hkey
    obtain ⟨u, hopens, hmem⟩ := openMultiframe_demapped hlive htsf c
    exact ⟨_, congrArg Host.Outcome.next (soduReceived_locked hon hhears hgroup hloop hheld hmode hdue hrx hhead hopens oh),
      (rxHeader_header ..).mem_wire hmem⟩
  case unlocked =>
    exact ⟨_, congrArg Host.Outcome.next (soduReceived_unlocked hon hhears hgroup hloop hheld hmode hdue hrx oh c),
      (rxHeader_header ..).unlocked.trans (State.bump_self _)⟩
  case good =>
    refine ⟨_, congrArg Host.Outcome.next ((soduTagCheck_hears hon hhears hgroup hloop oh).trans
      ((tagCheck_due hdue ((sdwRange_take oh).trans hgood)).trans (if_pos rfl))), ?_, tagPassed_lastGood .., tagPassed_cnt ..⟩
    exact (tagPassed_due ..).trans (congrArg SoduRx.due (putRx_rxAt ..))
  case bad =>
    refine ⟨_, congrArg Host.Outcome.next ((soduTagCheck_hears hon hhears hgroup hloop oh).trans
      ((tagCheck_due hdue ((sdwRange_take oh).trans hread)).trans (if_neg hbad))), ?_, tagFailed_cnt ..⟩
    exact (tagFailed_due ..).trans (congrArg SoduRx.due (putRx_rxAt ..))

end Sys2Proof.Machine
end

section
/-! The PPS_IN pin (R318): an edge is captured by the clock as it then was, which the statement takes to be the clock as it is. -/

namespace Sys2Proof.Machine

/-- A unit that runs, captures rising edges of PPS_IN, and has committed a step of 100 ns. -/
def stepCommitted : State :=
  { State.reset.put 0x3A01 Sub.pps_PPS_IN_ENABLE 1 with
    rst := { State.reset.rst with gap := false, step := 5, coresHeld := false, rstout := false }
    time := { State.reset.time with locked := true, step := some (2, 100) } }

/-- The unit when its step has been applied, in the same period. -/
def stepApplied : State := stepApply stepCommitted

theorem stepApplied_epoch : stepApplied.ob 0x3A00 Sub.clock_STEP_EPOCH = 1 := by decide +kernel

/-- An edge 2^-8 ns before the present instant came before the step, and its capture carries the epoch of that time (R318). -/
theorem ppsInEdge_stepApplied :
    (ppsInEdge (stepApplied.obB 0x3A01 Sub.pps_PPS_IN_EDGE) 1 stepApplied).ob 0x3A01 Sub.pps_PPS_IN_EPOCH = 0 := by
  decide +kernel

/-- Refutes O15: a PPS_IN edge is captured with the clock and the `STEP_EPOCH` of the instant of the edge, and
where a step of the clock was applied between the edge and the present instant, that is not the present `STEP_EPOCH`. -/
theorem not_timePinsWork : ¬ Obligations.TimePinsWork := by
  rintro ⟨_, hpins⟩
  obtain ⟨_, _, hcapture, _⟩ := hpins stepApplied
  obtain ⟨t, ht, _, _, hepoch, _⟩ := hcapture _ 1 _ (by decide +kernel) rfl rfl (by decide +kernel)
  obtain rfl : ppsInEdge _ 1 stepApplied = t := Host.Outcome.next.inj ht
  rw [ppsInEdge_stepApplied, stepApplied_epoch] at hepoch
  exact absurd hepoch (by decide)

end Sys2Proof.Machine
end

section
/-! The clock's steps and its rate (R297, R299 to R301): `TIME_OP` at its commit, a step and a written rate at their boundary. -/

namespace Sys2Proof.Machine

variable {s t u : State} {c : Caller}

@[simp] theorem State.time_noteCycle (c : Caller) (l : List Nat) (s : State) : (s.noteCycle c l).time = s.time := by
  cases c <;> rfl

/-! ### The end of an operation that started and ended in one period (R465) -/

theorem winBusy_noteCycle (c : Caller) (l : List Nat) (ix st : Nat) (s : State) :
    (s.noteCycle c l).winBusy ix st = s.winBusy ix st := by
  cases c <;> rfl

/-- The window is free again once the completion has been posted. -/
theorem rowWindowStart_idle {ix op st code : Nat} {act : State → State × Option Status} {stat : Status}
    (h : Starts s c ix op st code) (hact : act (s.put ix op code) = (u, some stat)) (hdue : u.due = s.due) :
    (rowWindowStart c ix op st code act s).post.winBusy ix st = false := by
  obtain ⟨⟨hw, hc⟩, hb, hu, hposts⟩ := h
  obtain ⟨hp, hrun⟩ := Prod.ext_iff.mp hdue
  have hp : u.acc.posts = [] := hp.trans hposts
  have hr : u.winBusy ix st = false := (congrArg (List.contains · (okey ix st)) hrun).trans hb
  have hrow : rowWindowStart c ix op st code act s
      = (((s.put ix op code).holdBack ix st stat u).noteCycle c [okey ix op]).complete c ix op .ok := by
    simp [rowWindowStart, rowWrite_ok hw hc, windowStart, hb, keepOwed_none hu, hact]
  obtain ⟨d, hpost, -⟩ := post_holdBack (s := s.put ix op code) (c := c) (op := op) (stat := stat) hp hr
  rw [hrow, complete_noteCycle, post_noteCycle, winBusy_noteCycle, hpost]
  exact hr

theorem PostedFrom.time {ix op st : Nat} {stat : Status} (h : PostedFrom u c ix op st stat t) : t.time = u.time := by
  obtain ⟨d, a, ht⟩ := h.rest
  rw [ht]

/-! ### `TIME_OP` at its commit (R299) -/

/-- A step that UNLOCKED takes waits for its boundary. -/
theorem timeStepCommit_unlocked (h : s.time.locked = false) (op : Nat) (arg : Int) : timeStepCommit op arg s =
    ({ s with time := { s.time with locked := true, step := some (op, arg) } }, none) := by
  simp [timeStepCommit, h]

theorem timeStepCommit_locked (h : s.time.locked = true) (op : Nat) (arg : Int) : timeStepCommit op arg s = (s, some .busy) :=
  if_pos h

/-- Whatever the state was, UNLOCK completes OK in UNLOCKED; what is due of the windows is not touched by its event. -/
theorem timeUnlock_unlocks (s : State) :
    ∃ u, timeUnlock s = (u, some .ok) ∧ u.time = { s.time with locked := false } ∧ u.due = s.due := by
  unfold timeUnlock
  split
  case isTrue => exact ⟨_, rfl, State.raise_time .., due_of_tables (raise_tables ..)⟩
  case isFalse h => exact ⟨s, rfl, by rw [← Bool.eq_false_of_not_eq_true h], rfl⟩

/-- A `TIME_OP` that commits a step in UNLOCKED locks the clock, and runs on until the step's boundary. -/
theorem rowTime_commits {code op : Nat} {arg : Int} {act : State → State × Option Status}
    (h : Starts s c 0x3A00 Sub.clock_TIME_OP Sub.clock_TIME_STATUS code) (hl : s.time.locked = false)
    (hact : act (s.put 0x3A00 Sub.clock_TIME_OP code) = timeStepCommit op arg (s.put 0x3A00 Sub.clock_TIME_OP code)) :
    (rowTime c code act s).post.time = { s.time with locked := true, step := some (op, arg) } ∧
      Ends (rowTime c code act s).post c 0x3A00 Sub.clock_TIME_OP Sub.clock_TIME_STATUS .busy := by
  rw [timeStepCommit_unlocked (by exact hl)] at hact
  obtain ⟨d, a, w, hpost, -, hends⟩ := rowWindowStart_runs h hact rfl
  refine ⟨?_, hends⟩
  rw [rowTime, hpost]
  rfl

/-! ### A step at its boundary (R264, R300) -/

/-- From `s` to `t`, the clock's value, the step that waits and the objects of the clock have stayed. -/
structure KeepsClock (s t : State) : Prop where
  now : t.time.now = s.time.now
  step : t.time.step = s.time.step
  ob : ∀ sub, sub < 256 → t.ob 0x3A00 sub = s.ob 0x3A00 sub

theorem KeepsClock.refl (s : State) : KeepsClock s s := ⟨rfl, rfl, fun _ _ => rfl⟩

theorem KeepsClock.trans (h : KeepsClock s t) (h' : KeepsClock t u) : KeepsClock s u where
  now := h'.now.trans h.now
  step := h'.step.trans h.step
  ob sub hsub := (h'.ob sub hsub).trans (h.ob sub hsub)

theorem KeepsClock.foldl {β : Type} {f : State → β → State} {l : List β} (h : ∀ u, ∀ b ∈ l, KeepsClock u (f u b))
    (s : State) : KeepsClock s (l.foldl f s) :=
  List.foldlRecOn (motive := KeepsClock s) l f (.refl s) fun u hu b hb => hu.trans (h u b hb)

/-- An object of another index is written. -/
theorem KeepsClock.put {ix sub : Nat} (h : KeepsClock s t) (hix : ix ≠ 0x3A00) (hsub : sub < 256) {v : Nat} :
    KeepsClock s (t.put ix sub v) :=
  h.trans ⟨rfl, rfl, fun _ hsub' => (State.ob_put hsub hsub').trans (if_neg fun k => hix k.1.symm)⟩

theorem latchLevel_keepsClock (sl level interval : Nat) {ix o : Nat} (hix : ix ≠ 0x3A00) (ho : o ≤ 0x10) (s : State) :
    KeepsClock s (latchLevel sl level ix o interval s) := by
  have hput {t : State} {v : Nat} (k : Nat) (hk : k ≤ 8) (h : KeepsClock s t) : KeepsClock s (t.put ix (k + o) v) :=
    h.put hix (by omega)
  unfold latchLevel
  exact hput Sub.tribPm_PM_INTERVAL_NS (by decide) <| hput Sub.tribPm_PM_SEQ (by decide) <|
    hput Sub.tribPm_FE_EB_TOTAL (by decide) <| hput Sub.tribPm_NE_EB_TOTAL (by decide) <|
    hput Sub.tribPm_FE_DS_LAST (by decide) <| hput Sub.tribPm_NE_DS_LAST (by decide) <|
    hput Sub.tribPm_FE_EB_LAST (by decide) <| hput Sub.tribPm_NE_EB_LAST (by decide) (.refl s)

/-- The objects that a slice's counts are latched into are none of the clock's. -/
theorem latchSlice_keepsClock (interval : Nat) {sl : Nat} (h : sl < 4) (s : State) : KeepsClock s (latchSlice interval s sl) := by
  have hpm : pmIx sl ≠ 0x3A00 := by simp only [pmIx, Ix.otn]; omega
  exact ((latchLevel_keepsClock _ _ _ hpm (by decide) _).trans (latchLevel_keepsClock _ _ _ hpm (by decide) _)).trans
    (.foldl (fun u t ht => latchLevel_keepsClock _ _ _
      (by simp only [tribPmIx, Ix.otn]; have := List.mem_range.mp ht; omega) (by decide) u) _)

/-- PPS_OUT follows the clock, and does not move it (R317). -/
theorem ppsRun_keepsClock (span : Nat) (s : State) : KeepsClock s (ppsRun span s) := by
  unfold ppsRun
  split <;> dsimp only
  all_goals
    split
    · exact ⟨rfl, rfl, fun _ _ => rfl⟩
    · split
      · exact ⟨rfl, rfl, fun _ _ => rfl⟩
      · split <;> exact ⟨rfl, rfl, fun _ _ => rfl⟩

theorem ppsEdge_keepsClock (stepped : Bool) (s : State) : KeepsClock s (State.ppsEdge stepped s) := by
  have hdue (w : Int) (t : State) : KeepsClock t (ppsRun 0 { t with time := { t.time with ppsWait := some w } }) := by
    have hset : KeepsClock t { t with time := { t.time with ppsWait := some w } } := ⟨rfl, rfl, fun _ _ => rfl⟩
    exact hset.trans (ppsRun_keepsClock ..)
  unfold State.ppsEdge
  dsimp only
  split
  · split
    · exact (hdue ..).trans (hdue ..)
    · exact hdue ..
  · exact hdue ..

/-- A one-second edge latches counts and drives PPS_OUT; it does not reach the clock (R263, R317). -/
theorem secondEdge_keepsClock (stepped : Bool) (s : State) : KeepsClock s (secondEdge stepped s) := by
  have hslices : KeepsClock s (((List.range 4).filter s.sliceOn).foldl
      (latchSlice ((s.ns + 2 ^ 64 - s.otn.edge) % 2 ^ 64)) s) :=
    .foldl (fun u sl hsl => latchSlice_keepsClock _ (List.mem_range.mp (List.mem_filter.mp hsl).1) u) _
  have hotn (t : State) (o : Otn) : KeepsClock t { t with otn := o } := ⟨rfl, rfl, fun _ _ => rfl⟩
  exact (hslices.trans (hotn ..)).trans (ppsEdge_keepsClock ..)

/-- The clock's value has stepped; how it ran until then is kept. -/
def State.clockStepped (op : Nat) (arg : Int) (s : State) : State :=
  { s.noteClock with time := { s.noteClock.time with
      now := steppedClock op arg s.time.now, step := none
      ppsWait := s.time.ppsWait.map (fun w => max 0 (w - stepSize op arg s.time.now * 2 ^ 32)) } }

/-- A step has been applied, but for the one-second edge that it may make. -/
def State.stepTaken (op : Nat) (arg : Int) (s : State) : State :=
  (((((s.clockStepped op arg).addOb 0x3A00 Sub.clock_STEP_EPOCH 8 1).addOb 0x3A00 Sub.clock_STEP_COUNT 32 1).put
    0x3A00 Sub.clock_LAST_STEP_NS (ofInt 8 (stepSize op arg s.time.now))).raise
      0x0801 0xFF (be 8 (ofInt 8 (stepSize op arg s.time.now)))).winEnd 0x3A00 Sub.clock_TIME_STATUS .ok

theorem stepTaken_now (op : Nat) (arg : Int) (s : State) : (s.stepTaken op arg).time.now = steppedClock op arg s.time.now := by
  rw [State.stepTaken, State.winEnd_time, State.raise_time]
  rfl

theorem stepTaken_step (op : Nat) (arg : Int) (s : State) : (s.stepTaken op arg).time.step = none := by
  rw [State.stepTaken, State.winEnd_time, State.raise_time]
  rfl

/-- The objects of the clock after a step. -/
theorem stepTaken_ob (op : Nat) (arg : Int) {sub : Nat} (h : sub < 256) (s : State) : (s.stepTaken op arg).ob 0x3A00 sub =
    if sub = Sub.clock_TIME_STATUS then Status.ok.code
    else if sub = Sub.clock_LAST_STEP_NS then ofInt 8 (stepSize op arg s.time.now)
    else if sub = Sub.clock_STEP_COUNT then (s.ob 0x3A00 Sub.clock_STEP_COUNT + 1) % 2 ^ 32
    else if sub = Sub.clock_STEP_EPOCH then (s.ob 0x3A00 Sub.clock_STEP_EPOCH + 1) % 2 ^ 8
    else s.ob 0x3A00 sub := by
  have hclock : ∀ sub, (s.clockStepped op arg).ob 0x3A00 sub = s.ob 0x3A00 sub := fun _ => rfl
  have hwin (t : State) : (t.winEnd 0x3A00 Sub.clock_TIME_STATUS .ok).ob 0x3A00 sub =
      (t.put 0x3A00 Sub.clock_TIME_STATUS Status.ok.code).ob 0x3A00 sub := rfl
  rw [State.stepTaken, hwin]
  simp (disch := decide) [State.ob_put, State.ob_put (h' := h), State.ob_raise h, State.addOb, hclock]

/-- `TIME_STEP_APPLY` takes the step, and makes a one-second edge of a change of the seconds (R264). -/
theorem stepApply_keepsClock {op : Nat} {arg : Int} (h : s.time.step = some (op, arg)) :
    ∃ e, KeepsClock (State.stepTaken op arg { s with otn := { s.otn with edge := e } }) (stepApply s) := by
  refine ⟨ofInt 8 ((s.otn.edge : Int) + stepSize op arg s.time.now), ?_⟩
  simp only [stepApply, timeStepApply, h]
  split
  · exact .refl _
  · exact secondEdge_keepsClock ..

/-! ### The clock's rate (R297, R301) -/

theorem incrWrite_accepts {v : Nat} (h : incrOk v = true) (s : State) :
    incrWrite v s = (({ s with time := { s.time with incrNext := some v } } : State).put 0x3A00 Sub.clock_INCR v, .ok) := if_pos h

theorem incrWrite_refuses {v : Nat} (h : incrOk v = false) (s : State) : incrWrite v s = (s, .range) := by
  simp only [incrWrite, h, Bool.false_eq_true, if_false]

theorem incrApply_next {v : Nat} (h : s.time.incrNext = some v) :
    incrApply s = { s.noteClock with time := { s.noteClock.time with incr := v, incrNext := none } } := by
  simp only [incrApply, h]

/-- Settles O19: `TIME_OP` at its commit, the step at its boundary, and the rate from its write to its boundary. -/
theorem clockStepsAndRate : Obligations.ClockStepsAndRate := by
  intro s c
  refine ⟨fun h hl => ⟨_, rfl, rowTime_commits h hl rfl⟩, fun h hl => ⟨_, rfl, rowTime_commits h hl ?offset⟩,
    fun h hl => ?busy, fun h => ?unlock, fun op arg hstep => ?apply, fun v ha hv => ?takes, fun v ha hv => ?refuses,
    fun v hv => ⟨_, congrArg Host.Outcome.next (incrApply_next hv), rfl⟩⟩
  case offset =>
    have hoffset : (s.put 0x3A00 Sub.clock_TIME_OP 2).obInt 8 0x3A00 Sub.clock_STEP_OFFSET_NS =
        s.obInt 8 0x3A00 Sub.clock_STEP_OFFSET_NS := congrArg (toInt 8) (State.ob_put_ne (by decide))
    rw [timeStepOffset, hoffset]
  case busy =>
    have hact := timeStepCommit_locked (s := s.put 0x3A00 Sub.clock_TIME_OP 1) hl 1
      ((fld (s.oct 0x3A00 Sub.clock_STEP_TIME) 0 6 * 10 ^ 9 + fld (s.oct 0x3A00 Sub.clock_STEP_TIME) 6 4 : Nat) : Int)
    have hpost := rowWindowStart_posts (act := timeStepSet) h hact rfl
    exact ⟨_, rfl, hpost.time, hpost.ends, rowWindowStart_idle (act := timeStepSet) h hact rfl⟩
  case unlock =>
    obtain ⟨u, hact, htime, hdue⟩ := timeUnlock_unlocks (s.put 0x3A00 Sub.clock_TIME_OP 3)
    have hpost := rowWindowStart_posts h hact hdue
    exact ⟨_, rfl, hpost.time.trans htime, hpost.ends⟩
  case apply =>
    obtain ⟨e, hkept⟩ := stepApply_keepsClock hstep
    refine ⟨_, rfl, hkept.now.trans (stepTaken_now ..), hkept.step.trans (stepTaken_step ..), ?_, ?_, ?_, ?_⟩ <;>
      exact (hkept.ob _ (by decide)).trans (stepTaken_ob _ _ (by decide) _)
  case takes =>
    refine ⟨_, congrArg Host.Outcome.next (rowWrite_takes ha (incrWrite_accepts hv s)), ?_, ?_, reports_complete ..⟩
    · rw [State.complete_time, State.time_noteCycle]
      rfl
    · rw [State.ob_complete, State.ob_noteCycle, State.ob_put_self]
  case refuses => exact congrArg Host.Outcome.next (rowWrite_refuses ha (incrWrite_refuses hv s) (by decide))

end Sys2Proof.Machine
end

section
/-! Operations that leave the fuses and the queue of commands alone, in the order of the model's files: one equation each
about `State.root`, for `simp`. What is not here burns fuses, or ends a transition; the next section has those. -/

namespace Sys2Proof.Machine

/-! ### Writes, windows and answers (`Ops`) -/

@[simp] theorem State.put_root (ix sub v) (s : State) : (s.put ix sub v).root = s.root := State.root_mk ..

@[simp] theorem State.putO_root (ix sub v) (s : State) : (s.putO ix sub v).root = s.root := State.root_mk ..

@[simp] theorem State.addOb_root (ix sub w n) (s : State) : (s.addOb ix sub w n).root = s.root := State.root_mk ..

@[simp] theorem State.bump_root (c) (s : State) : (s.bump c).root = s.root := State.root_mk ..

@[simp] theorem State.emit_root (e) (s : State) : (s.emit e).root = s.root := State.root_mk ..

@[simp] theorem State.takeFree_root (s : State) : (s.takeFree).2.root = s.root := State.root_mk ..

@[simp] theorem State.mark_root (k) (s : State) : (s.mark k).root = s.root := State.root_mk ..

@[simp] theorem State.putSess_root (k x) (s : State) : (s.putSess k x).root = s.root := State.root_mk ..

@[simp] theorem State.logEventAt_root (ns code slice items) (s : State) : (s.logEventAt ns code slice items).2.root = s.root :=
  State.root_mk ..

@[simp] theorem State.logEvent_root (code slice items) (s : State) :
    (s.logEvent code slice items).2.root = s.root := State.root_mk ..

@[simp] theorem State.notify_root (k r) (s : State) : (s.notify k r).root = s.root := by
  unfold State.notify
  dsimp only
  repeat' split
  all_goals simp

@[simp] theorem State.eventsLost_root (n) (s : State) : (s.eventsLost n).root = s.root := State.root_mk ..

@[simp] theorem State.raiseAt_root (ns code slice items) (s : State) : (s.raiseAt ns code slice items).root = s.root := by
  simp [State.raiseAt, State.root_foldl]

@[simp] theorem State.raise_root (code slice items) (s : State) : (s.raise code slice items).root = s.root := by simp [State.raise]

@[simp] theorem State.raiseTo_root (k code slice items) (s : State) : (s.raiseTo k code slice items).root = s.root := by
  simp [State.raiseTo]

@[simp] theorem State.alarm_root (src detail) (s : State) : (s.alarm src detail).root = s.root := by simp [State.alarm]

@[simp] theorem State.complete_root (c ix sub st) (s : State) : (s.complete c ix sub st).root = s.root := State.root_mk ..

@[simp] theorem State.finish_root (who ix sub st) (s : State) : (s.finish who ix sub st).root = s.root := by simp [State.finish]

@[simp] theorem objectWrite_root (c ix sub v) (act : State → State × Status) (s : State) (h : ∀ u, (act u).1.root = u.root) :
    (objectWrite c ix sub v act s).1.root = s.root := by
  unfold objectWrite
  split <;> simp [h]

@[simp] theorem orWait_root (c ix sub v) (act : State → State) (s : State) (h : ∀ u, (act u).root = u.root) :
    (orWait c ix sub v act s).root = s.root := by
  simp [orWait, h]

@[simp] theorem State.noteCycle_root (c l) (s : State) :
    (s.noteCycle c l).root = s.root := by unfold State.noteCycle; split <;> simp

@[simp] theorem rowWrite_root (c ix sub v) (act : State → State × Status) (s : State) (h : ∀ u, (act u).1.root = u.root) :
    (rowWrite c ix sub v act s).root = s.root := by
  simp [rowWrite, h]

@[simp] theorem rowLate_root (c ix sub_ v) (act : State → State × Option Status) (s : State) (h : ∀ u, (act u).1.root = u.root) :
    (rowLate c ix sub_ v act s).root = s.root :=
  orWait_root _ _ _ _ _ _ fun u => by
    have hact := h u
    split
    · split <;> rename_i hr <;> simp_all
    · simp

@[simp] theorem State.winEnd_root (ix stSub st) (s : State) : (s.winEnd ix stSub st).root = s.root := State.root_mk ..

@[simp] theorem State.winRun_root (ix stSub) (s : State) : (s.winRun ix stSub).root = s.root := State.root_mk ..

@[simp] theorem State.holdBack_root (ix stSub st) (s t : State) : (s.holdBack ix stSub st t).root = t.root := by
  simp [State.holdBack]

@[simp] theorem State.postOne_root (p) (s : State) : (s.postOne p).root = s.root := State.root_mk ..

@[simp] theorem State.post_root (s : State) : s.post.root = s.root := by simp [State.post, State.root_foldl]

@[simp] theorem keepOwed_root (ix stSub) (s : State) : (keepOwed ix stSub s).root = s.root := by simp [keepOwed]

@[simp] theorem windowOp_root (ix opSub stSub code) (act : State → State × Status) (s : State) (h : ∀ u, (act u).1.root = u.root) :
    (windowOp ix opSub stSub code act s).1.root = s.root := by
  unfold windowOp
  split <;> simp [h]

@[simp] theorem windowStart_root (ix opSub stSub code) (act : State → State × Option Status) (s : State)
    (h : ∀ u, (act u).1.root = u.root) : (windowStart ix opSub stSub code act s).1.root = s.root := by
  unfold windowStart
  split
  · rfl
  · have hact := h ((keepOwed ix stSub s).put ix opSub code)
    dsimp only
    split <;> rename_i hr <;> simp_all

@[simp] theorem State.retry_root (ix sub) (r : State × Status) : (State.retry ix sub r).1.root = r.1.root := State.root_mk ..

@[simp] theorem rowWindow_root (c ix opSub stSub code) (act : State → State × Status) (s : State) (h : ∀ u, (act u).1.root = u.root) :
    (rowWindow c ix opSub stSub code act s).root = s.root := by
  simp [rowWindow, h]

@[simp] theorem rowWindowStart_root (c ix opSub stSub code) (act : State → State × Option Status) (s : State) (h : ∀ u, (act u).1.root = u.root) :
    (rowWindowStart c ix opSub stSub code act s).root = s.root := by
  simp [rowWindowStart, h]

/-! ### Lanes (`Lanes`) -/

@[simp] theorem State.showLane_root (was : State) (m) (s : State) : (was.showLane m s).root = s.root := by
  unfold State.showLane; split <;> simp

@[simp] theorem State.setNow_root (m v) (s : State) : (s.setNow m v).root = s.root := by simp [State.setNow]

@[simp] theorem State.setGoal_root (m g) (s : State) : (s.setGoal m g).root = s.root := State.root_mk ..

@[simp] theorem State.startTx_root (m) (s : State) : (s.startTx m).root = s.root := by simp [State.startTx]

@[simp] theorem State.abortScan_root (m) (s : State) : (s.abortScan m).root = s.root := by simp [State.abortScan]

@[simp] theorem txStateWrite_root (m v) (s : State) : (txStateWrite m v s).1.root = s.root := by unfold txStateWrite; split <;> simp

@[simp] theorem State.synceSelect_root (was) (s : State) : (s.synceSelect was).root = s.root := by simp [State.synceSelect]

@[simp] theorem losLane_root (m) (s : State) : (losLane m s).root = s.root := by simp [losLane]

@[simp] theorem State.rxReport_root (m signal lock) (s : State) :
    (s.rxReport m signal lock).root = s.root := by simp [State.rxReport]

@[simp] theorem State.dropLock_root (m) (s : State) : (s.dropLock m).root = s.root := by simp [State.dropLock]

@[simp] theorem State.rxKeep_root (m) (s : State) : (s.rxKeep m).root = s.root := by simp [State.rxKeep]

@[simp] theorem State.rxSettle_root (m) (s : State) : (s.rxSettle m).root = s.root := by simp [State.rxSettle]

@[simp] theorem State.setRx_root (m v) (s : State) : (s.setRx m v).root = s.root := by simp [State.setRx]

@[simp] theorem rxStateWrite_root (m v) (s : State) : (rxStateWrite m v s).1.root = s.root := by unfold rxStateWrite; split <;> simp

@[simp] theorem openEnd_root (m) (s : State) : (openEnd m s).root = s.root := by unfold openEnd; split <;> simp

@[simp] theorem exitIdle_root (m) (s : State) : (exitIdle m s).root = s.root := by simp [exitIdle]

@[simp] theorem reachGoal_root (m g ns) (s : State) : (reachGoal m g ns s).root = s.root := by simp [reachGoal]

@[simp] theorem heldRxApply_root (m) (s : State) : (heldRxApply m s).root = s.root := by unfold heldRxApply; split <;> simp

@[simp] theorem heldTxApply_root (m) (s : State) : (heldTxApply m s).root = s.root := by unfold heldTxApply; split <;> simp

@[simp] theorem applyHeld_root (m) (s : State) : (applyHeld m s).root = s.root := by simp [applyHeld]

@[simp] theorem State.settleLane_root (m) (s : State) : (s.settleLane m).root = s.root := by unfold State.settleLane; split <;> simp

@[simp] theorem State.settleLanes_root (s : State) : s.settleLanes.root = s.root := by simp [State.settleLanes, State.root_foldl]

@[simp] theorem transitionEnd_root (m ns) (s : State) :
    (transitionEnd m ns s).root = s.root := by unfold transitionEnd; split <;> simp

@[simp] theorem rateWrite_root (m v) (s : State) : (rateWrite m v s).1.root = s.root := by
  unfold rateWrite
  repeat' split
  all_goals simp

@[simp] theorem prbsGenWrite_root (m v) (s : State) : (prbsGenWrite m v s).1.root = s.root := by unfold prbsGenWrite; split <;> simp

@[simp] theorem prbsChkWrite_root (m v) (s : State) : (prbsChkWrite m v s).1.root = s.root := by unfold prbsChkWrite; split <;> simp

@[simp] theorem State.checkLanes_root (s : State) : s.checkLanes.root = s.root := by simp [State.checkLanes, State.root_foldl]

@[simp] theorem laneWrite_root (m sub v) (s : State) : (laneWrite m sub v s).1.root = s.root := by
  unfold laneWrite
  repeat' split
  all_goals simp

@[simp] theorem scanStart_root (m) (s : State) : (scanStart m s).1.root = s.root := by unfold scanStart; split <;> simp

@[simp] theorem scanAbort_root (m) (s : State) : (scanAbort m s).1.root = s.root := by simp [scanAbort]

@[simp] theorem scanDone_root (m errors) (s : State) : (scanDone m errors s).root = s.root := by simp [scanDone]

@[simp] theorem scanWrite_root (m sub v) (s : State) : (scanWrite m sub v s).1.root = s.root := by
  unfold scanWrite
  repeat' split
  all_goals simp

@[simp] theorem State.characterise_root (m) (s : State) : (s.characterise m).root = s.root := State.root_mk ..

@[simp] theorem portUse_root (m v) (s : State) : (portUse m v s).1.root = s.root := by
  unfold portUse
  repeat' split
  all_goals simp

@[simp] theorem portEnable_root (m v) (s : State) : (portEnable m v s).1.root = s.root := by unfold portEnable; split <;> simp

@[simp] theorem portWrite_root (m sub v) (s : State) : (portWrite m sub v s).1.root = s.root := by
  unfold portWrite
  repeat' split
  all_goals simp

@[simp] theorem State.loopBack_root (m b cut) (s : State) : (s.loopBack m b cut).root = s.root := State.root_mk ..

@[simp] theorem sendOut_root (m e b cut) (s : State) : (sendOut m e b cut s).root = s.root := by
  unfold sendOut
  repeat' split
  all_goals simp

@[simp] theorem State.emitFill_root (m) (s : State) : (s.emitFill m).root = s.root := State.root_mk ..

@[simp] theorem seeLanes_root (m signal lock) (s : State) :
    (seeLanes m signal lock s).root = s.root := by simp [seeLanes, State.root_foldl]

@[simp] theorem linkFaultChange_root (m st signal lock) (s : State) : (linkFaultChange m st signal lock s).root = s.root := by
  simp [linkFaultChange, State.root_foldl]

@[simp] theorem fecSerWindow_root (m errors) (s : State) : (fecSerWindow m errors s).root = s.root := by simp [fecSerWindow]

/-! ### Table entries (`Entries`) -/

@[simp] theorem State.putSecy_root (sl i e) (s : State) : (s.putSecy sl i e).root = s.root := State.root_mk ..

@[simp] theorem State.putTxsc_root (sl i e) (s : State) : (s.putTxsc sl i e).root = s.root := State.root_mk ..

@[simp] theorem State.putRxsc_root (sl i e) (s : State) : (s.putRxsc sl i e).root = s.root := State.root_mk ..

@[simp] theorem State.putSa_root (sl i e) (s : State) : (s.putSa sl i e).root = s.root := State.root_mk ..

@[simp] theorem State.putKey_root (sl i e) (s : State) : (s.putKey sl i e).root = s.root := State.root_mk ..

@[simp] theorem State.abump_root (table sl i n k) (s : State) : (s.abump table sl i n k).root = s.root := State.root_mk ..

@[simp] theorem State.azero_root (table sl i) (s : State) : (s.azero table sl i).root = s.root := State.root_mk ..

@[simp] theorem sliceOp_root (sl) (act : State → State × Status) (s : State) (h : ∀ u, (act u).1.root = u.root) :
    (sliceOp sl act s).1.root = s.root := by
  unfold sliceOp
  split <;> simp [h]

/-! ### The clock (`Time`) -/

@[simp] theorem State.noteClock_root (s : State) : s.noteClock.root = s.root := State.root_mk ..

@[simp] theorem timeStepCommit_root (op arg) (s : State) : (timeStepCommit op arg s).1.root = s.root := by
  unfold timeStepCommit
  split <;> simp

@[simp] theorem timeStepSet_root (s : State) : (timeStepSet s).1.root = s.root := by simp [timeStepSet]

@[simp] theorem timeStepOffset_root (s : State) : (timeStepOffset s).1.root = s.root := by simp [timeStepOffset]

@[simp] theorem timeUnlock_root (s : State) : (timeUnlock s).1.root = s.root := by unfold timeUnlock; split <;> simp

@[simp] theorem timeOp_root (code) (s : State) : (timeOp code s).1.root = s.root := by unfold timeOp; split <;> simp

@[simp] theorem timeStepApply_root (edge : State → State) (s : State) (h : ∀ u, (edge u).root = u.root) :
    (timeStepApply edge s).root = s.root := by
  unfold timeStepApply
  split <;> simp [h]

@[simp] theorem incrWrite_root (v) (s : State) : (incrWrite v s).1.root = s.root := by unfold incrWrite; split <;> simp

@[simp] theorem incrApply_root (s : State) : (incrApply s).root = s.root := by unfold incrApply; split <;> simp

@[simp] theorem ppsRun_root (span) (s : State) : (ppsRun span s).root = s.root := by unfold ppsRun; dsimp only; split <;> simp

@[simp] theorem State.period_root (s : State) : s.period.root = s.root := by simp [State.period]

@[simp] theorem State.ppsEdge_root (stepped) (s : State) : (s.ppsEdge stepped).root = s.root := by simp [State.ppsEdge]

@[simp] theorem ppsPulseEnd_root (s : State) : (ppsPulseEnd s).root = s.root := by simp [ppsPulseEnd]

@[simp] theorem ppsDiscipline_root (prev cap) (s : State) : (ppsDiscipline prev cap s).root = s.root := by
  unfold ppsDiscipline
  repeat' split
  all_goals simp

@[simp] theorem ppsInEdge_root (falling lag) (s : State) : (ppsInEdge falling lag s).root = s.root := by simp [ppsInEdge]

@[simp] theorem synceSwitch_root (m signal locked) (s : State) :
    (synceSwitch m signal locked s).root = s.root := by simp [synceSwitch]

@[simp] theorem synceWrite_root (sub_ n) (s : State) : (synceWrite sub_ n s).1.root = s.root := by simp [synceWrite]

@[simp] theorem fupStore_root (sl p e) (s : State) : (fupStore sl p e s).root = s.root := by simp [fupStore]

@[simp] theorem tc_root (c p b o udp tin ein tout) (s : State) : (tc c p b o udp tin ein tout s).2.root = s.root := by
  unfold tc
  extract_lets sl cnt mode ty fix
  have hcnt (k : Nat) (u : State) : (cnt k u).root = u.root := State.bump_root ..
  have hfix (r : Int) (k : Nat) (u : State) : (fix r k u).2.root = u.root := by
    simp only [fix]; split <;> simp [hcnt]
  split_ifs
  any_goals simp only [hcnt]
  · simp
  · exact hfix ..
  · split
    · simp [hfix]
    · simp [hcnt]

@[simp] theorem fupTimeout_root (sl open_ i) (s : State) : (fupTimeout sl open_ i s).root = s.root := by simp [fupTimeout]

@[simp] theorem clockWrite_root (sub_ v) (s : State) : (clockWrite sub_ v s).1.root = s.root := by
  unfold clockWrite
  repeat' split
  all_goals simp

@[simp] theorem rowTime_root (c code) (act : State → State × Option Status) (s : State) (h : ∀ u, (act u).1.root = u.root) :
    (rowTime c code act s).root = s.root := by
  simp [rowTime, h]

/-! ### Tags (`Tags`) -/

@[simp] theorem drawTag_root (sl p t0) (s : State) : (drawTag sl p t0 s).2.root = s.root := by unfold drawTag; split <;> simp

@[simp] theorem State.tagWrite_root (mk) (s : State) : (s.tagWrite mk).root = s.root := by
  unfold State.tagWrite
  dsimp only
  repeat' split
  all_goals simp

@[simp] theorem tagEnd_root (sl p ctr f) (s : State) : (tagEnd sl p ctr f s).root = s.root := by unfold tagEnd; split <;> simp

@[simp] theorem discardAs_root (sl p ctr f) (s : State) : (discardAs sl p ctr f s).root = s.root := by simp [discardAs]

/-! ### Admission, policers and queues (`Tm`) -/

@[simp] theorem State.putQueue_root (sl p i e) (s : State) : (s.putQueue sl p i e).root = s.root := State.root_mk ..

@[simp] theorem State.putGroup_root (sl p i e) (s : State) : (s.putGroup sl p i e).root = s.root := State.root_mk ..

@[simp] theorem State.putAdm_root (sl p i e) (s : State) : (s.putAdm sl p i e).root = s.root := State.root_mk ..

@[simp] theorem State.putHeld_root (sl p i l) (s : State) : (s.putHeld sl p i l).root = s.root := State.root_mk ..

@[simp] theorem State.qbump_root (sl p q n k) (s : State) : (s.qbump sl p q n k).root = s.root := State.root_mk ..

@[simp] theorem State.qset_root (sl p q n v) (s : State) : (s.qset sl p q n v).root = s.root := State.root_mk ..

@[simp] theorem State.pbump_root (sl i n k) (s : State) : (s.pbump sl i n k).root = s.root := State.root_mk ..

@[simp] theorem State.putPol_root (sl i e) (s : State) : (s.putPol sl i e).root = s.root := State.root_mk ..

@[simp] theorem polColour_root (sl i) (s : State) : (polColour sl i s).2.root = s.root := State.root_mk ..

@[simp] theorem polDebit_root (sl i colour len l) (s : State) : (polDebit sl i colour len l s).root = s.root := by simp [polDebit]

@[simp] theorem State.moveCells_root (take sl p ip tc cls n) (s : State) : (s.moveCells take sl p ip tc cls n).root = s.root := by
  simp [State.moveCells]

@[simp] theorem State.chargePacer_root (sl p n w) (s : State) : (s.chargePacer sl p n w).root = s.root := State.root_mk ..

@[simp] theorem sendPause_root (sl p ip tc quanta) (s : State) : (sendPause sl p ip tc quanta s).root = s.root := by
  unfold sendPause
  split <;> simp

@[simp] theorem flowClass_root (sl p ip t sc hc) (s : State) : (flowClass sl p ip t sc hc s).root = s.root := by simp [flowClass]

@[simp] theorem flowOff_root (sl p ip t) (s : State) : (flowOff sl p ip t s).root = s.root := by simp [flowOff]

@[simp] theorem flowUpdate_root (sl p ip) (s : State) :
    (flowUpdate sl p ip s).root = s.root := by simp [flowUpdate, State.root_foldl]

@[simp] theorem flowSettle_root (m) (s : State) : (flowSettle m s).root = s.root := by simp [flowSettle]

@[simp] theorem pauseRefresh_root (m) (s : State) : (pauseRefresh m s).root = s.root := by simp [pauseRefresh, State.root_foldl]

@[simp] theorem admitFrame_root (sl p q ip c f) (s : State) : (admitFrame sl p q ip c f s).root = s.root := by simp [admitFrame]

@[simp] theorem returnCells_root (sl p f) (s : State) : (returnCells sl p f s).root = s.root := by simp [returnCells]

@[simp] theorem cellsReturn_root (sl open_) (s : State) : (cellsReturn sl open_ s).root = s.root := by
  unfold cellsReturn
  dsimp only
  split <;> simp

theorem dequeueNode_root {sl n : Nat} {p : Pipe} {f : Frm} {s u : State} (h : dequeueNode sl p n s = some (f, u)) :
    u.root = s.root := by
  unfold dequeueNode at h
  dsimp only at h
  split at h
  · cases h
  split at h
  · cases h
  split at h
  · cases h
  · simp only [Option.some.injEq, Prod.mk.injEq] at h
    simp [← h.2, State.root_foldl]

@[simp] theorem chargeFrame_root (sl p f) (s : State) : (chargeFrame sl p f s).root = s.root := by
  unfold chargeFrame
  simp only
  rw [State.chargePacer_root]
  split
  · rw [State.root_mk, State.root_eta, State.putGroup_root, State.putQueue_root]
  · rw [State.putGroup_root, State.putQueue_root]

@[simp] theorem State.leave_root (sl p f) (s : State) : (s.leave sl p f).root = s.root := State.root_mk ..

@[simp] theorem schedule_root (sl p verify) (serve : Frm → State → State) (s : State) (h : ∀ f u, (serve f u).root = u.root) :
    (schedule sl p verify serve s).root = s.root := by
  unfold schedule
  dsimp only
  split
  · rfl
  split
  · rename_i hd
    rw [h, State.root_mk, State.root_eta]
    exact dequeueNode_root hd
  · rfl

@[simp] theorem bucketRefill_root (sl open_ kind i) (s : State) : (bucketRefill sl open_ kind i s).root = s.root := by
  unfold bucketRefill
  dsimp only
  split <;> simp

@[simp] theorem sampleVisit_root (sl open_) (s : State) : (sampleVisit sl open_ s).root = s.root := by simp [sampleVisit]

@[simp] theorem restartLast_root (old : State) (sl) (s : State) : (restartLast old sl s).root = s.root := State.root_mk ..

@[simp] theorem tmRead_root (sl) (s : State) : (tmRead sl s).1.root = s.root := by unfold tmRead; dsimp only; split <;> simp

@[simp] theorem tmWrite_root (sl) (s : State) : (tmWrite sl s).1.root = s.root := by
  unfold tmWrite
  dsimp only
  repeat' split
  all_goals simp

@[simp] theorem tmReadCounters_root (sl) (s : State) : (tmReadCounters sl s).1.root = s.root := by
  unfold tmReadCounters
  dsimp only
  repeat' split
  all_goals simp

@[simp] theorem tmTimed_root (sl) (act : State → State × Status) (s : State) (h : ∀ u, (act u).1.root = u.root) :
    (tmTimed sl act s).1.root = s.root := by
  simp [tmTimed, h]

@[simp] theorem tmOp_root (sl code) (s : State) : (tmOp sl code s).1.root = s.root := by unfold tmOp; split <;> simp

@[simp] theorem fillNode_root (sl p n) (s : State) : (fillNode sl p n s).root = s.root := State.root_mk ..

@[simp] theorem fillNodes_root (s : State) : (fillNodes s).root = s.root := by simp [fillNodes, State.root_foldl]

@[simp] theorem tmPortWrite_root (sl p n sub_ v) (s : State) : (tmPortWrite sl p n sub_ v s).1.root = s.root := by
  unfold tmPortWrite
  dsimp only
  repeat' split
  all_goals simp

@[simp] theorem rowTm_root (c sl code) (act : State → State × Status) (s : State) (h : ∀ u, (act u).1.root = u.root) :
    (rowTm c sl code act s).root = s.root :=
  rowWindow_root _ _ _ _ _ _ _ fun _ => sliceOp_root _ _ _ fun _ => tmTimed_root _ _ _ h

/-! ### The tether (`Tether`) -/

@[simp] theorem tetherWord_root (s : State) : (tetherWord s).root = s.root := by simp [tetherWord]

@[simp] theorem State.tetherWords_root (s : State) : s.tetherWords.root = s.root := by simp [State.tetherWords]

@[simp] theorem tetherOne_root (kind payload) (s : State) : (tetherOne kind payload s).root = s.root := State.root_mk ..

@[simp] theorem tetherSend_root (kind payload) (s : State) : (tetherSend kind payload s).root = s.root := by
  simp [tetherSend, State.root_foldl]

@[simp] theorem setPairState_root (v) (s : State) : (setPairState v s).root = s.root := by simp [setPairState]

@[simp] theorem cutCmd_root (s : State) : (cutCmd s).root = s.root := by unfold cutCmd; split <;> simp

@[simp] theorem tetherCut_root (s : State) : (tetherCut s).root = s.root := by simp [tetherCut]

@[simp] theorem firmwareSay_root (m) (s : State) : (firmwareSay m s).root = s.root := by simp [firmwareSay]

@[simp] theorem mirror_root (m) (s : State) : (mirror m s).root = s.root := by simp [mirror]

@[simp] theorem cueSync_root (sl records) (s : State) : (cueSync sl records s).root = s.root := by simp [cueSync]

/-! ### Cues (`Cues`) -/

@[simp] theorem State.putCue_root (sl i e) (s : State) : (s.putCue sl i e).root = s.root := State.root_mk ..

@[simp] theorem State.putTribCue_root (sl t e) (s : State) : (s.putTribCue sl t e).root = s.root := State.root_mk ..

@[simp] theorem State.putWatch_root (sl i e) (s : State) : (s.putWatch sl i e).root = s.root := State.root_mk ..

@[simp] theorem State.clearFlags_root (k) (s : State) : (s.clearFlags k).root = s.root := State.root_mk ..

@[simp] theorem State.markFired_root (k) (s : State) : (s.markFired k).root = s.root := by simp [State.markFired]

@[simp] theorem State.markPosted_root (k) (s : State) : (s.markPosted k).root = s.root := State.root_mk ..

@[simp] theorem cueLog_root (sl kind late byFire entry from_ to_ pn tag) (s : State) :
    (cueLog sl kind late byFire entry from_ to_ pn tag s).2.root = s.root :=
  State.root_mk ..

@[simp] theorem cueReport_root (sl kind code late byFire entry from_ to_ pn tag) (s : State) :
    (cueReport sl kind code late byFire entry from_ to_ pn tag s).root = s.root := by
  simp [cueReport]

@[simp] theorem cueCommit_root (sl i) (s : State) : (cueCommit sl i s).root = s.root := by
  unfold cueCommit
  extract_lets q sc old oldSa newSa pn s1 s2 s3 s4 q' s5 s6
  have h1 : s1.root = s.root := by simp only [s1, pn]; split <;> simp
  have h2 : s2.root = s.root := by
    simp only [s2]
    clear_value oldSa
    split <;> simp [h1]
  have h3 : s3.root = s.root := (State.putSa_root ..).trans h2
  have h4 : s4.root = s.root := (State.putTxsc_root ..).trans h3
  have h5 : s5.root = s.root := (State.addOb_root ..).trans ((State.putCue_root ..).trans h4)
  exact (cueSync_root ..).trans ((cueReport_root ..).trans h5)

@[simp] theorem cueNotReady_root (sl i) (s : State) : (cueNotReady sl i s).root = s.root := by
  unfold cueNotReady; dsimp only; split <;> simp only [State.putCue_root, State.markPosted_root, cueReport_root]

@[simp] theorem cueTest_root (sl i) (s : State) : (cueTest sl i s).root = s.root := by simp [cueTest]

@[simp] theorem cueTrigger_root (sl i) (s : State) : (cueTrigger sl i s).root = s.root := by simp [cueTrigger]

@[simp] theorem cuesTest_root (sl) (s : State) : (cuesTest sl s).root = s.root := by simp [cuesTest, State.root_foldl]

@[simp] theorem State.takeCommit_root (sl c) (s : State) : (s.takeCommit sl c).root = s.root := State.root_mk ..

@[simp] theorem State.pastCommits_root (s : State) : s.pastCommits.root = s.root := State.root_mk ..

@[simp] theorem cueCycle_root (sl j) (s : State) : (cueCycle sl j s).root = s.root := by simp [cueCycle, State.root_foldl]

@[simp] theorem cuePn_root (sl i c) (s : State) : (cuePn sl i c s).root = s.root := by simp [cuePn]

@[simp] theorem watchStart_root (sl i an) (s : State) : (watchStart sl i an s).root = s.root := by simp [watchStart]

@[simp] theorem watchRetire_root (sl i f) (s : State) : (watchRetire sl i f s).root = s.root := by
  unfold watchRetire; dsimp only; split <;> simp only [State.addOb_root, State.putSa_root, State.putWatch_root, cueReport_root]

@[simp] theorem retireDelayEnd_root (sl i) (s : State) : (retireDelayEnd sl i s).root = s.root := by simp [retireDelayEnd]

@[simp] theorem tribCueTest_root (sl t) (s : State) : (tribCueTest sl t s).root = s.root := by simp [tribCueTest]

@[simp] theorem tribCueTrigger_root (sl t) (s : State) : (tribCueTrigger sl t s).root = s.root := by simp [tribCueTrigger]

@[simp] theorem cueTimeTrigger_root (sl trib i) (s : State) : (cueTimeTrigger sl trib i s).root = s.root := by simp [cueTimeTrigger]

@[simp] theorem cuesIdle_root (s : State) : (cuesIdle s).root = s.root := by simp [cuesIdle, State.root_foldl]

@[simp] theorem cwRead_root (sl) (s : State) : (cwRead sl s).1.root = s.root := by
  unfold cwRead
  dsimp only
  repeat' split
  all_goals simp

@[simp] theorem setCue_root (table sl i img) (s : State) :
    (setCue table sl i img s).root = s.root := by unfold setCue; split <;> simp

@[simp] theorem armTx_root (sl i img) (s : State) : (armTx sl i img s).1.root = s.root := by
  unfold armTx
  dsimp only
  repeat' split
  all_goals simp

@[simp] theorem armTrib_root (sl t) (s : State) : (armTrib sl t s).1.root = s.root := by
  unfold armTrib
  dsimp only
  repeat' split
  all_goals simp

@[simp] theorem armWatch_root (sl i img) (s : State) : (armWatch sl i img s).1.root = s.root := by
  unfold armWatch
  dsimp only
  repeat' split
  all_goals simp

@[simp] theorem cwArm_root (sl) (s : State) : (cwArm sl s).1.root = s.root := by
  unfold cwArm
  dsimp only
  repeat' split
  all_goals simp

@[simp] theorem cancelTx_root (sl i) (s : State) :
    (cancelTx sl i s).1.root = s.root := by unfold cancelTx; dsimp only; split <;> simp

@[simp] theorem cwCancel_root (sl) (s : State) : (cwCancel sl s).1.root = s.root := by
  unfold cwCancel
  dsimp only
  repeat' split
  all_goals simp

@[simp] theorem fireTx_root (sl i) (s : State) : (fireTx sl i s).1.root = s.root := by unfold fireTx; dsimp only; split <;> simp

@[simp] theorem cwFire_root (sl) (s : State) : (cwFire sl s).1.root = s.root := by
  unfold cwFire
  dsimp only
  repeat' split
  all_goals simp

@[simp] theorem cwOp_root (sl code) (s : State) : (cwOp sl code s).1.root = s.root := by unfold cwOp; split <;> simp

@[simp] theorem rowCw_root (c sl code) (act : State → State × Status) (s : State) (h : ∀ u, (act u).1.root = u.root) :
    (rowCw c sl code act s).root = s.root := by
  simp [rowCw, h]

/-! ### The hitch table (`Hitch`) -/

@[simp] theorem State.putSlot_root (sl i e) (s : State) : (s.putSlot sl i e).root = s.root := State.root_mk ..

@[simp] theorem readSlot_root (sl i) (s : State) :
    (readSlot sl i s).2.root = s.root := by unfold readSlot; dsimp only; split <;> simp

@[simp] theorem readSlots_root (sl l) (s : State) : (readSlots sl l s).2.root = s.root :=
  State.root_foldl_snd (by intro p i; exact readSlot_root ..) l _

@[simp] theorem State.noteLearn_root (sl i) (s : State) : (s.noteLearn sl i).root = s.root := State.root_mk ..

@[simp] theorem hitchGroup_root (c ctr) (s : State) : (hitchGroup c ctr s).2.root = s.root := by
  unfold hitchGroup
  dsimp only
  split <;> simp

@[simp] theorem hitchLookup_root (c vid da) (s : State) : (hitchLookup c vid da s).2.root = s.root := by
  unfold hitchLookup
  dsimp only
  repeat' split
  all_goals simp

@[simp] theorem postLearn_root (sl r) (s : State) : (postLearn sl r s).root = s.root := by simp [postLearn]

@[simp] theorem learnOutcome_root (sl r mgmt) (s : State) : (learnOutcome sl r mgmt s).root = s.root := by
  unfold learnOutcome
  dsimp only
  repeat' split
  all_goals simp

@[simp] theorem learnStep_root (sl overlap) (s : State) :
    (learnStep sl overlap s).root = s.root := by unfold learnStep; split <;> simp

@[simp] theorem sweepStart_root (sl) (s : State) : (sweepStart sl s).root = s.root := by simp [sweepStart]

@[simp] theorem sweepSlot_root (sl skip i) (s : State) : (sweepSlot sl skip s i).root = s.root := by simp [sweepSlot]

@[simp] theorem sweepVisit_root (sl overlap) (s : State) :
    (sweepVisit sl overlap s).root = s.root := by simp [sweepVisit, State.root_foldl]

@[simp] theorem ageTick_root (sl) (s : State) : (ageTick sl s).root = s.root := by simp [ageTick]

@[simp] theorem State.twResult_root (sl i e) (s : State) : (s.twResult sl i e).root = s.root := State.root_mk ..

@[simp] theorem State.twKeyResult_root (sl e) (s : State) : (s.twKeyResult sl e).root = s.root := State.root_mk ..

@[simp] theorem twLookup_root (sl) (s : State) : (twLookup sl s).1.root = s.root := by
  unfold twLookup
  dsimp only
  repeat' split
  all_goals simp

@[simp] theorem State.putStatic_root (sl i key e) (s : State) : (s.putStatic sl i key e).root = s.root := State.root_mk ..

@[simp] theorem installStatic_root (sl port vid mac secy) (s : State) : (installStatic sl port vid mac secy s).1.root = s.root := by
  unfold installStatic
  dsimp only
  repeat' split
  all_goals simp

theorem installStatic_root_of {sl port vid mac secy : Nat} {s t : State} {o : Option Nat}
    (h : installStatic sl port vid mac secy s = (t, o)) : t.root = s.root :=
  (congrArg (·.1.root) h).symm.trans (installStatic_root ..)

@[simp] theorem twInsert_root (sl) (s : State) : (twInsert sl s).1.root = s.root := by
  unfold twInsert
  dsimp only
  split
  · rfl
  split
  · rfl
  split <;> rename_i h <;> simp [installStatic_root_of h]

@[simp] theorem State.removeSlot_root (sl i key) (s : State) : (s.removeSlot sl i key).root = s.root := State.root_mk ..

@[simp] theorem twDelete_root (sl) (s : State) : (twDelete sl s).1.root = s.root := by
  unfold twDelete
  dsimp only
  repeat' split
  all_goals simp

@[simp] theorem twRead_root (sl) (s : State) : (twRead sl s).1.root = s.root := by
  unfold twRead
  dsimp only
  repeat' split
  all_goals simp

@[simp] theorem nextValid_root (sl i l) (s : State) : (nextValid sl i l s).2.root = s.root := by
  induction l generalizing s with
  | nil => rfl
  | cons x l ih =>
    simp only [nextValid]
    split
    · exact ih s
    · split <;> simp [ih]

@[simp] theorem twNext_root (sl) (s : State) : (twNext sl s).1.root = s.root := by
  have hn := nextValid_root sl (s.ob (twIx sl) Sub.twWin_TW_INDEX) (s.hitchEntries sl) s
  unfold twNext
  split <;> rename_i h <;> rw [h] at hn <;> simpa using hn

@[simp] theorem twHash_root (sl) (s : State) : (twHash sl s).1.root = s.root := by unfold twHash; split <;> simp

@[simp] theorem twFlush_root (sl) (s : State) : (twFlush sl s).1.root = s.root := by simp [twFlush, State.root_foldl]

@[simp] theorem twOp_root (sl code) (s : State) : (twOp sl code s).1.root = s.root := by unfold twOp; split <;> simp

@[simp] theorem staticReinstall_root (sl i) (s : State) : (staticReinstall sl i s).root = s.root := by
  unfold staticReinstall
  split
  · split
    · rfl
    · dsimp only
      split
      · rename_i h
        exact (installStatic_root_of h).trans (State.root_mk ..)
      · rfl
  · rfl

@[simp] theorem hitchWrite_root (sl sub v) (s : State) : (hitchWrite sl sub v s).1.root = s.root := by
  unfold hitchWrite
  dsimp only
  repeat' split
  all_goals simp

@[simp] theorem hitchPortWrite_root (c sub n) (s : State) : (hitchPortWrite c sub n s).1.root = s.root := by
  unfold hitchPortWrite
  repeat' split
  all_goals simp

@[simp] theorem rowTw_root (c sl code) (act : State → State × Status) (s : State) (h : ∀ u, (act u).1.root = u.root) :
    (rowTw c sl code act s).root = s.root := by
  simp [rowTw, h]

/-! ### Associations (`Assoc`) -/

@[simp] theorem heldRelease_root (sl i) (s : State) : (heldRelease sl i s).root = s.root := by simp [heldRelease]

@[simp] theorem refsMove_root (up sl h) (s : State) : (refsMove up sl h s).root = s.root := by simp [refsMove]

@[simp] theorem keyScrub_root (sl fault) (s : State) : (keyScrub sl fault s).root = s.root := by simp [keyScrub]

@[simp] theorem saFault_root (sl i) (s : State) : (saFault sl i s).root = s.root := by simp [saFault]

@[simp] theorem saRead_root (sl i ecc) (s : State) : (saRead sl i ecc s).root = s.root := by simp [saRead]

@[simp] theorem threshold_root (sl i pn) (s : State) : (threshold sl i pn s).2.root = s.root := by
  unfold threshold
  dsimp only
  split <;> simp

@[simp] theorem assignPn_root (sl i) (s : State) : (assignPn sl i s).2.2.root = s.root := by simp [assignPn]

@[simp] theorem commitPn_root (sl i pn) (s : State) : (commitPn sl i pn s).root = s.root := by simp [commitPn]

@[simp] theorem awRead_root (sl ecc) (s : State) : (awRead sl ecc s).1.root = s.root := by
  unfold awRead
  dsimp only
  repeat' split
  all_goals simp

@[simp] theorem awFindSci_root (sl) (s : State) : (awFindSci sl s).1.root = s.root := by unfold awFindSci; split <;> simp

@[simp] theorem awFree_root (sl) (s : State) : (awFree sl s).1.root = s.root := by
  unfold awFree
  dsimp only
  repeat' split
  all_goals simp

@[simp] theorem awReadCounters_root (sl) (s : State) : (awReadCounters sl s).1.root = s.root := by
  unfold awReadCounters
  dsimp only
  split <;> simp

@[simp] theorem saCommit_root (sl i old e) (s : State) : (saCommit sl i old e s).root = s.root := by
  unfold saCommit
  dsimp only
  repeat' split
  all_goals simp

@[simp] theorem awCommit_root (sl t i old e) (s : State) :
    (awCommit sl t i old e s).root = s.root := by unfold awCommit; split <;> simp

@[simp] theorem awSync_root (sl t i old e) (s : State) : (awSync sl t i old e s).root = s.root := by simp [awSync]

@[simp] theorem awWrite_root (sl ecc) (s : State) : (awWrite sl ecc s).1.root = s.root := by
  unfold awWrite
  dsimp only
  repeat' split
  all_goals simp

@[simp] theorem awDelete_root (sl) (s : State) : (awDelete sl s).1.root = s.root := by
  unfold awDelete
  dsimp only
  repeat' split
  all_goals simp

@[simp] theorem awRemove_root (sl t i) (s : State) : (awRemove sl t i s).root = s.root := by unfold awRemove; split <;> simp

@[simp] theorem awDeleteDone_root (sl) (s : State) : (awDeleteDone sl s).root = s.root := by unfold awDeleteDone; split <;> simp

@[simp] theorem linePortWrite_root (sl p sub_ n) (s : State) : (linePortWrite sl p sub_ n s).1.root = s.root := by
  unfold linePortWrite
  dsimp only
  repeat' split
  all_goals simp

@[simp] theorem awTimed_root (sl) (act : State → State × Status) (s : State) (h : ∀ u, (act u).1.root = u.root) :
    (awTimed sl act s).1.root = s.root := by
  unfold awTimed
  split <;> simp [h]

@[simp] theorem awDeleteTimed_root (sl) (s : State) : (awDeleteTimed sl s).1.root = s.root := by
  unfold awDeleteTimed awTimed
  dsimp only
  split <;> simp

@[simp] theorem awOp_root (sl code) (s : State) : (awOp sl code s).1.root = s.root := by
  have htimed {r : State × Status} (h : r.1.root = s.root) : (awTimed sl (fun _ => r) s).1.root = s.root := by
    unfold awTimed
    split <;> simp [h]
  unfold awOp
  split
  · rfl
  · dsimp only
    split <;> simp [htimed]

@[simp] theorem rowAw_root (c sl code) (act : State → State × Status) (s : State) (h : ∀ u, (act u).1.root = u.root) :
    (rowAw c sl code act s).root = s.root := by
  simp [rowAw, h]

/-! ### The engine and its frames (`Engine`) -/

@[simp] theorem State.setPipe_root (sl p v) (s : State) : (s.setPipe sl p v).root = s.root := State.root_mk ..

@[simp] theorem State.setRoles_root (sl p r) (s : State) : (s.setRoles sl p r).root = s.root := State.root_mk ..

@[simp] theorem State.putCheck_root (sl p c) (s : State) : (s.putCheck sl p c).root = s.root := State.root_mk ..

@[simp] theorem State.putQueue'_root (sl p l) (s : State) : (s.putQueue' sl p l).root = s.root := State.root_mk ..

@[simp] theorem State.putEgress_root (sl p l) (s : State) : (s.putEgress sl p l).root = s.root := State.root_mk ..

@[simp] theorem Egress.cutAt_root (sl ctr w e) (s : State) : (Egress.cutAt sl ctr w e s).2.root = s.root := by
  unfold Egress.cutAt
  split <;> simp

@[simp] theorem catchSealed_root (sl at_ e) (s : State) :
    (catchSealed sl at_ e s).2.root = s.root := by unfold catchSealed; split <;> simp

@[simp] theorem eachEgress_root (f : Egress → State → Egress × State) (l) (s : State) (h : ∀ e u, (f e u).2.root = u.root) :
    (eachEgress f l s).2.root = s.root := by
  induction l generalizing s with
  | nil => rfl
  | cons e l ih => exact (ih _).trans (h e s)

@[simp] theorem State.catchAll_root (sl p at_) (s : State) :
    (s.catchAll sl p at_).root = s.root := by unfold State.catchAll; split <;> simp

@[simp] theorem beginCheck_root (sl p at_ c) (s : State) : (beginCheck sl p at_ c s).root = s.root := by simp [beginCheck]

@[simp] theorem startCheck_root (sl p pos guard at_) (s : State) :
    (startCheck sl p pos guard at_ s).root = s.root := by simp [startCheck]

@[simp] theorem guardCheck_root (sl pos at_) (s : State) :
    (guardCheck sl pos at_ s).root = s.root := by unfold guardCheck; split <;> simp

@[simp] theorem auditFound_root (sl p pos at_) (s : State) : (auditFound sl p pos at_ s).root = s.root := by simp [auditFound]

@[simp] theorem auditMismatch_root (sl p pos) (s : State) : (auditMismatch sl p pos s).root = s.root := by
  unfold auditMismatch
  split <;> simp

@[simp] theorem resumePipe_root (sl p) (s : State) :
    (resumePipe sl p s).root = s.root := by unfold resumePipe; dsimp only; split <;> simp

@[simp] theorem engineEvent_root (code sl p pos at_) (s : State) :
    (engineEvent code sl p pos at_ s).root = s.root := by simp [engineEvent]

@[simp] theorem stopPipe_root (sl p pos at_) (s : State) : (stopPipe sl p pos at_ s).root = s.root := by simp [stopPipe]

@[simp] theorem fence_root (sl p r) (s : State) : (fence sl p r s).root = s.root := by simp [fence]

@[simp] theorem checkResult_root (sl p c corePass audPass) (s : State) : (checkResult sl p c corePass audPass s).root = s.root := by
  unfold checkResult
  dsimp only
  split <;> simp

@[simp] theorem coreVerdict_root (sl p corePass audPass) (s : State) : (coreVerdict sl p corePass audPass s).root = s.root := by
  unfold coreVerdict
  split <;> simp

@[simp] theorem coreRetest_root (sl p) (s : State) : (coreRetest sl p s).1.root = s.root := by
  unfold coreRetest
  repeat' split
  all_goals simp

@[simp] theorem startPipe_root (sl p mask) (s : State) : (startPipe sl p mask s).root = s.root := by simp [startPipe]

@[simp] theorem wakePipe_root (sl p mask) (s : State) : (wakePipe sl p mask s).root = s.root := by simp [wakePipe]

@[simp] theorem retestRunning_root (sl p mask) (s : State) : (retestRunning sl p mask s).root = s.root := by
  simp [retestRunning, State.root_foldl]

@[simp] theorem retestComplete_root (sl p mask) (s : State) : (retestComplete sl p mask s).root = s.root := by
  unfold retestComplete
  split <;> simp

@[simp] theorem State.audits_root (s : State) : s.audits.root = s.root := by simp [State.audits, State.root_foldl]

@[simp] theorem pipeWrite_root (sl p sub_ n) (s : State) :
    (pipeWrite sl p sub_ n s).1.root = s.root := by unfold pipeWrite; split <;> simp

/-! ### The MAC (`Mac`) -/

@[simp] theorem State.setPause_root (m prio quanta) (s : State) : (s.setPause m prio quanta).root = s.root := State.root_mk ..

@[simp] theorem pauseAct_root (m b) (s : State) : (pauseAct m b s).root = s.root := by simp [pauseAct, State.root_foldl]

@[simp] theorem pauseExpiry_root (m prios) (s : State) :
    (pauseExpiry m prios s).root = s.root := by simp [pauseExpiry, State.root_foldl]

@[simp] theorem sendFrame_root (m cut b) (s : State) : (sendFrame m cut b s).root = s.root := by simp [sendFrame]

@[simp] theorem farEnd_root (m b) (s : State) : (farEnd m b s).root = s.root := by simp [farEnd]

/-! ### Seal (`Seal`) -/

@[simp] theorem takeWords_root (sl p seg c n) (s : State) : (takeWords sl p seg c n s).2.root = s.root := State.root_mk ..

@[simp] theorem joinEgress_root (sl p e) (s : State) : (joinEgress sl p e s).root = s.root := State.root_mk ..

@[simp] theorem sealColour_root (c f) (s : State) : (sealColour c f s).root = s.root := by
  unfold sealColour
  extract_lets sl f' r
  have hr : r.2.root = s.root := by simp only [r]; split <;> simp
  split
  · simp [hr]
  · exact (State.root_mk ..).trans hr

@[simp] theorem sealEnter_root (c f) (s : State) : (sealEnter c f s).root = s.root := by
  unfold sealEnter
  dsimp only
  repeat' split
  all_goals simp

@[simp] theorem clientFrame_root (c b pcs lag) (s : State) : (clientFrame c b pcs lag s).root = s.root := by
  unfold clientFrame
  dsimp only
  repeat' split
  all_goals simp

@[simp] theorem frameAdmit_root (sl) (s : State) : (frameAdmit sl s).root = s.root := by
  unfold frameAdmit
  repeat' split
  all_goals simp

@[simp] theorem sealDrop_root (sl ctr f) (s : State) : (sealDrop sl ctr f s).root = s.root := by simp [sealDrop]

@[simp] theorem cipher_root (sl d base ev y sa pn k i l f) (s : State) : (cipher sl d base ev y sa pn k i l f s).root = s.root :=
  State.root_mk ..

@[simp] theorem sealFetch_root (sl d base ev i y f) (s : State) : (sealFetch sl d base ev i y f s).root = s.root := by
  unfold sealFetch
  dsimp only
  split <;> simp

@[simp] theorem sealCharge_root (sl d base ev f) (s : State) : (sealCharge sl d base ev f s).root = s.root := by
  unfold sealCharge
  repeat' split
  all_goals simp

@[simp] theorem tcFrame_root (c p f tout) (s : State) : (tcFrame c p f tout s).2.root = s.root := by unfold tcFrame; split <;> simp

@[simp] theorem sealServe_root (sl j ev f) (s : State) : (sealServe sl j ev f s).root = s.root := by
  unfold sealServe
  dsimp only
  repeat' split
  all_goals simp

@[simp] theorem sealDequeue_root (sl j ev) (s : State) : (sealDequeue sl j ev s).root = s.root :=
  schedule_root _ _ _ _ _ fun _ _ => sealServe_root ..

@[simp] theorem mapIn_root (sl t cut b) (s : State) : (mapIn sl t cut b s).root = s.root := by simp [mapIn]

@[simp] theorem sendLine_root (sl n cut b) (s : State) : (sendLine sl n cut b s).root = s.root := by simp [sendLine]

@[simp] theorem sendOwn_root (n e b) (s : State) : (sendOwn n e b s).root = s.root := by simp [sendOwn]

@[simp] theorem sendCut_root (sl e b) (s : State) : (sendCut sl e b s).root = s.root := by simp [sendCut]

@[simp] theorem guardTrip_root (sl i b) (s : State) : (guardTrip sl i b s).root = s.root := by unfold guardTrip; split <;> simp

@[simp] theorem findingActs_root (sl x) (s : State) : (findingActs sl x s).root = s.root := by unfold findingActs; split <;> simp

@[simp] theorem countSealed_root (sl e) (s : State) : (countSealed sl e s).root = s.root := by unfold countSealed; split <;> simp

@[simp] theorem sealLeave_root (sl e) (s : State) : (sealLeave sl e s).root = s.root := by
  unfold sealLeave
  repeat' split
  all_goals simp

@[simp] theorem leaveEgress_root (sl p) (leave : Egress → State → State) (c) (s : State) (h : ∀ x0 u, (leave x0 u).root = u.root) :
    (leaveEgress sl p leave c s).root = s.root := by
  simp [leaveEgress, State.root_foldl, h]

@[simp] theorem sealEgress_root (sl c) (s : State) : (sealEgress sl c s).root = s.root := by simp [sealEgress, State.root_foldl]

@[simp] theorem cutEgress_root (sl p) (act : Egress → Bytes → State → State) (s : State) (h : ∀ e b u, (act e b u).root = u.root) :
    (cutEgress sl p act s).root = s.root :=
  (State.root_foldl (fun u e => by split <;> simp [h]) _ _).trans (State.putEgress_root ..)

/-! ### Open (`Open`) -/

@[simp] theorem planPlain_root (sl t b) (s : State) : (planPlain sl t b s).2.root = s.root := by unfold planPlain; split <;> simp

@[simp] theorem openEnter_root (m b bad lag ecc) (s : State) : (openEnter m b bad lag ecc s).root = s.root := by
  unfold openEnter
  dsimp only
  repeat' split
  all_goals simp

@[simp] theorem lineFrame_root (m b pcs lag overrun ecc) (s : State) : (lineFrame m b pcs lag overrun ecc s).root = s.root := by
  unfold lineFrame
  split
  · rfl
  extract_lets sl s1 v s2 enter
  have h1 : s1.root = s.root := by simp only [s1]; split <;> simp
  have h2 : s2.root = s.root := (State.bump_root ..).trans h1
  have henter (k : Nat) (u : State) : (enter k u).root = u.root := by
    simp only [enter]; split_ifs <;> simp
  split
  · exact h2
  · split <;> simp [h2]
  · simp [henter, h2]
  · simp [henter, h2]

@[simp] theorem openCommit_root (sl v) (s : State) : (openCommit sl v s).root = s.root := by unfold openCommit; split <;> simp

@[simp] theorem openOutcome_root (sl v stale) (s : State) : (openOutcome sl v stale s).2.root = s.root := by
  unfold openOutcome
  repeat' split
  all_goals simp

@[simp] theorem openLearn_root (sl v) (s : State) : (openLearn sl v s).root = s.root := by
  unfold openLearn
  dsimp only
  repeat' split
  all_goals simp

@[simp] theorem openDeliver_root (sl v o f) (s : State) :
    (openDeliver sl v o f s).root = s.root := by unfold openDeliver; split <;> simp

@[simp] theorem releaseFrame_root (sl v caught) (s : State) : (releaseFrame sl v caught s).root = s.root := by
  unfold releaseFrame
  dsimp only
  repeat' split
  all_goals simp

@[simp] theorem openRelease_root (sl caught) (s : State) :
    (openRelease sl caught s).root = s.root := by unfold openRelease; split <;> simp

@[simp] theorem openServe_root (sl j wait f) (s : State) : (openServe sl j wait f s).root = s.root := by simp [openServe]

@[simp] theorem clientEnter_root (sl e) (s : State) : (clientEnter sl e s).2.root = s.root := by
  unfold clientEnter
  dsimp only
  split <;> simp

@[simp] theorem clientEnters_root (sl c l) (s : State) : (clientEnters sl c l s).2.root = s.root := by
  induction l generalizing s with
  | nil => rfl
  | cons e l ih =>
    refine (ih _).trans ?_
    split <;> simp

@[simp] theorem openDequeue_root (sl j wait) (s : State) : (openDequeue sl j wait s).root = s.root :=
  schedule_root _ _ _ _ _ fun _ _ => openServe_root ..

@[simp] theorem openLeave_root (sl e) (s : State) : (openLeave sl e s).root = s.root := by simp [openLeave]

@[simp] theorem openEgress_root (sl c) (s : State) : (openEgress sl c s).root = s.root := by simp [openEgress]

@[simp] theorem State.egress_root (s : State) : s.egress.root = s.root := by simp [State.egress, State.root_foldl]

@[simp] theorem drainSlice_root (sl) (s : State) : (drainSlice sl s).root = s.root := by simp [drainSlice]

@[simp] theorem cutSlice_root (sl) (s : State) : (cutSlice sl s).root = s.root := by simp [cutSlice]

@[simp] theorem loopPort_root (m) (s : State) : (loopPort m s).root = s.root := by simp [loopPort, State.root_foldl]

@[simp] theorem State.loopsIn_root (s : State) : s.loopsIn.root = s.root := by simp [State.loopsIn, State.root_foldl]

/-! ### Tributaries and the line (`Otn`) -/

@[simp] theorem State.putLevel_root (sl i v) (s : State) : (s.putLevel sl i v).root = s.root := State.root_mk ..

@[simp] theorem State.putRx_root (sl t v) (s : State) : (s.putRx sl t v).root = s.root := State.root_mk ..

@[simp] theorem State.pmAdd_root (sl k n) (s : State) : (s.pmAdd sl k n).root = s.root := State.root_mk ..

@[simp] theorem bdiReport_root (sl level old) (s : State) : (bdiReport sl level old s).root = s.root := by simp [bdiReport]

@[simp] theorem noteDefect_root (sl trib b on) (s : State) : (noteDefect sl trib b on s).root = s.root := by
  unfold noteDefect
  split <;> simp

@[simp] theorem tsfUpdate_root (sl t) (s : State) : (tsfUpdate sl t s).root = s.root := by simp [tsfUpdate, State.root_foldl]

@[simp] theorem setTribDefect_root (sl t b on) (s : State) : (setTribDefect sl t b on s).root = s.root := by simp [setTribDefect]

@[simp] theorem insertAis_root (sl) (s : State) : (insertAis sl s).root = s.root := by simp [insertAis, State.root_foldl]

@[simp] theorem setSliceDefect_root (sl b on) (s : State) : (setSliceDefect sl b on s).root = s.root := by simp [setSliceDefect]

@[simp] theorem losLook_root (sl) (s : State) : (losLook s sl).root = s.root := by simp [losLook]

@[simp] theorem State.losses_root (s : State) : s.losses.root = s.root := by simp [State.losses, State.root_foldl]

@[simp] theorem defectPersisted_root (sl trib b on) (s : State) : (defectPersisted sl trib b on s).root = s.root := by
  unfold defectPersisted
  repeat' split
  all_goals simp

@[simp] theorem blockLock_root (sl lane heads skew) (s : State) :
    (blockLock sl lane heads skew s).root = s.root := by simp [blockLock]

@[simp] theorem traceFrame_root (sl trib m octet) (s : State) : (traceFrame sl trib m octet s).root = s.root := by
  unfold traceFrame
  split <;> simp

@[simp] theorem runDefect_root (need r) (set : Bool → State → State) (s : State) (h : ∀ x0 u, (set x0 u).root = u.root) :
    (runDefect need r set s).root = s.root := by
  simp [runDefect, h]

@[simp] theorem msimUpdate_root (sl) (s : State) : (msimUpdate sl s).root = s.root := by simp [msimUpdate]

@[simp] theorem msiFrame_root (sl x) (s : State) : (msiFrame sl x s).root = s.root := by simp [msiFrame]

@[simp] theorem errorBlocks_root (sl level out errors bei) (s : State) : (errorBlocks sl level out errors bei s).root = s.root := by
  simp [errorBlocks]

@[simp] theorem gidFrame_root (sl x) (s : State) : (gidFrame sl x s).root = s.root := by simp [gidFrame]

@[simp] theorem fecFrame_root (sl i f) (s : State) : (fecFrame sl i f s).root = s.root := State.root_mk ..

@[simp] theorem instanceFrame_root (sl i m f) (s : State) : (instanceFrame sl i m f s).root = s.root := by
  unfold instanceFrame
  repeat' split
  all_goals simp

@[simp] theorem ptFrame_root (sl t x) (s : State) :
    (ptFrame sl t x s).root = s.root := by unfold ptFrame; dsimp only; split <;> simp

@[simp] theorem tribFrame_root (sl t m f) (s : State) : (tribFrame sl t m f s).root = s.root := by unfold tribFrame; split <;> simp

@[simp] theorem noteAligned_root (sl i old new) (s : State) : (noteAligned sl i old new s).root = s.root := by simp [noteAligned]

@[simp] theorem oduFrame_root (sl i f) (s : State) : (oduFrame sl i f s).root = s.root := by
  unfold oduFrame
  dsimp only
  repeat' split
  all_goals simp

@[simp] theorem latchLevel_root (sl level ix o interval) (s : State) : (latchLevel sl level ix o interval s).root = s.root :=
  State.root_mk ..

@[simp] theorem latchSlice_root (interval sl) (s : State) : (latchSlice interval s sl).root = s.root := by
  simp [latchSlice, State.root_foldl]

@[simp] theorem secondEdge_root (stepped) (s : State) :
    (secondEdge stepped s).root = s.root := by simp [secondEdge, State.root_foldl]

@[simp] theorem oneSecondEdge_root (s : State) : (oneSecondEdge s).root = s.root := by simp [oneSecondEdge]

@[simp] theorem stepApply_root (s : State) : (stepApply s).root = s.root := by unfold stepApply; split <;> simp

@[simp] theorem State.tribClear_root (sl t) (s : State) : (s.tribClear sl t).root = s.root := State.root_mk ..

@[simp] theorem State.formCalendar_root (sl) (s : State) : (s.formCalendar sl).root = s.root := State.root_mk ..

@[simp] theorem sendAis_root (sl t) (s : State) : (sendAis sl t s).root = s.root := State.root_mk ..

@[simp] theorem sendOdu_root (sl t h oh payload) (s : State) : (sendOdu sl t h oh payload s).root = s.root := State.root_mk ..

@[simp] theorem tribStart_root (load sl t) (s : State) : (tribStart load sl t s).1.root = s.root := by
  unfold tribStart
  repeat' split
  all_goals simp

@[simp] theorem tribStop_root (sl t) (s : State) : (tribStop sl t s).1.root = s.root := by
  unfold tribStop
  split
  · simp
  split
  · rfl
  · simp [State.root_foldl]

@[simp] theorem tribEnable_root (sl t v) (s : State) : (tribEnable sl t v s).1.root = s.root := by unfold tribEnable; split <;> simp

@[simp] theorem tribWrite_root (sl t sub_ v) (s : State) : (tribWrite sl t sub_ v s).1.root = s.root := by
  unfold tribWrite
  repeat' split
  all_goals simp

@[simp] theorem regrouped_root (sl) (was : State) (s : State) :
    (regrouped sl was s).root = s.root := by simp [regrouped, State.root_foldl]

@[simp] theorem regroup_root (sl sub_ n) (s : State) : (regroup sl sub_ n s).root = s.root := by simp [regroup]

@[simp] theorem otnWrite_root (sl sub_ v) (s : State) : (otnWrite sl sub_ v s).1.root = s.root := by
  unfold otnWrite
  split
  · simp
  · split_ifs <;> simp [State.root_foldl]

@[simp] theorem cmRead_root (sl) (s : State) : (cmRead sl s).1.root = s.root := by unfold cmRead; split <;> simp

@[simp] theorem cmWrite_root (sl) (s : State) : (cmWrite sl s).1.root = s.root := by
  unfold cmWrite
  dsimp only
  repeat' split
  all_goals simp

@[simp] theorem cmSwitch_root (sl) (s : State) : (cmSwitch sl s).1.root = s.root := by
  unfold cmSwitch
  dsimp only
  repeat' split
  all_goals simp

@[simp] theorem cmSwitchApply_root (sl) (s : State) : (cmSwitchApply sl s).root = s.root := by unfold cmSwitchApply; split <;> simp

@[simp] theorem cmOp_root (sl code) (s : State) : (cmOp sl code s).1.root = s.root := by unfold cmOp; split <;> simp

@[simp] theorem cueBoundary_root (sl t) (s : State) : (cueBoundary sl t s).root = s.root := by simp [cueBoundary]

@[simp] theorem mfnBoundary_root (sl t) (s : State) : (mfnBoundary sl t s).root = s.root := by simp [mfnBoundary]

@[simp] theorem State.setSentTag_root (sl t b) (s : State) : (s.setSentTag sl t b).root = s.root := State.root_mk ..

@[simp] theorem aisMultiframe_root (sl t) (s : State) : (aisMultiframe sl t s).root = s.root := State.root_mk ..

@[simp] theorem State.mapOpu_root (sl t jc) (s : State) : (s.mapOpu sl t jc).2.root = s.root := by simp [State.mapOpu]

@[simp] theorem sealMultiframe_root (sl t jc payload) (s : State) : (sealMultiframe sl t jc payload s).root = s.root := by
  simp [sealMultiframe]

@[simp] theorem turnFrames_root (sl t l) (s : State) : (turnFrames sl t l s).root = s.root := by simp [turnFrames, State.root_foldl]

@[simp] theorem sendMultiframe_root (sl t jc) (s : State) : (sendMultiframe sl t jc s).root = s.root := by simp [sendMultiframe]

@[simp] theorem multiframeBoundary_root (sl t jc) (s : State) :
    (multiframeBoundary sl t jc s).root = s.root := by simp [multiframeBoundary]

@[simp] theorem soduBump_root (sl t c) (s : State) : (soduBump sl t c s).root = s.root := State.root_mk ..

@[simp] theorem State.setRxState_root (sl t v) (s : State) : (s.setRxState sl t v).root = s.root := by simp [State.setRxState]

@[simp] theorem rxSearch_root (sl t) (s : State) : (rxSearch sl t s).root = s.root := by simp [rxSearch]

@[simp] theorem rxCandidate_root (sl t h) (s : State) :
    (rxCandidate sl t h s).root = s.root := by unfold rxCandidate; split <;> simp

@[simp] theorem rxConfirm_root (sl t r) (s : State) : (rxConfirm sl t r s).root = s.root := by unfold rxConfirm; split <;> simp

@[simp] theorem rxFollow_root (sl t h r) (s : State) : (rxFollow sl t h r s).root = s.root := by
  unfold rxFollow
  dsimp only
  repeat' split
  all_goals simp

@[simp] theorem rxHeader_root (sl t r) (s : State) : (rxHeader sl t r s).root = s.root := by
  unfold rxHeader
  dsimp only
  repeat' split
  all_goals simp

@[simp] theorem tagFailed_root (sl t) (s : State) : (tagFailed sl t s).root = s.root := by simp [tagFailed]

@[simp] theorem tagPassed_root (sl t h) (s : State) :
    (tagPassed sl t h s).root = s.root := by unfold tagPassed; dsimp only; split <;> simp

@[simp] theorem tagCheck_root (sl t oh) (s : State) : (tagCheck sl t oh s).root = s.root := by
  unfold tagCheck
  repeat' split
  all_goals simp

theorem openMultiframe_root {sl t : Nat} {hd : MfHeader} {c : Bytes} {s u : State} (h : openMultiframe sl t hd c s = some u) :
    u.root = s.root := by
  unfold openMultiframe at h
  dsimp only at h
  split at h
  · cases h
  · simp only [Option.some.injEq] at h
    rw [← h]
    split <;> simp

@[simp] theorem soduReceived_root (sl t oh c) (s : State) : (soduReceived sl t oh c s).root = s.root := by
  unfold soduReceived
  split
  · rfl
  dsimp only
  split
  · split
    · rename_i hm
      simp [openMultiframe_root hm]
    · simp
  · simp

@[simp] theorem soduTagCheck_root (sl t oh) (s : State) : (soduTagCheck sl t oh s).root = s.root := by simp [soduTagCheck]

@[simp] theorem soduPutKey_root (sl t sub_ h) (s : State) : (soduPutKey sl t sub_ h s).root = s.root := by simp [soduPutKey]

@[simp] theorem noteGiven_root (sl t sub_) (s : State) : (noteGiven sl t sub_ s).root = s.root := by
  unfold noteGiven
  dsimp only
  split <;> simp

@[simp] theorem soduSet_root (sl t sub_ v) (s : State) : (soduSet sl t sub_ v s).1.root = s.root := by
  unfold soduSet
  repeat' split
  all_goals simp

@[simp] theorem soduWrite_root (sl t sub_ v) (s : State) : (soduWrite sl t sub_ v s).1.root = s.root := by simp [soduWrite]

@[simp] theorem rowCm_root (c sl code) (s : State) : (rowCm c sl code s).root = s.root := by simp [rowCm]

/-! ### Carriers (`Carrier`) -/

@[simp] theorem sendBlock_root (sl inst k) (s : State) : (sendBlock sl inst k s).root = s.root := by simp [sendBlock]

@[simp] theorem sendBlocks_root (sl inst k n) (s : State) : (sendBlocks sl inst k n s).root = s.root := by
  induction n generalizing s with
  | zero => rfl
  | succ n ih => exact (ih _).trans (sendBlock_root ..)

@[simp] theorem carryInstance_root (sl k inst) (s : State) : (carryInstance sl k s inst).root = s.root := by simp [carryInstance]

@[simp] theorem carrySlice_root (sl) (s : State) : (carrySlice s sl).root = s.root := by
  unfold carrySlice
  split <;> simp [State.root_foldl]

@[simp] theorem State.stopCarried_root (s : State) : s.stopCarried.root = s.root := by simp [State.stopCarried]

@[simp] theorem State.carry_root (s : State) : s.carry.root = s.root := by simp [State.carry, State.root_foldl]

/-! ### Alarms (`Alarm`) -/

@[simp] theorem State.aoWrite_root (src cls response flags detail) (s : State) :
    (s.aoWrite src cls response flags detail).root = s.root := by
  simp [State.aoWrite]

@[simp] theorem State.resolve_root (l) (s : State) : (s.resolve l).root = s.root := by simp [State.resolve, State.root_foldl]

@[simp] theorem zeroiseDone_root (systemReset : Nat → State → State) (s : State) (h : ∀ x0 u, (systemReset x0 u).root = u.root) :
    (zeroiseDone systemReset s).root = s.root := by
  simp [zeroiseDone, h]

@[simp] theorem State.debounce_root (key src detail need bad) (s : State) : (s.debounce key src detail need bad).root = s.root := by
  simp [State.debounce]

@[simp] theorem State.sampleLoop_root (x k) (s : State) : (s.sampleLoop x k).root = s.root := by simp [State.sampleLoop]

@[simp] theorem tamperSample_root (x) (s : State) : (tamperSample x s).root = s.root := by simp [tamperSample, State.root_foldl]

@[simp] theorem monitorTrip_root (src rail value) (s : State) :
    (monitorTrip src rail value s).root = s.root := by simp [monitorTrip]

@[simp] theorem busMismatch_root (key transfer sink code) (s : State) : (busMismatch key transfer sink code s).root = s.root := by
  simp [busMismatch]

@[simp] theorem sourceEnd_root (src) (s : State) : (sourceEnd src s).root = s.root := by simp [sourceEnd]

@[simp] theorem almAck_root (s : State) : (almAck s).1.root = s.root := State.root_mk ..

@[simp] theorem almClear_root (s : State) : (almClear s).1.root = s.root := by
  unfold almClear
  dsimp only
  repeat' split
  all_goals simp

@[simp] theorem almMaint_root (s : State) : (almMaint s).1.root = s.root := by
  unfold almMaint
  dsimp only
  repeat' split
  all_goals simp

@[simp] theorem maintExpiry_root (s : State) : (maintExpiry s).root = s.root := by simp [maintExpiry]

@[simp] theorem alRead_root (s : State) : (alRead s).1.root = s.root := by unfold alRead; split <;> simp

@[simp] theorem srcClassWrite_root (src v) (s : State) : (srcClassWrite src v s).1.root = s.root := by
  unfold srcClassWrite
  repeat' split
  all_goals simp

@[simp] theorem monitorWrite_root (sub v) (s : State) : (monitorWrite sub v s).1.root = s.root := by
  unfold monitorWrite
  dsimp only
  repeat' split
  all_goals simp

@[simp] theorem loopWrite_root (k sub v) (s : State) : (loopWrite k sub v s).1.root = s.root := by
  unfold loopWrite
  dsimp only
  repeat' split
  all_goals simp

/-! ### Power (`Power`) -/

@[simp] theorem State.endRequest_root (st) (s : State) : (s.endRequest st).root = s.root := by simp [State.endRequest]

@[simp] theorem State.changeDone_root (ch) (s : State) : (s.changeDone ch).root = s.root := by simp [State.changeDone]

@[simp] theorem startChange_root (c target) (enter : State → State) (s : State) (h : ∀ u, (enter u).root = u.root) :
    (startChange c target enter s).root = s.root := by
  unfold startChange
  split <;> simp [h]

@[simp] theorem pwrReq_root (c target) (enter : State → State) (s : State) (h : ∀ u, (enter u).root = u.root) :
    (pwrReq c target enter s).1.root = s.root := by
  unfold pwrReq
  repeat' split
  all_goals simp [h]

@[simp] theorem rowPwrReq_root (c target) (enter : State → State) (s : State) (h : ∀ u, (enter u).root = u.root) :
    (rowPwrReq c target enter s).root = s.root := by
  simp [rowPwrReq, h]

@[simp] theorem sliceClockHold_root (sl) (s : State) : (sliceClockHold sl s).root = s.root := by
  unfold sliceClockHold
  repeat' split
  all_goals simp

@[simp] theorem voltageReported_root (mv) (s : State) : (voltageReported mv s).root = s.root := by
  unfold voltageReported
  dsimp only
  split <;> simp

@[simp] theorem State.abandonRaise_root (ch) (s : State) : (s.abandonRaise ch).root = s.root := by simp [State.abandonRaise]

@[simp] theorem voltTimeout_root (s : State) : (voltTimeout s).root = s.root := by unfold voltTimeout; split <;> simp

@[simp] theorem pmbAlert_root (s : State) : (pmbAlert s).root = s.root := by unfold pmbAlert; split <;> simp

@[simp] theorem slicePowerWrite_root (sl v) (s : State) : (slicePowerWrite sl v s).1.root = s.root := by
  unfold slicePowerWrite
  dsimp only
  repeat' split
  all_goals simp

@[simp] theorem State.darken_root (s : State) : s.darken.root = s.root := by simp [State.darken, State.root_foldl]

@[simp] theorem State.refMove_root (i) (s : State) : (s.refMove i).root = s.root := by simp [State.refMove]

@[simp] theorem refclkLoss_root (i) (s : State) : (refclkLoss i s).root = s.root := by simp [refclkLoss]

@[simp] theorem refclkRevert_root (s : State) : (refclkRevert s).root = s.root := by simp [refclkRevert]

/-! ### Entropy (`Entropy`) -/

@[simp] theorem State.putEnt_root (e) (s : State) : (s.putEnt e).root = s.root := State.root_mk ..

@[simp] theorem drbgFill_root (s : State) : (drbgFill s).root = s.root := by unfold drbgFill; dsimp only; split <;> simp

@[simp] theorem seedRelease_root (l) (s : State) : (seedRelease l s).root = s.root := State.root_mk ..

@[simp] theorem checkpoint_root (ws) (s : State) : (checkpoint ws s).root = s.root := by simp [checkpoint]

@[simp] theorem takeQueue_root (len) (s : State) : (takeQueue len s).2.root = s.root := by simp [takeQueue]

@[simp] theorem drawRequest_root (who len) (s : State) : (drawRequest who len s).2.root = s.root := by
  unfold drawRequest
  repeat' split
  all_goals simp

theorem drawRequest_root_of {who : EntWho} {len : Nat} {d : Draw} {s t : State} (h : drawRequest who len s = (d, t)) :
    t.root = s.root :=
  (congrArg (·.2.root) h).symm.trans (drawRequest_root ..)

theorem serveHead_root {who : EntWho} {b : Bytes} {s u : State} (h : serveHead s = some (who, b, u)) : u.root = s.root := by
  unfold serveHead at h
  split at h
  · cases h
  split at h
  · cases h
  · simp only [Option.some.injEq, Prod.mk.injEq] at h
    simp [← h.2.2]

theorem dropHead_root {who : EntWho} {s u : State} (h : dropHead s = some (who, u)) : u.root = s.root := by
  unfold dropHead at h
  split at h
  · cases h
  split at h
  · simp only [Option.some.injEq, Prod.mk.injEq] at h
    simp [← h.2]
  · cases h

@[simp] theorem dropWaiting_root (gone) (s : State) : (dropWaiting gone s).root = s.root := State.root_mk ..

@[simp] theorem dropAll_root (s : State) : (dropAll s).2.root = s.root := State.root_mk ..

@[simp] theorem healthFail_root (src test) (s : State) : (healthFail src test s).2.root = s.root := by
  unfold healthFail
  dsimp only
  repeat' split
  all_goals simp

@[simp] theorem windowClose_root (ws) (s : State) : (windowClose ws s).2.root = s.root := by
  unfold windowClose
  repeat' split
  all_goals simp

@[simp] theorem samplesFail_root (n ws) (s : State) : (samplesFail n ws s).2.root = s.root := by unfold samplesFail; split <;> simp

@[simp] theorem entStart_root (s : State) : (entStart s).root = s.root := State.root_mk ..

@[simp] theorem entStop_root (s : State) : (entStop s).2.root = s.root := State.root_mk ..

/-! ### The public-key engine (`Pke`) -/

@[simp] theorem setPkeQueue_root (q) (s : State) : (setPkeQueue q s).root = s.root := State.root_mk ..

@[simp] theorem pkeStart_root (s : State) : (pkeStart s).1.root = s.root := by
  unfold pkeStart
  split
  · rfl
  split
  · rfl
  split <;> rename_i h <;> simp [drawRequest_root_of h]

theorem pkeStart_root_of {s t : State} {o : Option (PkeWho × Status)} (h : pkeStart s = (t, o)) : t.root = s.root :=
  (congrArg (·.1.root) h).symm.trans (pkeStart_root ..)

@[simp] theorem pkeQueue_root (t) (s : State) : (pkeQueue t s).1.root = s.root := by unfold pkeQueue; split <;> simp

theorem pkeQueue_root_of {x : PkeTask} {s t : State} {o : Option Status} (h : pkeQueue x s = (t, o)) : t.root = s.root :=
  (congrArg (·.1.root) h).symm.trans (pkeQueue_root ..)

@[simp] theorem pkeWindow_root (who ops) (s : State) : (pkeWindow who ops s).1.root = s.root := by unfold pkeWindow; split <;> simp

@[simp] theorem State.pkeCount_root (n) (s : State) : (s.pkeCount n).root = s.root := State.root_mk ..

@[simp] theorem State.putEph_root (c e) (s : State) : (s.putEph c e).root = s.root := State.root_mk ..

@[simp] theorem pkeTrim_root (s : State) : (pkeTrim s).root = s.root := by simp [pkeTrim]

@[simp] theorem ephRelease_root (s : State) : (ephRelease s).root = s.root := by simp [ephRelease]

/-! ### Guarded memory (`Guard`) -/

@[simp] theorem State.putRange_root (r g) (s : State) : (s.putRange r g).root = s.root := State.root_mk ..

@[simp] theorem State.putLine_root (a b) (s : State) : (s.putLine a b).root = s.root := State.root_mk ..

@[simp] theorem State.putMac_root (a v) (s : State) : (s.putMac a v).root = s.root := State.root_mk ..

@[simp] theorem State.cachePut_root (r level i c) (s : State) : (s.cachePut r level i c).root = s.root := State.root_mk ..

@[simp] theorem State.cacheDrop_root (r) (s : State) : (s.cacheDrop r).root = s.root := State.root_mk ..

set_option smartUnfolding false in
/-- One level of a fetch (R517): the cache, or the counter above and the check against it. -/
theorem fetchNode_eq (r g up level i) (s : State) : fetchNode r g up level i s =
    match s.cacheGet r level i with
    | some c => .ok (c, s)
    | none =>
      match (match up with
        | 0 => .ok (mget 0 g.root i, s)
        | u + 1 => match fetchNode r g u (level + 1) (i / 8) s with
          | .ok (c, t) => .ok (nodeCtr c (i % 8), t)
          | .error e => .error e : Except NodeLoss (Nat × State)) with
      | .error e => .error e
      | .ok (ctr, t) =>
        if t.nodeBad g level i then .error ⟨level, i, false⟩
        else if t.storedMac g level i ≠ nodeMac g.kt ctr r level i (t.memLine (g.nodeAddr level i)) then .error ⟨level, i, true⟩
        else .ok (t.memLine (g.nodeAddr level i), t.cachePut r level i (t.memLine (g.nodeAddr level i))) := by
  cases up <;> rfl

theorem fetchNode_root {r up level i : Nat} {g : GRange} {c : Bytes} {s u : State} (h : fetchNode r g up level i s = .ok (c, u)) :
    u.root = s.root := by
  induction up generalizing level i c s u with
  | zero =>
    rw [fetchNode_eq] at h
    split at h
    · cases h; rfl
    dsimp only at h
    split_ifs at h
    cases h
    simp
  | succ n ih =>
    rw [fetchNode_eq] at h
    split at h
    · cases h; rfl
    split at h
    · cases h
    · rename_i hc
      dsimp only at hc
      split at hc
      · rename_i hf
        cases hc
        split_ifs at h
        cases h
        simp [ih hf]
      · cases hc

theorem writeNode_root {r up level i : Nat} {c : Bytes} {s u : State} (h : writeNode r up level i c s = .ok u) :
    u.root = s.root := by
  induction up generalizing level i c s u with
  | zero =>
    simp only [writeNode] at h
    cases h
    split <;> simp
  | succ n ih =>
    simp only [writeNode] at h
    split at h
    · cases h
    rename_i hf
    split at h
    · cases h
    rename_i hw
    cases h
    split <;> simp [ih hw, fetchNode_root hf]

theorem State.counterLine_root {r p : Nat} {c : Bytes} {s u : State} (h : s.counterLine r p = .ok (c, u)) : u.root = s.root :=
  fetchNode_root h

theorem writeCounter_root {r p : Nat} {c : Bytes} {s u : State} (h : writeCounter r p c s = .ok u) :
    u.root = s.root := writeNode_root h

@[simp] theorem ddrUe_root (a) (s : State) : (ddrUe a s).root = s.root := by simp [ddrUe]

@[simp] theorem macFailed_root (r a) (s : State) : (macFailed r a s).root = s.root := by simp [macFailed]

@[simp] theorem markLost_root (r e) (s : State) : (markLost r e s).root = s.root := by simp [markLost]

@[simp] theorem storeLine_root (r keys k ctr p poisoned) (s : State) : (storeLine r keys k ctr p poisoned s).root = s.root :=
  State.root_mk ..

@[simp] theorem poisonLine_root (r keys k ctr) (s : State) : (poisonLine r keys k ctr s).root = s.root := State.root_mk ..

theorem rewritePage_root {r p : Nat} {old new : Nat × Nat} {s u : State} (h : rewritePage r p old new s = .ok u) :
    u.root = s.root := by
  unfold rewritePage at h
  split at h
  · cases h
  · rename_i hc
    exact (writeCounter_root h).trans ((State.root_foldl (fun t j => by simp) _ _).trans (State.counterLine_root hc))

@[simp] theorem rekeyBegin_root (r b) (s : State) : (rekeyBegin r b s).root = s.root := by simp [rekeyBegin]

@[simp] theorem reformBegin_root (r b) (s : State) : (reformBegin r b s).root = s.root := by simp [reformBegin]

@[simp] theorem rekeyDue_root (r) (s : State) : (rekeyDue r s).root = s.root := by
  unfold rekeyDue; split <;> rename_i h <;> simp [drawRequest_root_of h]

@[simp] theorem epochTest_root (r) (s : State) : (epochTest r s).root = s.root := by simp [epochTest]

@[simp] theorem epochTests_root (s : State) : (epochTests s).root = s.root := by simp [epochTests, State.root_foldl]

@[simp] theorem stagehandDone_root (r reform) (s : State) : (stagehandDone r reform s).root = s.root := by simp [stagehandDone]

theorem formPage_root {r p : Nat} {s u : State} (h : formPage r p s = .ok u) : u.root = s.root := by
  refine (writeCounter_root h).trans ?_
  simp [State.root_foldl]

@[simp] theorem movePage_root (r) (s : State) : (movePage r s).root = s.root := by
  unfold movePage
  dsimp only
  split
  · rfl
  split
  · rfl
  split
  · simp
  rename_i t ht
  have hroot : t.root = s.root := by
    split at ht
    · exact formPage_root ht
    · exact rewritePage_root ht
  split <;> simp [hroot]

@[simp] theorem pageMove_root (r) (s : State) : (pageMove r s).root = s.root := by simp [pageMove]

theorem pageReencrypt_root {r p : Nat} {s u : State} (h : pageReencrypt r p s = .ok u) : u.root = s.root := by
  unfold pageReencrypt at h
  extract_lets g b s1 g1 keys at h
  have h1 : s1.root = s.root := by
    simp only [s1]
    split <;> simp [State.root_foldl]
  split at h
  · cases h
  rename_i hr
  cases h
  rw [State.addOb_root, State.putRange_root, rewritePage_root hr, h1]

theorem writeData_root {r k : Nat} {p : Bytes} {s u : State} (h : writeData r k p s = .ok u) : u.root = s.root := by
  simp only [writeData, bind, Except.bind, pure, Except.pure] at h
  split at h
  · cases h
  rename_i x hx
  have hx : x.2.root = s.root := State.counterLine_root hx
  split at h
  · split at h
    · cases h
    rename_i hp
    split at h
    · cases h
    rename_i y hy
    have hy : y.2.root = s.root := (State.counterLine_root hy).trans ((pageReencrypt_root hp).trans hx)
    exact (writeCounter_root h).trans ((storeLine_root ..).trans hy)
  · exact (writeCounter_root h).trans ((storeLine_root ..).trans hx)

@[simp] theorem busError_root (x) (s : State) : (busError x s).root = s.root := State.root_mk ..

@[simp] theorem busDone_root (x b) (s : State) : (busDone x b s).root = s.root := State.root_mk ..

@[simp] theorem blocked_root (m a) (s : State) : (blocked m a s).root = s.root := by simp [blocked]

@[simp] theorem plainAccess_root (x) (s : State) : (plainAccess x s).root = s.root := by unfold plainAccess; split <;> simp

@[simp] theorem lostRow_root (x) (s : State) : (lostRow x s).root = s.root := State.root_mk ..

theorem lineAccess_root {x : DdrAccess} {r k : Nat} {ctr : Bytes} {s u : State} (h : lineAccess x r k ctr s = .ok u) :
    u.root = s.root := by
  have hwrite {d b : Bytes} {t : State} (hw : (writeData r k d s).map (busDone x b) = .ok t) : t.root = s.root := by
    cases hd : writeData r k d s with
    | error e => rw [hd] at hw; cases hw
    | ok v =>
      rw [hd] at hw
      cases hw
      simp [writeData_root hd]
  unfold lineAccess at h
  dsimp only at h
  split at h
  · cases h; simp
  split at h
  · split at h
    · exact hwrite h
    split at h
    · cases h; simp
    split at h
    · cases h; simp
    · exact hwrite h
  · split at h
    · cases h; simp
    split at h <;> cases h <;> simp

@[simp] theorem guardedAccess_root (x r k) (s : State) : (guardedAccess x r k s).root = s.root := by
  unfold guardedAccess
  split
  · simp
  dsimp only
  split
  · simp
  rename_i hc
  have hc := State.counterLine_root hc
  split
  · rename_i ha
    have ha := lineAccess_root ha
    split at ha <;> simp_all
  · split <;> simp [hc]

@[simp] theorem ddrDisturb_root (changed bad) (s : State) : (ddrDisturb changed bad s).root = s.root := by
  simp [ddrDisturb, State.root_foldl]

@[simp] theorem mgAccess_root (x changed bad) (s : State) : (mgAccess x changed bad s).root = s.root := by
  unfold mgAccess
  dsimp only
  repeat' split
  all_goals simp

@[simp] theorem patrolScrub_root (n) (s : State) : (patrolScrub n s).root = s.root := by
  unfold patrolScrub; split
  · rfl
  dsimp only
  split_ifs
  · rw [ddrUe_root, ddrDisturb_root, State.mark_root, State.root_mk, State.root_eta]
  · rw [State.addOb_root, State.mark_root, State.root_mk, State.root_eta]
  · rw [State.mark_root, State.root_mk, State.root_eta]

@[simp] theorem rgRekey_root (r) (s : State) : (rgRekey r s).1.root = s.root := by
  unfold rgRekey; dsimp only
  split
  · rfl
  split
  · rfl
  split <;> rename_i h <;> simp [drawRequest_root_of h]

@[simp] theorem rgReform_root (r) (s : State) : (rgReform r s).1.root = s.root := by
  unfold rgReform; dsimp only
  split
  · rfl
  split
  · rfl
  split <;> rename_i h <;> simp [drawRequest_root_of h]

@[simp] theorem rangeDrawn_root (r reform asked b) (s : State) :
    (rangeDrawn r reform asked b s).root = s.root := by simp [rangeDrawn]

@[simp] theorem rangeFailed_root (r asked st) (s : State) : (rangeFailed r asked st s).root = s.root := by simp [rangeFailed]

@[simp] theorem seedRetry_root (r) (s : State) : (seedRetry r s).root = s.root := by simp [seedRetry]

@[simp] theorem rangeForm_root (r base size metaBase k c) (s : State) : (rangeForm r base size metaBase k c s).root = s.root := by
  unfold rangeForm; dsimp only
  split
  · rfl
  split <;> rename_i h <;> simp [drawRequest_root_of h]

@[simp] theorem guardCurtain_root (s : State) : (guardCurtain s).root = s.root := by simp [guardCurtain, State.root_foldl]

/-! ### The vault (`Vault`) -/

@[simp] theorem State.endorse_root (r) (s : State) : (s.endorse r).root = s.root := State.root_mk ..

@[simp] theorem State.putKek_root (n k) (s : State) : (s.putKek n k).root = s.root := State.root_mk ..

@[simp] theorem syncTest_root (s : State) : (syncTest s).root = s.root := by simp [syncTest]

@[simp] theorem clearKek_root (n) (s : State) : (clearKek n s).root = s.root := by simp [clearKek]

@[simp] theorem placeKek_root (n kind kek wrapOut unwrapIn) (s : State) : (placeKek n kind kek wrapOut unwrapIn s).root = s.root :=
  State.root_mk ..

@[simp] theorem deriveSlot0_root (s : State) : (deriveSlot0 s).root = s.root := by unfold deriveSlot0; dsimp only; split <;> simp

@[simp] theorem State.putBank_root (i e) (s : State) : (s.putBank i e).root = s.root := State.root_mk ..

@[simp] theorem State.putEntry_root (sl i e) (s : State) : (s.putEntry sl i e).root = s.root := by simp [State.putEntry]

@[simp] theorem putKeyAt_root (p generated m k) (s : State) : (putKeyAt p generated m k s).2.root = s.root := by
  unfold putKeyAt
  split <;> simp

@[simp] theorem mirrorKey_root (sl m k handle) (s : State) : (mirrorKey sl m k handle s).root = s.root := by simp [mirrorKey]

@[simp] theorem placeKey_root (p generated m k) (s : State) : (placeKey p generated m k s).2.root = s.root := by
  unfold placeKey
  repeat' split
  all_goals simp

@[simp] theorem unwrapCount_root (st) (s : State) : (unwrapCount st s).root = s.root := by simp [unwrapCount]

@[simp] theorem unwrapBlob_root (level blob kw) (s : State) : (unwrapBlob level blob kw s).2.2.root = s.root := by
  unfold unwrapBlob
  repeat' split
  all_goals simp

@[simp] theorem kwUnwrapOp_root (level) (s : State) : (kwUnwrapOp level s).1.root = s.root := by
  unfold kwUnwrapOp
  dsimp only
  split <;> simp

@[simp] theorem kwWrapOp_root (s : State) : (kwWrapOp s).1.root = s.root := by unfold kwWrapOp; split <;> simp

@[simp] theorem kwRewrapOp_root (level) (s : State) : (kwRewrapOp level s).1.root = s.root := by
  unfold kwRewrapOp
  dsimp only
  repeat' split
  all_goals simp

@[simp] theorem generatePlace_root (ty target slot export_ k) (s : State) :
    (generatePlace ty target slot export_ k s).2.2.root = s.root := by
  unfold generatePlace
  repeat' split
  all_goals simp

@[simp] theorem generateDone_root (ty target slot export_ k) (s : State) :
    (generateDone ty target slot export_ k s).1.root = s.root := by
  unfold generateDone
  dsimp only
  split <;> simp

@[simp] theorem kwGenerateOp_root (level) (s : State) : (kwGenerateOp level s).1.root = s.root := by
  unfold kwGenerateOp; dsimp only
  by_cases hd : (!s.vaultOpen level (if s.ob kwIx Sub.kwWin_KW_TYPE = 4 then 2 else 1)) = true ∨ s.held = true
  · rw [if_pos hd]
  rw [if_neg hd]
  split
  · rfl
  split <;> rename_i h <;> simp [drawRequest_root_of h]

@[simp] theorem kwDestroyOp_root (s : State) : (kwDestroyOp s).1.root = s.root := by
  unfold kwDestroyOp
  dsimp only
  repeat' split
  all_goals simp

@[simp] theorem kwKekClearOp_root (s : State) : (kwKekClearOp s).1.root = s.root := by
  unfold kwKekClearOp
  dsimp only
  repeat' split
  all_goals simp

@[simp] theorem kwInfoOp_root (s : State) : (kwInfoOp s).1.root = s.root := by
  unfold kwInfoOp
  dsimp only
  repeat' split
  all_goals simp

@[simp] theorem migrate_root (m) (s : State) : (migrate m s).1.root = s.root := by
  unfold migrate
  repeat' split
  all_goals simp

theorem migrate_root_of {m : Bytes} {s t : State} {st : Status} (h : migrate m s = (t, st)) : t.root = s.root :=
  (congrArg (·.1.root) h).symm.trans (migrate_root ..)

@[simp] theorem migrateVerified_root (level manifest) (s : State) : (migrateVerified level manifest s).1.root = s.root := by
  unfold migrateVerified
  split <;> simp

@[simp] theorem kwMigrateOp_root (level) (s : State) : (kwMigrateOp level s).1.root = s.root := by
  unfold kwMigrateOp
  repeat' split
  all_goals simp

@[simp] theorem kwMigrateEndOp_root (s : State) : (kwMigrateEndOp s).1.root = s.root := by simp [kwMigrateEndOp]

@[simp] theorem quoteDone_root (h nonce meas svn r) (s : State) :
    (quoteDone h nonce meas svn r s).1.root = s.root := State.root_mk ..

@[simp] theorem kwQuoteOp_root (level) (s : State) : (kwQuoteOp level s).1.root = s.root := by
  unfold kwQuoteOp
  dsimp only
  repeat' split
  all_goals simp

@[simp] theorem zeroiseVault_root (s : State) : (zeroiseVault s).root = s.root := State.root_mk ..

@[simp] theorem State.kwGate_root (level need) (act : State → State × Status) (s : State) (h : ∀ u, (act u).1.root = u.root) :
    (s.kwGate level need act).1.root = s.root := by
  unfold State.kwGate
  split <;> simp [h]

@[simp] theorem kwOp_root (level code) (s : State) : (kwOp level code s).1.root = s.root := by
  unfold kwOp
  repeat' split
  all_goals simp

@[simp] theorem rowKw_root (c code) (s : State) : (rowKw c code s).root = s.root := by simp [rowKw]

/-! ### Jobs (`Jobs`) -/

@[simp] theorem State.putJob_root (j x) (s : State) : (s.putJob j x).root = s.root := State.root_mk ..

@[simp] theorem jobLeave_root (j st) (s : State) : (jobLeave j st s).root = s.root := State.root_mk ..

theorem busStop_root {a len : Nat} {w : Bool} {st : Status} {s u : State} (h : busStop a len w s = some (st, u)) :
    u.root = s.root := by
  unfold busStop at h
  split at h
  · simp only [Option.some.injEq, Prod.mk.injEq] at h
    simp [← h.2]
  split at h
  · simp only [Option.some.injEq, Prod.mk.injEq] at h
    simp [← h.2]
  · cases h

theorem busRead_error_root {a len : Nat} {ext : Bytes} {st : Status} {s u : State} (h : busRead a len ext s = .error (st, u)) :
    u.root = s.root := by
  unfold busRead at h
  dsimp only at h
  split at h
  · rename_i e he
    cases h
    exact busStop_root he
  · cases h

theorem busWrite_error_root {j a : Nat} {b : Bytes} {st : Status} {s u : State} (h : busWrite j a b s = .error (st, u)) :
    u.root = s.root := by
  unfold busWrite at h
  dsimp only at h
  split at h
  · rename_i e he
    cases h
    exact busStop_root he
  · cases h

theorem busWrite_ok_root {j a : Nat} {b : Bytes} {s u : State} (h : busWrite j a b s = .ok u) : u.root = s.root := by
  unfold busWrite at h
  dsimp only at h
  split at h
  · cases h
  · simp only [Except.ok.injEq] at h
    rw [← h]
    split <;> simp [State.root_foldl]

@[simp] theorem jobBegin_root (j op x) (s : State) : (jobBegin j op x s).1.root = s.root := State.root_mk ..

@[simp] theorem jobStart_root (j) (s : State) : (jobStart j s).1.root = s.root := by
  unfold jobStart
  repeat' split
  all_goals simp

@[simp] theorem jobContinue_root (j) (s : State) : (jobContinue j s).1.root = s.root := by
  unfold jobContinue
  repeat' split
  all_goals simp

@[simp] theorem jobFinish_root (j) (s : State) : (jobFinish j s).1.root = s.root := by unfold jobFinish; split <;> simp

@[simp] theorem jobEnd_root (j st) (s : State) : (jobEnd j st s).root = s.root := State.root_mk ..

@[simp] theorem jobDone_root (j) (s : State) : (jobDone j s).root = s.root := State.root_mk ..

@[simp] theorem jobFail_root (j st) (s : State) : (jobFail j st s).root = s.root := State.root_mk ..

@[simp] theorem jobPause_root (j x) (s : State) : (jobPause j x s).root = s.root := State.root_mk ..

@[simp] theorem gcmMoved_root (j x aad d) (s : State) : (gcmMoved j x aad d s).root = s.root := by
  unfold gcmMoved
  dsimp only
  split
  · rename_i h
    exact (jobFail_root ..).trans (busWrite_error_root h)
  · rename_i h
    have hw := busWrite_ok_root h
    split_ifs <;> simp [hw]

@[simp] theorem wrapMoved_root (j x d) (s : State) : (wrapMoved j x d s).root = s.root := by
  unfold wrapMoved
  split
  · simp
  split
  · simp
  split
  · rename_i h
    exact (jobFail_root ..).trans (busWrite_error_root h)
  · rename_i h
    exact (jobDone_root ..).trans (busWrite_ok_root h)

@[simp] theorem jobDmaDone_root (j aad data) (s : State) : (jobDmaDone j aad data s).root = s.root := by
  unfold jobDmaDone
  dsimp only
  split
  · rfl
  split
  · rename_i h
    split at h
    · exact (jobFail_root ..).trans (busRead_error_root h)
    · cases h
  · split
    · rename_i h
      exact (jobFail_root ..).trans (busRead_error_root h)
    · split <;> simp

@[simp] theorem jobSaved_root (j slot token) (s : State) : (jobSaved j slot token s).root = s.root := State.root_mk ..

@[simp] theorem tokenDone_root (j slot b) (s : State) : (tokenDone j slot b s).1.root = s.root := by
  unfold tokenDone
  repeat' split
  all_goals simp

@[simp] theorem jobSave_root (j) (s : State) : (jobSave j s).1.root = s.root := by
  unfold jobSave; dsimp only
  split_ifs
  case neg => split <;> rename_i h <;> simp [drawRequest_root_of h]
  all_goals simp

@[simp] theorem jobRestore_root (j) (s : State) : (jobRestore j s).1.root = s.root := by
  unfold jobRestore
  dsimp only
  repeat' split
  all_goals simp

@[simp] theorem abortJobs_root (st) (s : State) : (abortJobs st s).root = s.root := by simp [abortJobs, State.root_foldl]

@[simp] theorem rowJob_root (c j code) (act : State → State × Option Status) (s : State) (h : ∀ u, (act u).1.root = u.root) :
    (rowJob c j code act s).root = s.root :=
  rowWrite_root _ _ _ _ _ _ fun u => by split <;> simp [h]

@[simp] theorem jobAbort_root (j) (s : State) : (jobAbort j s).1.root = s.root := State.root_mk ..

@[simp] theorem jobOp_root (j code) (s : State) : (jobOp j code s).1.root = s.root := by unfold jobOp; split <;> simp

/-! ### Key exchange (`Ke`) -/

@[simp] theorem State.putCak_root (i c) (s : State) : (s.putCak i c).root = s.root := State.root_mk ..

@[simp] theorem placeCak_root (i n source cknLen ckn cak) (s : State) : (placeCak i n source cknLen ckn cak s).root = s.root :=
  State.root_mk ..

@[simp] theorem forgetCak_root (i) (s : State) : (forgetCak i s).root = s.root := State.root_mk ..

@[simp] theorem freeCakEntry_root (i) (s : State) : (freeCakEntry i s).root = s.root := by simp [freeCakEntry]

@[simp] theorem zeroiseCaks_root (s : State) : (zeroiseCaks s).root = s.root := State.root_mk ..

@[simp] theorem keepCak_root (blob k c) (s : State) : (keepCak blob k c s).root = s.root := by simp [keepCak]

@[simp] theorem reloadCak_root (area c) (s : State) : (reloadCak area c s).root = s.root := by
  unfold reloadCak
  repeat' split
  all_goals simp

@[simp] theorem reloadCaks_root (area) (s : State) : (reloadCaks area s).root = s.root := by simp [reloadCaks, State.root_foldl]

@[simp] theorem migrateCaks_root (from_ to_) (s : State) : (migrateCaks from_ to_ s).root = s.root := State.root_mk ..

@[simp] theorem cakLoad_root (level) (s : State) : (cakLoad level s).1.root = s.root := by
  unfold cakLoad
  dsimp only
  repeat' split
  all_goals simp

@[simp] theorem cakFree_root (s : State) : (cakFree s).1.root = s.root := by unfold cakFree; dsimp only; split <;> simp

@[simp] theorem cakInfo_root (s : State) : (cakInfo s).1.root = s.root := State.root_mk ..

@[simp] theorem keOp_root (level code) (s : State) : (keOp level code s).1.root = s.root := by unfold keOp; split <;> simp

@[simp] theorem rowKe_root (c code) (s : State) : (rowKe c code s).root = s.root := by simp [rowKe]

@[simp] theorem fwAnswer_root (op r) (s : State) : (fwAnswer op r s).root = s.root := by unfold fwAnswer; split <;> simp

@[simp] theorem setMkaState_root (n v) (s : State) : (setMkaState n v s).root = s.root := State.root_mk ..

@[simp] theorem mkaWrite_root (n sub_ v) (s : State) : (mkaWrite n sub_ v s).1.root = s.root := by
  unfold mkaWrite
  repeat' split
  all_goals simp

@[simp] theorem certStore_root (b) (s : State) : (certStore b s).1.root = s.root := by unfold certStore; split <;> simp

@[simp] theorem certWrite_root (c b) (s : State) : (certWrite c b s).1.root = s.root := by unfold certWrite; split <;> simp

@[simp] theorem keOctWrite_root (c sub_ b) (s : State) : (keOctWrite c sub_ b s).1.root = s.root := by
  unfold keOctWrite
  repeat' split
  all_goals simp

/-! ### Knots (`Knot`) -/

@[simp] theorem State.putKnot_root (k x) (s : State) : (s.putKnot k x).root = s.root := State.root_mk ..

@[simp] theorem dropKnots_root (gone) (s : State) : (dropKnots gone s).root = s.root := by simp [dropKnots]

@[simp] theorem State.dropKnot_root (k) (s : State) : (s.dropKnot k).root = s.root := by simp [State.dropKnot]

@[simp] theorem State.addKnot_root (x) (s : State) : (s.addKnot x).2.root = s.root := State.root_mk ..

@[simp] theorem contextRoom_root (s : State) : (contextRoom s).root = s.root := by simp [contextRoom]

@[simp] theorem setKnotState_root (place v) (s : State) : (setKnotState place v s).root = s.root := by simp [setKnotState]

@[simp] theorem knotChecked_root (s : State) : (knotChecked s).root = s.root := by simp [knotChecked]

@[simp] theorem knotSend_root (place msg sid da body) (s : State) : (knotSend place msg sid da body s).root = s.root := by
  simp [knotSend, State.root_foldl]

@[simp] theorem knotSay_root (k x stage msg body) (s : State) : (knotSay k x stage msg body s).root = s.root := by simp [knotSay]

@[simp] theorem knotLeave_root (k x) (s : State) : (knotLeave k x s).root = s.root := by unfold knotLeave; split <;> simp

@[simp] theorem knotEnd_root (k x st entry) (s : State) : (knotEnd k x st entry s).root = s.root := by simp [knotEnd]

@[simp] theorem knotAbort_root (k x st ctr) (s : State) : (knotAbort k x st ctr s).root = s.root := by simp [knotAbort]

@[simp] theorem pkeDeny_root (st w) (s : State) : (pkeDeny st w s).root = s.root := by unfold pkeDeny; split <;> simp

@[simp] theorem windowsGo_root (n) (s : State) : (windowsGo n s).root = s.root := by
  induction n generalizing s with
  | zero => rfl
  | succ n ih =>
    simp only [windowsGo]
    split <;> rename_i h <;> simp [ih, pkeStart_root_of h]

@[simp] theorem knotAbandon_root (windows) (s : State) :
    (knotAbandon windows s).root = s.root := by simp [knotAbandon, State.root_foldl]

@[simp] theorem pkeDenied_root (s : State) : (pkeDenied s).root = s.root := by simp [pkeDenied, State.root_foldl]

@[simp] theorem mkaRestart_root (n) (s : State) : (mkaRestart n s).root = s.root := by simp [mkaRestart]

theorem knotPlace_root {x : Knot} {i : Nat} {s u : State} (h : knotPlace x s = some (i, u)) : u.root = s.root := by
  unfold knotPlace at h
  dsimp only at h
  split at h
  · simp only [Option.some.injEq, Prod.mk.injEq] at h
    simp [← h.2]
  split at h
  · cases h
  · simp only [Option.some.injEq, Prod.mk.injEq] at h
    rw [← h.2]
    split <;> simp

@[simp] theorem knotEntropy_root (k st) (s : State) : (knotEntropy k st s).root = s.root := by unfold knotEntropy; split <;> simp

@[simp] theorem knotQueue_root (op k) (s : State) : (knotQueue op k s).root = s.root := by
  unfold knotQueue
  split <;> rename_i h <;> simp [pkeQueue_root_of h]

@[simp] theorem knotWork_root (k x stage ops) (s : State) :
    (knotWork k x stage ops s).root = s.root := by unfold knotWork; split <;> simp

@[simp] theorem respDone_root (k x) (s : State) : (respDone k x s).root = s.root := by
  unfold respDone
  split
  · simp
  · rename_i h
    simp [knotPlace_root h]

@[simp] theorem stageDone_root (k x) (s : State) : (stageDone k x s).root = s.root := by unfold stageDone; split <;> simp

@[simp] theorem knotStep_root (op k b) (s : State) : (knotStep op k b s).root = s.root := by
  unfold knotStep
  dsimp only
  repeat' split
  all_goals simp

@[simp] theorem knotDrawn_root (k b) (s : State) : (knotDrawn k b s).root = s.root := by
  unfold knotDrawn
  repeat' split
  all_goals simp

@[simp] theorem knotBegin_root (x ctx len) (s : State) : (knotBegin x ctx len s).root = s.root := by
  unfold knotBegin
  dsimp only
  split <;> rename_i h <;> simp [drawRequest_root_of h]

@[simp] theorem knotStart_root (place) (s : State) : (knotStart place s).1.root = s.root := by
  unfold knotStart
  dsimp only
  repeat' split
  all_goals simp

@[simp] theorem knotRun_root (place) (s : State) : (knotRun place s).1.root = s.root := by unfold knotRun; split <;> simp

@[simp] theorem State.knotParty_root (k x src) (s : State) : (s.knotParty k x src).2.2.root = s.root := by
  unfold State.knotParty
  repeat' split
  all_goals simp

@[simp] theorem knotInit_root (m) (s : State) : (knotInit m s).root = s.root := by
  unfold knotInit
  dsimp only
  split
  · rfl
  split
  · rfl
  split
  · simp
  · exact (knotBegin_root ..).trans ((contextRoom_root _).trans (dropKnots_root ..))

@[simp] theorem knotResp_root (k x m) (s : State) : (knotResp k x m s).root = s.root := by simp [knotResp]

@[simp] theorem knotAuth_root (k x m) (s : State) :
    (knotAuth k x m s).root = s.root := by unfold knotAuth; dsimp only; split <;> simp

@[simp] theorem knotDone_root (k x m) (s : State) : (knotDone k x m s).root = s.root := by
  unfold knotDone
  split
  · simp
  · rename_i h
    split <;> simp [knotPlace_root h]

@[simp] theorem knotAborted_root (f m) (s : State) : (knotAborted f m s).root = s.root := by unfold knotAborted; split <;> simp

@[simp] theorem knotHeld_root (place) (s : State) : (knotHeld place s).root = s.root := by simp [knotHeld]

@[simp] theorem knotRows_root (m f) (s : State) : (knotRows m f s).root = s.root := by
  unfold knotRows
  repeat' split
  all_goals simp

@[simp] theorem knotMessage_root (m) (s : State) : (knotMessage m s).root = s.root := by
  unfold knotMessage
  repeat' split
  all_goals simp

@[simp] theorem knotReceive_root (place src f) (s : State) : (knotReceive place src f s).root = s.root := by simp [knotReceive]

@[simp] theorem knotReceived_root (place src segs) (s : State) : (knotReceived place src segs s).root = s.root := by
  simp [knotReceived, State.root_foldl]

@[simp] theorem knotTimedOut_root (k x) (s : State) : (knotTimedOut k x s).root = s.root := by simp [knotTimedOut]

@[simp] theorem knotTimeout_root (k) (s : State) : (knotTimeout k s).root = s.root := by unfold knotTimeout; split <;> simp

@[simp] theorem knotRetry_root (k) (s : State) : (knotRetry k s).root = s.root := by unfold knotRetry; split <;> simp

@[simp] theorem knotRunWrite_root (place ix sub_ v) (s : State) : (knotRunWrite place ix sub_ v s).1.root = s.root := by
  have hrun := knotRun_root place s
  unfold knotRunWrite
  split
  · rfl
  split
  · simp
  split
  · rename_i h
    rw [h] at hrun
    simp [hrun]
  · exact hrun

/-! ### MKA (`Mka`) -/

@[simp] theorem State.putMka_root (n m) (s : State) : (s.putMka n m).root = s.root := State.root_mk ..

@[simp] theorem mkaSend_root (n) (s : State) : (mkaSend n s).root = s.root := by simp [mkaSend]

theorem fwWrite_root {sl t i e : Nat} {s u : State} (h : fwWrite sl t i e s = some u) : u.root = s.root := by
  unfold fwWrite at h
  dsimp only at h
  split at h
  · simp only [Option.some.injEq] at h
    simp [← h]
  · cases h

@[simp] theorem mkaRetire_root (sl i old an) (s : State) : (mkaRetire sl i old an s).root = s.root := by simp [mkaRetire]

@[simp] theorem mkaInstallRx_root (n i old an h server kn) (s : State) : (mkaInstallRx n i old an h server kn s).root = s.root := by
  unfold mkaInstallRx
  dsimp only
  split
  · rfl
  split
  · rfl
  rename_i u hu
  split
  · exact fwWrite_root hu
  · rename_i v hv
    simp [fwWrite_root hv, fwWrite_root hu]

theorem mkaInstallTx_root {n y an h server kn k : Nat} {s u : State} (hu : mkaInstallTx n y an h server kn s = some (k, u)) :
    u.root = s.root := by
  unfold mkaInstallTx at hu
  dsimp only at hu
  split at hu
  · cases hu
  split at hu
  · cases hu
  rename_i v hv
  simp only [Option.map_eq_some_iff, Prod.mk.injEq] at hu
  obtain ⟨w, hw, -, rfl⟩ := hu
  exact (fwWrite_root hw).trans (fwWrite_root hv)

@[simp] theorem mkaArm_root (sl y cue) (s : State) : (mkaArm sl y cue s).root = s.root := by simp [mkaArm]

@[simp] theorem mkaInUse_root (n) (s : State) : (mkaInUse n s).root = s.root := by simp [mkaInUse, State.root_foldl]

@[simp] theorem mkaSettle_root (s : State) : (mkaSettle s).root = s.root := by simp [mkaSettle, State.root_foldl]

@[simp] theorem mkaSwitch_root (n y) (s : State) : (mkaSwitch n y s).root = s.root := by
  unfold mkaSwitch
  dsimp only
  split
  · rfl
  split
  · rfl
  split
  · cases h : fwWrite (n / 8) 3 _ _ _ with
    | none => simp
    | some u => simp [fwWrite_root h]
  · split <;> simp

@[simp] theorem mkaInstall_root (n an h server kn mine) (s : State) : (mkaInstall n an h server kn mine s).root = s.root := by
  unfold mkaInstall
  dsimp only
  split
  · rfl
  split
  · exact State.root_foldl (fun _ _ => mkaInstallRx_root ..) _ _
  · rename_i hu
    have hroot := (mkaInstallTx_root hu).trans (State.root_foldl (fun _ _ => mkaInstallRx_root ..) _ _)
    split <;> simp [hroot]

@[simp] theorem mkaDrawn_root (n b) (s : State) : (mkaDrawn n b s).root = s.root := by unfold mkaDrawn; dsimp only; split <;> simp

@[simp] theorem mkaRekey_root (n) (s : State) : (mkaRekey n s).root = s.root := by
  unfold mkaRekey
  dsimp only
  split
  · rfl
  split
  · simp
  split <;> rename_i h <;> simp [drawRequest_root_of h]

@[simp] theorem mkaThresholds_root (sl) (s : State) :
    (mkaThresholds sl s).root = s.root := by simp [mkaThresholds, State.root_foldl]

@[simp] theorem mkaChange_root (n) (s : State) : (mkaChange n s).root = s.root := by unfold mkaChange; split <;> simp

@[simp] theorem mkaAdopt_root (n) (s : State) : (mkaAdopt n s).root = s.root := by
  unfold mkaAdopt
  dsimp only
  repeat' split
  all_goals simp

@[simp] theorem mkaPeers_root (n l) (s : State) : (mkaPeers n l s).root = s.root := by simp [mkaPeers]

@[simp] theorem mkaLowest_root (n sci an pn) (s : State) : (mkaLowest n sci an pn s).root = s.root := by
  unfold mkaLowest
  dsimp only
  split
  · rfl
  split
  · cases h : fwWrite (n / 8) 3 _ _ s with
    | none => simp
    | some u => simp [fwWrite_root h]
  · rfl

@[simp] theorem mkaImport_root (n v w an kn) (s : State) :
    (mkaImport n v w an kn s).root = s.root := by unfold mkaImport; split <;> simp

@[simp] theorem mkaPotential_root (n v) (s : State) : (mkaPotential n v s).root = s.root := by simp [mkaPotential]

@[simp] theorem mkpduReceived_root (n pdu v) (s : State) : (mkpduReceived n pdu v s).root = s.root := by
  unfold mkpduReceived
  repeat' split
  all_goals simp

@[simp] theorem mkaHello_root (n) (s : State) : (mkaHello n s).root = s.root := by simp [mkaHello]

@[simp] theorem mkaPeerTimeout_root (n mi) (s : State) : (mkaPeerTimeout n mi s).root = s.root := by simp [mkaPeerTimeout]

/-! ### Snapshots (`Snap`) -/

@[simp] theorem snapRelease_root (s : State) : (snapRelease s).root = s.root := State.root_mk ..

@[simp] theorem claimEnded_root (ix) (s : State) : (claimEnded ix s).root = s.root := by simp [claimEnded]

@[simp] theorem snapOp_root (c v) (s : State) : (snapOp c v s).1.root = s.root := by
  unfold snapOp
  repeat' split
  all_goals simp

@[simp] theorem snapBoundary_root (s : State) : (snapBoundary s).root = s.root := by simp [snapBoundary]

@[simp] theorem snapExpiry_root (s : State) : (snapExpiry s).root = s.root := by simp [snapExpiry]

@[simp] theorem ctRead_root (s : State) : (ctRead s).1.root = s.root := by unfold ctRead; dsimp only; split <;> simp

@[simp] theorem tagSeeded_root (v b) (s : State) : (tagSeeded v b s).root = s.root := State.root_mk ..

@[simp] theorem tagEnable_root (c v) (s : State) : (tagEnable c v s).1.root = s.root := by
  unfold tagEnable
  split
  · simp
  split
  · simp
  split <;> rename_i h <;> simp [drawRequest_root_of h]

@[simp] theorem tagDone_root (who v r) (s : State) : (tagDone who v r s).root = s.root := by unfold tagDone; split <;> simp

@[simp] theorem tgRead_root (s : State) : (tgRead s).1.root = s.root := by unfold tgRead; split <;> simp

@[simp] theorem tgReset_root (s : State) : (tgReset s).1.root = s.root := State.root_mk ..

@[simp] theorem qsRead_root (s : State) : (qsRead s).1.root = s.root := by
  unfold qsRead
  dsimp only
  repeat' split
  all_goals simp

/-! ### Sessions (`Sess`) -/

@[simp] theorem linkEvent_root (code items) (s : State) : (linkEvent code items s).root = s.root := by simp [linkEvent]

@[simp] theorem halDown_root (k) (s : State) : (halDown k s).root = s.root := by simp [halDown]

@[simp] theorem endClaim_root (ix) (s : State) : (endClaim ix s).root = s.root := by simp [endClaim]

@[simp] theorem closeSess_root (k cause) (s : State) : (closeSess k cause s).root = s.root := by simp [closeSess, State.root_foldl]

@[simp] theorem closeAll_root (which cause) (s : State) :
    (closeAll which cause s).root = s.root := by simp [closeAll, State.root_foldl]

/-! ### Resets (`Reset`) -/

@[simp] theorem State.rebuilt_root (rank) (s : State) : (s.rebuilt rank).root = s.root := State.root_mk ..

@[simp] theorem noteCause_root (bit_) (s : State) : (noteCause bit_ s).root = s.root := State.root_mk ..

@[simp] theorem countReset_root (s : State) : (countReset s).root = s.root := State.root_mk ..

@[simp] theorem systemReset_root (bit_) (s : State) : (systemReset bit_ s).root = s.root := by simp [systemReset]

@[simp] theorem vsCheck_root (s : State) : (vsCheck s).root = s.root := by simp [vsCheck]

@[simp] theorem migrateEnds_root (s : State) : (migrateEnds s).root = s.root :=
  State.root_foldl (fun u x => by split <;> simp) _ _

@[simp] theorem blockDrop_root (s : State) : (blockDrop s).root = s.root := by simp [blockDrop]

@[simp] theorem coreClear_root (s : State) : (coreClear s).root = s.root := by simp [coreClear]

@[simp] theorem coreReset_root (bit_) (s : State) : (coreReset bit_ s).root = s.root := by simp [coreReset]

@[simp] theorem State.rstoutRun_root (s : State) : s.rstoutRun.root = s.root := by simp [State.rstoutRun]

@[simp] theorem watchdog_root (s : State) : (watchdog s).root = s.root := by
  unfold watchdog
  repeat' split
  all_goals simp

@[simp] theorem deferRelease_root (dom i) (s : State) : (deferRelease dom i s).root = s.root := by simp [deferRelease]

@[simp] theorem releaseBlocks_root (s : State) : (releaseBlocks s).root = s.root := by simp [releaseBlocks, State.root_foldl]

@[simp] theorem sliceClear_root (sl) (s : State) : (sliceClear sl s).root = s.root := by simp [sliceClear, State.root_foldl]

@[simp] theorem portClear_root (m) (s : State) : (portClear m s).root = s.root := State.root_mk ..

@[simp] theorem otnClear_root (sl) (s : State) : (otnClear sl s).root = s.root := by simp [otnClear, State.root_foldl]

@[simp] theorem blockClear_root (kind i) (s : State) : (blockClear kind i s).root = s.root := by simp [blockClear]

@[simp] theorem clockValid_root (dom i) (s : State) : (clockValid dom i s).root = s.root := by simp [clockValid]

@[simp] theorem tetherDown_root (s : State) : (tetherDown s).root = s.root := by simp [tetherDown, State.root_foldl]

@[simp] theorem clockLoss_root (dom i) (s : State) : (clockLoss dom i s).root = s.root := by simp [clockLoss]

@[simp] theorem latchStraps_root (s : State) : (latchStraps s).root = s.root := State.root_mk ..

@[simp] theorem bootFailure_root (code) (s : State) : (bootFailure code s).root = s.root := State.root_mk ..

@[simp] theorem memoriesReady_root (ddr masks) (s : State) : (memoriesReady ddr masks s).root = s.root := by
  simp [memoriesReady, State.root_foldl]

@[simp] theorem stepReady_root (ddr masks) (s : State) : (stepReady ddr masks s).root = s.root := by
  unfold stepReady
  repeat' split
  all_goals simp

@[simp] theorem stepTimeout_root (code) (s : State) : (stepTimeout code s).root = s.root := by
  unfold stepTimeout
  split
  · dsimp only
    rw [State.mark_root, State.root_mk, State.root_eta]
    split
    · rw [bootFailure_root, State.put_root]
    · rw [State.put_root]
  · rfl

@[simp] theorem stepRetry_root (s : State) : (stepRetry s).root = s.root := by simp [stepRetry]

@[simp] theorem blkReset_root (s : State) : (blkReset s).1.root = s.root := by
  unfold blkReset
  dsimp only
  repeat' split
  all_goals simp

@[simp] theorem blkDone_root (kind i) (s : State) : (blkDone kind i s).root = s.root := by simp [blkDone]

@[simp] theorem writeRecord_root (active try_ tries staged) (s : State) : (writeRecord active try_ tries staged s).root = s.root :=
  State.root_mk ..

@[simp] theorem chooseSlot'_root (s : State) : (chooseSlot' s).2.root = s.root := by
  unfold chooseSlot'
  dsimp only
  repeat' split
  all_goals simp

@[simp] theorem startFirmware_root (slot fallback image ranges us) (s : State) :
    (startFirmware slot fallback image ranges us s).root = s.root := by
  unfold startFirmware
  dsimp only
  split <;> simp [State.root_foldl]

@[simp] theorem bootWait_root (s : State) : (bootWait s).root = s.root := State.root_mk ..

@[simp] theorem bootFirmware_root (ranges us) (s : State) : (bootFirmware ranges us s).root = s.root := by
  unfold bootFirmware
  repeat' split
  all_goals simp

@[simp] theorem migrateStaged_root (s : State) : (migrateStaged s).1.root = s.root := by
  unfold migrateStaged
  dsimp only
  split
  · rfl
  split
  · rfl
  split
  · rename_i h
    split <;> simp [migrate_root_of h]
  · simp

theorem migrateStaged_root_of {s t : State} {st : Status} (h : migrateStaged s = (t, st)) : t.root = s.root :=
  (congrArg (·.1.root) h).symm.trans (migrateStaged_root ..)

@[simp] theorem fwActivate_root (v) (s : State) : (fwActivate v s).1.root = s.root := by
  unfold fwActivate
  split
  · rfl
  split
  · rfl
  split
  · rename_i h
    simp [migrateStaged_root_of h]
  · simp

@[simp] theorem rowActivate_root (c v) (s : State) : (rowActivate c v s).root = s.root := by simp [rowActivate]

@[simp] theorem fwCommit_root (v) (s : State) : (fwCommit v s).1.root = s.root := by unfold fwCommit; dsimp only; split <;> simp

@[simp] theorem causeClear_root (v) (s : State) : (causeClear v s).1.root = s.root := by simp [causeClear]

@[simp] theorem resetMsg_root (s : State) : (resetMsg s).root = s.root := by unfold resetMsg; split <;> simp

/-! ### The life cycle (`LifeCycle`) -/

@[simp] theorem destroyKeys_root (s : State) : (destroyKeys s).root = s.root := by simp [destroyKeys]

@[simp] theorem lcTransition_root (level) (s : State) :
    (lcTransition level s).1.root = s.root := by unfold lcTransition; split <;> simp

@[simp] theorem vsRenewed_root (b) (s : State) : (vsRenewed b s).root = s.root := State.root_mk ..

@[simp] theorem vsRenew_root (level) (s : State) : (vsRenew level s).1.root = s.root := by
  unfold vsRenew
  split
  · rfl
  split
  · rfl
  split <;> rename_i h <;> simp [drawRequest_root_of h]

/-! ### The pair (`Pair`) -/

@[simp] theorem pairJoin_root (s : State) : (pairJoin s).root = s.root := by simp [pairJoin]

@[simp] theorem mirrorKnots_root (s : State) : (mirrorKnots s).root = s.root := by simp [mirrorKnots]

@[simp] theorem mirrorKeys_root (sl) (s : State) : (mirrorKeys sl s).root = s.root := by simp [mirrorKeys, State.root_foldl]

@[simp] theorem mirrorKeysDue_root (s : State) : (mirrorKeysDue s).root = s.root := by simp [mirrorKeysDue, State.root_foldl]

@[simp] theorem mirrorAll_root (s : State) : (mirrorAll s).root = s.root := by simp [mirrorAll, State.root_foldl]

@[simp] theorem digestTake_root (b) (s : State) : (digestTake b s).root = s.root := by simp [digestTake]

@[simp] theorem digestSay_root (s : State) : (digestSay s).root = s.root := by simp [digestSay]

@[simp] theorem enterBulk_root (s : State) : (enterBulk s).root = s.root := by unfold enterBulk; dsimp only; split <;> simp

@[simp] theorem enterKeying_root (s : State) : (enterKeying s).root = s.root := by simp [enterKeying]

@[simp] theorem pairAdvance_root (s : State) : (pairAdvance s).root = s.root := by simp [pairAdvance]

@[simp] theorem yieldPorts_root (s : State) : (yieldPorts s).root = s.root := by simp [yieldPorts]

@[simp] theorem assertSelAct_root (s : State) : (assertSelAct s).root = s.root := by simp [assertSelAct]

@[simp] theorem settleCmd_root (homeActive) (s : State) :
    (settleCmd homeActive s).root = s.root := by unfold settleCmd; split <;> simp

@[simp] theorem becomeStandby_root (s : State) : (becomeStandby s).root = s.root := by simp [becomeStandby, State.root_foldl]

@[simp] theorem pnGuard_root (s : State) : (pnGuard s).root = s.root := State.root_mk ..

@[simp] theorem mfnGuard_root (s : State) : (mfnGuard s).root = s.root := by simp [mfnGuard, State.root_foldl]

@[simp] theorem cuesWake_root (s : State) : (cuesWake s).root = s.root := by simp [cuesWake, State.root_foldl]

@[simp] theorem knotAgain_root (s : State) : (knotAgain s).root = s.root := by simp [knotAgain, State.root_foldl]

@[simp] theorem takeoverAis_root (s : State) : (takeoverAis s).root = s.root := by simp [takeoverAis, State.root_foldl]

@[simp] theorem takeover_root (cause) (s : State) : (takeover cause s).root = s.root := by simp [takeover, State.root_foldl]

@[simp] theorem noTakeover_root (lost) (s : State) : (noTakeover lost s).root = s.root := by simp [noTakeover]

@[simp] theorem declareFault_root (cause lost) (s : State) : (declareFault cause lost s).root = s.root := by simp [declareFault]

@[simp] theorem declaredRun_root (s : State) : (declaredRun s).root = s.root := by unfold declaredRun; split <;> simp

@[simp] theorem takeoverCommit_root (s : State) : (takeoverCommit s).root = s.root := by unfold takeoverCommit; split <;> simp

@[simp] theorem selMateSample_root (high) (s : State) : (selMateSample high s).root = s.root := by simp [selMateSample]

@[simp] theorem heartbeatTimer_root (s : State) : (heartbeatTimer s).root = s.root := by
  unfold heartbeatTimer
  dsimp only
  repeat' split
  all_goals simp

@[simp] theorem badFrames_root (n) (s : State) : (badFrames n s).root = s.root := State.root_mk ..

@[simp] theorem tetherTake_root (len b) (act : State → State) (s : State) (h : ∀ u, (act u).root = u.root) :
    (tetherTake len b act s).root = s.root := by
  simp [tetherTake, h]

@[simp] theorem losWatch_root (s : State) : (losWatch s).root = s.root := by simp [losWatch, State.root_foldl]

@[simp] theorem heardFrom_root (s : State) : (heardFrom s).root = s.root := State.root_mk ..

@[simp] theorem countMissed_root (s : State) : (countMissed s).root = s.root := by simp [countMissed]

@[simp] theorem heartbeatActive_root (s : State) : (heartbeatActive s).root = s.root := by simp [heartbeatActive]

@[simp] theorem heartbeatReceived_root (b) (s : State) : (heartbeatReceived b s).root = s.root := by simp [heartbeatReceived]

@[simp] theorem lossActive_root (s : State) : (lossActive s).root = s.root := by simp [lossActive]

@[simp] theorem heartbeatLoss_root (s : State) : (heartbeatLoss s).root = s.root := by simp [heartbeatLoss]

@[simp] theorem selActRelease_root (s : State) : (selActRelease s).root = s.root := by simp [selActRelease]

@[simp] theorem State.pairPeriod_root (s : State) : s.pairPeriod.root = s.root := by simp [State.pairPeriod]

@[simp] theorem sayHello_root (s : State) : (sayHello s).root = s.root := by simp [sayHello]

@[simp] theorem helloTimer_root (s : State) : (helloTimer s).root = s.root := by simp [helloTimer]

@[simp] theorem helloAccepted_root (b) (s : State) : (helloAccepted b s).root = s.root := by simp [helloAccepted]

@[simp] theorem helloReceived_root (b) (s : State) : (helloReceived b s).root = s.root := by simp [helloReceived]

@[simp] theorem badFrame_root (s : State) : (badFrame s).root = s.root := by simp [badFrame]

@[simp] theorem aloneWait_root (s : State) : (aloneWait s).root = s.root := by simp [aloneWait]

@[simp] theorem ckptSlice_root (sl) (s : State) : (ckptSlice sl s).root = s.root := by simp [ckptSlice, State.root_foldl]

@[simp] theorem ckptSnapshot_root (s : State) : (ckptSnapshot s).root = s.root := by simp [ckptSnapshot, State.root_foldl]

theorem applyRecord_root {sl : Nat} {r : Bytes} {s u : State} (h : applyRecord sl r s = some u) : u.root = s.root := by
  unfold applyRecord at h
  dsimp only at h
  split at h
  · split at h
    · cases h
      exact State.putSa_root ..
    · cases h
  · split at h
    · cases h
      exact (State.putCue_root ..).trans (State.putTxsc_root ..)
    · cases h
  · split at h
    · cases h
      exact (State.putTribCue_root ..).trans ((State.put_root ..).trans (State.put_root ..))
    · cases h
  · cases h

@[simp] theorem applyRecords_root (sl b) (s : State) : (applyRecords sl b s).2.root = s.root :=
  State.root_foldl_snd (fun a k => by
    split
    · rename_i h
      exact applyRecord_root h
    · simp) _ _

@[simp] theorem applyPart_root (sl serial part parts records) (s : State) :
    (applyPart sl serial part parts records s).root = s.root := by
  unfold applyPart
  dsimp only
  split_ifs <;> simp only [State.root_mk, State.root_eta, applyRecords_root]

@[simp] theorem ckptReceived_root (l) (s : State) : (ckptReceived l s).root = s.root := by
  unfold ckptReceived
  repeat' split
  all_goals simp

@[simp] theorem cueSyncReceived_root (b) (s : State) : (cueSyncReceived b s).root = s.root :=
  tetherTake_root _ _ _ _ fun u => by
    split
    · exact applyRecords_root ..
    · rfl

@[simp] theorem ckptAged_root (sl) (s : State) : (ckptAged sl s).root = s.root := by simp [ckptAged]

@[simp] theorem mirrorBlob_root (b target handle) (s : State) : (mirrorBlob b target handle s).root = s.root := by
  unfold mirrorBlob
  split <;> simp

@[simp] theorem mirrorWrite_root (sl t i e) (s : State) : (mirrorWrite sl t i e s).root = s.root := by simp [mirrorWrite]

@[simp] theorem mirrorClear_root (sl t i) (s : State) : (mirrorClear sl t i s).root = s.root := by
  -- `cancelTx` is made opaque: to compare it with the match the kernel would evaluate the cue
  obtain ⟨f, hf⟩ : ∃ f, cancelTx sl i = f := ⟨_, rfl⟩
  have hc (u : State) : (f u).1.root = u.root := hf ▸ cancelTx_root ..
  unfold mirrorClear
  rw [hf]
  split
  · exact mirrorWrite_root ..
  · split
    · exact mirrorWrite_root ..
    · rfl
  · split
    · exact (hc _).trans (mirrorWrite_root ..)
    · rfl
  · rfl

@[simp] theorem mirrorPut_root (sl t i e) (s : State) : (mirrorPut sl t i e s).root = s.root := by
  unfold mirrorPut
  repeat' split
  all_goals simp

@[simp] theorem mirrorEntry_root (table sl i img) (s : State) : (mirrorEntry table sl i img s).root = s.root := by
  unfold mirrorEntry
  split <;> simp

@[simp] theorem losCompare_root (m) (s : State) : (losCompare m s).root = s.root := by simp [losCompare]

@[simp] theorem takeReceived_root (s : State) : (takeReceived s).root = s.root := by simp [takeReceived]

@[simp] theorem holdEnd_root (s : State) : (holdEnd s).root = s.root := by simp [holdEnd]

@[simp] theorem swAnswer_root (st cmd) (s : State) : (swAnswer st cmd s).root = s.root := by simp [swAnswer]

@[simp] theorem swRun_root (c) (s : State) : (swRun c s).root = s.root := by simp [swRun]

@[simp] theorem swHome_root (c) (s : State) : (swHome c s).root = s.root := by unfold swHome; split <;> simp

@[simp] theorem swDisplace_root (s : State) : (swDisplace s).root = s.root := by unfold swDisplace; split <;> simp

@[simp] theorem swCmd_root (v) (s : State) : (swCmd v s).1.root = s.root := by
  unfold swCmd
  dsimp only
  repeat' split
  all_goals simp

@[simp] theorem switchReq_root (cmd) (s : State) : (switchReq cmd s).root = s.root := by simp [switchReq]

@[simp] theorem switchAns_root (st cmd) (s : State) : (switchAns st cmd s).root = s.root := by simp [switchAns]

@[simp] theorem handoverSend_root (s : State) : (handoverSend s).root = s.root := by simp [handoverSend]

@[simp] theorem handoverReceived_root (cause) (s : State) : (handoverReceived cause s).root = s.root := by simp [handoverReceived]

@[simp] theorem wtrExpiry_root (s : State) : (wtrExpiry s).root = s.root := by simp [wtrExpiry]

@[simp] theorem pairWrite_root (sub_ v) (s : State) : (pairWrite sub_ v s).1.root = s.root := by
  unfold pairWrite
  repeat' split
  all_goals simp

@[simp] theorem cgDeclare_root (k late) (s : State) : (cgDeclare k late s).root = s.root := by simp [cgDeclare]

@[simp] theorem cgAlign_root (k at_) (s : State) : (cgAlign k at_ s).root = s.root := by simp [cgAlign]

@[simp] theorem cgLost_root (k signal) (s : State) : (cgLost k signal s).root = s.root := by simp [cgLost]

@[simp] theorem cgAlignLost_root (k groups signal) (s : State) :
    (cgAlignLost k groups signal s).root = s.root := by simp [cgAlignLost]

/-! ### The repertoire (`Repertoire`) -/

@[simp] theorem loadSodus_root (s : State) : (loadSodus s).root = s.root := by simp [loadSodus, State.root_foldl]

@[simp] theorem loadEffects_root (was : State) (s : State) :
    (loadEffects was s).root = s.root := by simp [loadEffects, State.root_foldl]

@[simp] theorem loadPower_root (sl) (s : State) : (loadPower sl s).root = s.root := by simp [loadPower]

@[simp] theorem loadObjects_root (p) (s : State) : (loadObjects p s).root = s.root := by simp [loadObjects, State.root_foldl]

@[simp] theorem loadStatics_root (p) (s : State) : (loadStatics p s).root = s.root := by simp [loadStatics, State.root_foldl]

@[simp] theorem loadTables_root (p) (s : State) : (loadTables p s).root = s.root := by simp [loadTables]

@[simp] theorem loadEnable_root (key v) (s : State) : (loadEnable key v s).2.root = s.root := by
  unfold loadEnable
  dsimp only
  split <;> simp

@[simp] theorem applyProfile_root (p) (s : State) : (applyProfile p s).1.root = s.root := by
  unfold applyProfile
  dsimp only
  rw [State.root_foldl_snd (fun _ _ => by simp only [loadEnable_root]), loadTables_root, loadObjects_root]

@[simp] theorem loadProfile_root (n) (s : State) : (loadProfile n s).1.root = s.root := by unfold loadProfile; split <;> simp

@[simp] theorem recordLoad_root (n st) (s : State) : (recordLoad n st s).root = s.root := State.root_mk ..

@[simp] theorem afterLoad_root (s : State) : (afterLoad s).root = s.root := by simp [afterLoad]

@[simp] theorem endGap_root (s : State) : (endGap s).root = s.root := by simp [endGap]

@[simp] theorem bootLoad_root (n) (s : State) : (bootLoad n s).root = s.root := by simp [bootLoad]

@[simp] theorem profileLoad_root (s : State) : (profileLoad s).root = s.root := by
  unfold profileLoad
  repeat' split
  all_goals simp

@[simp] theorem saveProfile_root (n k p) (s : State) : (saveProfile n k p s).root = s.root := State.root_mk ..

@[simp] theorem storeDone_root (s : State) : (storeDone s).1.root = s.root := by
  unfold storeDone
  repeat' split
  all_goals simp

@[simp] theorem rpStore_root (n) (s : State) : (rpStore n s).1.root = s.root := by
  unfold rpStore
  split
  · rfl
  split
  · rfl
  split
  · simp
  split
  · rfl
  split <;> rename_i h <;> simp [drawRequest_root_of h]

@[simp] theorem rpLoad_root (n) (s : State) : (rpLoad n s).1.root = s.root := by unfold rpLoad; split <;> simp

@[simp] theorem rpErase_root (n) (s : State) : (rpErase n s).1.root = s.root := by unfold rpErase; split <;> simp

@[simp] theorem rpDigest_root (n) (s : State) : (rpDigest n s).1.root = s.root := by unfold rpDigest; split <;> simp

@[simp] theorem rpOp_root (code) (s : State) : (rpOp code s).1.root = s.root := by
  unfold rpOp
  dsimp only
  repeat' split
  all_goals simp

@[simp] theorem rowRp_root (c code) (s : State) : (rowRp c code s).root = s.root := by simp [rowRp]

/-! ### Handshakes (`Session`) -/

@[simp] theorem State.putFwd_root (port l) (s : State) : (s.putFwd port l).root = s.root := by simp [State.putFwd]

@[simp] theorem State.passOn_root (port f) (s : State) : (s.passOn port f).root = s.root := State.root_mk ..

@[simp] theorem drainFwd_root (port) (s : State) : (drainFwd port s).root = s.root := by simp [drainFwd, State.root_foldl]

@[simp] theorem mailboxOut_root (s : State) : (mailboxOut s).root = s.root := by unfold mailboxOut; split <;> simp

@[simp] theorem send_root (port dst kind session payload) (s : State) : (send port dst kind session payload s).root = s.root := by
  simp [send, State.root_foldl]

@[simp] theorem sayTo_root (k port body) (s : State) : (sayTo k port body s).root = s.root := by simp [sayTo]

@[simp] theorem owe_root (k o) (s : State) : (owe k o s).root = s.root := by simp [owe]

@[simp] theorem oweNow_root (k op id st body) (s : State) : (oweNow k op id st body s).root = s.root := by simp [oweNow]

@[simp] theorem Owed.after_root (k o) (s : State) :
    (Owed.after k o s).root = s.root := by unfold Owed.after; dsimp only; split <;> simp

@[simp] theorem flushUpTo_root (k n) (s : State) : (flushUpTo k n s).root = s.root := by
  induction n generalizing s with
  | zero => rfl
  | succ n ih =>
    simp only [flushUpTo]
    split
    · rfl
    · split
      · simp [ih]
      · rfl

@[simp] theorem sayHandshake_root (port dst session msg body) (s : State) :
    (sayHandshake port dst session msg body s).root = s.root := by
  simp [sayHandshake]

@[simp] theorem handAbort_root (k port dst session st) (s : State) : (handAbort k port dst session st s).root = s.root := by
  unfold handAbort
  split <;> simp

@[simp] theorem putShake_root (k h) (s : State) : (putShake k h s).root = s.root := State.root_mk ..

@[simp] theorem handFailed_root (k serial st) (s : State) : (handFailed k serial st s).root = s.root := by simp [handFailed]

@[simp] theorem handWork_root (k h stage ops) (s : State) : (handWork k h stage ops s).root = s.root := by
  unfold handWork
  dsimp only
  split
  · split <;> rename_i h <;> simp [pkeQueue_root_of h]
  · simp

@[simp] theorem handDrawn_root (k serial b) (s : State) :
    (handDrawn k serial b s).root = s.root := by unfold handDrawn; split <;> simp

@[simp] theorem handResp_root (k h) (s : State) : (handResp k h s).root = s.root := by simp [handResp]

@[simp] theorem handInit_root (port src session body) (s : State) : (handInit port src session body s).root = s.root := by
  unfold handInit
  split
  · rfl
  · dsimp only
    split
    · split <;> rename_i h <;> simp [drawRequest_root_of h]
    · simp

@[simp] theorem sessOpen_root (k to_ h) (s : State) : (sessOpen k to_ h s).root = s.root := by simp [sessOpen]

@[simp] theorem handOpen_root (k h) (s : State) : (handOpen k h s).root = s.root := by unfold handOpen; split <;> simp

@[simp] theorem handAuth_root (k h body) (s : State) :
    (handAuth k h body s).root = s.root := by unfold handAuth; dsimp only; split <;> simp

@[simp] theorem handStep_root (op k serial b) (s : State) : (handStep op k serial b s).root = s.root := by
  unfold handStep
  dsimp only
  repeat' split
  all_goals simp

@[simp] theorem handshakeReceived_root (port src session payload) (s : State) :
    (handshakeReceived port src session payload s).root = s.root := by
  unfold handshakeReceived
  repeat' split
  all_goals simp

@[simp] theorem idleTimeout_root (k) (s : State) : (idleTimeout k s).root = s.root := by simp [idleTimeout]

/-! ### Draws (`Draws`) -/

@[simp] theorem drawEnd_root (ix stSub) (r : State × Status) : (drawEnd ix stSub r).root = r.1.root := State.root_mk ..

@[simp] theorem readDone_root (b) (s : State) : (readDone b s).1.root = s.root := State.root_mk ..

@[simp] theorem entRead_root (s : State) : (entRead s).1.root = s.root := by
  unfold entRead; split <;> rename_i h <;> simp [drawRequest_root_of h]

@[simp] theorem pkeFail_root (w st) (s : State) : (pkeFail w st s).root = s.root := by unfold pkeFail; split <;> simp

@[simp] theorem pkeGo_root (n) (s : State) : (pkeGo n s).root = s.root := by
  induction n generalizing s with
  | zero => rfl
  | succ n ih =>
    simp only [pkeGo]
    split <;> rename_i h <;> simp [ih, pkeStart_root_of h]

@[simp] theorem blockReady_root (s : State) : (blockReady s).root = s.root := by unfold blockReady; split <;> simp

@[simp] theorem Parked.say_root (p st) (s : State) : (Parked.say p st s).root = s.root := by unfold Parked.say; split <;> simp

@[simp] theorem blockFails_root (st) (s : State) : (blockFails st s).root = s.root := by unfold blockFails; split <;> simp

@[simp] theorem certDone_root (who cert) (s : State) : (certDone who cert s).root = s.root := by simp [certDone]

@[simp] theorem tagDrawn_root (who v b) (s : State) : (tagDrawn who v b s).root = s.root := by simp [tagDrawn]

@[simp] theorem tagLost_root (who v st) (s : State) : (tagLost who v st s).root = s.root := by simp [tagLost]

@[simp] theorem pkeWindowEnd_root (ix stSub) (r : State × Option Status) : (pkeWindowEnd ix stSub r).root = r.1.root := by
  unfold pkeWindowEnd
  split <;> simp

@[simp] theorem drawFailed_root (who st) (s : State) : (drawFailed who st s).root = s.root := by
  unfold drawFailed
  repeat' split
  all_goals simp

@[simp] theorem drawsFailed_root (l st) (s : State) : (drawsFailed l st s).root = s.root := by simp [drawsFailed, State.root_foldl]

/-! ### Alarm responses (`Respond`) -/

@[simp] theorem denyWaiting_root (which) (s : State) : (denyWaiting which s).root = s.root := by simp [denyWaiting]

@[simp] theorem denyPosts_root (s : State) : (denyPosts s).root = s.root := State.root_mk ..

@[simp] theorem standbyHeld_root (s : State) : (standbyHeld s).root = s.root := by simp [standbyHeld]

@[simp] theorem unheld_root (f : State → State) (s : State) (h : ∀ u, (f u).root = u.root) : (unheld f s).root = s.root := by
  simp [unheld, h]

@[simp] theorem holdEnds_root (s : State) : (holdEnds s).root = s.root := by simp [holdEnds]

@[simp] theorem alarmClear_root (s : State) : (alarmClear s).1.root = s.root := by simp [alarmClear]

@[simp] theorem darkDrop_root (sl p f) (s : State) : (darkDrop sl p s f).root = s.root := by simp [darkDrop]

@[simp] theorem darkQueues_root (sl p) (s : State) : (darkQueues sl p s).root = s.root := by simp [darkQueues, State.root_foldl]

@[simp] theorem darkSlice_root (sl) (s : State) : (darkSlice sl s).root = s.root := by simp [darkSlice, State.root_foldl]

@[simp] theorem linksOff_root (s : State) : (linksOff s).root = s.root := by simp [linksOff]

@[simp] theorem darkDrain_root (s : State) : (darkDrain s).root = s.root := by simp [darkDrain, State.root_foldl]

@[simp] theorem enterDark_root (s : State) : (enterDark s).root = s.root := by simp [enterDark, State.root_foldl]

@[simp] theorem ungateDone_root (sl sealMask openMask) (s : State) : (ungateDone sl sealMask openMask s).root = s.root := by
  simp [ungateDone]

@[simp] theorem clockHold_root (sl) (s : State) : (clockHold sl s).root = s.root := by simp [clockHold]

@[simp] theorem mainLoss_root (cell) (s : State) : (mainLoss cell s).root = s.root := by simp [mainLoss]

/-! ### Writes of objects (`Write`) -/

@[simp] theorem evRead_root (s : State) : (evRead s).1.root = s.root := by unfold evRead; split <;> simp

@[simp] theorem now_root (r : State × Status) : (now r).1.root = r.1.root := State.root_mk ..

@[simp] theorem numWrite_root (c ix sub_ n) (s : State) : (numWrite c ix sub_ n s).1.root = s.root := by
  unfold numWrite
  repeat' split
  all_goals simp

@[simp] theorem octWrite_root (c ix sub_ b) (s : State) :
    (octWrite c ix sub_ b s).1.root = s.root := by unfold octWrite; split <;> simp

@[simp] theorem blockDraw_root (p n) (s : State) : (blockDraw p n s).2.root = s.root := by
  unfold blockDraw; split <;> rename_i h <;> simp [drawRequest_root_of h]

@[simp] theorem blockCheck_root (p cert) (s : State) : (blockCheck p cert s).2.root = s.root := by simp [blockCheck]

/-! ### Requests (`Msg`) -/

@[simp] theorem flushAnswers_root (k) (s : State) : (flushAnswers k s).root = s.root := by simp [flushAnswers]

@[simp] theorem answer_root (k op id st body) (s : State) : (answer k op id st body s).root = s.root := by simp [answer]

@[simp] theorem request_root (k op id) (act : State → State) (s : State) (h : ∀ u, (act u).root = u.root) :
    (request k op id act s).root = s.root := by
  simp [request, h]

@[simp] theorem msgHello_root (k id versions) (s : State) : (msgHello k id versions s).root = s.root := by simp [msgHello]

@[simp] theorem msgGet_root (k id ix sub_) (s : State) : (msgGet k id ix sub_ s).root = s.root :=
  request_root _ _ _ _ _ fun u => by split <;> simp

@[simp] theorem msgGetBlock_root (k id l) (s : State) : (msgGetBlock k id l s).root = s.root :=
  request_root _ _ _ _ _ fun u => by
    split
    · simp
    · split <;> simp

@[simp] theorem noteWrites_root (k same l) (s : State) : (noteWrites k same l s).root = s.root := State.root_mk ..

@[simp] theorem noteNone_root (same) (s : State) : (noteNone same s).root = s.root := by simp [noteNone]

@[simp] theorem orPark_root (k write arbiter w) (act : State → State) (s : State) (h : ∀ u, (act u).root = u.root) :
    (orPark k write arbiter w act s).root = s.root := by
  simp [orPark, h]

@[simp] theorem blockWaits_root (k op id) (r : Option Status × State) : (blockWaits k op id r).root = r.2.root := by
  unfold blockWaits; split <;> simp

@[simp] theorem msgSubscribe_root (k id mask) (s : State) : (msgSubscribe k id mask s).root = s.root := by simp [msgSubscribe]

@[simp] theorem grant_root (k ix) (s : State) : (grant k s ix).root = s.root := by unfold grant; split <;> simp

@[simp] theorem msgClaim_root (k id force l) (s : State) : (msgClaim k id force l s).root = s.root :=
  request_root _ _ _ _ _ fun u => by
    dsimp only
    split
    · simp
    · split <;> simp [State.root_foldl]

@[simp] theorem msgRelease_root (k id l) (s : State) : (msgRelease k id l s).root = s.root := by simp [msgRelease, State.root_foldl]

@[simp] theorem msgReset_root (k id level) (s : State) : (msgReset k id level s).root = s.root := by simp [msgReset]

@[simp] theorem stage_root (k id) (act : State → State × Status) (s : State) (h : ∀ u, (act u).1.root = u.root) :
    (stage k id act s).root = s.root := by
  simp [stage, h]

@[simp] theorem stageBegin_root (s : State) : (stageBegin s).1.root = s.root := by
  unfold stageBegin
  repeat' split
  all_goals simp

@[simp] theorem stageData_root (off b) (s : State) : (stageData off b s).1.root = s.root := by
  unfold stageData
  repeat' split
  all_goals simp

@[simp] theorem stageEnd_root (s : State) : (stageEnd s).1.root = s.root := by
  unfold stageEnd
  dsimp only
  repeat' split
  all_goals simp

@[simp] theorem stageAbort_root (s : State) : (stageAbort s).1.root = s.root := State.root_mk ..

@[simp] theorem msgBad_root (k op id) (s : State) : (msgBad k op id s).root = s.root := by simp [msgBad]

@[simp] theorem State.setPort_root (k port) (s : State) : (s.setPort k port).root = s.root := by simp [State.setPort]

@[simp] theorem msgMalformed_root (k op id) (s : State) : (msgMalformed k op id s).root = s.root := by simp [msgMalformed]

@[simp] theorem notifySend_root (k) (s : State) : (notifySend k s).root = s.root := by simp [notifySend]

@[simp] theorem busyParked_root (k) (s : State) : (busyParked k s).root = s.root := by
  unfold busyParked
  repeat' split
  all_goals simp

@[simp] theorem answerTimeout_root (k) (s : State) : (answerTimeout k s).root = s.root := by simp [answerTimeout]

/-! ### The ring (`Ring`) -/

@[simp] theorem badTag_root (k) (s : State) : (badTag k s).root = s.root := by simp [badTag]

@[simp] theorem discover_root (port src hops) (s : State) : (discover port src hops s).root = s.root := by simp [discover]

@[simp] theorem discoverReply_root (port src deviceId) (s : State) : (discoverReply port src deviceId s).root = s.root := by
  simp [discoverReply]

@[simp] theorem forward_root (port f busy) (s : State) : (forward port f busy s).root = s.root := by simp [forward]

@[simp] theorem bypassRelease_root (s : State) : (bypassRelease s).root = s.root := by simp [bypassRelease]

@[simp] theorem mailboxClear_root (s : State) : (mailboxClear s).root = s.root := State.root_mk ..

@[simp] theorem pcieJobsAbort_root (s : State) : (pcieJobsAbort s).root = s.root :=
  State.root_foldl (fun u j => by split <;> simp) _ _

@[simp] theorem pcieClose_root (cause) (s : State) : (pcieClose cause s).root = s.root := by simp [pcieClose]

@[simp] theorem functionReset_root (s : State) : (functionReset s).root = s.root := by simp [functionReset]

@[simp] theorem linkDown_root (s : State) : (linkDown s).root = s.root := by simp [linkDown]

@[simp] theorem linkUp_root (speed width) (s : State) : (linkUp speed width s).root = s.root := by simp [linkUp]

/-! ### The period (`Tick`) -/

@[simp] theorem State.reside_root (s : State) : s.reside.root = s.root := by
  unfold State.reside; dsimp only; split
  · rw [State.root_mk, State.root_eta]
  · rw [State.addOb_root, State.root_mk, State.root_eta]

end Sys2Proof.Machine
end

section
/-! Fuses burn one way only (R360, R363, R369, R548): each operation that can write them, up to the step. -/

namespace Sys2Proof.Machine

/-! ### What burning allows -/

/-- The ranges of `State.fuseOk`, of the fuses alone. -/
def Fuse.fit (f : Fuse) : Prop :=
  f.lc ≤ 4 ∧ f.svn ≤ 63 ∧ ∀ c, f.change = some c →
    1 ≤ c.lc ∧ c.lc ≤ 4 ∧ (c.fused = false → (c.lc = 1 ∨ c.dus.isSome = true) → f.lc = 0)

/-- Fuses that are burnt one way only (R360, R363, R369, R548). -/
structure Fuse.Burnt (f g : Fuse) : Prop where
  lc : g.lc = f.lc ∨ 2 ≤ g.lc ∨ (f.lc = 0 ∧ g.lc = 1)
  svn : f.svn ≤ g.svn
  transfers : f.transfers ≤ g.transfers
  disabled : ∀ src ∈ f.disabled, src ∈ g.disabled
  dus : g.dus = f.dus ∨ g.dus = 2 ^ 256 - 1 ∨ f.lc = 0
  part : g.part = f.part
  baseMac : g.baseMac = f.baseMac

theorem Fuse.Burnt.refl (f : Fuse) : f.Burnt f := ⟨.inl rfl, le_rfl, le_rfl, fun _ h => h, .inl rfl, rfl, rfl⟩

theorem Fuse.Burnt.trans {f g h : Fuse} (a : f.Burnt g) (b : g.Burnt h) : f.Burnt h := by
  refine ⟨?_, a.svn.trans b.svn, a.transfers.trans b.transfers, fun src hs => b.disabled src (a.disabled src hs), ?_,
    b.part.trans a.part, b.baseMac.trans a.baseMac⟩
  · have ha := a.lc
    have hb := b.lc
    omega
  · have ha := a.lc
    rcases b.dus with hb | hb | hb
    · rw [hb]; exact a.dus
    · exact .inr (.inl hb)
    · exact .inr (.inr (by omega))

/-- A move of the root that keeps the fuses in range, burns them one way only and leaves the queue. -/
structure Burns (p q : Fuse × List Instr) : Prop where
  keeps : p.1.fit → q.1.fit ∧ p.1.Burnt q.1 ∧ q.2 = p.2

@[simp] theorem Burns.refl (p) : Burns p p := ⟨fun h => ⟨h, .refl _, rfl⟩⟩

theorem Burns.trans {p q r : Fuse × List Instr} (a : Burns p q) (b : Burns q r) : Burns p r := ⟨fun h => by
  obtain ⟨hq, hpq, eq⟩ := a.keeps h
  obtain ⟨hr, hqr, er⟩ := b.keeps hq
  exact ⟨hr, hpq.trans hqr, er.trans eq⟩⟩

theorem Burns.of_eq {p q : Fuse × List Instr} (h : q = p) : Burns p q := h ▸ .refl p

theorem State.fuse_of_root {s t : State} (h : t.root = s.root) : t.fuse = s.fuse := congrArg Prod.fst h

/-- Only the transition in progress moves. -/
theorem burns_of_change {s t : State} {o : Option LcChange} (hf : t.fuse = { s.fuse with change := o }) (hp : t.pending = s.pending)
    (ho : s.fuseOk → ∀ c, o = some c → 1 ≤ c.lc ∧ c.lc ≤ 4 ∧ (c.fused = false → (c.lc = 1 ∨ c.dus.isSome = true) → s.fuse.lc = 0)) :
    Burns s.root t.root := ⟨fun h => by
  have hp' : t.root.2 = s.root.2 := hp
  refine ⟨?_, ?_, hp'⟩
  · show t.fuse.fit
    rw [hf]
    exact ⟨h.1, h.2.1, ho h⟩
  · show s.fuse.Burnt t.fuse
    rw [hf]
    exact ⟨.inl rfl, le_rfl, le_rfl, fun _ h => h, .inl rfl, rfl, rfl⟩⟩

/-- Settles O55: the model's life-cycle state at reset is the default of the fuses (log 5). -/
theorem fusesAreInRangeAtReset : Obligations.FusesAreInRangeAtReset := ⟨by decide, by decide, nofun⟩

/-! ### The operations that burn or unburn fuses (R360 to R363, R369, R548, R551) -/

theorem transitionBegin_burns {lc : Nat} {owner : Bytes} {vs dus : Option Nat} {s : State}
    (h : 1 ≤ lc ∧ lc ≤ 4 ∧ (lc = 1 ∨ dus.isSome = true → s.fuse.lc = 0)) :
    Burns s.root (transitionBegin lc owner vs dus s).root := by
  unfold transitionBegin
  have hroot := destroyKeys_root s
  obtain ⟨u, hu⟩ : ∃ u, destroyKeys s = u := ⟨_, rfl⟩
  rw [hu] at hroot ⊢
  refine (Burns.of_eq hroot).trans (burns_of_change (o := some ⟨lc, owner, vs, dus, false⟩) rfl rfl ?_)
  rintro _ _ ⟨⟩
  exact ⟨h.1, h.2.1, fun _ hc => (congrArg Fuse.lc (State.fuse_of_root hroot)).trans (h.2.2 hc)⟩

theorem fuseTransition_burns {c : LcChange} {s : State} (h : s.fuse.change = some c) (hc : c.fused = false) :
    Burns s.root (fuseTransition c s).root := ⟨fun hfit => by
  obtain ⟨h1, h4, hblank⟩ := hfit.2.2 c h
  have hlc : c.lc = 1 ∨ c.dus.isSome = true → s.fuse.lc = 0 := hblank hc
  refine ⟨⟨h4, hfit.2.1, ?_⟩, ⟨?_, le_rfl, ?_, fun _ hs => hs, ?_, rfl, rfl⟩, rfl⟩
  · rintro _ ⟨⟩
    exact ⟨h1, h4, nofun⟩
  · show c.lc = s.fuse.lc ∨ 2 ≤ c.lc ∨ (s.fuse.lc = 0 ∧ c.lc = 1)
    omega
  · show s.fuse.transfers ≤ ite _ _ _
    split <;> omega
  · show ite _ _ _ = s.fuse.dus ∨ ite _ _ _ = _ ∨ s.fuse.lc = 0
    split
    · exact .inr (.inl rfl)
    · cases hd : c.dus with
      | none => exact .inl rfl
      | some d => exact .inr (.inr (hlc (.inr (by simp [hd]))))⟩

theorem lcAdvance_burns (s : State) : Burns s.root (lcAdvance s).root := by
  unfold lcAdvance
  split
  · exact .refl _
  rename_i c hc
  split
  · rw [systemReset_root]
    exact burns_of_change rfl rfl nofun
  · dsimp only
    rw [State.raise_root]
    exact fuseTransition_burns (s := { s with alm := { s.alm with vs := c.vs } }) hc (by simpa using ‹¬c.fused = true›)

theorem svnCommit_burns (level) (s : State) : Burns s.root (svnCommit level s).1.root := by
  unfold svnCommit
  dsimp only
  split
  · exact .refl _
  split
  · exact .refl _
  · rename_i hsvn
    refine ⟨fun h => ⟨⟨h.1, ?_, h.2.2⟩, ⟨.inl rfl, le_max_left .., le_rfl, fun _ hs => hs, .inl rfl, rfl, rfl⟩, rfl⟩⟩
    show max _ _ ≤ 63
    omega

theorem almFuseDisable_burns (s : State) : Burns s.root (almFuseDisable s).1.root := by
  unfold almFuseDisable
  dsimp only
  split
  · exact .refl _
  split
  · exact .refl _
  split
  · exact .refl _
  · exact ⟨fun h => ⟨h, ⟨.inl rfl, le_rfl, le_rfl, fun _ hs => List.mem_append_left _ hs, .inl rfl, rfl, rfl⟩, rfl⟩⟩

theorem denyChange_burns (s : State) : Burns s.root (denyChange s).root := by
  unfold denyChange
  split
  · split
    · exact .refl _
    · rw [State.winEnd_root]
      exact burns_of_change rfl rfl nofun
  · exact .refl _

theorem powerOnReset_burns (bit_ secret code) (s : State) : Burns s.root (powerOnReset bit_ secret code s).root := by
  have hchange (u v : State) (hu : u.root = s.root) (hf : v.fuse = { u.fuse with change := none }) (hp : v.pending = u.pending) :
      Burns s.root (vsCheck v).root :=
    (Burns.of_eq hu).trans ((burns_of_change hf hp nofun).trans (.of_eq (vsCheck_root v)))
  unfold powerOnReset
  have hu : ((countReset (noteCause bit_ (s.rebuilt 2))).eventsLost s.aliveCount).root = s.root := by simp
  extract_lets u _ t
  have h : Burns s.root t.root := hchange u _ hu rfl rfl
  split
  · rw [State.raise_root, State.raise_root, State.root_mk, State.root_eta]
    exact h
  · exact h

/-! ### Transitions (R360 to R363) -/

theorem lcDrawn_burns {who : EntWho} {act : Bytes → State → State} {s : State}
    (h : ∀ b u, u.root = s.root → Burns u.root (act b u).root) : Burns s.root (lcDrawn who act s).1.root := by
  unfold lcDrawn
  split <;> rename_i hd
  · have hroot := drawRequest_root_of hd
    exact hroot ▸ h _ _ hroot
  all_goals exact .of_eq (drawRequest_root_of hd)

theorem vendorStep_burns {s : State} (h : s.fuse.lc = 0) : Burns s.root (vendorStep s).1.root :=
  lcDrawn_burns fun b u hu => transitionBegin_burns ⟨le_rfl, by decide, fun _ => (congrArg Fuse.lc (State.fuse_of_root hu)).trans h⟩

theorem lcOp_burns (rom level code) (s : State) : Burns s.root (lcOp rom level code s).1.root := by
  unfold lcOp
  split
  · split
    · rename_i h
      exact vendorStep_burns (by simpa using (Bool.and_eq_true_iff.1 h).2)
    · simp
  · simp
  · exact svnCommit_burns ..
  · exact .refl _

/-- A ticket leads to a later state, and never to BLANK or VENDOR (R361). -/
theorem transitionOf_le {lc kind to_ : Nat} {g : Bool} (h : transitionOf lc kind = some (to_, g)) : 2 ≤ to_ ∧ to_ ≤ 4 := by
  unfold transitionOf at h
  split at h <;> cases h <;> decide

theorem transitionCheck_le {s : State} {level lc : Nat} {t : Bytes} (h : s.transitionCheck level t = .ok lc) : 2 ≤ lc ∧ lc ≤ 4 := by
  unfold State.transitionCheck at h
  dsimp only at h
  split at h
  · cases h
  split at h
  · cases h
  split at h
  · cases h
  rename_i hto
  split_ifs at h
  cases h
  exact transitionOf_le hto

theorem lcVerified_burns (level t) (s : State) : Burns s.root (lcVerified level t s).1.root := by
  unfold lcVerified
  split
  · exact .refl _
  rename_i lc hlc
  have hle := transitionCheck_le hlc
  split
  · exact lcDrawn_burns fun b u hu => transitionBegin_burns ⟨by decide, by decide, by simp⟩
  · exact transitionBegin_burns ⟨by omega, hle.2, fun h => by simp at h; omega⟩

/-! ### Windows and writes of objects -/

theorem almOp_burns (code) (s : State) : Burns s.root (almOp code s).1.root := by
  unfold almOp
  split
  case h_3 => exact almFuseDisable_burns s
  all_goals simp

theorem windowAct_burns (c ix code) (s : State) : Burns s.root (windowAct c ix code s).1.root := by
  unfold windowAct
  dsimp only
  split
  case h_8 => exact lcOp_burns _ _ code s
  case h_16 => exact (now_root _).symm ▸ almOp_burns code s
  case h_15 => split <;> simp
  case h_19 => split <;> simp
  all_goals simp

theorem objectWrite_burns {c ix sub v} {act : State → State × Status} {s : State} (h : Burns s.root (act s).1.root) :
    Burns s.root (objectWrite c ix sub v act s).1.root := by
  unfold objectWrite
  split
  · exact h
  · exact .refl _

theorem orWait_burns {c ix sub v} {act : State → State} {s : State} (h : Burns s.root (act s).root) :
    Burns s.root (orWait c ix sub v act s).root := by
  unfold orWait
  split
  · simp
  · exact h

theorem rowWrite_burns {c ix sub v} {act : State → State × Status} {s : State} (h : Burns s.root (act s).1.root) :
    Burns s.root (rowWrite c ix sub v act s).root :=
  orWait_burns <| by simpa using objectWrite_burns h

theorem windowOp_burns {ix opSub stSub code} {act : State → State × Status} {s : State} (h : ∀ u, Burns u.root (act u).1.root) :
    Burns s.root (windowOp ix opSub stSub code act s).1.root := by
  unfold windowOp
  split
  · exact .refl _
  · have hact := h ((keepOwed ix stSub s).put ix opSub code)
    simpa using hact

theorem windowStart_burns {ix opSub stSub code} {act : State → State × Option Status} {s : State} (h :
    ∀ u, Burns u.root (act u).1.root) :
    Burns s.root (windowStart ix opSub stSub code act s).1.root := by
  unfold windowStart
  split
  · exact .refl _
  · have hact := h ((keepOwed ix stSub s).put ix opSub code)
    dsimp only
    split <;> rename_i hr <;> rw [hr] at hact <;> simpa using hact

theorem rowWindow_burns {c ix opSub stSub code} {act : State → State × Status} {s : State} (h : ∀ u, Burns u.root (act u).1.root) :
    Burns s.root (rowWindow c ix opSub stSub code act s).root := rowWrite_burns (windowOp_burns h)

theorem rowWindowStart_burns {c ix opSub stSub code} {act : State → State × Option Status} {s : State}
    (h : ∀ u, Burns u.root (act u).1.root) : Burns s.root (rowWindowStart c ix opSub stSub code act s).root :=
  rowWrite_burns (windowStart_burns h)

theorem windowWrite_burns (c ix opSub stSub code) (s : State) : Burns s.root (windowWrite c ix opSub stSub code s).1.root := by
  unfold windowWrite
  split
  · simp
  split
  · simp
  · rw [now_root]
    exact windowStart_burns fun u => windowAct_burns c ix code u

theorem chapterWrite_burns (c ix sub v) (s : State) : Burns s.root (chapterWrite c ix sub v s).1.root := by
  unfold chapterWrite
  split
  · exact .refl _
  split
  · simp
  split
  · split
    · exact windowWrite_burns ..
    · simp
  · simp

theorem writeObj_burns (c ix sub v) (s : State) : Burns s.root (writeObj c ix sub v s).1.root := by
  unfold writeObj
  split
  · exact chapterWrite_burns ..
  · exact .refl _

theorem writeBytes_burns (c i) (s : State) : Burns s.root (writeBytes c i s).1.root := by
  unfold writeBytes
  split
  · exact writeObj_burns ..
  · split <;> exact .refl _

theorem writeAll_burns {c : Caller} {l : List BlockItem} {s t : State} (h : writeAll c l s = .all t) : Burns s.root t.root := by
  induction l generalizing s with
  | nil =>
    cases h
    exact .refl _
  | cons i rest ih =>
    have hi := writeBytes_burns c i s
    rw [writeAll] at h
    split at h <;> rename_i hw <;> rw [hw] at hi
    · split_ifs at h
      exact hi.trans (ih h)
    · exact hi.trans (ih h)
    · cases h

/-! ### Requests of sessions -/

theorem request_burns {k op id} {act : State → State} {s : State} (h : ∀ u, Burns u.root (act u).root) :
    Burns s.root (request k op id act s).root := by
  have hact := h ((s.addOb ringIx Sub.ring_HAL_REQUESTS 64 1).mark (Timer.idle k))
  unfold request
  dsimp only
  split
  · exact .refl _
  split
  · simp
  split
  · simp
  · simpa using hact

theorem orPark_burns {k write arbiter w} {act : State → State} {s : State} (h : Burns s.root (act s).root) :
    Burns s.root (orPark k write arbiter w act s).root := by
  unfold orPark
  split
  · simp
  · exact h

theorem msgSet_burns (k id i same) (s : State) : Burns s.root (msgSet k id i same s).root := by
  refine request_burns fun u => ?_
  have hi := writeBytes_burns (.session k) i u
  split <;> rename_i hw <;> rw [hw] at hi
  · split
    · simp
    · dsimp only
      split <;> simpa using hi
  · simpa using hi
  · simpa using hi

theorem msgSetBlock_burns (k id l same) (s : State) : Burns s.root (msgSetBlock k id l same s).root := by
  refine request_burns fun u => ?_
  split
  · simp
  split
  · simp
  · simp
  · simp
  · have hall := writeAll_burns ‹_›
    dsimp only
    split <;> simpa using hall

theorem msgTable_burns (k id window inputs op results same) (s : State) :
    Burns s.root (msgTable k id window inputs op results same s).root := by
  refine request_burns fun u => ?_
  split
  · simp
  split
  · simp
  split
  · simp
  · simp
  · simp
  · have hall := writeAll_burns ‹_›
    simpa using hall

/-- An operation that burns fuses one way only, whatever the state. -/
def Burning (f : State → State) : Prop := ∀ s, Burns s.root (f s).root

theorem burning_of_root {f : State → State} (h : ∀ s, (f s).root = s.root) : Burning f := fun s => .of_eq (h s)

theorem takeMsg_burns (k i) : Burning (takeMsg k i) := fun s => by
  unfold takeMsg
  split
  case h_2 => exact msgSet_burns ..
  case h_4 => exact msgSetBlock_burns ..
  case h_5 => exact msgTable_burns ..
  all_goals simp

theorem takeOther_burns (k i) : Burning (takeOther k i) := fun s => orPark_burns (takeMsg_burns k i s)
theorem takeWrite_burns (k i) : Burning (takeWrite k i) := fun s => orPark_burns (takeMsg_burns k i s)
theorem takeOrdered_burns (k i) : Burning (takeOrdered k i) := fun s => orPark_burns (takeMsg_burns k i s)
theorem msgMalformed_burns (k op id) : Burning (msgMalformed k op id) := burning_of_root (msgMalformed_root k op id)

theorem takeBlock_burns (k id b) : Burning (takeBlock k id b) := by
  unfold takeBlock
  split
  · exact takeWrite_burns k _
  · exact msgMalformed_burns k 5 id

theorem takeTable_burns (k id b) : Burning (takeTable k id b) := by
  unfold takeTable
  split
  · split
    · exact takeWrite_burns k _
    · exact msgMalformed_burns k 6 id
  · exact msgMalformed_burns k 6 id

theorem takeStage_burns (k id b) : Burning (takeStage k id b) := by
  unfold takeStage
  split
  · exact msgMalformed_burns k 12 id
  split
  case h_5 => exact msgMalformed_burns k 12 id
  all_goals exact takeOther_burns k _

theorem takeRequest_burns (k op id b) : Burning (takeRequest k op id b) := by
  unfold takeRequest
  split
  case h_5 => exact takeBlock_burns k id b
  case h_6 => exact takeTable_burns k id b
  case h_11 => exact takeStage_burns k id b
  case h_12 => exact msgMalformed_burns k op id
  case h_3 =>
    split
    · exact takeWrite_burns k _
    · exact msgMalformed_burns k _ id
  case h_8 | h_9 =>
    split
    · exact takeOrdered_burns k _
    · exact msgMalformed_burns k _ id
  all_goals
    split
    · exact takeOther_burns k _
    · exact msgMalformed_burns k _ id

theorem takeMessage_burns (k b) : Burning (takeMessage k b) := fun s => by
  unfold takeMessage
  split
  · exact msgMalformed_burns k _ _ s
  split
  · exact msgMalformed_burns k _ _ s
  · exact takeRequest_burns k _ _ _ s

theorem messageReceived_burns (port src session payload) (s : State) :
    Burns s.root (messageReceived port src session payload s).root := by
  unfold messageReceived
  split
  · exact .refl _
  split
  · simp
  dsimp only
  split
  · simp
  split
  · simp
  · refine Burns.trans (.of_eq ?_) (takeMessage_burns _ _ _)
    exact State.putSess_root ..

theorem takePayload_burns (port kind src session hops payload) (s : State) :
    Burns s.root (takePayload port kind src session hops payload s).root := by
  unfold takePayload
  split
  case h_2 => exact messageReceived_burns ..
  all_goals simp

theorem mailboxIn_burns (s : State) : Burns s.root (mailboxIn s).root := by
  unfold mailboxIn
  split
  · exact .refl _
  dsimp only
  split
  · simp
  · exact Burns.trans (.of_eq (by simp)) (takePayload_burns ..)

/-! ### Held operations and the ring -/

theorem rowTaken_burns (k ix sub v) : Burning (rowTaken k ix sub v) := fun s => by
  have hw := writeObj_burns (.session k) ix sub v s
  unfold rowTaken
  split <;> rename_i hr <;> rw [hr] at hw
  · dsimp only
    split <;> simpa using hw
  · exact hw

theorem takeWaits_burns (k w) : Burning (takeWaits k w) := fun s => by
  unfold takeWaits
  split
  · exact takeMsg_burns k _ s
  · exact rowTaken_burns k _ _ _ s
  · simp

theorem takeParked_burns (p) : Burning (takeParked p) := fun s => by
  have hw := takeWaits_burns p.k p.what ({ s.setPort p.k p.port with acc := { (s.setPort p.k p.port).acc with silent := p.answered } })
  unfold takeParked
  dsimp only
  rw [State.root_mk, State.root_eta, State.setPort_root] at hw
  split <;> simpa using hw

theorem unparkList_burns (l) : Burning (unparkList l) := by
  induction l with
  | nil => exact fun s => .refl _
  | cons p rest ih =>
    intro s
    unfold unparkList
    split
    · simp
    · exact (takeParked_burns p s).trans (ih _)

theorem unpark_burns : Burning unpark := fun s => by
  unfold unpark
  split
  · exact .refl _
  · exact Burns.trans (.of_eq (by simp)) (unparkList_burns _ _)

theorem State.attend_burns : Burning State.attend := fun s => by
  unfold State.attend
  split
  · exact .refl _
  · have hin := (unpark_burns { s with acc := { s.acc with lastSet := [] } }).trans
      (Burns.trans (.of_eq (by simp)) (mailboxIn_burns (drainFwd 2 (drainFwd 1 (unpark { s with acc := { s.acc with lastSet := [] } })))))
    simpa [State.root_foldl] using hin

theorem State.tick_burns : Burning State.tick := fun s => by
  unfold State.tick
  split
  · simp
  · refine Burns.trans ?_ (State.attend_burns _)
    simp only [State.post_root, State.rstoutRun_root, State.pairPeriod_root, mkaSettle_root]
    exact Burns.trans (.of_eq (by simp)) (lcAdvance_burns _)

theorem ringTake_burns (port f) : Burning (ringTake port f) := fun s => by
  unfold ringTake
  extract_lets
  split
  · exact Burns.trans (.of_eq (by simp)) (takePayload_burns ..)
  split <;> simp

theorem ringFrame_burns (port f fcsOk busy) : Burning (ringFrame port f fcsOk busy) := fun s => by
  unfold ringFrame
  extract_lets h dst own
  split
  · exact .refl _
  split
  · simp
  have hframe : Burns s.root (if (fcsOk && ringForm f && (own || (dst == 0xFF && fld h 1 1 == 3))) = true then ringTake port f s
      else if (fcsOk && ringForm f && fld h 1 1 == 4) = true then discoverReply port (fld h 3 1) (sub h 26 48) s else s).root := by
    split
    · exact ringTake_burns port f s
    split <;> simp
  split
  · exact hframe
  · refine hframe.trans (.of_eq ?_)
    rw [forward_root, State.root_ite, State.addOb_root]
    split <;> rfl

/-! ### The engines and the draws -/

theorem rowLc_burns (c code) : Burning (rowLc c code) := fun _ => rowWindowStart_burns fun u => lcOp_burns _ _ code u

theorem pkeFinish_burns (w b) : Burning (pkeFinish w b) := fun s => by
  unfold pkeFinish
  split
  case h_3 =>
    rw [pkeWindowEnd_root]
    exact lcVerified_burns _ _ s
  all_goals simp

theorem pkeDone_burns (t b) : Burning (pkeDone t b) := fun s => by
  unfold pkeDone
  split
  · simp
  · simp
  split
  · exact pkeFinish_burns _ _ s
  · split <;> rename_i hq <;> have hroot := pkeQueue_root_of hq
    · exact .of_eq (by simpa using hroot)
    · exact .of_eq hroot

theorem pkeComplete_burns : Burning pkeComplete := fun s => by
  unfold pkeComplete
  split
  · exact .refl _
  split
  · exact .refl _
  · refine Burns.trans (.of_eq ?_) (pkeDone_burns _ _ _)
    simp only [pkeGo_root, setPkeQueue_root, State.root_mk, State.root_eta, State.root_ite, State.pkeCount_root, ite_self]

theorem drawServed_burns (who b) : Burning (drawServed who b) := fun s => by
  unfold drawServed
  split
  case h_3 => exact transitionBegin_burns ⟨by decide, by decide, by simp⟩
  case h_4 =>
    split
    · exact transitionBegin_burns ⟨le_rfl, by decide, fun _ => ‹_›⟩
    · simp
  all_goals simp

theorem serveNext_burns : Burning serveNext := fun s => by
  unfold serveNext
  split <;> rename_i hh
  · exact (Burns.of_eq (serveHead_root hh)).trans (drawServed_burns _ _ _)
  · exact .refl _

/-! ### Alarms and dark standby -/

theorem wakeFrom_burns {restart porst : State → State} {cause detail} (h : ∀ s, (restart s).root = s.root) (hp : Burning porst) :
    Burning (wakeFrom restart porst cause detail) := fun s => by
  unfold wakeFrom
  dsimp only
  split
  · exact Burns.trans (.of_eq (by simp)) (hp _)
  · simp [State.root_foldl, h]

theorem wake_burns (cause detail) : Burning (wake cause detail) := wakeFrom_burns entStart_root (powerOnReset_burns 1 0 0)

theorem wakeOnAlarm_burns {w : Nat → Nat → State → State} (h : ∀ c d, Burning (w c d)) : Burning (wakeOnAlarm w) := fun s => by
  unfold wakeOnAlarm
  split
  · split
    · exact h _ _ s
    · exact .refl _
  · exact .refl _

theorem darkEntryComplete_burns {w : Nat → Nat → State → State} (h : ∀ c d, Burning (w c d)) :
    Burning (darkEntryComplete w) := fun s => by
  unfold darkEntryComplete
  split
  · dsimp only
    split
    · exact Burns.trans (.of_eq (by simp [State.root_foldl])) (h _ _ _)
    split
    · exact Burns.trans (.of_eq (by simp [State.root_foldl])) (h _ _ _)
    · simp [State.root_foldl]
  · exact .refl _

theorem darkSample_burns {w : Nat → Nat → State → State} (h : ∀ c d, Burning (w c d)) (hb los) :
    Burning (darkSample w hb los) := fun s => by
  have hmark (c d) : Burns s.root (w c d (s.mark Timer.sample)).root := Burns.trans (.of_eq (by simp)) (h c d _)
  unfold darkSample
  dsimp only
  split
  · split
    · exact hmark ..
    split
    · exact hmark ..
    split
    · exact hmark ..
    · simp
  · exact .refl _

theorem darkWakeTimer_burns {w : Nat → Nat → State → State} (h : ∀ c d, Burning (w c d)) : Burning (darkWakeTimer w) := fun s => by
  unfold darkWakeTimer
  split
  · exact .refl _
  split
  · simp
  split
  · exact h _ _ s
  · exact .refl _

theorem doorbell_burns (len b) : Burning (doorbell len b) := fun s => by
  unfold doorbell
  split
  · exact .refl _
  split
  · simp
  dsimp only
  split
  · simp
  split
  · exact Burns.trans (.of_eq (by simp)) (wake_burns _ _ _)
  · simp

theorem curtain_burns : Burning curtain := fun s => by
  unfold curtain
  exact Burns.trans (.of_eq (by simp)) (denyChange_burns _)

theorem holdBegins_burns : Burning holdBegins := fun s => by
  unfold holdBegins
  refine Burns.trans (.of_eq ?_) (denyChange_burns _)
  simp [State.root_foldl]

theorem alarmResponse_burns {act : State → State} (h : Burning act) : Burning (alarmResponse act) := fun s => by
  unfold alarmResponse
  split
  · exact .refl _
  extract_lets old a v t u
  have ht : t.root = s.root := by simp [t, v, State.root_foldl]
  split
  · rw [State.root_mk, State.root_eta]
    exact (Burns.of_eq ht).trans (h t)
  · exact .of_eq ht

theorem mirrorReceived_burns {write : Nat → Nat → Val → State → State} (h : ∀ ix sub v, Burning (write ix sub v)) (m) :
    Burning (mirrorReceived write m) := fun s => by
  induction m with
  | frames seqs m ih =>
    unfold mirrorReceived
    split
    · exact .refl _
    dsimp only
    split
    · exact ih
    · exact .refl _
  | write ix sub v =>
    unfold mirrorReceived
    split
    · exact .refl _
    dsimp only
    split
    · exact .refl _
    · exact h _ _ _ s
  | _ =>
    unfold mirrorReceived
    split
    · exact .refl _
    dsimp only
    repeat' split
    all_goals simp [State.root_foldl]

/-- Every state an outcome goes on to has its fuses burned one way only. -/
def OutBurns (s : State) (o : Out) : Prop := ∀ t, o = .next t → Burns s.root t.root

theorem outBurns_next {s t : State} (h : Burns s.root t.root) : OutBurns s (.next t) := by
  rintro _ ⟨⟩
  exact h

theorem execAlarmResponse_burns (s : State) : OutBurns s (execAlarmResponse s) := by
  refine outBurns_next ?_
  have h := (wakeOnAlarm_burns wake_burns s).trans (alarmResponse_burns curtain_burns (wakeOnAlarm wake s))
  split
  · exact h.trans (holdBegins_burns _)
  · exact h

theorem execPowerGoodFall_burns (ns secret code) (s : State) : OutBurns s (execPowerGoodFall ns secret code s) := by
  refine outBurns_next ?_
  split
  · exact .refl _
  · exact powerOnReset_burns 0 secret code s

theorem execPorstNAssert_burns (ns) (s : State) : OutBurns s (execPorstNAssert ns s) := by
  refine outBurns_next ?_
  split
  · exact .refl _
  split
  · simp
  · exact powerOnReset_burns 1 0 0 s

theorem execEntropyRequestTimeout_burns (s : State) : OutBurns s (execEntropyRequestTimeout s) := by
  refine outBurns_next (.of_eq ?_)
  split <;> rename_i hd
  · exact (drawFailed_root ..).trans (dropHead_root hd)
  · rfl

theorem exec_burns (i : Instr) (s : State) : OutBurns s (exec i s) := by
  cases i
  case alarmResponse => exact execAlarmResponse_burns s
  case tetherFirmwareFrame m => exact outBurns_next (mirrorReceived_burns (fun ix sub v t => writeObj_burns .firmware ix sub v t) m s)
  case lcTransition c => exact outBurns_next (rowLc_burns c 1 s)
  case lcVsRenew c => exact outBurns_next (rowLc_burns c 2 s)
  case lcSvnCommit c => exact outBurns_next (rowLc_burns c 3 s)
  case pkeOperationComplete => exact outBurns_next (pkeComplete_burns s)
  case entropyRequestServed => exact outBurns_next (serveNext_burns s)
  case msgHello k id l => exact outBurns_next (takeOther_burns k _ s)
  case msgGet k id ix sub => exact outBurns_next (takeOther_burns k _ s)
  case msgSet k id x same => exact outBurns_next (takeWrite_burns k _ s)
  case msgGetBlock k id l => exact outBurns_next (takeOther_burns k _ s)
  case msgSetBlock k id l same => exact outBurns_next (takeWrite_burns k _ s)
  case msgTable k id w l op r same => exact outBurns_next (takeWrite_burns k _ s)
  case msgSubscribe k id mask => exact outBurns_next (takeOther_burns k _ s)
  case msgClaim k id force l => exact outBurns_next (takeOrdered_burns k _ s)
  case msgRelease k id l => exact outBurns_next (takeOrdered_burns k _ s)
  case msgReset k id level => exact outBurns_next (takeOther_burns k _ s)
  case fwStageBegin k id => exact outBurns_next (takeOther_burns k _ s)
  case fwStageData k id off b => exact outBurns_next (takeOther_burns k _ s)
  case fwStageEnd k id => exact outBurns_next (takeOther_burns k _ s)
  case fwStageAbort k id => exact outBurns_next (takeOther_burns k _ s)
  case ringFrameReceived b f fcsOk busy => exact outBurns_next (ringFrame_burns _ f fcsOk busy s)
  case messageReceived port src session payload => exact outBurns_next (messageReceived_burns _ _ _ payload s)
  case h2dDoorbell len b => exact outBurns_next (doorbell_burns len b s)
  case tamperSample x => exact outBurns_next (Burns.trans (.of_eq (tamperSample_root x s)) (wakeOnAlarm_burns wake_burns _))
  case monitorTrip src rail v => exact outBurns_next (Burns.trans (.of_eq (monitorTrip_root src rail v s)) (wakeOnAlarm_burns wake_burns _))
  case almFuseDisable c => exact outBurns_next (rowWindow_burns almFuseDisable_burns)
  case darkEntryComplete => exact outBurns_next (darkEntryComplete_burns wake_burns s)
  case darkSample hb los => exact outBurns_next (darkSample_burns wake_burns hb los s)
  case darkWakeTimer => exact outBurns_next (darkWakeTimer_burns wake_burns s)
  case powerGoodFall ns secret code => exact execPowerGoodFall_burns ns secret code s
  case powerOnReset secret code => exact outBurns_next (powerOnReset_burns 0 secret code s)
  case porstNAssert ns => exact execPorstNAssert_burns ns s
  case entropyRequestTimeout => exact execEntropyRequestTimeout_burns s
  all_goals exact outBurns_next (.of_eq (by simp))

/-- One step burns the fuses one way only and takes one command from the queue. -/
theorem step_burns {s t : State} (h : step s = .next t) : Burns (s.fuse, s.pending.tail) t.root := by
  unfold step at h
  split at h <;> rename_i hp
  · cases h
    have htick := State.tick_burns s
    rw [hp]
    rwa [State.root, hp] at htick
  · have hexec := exec_burns _ _ t h
    rw [hp]
    exact hexec

/-- Settles O56: every operation that can write the fuses burns them one way only, so every step does. It does not show that a
unit that is SCRAPPED or RETURNED goes forwards only. -/
theorem fusesBurnOneWay : Obligations.FusesBurnOneWay := by
  unfold Obligations.FusesBurnOneWay
  intro s t hok hstep
  obtain ⟨hfit, hburnt, hpending⟩ := (step_burns hstep).keeps hok
  exact ⟨hfit, hburnt.lc, hburnt.svn, hburnt.transfers, hburnt.disabled, hburnt.dus, hburnt.part, hburnt.baseMac, hpending⟩

end Sys2Proof.Machine
end

section
/-! The custody window (chapter 10): UNWRAP, WRAP and REWRAP (R341, R346, R347), GENERATE (R345), DESTROY, KEK_CLEAR and INFO (R348,
R367). An operation reads the vault and the key stores; of the window it reads its own inputs alone. -/

namespace Sys2Proof.Machine

variable {s t u : State} {c : Caller}

/-! ### What a posted operation left beside the windows -/

section Posted
variable {ix op st : Nat} {stat : Status} (h : PostedFrom u c ix op st stat t)
include h

theorem PostedFrom.cnt : t.cnt = u.cnt := by
  obtain ⟨d, a, ht⟩ := h.rest
  rw [ht]
theorem PostedFrom.vault : t.vault = u.vault := by
  obtain ⟨d, a, ht⟩ := h.rest
  rw [ht]
theorem PostedFrom.fuse : t.fuse = u.fuse := by
  obtain ⟨d, a, ht⟩ := h.rest
  rw [ht]
theorem PostedFrom.alm : t.alm = u.alm := by
  obtain ⟨d, a, ht⟩ := h.rest
  rw [ht]
theorem PostedFrom.keyAt (sl i : Nat) : t.keyAt sl i = u.keyAt sl i := keyAt_congr h.asc sl i

end Posted

theorem due_congr (h : t.acc = s.acc) : t.due = s.due := by rw [State.due, h, State.due]

/-! ### What the vault's rules read is no number of a window -/

section Put
variable (ix sub v : Nat) (s : State)

@[simp] theorem held_put : (s.put ix sub v).held = s.held := rfl
@[simp] theorem vaultOpen_put (level need : Nat) : (s.put ix sub v).vaultOpen level need = s.vaultOpen level need := rfl
@[simp] theorem kekAt_put (n : Nat) : (s.put ix sub v).kekAt n = s.kekAt n := rfl
@[simp] theorem entryOf_put (h : Nat) : (s.put ix sub v).entryOf h = s.entryOf h := rfl
@[simp] theorem kekLive_put (h : Nat) : (s.put ix sub v).kekLive h = s.kekLive h := rfl
@[simp] theorem keyOf_put (h : Nat) : (s.put ix sub v).keyOf h = s.keyOf h := rfl
@[simp] theorem mayWrap_put (slot export_ : Nat) : (s.put ix sub v).mayWrap slot export_ = s.mayWrap slot export_ := rfl
@[simp] theorem makeBlob_put (slot : Nat) (m : KeyMeta) (k : Bytes) : (s.put ix sub v).makeBlob slot m k = s.makeBlob slot m k := rfl
@[simp] theorem rewrapRows_put (level : Nat) (blob : Bytes) : (s.put ix sub v).rewrapRows level blob = s.rewrapRows level blob := rfl

end Put

/-! ### The start of a custody operation (R367) -/

/-- The custody window has taken the operation `code`. -/
def State.kwTaken (code : Nat) (s : State) : State := s.put kwIx Sub.kwWin_KW_OP code

theorem rowKw_posts {code : Nat} {stat : Status} (h : Starts s c kwIx Sub.kwWin_KW_OP Sub.kwWin_KW_STATUS code)
    (hact : kwOp (s.levelOf c) code (s.kwTaken code) = (u, some stat)) (hdue : u.due = s.due) :
    PostedFrom u c kwIx Sub.kwWin_KW_OP Sub.kwWin_KW_STATUS stat (rowKw c code s).post :=
  rowWindowStart_posts h hact hdue

section Taken
variable (code : Nat) (s : State)

theorem ob_kwTaken {ix sub : Nat} (h : sub < 256) (hne : ¬(ix = kwIx ∧ sub = Sub.kwWin_KW_OP)) :
    (s.kwTaken code).ob ix sub = s.ob ix sub := by
  rw [State.kwTaken, State.ob_put (by decide) h, if_neg hne]

theorem kwObject_kwTaken {sub : Nat} (h : sub < 256) (hne : sub ≠ Sub.kwWin_KW_OP) :
    (s.kwTaken code).ob kwIx sub = s.ob kwIx sub := ob_kwTaken code s h fun k => hne k.2

@[simp] theorem keyAt_put (ix sub v sl i : Nat) : (s.put ix sub v).keyAt sl i = s.keyAt sl i := keyAt_congr (State.put_asc ..) sl i
@[simp] theorem keyAt_bump (k sl i : Nat) : (s.bump k).keyAt sl i = s.keyAt sl i := keyAt_congr (State.bump_asc ..) sl i
@[simp] theorem cnt_putKey (sl i : Nat) (e : KeyEntry) : (s.putKey sl i e).cnt = s.cnt := rfl
@[simp] theorem keyAt_kwTaken (sl i : Nat) : (s.kwTaken code).keyAt sl i = s.keyAt sl i := keyAt_put ..
@[simp] theorem held_kwTaken : (s.kwTaken code).held = s.held := held_put ..
@[simp] theorem vaultOpen_kwTaken (level need : Nat) : (s.kwTaken code).vaultOpen level need = s.vaultOpen level need := vaultOpen_put ..
@[simp] theorem kekAt_kwTaken (n : Nat) : (s.kwTaken code).kekAt n = s.kekAt n := kekAt_put ..
@[simp] theorem cnt_kwTaken : (s.kwTaken code).cnt = s.cnt := State.put_cnt ..
@[simp] theorem due_put (ix sub v : Nat) : (s.put ix sub v).due = s.due := due_congr (State.put_acc ..)
@[simp] theorem due_putO (ix sub : Nat) (v : Bytes) : (s.putO ix sub v).due = s.due := due_congr (State.putO_acc ..)
@[simp] theorem due_addOb (ix sub w n : Nat) : (s.addOb ix sub w n).due = s.due := due_congr (State.addOb_acc ..)
@[simp] theorem due_bump (k : Nat) : (s.bump k).due = s.due := due_congr (State.bump_acc ..)
@[simp] theorem due_putKey (sl i : Nat) (e : KeyEntry) : (s.putKey sl i e).due = s.due := due_congr rfl
@[simp] theorem due_kwTaken : (s.kwTaken code).due = s.due := due_put ..
@[simp] theorem asc_kwTaken : (s.kwTaken code).asc = s.asc := State.put_asc ..
@[simp] theorem vault_kwTaken : (s.kwTaken code).vault = s.vault := State.put_vault ..

@[simp] theorem sliceOn_kwTaken (sl : Nat) : (s.kwTaken code).sliceOn sl = s.sliceOn sl := by
  rw [State.sliceOn, ob_kwTaken code s (by decide) (by decide), State.sliceOn]

@[simp] theorem keyPlace_kwTaken (dest target : Nat) : (s.kwTaken code).keyPlace dest target = s.keyPlace dest target := by
  unfold State.keyPlace
  rw [sliceOn_kwTaken]
  rfl

@[simp] theorem unwrapRows_kwTaken (level : Nat) (blob : Bytes) (kw : Nat) :
    (s.kwTaken code).unwrapRows level blob kw = s.unwrapRows level blob kw := by
  unfold State.unwrapRows
  simp only [keyPlace_kwTaken]
  rfl

end Taken

/-! ### A key is placed (R342, R343, R346) -/

/-- The entry that a key of what it carries becomes in the place of an old one. -/
def KeyEntry.placed (old : KeyEntry) (generated : Bool) (m : KeyMeta) (k : Bytes) : KeyEntry :=
  { valid := true, long := k.length == 32, generated := generated, gen := old.gen, refs := old.refs
    h := num (aesEnc k (zeros 16)), key := num (padTo 32 k), record := m.record }

/-- A key that goes to a slice stands in its store, and the peer may be told. -/
theorem placeKey_slice {sl : Nat} (hsl : sl < 4) (i : Nat) (generated : Bool) (m : KeyMeta) (k : Bytes) (s : State) :
    ∃ t, placeKey (.entry sl i) generated m k s = (handleOf sl (s.keyAt sl i).gen i, t) ∧
      OnlySent (s.putKey sl i ((s.keyAt sl i).placed generated m k)) t := by
  have hne : sl ≠ 4 := by omega
  simp only [placeKey, putKeyAt, State.putEntry, if_neg hne, if_pos hsl]
  refine ⟨_, rfl, ?_⟩
  unfold mirrorKey
  split
  · exact mirror_sent ..
  · exact .refl _

theorem OnlySent.cnt (h : OnlySent s t) : t.cnt = s.cnt := by obtain ⟨_, _, rfl⟩ := h; rfl
theorem OnlySent.due (h : OnlySent s t) : t.due = s.due := by obtain ⟨_, _, rfl⟩ := h; rfl
theorem OnlySent.keyAt (h : OnlySent s t) (sl i : Nat) : t.keyAt sl i = s.keyAt sl i := keyAt_congr h.asc sl i

/-! ### An unwrap and its counters (R341, R662) -/

/-- An alarm's source stands in the alarm block, the wake cause and the source's objects. -/
theorem alarm_eq (src detail : Nat) (s : State) : ∃ a p d, s.alarm src detail = { s with alm := a, pwr := p, dict := d } := by
  unfold State.alarm
  split
  · exact ⟨_, _, _, rfl⟩
  · exact ⟨s.alm, s.pwr, s.dict, rfl⟩

/-- Beside its counter, an outcome leaves its trace in the times of the failures and in the alarm block. -/
theorem unwrapCount_eq (st : Status) (s : State) : ∃ l a p d, unwrapCount st s =
    { s.bump (Ctr.device + vaultCounter st) with vault := { s.vault with integ := l }, alm := a, pwr := p, dict := d } := by
  unfold unwrapCount
  dsimp only
  split
  · split
    · obtain ⟨a, p, d, h⟩ := alarm_eq 0x28 0 { s.bump (Ctr.device + vaultCounter st) with vault := { s.vault with integ := [] } }
      exact ⟨[], a, p, d, h⟩
    · exact ⟨_, s.alm, s.pwr, s.dict, rfl⟩
  · exact ⟨s.vault.integ, s.alm, s.pwr, s.dict, rfl⟩

/-! ### UNWRAP, WRAP and REWRAP, of the state in which the window has taken them -/

section Unwrap
variable {level kw : Nat} {blob : Bytes}

theorem unwrapBlob_held (h : s.held = true) : unwrapBlob level blob kw s = (.denied, 0, s) := if_pos h

theorem unwrapBlob_error {st : Status} (h : s.held = false) (hrows : s.unwrapRows level blob kw = .error st) :
    unwrapBlob level blob kw s = (st, 0, unwrapCount st s) := by
  simp only [unwrapBlob, h, hrows, Bool.false_eq_true, if_false]

theorem unwrapCount_ok (s : State) : unwrapCount .ok s = s.bump (Ctr.device + Ctr.VAULT_UNWRAP_OK) := by
  simp [unwrapCount, vaultCounter]

theorem unwrapBlob_slice {sl i : Nat} {k : Bytes} (h : s.held = false) (hsl : sl < 4)
    (hrows : s.unwrapRows level blob kw = .ok (.entry sl i, k)) :
    ∃ t, unwrapBlob level blob kw s = (.ok, handleOf sl (s.keyAt sl i).gen i, t.bump (Ctr.device + Ctr.VAULT_UNWRAP_OK)) ∧
      OnlySent (s.putKey sl i ((s.keyAt sl i).placed false (metaOf blob) k)) t := by
  obtain ⟨t, hplace, hsent⟩ := placeKey_slice hsl i false (metaOf blob) k s
  exact ⟨t, by simp only [unwrapBlob, h, hrows, hplace, unwrapCount_ok, Bool.false_eq_true, if_false], hsent⟩

end Unwrap

/-- A place's handle goes to the window only where the key was placed. -/
theorem kwUnwrapOp_of {level n : Nat} {st : Status}
    (h : unwrapBlob level (s.oct kwIx Sub.kwWin_KW_BLOB) (s.ob kwIx Sub.kwWin_KW_TARGET) s = (st, n, t)) :
    kwUnwrapOp level s = (if st = .ok then t.put kwIx Sub.kwWin_KW_HANDLE n else t, st) := by
  unfold kwUnwrapOp
  rw [h]
  split <;> simp_all

theorem kwOp_unwrap {level n : Nat} {st : Status} {blob : Bytes} {target : Nat} (hb : s.oct kwIx Sub.kwWin_KW_BLOB = blob)
    (ht : s.ob kwIx Sub.kwWin_KW_TARGET = target) (h : unwrapBlob level blob target (s.kwTaken 1) = (st, n, t)) :
    kwOp level 1 (s.kwTaken 1) = (if st = .ok then t.put kwIx Sub.kwWin_KW_HANDLE n else t, some st) := by
  have htarget : (s.kwTaken 1).ob kwIx Sub.kwWin_KW_TARGET = target :=
    (kwObject_kwTaken 1 s (by decide) (by decide)).trans ht
  subst hb htarget
  exact congrArg (fun r : State × Status => (r.1, some r.2)) (kwUnwrapOp_of h)

/-- An operation with a level of its own, for a caller who has it. -/
theorem kwGate_open {level need : Nat} {act : State → State × Status} {st : Status} (h : s.vaultOpen level need = true)
    (hact : act s = (u, st)) : s.kwGate level need act = (u, some st) := by
  rw [State.kwGate, if_pos h, hact]

theorem wrapKey_ok {h slot : Nat} {m : KeyMeta} {k : Bytes} (hkey : s.keyOf h = some (m, k)) (hmay : s.mayWrap slot m.export_ = .ok) :
    s.wrapKey h slot = .ok (s.makeBlob slot m k) := by
  simp only [State.wrapKey, hkey, hmay]

theorem kwOp_wrap {level h slot : Nat} {m : KeyMeta} {k : Bytes} (hh : s.ob kwIx Sub.kwWin_KW_HANDLE = h)
    (hs : s.ob kwIx Sub.kwWin_KW_SLOT = slot) (hopen : s.vaultOpen level 1 = true) (hkey : s.keyOf h = some (m, k))
    (hmay : s.mayWrap slot m.export_ = .ok) :
    kwOp level 3 (s.kwTaken 3) = ((s.kwTaken 3).putO kwIx Sub.kwWin_KW_BLOB (s.makeBlob slot m k), some .ok) := by
  refine kwGate_open ((vaultOpen_kwTaken ..).trans hopen) ?_
  have hwrap := wrapKey_ok (s := s.kwTaken 3) ((keyOf_put ..).trans hkey) ((mayWrap_put ..).trans hmay)
  rw [kwWrapOp, kwObject_kwTaken 3 s (by decide) (by decide), kwObject_kwTaken 3 s (by decide) (by decide), hh, hs, hwrap]
  rw [State.kwTaken, makeBlob_put]

theorem kwOp_rewrap {level slot : Nat} {blob k : Bytes} (hb : s.oct kwIx Sub.kwWin_KW_BLOB = blob)
    (hs : s.ob kwIx Sub.kwWin_KW_SLOT = slot) (hopen : s.vaultOpen level 2 = true) (hrows : s.rewrapRows level blob = .ok k)
    (hmay : s.mayWrap slot (metaOf blob).export_ = .ok) :
    kwOp level 4 (s.kwTaken 4) = ((s.kwTaken 4).putO kwIx Sub.kwWin_KW_BLOB (s.makeBlob slot (metaOf blob) k), some .ok) := by
  have hoct : (s.kwTaken 4).oct kwIx Sub.kwWin_KW_BLOB = blob := (State.oct_put ..).trans hb
  have hrows' : (s.kwTaken 4).rewrapRows level blob = .ok k := (rewrapRows_put ..).trans hrows
  have hmay' : (s.kwTaken 4).mayWrap slot (metaOf blob).export_ = .ok := (mayWrap_put ..).trans hmay
  have hop : kwRewrapOp level (s.kwTaken 4) =
      ((s.kwTaken 4).putO kwIx Sub.kwWin_KW_BLOB ((s.kwTaken 4).makeBlob slot (metaOf blob) k), .ok) := by
    simp only [kwRewrapOp, hoct, hrows', kwObject_kwTaken 4 s (sub := Sub.kwWin_KW_SLOT) (by decide) (by decide), hs, hmay']
  simp only [kwOp, vaultOpen_kwTaken, hopen, hop, if_true]
  rw [State.kwTaken, makeBlob_put]

/-- Settles O20. That an UNWRAP under a response counts nothing is the model's reading of R552, which denies it. -/
theorem custodyUnwrapsAndWraps : Obligations.CustodyUnwrapsAndWraps := by
  intro s c blob target h slot hb ht hh hs
  refine ⟨fun sl i k hst hheld hsl hrows => ?placed, fun st hst hheld hrows => ?fails, fun hst hheld => ?held,
    fun m k hst hopen hkey hmay => ?wraps, fun k hst hopen hrows hmay => ?rewraps⟩
  case placed =>
    obtain ⟨v, hblob, hsent⟩ := unwrapBlob_slice (s := s.kwTaken 1) hheld hsl ((unwrapRows_kwTaken ..).trans hrows)
    rw [keyAt_kwTaken] at hblob hsent
    have hact := kwOp_unwrap hb ht hblob
    rw [if_pos rfl] at hact
    have hpost := rowKw_posts hst hact (by simp [hsent.due])
    have hkey : (rowKw c 1 s).post.keyAt sl i = (s.keyAt sl i).placed false (metaOf blob) k :=
      by simp [hpost.keyAt, hsent.keyAt]
    have hcnt : v.cnt = s.cnt := by simp [hsent.cnt]
    refine ⟨_, rfl, congrArg KeyEntry.valid hkey, congrArg KeyEntry.key hkey, congrArg KeyEntry.record hkey, ?_, ?_, hpost.ends⟩
    · rw [hpost.ob_ne (by decide) (by decide) (by decide), State.ob_put_self]
    · rw [hpost.cnt, State.put_cnt, State.bump_self, hcnt]
  case fails =>
    have hact := kwOp_unwrap hb ht (unwrapBlob_error (s := s.kwTaken 1) hheld ((unwrapRows_kwTaken ..).trans hrows))
    obtain ⟨l, a, p, d, hcount⟩ := unwrapCount_eq st (s.kwTaken 1)
    rw [hcount] at hact
    have hpost := rowKw_posts hst hact (by split <;> rfl)
    have hsame : (rowKw c 1 s).post.asc = s.asc ∧ (rowKw c 1 s).post.vault = { s.vault with integ := l } ∧
        (rowKw c 1 s).post.cnt = (s.bump (Ctr.device + vaultCounter st)).cnt := by
      rw [hpost.asc, hpost.vault, hpost.cnt]
      split <;> exact ⟨rfl, rfl, rfl⟩
    obtain ⟨hasc, hvault, hcnt⟩ := hsame
    refine ⟨_, rfl, hasc, ?_, ?_, ?_, hpost.ends⟩
    · rw [hvault]
    · rw [hvault]
    · rw [hcnt]
      exact State.bump_self ..
  case held =>
    have hpost := rowKw_posts hst (kwOp_unwrap hb ht (unwrapBlob_held (s := s.kwTaken 1) hheld)) (by simp)
    exact ⟨_, rfl, hpost.asc, hpost.vault, hpost.cnt, hpost.ends⟩
  case wraps =>
    have hpost := rowKw_posts hst (kwOp_wrap hh hs hopen hkey hmay) (by simp)
    exact ⟨_, rfl, (hpost.oct ..).trans (State.oct_putO_self ..), by simp [hpost.vault], by simp [hpost.asc], hpost.ends⟩
  case rewraps =>
    have hpost := rowKw_posts hst (kwOp_rewrap hb hs hopen hrows hmay) (by simp)
    exact ⟨_, rfl, (hpost.oct ..).trans (State.oct_putO_self ..), by simp [hpost.vault], by simp [hpost.asc], hpost.ends⟩

/-! ### A draw that is served at once (R394) -/

theorem drbgFill_eq (s : State) : ∃ e, drbgFill s = s.putEnt e := by
  unfold drbgFill
  dsimp only
  split
  · exact ⟨s.ke.ent, rfl⟩
  · exact ⟨_, rfl⟩

theorem takeQueue_eq (len : Nat) (s : State) : ∃ e, takeQueue len s = (s.nextDraw len, s.putEnt e) := by
  obtain ⟨e, h⟩ := drbgFill_eq (s.putEnt { s.ke.ent with queue := s.ke.ent.queue.drop len, mark := s.ke.ent.mark - len })
  refine ⟨e, ?_⟩
  unfold takeQueue
  dsimp only
  rw [h]
  rfl

theorem drawRequest_now {len : Nat} (h : s.drawsNow len) (who : EntWho) :
    ∃ e, drawRequest who len s = (.served (s.nextDraw len), s.putEnt e) := by
  obtain ⟨hrun, hfailed, hstarting, hwaiting, hfill⟩ := h
  obtain ⟨e, htake⟩ := takeQueue_eq len s
  exact ⟨e, by simp [drawRequest, hrun, hfailed, hstarting, hwaiting, hfill, htake]⟩

/-! ### GENERATE (R345) -/

section Taken
variable (code : Nat) (s : State)

@[simp] theorem generateRows_kwTaken (ty target slot ex : Nat) :
    (s.kwTaken code).generateRows ty target slot ex = s.generateRows ty target slot ex := by
  unfold State.generateRows
  rw [keyPlace_kwTaken]
  rfl

theorem drawsNow_kwTaken {len : Nat} (h : s.drawsNow len) : (s.kwTaken code).drawsNow len := by
  have hstate : (s.kwTaken code).entState = s.entState := ob_kwTaken code s (by decide) (by decide)
  rw [State.drawsNow, hstate]
  exact h

end Taken

/-- A GENERATE for a slice's store that names no slot to wrap under. -/
theorem generatePlace_slice {ty target ex sl i : Nat} (k : Bytes) (hheld : s.held = false) (hsl : sl < 4)
    (hrows : s.generateRows ty target 0xFF ex = .ok (.entry sl i)) :
    ∃ m v, generatePlace ty target 0xFF ex k s = (.ok, handleOf sl (s.keyAt sl i).gen i, v) ∧
      OnlySent ((s.addOb vaultIx Sub.vault_KEYS_GENERATED 32 1).putKey sl i ((s.keyAt sl i).placed true m k)) v := by
  obtain ⟨v, hplace, hsent⟩ := placeKey_slice hsl i true ⟨ty, ex, (s.addOb vaultIx Sub.vault_KEYS_GENERATED 32 1).ob vaultIx
    Sub.vault_KEYS_GENERATED, 0, 0x3F, false⟩ k (s.addOb vaultIx Sub.vault_KEYS_GENERATED 32 1)
  have hkey : (s.addOb vaultIx Sub.vault_KEYS_GENERATED 32 1).keyAt sl i = s.keyAt sl i := keyAt_congr (State.addOb_asc ..) sl i
  rw [hkey] at hplace hsent
  refine ⟨_, v, ?_, hsent⟩
  simp only [generatePlace, hheld, hrows, hplace, if_true, Bool.false_eq_true, if_false]


@[simp] theorem vault_putKey (sl i : Nat) (e : KeyEntry) (s : State) : (s.putKey sl i e).vault = s.vault := rfl
@[simp] theorem ob_putKey (sl i : Nat) (e : KeyEntry) (s : State) (ix sub : Nat) : (s.putKey sl i e).ob ix sub = s.ob ix sub := rfl

section PutEnt
variable (e : Entropy) (s : State)

@[simp] theorem held_putEnt : (s.putEnt e).held = s.held := rfl
@[simp] theorem keyAt_putEnt (sl i : Nat) : (s.putEnt e).keyAt sl i = s.keyAt sl i := rfl
@[simp] theorem generateRows_putEnt (ty target slot ex : Nat) :
    (s.putEnt e).generateRows ty target slot ex = s.generateRows ty target slot ex := rfl
@[simp] theorem due_putEnt : (s.putEnt e).due = s.due := rfl
@[simp] theorem ob_putEnt (ix sub : Nat) : (s.putEnt e).ob ix sub = s.ob ix sub := rfl

end PutEnt

/-- The state in which a GENERATE places its key: it has drawn, and counted the key. -/
def State.generating (e : Entropy) (s : State) : State :=
  ((s.kwTaken 2).putEnt e).addOb vaultIx Sub.vault_KEYS_GENERATED 32 1

theorem kwOp_generate {level ty target ex sl i : Nat} (hheld : s.held = false) (hsl : sl < 4)
    (hty : s.ob kwIx Sub.kwWin_KW_TYPE = ty) (htarget : s.ob kwIx Sub.kwWin_KW_TARGET = target)
    (hslot : s.ob kwIx Sub.kwWin_KW_SLOT = 0xFF) (hex : s.ob kwIx Sub.kwWin_KW_EXPORT = ex)
    (hopen : s.vaultOpen level (if ty = 4 then 2 else 1) = true) (hrows : s.generateRows ty target 0xFF ex = .ok (.entry sl i))
    (hdraw : s.drawsNow (blobKey ty)) :
    ∃ e m v, kwOp level 2 (s.kwTaken 2) = (v.put kwIx Sub.kwWin_KW_HANDLE (handleOf sl (s.keyAt sl i).gen i), some .ok) ∧
      OnlySent ((s.generating e).putKey sl i ((s.keyAt sl i).placed true m (s.nextDraw (blobKey ty)))) v := by
  obtain ⟨e, hserved⟩ := drawRequest_now (drawsNow_kwTaken 2 s hdraw) (.generate ty target 0xFF ex)
  obtain ⟨m, v, hplace, hsent⟩ := generatePlace_slice (s := (s.kwTaken 2).putEnt e) (s.nextDraw (blobKey ty))
    (by simpa using hheld) hsl (by simpa using hrows)
  have hkey : ((s.kwTaken 2).putEnt e).keyAt sl i = s.keyAt sl i := by simp
  rw [hkey] at hplace hsent
  refine ⟨e, m, v, ?_, hsent⟩
  have hdone : generateDone ty target 0xFF ex (s.nextDraw (blobKey ty)) ((s.kwTaken 2).putEnt e) =
      (v.put kwIx Sub.kwWin_KW_HANDLE (handleOf sl (s.keyAt sl i).gen i), .ok) := by
    simp only [generateDone, hplace, if_true]
  have hob {sub : Nat} (h : sub < 256) (hne : sub ≠ Sub.kwWin_KW_OP) : (s.kwTaken 2).ob kwIx sub = s.ob kwIx sub :=
    kwObject_kwTaken 2 s h hne
  have hnext : (s.kwTaken 2).nextDraw (blobKey ty) = s.nextDraw (blobKey ty) := by rw [State.nextDraw, State.kwTaken, State.put_ke]
  rw [hnext] at hserved
  simp only [kwOp, kwGenerateOp, hob (sub := Sub.kwWin_KW_TYPE) (by decide) (by decide), hty,
    hob (sub := Sub.kwWin_KW_TARGET) (by decide) (by decide), htarget, hob (sub := Sub.kwWin_KW_SLOT) (by decide) (by decide), hslot,
    hob (sub := Sub.kwWin_KW_EXPORT) (by decide) (by decide), hex, vaultOpen_kwTaken, hopen, held_kwTaken, hheld,
    generateRows_kwTaken, hrows, hserved, hdone]
  rfl

/-! ### DESTROY, KEK_CLEAR and INFO (R348, R367) -/

section Taken
variable (code : Nat) (s : State)

@[simp] theorem handleHeld_kwTaken (h : Nat) : (s.kwTaken code).handleHeld h = s.handleHeld h := by
  simp only [State.handleHeld, keyAt_kwTaken]

@[simp] theorem oduNames_kwTaken (sl h : Nat) : (s.kwTaken code).oduNames sl h = s.oduNames sl h := by
  have hob {ix sub : Nat} (hsub : sub < 256) (hne : sub ≠ Sub.kwWin_KW_OP) : (s.kwTaken code).ob ix sub = s.ob ix sub :=
    ob_kwTaken code s hsub fun k => hne k.2
  simp only [State.oduNames, State.txKey, if_true, Nat.one_ne_zero, if_false, hob (sub := Sub.sodu_TX_KEY_0) (by decide) (by decide),
    hob (sub := Sub.sodu_TX_KEY_1) (by decide) (by decide), hob (sub := Sub.sodu_RX_KEY_0) (by decide) (by decide),
    hob (sub := Sub.sodu_RX_KEY_1) (by decide) (by decide)]

@[simp] theorem jobNames_kwTaken (h : Nat) : (s.kwTaken code).jobNames h = s.jobNames h := by
  have hob (j : Nat) : (s.kwTaken code).ob (0x4010 + j) Sub.job_JOB_STATE = s.ob (0x4010 + j) Sub.job_JOB_STATE :=
    ob_kwTaken code s (by decide) fun k => absurd k.2 (by decide)
  simp only [State.jobNames, hob, vault_kwTaken]

end Taken

section Destroy
variable {level h sl i : Nat} {e : KeyEntry} (hh : s.ob kwIx Sub.kwWin_KW_HANDLE = h) (hopen : s.vaultOpen level 1 = true)
  (hheld : s.handleHeld h = false) (hentry : s.entryOf h = some (sl, i, e))
include hh hopen hheld hentry

theorem kwOp_destroy (hsl : sl < 4) (hrefs : e.refs = 0) (hodu : s.oduNames sl h = false) (hjob : s.jobNames h = false) :
    kwOp level 5 (s.kwTaken 5) = ((s.kwTaken 5).putKey sl i e.freed, some .ok) := by
  refine kwGate_open ((vaultOpen_kwTaken ..).trans hopen) ?_
  have hentry' : (s.kwTaken 5).entryOf h = some (sl, i, e) := (entryOf_put ..).trans hentry
  have hne : sl ≠ 4 := by omega
  simp [kwDestroyOp, kwObject_kwTaken 5 s (sub := Sub.kwWin_KW_HANDLE) (by decide) (by decide), hh, hheld, hentry', hrefs, hodu, hjob,
    State.putEntry, hne]

theorem kwOp_destroy_named (hrefs : e.refs ≠ 0) : kwOp level 5 (s.kwTaken 5) = (s.kwTaken 5, some .busy) := by
  refine kwGate_open ((vaultOpen_kwTaken ..).trans hopen) ?_
  have hentry' : (s.kwTaken 5).entryOf h = some (sl, i, e) := (entryOf_put ..).trans hentry
  simp [kwDestroyOp, kwObject_kwTaken 5 s (sub := Sub.kwWin_KW_HANDLE) (by decide) (by decide), hh, hheld, hentry', hrefs]

end Destroy

theorem kwOp_info {level h sl i : Nat} {e : KeyEntry} (hh : s.ob kwIx Sub.kwWin_KW_HANDLE = h) (hopen : s.vaultOpen level 1 = true)
    (hentry : s.entryOf h = some (sl, i, e)) :
    kwOp level 10 (s.kwTaken 10) = ((s.kwTaken 10).putO kwIx Sub.kwWin_KW_RECORD (be 24 e.record), some .ok) := by
  refine kwGate_open ((vaultOpen_kwTaken ..).trans hopen) ?_
  have hentry' : (s.kwTaken 10).entryOf h = some (sl, i, e) := (entryOf_put ..).trans hentry
  simp [kwInfoOp, kwObject_kwTaken 10 s (sub := Sub.kwWin_KW_HANDLE) (by decide) (by decide), hh, hentry']

/-! A KEK slot is cleared; a standby may leave or enter IN_SYNC for it, which reaches no key (R438). -/

/-- From `s` to `t` no key, no slot and nothing due of the windows has changed. -/
structure KeepsKeys (s t : State) : Prop where
  vault : t.vault = s.vault
  tables : t.tables = s.tables

theorem KeepsKeys.refl (s : State) : KeepsKeys s s := ⟨rfl, rfl⟩

theorem setPairState_keepsKeys {v : Nat} (hv : v ≠ 6) (s : State) : KeepsKeys s (setPairState v s) := by
  have htaken : KeepsKeys s (s.pairStateTaken v) := ⟨by simp [State.pairStateTaken], (raise_tables ..).trans rfl⟩
  rcases setPairState_cases hv s with h | ⟨w, h⟩
  · rw [h]
    exact .refl s
  · rw [h]
    exact ⟨htaken.vault, htaken.tables⟩

theorem syncTest_keepsKeys (s : State) : KeepsKeys s (syncTest s) := by
  unfold syncTest
  split_ifs
  · exact .refl s
  · exact setPairState_keepsKeys (by decide) s
  · exact setPairState_keepsKeys (by decide) s
  · exact setPairState_keepsKeys (by decide) s
  · exact .refl s

theorem kekAt_congr (h : t.vault = s.vault) (n : Nat) : t.kekAt n = s.kekAt n := by rw [State.kekAt, h, State.kekAt]

theorem kekAt_clearKek (n : Nat) (s : State) : (clearKek n s).kekAt n = (s.kekAt n).cleared := by
  rw [clearKek, kekAt_congr (syncTest_keepsKeys _).vault]
  exact mget_mset_self ..

theorem clearKek_due (n : Nat) (s : State) : (clearKek n s).due = s.due :=
  (due_of_tables (syncTest_keepsKeys _).tables).trans (due_congr rfl)

theorem clearKek_asc (n : Nat) (s : State) : (clearKek n s).asc = s.asc := asc_of_tables (syncTest_keepsKeys _).tables

theorem KekSlot.cleared_valid {k : KekSlot} (h : k.valid = true) : k.cleared = { gen := nextGen k.gen } := if_pos h

theorem kwOp_kekClear {level h : Nat} (hh : s.ob kwIx Sub.kwWin_KW_HANDLE = h) (hopen : s.vaultOpen level 2 = true)
    (hslot : 3 ≤ bits h 5 0) (hlive : s.kekLive h = true) :
    kwOp level 6 (s.kwTaken 6) = (clearKek (bits h 5 0) (s.kwTaken 6), some .ok) := by
  refine kwGate_open ((vaultOpen_kwTaken ..).trans hopen) ?_
  have hlive' : (s.kwTaken 6).kekLive h = true := (kekLive_put ..).trans hlive
  have hkind : handleKind h = 1 := by
    simp only [State.kekLive, Bool.and_eq_true, beq_iff_eq] at hlive
    exact hlive.1.1.1.1
  simp [kwKekClearOp, kwObject_kwTaken 6 s (sub := Sub.kwWin_KW_HANDLE) (by decide) (by decide), hh, hkind, hlive', Nat.not_lt.mpr hslot]

/-- Settles O21. -/
theorem custodyMakesAndDestroys : Obligations.CustodyMakesAndDestroys := by
  intro s c h hh
  refine ⟨fun ty target ex sl i hst hheld hsl hty htarget hslot hex hopen hrows hdraw => ?generates,
    fun sl i e hst hopen hheld hentry hsl hrefs hodu hjob => ?destroys, fun sl i e hst hopen hheld hentry hrefs => ?named,
    fun hst hopen hslot hlive => ?clears, fun sl i e hst hopen hentry => ?tells⟩
  case generates =>
    obtain ⟨e, m, v, hact, hsent⟩ := kwOp_generate hheld hsl hty htarget hslot hex hopen hrows hdraw
    have hpost := rowKw_posts hst hact (by simp [hsent.due, State.generating])
    have hkey : (rowKw c 2 s).post.keyAt sl i = (s.keyAt sl i).placed true m (s.nextDraw (blobKey ty)) := by
      simp [hpost.keyAt, hsent.keyAt]
    refine ⟨_, rfl, congrArg KeyEntry.valid hkey, congrArg KeyEntry.generated hkey, congrArg KeyEntry.key hkey, ?_, ?_, hpost.ends⟩
    · rw [hpost.ob_ne (by decide) (by decide) (by decide), State.ob_put_self]
    · rw [hpost.ob, State.ob_put_ne (by decide), State.ob_put_ne (by decide), hsent.ob]
      have hcounted : (s.kwTaken 2).ob vaultIx Sub.vault_KEYS_GENERATED = s.ob vaultIx Sub.vault_KEYS_GENERATED :=
        ob_kwTaken 2 s (by decide) (by decide)
      rw [ob_putKey, State.generating, State.ob_addOb_self, ob_putEnt, hcounted]
  case destroys =>
    have hpost := rowKw_posts hst (kwOp_destroy hh hopen hheld hentry hsl hrefs hodu hjob) (by simp)
    exact ⟨_, rfl, by simp [hpost.keyAt], by simp [hpost.vault], hpost.ends⟩
  case named =>
    have hpost := rowKw_posts hst (kwOp_destroy_named hh hopen hheld hentry hrefs) (by simp)
    exact ⟨_, rfl, by simp [hpost.asc], by simp [hpost.vault], hpost.ends⟩
  case clears =>
    have hact := kwOp_kekClear hh hopen hslot hlive
    have hpost := rowKw_posts hst hact ((clearKek_due ..).trans (due_kwTaken ..))
    refine ⟨_, rfl, ?_, (hpost.asc.trans (clearKek_asc ..)).trans (asc_kwTaken ..), hpost.ends⟩
    have hvalid : (s.kekAt (bits h 5 0)).valid = true := by
      simp only [State.kekLive, Bool.and_eq_true] at hlive
      exact hlive.1.2
    rw [kekAt_congr hpost.vault, kekAt_clearKek, kekAt_kwTaken, KekSlot.cleared_valid hvalid]
  case tells =>
    have hpost := rowKw_posts hst (kwOp_info hh hopen hentry) (by simp)
    exact ⟨_, rfl, (hpost.oct ..).trans (State.oct_putO_self ..), by simp [hpost.vault], by simp [hpost.asc], hpost.ends⟩

end Sys2Proof.Machine
end

section
/-! The public-key engine under the custody window (R371): MIGRATE and QUOTE (R350, R351, R357), from the window's operation to the engine's last. -/

namespace Sys2Proof.Machine

variable {s t u : State} {c : Caller}

/-! ### The public-key engine takes an operation, and ends its last (R371) -/

/-- An idle engine takes a window's operations; the first one draws nothing. -/
theorem pkeWindow_starts {op : PkeOp} (h : s.ke.queue = []) (hop : op.draws = 0) (who : PkeWho) (rest : List PkeOp) :
    pkeWindow who (op :: rest) s = (setPkeQueue [⟨op, who, rest, []⟩] s, none) := by
  have hstart : pkeStart (setPkeQueue [⟨op, who, rest, []⟩] s) = (setPkeQueue [⟨op, who, rest, []⟩] s, none) := if_pos hop
  simp [pkeWindow, pkeQueue, h, hstart]

theorem drawsNow_setPkeQueue {len : Nat} {q : List PkeTask} (h : s.drawsNow len) : (setPkeQueue q s).drawsNow len := by
  have hstate : (setPkeQueue q s).entState = s.entState := State.ob_put_ne (by decide)
  rw [State.drawsNow, hstate]
  exact h

/-- The engine runs its one operation, with what it has drawn. -/
def State.pkeDrawing (task : PkeTask) (e : Entropy) (b : Bytes) (s : State) : State :=
  { setPkeQueue [task] s with ke := { s.ke with queue := [task], ent := e, drawn := some b } }

/-- The first one draws. -/
theorem pkeWindow_draws {op : PkeOp} {len : Nat} (h : s.ke.queue = []) (hop : op.draws = len) (hlen : len ≠ 0)
    (hdraw : s.drawsNow len) (who : PkeWho) (rest : List PkeOp) :
    ∃ e, pkeWindow who (op :: rest) s = (s.pkeDrawing ⟨op, who, rest, []⟩ e (s.nextDraw len), none) := by
  obtain ⟨e, hserved⟩ := drawRequest_now (drawsNow_setPkeQueue (q := [⟨op, who, rest, []⟩]) hdraw) .pke
  have hnext : (setPkeQueue [⟨op, who, rest, []⟩] s).nextDraw len = s.nextDraw len := by
    rw [State.nextDraw, setPkeQueue, State.put_ke]
  rw [hnext] at hserved
  subst hop
  have hstart : pkeStart (setPkeQueue [⟨op, who, rest, []⟩] s) =
      (s.pkeDrawing ⟨op, who, rest, []⟩ e (s.nextDraw op.draws), none) := by
    refine (if_neg hlen).trans ?_
    rw [hserved]
    rfl
  exact ⟨e, by simp [pkeWindow, pkeQueue, h, hstart]⟩

section Engine
variable (q : List PkeTask) (task : PkeTask) (e : Entropy) (b : Bytes) (s : State)

@[simp] theorem setPkeQueue_queue : (setPkeQueue q s).ke.queue = q := rfl
@[simp] theorem setPkeQueue_vault : (setPkeQueue q s).vault = s.vault := rfl
@[simp] theorem setPkeQueue_fuse : (setPkeQueue q s).fuse = s.fuse := rfl
@[simp] theorem setPkeQueue_due : (setPkeQueue q s).due = s.due := due_congr rfl
@[simp] theorem pkeDrawing_queue : (s.pkeDrawing task e b).ke.queue = [task] := rfl
@[simp] theorem pkeDrawing_drawn : (s.pkeDrawing task e b).ke.drawn = some b := rfl
@[simp] theorem pkeDrawing_vault : (s.pkeDrawing task e b).vault = s.vault := rfl
@[simp] theorem pkeDrawing_due : (s.pkeDrawing task e b).due = s.due := due_congr rfl

end Engine

/-- The engine has ended its one operation, and stands idle. -/
def State.pkeIdle (s : State) : State :=
  let u := if s.rst.coresHeld then s else s.pkeCount 1
  setPkeQueue [] { u with ke := { u.ke with drawn := none } }

theorem pkeIdle_eq (s : State) :
    ∃ n, s.pkeIdle = { s with ke := { s.ke with queue := [], drawn := none }, dict := { s.dict with nums := n } } := by
  unfold State.pkeIdle
  split <;> exact ⟨_, rfl⟩

theorem pkeIdle_ops (h : s.rst.coresHeld = false) : s.pkeIdle.ob keIx Sub.ke_PKE_OPS = (s.ob keIx Sub.ke_PKE_OPS + 1) % 2 ^ 64 := by
  unfold State.pkeIdle
  simp only [h, Bool.false_eq_true, if_false]
  rw [setPkeQueue, State.ob_put_ne (by decide)]
  exact State.ob_addOb_self ..

theorem pkeGo_idle (n : Nat) (h : s.ke.queue = []) : pkeGo n s = s := by
  cases n with
  | zero => rfl
  | succ n => simp only [pkeGo, pkeStart, h]

theorem pkeComplete_idle {op : PkeOp} {who : PkeWho} {got : Bytes} (h : s.ke.queue = [⟨op, who, [], got⟩])
    (hdrawn : op.draws = 0 ∨ s.ke.drawn ≠ none) :
    pkeComplete s = pkeDone ⟨op, who, [], got⟩ (s.ke.drawn.getD []) s.pkeIdle := by
  have hgo : ¬(op.draws ≠ 0 ∧ s.ke.drawn = none) := fun k => hdrawn.elim k.1 (· k.2)
  unfold pkeComplete
  simp only [h, if_neg hgo]
  rw [pkeGo_idle]
  · rfl
  · rfl

/-- A custody operation that the engine goes on with. -/
theorem rowKw_runs {code : Nat} (h : Starts s c kwIx Sub.kwWin_KW_OP Sub.kwWin_KW_STATUS code)
    (hact : kwOp (s.levelOf c) code (s.kwTaken code) = (u, none)) (hdue : u.due = s.due) :
    (rowKw c code s).post.ke = u.ke ∧ (rowKw c code s).post.vault = u.vault ∧
      Ends (rowKw c code s).post c kwIx Sub.kwWin_KW_OP Sub.kwWin_KW_STATUS .busy := by
  obtain ⟨d, a, w, hpost, -, hends⟩ := rowWindowStart_runs h hact hdue
  rw [rowKw]
  exact ⟨by rw [hpost], by rw [hpost], hends⟩

theorem ob_winEnd_ne {ix st : Nat} {stat : Status} {ix' sub' : Nat} (h : okey ix' sub' ≠ okey ix st) :
    (s.winEnd ix st stat).ob ix' sub' = s.ob ix' sub' := State.ob_put_ne h

/-! ### MIGRATE (R350, R351) -/

/-- The storage KEK of the firmware that a manifest names stands in slot 1 (R350). -/
def State.migrated (m : Bytes) (s : State) : State :=
  ((placeKek 1 1 ((s.storageKek (mfTo m)).getD 0) false false s).putO vaultIx Sub.vault_MIGRATE_TO (mfTo m)).raise 0x0903 0xFF []

theorem kekAt_putKek (n : Nat) (k : KekSlot) (s : State) : (s.putKek n k).kekAt n = k := mget_mset_self (α := KekSlot) ..

section Migrated
variable (m : Bytes) (s : State)

theorem kekAt_migrated : (s.migrated m).kekAt 1 =
    { valid := true, kind := 1, from_ := 0x3F, gen := (s.kekAt 1).gen,
      kek := (s.storageKek (mfTo m)).getD 0, generated := true } := by
  rw [State.migrated, kekAt_congr (State.raise_vault ..), kekAt_congr (State.putO_vault ..)]
  exact kekAt_putKek ..

theorem oct_migrated : (s.migrated m).oct vaultIx Sub.vault_MIGRATE_TO = mfTo m := by
  rw [State.migrated, State.oct_raise, State.oct_putO_self]

theorem ke_migrated : (s.migrated m).ke = s.ke := by
  rw [State.migrated, State.raise_ke]
  rfl

theorem ob_migrated {ix sub : Nat} (h : sub < 256) (hix : ix ≠ 0x0300) : (s.migrated m).ob ix sub = s.ob ix sub := by
  rw [State.migrated, State.ob_raise h hix]
  rfl

end Migrated

section Migrate
variable {level : Nat} {m : Bytes} (hopen : s.vaultOpen level 2 = true) (hheld : s.held = false) (hlc : s.fuse.lc = 1 ∨ s.fuse.lc = 2)
  (hform : manifestForm m = true)
include hopen hheld hlc hform

theorem kwOp_migrate (hm : s.oct kwIx Sub.kwWin_KW_BLOB = m) (hidle : s.ke.queue = []) : kwOp level 7 (s.kwTaken 7) =
    (setPkeQueue [⟨.ecVerify, .migrate level m, [.dsa87Verify], []⟩] (s.kwTaken 7), none) := by
  have hoct : (s.kwTaken 7).oct kwIx Sub.kwWin_KW_BLOB = m := (State.oct_put ..).trans hm
  have hlc' : ¬((s.kwTaken 7).fuse.lc ≠ 1 ∧ (s.kwTaken 7).fuse.lc ≠ 2) := by
    rw [State.kwTaken, State.put_fuse]
    omega
  simp only [kwOp, kwMigrateOp, vaultOpen_kwTaken, hopen, held_kwTaken, hheld, hlc', hoct, hform, Bool.not_true, Bool.false_eq_true,
    or_self, if_false]
  exact pkeWindow_starts (s := s.kwTaken 7) (op := .ecVerify) hidle rfl _ _

/-- A migration places the storage KEK of the next firmware (R350). -/
theorem migrateVerified_ok (hstatus : s.migrateStatus m = .ok) : migrateVerified level m s = (s.migrated m, .ok) := by
  have hlc' : ¬(s.fuse.lc ≠ 1 ∧ s.fuse.lc ≠ 2) := by omega
  simp only [migrateVerified, migrate, hopen, hheld, hlc', hform, hstatus, Bool.not_true, Bool.false_eq_true, or_self, if_false]
  rfl

end Migrate

theorem kwOp_migrateEnd {level : Nat} (hopen : s.vaultOpen level 2 = true) : kwOp level 8 (s.kwTaken 8) =
    ((clearKek 1 (s.kwTaken 8)).putO vaultIx Sub.vault_MIGRATE_TO (zeros 48), some .ok) :=
  kwGate_open ((vaultOpen_kwTaken ..).trans hopen) rfl

theorem KekSlot.cleared_invalid (k : KekSlot) : k.cleared.valid = false := by
  unfold KekSlot.cleared
  split
  · rfl
  · simp_all

/-! ### QUOTE (R357) -/

theorem kwOp_quote {level h kind : Nat} (hh : s.ob kwIx Sub.kwWin_KW_HANDLE = h) (hopen : s.vaultOpen level 1 = true)
    (hkind : quoteKind h = some kind) (hidle : s.ke.queue = []) (hdraw : s.drawsNow 64) :
    ∃ e, kwOp level 9 (s.kwTaken 9) = ((s.kwTaken 9).pkeDrawing ⟨.ecSign, .quote h (s.oct kwIx Sub.kwWin_KW_NONCE) s.meas
      (s.ob vaultIx Sub.vault_SVN), [.dsaSign], []⟩ e (s.nextDraw 64), none) := by
  obtain ⟨e, hact⟩ := pkeWindow_draws (s := s.kwTaken 9) (op := .ecSign) (len := 64) hidle rfl (by decide) (drawsNow_kwTaken 9 s hdraw)
    (.quote h (s.oct kwIx Sub.kwWin_KW_NONCE) s.meas (s.ob vaultIx Sub.vault_SVN)) [.dsaSign]
  refine ⟨e, ?_⟩
  have hsvn : (s.kwTaken 9).ob vaultIx Sub.vault_SVN = s.ob vaultIx Sub.vault_SVN := ob_kwTaken 9 s (by decide) (by decide)
  have hnonce : (s.kwTaken 9).oct kwIx Sub.kwWin_KW_NONCE = s.oct kwIx Sub.kwWin_KW_NONCE := State.oct_put ..
  have hmeas : (s.kwTaken 9).meas = s.meas := State.oct_put ..
  have hnext : (s.kwTaken 9).nextDraw 64 = s.nextDraw 64 := by rw [State.nextDraw, State.kwTaken, State.put_ke]
  have hmay : ¬(!(s.kwTaken 9).vaultOpen level 1 ∧ !((s.kwTaken 9).fuse.lc = 3 ∧ h = 0 ∧ 1 ≤ level)) := by simp [hopen]
  have hsome : ¬quoteKind h = none := by simp [hkind]
  rw [hnext] at hact
  simp only [kwOp, kwQuoteOp, kwObject_kwTaken 9 s (sub := Sub.kwWin_KW_HANDLE) (by decide) (by decide), hh, hsvn, hnonce, hmeas]
  exact (if_neg hmay).trans ((if_neg hsome).trans hact)

theorem quoteDone_eq (h : Nat) (nonce meas : Bytes) (svn : Nat) (r : Bytes) (s : State) : quoteDone h nonce meas svn r s =
    let u := { s with vault := { s.vault with quotes := s.vault.quotes + 1 } }
    let b := u.quoteBody ((quoteKind h).getD 3) h nonce meas svn
    (u.putO kwIx Sub.kwWin_KW_BLOB (b ++ (Config.ecdsaSign (s.aliasOf meas).1 b (num (r.take 64)) ++
      Config.mldsaSign (s.aliasOf meas).2 b (num (r.drop 64)))), .ok) := rfl

/-- Settles O22. -/
theorem custodyMigratesAndQuotes : Obligations.CustodyMigratesAndQuotes := by
  intro s c m h hm hh
  refine ⟨fun hst hheld hopen hlc hform hidle => ?migrates, fun level m' hq hheld hopen hlc hform hstatus hcores => ?placed,
    fun hst hopen => ?ends, fun kind hst hopen hkind hidle hdraw => ?quotes,
    fun h' nonce meas svn a r u b hq ha hr hu hb hcores => ?signed⟩
  case migrates =>
    obtain ⟨hke, hvault, hends⟩ := rowKw_runs hst (kwOp_migrate hopen hheld hlc hform hm hidle) (by simp)
    exact ⟨_, rfl, by rw [hke, setPkeQueue_queue], by rw [hvault, setPkeQueue_vault, vault_kwTaken], hends⟩
  case placed =>
    have hops := pkeIdle_ops hcores
    obtain ⟨n, hidle⟩ := pkeIdle_eq s
    have hdone := migrateVerified_ok (s := s.pkeIdle) (by rwa [hidle]) (by rwa [hidle]) (by rwa [hidle]) hform (by rwa [hidle])
    have hend : pkeComplete s = drawEnd kwIx Sub.kwWin_KW_STATUS (migrateVerified level m' s.pkeIdle) :=
      pkeComplete_idle hq (.inl rfl)
    rw [hdone] at hend
    refine ⟨_, congrArg Host.Outcome.next hend, ?_, ?_, ?_, ?_, ?_⟩
    · rw [drawEnd, kekAt_congr (State.winEnd_vault ..), kekAt_migrated, hidle]
      rfl
    · exact (State.oct_put ..).trans (oct_migrated ..)
    · rw [drawEnd, State.winEnd_ke, ke_migrated, hidle]
    · rw [drawEnd, ob_winEnd_ne (by decide), ob_migrated _ _ (by decide) (by decide), hops]
    · exact State.ob_put_self ..
  case ends =>
    have hpost := rowKw_posts hst (kwOp_migrateEnd hopen) (by simp [clearKek_due])
    refine ⟨_, rfl, ?_, (hpost.oct ..).trans (State.oct_putO_self ..), hpost.ends⟩
    rw [kekAt_congr (hpost.vault.trans (State.putO_vault ..)), kekAt_clearKek]
    exact KekSlot.cleared_invalid _
  case quotes =>
    obtain ⟨e, hact⟩ := kwOp_quote hh hopen hkind hidle hdraw
    obtain ⟨hke, hvault, hends⟩ := rowKw_runs hst hact (by simp)
    exact ⟨_, rfl, by rw [hke, pkeDrawing_queue], by rw [hke, pkeDrawing_drawn], by rw [hvault, pkeDrawing_vault, vault_kwTaken], hends⟩
  case signed =>
    obtain ⟨n, hidle⟩ := pkeIdle_eq s
    have hbody : ({ s.pkeIdle with vault := { s.pkeIdle.vault with quotes := s.pkeIdle.vault.quotes + 1 } } : State).quoteBody
        ((quoteKind h').getD 3) h' nonce meas svn = b := by
      rw [hb, hu, hidle]
      rfl
    have halias : s.pkeIdle.aliasOf meas = s.aliasOf meas := by
      rw [hidle]
      rfl
    have hdone := quoteDone_eq h' nonce meas svn (a ++ r) s.pkeIdle
    rw [List.take_left' ha, List.drop_left' ha, halias] at hdone
    dsimp only at hdone
    rw [hbody] at hdone
    have hend : pkeComplete s = drawEnd kwIx Sub.kwWin_KW_STATUS (quoteDone h' nonce meas svn (a ++ r) s.pkeIdle) := by
      rw [pkeComplete_idle hq (.inr (by simp [hr])), hr]
      rfl
    rw [hdone] at hend
    refine ⟨_, congrArg Host.Outcome.next hend, ?_, ?_, ?_, ?_⟩
    · exact (State.oct_put ..).trans (State.oct_putO_self ..)
    · rw [drawEnd, State.winEnd_vault, State.putO_vault, hidle, hu]
    · rw [drawEnd, State.winEnd_ke, State.putO_ke, hidle]
    · exact State.ob_put_self ..

end Sys2Proof.Machine
end

section
/-! The life-cycle window (R359 to R363, R369): tickets, the vendor step, what a transition destroys, the Vigil secret and the floor. -/

namespace Sys2Proof.Machine

variable {s t u : State} {c : Caller}

/-! ### The life-cycle window takes an operation (R369, R465) -/

/-- `t` is what an operation left as `u`, at the end of its period; it completes in a later step. -/
structure RunningFrom (u : State) (c : Caller) (ix op st : Nat) (t : State) : Prop where
  ob : ∀ ix' sub', t.ob ix' sub' = (u.put ix st Status.busy.code).ob ix' sub'
  rest : ∃ d a w, t = { u with dict := d, acc := a, wire := w }
  ends : Ends t c ix op st .busy

/-- What the windows have running beside an operation that goes on may have changed. -/
theorem rowWindowStart_running {ix op st code : Nat} {act : State → State × Option Status} (h : Starts s c ix op st code)
    (hact : act (s.put ix op code) = (u, none)) (hposts : u.acc.posts = s.acc.posts) :
    RunningFrom u c ix op st (rowWindowStart c ix op st code act s).post := by
  obtain ⟨-, -, -, hnone⟩ := id h
  have hp : ((u.winRun ix st).complete c ix op .ok).acc.posts = [] := hposts.trans hnone
  rw [rowWindowStart_waits h hact, complete_noteCycle, post_noteCycle, post_none hp]
  obtain ⟨a, hnote⟩ := noteCycle_eq c [okey ix op] ((u.winRun ix st).complete c ix op .ok)
  have hob (ix' sub' : Nat) : (((u.winRun ix st).complete c ix op .ok).noteCycle c [okey ix op]).ob ix' sub' =
      (u.put ix st Status.busy.code).ob ix' sub' := State.ob_noteCycle ..
  refine ⟨hob, ⟨_, a, _, hnote⟩, ?_, (hob ..).trans (State.ob_put_self ..)⟩
  rw [Reports, State.wire_noteCycle]
  exact reports_complete ..

/-- The life-cycle window has taken the operation `code`. -/
def State.lcTaken (code : Nat) (s : State) : State := s.put lcIx Sub.lcWin_LC_OP code

section Taken
variable (code : Nat) (s : State)

theorem ob_lcTaken {ix sub : Nat} (h : sub < 256) (hne : ¬(ix = lcIx ∧ sub = Sub.lcWin_LC_OP)) :
    (s.lcTaken code).ob ix sub = s.ob ix sub := by
  rw [State.lcTaken, State.ob_put (by decide) h, if_neg hne]

@[simp] theorem fuse_lcTaken : (s.lcTaken code).fuse = s.fuse := State.put_fuse ..
@[simp] theorem vault_lcTaken : (s.lcTaken code).vault = s.vault := State.put_vault ..
@[simp] theorem alm_lcTaken : (s.lcTaken code).alm = s.alm := State.put_alm ..
@[simp] theorem ke_lcTaken : (s.lcTaken code).ke = s.ke := State.put_ke ..
@[simp] theorem acc_lcTaken : (s.lcTaken code).acc = s.acc := State.put_acc ..
@[simp] theorem due_lcTaken : (s.lcTaken code).due = s.due := due_put ..
@[simp] theorem lcLevel_lcTaken (level : Nat) : (s.lcTaken code).lcLevel level = s.lcLevel level := by
  simp only [State.lcLevel, fuse_lcTaken]

@[simp] theorem transitionCheck_put (ix sub v level : Nat) (t : Bytes) :
    (s.put ix sub v).transitionCheck level t = s.transitionCheck level t := rfl
@[simp] theorem transitionCheck_lcTaken (level : Nat) (t : Bytes) :
    (s.lcTaken code).transitionCheck level t = s.transitionCheck level t := transitionCheck_put ..

theorem drawsNow_lcTaken {len : Nat} (h : s.drawsNow len) : (s.lcTaken code).drawsNow len := by
  have hstate : (s.lcTaken code).entState = s.entState := ob_lcTaken code s (by decide) (by decide)
  rw [State.drawsNow, hstate]
  exact h

end Taken

theorem rowLc_posts {code : Nat} {stat : Status} (h : Starts s c lcIx Sub.lcWin_LC_OP Sub.lcWin_LC_STATUS code)
    (hact : lcOp (c == .firmware) (s.levelOf c) code (s.lcTaken code) = (u, some stat)) (hdue : u.due = s.due) :
    PostedFrom u c lcIx Sub.lcWin_LC_OP Sub.lcWin_LC_STATUS stat (rowLc c code s).post :=
  rowWindowStart_posts h hact hdue

theorem rowLc_runs {code : Nat} (h : Starts s c lcIx Sub.lcWin_LC_OP Sub.lcWin_LC_STATUS code)
    (hact : lcOp (c == .firmware) (s.levelOf c) code (s.lcTaken code) = (u, none)) (hposts : u.acc.posts = s.acc.posts) :
    (rowLc c code s).post.ke = u.ke ∧ (rowLc c code s).post.fuse = u.fuse ∧ (rowLc c code s).post.vault = u.vault ∧
      Ends (rowLc c code s).post c lcIx Sub.lcWin_LC_OP Sub.lcWin_LC_STATUS .busy := by
  obtain ⟨-, ⟨d, a, w, hpost⟩, hends⟩ := rowWindowStart_running h hact hposts
  rw [rowLc]
  exact ⟨by rw [hpost], by rw [hpost], by rw [hpost], hends⟩

/-! ### What a transition destroys (R362) -/

/-- What an operation of the engine or of a job was, it is denied: no completion is posted for it. -/
theorem posts_foldl {β : Type} {f : State → β → State} (h : ∀ u b, (f u b).acc.posts = u.acc.posts) (l : List β) (s : State) :
    (l.foldl f s).acc.posts = s.acc.posts :=
  List.foldlRecOn (motive := fun t => t.acc.posts = s.acc.posts) l f rfl fun u hu b _ => (h u b).trans hu

theorem raise_posts (code slice : Nat) (items : Bytes) (s : State) : (s.raise code slice items).acc.posts = s.acc.posts :=
  congrArg Prod.fst (due_of_tables (raise_tables code slice items s))

theorem finish_posts (who ix sub : Nat) (st : Status) (s : State) : (s.finish who ix sub st).acc.posts = s.acc.posts := by
  unfold State.finish
  dsimp only
  split
  · split <;> rfl
  · rfl

theorem pkeDeny_posts (st : Status) (w : PkeWho) (s : State) : (pkeDeny st w s).acc.posts = s.acc.posts := by
  unfold pkeDeny
  split
  case h_4 => exact finish_posts ..
  all_goals rfl

theorem windowsGo_idle (n : Nat) (h : s.ke.queue = []) : windowsGo n s = s := by
  cases n with
  | zero => rfl
  | succ n => simp only [windowsGo, pkeStart, h]

theorem knotAbandon_posts (s : State) : (knotAbandon false s).acc.posts = s.acc.posts := by
  unfold knotAbandon
  have hnone (q : List PkeTask) : q.filter (fun t => false && t.window && !t.migrates) = [] := by simp
  extract_lets v q goes w
  have hv : v.acc.posts = s.acc.posts := posts_foldl (fun u x => by unfold setKnotState; split <;> rfl) _ _
  have hq : q = [] := hnone _
  rw [hq]
  split
  · exact hv
  · rw [windowsGo_idle _ rfl]
    exact hv

theorem abortJobs_posts (st : Status) (s : State) : (abortJobs st s).acc.posts = s.acc.posts := by
  unfold abortJobs
  refine posts_foldl (fun u j => ?_) _ _
  dsimp only
  split <;> split <;> rfl

theorem guardCurtain_posts (s : State) : (guardCurtain s).acc.posts = s.acc.posts := by
  unfold guardCurtain
  refine posts_foldl (fun u r => ?_) _ _
  dsimp only
  split
  · exact raise_posts ..
  · rfl

theorem guardCurtain_vault (s : State) : (guardCurtain s).vault = s.vault := by
  unfold guardCurtain
  refine List.foldlRecOn (motive := fun t : State => t.vault = s.vault) _ _ rfl fun u hu r _ => ?_
  dsimp only
  split
  · exact (State.raise_vault ..).trans hu
  · exact hu

theorem destroyKeys_posts (s : State) : (destroyKeys s).acc.posts = s.acc.posts := by
  have hdenied : (pkeDenied s).acc.posts = s.acc.posts := by
    unfold pkeDenied
    exact posts_foldl (fun u x => pkeDeny_posts ..) _ _
  have hzeroised (u : State) : (zeroiseCaks (zeroiseVault u)).acc.posts = u.acc.posts := rfl
  unfold destroyKeys
  dsimp only
  rw [guardCurtain_posts, hzeroised, abortJobs_posts, knotAbandon_posts, hdenied]

theorem destroyKeys_vault (s : State) : (destroyKeys s).vault.jobs = [] ∧ (destroyKeys s).vault.tokens = [] := by
  unfold destroyKeys
  dsimp only
  rw [guardCurtain_vault]
  exact ⟨rfl, rfl⟩


/-! ### The start of a transition (R362, R363) -/

section Begin
variable (lc : Nat) (owner : Bytes) (vs dus : Option Nat) (s : State)

theorem transitionBegin_fuse :
    (transitionBegin lc owner vs dus s).fuse = { s.fuse with change := some ⟨lc, owner, vs, dus, false⟩ } := by
  unfold transitionBegin
  dsimp only
  rw [State.fuse_of_root (destroyKeys_root s)]

theorem transitionBegin_vs : (transitionBegin lc owner vs dus s).alm.vs = none := rfl

theorem transitionBegin_sa : (transitionBegin lc owner vs dus s).asc.sa = [] := by
  unfold transitionBegin destroyKeys
  dsimp only

theorem transitionBegin_vault :
    (transitionBegin lc owner vs dus s).vault.jobs = [] ∧ (transitionBegin lc owner vs dus s).vault.tokens = [] := by
  unfold transitionBegin
  dsimp only
  exact destroyKeys_vault s

theorem transitionBegin_posts : (transitionBegin lc owner vs dus s).acc.posts = s.acc.posts := by
  unfold transitionBegin
  dsimp only
  exact destroyKeys_posts s

end Begin

theorem lcDrawn_now {who : EntWho} {begin_ : Bytes → State → State} (h : s.drawsNow 32) :
    ∃ e, lcDrawn who begin_ s = (begin_ (s.nextDraw 32) (s.putEnt e), none) := by
  obtain ⟨e, hserved⟩ := drawRequest_now h who
  exact ⟨e, by simp only [lcDrawn, hserved]⟩

/-! ### A ticket and the vendor step (R360, R361) -/

theorem lcTransition_engine {level lc : Nat} {ticket : Bytes} (ht : s.oct lcIx Sub.lcWin_LC_TICKET = ticket)
    (hcheck : s.transitionCheck level ticket = .ok lc ∨ s.transitionCheck level ticket = .error .integrity)
    (hidle : s.ke.queue = []) :
    lcTransition level s = (setPkeQueue [⟨.ecVerify, .ticket level ticket,
      [if s.gizeltanSigns ticket then .dsa87Verify else .dsaVerify], []⟩] s, none) := by
  have hops : lcTransition level s =
      pkeWindow (.ticket level ticket) (if s.gizeltanSigns ticket then gizeltanOps else verifyOps) s := by
    rcases hcheck with h | h <;> simp only [lcTransition, ht, h]
  rw [hops]
  split
  · exact pkeWindow_starts (op := .ecVerify) hidle rfl _ _
  · exact pkeWindow_starts (op := .ecVerify) hidle rfl _ _

theorem lcTransition_error {level : Nat} {ticket : Bytes} {st : Status} (ht : s.oct lcIx Sub.lcWin_LC_TICKET = ticket)
    (hst : st ≠ .integrity) (hcheck : s.transitionCheck level ticket = .error st) : lcTransition level s = (s, some st) := by
  unfold lcTransition
  rw [ht, hcheck]
  split
  case h_1 h => exact absurd (Except.error.inj h) hst
  case h_2 h => cases h
  case h_3 h =>
    cases h
    rfl

/-- Whoever has a ticket goes by it; the device's own code goes by none in BLANK. -/
theorem lcOp_ticket {level : Nat} (h : c ≠ .firmware ∨ s.fuse.lc ≠ 0) : lcOp (c == .firmware) level 1 s = lcTransition level s := by
  have hnot : (c == .firmware && s.fuse.lc == 0) = false := by
    rcases h with h | h <;> simp [h]
  rw [lcOp, hnot]
  rfl

theorem lcOp_vendor {level : Nat} (h : s.fuse.lc = 0) : lcOp true level 1 s = vendorStep s := by
  simp [lcOp, h]

/-! ### A ticket that the engine has verified (R361 to R363) -/

section Verified
variable {op : PkeOp} {level : Nat} {ticket : Bytes} (hq : s.ke.queue = [⟨op, .ticket level ticket, [], []⟩]) (hop : op.draws = 0)

theorem pkeIdle_transitionCheck (s : State) (level : Nat) (ticket : Bytes) :
    s.pkeIdle.transitionCheck level ticket = s.transitionCheck level ticket := by
  obtain ⟨n, hidle⟩ := pkeIdle_eq s
  rw [hidle]
  rfl

include hq hop in
theorem pkeComplete_ticket :
    pkeComplete s = pkeWindowEnd lcIx Sub.lcWin_LC_STATUS (lcVerified level ticket s.pkeIdle) :=
  pkeComplete_idle hq (.inl hop)

include hq hop in
theorem pkeComplete_ticket_moves {lc : Nat} (hcheck : s.transitionCheck level ticket = .ok lc) (hlc : lc ≠ 2) :
    pkeComplete s = transitionBegin lc (zeros 48) none none s.pkeIdle := by
  rw [pkeComplete_ticket hq hop]
  simp only [lcVerified, pkeIdle_transitionCheck, hcheck, hlc, if_false]
  rfl

theorem drawsNow_pkeIdle {len : Nat} (h : s.drawsNow len) : s.pkeIdle.drawsNow len := by
  have hstate : s.pkeIdle.entState = s.entState := by
    unfold State.pkeIdle
    split
    · exact State.ob_put_ne (by decide)
    · exact (State.ob_put_ne (by decide)).trans (State.ob_addOb_ne (by decide))
  obtain ⟨n, hidle⟩ := pkeIdle_eq s
  have hent : s.pkeIdle.ke.ent = s.ke.ent := by rw [hidle]
  rw [State.drawsNow, hstate, State.entFill, hent]
  exact h

include hq hop in
theorem pkeComplete_ticket_owns (hcheck : s.transitionCheck level ticket = .ok 2) (hdraw : s.drawsNow 32) :
    ∃ u, pkeComplete s = transitionBegin 2 (ticketOwner ticket) (some (num (s.nextDraw 32))) none u ∧ u.fuse = s.fuse := by
  obtain ⟨e, hbegin⟩ := lcDrawn_now (who := .transition (ticketOwner ticket))
    (begin_ := fun b => transitionBegin 2 (ticketOwner ticket) (some (num b)) none) (drawsNow_pkeIdle hdraw)
  obtain ⟨n, hidle⟩ := pkeIdle_eq s
  have hnext : s.pkeIdle.nextDraw 32 = s.nextDraw 32 := by rw [State.nextDraw, hidle]
  have hfuse : s.pkeIdle.fuse = s.fuse := by rw [hidle]
  refine ⟨s.pkeIdle.putEnt e, ?_, hfuse⟩
  rw [pkeComplete_ticket hq hop]
  simp only [lcVerified, pkeIdle_transitionCheck, hcheck, if_true, hbegin, hnext]
  rfl

include hq hop in
theorem pkeComplete_ticket_fails {st : Status} (hcheck : s.transitionCheck level ticket = .error st) :
    pkeComplete s = s.pkeIdle.winEnd lcIx Sub.lcWin_LC_STATUS st := by
  rw [pkeComplete_ticket hq hop]
  simp only [lcVerified, pkeIdle_transitionCheck, hcheck]
  rfl

end Verified

/-! ### VS_RENEW and SVN_COMMIT (R369) -/

theorem vsRenew_now {level : Nat} (hlevel : s.lcLevel level = true) (hvs : s.alm.vs = none) (hlc : s.fuse.lc = 2)
    (hdraw : s.drawsNow 32) : ∃ e, vsRenew level s = (vsRenewed (s.nextDraw 32) (s.putEnt e), some .ok) := by
  obtain ⟨e, hserved⟩ := drawRequest_now hdraw .renew
  exact ⟨e, by simp [vsRenew, hlevel, hvs, hlc, hserved]⟩

@[simp] theorem fuse_putEnt (e : Entropy) (s : State) : (s.putEnt e).fuse = s.fuse := rfl
@[simp] theorem fuse_vsRenewed (b : Bytes) (s : State) : (vsRenewed b s).fuse = s.fuse := rfl
theorem due_vsRenewed (b : Bytes) (s : State) : (vsRenewed b s).due = s.due := due_congr rfl

theorem svnCommit_ok {level : Nat} (hlevel : s.lcLevel level = true) (hfloor : s.fuse.svn < 63) (hsvn : s.ob vaultIx Sub.vault_SVN ≤ 63) :
    svnCommit level s = ({ s with fuse := { s.fuse with svn := max s.fuse.svn (s.ob vaultIx Sub.vault_SVN) } }, some .ok) := by
  have hrange : ¬(63 ≤ s.fuse.svn ∨ 63 < s.ob vaultIx Sub.vault_SVN) := by omega
  simp only [svnCommit, hlevel, hrange, Bool.not_true, Bool.false_eq_true, if_false]

/-- Settles O23. A period of 8 ns for each step after the destruction is the model's choice (log 115), on which no clause rests. -/
theorem lifeCycleMoves : Obligations.LifeCycleMoves := by
  intro s c ticket ht
  refine ⟨fun lc hst hwho hcheck hidle => ?engine, fun op level ticket' lc hq hop hcheck hlc => ?moves,
    fun op level ticket' hq hop hcheck hdraw => ?owns, fun op level ticket' hq hop hcheck => ?unsigned,
    fun x hx hfused => ?fuses, fun x hx hfused => ?resets, fun hst hc hlc hdraw => ?vendor,
    fun st hne hwho hst hcheck => ?refuses, fun hst hlevel hvs hlc hdraw => ?renews, fun hst hlevel hfloor hsvn => ?commits⟩
  case engine =>
    have hcheck' : (s.lcTaken 1).transitionCheck (s.levelOf c) ticket = .ok lc ∨
        (s.lcTaken 1).transitionCheck (s.levelOf c) ticket = .error .integrity := by simpa using hcheck
    have hact := (lcOp_ticket (s := s.lcTaken 1) (level := s.levelOf c) (by simpa using hwho)).trans
      (lcTransition_engine ((State.oct_put ..).trans ht) hcheck' (by simpa using hidle))
    obtain ⟨hke, hfuse, hvault, hends⟩ := rowLc_runs hst hact rfl
    exact ⟨_, rfl, by rw [hke, setPkeQueue_queue]; rfl, by simp [hfuse], by simp [hvault], hends⟩
  case moves =>
    refine ⟨_, congrArg Host.Outcome.next (pkeComplete_ticket_moves hq hop hcheck hlc), ?_, transitionBegin_vs .., transitionBegin_sa ..,
      (transitionBegin_vault ..).1, (transitionBegin_vault ..).2⟩
    obtain ⟨n, hidle⟩ := pkeIdle_eq s
    rw [transitionBegin_fuse, hidle]
  case owns =>
    obtain ⟨u, hend, hfuse⟩ := pkeComplete_ticket_owns hq hop hcheck hdraw
    exact ⟨_, congrArg Host.Outcome.next hend, by rw [transitionBegin_fuse, hfuse], transitionBegin_vs .., transitionBegin_sa ..⟩
  case unsigned =>
    obtain ⟨n, hidle⟩ := pkeIdle_eq s
    exact ⟨_, congrArg Host.Outcome.next (pkeComplete_ticket_fails hq hop hcheck), by rw [State.winEnd_fuse, hidle],
      by rw [State.winEnd_vault, hidle], State.ob_put_self ..⟩
  case fuses =>
    have hadvance : lcAdvance s = (fuseTransition x { s with alm := { s.alm with vs := x.vs } }).raise 0x0902 0xFF
        (be 1 s.fuse.lc ++ be 1 x.lc) := by
      simp [lcAdvance, hx, hfused]
    dsimp only
    rw [hadvance, State.raise_fuse, State.raise_alm]
    refine ⟨rfl, rfl, ?_, fun h => if_pos h⟩
    show ite _ _ _ = _
    split <;> rfl
  case resets => simp [lcAdvance, hx, hfused]
  case vendor =>
    subst hc
    obtain ⟨e, hbegin⟩ := lcDrawn_now (who := .vendor) (begin_ := fun b => transitionBegin 1 (zeros 48) none (some (num b)))
      (drawsNow_lcTaken 1 s hdraw)
    have hnext : (s.lcTaken 1).nextDraw 32 = s.nextDraw 32 := by rw [State.nextDraw, ke_lcTaken]
    have hact : lcOp true (s.levelOf .firmware) 1 (s.lcTaken 1) = _ := (lcOp_vendor (by simpa using hlc)).trans hbegin
    obtain ⟨-, hfuse, -, hends⟩ := rowLc_runs hst hact (transitionBegin_posts ..)
    refine ⟨_, rfl, ?_, hends⟩
    rw [hfuse, transitionBegin_fuse, hnext, fuse_putEnt, fuse_lcTaken]
  case refuses =>
    have hact := (lcOp_ticket (s := s.lcTaken 1) (level := s.levelOf c) (by simpa using hwho)).trans
      (lcTransition_error ((State.oct_put ..).trans ht) hne ((transitionCheck_lcTaken ..).trans hcheck))
    have hpost := rowLc_posts hst hact (by simp)
    exact ⟨_, rfl, by simp [hpost.fuse], by simp [hpost.vault], hpost.ends⟩
  case renews =>
    obtain ⟨e, hact⟩ := vsRenew_now (s := s.lcTaken 2) (level := s.levelOf c) (by simpa using hlevel) (by simpa using hvs)
      (by simpa using hlc) (drawsNow_lcTaken 2 s hdraw)
    have hnext : (s.lcTaken 2).nextDraw 32 = s.nextDraw 32 := by rw [State.nextDraw, ke_lcTaken]
    have hpost := rowLc_posts hst hact (by rw [due_vsRenewed, due_putEnt, due_lcTaken])
    refine ⟨_, rfl, ?_, ?_, hpost.ends⟩
    · rw [hpost.alm, hnext]
      rfl
    · rw [hpost.fuse, fuse_vsRenewed, fuse_putEnt, fuse_lcTaken]
  case commits =>
    have hsvn' : (s.lcTaken 3).ob vaultIx Sub.vault_SVN = s.ob vaultIx Sub.vault_SVN := ob_lcTaken 3 s (by decide) (by decide)
    have hact := svnCommit_ok (s := s.lcTaken 3) (level := s.levelOf c) (by simpa using hlevel) (by simpa using hfloor)
      (by rwa [hsvn'])
    have hpost := rowLc_posts hst hact (due_congr (acc_lcTaken 3 s))
    refine ⟨_, rfl, ?_, ?_, hpost.ends⟩
    · rw [hpost.fuse, hsvn', fuse_lcTaken]
    · rw [hpost.vault, vault_lcTaken]

end Sys2Proof.Machine
end

section
/-! Lookaside jobs (R352 to R355, R370): a context's operations, and the DMA of a part over addresses beyond DDR. -/

namespace Sys2Proof.Machine

variable {s t u : State} {c : Caller}

/-! ### A job context takes an operation (R370, R465) -/

/-- A job's context has taken the operation `code`. -/
def State.jobTaken (j code : Nat) (s : State) : State := s.put (jobIx j) Sub.job_JOB_OP code

section Taken
variable (j code : Nat) (s : State)

theorem ob_jobTaken {ix sub : Nat} (h : sub < 256) (hne : sub ≠ Sub.job_JOB_OP) : (s.jobTaken j code).ob ix sub = s.ob ix sub := by
  rw [State.jobTaken, State.ob_put (by decide) h, if_neg fun k => hne k.2]

@[simp] theorem jobState_jobTaken : (s.jobTaken j code).jobState j = s.jobState j := ob_jobTaken j code s (by decide) (by decide)
@[simp] theorem jobLenOk_jobTaken : (s.jobTaken j code).jobLenOk j = s.jobLenOk j := by
  rw [State.jobLenOk, ob_jobTaken j code s (by decide) (by decide), State.jobLenOk]
@[simp] theorem jobAt_put (ix sub v i : Nat) : (s.put ix sub v).jobAt i = s.jobAt i := rfl
@[simp] theorem jobAt_jobTaken (i : Nat) : (s.jobTaken j code).jobAt i = s.jobAt i := jobAt_put ..
@[simp] theorem vault_jobTaken : (s.jobTaken j code).vault = s.vault := State.put_vault ..
@[simp] theorem acc_jobTaken : (s.jobTaken j code).acc = s.acc := State.put_acc ..
@[simp] theorem oct_jobTaken (ix sub : Nat) : (s.jobTaken j code).oct ix sub = s.oct ix sub := State.oct_put ..
@[simp] theorem bankLive_jobTaken (h : Nat) : (s.jobTaken j code).bankLive h = s.bankLive h := by
  simp only [State.bankLive, State.bankAt, vault_jobTaken]
@[simp] theorem kekAt_jobTaken (n : Nat) : (s.jobTaken j code).kekAt n = s.kekAt n := kekAt_put ..

end Taken

theorem rowWrite_congr {ix sub : Nat} {v : Val} {act act' : State → State × Status} (h : act s = act' s) :
    rowWrite c ix sub v act s = rowWrite c ix sub v act' s := by
  have hact : objectWrite c ix sub v act s = objectWrite c ix sub v act' s := by
    unfold objectWrite
    split
    · exact h
    · rfl
  simp only [rowWrite, orWait, hact]

/-- For a caller who may write the context, a row of it is a row of a window. -/
theorem rowJob_eq {j code : Nat} {act : State → State × Option Status} (hj : j < 16) (hmay : s.jobMay c j = true) :
    rowJob c j code act s = rowWindowStart c (jobIx j) Sub.job_JOB_OP Sub.job_JOB_STATUS code act s := by
  unfold rowJob
  rw [Nat.mod_eq_of_lt hj]
  exact rowWrite_congr (by simp [hmay])

section Row
variable {j code : Nat} (hj : j < 16) (hmay : s.jobMay c j = true)
  (h : Starts s c (jobIx j) Sub.job_JOB_OP Sub.job_JOB_STATUS code)
include hj hmay h

theorem rowJob_posts {stat : Status} (hact : jobOp j code (s.jobTaken j code) = (u, some stat)) (hdue : u.due = s.due) :
    PostedFrom u c (jobIx j) Sub.job_JOB_OP Sub.job_JOB_STATUS stat (rowJob c j code (jobOp (j % 16) code) s).post := by
  rw [rowJob_eq hj hmay, Nat.mod_eq_of_lt hj]
  exact rowWindowStart_posts h hact hdue

theorem rowJob_runs (hact : jobOp j code (s.jobTaken j code) = (u, none)) (hdue : u.due = s.due) :
    RunningFrom u c (jobIx j) Sub.job_JOB_OP Sub.job_JOB_STATUS (rowJob c j code (jobOp (j % 16) code) s).post := by
  rw [rowJob_eq hj hmay, Nat.mod_eq_of_lt hj]
  exact rowWindowStart_running h hact (congrArg Prod.fst hdue)

end Row

theorem jobAt_congr (h : t.vault = s.vault) (j : Nat) : t.jobAt j = s.jobAt j := by rw [State.jobAt, h, State.jobAt]

@[simp] theorem jobAt_putJob (j : Nat) (x : Job) (s : State) : (s.putJob j x).jobAt j = x := mget_mset_self (α := Job) ..

section Posted
variable {j op st : Nat} {stat : Status}

theorem PostedFrom.jobAt (h : PostedFrom u c (jobIx j) op st stat t) (i : Nat) : t.jobAt i = u.jobAt i := jobAt_congr h.vault i

theorem PostedFrom.jobState (h : PostedFrom u c (jobIx j) op Sub.job_JOB_STATUS stat t) : t.jobState j = u.jobState j :=
  h.ob_ne (by decide) (by decide) (by decide)

theorem RunningFrom.jobAt (h : RunningFrom u c (jobIx j) op st t) (i : Nat) : t.jobAt i = u.jobAt i := by
  obtain ⟨d, a, w, ht⟩ := h.rest
  exact jobAt_congr (by rw [ht]) i

theorem RunningFrom.jobState (h : RunningFrom u c (jobIx j) op Sub.job_JOB_STATUS t) : t.jobState j = u.jobState j := by
  rw [State.jobState, h.ob, State.ob_put (by decide) (by decide), if_neg fun k => absurd k.2 (by decide), State.jobState]

end Posted

/-! ### START, CONTINUE and FINISH (R352, R353) -/

/-- A part begins: the job's own record, with the operation and the addresses that it took (R465). -/
theorem jobBegin_begins (j op : Nat) (x : Job) (s : State) : ∃ y : Job,
    jobBegin j op x s = ((s.putJob j y).put (jobIx j) Sub.job_JOB_STATE 1, none) ∧
      y.op = op ∧ y.mode = x.mode ∧ y.key = x.key ∧ y.iv = x.iv ∧ y.y = x.y :=
  ⟨_, rfl, rfl, rfl, rfl, rfl, rfl⟩

theorem jobStart_begins {j : Nat} (hstate : s.jobState j = 0 ∨ s.jobState j = 3)
    (hkey : s.bankLive (s.ob (jobIx j) Sub.job_JOB_KEY) = true) (hlen : s.jobLenOk j = true) :
    jobStart j s = jobBegin j 1 { mode := s.ob (jobIx j) Sub.job_JOB_MODE, key := s.ob (jobIx j) Sub.job_JOB_KEY
                                  iv := s.oct (jobIx j) Sub.job_JOB_IV } s := by
  have hidle : ¬(s.jobState j ≠ 0 ∧ s.jobState j ≠ 3) := by omega
  simp only [jobStart, hidle, hkey, hlen, Bool.not_true, Bool.false_eq_true, or_self, if_false]

theorem jobContinue_begins {j : Nat} (hstate : s.jobState j = 2) (hlen : s.jobLenOk j = true) :
    jobContinue j s = jobBegin j 2 (s.jobAt j) s := by
  simp [jobContinue, hstate, hlen]

theorem jobFinish_begins {j : Nat} (hstate : s.jobState j = 2) : jobFinish j s = jobBegin j 3 (s.jobAt j) s := by
  simp [jobFinish, hstate]

@[simp] theorem due_putJob (j : Nat) (x : Job) (s : State) : (s.putJob j x).due = s.due := due_congr rfl
@[simp] theorem due_jobTaken (j code : Nat) (s : State) : (s.jobTaken j code).due = s.due := due_put ..

/-- A part that has begun runs on. -/
theorem RunningFrom.begun {j op : Nat} {y : Job}
    (h : RunningFrom ((u.putJob j y).put (jobIx j) Sub.job_JOB_STATE 1) c (jobIx j) op Sub.job_JOB_STATUS t) :
    t.jobState j = 1 ∧ t.jobAt j = y :=
  ⟨h.jobState.trans (State.ob_put_self ..), (h.jobAt j).trans ((jobAt_put ..).trans (jobAt_putJob ..))⟩

/-! ### SAVE, RESTORE and ABORT (R354, R355, R370) -/

/-- A decryption is saved without a token. -/
theorem jobSave_decrypt {j slot : Nat} {x : Job} (hstate : s.jobState j = 2) (hx : s.jobAt j = x) (hmode : x.mode = 2)
    (hslot : s.ob (jobIx j) Sub.job_JOB_SAVE_SLOT = slot) (hkek : (s.kekAt slot).valid = true) :
    jobSave j s = (jobLeave j 0 (s.putO (jobIx j) Sub.job_JOB_SAVE (jobRecord x slot 0 ++
      jobBody (s.kekAt slot).octets x (jobRecord x slot 0))), some .ok) := by
  simp only [jobSave, hstate, hx, hmode, hslot, hkek, Bool.not_true]
  simp only [jobSaved, hx]
  rfl

/-- The job that a record holds (R354). -/
def restoredJob (r p : Bytes) : Job :=
  { mode := fld r 3 1, key := fld r 4 4, iv := sub r 8 12, aDone := fld r 20 8, pDone := fld r 28 8
    y := fld p 16 16, part := sub p 32 (fld p 48 1) }

/-- A record's token is used once (R355). -/
def State.tokenUsed (r : Bytes) (s : State) : State :=
  { s with vault := if fld r 3 1 = 1 then { s.vault with tokens := s.vault.tokens.erase (fld r 40 8) } else s.vault }

@[simp] theorem due_tokenUsed (r : Bytes) (s : State) : (s.tokenUsed r).due = s.due := due_congr rfl

theorem tokenUsed_tokens {r : Bytes} (h : fld r 3 1 = 1) (s : State) :
    (s.tokenUsed r).vault.tokens = s.vault.tokens.erase (fld r 40 8) := by
  rw [State.tokenUsed, if_pos h]

@[simp] theorem tokens_putJob (j : Nat) (x : Job) (s : State) : (s.putJob j x).vault.tokens = s.vault.tokens := rfl

theorem jobRestore_ok {j : Nat} {r p : Bytes} (hstate : s.jobState j = 0) (hr : s.oct (jobIx j) Sub.job_JOB_SAVE = r)
    (hform : recordForm r = true) (hkey : s.bankLive (fld r 4 4) = true) (hkek : (s.kekAt (fld r 36 1)).valid = true)
    (hp : kwpUnwrap (s.kekAt (fld r 36 1)).octets (r.drop 48) = some p) (hlen : p.length = 56)
    (hbind : p.take 16 = (sha384 (r.take 48)).take 16) (htoken : fld r 3 1 = 2 ∨ fld r 40 8 ∈ s.vault.tokens) :
    jobRestore j s = (((s.tokenUsed r).putJob j (restoredJob r p)).put (jobIx j) Sub.job_JOB_STATE 2, .ok) := by
  have hbody : ¬(p.length ≠ 56 ∨ p.take 16 ≠ (sha384 (r.take 48)).take 16) := by simp only [hlen, hbind, ne_eq, not_true, or_self, not_false_iff]
  have hused : ¬(fld r 3 1 = 1 ∧ (!s.vault.tokens.contains (fld r 40 8)) = true) := by
    rintro ⟨h1, h2⟩
    rcases htoken with h | h
    · omega
    · simp [h] at h2
  simp only [jobRestore, hstate, hr, hform, hkey, hkek, hp, if_neg hbody, if_neg hused, Bool.not_true, Bool.false_eq_true, or_self,
    if_false, ne_eq, not_true]
  rfl

theorem jobRestore_notIdle {j : Nat} (hstate : s.jobState j ≠ 0) : jobRestore j s = (s, .notIdle) := by
  simp [jobRestore, hstate]

theorem jobOp_restore {j : Nat} {st : Status} (h : jobRestore j s = (u, st)) : jobOp j 5 s = (u, some st) := by
  rw [jobOp, h]

/-- A context that an operation has left idles. -/
theorem PostedFrom.left {j op : Nat} {stat : Status} (h : PostedFrom (jobLeave j 0 u) c (jobIx j) op Sub.job_JOB_STATUS stat t) :
    t.jobState j = 0 ∧ t.jobAt j = {} :=
  ⟨h.jobState.trans (State.ob_put_self ..), (h.jobAt j).trans ((jobAt_put ..).trans (jobAt_putJob ..))⟩

/-- Settles O26. How a context stands after an operation is the model's reading where R352 to R355 and R370 do not say (log 22). -/
theorem jobContextsMove : Obligations.JobContextsMove := by
  intro s c j hj hmay
  refine ⟨fun h hstate hkey hlen => ?starts, fun h hstate hlen => ?goesOn, fun h hstate => ?finishes,
    fun x slot h hstate hx hmode hslot hkek => ?saved,
    fun r p h hstate hr hform hkey hkek hp hlen hbind htoken => ?restored, fun r h hstate hr => ?notIdle, fun h => ?aborted⟩
  case starts =>
    have hob {sub : Nat} (hsub : sub < 256) (hne : sub ≠ Sub.job_JOB_OP) := ob_jobTaken j 1 s (ix := jobIx j) hsub hne
    have hstart := jobStart_begins (s := s.jobTaken j 1) (j := j) (by simpa using hstate)
      (by rwa [bankLive_jobTaken, hob (by decide) (by decide)]) (by simpa using hlen)
    obtain ⟨y, hbegin, hop, hmode, hkey', hiv, -⟩ := jobBegin_begins j 1 _ (s.jobTaken j 1)
    have hrun := rowJob_runs hj hmay h (hstart.trans hbegin) (by simp)
    obtain ⟨hrunning, hjob⟩ := hrun.begun
    refine ⟨_, rfl, hrunning, by rw [hjob, hop], ?_, ?_, ?_, hrun.ends⟩
    · rw [hjob, hmode]
      exact hob (by decide) (by decide)
    · rw [hjob, hkey']
      exact hob (by decide) (by decide)
    · rw [hjob, hiv]
      exact oct_jobTaken ..
  case goesOn =>
    obtain ⟨y, hbegin, hop, -, -, -, hy⟩ := jobBegin_begins j 2 ((s.jobTaken j 2).jobAt j) (s.jobTaken j 2)
    have hrun := rowJob_runs hj hmay h ((jobContinue_begins (by simpa using hstate) (by simpa using hlen)).trans hbegin) (by simp)
    obtain ⟨hrunning, hjob⟩ := hrun.begun
    exact ⟨_, rfl, hrunning, by rw [hjob, hop], by rw [hjob, hy, jobAt_jobTaken], hrun.ends⟩
  case finishes =>
    obtain ⟨y, hbegin, hop, -, -, -, hy⟩ := jobBegin_begins j 3 ((s.jobTaken j 3).jobAt j) (s.jobTaken j 3)
    have hrun := rowJob_runs hj hmay h ((jobFinish_begins (by simpa using hstate)).trans hbegin) (by simp)
    obtain ⟨hrunning, hjob⟩ := hrun.begun
    exact ⟨_, rfl, hrunning, by rw [hjob, hop], by rw [hjob, hy, jobAt_jobTaken], hrun.ends⟩
  case saved =>
    have hsave := jobSave_decrypt (s := s.jobTaken j 4) (by simpa using hstate) (by simpa using hx) hmode
      ((ob_jobTaken j 4 s (by decide) (by decide)).trans hslot) (by simpa using hkek)
    have hpost := rowJob_posts hj hmay h hsave (by simp [jobLeave])
    obtain ⟨hidle, hgone⟩ := hpost.left
    refine ⟨_, rfl, ?_, hidle, hgone, hpost.ends⟩
    rw [hpost.oct, jobLeave, State.oct_put]
    refine (State.oct_putO_self ..).trans ?_
    rw [kekAt_jobTaken]
  case restored =>
    have hrestore := jobRestore_ok (s := s.jobTaken j 5) (j := j) (by simpa using hstate) (by simpa using hr) hform (by simpa using hkey)
      (by simpa using hkek) (by simpa using hp) hlen hbind (by simpa using htoken)
    have hpost := rowJob_posts hj hmay h (jobOp_restore hrestore) (by simp)
    have hjob : (rowJob c j 5 (jobOp (j % 16) 5) s).post.jobAt j = restoredJob r p :=
      (hpost.jobAt j).trans ((jobAt_put ..).trans (jobAt_putJob ..))
    refine ⟨_, rfl, hpost.jobState.trans (State.ob_put_self ..), by rw [hjob]; rfl, by rw [hjob]; rfl, by rw [hjob]; rfl,
      by rw [hjob]; rfl, by rw [hjob]; rfl, fun h1 => ?_, hpost.ends⟩
    rw [hpost.vault, State.put_vault, tokens_putJob, tokenUsed_tokens h1, vault_jobTaken]
  case notIdle =>
    have hpost := rowJob_posts hj hmay h (jobOp_restore (jobRestore_notIdle (s := s.jobTaken j 5) (by simpa using hstate))) (by simp)
    exact ⟨_, rfl, by simp [hpost.vault], hpost.ends⟩
  case aborted =>
    have hpost := rowJob_posts (stat := .ok) (u := jobLeave j 0 (s.jobTaken j 6)) hj hmay h rfl (by simp [jobLeave])
    obtain ⟨hidle, hgone⟩ := hpost.left
    exact ⟨_, rfl, hidle, hgone, hpost.ends⟩

/-! ### Octets beyond DDR go over PCIe (R352, log 22) -/

theorem busStop_none (a : Nat) (write : Bool) (s : State) : busStop a 0 write s = none := rfl

section Beyond
variable {a : Nat} (h : s.ddrBytes ≤ a)
include h

theorem ddrPart_beyond (len : Nat) : s.ddrPart a len = 0 := by
  rw [State.ddrPart]
  omega

theorem busRead_beyond (len : Nat) (ext : Bytes) : busRead a len ext s = .ok (padTo len ext) := by
  simp [busRead, ddrPart_beyond h, busStop_none, linesOf, sub]

theorem busWrite_beyond (j : Nat) {b : Bytes} (hb : b ≠ []) : busWrite j a b s = .ok (s.emit (.jobOut j a b)) := by
  have hlen : 0 < b.length := List.length_pos_iff.mpr hb
  simp [busWrite, ddrPart_beyond h, busStop_none, linesOf, hlen]

end Beyond

/-! ### An output is not empty -/

theorem be_ne_nil {k : Nat} (h : 0 < k) (n : Nat) : be k n ≠ [] := List.ne_nil_of_length_pos (by rwa [be_length])

theorem aesEnc_ne_nil {key blk : Bytes} (h : blk ≠ []) : aesEnc key blk ≠ [] := by
  unfold aesEnc
  split
  · exact h
  · exact be_ne_nil (by decide) _

theorem xorB_ne_nil {a b : Bytes} (ha : a ≠ []) (hb : b ≠ []) : xorB a b ≠ [] := by
  simp [xorB, ha, hb]

theorem gcmCtr_ne_nil (iv : Bytes) (i : Nat) : gcmCtr iv i ≠ [] := List.append_ne_nil_of_right_ne_nil _ (be_ne_nil (by decide) _)

theorem keystream_ne_nil (key iv : Bytes) (from_ : Nat) {n : Nat} (h : 0 < n) : (keystream key iv from_ n).flatten ≠ [] := by
  intro hnil
  rw [List.flatten_eq_nil_iff] at hnil
  exact aesEnc_ne_nil (gcmCtr_ne_nil iv (from_ + 1 + 0)) (hnil _ (List.mem_map_of_mem (List.mem_range.mpr h)))

/-- A part of a GCM job gives an octet for each that it takes. -/
theorem gcmPart_ne_nil {key : Bytes} {x : Job} {aad d : Bytes} (h : d ≠ []) : (gcmPart key x aad d).1 ≠ [] :=
  xorB_ne_nil h (keystream_ne_nil _ _ _ (by have := List.length_pos_iff.mpr h; omega))

theorem kwWrap_ne_nil (key p : Bytes) : kwWrap key p ≠ [] := by
  have hstep : ∀ (l : List Nat) (n : Nat) (r : Bytes × List Bytes), r.1 ≠ [] → (l.foldl (kwStep key n) r).1 ≠ [] := by
    intro l n
    induction l with
    | nil => exact fun _ h => h
    | cons t l ih =>
      intro r h
      refine ih _ (xorB_ne_nil ?_ (be_ne_nil (by decide) _))
      simp [aesEnc_ne_nil, h]
  unfold kwWrap wrapW
  dsimp only
  exact List.append_ne_nil_of_left_ne_nil (hstep _ _ _ (by simp)) _

/-! ### The DMA of a part completes (R352, R353, R370) -/

section Done
variable {j : Nat} {x : Job} {key aad data d : Bytes} (hx : s.jobAt j = x) (hkey : s.jobKey x = key)
  (hsrc : s.ddrBytes ≤ x.src) (hdst : s.ddrBytes ≤ x.dst) (hd : padTo x.len data = d)

include hx hsrc hd in
/-- A later part of a KW or KWP job. -/
theorem jobDmaDone_wrap (hop : 2 ≤ x.op) (hmode : 2 < x.mode) : jobDmaDone j aad data s = wrapMoved j x d s := by
  have hop0 : x.op ≠ 0 := by omega
  have hop1 : ¬(x.op = 1 ∧ x.mode ≤ 2) := by omega
  simp only [jobDmaDone, hx, if_neg hop0, if_neg hop1, busRead_beyond hsrc, hd, if_neg (Nat.not_le.mpr hmode)]

include hx hsrc hd in
/-- A later part of a GCM job. -/
theorem jobDmaDone_gcm (hop : 2 ≤ x.op) (hmode : x.mode ≤ 2) : jobDmaDone j aad data s = gcmMoved j x [] d s := by
  have hop0 : x.op ≠ 0 := by omega
  have hop1 : ¬(x.op = 1 ∧ x.mode ≤ 2) := by omega
  simp only [jobDmaDone, hx, if_neg hop0, if_neg hop1, busRead_beyond hsrc, hd, if_pos hmode]

include hdst in
theorem wrapMoved_last (hop : x.op = 3) {out : Bytes} (hout : wrapJob (s.jobKey x) x.mode (x.part ++ d) = .ok out) (hne : out ≠ []) :
    wrapMoved j x d s = jobDone j (s.emit (.jobOut j x.dst out)) := by
  simp only [wrapMoved, hop, ne_eq, not_true, if_false, hout, busWrite_beyond hdst j hne]

include hkey hdst in
/-- The last part of an encryption gives its octets and its tag. -/
theorem gcmMoved_last (hop : x.op = 3) (hmode : x.mode = 1) (hne : d ≠ []) : gcmMoved j x [] d s =
    jobDone j ((s.emit (.jobOut j x.dst (gcmPart key x [] d).1)).putO (jobIx j) Sub.job_JOB_TAG
      (gcmFinal key (gcmPart key x [] d).2)) := by
  simp only [gcmMoved, hkey, busWrite_beyond hdst j (gcmPart_ne_nil hne), hop, hmode, ne_eq, not_true, if_false, if_true]

end Done

@[simp] theorem jobEnd_jobState (j : Nat) (st : Status) (s : State) : (jobEnd j st s).jobState j = s.jobState j :=
  (State.ob_put (by decide) (by decide)).trans (if_neg fun k => absurd k.2 (by decide))

theorem jobEnd_status (j : Nat) (st : Status) (s : State) : (jobEnd j st s).ob (jobIx j) Sub.job_JOB_STATUS = st.code :=
  State.ob_put_self ..

@[simp] theorem jobDone_jobState (j : Nat) (s : State) : (jobDone j s).jobState j = 3 :=
  (jobEnd_jobState ..).trans (State.ob_put_self ..)
@[simp] theorem jobDone_wire (j : Nat) (s : State) : (jobDone j s).wire = s.wire := rfl
@[simp] theorem oct_jobDone (j ix sub : Nat) (s : State) : (jobDone j s).oct ix sub = s.oct ix sub := rfl

/-- Settles O27. That an address at or beyond `DDR_SIZE` lies on PCIe, and that its octets come with the DMA's completion, is the
model's reading (log 22). -/
theorem jobDataMoves : Obligations.JobDataMoves := by
  intro s j x key aad data d hj hx hkey hsrc hdst hd
  have hexec : exec (.jobDmaDone j aad data) s = .next (jobDmaDone j aad data s) := by
    show execJobDmaDone j aad data s = _
    rw [execJobDmaDone, Nat.mod_eq_of_lt hj]
  refine ⟨fun hmode hop => ?paused, fun hmode hop hlen => ?encrypted, fun hmode hop hlen hmin => ?wrapped⟩
  case paused =>
    have hpause : wrapMoved j x d s = jobPause j { x with part := x.part ++ d } s := if_pos (by omega)
    rw [jobDmaDone_wrap hx hsrc hd.symm (by omega) (by omega), hpause] at hexec
    refine ⟨_, hexec, (jobEnd_jobState ..).trans (State.ob_put_self ..), ?_, rfl, jobEnd_status ..⟩
    have hjob : (jobPause j { x with part := x.part ++ d } s).jobAt j = { x with part := x.part ++ d, op := 0 } := jobAt_putJob ..
    rw [hjob]
  case encrypted =>
    have hne : d ≠ [] := List.ne_nil_of_length_pos (by rwa [hd, padTo_length])
    rw [jobDmaDone_gcm hx hsrc hd.symm (by omega) (by omega), gcmMoved_last hkey hdst hop hmode hne] at hexec
    exact ⟨_, hexec, rfl, (oct_jobDone ..).trans (State.oct_putO_self ..), jobDone_jobState .., jobEnd_status ..⟩
  case wrapped =>
    have hout : wrapJob (s.jobKey x) x.mode (x.part ++ d) = .ok (kwWrap key (x.part ++ d)) := by
      rw [wrapJob, if_pos hmode, if_pos ⟨hlen, hmin⟩, hkey]
    rw [jobDmaDone_wrap hx hsrc hd.symm (by omega) (by omega), wrapMoved_last hdst hop hout (kwWrap_ne_nil key (x.part ++ d))] at hexec
    exact ⟨_, hexec, by simp, jobDone_jobState .., jobEnd_status ..⟩

end Sys2Proof.Machine
end

section
/-! What a posted operation left of the units that no chapter above reads of it, and what an alarm leaves alone. -/

namespace Sys2Proof.Machine

variable {s t u : State} {c : Caller}

/-! ### An operation, posted (R465) -/

section Posted
variable {ix op st : Nat} {stat : Status} (h : PostedFrom u c ix op st stat t)
include h

theorem PostedFrom.ke : t.ke = u.ke := by
  obtain ⟨d, a, ht⟩ := h.rest
  rw [ht]
theorem PostedFrom.guard : t.guard = u.guard := by
  obtain ⟨d, a, ht⟩ := h.rest
  rw [ht]
theorem PostedFrom.tel : t.tel = u.tel := by
  obtain ⟨d, a, ht⟩ := h.rest
  rw [ht]
theorem PostedFrom.rst : t.rst = u.rst := by
  obtain ⟨d, a, ht⟩ := h.rest
  rw [ht]
theorem PostedFrom.pwr : t.pwr = u.pwr := by
  obtain ⟨d, a, ht⟩ := h.rest
  rw [ht]

end Posted

/-- The access structures after an operation that completes in its step: what the arbiter notes is all that is new (R457). -/
theorem holdBack_acc {s₀ : State} {ix op st code : Nat} {stat : Status} (h : Starts s c ix op st code) (hdue : u.due = s.due)
    (l : List Nat) : ∃ l', (((s₀.holdBack ix st stat u).noteCycle c l).complete c ix op .ok).post.acc = { u.acc with lastSet := l' } := by
  obtain ⟨-, hbusy, -, hposts⟩ := h
  obtain ⟨hp, hrun⟩ := Prod.ext_iff.mp hdue
  have hp : u.acc.posts = [] := hp.trans hposts
  have hr : u.winBusy ix st = false := (congrArg (List.contains · (okey ix st)) hrun).trans hbusy
  obtain ⟨d, hpost, -⟩ := post_holdBack (s := s₀) (c := c) (op := op) (stat := stat) hp hr
  rw [complete_noteCycle, post_noteCycle, hpost]
  cases c
  case session k => exact ⟨_, rfl⟩
  case firmware => exact ⟨u.acc.lastSet, rfl⟩

section Row
variable {ix op st code : Nat} {stat : Status} {act : State → State × Status} (h : Starts s c ix op st code)
  (hact : act (s.put ix op code) = (u, stat))
include h hact

theorem rowWindow_posts (hdue : u.due = s.due) : PostedFrom u c ix op st stat (rowWindow c ix op st code act s).post := by
  rw [rowWindow_ok h.1.1 h.1.2 h.2.1 h.2.2.1, hact]
  exact holdBack_posts h hdue _

/-- An operation that leaves the sessions and the log alone. -/
theorem rowWindow_access (hacc : u.acc = s.acc) :
    (rowWindow c ix op st code act s).post.acc = s.accessOf (rowWindow c ix op st code act s).post := by
  obtain ⟨l', hl⟩ := holdBack_acc (s₀ := s.put ix op code) (stat := stat) h (due_congr hacc) [okey ix op]
  rw [rowWindow_ok h.1.1 h.1.2 h.2.1 h.2.2.1, hact, State.accessOf, hl, hacc]

end Row

/-- An event is of no window (R465, R469). -/
@[simp] theorem due_raise (code slice : Nat) (items : Bytes) (s : State) : (s.raise code slice items).due = s.due :=
  due_of_tables (raise_tables ..)

/-! ### An alarm (R546, R554) -/

section Alarm
variable (src detail : Nat) (s : State)

@[simp] theorem alarm_guard : (s.alarm src detail).guard = s.guard := by
  obtain ⟨a, p, d, h⟩ := alarm_eq src detail s
  rw [h]
@[simp] theorem alarm_wire : (s.alarm src detail).wire = s.wire := by
  obtain ⟨a, p, d, h⟩ := alarm_eq src detail s
  rw [h]
@[simp] theorem alarm_asc : (s.alarm src detail).asc = s.asc := by
  obtain ⟨a, p, d, h⟩ := alarm_eq src detail s
  rw [h]
@[simp] theorem alarm_tm : (s.alarm src detail).tm = s.tm := by
  obtain ⟨a, p, d, h⟩ := alarm_eq src detail s
  rw [h]
@[simp] theorem alarm_fuse : (s.alarm src detail).fuse = s.fuse := by
  obtain ⟨a, p, d, h⟩ := alarm_eq src detail s
  rw [h]
@[simp] theorem alarm_rst : (s.alarm src detail).rst = s.rst := by
  obtain ⟨a, p, d, h⟩ := alarm_eq src detail s
  rw [h]
@[simp] theorem alarm_ke : (s.alarm src detail).ke = s.ke := by
  obtain ⟨a, p, d, h⟩ := alarm_eq src detail s
  rw [h]
@[simp] theorem alarm_acc : (s.alarm src detail).acc = s.acc := by
  obtain ⟨a, p, d, h⟩ := alarm_eq src detail s
  rw [h]
@[simp] theorem alarm_time : (s.alarm src detail).time = s.time := by
  obtain ⟨a, p, d, h⟩ := alarm_eq src detail s
  rw [h]

end Alarm

/-- A source that is no monitor is latched as it is raised (R554). -/
theorem alarm_latches {src : Nat} (hw : s.watched src = true) (hm : monitored src = false) (detail : Nat) :
    src ∈ (s.alarm src detail).alm.latched := by
  simp [State.alarm, hw, hm]

/-- A monitor's source is active as it is raised (R554). -/
theorem alarm_activates {src : Nat} (hw : s.watched src = true) (hm : monitored src = true) (detail : Nat) :
    src ∈ (s.alarm src detail).alm.active := by
  by_cases hin : src ∈ s.alm.active <;> simp [State.alarm, hw, hm, hin]

theorem watched_congr (hp : t.pwr = s.pwr) (hf : t.fuse = s.fuse)
    (hob : t.ob 0x0400 Sub.power_PWR_STATE = s.ob 0x0400 Sub.power_PWR_STATE) (src : Nat) : t.watched src = s.watched src := by
  have hstate : t.watchState = s.watchState := by rw [State.watchState, hp, hob, State.watchState]
  unfold State.watched
  rw [hstate, hf]

end Sys2Proof.Machine
end

section
/-! A write that is taken: what it leaves of the machine its row made (R457, R458). -/

namespace Sys2Proof.Machine

variable {s t u : State} {c : Caller}

/-- `t` is `u` with the completion of a write reported and noted by the arbiter. -/
structure WrittenFrom (u : State) (c : Caller) (ix sub : Nat) (st : Status) (t : State) : Prop where
  ob : ∀ ix' sub', t.ob ix' sub' = u.ob ix' sub'
  reports : Reports t c ix sub st
  rest : ∃ a, t = { u with acc := a, wire := u.wire ++ [.done c.entry ix sub st] }

theorem written_complete (u : State) (c : Caller) (ix sub : Nat) (st : Status) (l : List Nat) :
    WrittenFrom u c ix sub st ((u.noteCycle c l).complete c ix sub st) where
  ob _ _ := by rw [State.ob_complete, State.ob_noteCycle]
  reports := reports_complete ..
  rest := by
    obtain ⟨a, ha⟩ := noteCycle_eq c l u
    rw [ha]
    exact ⟨_, rfl⟩

/-- The row of a write that its chapter takes. -/
theorem rowWrite_written {ix sub n : Nat} {act : State → State × Status} (h : Accepted s c ix sub n) (ha : act s = (u, .ok)) :
    WrittenFrom u c ix sub .ok (rowWrite c ix sub (.num n) act s) := by
  rw [rowWrite_takes h ha]
  exact written_complete ..

section Written
variable {ix sub : Nat} {st : Status} (h : WrittenFrom u c ix sub st t)
include h

theorem WrittenFrom.ke : t.ke = u.ke := by
  obtain ⟨a, ht⟩ := h.rest
  rw [ht]
theorem WrittenFrom.alm : t.alm = u.alm := by
  obtain ⟨a, ht⟩ := h.rest
  rw [ht]
theorem WrittenFrom.rst : t.rst = u.rst := by
  obtain ⟨a, ht⟩ := h.rest
  rw [ht]
theorem WrittenFrom.fuse : t.fuse = u.fuse := by
  obtain ⟨a, ht⟩ := h.rest
  rw [ht]
theorem WrittenFrom.pwr : t.pwr = u.pwr := by
  obtain ⟨a, ht⟩ := h.rest
  rw [ht]
theorem WrittenFrom.pair : t.pair = u.pair := by
  obtain ⟨a, ht⟩ := h.rest
  rw [ht]
theorem WrittenFrom.wire : t.wire = u.wire ++ [.done c.entry ix sub st] := by
  obtain ⟨a, ht⟩ := h.rest
  rw [ht]

end Written

end Sys2Proof.Machine
end

section
/-! The memory guard (chapter 15): accesses to DDR (R515, R521, R522, R528), the Stagehand and the operations of a range (R524 to R526,
R529, R532, R533, R539), and the patrol scrubber (R512). -/

namespace Sys2Proof.Machine

variable {s t u : State} {c : Caller}

/-! ### Ranges -/

section Ranges
variable (r : Nat) (s : State)

@[simp] theorem rangeAt_putRange (g : GRange) : (s.putRange r g).rangeAt r = g := mget_mset_self ..
@[simp] theorem rangeAt_raise (code slice : Nat) (items : Bytes) : (s.raise code slice items).rangeAt r = s.rangeAt r := by
  rw [State.rangeAt, State.raise_guard, State.rangeAt]
@[simp] theorem rangeAt_put (ix sub v : Nat) : (s.put ix sub v).rangeAt r = s.rangeAt r := rfl
@[simp] theorem rangeAt_addOb (ix sub w n : Nat) : (s.addOb ix sub w n).rangeAt r = s.rangeAt r := rfl
@[simp] theorem rangeAt_mark (k : Nat) : (s.mark k).rangeAt r = s.rangeAt r := rfl
@[simp] theorem rangeAt_putEnt (e : Entropy) : (s.putEnt e).rangeAt r = s.rangeAt r := rfl
@[simp] theorem rangeAt_cacheDrop (i : Nat) : (s.cacheDrop i).rangeAt r = s.rangeAt r := rfl
@[simp] theorem ob_putRange (i : Nat) (g : GRange) (ix sub : Nat) : (s.putRange i g).ob ix sub = s.ob ix sub := rfl

end Ranges

theorem rangeAt_congr (h : t.guard.ranges = s.guard.ranges) (r : Nat) : t.rangeAt r = s.rangeAt r := by
  rw [State.rangeAt, h, State.rangeAt]

/-! ### What an access ends in (R515, R521, R522, R528) -/

/-- What came to the contents of the DDR is held by the guard alone. -/
theorem ddrDisturb_eq (changed : List (Nat × Bytes)) (bad : List Nat) (s : State) :
    ∃ g, ddrDisturb changed bad s = { s with guard := g } := by
  have hfold : ∃ g, changed.foldl (fun t x => t.putLine x.1 x.2) s = { s with guard := g } :=
    List.foldlRecOn (motive := fun t => ∃ g, t = { s with guard := g }) _ _ ⟨s.guard, rfl⟩
      fun _ ht _ _ => by obtain ⟨g, rfl⟩ := ht; exact ⟨_, rfl⟩
  obtain ⟨g, hg⟩ := hfold
  exact ⟨_, by rw [ddrDisturb, hg]⟩

section Access
variable {x : DdrAccess} {changed : List (Nat × Bytes)} {bad : List Nat}
  (hu : (ddrDisturb changed bad s).addOb ddrIx Sub.ddr_DDR_CE 64 x.fixed = u)
include hu

theorem disturbed_wire : u.wire = s.wire := by
  obtain ⟨g, hg⟩ := ddrDisturb_eq changed bad s
  rw [← hu, hg]
  rfl

/-- The objects of the guard count no corrected burst. -/
theorem disturbed_ob {sub : Nat} (h : sub < 256) : u.ob mgIx sub = s.ob mgIx sub := by
  obtain ⟨g, hg⟩ := ddrDisturb_eq changed bad s
  rw [← hu, hg]
  exact State.ob_addOb_ne fun k => by simp only [okey, mgIx, ddrIx, Sub.ddr_DDR_CE] at k; omega

theorem mgAccess_blocked (h : u.ddrPermits x.master (u.ddrPlace x.addr) x.data.isSome = false) :
    mgAccess x changed bad s = busError x (blocked x.master.code x.addr u) := by
  simp only [mgAccess, hu, h, Bool.not_false, if_true]

theorem mgAccess_free (hp : u.ddrPlace x.addr = .free) (h : u.ddrPermits x.master .free x.data.isSome = true) :
    mgAccess x changed bad s = plainAccess x u := by
  simp only [mgAccess, hu, hp, h, Bool.not_true, Bool.false_eq_true, if_false]

/-- The control cores may access a protected range (R521). -/
theorem mgAccess_data {r k : Nat} (hm : x.master = .cores) (hp : u.ddrPlace x.addr = .data r k) :
    mgAccess x changed bad s = guardedAccess x r k u := by
  simp only [mgAccess, hu, hp, hm, State.ddrPermits, Bool.not_true, Bool.false_eq_true, if_false]

end Access

theorem plainAccess_read {x : DdrAccess} (hb : s.burstBad x.addr = false) (hd : x.data = none) :
    plainAccess x s = busDone x (s.memLine x.addr) s := by
  simp [plainAccess, hb, hd]

theorem plainAccess_write {x : DdrAccess} {d : Bytes} (hb : s.burstBad x.addr = false) (hd : x.data = some d) :
    plainAccess x s = busDone x [] (s.putLine x.addr (patch (s.memLine x.addr) (x.addr % 64) d)) := by
  simp [plainAccess, hb, hd]

theorem memLine_putLine (a b : Nat) (l : Bytes) (s : State) :
    (s.putLine a l).memLine b = if b / 64 = a / 64 then padTo 64 l else s.memLine b := mget_mset ..

theorem guardedAccess_lost {x : DdrAccess} {r k : Nat} (h : (s.rangeAt r).lostAt (k / 64) = true) :
    guardedAccess x r k s = lostRow x s := if_pos h

/-- A counter line in the cache is taken from there (R520). -/
theorem fetchNode_cached {r level i : Nat} {c : Bytes} (h : s.cacheGet r level i = some c) (g : GRange) (up : Nat) :
    fetchNode r g up level i s = .ok (c, s) := by
  rw [fetchNode_eq, h]

/-- A range in service whose EPOCH is below the threshold, or one that is not in service, asks for no re-key (R524). -/
theorem epochTest_still {r : Nat}
    (h : (s.rangeAt r).st ≠ 2 ∨ (s.rangeAt r).epoch < s.ob mgIx Sub.guard_EPOCH_REKEY_AT) : epochTest r s = s := by
  have hno : ¬((s.rangeAt r).st = 2 ∧ s.ob mgIx Sub.guard_EPOCH_REKEY_AT ≤ (s.rangeAt r).epoch) := by omega
  exact if_neg fun k => hno ⟨k.1, k.2.1⟩

/-- A read of a line whose counter line is cached is counted as a hit and ends as its line does. -/
theorem guardedAccess_hit {x : DdrAccess} {r k : Nat} {ctr : Bytes} (hd : x.data = none)
    (hlost : (s.rangeAt r).lostAt (k / 64) = false) (hc : s.cacheGet r 0 (k / 64) = some ctr)
    (hline : lineAccess x r k ctr (s.addOb mgIx Sub.guard_MG_CTR_HITS 64 1) = .ok u) : guardedAccess x r k s = epochTest r u := by
  simp only [guardedAccess, hlost, hd, hc, State.counterLine, fetchNode_cached hc, hline, Option.isNone_none, Option.isSome_some,
    Bool.and_self, Bool.false_eq_true, if_true, if_false]

theorem checkLine_addOb (ix sub w n r : Nat) (keys : Nat × Nat) (k : Nat) (ctr : Bytes) (s : State) :
    (s.addOb ix sub w n).checkLine r keys k ctr = s.checkLine r keys k ctr := rfl

section Line
variable {x : DdrAccess} {r k : Nat} {ctr p : Bytes} (hd : x.data = none)
include hd

theorem lineAccess_good (hc : s.checkLine r ((s.rangeAt r).keysFor (k / 64)) k ctr = (p, 0)) :
    lineAccess x r k ctr s = .ok (busDone x p (s.addOb mgIx Sub.guard_MG_READ_MISSES 64 1)) := by
  simp [lineAccess, hc, hd]

theorem lineAccess_failed (hc : s.checkLine r ((s.rangeAt r).keysFor (k / 64)) k ctr = (p, 2)) :
    lineAccess x r k ctr s =
      .ok (busError x (macFailed r x.addr (poisonLine r ((s.rangeAt r).keysFor (k / 64)) k ctr s))) := by
  simp [lineAccess, hc, hd]

end Line

/-- A line is stored in the DDR's contents alone. -/
theorem storeLine_eq (r : Nat) (keys : Nat × Nat) (k : Nat) (ctr p : Bytes) (poisoned : Bool) (s : State) :
    ∃ m b, storeLine r keys k ctr p poisoned s = { s with guard := { s.guard with mem := m, bad := b } } := ⟨_, _, rfl⟩

section Poisoned
variable (r : Nat) (keys : Nat × Nat) (k : Nat) (ctr : Bytes) (s : State)

theorem poisonLine_ranges : (poisonLine r keys k ctr s).guard.ranges = s.guard.ranges := by
  obtain ⟨m, b, h⟩ := storeLine_eq r keys k ctr (s.checkLine r keys k ctr).1 true s
  rw [poisonLine, h]
theorem poisonLine_wire : (poisonLine r keys k ctr s).wire = s.wire := by
  obtain ⟨m, b, h⟩ := storeLine_eq r keys k ctr (s.checkLine r keys k ctr).1 true s
  rw [poisonLine, h]
theorem poisonLine_ob (ix sub : Nat) : (poisonLine r keys k ctr s).ob ix sub = s.ob ix sub := by
  obtain ⟨m, b, h⟩ := storeLine_eq r keys k ctr (s.checkLine r keys k ctr).1 true s
  rw [poisonLine, h, State.ob, State.ob]
theorem poisonLine_watched (src : Nat) : (poisonLine r keys k ctr s).watched src = s.watched src := by
  obtain ⟨m, b, h⟩ := storeLine_eq r keys k ctr (s.checkLine r keys k ctr).1 true s
  refine watched_congr ?_ ?_ ?_ src
  all_goals rw [poisonLine, h]
  rfl

end Poisoned

section Failed
variable (r a : Nat) (s : State)

@[simp] theorem macFailed_guard : (macFailed r a s).guard = s.guard := by simp [macFailed]
@[simp] theorem macFailed_wire : (macFailed r a s).wire = s.wire := by simp [macFailed]

theorem macFailed_ob {ix sub : Nat} (h : sub < 256) (hev : ix ≠ 0x0300) (hsrc : ix ≠ 0x4D38) :
    (macFailed r a s).ob ix sub = (s.addOb mgIx Sub.guard_MG_INTEGRITY 32 1).ob ix sub := by
  rw [macFailed, alarm_ob h hsrc, State.ob_raise h hev]

theorem macFailed_latches (hw : s.watched 0x38 = true) : 0x38 ∈ (macFailed r a s).alm.latched := by
  refine alarm_latches ?_ (by decide) 0
  rw [watched_congr (s := s) (by simp) (by simp) ?_, hw]
  rw [State.ob_raise (by decide) (by decide), State.ob_addOb_ne (by decide)]

end Failed

/-- Settles O41. -/
theorem memoryAccessesEnd : Obligations.MemoryAccessesEnd := by
  intro s u x changed bad hu
  refine ⟨fun hno => ?blocked, fun hperm hplace hgood hd => ?read, fun d hperm hplace hgood hd => ?written,
    fun r k hm hplace hlost => ?lost, fun r k ctr p st hm hd hplace hlost hcache hcheck hepoch => ⟨fun hst => ?good,
      fun hst hw => ?failed⟩⟩
  case blocked =>
    refine ⟨_, congrArg Host.Outcome.next (mgAccess_blocked hu hno), ?_, ?_, ?_⟩
    · simp [busError, blocked, disturbed_wire hu]
    · simp [busError, blocked]
    · rw [busError, State.ob_emit, blocked, State.ob_raise (by decide) (by decide), State.ob_addOb_self, disturbed_ob hu (by decide)]
  case read =>
    refine ⟨_, congrArg Host.Outcome.next ((mgAccess_free hu hplace hperm).trans (plainAccess_read hgood hd)), ?_, rfl, rfl⟩
    simp [busDone, disturbed_wire hu]
  case written =>
    refine ⟨_, congrArg Host.Outcome.next ((mgAccess_free hu hplace hperm).trans (plainAccess_write hgood hd)), ?_,
      (memLine_putLine ..).trans (if_pos rfl), fun a ha => (memLine_putLine ..).trans (if_neg ha), rfl, rfl⟩
    rw [busDone, State.emit_wire, ← disturbed_wire hu]
    rfl
  case lost =>
    refine ⟨_, congrArg Host.Outcome.next ((mgAccess_data hu hm hplace).trans (guardedAccess_lost hlost)), ?_, rfl, ?_⟩
    · simp [lostRow, busError, disturbed_wire hu, hm, Master.code]
    · rw [lostRow, busError, State.ob_emit, State.ob_addOb_self, disturbed_ob hu (by decide)]
  case good =>
    subst hst
    have haccess := (mgAccess_data hu hm hplace).trans
      (guardedAccess_hit hd hlost hcache (lineAccess_good hd ((checkLine_addOb ..).trans hcheck)))
    rw [epochTest_still] at haccess
    · refine ⟨_, congrArg Host.Outcome.next haccess, ?_, rfl, ?_, ?_⟩
      · simp [busDone, disturbed_wire hu, hm, Master.code]
      · rw [busDone, State.ob_emit, State.ob_addOb_ne (by decide), State.ob_addOb_self, disturbed_ob hu (by decide)]
      · rw [busDone, State.ob_emit, State.ob_addOb_self, State.ob_addOb_ne (by decide), disturbed_ob hu (by decide)]
    · refine hepoch.imp id fun h => ?_
      rw [busDone, State.ob_emit, State.ob_addOb_ne (by decide), State.ob_addOb_ne (by decide), disturbed_ob hu (by decide)]
      exact h
  case failed =>
    subst hst
    have haccess := (mgAccess_data hu hm hplace).trans
      (guardedAccess_hit hd hlost hcache (lineAccess_failed hd ((checkLine_addOb ..).trans hcheck)))
    generalize hv : poisonLine r _ k ctr (u.addOb mgIx Sub.guard_MG_CTR_HITS 64 1) = v at haccess
    have hob : ∀ sub < 256, sub ≠ Sub.guard_MG_CTR_HITS → v.ob mgIx sub = s.ob mgIx sub := by
      intro sub hsub hne
      rw [← disturbed_ob hu hsub, ← hv, poisonLine_ob]
      exact State.ob_addOb_ne fun hk => hne (by simpa [okey] using hk)
    have hguard : v.guard.ranges = u.guard.ranges := by rw [← hv, poisonLine_ranges, State.addOb_guard]
    have hvw : v.watched 0x38 = true := by
      rw [← hw, ← hv, poisonLine_watched]
      refine watched_congr (s := u) (t := u.addOb mgIx Sub.guard_MG_CTR_HITS 64 1) rfl rfl ?_ _
      exact State.ob_addOb_ne (by decide)
    have hwire : v.wire = s.wire := by rw [← hv, poisonLine_wire, State.addOb_wire, disturbed_wire hu]
    rw [epochTest_still] at haccess
    · refine ⟨_, congrArg Host.Outcome.next haccess, ?_, ?_, ?_, ?_⟩
      · simp [busError, hwire, hm, Master.code]
      · simpa [busError] using macFailed_latches r x.addr v hvw
      · simpa [busError] using hguard
      · rw [busError, State.ob_emit, macFailed_ob _ _ _ (by decide) (by decide) (by decide), State.ob_addOb_self,
          hob _ (by decide) (by decide)]
    · rw [busError, State.ob_emit, macFailed_ob _ _ _ (by decide) (by decide) (by decide), State.ob_addOb_ne (by decide),
        hob _ (by decide) (by decide), rangeAt_congr (s := u) (by simpa using hguard)]
      exact hepoch

/-! ### REKEY and REFORM -/

/-- Settles O59. -/
theorem reformIsDeniedUnderCurtain : Obligations.ReformIsDeniedUnderCurtain := by
  intro s c r hst hvalid hkey hlatch
  have hact : rgReform r (s.put (rangeIx r) Sub.range_RG_OP 2) = (s.put (rangeIx r) Sub.range_RG_OP 2, some .denied) := by
    simp [rgReform, hvalid, hkey, hlatch]
  have hpost := rowWindowStart_posts hst hact (due_put ..)
  exact ⟨_, rfl, by simp [hpost.guard], by simp [hpost.ke], hpost.ends⟩

end Sys2Proof.Machine
end

section
/-! The Stagehand, the operations of a range and the patrol scrubber (R512, R524 to R526, R529, R532, R533, R539). -/

namespace Sys2Proof.Machine

variable {s t u : State} {c : Caller}

/-! ### What the guard's work on a page leaves of the range (R517 to R519, R523, R525) -/

/-- `t` holds what `s` holds of range `r`, its root store aside, and the same epoch threshold. -/
structure SameRange (r : Nat) (s t : State) : Prop where
  range : ∃ root, t.rangeAt r = { s.rangeAt r with root := root }
  threshold : t.ob mgIx Sub.guard_EPOCH_REKEY_AT = s.ob mgIx Sub.guard_EPOCH_REKEY_AT

namespace SameRange

variable {r : Nat}

theorem of_guard (hg : t.guard.ranges = s.guard.ranges)
    (ho : t.ob mgIx Sub.guard_EPOCH_REKEY_AT = s.ob mgIx Sub.guard_EPOCH_REKEY_AT) : SameRange r s t :=
  ⟨⟨(s.rangeAt r).root, rangeAt_congr hg r⟩, ho⟩

theorem refl (r : Nat) (s : State) : SameRange r s s := .of_guard rfl rfl

theorem trans (h : SameRange r s t) (h' : SameRange r t u) : SameRange r s u := by
  obtain ⟨a, ha⟩ := h.range
  obtain ⟨b, hb⟩ := h'.range
  exact ⟨⟨b, by rw [hb, ha]⟩, h'.threshold.trans h.threshold⟩

theorem cachePut (r' level i : Nat) (c : Bytes) (h : SameRange r s t) : SameRange r s (t.cachePut r' level i c) :=
  h.trans (.of_guard rfl rfl)

theorem putLine (a : Nat) (b : Bytes) (h : SameRange r s t) : SameRange r s (t.putLine a b) := h.trans (.of_guard rfl rfl)

theorem putMac (a v : Nat) (h : SameRange r s t) : SameRange r s (t.putMac a v) := h.putLine ..

/-- A counter of the root store rises (R519). -/
theorem putRoot (root : SMap Nat) (s : State) : SameRange r s (s.putRange r { s.rangeAt r with root := root }) :=
  ⟨⟨root, rangeAt_putRange ..⟩, rfl⟩

theorem storeLine (r' : Nat) (keys : Nat × Nat) (k : Nat) (ctr p : Bytes) (poisoned : Bool) (h : SameRange r s t) :
    SameRange r s (storeLine r' keys k ctr p poisoned t) := (h.putLine ..).putMac ..

theorem macFailed (r' a : Nat) (h : SameRange r s t) : SameRange r s (macFailed r' a t) :=
  h.trans (.of_guard (by rw [macFailed_guard]) (by
    rw [macFailed_ob _ _ _ (by decide) (by decide) (by decide), State.ob_addOb_ne (by decide)]))

theorem ddrUe (a : Nat) (h : SameRange r s t) : SameRange r s (ddrUe a t) :=
  h.trans (.of_guard (by simp [Machine.ddrUe]) (by
    rw [Machine.ddrUe, alarm_ob (by decide) (by decide), State.ob_raise (by decide) (by decide), State.ob_addOb_ne (by decide)]))

end SameRange

theorem fetchNode_sameRange {r r' up level i : Nat} {g : GRange} {b : Bytes} (h : fetchNode r' g up level i s = .ok (b, t)) :
    SameRange r s t := by
  induction up generalizing level i b t with
  | zero =>
    rw [fetchNode_eq] at h
    split at h
    · cases h; exact .refl ..
    dsimp only at h
    split_ifs at h
    cases h
    exact (SameRange.refl ..).cachePut ..
  | succ n ih =>
    rw [fetchNode_eq] at h
    split at h
    · cases h; exact .refl ..
    dsimp only at h
    cases hf : fetchNode r' g n (level + 1) (i / 8) s with
    | error e => rw [hf] at h; cases h
    | ok x =>
      rw [hf] at h
      dsimp only at h
      split_ifs at h
      cases h
      exact (ih hf).cachePut ..

theorem writeNode_sameRange {r up level i : Nat} {b : Bytes} (h : writeNode r up level i b s = .ok t) : SameRange r s t := by
  induction up generalizing level i b s t with
  | zero =>
    simp only [writeNode] at h
    cases h
    split
    · exact (((SameRange.putRoot ..).putLine ..).cachePut ..).putMac ..
    · exact ((SameRange.putRoot ..).putLine ..).cachePut ..
  | succ n ih =>
    simp only [writeNode] at h
    split at h
    · cases h
    rename_i hf
    split at h
    · cases h
    rename_i hw
    cases h
    have h := (fetchNode_sameRange (r := r) hf).trans (ih hw)
    split
    · exact ((h.putLine ..).cachePut ..).putMac ..
    · exact (h.putLine ..).cachePut ..

theorem rewritePage_sameRange {r p : Nat} {old new : Nat × Nat} (h : rewritePage r p old new s = .ok t) : SameRange r s t := by
  unfold rewritePage at h
  split at h
  · cases h
  rename_i ctr v hf
  refine .trans ?_ (writeNode_sameRange h)
  refine List.foldlRecOn (motive := SameRange r s) _ _ (fetchNode_sameRange hf) fun w hw j _ => ?_
  dsimp only
  refine SameRange.storeLine _ _ _ _ _ _ ?_
  split_ifs
  · exact hw.macFailed ..
  · exact hw.ddrUe ..
  · exact hw

/-! ### The Stagehand (R525, R526) -/

theorem pageMove_waits {r : Nat} (hpast : s.past Timer.page (s.pageNs (((s.rangeAt r).split.map (·.1)).getD false)) = false)
    (hend : ¬((s.rangeAt r).st = 3 ∧ (s.rangeAt r).epoch = 2 ^ 32 - 1)) : pageMove r s = s := by
  unfold pageMove
  exact if_neg (by simpa [hpast] using hend)

/-- The Stagehand takes the next page once its share allows, and re-encrypts it under the range's new keys. -/
theorem pageMove_rekey {r b : Nat} (hsplit : (s.rangeAt r).split = some (false, b)) (hvalid : (s.rangeAt r).valid = true)
    (hst : (s.rangeAt r).st = 3) (hdark : s.dark = false) (hgap : s.rst.gap = false)
    (hpast : s.past Timer.page (s.pageNs false) = true)
    (hw : rewritePage r b ((s.rangeAt r).kd, (s.rangeAt r).km) ((s.rangeAt r).kdNew, (s.rangeAt r).kmNew) (s.mark Timer.page) = .ok u) :
    pageMove r s = if b + 1 < (s.rangeAt r).pages then u.putRange r { u.rangeAt r with split := some (false, b + 1) }
      else stagehandDone r false u := by
  have hmark : (s.mark Timer.page).dark = s.dark := rfl
  have hgap' : (s.mark Timer.page).rst = s.rst := rfl
  simp only [pageMove, movePage, hsplit, Option.map_some, Option.getD_some, hpast, true_or, if_true, rangeAt_mark, hvalid, hst,
    hmark, hgap', hdark, hgap, hw, beq_self_eq_true, Bool.or_true, Bool.and_true, Bool.not_true, Bool.or_self,
    Bool.false_eq_true, if_false]
  rfl

/-- The boundary reaches the end of a re-key: the new keys are the range's keys (R524). -/
theorem stagehandDone_rekey {r : Nat} (h : (s.rangeAt r).epochNew < s.ob mgIx Sub.guard_EPOCH_REKEY_AT) :
    (stagehandDone r false s).rangeAt r = { s.rangeAt r with
      st := 2, split := none, kd := (s.rangeAt r).kdNew, km := (s.rangeAt r).kmNew, kdNew := 0, kmNew := 0
      epoch := (s.rangeAt r).epochNew, epochNew := 0, keyGen := ((s.rangeAt r).keyGen + 1) % 2 ^ 16 } := by
  simp only [stagehandDone, Bool.false_eq_true, if_false]
  rw [epochTest_still, rangeAt_raise, rangeAt_putRange]
  refine .inr ?_
  rw [rangeAt_raise, rangeAt_putRange, State.ob_raise (by decide) (by decide)]
  exact h

/-! ### Keys from a draw (R524, R529) -/

theorem rekeyBegin_rangeAt (r : Nat) (b : Bytes) (s : State) : (rekeyBegin r b s).rangeAt r =
    { s.rangeAt r with
      st := 3, kdNew := fld b 0 32, kmNew := fld b 32 32, epochNew := 0, split := some (false, 0), retry := false } := by
  simp [rekeyBegin]

theorem reformBegin_rangeAt (r : Nat) (b : Bytes) (s : State) : (reformBegin r b s).rangeAt r =
    { s.rangeAt r with
      st := 1, kd := fld b 0 32, km := fld b 32 32, kt := fld b 64 32, kdNew := 0, kmNew := 0, epoch := 0, epochNew := 0
      keyGen := 0, split := some (true, 0), lost := [], root := [], retry := false } := by
  simp [reformBegin]

theorem drawsNow_put {len ix sub v : Nat} (h : s.drawsNow len) (hne : okey entIx Sub.ent_ENT_STATE ≠ okey ix sub) :
    (s.put ix sub v).drawsNow len := by
  obtain ⟨hrun, hfailed, hstarting, hwaiting, hfill⟩ := h
  have hstate : (s.put ix sub v).entState = s.entState := State.ob_put_ne hne
  exact ⟨hrun, hstate ▸ hfailed, hstate ▸ hstarting, hwaiting, hfill⟩

theorem okey_ent_range {r : Nat} (hr : r < 16) {sub : Nat} : okey entIx Sub.ent_ENT_STATE ≠ okey (rangeIx r) sub := by
  simp only [okey, entIx, rangeIx, Sub.ent_ENT_STATE]
  omega

@[simp] theorem due_rekeyBegin (r : Nat) (b : Bytes) (s : State) : (rekeyBegin r b s).due = s.due := by
  rw [rekeyBegin, due_raise]
  rfl

@[simp] theorem due_reformBegin (r : Nat) (b : Bytes) (s : State) : (reformBegin r b s).due = s.due := by
  rw [reformBegin, due_raise]
  rfl

section Drawn
variable {r : Nat}

theorem seedRetry_waits (hpast : s.past (Timer.seed r) 10000000 = false) : seedRetry r s = s := by
  unfold seedRetry
  exact if_neg (by simp [hpast])

/-- A re-key that is owed takes its seed from the queue. -/
theorem seedRetry_draws (hretry : (s.rangeAt r).retry = true) (hst : (s.rangeAt r).st = 2)
    (hpast : s.past (Timer.seed r) 10000000 = true) (hdraw : s.drawsNow 64) :
    ∃ e, seedRetry r s = rekeyBegin r (s.nextDraw 64) ((s.putRange r { s.rangeAt r with retry := false }).putEnt e) := by
  obtain ⟨e, he⟩ := drawRequest_now (s := s.putRange r { s.rangeAt r with retry := false }) hdraw (.range r false false)
  refine ⟨e, (if_pos ⟨hretry, hst, hpast⟩).trans ?_⟩
  rw [rekeyDue, he]
  rfl

theorem rgRekey_draws (hvalid : (s.rangeAt r).valid = true) (hst : (s.rangeAt r).st = 2) (hdraw : s.drawsNow 64) :
    ∃ e, rgRekey r s = (rekeyBegin r (s.nextDraw 64) (s.putEnt e), some .ok) := by
  obtain ⟨e, he⟩ := drawRequest_now hdraw (.range r false true)
  exact ⟨e, by simp [rgRekey, hvalid, hst, he]⟩

theorem rgRekey_busy (hvalid : (s.rangeAt r).valid = true) (hst : (s.rangeAt r).st = 1 ∨ (s.rangeAt r).st = 3) :
    rgRekey r s = (s, some .busy) := by
  obtain h | h := hst <;> simp [rgRekey, hvalid, h]

theorem rgReform_draws (hvalid : (s.rangeAt r).valid = true) (hlatch : (s.rangeAt r).keyBearing = true → s.alm.latch < 3)
    (hdraw : s.drawsNow 96) : ∃ e, rgReform r s = (reformBegin r (s.nextDraw 96) (s.putEnt e), some .ok) := by
  obtain ⟨e, he⟩ := drawRequest_now hdraw (.range r true true)
  have hno : ¬((s.rangeAt r).keyBearing = true ∧ 3 ≤ s.alm.latch) := fun h => Nat.not_lt.mpr h.2 (hlatch h.1)
  exact ⟨e, by simp only [rgReform, hvalid, hno, he, Bool.not_true, Bool.false_eq_true, if_false]⟩

end Drawn

/-! ### The patrol scrubber (R512) -/

theorem patrolScrub_waits {found : Nat} (h : s.past Timer.patrol s.patrolNs = false) : patrolScrub found s = s :=
  if_pos (by simp [h])

/-- The scrubber stands at burst `n`, its timer begun again. -/
def patrolTo (n : Nat) (s : State) : State := ({ s with guard := { s.guard with patrol := n } } : State).mark Timer.patrol

theorem burstBad_patrolTo (n a : Nat) (s : State) : (patrolTo n s).burstBad a = s.burstBad a := rfl
theorem ob_patrolTo (n : Nat) (s : State) (ix sub : Nat) : (patrolTo n s).ob ix sub = s.ob ix sub := rfl
theorem watched_patrolTo (n src : Nat) (s : State) : (patrolTo n s).watched src = s.watched src := rfl
theorem guard_patrolTo (n : Nat) (s : State) : (patrolTo n s).guard = { s.guard with patrol := n } := rfl
theorem alm_patrolTo (n : Nat) (s : State) : (patrolTo n s).alm = s.alm := rfl

section Patrol
variable (hdark : s.dark = false) (hbursts : 0 < s.bursts) (hpast : s.past Timer.patrol s.patrolNs = true)
include hdark hbursts hpast

theorem patrolScrub_reads (found : Nat) : patrolScrub found s =
    if found = 2 ∨ s.burstBad (64 * s.guard.patrol) then
      ddrUe (64 * s.guard.patrol)
        (ddrDisturb [] [64 * s.guard.patrol] (patrolTo ((s.guard.patrol + 1) % s.bursts) s))
    else if found = 1 then (patrolTo ((s.guard.patrol + 1) % s.bursts) s).addOb ddrIx Sub.ddr_DDR_CE 64 1
    else patrolTo ((s.guard.patrol + 1) % s.bursts) s := by
  have hno : ¬(s.bursts = 0 ∨ s.dark = true ∨ (!s.past Timer.patrol s.patrolNs) = true) := by simp [hdark, hpast]; omega
  rw [← burstBad_patrolTo ((s.guard.patrol + 1) % s.bursts)]
  simp only [patrolScrub, hno, if_false, patrolTo]
  exact if_congr Iff.rfl rfl (if_congr Iff.rfl rfl rfl)

end Patrol

/-- A burst that is found bad is bad from then on. -/
theorem burstBad_ddrDisturb (a : Nat) (s : State) : (ddrDisturb [] [64 * a] s).burstBad (64 * a) = true := by
  by_cases h : a ∈ s.guard.bad <;> simp [ddrDisturb, State.burstBad, h]

theorem ddrDisturb_ob (bad : List Nat) (s : State) (ix sub : Nat) : (ddrDisturb [] bad s).ob ix sub = s.ob ix sub := rfl
theorem ddrDisturb_patrol (bad : List Nat) (s : State) : (ddrDisturb [] bad s).guard.patrol = s.guard.patrol := rfl
theorem ddrDisturb_watched (bad : List Nat) (s : State) (src : Nat) : (ddrDisturb [] bad s).watched src = s.watched src := rfl

@[simp] theorem ddrUe_guard (a : Nat) (s : State) : (ddrUe a s).guard = s.guard := by simp [ddrUe]

theorem ddrUe_burstBad (a b : Nat) (s : State) : (ddrUe a s).burstBad b = s.burstBad b := by
  rw [State.burstBad, ddrUe_guard, State.burstBad]

theorem ddrUe_latches (a : Nat) (hw : s.watched 0x3B = true) : 0x3B ∈ (ddrUe a s).alm.latched := by
  refine alarm_latches ?_ (by decide) 0
  rw [watched_congr (s := s) (by simp) (by simp) ?_, hw]
  rw [State.ob_raise (by decide) (by decide), State.ob_addOb_ne (by decide)]

/-- Settles O42. -/
theorem rangesAreRekeyed : Obligations.RangesAreRekeyed := by
  intro s r g hr hg
  subst hg
  refine ⟨fun hpast hend => ?still, fun b w hsplit hvalid hst hdark hgap hpast hw => ⟨fun hmore => ?next, fun hlast hepoch => ?last⟩,
    fun hpast => ?unpaced, fun hretry hst hpast hdraw => ?owed, fun c hstart hvalid hst hdraw => ?rekey,
    fun c hstart hvalid hst => ?busy, fun c hstart hvalid hlatch hdraw => ?reform, fun found hpast => ?unread,
    fun hdark hbursts hpast hgood => ?corrected, fun hdark hbursts hpast => ?lost⟩
  case still => exact congrArg Host.Outcome.next (pageMove_waits hpast hend)
  case next =>
    refine ⟨_, congrArg Host.Outcome.next ((pageMove_rekey hsplit hvalid hst hdark hgap hpast hw).trans (if_pos hmore)), ?_⟩
    beta_reduce
    obtain ⟨root, hroot⟩ := (rewritePage_sameRange hw).range
    rw [rangeAt_mark] at hroot
    rw [rangeAt_putRange, hroot]
    exact ⟨rfl, hst⟩
  case last =>
    have hsame := rewritePage_sameRange hw
    obtain ⟨root, hroot⟩ := hsame.range
    rw [rangeAt_mark] at hroot
    refine ⟨_, congrArg Host.Outcome.next ((pageMove_rekey hsplit hvalid hst hdark hgap hpast hw).trans (if_neg (by omega))), ?_⟩
    beta_reduce
    rw [stagehandDone_rekey (by rw [hroot, hsame.threshold]; exact hepoch), hroot]
    exact ⟨rfl, rfl, rfl, rfl, rfl⟩
  case unpaced => exact congrArg Host.Outcome.next (seedRetry_waits hpast)
  case owed =>
    obtain ⟨e, he⟩ := seedRetry_draws hretry hst hpast hdraw
    refine ⟨_, congrArg Host.Outcome.next he, ?_⟩
    beta_reduce
    rw [rekeyBegin_rangeAt]
    exact ⟨rfl, rfl, rfl, rfl, rfl⟩
  case rekey =>
    obtain ⟨e, he⟩ := rgRekey_draws (s := s.put (rangeIx r) Sub.range_RG_OP 1) hvalid hst (drawsNow_put hdraw (okey_ent_range hr))
    have hpost := rowWindowStart_posts hstart he (by simp)
    refine ⟨_, rfl, ?_⟩
    beta_reduce
    rw [rangeAt_congr (congrArg (·.ranges) hpost.guard), rekeyBegin_rangeAt]
    exact ⟨rfl, rfl, rfl, hpost.ends⟩
  case busy =>
    have hpost := rowWindowStart_posts hstart (rgRekey_busy (s := s.put (rangeIx r) Sub.range_RG_OP 1) hvalid hst) (due_put ..)
    exact ⟨_, rfl, hpost.guard, hpost.ends⟩
  case reform =>
    obtain ⟨e, he⟩ := rgReform_draws (s := s.put (rangeIx r) Sub.range_RG_OP 2) hvalid hlatch
      (drawsNow_put hdraw (okey_ent_range hr))
    have hpost := rowWindowStart_posts hstart he (by simp)
    refine ⟨_, rfl, ?_⟩
    beta_reduce
    rw [rangeAt_congr (congrArg (·.ranges) hpost.guard), reformBegin_rangeAt]
    exact ⟨rfl, rfl, rfl, rfl, rfl, hpost.ends⟩
  case unread => exact congrArg Host.Outcome.next (patrolScrub_waits hpast)
  case corrected =>
    have hscrub := patrolScrub_reads hdark hbursts hpast 1
    rw [if_neg (by simp [hgood]), if_pos rfl] at hscrub
    refine ⟨_, congrArg Host.Outcome.next hscrub, ?_, ?_, ?_⟩
    · rw [State.addOb_guard, guard_patrolTo]
    · rw [State.ob_addOb_self, ob_patrolTo]
    · rw [State.addOb_alm, alm_patrolTo]
  case lost =>
    have hscrub := patrolScrub_reads hdark hbursts hpast 2
    rw [if_pos (.inl rfl)] at hscrub
    refine ⟨_, congrArg Host.Outcome.next hscrub, ?_, ?_, ?_, fun hw => ddrUe_latches _ ?_⟩
    · rw [ddrUe_guard, ddrDisturb_patrol, guard_patrolTo]
    · rw [ddrUe, alarm_ob (by decide) (by decide), State.ob_raise (by decide) (by decide), State.ob_addOb_self, ddrDisturb_ob,
        ob_patrolTo]
    · rw [ddrUe_burstBad, burstBad_ddrDisturb]
    · rw [ddrDisturb_watched, watched_patrolTo, hw]

end Sys2Proof.Machine
end

section
/-! Telemetry (chapter 19): a snapshot from its request to its release (R619 to R622), and the seeds of tagging (R623). -/

namespace Sys2Proof.Machine

variable {s t u : State} {c : Caller}

/-! ### Snapshots (R619, R621) -/

/-- The caller holds the claim that the write needs. -/
theorem snapOp_request (h : s.snapClaim c = true) :
    snapOp c 1 s = ({ s.put ctIx Sub.ctWin_SNAP_OP 1 with tel := { s.tel with snapDue := true } }, .ok) := by
  simp [snapOp, h]

theorem snapOp_release (h : s.snapClaim c = true) : snapOp c 2 s = (snapRelease (s.put ctIx Sub.ctWin_SNAP_OP 2), .ok) := by
  simp [snapOp, h]

theorem snapOp_claimed (h : s.snapClaim c = false) : snapOp c 1 s = (s, .claimed) := by
  simp [snapOp, h]

/-- What the boundary copies (R619). -/
def State.snapped (s : State) : Telemetry :=
  { s.tel with snapDue := false, held := true, cnt := s.cnt, asc := s.asc.cnt, pol := s.tm.polCnt, que := s.tm.queueCnt
               res := s.residency, ring := s.tm.ring, ringPos := s.tm.ringPos }

theorem snapBoundary_takes (h : s.tel.snapDue = true) :
    ∃ b, snapBoundary s = (State.mark Timer.snap
      (((({ s with tel := s.snapped } : State).put snapIx Sub.snap_SNAP_STATE 1).addOb snapIx Sub.snap_SNAP_SEQ 32 1).put
        snapIx Sub.snap_SNAP_TIME s.ns)).raise 0x1001 0xFF b :=
  ⟨_, if_pos h⟩

theorem snapBoundary_idle (h : s.tel.snapDue = false) : snapBoundary s = s := by simp [snapBoundary, h]

theorem snapExpiry_releases (hheld : s.tel.held = true)
    (h : s.past Timer.snap (1000000000 * s.ob snapIx Sub.snap_SNAP_HOLD_MAX_S) = true) :
    ∃ b, snapExpiry s = (snapRelease s).raise 0x1002 0xFF b := ⟨_, if_pos ⟨hheld, h⟩⟩

theorem snapExpiry_early (h : s.past Timer.snap (1000000000 * s.ob snapIx Sub.snap_SNAP_HOLD_MAX_S) = false) :
    snapExpiry s = s := by simp [snapExpiry, h]

/-! ### The counter window (R613, R622) -/

theorem counterSlice_lt {n sl : Nat} (h : counterSlice n = some sl) : sl < 4 := by
  unfold counterSlice at h
  split_ifs at h <;> simp only [Option.some.injEq] at h <;> omega

/-- Counters that exist, of a part that enables every slice. -/
theorem ctRead_reads {first n : Nat} (hfirst : s.ob ctIx Sub.ctWin_CT_FIRST = first) (hn : s.ob ctIx Sub.ctWin_CT_COUNT = n)
    (hle : first + n ≤ 4096) (hon : ∀ sl, sl < 4 → s.sliceOn sl = true) :
    ctRead s = (s.putO ctIx Sub.ctWin_CT_DATA
      ((List.range n).flatMap (fun i => be 8 (mget 0 (if s.tel.held then s.tel.cnt else s.cnt) (first + i)))), .ok) := by
  have hthere : ((List.range n).map (first + ·)).any
      (fun n => decide (4096 ≤ n) || ((counterSlice n).map (fun sl => !s.sliceOn sl)).getD false) = false := by
    rw [List.any_eq_false]
    intro k hk
    obtain ⟨i, hi, rfl⟩ := List.mem_map.mp hk
    rw [List.mem_range] at hi
    have hlow : ¬ 4096 ≤ first + i := by omega
    cases hslice : counterSlice (first + i) with
    | none => simp [hlow]
    | some sl => simp [hlow, hon sl (counterSlice_lt hslice)]
  simp only [ctRead, hfirst, hn, hthere, Bool.false_eq_true, if_false, List.flatMap_map]

/-- A count that reaches beyond the last counter. -/
theorem ctRead_range {first n : Nat} (hfirst : s.ob ctIx Sub.ctWin_CT_FIRST = first) (hn : s.ob ctIx Sub.ctWin_CT_COUNT = n)
    (hpos : 0 < n) (hbeyond : 4096 < first + n) : ctRead s = (s, .range) := by
  have hlast : ((List.range n).map (first + ·)).any
      (fun n => decide (4096 ≤ n) || ((counterSlice n).map (fun sl => !s.sliceOn sl)).getD false) = true :=
    List.any_eq_true.mpr ⟨first + (n - 1), List.mem_map_of_mem (List.mem_range.mpr (by omega)), by
      rw [decide_eq_true (by omega : 4096 ≤ first + (n - 1)), Bool.true_or]⟩
  simp only [ctRead, hfirst, hn, hlast, if_true]

theorem sliceOn_put {ix sub v : Nat} (hsub : sub < 256) (h : ix ≠ 0) (sl : Nat) : (s.put ix sub v).sliceOn sl = s.sliceOn sl := by
  rw [State.sliceOn, State.ob_put hsub (by decide), if_neg fun k => h k.1.symm, State.sliceOn]

/-- Settles O51. That a RELEASE cancels a snapshot not yet taken is the model's reading (log 87). -/
theorem snapshotsHold : Obligations.SnapshotsHold := by
  intro s c
  refine ⟨fun ha hc => ?asked, fun ha hc => congrArg Host.Outcome.next (rowWrite_refuses ha (snapOp_claimed hc) (by decide)),
    fun h => ?taken, fun h => congrArg Host.Outcome.next (snapBoundary_idle h), fun ha hc => ?released, fun hheld h => ?expired,
    fun h => congrArg Host.Outcome.next (snapExpiry_early h), fun first n h hfirst hn hle hon => ?read,
    fun first n h hfirst hn hpos hbeyond => ?beyond⟩
  case asked =>
    refine ⟨_, congrArg Host.Outcome.next (rowWrite_takes ha (snapOp_request hc)), ?_, ?_, reports_complete ..⟩ <;>
      cases c <;> rfl
  case taken =>
    obtain ⟨b, hb⟩ := snapBoundary_takes h
    refine ⟨_, congrArg Host.Outcome.next hb, by simp [State.snapped], by simp [State.snapped], by simp [State.snapped],
      by simp [State.snapped], by simp [State.snapped], by simp, ?_, ?_, ?_⟩ <;> rw [State.ob_raise (by decide) (by decide), State.ob_mark]
    · rw [State.ob_put_ne (by decide), State.ob_addOb_ne (by decide), State.ob_put_self]
    · rw [State.ob_put_ne (by decide), State.ob_addOb_self, State.ob_put_ne (by decide)]
      rfl
    · exact State.ob_put_self ..
  case released =>
    refine ⟨_, congrArg Host.Outcome.next (rowWrite_takes ha (snapOp_release hc)), ?_, ?_, ?_, ?_, reports_complete ..⟩
    · cases c <;> rfl
    · cases c <;> rfl
    · rw [State.ob_complete, State.ob_noteCycle]
      exact State.ob_put_self ..
    · cases c <;> rfl
  case expired =>
    obtain ⟨b, hb⟩ := snapExpiry_releases hheld h
    refine ⟨_, congrArg Host.Outcome.next hb, by simp [snapRelease], ?_, by simp [snapRelease], by simp [snapRelease]⟩
    rw [State.ob_raise (by decide) (by decide)]
    exact State.ob_put_self ..
  case read =>
    have hact := ctRead_reads (s := s.put ctIx Sub.ctWin_CT_OP 1) ((State.ob_put_ne (by decide)).trans hfirst)
      ((State.ob_put_ne (by decide)).trans hn) hle fun sl hsl => (sliceOn_put (by decide) (by decide) sl).trans (hon sl hsl)
    have hpost := rowWindow_posts h hact (by simp)
    exact ⟨_, rfl, (hpost.oct ..).trans (State.oct_putO_self ..), hpost.cnt, hpost.ends⟩
  case beyond =>
    have hact := ctRead_range (s := s.put ctIx Sub.ctWin_CT_OP 1) ((State.ob_put_ne (by decide)).trans hfirst)
      ((State.ob_put_ne (by decide)).trans hn) hpos hbeyond
    have hpost := rowWindow_posts h hact (by simp)
    exact ⟨_, rfl, hpost.cnt, hpost.ends⟩

/-! ### The seeds of tagging (R623) -/

/-- The entropy source is READY with zeros in its queue, and other octets have been drawn for a block of writes that waited and that the
arbiter now takes (R460). -/
def seedDrawn : State :=
  { State.reset.put entIx Sub.ent_ENT_STATE entReady with
    ke := { State.reset.ke with ent := { State.reset.ke.ent with queue := zeros 4 } }
    acc := { State.reset.acc with seeds := some [1, 1, 1, 1] } }

/-- The pipe that the write turns on is seeded with what the block drew. -/
theorem tagEnable_seedDrawn : mget 0 (tagEnable .firmware 1 seedDrawn).1.tel.lfsr 0 = 0x01010101 := by decide +kernel

/-- Refutes O52: a write of `TAG_ENABLE` for which a block of writes has drawn its octets takes those (R460), not the ones at the front
of the queue of random octets. -/
theorem not_tagsAndSamples : ¬ Obligations.TagsAndSamples := by
  intro h
  obtain ⟨hseeds, -⟩ := h seedDrawn .firmware
  obtain ⟨t, ht, -, hlfsr, -⟩ := hseeds 1 0 (by decide +kernel) (by decide +kernel) (by decide +kernel)
  obtain rfl : rowLate .firmware tagIx Sub.tag_TAG_ENABLE (.num 1) (tagEnable .firmware 1) seedDrawn = t :=
    Host.Outcome.next.inj ht
  have htel : (rowLate .firmware tagIx Sub.tag_TAG_ENABLE (.num 1) (tagEnable .firmware 1) seedDrawn).tel =
      (tagEnable .firmware 1 seedDrawn).1.tel := by decide +kernel
  rw [htel, tagEnable_seedDrawn] at hlfsr
  exact absurd hlfsr (by decide +kernel)

end Sys2Proof.Machine
end

section
/-! The machine right after a power-on reset (R589, R594, R598). -/

namespace Sys2Proof.Machine

/-- The lanes of both sides stand down, without signal, at their default rate (R62). -/
theorem reset_lanes : ∀ m < 0x60, m < 0x20 ∨ 0x40 ≤ m →
    State.reset.ob (Ix.lane m) Sub.lane_TX_STATE = 1 ∧ State.reset.ob (Ix.lane m) Sub.lane_RX_STATE = 1 ∧
    State.reset.ob (Ix.lane m) Sub.lane_RATE = 3 ∧ State.reset.ob (Ix.lane m) Sub.lane_LOS = 1 := by
  decide +kernel

/-- Every slice's pipes stand as after a power-on reset (R562). -/
theorem reset_pipes : ∀ sl < 4, State.reset.pipeState sl .seal = 3 ∧ State.reset.pipeState sl .open = 3 := by
  decide +kernel

/-- Settles O54: nothing is stored yet, so that every object reads its default (R589). -/
theorem resetLeavesTheDefaults : Obligations.ResetLeavesTheDefaults := by
  have hstored : ∀ ix sub, State.reset.ob ix sub = dfltNum State.reset.fuse ix sub ∧
      State.reset.oct ix sub = dfltOct State.reset.fuse ix sub := fun _ _ => ⟨rfl, rfl⟩
  refine ⟨hstored, fun m hm => ?lanes, reset_pipes, rfl, rfl, ?next, ?power, ?response, rfl, rfl, rfl, rfl, rfl, rfl, rfl, rfl, rfl⟩
  case lanes => exact reset_lanes m (by omega) (by omega)
  case next => decide +kernel
  case power => decide +kernel
  case response => decide +kernel

end Sys2Proof.Machine
end

section
/-! The entropy source (R390 to R397): windows, health tests and the requests for random octets (R404). -/

namespace Sys2Proof.Machine

variable {s t u : State} {c : Caller}

/-! ### The generator leaves the line, the mark and the windows (R393) -/

theorem ctrReseed_eq (e : Entropy) :
    ∃ k v l b, ctrReseed e = { e with key := k, v := v, seeds := l, budget := b } := by
  unfold ctrReseed
  split
  · exact ⟨_, _, _, _, rfl⟩
  · exact ⟨e.key, e.v, e.seeds, e.budget, rfl⟩

theorem ctrRun_eq (n : Nat) (e : Entropy) :
    ∃ k v l b, (ctrRun n e).2 = { e with key := k, v := v, seeds := l, budget := b } := by
  induction n generalizing e with
  | zero => exact ⟨e.key, e.v, e.seeds, e.budget, rfl⟩
  | succ n ih =>
    obtain ⟨k, v, l, b, hseed⟩ := ctrReseed_eq e
    obtain ⟨k', v', l', b', hrun⟩ := ih
      { ctrUpdate (zeros 48) { ctrReseed e with v := ((ctrReseed e).v + 4) % 2 ^ 128 } with
        budget := (ctrReseed e).budget.map (· - 64) }
    refine ⟨k', v', l', b', ?_⟩
    rw [ctrRun]
    dsimp only
    rw [hrun, hseed]
    rfl

/-- The queue fills, and nothing else of the source moves but its generator. -/
theorem drbgFill_keeps (s : State) : ∃ q k v l b, drbgFill s =
    s.putEnt { s.ke.ent with queue := q, key := k, v := v, seeds := l, budget := b } := by
  unfold drbgFill
  dsimp only
  split
  · exact ⟨s.ke.ent.queue, s.ke.ent.key, s.ke.ent.v, s.ke.ent.seeds, s.ke.ent.budget, rfl⟩
  rename_i b hb
  obtain ⟨k, v, l, b', hrun⟩ := ctrRun_eq (min ((8192 - s.ke.ent.queue.length) / 64) ((b + 1024 * s.ke.ent.seeds.length) / 64))
    s.ke.ent
  exact ⟨_, k, v, l, b', by rw [hrun]⟩

section Filled
variable (s : State)

@[simp] theorem drbgFill_dict : (drbgFill s).dict = s.dict := by
  obtain ⟨q, k, v, l, b, h⟩ := drbgFill_keeps s
  rw [h]; rfl
@[simp] theorem drbgFill_ob (ix sub : Nat) : (drbgFill s).ob ix sub = s.ob ix sub := by
  obtain ⟨q, k, v, l, b, h⟩ := drbgFill_keeps s
  rw [h]; rfl
@[simp] theorem drbgFill_entState : (drbgFill s).entState = s.entState := drbgFill_ob ..
@[simp] theorem drbgFill_mark : (drbgFill s).ke.ent.mark = s.ke.ent.mark := by
  obtain ⟨q, k, v, l, b, h⟩ := drbgFill_keeps s
  rw [h]; rfl
@[simp] theorem drbgFill_windows : (drbgFill s).ke.ent.windows = s.ke.ent.windows := by
  obtain ⟨q, k, v, l, b, h⟩ := drbgFill_keeps s
  rw [h]; rfl
@[simp] theorem drbgFill_waiting : (drbgFill s).ke.ent.waiting = s.ke.ent.waiting := by
  obtain ⟨q, k, v, l, b, h⟩ := drbgFill_keeps s
  rw [h]; rfl

end Filled

section Released
variable (l : List Bytes) (s : State)

@[simp] theorem seedRelease_mark : (seedRelease l s).ke.ent.mark = s.ke.ent.mark := rfl
@[simp] theorem seedRelease_windows : (seedRelease l s).ke.ent.windows = s.ke.ent.windows := rfl
theorem seedRelease_counts : (seedRelease l s).ob entIx Sub.ent_ENT_SEEDS = (s.ob entIx Sub.ent_ENT_SEEDS + l.length) % 2 ^ 64 :=
  State.ob_addOb_self ..
theorem seedRelease_entState : (seedRelease l s).entState = s.entState := State.ob_addOb_ne (by decide)

end Released

/-! ### A checkpoint (R391 to R393, R395) -/

section Put
variable (e : Entropy) (s : State)

@[simp] theorem putEnt_ent : (s.putEnt e).ke.ent = e := rfl
@[simp] theorem putEnt_ob (ix sub : Nat) : (s.putEnt e).ob ix sub = s.ob ix sub := rfl

end Put

/-- Start-up runs four windows before the one that forms a seed. -/
theorem checkpoint_early (ws : List Nat) (h : s.ke.ent.windows < 4) :
    ∃ r, checkpoint ws s = s.putEnt { s.ke.ent with mark := s.entFill, runs := r, windows := s.ke.ent.windows + 1 } := by
  unfold checkpoint
  dsimp only
  rw [if_pos (by exact h)]
  exact ⟨_, rfl⟩

/-- The fifth window forms the first seed: the generator is instantiated and the source is READY. -/
theorem checkpoint_fifth (ws : List Nat) (h : s.ke.ent.windows = 4) :
    (checkpoint ws s).ke.ent.windows = 5 ∧ (checkpoint ws s).entState = entReady ∧ (checkpoint ws s).ke.ent.mark = s.entFill ∧
      (checkpoint ws s).ob entIx Sub.ent_ENT_SEEDS = (s.ob entIx Sub.ent_ENT_SEEDS + 1) % 2 ^ 64 := by
  unfold checkpoint
  generalize seedOf ws 0 = x, seedOf ws 1 = y, List.map _ (List.range 3) = r
  simp only [putEnt_ent, h, Nat.lt_irrefl, if_false, if_true]
  refine ⟨?_, ?_, ?_, ?_⟩
  · simp [ctrInstantiate, ctrUpdate]
  · rw [drbgFill_entState, State.entState, State.ob_raise (by decide) (by decide), State.ob_put_self]
  · simp [ctrInstantiate, ctrUpdate]
  · rw [drbgFill_ob, State.ob_raise (by decide) (by decide), State.ob_put_ne (by decide), putEnt_ob, seedRelease_counts,
      putEnt_ob, putEnt_ob]
    rfl

/-- A window after start-up releases two seeds. -/
theorem checkpoint_late (ws : List Nat) (h : 4 < s.ke.ent.windows) :
    (checkpoint ws s).ke.ent.windows = s.ke.ent.windows ∧ (checkpoint ws s).entState = s.entState ∧
      (checkpoint ws s).ke.ent.mark = s.entFill ∧
      (checkpoint ws s).ob entIx Sub.ent_ENT_SEEDS = (s.ob entIx Sub.ent_ENT_SEEDS + 2) % 2 ^ 64 := by
  have hno : ¬ s.ke.ent.windows < 4 ∧ ¬ s.ke.ent.windows = 4 := by omega
  unfold checkpoint
  generalize seedOf ws 0 = x, seedOf ws 1 = y, List.map _ (List.range 3) = r
  simp only [putEnt_ent, hno, if_false]
  refine ⟨by simp, ?_, by simp, ?_⟩
  · rw [drbgFill_entState, seedRelease_entState, State.entState, putEnt_ob, State.entState]
  · rw [drbgFill_ob, seedRelease_counts, putEnt_ob]
    rfl

/-! ### A health test that fails (R396, R397) -/

/-- The source's record after a failure: the octets past the checkpoint are flushed. -/
def flushed (s : State) : Entropy :=
  { s.ke.ent with
    queue := s.ke.ent.queue.take (min s.entFill s.ke.ent.mark), seeds := [], budget := none, key := [], v := 0, windows := 0
    runs := []
    fails := s.ke.ent.fails.filter (fun t => decide (s.time.periods < t + 7500000000)) ++ [s.time.periods] }

/-- The machine after a failure, before the limit of R397 is looked at. -/
def recovering (src test : Nat) (s : State) : State :=
  let t := (s.addOb entIx Sub.ent_ENT_FLUSHED_BYTES 64 (s.entFill - min s.entFill s.ke.ent.mark)).putEnt (flushed s)
  (((t.put entIx Sub.ent_ENT_STATE entRecovering).addOb entIx Sub.ent_ENT_FAILURES 32 1).put entIx Sub.ent_ENT_LAST_FAIL
    (src % 4 + 4 * (test % 2) + 8 * (decide (s.ke.ent.windows < 5)).toNat)).alarm 0x29 0

section Recovering
variable (src test : Nat) (s : State)

theorem recovering_ent : (recovering src test s).ke.ent = flushed s := by simp [recovering]

theorem recovering_entState : (recovering src test s).entState = entRecovering := by
  rw [State.entState, recovering, alarm_ob (by decide) (by decide), State.ob_put_ne (by decide), State.ob_addOb_ne (by decide),
    State.ob_put_self]

theorem recovering_failures : (recovering src test s).ob entIx Sub.ent_ENT_FAILURES =
    (s.ob entIx Sub.ent_ENT_FAILURES + 1) % 2 ^ 32 := by
  rw [recovering, alarm_ob (by decide) (by decide), State.ob_put_ne (by decide), State.ob_addOb_self,
    State.ob_put_ne (by decide), putEnt_ob, State.ob_addOb_ne (by decide)]

theorem recovering_limit : (recovering src test s).ob entIx Sub.ent_ENT_RETRY_LIMIT = s.ob entIx Sub.ent_ENT_RETRY_LIMIT := by
  rw [recovering, alarm_ob (by decide) (by decide), State.ob_put_ne (by decide), State.ob_addOb_ne (by decide),
    State.ob_put_ne (by decide), putEnt_ob, State.ob_addOb_ne (by decide)]

end Recovering

section Fails
variable (hruns : s.entRuns = true) (hst : s.entState ≠ entFailed)
include hruns hst

/-- One failure more leads to RECOVERING, or to FAILED at the limit. -/
theorem healthFail_eq (src test : Nat) : healthFail src test s =
    if s.ob entIx Sub.ent_ENT_RETRY_LIMIT ≤ (flushed s).fails.length then
      dropAll (((recovering src test s).put entIx Sub.ent_ENT_STATE entFailed).alarm 0x2A 0)
    else ([], recovering src test s) := by
  rw [← recovering_limit src test s]
  exact if_neg (by simp [hruns, hst])

/-- A window whose samples pass ends at a checkpoint. -/
theorem windowClose_passes {ws : List Nat} (h : s.firstFail ws 1024 = none) : windowClose ws s = ([], checkpoint ws s) := by
  simp [windowClose, hruns, hst, h]

theorem windowClose_fails {ws : List Nat} {src test : Nat} (h : s.firstFail ws 1024 = some (src, test)) :
    windowClose ws s = healthFail src test s := by
  simp [windowClose, hruns, hst, h]

end Fails

theorem samplesFail_eq {ws : List Nat} {n src test : Nat} (h : s.firstFail ws (min n 1024) = some (src, test)) :
    samplesFail n ws s = healthFail src test s := by
  simp [samplesFail, h]

theorem samplesFail_none {ws : List Nat} {n : Nat} (h : s.firstFail ws (min n 1024) = none) : samplesFail n ws s = ([], s) := by
  simp [samplesFail, h]

/-! ### Requests (R394, R404) -/

theorem drawsNow_entTaken {len : Nat} (h : s.drawsNow len) :
    (s.put entWinIx Sub.entWin_ENT_READ_OP 1).drawsNow len := by
  obtain ⟨hrun, hfailed, hstarting, hwaiting, hfill⟩ := h
  have hstate : (s.put entWinIx Sub.entWin_ENT_READ_OP 1).entState = s.entState := State.ob_put_ne (by decide)
  exact ⟨hrun, hstate ▸ hfailed, hstate ▸ hstarting, hwaiting, hfill⟩

theorem entRead_now {len : Nat} (hlen : s.ob entWinIx Sub.entWin_ENT_READ_LEN = len) (h : s.drawsNow len) :
    ∃ e, entRead s = ((s.putEnt e).putO entWinIx Sub.entWin_ENT_READ_DATA (padTo 256 (s.nextDraw len)), some .ok) := by
  obtain ⟨e, he⟩ := drawRequest_now h .read
  exact ⟨e, by rw [entRead, hlen, he]; rfl⟩

theorem entRead_waits {len : Nat} (hlen : s.ob entWinIx Sub.entWin_ENT_READ_LEN = len) (hrun : s.ke.ent.stopped = false)
    (hst : s.entState = entReady) (hfill : s.entFill < len) :
    entRead s = (s.putEnt { s.ke.ent with waiting := s.ke.ent.waiting ++ [⟨.read, len, s.time.periods⟩] }, none) := by
  have hno : ¬(s.ke.ent.waiting = [] ∧ len ≤ s.entFill) := by omega
  simp [entRead, drawRequest, hlen, hrun, hst, hno]

theorem entRead_failed (hst : s.entState = entFailed) : entRead s = (s, some .entropyFault) := by
  simp [entRead, drawRequest, hst]

/-- The request at the head of the line takes its octets, and the others stay in it. -/
theorem serveHead_takes {q : EntReq} {rest : List EntReq} (hw : s.ke.ent.waiting = q :: rest) (hrun : s.ke.ent.stopped = false)
    (hst : s.entState = entReady) (hfill : q.len ≤ s.entFill) :
    ∃ u, serveHead s = some (q.who, s.nextDraw q.len, u) ∧ u.ke.ent.waiting = rest := by
  have hno : ¬(s.ke.ent.stopped = true ∨ s.entState = entFailed ∨ s.entState = entStarting ∨ s.entFill < q.len) := by
    simp [hrun, hst]
    omega
  refine ⟨_, by simp only [serveHead, hw, hno, if_false]; rfl, ?_⟩
  simp [takeQueue, State.putEnt]

theorem dropHead_waits {q : EntReq} {rest : List EntReq} (hw : s.ke.ent.waiting = q :: rest)
    (h : s.gone q.at_ (1000 * s.ob entIx Sub.ent_ENT_WAIT_US) = false) : dropHead s = none := by
  simp [dropHead, hw, h]

theorem dropHead_leaves {q : EntReq} {rest : List EntReq} (hw : s.ke.ent.waiting = q :: rest)
    (h : s.gone q.at_ (1000 * s.ob entIx Sub.ent_ENT_WAIT_US) = true) :
    dropHead s = some (q.who, s.putEnt { s.ke.ent with waiting := rest }) := by
  simp [dropHead, hw, h]

/-! ### O25 -/

theorem entropy_windows (w0 w1 w2 : Nat) (hruns : s.entRuns = true) (hst : s.entState ≠ entFailed)
    (h : s.firstFail [w0, w1, w2] 1024 = none) :
    exec (.entropyWindowClose w0 w1 w2) s = .next (checkpoint [w0, w1, w2] s) := by
  refine congrArg Host.Outcome.next ?_
  rw [windowClose_passes hruns hst h]
  rfl

/-- Settles O25; the line of requests and the sources' order among equal samples are the model's (log 116). -/
theorem entropyIsDrawn : Obligations.EntropyIsDrawn := by
  refine ⟨fun s w0 w1 w2 hruns hst => ⟨fun hw hpass => ?early, fun hw hpass => ?fifth, fun hw hpass => ?late,
    fun src test hfail => ?closes, fun m hpass => ?passes, fun src test m n hfail hn hlimit => ?recovers,
    fun src test m n hfail hn hlimit hidle => ?ends⟩,
    fun s c len => ⟨fun hstart hlen hdraw => ?now, fun hstart hlen hrun hready hfill => ?waits, fun hstart hfailed => ?faults,
      fun rest at_ hw hrun hready hfill => ?served, fun rest at_ hw hgone => ?stays, fun rest at_ hw hgone => ?left⟩⟩
  case early =>
    obtain ⟨r, hr⟩ := checkpoint_early [w0, w1, w2] hw
    exact ⟨_, (entropy_windows w0 w1 w2 hruns hst hpass).trans (congrArg Host.Outcome.next hr), rfl, rfl, rfl, rfl⟩
  case fifth => exact ⟨_, entropy_windows w0 w1 w2 hruns hst hpass, checkpoint_fifth _ hw⟩
  case late => exact ⟨_, entropy_windows w0 w1 w2 hruns hst hpass, checkpoint_late _ hw⟩
  case closes =>
    refine congrArg Host.Outcome.next ?_
    rw [windowClose_fails hruns hst hfail, samplesFail_eq (by exact hfail)]
  case passes =>
    refine congrArg Host.Outcome.next ?_
    rw [samplesFail_none hpass]
    rfl
  case recovers =>
    have hfails := healthFail_eq hruns hst src test
    rw [if_neg (by simp [flushed]; omega)] at hfails
    refine ⟨_, congrArg Host.Outcome.next (a₂ := recovering src test s) ?_, recovering_entState .., ?_, ?_, ?_, ?_,
      recovering_failures ..⟩
    · rw [samplesFail_eq hfail, hfails]
      rfl
    all_goals rw [recovering_ent]; rfl
  case ends =>
    have hfails := healthFail_eq hruns hst src test
    rw [if_pos (by simp [flushed]; omega)] at hfails
    refine ⟨_, congrArg Host.Outcome.next
      (a₂ := (dropAll (((recovering src test s).put entIx Sub.ent_ENT_STATE entFailed).alarm 0x2A 0)).2) ?_, ?_, ?_, ?_⟩
    · rw [samplesFail_eq hfail, hfails]
      simp [dropAll, recovering_ent, flushed, hidle, drawsFailed]
    · exact (alarm_ob (by decide) (by decide) ..).trans (State.ob_put_self ..)
    all_goals simp [dropAll, recovering_ent, flushed]
  case now =>
    obtain ⟨e, he⟩ := entRead_now (s := s.put entWinIx Sub.entWin_ENT_READ_OP 1) (len := len)
      ((State.ob_put_ne (by decide)).trans hlen) (drawsNow_entTaken hdraw)
    have hpost := rowWindowStart_posts hstart he (by simp)
    exact ⟨_, rfl, (hpost.oct ..).trans (State.oct_putO_self ..), hpost.ends⟩
  case waits =>
    have he := entRead_waits (s := s.put entWinIx Sub.entWin_ENT_READ_OP 1) ((State.ob_put_ne (by decide)).trans hlen) hrun
      ((State.ob_put_ne (by decide)).trans hready) hfill
    have hpost := rowWindowStart_running hstart he rfl
    obtain ⟨d, a, w, ht⟩ := hpost.rest
    exact ⟨_, rfl, by rw [ht]; rfl, hpost.ends⟩
  case faults =>
    have hpost := rowWindowStart_posts hstart
      (entRead_failed (s := s.put entWinIx Sub.entWin_ENT_READ_OP 1) ((State.ob_put_ne (by decide)).trans hfailed)) (due_put ..)
    exact ⟨_, rfl, hpost.ke, hpost.ends⟩
  case served =>
    obtain ⟨u, hu, hrest⟩ := serveHead_takes hw hrun hready hfill
    have hserve : serveNext s = drawServed .read (s.nextDraw len) u := by rw [serveNext, hu]
    exact ⟨_, congrArg Host.Outcome.next hserve, State.oct_putO_self .., hrest, State.ob_put_self .., winEnd_idle ..⟩
  case stays =>
    refine congrArg Host.Outcome.next ?_
    rw [dropHead_waits hw hgone]
  case left =>
    refine ⟨_, congrArg Host.Outcome.next
      (a₂ := drawFailed .read .entropyFault (s.putEnt { s.ke.ent with waiting := rest })) ?_, rfl, State.ob_put_self .., winEnd_idle ..⟩
    rw [dropHead_leaves hw hgone]

end Sys2Proof.Machine
end

section
/-! The pair's heartbeats (R408, R416 to R418): SEL_ACT falls in the middle of a lane's transition. -/

namespace Sys2Proof.Machine

/-- An active unit of a pair whose heartbeat generator has been silent for 8 µs; lane 0 is on its way to ACTIVE, and a write of 0 to
its `TX_STATE` is held until it is there (R46). -/
def silentMidway : State :=
  let s := ((State.reset.put pairIx Sub.pair_PAIR_ENABLE 1).put psIx Sub.pairStat_ROLE 1).put (Ix.lane 0) Sub.lane_TX_STATE 3
  { s with
    rst := { gap := false, step := 5, coresHeld := false, rstout := false }
    time := { s.time with periods := 1000 }
    pair := { s.pair with selAct := true }
    lanes := { s.lanes with now := [(0, 2)], goal := [(0, 3)], heldTx := [(0, 0)] } }

/-- The lane idles with the release of SEL_ACT, which ends its transition and applies the held write. -/
theorem selActRelease_silentMidway : (selActRelease silentMidway).ob (Ix.lane 0) Sub.lane_TX_STATE = 0 := by decide +kernel

/-- Refutes O30: the release of SEL_ACT idles the lanes (R47), and where that ends a lane's transition the held write of its `TX_STATE`
takes effect (R46), so that the objects do not all stay as they are. -/
theorem not_heartbeatsRun : ¬ Obligations.HeartbeatsRun := by
  intro h
  obtain ⟨-, -, -, -, -, -, -, -, -, -, -, -, -, hrelease, -⟩ := h silentMidway
  obtain ⟨t, ht, -, -, hdict⟩ := hrelease (by decide +kernel) (by decide +kernel)
  obtain rfl : selActRelease silentMidway = t := Host.Outcome.next.inj ht
  have hstate := selActRelease_silentMidway
  rw [State.ob, hdict] at hstate
  exact absurd hstate (by decide +kernel)

end Sys2Proof.Machine
end

section
/-! The CAK table: its window, and the SAKs that go out to MKA and come in (R374 to R378). -/

namespace Sys2Proof.Machine

variable {s t u : State} {c : Caller}

/-! ### What the window's rules read is no number of it -/

section Taken
variable (ix sub v : Nat) (s : State)

@[simp] theorem cakAt_put (i : Nat) : (s.put ix sub v).cakAt i = s.cakAt i := rfl
@[simp] theorem cakLoadRows_put (level : Nat) (blob : Bytes) (len slot : Nat) :
    (s.put ix sub v).cakLoadRows level blob len slot = s.cakLoadRows level blob len slot := rfl
@[simp] theorem oct_put (ix' sub' : Nat) : (s.put ix sub v).oct ix' sub' = s.oct ix' sub' := rfl
@[simp] theorem put_ke : (s.put ix sub v).ke = s.ke := rfl

/-- The CAK window has taken the operation `code`. -/
def State.keTaken (code : Nat) (s : State) : State := s.put keWinIx Sub.keWin_KE_OP code

theorem keObject_keTaken (code : Nat) {sub : Nat} (h : sub < 256) (hne : sub ≠ Sub.keWin_KE_OP) :
    (s.keTaken code).ob keWinIx sub = s.ob keWinIx sub := by
  rw [State.keTaken, State.ob_put (by decide) h, if_neg fun k => hne k.2]

theorem cakNamed_keTaken (code i : Nat) : (s.keTaken code).cakNamed i = s.cakNamed i := by
  unfold State.cakNamed
  refine congrArg (fun p => (List.range 32).any p) (funext fun n => ?_)
  rw [State.keTaken, State.ob_put (by decide) (by decide), if_neg fun k => absurd k.2 (by decide)]

end Taken

theorem PostedFrom.cakAt {ix op st : Nat} {stat : Status} (h : PostedFrom u c ix op st stat t) (i : Nat) : t.cakAt i = u.cakAt i := by
  rw [State.cakAt, h.ke, State.cakAt]

theorem PostedFrom.kekAt {ix op st : Nat} {stat : Status} (h : PostedFrom u c ix op st stat t) (n : Nat) : t.kekAt n = u.kekAt n :=
  kekAt_congr h.vault n

/-! ### CAK_LOAD (R376) -/

/-- The entry that a CAK becomes. -/
def Cak.loaded (gen n source len : Nat) (ckn k : Bytes) : Cak :=
  { valid := true, long := k.length == 32, source := source, slot := n, cknLen := len, gen := gen, ckn := num (padTo 32 ckn)
    ick := num (padTo 32 (kdf8021x k "IEEE8021 ICK" (padTo 16 (ckn.take 16)) k.length)), cak := num (padTo 32 k) }

/-- The slot that a CAK's KEK stands in. -/
def KekSlot.ofCak (gen : Nat) (ckn k : Bytes) : KekSlot :=
  { valid := true, kind := 4, wrapOut := true, unwrapIn := true, from_ := 0x3F, gen := gen
    kek := num (kdf8021x k "IEEE8021 KEK" (padTo 16 (ckn.take 16)) k.length), short := k.length == 16 }

section Placed
variable (i n source len : Nat) (ckn k : Bytes) (s : State)

theorem placeCak_eq : placeCak i n source len ckn k s =
    (s.putCak i (.loaded (s.cakAt i).gen n source len ckn k)).putKek n (.ofCak (s.kekAt n).gen ckn k) := rfl

theorem placeCak_cakAt : (placeCak i n source len ckn k s).cakAt i = .loaded (s.cakAt i).gen n source len ckn k := by
  rw [placeCak_eq]
  simp [State.cakAt, State.putCak, State.putKek]

theorem placeCak_kekAt : (placeCak i n source len ckn k s).kekAt n = .ofCak (s.kekAt n).gen ckn k := by
  rw [placeCak_eq]
  exact kekAt_putKek ..

end Placed

/-- To keep a CAK's blob touches the table and the slots nowhere. -/
theorem keepCak_eq (blob k : Bytes) (x : CakBlob) (s : State) :
    ∃ l, keepCak blob k x s = { s with ke := { s.ke with store := l } } := by
  unfold keepCak
  dsimp only
  split
  · exact ⟨_, rfl⟩
  · exact ⟨s.ke.store, rfl⟩

theorem keOp_load {level len slot i n : Nat} {blob k : Bytes} (hheld : s.held = false)
    (hblob : s.oct keWinIx Sub.keWin_KE_BLOB = blob) (hlen : s.ob keWinIx Sub.keWin_KE_CKN_LEN = len)
    (hslot : s.ob keWinIx Sub.keWin_KE_KEK_SLOT = slot) (hrows : s.cakLoadRows level blob len slot = .ok ((i, n), k)) :
    ∃ l, keOp level 1 (s.keTaken 1) = ((({ placeCak i n 0 len ((s.oct keWinIx Sub.keWin_KE_CKN).take len) k (s.keTaken 1) with
      ke := { (placeCak i n 0 len ((s.oct keWinIx Sub.keWin_KE_CKN).take len) k (s.keTaken 1)).ke with store := l } } : State).put
        keWinIx Sub.keWin_KE_INDEX i).bump (Ctr.device + Ctr.VAULT_UNWRAP_OK), some .ok) := by
  obtain ⟨l, hl⟩ := keepCak_eq blob k ⟨i, blob, (s.oct keWinIx Sub.keWin_KE_CKN).take len, len, slot⟩
    (placeCak i n 0 len ((s.oct keWinIx Sub.keWin_KE_CKN).take len) k (s.keTaken 1))
  have hheld' : (s.keTaken 1).held = false := hheld
  have hlen' : (s.keTaken 1).ob keWinIx Sub.keWin_KE_CKN_LEN = len := (keObject_keTaken s 1 (by decide) (by decide)).trans hlen
  have hslot' : (s.keTaken 1).ob keWinIx Sub.keWin_KE_KEK_SLOT = slot := (keObject_keTaken s 1 (by decide) (by decide)).trans hslot
  have hblob' : (s.keTaken 1).oct keWinIx Sub.keWin_KE_BLOB = blob := hblob
  have hrows' : (s.keTaken 1).cakLoadRows level blob len slot = .ok ((i, n), k) := hrows
  have hckn : (s.keTaken 1).oct keWinIx Sub.keWin_KE_CKN = s.oct keWinIx Sub.keWin_KE_CKN := rfl
  refine ⟨l, ?_⟩
  simp only [keOp, cakLoad, hheld', hlen', hslot', hblob', hrows', hckn, hl, unwrapCount_ok, Bool.false_eq_true, if_false]

/-! ### CAK_FREE (R377) -/

theorem setPairState_ke {v : Nat} (hv : v ≠ 6) (s : State) : (setPairState v s).ke = s.ke := by
  rcases setPairState_cases hv s with h | ⟨w, h⟩
  · rw [h]
  · rw [h]
    simp [State.pairStateTaken]

theorem syncTest_ke (s : State) : (syncTest s).ke = s.ke := by
  unfold syncTest
  split_ifs
  · rfl
  · exact setPairState_ke (by decide) s
  · exact setPairState_ke (by decide) s
  · exact setPairState_ke (by decide) s
  · rfl

theorem clearKek_ke (n : Nat) (s : State) : (clearKek n s).ke = s.ke := syncTest_ke _

theorem freeCakEntry_valid {i : Nat} (h : (s.cakAt i).valid = true) :
    freeCakEntry i s = forgetCak i ((clearKek (s.cakAt i).slot s).putCak i { gen := nextGen (s.cakAt i).gen }) := by
  simp only [freeCakEntry, h, if_true, Cak.freed]

theorem freeCakEntry_cakAt {i : Nat} (h : (s.cakAt i).valid = true) :
    (freeCakEntry i s).cakAt i = { gen := nextGen (s.cakAt i).gen } := by
  rw [freeCakEntry_valid h]
  exact mget_mset_self ..

theorem freeCakEntry_kekAt {i : Nat} (h : (s.cakAt i).valid = true) :
    ((freeCakEntry i s).kekAt (s.cakAt i).slot).valid = false := by
  rw [freeCakEntry_valid h]
  exact (congrArg KekSlot.valid (kekAt_clearKek ..)).trans (KekSlot.cleared_invalid _)

theorem freeCakEntry_due {i : Nat} (h : (s.cakAt i).valid = true) : (freeCakEntry i s).due = s.due := by
  rw [freeCakEntry_valid h]
  exact clearKek_due ..

theorem keOp_free {level i : Nat} (hi : s.ob keWinIx Sub.keWin_KE_INDEX = i) (hnamed : s.cakNamed i = false) :
    keOp level 2 (s.keTaken 2) = (freeCakEntry i (s.keTaken 2), some .ok) := by
  have hi' : (s.keTaken 2).ob keWinIx Sub.keWin_KE_INDEX = i := (keObject_keTaken s 2 (by decide) (by decide)).trans hi
  have hnamed' : (s.keTaken 2).cakNamed i = false := (cakNamed_keTaken s 2 i).trans hnamed
  simp only [keOp, cakFree, hi', hnamed', Bool.false_eq_true, if_false]

theorem keOp_free_named {level i : Nat} (hi : s.ob keWinIx Sub.keWin_KE_INDEX = i) (hnamed : s.cakNamed i = true) :
    keOp level 2 (s.keTaken 2) = (s.keTaken 2, some .busy) := by
  have hi' : (s.keTaken 2).ob keWinIx Sub.keWin_KE_INDEX = i := (keObject_keTaken s 2 (by decide) (by decide)).trans hi
  have hnamed' : (s.keTaken 2).cakNamed i = true := (cakNamed_keTaken s 2 i).trans hnamed
  simp only [keOp, cakFree, hi', hnamed', if_true]

/-! ### INFO (R401) -/

theorem keOp_info {level i : Nat} (hi : s.ob keWinIx Sub.keWin_KE_INDEX = i) :
    keOp level 3 (s.keTaken 3) = ((s.keTaken 3).putO keWinIx Sub.keWin_KE_RECORD (be 36 (s.cakAt i).record), some .ok) := by
  have hi' : (s.keTaken 3).ob keWinIx Sub.keWin_KE_INDEX = i := (keObject_keTaken s 3 (by decide) (by decide)).trans hi
  simp only [keOp, cakInfo, hi']
  rfl

theorem rowKe_posts {code : Nat} {stat : Status} (h : Starts s c keWinIx Sub.keWin_KE_OP Sub.keWin_KE_STATUS code)
    (hact : keOp (s.levelOf c) code (s.keTaken code) = (u, some stat)) (hdue : u.due = s.due) :
    PostedFrom u c keWinIx Sub.keWin_KE_OP Sub.keWin_KE_STATUS stat (rowKe c code s).post :=
  rowWindowStart_posts h hact hdue

/-! ### SAKs in and out (R378) -/

theorem sakExport_ok {h i : Nat} (hcak : (s.cakAt i).valid = true) (hsak : s.sakLive (handleSlice h) h = true)
    (hexp : bits (s.keyAt (handleSlice h) (handleIndex h)).record 63 62 = 2) :
    s.sakExport h i = .ok (kwWrap (s.cakKek i) (s.keyAt (handleSlice h) (handleIndex h)).octets) := by
  simp [State.sakExport, hcak, hsak, hexp]

theorem sakExport_denied {h i : Nat} (hcak : (s.cakAt i).valid = true) (hsak : s.sakLive (handleSlice h) h = true)
    (hexp : bits (s.keyAt (handleSlice h) (handleIndex h)).record 63 62 ≠ 2) : s.sakExport h i = .error .denied := by
  simp [State.sakExport, hcak, hsak, hexp]

section Import
variable {w : Bytes} {i target ex serial label : Nat} (hcak : (s.cakAt i).valid = true) (hw : w.length = 24 ∨ w.length = 40)
include hcak hw

theorem sakImport_eq : s.sakImport w i target ex serial label =
    match kwUnwrap (s.cakKek i) w with
    | none => .error .integrity
    | some k =>
      .ok (makeHeader (s.cakAt i).slot ⟨if k.length = 16 then 1 else 2, ex, serial, label, 0, false⟩ target ++ wrapBody (s.cakKek i)
        (makeHeader (s.cakAt i).slot ⟨if k.length = 16 then 1 else 2, ex, serial, label, 0, false⟩ target) k) := by
  have hlen : ¬(w.length ≠ 24 ∧ w.length ≠ 40) := by omega
  simp only [State.sakImport, hcak, hlen, Bool.not_true, Bool.false_eq_true, if_false] <;> rfl

end Import

/-- Settles O24. INFO completes for a free entry too (log 52), and a short CAK's KEK stands zero-extended in its slot (log 51). -/
theorem caksAndSaksMove : Obligations.CaksAndSaksMove := by
  intro s c
  refine ⟨fun blob len slot i n k hs hheld hblob hlen hslot hrows => ?load, fun i hs hi hnamed hvalid => ?free,
    fun i hs hi hnamed => ?named, fun i hs hi => ?info, fun h i e hcak hsak he => ⟨fun hexp => ?out, fun hexp => ?kept⟩,
    fun w i target ex serial label hcak hw => ⟨fun k hk h hh => ?comes, fun hk => ?fails⟩⟩
  case load =>
    obtain ⟨l, hact⟩ := keOp_load hheld hblob hlen hslot hrows
    have hpost := rowKe_posts hs hact (by simp; rfl)
    have hcak := (hpost.cakAt i).trans (placeCak_cakAt ..)
    have hkek := (hpost.kekAt n).trans (placeCak_kekAt ..)
    refine ⟨_, rfl, ?_⟩
    beta_reduce
    rw [hcak, hkek]
    refine ⟨rfl, rfl, rfl, rfl, rfl, rfl, rfl, ?_, hpost.ends⟩
    exact (hpost.ob_ne (by decide) (by decide) (by decide)).trans (State.ob_put_self ..)
  case free =>
    have hvalid' : ((s.keTaken 2).cakAt i).valid = true := hvalid
    have hpost := rowKe_posts hs (keOp_free hi hnamed) ((freeCakEntry_due hvalid').trans (due_put ..))
    refine ⟨_, rfl, (hpost.cakAt i).trans (freeCakEntry_cakAt hvalid'), ?_, hpost.ends⟩
    rw [hpost.kekAt]
    exact freeCakEntry_kekAt hvalid'
  case named =>
    have hpost := rowKe_posts hs (keOp_free_named hi hnamed) (due_put ..)
    exact ⟨_, rfl, hpost.ke, hpost.vault, hpost.ends⟩
  case info =>
    have hpost := rowKe_posts hs (keOp_info hi) (by simp [State.keTaken])
    exact ⟨_, rfl, (hpost.oct ..).trans (State.oct_putO_self ..), hpost.ke, hpost.ends⟩
  case out =>
    subst he
    rw [show exec (.sakExport h i) s = .next (fwAnswer 1 (s.sakExport h i) s) from rfl, sakExport_ok hcak hsak hexp]
    rfl
  case kept =>
    subst he
    rw [show exec (.sakExport h i) s = .next (fwAnswer 1 (s.sakExport h i) s) from rfl, sakExport_denied hcak hsak hexp]
    rfl
  case comes =>
    subst hh
    rw [show exec (.sakImport w i target ex serial label) s = .next (fwAnswer 2 (s.sakImport w i target ex serial label) s) from rfl,
      sakImport_eq hcak hw, hk]
    rfl
  case fails =>
    rw [show exec (.sakImport w i target ex serial label) s = .next (fwAnswer 2 (s.sakImport w i target ex serial label) s) from rfl,
      sakImport_eq hcak hw, hk]
    rfl

end Sys2Proof.Machine
end

section
/-! Knot handshakes: a session's place, its messages and timers, and its operations in the engine (R371, R382 to R387). -/

namespace Sys2Proof.Machine

variable {s t u : State} {c : Caller} {g : Nat × Knot → Bool}

/-! ### Sessions that end, and their contexts (R372) -/

/-- From `s` to `t`, sessions may have ended, contexts with them, and operations of theirs that waited in the engine. -/
structure FewerKnots (s t : State) : Prop where
  ob : ∀ {ix sub : Nat}, okey ix sub ≠ okey keIx Sub.ke_PKE_QUEUE_FILL → t.ob ix sub = s.ob ix sub
  rest : ∃ l e q n, t = { s with
    ke := { s.ke with knot := l, eph := e, queue := q }, dict := { s.dict with nums := n } }

theorem FewerKnots.refl (s : State) : FewerKnots s s := ⟨fun _ => rfl, s.ke.knot, s.ke.eph, s.ke.queue, s.dict.nums, rfl⟩

theorem FewerKnots.trans (h : FewerKnots s t) (h' : FewerKnots t u) : FewerKnots s u where
  ob hne := (h'.ob hne).trans (h.ob hne)
  rest := by
    obtain ⟨l, e, q, n, rfl⟩ := h.rest
    obtain ⟨l', e', q', n', rfl⟩ := h'.rest
    exact ⟨l', e', q', n', rfl⟩

theorem setPkeQueue_fewer (q : List PkeTask) (s : State) : FewerKnots s (setPkeQueue q s) where
  ob hne := State.ob_put_ne hne
  rest := ⟨s.ke.knot, s.ke.eph, q, _, rfl⟩

theorem pkeTrim_fewer (s : State) : FewerKnots s (pkeTrim s) := by
  unfold pkeTrim
  dsimp only
  split
  · exact .refl s
  · exact setPkeQueue_fewer ..

@[simp] theorem pkeTrim_knot (s : State) : (pkeTrim s).ke.knot = s.ke.knot := by
  unfold pkeTrim
  dsimp only
  split <;> rfl

@[simp] theorem pkeTrim_eph (s : State) : (pkeTrim s).ke.eph = s.ke.eph := by
  unfold pkeTrim
  dsimp only
  split <;> rfl

theorem dropKnots_fewer (g : Nat × Knot → Bool) (s : State) : FewerKnots s (dropKnots g s) where
  ob hne := (pkeTrim_fewer _).ob hne
  rest := by
    obtain ⟨l, e, q, n, h⟩ := (pkeTrim_fewer { s with ke := { s.ke with
      knot := s.ke.knot.filter (fun x => !g x)
      eph := mdrop (fun c => !State.ephUsed { s with ke := { s.ke with knot := s.ke.knot.filter (fun x => !g x) } } c) s.ke.eph } }).rest
    exact ⟨l, e, q, n, h⟩

theorem dropKnots_knot (g : Nat × Knot → Bool) (s : State) : (dropKnots g s).ke.knot = s.ke.knot.filter (fun x => !g x) :=
  pkeTrim_knot _

theorem dropKnots_eph (g : Nat × Knot → Bool) (s : State) : (dropKnots g s).ke.eph =
    mdrop (fun c => !State.ephUsed { s with ke := { s.ke with knot := s.ke.knot.filter (fun x => !g x) } } c) s.ke.eph :=
  pkeTrim_eph _

theorem contextRoom_fewer (s : State) : FewerKnots s (contextRoom s) := by
  unfold contextRoom
  split
  · exact dropKnots_fewer ..
  · exact .refl s

/-- From `s` to `t` the sessions, a manager's and the handshakes', use the same contexts. -/
structure SameContexts (s t : State) : Prop where
  knot : t.ke.knot = s.ke.knot
  eph : t.ke.eph = s.ke.eph
  sess : t.acc.sess = s.acc.sess

theorem SameContexts.freeEph (h : SameContexts s t) : t.freeEph = s.freeEph := by rw [State.freeEph, h.eph, State.freeEph]

theorem SameContexts.dropKnots (h : SameContexts s t) (g : Nat × Knot → Bool) : SameContexts (dropKnots g s) (dropKnots g t) where
  knot := by rw [dropKnots_knot, dropKnots_knot, h.knot]
  eph := by
    rw [dropKnots_eph, dropKnots_eph, h.knot, h.eph]
    refine congrArg (fun p => mdrop p s.ke.eph) (funext fun c => ?_)
    simp only [State.ephUsed, h.sess]
  sess := by
    obtain ⟨_, _, _, _, hs⟩ := (dropKnots_fewer g s).rest
    obtain ⟨_, _, _, _, ht⟩ := (dropKnots_fewer g t).rest
    rw [hs, ht]
    exact h.sess

theorem SameContexts.contextRoom (h : SameContexts s t) : SameContexts (contextRoom s) (contextRoom t) := by
  unfold Machine.contextRoom
  rw [h.freeEph]
  split
  · exact h.dropKnots _
  · exact h

/-- Where a handshake starts at a place, the INITs that only wait there have ended and one context is made free (R372, R382). -/
def State.knotRoom (place : Nat) (s : State) : State :=
  contextRoom (dropKnots (fun x => x.2.place == place && x.2.stage == .answered) s)

theorem knotRoom_fewer (place : Nat) (s : State) : FewerKnots s (s.knotRoom place) :=
  (dropKnots_fewer ..).trans (contextRoom_fewer _)

/-! ### A handshake starts (R382) -/

theorem knotAllowed_owner (h : s.knotAllowed = true) :
    s.fuse.lc = 2 ∧ sha384 (s.oct keIx Sub.ke_OWNER_ROOT_PUB) = s.ownerId := by
  simp only [State.knotAllowed, Bool.and_eq_true, beq_iff_eq] at h
  exact h.1

theorem knotChecked_allowed (h : s.knotAllowed = true) : knotChecked s = s.pkeCount 2 := if_pos (knotAllowed_owner h)

/-- A handshake of this place may be begun, in this context, and its draw waits. -/
structure Begins (place e : Nat) (s : State) : Prop where
  allowed : s.knotAllowed = true
  held : s.held = false
  idle : s.knotInitiates place = false
  room : (s.knotRoom place).freeEph = some e
  runs : s.ke.ent.stopped = false
  ready : s.entState = entReady
  dry : s.entFill < 40

/-- The session that a handshake begins with. -/
def Knot.begun (place e at_ : Nat) : Knot := { place := place, init := true, stage := .drawing, ctx := e, heard := at_ }

/-- A session stands at its place, before its draw. -/
def State.knotPlaced (x : Knot) (e : Nat) (s : State) : State :=
  ((setKnotState x.place 1 (s.putEph e {})).addKnot { x with ctx := e }).2

section Placed
variable (x : Knot) (e : Nat) (s : State)

theorem setKnotState_keeps (place v : Nat) (s : State) : ∃ n, setKnotState place v s = { s with dict := { s.dict with nums := n } } := by
  unfold setKnotState
  split <;> exact ⟨_, rfl⟩

@[simp] theorem setKnotState_ke (place v : Nat) (s : State) : (setKnotState place v s).ke = s.ke := by
  obtain ⟨n, hn⟩ := setKnotState_keeps place v s
  rw [hn]

@[simp] theorem setKnotState_cnt (place v : Nat) (s : State) : (setKnotState place v s).cnt = s.cnt := by
  obtain ⟨n, hn⟩ := setKnotState_keeps place v s
  rw [hn]

theorem setKnotState_ob {place v ix sub : Nat} (htether : okey ix sub ≠ okey keIx Sub.ke_PAIR_KNOT_STATE)
    (hport : okey ix sub ≠ okey (Ix.kePort place) Sub.kePort_KNOT_STATE) : (setKnotState place v s).ob ix sub = s.ob ix sub := by
  unfold setKnotState
  split
  · exact State.ob_put_ne htether
  · exact State.ob_put_ne hport

theorem knotPlaced_ke : (s.knotPlaced x e).ke = { s.ke with
    eph := minsert s.ke.eph e {}, nextKnot := s.ke.nextKnot + 1
    knot := minsert s.ke.knot s.ke.nextKnot { x with ctx := e, heard := s.time.periods } } := by
  obtain ⟨n, hn⟩ := setKnotState_keeps x.place 1 (s.putEph e {})
  rw [State.knotPlaced, hn]
  rfl

theorem knotPlaced_ob (ix sub : Nat) : (s.knotPlaced x e).ob ix sub = (setKnotState x.place 1 s).ob ix sub := by
  have h : (setKnotState x.place 1 (s.putEph e {})).ob ix sub = (setKnotState x.place 1 s).ob ix sub := by
    unfold setKnotState
    split <;> rfl
  exact h

theorem knotPlaced_time : (s.knotPlaced x e).time = s.time := by
  obtain ⟨n, hn⟩ := setKnotState_keeps x.place 1 (s.putEph e {})
  rw [State.knotPlaced, hn]
  rfl

end Placed

/-- A session begins, and its draw waits in the line (R394). -/
theorem knotBegin_waits {x : Knot} {e len : Nat} (hruns : s.ke.ent.stopped = false) (hready : s.entState = entReady)
    (hdry : s.entFill < len) (hplace : x.place < 33) : knotBegin x e len s = (s.knotPlaced x e).putEnt
      { s.ke.ent with waiting := s.ke.ent.waiting ++ [⟨.knot s.ke.nextKnot, len, s.time.periods⟩] } := by
  have hent : (s.knotPlaced x e).ke.ent = s.ke.ent := by rw [knotPlaced_ke]
  have hstate : (s.knotPlaced x e).entState = entReady := by
    rw [State.entState, knotPlaced_ob, setKnotState_ob _ (by decide) (by simp only [okey, entIx, Ix.kePort, Sub.kePort_KNOT_STATE, Sub.ent_ENT_STATE]; omega)]
    exact hready
  have hnum : ((setKnotState x.place 1 (s.putEph e {})).addKnot { x with ctx := e }).1 = s.ke.nextKnot := by
    obtain ⟨n, hn⟩ := setKnotState_keeps x.place 1 (s.putEph e {})
    rw [hn]
    rfl
  have hdraw : drawRequest (.knot s.ke.nextKnot) len (s.knotPlaced x e) = (.waits, (s.knotPlaced x e).putEnt
      { s.ke.ent with waiting := s.ke.ent.waiting ++ [⟨.knot s.ke.nextKnot, len, s.time.periods⟩] }) := by
    have hno : ¬(s.ke.ent.waiting = [] ∧ len ≤ (s.knotPlaced x e).entFill) := by
      rw [State.entFill, hent]
      exact fun k => absurd k.2 (by simpa [State.entFill] using hdry)
    simp [drawRequest, hstate, hent, hruns, hno, knotPlaced_time]
  unfold knotBegin
  dsimp only
  rw [hnum]
  exact (congrArg (fun r : Draw × State => match r with
    | (.served b, s') => knotDrawn s.ke.nextKnot b s'
    | (.waits, s') => s'
    | (.fails st, s') => knotEntropy s.ke.nextKnot st s') hdraw)


theorem knotRoom_freeEph (place n : Nat) (s : State) : ((s.pkeCount n).knotRoom place).freeEph = (s.knotRoom place).freeEph :=
  ((SameContexts.mk rfl rfl rfl : SameContexts s (s.pkeCount n)).dropKnots _).contextRoom.freeEph

/-- The machine in which a handshake begins. -/
def State.knotBegun (place e : Nat) (s : State) : State :=
  (((s.pkeCount 2).knotRoom place).knotPlaced { place := place, init := true, stage := .drawing } e).putEnt
    { s.ke.ent with waiting := s.ke.ent.waiting ++ [⟨.knot s.ke.nextKnot, 40, s.time.periods⟩] }

theorem knotStart_begins {place e : Nat} (h : Begins place e s) (hplace : place < 33) :
    knotStart place s = (s.knotBegun place e, .ok) := by
  obtain ⟨hallowed, hheld, hidle, hroom, hruns, hready, hdry⟩ := h
  have hfewer := knotRoom_fewer place (s.pkeCount 2)
  obtain ⟨l, ep, q, n, hrest⟩ := hfewer.rest
  have hstate : ((s.pkeCount 2).knotRoom place).entState = entReady :=
    (hfewer.ob (by decide)).trans ((State.ob_addOb_ne (by decide)).trans hready)
  have hent : ((s.pkeCount 2).knotRoom place).ke.ent = s.ke.ent := by rw [hrest]; rfl
  have hnext : ((s.pkeCount 2).knotRoom place).ke.nextKnot = s.ke.nextKnot := by rw [hrest]; rfl
  have htime : ((s.pkeCount 2).knotRoom place).time = s.time := by rw [hrest]; rfl
  have hbegin := knotBegin_waits (x := { place := place, init := true, stage := .drawing }) (e := e) (len := 40)
    ((congrArg Entropy.stopped hent).trans hruns) hstate (by rw [State.entFill, hent]; exact hdry) hplace
  rw [hent, hnext, htime] at hbegin
  have hfree := (knotRoom_freeEph place 2 s).trans hroom
  simp only [knotStart, knotChecked_allowed hallowed, hallowed, hheld, hidle, Bool.not_true, Bool.false_eq_true, or_self, if_false]
  rw [State.knotRoom] at hfree hbegin
  simp only [hfree, hbegin]
  rfl

section Begun
variable (place e : Nat) (s : State)

theorem knotBegun_knot : mfind (s.knotBegun place e).ke.knot s.ke.nextKnot = some (.begun place e s.time.periods) := by
  obtain ⟨l, ep, q, n, hrest⟩ := (knotRoom_fewer place (s.pkeCount 2)).rest
  rw [State.knotBegun, State.putEnt, knotPlaced_ke, hrest]
  exact mfind_minsert_self ..

theorem knotBegun_eph : mfind (s.knotBegun place e).ke.eph e = some {} := by
  rw [State.knotBegun, State.putEnt, knotPlaced_ke]
  exact mfind_minsert_self ..

theorem knotBegun_waiting : (s.knotBegun place e).ke.ent.waiting =
    s.ke.ent.waiting ++ [⟨.knot s.ke.nextKnot, 40, s.time.periods⟩] := rfl

theorem knotBegun_ob (ix sub : Nat) : (s.knotBegun place e).ob ix sub =
    (setKnotState place 1 ((s.pkeCount 2).knotRoom place)).ob ix sub := knotPlaced_ob ..

theorem knotBegun_ops (h : place < 33) : (s.knotBegun place e).ob keIx Sub.ke_PKE_OPS = (s.ob keIx Sub.ke_PKE_OPS + 2) % 2 ^ 64 := by
  rw [knotBegun_ob, setKnotState_ob _ (by decide) (by simp only [okey, keIx, Ix.kePort, Sub.kePort_KNOT_STATE, Sub.ke_PKE_OPS]; omega),
    (knotRoom_fewer ..).ob (by decide)]
  exact State.ob_addOb_self ..

end Begun

/-- KNOT_RUN is taken, and stands as it was written. -/
theorem knotRunWrite_begins {place ix sub e : Nat} (hhome : place = tetherPlace → s.home = true)
    (hmode : place ≠ tetherPlace → s.ob (Ix.kePort place) Sub.kePort_KNOT_MODE = 2) (h : Begins place e s) (hplace : place < 33) :
    knotRunWrite place ix sub 1 s = ((s.knotBegun place e).put ix sub 1, .ok) := by
  have hhere : ¬(place = tetherPlace ∧ !s.home) := fun k => by simp [hhome k.1] at k
  have hmay : ¬(place ≠ tetherPlace ∧ s.ob (Ix.kePort place) Sub.kePort_KNOT_MODE ≠ 2) := fun k => k.2 (hmode k.1)
  simp only [knotRunWrite, knotRun, hhere, hmay, knotStart_begins h hplace, Nat.one_ne_zero, if_false]

theorem knotRunWrite_denied {place ix sub : Nat} (hplace : place ≠ tetherPlace) (h : s.knotAllowed = false ∨ s.held = true)
    (hmode : s.ob (Ix.kePort place) Sub.kePort_KNOT_MODE = 2) : knotRunWrite place ix sub 1 s = (knotChecked s, .denied) := by
  have hstart : knotStart place s = (knotChecked s, .denied) := if_pos (h.imp (by simp [·]) id)
  simp [knotRunWrite, knotRun, hstart, hplace, hmode]

theorem knotRunWrite_passive {place ix sub : Nat} (hplace : place ≠ tetherPlace)
    (hmode : s.ob (Ix.kePort place) Sub.kePort_KNOT_MODE ≠ 2) : knotRunWrite place ix sub 1 s = (s, .denied) := by
  simp [knotRunWrite, knotRun, hplace, hmode]

theorem knotRunWrite_away {ix sub v : Nat} (h : s.home = false) : knotRunWrite tetherPlace ix sub v s = (s, .range) := by
  simp [knotRunWrite, h]

/-! ### Segments (R383) -/

theorem knotReceived_line {n : Nat} {src f : Bytes} (hn : n < 32) (hon : s.sliceOn (n / 8) = true) (hcores : s.rst.coresHeld = false) :
    exec (.knotMessageReceived n src [f]) s = .next (knotReceive n src f s) := by
  have hplace : n ≠ tetherPlace := by simp only [tetherPlace]; omega
  refine congrArg Host.Outcome.next ?_
  simp [knotReceived, State.knotHere, hplace, hon, hcores]

theorem knotReceive_malformed {n : Nat} {src f : Bytes} (h : segmentForm f = false) :
    knotReceive n src f s = s.bump (Ctr.device + Ctr.KNOT_BAD_FORM) := by
  simp [knotReceive, h]

/-- The first segment of a longer message waits for the rest. -/
theorem knotReceive_waits {n : Nat} {src f : Bytes} (hform : segmentForm f = true) (hmore : 1 < fld f 3 1) (hnone : s.ke.parts = []) :
    knotReceive n src f s = { s with ke := { s.ke with
      parts := [⟨n, src, fld f 0 1, fld f 1 1, fld f 3 1, fld f 4 8, [(fld f 2 1, sub f 16 (fld f 12 2))]⟩] } } := by
  simp [knotReceive, hform, hnone, mfind, minsert, hmore]

/-- A message of one segment is whole. -/
theorem knotReceive_whole {n : Nat} {src f : Bytes} (hform : segmentForm f = true) (hone : fld f 3 1 ≤ 1) (hnone : s.ke.parts = []) :
    knotReceive n src f s = knotMessage ⟨n, src, fld f 0 1, fld f 1 1, fld f 4 8, sub f 16 (fld f 12 2)⟩ s := by
  have hlast : ¬ 1 < fld f 3 1 := by omega
  have hself : ({ s with ke := { s.ke with parts := [] } } : State) = s := by rw [← hnone]
  simp [knotReceive, hform, hnone, mfind, minsert, hlast, hself]

theorem segmentForm_segs {f : Bytes} (h : segmentForm f = true) : fld f 3 1 = knotSegs (fld f 1 1) := by
  simp only [segmentForm, Bool.and_eq_true, beq_iff_eq] at h
  exact h.1.1.1.1.1.2

/-! ### The end of a session (R382, R387) -/

/-- The session's INIT stays open for further peers, or it has left. -/
def State.knotLeft (s : State) (k : Nat) (x : Knot) : Option Knot :=
  x.peer.bind fun p =>
    if x.init && x.init1 != [] && x.place != tetherPlace &&
        !s.ke.knot.any (fun y => y.1 != k && y.2.place == x.place && y.2.init && y.2.sid == x.sid) then
      some { x with stage := .answered, ops := [], seen := p :: x.seen, peer := none }
    else none

theorem dropKnot_knot (k : Nat) (s : State) : mfind (s.dropKnot k).ke.knot k = none := by
  rw [State.dropKnot, dropKnots_knot]
  exact mfind_filter_none (p := fun j => !(j == k)) (by simp)

theorem dropKnots_cnt (g : Nat × Knot → Bool) (s : State) : (dropKnots g s).cnt = s.cnt := by
  obtain ⟨_, _, _, _, h⟩ := (dropKnots_fewer g s).rest
  rw [h]

theorem knotLeave_knot (k : Nat) (x : Knot) (s : State) : mfind (knotLeave k x s).ke.knot k = s.knotLeft k x := by
  unfold knotLeave State.knotLeft
  dsimp only
  cases x.peer with
  | none => exact dropKnot_knot k s
  | some p =>
    dsimp only [Option.bind]
    split
    · exact mfind_minsert_self ..
    · exact dropKnot_knot k s

theorem knotLeave_cnt (k : Nat) (x : Knot) (s : State) : (knotLeave k x s).cnt = s.cnt := by
  unfold knotLeave
  dsimp only
  split
  · split
    · rfl
    · exact dropKnots_cnt ..
  · exact dropKnots_cnt ..

/-- The end of a session tells its status; what became of the session is as it left. -/
theorem knotEnd_keeps (k : Nat) (x : Knot) (st : Status) (entry : Nat) (s : State) :
    (knotEnd k x st entry s).ke = (knotLeave k x s).ke ∧ (knotEnd k x st entry s).cnt = (knotLeave k x s).cnt := by
  unfold knotEnd
  constructor <;> split_ifs <;> simp

theorem knotEnd_knot (k : Nat) (x : Knot) (st : Status) (entry : Nat) (s : State) :
    mfind (knotEnd k x st entry s).ke.knot k = s.knotLeft k x := by
  rw [(knotEnd_keeps ..).1, knotLeave_knot]

theorem knotEnd_cnt (k : Nat) (x : Knot) (st : Status) (entry : Nat) (s : State) : (knotEnd k x st entry s).cnt = s.cnt := by
  rw [(knotEnd_keeps ..).2, knotLeave_cnt]

/-! ### ABORT is received (R387) -/

theorem knotFor_place {m : KnotMsg} {k : Nat} {x : Knot} (h : s.knotFor m = some (k, x)) : x.place = m.place := by
  have hmine : ∀ {p : Nat × Knot → Bool}, (∀ y, p y = true → y.2.place = m.place) → s.ke.knot.find? p = some (k, x) →
      x.place = m.place := fun hp hfind => hp _ (List.find?_some hfind)
  have hopen : ∀ {b : Bool}, (if b = true then none else s.ke.knot.find? (fun y => y.2.place == m.place && y.2.sid == m.sid && y.2.init &&
      y.2.init1 != [])) = some (k, x) → x.place = m.place := by
    intro b hb
    cases b with
    | true => exact nomatch hb
    | false => exact hmine (by simp +contextual) hb
  unfold State.knotFor at h
  dsimp only at h
  split at h
  · exact hopen h
  · exact hmine (by simp +contextual) h
  · exact hmine (by simp +contextual) h
  · split at h
    next y hy =>
      injection h with h
      subst h
      exact hmine (by simp +contextual) hy
    next => exact hopen h
  · exact nomatch h

theorem knotMessage_abort {m : KnotMsg} {k : Nat} {x : Knot} (hmsg : m.msg = 5) (hform : m.form = true) (hfor : s.knotFor m = some (k, x))
    (hpeer : x.peer = some m.src) (hver : m.ver / 16 = 1) (htakes : s.knotRefuses m.place = false) :
    knotMessage m s = knotEnd k x (statusOfReason (fld m.body 0 1)) 0 (s.bump (Ctr.device + Ctr.KNOT_ABORTED)) := by
  have hparty : s.knotParty k x m.src = (k, x, s) := if_pos hpeer
  have hrows : knotRows m (some (k, x)) s = knotAborted (some (k, x)) m s := by
    simp [knotRows, hver, htakes, hmsg]
  simp only [knotMessage, hform, hfor, hparty, hrows, Bool.not_true, Bool.false_eq_true, if_false]
  rfl

/-! ### A message is sent (R383) -/

/-- Line port `n` carries frames of the device's own, and its lanes turn nothing back. -/
structure SendsPlain (n : Nat) (s : State) : Prop where
  sends : s.ownSends n = true
  mode : s.otnMode (n / 8) = 0
  loop : s.laneLoop (0x40 + n) = 0

/-- From `s` to `t` these emissions left, and the pacer was charged for them. -/
def LeftPort (l : List Emission) (s t : State) : Prop :=
  ∃ a b, t = { s with tm := { s.tm with credit := a, creditLast := b }, wire := s.wire ++ l }

theorem SendsPlain.left {n : Nat} {l : List Emission} (h : SendsPlain n s) (ht : LeftPort l s t) : SendsPlain n t := by
  obtain ⟨a, b, rfl⟩ := ht
  exact ⟨h.sends, h.mode, h.loop⟩

theorem sendOwn_port {n : Nat} (h : SendsPlain n s) (e : Emission) (b : Bytes) : LeftPort [e] s (sendOwn n e b s) := by
  have hforms : s.forms (0x40 + n) = true := by
    have hs := h.sends
    simp only [State.ownSends, h.mode, if_true, Bool.and_eq_true] at hs
    exact hs.2
  simp only [sendOwn, sendOut, h.mode, hforms, h.loop, if_true, State.chargePacer]
  exact ⟨_, _, rfl⟩

/-- Frames that leave one after the other. -/
theorem leftPort_foldl {β : Type} {n : Nat} {f : State → β → State}
    (hf : ∀ u b, SendsPlain n u → ∃ e, LeftPort [e] u (f u b)) (l : List β) (h : SendsPlain n s) :
    ∃ w, LeftPort w s (l.foldl f s) ∧ w.length = l.length := by
  induction l generalizing s with
  | nil => exact ⟨[], ⟨s.tm.credit, s.tm.creditLast, by simp⟩, rfl⟩
  | cons b l ih =>
    obtain ⟨e, he⟩ := hf s b h
    obtain ⟨w, ⟨a', b', hw⟩, hlen⟩ := ih (h.left he)
    obtain ⟨a, b, he⟩ := he
    refine ⟨e :: w, ⟨a', b', ?_⟩, by simp [hlen]⟩
    rw [List.foldl_cons, hw, he]
    simp

/-- A message leaves in its segments. -/
theorem knotSend_port {n : Nat} (hn : n < 32) (hsends : s.knotSends n = true) (hmode : s.otnMode (n / 8) = 0)
    (hloop : s.laneLoop (0x40 + n) = 0) (msg sid : Nat) (da body : Bytes) :
    ∃ w, LeftPort w s (knotSend n msg sid da body s) ∧ w.length = knotSegs msg := by
  have hplace : n ≠ tetherPlace := by simp only [tetherPlace]; omega
  have hown : SendsPlain n s := by
    simp only [State.knotSends, beq_false_of_ne hplace, Bool.false_or, Bool.and_eq_true] at hsends
    exact ⟨hsends.2, hmode, hloop⟩
  obtain ⟨w, hw, hlen⟩ := leftPort_foldl (n := n) (f := fun t i =>
    sendOwn n (.knot n (da ++ t.oct (Ix.port (0x40 + n)) Sub.port_PAUSE_SA ++ be 2 0x88B6 ++ knotSegment msg sid body i))
      (da ++ t.oct (Ix.port (0x40 + n)) Sub.port_PAUSE_SA ++ be 2 0x88B6 ++ knotSegment msg sid body i) t)
    (fun u i hu => ⟨_, sendOwn_port hu _ _⟩) (List.range (knotSegs msg)) hown
  refine ⟨w, ?_, by rw [hlen, List.length_range]⟩
  simpa only [knotSend, hsends, hplace, Bool.not_true, Bool.false_eq_true, if_false] using hw

/-! ### The timers of a session (R387) -/

section Timers
variable {k : Nat} {x : Knot} (hk : mfind s.ke.knot k = some x)
include hk

theorem knotRetry_early (h : s.retryDue x = false) : knotRetry k s = s := by simp [knotRetry, hk, h]

theorem knotRetry_sends (hstage : x.stage = .sentInit) (hsends : x.sends < 5) (h : s.retryDue x = true) :
    knotRetry k s = (knotSend x.place x.lastMsg x.sid (s.knotDa x) x.last s).putKnot k
      { x with sends := x.sends + 1, heard := s.time.periods } := by
  have hmore : ¬ 5 ≤ x.sends := by omega
  simp [knotRetry, hk, h, hstage, hmore]

theorem knotTimeout_early (h : s.knotOver x = false) (hsends : x.sends < 5) : knotTimeout k s = s := by
  have hmore : ¬ 5 ≤ x.sends := by omega
  simp [knotTimeout, hk, h, hmore]

theorem knotTimeout_open (hstage : x.stage = .answered) (h : s.knotOver x = true) : knotTimeout k s = s.dropKnot k := by
  simp [knotTimeout, hk, h, hstage]

theorem knotTimeout_ends (hstage : x.stage ≠ .answered) (h : s.knotOver x = true ∨ (5 ≤ x.sends ∧ s.retryDue x = true)) :
    knotTimeout k s = knotTimedOut k x s := by
  simp only [knotTimeout, hk, if_neg hstage, if_pos h]

end Timers

/-- No peer has answered a session, or it is none that stays open: it leaves. -/
theorem knotLeft_none {k : Nat} {x : Knot} (h : x.peer = none ∨ x.init1 = []) : s.knotLeft k x = none := by
  rcases h with h | h
  · simp [State.knotLeft, h]
  · cases hp : x.peer <;> simp [State.knotLeft, h, hp]

/-! ### The operations of a session (R371, R386) -/

section Operations
variable {op next : PkeOp} {k : Nat} (hq : s.ke.queue = [{ op := op, who := .knot k }]) (hdraws : op.draws = 0)
include hq hdraws

theorem pkeComplete_knot : pkeComplete s = knotStep op k (s.ke.drawn.getD []) s.pkeIdle := pkeComplete_idle hq (.inl hdraws)

end Operations

/-- An operation that draws nothing leaves its session and its context as they are. -/
theorem took_undrawn {op : PkeOp} (h : op.draws = 0) (x : Knot) (e : Eph) (b : Bytes) : x.took op b = x ∧ e.took op b = e := by
  cases op <;> simp_all [PkeOp.draws, Knot.took, Eph.took]


theorem State.ob_putEph (n : Nat) (e : Eph) (ix sub : Nat) (s : State) : (s.putEph n e).ob ix sub = s.ob ix sub := rfl

theorem stageCheck_congr {x : Knot} (hoct : t.dict.octs = s.dict.octs) (hfuse : t.fuse = s.fuse)
    (hsvn : t.ob keIx Sub.ke_KNOT_MIN_SVN = s.ob keIx Sub.ke_KNOT_MIN_SVN) (heph : t.ephAt x.ctx = s.ephAt x.ctx) (n : Nat) :
    t.stageCheck x n = s.stageCheck x n := by
  have hcred : ∀ place level p th e, t.credCheck place level p th e = s.credCheck place level p th e := by
    intro place level p th e
    simp only [State.credCheck, State.endorsePolicy, State.oct, hoct, State.ownerId, hfuse, hsvn]
    rfl
  unfold State.stageCheck
  simp only [hcred, heph]

theorem putEph_stageCheck (x : Knot) (n : Nat) (s : State) :
    (s.putEph x.ctx (s.ephAt x.ctx)).stageCheck x n = s.stageCheck x n := by
  have heph : (s.putEph x.ctx (s.ephAt x.ctx)).ephAt x.ctx = s.ephAt x.ctx := by simp [State.ephAt, State.putEph, mget]
  exact stageCheck_congr (s := s) (t := s.putEph x.ctx (s.ephAt x.ctx)) rfl rfl (State.ob_putEph ..) heph n

/-- The next operation of a session whose check passed joins an empty queue. -/
theorem knotStep_next {op next : PkeOp} {rest : List PkeOp} {k : Nat} {x : Knot} (b : Bytes) (hdraws : op.draws = 0)
    (hnext : next.draws = 0) (hq : s.ke.queue = []) (hk : mfind s.ke.knot k = some x) (hops : x.ops = op :: next :: rest)
    (hcheck : s.stageCheck { x with ops := next :: rest } (rest.length + 1) = .ok) :
    knotStep op k b s = setPkeQueue [{ op := next, who := .knot k }]
      ((s.putEph x.ctx (s.ephAt x.ctx)).putKnot k { x with ops := next :: rest }) := by
  obtain ⟨hx, he⟩ := took_undrawn hdraws x (s.ephAt x.ctx) b
  have hcheck' : (s.putEph x.ctx (s.ephAt x.ctx)).stageCheck { x with ops := next :: rest } (rest.length + 1) = .ok :=
    (putEph_stageCheck { x with ops := next :: rest } (rest.length + 1) s).trans hcheck
  have hqueue := pkeWindow_starts (s := (s.putEph x.ctx (s.ephAt x.ctx)).putKnot k { x with ops := next :: rest }) hq hnext (.knot k) []
  have hjoin : knotQueue next k ((s.putEph x.ctx (s.ephAt x.ctx)).putKnot k { x with ops := next :: rest }) =
      setPkeQueue [{ op := next, who := .knot k }] ((s.putEph x.ctx (s.ephAt x.ctx)).putKnot k { x with ops := next :: rest }) := by
    unfold knotQueue
    rw [show pkeQueue { op := next, who := .knot k } _ = _ from hqueue]
  simp only [knotStep, hk, hx, he, hops, List.drop_succ_cons, List.drop_zero, List.length_cons,
    hcheck', hjoin]

theorem knotStep_gone {op : PkeOp} {k : Nat} (b : Bytes) (h : mfind s.ke.knot k = none) : knotStep op k b s = s := by
  simp only [knotStep, h]

theorem pkeIdle_ob {ix sub : Nat} (hops : okey ix sub ≠ okey keIx Sub.ke_PKE_OPS) (hfill : okey ix sub ≠ okey keIx Sub.ke_PKE_QUEUE_FILL) :
    s.pkeIdle.ob ix sub = s.ob ix sub := by
  unfold State.pkeIdle
  dsimp only
  split
  · exact State.ob_put_ne hfill
  · exact (State.ob_put_ne hfill).trans (State.ob_addOb_ne hops)

theorem pkeIdle_stageCheck (x : Knot) (n : Nat) : s.pkeIdle.stageCheck x n = s.stageCheck x n := by
  obtain ⟨m, hm⟩ := pkeIdle_eq s
  exact stageCheck_congr (by rw [hm]) (by rw [hm]) (pkeIdle_ob (by decide) (by decide)) (by rw [hm]; rfl) n

theorem execKnotRun_eq {n : Nat} (c : Caller) (v : Nat) (s : State) (hn : n < 32) : exec (.knotRun c n v) s =
    .next (rowWrite c (Ix.kePort n) Sub.kePort_KNOT_RUN (.num v) (knotRunWrite n (Ix.kePort n) Sub.kePort_KNOT_RUN v) s) := by
  have hexec : exec (.knotRun c n v) s = .next (rowWrite c (Ix.kePort (n % 32)) Sub.kePort_KNOT_RUN (.num v)
    (knotRunWrite (n % 32) (Ix.kePort (n % 32)) Sub.kePort_KNOT_RUN v) s) := rfl
  rw [hexec, Nat.mod_eq_of_lt hn]

/-- The count of the local check is no matter of the arbiter's. -/
theorem knotChecked_noteCycle (c : Caller) (l : List Nat) (s : State) :
    knotChecked (s.noteCycle c l) = (knotChecked s).noteCycle c l := by
  unfold knotChecked
  rw [apply_ite (fun t : State => t.noteCycle c l)]
  cases c <;> rfl

/-! ### O28 -/

/-- Settles O28. One ephemeral context per session, and what ABORT does by the party that sends it, are the model's readings
(logs 23, 53, 117). -/
theorem knotSessionsRun : Obligations.KnotSessionsRun := by
  refine ⟨fun s c n hn => ⟨fun e hacc hallowed hheld hmode hidle hroom hruns hready hdry => ?starts,
    fun hacc hno hmode => ?denied, fun hacc hmode => ?passive, fun v hacc haway => ?away,
    fun e hacc hhome hallowed hheld hidle hroom hruns hready hdry => ?pairs, fun src f hon hcores hform => ?malformed,
    fun src f hon hcores hform hmore hnone => ?segment,
    fun src f m k x hon hcores hform hnone hmsg hm hmform hfor hpeer hver htakes => ?aborted,
    fun k x hk hplace hstage hsends hdue hcan hmode hloop => ?again, fun k x hk hdue => ?early,
    fun k x hk hover hsends => ?stays, fun k x hk hstage hover => ?closes, fun k x hk hstage hpeer hend => ?ends⟩,
    fun s op next k rest hq hdraws hcores => ⟨fun x hnext hk hops hcheck => ?nextOp, fun hgone => ?counted⟩⟩
  case starts =>
    have hplace : n ≠ tetherPlace := by simp only [tetherPlace]; omega
    have hact := knotRunWrite_begins (ix := Ix.kePort n) (sub := Sub.kePort_KNOT_RUN) (fun h => absurd h hplace) (fun _ => hmode)
      ⟨hallowed, hheld, hidle, hroom, hruns, hready, hdry⟩ (by omega)
    have hw := rowWrite_written hacc hact
    refine ⟨_, execKnotRun_eq c 1 s hn, ?_⟩
    beta_reduce
    rw [hw.ke, hw.ob, hw.ob, hw.ob]
    refine ⟨knotBegun_knot .., knotBegun_eph .., ?_, State.ob_put_self .., knotBegun_waiting .., ?_, hw.reports⟩
    · rw [State.ob_put_ne (by simp [okey, Sub.kePort_KNOT_RUN, Sub.kePort_KNOT_STATE]), knotBegun_ob, setKnotState, if_neg hplace]
      exact State.ob_put_self ..
    · rw [State.ob_put_ne (by simp only [okey, keIx, Ix.kePort, Sub.kePort_KNOT_RUN, Sub.ke_PKE_OPS]; omega)]
      exact knotBegun_ops n e s (by omega)
  case denied =>
    have hplace : n ≠ tetherPlace := by simp only [tetherPlace]; omega
    rw [execKnotRun_eq c 1 s hn, rowWrite_ok hacc.1 hacc.2, knotRunWrite_denied hplace hno hmode, knotChecked_noteCycle]
    rfl
  case passive =>
    have hplace : n ≠ tetherPlace := by simp only [tetherPlace]; omega
    rw [execKnotRun_eq c 1 s hn, rowWrite_refuses hacc (knotRunWrite_passive hplace hmode) (by decide)]
  case away => exact congrArg Host.Outcome.next (rowWrite_refuses hacc (knotRunWrite_away haway) (by decide))
  case pairs =>
    have hact := knotRunWrite_begins (ix := keIx) (sub := Sub.ke_PAIR_KNOT_RUN) (fun _ => hhome) (fun h => absurd rfl h)
      ⟨hallowed, hheld, hidle, hroom, hruns, hready, hdry⟩ (by decide)
    have hw := rowWrite_written hacc hact
    refine ⟨_, rfl, ?_⟩
    beta_reduce
    rw [hw.ke, hw.ob, hw.ob]
    refine ⟨knotBegun_knot .., knotBegun_eph .., ?_, State.ob_put_self .., hw.reports⟩
    rw [State.ob_put_ne (by decide), knotBegun_ob, setKnotState, if_pos rfl]
    exact State.ob_put_self ..
  case malformed => rw [knotReceived_line hn hon hcores, knotReceive_malformed hform]
  case segment => exact ⟨_, knotReceived_line hn hon hcores, by rw [knotReceive_waits hform hmore hnone]; exact ⟨rfl, rfl, rfl⟩⟩
  case aborted =>
    subst hm
    have hone : fld f 3 1 ≤ 1 := by
      rw [segmentForm_segs hform, hmsg]
      decide
    refine ⟨_, knotReceived_line hn hon hcores, ?_⟩
    beta_reduce
    rw [knotReceive_whole hform hone hnone, hmsg, knotMessage_abort rfl hmform hfor hpeer hver htakes, knotEnd_knot, knotEnd_cnt]
    refine ⟨?_, rfl⟩
    have hplace : x.place = n := knotFor_place hfor
    have hline : (n != tetherPlace) = true := by simp only [tetherPlace, bne_iff_ne]; omega
    simp only [State.knotLeft, hpeer, hplace, hline, Option.bind, Bool.and_true]
    rfl
  case again =>
    subst hplace
    obtain ⟨w, ⟨a, b, hw⟩, hlen⟩ := knotSend_port hn hcan hmode hloop x.lastMsg x.sid (s.knotDa x) x.last
    refine ⟨_, congrArg Host.Outcome.next (knotRetry_sends hk hstage hsends hdue), mfind_minsert_self .., ?_⟩
    rw [hw]
    simp [State.putKnot, hlen]
  case early => exact congrArg Host.Outcome.next (knotRetry_early hk hdue)
  case stays => exact congrArg Host.Outcome.next (knotTimeout_early hk hover hsends)
  case closes => exact congrArg Host.Outcome.next (knotTimeout_open hk hstage hover)
  case ends =>
    refine ⟨_, congrArg Host.Outcome.next (knotTimeout_ends hk hstage hend), ?_⟩
    beta_reduce
    rw [knotTimedOut, knotEnd_knot, knotEnd_cnt]
    exact ⟨knotLeft_none hpeer, rfl⟩
  case nextOp =>
    obtain ⟨m, hm⟩ := pkeIdle_eq s
    have hk' : mfind s.pkeIdle.ke.knot k = some x := by rw [hm]; exact hk
    have hstep := knotStep_next (s := s.pkeIdle) (s.ke.drawn.getD []) hdraws hnext (by rw [hm]) hk' hops
      ((pkeIdle_stageCheck ..).trans hcheck)
    refine ⟨_, congrArg Host.Outcome.next ((pkeComplete_knot hq hdraws).trans hstep), rfl, mfind_minsert_self .., ?_⟩
    exact (State.ob_put_ne (by decide)).trans (pkeIdle_ops hcores)
  case counted =>
    obtain ⟨m, hm⟩ := pkeIdle_eq s
    have hgone' : mfind s.pkeIdle.ke.knot k = none := by rw [hm]; exact hgone
    exact ⟨_, congrArg Host.Outcome.next ((pkeComplete_knot hq hdraws).trans (knotStep_gone _ hgone')), by rw [hm], pkeIdle_ops hcores,
      State.ob_put_self ..⟩

end Sys2Proof.Machine
end

section
/-! Sessions: what an event leaves of them, how a handshake opens and ends an entry, and how an idle one closes (R384, R469, R493 to
R498, R659). -/

namespace Sys2Proof.Machine

variable {s t u : State} {c : Caller}

/-! ### What an event leaves of a session (R469) -/

/-- A session with more notifications: nothing else of it has changed. -/
def Sess.Notified (x y : Sess) : Prop := ∃ q m l, y = { x with queue := q, markNext := m, lost := l }

theorem Sess.Notified.refl (x : Sess) : x.Notified x := ⟨x.queue, x.markNext, x.lost, rfl⟩

theorem Sess.Notified.trans {x y z : Sess} (h : x.Notified y) (h' : y.Notified z) : x.Notified z := by
  obtain ⟨q, m, l, rfl⟩ := h
  obtain ⟨q', m', l', rfl⟩ := h'
  exact ⟨q', m', l', rfl⟩

section Notified
variable {x y : Sess} (h : x.Notified y)
include h

theorem Sess.Notified.st : y.st = x.st := by obtain ⟨_, _, _, rfl⟩ := h; rfl
theorem Sess.Notified.live : y.live = x.live := by obtain ⟨_, _, _, rfl⟩ := h; rfl
theorem Sess.Notified.muted : y.muted = x.muted := by obtain ⟨_, _, _, rfl⟩ := h; rfl
theorem Sess.Notified.owed : y.owed = x.owed := by obtain ⟨_, _, _, rfl⟩ := h; rfl
theorem Sess.Notified.level : y.level = x.level := by obtain ⟨_, _, _, rfl⟩ := h; rfl
theorem Sess.Notified.port : y.port = x.port := by obtain ⟨_, _, _, rfl⟩ := h; rfl

end Notified

@[simp] theorem sessAt_addOb (ix sub w n k : Nat) (s : State) : (s.addOb ix sub w n).sessAt k = s.sessAt k := rfl
@[simp] theorem sessAt_put (ix sub v k : Nat) (s : State) : (s.put ix sub v).sessAt k = s.sessAt k := rfl
@[simp] theorem sessAt_emit (e : Emission) (k : Nat) (s : State) : (s.emit e).sessAt k = s.sessAt k := rfl
@[simp] theorem sessAt_eventLost (k : Nat) (s : State) : s.eventLost.sessAt k = s.sessAt k := by simp [State.eventsLost]
theorem sessAt_logEventAt (ns code slice : Nat) (items : Bytes) (k : Nat) (s : State) :
    (s.logEventAt ns code slice items).2.sessAt k = s.sessAt k := rfl

theorem notify_sessAt_ne {k j : Nat} (r : Bytes) (s : State) (h : j ≠ k) : (s.notify k r).sessAt j = s.sessAt j := by
  unfold State.notify
  dsimp only
  split
  · exact State.sessAt_putSess_ne h
  · split
    · exact State.sessAt_putSess_ne h
    · exact (State.sessAt_putSess_ne h).trans (sessAt_logEventAt ..)

theorem notify_sessAt (k j : Nat) (r : Bytes) (s : State) : (s.sessAt j).Notified ((s.notify k r).sessAt j) := by
  by_cases h : j = k
  · subst h
    unfold State.notify
    dsimp only
    split
    · rw [State.sessAt_putSess_self]
      exact ⟨_, _, _, rfl⟩
    · split <;> rw [State.sessAt_putSess_self] <;> exact ⟨_, _, _, rfl⟩
  · rw [notify_sessAt_ne r s h]
    exact .refl _

/-- The notifications of one event, session by session. -/
theorem notifyAll_sessAt (p : State → Nat → Bool) (r : Bytes) (l : List Nat) (j : Nat) (s : State) :
    (s.sessAt j).Notified ((l.foldl (fun u k => if (u.sessAt k).live && p u k then u.notify k r else u) s).sessAt j) ∧
      ((s.sessAt j).live = false → (l.foldl (fun u k => if (u.sessAt k).live && p u k then u.notify k r else u) s).sessAt j = s.sessAt j) := by
  induction l generalizing s with
  | nil => exact ⟨.refl _, fun _ => rfl⟩
  | cons k l ih =>
    rw [List.foldl_cons]
    split
    next hk =>
      obtain ⟨hsome, hnone⟩ := ih (s.notify k r)
      refine ⟨(notify_sessAt ..).trans hsome, fun hdead => ?_⟩
      have hne : j ≠ k := by
        rintro rfl
        simp [hdead] at hk
      have hsame := notify_sessAt_ne r s hne
      exact (hnone (by rw [hsame]; exact hdead)).trans hsame
    next hk => exact ih s

/-- An event gives a session notifications, and a session that has ended nothing. -/
theorem raise_sessions (code slice : Nat) (items : Bytes) (j : Nat) (s : State) :
    (s.sessAt j).Notified ((s.raise code slice items).sessAt j) ∧
      ((s.sessAt j).live = false → (s.raise code slice items).sessAt j = s.sessAt j) := by
  by_cases h : s.rst.coresHeld
  · have hlost : s.raise code slice items = s.eventLost := if_pos h
    rw [hlost, sessAt_eventLost]
    exact ⟨.refl _, fun _ => rfl⟩
  · have hall : s.raise code slice items = (List.range 16).foldl (fun u k => if (u.sessAt k).live && bit (u.sessAt k).mask (code / 256) then
        u.notify k (s.logEventAt s.ns code slice items).1 else u) (s.logEventAt s.ns code slice items).2 := if_neg h
    rw [hall, ← sessAt_logEventAt s.ns code slice items j s]
    exact notifyAll_sessAt (fun u k => bit (u.sessAt k).mask (code / 256)) _ _ j _

theorem raise_sessAt (code slice : Nat) (items : Bytes) (j : Nat) (s : State) :
    (s.sessAt j).Notified ((s.raise code slice items).sessAt j) := (raise_sessions ..).1

theorem raise_sessAt_dead {code slice : Nat} {items : Bytes} {j : Nat} (h : (s.sessAt j).live = false) :
    (s.raise code slice items).sessAt j = s.sessAt j := (raise_sessions ..).2 h

/-- From `s` to `t`, of the access structures only the event log and the sessions' notifications have changed. -/
def LogsOnly (s t : State) : Prop := ∃ l m, t.acc = { s.acc with log := l, sess := m }

theorem LogsOnly.refl (s : State) : LogsOnly s s := ⟨s.acc.log, s.acc.sess, rfl⟩

theorem LogsOnly.trans (h : LogsOnly s t) (h' : LogsOnly t u) : LogsOnly s u := by
  obtain ⟨l, m, h⟩ := h
  obtain ⟨l', m', h'⟩ := h'
  exact ⟨l', m', by rw [h', h]⟩

theorem LogsOnly.foldl {β : Type} {f : State → β → State} (h : ∀ u b, LogsOnly u (f u b)) (l : List β) (s : State) :
    LogsOnly s (l.foldl f s) := by
  induction l generalizing s with
  | nil => exact .refl s
  | cons b l ih => exact (h s b).trans (ih _)

theorem notify_logsOnly (k : Nat) (r : Bytes) (s : State) : LogsOnly s (s.notify k r) := by
  unfold State.notify
  dsimp only
  split
  · exact ⟨s.acc.log, _, rfl⟩
  · split <;> exact ⟨_, _, rfl⟩

theorem raise_logsOnly (code slice : Nat) (items : Bytes) (s : State) : LogsOnly s (s.raise code slice items) := by
  by_cases h : s.rst.coresHeld
  · have hlost : s.raise code slice items = s.eventLost := if_pos h
    rw [hlost]
    exact ⟨s.acc.log, s.acc.sess, by simp [State.eventsLost]⟩
  · have hall : s.raise code slice items = (List.range 16).foldl (fun u k => if (u.sessAt k).live && bit (u.sessAt k).mask (code / 256) then
        u.notify k (s.logEventAt s.ns code slice items).1 else u) (s.logEventAt s.ns code slice items).2 := if_neg h
    rw [hall]
    refine LogsOnly.trans (t := (s.logEventAt s.ns code slice items).2) ⟨_, s.acc.sess, rfl⟩ (.foldl (fun u k => ?_) _ _)
    split
    · exact notify_logsOnly ..
    · exact .refl u

@[simp] theorem raise_silent (code slice : Nat) (items : Bytes) (s : State) : (s.raise code slice items).acc.silent = s.acc.silent := by
  obtain ⟨l, m, h⟩ := raise_logsOnly code slice items s
  rw [h]

@[simp] theorem raise_claims (code slice : Nat) (items : Bytes) (s : State) : (s.raise code slice items).acc.claims = s.acc.claims := by
  obtain ⟨l, m, h⟩ := raise_logsOnly code slice items s
  rw [h]

/-! ### A session ends (R498) -/

theorem ephRelease_fewer (s : State) : FewerKnots s (ephRelease s) where
  ob hne := (pkeTrim_fewer _).ob hne
  rest := by
    obtain ⟨l, e, q, n, h⟩ := (pkeTrim_fewer { s with ke := { s.ke with eph := mdrop (fun c => !s.ephUsed c) s.ke.eph } }).rest
    exact ⟨l, e, q, n, h⟩

theorem FewerKnots.acc (h : FewerKnots s t) : t.acc = s.acc := by
  obtain ⟨_, _, _, _, rfl⟩ := h.rest
  rfl

theorem ephRelease_sessAt (k : Nat) (s : State) : (ephRelease s).sessAt k = s.sessAt k := by
  rw [State.sessAt, (ephRelease_fewer s).acc, State.sessAt]

/-- A session of the device, which holds no claim, is CLOSED: its keys are gone. -/
theorem closeSess_unclaimed {k cause : Nat} (hk : k < 16) (halive : (s.sessAt k).alive = true) (hclaims : s.claimsOf k = []) :
    (closeSess k cause s).sessAt k = { st := .closed, number := (s.sessAt k).number, level := (s.sessAt k).level
                                       port := (s.sessAt k).port, peerAddr := (s.sessAt k).peerAddr } := by
  have hlow : ¬ 16 ≤ k := by omega
  simp only [closeSess, hlow, halive, hclaims, if_false, if_true, List.foldl_nil]
  rw [raise_sessAt_dead] <;> rw [ephRelease_sessAt, State.sessAt_putSess_self]
  rfl

/-! ### A handshake of a manager (R384, R493 to R495) -/

/-- The session and its handshake that an INIT opens. -/
def Sess.opened (port src n serial ctx : Nat) (body : Bytes) : Sess :=
  { st := .handshake, number := n, port := port, peerAddr := src
    shake := some { place := 33, init := false, serial := serial, sid := n, ctx := ctx, stage := .nonce, init1 := body } }

/-- The machine with that session, before its draw. -/
def State.handOpened (port src n k e : Nat) (body : Bytes) (s : State) : State :=
  ((({ s with ke := { s.ke with nextKnot := s.ke.nextKnot + 1 } } : State).putEph e {}).putSess k
    (.opened port src n s.ke.nextKnot e body)).mark (Timer.idle k)

theorem contextRoom_free (h : s.freeEph.isSome = true) : contextRoom s = s := by
  simp [contextRoom, Option.isNone_eq_false_iff.mpr h]

theorem handInit_waits {port src n k e : Nat} {body : Bytes} (hn : 0 < n) (hlen : body.length = 1701) (hform : fld body 0 4 = 0x03000000)
    (hnew : s.handOf port src n = none) (hk : s.freeSess = some k) (he : s.freeEph = some e) (hruns : s.ke.ent.stopped = false)
    (hready : s.entState = entReady) (hdry : s.entFill < 32) :
    handInit port src n body s = (s.handOpened port src n k e body).putEnt
      { s.ke.ent with waiting := s.ke.ent.waiting ++ [⟨.hand k s.ke.nextKnot, 32, s.time.periods⟩] } := by
  have hdraw : drawRequest (.hand k s.ke.nextKnot) 32 (s.handOpened port src n k e body) =
      (.waits, (s.handOpened port src n k e body).putEnt
        { s.ke.ent with waiting := s.ke.ent.waiting ++ [⟨.hand k s.ke.nextKnot, 32, s.time.periods⟩] }) := by
    have hent : (s.handOpened port src n k e body).ke.ent = s.ke.ent := rfl
    have hstate : (s.handOpened port src n k e body).entState = entReady := hready
    have htime : (s.handOpened port src n k e body).time.periods = s.time.periods := rfl
    have hno : ¬(s.ke.ent.waiting = [] ∧ 32 ≤ (s.handOpened port src n k e body).entFill) :=
      fun h => absurd h.2 (Nat.not_le.mpr hdry)
    simp [drawRequest, hstate, hent, hruns, hno, htime]
  have hn0 : n ≠ 0 := by omega
  simp only [handInit, hlen, hform, hnew, hn0, contextRoom_free (s := s) (by simp [he]), hk, he, ne_eq, not_true_eq_false, Option.isSome_none,
    Bool.false_eq_true, or_self, if_false]
  exact congrArg (fun r : Draw × State => match r with
    | (.served b, s') => handDrawn k s.ke.nextKnot b s'
    | (.waits, s') => s'
    | (.fails st, s') => handFailed k s.ke.nextKnot st s') hdraw

/-- A HANDSHAKE payload of this MSG that the port hears. -/
theorem handshake_heard {port src n : Nat} {m : Byte} {msg : Nat} (body : Bytes) (hm : m.toNat = msg) (hport : port < 3) (hsrc : src < 256) (hn : n < 2 ^ 32)
    (hears : s.portHears port = true) : exec (.handshakeReceived port src n ([m, 0, 0, 0] ++ body)) s = .next
      (if s.noSessions then (if msg = 1 ∨ port = 0 then sayHandshake port src n 5 (abortBody .busy) s else s)
       else if msg = 1 then handInit port src n body s
       else match s.handOf port src n with
        | none => s
        | some k =>
          match (s.sessAt k).shake with
          | none => s
          | some h =>
            if msg = 5 then ephRelease (s.putSess k {})
            else if msg = 3 ∧ h.stage = .sentResp then handAuth k h body s
            else s) := by
  have hmsg : fld ([m, 0, 0, 0] ++ body) 0 1 = msg := by simp [fld, sub, num, hm]
  have hzero : fld ([m, 0, 0, 0] ++ body) 1 3 = 0 := by simp [fld, sub, num]
  have hlen : ¬ ([m, 0, 0, 0] ++ body).length < 4 := by simp
  have hbody : ([m, 0, 0, 0] ++ body).drop 4 = body := rfl
  refine congrArg Host.Outcome.next ?_
  rw [Nat.mod_eq_of_lt hport, Nat.mod_eq_of_lt hsrc, Nat.mod_eq_of_lt hn]
  simp only [handshakeReceived, hmsg, hzero, hlen, hbody, hears, Bool.not_true, Bool.false_eq_true, ne_eq, not_true_eq_false, or_self,
    if_false] <;> rfl

/-- Settles O37. Which context a handshake takes is the model's reading (log 23), as is the place of BUSY (log 66). -/
theorem sessionsOpenAndClose : Obligations.SessionsOpenAndClose := by
  intro s
  refine ⟨fun port src n k body hport hsrc hn hn' hsess hears hlen hform hnew hk he hruns hready hdry => ?opens,
    fun port src n k h body hport hsrc hn hears hsess hof hh => ?aborts,
    fun port src n body hport hsrc hn hears hsess => ?busy, fun k hpast => ?early,
    fun k hk halive hclaims hpast => ?closes⟩
  case opens =>
    obtain ⟨e, he⟩ := Option.isSome_iff_exists.mp he
    have hrun := handshake_heard body (m := 1) (msg := 1) rfl hport hsrc hn' hears
    simp only [hsess, Bool.false_eq_true, if_false, if_true, handInit_waits hn hlen hform hnew hk he hruns hready hdry] at hrun
    refine ⟨_, hrun, ?_⟩
    have hx : (((s.handOpened port src n k e body).putEnt
      { s.ke.ent with waiting := s.ke.ent.waiting ++ [⟨.hand k s.ke.nextKnot, 32, s.time.periods⟩] }).sessAt k) =
        .opened port src n s.ke.nextKnot e body := State.sessAt_putSess_self ..
    beta_reduce
    rw [hx]
    exact ⟨rfl, rfl, rfl, rfl, rfl⟩
  case aborts =>
    have hrun := handshake_heard body (m := 5) (msg := 5) rfl hport hsrc hn hears
    simp only [hsess, Bool.false_eq_true, if_false, if_true, hof, hh] at hrun
    refine ⟨_, hrun, ?_⟩
    obtain ⟨_, _, _, _, hrest⟩ := (ephRelease_fewer (s.putSess k {})).rest
    refine ⟨(ephRelease_sessAt ..).trans (State.sessAt_putSess_self ..), ?_, ?_⟩ <;> rw [hrest] <;> rfl
  case busy =>
    have hrun := handshake_heard body (m := 1) (msg := 1) rfl hport hsrc hn hears
    simpa only [hsess, true_or, if_true] using hrun
  case early => exact congrArg Host.Outcome.next (if_neg (by simp [hpast]))
  case closes =>
    refine ⟨_, congrArg Host.Outcome.next (if_pos hpast), ?_⟩
    beta_reduce
    rw [closeSess_unclaimed hk halive hclaims]
    exact ⟨rfl, rfl, rfl⟩

end Sys2Proof.Machine
end

section
/-! What leaves toward a manager: a message of a session, its answers in order, and the requests that are taken (R490, R491, R496, R499). -/

namespace Sys2Proof.Machine

variable {s t u : State} {c : Caller}

/-! ### Out of the ports (R490, R491, R506, R507) -/

/-- From `s` to `t`, only what the ports hold and what has left them has changed. -/
def OnlyPorts (s t : State) : Prop := ∃ v d q a b w, t = { s with
  acc := { s.acc with d2hValid := v, d2h := d, toHost := q, fwdA := a, fwdB := b }, wire := s.wire ++ w }

theorem OnlyPorts.refl (s : State) : OnlyPorts s s :=
  ⟨s.acc.d2hValid, s.acc.d2h, s.acc.toHost, s.acc.fwdA, s.acc.fwdB, [], by simp⟩

theorem OnlyPorts.trans (h : OnlyPorts s t) (h' : OnlyPorts t u) : OnlyPorts s u := by
  obtain ⟨v, d, q, a, b, w, rfl⟩ := h
  obtain ⟨v', d', q', a', b', w', rfl⟩ := h'
  exact ⟨v', d', q', a', b', w ++ w', by simp⟩

theorem OnlyPorts.foldl {β : Type} {f : State → β → State} (h : ∀ u b, OnlyPorts u (f u b)) (l : List β) (s : State) :
    OnlyPorts s (l.foldl f s) := by
  induction l generalizing s with
  | nil => exact .refl s
  | cons b l ih => exact (h s b).trans (ih _)

theorem emit_onlyPorts (e : Emission) (s : State) : OnlyPorts s (s.emit e) :=
  ⟨s.acc.d2hValid, s.acc.d2h, s.acc.toHost, s.acc.fwdA, s.acc.fwdB, [e], rfl⟩

theorem mailboxOut_onlyPorts (s : State) : OnlyPorts s (mailboxOut s) := by
  unfold mailboxOut
  split
  · exact ⟨_, _, _, s.acc.fwdA, s.acc.fwdB, [_, _], by simp only [State.emit, List.append_assoc]; rfl⟩
  · exact .refl s

theorem drainFwd_onlyPorts (port : Nat) (s : State) : OnlyPorts s (drainFwd port s) := by
  refine OnlyPorts.trans (t := s.putFwd port []) ?_ (.foldl (fun u b => emit_onlyPorts _ u) _ _)
  unfold State.putFwd
  split
  · exact ⟨s.acc.d2hValid, s.acc.d2h, s.acc.toHost, [], s.acc.fwdB, [], by simp⟩
  · exact ⟨s.acc.d2hValid, s.acc.d2h, s.acc.toHost, s.acc.fwdA, [], [], by simp⟩

theorem send_onlyPorts (port dst kind session : Nat) (payload : Bytes) (s : State) :
    OnlyPorts s (send port dst kind session payload s) := by
  unfold send
  dsimp only
  split
  · refine OnlyPorts.trans ?_ (mailboxOut_onlyPorts _)
    exact ⟨s.acc.d2hValid, s.acc.d2h, _, s.acc.fwdA, s.acc.fwdB, [], by rw [List.append_nil]⟩
  · exact (drainFwd_onlyPorts port s).trans (.foldl (fun u b => emit_onlyPorts _ u) _ _)

/-! ### A message of a session (R496) -/

/-- From `s` to `t` this message left toward the manager of session `k`, which is now `x`. -/
structure SaidTo (k : Nat) (body : Bytes) (x : Sess) (s t : State) : Prop where
  rest : ∃ m v d q a b w, t = { s with
    acc := { s.acc with sess := m, d2hValid := v, d2h := d, toHost := q, fwdA := a, fwdB := b }, wire := s.wire ++ .answer k body :: w }
  self : t.sessAt k = x
  others : ∀ j, j ≠ k → t.sessAt j = s.sessAt j

theorem sayTo_said (k port : Nat) (body : Bytes) (s : State) :
    SaidTo k body { s.sessAt k with txSeq := (s.sessAt k).txSeq + 1 } s (sayTo k port body s) := by
  unfold sayTo
  generalize hp : be 8 (s.sessAt k).txSeq ++ gcmCrypt _ _ _ ++ gcmTag _ _ _ _ _ = payload
  obtain ⟨v, d, q, a, b, w, h⟩ := send_onlyPorts port (if port = 0 then 0xFD else (s.sessAt k).peerAddr) 2 (s.sessAt k).number payload
    ((s.putSess k { s.sessAt k with txSeq := (s.sessAt k).txSeq + 1 }).emit (.answer k body))
  dsimp only
  rw [hp, h]
  exact {
    rest := ⟨_, v, d, q, a, b, w, by simp [State.emit, State.putSess]; rfl⟩
    self := State.sessAt_putSess_self ..
    others := fun j hj => State.sessAt_putSess_ne hj }

section Said
variable {k : Nat} {body : Bytes} {x : Sess} (h : SaidTo k body x s t)
include h

theorem SaidTo.rst : t.rst = s.rst := by obtain ⟨_, _, _, _, _, _, _, rfl⟩ := h.rest; rfl
theorem SaidTo.dict : t.dict = s.dict := by obtain ⟨_, _, _, _, _, _, _, rfl⟩ := h.rest; rfl
theorem SaidTo.time : t.time = s.time := by obtain ⟨_, _, _, _, _, _, _, rfl⟩ := h.rest; rfl
theorem SaidTo.asc : t.asc = s.asc := by obtain ⟨_, _, _, _, _, _, _, rfl⟩ := h.rest; rfl
theorem SaidTo.claims : t.acc.claims = s.acc.claims := by obtain ⟨_, _, _, _, _, _, _, rfl⟩ := h.rest; rfl
theorem SaidTo.parked : t.acc.parked = s.acc.parked := by obtain ⟨_, _, _, _, _, _, _, rfl⟩ := h.rest; rfl
theorem SaidTo.silent : t.acc.silent = s.acc.silent := by obtain ⟨_, _, _, _, _, _, _, rfl⟩ := h.rest; rfl
theorem SaidTo.lastSet : t.acc.lastSet = s.acc.lastSet := by obtain ⟨_, _, _, _, _, _, _, rfl⟩ := h.rest; rfl
theorem SaidTo.ob (ix sub : Nat) : t.ob ix sub = s.ob ix sub := by obtain ⟨_, _, _, _, _, _, _, rfl⟩ := h.rest; rfl
theorem SaidTo.wire : ∃ w, t.wire = s.wire ++ .answer k body :: w := by
  obtain ⟨_, _, _, _, _, _, w, rfl⟩ := h.rest
  exact ⟨w, rfl⟩

end Said

/-! ### Answers (R499) -/

/-- An answer that stands leaves at once where the session owes none before it. -/
theorem flushAnswers_one {k : Nat} {o : Owed} {st : Nat} {body : Bytes} (howed : (s.sessAt k).owed = [o]) (hready : o.ready = some (st, body)) :
    flushAnswers k s = o.after k (sayTo k o.port (responseBy o.port o.op o.id st body)
      ((s.putSess k { s.sessAt k with owed := [o] }).putSess k { s.sessAt k with owed := [] })) := by
  have hsettle : o.settle k s = o := if_neg (by simp [hready])
  simp only [flushAnswers, howed, List.cons_ne_nil, if_false, List.map_cons, List.map_nil, hsettle, List.length_singleton, flushUpTo,
    State.sessAt_putSess_self, hready]

/-- A session that owes no answer, and may be given one. -/
structure Answers (k : Nat) (s : State) : Prop where
  live : (s.sessAt k).live = true
  silent : s.acc.silent = false
  owed : (s.sessAt k).owed = []

theorem owe_first {k : Nat} (h : Answers k s) (o : Owed) :
    owe k o s = s.putSess k { s.sessAt k with owed := [{ o with port := (s.sessAt k).port }] } := by
  have hmay : (s.sessAt k).live ∧ !s.acc.silent := ⟨h.live, by simp [h.silent]⟩
  simp only [owe, if_pos hmay, h.owed, List.nil_append]

/-- What a session owed is not of the message that it sends. -/
theorem SaidTo.ofPut {k : Nat} {body : Bytes} {x y : Sess} (h : SaidTo k body x (s.putSess k y) t) : SaidTo k body x s t where
  rest := by
    obtain ⟨m, v, d, q, a, b, w, ht⟩ := h.rest
    exact ⟨m, v, d, q, a, b, w, ht⟩
  self := h.self
  others j hj := (h.others j hj).trans (State.sessAt_putSess_ne hj)

/-- An answer leaves, with what follows it. -/
theorem flush_owed {k : Nat} (h : Answers k s) {o : Owed} {st : Nat} {body : Bytes} (hready : o.ready = some (st, body)) :
    ∃ t, SaidTo k (responseBy (s.sessAt k).port o.op o.id st body) { s.sessAt k with txSeq := (s.sessAt k).txSeq + 1 } s t ∧
      flushAnswers k (owe k o s) = Owed.after k { o with port := (s.sessAt k).port } t := by
  have howed : ({ s.sessAt k with owed := [] } : Sess) = s.sessAt k := by rw [← h.owed]
  have hflush := flushAnswers_one (s := owe k o s) (k := k) (o := { o with port := (s.sessAt k).port })
    (by rw [owe_first h, State.sessAt_putSess_self]) hready
  rw [owe_first h, State.sessAt_putSess_self, howed] at hflush
  rw [owe_first h, hflush]
  have hsaid := sayTo_said k (s.sessAt k).port (responseBy (s.sessAt k).port o.op o.id st body)
    (((s.putSess k { s.sessAt k with owed := [{ o with port := (s.sessAt k).port }] }).putSess k
      { s.sessAt k with owed := [{ o with port := (s.sessAt k).port }] }).putSess k (s.sessAt k))
  rw [State.sessAt_putSess_self] at hsaid
  exact ⟨_, hsaid.ofPut.ofPut.ofPut, rfl⟩

theorem responseBy_fits (port op id st : Nat) {body : Bytes} (h : Fits body) : responseBy port op id st body = response op id st body := by
  unfold responseBy portLimit
  rw [if_neg]
  unfold Fits at h
  split <;> omega

/-- A request is answered at once. -/
theorem answer_said {k : Nat} (h : Answers k s) (op id : Nat) (st : Status) {body : Bytes} (hfits : Fits body) :
    SaidTo k (response op id st.code body) { s.sessAt k with txSeq := (s.sessAt k).txSeq + 1 } s (answer k op id st body s) := by
  obtain ⟨t, hsaid, ht⟩ := flush_owed h (o := { op := op, id := id, ready := some (st.code, body) }) rfl
  have hafter : answer k op id st body s = t := ht
  rw [hafter, ← responseBy_fits (s.sessAt k).port _ _ _ hfits]
  exact hsaid

theorem SaidTo.answered {k op id : Nat} {st : Status} {body : Bytes} {x : Sess} (h : SaidTo k (response op id st.code body) x u t)
    (a : List Emission) (hu : u.wire = s.wire ++ a) : Answered s t k op id st body := by
  obtain ⟨w, hw⟩ := h.wire
  exact ⟨a, w, by rw [hw, hu]⟩

/-! ### A request is taken (R480, R499) -/

@[simp] theorem requested_sessAt (k j : Nat) (s : State) : (s.requested k).sessAt j = s.sessAt j := rfl

theorem readyFor_requested {k : Nat} (h : s.readyFor k) : Answers k (s.requested k) := by
  obtain ⟨hst, hmuted, howed, hcores, hsilent⟩ := h
  exact ⟨by rw [requested_sessAt, Sess.live, hst]; rfl, hsilent, howed⟩

theorem request_ready {k : Nat} (h : s.readyFor k) (op id : Nat) (act : State → State) :
    request k op id act s = act (s.requested k) := by
  obtain ⟨hst, hmuted, -, hcores, -⟩ := h
  have hlive : (s.sessAt k).live = true := by simp [Sess.live, hst]
  have hcores' : ((s.addOb ringIx Sub.ring_HAL_REQUESTS 64 1).mark (Timer.idle k)).rst.coresHeld = false := hcores
  simp only [request, hlive, hmuted, hst, hcores', Bool.not_true, Bool.false_eq_true, or_self, reduceCtorEq, false_and, if_false]

theorem orPark_takes {k : Nat} {write arbiter : Bool} (h : s.parks k write arbiter = false) (w : Waits) (act : State → State) :
    orPark k write arbiter w act s = act s := if_neg (by simp [h])

end Sys2Proof.Machine
end

section
/-! FW-STAGE: an image is staged into the inactive slot (R504, R598, R605). -/

namespace Sys2Proof.Machine

variable {s t u : State} {c : Caller} {k id : Nat}

/-- A session may stage: its request is taken at once, at Custodian level. -/
structure Stages (s : State) (k : Nat) : Prop where
  free : s.parks k false false = false
  ready : s.readyFor k
  level : 2 ≤ (s.sessAt k).level

theorem custodian_requested (h : Stages s k) : (s.requested k).custodian k = true := decide_eq_true h.level

theorem stage_requested (h : Stages s k) (act : State → State × Status) :
    stage k id act s = if mfind s.acc.claims 0x0500 ≠ some k then answer k 12 id .claimed [] (s.requested k)
      else answer k 12 id (act (s.requested k)).2 [] (act (s.requested k)).1 := by
  have hclaims : (s.requested k).acc.claims = s.acc.claims := rfl
  rw [stage, request_ready h.ready]
  simp only [custodian_requested h, Bool.not_true, Bool.false_eq_true, if_false, hclaims]

/-- A request of FW-STAGE ends with a status, and the boot flash as its act left it. -/
theorem stage_answers (h : Stages s k) (hclaim : mfind s.acc.claims 0x0500 = some k) {act : State → State × Status} {st : Status}
    (hact : act (s.requested k) = (u, st)) (hu : Answers k u) (hwire : u.wire = s.wire) :
    (stage k id act s).rst = u.rst ∧ Answered s (stage k id act s) k 12 id st [] := by
  have hsaid := answer_said hu 12 id st (body := []) (by decide)
  rw [stage_requested h, if_neg (by simp [hclaim]), hact]
  exact ⟨hsaid.rst, hsaid.answered [] (by simp [hwire])⟩

theorem stage_claimed (h : Stages s k) (hclaim : mfind s.acc.claims 0x0500 ≠ some k) (act : State → State × Status) :
    (stage k id act s).rst = s.rst ∧ Answered s (stage k id act s) k 12 id .claimed [] := by
  have hsaid := answer_said (readyFor_requested h.ready) 12 id .claimed (body := []) (by decide)
  rw [stage_requested h, if_pos hclaim]
  exact ⟨hsaid.rst, hsaid.answered [] (List.append_nil _).symm⟩

/-! ### What each of them does to the boot flash -/

/-- The machine with the boot flash in this state. -/
def State.withRst (s : State) (r : Resets) : State := { s with rst := r }

theorem withRst_answers {r : Resets} (h : Answers k s) : Answers k (s.withRst r) := ⟨h.live, h.silent, h.owed⟩

theorem stageBegin_erases (hidle : s.rst.staging = none) (hcores : s.rst.coresHeld = false) :
    ∃ r, stageBegin s = (s.withRst r, .ok) ∧ r.staging = some (1 - s.rst.active, 0) ∧ mfind r.slots (1 - s.rst.active) = none := by
  simp only [stageBegin, hidle, hcores, Option.isSome_none, Bool.false_eq_true, if_false]
  exact ⟨_, rfl, rfl, mfind_merase_self ..⟩

theorem stageData_adds {n off : Nat} {b : Bytes} (h : s.rst.staging = some (n, off)) (hlen : b.length ≤ 16384)
    (hend : off + b.length ≤ 2 ^ 24) :
    ∃ r, stageData off b s = (s.withRst r, .ok) ∧ r.staging = some (n, off + b.length) ∧
      (mget {} r.slots n).image = (s.slotAt' n).image ++ b := by
  have hno : ¬(off ≠ off ∨ 16384 < b.length ∨ 2 ^ 24 < off + b.length) := by omega
  simp only [stageData, h, if_neg hno]
  exact ⟨_, rfl, rfl, by simp⟩

theorem stageData_range {n next off : Nat} {b : Bytes} (h : s.rst.staging = some (n, next)) (hoff : off ≠ next) :
    stageData off b s = (s, .range) := by
  simp [stageData, h, hoff]

/-- An image that passes is in its slot, and its staging is told. -/
theorem stageEnd_passes {n off : Nat} (h : s.rst.staging = some (n, off)) (hn : n < 2)
    (hok : s.imageOk (stagedSlot (s.slotAt' n).image).image = true) :
    ∃ r items, stageEnd s = ((s.withRst r).raise 0x0F04 0xFF items, .ok) ∧ r.staging = none ∧
      mget {} r.slots n = stagedSlot (s.slotAt' n).image := by
  have hok' : State.imageOk { s with rst := { s.rst with staging := none } } (stagedSlot (s.slotAt' n).image).image = true := hok
  have hne : n ≠ 2 := by omega
  simp only [stageEnd, h, hok', hne, Bool.not_true, Bool.false_eq_true, if_false]
  exact ⟨_, _, rfl, rfl, mget_mset_self ..⟩

theorem stageEnd_fails {n off : Nat} (h : s.rst.staging = some (n, off))
    (hok : s.imageOk (stagedSlot (s.slotAt' n).image).image = false) :
    stageEnd s = (s.withRst { s.rst with staging := none }, .integrity) := by
  have hok' : State.imageOk { s with rst := { s.rst with staging := none } } (stagedSlot (s.slotAt' n).image).image = false := hok
  simp only [stageEnd, h, hok', Bool.not_false, if_true]
  rfl

theorem raise_answers {code slice : Nat} {items : Bytes} (h : Answers k s) : Answers k (s.raise code slice items) := by
  have hx := raise_sessAt code slice items k s
  exact ⟨hx.live.trans h.live, (raise_silent ..).trans h.silent, hx.owed.trans h.owed⟩

/-- Settles O36. FW-STAGE without the claim completes CLAIMED (log 19), and data or end without a begin RANGE (log 73). -/
theorem imagesAreStaged : Obligations.ImagesAreStaged := by
  intro s k id hfree hready hlevel
  have hs : Stages s k := ⟨hfree, hready, hlevel⟩
  have hu : Answers k (s.requested k) := readyFor_requested hready
  have htakes : ∀ (w : Waits) (act : State → State), orPark k false false w act s = act s := orPark_takes hfree
  refine ⟨fun hclaim => ?unclaimed, fun hclaim hidle => ?begins, fun n off b hclaim h hlen hend => ?adds,
    fun n next off b hclaim h hoff => ?gap, fun n off hclaim h hn hok => ?passes, fun n off hclaim h hok => ?fails,
    fun hclaim => ?aborts⟩
  case unclaimed => exact ⟨_, congrArg Host.Outcome.next (htakes ..), stage_claimed hs hclaim _⟩
  case begins =>
    obtain ⟨r, hact, hstaging, hslot⟩ := stageBegin_erases (s := s.requested k) hidle hready.2.2.2.1
    obtain ⟨hrst, hans⟩ := stage_answers (id := id) hs hclaim hact (withRst_answers hu) rfl
    exact ⟨_, congrArg Host.Outcome.next (htakes ..), hrst ▸ hstaging, hrst ▸ hslot, hans⟩
  case adds =>
    obtain ⟨r, hact, hstaging, himage⟩ := stageData_adds (s := s.requested k) h hlen hend
    obtain ⟨hrst, hans⟩ := stage_answers (id := id) hs hclaim hact (withRst_answers hu) rfl
    exact ⟨_, congrArg Host.Outcome.next (htakes ..), hrst ▸ hstaging, by rw [State.slotAt', takeMsg, hrst]; exact himage, hans⟩
  case gap =>
    obtain ⟨hrst, hans⟩ := stage_answers (id := id) hs hclaim (stageData_range (s := s.requested k) (b := b) h hoff) hu rfl
    exact ⟨_, congrArg Host.Outcome.next (htakes ..), hrst, hans⟩
  case passes =>
    obtain ⟨r, items, hact, hstaging, hslot⟩ := stageEnd_passes (s := s.requested k) h hn hok
    obtain ⟨hrst, hans⟩ := stage_answers (id := id) hs hclaim hact (raise_answers (withRst_answers hu)) (by rw [State.raise_wire]; rfl)
    rw [State.raise_rst] at hrst
    exact ⟨_, congrArg Host.Outcome.next (htakes ..), hrst ▸ hstaging, by rw [State.slotAt', takeMsg, hrst]; exact hslot, hans⟩
  case fails =>
    obtain ⟨hrst, hans⟩ := stage_answers (id := id) hs hclaim (stageEnd_fails (s := s.requested k) h hok) (withRst_answers hu) rfl
    exact ⟨_, congrArg Host.Outcome.next (htakes ..), by rw [takeMsg, hrst, State.withRst], hans⟩
  case aborts =>
    obtain ⟨hrst, hans⟩ := stage_answers (id := id) (act := stageAbort) hs hclaim rfl (withRst_answers (r := { s.rst with staging := none }) hu) rfl
    exact ⟨_, congrArg Host.Outcome.next (htakes ..), by rw [takeMsg, hrst], hans⟩

end Sys2Proof.Machine
end

section
/-! MKA and its live peers (R379 to R381). -/

namespace Sys2Proof.Machine

variable {s t u : State} {n : Nat}

@[simp] theorem mkaAt_putMka (n : Nat) (m : Mka) (s : State) : (s.putMka n m).mkaAt n = m := by simp [State.mkaAt, State.putMka]
@[simp] theorem mkaAt_put (ix sub v n : Nat) (s : State) : (s.put ix sub v).mkaAt n = s.mkaAt n := rfl
@[simp] theorem mkaAt_raise (code slice : Nat) (items : Bytes) (n : Nat) (s : State) : (s.raise code slice items).mkaAt n = s.mkaAt n := by
  rw [State.mkaAt, State.raise_ke, State.mkaAt]
@[simp] theorem mkaAt_setMkaState (k v n : Nat) (s : State) : (setMkaState k v s).mkaAt n = s.mkaAt n := rfl

/-! ### An MKPDU is sent (R379, R380) -/

/-- What an MKPDU says. -/
def State.mkpduBody (s : State) (n : Nat) : Bytes :=
  be 6 0x0180C2000003 ++ s.oct (Ix.port (0x40 + n)) Sub.port_PAUSE_SA ++ be 2 0x888E ++ Config.mkpdu (s.mkpduFields n) (s.mkaWrapped n)

/-- An MKPDU as it leaves, with its ICV. -/
def State.mkpduFrame (s : State) (n : Nat) : Bytes := s.mkpduBody n ++ cmac (s.mkaIck n) (s.mkpduBody n)

/-- MKA has counted the MKPDU that it sends, and times the next one from here. -/
def State.mkaCounted (s : State) (n : Nat) : State := (s.putMka n { s.mkaAt n with mn := (s.mkaAt n).mn + 1 }).mark (Timer.mka n)

theorem mkaSend_eq (hruns : s.mkaRuns n = true) (hsends : s.ownSends n = true) :
    mkaSend n s = sendOwn n (.mkpdu n (s.mkpduFrame n)) (s.mkpduFrame n) (s.mkaCounted n) := by
  simp only [mkaSend, hruns, hsends, Bool.not_true, Bool.or_self, Bool.false_eq_true, if_false]
  rfl

/-- A frame goes into a tributary's mapper where the slice is in OTN mode. -/
theorem sendOwn_mapped (hsends : s.ownSends n = true) (hmode : s.otnMode (n / 8) ≠ 0) (e : Emission) (b : Bytes) :
    ∃ m, sendOwn n e b s = { s with
      otn := m, wire := s.wire ++ [.mapped (n / 8) (n % 8) (withFcs (padTo 60 b)) false] ++ [e] } := by
  have htrib : s.tribOn (n / 8) (n % 8) = true := by
    simp only [State.ownSends, if_neg hmode, Bool.and_eq_true] at hsends
    exact hsends.1
  simp only [sendOwn, mapIn, if_neg hmode, htrib, if_true]
  exact ⟨_, rfl⟩

/-- The emissions of a frame of the device's own. -/
def State.ownWire (s : State) (n : Nat) (e : Emission) (b : Bytes) : List Emission :=
  (if s.otnMode (n / 8) = 0 then [] else [.mapped (n / 8) (n % 8) (withFcs (padTo 60 b)) false]) ++ [e]

theorem ownWire_port (hmode : s.otnMode (n / 8) = 0) (e : Emission) (b : Bytes) : s.ownWire n e b = [e] := by
  rw [State.ownWire, if_pos hmode, List.nil_append]

theorem sendOwn_eq (hsends : s.ownSends n = true) (hloop : s.laneLoop (0x40 + n) = 0) (e : Emission) (b : Bytes) :
    ∃ tm m, sendOwn n e b s = { s with tm := tm, otn := m, wire := s.wire ++ s.ownWire n e b } := by
  by_cases hmode : s.otnMode (n / 8) = 0
  · obtain ⟨x, y, h⟩ := sendOwn_port ⟨hsends, hmode, hloop⟩ e b
    exact ⟨_, s.otn, by rw [h, State.ownWire, if_pos hmode, List.nil_append]⟩
  · obtain ⟨m, h⟩ := sendOwn_mapped hsends hmode e b
    exact ⟨s.tm, m, by rw [h, State.ownWire, if_neg hmode, List.append_assoc]⟩

section Sends
variable (hruns : s.mkaRuns n = true) (hsends : s.ownSends n = true) (hloop : s.laneLoop (0x40 + n) = 0)
include hruns hsends hloop

/-- An MKPDU leaves, and is counted. -/
theorem mkaSend_sends : ∃ tm m, mkaSend n s = { s.mkaCounted n with
    tm := tm, otn := m, wire := s.wire ++ s.ownWire n (.mkpdu n (s.mkpduFrame n)) (s.mkpduFrame n) } := by
  obtain ⟨tm, m, h⟩ := sendOwn_eq (s := s.mkaCounted n) hsends hloop (.mkpdu n (s.mkpduFrame n)) (s.mkpduFrame n)
  exact ⟨tm, m, (mkaSend_eq hruns hsends).trans h⟩

theorem mkaSend_mkaAt : (mkaSend n s).mkaAt n = { s.mkaAt n with mn := (s.mkaAt n).mn + 1 } := by
  obtain ⟨tm, m, h⟩ := mkaSend_sends hruns hsends hloop
  rw [h]
  exact mkaAt_putMka ..

end Sends

/-! ### The hello timer (R380, R381) -/

theorem mkaHello_early (h : s.past (Timer.mka n) (s.mkaSendNs n) = false) : mkaHello n s = s := if_pos (by simp [h])

theorem mkaHello_sends (hpast : s.past (Timer.mka n) (s.mkaSendNs n) = true) (hsak : (s.mkaAt n).sak.isSome = true)
    (hdue : (s.mkaAt n).due = false) (hthresh : s.mkaThresh n = false) : mkaHello n s = mkaSend n s := by
  simp [mkaHello, hpast, hdue, hthresh, Option.isNone_eq_false_iff.mpr hsak]

/-! ### An MKPDU is received (R379, R381) -/

section Received
variable {pdu : Bytes} {v : Mkpdu}

theorem mkpdu_ignored (h : cmac (s.mkaIck n) (pdu.take (pdu.length - 16)) ≠ pdu.drop (pdu.length - 16) ∨ s.mkaStale n v = true) :
    mkpduReceived n pdu v s = s := if_pos (.inr (.inr h))

section Taken
variable (hruns : s.mkaRuns n = true) (hlen : 16 ≤ pdu.length)
  (hicv : cmac (s.mkaIck n) (pdu.take (pdu.length - 16)) = pdu.drop (pdu.length - 16)) (hfresh : s.mkaStale n v = false)
include hruns hlen hicv hfresh

theorem mkpdu_taken : ¬(!s.mkaRuns n ∨ pdu.length < 16 ∨
    cmac (s.mkaIck n) (pdu.take (pdu.length - 16)) ≠ pdu.drop (pdu.length - 16) ∨ s.mkaStale n v) := by
  simp [hruns, hicv, hfresh]
  omega

/-- A stranger that does not list this device is a potential peer. -/
theorem mkpdu_stranger (hnone : (s.mkaAt n).peers = []) (hlists : v.listsUs = false) : mkpduReceived n pdu v s = mkaPotential n v s := by
  unfold mkpduReceived
  rw [if_neg (mkpdu_taken hruns hlen hicv hfresh)]
  simp [hnone, hlists]

/-- The record of MKA in which a live peer has just been heard. -/
def Mka.heardFrom (m : Mka) (v : Mkpdu) (now : Nat) : Mka :=
  { m with potential := m.potential.filter (fun p => p.mi != v.mi), peers := m.peers.map (fun p => if p.mi = v.mi then v.peer now else p) }

/-- A live peer that brings neither PNs nor a SAK refreshes its record, where there is no SAK to change over to. -/
theorem mkpdu_refreshes (hknown : (s.mkaAt n).peers.any (fun p => p.mi == v.mi) = true) (hlowest : v.lowest = none) (hv : v.sak = none)
    (hsak : (s.mkaAt n).sak = none) :
    ∃ m, mkpduReceived n pdu v s = (s.putMka n m).putMka n ((s.mkaAt n).heardFrom v s.time.periods) := by
  have hchange : ∀ u : State, (u.mkaAt n).sak = none → mkaChange n u = u := by
    intro u hu
    unfold mkaChange mkaSwitch
    cases u.mkaSecy n with
    | none => rfl
    | some y => simp only [hu]
  unfold mkpduReceived
  rw [if_neg (mkpdu_taken hruns hlen hicv hfresh)]
  simp only [hknown, hlowest, hv, Bool.not_true, Bool.false_eq_true, false_and, if_false, if_true]
  refine ⟨_, (hchange _ ?_).trans rfl⟩
  rw [mkaAt_putMka]
  exact hsak

end Taken
end Received

/-! ### A peer is lost (R380, R381) -/

theorem mkaPeerTimeout_early {mi : Nat} (h : s.peerGone n mi = false) : mkaPeerTimeout n mi s = s := if_pos (.inr (by simp [h]))

/-- Without a live peer there is nothing to change over to, and no SAK is drawn. -/
theorem mkaChange_alone (h : (s.mkaAt n).peers = []) : mkaChange n s = s := by
  unfold mkaChange mkaSwitch
  cases s.mkaSecy n with
  | none => rfl
  | some y =>
    cases hsak : (s.mkaAt n).sak with
    | none => simp only [hsak]
    | some x => simp [hsak, h]

theorem mkaRekey_alone (h : (s.mkaAt n).peers = []) : mkaRekey n s = s := by simp [mkaRekey, h]

/-- MKA has lost its last peer. -/
def State.mkaDown (s : State) (n : Nat) : State :=
  (setMkaState n 1 ((s.putMka n { s.mkaAt n with peers := [] }).put (Ix.kePort n) Sub.kePort_MKA_PEERS 0)).raise 0x0A04 0xFF
    (be 1 n ++ be 2 0)

theorem mkaDown_peers (n : Nat) (s : State) : ((s.mkaDown n).mkaAt n).peers = [] := by simp [State.mkaDown]

theorem mkaPeers_last (h : (s.mkaAt n).peers ≠ []) : mkaPeers n [] s = s.mkaDown n := by
  have hdown : mkaPeers n [] s = mkaRekey n (mkaChange n (s.mkaDown n)) := by
    simp [mkaPeers, h, State.mkaDown]
  rw [hdown, mkaChange_alone (mkaDown_peers ..), mkaRekey_alone (mkaDown_peers ..)]

theorem mkaPeerTimeout_last {p : MkaPeer} (hruns : s.mkaRuns n = true) (hp : (s.mkaAt n).peers = [p]) (hgone : s.peerGone n p.mi = true) :
    mkaPeerTimeout n p.mi s = s.mkaDown n := by
  have hlast := mkaPeers_last (s := s) (n := n) (by simp [hp])
  simp [mkaPeerTimeout, hruns, hgone, hp, hlast, mkaChange_alone (mkaDown_peers ..)]

/-- Settles O29. An MKPDU's octets, and what answers a stranger, follow IEEE 802.1X as the model presumes it (log 54). -/
theorem mkaKeepsPeers : Obligations.MkaKeepsPeers := by
  intro s n hn hruns
  have hmod : n % 32 = n := Nat.mod_eq_of_lt hn
  have hhello : exec (.mkaHelloTimer n) s = .next (mkaHello n s) := congrArg (fun k => Host.Outcome.next (mkaHello k s)) hmod
  have hreceived : ∀ pdu v, exec (.mkpduReceived n pdu v) s = .next (mkpduReceived n pdu v s) :=
    fun pdu v => congrArg (fun k => Host.Outcome.next (mkpduReceived k pdu v s)) hmod
  have hlost : ∀ mi, exec (.mkaPeerTimeout n mi) s = .next (mkaPeerTimeout n mi s) :=
    fun mi => congrArg (fun k => Host.Outcome.next (mkaPeerTimeout k mi s)) hmod
  refine ⟨fun hpast => ?early, fun b hpast hsends hsak hdue hthresh hloop hb => ?hello, fun pdu v hlen hicv => ?unsigned,
    fun pdu v hsends hmode hloop hfresh hlen hicv hnone hlists => ?stranger, fun pdu v hlen hicv hfresh hknown hlowest hv hsak => ?refreshed,
    fun pdu v hstale => ?stale, fun mi hgone => ?stays, fun p hp hgone => ?last⟩
  case early => rw [hhello, mkaHello_early hpast]
  case hello =>
    subst hb
    refine ⟨_, hhello, ?_⟩
    beta_reduce
    rw [mkaHello_sends hpast hsak hdue hthresh, mkaSend_mkaAt hruns hsends hloop]
    obtain ⟨tm, m, h⟩ := mkaSend_sends hruns hsends hloop
    rw [h]
    exact ⟨(List.append_assoc ..).symm, rfl, rfl⟩
  case unsigned => rw [hreceived, mkpdu_ignored (.inl hicv)]
  case stranger =>
    have hruns' : ∀ m, (s.putMka n m).mkaRuns n = true := fun _ => hruns
    refine ⟨_, hreceived .., ?_⟩
    beta_reduce
    rw [mkpdu_stranger hruns hlen hicv hfresh hnone hlists, mkaPotential]
    obtain ⟨tm, m, h⟩ := mkaSend_sends (hruns' { s.mkaAt n with
      potential := (s.mkaAt n).potential.filter (fun p => p.mi != v.mi) ++ [v.peer s.time.periods] }) hsends hloop
    rw [mkaSend_mkaAt (hruns' _) hsends hloop, mkaAt_putMka, h]
    exact ⟨hnone, rfl, _, congrArg (s.wire ++ ·) (ownWire_port hmode _ _)⟩
  case refreshed =>
    obtain ⟨m, h⟩ := mkpdu_refreshes hruns hlen hicv hfresh hknown hlowest hv hsak
    refine ⟨_, (hreceived ..).trans (congrArg _ h), ?_⟩
    beta_reduce
    rw [mkaAt_putMka]
    exact ⟨rfl, rfl⟩
  case stale => rw [hreceived, mkpdu_ignored (.inr hstale)]
  case stays => rw [hlost, mkaPeerTimeout_early hgone]
  case last =>
    refine ⟨_, (hlost ..).trans (congrArg _ (mkaPeerTimeout_last hruns hp hgone)), mkaDown_peers .., ?_, ?_⟩
    · rw [State.mkaDown, State.ob_raise (by decide) (by simp only [Ix.kePort]; omega), setMkaState,
        State.ob_put_ne (by simp [okey, Sub.kePort_MKA_PEERS, Sub.kePort_MKA_STATE]), State.ob_put_self]
    · rw [State.mkaDown, State.ob_raise (by decide) (by simp only [Ix.kePort]; omega)]
      exact State.ob_put_self ..

end Sys2Proof.Machine
end

section
/-! The ring: MESSAGEs to their sessions, frames that go on, and DISCOVER (R490 to R492, R496, R497). -/

namespace Sys2Proof.Machine

variable {s t u : State} {c : Caller}

/-! ### Octets and the numbers that they spell -/

theorem num_append_be (k n a : Nat) : (be k n).foldl (fun a x => a * 256 + x.toNat) a = a * 256 ^ k + n % 256 ^ k := by
  induction k generalizing a with
  | zero => simp [be, Nat.mod_one]
  | succ k ih =>
    have hbyte : (byte (n / 256 ^ k)).toNat = n / 256 ^ k % 256 := by simp [byte]
    have hsplit : n % 256 ^ (k + 1) = n / 256 ^ k % 256 * 256 ^ k + n % 256 ^ k := by
      rw [Nat.pow_succ, Nat.mod_mul, Nat.mul_comm, Nat.add_comm]
    rw [be, List.foldl_cons, ih, hbyte, hsplit]
    ring

theorem num_be {k n : Nat} (h : n < 256 ^ k) : num (be k n) = n := by
  rw [num, num_append_be, Nat.mod_eq_of_lt h]
  omega

/-- A field at the front, and one behind octets of its offset's length. -/
theorem fld_front {k n : Nat} (h : n < 256 ^ k) (b : Bytes) : fld (be k n ++ b) 0 k = n := by
  simp [fld, sub, num_be h]

theorem fld_behind {a : Bytes} {off : Nat} (ha : a.length = off) (b : Bytes) (len : Nat) : fld (a ++ b) off len = fld b 0 len := by
  rw [fld, sub_append_right (by omega), ha, Nat.sub_self, fld]

theorem fld_whole {k n : Nat} (h : n < 256 ^ k) : fld (be k n) 0 k = n := by simpa using fld_front h []

theorem aesEnc_length {key blk : Bytes} (h : blk.length = 16) : (aesEnc key blk).length = 16 := by
  unfold aesEnc
  split
  · exact h
  · exact be_length ..

theorem gcmTag_length (key : Bytes) (h : Nat) {iv : Bytes} (a c : Bytes) (hiv : iv.length = 12) : (gcmTag key h iv a c).length = 16 := by
  have hblock : (gcmCtr iv 0).length = 16 := by simp [gcmCtr, hiv]
  simp [gcmTag, xorB, aesEnc_length hblock]

/-! ### A MESSAGE and its session (R496, R497) -/

theorem execMessage_eq {port src n : Nat} (payload : Bytes) (hport : port < 3) (hsrc : src < 256) (hn : n < 2 ^ 32) :
    exec (.messageReceived port src n payload) s = .next (messageReceived port src n payload s) := by
  have hexec : exec (.messageReceived port src n payload) s =
    .next (messageReceived (port % 3) (src % 256) (n % 2 ^ 32) payload s) := rfl
  rw [hexec, Nat.mod_eq_of_lt hport, Nat.mod_eq_of_lt hsrc, Nat.mod_eq_of_lt hn]

section Received
variable {port src n k : Nat} {payload : Bytes} (hears : s.portHears port = true)
include hears

theorem message_stranger (h : s.sessOf n = none) :
    messageReceived port src n payload s = s.addOb ringIx Sub.ring_HAL_NO_SESSION 32 1 := by
  simp [messageReceived, hears, h]

theorem message_short (h : s.sessOf n = some k) (hshort : payload.length < 24) : messageReceived port src n payload s = badTag k s := by
  simp [messageReceived, hears, h, hshort]

/-- A MESSAGE whose tag is good and whose SEQ is accepted brings its plaintext. -/
theorem message_taken {seq : Nat} {key iv p c : Bytes} (h : s.sessOf n = some k) (hseq : seq < 2 ^ 64)
    (hok : (s.sessAt k).seqOk seq = true) (hkey : key = be 32 (s.sessAt k).kM2D) (hiv : iv = zeros 4 ++ be 8 seq)
    (hopen : gcmCrypt key iv c = p) (hlen : c.length = 8) :
    messageReceived port src n (be 8 seq ++ c ++ gcmTag key (hashKey key) iv (messageAad n src (s.nodeAddr port)) c) s =
      takeMessage k p (s.putSess k { (s.sessAt k).seqNote seq with port := port }) := by
  generalize htag : gcmTag key (hashKey key) iv (messageAad n src (s.nodeAddr port)) c = tag
  have htag16 : tag.length = 16 := by
    rw [← htag]
    exact gcmTag_length _ _ _ _ (by simp [hiv, zeros])
  have hlong : (be 8 seq ++ c ++ tag).length = 32 := by simp [hlen, htag16]
  have hfld : fld (be 8 seq ++ c ++ tag) 0 8 = seq := by
    rw [List.append_assoc]
    exact fld_front hseq _
  have hbody : sub (be 8 seq ++ c ++ tag) 8 (32 - 24) = c := by
    rw [sub_append_left (by simp [hlen]), sub_append_right (by simp)]
    simp [sub, ← hlen]
  have hend : (be 8 seq ++ c ++ tag).drop (32 - 16) = tag := List.drop_left' (by simp [hlen])
  have hno : ¬((be 8 seq ++ c ++ tag).length < 24 ∨ (be 8 seq ++ c ++ tag).drop ((be 8 seq ++ c ++ tag).length - 16) ≠
      gcmTag (be 32 (s.sessAt k).kM2D) (hashKey (be 32 (s.sessAt k).kM2D)) (zeros 4 ++ be 8 (fld (be 8 seq ++ c ++ tag) 0 8))
        (messageAad n src (s.nodeAddr port)) (sub (be 8 seq ++ c ++ tag) 8 ((be 8 seq ++ c ++ tag).length - 24))) := by
    rw [hfld, hlong, hend, hbody, ← hkey, ← hiv, htag]
    simp
  simp only [messageReceived, hears, h, Bool.not_true, Bool.false_eq_true, if_false]
  rw [if_neg hno, hfld, hok, hlong, hbody, ← hkey, ← hiv, hopen]
  rfl

end Received

/-- SUBSCRIBE in its octets. -/
theorem takeMessage_subscribe {k id mask : Nat} (hid : id < 2 ^ 16) (hmask : mask < 2 ^ 32) (s : State) :
    takeMessage k ([7, 0] ++ be 2 id ++ be 4 mask) s = takeOther k (.msgSubscribe k id mask) s := by
  have hop : fld ([7, 0] ++ be 2 id ++ be 4 mask) 0 1 = 7 := by simp [fld, sub, num]
  have hzero : fld ([7, 0] ++ be 2 id ++ be 4 mask) 1 1 = 0 := by simp [fld, sub, num]
  have hreq : fld ([7, 0] ++ be 2 id ++ be 4 mask) 2 2 = id := by
    rw [List.append_assoc]
    exact (fld_behind (a := [7, 0]) rfl _ _).trans (fld_front hid _)
  have hbody : ([7, 0] ++ be 2 id ++ be 4 mask).drop 4 = be 4 mask := List.drop_left' (by simp)
  have hlen : ¬ ([7, 0] ++ be 2 id ++ be 4 mask).length < 4 := by simp
  have hmask' : fld (be 4 mask) 0 4 = mask := fld_whole hmask
  generalize [7, 0] ++ be 2 id ++ be 4 mask = b at *
  simp only [takeMessage, hlen, hop, hzero, hreq, hbody, takeRequest, hmask', be_length, ne_eq, not_true_eq_false, if_false, if_true]

theorem badTag_counts {k : Nat} (h : (s.sessAt k).badTags < 15) : badTag k s =
    (s.addOb ringIx Sub.ring_HAL_AUTH_FAIL 32 1).putSess k { s.sessAt k with badTags := (s.sessAt k).badTags + 1 } := if_neg (by omega)

/-! ### A ring frame goes on (R490) -/

/-- A frame that the ring brings is looked at: it comes from a port that hears, the node has joined, and it has hops left. -/
structure Passes (port : Nat) (f : Bytes) (s : State) : Prop where
  hears : s.portHears port = true
  joined : s.acc.joined = true
  long : 30 ≤ f.length

theorem ringFrame_expired {port : Nat} {f : Bytes} {ok busy : Bool} (h : Passes port f s) (hops : fld (f.drop 14) 4 1 = 0) :
    ringFrame port f ok busy s = s.addOb ringIx Sub.ring_HAL_HOPS_EXPIRED 32 1 := by
  have hlong : ¬ f.length < 30 := by have := h.long; omega
  simp [ringFrame, h.hears, h.joined, hlong, hops]

/-- A frame for another node is forwarded; one with a bad FCS is counted. -/
theorem ringFrame_forwards {port : Nat} {f : Bytes} {ok busy : Bool} (h : Passes port f s) (hops : fld (f.drop 14) 4 1 ≠ 0)
    (hdst : fld (f.drop 14) 2 1 ≠ s.ob ringIx Sub.ring_NODE_ADDR)
    (hkind : ok = true → fld (f.drop 14) 1 1 ≠ 3 ∧ fld (f.drop 14) 1 1 ≠ 4) :
    ringFrame port f ok busy s =
      forward (3 - port) (lessHop f, ok) busy (if ok then s else s.addOb ringIx Sub.ring_HAL_BAD_FCS 32 1) := by
  have hlong : ¬ f.length < 30 := by have := h.long; omega
  cases ok with
  | false => simp [ringFrame, h.hears, h.joined, hlong, hops, hdst]
  | true =>
    obtain ⟨h3, h4⟩ := hkind rfl
    simp [ringFrame, h.hears, h.joined, hlong, hops, hdst, h3, h4]

theorem drainFwd_empty {port : Nat} (h : s.fwd port = []) : drainFwd port s = s := by
  have hsame : s.putFwd port [] = s := by
    unfold State.fwd at h
    unfold State.putFwd
    split <;> simp_all
    · rw [← h]
    · rw [← h]
  rw [drainFwd, h, hsame]
  rfl


/-- SUBSCRIBE of a session above the lowest level sets its mask. -/
theorem subscribe_sets {k id mask : Nat} (hfree : s.parks k false false = false) (h : s.readyFor k) (hlevel : 1 ≤ (s.sessAt k).level)
    (hmask : mask < 2 ^ 32) :
    SaidTo k (response 7 id Status.ok.code []) { s.sessAt k with mask := mask, txSeq := (s.sessAt k).txSeq + 1 } (s.requested k)
      (takeOther k (.msgSubscribe k id mask) s) := by
  have hu : Answers k ((s.requested k).putSess k { s.sessAt k with mask := mask }) := by
    obtain ⟨hlive, hsilent, howed⟩ := readyFor_requested h
    exact ⟨by rw [State.sessAt_putSess_self]; exact hlive, hsilent, by rw [State.sessAt_putSess_self]; exact howed⟩
  have hsaid := answer_said hu 7 id .ok (body := []) (by decide)
  rw [State.sessAt_putSess_self] at hsaid
  have hno : ¬((s.sessAt k).level = 0 ∧ mask % 2 ^ 32 &&& (2 ^ 32 - 1 - 2 ^ 12) ≠ 0) := by omega
  have hact : takeOther k (.msgSubscribe k id mask) s =
      answer k 7 id .ok [] ((s.requested k).putSess k { s.sessAt k with mask := mask }) := by
    rw [takeOther, orPark_takes hfree, takeMsg, msgSubscribe, request_ready h]
    refine (if_neg hno).trans ?_
    rw [Nat.mod_eq_of_lt hmask]
    rfl
  rw [hact]
  exact hsaid.ofPut

theorem fwd_putFwd {port : Nat} (h : port = 1 ∨ port = 2) (l : List (Bytes × Bool)) (s : State) : (s.putFwd port l).fwd port = l := by
  rcases h with rfl | rfl <;> rfl

theorem putFwd_keeps (port : Nat) (l : List (Bytes × Bool)) (s : State) : (s.putFwd port l).wire = s.wire ∧ (s.putFwd port l).dict = s.dict := by
  unfold State.putFwd
  split <;> exact ⟨rfl, rfl⟩

theorem lessHop_length {f : Bytes} (h : 30 ≤ f.length) : (lessHop f).length = f.length := by
  simp [lessHop]
  omega

/-! ### DISCOVER (R492) -/

theorem emits_foldl {β : Type} (g : State → β → Emission) (l : List β) (s : State) :
    ∃ w, (l.foldl (fun t i => t.emit (g t i)) s).wire = s.wire ++ w := by
  induction l generalizing s with
  | nil => exact ⟨[], (List.append_nil _).symm⟩
  | cons i l ih =>
    obtain ⟨w, hw⟩ := ih (s.emit (g s i))
    exact ⟨g s i :: w, by rw [List.foldl_cons, hw]; simp⟩

/-- What is sent out of a ring port leaves in frames, of which there is one at least. -/
theorem send_ring {port dst kind session : Nat} {payload : Bytes} (hport : port ≠ 0) (hfwd : s.fwd port = []) :
    ∃ f l, (send port dst kind session payload s).wire = s.wire ++ .ring port f :: l := by
  obtain ⟨m, hm⟩ : ∃ m, max 1 ((payload.length + 1471) / 1472) = m + 1 := ⟨max 1 ((payload.length + 1471) / 1472) - 1, by omega⟩
  unfold send
  simp only [if_neg hport, drainFwd_empty hfwd, hm, List.range_succ_eq_map, List.foldl_cons]
  obtain ⟨w, hw⟩ := emits_foldl (fun t i => .ring port (t.ringFrame (ringHeader kind dst (s.nodeAddr port) i (m + 1) session
    (sub payload (1472 * i) 1472).length) (sub payload (1472 * i) 1472))) (List.map Nat.succ (List.range m))
    (s.emit (.ring port (s.ringFrame (ringHeader kind dst (s.nodeAddr port) 0 (m + 1) session (sub payload (1472 * 0) 1472).length)
      (sub payload (1472 * 0) 1472))))
  exact ⟨_, w, hw.trans (List.append_assoc ..)⟩

theorem linkEvent_logged {code head : Nat} {items : Bytes} (hcores : s.rst.coresHeld = false) (hhead : s.ob 0x0300 Sub.evCtl_EV_HEAD = head) :
    mfind (linkEvent code items s).acc.log head = some (eventRecord code 0xFF head s.ns items) := by
  subst hhead
  have hlog := raise_logged (code := code) (slice := 0xFF) (items := items) hcores
  unfold linkEvent
  dsimp only
  split <;> exact hlog

/-- Settles O38. A message is handled in one step (log 74). -/
theorem ringCarriesMessages : Obligations.RingCarriesMessages := by
  intro s
  refine ⟨fun port src n payload hdeaf hport => ?deaf, fun port src n payload hport hears hsrc hn hnone => ?stranger,
    fun port src n payload k hport hears hsrc hn hof hshort hbad => ?bad,
    fun port src n k seq id mask key iv p c hport hears hfree hsrc hn hseq hid hmask hof hready hlevel hok hkey hiv hp hc hopen hlen =>
      ?message,
    fun b f port hb hears hjoined hlong hops hdst => ⟨fun h3 h4 hfwd => ?forwards, fun h3 h4 hroom => ?stores, fun hfwd => ?cut⟩,
    fun b f ok busy hears hjoined hlong hops => ?expires, fun b src hops hears hfwd => ?discovered,
    fun b src dev head hears hsrc hdev hcores hhead => ?twice⟩
  case deaf =>
    refine congrArg Host.Outcome.next (if_pos ?_)
    rw [Nat.mod_eq_of_lt hport, hdeaf]
    rfl
  case stranger =>
    exact ⟨_, (execMessage_eq payload hport hsrc hn).trans (congrArg _ (message_stranger hears hnone)), State.ob_addOb_self .., rfl⟩
  case bad =>
    refine ⟨_, (execMessage_eq payload hport hsrc hn).trans (congrArg _ ((message_short hears hof hshort).trans (badTag_counts hbad))), ?_⟩
    beta_reduce
    rw [State.sessAt_putSess_self]
    exact ⟨rfl, rfl, State.ob_addOb_self ..⟩
  case message =>
    have htake := message_taken (src := src) hears hof hseq hok hkey hiv hopen hlen
    rw [hp, takeMessage_subscribe hid hmask] at htake
    refine ⟨_, (execMessage_eq _ hport hsrc hn).trans (congrArg _ htake), ?_⟩
    have hx := State.sessAt_putSess_self (s := s) k { (s.sessAt k).seqNote seq with port := port }
    have hready' : (s.putSess k { (s.sessAt k).seqNote seq with port := port }).readyFor k := by
      rw [State.readyFor, hx]
      exact hready
    have hsaid := subscribe_sets (id := id) (mask := mask) (by exact hfree) hready' (by rw [hx]; exact hlevel) hmask
    beta_reduce
    rw [hsaid.self, hx]
    exact ⟨rfl, rfl, hsaid.answered [] (List.append_nil _).symm⟩
  case forwards =>
    subst hb
    have hf := ringFrame_forwards (ok := true) (busy := false) ⟨hears, hjoined, hlong⟩ hops hdst (fun _ => ⟨h3, h4⟩)
    refine ⟨_, congrArg Host.Outcome.next hf, ?_⟩
    simp only [forward, if_true, Bool.false_eq_true, if_false, drainFwd_empty hfwd]
    exact ⟨rfl, rfl⟩
  case stores =>
    subst hb
    have hf := ringFrame_forwards (ok := true) (busy := true) ⟨hears, hjoined, hlong⟩ hops hdst (fun _ => ⟨h3, h4⟩)
    refine ⟨_, congrArg Host.Outcome.next hf, ?_⟩
    have hno : ¬ 12288 < ((s.fwd (3 - if b then 2 else 1)).map (·.1.length)).sum + (lessHop f).length := by
      rw [lessHop_length hlong]
      omega
    simp only [forward, if_true, if_neg hno]
    exact ⟨fwd_putFwd (by cases b <;> simp) _ _, putFwd_keeps ..⟩
  case cut =>
    subst hb
    have hf := ringFrame_forwards (ok := false) (busy := false) ⟨hears, hjoined, hlong⟩ hops hdst (fun h => nomatch h)
    refine ⟨_, congrArg Host.Outcome.next hf, ?_⟩
    have hfwd' : (s.addOb ringIx Sub.ring_HAL_BAD_FCS 32 1).fwd (3 - if b then 2 else 1) = [] := hfwd
    simp only [forward, Bool.false_eq_true, if_false, drainFwd_empty hfwd']
    exact ⟨rfl, State.ob_addOb_self ..⟩
  case expires =>
    exact ⟨_, congrArg Host.Outcome.next (ringFrame_expired ⟨hears, hjoined, hlong⟩ hops), State.ob_addOb_self .., rfl⟩
  case discovered =>
    have hport : (if b then 2 else 1) ≠ 0 := by cases b <;> decide
    have hno : ¬(!s.portHears (if b then 2 else 1) ∨ (if b then 2 else 1) = 0) := by simp [hears, hport]
    exact ⟨_, congrArg Host.Outcome.next (if_neg hno), send_ring hport hfwd⟩
  case twice => exact ⟨_, congrArg Host.Outcome.next (if_pos ⟨hears, hsrc, hdev⟩), linkEvent_logged hcores hhead⟩

end Sys2Proof.Machine
end

section
/-! The mailbox, the bypass and the PCIe link (R488, R498, R505 to R508). -/

namespace Sys2Proof.Machine

variable {s t u : State} {c : Caller}

/-! ### A session ends, and the others stay (R498) -/

theorem endClaim_sessAt (ix k : Nat) (s : State) : (endClaim ix s).sessAt k = s.sessAt k := by
  unfold endClaim claimEnded
  split <;> rfl

theorem endClaim_ob {ix ix' sub : Nat} (hne : okey ix' sub ≠ okey snapIx Sub.snap_SNAP_STATE) :
    (endClaim ix s).ob ix' sub = s.ob ix' sub := by
  unfold endClaim claimEnded
  split
  · exact State.ob_put_ne hne
  · rfl

theorem endClaims_sessAt (l : List Nat) (k : Nat) (s : State) : (l.foldl (fun t ix => endClaim ix t) s).sessAt k = s.sessAt k := by
  induction l generalizing s with
  | nil => rfl
  | cons ix l ih => rw [List.foldl_cons, ih, endClaim_sessAt]

theorem endClaims_ob {ix sub : Nat} (hne : okey ix sub ≠ okey snapIx Sub.snap_SNAP_STATE) (l : List Nat) (s : State) :
    (l.foldl (fun t ix => endClaim ix t) s).ob ix sub = s.ob ix sub := by
  induction l generalizing s with
  | nil => rfl
  | cons ix l ih => rw [List.foldl_cons, ih, endClaim_ob hne]

theorem closeSess_sessAt_ne {k j : Nat} (cause : Nat) (s : State) (h : j ≠ k) :
    (s.sessAt j).Notified ((closeSess k cause s).sessAt j) := by
  unfold closeSess
  dsimp only
  split_ifs
  · rw [ephRelease_sessAt, State.sessAt_putSess_ne h]
    exact .refl _
  · exact .refl _
  · refine Sess.Notified.trans ?_ (raise_sessAt ..)
    rw [ephRelease_sessAt, State.sessAt_putSess_ne h, endClaims_sessAt]
    exact .refl _
  · exact .refl _

theorem closeSess_ended (k cause : Nat) (s : State) : ((closeSess k cause s).sessAt k).alive = false := by
  unfold closeSess
  dsimp only
  split_ifs with h16 halive halive
  · rw [ephRelease_sessAt, State.sessAt_putSess_self]
    rfl
  · simpa using halive
  · rw [raise_sessAt_dead] <;> rw [ephRelease_sessAt, State.sessAt_putSess_self] <;> rfl
  · simpa using halive

theorem closeSess_ob {k cause ix sub : Nat} (hsub : sub < 256) (hix : ix ≠ 0x0300)
    (hsnap : okey ix sub ≠ okey snapIx Sub.snap_SNAP_STATE) (hfill : okey ix sub ≠ okey keIx Sub.ke_PKE_QUEUE_FILL) (s : State) :
    (closeSess k cause s).ob ix sub = s.ob ix sub := by
  unfold closeSess
  dsimp only
  split_ifs
  · exact (ephRelease_fewer _).ob hfill
  · rfl
  · rw [State.ob_raise hsub hix, (ephRelease_fewer _).ob hfill]
    exact endClaims_ob hsnap ..
  · rfl

/-- What names sessions does not hang on their notifications, and names none that has ended. -/
structure NamesLiving (which : Sess → Bool) : Prop where
  same : ∀ {x y}, Sess.Notified x y → which y = which x
  living : ∀ {x}, x.alive = false → which x = false

section CloseAll
variable {which : Sess → Bool} (h : NamesLiving which) (cause : Nat)
include h

theorem closeSess_unnamed (k j : Nat) (hj : which (s.sessAt j) = false) : which ((closeSess k cause s).sessAt j) = false := by
  by_cases hne : j = k
  · subst hne
    exact h.living (closeSess_ended ..)
  · rw [h.same (closeSess_sessAt_ne cause s hne), hj]

theorem closeList_unnamed (l : List Nat) (j : Nat) (s : State) (hj : j ∈ l ∨ which (s.sessAt j) = false) :
    which ((l.foldl (fun t k => if which (t.sessAt k) then closeSess k cause t else t) s).sessAt j) = false := by
  induction l generalizing s with
  | nil => exact hj.resolve_left (by simp)
  | cons k l ih =>
    rw [List.foldl_cons]
    by_cases hkeep : which (s.sessAt j) = false
    · refine ih _ (.inr ?_)
      split
      · exact closeSess_unnamed h cause k j hkeep
      · exact hkeep
    · rcases List.mem_cons.mp (hj.resolve_right hkeep) with rfl | hin
      · refine ih _ (.inr ?_)
        rw [if_pos (by simpa using hkeep)]
        exact h.living (closeSess_ended ..)
      · exact ih _ (.inl hin)

/-- Every session that is named has ended. -/
theorem closeAll_unnamed {k : Nat} (hk : k < 32) : which ((closeAll which cause s).sessAt k) = false :=
  closeList_unnamed h cause _ k s (.inl (List.mem_range.mpr hk))

end CloseAll

theorem closeAll_ob {ix sub : Nat} (hsub : sub < 256) (hix : ix ≠ 0x0300)
    (hsnap : okey ix sub ≠ okey snapIx Sub.snap_SNAP_STATE) (hfill : okey ix sub ≠ okey keIx Sub.ke_PKE_QUEUE_FILL)
    (which : Sess → Bool) (cause : Nat) (s : State) : (closeAll which cause s).ob ix sub = s.ob ix sub := by
  unfold closeAll
  induction List.range 32 generalizing s with
  | nil => rfl
  | cons k l ih =>
    rw [List.foldl_cons, ih]
    split
    · exact closeSess_ob hsub hix hsnap hfill s
    · rfl

theorem pcie_namesLiving : NamesLiving (fun x => x.alive && x.port == 0) where
  same := by
    rintro x y ⟨_, _, _, rfl⟩
    rfl
  living h := by simp [h]

theorem mailboxClear_sessAt (k : Nat) (s : State) : (mailboxClear s).sessAt k = s.sessAt k := rfl

/-- A reset of the function leaves no session of PCIe alive. -/
theorem functionReset_closes {k : Nat} (hk : k < 32) :
    (((functionReset s).sessAt k).alive && ((functionReset s).sessAt k).port == 0) = false := by
  rw [functionReset, mailboxClear_sessAt]
  exact closeAll_unnamed (s := pcieJobsAbort s) pcie_namesLiving 7 hk

/-! ### The bypass and the mailbox (R488, R506, R507) -/

theorem bypassRelease_unaligned (h : s.past (Timer.aligned 0x88) 10000000 = false) : bypassRelease s = s := by
  unfold bypassRelease
  exact if_neg (by simp [h])

theorem bypassRelease_joins (hup : s.portsUp = true) (ha : s.obB (Ix.lane 0x88) Sub.sLane_CG_ALIGNED = true)
    (hb : s.obB (Ix.lane 0x89) Sub.sLane_CG_ALIGNED = true) (hgap : s.rst.gap = false ∨ s.rst.straps % 4 = 1)
    (hconfig : s.gone (mget 0 s.time.since Timer.config) 10000000 = true)
    (hstep : s.gone (mget 0 s.time.since Timer.step) 10000000 = true) (hpa : s.past (Timer.aligned 0x88) 10000000 = true)
    (hpb : s.past (Timer.aligned 0x89) 10000000 = true) :
    bypassRelease s = { s with acc := { s.acc with joined := true } } := by
  have hfrom : ∀ early : Bool, s.gone (if early then mget 0 s.time.since Timer.step else mget 0 s.time.since Timer.config) 10000000 = true := by
    rintro (_ | _)
    · exact hconfig
    · exact hstep
  refine if_pos ⟨hup, by simp [ha, hb], ?_, hfrom _, hpa, hpb⟩
  rcases hgap with h | h
  · exact .inl (by simp [h])
  · exact .inr (by simp [h])

section Doorbell
variable {len : Nat} {b : Bytes} (hstep : s.rst.step = 5) (hvigil : s.pwr.vigil = false)
include hstep hvigil

theorem doorbell_takes (hentry : s.pwr.darkEntry = false) (hdark : s.inDark = false) (hfree : s.acc.h2dBusy = false) (hlen : 0 < len)
    (hmax : len ≤ 28672) : doorbell len b s = { s with acc := { s.acc with h2dBusy := true, h2d := padTo len (b.take len) } } := by
  have hon : ¬(s.rst.step ≠ 5 ∨ s.pwr.vigil) := by simp [hstep, hvigil]
  have hfits : ¬(s.acc.h2dBusy ∨ len = 0 ∨ 28672 < len) := by
    simp only [hfree, Bool.false_eq_true, false_or]
    omega
  have hdark' : ({ s with acc := { s.acc with h2dBusy := true, h2d := padTo len (b.take len) } } : State).inDark = false := hdark
  simp only [doorbell, if_neg hon, if_neg hfits, hentry, hdark', Bool.false_eq_true, if_false]

theorem doorbell_overruns (hbusy : s.acc.h2dBusy = true) : doorbell len b s = s.addOb pcieIx Sub.pcie_MB_OVERRUN 32 1 := by
  simp [doorbell, hstep, hvigil, hbusy]

end Doorbell

theorem d2hAck_next {m : Nat × Bytes} {rest : List (Nat × Bytes)} (h : s.acc.toHost = m :: rest) :
    mailboxOut { s with acc := { s.acc with d2hValid := false } } =
      (({ s with acc := { s.acc with d2hValid := true, d2h := m.2, toHost := rest } } : State).emit (.mailbox m.2)).emit (.msix 1) := by
  simp only [mailboxOut, h]

theorem d2hAck_empty (h : s.acc.toHost = []) :
    mailboxOut { s with acc := { s.acc with d2hValid := false } } = { s with acc := { s.acc with d2hValid := false } } := by
  simp only [mailboxOut, h]

/-! ### The PCIe link (R505, R508 to R510) -/

theorem linkDown_link (s : State) : (linkDown s).ob pcieIx Sub.pcie_PCIE_LINK = 0 := by
  have hclosed : (pcieClose 8 (s.put pcieIx Sub.pcie_PCIE_LINK 0)).ob pcieIx Sub.pcie_PCIE_LINK = 0 :=
    (closeAll_ob (by decide) (by decide) (by decide) (by decide) ..).trans (State.ob_put_self ..)
  unfold linkDown
  dsimp only
  split
  · exact (linkEvent_ob (by decide) (by decide) ..).trans hclosed
  · exact hclosed

/-- A width of the link. -/
theorem linkUp_trains {speed width : Nat} (hstep : s.rst.step = 5) (hvigil : s.pwr.vigil = false) (hlow : 1 ≤ speed) (hhigh : speed ≤ 4)
    (hwidth : width = 1 ∨ width = 2 ∨ width = 4) :
    linkUp speed width s = linkEvent 0x1104 (be 1 2 ++ be 1 1) (s.put pcieIx Sub.pcie_PCIE_LINK (0x80 + 16 * speed + width)) := by
  refine if_neg ?_
  simp only [hstep, hvigil, ne_eq, not_true_eq_false, Bool.false_eq_true, hwidth, or_false, false_or]
  omega

/-- With the link up, an event of a management link is told to the host. -/
theorem linkEvent_msix (code : Nat) (items : Bytes) (h : bit (s.ob pcieIx Sub.pcie_PCIE_LINK) 7 = true) :
    .msix 2 ∈ (linkEvent code items s).wire := by
  have hlink : bit ((s.raise code 0xFF items).ob pcieIx Sub.pcie_PCIE_LINK) 7 = true := by
    rw [State.ob_raise (by decide) (by decide)]
    exact h
  have hevent : linkEvent code items s = (s.raise code 0xFF items).emit (.msix 2) := if_pos hlink
  rw [hevent]
  simp [State.emit]

theorem link_up_bit {speed width : Nat} (hhigh : speed ≤ 4) (hwidth : width = 1 ∨ width = 2 ∨ width = 4) :
    bit (0x80 + 16 * speed + width) 7 = true := by
  interval_cases speed <;> rcases hwidth with rfl | rfl | rfl <;> rfl

/-- Settles O39. A reset of the function, and PCIE_PERST_N, clear the mailbox both ways (log 76, R588). -/
theorem mailboxAndLinkMove : Obligations.MailboxAndLinkMove := by
  intro s
  refine ⟨fun hup ha hb hgap hconfig hstep hpa hpb => ?joins, fun hearly => ?early,
    fun len b hstep hvigil hentry hdark hfree hlen hmax => ?rings, fun len b hstep hvigil hbusy => ?overruns, fun m rest h => ?next,
    fun h => ?empty, ?reset, ?down, fun speed width hstep hvigil hlow hhigh hwidth => ?up, ?perst⟩
  case joins =>
    exact ⟨_, congrArg Host.Outcome.next (bypassRelease_joins hup ha hb hgap hconfig hstep hpa hpb), rfl, rfl⟩
  case early => exact congrArg Host.Outcome.next (bypassRelease_unaligned hearly)
  case rings => exact ⟨_, congrArg Host.Outcome.next (doorbell_takes hstep hvigil hentry hdark hfree hlen hmax), rfl, rfl, rfl⟩
  case overruns => exact ⟨_, congrArg Host.Outcome.next (doorbell_overruns hstep hvigil hbusy), rfl, State.ob_addOb_self ..⟩
  case next => exact ⟨_, congrArg Host.Outcome.next (d2hAck_next h), rfl, rfl, rfl, by simp [State.emit]⟩
  case empty => exact ⟨_, congrArg Host.Outcome.next (d2hAck_empty h), rfl, rfl⟩
  case reset =>
    refine ⟨_, rfl, rfl, rfl, rfl, rfl, fun k hk halive hport => ?_⟩
    have hclosed := functionReset_closes (s := s) (k := k) (by omega)
    rw [halive, hport] at hclosed
    exact absurd hclosed (by decide)
  case down => exact ⟨_, rfl, linkDown_link s⟩
  case up =>
    refine ⟨_, congrArg Host.Outcome.next (linkUp_trains hstep hvigil hlow hhigh hwidth), ?_, ?_⟩
    · exact (linkEvent_ob (by decide) (by decide) ..).trans (State.ob_put_self ..)
    · refine linkEvent_msix _ _ ?_
      rw [State.ob_put_self]
      exact link_up_bit hhigh hwidth
  case perst => exact ⟨_, rfl, linkDown_link s, rfl, rfl, rfl⟩

end Sys2Proof.Machine
end

section
/-! Alarm sources: the tamper sampler, the monitors and the ends of conditions (R540 to R545, R549, R554, R557). -/

namespace Sys2Proof.Machine

variable {s t u : State} {c : Caller}

/-! ### What a step of the sampler keeps -/

/-- From `s` to `t` the sampler has looked at inputs: beside conditions, raised sources, what it drives and what it measured, nothing has
changed. -/
structure Sampled (s t : State) : Prop where
  vigil : t.pwr.vigil = s.pwr.vigil
  darkEntry : t.pwr.darkEntry = s.pwr.darkEntry
  aoTime : t.alm.aoTime = s.alm.aoTime
  latch : t.alm.latch = s.alm.latch
  vs : t.alm.vs = s.alm.vs
  asc : t.asc = s.asc
  fuse : t.fuse = s.fuse
  ob : ∀ {ix sub : Nat}, sub < 256 → ix < 0x4D00 → sub ≠ Sub.loop_LOOP_R_LAST ∨ ix < 0x4C10 → t.ob ix sub = s.ob ix sub
  wire : s.wire ⊆ t.wire

theorem Sampled.refl (s : State) : Sampled s s := ⟨rfl, rfl, rfl, rfl, rfl, rfl, rfl, fun _ _ _ => rfl, fun _ h => h⟩

theorem Sampled.trans (h : Sampled s t) (h' : Sampled t u) : Sampled s u where
  vigil := h'.vigil.trans h.vigil
  darkEntry := h'.darkEntry.trans h.darkEntry
  aoTime := h'.aoTime.trans h.aoTime
  latch := h'.latch.trans h.latch
  vs := h'.vs.trans h.vs
  asc := h'.asc.trans h.asc
  fuse := h'.fuse.trans h.fuse
  ob hsub hix hor := (h'.ob hsub hix hor).trans (h.ob hsub hix hor)
  wire := List.Subset.trans h.wire h'.wire

theorem Sampled.inDark (h : Sampled s t) : t.inDark = s.inDark := by
  rw [State.inDark, h.ob (by decide) (by decide) (by decide), h.darkEntry, State.inDark]

/-- The alarm block while no source but the counters and conditions of inputs has changed. -/
structure KeepsCase (s t : State) : Prop where
  active : 1 ∈ t.alm.active ↔ 1 ∈ s.alm.active
  counts : mget 0 t.alm.counts 0 = mget 0 s.alm.counts 0

theorem KeepsCase.refl (s : State) : KeepsCase s s := ⟨Iff.rfl, rfl⟩
theorem KeepsCase.trans (h : KeepsCase s t) (h' : KeepsCase t u) : KeepsCase s u := ⟨h'.active.trans h.active, h'.counts.trans h.counts⟩

/-! ### A source is raised (R549, R554) -/

section Alarm
variable (src detail : Nat) (s : State)

@[simp] theorem alarm_latch : (s.alarm src detail).alm.latch = s.alm.latch := by unfold State.alarm; split <;> rfl
@[simp] theorem alarm_aoTime : (s.alarm src detail).alm.aoTime = s.alm.aoTime := by unfold State.alarm; split <;> rfl
@[simp] theorem alarm_vs : (s.alarm src detail).alm.vs = s.alm.vs := by unfold State.alarm; split <;> rfl
@[simp] theorem alarm_counts : (s.alarm src detail).alm.counts = s.alm.counts := by unfold State.alarm; split <;> rfl
@[simp] theorem alarm_prbs : (s.alarm src detail).alm.prbs = s.alm.prbs := by unfold State.alarm; split <;> rfl
@[simp] theorem alarm_vigil : (s.alarm src detail).pwr.vigil = s.pwr.vigil := by unfold State.alarm; split <;> rfl
@[simp] theorem alarm_darkEntry : (s.alarm src detail).pwr.darkEntry = s.pwr.darkEntry := by unfold State.alarm; split <;> rfl

theorem alarm_sampled : Sampled s (s.alarm src detail) where
  vigil := alarm_vigil ..
  darkEntry := alarm_darkEntry ..
  aoTime := alarm_aoTime ..
  latch := alarm_latch ..
  vs := alarm_vs ..
  asc := alarm_asc ..
  fuse := alarm_fuse ..
  ob hsub hix _ := alarm_ob hsub (by omega) ..
  wire := by rw [alarm_wire]; exact fun _ h => h

end Alarm

theorem alarm_keepsCase {src : Nat} (h : src ≠ 1) (detail : Nat) (s : State) : KeepsCase s (s.alarm src detail) := by
  refine ⟨?_, by rw [alarm_counts]⟩
  unfold State.alarm
  split
  · show 1 ∈ (if _ then _ else _) ↔ _
    split
    · rfl
    · simp [h.symm]
  · rfl

/-- A watched source is raised: it is told to the response logic and counted. -/
theorem alarm_raised {src : Nat} (hw : s.watched src = true) (detail : Nat) :
    (s.alarm src detail).alm.raised = s.alm.raised ++ [(src, detail, s.maintOpen)] := by
  simp [State.alarm, hw, State.maintOpen]

theorem alarm_srcCount {src : Nat} (hw : s.watched src = true) (detail : Nat) : (s.alarm src detail).ob (0x4D00 + src) Sub.source_SRC_COUNT =
    (s.ob (0x4D00 + src) Sub.source_SRC_COUNT + 1) % 2 ^ 32 := by
  rw [State.alarm, if_pos hw, State.ob_put_ne (by simp [okey, Sub.source_SRC_COUNT, Sub.source_SRC_LAST_NS]), State.ob_addOb_self]
  rfl

/-! ### One input in one sample (R540, R554) -/

/-- An input's count of samples. -/
def State.counting (key n : Nat) (s : State) : State := { s with alm := { s.alm with counts := mset 0 s.alm.counts key n } }

theorem counting_sampled (key n : Nat) (s : State) : Sampled s (s.counting key n) :=
  ⟨rfl, rfl, rfl, rfl, rfl, rfl, rfl, fun _ _ _ => rfl, fun _ h => h⟩

theorem counting_keepsCase {key : Nat} (hkey : key ≠ 0) (n : Nat) (s : State) : KeepsCase s (s.counting key n) :=
  ⟨Iff.rfl, mget_mset_ne hkey.symm⟩

/-- A condition that ends changes its source alone. -/
theorem sourceEnd_eq (src : Nat) (s : State) : ∃ a l, sourceEnd src s = { s with alm := { s.alm with active := a, latched := l } } := by
  unfold sourceEnd
  split
  · exact ⟨_, _, rfl⟩
  · exact ⟨s.alm.active, s.alm.latched, rfl⟩

theorem sourceEnd_sampled (src : Nat) (s : State) : Sampled s (sourceEnd src s) := by
  obtain ⟨a, l, h⟩ := sourceEnd_eq src s
  rw [h]
  exact ⟨rfl, rfl, rfl, rfl, rfl, rfl, rfl, fun _ _ _ => rfl, fun _ h => h⟩

theorem sourceEnd_ends (src : Nat) (s : State) : src ∉ (sourceEnd src s).alm.active := by
  unfold sourceEnd
  split
  · simp
  · next h => simpa using h

theorem sourceEnd_latches {src : Nat} (h : src ∈ s.alm.active) : src ∈ (sourceEnd src s).alm.latched := by
  simp [sourceEnd, h]

theorem sourceEnd_keepsCase {src : Nat} (hsrc : src ≠ 1) (s : State) : KeepsCase s (sourceEnd src s) := by
  unfold sourceEnd
  split
  · exact ⟨by simp [hsrc.symm], rfl⟩
  · exact .refl s

theorem debounce_bad (key src detail need : Nat) (s : State) : s.debounce key src detail need true =
    if need ≤ mget 0 s.alm.counts key + 1 ∧ !s.alm.active.contains src then
      (s.counting key (min (mget 0 s.alm.counts key + 1) need)).alarm src detail
    else s.counting key (min (mget 0 s.alm.counts key + 1) need) := rfl

theorem debounce_good (key src detail need : Nat) (s : State) :
    s.debounce key src detail need false = sourceEnd src (s.counting key 0) := rfl

section Debounce
variable (key src detail need : Nat) (bad : Bool) (s : State)

theorem debounce_sampled : Sampled s (s.debounce key src detail need bad) := by
  cases bad with
  | false => exact (counting_sampled ..).trans (sourceEnd_sampled ..)
  | true =>
    rw [debounce_bad]
    split
    · exact (counting_sampled ..).trans (alarm_sampled ..)
    · exact counting_sampled ..

theorem debounce_wire : (s.debounce key src detail need bad).wire = s.wire := by
  cases bad with
  | false =>
    obtain ⟨a, l, h⟩ := sourceEnd_eq src (s.counting key 0)
    rw [debounce_good, h]
    rfl
  | true =>
    rw [debounce_bad]
    split
    · exact alarm_wire ..
    · rfl

theorem debounce_prbs : (s.debounce key src detail need bad).alm.prbs = s.alm.prbs := by
  cases bad with
  | false =>
    obtain ⟨a, l, h⟩ := sourceEnd_eq src (s.counting key 0)
    rw [debounce_good, h]
    rfl
  | true =>
    rw [debounce_bad]
    split
    · exact alarm_prbs ..
    · rfl

variable {key src}

/-- An input other than the first case switch. -/
theorem debounce_keepsCase (hkey : key ≠ 0) (hsrc : src ≠ 1) : KeepsCase s (s.debounce key src detail need bad) := by
  cases bad with
  | false => exact (counting_keepsCase hkey ..).trans (sourceEnd_keepsCase hsrc _)
  | true =>
    rw [debounce_bad]
    split
    · exact (counting_keepsCase hkey ..).trans (alarm_keepsCase hsrc ..)
    · exact counting_keepsCase hkey ..

end Debounce

/-- The first case switch is open for as many samples as it needs: its source is active. -/
theorem debounce_opens {need : Nat} (hneed : need ≤ mget 0 s.alm.counts 0 + 1) (hw : s.watched 1 = true) (detail : Nat) :
    1 ∈ (s.debounce 0 1 detail need true).alm.active := by
  rw [debounce_bad]
  split
  · exact alarm_activates (by exact hw) (by decide) detail
  · next h => simpa [hneed, State.counting] using h

/-- It is closed: its count starts anew, and its condition is over. -/
theorem debounce_closes (detail need : Nat) :
    mget 0 (s.debounce 0 1 detail need false).alm.counts 0 = 0 ∧ 1 ∉ (s.debounce 0 1 detail need false).alm.active := by
  obtain ⟨a, l, h⟩ := sourceEnd_eq 1 (s.counting 0 0)
  refine ⟨?_, sourceEnd_ends 1 (s.counting 0 0)⟩
  rw [debounce_good, h]
  simp [State.counting]

/-! ### A loop in one sample (R542, R543) -/

section Loop
variable (x : Sample) (k : Nat) (s : State)

/-- What a loop measures, and what it drives. -/
def State.loopMeasured (k r : Nat) (s : State) : State := s.put (0x4C10 + k) Sub.loop_LOOP_R_LAST r
def State.loopDriven (k p w : Nat) (s : State) : State :=
  ({ s with alm := { s.alm with prbs := mset 0 s.alm.prbs k p } } : State).emit (.loopDrive k w)

theorem loopMeasured_sampled (r : Nat) : Sampled s (s.loopMeasured k r) := by
  refine ⟨rfl, rfl, rfl, rfl, rfl, rfl, rfl, fun {ix sub} hsub _ hor => ?_, fun _ h => h⟩
  rw [State.loopMeasured, State.ob_put (by decide) hsub, if_neg]
  omega

theorem loopDriven_sampled (p w : Nat) : Sampled s (s.loopDriven k p w) :=
  ⟨rfl, rfl, rfl, rfl, rfl, rfl, rfl, fun _ _ _ => rfl, fun _ h => List.mem_append_left _ h⟩

theorem sampleLoop_eq : (∃ r d bad, s.sampleLoop x k =
      (s.loopMeasured k r).debounce (2 + k) (3 + k) d (s.ob 0x4C00 Sub.alarm_TAMPER_DEBOUNCE) bad) ∨
    ∃ p w bad, s.sampleLoop x k = (s.loopDriven k p w).debounce (2 + k) (3 + k) 2 (s.ob 0x4C00 Sub.alarm_TAMPER_DEBOUNCE) bad := by
  unfold State.sampleLoop
  dsimp only
  split
  · exact .inl ⟨_, _, _, rfl⟩
  · exact .inr ⟨_, _, _, rfl⟩

theorem sampleLoop_sampled : Sampled s (s.sampleLoop x k) := by
  rcases sampleLoop_eq x k s with ⟨r, d, bad, h⟩ | ⟨p, w, bad, h⟩ <;> rw [h]
  · exact (loopMeasured_sampled ..).trans (debounce_sampled ..)
  · exact (loopDriven_sampled ..).trans (debounce_sampled ..)

theorem sampleLoop_keepsCase : KeepsCase s (s.sampleLoop x k) := by
  rcases sampleLoop_eq x k s with ⟨r, d, bad, h⟩ | ⟨p, w, bad, h⟩ <;> rw [h]
  · exact KeepsCase.trans (t := s.loopMeasured k r) ⟨Iff.rfl, rfl⟩ (debounce_keepsCase _ _ _ _ (by omega) (by omega))
  · exact KeepsCase.trans (t := s.loopDriven k p w) ⟨Iff.rfl, rfl⟩ (debounce_keepsCase _ _ _ _ (by omega) (by omega))

variable {k s}

/-- A loop whose resistance is measured drives nothing. -/
theorem sampleLoop_wire (h : s.ob (0x4C10 + k) Sub.loop_LOOP_MODE = 0) : (s.sampleLoop x k).wire = s.wire := by
  simp only [State.sampleLoop, h, if_true]
  exact debounce_wire ..

/-- A loop in its other mode drives the word of its generator. -/
theorem sampleLoop_drives (h : s.ob (0x4C10 + k) Sub.loop_LOOP_MODE ≠ 0) :
    .loopDrive k (prbs15Word 256 (loopSeed (mget 0 s.alm.prbs k) (x.rc.getD k 0))) ∈ (s.sampleLoop x k).wire := by
  simp only [State.sampleLoop, h, if_false]
  rw [debounce_wire]
  simp [State.emit]

theorem sampleLoop_prbs {j : Nat} (h : j ≠ k) : mget 0 (s.sampleLoop x k).alm.prbs j = mget 0 s.alm.prbs j := by
  rcases sampleLoop_eq x k s with ⟨r, d, bad, hs⟩ | ⟨p, w, bad, hs⟩ <;> rw [hs, debounce_prbs]
  · rfl
  · exact mget_mset_ne (m := s.alm.prbs) h

end Loop

/-- The four loops in one sample. -/
theorem sampleLoops_eq (x : Sample) (s : State) : (List.range 4).foldl (fun (t : State) k => t.sampleLoop x k) s =
    (((s.sampleLoop x 0).sampleLoop x 1).sampleLoop x 2).sampleLoop x 3 := rfl

section Loops
variable (x : Sample) (s : State)

/-- The loops but the last. -/
def State.loopsBefore : State := ((s.sampleLoop x 0).sampleLoop x 1).sampleLoop x 2

theorem loopsBefore_sampled : Sampled s (s.loopsBefore x) :=
  ((sampleLoop_sampled ..).trans (sampleLoop_sampled ..)).trans (sampleLoop_sampled ..)

theorem loopsBefore_keepsCase : KeepsCase s (s.loopsBefore x) :=
  ((sampleLoop_keepsCase ..).trans (sampleLoop_keepsCase ..)).trans (sampleLoop_keepsCase ..)

theorem loopsBefore_prbs : mget 0 (s.loopsBefore x).alm.prbs 3 = mget 0 s.alm.prbs 3 := by
  rw [State.loopsBefore, sampleLoop_prbs x (by decide), sampleLoop_prbs x (by decide), sampleLoop_prbs x (by decide)]

variable {s}

theorem loops_wire (h : ∀ k, k < 4 → s.ob (0x4C10 + k) Sub.loop_LOOP_MODE = 0) : ((s.loopsBefore x).sampleLoop x 3).wire = s.wire := by
  have hmode : ∀ {t : State}, Sampled s t → ∀ k, k < 4 → t.ob (0x4C10 + k) Sub.loop_LOOP_MODE = 0 :=
    fun ht k hk => (ht.ob (by decide) (by omega) (.inl (by decide))).trans (h k hk)
  have h0 := sampleLoop_sampled x 0 s
  have h1 := h0.trans (sampleLoop_sampled x 1 _)
  rw [sampleLoop_wire x (hmode (loopsBefore_sampled x s) 3 (by decide)), State.loopsBefore,
    sampleLoop_wire x (hmode h1 2 (by decide)), sampleLoop_wire x (hmode h0 1 (by decide)), sampleLoop_wire x (h 0 (by decide))]

end Loops

/-! ### One sample (R540 to R544, R557) -/

/-- The sampler has the case switches behind it. -/
def State.switchesSampled (x : Sample) (s : State) : State :=
  ((({ s with alm := { s.alm with aoTime := (s.alm.aoTime + x.ticks) % 2 ^ 48 } } : State).debounce 0 1 0
    (s.ob 0x4C00 Sub.alarm_TAMPER_DEBOUNCE) (bit x.switches 0)).debounce 1 2 0 (s.ob 0x4C00 Sub.alarm_TAMPER_DEBOUNCE) (bit x.switches 1))

/-- One sample: the switches, the loops, VBAT and the sensor. -/
def State.inputsSampled (x : Sample) (s : State) : State :=
  let t := ((((s.switchesSampled x).loopsBefore x).sampleLoop x 3).debounce 6 0x07 0 2 (decide (x.vbat < 2600)))
  t.debounce 7 0x0E (ofInt 2 x.temp) 1 (decide (x.temp < t.obInt 4 0x4C20 Sub.monitor_TEMP_LOW_C))

section Inputs
variable (x : Sample) (s : State)

/-- The always-on time, as a sample finds it. -/
def State.sampledAt (x : Sample) (s : State) : State :=
  { s with alm := { s.alm with aoTime := (s.alm.aoTime + x.ticks) % 2 ^ 48 } }

theorem switchesSampled_sampled : Sampled (s.sampledAt x) (s.switchesSampled x) := (debounce_sampled ..).trans (debounce_sampled ..)

theorem loops_after_switches : Sampled (s.switchesSampled x) (((s.switchesSampled x).loopsBefore x).sampleLoop x 3) :=
  (loopsBefore_sampled ..).trans (sampleLoop_sampled ..)

theorem inputsSampled_end : Sampled (((s.switchesSampled x).loopsBefore x).sampleLoop x 3) (s.inputsSampled x) :=
  (debounce_sampled ..).trans (debounce_sampled ..)

theorem inputsSampled_sampled : Sampled (s.sampledAt x) (s.inputsSampled x) :=
  (switchesSampled_sampled x s).trans ((loops_after_switches x s).trans (inputsSampled_end x s))

/-- What the first case switch has left stands at the end of the sample. -/
theorem inputsSampled_keepsCase : KeepsCase ((s.sampledAt x).debounce 0 1 0 (s.ob 0x4C00 Sub.alarm_TAMPER_DEBOUNCE) (bit x.switches 0))
    (s.inputsSampled x) :=
  (debounce_keepsCase _ _ _ _ (by decide) (by decide)).trans ((loopsBefore_keepsCase ..).trans ((sampleLoop_keepsCase ..).trans
    ((debounce_keepsCase _ _ _ _ (by decide) (by decide)).trans (debounce_keepsCase _ _ _ _ (by decide) (by decide)))))

theorem inputsSampled_wire (h : ∀ k, k < 4 → s.ob (0x4C10 + k) Sub.loop_LOOP_MODE = 0) : (s.inputsSampled x).wire = s.wire := by
  have hmode : ∀ k, k < 4 → (s.switchesSampled x).ob (0x4C10 + k) Sub.loop_LOOP_MODE = 0 :=
    fun k hk => ((switchesSampled_sampled x s).ob (by decide) (by omega) (.inl (by decide))).trans (h k hk)
  rw [State.inputsSampled, debounce_wire, debounce_wire, loops_wire x hmode, State.switchesSampled, debounce_wire, debounce_wire]

theorem inputsSampled_drives (h : s.ob 0x4C13 Sub.loop_LOOP_MODE ≠ 0) :
    .loopDrive 3 (prbs15Word 256 (loopSeed (mget 0 s.alm.prbs 3) (x.rc.getD 3 0))) ∈ (s.inputsSampled x).wire := by
  have hprbs : mget 0 ((s.switchesSampled x).loopsBefore x).alm.prbs 3 = mget 0 s.alm.prbs 3 := by
    rw [loopsBefore_prbs, State.switchesSampled, debounce_prbs, debounce_prbs]
  have hmode : ((s.switchesSampled x).loopsBefore x).ob (0x4C10 + 3) Sub.loop_LOOP_MODE ≠ 0 := by
    rw [(loopsBefore_sampled ..).ob (by decide) (by decide) (by decide), (switchesSampled_sampled x s).ob (by decide) (by decide) (by decide)]
    exact h
  have hdrive := sampleLoop_drives x hmode
  rw [hprbs] at hdrive
  exact (inputsSampled_end x s).wire hdrive

end Inputs

/-- On main power the raised sources go to the response logic. -/
theorem tamperSample_eq (x : Sample) (hvigil : s.pwr.vigil = false) : tamperSample x s = s.inputsSampled x := by
  have hv : (s.inputsSampled x).pwr.vigil = false := (inputsSampled_sampled x s).vigil.trans hvigil
  unfold tamperSample
  dsimp only
  rw [sampleLoops_eq]
  exact if_neg fun h => Bool.false_ne_true (hv.symm.trans h.1)

theorem wakeOnAlarm_awake (wake : Nat → Nat → State → State) (h : s.inDark = false) : wakeOnAlarm wake s = s := by
  unfold wakeOnAlarm
  split
  · exact if_neg (by simp [h])
  · rfl

/-! ### Monitors and buses (R544, R545) -/

theorem monitorTrip_trips {src rail v : Nat} (h : s.tripHolds src rail v = true) (hwarn : src ≠ 0x0C) (hcrit : src ≠ 0x0D) :
    monitorTrip src rail v s = s.alarm src 0 := by
  simp [monitorTrip, h, hwarn, hcrit]

theorem tripHolds_monitored {src rail v : Nat} (h : s.tripHolds src rail v = true) (hwarn : src ≠ 0x0C) (hcrit : src ≠ 0x0D) :
    monitored src = true := by
  unfold State.tripHolds at h
  unfold monitored
  split_ifs at h with h9
  · subst h9
    decide
  · simp only [Bool.or_eq_true, beq_iff_eq] at h
    exact decide_eq_true (by omega)

theorem bus_unmonitored (key : Bool) : monitored (if key then 0x10 else 0x0F) = false := by cases key <;> rfl

/-- Settles O43. The PRBS of a loop and the level it drives are the model's (logs 56, 122), as is that a source above 0x0E is latched as
it is raised (log 122). -/
theorem sourcesAreRaised : Obligations.SourcesAreRaised := by
  intro s
  refine ⟨fun x hvigil hdark => ?sample, fun src rail v htrip hwarn hcrit hw hdark => ?monitor, fun key transfer sink => ?good,
    fun key transfer sink code hcode hw => ?bad, fun src hsrc => ?ends⟩
  case sample =>
    have hs := inputsSampled_sampled x s
    have hcase := inputsSampled_keepsCase x s
    refine ⟨_, congrArg Host.Outcome.next ((wakeOnAlarm_awake wake ?_).trans (tamperSample_eq x hvigil)), hs.aoTime, hs.latch, hs.vs, hs.asc,
      inputsSampled_wire x s, inputsSampled_drives x s, fun hopen hneed hw => ?_, fun hclosed => ?_⟩
    · rw [tamperSample_eq x hvigil]
      exact hs.inDark.trans hdark
    · rw [hopen] at hcase
      exact hcase.active.mpr (debounce_opens (s := s.sampledAt x) hneed hw 0)
    · rw [hclosed] at hcase
      obtain ⟨hcount, hactive⟩ := debounce_closes (s := s.sampledAt x) 0 (s.ob 0x4C00 Sub.alarm_TAMPER_DEBOUNCE)
      exact ⟨hcase.counts.trans hcount, fun h => hactive (hcase.active.mp h)⟩
  case monitor =>
    have htrips := monitorTrip_trips htrip hwarn hcrit
    refine ⟨_, congrArg Host.Outcome.next ((wakeOnAlarm_awake wake ?_).trans htrips), alarm_activates hw (tripHolds_monitored htrip hwarn hcrit) 0,
      alarm_raised hw 0, alarm_srcCount hw 0, alarm_latch .., alarm_wire ..⟩
    rw [htrips]
    exact (alarm_sampled ..).inDark.trans hdark
  case good => exact congrArg Host.Outcome.next (if_pos rfl)
  case bad =>
    exact ⟨_, congrArg Host.Outcome.next (if_neg hcode), alarm_latches hw (bus_unmonitored key) sink, alarm_raised hw sink, alarm_asc ..,
      alarm_tm ..⟩
  case ends =>
    obtain ⟨a, l, h⟩ := sourceEnd_eq src s
    refine ⟨_, rfl, sourceEnd_ends src s, sourceEnd_latches hsrc, ?_, ?_⟩ <;> rw [h]

end Sys2Proof.Machine
end

section
/-! Bringing the transmitters into agreement: what it leaves of the machine (R43, R46, R47). -/

namespace Sys2Proof.Machine

variable {s t u : State}

/-- An object that no lane's transmitter, receiver or eye scan keeps, and not the recovered clock's. -/
def OffLanes (ix : Nat) : Prop := (ix < 0x1000 ∨ 0x1200 ≤ ix) ∧ ix ≠ 0x3A02

/-- A timer that is not of a lane's LOS (R430). -/
def OffLos (k : Nat) : Prop := k < 0x300 ∨ 0x400 ≤ k

/-- From `s` to `t` lanes moved: their states, their reports, the comparison of LOS and the recovered clock. -/
structure LanesMove (s t : State) : Prop where
  rest : ∃ n l p lo he w ti, t = { s with
    dict := { s.dict with nums := n }, lanes := l, pair := { s.pair with losOn := p }, otn := { s.otn with locked := lo, heads := he },
    wire := s.wire ++ w, time := { s.time with since := ti } }
  ob : ∀ ix sub, OffLanes ix → sub < 256 → t.ob ix sub = s.ob ix sub
  since : ∀ k, OffLos k → mget 0 t.time.since k = mget 0 s.time.since k

theorem LanesMove.refl (s : State) : LanesMove s s :=
  ⟨⟨_, _, _, _, _, [], _, by rw [List.append_nil]⟩, fun _ _ _ _ => rfl, fun _ _ => rfl⟩

theorem LanesMove.trans (h : LanesMove s t) (h' : LanesMove t u) : LanesMove s u where
  rest := by
    obtain ⟨n, l, p, lo, he, w, ti, ht⟩ := h.rest
    obtain ⟨n', l', p', lo', he', w', ti', hu⟩ := h'.rest
    exact ⟨n', l', p', lo', he', w ++ w', ti', by rw [hu, ht]; simp only [List.append_assoc]⟩
  ob ix sub h1 h2 := (h'.ob ix sub h1 h2).trans (h.ob ix sub h1 h2)
  since k hk := (h'.since k hk).trans (h.since k hk)

theorem lanesMove_foldl {α : Type} {f : State → α → State} {l : List α} (h : ∀ t, ∀ x ∈ l, LanesMove t (f t x)) (s : State) :
    LanesMove s (l.foldl f s) := by
  induction l generalizing s with
  | nil => exact .refl s
  | cons x l ih =>
    exact (h s x (List.mem_cons_self ..)).trans (ih (fun t y hy => h t y (List.mem_cons_of_mem _ hy)) _)

/-! ### The steps of a lane -/

theorem lanesMove_lanes (l : Lanes) (s : State) : LanesMove s { s with lanes := l } :=
  ⟨⟨_, _, _, _, _, [], _, by rw [List.append_nil]⟩, fun _ _ _ _ => rfl, fun _ _ => rfl⟩

theorem lanesMove_emit (e : Emission) (s : State) : LanesMove s (s.emit e) :=
  ⟨⟨_, _, _, _, _, [e], _, rfl⟩, fun _ _ _ _ => rfl, fun _ _ => rfl⟩

theorem lanesMove_put {ix sub : Nat} (h : ¬ OffLanes ix) (hs : sub < 256) (v : Nat) (s : State) : LanesMove s (s.put ix sub v) where
  rest := ⟨_, _, _, _, _, [], _, by rw [List.append_nil]; rfl⟩
  ob ix' sub' h1 h2 := by
    rw [State.ob_put hs h2, if_neg]
    rintro ⟨rfl, -⟩
    exact h h1
  since _ _ := rfl

theorem lane_not_offLanes {m : Nat} (hm : m < 0x100) : ¬ OffLanes (Ix.lane m) := fun h => by
  obtain ⟨h, -⟩ := h
  simp only [Ix.lane] at h
  omega

theorem scan_not_offLanes {m : Nat} (hm : m < 0x100) : ¬ OffLanes (Ix.scan m) := fun h => by
  obtain ⟨h, -⟩ := h
  simp only [Ix.scan] at h
  omega

theorem synce_not_offLanes : ¬ OffLanes 0x3A02 := fun h => h.2 rfl

theorem showLane_move (b : State) (m : Nat) (s : State) : LanesMove s (b.showLane m s) := by
  unfold State.showLane
  split
  · exact .refl s
  · exact lanesMove_emit ..

theorem setNow_move (m v : Nat) (s : State) : LanesMove s (s.setNow m v) := (lanesMove_lanes _ s).trans (showLane_move ..)

theorem setGoal_move (m : Nat) (g : Option Nat) (s : State) : LanesMove s (s.setGoal m g) := lanesMove_lanes _ s

theorem startTx_move (m : Nat) (s : State) : LanesMove s (s.startTx m) := by
  unfold State.startTx
  dsimp only
  split_ifs
  · exact .refl s
  · exact setNow_move ..
  · exact (setNow_move m 1 s).trans (setGoal_move ..)
  · exact setGoal_move ..

section Lane
variable {m : Nat} (hm : m < 0x100)
include hm

theorem abortScan_move (s : State) : LanesMove s (s.abortScan m) := by
  unfold State.abortScan
  split
  · exact lanesMove_put (scan_not_offLanes hm) (by decide) ..
  · exact .refl s

theorem losLane_move (s : State) : LanesMove s (losLane m s) := by
  unfold losLane
  split_ifs
  · exact .refl s
  · refine ⟨⟨_, _, _, _, _, [], _, by rw [List.append_nil]; rfl⟩, fun _ _ _ _ => rfl, fun k hk => mget_minsert_ne ?_⟩
    obtain hk | hk := hk <;> simp only [Timer.los] <;> omega
  · exact ⟨⟨_, _, _, _, _, [], _, by rw [List.append_nil]⟩, fun _ _ _ _ => rfl, fun _ _ => rfl⟩

theorem rxReport_move (a b : Bool) (s : State) : LanesMove s (s.rxReport m a b) := by
  have hl := lane_not_offLanes hm
  exact (((lanesMove_put hl (by decide) ..).trans (lanesMove_put hl (by decide) ..)).trans
    (lanesMove_put hl (by decide) ..)).trans (losLane_move hm _)

omit hm in
theorem dropLock_move (s : State) : LanesMove s (s.dropLock m) := by
  unfold State.dropLock
  split
  · exact ⟨⟨_, _, _, _, _, [], _, by rw [List.append_nil]⟩, fun _ _ _ _ => rfl, fun _ _ => rfl⟩
  · exact .refl s

omit hm in
theorem synceSelect_move (w : Option (Nat × Nat)) (s : State) : LanesMove s (s.synceSelect w) := by
  have h := lanesMove_put synce_not_offLanes (sub := Sub.syncE_SYNCE_ACTIVE) (by decide) s.synceNext s
  unfold State.synceSelect
  dsimp only
  split
  · exact h
  · exact h.trans (lanesMove_emit ..)

theorem setRx_move (v : Nat) (s : State) : LanesMove s (s.setRx m v) := by
  unfold State.setRx
  split
  · exact .refl s
  · exact (((lanesMove_put (lane_not_offLanes hm) (by decide) ..).trans (abortScan_move hm _)).trans
      ((dropLock_move _).trans (rxReport_move hm ..))).trans (synceSelect_move ..)

theorem heldRxApply_move (s : State) : LanesMove s (heldRxApply m s) := by
  unfold heldRxApply
  split
  · exact (lanesMove_lanes _ s).trans (setRx_move hm ..)
  · exact .refl s

theorem heldTxApply_move (s : State) : LanesMove s (heldTxApply m s) := by
  unfold heldTxApply
  split
  · exact ((lanesMove_lanes _ s).trans (lanesMove_put (lane_not_offLanes hm) (by decide) ..)).trans (startTx_move ..)
  · exact startTx_move ..

theorem settleLane_move (s : State) : LanesMove s (s.settleLane m) := by
  unfold State.settleLane
  split
  · exact startTx_move ..
  dsimp only
  split_ifs
  · exact ((setGoal_move m none s).trans (setNow_move ..)).trans ((heldRxApply_move hm _).trans (heldTxApply_move hm _))
  · exact setGoal_move ..
  · exact setGoal_move ..
  · exact .refl s

end Lane

theorem allLanes_lt {m : Nat} (h : m ∈ allLanes) : m < 0x100 := by
  simp only [allLanes, List.mem_append, List.mem_range, List.mem_map] at h
  omega

/-- All transmitters are brought into agreement with R32 (R47). -/
theorem settleLanes_move (s : State) : LanesMove s s.settleLanes := lanesMove_foldl (fun t _ hm => settleLane_move (allLanes_lt hm) t) s

/-! ### What is left as it was -/

section Read
variable (h : LanesMove s t)
include h

theorem LanesMove.wire : ∃ w, t.wire = s.wire ++ w := by
  obtain ⟨_, _, _, _, _, w, _, ht⟩ := h.rest
  exact ⟨w, by rw [ht]⟩
theorem LanesMove.pair : ∃ p, t.pair = { s.pair with losOn := p } := by
  obtain ⟨_, _, p, _, _, _, _, ht⟩ := h.rest
  exact ⟨p, by rw [ht]⟩
theorem LanesMove.acc : t.acc = s.acc := by
  obtain ⟨_, _, _, _, _, _, _, ht⟩ := h.rest
  rw [ht]
theorem LanesMove.alm : t.alm = s.alm := by
  obtain ⟨_, _, _, _, _, _, _, ht⟩ := h.rest
  rw [ht]
theorem LanesMove.asc : t.asc = s.asc := by
  obtain ⟨_, _, _, _, _, _, _, ht⟩ := h.rest
  rw [ht]
theorem LanesMove.tm : t.tm = s.tm := by
  obtain ⟨_, _, _, _, _, _, _, ht⟩ := h.rest
  rw [ht]
theorem LanesMove.ke : t.ke = s.ke := by
  obtain ⟨_, _, _, _, _, _, _, ht⟩ := h.rest
  rw [ht]
theorem LanesMove.rst : t.rst = s.rst := by
  obtain ⟨_, _, _, _, _, _, _, ht⟩ := h.rest
  rw [ht]
theorem LanesMove.pwr : t.pwr = s.pwr := by
  obtain ⟨_, _, _, _, _, _, _, ht⟩ := h.rest
  rw [ht]
theorem LanesMove.fuse : t.fuse = s.fuse := by
  obtain ⟨_, _, _, _, _, _, _, ht⟩ := h.rest
  rw [ht]
theorem LanesMove.guard : t.guard = s.guard := by
  obtain ⟨_, _, _, _, _, _, _, ht⟩ := h.rest
  rw [ht]
theorem LanesMove.tel : t.tel = s.tel := by
  obtain ⟨_, _, _, _, _, _, _, ht⟩ := h.rest
  rw [ht]
theorem LanesMove.vault : t.vault = s.vault := by
  obtain ⟨_, _, _, _, _, _, _, ht⟩ := h.rest
  rw [ht]
theorem LanesMove.periods : t.time.periods = s.time.periods := by
  obtain ⟨_, _, _, _, _, _, _, ht⟩ := h.rest
  rw [ht]
theorem LanesMove.octs : t.dict.octs = s.dict.octs := by
  obtain ⟨_, _, _, _, _, _, _, ht⟩ := h.rest
  rw [ht]

end Read

end Sys2Proof.Machine
end

section
/-! What the pair says over the Tether, what it reads of the machine, and its switches (R413, R414, R430 to R439). -/

namespace Sys2Proof.Machine

variable {s t u : State} {c : Caller}

/-! ### Speech (R413, R414) -/

/-- From `s` to `t`, frames were handed to the link, and what was said left the block. -/
def Spoke (s t : State) : Prop :=
  ∃ q l w, t = { s with pair := { s.pair with txSeq := q, link := l }, wire := s.wire ++ w }

namespace Spoke

theorem refl (s : State) : Spoke s s := ⟨_, _, [], by rw [List.append_nil]⟩

theorem trans (h : Spoke s t) (h' : Spoke t u) : Spoke s u := by
  obtain ⟨q, l, w, rfl⟩ := h
  obtain ⟨q', l', w', rfl⟩ := h'
  exact ⟨q', l', w ++ w', by simp only [List.append_assoc]⟩

theorem foldl {α : Type} {f : State → α → State} (h : ∀ t x, Spoke t (f t x)) (l : List α) (s : State) : Spoke s (l.foldl f s) := by
  induction l generalizing s with
  | nil => exact refl s
  | cons x l ih => exact (h s x).trans (ih _)

variable (h : Spoke s t)
include h

theorem ob (ix sub : Nat) : t.ob ix sub = s.ob ix sub := by obtain ⟨_, _, _, rfl⟩ := h; rfl
theorem dict : t.dict = s.dict := by obtain ⟨_, _, _, rfl⟩ := h; rfl
theorem asc : t.asc = s.asc := by obtain ⟨_, _, _, rfl⟩ := h; rfl
theorem cue : t.cue = s.cue := by obtain ⟨_, _, _, rfl⟩ := h; rfl
theorem ke : t.ke = s.ke := by obtain ⟨_, _, _, rfl⟩ := h; rfl
theorem rst : t.rst = s.rst := by obtain ⟨_, _, _, rfl⟩ := h; rfl
theorem acc : t.acc = s.acc := by obtain ⟨_, _, _, rfl⟩ := h; rfl
theorem alm : t.alm = s.alm := by obtain ⟨_, _, _, rfl⟩ := h; rfl
theorem otn : t.otn = s.otn := by obtain ⟨_, _, _, rfl⟩ := h; rfl
theorem time : t.time = s.time := by obtain ⟨_, _, _, rfl⟩ := h; rfl
theorem wire : ∃ w, t.wire = s.wire ++ w := by obtain ⟨_, _, w, rfl⟩ := h; exact ⟨w, rfl⟩
theorem pair : ∃ q l, t.pair = { s.pair with txSeq := q, link := l } := by obtain ⟨q, l, _, rfl⟩ := h; exact ⟨q, l, rfl⟩

end Spoke

theorem emit_spoke (e : Emission) (s : State) : Spoke s (s.emit e) := ⟨_, _, [e], rfl⟩

theorem tetherOne_spoke (kind : Nat) (b : Bytes) (s : State) : Spoke s (tetherOne kind b s) := ⟨_, _, [_], rfl⟩

theorem tetherSend_spoke (kind : Nat) (b : Bytes) (s : State) : Spoke s (tetherSend kind b s) := by
  unfold tetherSend
  split
  · exact .foldl (fun t _ => tetherOne_spoke kind _ t) _ s
  · exact .refl s

theorem firmwareSay_spoke (m : Mirror) (s : State) : Spoke s (firmwareSay m s) := (emit_spoke _ s).trans (tetherSend_spoke ..)

theorem mirror_spoke (m : Mirror) (s : State) : Spoke s (mirror m s) := by
  unfold mirror
  split
  · exact firmwareSay_spoke ..
  · exact .refl s

theorem swAnswer_spoke (st : Status) (cmd : Nat) (s : State) : Spoke s (swAnswer st cmd s) := tetherSend_spoke ..

/-- On aligned lanes a payload leaves at once, its first frame first (R414). -/
theorem tetherSend_sends (hup : s.tetherUp = true) (kind : Nat) (b : Bytes) : SendsTether s (tetherSend kind b s) kind := by
  rw [tetherSend, if_pos hup]
  obtain ⟨n, hn⟩ : ∃ n, max 1 ((b.length + 511) / 512) = n + 1 := ⟨max 1 ((b.length + 511) / 512) - 1, by omega⟩
  rw [hn, List.range_succ_eq_map, List.foldl_cons]
  obtain ⟨w, hw⟩ := (Spoke.foldl (fun t k => tetherOne_spoke kind (sub b (512 * k) 512) t) ((List.range n).map Nat.succ)
    (tetherOne kind (sub b (512 * 0) 512) s)).wire
  exact ⟨_, w, by rw [hw]; exact List.append_assoc s.wire [_] w⟩

theorem SendsTether.append {kind : Nat} {w : List Emission} (h : SendsTether s t kind) (hu : u.wire = t.wire ++ w) :
    SendsTether s u kind := by
  obtain ⟨f, l, ht⟩ := h
  exact ⟨f, l ++ w, by rw [hu, ht, List.append_assoc]; rfl⟩

/-- What is sent from a state that has put out as much. -/
theorem SendsTether.of_wire {kind : Nat} (h : SendsTether t u kind) (hw : t.wire = s.wire) : SendsTether s u kind := by
  rwa [SendsTether, hw] at h

/-! ### What the pair reads -/

theorem State.tetherUp_congr (hob : ∀ k, k < 4 → t.ob (0x1080 + k) Sub.sLane_CG_ALIGNED = s.ob (0x1080 + k) Sub.sLane_CG_ALIGNED)
    (hlate : t.pair.late = s.pair.late) : t.tetherUp = s.tetherUp := by
  have h0 := hob 0 (by decide)
  have h1 := hob 1 (by decide)
  have h2 := hob 2 (by decide)
  have h3 := hob 3 (by decide)
  simp only [State.tetherUp, State.obB, show List.range 4 = [0, 1, 2, 3] from rfl, List.all_cons, List.all_nil, h0, h1, h2, h3, hlate]

/-- A put outside the Tether's lanes. -/
theorem State.tetherUp_put {ix sub : Nat} (h : ∀ k, k < 4 → 0x1080 + k ≠ ix) (hs : sub < 256) (v : Nat) (s : State) :
    (s.put ix sub v).tetherUp = s.tetherUp :=
  State.tetherUp_congr (fun k hk => by rw [State.ob_put hs (by decide), if_neg fun hx => h k hk hx.1]) rfl

theorem pairState_of_ob (h : t.ob psIx Sub.pairStat_PAIR_STATE = s.ob psIx Sub.pairStat_PAIR_STATE) : t.pairState = s.pairState := h

theorem Spoke.tetherUp (h : Spoke s t) : t.tetherUp = s.tetherUp := by
  obtain ⟨_, _, _, rfl⟩ := h
  rfl

/-! ### Yielding (R430) -/

/-- A yield lets lanes move and says nothing; SEL_ACT falls. -/
theorem yieldPorts_move (s : State) :
    LanesMove { s with pair := { s.pair with yielding := true, selAct := false } } (yieldPorts s) := settleLanes_move _

theorem yieldPorts_pair (s : State) : ∃ p, (yieldPorts s).pair = { s.pair with yielding := true, selAct := false, losOn := p } :=
  (yieldPorts_move s).pair

/-! ### Switch commands (R435, R436) -/

/-- The home unit carries a command out at once where it is active already. -/
theorem swResolve_home (h : s.roleOn = true) : s.swResolve 1 = some .ok := by
  have hactive : s.active = true := by
    unfold State.active
    exact (Bool.or_eq_true ..).mpr (.inr h)
  rw [State.swResolve, hactive]
  rfl

/-- A switch runs where the named unit is the other one, in IN_SYNC and with the Tether up. -/
theorem swResolve_away (hrole : s.roleOn = true) (hsync : s.pairState = 5) (hup : s.tetherUp = true) : s.swResolve 2 = none := by
  have hactive : s.active = true := by
    unfold State.active
    exact (Bool.or_eq_true ..).mpr (.inr hrole)
  rw [State.swResolve, hactive, hsync, hup]
  rfl

theorem swResolve_standby (hpaired : s.paired = true) (hrole : s.roleOn = false) (hsync : s.pairState = 5)
    (hup : s.tetherUp = true) : s.swResolve 1 = none := by
  have hactive : s.active = false := by
    unfold State.active
    rw [show s.obB 0x4800 Sub.pair_PAIR_ENABLE = true from hpaired, show s.obB 0x4801 Sub.pairStat_ROLE = false from hrole]
    rfl
  rw [State.swResolve, hactive, hsync, hup]
  rfl

theorem paired_of_runs (h : s.pairRuns = true) : s.paired = true := by
  simp only [State.pairRuns, Bool.and_eq_true] at h
  exact h.1.1.1

/-- A forwarded command at the home unit of a pair (R435). -/
theorem switchReq_home (hruns : s.pairRuns = true) (hup : s.tetherUp = true) (hhome : s.home = true) (cmd : Nat) :
    switchReq cmd s = if cmd ≠ 1 ∧ cmd ≠ 2 then s.addOb psIx Sub.pairStat_TTH_BAD_FRAMES 32 1
      else if s.pair.cmd.isSome then swAnswer .busy cmd s else swHome { cmd := cmd, forwarded := true } s :=
  if_neg (by simp [hruns, hup, hhome])

/-- The answer at the away unit (R435). -/
theorem switchAns_away (hruns : s.pairRuns = true) (hup : s.tetherUp = true) (hhome : s.home = false) (st : Status) (cmd : Nat) :
    switchAns st cmd s =
      (let own := s.pair.cmd.any (fun c => c.cmd == cmd && !c.running)
      if st ≠ .ok ∨ (cmd == 2) = s.roleOn then
        (if own then ({ s with pair := { s.pair with cmd := none } } : State).put swIx Sub.swWin_SW_STATUS st.code else s)
      else
        { s with pair := { s.pair with
          cmd := if own then s.pair.cmd.map (fun c => { c with running := true }) else s.pair.cmd, stopping := s.roleOn } }) :=
  if_neg (by simp [hruns, hup, hhome])

/-- A write of SW_CMD at the home unit while no command is pending (R435). -/
theorem swCmd_home {v : Nat} (hv : v ≠ 0) (hhome : s.home = true) (hcmd : s.pair.cmd = none)
    (hu : swHome { cmd := v } (s.put swIx Sub.swWin_SW_CMD v) = u) : swCmd v s = (u, .ok) := by
  have hhome' : (s.put swIx Sub.swWin_SW_CMD v).home = true := by
    rw [State.home, State.ob_put_ne (by decide)]
    exact hhome
  have hdisplace : swDisplace s = s := by rw [swDisplace, hcmd]
  rw [swCmd, if_neg hv, hcmd, hdisplace, ← hu]
  exact if_pos hhome'

theorem swHome_answers {x : SwCommand} {st : Status} (h : s.swResolve x.cmd = some st) (hx : x.forwarded = false) (hone : x.cmd = 1) :
    swHome x s = ({ s with pair := { s.pair with wtr := none } } : State).put swIx Sub.swWin_SW_STATUS st.code := by
  rw [swHome, h]
  simp [hx, hone]

theorem swHome_runs {x : SwCommand} (h : s.swResolve x.cmd = none) :
    swHome x s = swRun x (if x.forwarded then s else s.put swIx Sub.swWin_SW_STATUS Status.busy.code) := by
  rw [swHome, h]

/-- A switch of a forwarded command, or one that the standby begins, is answered first (R435). -/
theorem swRun_answers {x : SwCommand} (hup : s.tetherUp = true) (hx : x.forwarded = true ∨ s.roleOn = false) :
    (swRun x s).pair.cmd = some { x with running := true } ∧ (swRun x s).pair.stopping = s.roleOn ∧ (swRun x s).pair.wtr = none ∧
      SendsTether s (swRun x s) 8 := by
  have hruns : swRun x s = swAnswer .ok x.cmd
      { s with pair := { s.pair with cmd := some { x with running := true }, stopping := s.roleOn, wtr := none } } :=
    if_pos (hx.imp id fun h => by
      show (!s.roleOn) = true
      rw [h]
      rfl)
  rw [hruns]
  obtain ⟨q, l, hp⟩ := (swAnswer_spoke .ok x.cmd
    { s with pair := { s.pair with cmd := some { x with running := true }, stopping := s.roleOn, wtr := none } }).pair
  rw [hp]
  exact ⟨rfl, rfl, rfl, (tetherSend_sends (s := { s with pair := { s.pair with
    cmd := some { x with running := true }, stopping := s.roleOn, wtr := none } }) hup ..).of_wire rfl⟩

/-- A switch that the active unit begins of its own (R434). -/
theorem swRun_own {x : SwCommand} (hx : x.forwarded = false) (hrole : s.roleOn = true) :
    swRun x s = { s with pair := { s.pair with cmd := some { x with running := true }, stopping := true, wtr := none } } := by
  refine (if_neg ?_).trans (by rw [hrole])
  show ¬ (x.forwarded = true ∨ (!s.roleOn) = true)
  rw [hx, hrole]
  decide

/-- Settles O33: SW_CMD completes its own write and SW_STATUS carries the command's status (log 62), and a unit that yields stays active
until its peer is (log 59). -/
theorem switchesRun : Obligations.SwitchesRun := by
  intro s c hruns hup
  have hpaired := paired_of_runs hruns
  refine ⟨?_, ?_, ?_, ?_, ?_, ?_, ?_, ?_, ?_, ?_, ?_, ?_, ?_⟩
  · intro m h
    refine congrArg Host.Outcome.next (if_neg ?_)
    rintro ⟨-, hrole, -, hlos, -⟩
    obtain h | h := h
    · rw [h] at hrole
      exact absurd hrole (by decide)
    · exact h (List.contains_iff_mem.mp hlos)
  · intro m hrole hrx hlos hpast hsync
    have hgoes : losCompare m s = declareFault 3 false (tetherSend 6 (be 1 m ++ zeros 3) s) :=
      if_pos ⟨hruns, by rw [hrole]; rfl, hrx, hlos, hpast⟩
    have hsync' : (tetherSend 6 (be 1 m ++ zeros 3) s).pairState = 5 := ((tetherSend_spoke ..).ob ..).trans hsync
    refine ⟨_, congrArg Host.Outcome.next hgoes, ?_⟩
    rw [declareFault, if_pos hsync']
    exact ⟨rfl, tetherSend_sends hup ..⟩
  · intro hrole
    obtain ⟨p, hp⟩ := yieldPorts_pair { s with pair := { s.pair with taken := true } }
    refine ⟨_, congrArg Host.Outcome.next (if_pos ⟨hruns, hup, hrole⟩), ?_⟩
    beta_reduce
    rw [hp]
    exact ⟨rfl, rfl, rfl⟩
  · intro hacc hhome hrole hcmd
    have hres : (s.put swIx Sub.swWin_SW_CMD 1).swResolve 1 = some .ok := swResolve_home (by
      rw [State.roleOn, State.obB, State.ob_put_ne (by decide)]; exact hrole)
    have ha := swCmd_home (by decide) hhome hcmd (swHome_answers (x := { cmd := 1 }) hres rfl rfl)
    have h := rowWrite_written hacc ha
    refine ⟨_, rfl, ?_, ?_, ?_, h.reports⟩
    · rw [h.ob, State.ob_put_self ..]
    · rw [h.pair]
      exact hcmd
    · rw [h.pair]
      rfl
  · intro hacc hhome hrole hcmd hsync
    have hrole' : (s.put swIx Sub.swWin_SW_CMD 2).roleOn = true := by
      rw [State.roleOn, State.obB, State.ob_put_ne (by decide)]; exact hrole
    have hres : (s.put swIx Sub.swWin_SW_CMD 2).swResolve 2 = none := swResolve_away hrole'
      ((State.ob_put_ne (by decide)).trans hsync) ((State.tetherUp_put (by decide) (by decide) ..).trans hup)
    have hrole'' : ((s.put swIx Sub.swWin_SW_CMD 2).put swIx Sub.swWin_SW_STATUS Status.busy.code).roleOn = true := by
      rw [State.roleOn, State.obB, State.ob_put_ne (by decide)]; exact hrole'
    have ha := swCmd_home (by decide) hhome hcmd
      ((swHome_runs (x := { cmd := 2 }) hres).trans (swRun_own (x := { cmd := 2 }) rfl hrole''))
    have h := rowWrite_written hacc ha
    refine ⟨_, rfl, ?_, ?_, ?_, h.reports⟩
    · rw [h.ob]
      exact State.ob_put_self ..
    · rw [h.pair]
    · rw [h.pair]
  · intro v x hacc hv hcmd hrunning
    refine congrArg Host.Outcome.next (rowWrite_refuses hacc ?_ (by decide))
    rw [swCmd, if_neg hv, hcmd]
    simp [hrunning]
  · intro hhome hrole hcmd hsync
    have hgoes : switchReq 2 s = swRun { cmd := 2, forwarded := true } s := by
      rw [switchReq_home hruns hup hhome, if_neg (by decide), hcmd]
      exact swHome_runs (x := { cmd := 2, forwarded := true }) (swResolve_away hrole hsync hup)
    obtain ⟨hc, hstop, -, hsends⟩ := swRun_answers (x := { cmd := 2, forwarded := true }) hup (.inl rfl)
    refine ⟨_, congrArg Host.Outcome.next hgoes, ?_⟩
    exact ⟨hc, hstop.trans hrole, hsends⟩
  · intro cmd hhome h1 h2
    refine ⟨_, congrArg Host.Outcome.next ((switchReq_home hruns hup hhome cmd).trans (if_pos ⟨h1, h2⟩)), ?_⟩
    exact ⟨State.ob_addOb_self .., rfl⟩
  · intro x hhome hcmd
    have hgoes : switchReq 1 s = swAnswer .busy 1 s := by
      rw [switchReq_home hruns hup hhome, if_neg (by decide), hcmd]
      rfl
    obtain ⟨q, l, hp⟩ := (swAnswer_spoke .busy 1 s).pair
    refine ⟨_, congrArg Host.Outcome.next hgoes, ?_⟩
    beta_reduce
    rw [hp]
    exact ⟨hcmd, tetherSend_sends hup ..⟩
  · intro cmd st hhome hcmd hst
    have hgoes : switchAns st cmd s =
        ({ s with pair := { s.pair with cmd := none } } : State).put swIx Sub.swWin_SW_STATUS st.code := by
      rw [switchAns_away hruns hup hhome, hcmd]
      simp [hst]
    refine ⟨_, congrArg Host.Outcome.next hgoes, ?_⟩
    exact ⟨rfl, State.ob_put_self ..⟩
  · intro hhome hrole hcmd
    have hgoes : switchAns .ok 1 s =
        { s with pair := { s.pair with cmd := some { cmd := 1, running := true }, stopping := true } } := by
      rw [switchAns_away hruns hup hhome, hcmd, hrole]
      rfl
    exact ⟨_, congrArg Host.Outcome.next hgoes, rfl, rfl, rfl⟩
  · intro hrole hstop
    have hgoes : handoverSend s = yieldPorts (tetherSend 5 (be 1 (if s.pair.cmd.any (·.reversion) then 5 else 4) ++ zeros 3) s) :=
      if_pos ⟨hruns, hrole, hstop⟩
    obtain ⟨p, hp⟩ := yieldPorts_pair (tetherSend 5 (be 1 (if s.pair.cmd.any (·.reversion) then 5 else 4) ++ zeros 3) s)
    obtain ⟨w, hw⟩ := (yieldPorts_move (tetherSend 5 (be 1 (if s.pair.cmd.any (·.reversion) then 5 else 4) ++ zeros 3) s)).wire
    refine ⟨_, congrArg Host.Outcome.next hgoes, ?_⟩
    beta_reduce
    rw [hp]
    exact ⟨rfl, rfl, (tetherSend_sends hup ..).append hw⟩
  · intro hhome hrole hwtr hleft hcmd hsync
    have hres := swResolve_standby hpaired hrole hsync hup
    have hgoes : wtrExpiry s = swRun { cmd := 1, reversion := true } s :=
      if_pos ⟨hleft, hruns, hhome, by rw [hrole]; rfl, hwtr, hcmd, hres⟩
    obtain ⟨hc, -, hw, hsends⟩ := swRun_answers (x := { cmd := 1, reversion := true }) hup (.inr hrole)
    exact ⟨_, congrArg Host.Outcome.next hgoes, hc, hw, hsends⟩

end Sys2Proof.Machine
end

section
/-! What the start of a Knot handshake leaves alone: the alarms, the windows that are due, and this unit's role (R372, R382, R394). -/

namespace Sys2Proof.Machine

/-- The unit's stored role, and what its last takeover was (R405, R444). -/
def rolesOf (f : Fuse) (d : Dict) : Nat × Nat × Nat :=
  (mget (dfltNum f psIx Sub.pairStat_ROLE) d.nums (okey psIx Sub.pairStat_ROLE),
    mget (dfltNum f psIx Sub.pairStat_LAST_CAUSE) d.nums (okey psIx Sub.pairStat_LAST_CAUSE),
    mget (dfltNum f psIx Sub.pairStat_LAST_COMMIT_NS) d.nums (okey psIx Sub.pairStat_LAST_COMMIT_NS))

/-- What no handshake touches: the alarms, what is due of the windows, SEL_ACT and the role. -/
def State.calm (s : State) : Alarms × List Post × List Nat × Bool × Nat × Nat × Nat :=
  (s.alm, s.acc.posts, s.acc.running, s.pair.selAct, rolesOf s.fuse s.dict)

variable {s t : State}

section Read
variable (h : t.calm = s.calm)
include h

theorem alm_of_calm : t.alm = s.alm := congrArg (·.1) h
theorem due_of_calm : t.due = s.due := congrArg (fun x => (x.2.1, x.2.2.1)) h
theorem selAct_of_calm : t.pair.selAct = s.pair.selAct := congrArg (·.2.2.2.1) h
theorem role_of_calm : t.ob psIx Sub.pairStat_ROLE = s.ob psIx Sub.pairStat_ROLE := congrArg (·.2.2.2.2.1) h
theorem lastCause_of_calm : t.ob psIx Sub.pairStat_LAST_CAUSE = s.ob psIx Sub.pairStat_LAST_CAUSE := congrArg (·.2.2.2.2.2.1) h
theorem lastCommit_of_calm : t.ob psIx Sub.pairStat_LAST_COMMIT_NS = s.ob psIx Sub.pairStat_LAST_COMMIT_NS :=
  congrArg (·.2.2.2.2.2.2) h

end Read

theorem rolesOf_ob (s : State) : rolesOf s.fuse s.dict =
    (s.ob psIx Sub.pairStat_ROLE, s.ob psIx Sub.pairStat_LAST_CAUSE, s.ob psIx Sub.pairStat_LAST_COMMIT_NS) := rfl

theorem calm_of (halm : t.alm = s.alm) (hdue : t.due = s.due) (hsel : t.pair.selAct = s.pair.selAct)
    (hob : ∀ sub, sub ∈ [Sub.pairStat_ROLE, Sub.pairStat_LAST_CAUSE, Sub.pairStat_LAST_COMMIT_NS] → t.ob psIx sub = s.ob psIx sub) :
    t.calm = s.calm := by
  obtain ⟨hposts, hruns⟩ := Prod.ext_iff.mp hdue
  have hposts : t.acc.posts = s.acc.posts := hposts
  have hruns : t.acc.running = s.acc.running := hruns
  unfold State.calm
  rw [rolesOf_ob, rolesOf_ob, halm, hposts, hruns, hsel, hob _ (by simp), hob _ (by simp), hob _ (by simp)]

@[simp] theorem State.calm_mk (a b c d e f g h i j k l m n o p q r u v w x y) :
    State.calm ⟨a, b, c, d, e, f, g, h, i, j, k, l, m, n, o, p, q, r, u, v, w, x, y⟩ =
      (m, l.posts, l.running, q.selAct, rolesOf a b) := rfl

@[simp] theorem State.calm_eta (s : State) :
    (s.alm, s.acc.posts, s.acc.running, s.pair.selAct, rolesOf s.fuse s.dict) = s.calm := rfl

theorem State.calm_foldl {β : Type} {f : State → β → State} (h : ∀ u b, (f u b).calm = u.calm) (l : List β) (s : State) :
    (l.foldl f s).calm = s.calm :=
  List.foldlRecOn (motive := fun t => t.calm = s.calm) l f rfl fun u hu b _ => (h u b).trans hu

/-- An object that is none of the role's. -/
theorem State.put_calm {ix sub : Nat} (h : ∀ x ∈ [Sub.pairStat_ROLE, Sub.pairStat_LAST_CAUSE, Sub.pairStat_LAST_COMMIT_NS],
    okey psIx x ≠ okey ix sub) (v : Nat) (s : State) : (s.put ix sub v).calm = s.calm :=
  calm_of rfl rfl rfl fun x hx => State.ob_put_ne (h x hx)

@[simp] theorem emit_calm (e : Emission) (s : State) : (s.emit e).calm = s.calm := rfl
@[simp] theorem bump_calm (c : Nat) (s : State) : (s.bump c).calm = s.calm := rfl
@[simp] theorem mark_calm (k : Nat) (s : State) : (s.mark k).calm = s.calm := rfl
@[simp] theorem putEnt_calm (e : Entropy) (s : State) : (s.putEnt e).calm = s.calm := rfl
@[simp] theorem putKnot_calm (k : Nat) (x : Knot) (s : State) : (s.putKnot k x).calm = s.calm := rfl
@[simp] theorem addKnot_calm (x : Knot) (s : State) : (s.addKnot x).2.calm = s.calm := rfl
@[simp] theorem putEph_calm (c : Nat) (e : Eph) (s : State) : (s.putEph c e).calm = s.calm := rfl

@[simp] theorem raise_calm (code slice : Nat) (items : Bytes) (s : State) : (s.raise code slice items).calm = s.calm :=
  calm_of (State.raise_alm ..) (due_raise ..) (by rw [State.raise_pair]) fun sub hsub =>
    State.ob_raise (by fin_cases hsub <;> decide) (by decide)

/-! ### The entropy and the engine (R371, R394) -/

@[simp] theorem drbgFill_calm (s : State) : (drbgFill s).calm = s.calm := by
  unfold drbgFill
  dsimp only
  split <;> simp

@[simp] theorem takeQueue_calm (len : Nat) (s : State) : (takeQueue len s).2.calm = s.calm := by simp [takeQueue]

@[simp] theorem drawRequest_calm (who : EntWho) (len : Nat) (s : State) : (drawRequest who len s).2.calm = s.calm := by
  unfold drawRequest
  split_ifs
  all_goals simp

@[simp] theorem setPkeQueue_calm (q : List PkeTask) (s : State) : (setPkeQueue q s).calm = s.calm :=
  (State.put_calm (by decide) ..).trans rfl

@[simp] theorem pkeCount_calm (n : Nat) (s : State) : (s.pkeCount n).calm = s.calm := State.put_calm (by decide) ..

@[simp] theorem pkeTrim_calm (s : State) : (pkeTrim s).calm = s.calm := by
  unfold pkeTrim
  dsimp only
  split <;> simp

@[simp] theorem pkeStart_calm (s : State) : (pkeStart s).1.calm = s.calm := by
  unfold pkeStart
  split
  · rfl
  split
  · rfl
  next t _ _ _ =>
    have h := drawRequest_calm .pke t.op.draws s
    split <;> rename_i hd <;> rw [hd] at h <;> simpa using h

@[simp] theorem pkeQueue_calm (t : PkeTask) (s : State) : (pkeQueue t s).1.calm = s.calm := by
  unfold pkeQueue
  split <;> simp

/-! ### A session (R382, R387) -/

theorem kePort_apart {n sub : Nat} (hs : sub = Sub.kePort_KNOT_STATE ∨ sub = Sub.kePort_KNOT_LAST) :
    ∀ x ∈ [Sub.pairStat_ROLE, Sub.pairStat_LAST_CAUSE, Sub.pairStat_LAST_COMMIT_NS], okey psIx x ≠ okey (Ix.kePort n) sub := by
  intro x hx h
  obtain ⟨-, h⟩ := okey_inj (by fin_cases hx <;> decide) (by rcases hs with rfl | rfl <;> decide) h
  fin_cases hx <;> rcases hs with rfl | rfl <;> exact absurd h (by decide)

@[simp] theorem setKnotState_calm (place v : Nat) (s : State) : (setKnotState place v s).calm = s.calm := by
  unfold setKnotState
  split
  · exact State.put_calm (by decide) ..
  · exact State.put_calm (kePort_apart (.inl rfl)) ..

@[simp] theorem ephRelease_calm (s : State) : (ephRelease s).calm = s.calm := (pkeTrim_calm _).trans rfl

@[simp] theorem dropKnots_calm (gone : Nat × Knot → Bool) (s : State) : (dropKnots gone s).calm = s.calm := (ephRelease_calm _).trans rfl

@[simp] theorem contextRoom_calm (s : State) : (contextRoom s).calm = s.calm := by
  unfold contextRoom
  split <;> simp

@[simp] theorem knotChecked_calm (s : State) : (knotChecked s).calm = s.calm := by
  unfold knotChecked
  split <;> simp

@[simp] theorem tetherSend_calm (kind : Nat) (b : Bytes) (s : State) : (tetherSend kind b s).calm = s.calm := by
  obtain ⟨q, l, w, h⟩ := tetherSend_spoke kind b s
  rw [h]
  rfl

@[simp] theorem sendOut_calm (m : Nat) (e : Emission) (b : Bytes) (cut : Bool) (s : State) : (sendOut m e b cut s).calm = s.calm := by
  unfold sendOut
  repeat' split
  all_goals rfl

@[simp] theorem sendOwn_calm (n : Nat) (e : Emission) (b : Bytes) (s : State) : (sendOwn n e b s).calm = s.calm := by
  unfold sendOwn
  dsimp only
  split
  · exact sendOut_calm ..
  · unfold mapIn
    split <;> rfl

@[simp] theorem knotSend_calm (place msg sid : Nat) (da body : Bytes) (s : State) : (knotSend place msg sid da body s).calm = s.calm := by
  unfold knotSend
  split
  · rfl
  · refine State.calm_foldl (fun t i => ?_) _ _
    dsimp only
    split <;> simp

@[simp] theorem knotLeave_calm (k : Nat) (x : Knot) (s : State) : (knotLeave k x s).calm = s.calm := by
  unfold knotLeave
  dsimp only
  split
  · split
    · rfl
    · exact dropKnots_calm ..
  · exact dropKnots_calm ..

@[simp] theorem knotEnd_calm (k : Nat) (x : Knot) (st : Status) (entry : Nat) (s : State) : (knotEnd k x st entry s).calm = s.calm := by
  unfold knotEnd
  dsimp only
  rw [raise_calm]
  split
  · simp
  · rw [State.put_calm (kePort_apart (.inr rfl))]
    simp

@[simp] theorem knotAbort_calm (k : Nat) (x : Knot) (st : Status) (ctr : Nat) (s : State) : (knotAbort k x st ctr s).calm = s.calm := by
  unfold knotAbort
  dsimp only
  split <;> simp

@[simp] theorem knotEntropy_calm (k : Nat) (st : Status) (s : State) : (knotEntropy k st s).calm = s.calm := by
  unfold knotEntropy
  split <;> simp

@[simp] theorem knotQueue_calm (op : PkeOp) (k : Nat) (s : State) : (knotQueue op k s).calm = s.calm := by
  have h := pkeQueue_calm { op := op, who := .knot k } s
  unfold knotQueue
  split <;> rename_i hq <;> rw [hq] at h <;> simpa using h

@[simp] theorem knotWork_calm (k : Nat) (x : Knot) (stage : KnotStage) (ops : List PkeOp) (s : State) :
    (knotWork k x stage ops s).calm = s.calm := by
  unfold knotWork
  dsimp only
  split <;> simp

@[simp] theorem knotDrawn_calm (k : Nat) (b : Bytes) (s : State) : (knotDrawn k b s).calm = s.calm := by
  unfold knotDrawn
  split
  · rfl
  · split <;> simp

@[simp] theorem knotBegin_calm (x : Knot) (ctx len : Nat) (s : State) : (knotBegin x ctx len s).calm = s.calm := by
  unfold knotBegin
  dsimp only
  have h := drawRequest_calm (.knot ((setKnotState x.place 1 (s.putEph ctx {})).addKnot { x with ctx := ctx }).1) len
    ((setKnotState x.place 1 (s.putEph ctx {})).addKnot { x with ctx := ctx }).2
  simp only [addKnot_calm, setKnotState_calm, putEph_calm] at h
  split <;> rename_i hd <;> rw [hd] at h <;> simpa using h

@[simp] theorem knotStart_calm (place : Nat) (s : State) : (knotStart place s).1.calm = s.calm := by
  unfold knotStart
  dsimp only
  split_ifs
  · simp
  · simp
  · split <;> simp

@[simp] theorem knotRun_calm (place : Nat) (s : State) : (knotRun place s).1.calm = s.calm := by
  unfold knotRun
  split <;> simp

theorem setPairState_calm {v : Nat} (hv : v ≠ 6) (s : State) : (setPairState v s).calm = s.calm := by
  obtain h | ⟨w, h⟩ := setPairState_cases hv s
  · rw [h]
  · have htaken : (s.pairStateTaken v).calm = s.calm := by
      rw [State.pairStateTaken, raise_calm, State.put_calm (by decide)]
      rfl
    rw [h]
    exact Eq.trans rfl htaken

/-! ### Lanes (R47) -/

theorem LanesMove.calm (h : LanesMove s t) : t.calm = s.calm := by
  obtain ⟨p, hp⟩ := h.pair
  exact calm_of h.alm (congrArg (fun a : Access => (a.posts, a.running)) h.acc) (by rw [hp]) fun sub hsub =>
    h.ob _ _ ⟨.inr (by decide), by decide⟩ (by fin_cases hsub <;> decide)

end Sys2Proof.Machine
end

section
/-! The alarm window and the window of the always-on log (R547, R548, R553 to R559, R563, R564). -/

namespace Sys2Proof.Machine

variable {s t u : State} {c : Caller}

/-! ### Starting an operation leaves what it reads (R563) -/

/-- Where an operation of the alarm window has been written. -/
def State.almStarted (code : Nat) (s : State) : State := s.put 0x4C01 Sub.almWin_ALM_OP code

@[simp] theorem almStarted_alm (code : Nat) (s : State) : (s.almStarted code).alm = s.alm := rfl
@[simp] theorem almStarted_fuse (code : Nat) (s : State) : (s.almStarted code).fuse = s.fuse := rfl
@[simp] theorem almStarted_acc (code : Nat) (s : State) : (s.almStarted code).acc = s.acc := rfl
@[simp] theorem almStarted_pwr (code : Nat) (s : State) : (s.almStarted code).pwr = s.pwr := rfl

theorem almStarted_actClass (code src : Nat) (s : State) : (s.almStarted code).actClass src = s.actClass src := by
  have hclass : (s.almStarted code).srcClass src = s.srcClass src :=
    State.ob_put_ne (by simp only [okey, Sub.source_SRC_CLASS, Sub.almWin_ALM_OP]; omega)
  unfold State.actClass State.actAs
  rw [hclass]
  rfl

/-! ### CLEAR (R555) -/

/-- The response in force may be cleared. -/
theorem almClear_clears (h0 : s.alm.latch ≠ 0) (hact : ∀ x ∈ s.alm.active, s.actClass x < s.alm.latch) :
    almClear s = ((({ s with alm := { s.alm with latch := 0, clearReset := decide (3 ≤ s.alm.latch) } } : State).mark
      Timer.clear).raise 0x0C02 0xFF (be 1 s.alm.latch), .ok) := by
  have hquiet : ¬(s.alm.latch ≠ 0 ∧ s.alm.active.any (fun x => decide (s.alm.latch ≤ s.actClass x)) = true) := by
    rintro ⟨-, hx⟩
    obtain ⟨x, hin, hx⟩ := List.any_eq_true.mp hx
    exact absurd (of_decide_eq_true hx) (Nat.not_le.mpr (hact x hin))
  unfold almClear
  dsimp only
  rw [if_neg hquiet, if_neg h0]

theorem almClear_busy {x : Nat} (h0 : s.alm.latch ≠ 0) (hx : x ∈ s.alm.active) (hclass : s.alm.latch ≤ s.actClass x) :
    almClear s = (s, .busy) :=
  if_pos ⟨h0, List.any_eq_true.mpr ⟨x, hx, decide_eq_true hclass⟩⟩

theorem enterKeying_calm (s : State) : (enterKeying s).calm = s.calm := by
  have h : (setKnotState tetherPlace 0 (setPairState 2 s)).calm = s.calm :=
    (setKnotState_calm ..).trans (setPairState_calm (by decide) s)
  unfold enterKeying
  dsimp only
  split
  · exact (knotRun_calm ..).trans h
  · exact h

theorem sayHello_calm (s : State) : (sayHello s).calm = s.calm := by
  unfold sayHello
  rw [tetherSend_calm]
  rfl

/-- What follows the end of a HOLD leaves the alarms alone (R555, R440). -/
theorem holdEnds_calm (s : State) : (holdEnds s).calm = s.calm := by
  have h := (settleLanes_move s).calm
  unfold holdEnds
  dsimp only
  split
  · rw [sayHello_calm]
    split
    · exact h
    · rw [enterKeying_calm, h]
  · exact h

theorem alarmClear_clears (h0 : s.alm.latch ≠ 0) (hact : ∀ x ∈ s.alm.active, s.actClass x < s.alm.latch) :
    ∃ u, alarmClear s = (u, .ok) ∧ u.alm = { s.alm with latch := 0, clearReset := decide (3 ≤ s.alm.latch) } ∧ u.due = s.due := by
  have hclear := almClear_clears h0 hact
  have halm : (almClear s).1.alm = { s.alm with latch := 0, clearReset := decide (3 ≤ s.alm.latch) } := by
    rw [hclear, State.raise_alm]
    rfl
  have hdue : (almClear s).1.due = s.due := by
    rw [hclear, due_raise]
    rfl
  have hstatus : (alarmClear s).2 = .ok := congrArg Prod.snd hclear
  refine ⟨(alarmClear s).1, Prod.ext rfl hstatus, ?_⟩
  unfold alarmClear
  dsimp only
  split
  · exact ⟨(alm_of_calm (holdEnds_calm _)).trans halm, (due_of_calm (holdEnds_calm _)).trans hdue⟩
  · exact ⟨halm, hdue⟩

theorem alarmClear_busy {x : Nat} (h0 : s.alm.latch ≠ 0) (hx : x ∈ s.alm.active) (hclass : s.alm.latch ≤ s.actClass x) :
    alarmClear s = (s, .busy) := by
  have hbusy := almClear_busy h0 hx hclass
  unfold alarmClear
  dsimp only
  rw [hbusy, if_neg fun k => h0 k.2]

/-! ### FUSE_DISABLE and MAINT (R548, R556) -/

/-- The disable fuse of a source that has none burnt yet. -/
theorem almFuseDisable_fuses {src : Nat} (hsrc : s.ob 0x4C01 Sub.almWin_ALM_SOURCE = src) (hmay : s.vendorOrOwned = true)
    (hsome : (sourceInfo src).isSome = true) (hnew : src ∉ s.fuse.disabled) :
    almFuseDisable s = ({ s with
      fuse := { s.fuse with disabled := s.fuse.disabled ++ [src] }
      alm := { s.alm with active := s.alm.active.filter (· != src), latched := s.alm.latched.filter (· != src) } }, .ok) := by
  have hinfo : ¬ (sourceInfo src).isNone = true := by
    rw [Option.isNone_iff_eq_none]
    exact fun h => by simp [h] at hsome
  subst hsrc
  unfold almFuseDisable
  dsimp only
  rw [if_neg (by rw [hmay]; decide), if_neg hinfo, if_neg fun h => hnew (List.contains_iff_mem.mp h)]

theorem almMaint_opens {n : Nat} (hn : s.ob 0x4C01 Sub.almWin_ALM_ARG = n) (hlo : 60 ≤ n) (hhi : n ≤ 14400) :
    almMaint s = (({ s with alm := { s.alm with maintEnd := some (s.alm.aoTime + n * 32768) } } : State).raise 0x0C04 0xFF (be 2 n),
      .ok) := by
  subst hn
  unfold almMaint
  dsimp only
  rw [if_neg (by omega), if_neg (by omega)]

theorem maintLeft_opened {n : Nat} (h : s.alm.maintEnd = some (s.alm.aoTime + n * 32768)) : s.maintLeft = n := by
  rw [State.maintLeft, h]
  show (s.alm.aoTime + n * 32768 - s.alm.aoTime + 32767) / 32768 = n
  omega

theorem watched_disabled {src : Nat} (h : src ∈ s.fuse.disabled) : s.watched src = false := by
  unfold State.watched
  split
  · rfl
  · simp [h]

/-! ### The end of a maintenance window (R556) -/

theorem maintExpiry_ends (h : s.maintLeft = 0) : (maintExpiry s).maintOpen = false ∧ (maintExpiry s).alm.latch = s.alm.latch ∧
    (maintExpiry s).wire = s.wire := by
  by_cases hopen : s.maintOpen = true
  · have hends : maintExpiry s = ({ s with alm := { s.alm with maintEnd := none } } : State).raise 0x0C04 0xFF (be 2 0) :=
      if_pos ⟨hopen, h⟩
    rw [hends, State.maintOpen, State.raise_alm, State.raise_wire]
    exact ⟨rfl, rfl, rfl⟩
  · have hsame : maintExpiry s = s := if_neg fun k => hopen k.1
    rw [hsame]
    exact ⟨Bool.eq_false_iff.mpr hopen, rfl, rfl⟩

/-! ### READ of the always-on log (R564) -/

theorem alRead_shows {r : Bytes} (h : mfind s.alm.log (s.ob 0x4C02 Sub.alWin_AL_SEQ) = some r) (hlive : fld r 2 1 ∉ s.fuse.disabled) :
    alRead s = (s.putO 0x4C02 Sub.alWin_AL_RECORD r, .ok) := by
  have hshown : s.aoShown r = r := if_neg fun k => hlive (List.contains_iff_mem.mp k)
  unfold alRead
  rw [h]
  dsimp only
  rw [hshown]

/-- Settles O45. -/
theorem alarmWindowOperates : Obligations.AlarmWindowOperates := by
  intro s c
  refine ⟨fun hst => ?ack, fun hst h0 hact => ?clears, fun x hst h0 hx hclass => ?busy, fun src hst hsrc hmay hsome hnew => ?burns,
    fun hst hno => ?denied, fun n hst hn hlo hhi => ?maint, fun hleft => ?lasts, fun hleft => ?expires, fun r hst hr hlive => ?reads,
    fun hst hnone => ?range⟩
  case ack =>
    have h := rowWindow_posts hst (act := almAck) rfl rfl
    exact ⟨_, rfl, by rw [h.alm], by rw [h.alm], by rw [h.alm]; rfl, by rw [h.alm]; rfl, h.ends⟩
  case clears =>
    obtain ⟨u, hu, halm, hdue⟩ := alarmClear_clears (s := s.almStarted 2) h0 fun x hx => by
      rw [almStarted_actClass]
      exact hact x hx
    have h := rowWindow_posts hst hu hdue
    refine ⟨_, rfl, ?_, fun h3 => ?_, ?_, h.ends⟩ <;> rw [h.alm, halm]
    · exact decide_eq_true h3
    · rfl
  case busy =>
    have hu := alarmClear_busy (s := s.almStarted 2) (x := x) h0 hx (by rw [almStarted_actClass]; exact hclass)
    have h := rowWindow_posts hst hu rfl
    exact ⟨_, rfl, by rw [h.alm]; rfl, h.ends⟩
  case burns =>
    have hu := almFuseDisable_fuses (s := s.almStarted 3) (src := src) ((State.ob_put_ne (by decide)).trans hsrc) hmay hsome hnew
    have h := rowWindow_posts hst hu rfl
    refine ⟨_, rfl, by rw [h.fuse]; rfl, ?_, watched_disabled ?_, h.ends⟩
    · rw [h.alm]
      simp
    · rw [h.fuse]
      simp
  case denied =>
    have hu : almFuseDisable (s.almStarted 3) = (s.almStarted 3, .denied) := by
      have hno' : (s.almStarted 3).vendorOrOwned = false := hno
      simp [almFuseDisable, hno']
    have h := rowWindow_posts hst hu rfl
    exact ⟨_, rfl, by rw [h.fuse]; rfl, h.ends⟩
  case maint =>
    have hu := almMaint_opens (s := s.almStarted 4) ((State.ob_put_ne (by decide)).trans hn) hlo hhi
    have h := rowWindow_posts hst hu (due_raise ..)
    have hend := h.alm
    rw [State.raise_alm] at hend
    have hend' := congrArg Alarms.maintEnd hend
    have htime := congrArg Alarms.aoTime hend
    refine ⟨_, rfl, ?_, maintLeft_opened ?_, h.ends⟩
    · rw [State.maintOpen, hend']
      rfl
    · rw [hend', htime]
  case lasts => exact congrArg Host.Outcome.next (if_neg fun k => hleft k.2)
  case expires => exact ⟨_, rfl, maintExpiry_ends hleft⟩
  case reads =>
    have hu : alRead (s.put 0x4C02 Sub.alWin_AL_OP 1) = _ := alRead_shows (r := r)
      (by rw [State.ob_put_ne (by decide)]; exact hr) hlive
    have h := rowWindow_posts hst hu rfl
    exact ⟨_, rfl, (h.oct ..).trans (State.oct_putO_self ..), by rw [h.alm]; rfl, h.ends⟩
  case range =>
    have hu : alRead (s.put 0x4C02 Sub.alWin_AL_OP 1) = (s.put 0x4C02 Sub.alWin_AL_OP 1, .range) := by
      have hnone' : mfind (s.put 0x4C02 Sub.alWin_AL_OP 1).alm.log ((s.put 0x4C02 Sub.alWin_AL_OP 1).ob 0x4C02 Sub.alWin_AL_SEQ) = none := by
        rw [State.ob_put_ne (by decide)]
        exact hnone
      rw [alRead, hnone']
    have h := rowWindow_posts hst hu rfl
    exact ⟨_, rfl, h.ends⟩

end Sys2Proof.Machine
end

section
/-! Resets: what each clears, keeps and records (R328, R450, R503, R588 to R590, R604). -/

namespace Sys2Proof.Machine

variable {s t u : State}

/-! ### What the clearing of the control complex leaves alone (R589) -/

/-- The record of what reset the device (R604). -/
def causeOf (f : Fuse) (d : Dict) : Nat :=
  mget (dfltNum f rstIx Sub.rstBoot_RESET_CAUSE) d.nums (okey rstIx Sub.rstBoot_RESET_CAUSE)

/-- The fuses, the power-up order, the data path and its tables, the alarms, and the record of what reset the device. -/
def State.still (s : State) : Fuse × Resets × Assocs × TrafficManager × Engine × Hitch × Lanes × Alarms × Nat :=
  (s.fuse, s.rst, s.asc, s.tm, s.eng, s.hitch, s.lanes, s.alm, causeOf s.fuse s.dict)

section Read
variable (h : t.still = s.still)
include h

theorem fuse_of_still : t.fuse = s.fuse := congrArg (·.1) h
theorem rst_of_still : t.rst = s.rst := congrArg (·.2.1) h
theorem asc_of_still : t.asc = s.asc := congrArg (·.2.2.1) h
theorem tm_of_still : t.tm = s.tm := congrArg (·.2.2.2.1) h
theorem eng_of_still : t.eng = s.eng := congrArg (·.2.2.2.2.1) h
theorem hitch_of_still : t.hitch = s.hitch := congrArg (·.2.2.2.2.2.1) h
theorem lanes_of_still : t.lanes = s.lanes := congrArg (·.2.2.2.2.2.2.1) h
theorem alm_of_still : t.alm = s.alm := congrArg (·.2.2.2.2.2.2.2.1) h
theorem cause_of_still : t.ob rstIx Sub.rstBoot_RESET_CAUSE = s.ob rstIx Sub.rstBoot_RESET_CAUSE :=
  congrArg (·.2.2.2.2.2.2.2.2) h

end Read

@[simp] theorem State.still_mk (a b c d e f g h i j k l m n o p q r u v w x y) :
    State.still ⟨a, b, c, d, e, f, g, h, i, j, k, l, m, n, o, p, q, r, u, v, w, x, y⟩ =
      (a, u, f, j, g, e, c, m, causeOf a b) := rfl

@[simp] theorem State.still_eta (s : State) :
    (s.fuse, s.rst, s.asc, s.tm, s.eng, s.hitch, s.lanes, s.alm, causeOf s.fuse s.dict) = s.still := rfl

theorem State.still_foldl {β : Type} {f : State → β → State} (h : ∀ u b, (f u b).still = u.still) (l : List β) (s : State) :
    (l.foldl f s).still = s.still :=
  List.foldlRecOn (motive := fun t => t.still = s.still) l f rfl fun u hu b _ => (h u b).trans hu

theorem still_of_dict {d : Dict} (h : causeOf s.fuse d = causeOf s.fuse s.dict) : ({ s with dict := d } : State).still = s.still := by
  rw [State.still_mk, h]
  rfl

theorem State.put_still {ix sub : Nat} (h : okey rstIx Sub.rstBoot_RESET_CAUSE ≠ okey ix sub) (v : Nat) (s : State) :
    (s.put ix sub v).still = s.still := still_of_dict (State.ob_put_ne h)

theorem above_rst {ix sub : Nat} (h : rstIx < ix) : okey rstIx Sub.rstBoot_RESET_CAUSE ≠ okey ix sub := by
  simp only [okey, rstIx, Sub.rstBoot_RESET_CAUSE] at *
  omega

@[simp] theorem raise_still (code slice : Nat) (items : Bytes) (s : State) : (s.raise code slice items).still = s.still := by
  have hcause : (s.raise code slice items).ob rstIx Sub.rstBoot_RESET_CAUSE = s.ob rstIx Sub.rstBoot_RESET_CAUSE :=
    State.ob_raise (by decide) (by decide)
  unfold State.still
  rw [show causeOf (s.raise code slice items).fuse (s.raise code slice items).dict = _ from hcause]
  simp
  rfl

@[simp] theorem emit_still (e : Emission) (s : State) : (s.emit e).still = s.still := rfl
@[simp] theorem mark_still (k : Nat) (s : State) : (s.mark k).still = s.still := rfl
@[simp] theorem putSess_still (k : Nat) (x : Sess) (s : State) : (s.putSess k x).still = s.still := rfl
@[simp] theorem putO_still (ix sub : Nat) (b : Bytes) (s : State) : (s.putO ix sub b).still = s.still := rfl
@[simp] theorem putEnt_still (e : Entropy) (s : State) : (s.putEnt e).still = s.still := rfl
@[simp] theorem putKek_still (n : Nat) (k : KekSlot) (s : State) : (s.putKek n k).still = s.still := rfl
@[simp] theorem putJob_still (j : Nat) (x : Job) (s : State) : (s.putJob j x).still = s.still := rfl

theorem winEnd_still {ix : Nat} (h : rstIx < ix) (stSub : Nat) (st : Status) (s : State) : (s.winEnd ix stSub st).still = s.still :=
  (State.put_still (above_rst h) ..).trans rfl

@[simp] theorem finish_still (who ix sub : Nat) (st : Status) (s : State) : (s.finish who ix sub st).still = s.still := by
  unfold State.finish
  dsimp only
  split_ifs <;> rfl

/-! Entropy and the engine (R371, R394). -/

@[simp] theorem drbgFill_still (s : State) : (drbgFill s).still = s.still := by
  unfold drbgFill
  dsimp only
  split <;> simp

@[simp] theorem drawRequest_still (who : EntWho) (len : Nat) (s : State) : (drawRequest who len s).2.still = s.still := by
  unfold drawRequest takeQueue
  split_ifs
  all_goals simp

@[simp] theorem setPkeQueue_still (q : List PkeTask) (s : State) : (setPkeQueue q s).still = s.still :=
  (State.put_still (above_rst (by decide)) ..).trans rfl

@[simp] theorem pkeTrim_still (s : State) : (pkeTrim s).still = s.still := by
  unfold pkeTrim
  dsimp only
  split <;> simp

@[simp] theorem ephRelease_still (s : State) : (ephRelease s).still = s.still := (pkeTrim_still _).trans rfl

@[simp] theorem pkeStart_still (s : State) : (pkeStart s).1.still = s.still := by
  unfold pkeStart
  split
  · rfl
  split
  · rfl
  next t _ _ _ =>
    have h := drawRequest_still .pke t.op.draws s
    split <;> rename_i hd <;> rw [hd] at h <;> simpa using h

@[simp] theorem pkeDeny_still (st : Status) (w : PkeWho) (s : State) : (pkeDeny st w s).still = s.still := by
  cases w with
  | quote | migrate | ticket => exact winEnd_still (by decide) ..
  | cert => exact finish_still ..
  | knot | hand => rfl

@[simp] theorem windowsGo_still (n : Nat) (s : State) : (windowsGo n s).still = s.still := by
  induction n generalizing s with
  | zero => rfl
  | succ n ih =>
    have h := pkeStart_still s
    simp only [windowsGo]
    split <;> rename_i hp <;> rw [hp] at h
    · rw [ih, pkeDeny_still, h]
    · exact h

@[simp] theorem setKnotState_still (place v : Nat) (s : State) : (setKnotState place v s).still = s.still := by
  unfold setKnotState
  split
  · exact State.put_still (above_rst (by decide)) ..
  · exact State.put_still (above_rst (by simp only [rstIx, Ix.kePort]; omega)) ..

@[simp] theorem dropWaiting_still (gone : EntWho → Bool) (s : State) : (dropWaiting gone s).still = s.still := rfl

@[simp] theorem knotAbandon_still (windows : Bool) (s : State) : (knotAbandon windows s).still = s.still := by
  have hfold : (s.ke.knot.foldl (fun t x => setKnotState x.2.place 0 t) s).still = s.still :=
    State.still_foldl (fun u x => setKnotState_still ..) ..
  unfold knotAbandon
  dsimp only
  split
  · rw [setPkeQueue_still]
    exact Eq.trans rfl hfold
  · rw [windowsGo_still, setPkeQueue_still]
    exact Eq.trans rfl hfold

/-! Jobs, migrations and blocks of writes (R364, R370, R486). -/

@[simp] theorem abortJobs_still (st : Status) (s : State) : (abortJobs st s).still = s.still := by
  have hlate (j : Nat) : rstIx < jobIx j := by simp only [rstIx, jobIx]; omega
  refine State.still_foldl (fun t j => ?_) _ _
  dsimp only
  have hend : (if t.winBusy (jobIx j) Sub.job_JOB_STATUS then jobEnd j st t else t).still = t.still := by
    split
    · exact winEnd_still (hlate j) ..
    · rfl
  have hleave (u : State) : (if u.jobState j = 0 then u else jobLeave j 0 u).still = u.still := by
    split
    · rfl
    · exact (State.put_still (above_rst (hlate j)) ..).trans (putJob_still ..)
  exact (hleave _).trans hend

@[simp] theorem migrate_still (m : Bytes) (s : State) : (migrate m s).1.still = s.still := by
  unfold migrate
  split
  · rfl
  split
  · rfl
  · split
    · simp [placeKek]
    · rfl

@[simp] theorem migrateEnds_still (s : State) : (migrateEnds s).still = s.still := by
  refine State.still_foldl (fun t x => ?_) _ _
  dsimp only
  split
  · rw [winEnd_still (by decide)]
    unfold migrateVerified
    split <;> simp
  · rfl

@[simp] theorem blockDrop_still (s : State) : (blockDrop s).still = s.still := by
  unfold blockDrop
  split <;> rfl

/-! Sessions and claims (R462, R498). -/

@[simp] theorem endClaim_still (ix : Nat) (s : State) : (endClaim ix s).still = s.still := by
  unfold endClaim claimEnded
  split
  · exact (State.put_still (above_rst (by decide)) ..).trans rfl
  · rfl

@[simp] theorem closeSess_still (k cause : Nat) (s : State) : (closeSess k cause s).still = s.still := by
  unfold closeSess
  dsimp only
  split_ifs
  · simp
  · rfl
  · rw [raise_still, ephRelease_still, putSess_still, State.still_foldl fun u x => endClaim_still x u]
    rfl
  · rfl

@[simp] theorem closeAll_still (which : Sess → Bool) (cause : Nat) (s : State) : (closeAll which cause s).still = s.still := by
  refine State.still_foldl (fun t k => ?_) _ _
  split <;> simp

end Sys2Proof.Machine
end

section
/-! Core, system and power-on resets (R328, R450, R503, R588 to R590, R604). -/

namespace Sys2Proof.Machine

variable {s t u : State}

/-! ### A core reset (R588, R589) -/

theorem kept_cause (f : Fuse) (d : Dict) : causeOf f (d.kept 0) = causeOf f d := by
  have hkeeps : keepsObject 0 (okey rstIx Sub.rstBoot_RESET_CAUSE) = true := by decide
  have hfind : mfind (d.kept 0).nums (okey rstIx Sub.rstBoot_RESET_CAUSE) = mfind d.nums (okey rstIx Sub.rstBoot_RESET_CAUSE) :=
    mfind_filter hkeeps
  unfold causeOf mget
  rw [hfind]

/-- The machine whose control cores are held, before anything of it is cleared. -/
def State.coresStopped (s : State) : State :=
  { s with rst := { s.rst with coresHeld := true, staging := none, ddr := none, waiting := false } }

/-- What a core reset has ended, before it clears the structures of the control complex (R589). -/
def State.coreEnded (s : State) : State :=
  dropWaiting EntWho.core (knotAbandon true (abortJobs .denied (migrateEnds (blockDrop (closeAll (·.alive) 4 s.coresStopped)))))

theorem coreEnded_still (s : State) : s.coreEnded.still = s.coresStopped.still := by
  rw [State.coreEnded, dropWaiting_still, knotAbandon_still, abortJobs_still, migrateEnds_still, blockDrop_still, closeAll_still]

theorem coreClear_still (s : State) : (coreClear s).still = s.coresStopped.still := by
  rw [← coreEnded_still s]
  show (State.still { s.coreEnded with ke := _, acc := _, dict := s.coreEnded.dict.kept 0 }) = _
  rw [State.still_mk, kept_cause]
  rfl

theorem coreClear_acc (s : State) : (coreClear s).acc.claims = [] ∧ (coreClear s).acc.sess = [] ∧ (coreClear s).acc.log = [] :=
  ⟨rfl, rfl, rfl⟩

theorem noteCause_bit (b : Nat) (s : State) : bit ((noteCause b s).ob rstIx Sub.rstBoot_RESET_CAUSE) (b % 12) = true := by
  rw [noteCause, State.ob_put_self, bit_setBit, if_pos rfl]

theorem countReset_ob {ix sub : Nat} (h : okey ix sub ≠ okey rstIx Sub.rstBoot_RESET_COUNT) (s : State) :
    (countReset s).ob ix sub = s.ob ix sub := State.ob_addOb_ne h

/-- The machine that a core reset finds, with its source recorded. -/
def State.coreNoted (b : Nat) (s : State) : State := countReset (noteCause b s)

theorem coreReset_clears {b : Nat} (hv : s.pwr.vigil = false) (hstep : s.rst.step = 5) :
    coreReset b s = (coreClear (s.coreNoted b)).mark Timer.core := by
  rw [coreReset, if_neg (by rw [hv]; decide), if_neg (not_not.mpr hstep)]
  rfl

theorem coreReset_absorbed {b : Nat} (hv : s.pwr.vigil = false) (hstep : s.rst.step ≠ 5) : coreReset b s = noteCause b s := by
  rw [coreReset, if_neg (by rw [hv]; decide), if_pos hstep]

section Cleared
variable {b : Nat} (hv : s.pwr.vigil = false) (hstep : s.rst.step = 5)
include hv hstep

theorem coreReset_still : (coreReset b s).still = (s.coreNoted b).coresStopped.still := by
  rw [coreReset_clears hv hstep, mark_still, coreClear_still]

/-- What a core reset leaves of the power-up order. -/
theorem coreReset_rst : (coreReset b s).rst = s.coresStopped.rst := by
  rw [rst_of_still (coreReset_still hv hstep)]
  rfl

theorem coreReset_acc : (coreReset b s).acc.claims = [] ∧ (coreReset b s).acc.sess = [] ∧ (coreReset b s).acc.log = [] := by
  have hacc (u : State) : (u.mark Timer.core).acc = u.acc := rfl
  rw [coreReset_clears hv hstep, hacc]
  exact coreClear_acc _

theorem coreReset_cause : bit ((coreReset b s).ob rstIx Sub.rstBoot_RESET_CAUSE) (b % 12) = true := by
  rw [cause_of_still (coreReset_still hv hstep)]
  show bit ((countReset (noteCause b s)).ob rstIx Sub.rstBoot_RESET_CAUSE) (b % 12) = true
  rw [countReset_ob (by decide)]
  exact noteCause_bit ..

theorem coreReset_cleared (hb : b < 12) : CoreCleared s (coreReset b s) b := by
  have h := coreReset_still (b := b) hv hstep
  have hrst := coreReset_rst (b := b) hv hstep
  obtain ⟨hclaims, hsess, hlog⟩ := coreReset_acc (b := b) hv hstep
  have hcause := coreReset_cause (b := b) hv hstep
  rw [Nat.mod_eq_of_lt hb] at hcause
  exact ⟨by rw [hrst]; rfl, by rw [hrst]; rfl, hclaims, hsess, hlog, (asc_of_still h).trans rfl, (tm_of_still h).trans rfl,
    (eng_of_still h).trans rfl, (hitch_of_still h).trans rfl, (lanes_of_still h).trans rfl, (fuse_of_still h).trans rfl, hcause⟩

end Cleared

/-! ### A system reset and a power-on reset (R328, R450, R588, R589) -/

/-- The machine that a wider reset leaves, with its source recorded. -/
def State.resetFrom (rank b : Nat) (s : State) : State :=
  (countReset (noteCause b (s.rebuilt rank))).eventsLost s.aliveCount

theorem eventsLost_ob {ix sub : Nat} (h : ix ≠ 0x0300) (hsub : sub < 256) (n : Nat) (s : State) :
    (s.eventsLost n).ob ix sub = s.ob ix sub := by
  have hne (x : Nat) (hx : x < 256) : okey ix sub ≠ okey 0x0300 x := fun k => h (okey_inj hsub hx k).1
  exact (State.ob_addOb_ne (hne _ (by decide))).trans (State.ob_addOb_ne (hne _ (by decide)))

theorem resetFrom_cause {rank b : Nat} (hb : b < 12) (s : State) :
    bit ((s.resetFrom rank b).ob rstIx Sub.rstBoot_RESET_CAUSE) b = true := by
  rw [State.resetFrom, eventsLost_ob (by decide) (by decide), countReset_ob (by decide)]
  have hbit := noteCause_bit b (s.rebuilt rank)
  rwa [Nat.mod_eq_of_lt hb] at hbit

theorem resetFrom_cleared {rank b : Nat} (hb : b < 12) (s : State) : AllCleared s (s.resetFrom rank b) b :=
  ⟨rfl, rfl, rfl, rfl, rfl, rfl, rfl, rfl, rfl, rfl, rfl, rfl, rfl, rfl, resetFrom_cause hb s⟩

theorem systemReset_eq {b : Nat} (hv : s.pwr.vigil = false) : systemReset b s = s.resetFrom 1 b := by
  rw [systemReset, if_neg (by rw [hv]; decide)]
  rfl

/-- While the cores are held an event is only counted as lost. -/
theorem raise_held {code slice : Nat} {items : Bytes} (h : s.rst.coresHeld = true) : s.raise code slice items = s.eventLost := if_pos h

/-- From `s` to `t`, the always-on domain's secret may have changed, no life-cycle change is pending, and events were lost. -/
structure Checked (s t : State) : Prop where
  rest : ∃ n a f, t = { s with dict := { s.dict with nums := n }, alm := a, fuse := { s.fuse with change := f } }
  log : t.alm.log = s.alm.log
  latch : t.alm.latch = s.alm.latch
  ob : ∀ ix sub, ix ≠ 0x0300 → sub < 256 → t.ob ix sub = s.ob ix sub

theorem Checked.refl (s : State) : Checked s s := ⟨⟨_, _, _, rfl⟩, rfl, rfl, fun _ _ _ _ => rfl⟩

theorem Checked.trans (h : Checked s t) (h' : Checked t u) : Checked s u where
  rest := by
    obtain ⟨n, a, f, rfl⟩ := h.rest
    obtain ⟨n', a', f', rfl⟩ := h'.rest
    exact ⟨n', a', f', rfl⟩
  log := h'.log.trans h.log
  latch := h'.latch.trans h.latch
  ob ix sub h1 h2 := (h'.ob ix sub h1 h2).trans (h.ob ix sub h1 h2)

theorem Checked.cleared {b : Nat} (h : Checked t u) (hc : AllCleared s t b) : AllCleared s u b := by
  obtain ⟨hasc, htm, hsess, hlog, hranges, hmem, halog, halatch, hlc, howner, hdis, hheld, hgap, hstep, hbit⟩ := hc
  obtain ⟨n, a, f, hu⟩ := h.rest
  have hcause := h.ob rstIx Sub.rstBoot_RESET_CAUSE (by decide) (by decide)
  refine ⟨?_, ?_, ?_, ?_, ?_, ?_, h.log.trans halog, h.latch.trans halatch, ?_, ?_, ?_, ?_, ?_, ?_, by rw [hcause]; exact hbit⟩ <;>
    rw [hu]
  exacts [hasc, htm, hsess, hlog, hranges, hmem, hlc, howner, hdis, hheld, hgap, hstep]

theorem eventsLost_checked (n : Nat) (s : State) : Checked s (s.eventsLost n) :=
  ⟨⟨_, s.alm, s.fuse.change, rfl⟩, rfl, rfl, fun _ _ h hsub => eventsLost_ob h hsub n s⟩

/-- While the cores are held an event is only counted as lost. -/
theorem raise_checked (h : s.rst.coresHeld = true) (code slice : Nat) (items : Bytes) : Checked s (s.raise code slice items) := by
  have hlost : s.raise code slice items = s.eventLost := if_pos h
  rw [hlost]
  exact eventsLost_checked 1 s

/-- The always-on domain changes but for its log and its latch, and an event is lost for it. -/
theorem alarms_checked {a : Alarms} (h : s.rst.coresHeld = true) (hlog : a.log = s.alm.log) (hlatch : a.latch = s.alm.latch)
    (code slice : Nat) (items : Bytes) : Checked s (({ s with alm := a } : State).raise code slice items) :=
  Checked.trans (t := { s with alm := a }) ⟨⟨s.dict.nums, a, s.fuse.change, rfl⟩, hlog, hlatch, fun _ _ _ _ => rfl⟩
    (raise_checked (s := { s with alm := a }) h code slice items)

/-- The machine of a power-on reset with the bits of the always-on SRAM turned over, before the secret is checked. -/
def State.turnedOver (secret code : Nat) (s : State) : State :=
  { s with alm := s.alm.turned secret code, fuse := { s.fuse with change := none } }

theorem turned_keeps (secret code : Nat) (a : Alarms) : ∃ v w, a.turned secret code = { a with vs := v, vsCode := w } := by
  unfold Alarms.turned
  split
  · exact ⟨_, _, rfl⟩
  · exact ⟨_, _, rfl⟩

/-- Nothing is turned over. -/
theorem turned_none {a : Alarms} (ha : a.vsCode = 0) {secret code : Nat} (hs : secret % 2 ^ 256 = 0) (hc : code % 2 ^ 32 = 0) :
    a.turned secret code = a := by
  unfold Alarms.turned
  rw [hs, hc, ha]
  split
  · rfl
  next v hv =>
    simp only [Nat.xor_zero, if_pos]
    rw [← hv, ← ha]

/-- The check word alone is turned over. -/
theorem turned_code {a : Alarms} (ha : a.vsCode = 0) {secret code : Nat} (hs : secret % 2 ^ 256 = 0) (hsome : a.vs.isSome = true) :
    (a.turned secret code).vsCode = code % 2 ^ 32 ∧ (a.turned secret code).vs = a.vs := by
  obtain ⟨v, hv⟩ := Option.isSome_iff_exists.mp hsome
  unfold Alarms.turned
  rw [hv, hs, ha]
  simp

theorem turned_absent {a : Alarms} (h : a.vs = none) (secret code : Nat) : a.turned secret code = a := by
  unfold Alarms.turned
  rw [h]

theorem turnedOver_checked (secret code : Nat) (s : State) : Checked s (s.turnedOver secret code) := by
  obtain ⟨v, w, h⟩ := turned_keeps secret code s.alm
  exact ⟨⟨s.dict.nums, _, none, rfl⟩, by rw [State.turnedOver, h], by rw [State.turnedOver, h], fun _ _ _ _ => rfl⟩

theorem vsCheck_checked (h : s.rst.coresHeld = true) : Checked s (vsCheck s) := by
  unfold vsCheck
  split
  · exact alarms_checked (a := { s.alm with vs := none, vsCode := 0 }) h rfl rfl 0x0901 0xFF []
  · exact .refl s

/-- A secret whose check word does not agree is zeroised (R328). -/
theorem vsCheck_vs (s : State) : (vsCheck s).alm.vs = if s.alm.vs.isSome ∧ s.alm.vsCode ≠ 0 then none else s.alm.vs := by
  unfold vsCheck
  split
  · rw [State.raise_alm]
  · rfl

/-- The power-up reports that both supplies were lost (R558). -/
def lossReported (s : State) : State :=
  if s.alm.aoLost then (({ s with alm := { s.alm with aoLost := false } } : State).raise 0x0901 0xFF []).raise 0x0C05 0xFF [] else s

theorem lossReported_checked (h : s.rst.coresHeld = true) : Checked s (lossReported s) := by
  unfold lossReported
  split
  · have hone := alarms_checked (s := s) (a := { s.alm with aoLost := false }) h rfl rfl 0x0901 0xFF []
    have hheld : (({ s with alm := { s.alm with aoLost := false } } : State).raise 0x0901 0xFF []).rst.coresHeld = true := by
      rw [State.raise_rst]
      exact h
    exact hone.trans (raise_checked hheld ..)
  · exact .refl s

theorem lossReported_vs (s : State) : (lossReported s).alm.vs = s.alm.vs := by
  unfold lossReported
  split
  · rw [State.raise_alm, State.raise_alm]
  · rfl

theorem lossReported_fuse (s : State) : (lossReported s).fuse = s.fuse := by
  unfold lossReported
  split
  · rw [State.raise_fuse, State.raise_fuse]
  · rfl

theorem vsCheck_fuse (s : State) : (vsCheck s).fuse = s.fuse := by
  unfold vsCheck
  split
  · rw [State.raise_fuse]
  · rfl

theorem powerOnReset_eq (b secret code : Nat) (s : State) :
    powerOnReset b secret code s = lossReported (vsCheck ((s.resetFrom 2 b).turnedOver secret code)) := rfl

theorem powerOnReset_checked (b secret code : Nat) (s : State) : Checked (s.resetFrom 2 b) (powerOnReset b secret code s) := by
  have hturned := turnedOver_checked secret code (s.resetFrom 2 b)
  have hvs := vsCheck_checked (s := (s.resetFrom 2 b).turnedOver secret code) rfl
  have hheld : (vsCheck ((s.resetFrom 2 b).turnedOver secret code)).rst.coresHeld = true := by
    obtain ⟨_, _, _, h⟩ := hvs.rest
    rw [h]
    rfl
  exact (hturned.trans hvs).trans (lossReported_checked hheld)

theorem powerOnReset_cleared {b : Nat} (hb : b < 12) (secret code : Nat) (s : State) :
    AllCleared s (powerOnReset b secret code s) b := (powerOnReset_checked ..).cleared (resetFrom_cleared hb s)

theorem powerOnReset_fuse (b secret code : Nat) (s : State) :
    (powerOnReset b secret code s).fuse = { s.fuse with change := none } := by
  rw [powerOnReset_eq, lossReported_fuse, vsCheck_fuse]
  rfl

/-- The secret stays where nothing of it or its check word has turned over. -/
theorem powerOnReset_keepsSecret {b secret code : Nat} (hcode : s.alm.vsCode = 0) (hs : secret % 2 ^ 256 = 0) (hc : code % 2 ^ 32 = 0) :
    (powerOnReset b secret code s).alm.vs = s.alm.vs := by
  have halm : ((s.resetFrom 2 b).turnedOver secret code).alm = s.alm.kept := turned_none (a := s.alm.kept) hcode hs hc
  rw [powerOnReset_eq, lossReported_vs, vsCheck_vs, halm, if_neg fun k => k.2 hcode]
  rfl

/-- The check word has turned over: the secret is zeroised. -/
theorem powerOnReset_zeroises {b secret code : Nat} (hcode : s.alm.vsCode = 0) (hs : secret % 2 ^ 256 = 0) (hc : code % 2 ^ 32 ≠ 0) :
    (powerOnReset b secret code s).alm.vs = none := by
  have halm : ((s.resetFrom 2 b).turnedOver secret code).alm = s.alm.kept.turned secret code := rfl
  rw [powerOnReset_eq, lossReported_vs, vsCheck_vs, halm]
  by_cases hsome : s.alm.vs.isSome = true
  · obtain ⟨hword, hvs⟩ := turned_code (a := s.alm.kept) (code := code) hcode hs hsome
    rw [hvs, hword, if_pos ⟨hsome, hc⟩]
  · have hnone : s.alm.kept.vs = none := Option.not_isSome_iff_eq_none.mp hsome
    rw [turned_absent hnone, hnone]
    rfl

/-- Settles O48: a core reset before the logic is released is absorbed, its source alone being recorded, throughout the time until the
firmware starts (R608), which is the model's reading. -/
theorem resetsClear : Obligations.ResetsClear := by
  intro s
  refine ⟨fun secret code => ?powerOn, fun ns secret code hv => ⟨fun h => ?goodShort, fun h => ?goodLong, fun h => ?pinShort,
    fun h hd => ?pin, fun h hd => ?latched⟩, fun b hb hv => ?system, fun b hb hv hstep => ?core, fun hv hstep => ?hot,
    fun n rest hv hstep hgone hdue => ?msgCore, fun n rest hv hgone hdue => ?msgSystem, fun hnone => ?early,
    fun b hv hstep => ?absorbed, fun hpast => ?fed, fun hv hstep hheld hlast hpast => ?first,
    fun n hv hheld hlast hin hpast => ?second⟩
  case powerOn =>
    exact ⟨_, rfl, powerOnReset_cleared (by decide) .., powerOnReset_fuse .., powerOnReset_keepsSecret, powerOnReset_zeroises⟩
  case goodShort => exact congrArg Host.Outcome.next (if_pos (.inl h))
  case goodLong =>
    have hno : ¬(ns < 1000 ∨ s.pwr.vigil = true) := by rw [hv]; simpa using h
    exact ⟨_, congrArg Host.Outcome.next (if_neg hno), powerOnReset_cleared (by decide) ..⟩
  case pinShort => exact congrArg Host.Outcome.next (if_pos (.inl h))
  case pin =>
    have hno : ¬(ns < 10000 ∨ s.pwr.vigil = true) := by rw [hv]; simpa using h
    have hdark : ¬ s.dark = true := by rw [hd]; decide
    exact ⟨_, congrArg Host.Outcome.next ((if_neg hno).trans (if_neg hdark)), powerOnReset_cleared (by decide) ..,
      fun hcode => powerOnReset_keepsSecret hcode rfl rfl⟩
  case latched =>
    have hno : ¬(ns < 10000 ∨ s.pwr.vigil = true) := by rw [hv]; simpa using h
    exact ⟨_, congrArg Host.Outcome.next ((if_neg hno).trans (if_pos hd)), rfl, rfl, rfl⟩
  case system =>
    exact ⟨_, congrArg Host.Outcome.next (systemReset_eq hv), resetFrom_cleared hb s, rfl, rfl⟩
  case core => exact ⟨_, rfl, coreReset_cleared hv hstep hb⟩
  case hot => exact ⟨_, rfl, coreReset_cleared hv hstep (by decide)⟩
  case msgCore =>
    have hfind : s.rst.resetDue.find? (fun x => s.gone x.2 100000) = some (1, n) := by
      rw [hdue]
      exact List.find?_cons_of_pos hgone
    have hmsg : resetMsg s = coreReset 7 { s with rst := { s.rst with resetDue := rest } } := by
      rw [resetMsg, hfind]
      simp [hdue]
    have hclear := coreReset_cleared (s := { s with rst := { s.rst with resetDue := rest } }) (b := 7) hv hstep (by decide)
    have hrst := coreReset_rst (s := { s with rst := { s.rst with resetDue := rest } }) (b := 7) hv hstep
    exact ⟨_, congrArg Host.Outcome.next hmsg, hclear, by rw [hrst]; rfl⟩
  case msgSystem =>
    have hfind : s.rst.resetDue.find? (fun x => s.gone x.2 100000) = some (2, n) := by
      rw [hdue]
      exact List.find?_cons_of_pos hgone
    have hmsg : resetMsg s = systemReset 8 { s with rst := { s.rst with resetDue := rest } } := by
      rw [resetMsg, hfind]
      simp [hdue]
    exact ⟨_, congrArg Host.Outcome.next (hmsg.trans (systemReset_eq hv)),
      resetFrom_cleared (s := { s with rst := { s.rst with resetDue := rest } }) (by decide), rfl⟩
  case early =>
    have hfind : s.rst.resetDue.find? (fun x => s.gone x.2 100000) = none := by
      rw [List.find?_eq_none]
      intro x hx
      simpa using List.all_eq_true.mp hnone x hx
    refine congrArg Host.Outcome.next ?_
    rw [resetMsg, hfind]
  case absorbed =>
    exact ⟨_, congrArg Host.Outcome.next (coreReset_absorbed hv hstep), rfl, rfl, rfl, rfl, noteCause_bit ..⟩
  case fed =>
    exact congrArg Host.Outcome.next (if_pos (.inr (by rw [hpast]; rfl)))
  case first =>
    have hgo : watchdog s = coreReset 2 { s with rst := { s.rst with lastWdt := some s.time.periods } } := by
      rw [watchdog, if_neg (by rw [hheld, hpast]; decide), hlast]
    have hclear := coreReset_cleared (s := { s with rst := { s.rst with lastWdt := some s.time.periods } }) (b := 2) hv hstep (by decide)
    have hrst := coreReset_rst (s := { s with rst := { s.rst with lastWdt := some s.time.periods } }) (b := 2) hv hstep
    exact ⟨_, congrArg Host.Outcome.next hgo, hclear, by rw [hrst]; rfl⟩
  case second =>
    have hgo : watchdog s = systemReset 3 s := by
      rw [watchdog, if_neg (by rw [hheld, hpast]; decide), hlast]
      exact if_pos hin
    exact ⟨_, congrArg Host.Outcome.next (hgo.trans (systemReset_eq hv)), resetFrom_cleared (by decide) s⟩

end Sys2Proof.Machine
end

section
/-! Flow control at a port, and the blocks that a reset clears: what they leave of the machine (R166, R167, R597). -/

namespace Sys2Proof.Machine

variable {s t u : State}

/-- From `s` to `t` classes at ports went into XOFF or came out of it, and pause frames left (R58, R166, R167). -/
structure FlowMove (s t : State) : Prop where
  rest : ∃ n l w ti cr cl, t = { s with
    dict := { s.dict with nums := n }, lanes := l, wire := s.wire ++ w, time := { s.time with since := ti },
    tm := { s.tm with credit := cr, creditLast := cl } }
  ob : ∀ ix sub, ix < 0x3000 ∨ sub ≠ Sub.tmClient_FC_STATE → sub < 256 → t.ob ix sub = s.ob ix sub

theorem FlowMove.refl (s : State) : FlowMove s s := ⟨⟨_, _, [], _, _, _, by rw [List.append_nil]⟩, fun _ _ _ _ => rfl⟩

theorem FlowMove.trans (h : FlowMove s t) (h' : FlowMove t u) : FlowMove s u where
  rest := by
    obtain ⟨n, l, w, ti, cr, cl, rfl⟩ := h.rest
    obtain ⟨n', l', w', ti', cr', cl', rfl⟩ := h'.rest
    exact ⟨n', l', w ++ w', ti', cr', cl', by simp only [List.append_assoc]⟩
  ob ix sub h1 h2 := (h'.ob ix sub h1 h2).trans (h.ob ix sub h1 h2)

theorem flowMove_foldl {α : Type} {f : State → α → State} (h : ∀ t x, FlowMove t (f t x)) (l : List α) (s : State) :
    FlowMove s (l.foldl f s) := by
  induction l generalizing s with
  | nil => exact .refl s
  | cons x l ih => exact (h s x).trans (ih _)

section Read
variable (h : FlowMove s t)
include h

theorem FlowMove.rst : t.rst = s.rst := by obtain ⟨_, _, _, _, _, _, rfl⟩ := h.rest; rfl
theorem FlowMove.asc : t.asc = s.asc := by obtain ⟨_, _, _, _, _, _, rfl⟩ := h.rest; rfl
theorem FlowMove.acc : t.acc = s.acc := by obtain ⟨_, _, _, _, _, _, rfl⟩ := h.rest; rfl
theorem FlowMove.alm : t.alm = s.alm := by obtain ⟨_, _, _, _, _, _, rfl⟩ := h.rest; rfl
theorem FlowMove.hitch : t.hitch = s.hitch := by obtain ⟨_, _, _, _, _, _, rfl⟩ := h.rest; rfl
theorem FlowMove.fuse : t.fuse = s.fuse := by obtain ⟨_, _, _, _, _, _, rfl⟩ := h.rest; rfl
theorem FlowMove.pwr : t.pwr = s.pwr := by obtain ⟨_, _, _, _, _, _, rfl⟩ := h.rest; rfl
theorem FlowMove.pair : t.pair = s.pair := by obtain ⟨_, _, _, _, _, _, rfl⟩ := h.rest; rfl

end Read

theorem flow_emit (e : Emission) (s : State) : FlowMove s (s.emit e) := ⟨⟨_, _, [e], _, _, _, rfl⟩, fun _ _ _ _ => rfl⟩

theorem flow_lanes (l : Lanes) (s : State) : FlowMove s { s with lanes := l } :=
  ⟨⟨_, _, [], _, _, _, by rw [List.append_nil]⟩, fun _ _ _ _ => rfl⟩

theorem sendOut_flow (m : Nat) (e : Emission) (b : Bytes) (cut : Bool) (s : State) : FlowMove s (sendOut m e b cut s) := by
  unfold sendOut
  split
  · split
    · exact flow_emit ..
    · exact .refl s
    · exact (flow_emit _ s).trans (flow_lanes ..)
  · exact .refl s

theorem chargePacer_flow (sl : Nat) (p : Pipe) (n w : Nat) (s : State) : FlowMove s (s.chargePacer sl p n w) :=
  ⟨⟨_, _, [], _, _, _, by rw [List.append_nil]; rfl⟩, fun _ _ _ _ => rfl⟩

theorem mark_flow (k : Nat) (s : State) : FlowMove s (s.mark k) :=
  ⟨⟨_, _, [], _, _, _, by rw [List.append_nil]; rfl⟩, fun _ _ _ _ => rfl⟩

theorem sendPause_flow (sl : Nat) (p : Pipe) (ip tc quanta : Nat) (s : State) : FlowMove s (sendPause sl p ip tc quanta s) := by
  unfold sendPause
  dsimp only
  split
  · have h := (mark_flow (Timer.pause (8 * ingressPort sl p ip + tc)) s).trans (sendOut_flow (ingressPort sl p ip)
      (.macControl (ingressPort sl p ip) (pauseFrame (s.oct (Ix.port (ingressPort sl p ip)) Sub.port_PAUSE_SA)
        (s.ob (Ix.port (ingressPort sl p ip)) Sub.port_FLOW_CTRL == 2) tc quanta))
      (withFcs (pauseFrame (s.oct (Ix.port (ingressPort sl p ip)) Sub.port_PAUSE_SA)
        (s.ob (Ix.port (ingressPort sl p ip)) Sub.port_FLOW_CTRL == 2) tc quanta)) false _)
    split
    · exact h.trans (chargePacer_flow ..)
    · exact h
  · exact .refl s

/-- A write of what a port holds in XOFF. -/
theorem fcState_flow (sl : Nat) (p : Pipe) (ip v : Nat) (s : State) : FlowMove s (s.put (ingressIx sl p ip) Sub.tmClient_FC_STATE v) where
  rest := ⟨_, _, [], _, _, _, by rw [List.append_nil]; rfl⟩
  ob ix sub h hsub := by
    rw [State.ob_put (by decide) hsub, if_neg]
    rintro ⟨rfl, rfl⟩
    obtain h | h := h
    · cases p <;> simp only [ingressIx, tmLineIx, Ix.tm] at h <;> omega
    · exact h rfl

theorem flowClass_flow (sl : Nat) (p : Pipe) (ip k sc hc : Nat) (s : State) : FlowMove s (flowClass sl p ip k sc hc s) := by
  unfold flowClass
  dsimp only
  split
  · exact .refl s
  · exact ((fcState_flow ..).trans (flow_lanes ..)).trans (sendPause_flow ..)

theorem flowOff_flow (sl : Nat) (p : Pipe) (ip k : Nat) (s : State) : FlowMove s (flowOff sl p ip k s) := by
  unfold flowOff
  dsimp only
  split
  · exact (fcState_flow ..).trans (flow_lanes ..)
  · exact .refl s

theorem flowUpdate_flow (sl : Nat) (p : Pipe) (ip : Nat) (s : State) : FlowMove s (flowUpdate sl p ip s) := by
  refine flowMove_foldl (fun t k => ?_) _ s
  split
  · exact flowClass_flow ..
  · exact flowOff_flow ..

/-! ### A block in reset (R597) -/

/-- From `s` to `t` blocks of the data path were cleared: the frames in them, the levels they framed, and lanes. -/
structure BlockMove (s t : State) : Prop where
  rst : t.rst = s.rst
  asc : t.asc = s.asc
  acc : t.acc = s.acc
  alm : t.alm = s.alm
  fuse : t.fuse = s.fuse
  pwr : t.pwr = s.pwr
  ob : ∀ ix sub, ix < 0x1000 → sub < 256 → t.ob ix sub = s.ob ix sub

theorem BlockMove.refl (s : State) : BlockMove s s := ⟨rfl, rfl, rfl, rfl, rfl, rfl, fun _ _ _ _ => rfl⟩

theorem BlockMove.trans (h : BlockMove s t) (h' : BlockMove t u) : BlockMove s u where
  rst := h'.rst.trans h.rst
  asc := h'.asc.trans h.asc
  acc := h'.acc.trans h.acc
  alm := h'.alm.trans h.alm
  fuse := h'.fuse.trans h.fuse
  pwr := h'.pwr.trans h.pwr
  ob ix sub h1 h2 := (h'.ob ix sub h1 h2).trans (h.ob ix sub h1 h2)

theorem FlowMove.block (h : FlowMove s t) : BlockMove s t :=
  ⟨h.rst, h.asc, h.acc, h.alm, h.fuse, h.pwr, fun ix sub h1 h2 => h.ob ix sub (.inl (by omega)) h2⟩

theorem LanesMove.block (h : LanesMove s t) : BlockMove s t :=
  ⟨h.rst, h.asc, h.acc, h.alm, h.fuse, h.pwr, fun ix sub h1 h2 => h.ob ix sub ⟨.inl h1, by omega⟩ h2⟩

theorem flowUpdates_flow (sl : Nat) (s : State) :
    FlowMove s ((List.range 8).foldl (fun t ip => flowUpdate sl .open ip (flowUpdate sl .seal ip t)) s) :=
  flowMove_foldl (fun t ip => (flowUpdate_flow sl .seal ip t).trans (flowUpdate_flow ..)) _ s

/-- What a slice reset clears, before every class comes to XON (R597). -/
def State.sliceEmptied (sl : Nat) (s : State) : State :=
  { s with
    tm := tmCleared sl s.tm
    hitch := { s.hitch with
      slots := s.hitch.slots.filter (fun x => !(x.1 / 2 ^ 20 == sl && Slot.learned x.2))
      queue := merase s.hitch.queue sl
      sweepPos := merase s.hitch.sweepPos sl
      mgmt := merase s.hitch.mgmt sl
      touched := merase s.hitch.touched sl }
    eng := { s.eng with verify := mdrop (fun k => k / 2 == sl) s.eng.verify
                        egress := mdrop (fun k => k / 2 == sl) s.eng.egress
                        seats := mdrop (fun k => k / 4 == sl) s.eng.seats }
    time := { s.time with fup := mdrop (fun k => k / 2 == sl) s.time.fup }
    lanes := { s.lanes with loop := mdrop (fun m => sliceOfPort m == sl) s.lanes.loop } }

theorem sliceClear_flow (sl : Nat) (s : State) : FlowMove (s.sliceEmptied sl) (sliceClear sl s) := flowUpdates_flow sl _

theorem sliceEmptied_block (sl : Nat) (s : State) : BlockMove s (s.sliceEmptied sl) :=
  ⟨rfl, rfl, rfl, rfl, rfl, rfl, fun _ _ _ _ => rfl⟩

theorem sliceClear_block (sl : Nat) (s : State) : BlockMove s (sliceClear sl s) :=
  (sliceEmptied_block sl s).trans (sliceClear_flow sl s).block

theorem sliceClear_queue (sl : Nat) (s : State) : mget [] (sliceClear sl s).hitch.queue sl = [] := by
  rw [(sliceClear_flow sl s).hitch, State.sliceEmptied, mget, mfind_merase_self]
  rfl

theorem portClear_block (m : Nat) (s : State) : BlockMove s (portClear m s) := ⟨rfl, rfl, rfl, rfl, rfl, rfl, fun _ _ _ _ => rfl⟩

theorem put_block {ix sub : Nat} (h : 0x1000 ≤ ix) (hs : sub < 256) (v : Nat) (s : State) : BlockMove s (s.put ix sub v) :=
  ⟨rfl, rfl, rfl, rfl, rfl, rfl, fun ix' sub' h1 h2 => by rw [State.ob_put hs h2, if_neg (by omega)]⟩

theorem blockMove_foldl {α : Type} {f : State → α → State} (h : ∀ t x, BlockMove t (f t x)) (l : List α) (s : State) :
    BlockMove s (l.foldl f s) := by
  induction l generalizing s with
  | nil => exact .refl s
  | cons x l ih => exact (h s x).trans (ih _)

theorem otn_block (o : Otn) (s : State) : BlockMove s { s with otn := o } := ⟨rfl, rfl, rfl, rfl, rfl, rfl, fun _ _ _ _ => rfl⟩

theorem le_otnIx (sl o : Nat) : 0x1000 ≤ Ix.otn sl o := by simp only [Ix.otn]; omega

theorem otnClear_block (sl : Nat) (s : State) : BlockMove s (otnClear sl s) :=
  ((otn_block _ s).trans (put_block (sub := Sub.otn_DEFECTS) (le_otnIx sl 0) (by decide) 0 _)).trans
    (blockMove_foldl (fun t k => (put_block (sub := Sub.trib_DEFECTS) (le_otnIx sl _) (by decide) 0 t).trans
      (put_block (sub := Sub.sodu_RX_STATE) (le_otnIx sl _) (by decide) 0 _)) _ _)

theorem blockClear_block (kind i : Nat) (s : State) : BlockMove s (blockClear kind i s) := by
  unfold blockClear
  split_ifs
  · exact sliceClear_block ..
  · exact portClear_block ..
  · exact portClear_block ..
  · exact otnClear_block ..

end Sys2Proof.Machine
end

section
/-! Block resets, the activation of a staged image, and the record of what reset the device (R593, R596, R597, R604, R606, R607). -/

namespace Sys2Proof.Machine

variable {s t u : State} {c : Caller}

/-! ### What has left the block stays out (log 2) -/

/-- From `s` to `t` more may have left the block. -/
def Grows (s t : State) : Prop := ∃ w, t.wire = s.wire ++ w

theorem Grows.of_eq (h : t.wire = s.wire) : Grows s t := ⟨[], by rw [h, List.append_nil]⟩

theorem Grows.trans (h : Grows s t) (h' : Grows t u) : Grows s u := by
  obtain ⟨w, h⟩ := h
  obtain ⟨w', h'⟩ := h'
  exact ⟨w ++ w', by rw [h', h, List.append_assoc]⟩

theorem Grows.mem {e : Emission} (h : Grows s t) (he : e ∈ s.wire) : e ∈ t.wire := by
  obtain ⟨w, h⟩ := h
  rw [h]
  exact List.mem_append_left _ he

theorem grows_foldl {α : Type} {f : State → α → State} (h : ∀ t x, Grows t (f t x)) (l : List α) (s : State) : Grows s (l.foldl f s) := by
  induction l generalizing s with
  | nil => exact .of_eq rfl
  | cons x l ih => exact (h s x).trans (ih _)

/-- A fold whose every turn keeps the wire keeps it. -/
theorem wire_foldl {α : Type} {f : State → α → State} (h : ∀ t x, (f t x).wire = t.wire) (l : List α) (s : State) :
    (l.foldl f s).wire = s.wire :=
  List.foldlRecOn (motive := fun t => t.wire = s.wire) l f rfl fun u hu x _ => (h u x).trans hu

theorem drawRequest_wire (who : EntWho) (len : Nat) (s : State) : (drawRequest who len s).2.wire = s.wire := by
  unfold drawRequest takeQueue
  split_ifs
  · rfl
  · rfl
  · obtain ⟨q, k, v, l, b, h⟩ := drbgFill_keeps (s.putEnt { s.ke.ent with queue := s.ke.ent.queue.drop len, mark := s.ke.ent.mark - len })
    dsimp only
    rw [h]
    rfl
  · rfl

theorem pkeStart_wire (s : State) : (pkeStart s).1.wire = s.wire := by
  unfold pkeStart
  split
  · rfl
  split
  · rfl
  next t _ _ _ =>
    have h := drawRequest_wire .pke t.op.draws s
    split <;> rename_i hd <;> rw [hd] at h <;> exact h

theorem finish_grows (who ix sub : Nat) (st : Status) (s : State) : Grows s (s.finish who ix sub st) := by
  unfold State.finish
  dsimp only
  split_ifs <;> exact ⟨[_], rfl⟩

theorem pkeDeny_grows (st : Status) (w : PkeWho) (s : State) : Grows s (pkeDeny st w s) := by
  cases w with
  | quote | migrate | ticket | knot | hand => exact .of_eq rfl
  | cert => exact finish_grows ..

theorem windowsGo_grows (n : Nat) (s : State) : Grows s (windowsGo n s) := by
  induction n generalizing s with
  | zero => exact .of_eq rfl
  | succ n ih =>
    have h := pkeStart_wire s
    simp only [windowsGo]
    split <;> rename_i hp <;> rw [hp] at h
    · exact (Grows.of_eq h).trans ((pkeDeny_grows ..).trans (ih _))
    · exact .of_eq h

theorem windowsGo_from {n : Nat} (h : t.wire = s.wire) : Grows s (windowsGo n t) := (Grows.of_eq h).trans (windowsGo_grows ..)

theorem setKnotState_wire (place v : Nat) (s : State) : (setKnotState place v s).wire = s.wire := by
  obtain ⟨n, h⟩ := setKnotState_keeps place v s
  rw [h]

theorem knotAbandon_grows (windows : Bool) (s : State) : Grows s (knotAbandon windows s) := by
  have hfold : (s.ke.knot.foldl (fun t x => setKnotState x.2.place 0 t) s).wire = s.wire :=
    wire_foldl (fun t x => setKnotState_wire ..) ..
  unfold knotAbandon
  dsimp only
  split
  · exact .of_eq hfold
  · exact windowsGo_from hfold

theorem abortJobs_wire (st : Status) (s : State) : (abortJobs st s).wire = s.wire := by
  refine wire_foldl (fun t j => ?_) _ _
  dsimp only
  split_ifs <;> rfl

theorem migrateEnds_wire (s : State) : (migrateEnds s).wire = s.wire := by
  refine wire_foldl (fun t x => ?_) _ _
  split
  · next level manifest _ =>
    show (migrateVerified level manifest t).1.wire = t.wire
    unfold migrateVerified migrate
    split_ifs
    · rfl
    · rfl
    · rfl
    · split
      · rw [State.raise_wire]
        rfl
      · rfl
  · rfl

theorem blockDrop_wire (s : State) : (blockDrop s).wire = s.wire := by
  unfold blockDrop
  split <;> rfl

theorem endClaim_wire (ix : Nat) (s : State) : (endClaim ix s).wire = s.wire := by
  unfold endClaim claimEnded
  split <;> rfl

theorem ephRelease_wire (s : State) : (ephRelease s).wire = s.wire := by
  obtain ⟨_, _, _, _, h⟩ := (ephRelease_fewer s).rest
  rw [h]

theorem closeAll_wire (which : Sess → Bool) (cause : Nat) (s : State) : (closeAll which cause s).wire = s.wire := by
  refine wire_foldl (fun t k => ?_) _ _
  split
  · unfold closeSess
    dsimp only
    split_ifs
    · exact ephRelease_wire _
    · rfl
    · rw [State.raise_wire, ephRelease_wire]
      exact wire_foldl (fun u ix => endClaim_wire ix u) _ _
    · rfl
  · rfl

theorem coreEnded_grows (s : State) : Grows s s.coreEnded := by
  have hstop : s.coresStopped.wire = s.wire := rfl
  have habort : Grows s (abortJobs .denied (migrateEnds (blockDrop (closeAll (·.alive) 4 s.coresStopped)))) :=
    .of_eq (by rw [abortJobs_wire, migrateEnds_wire, blockDrop_wire, closeAll_wire, hstop])
  have hdrop (u : State) : (dropWaiting EntWho.core u).wire = u.wire := rfl
  exact (habort.trans (knotAbandon_grows true _)).trans (.of_eq (hdrop _))

theorem coreClear_wire (s : State) : (coreClear s).wire = s.coreEnded.wire := by
  have hmk (u : State) (k : KeyEst) (a : Access) (d : Dict) : ({ u with ke := k, acc := a, dict := d } : State).wire = u.wire := rfl
  exact hmk s.coreEnded _ _ _

/-- A core reset takes nothing back that has left the block. -/
theorem coreReset_grows (b : Nat) (s : State) : Grows s (coreReset b s) := by
  have hnoted : (s.coreNoted b).wire = s.wire := rfl
  have hmark (u : State) : (u.mark Timer.core).wire = u.wire := rfl
  unfold coreReset
  split_ifs
  · exact .of_eq rfl
  · exact .of_eq rfl
  · exact (Grows.of_eq hnoted).trans ((coreEnded_grows _).trans (.of_eq (by rw [hmark, coreClear_wire]; rfl)))

/-! ### BLK_RESET and its end (R596, R597) -/

/-- BLK_RESET has been written. -/
def State.blkStarted (s : State) : State := s.put blkIx Sub.blkWin_BLK_OP 1

theorem blkStarted_ob {ix sub : Nat} (h : ix ≠ blkIx) (hsub : sub < 256) (s : State) : s.blkStarted.ob ix sub = s.ob ix sub :=
  State.ob_put_ne fun k => h (okey_inj hsub (by decide) k).1

theorem blkStarted_sliceOn (i : Nat) (s : State) : s.blkStarted.sliceOn i = s.sliceOn i := by
  unfold State.sliceOn
  rw [blkStarted_ob (by decide) (by decide)]

theorem blkStarted_here (kind i : Nat) (s : State) : s.blkStarted.blockHere kind i = s.blockHere kind i := by
  unfold State.blockHere
  rw [blkStarted_sliceOn, blkStarted_sliceOn]

theorem ne_blkIx {ix : Nat} (h : 0x1000 ≤ ix) : ix ≠ blkIx := by simp only [blkIx]; omega

theorem blkStarted_portOn (m : Nat) (s : State) : s.blkStarted.portOn m = s.portOn m := by
  have h : s.blkStarted.ob (Ix.port m) Sub.port_ENABLE = s.ob (Ix.port m) Sub.port_ENABLE :=
    blkStarted_ob (ne_blkIx (by simp only [Ix.port]; omega)) (by decide) s
  unfold State.portOn State.obB
  rw [h]

theorem blkStarted_tribOn (sl o : Nat) (s : State) :
    s.blkStarted.obB (Ix.otn sl o) Sub.trib_TRIB_ENABLE = s.obB (Ix.otn sl o) Sub.trib_TRIB_ENABLE := by
  unfold State.obB
  rw [blkStarted_ob (ne_blkIx (le_otnIx sl o)) (by decide)]

theorem blkStarted_idle (kind i : Nat) (s : State) : s.blkStarted.blockIdle kind i = s.blockIdle kind i := by
  have hframe (m : Nat) : s.blkStarted.laneFrame m = s.laneFrame m := rfl
  simp only [State.blockIdle, State.sliceInUse, tribIx, blkStarted_portOn, blkStarted_tribOn, hframe]
  rfl

/-- The machine whose block is held in reset. -/
def State.blockTaken (kind i : Nat) (s : State) : State :=
  { s.blkStarted with rst := { s.rst with blocks := s.rst.blocks ++ [kind * 256 + i] } }

section BlkReset
variable {kind i : Nat} (hkind : s.ob blkIx Sub.blkWin_BLK_KIND = kind) (hi : s.ob blkIx Sub.blkWin_BLK_INDEX = i)
include hkind hi

theorem blkReset_eq : blkReset s.blkStarted = if !s.blockHere kind i then (s.blkStarted, some .range)
    else if !s.blockIdle kind i then (s.blkStarted, some .notIdle)
    else ((blockClear kind i (s.blockTaken kind i)).settleLanes, none) := by
  have hkind' : s.blkStarted.ob blkIx Sub.blkWin_BLK_KIND = kind := (State.ob_put_ne (by decide)).trans hkind
  have hi' : s.blkStarted.ob blkIx Sub.blkWin_BLK_INDEX = i := (State.ob_put_ne (by decide)).trans hi
  unfold blkReset
  rw [hkind', hi']
  dsimp only
  rw [blkStarted_here, blkStarted_idle]
  rfl

end BlkReset

theorem blockCleared_block (kind i : Nat) (s : State) :
    BlockMove (s.blockTaken kind i) (blockClear kind i (s.blockTaken kind i)).settleLanes :=
  (blockClear_block ..).trans (settleLanes_move _).block

theorem blockCleared_held (kind i : Nat) (s : State) :
    (blockClear kind i (s.blockTaken kind i)).settleLanes.blockHeld kind i = true := by
  rw [State.blockHeld, (blockCleared_block kind i s).rst]
  simp [State.blockTaken]

theorem LanesMove.hitch (h : LanesMove s t) : t.hitch = s.hitch := by
  obtain ⟨_, _, _, _, _, _, _, rfl⟩ := h.rest
  rfl

theorem blockClear_slice (i : Nat) (s : State) : blockClear 0 i s = sliceClear i s := if_pos rfl

theorem blockCleared_queue (i : Nat) (s : State) :
    mget [] (blockClear 0 i (s.blockTaken 0 i)).settleLanes.hitch.queue i = [] := by
  rw [(settleLanes_move _).hitch, blockClear_slice, sliceClear_queue]

/-- What BLK_RESET has done when its period ends. -/
theorem RunningFrom.blockTaken {kind i op st : Nat}
    (h : RunningFrom (blockClear kind i (s.blockTaken kind i)).settleLanes c blkIx op st t) :
    t.blockHeld kind i = true ∧ t.asc = s.asc ∧ (kind = 0 → mget [] t.hitch.queue i = []) ∧ Ends t c blkIx op st .busy := by
  obtain ⟨d, a, w, hu⟩ := h.rest
  have hrst : t.rst = (blockClear kind i (s.blockTaken kind i)).settleLanes.rst := by rw [hu]
  have hasc : t.asc = (blockClear kind i (s.blockTaken kind i)).settleLanes.asc := by rw [hu]
  have hhitch : t.hitch = (blockClear kind i (s.blockTaken kind i)).settleLanes.hitch := by rw [hu]
  refine ⟨?_, hasc.trans (blockCleared_block kind i s).asc, ?_, h.ends⟩
  · rw [State.blockHeld, hrst]
    exact blockCleared_held kind i s
  · rintro rfl
    rw [hhitch]
    exact blockCleared_queue i s

/-- The block's release waits for its clock, or not. -/
theorem deferRelease_still (dom i : Nat) (s : State) :
    (deferRelease dom i s).rst.blocks = s.rst.blocks := by
  unfold deferRelease
  split_ifs
  · rfl
  · rw [State.raise_rst]
    rfl

/-- The block is out of reset, its release deferred where its clock is lost. -/
def State.blockReleased (kind i : Nat) (s : State) : State :=
  let s := { s with rst := { s.rst with blocks := s.rst.blocks.filter (· != kind * 256 + i) } }
  let c := blockClock kind i
  if s.rst.clockOff.contains (c.1 * 256 + c.2) then deferRelease c.1 c.2 s else s

theorem blockReleased_held (kind i : Nat) (s : State) : (s.blockReleased kind i).blockHeld kind i = false := by
  have hblocks : (s.blockReleased kind i).rst.blocks = s.rst.blocks.filter (· != kind * 256 + i) := by
    unfold State.blockReleased
    dsimp only
    split_ifs
    · exact deferRelease_still ..
    · rfl
  rw [State.blockHeld, hblocks]
  simp

theorem blkDone_eq {kind i : Nat} (h : s.blockHeld kind i = true) : blkDone kind i s =
    ((s.blockReleased kind i).winEnd blkIx Sub.blkWin_BLK_STATUS .ok).settleLanes.raise 0x0F03 0xFF (be 1 kind ++ be 1 i) := by
  unfold blkDone
  rw [if_pos h]
  rfl

theorem blkDone_ends {kind i : Nat} (h : s.blockHeld kind i = true) :
    (blkDone kind i s).blockHeld kind i = false ∧ (blkDone kind i s).ob blkIx Sub.blkWin_BLK_STATUS = Status.ok.code ∧
    (blkDone kind i s).winBusy blkIx Sub.blkWin_BLK_STATUS = false := by
  have hlanes := settleLanes_move ((s.blockReleased kind i).winEnd blkIx Sub.blkWin_BLK_STATUS .ok)
  rw [blkDone_eq h]
  refine ⟨?_, ?_, ?_⟩
  · rw [State.blockHeld, State.raise_rst, hlanes.rst]
    exact blockReleased_held kind i s
  · rw [State.ob_raise (by decide) (by decide), hlanes.ob _ _ (by unfold OffLanes; decide) (by decide)]
    exact State.ob_put_self ..
  · have hrun (u : State) (code slice : Nat) (items : Bytes) : (u.raise code slice items).acc.running = u.acc.running :=
      congrArg Prod.snd (due_raise code slice items u)
    rw [State.winBusy, hrun, hlanes.acc]
    exact winEnd_idle ..

/-! ### FW_ACTIVATE, FW_COMMIT and RESET_CAUSE_CLR (R604, R606, R607) -/

/-- What a write of FW_ACTIVATE leaves of the boot record, where the staged image carries no manifest. -/
theorem fwActivate_plain (hstaged : s.rst.staged ≠ 0xFF) (hplain : (s.slotAt' s.rst.staged).manifest = []) :
    fwActivate 1 s = (writeRecord s.rst.active s.rst.staged (s.ob fwIx Sub.fwWdt_FW_TRIES) 0xFF s, .ok) := by
  have hmigrate : migrateStaged s = (s, .ok) := by
    unfold migrateStaged
    exact if_pos hplain
  unfold fwActivate
  rw [if_neg (by decide), if_neg hstaged, hmigrate]

theorem rowActivate_ok (h : Accepted s c fwIx Sub.fwWdt_FW_ACTIVATE 1) (ha : fwActivate 1 s = (t, .ok)) :
    rowActivate c 1 s = coreReset 10 ((t.noteCycle c [okey fwIx Sub.fwWdt_FW_ACTIVATE]).complete c fwIx Sub.fwWdt_FW_ACTIVATE .ok) := by
  unfold rowActivate
  rw [orWait_acts h.1]
  dsimp only
  rw [objectWrite_ok h.2, ha, if_pos ⟨rfl, rfl⟩, if_pos rfl]

theorem rowActivate_range (h : Accepted s c fwIx Sub.fwWdt_FW_ACTIVATE 1) (hstaged : s.rst.staged = 0xFF) :
    rowActivate c 1 s = s.refusing c fwIx Sub.fwWdt_FW_ACTIVATE .range := by
  have ha : fwActivate 1 s = (s, .range) := by
    unfold fwActivate
    rw [if_neg (by decide), if_pos hstaged]
  unfold rowActivate
  rw [orWait_acts h.1]
  dsimp only
  rw [objectWrite_ok h.2, ha]
  rfl

theorem fwCommit_commits (htry : s.rst.try_ ≠ 0xFF) (hslot : s.ob rstIx Sub.rstBoot_BOOT_SLOT = s.rst.try_) :
    fwCommit 1 s = (((writeRecord s.rst.try_ 0xFF s.rst.tries s.rst.staged s).put fwIx Sub.fwWdt_FW_COMMIT 1).raise 0x0F05 0xFF
      (be 1 s.rst.try_), .ok) := by
  unfold fwCommit
  dsimp only
  rw [if_pos ⟨rfl, htry, hslot⟩, hslot]

/-- Bits 11 to 0 of a number are cleared, and nothing above them. -/
theorem setBits_cleared (n : Nat) : bits (setBits n 11 0 0) 11 0 = 0 ∧ setBits n 11 0 0 / 2 ^ 12 = n / 2 ^ 12 := by
  simp only [bits, setBits]
  omega

/-- Settles O50. -/
theorem blocksAndActivation : Obligations.BlocksAndActivation := by
  intro s c
  refine ⟨fun kind i hst hkind hi => ⟨fun hhere hidle => ?_, fun hhere hidle => ?_, fun hhere => ?_⟩, fun kind i h => ?_,
    fun h hstaged hplain hvigil hstep => ?_, fun h hstaged => ?_, fun h htry hslot => ?_, fun h => ?_⟩
  · have hact : blkReset s.blkStarted = ((blockClear kind i (s.blockTaken kind i)).settleLanes, none) := by
      rw [blkReset_eq hkind hi, hhere, hidle]
      rfl
    have hclear := blockCleared_block kind i s
    have hpost := rowWindowStart_running (act := blkReset) hst hact (congrArg Access.posts hclear.acc)
    exact ⟨rowWindowStart c blkIx Sub.blkWin_BLK_OP Sub.blkWin_BLK_STATUS 1 blkReset s, rfl, hpost.blockTaken⟩
  · have hact : blkReset s.blkStarted = (s.blkStarted, some .notIdle) := by
      rw [blkReset_eq hkind hi, hhere, hidle]
      rfl
    have hpost := rowWindowStart_posts hst hact (due_put ..)
    exact ⟨_, rfl, hpost.rst, hpost.ends⟩
  · have hact : blkReset s.blkStarted = (s.blkStarted, some .range) := by
      rw [blkReset_eq hkind hi, hhere]
      rfl
    have hpost := rowWindowStart_posts hst hact (due_put ..)
    exact ⟨_, rfl, hpost.rst, hpost.ends⟩
  · exact ⟨_, rfl, blkDone_ends h⟩
  · have ha := rowActivate_ok h (fwActivate_plain hstaged hplain)
    obtain ⟨_, hreports, a, hu⟩ := written_complete
      (writeRecord s.rst.active s.rst.staged (s.ob fwIx Sub.fwWdt_FW_TRIES) 0xFF s) c fwIx Sub.fwWdt_FW_ACTIVATE .ok
      [okey fwIx Sub.fwWdt_FW_ACTIVATE]
    generalize (State.noteCycle c [okey fwIx Sub.fwWdt_FW_ACTIVATE] _).complete c fwIx Sub.fwWdt_FW_ACTIVATE .ok = u at *
    have hvigil' : u.pwr.vigil = false := by
      rw [hu]
      exact hvigil
    have hrst : u.rst = (writeRecord s.rst.active s.rst.staged (s.ob fwIx Sub.fwWdt_FW_TRIES) 0xFF s).rst := by rw [hu]
    have hstep' : u.rst.step = 5 := by
      rw [hrst]
      exact hstep
    have hreset := coreReset_rst (b := 10) hvigil' hstep'
    refine ⟨_, congrArg Host.Outcome.next ha, ?_, ?_, ?_, ?_, ?_, coreReset_cause (b := 10) hvigil' hstep',
      (coreReset_grows 10 u).mem (List.mem_of_getLast? hreports)⟩ <;> rw [hreset, State.coresStopped, hrst] <;> rfl
  · exact congrArg Host.Outcome.next (rowActivate_range h hstaged)
  · have ha := rowWrite_written h (fwCommit_commits htry hslot)
    refine ⟨rowWrite c fwIx Sub.fwWdt_FW_COMMIT (.num 1) (fwCommit 1) s, rfl, ?_, ?_, ?_, ha.reports⟩
    · rw [ha.rst, State.raise_rst]
      rfl
    · rw [ha.rst, State.raise_rst]
      rfl
    · rw [ha.ob, State.ob_raise (by decide) (by decide), State.ob_put_self]
  · have ha := rowWrite_written (act := causeClear 1) h (u := s.put rstIx Sub.rstBoot_RESET_CAUSE
      (setBits (s.ob rstIx Sub.rstBoot_RESET_CAUSE) 11 0 0)) rfl
    refine ⟨rowWrite c rstIx Sub.rstBoot_RESET_CAUSE_CLR (.num 1) (causeClear 1) s, rfl, ?_, ?_, ha.reports⟩
    · rw [ha.ob, State.ob_put_self]
      exact (setBits_cleared _).1
    · rw [ha.ob, State.ob_put_self]
      exact (setBits_cleared _).2

end Sys2Proof.Machine
end

section
/-! What the power-up order and the boot ROM read: it stays as chapters beside them act (R593, R594, R599 to R604). -/

namespace Sys2Proof.Machine

variable {s t u : State}

/-- An object of the reset logic, of DDR training or of the power states. -/
def BootObject (ix sub : Nat) : Prop := ix = 0x0400 ∨ ix = rstIx ∨ (ix = 0x4A01 ∧ sub < 5)

/-- From `s` to `t` chapters beside the reset logic acted. -/
structure Beside (s t : State) : Prop where
  rst : t.rst = s.rst
  asc : t.asc = s.asc
  guard : t.guard = s.guard
  fuse : t.fuse = s.fuse
  vigil : t.pwr.vigil = s.pwr.vigil
  ob : ∀ ix sub, BootObject ix sub → sub < 256 → t.ob ix sub = s.ob ix sub
  meas : t.oct vaultIx Sub.vault_MEAS = s.oct vaultIx Sub.vault_MEAS

theorem Beside.refl (s : State) : Beside s s := ⟨rfl, rfl, rfl, rfl, rfl, fun _ _ _ _ => rfl, rfl⟩

theorem Beside.trans (h : Beside s t) (h' : Beside t u) : Beside s u where
  rst := h'.rst.trans h.rst
  asc := h'.asc.trans h.asc
  guard := h'.guard.trans h.guard
  fuse := h'.fuse.trans h.fuse
  vigil := h'.vigil.trans h.vigil
  ob ix sub h1 h2 := (h'.ob ix sub h1 h2).trans (h.ob ix sub h1 h2)
  meas := h'.meas.trans h.meas

theorem Beside.foldl {α : Type} {f : State → α → State} {l : List α} (h : ∀ t, ∀ x ∈ l, Beside t (f t x)) (s : State) :
    Beside s (l.foldl f s) := by
  induction l generalizing s with
  | nil => exact .refl s
  | cons x l ih =>
    exact (h s x (List.mem_cons_self ..)).trans (ih (fun t y hy => h t y (List.mem_cons_of_mem _ hy)) _)

/-- A chapter that writes no object. -/
theorem Beside.of_dict (hrst : t.rst = s.rst) (hasc : t.asc = s.asc) (hguard : t.guard = s.guard) (hfuse : t.fuse = s.fuse)
    (hpwr : t.pwr = s.pwr) (hdict : t.dict = s.dict) : Beside s t :=
  ⟨hrst, hasc, hguard, hfuse, congrArg _ hpwr, fun ix sub _ _ => by
    simp only [State.ob, hdict, hfuse], by simp only [State.oct, hdict, hfuse]⟩

theorem put_beside {ix sub : Nat} (h : ¬BootObject ix sub) (hsub : sub < 256) (v : Nat) (s : State) : Beside s (s.put ix sub v) :=
  ⟨rfl, rfl, rfl, rfl, rfl, fun ix' sub' h1 h2 => by
    rw [State.ob_put hsub h2, if_neg]
    rintro ⟨rfl, rfl⟩
    exact h h1, rfl⟩

theorem putO_beside {ix sub : Nat} (h : okey vaultIx Sub.vault_MEAS ≠ okey ix sub) (b : Bytes) (s : State) : Beside s (s.putO ix sub b) :=
  ⟨rfl, rfl, rfl, rfl, rfl, fun _ _ _ _ => rfl, State.oct_putO_ne h⟩

theorem BootObject.not_log {ix sub : Nat} (h : BootObject ix sub) : ix ≠ 0x0300 := by
  unfold BootObject rstIx at h
  omega

theorem raise_beside (code slice : Nat) (items : Bytes) (s : State) : Beside s (s.raise code slice items) :=
  ⟨by simp, by simp, by simp, by simp, by simp, fun _ _ h1 h2 => State.ob_raise h2 h1.not_log, by simp⟩

theorem raiseAt_beside (ns code slice : Nat) (items : Bytes) (s : State) : Beside s (s.raiseAt ns code slice items) := by
  obtain ⟨d, a, hat⟩ := raiseAt_only ns code slice items s
  exact ⟨by rw [hat], by rw [hat], by rw [hat], by rw [hat], by rw [hat], fun _ _ h1 h2 => State.ob_raiseAt h2 h1.not_log,
    (raiseAt_same ns code slice items s).2 ..⟩

theorem alarm_beside (src detail : Nat) (s : State) : Beside s (s.alarm src detail) := by
  refine ⟨alarm_rst .., alarm_asc .., alarm_guard .., alarm_fuse .., alarm_vigil .., fun _ _ h1 h2 => alarm_ob h2 ?_ .., alarm_oct ..⟩
  unfold BootObject rstIx at h1
  omega

theorem LanesMove.beside (h : LanesMove s t) : Beside s t := by
  refine ⟨h.rst, h.asc, h.guard, h.fuse, congrArg _ h.pwr, fun ix sub h1 h2 => h.ob ix sub ?_ h2, ?_⟩
  · unfold BootObject rstIx at h1
    unfold OffLanes
    omega
  · obtain ⟨_, _, _, _, _, _, _, rfl⟩ := h.rest
    rfl

theorem FlowMove.beside (h : FlowMove s t) : Beside s t := by
  obtain ⟨_, _, _, _, _, _, ht⟩ := h.rest
  refine ⟨h.rst, h.asc, by rw [ht], h.fuse, congrArg _ h.pwr, fun ix sub h1 h2 => h.ob ix sub ?_ h2, by rw [ht]; rfl⟩
  unfold BootObject rstIx at h1
  unfold Sub.tmClient_FC_STATE
  omega

theorem Beside.watched (h : Beside s t) (src : Nat) : t.watched src = s.watched src := by
  have hstate : t.watchState = s.watchState := by
    unfold State.watchState
    rw [h.vigil, h.ob 0x0400 Sub.power_PWR_STATE (.inl rfl) (by decide)]
  unfold State.watched
  rw [hstate, h.fuse]

/-! ### A pair's state, the Tether and the KEK slots -/

theorem takeFree_beside (s : State) : Beside s s.takeFree.2 := .of_dict rfl rfl rfl rfl rfl rfl

theorem pair_beside (p : Understudy) (s : State) : Beside s { s with pair := p } := .of_dict rfl rfl rfl rfl rfl rfl

theorem pairStateTaken_beside (v : Nat) (s : State) : Beside s (s.pairStateTaken v) :=
  ((takeFree_beside s).trans (put_beside (by unfold BootObject rstIx; decide) (by decide) v _)).trans (raise_beside ..)

/-- `PAIR_STATE` changes to REFUSED, which raises an alarm (R437, R441). -/
theorem setPairState_refused (s : State) : setPairState 6 s = s ∨ ∃ w, setPairState 6 s =
    { (s.pairStateTaken 6).alarm 0x31 0 with pair := { ((s.pairStateTaken 6).alarm 0x31 0).pair with wtr := w } } := by
  unfold setPairState
  dsimp only
  split
  · exact .inl rfl
  · refine .inr ?_
    rw [if_pos rfl, if_neg (fun h => absurd h.1 (by decide))]
    split_ifs
    · exact ⟨_, rfl⟩
    · exact ⟨((s.pairStateTaken 6).alarm 0x31 0).pair.wtr, rfl⟩

theorem setPairState_beside (v : Nat) (s : State) : Beside s (setPairState v s) := by
  by_cases hv : v = 6
  · subst hv
    obtain h | ⟨w, h⟩ := setPairState_refused s <;> rw [h]
    · exact .refl s
    · exact ((pairStateTaken_beside 6 s).trans (alarm_beside ..)).trans (pair_beside ..)
  · obtain h | ⟨w, h⟩ := setPairState_cases hv s <;> rw [h]
    · exact .refl s
    · exact (pairStateTaken_beside v s).trans (pair_beside ..)

theorem cutCmd_beside (s : State) : Beside s (cutCmd s) := by
  unfold cutCmd
  split
  · split
    · exact (pair_beside _ s).trans (put_beside (by unfold BootObject rstIx; decide) (by decide) _ _)
    · exact .refl s
  · exact .refl s

theorem tetherCut_beside (s : State) : Beside s (tetherCut s) := by
  have h : Beside s (cutCmd (s.alarm 0x30 0)) := (alarm_beside ..).trans (cutCmd_beside _)
  unfold tetherCut
  dsimp only
  split_ifs
  · exact h
  · exact h.trans (setPairState_beside ..)
  · exact .refl s

theorem lane_put_beside {ix : Nat} (h : 0x1000 ≤ ix ∧ ix < 0x1100) (v : Nat) (s : State) :
    Beside s (s.put ix Sub.sLane_CG_ALIGNED v) := by
  refine put_beside ?_ (by decide) v s
  unfold BootObject rstIx
  omega

theorem tetherDown_beside (s : State) : Beside s (tetherDown s) := by
  have h : Beside s ((List.range 4).foldl (fun (t : State) n => t.put (0x1080 + n) Sub.sLane_CG_ALIGNED 0) s) :=
    .foldl (fun t n hn => lane_put_beside (by rw [List.mem_range] at hn; omega) 0 t) s
  unfold tetherDown
  dsimp only
  split
  · exact h.trans (tetherCut_beside _)
  · exact h

theorem linkEvent_beside (code : Nat) (items : Bytes) (s : State) : Beside s (linkEvent code items s) := by
  have h := raise_beside code 0xFF items s
  unfold linkEvent
  dsimp only
  split
  · exact h.trans (.of_dict rfl rfl rfl rfl rfl rfl)
  · exact h

theorem halDown_beside {k : Nat} (hk : k < 0x100) (s : State) : Beside s (halDown k s) := by
  unfold halDown
  split
  · exact (lane_put_beside (by simp only [Ix.lane]; omega) 0 s).trans (linkEvent_beside ..)
  · exact .refl s

theorem syncTest_beside (s : State) : Beside s (syncTest s) := by
  unfold syncTest
  split_ifs
  · exact .refl s
  · exact setPairState_beside ..
  · exact setPairState_beside ..
  · exact setPairState_beside ..
  · exact .refl s

theorem putKek_beside (n : Nat) (k : KekSlot) (s : State) : Beside s (s.putKek n k) := .of_dict rfl rfl rfl rfl rfl rfl

theorem clearKek_beside (n : Nat) (s : State) : Beside s (clearKek n s) := (putKek_beside ..).trans (syncTest_beside _)

theorem deriveSlot0_beside (s : State) : Beside s (deriveSlot0 s) := by
  have h := clearKek_beside 0 s
  unfold deriveSlot0
  dsimp only
  split
  · split
    · exact h.trans (putKek_beside ..)
    · exact h
  · exact h

theorem endorse_beside (r : Nat) (s : State) : Beside s (s.endorse r) := putO_beside (by decide) _ s

theorem reloadCaks_beside (area : Nat) (s : State) : Beside s (reloadCaks area s) := by
  refine Beside.foldl (fun t c _ => ?_) s
  unfold reloadCak
  split
  · exact .refl t
  split
  · split
    · exact .of_dict rfl rfl rfl rfl rfl rfl
    · exact .refl t
  · exact .refl t

/-! ### Crypto pipes start, and blocks are released (R214, R593) -/

section Pipe
variable {sl : Nat} {p : Pipe} (hsl : sl < 4)
include hsl

theorem pipe_put_beside {sub : Nat} (hsub : sub < 256) (v : Nat) (s : State) : Beside s (s.put (pipeIx sl p) sub v) := by
  refine put_beside ?_ hsub v s
  have hcode : p.code ≤ 1 := by cases p <;> decide
  unfold BootObject rstIx
  simp only [pipeIx, Ix.pipe]
  omega

theorem setRoles_beside (r : List Nat) (s : State) : Beside s (s.setRoles sl p r) :=
  (putO_beside (fun h => absurd (okey_inj (by decide) (by decide) h).2 (by decide)) _ s).trans (pipe_put_beside hsl (by decide) _ _)

theorem startPipe_beside (mask : Nat) (s : State) : Beside s (startPipe sl p mask s) := by
  have hcheck (c : Option CoreCheck) (u : State) : Beside u (u.putCheck sl p c) := .of_dict rfl rfl rfl rfl rfl rfl
  have hqueue (l : List Nat) (u : State) : Beside u (u.putQueue' sl p l) := .of_dict rfl rfl rfl rfl rfl rfl
  have hstate (v : Nat) (u : State) : Beside u (u.setPipe sl p v) := pipe_put_beside hsl (by decide) v u
  have hstop (pos at_ : Nat) (u : State) : Beside u (stopPipe sl p pos at_ u) :=
    ((((hstate ..).trans (hcheck ..)).trans (hqueue ..)).trans (raiseAt_beside ..)).trans (alarm_beside ..)
  have hempty : Beside s ((s.putCheck sl p none).putQueue' sl p []) := (hcheck none s).trans (hqueue [] _)
  unfold startPipe
  dsimp only
  split
  · exact (hempty.trans (setRoles_beside hsl ..)).trans (hstate ..)
  · exact (hempty.trans (setRoles_beside hsl ..)).trans (hstop ..)

end Pipe

/-- What the release of a block leaves: it counts, reports and notes what waits for a clock (R593). -/
structure Deferred (s t : State) : Prop where
  step : t.rst.step = s.rst.step
  coresHeld : t.rst.coresHeld = s.rst.coresHeld
  ob : ∀ ix sub, sub < 256 → ix ≠ 0x0300 → okey ix sub ≠ okey rstIx Sub.rstBoot_RST_DEFERRED → t.ob ix sub = s.ob ix sub

theorem Deferred.refl (s : State) : Deferred s s := ⟨rfl, rfl, fun _ _ _ _ _ => rfl⟩

theorem Deferred.trans (h : Deferred s t) (h' : Deferred t u) : Deferred s u where
  step := h'.step.trans h.step
  coresHeld := h'.coresHeld.trans h.coresHeld
  ob ix sub h1 h2 h3 := (h'.ob ix sub h1 h2 h3).trans (h.ob ix sub h1 h2 h3)

theorem deferRelease_deferred (dom i : Nat) (s : State) : Deferred s (deferRelease dom i s) := by
  unfold deferRelease
  split
  · exact .refl s
  · exact ⟨by rw [State.raise_rst]; rfl, by rw [State.raise_rst]; rfl, fun ix sub h1 h2 h3 => by
      rw [State.ob_raise h1 h2, State.ob_addOb_ne h3]
      rfl⟩

theorem releaseBlocks_deferred (s : State) : Deferred s (releaseBlocks s) := by
  unfold releaseBlocks
  exact List.foldlRecOn (motive := fun t => Deferred s t) _ _ (.refl s) fun t ht k _ => ht.trans (deferRelease_deferred ..)

/-! ### The steps of the power-up order (R594, R595) -/

/-- DDR has been trained, or its training has failed, with this outcome (R513). -/
def State.ddrTrained (ddr : Nat) (s : State) : State :=
  let s := (s.put 0x4A01 Sub.ddr_DDR_TRAIN_STATUS (if ddr = 0 then 0 else if ddr < 3 then 1 else 2)).put
    0x4A01 Sub.ddr_DDR_SPEED_RUN (if ddr = 0 then s.ddrSpeed else if ddr = 1 then 2 else 0)
  let s := if ddr < 3 then s.put 0x4A01 Sub.ddr_DDR_SIZE s.fuse.ddrFit else s
  if 3 ≤ ddr then (bootFailure 3 s).alarm 0x3C 0 else s

/-- The order is over (R594). -/
def State.stepsDone (s : State) : State := ({ s with rst := { s.rst with step := 5 } } : State).mark Timer.step

/-- Every pipe that the part has starts (R214). -/
def State.pipesStarted (masks : List Nat) (s : State) : State :=
  (List.range 4).foldl (fun t sl =>
    if t.sliceOn sl then startPipe sl .open (masks.getD (2 * sl + 1) 0) (startPipe sl .seal (masks.getD (2 * sl) 0) t) else t) s

theorem memoriesReady_eq (ddr : Nat) (masks : List Nat) (s : State) :
    memoriesReady ddr masks s = releaseBlocks ((s.ddrTrained ddr).stepsDone.pipesStarted masks) := rfl

theorem pipesStarted_beside (masks : List Nat) (s : State) : Beside s (s.pipesStarted masks) := by
  refine Beside.foldl (fun t sl hsl => ?_) s
  have hsl := List.mem_range.mp hsl
  split
  · exact (startPipe_beside hsl ..).trans (startPipe_beside hsl ..)
  · exact .refl t

/-- What the power-up order has left when its memories are ready. -/
theorem memoriesReady_leaves (ddr : Nat) (masks : List Nat) (s : State) :
    (memoriesReady ddr masks s).rst.step = 5 ∧ (memoriesReady ddr masks s).rst.coresHeld = (s.ddrTrained ddr).rst.coresHeld ∧
    ∀ ix sub, BootObject ix sub → sub < 256 → okey ix sub ≠ okey rstIx Sub.rstBoot_RST_DEFERRED →
      (memoriesReady ddr masks s).ob ix sub = (s.ddrTrained ddr).ob ix sub := by
  have hpipes := pipesStarted_beside masks (s.ddrTrained ddr).stepsDone
  have hblocks := releaseBlocks_deferred ((s.ddrTrained ddr).stepsDone.pipesStarted masks)
  rw [memoriesReady_eq]
  refine ⟨?_, ?_, fun ix sub h1 h2 h3 => ?_⟩
  · rw [hblocks.step, hpipes.rst]
    rfl
  · rw [hblocks.coresHeld, hpipes.rst]
    rfl
  · rw [hblocks.ob ix sub h2 h1.not_log h3, hpipes.ob ix sub h1 h2]
    rfl

section Steps
variable (hv : s.pwr.vigil = false)
include hv

theorem stepReady_straps (ddr : Nat) (masks : List Nat) (h : s.rst.step = 1) : stepReady ddr masks s =
    ({ latchStraps s with rst := { (latchStraps s).rst with step := 2 } } : State).mark Timer.step := by
  unfold stepReady
  rw [hv, h]
  rfl

theorem stepReady_plls (ddr : Nat) (masks : List Nat) (h : s.rst.step = 2) : ∃ u, stepReady ddr masks s = u ∧ u.rst.step = 3 ∧
    u.ob 0x0600 Sub.clocks_PLL_LOCK = 7 ∧ u.wire = s.wire := by
  refine ⟨_, rfl, ?_⟩
  unfold stepReady
  rw [hv, h]
  exact ⟨rfl, (State.ob_put_ne (by decide)).trans (State.ob_put_self ..), rfl⟩

theorem stepReady_memories (ddr : Nat) (masks : List Nat) (h : s.rst.step = 3) :
    stepReady ddr masks s = if s.resetHeld then s else memoriesReady ddr masks s := by
  unfold stepReady
  rw [hv, h]
  rfl

end Steps

theorem latchStraps_leaves (s : State) : (latchStraps s).rst.straps = s.fuse.strapPins % 2 ^ 13 ∧
    (latchStraps s).ob 0x0201 Sub.ring_NODE_ADDR = bits s.fuse.strapPins 11 6 ∧
    (latchStraps s).ob 0x0600 Sub.clocks_CLK_MODE = bits s.fuse.strapPins 3 2 := by
  refine ⟨rfl, ?_, ?_⟩
  · have h : (latchStraps s).ob 0x0201 Sub.ring_NODE_ADDR = bits (s.fuse.strapPins % 2 ^ 13) 11 6 :=
      (State.ob_put_ne (by decide)).trans (State.ob_put_self ..)
    rw [h]
    simp only [bits]
    omega
  · have h : (latchStraps s).ob 0x0600 Sub.clocks_CLK_MODE = bits (s.fuse.strapPins % 2 ^ 13) 3 2 := by
      unfold latchStraps
      dsimp only
      rw [State.ob_put_ne (by decide), State.ob_put_ne (by decide), State.ob_put_ne (by decide), State.ob_put_ne (by decide),
        State.ob_put_self]
    rw [h]
    simp only [bits]
    omega

theorem bootFailure_code (code : Nat) (s : State) : bits ((bootFailure code s).ob rstIx Sub.rstBoot_RESET_CAUSE) 23 20 = code % 16 := by
  rw [bootFailure, State.ob_put_self]
  simp only [bits, setBits]
  omega

/-- DDR trained at the speed that the profile asks for (R513). -/
theorem ddrTrained_speed (s : State) : (s.ddrTrained 0).rst = s.rst ∧ (s.ddrTrained 0).ob 0x4A01 Sub.ddr_DDR_TRAIN_STATUS = 0 ∧
    (s.ddrTrained 0).ob 0x4A01 Sub.ddr_DDR_SPEED_RUN = s.ddrSpeed := by
  refine ⟨rfl, ?_, ?_⟩
  · exact ((State.ob_put_ne (by decide)).trans (State.ob_put_ne (by decide))).trans (State.ob_put_self ..)
  · exact (State.ob_put_ne (by decide)).trans (State.ob_put_self ..)

/-- DDR training has failed (R513, R604). -/
theorem ddrTrained_failed (s : State) : (s.ddrTrained 3).ob 0x4A01 Sub.ddr_DDR_TRAIN_STATUS = 2 ∧
    bits ((s.ddrTrained 3).ob rstIx Sub.rstBoot_RESET_CAUSE) 23 20 = 3 := by
  have h : s.ddrTrained 3 =
      (bootFailure 3 ((s.put 0x4A01 Sub.ddr_DDR_TRAIN_STATUS 2).put 0x4A01 Sub.ddr_DDR_SPEED_RUN 0)).alarm 0x3C 0 := by
    simp [State.ddrTrained]
  rw [h, alarm_ob (by decide) (by decide), alarm_ob (by decide) (by decide), bootFailure_code, bootFailure, State.ob_put_ne (by decide),
    State.ob_put_ne (by decide), State.ob_put_self]
  exact ⟨rfl, rfl⟩

/-- The step that did not end in time is recorded (R604). -/
def State.stepNoted (s : State) : State :=
  s.put rstIx Sub.rstBoot_RESET_CAUSE (setBits (s.ob rstIx Sub.rstBoot_RESET_CAUSE) 19 16 s.rst.step)

/-- A step that does not end in time is recorded, and the order waits (R594, R604). -/
theorem stepTimeout_records {code : Nat} (hpast : s.past Timer.step s.stepNs = true)
    (h : s.rst.step = 1 ∨ s.rst.step = 2 ∨ (s.rst.step = 3 ∧ code ≠ 4 ∧ code ≠ 5)) :
    stepTimeout code s = ({ s.stepNoted with rst := { s.stepNoted.rst with step := 0 } } : State).mark Timer.step := by
  have hstep : 1 ≤ s.rst.step ∧ s.rst.step ≤ 3 := by omega
  have hcode : ¬(s.stepNoted.rst.step = 3 ∧ (code = 4 ∨ code = 5)) := by
    have hrst : s.stepNoted.rst = s.rst := State.put_rst ..
    rw [hrst]
    omega
  unfold stepTimeout
  rw [if_pos ⟨hstep.1, hstep.2, hpast⟩]
  exact congrArg (fun u : State => ({ u with rst := { u.rst with step := 0 } } : State).mark Timer.step) (if_neg hcode)

theorem stepEnded_ob (u : State) (ix sub : Nat) :
    (({ u with rst := { u.rst with step := 0 } } : State).mark Timer.step).ob ix sub = u.ob ix sub := rfl

theorem stepTimeout_early {code : Nat} (h : s.past Timer.step s.stepNs = false) : stepTimeout code s = s := by
  unfold stepTimeout
  rw [h]
  exact if_neg (fun k => absurd k.2.2 (by decide))

theorem setBits_step (n : Nat) {v : Nat} (h : v ≤ 3) :
    bits (setBits n 19 16 v) 19 16 = v ∧ bits (setBits n 19 16 v) 11 0 = bits n 11 0 := by
  simp only [bits, setBits]
  omega

theorem stepRetry_begins (hstep : s.rst.step = 0) (h : s.past Timer.step 1000000000 = true) :
    stepRetry s = ({ s with rst := { s.rst with step := 1 } } : State).mark Timer.step := if_pos ⟨hstep, h⟩

/-! ### Clock-valid flags (R593) -/

theorem clockValid_move (dom i : Nat) (s : State) : LanesMove
    { s with rst := { s.rst with clockOff := s.rst.clockOff.filter (· != dom * 256 + i % 256)
                                 deferred := s.rst.deferred.filter (· != dom * 256 + i % 256) } } (clockValid dom i s) :=
  settleLanes_move _

/-- The domain's flag has cleared, and what it clocks has been held again. -/
def State.clockGone (k : Nat) (s : State) : State :=
  { s with rst := { s.rst with clockOff := s.rst.clockOff ++ [k], deferred := s.rst.deferred ++ [k] } }

/-- The blocks that a domain clocks go back into reset (R593). -/
def State.domainCleared (dom i : Nat) (s : State) : State :=
  if dom = 0 then sliceClear (i % 256) s else if dom = 2 then portClear (i % 256) s else if dom = 5 then tetherDown s
  else if dom = 6 then halDown 0x89 (halDown 0x88 s) else s

theorem domainCleared_beside (dom i : Nat) (s : State) : Beside s (s.domainCleared dom i) := by
  have hslice (sl : Nat) : Beside s (s.sliceEmptied sl) := .of_dict rfl rfl rfl rfl rfl rfl
  unfold State.domainCleared
  split_ifs
  · exact (hslice _).trans (sliceClear_flow ..).beside
  · exact .of_dict rfl rfl rfl rfl rfl rfl
  · exact tetherDown_beside s
  · exact (halDown_beside (by decide) s).trans (halDown_beside (by decide) _)
  · exact .refl s

theorem clockLoss_eq {dom i k : Nat} (hk : k = dom * 256 + i % 256) (hoff : k ∉ s.rst.clockOff) (hstep : s.rst.step = 5) :
    clockLoss dom i s = ((noteCause 11 ((s.clockGone k).domainCleared dom i)).alarm 0x0B 0).settleLanes := by
  subst hk
  unfold clockLoss
  dsimp only
  rw [if_neg (by simpa using hoff), if_neg (not_not.mpr hstep)]
  rfl

/-- What the loss of a clock leaves: the domain's flag and its block, the cause and the alarm (R593, R604). -/
theorem clockLost_leaves (dom i k : Nat) (s : State) :
    let t := ((noteCause 11 ((s.clockGone k).domainCleared dom i)).alarm 0x0B 0).settleLanes
    k ∈ t.rst.clockOff ∧ k ∈ t.rst.deferred ∧ (s.watched 0x0B = true → 0x0B ∈ t.alm.active) ∧
    bit (t.ob rstIx Sub.rstBoot_RESET_CAUSE) 11 = true ∧ t.asc = s.asc := by
  have hclear := domainCleared_beside dom i (s.clockGone k)
  have hmove := settleLanes_move ((noteCause 11 ((s.clockGone k).domainCleared dom i)).alarm 0x0B 0)
  generalize (s.clockGone k).domainCleared dom i = u at hclear hmove
  have hrst : ((noteCause 11 u).alarm 0x0B 0).settleLanes.rst = (s.clockGone k).rst := by
    rw [hmove.rst, alarm_rst]
    exact hclear.rst
  have hasc : ((noteCause 11 u).alarm 0x0B 0).settleLanes.asc = s.asc := by
    rw [hmove.asc, alarm_asc]
    exact hclear.asc
  dsimp only
  refine ⟨?_, ?_, fun hw => ?_, ?_, hasc⟩
  · rw [hrst]
    simp [State.clockGone]
  · rw [hrst]
    simp [State.clockGone]
  · rw [hmove.alm]
    have hstate : (noteCause 11 u).ob 0x0400 Sub.power_PWR_STATE = u.ob 0x0400 Sub.power_PWR_STATE := State.ob_put_ne (by decide)
    have hnoted : (noteCause 11 u).watched 0x0B = u.watched 0x0B :=
      watched_congr (t := noteCause 11 u) (s := u) rfl rfl hstate _
    exact alarm_activates (by rw [hnoted, hclear.watched]; exact hw) (by decide) 0
  · rw [hmove.ob _ _ (by unfold OffLanes; decide) (by decide), alarm_ob (by decide) (by decide)]
    exact noteCause_bit 11 u

/-! ### The boot of an image (R599 to R603) -/

/-- The image has been measured (R602). -/
def State.measured (image : Bytes) (s : State) : State :=
  let s := ((s.putO vaultIx Sub.vault_MEAS (imageMeas image)).put vaultIx Sub.vault_SVN (imageSvn image)).put
    0 Sub.identity_FW_VERSION (Config.fwVersion image % 2 ^ 32)
  { s with vault := { s.vault with quotes := 0 } }

/-- Slot 0 has been derived, and the identity endorsed (R333, R602). -/
def State.endorsed (s : State) : State :=
  let s := deriveSlot0 ((clearKek 1 s).putO vaultIx Sub.vault_MIGRATE_TO (zeros 48))
  s.takeFree.2.endorse s.takeFree.1

/-- The boot is recorded, and the cores run (R602, R604). -/
def State.bootNoted (slot fallback us : Nat) (s : State) : State :=
  let s := ((s.put rstIx Sub.rstBoot_BOOT_SLOT slot).put rstIx Sub.rstBoot_BOOT_FALLBACK fallback).put
    rstIx Sub.rstBoot_BOOT_TIME_US (us % 2 ^ 32)
  { s with rst := { s.rst with coresHeld := false, waiting := false, reverted := none } }

/-- The firmware has loaded the CAKs that it keeps, and the boot is reported (R375, R603). -/
def State.bootReported (slot fallback : Nat) (owed : Option Nat) (s : State) : State :=
  let s := (reloadCaks slot s).mark Timer.boot
  let s := s.raise 0x0F01 0xFF (be 4 (s.ob rstIx Sub.rstBoot_RESET_CAUSE) ++ be 1 slot ++ be 1 fallback)
  match owed with
  | some n => s.raise 0x0F06 0xFF (be 1 n)
  | none => s

theorem bootReported_beside (slot fallback : Nat) (owed : Option Nat) (s : State) : Beside s (s.bootReported slot fallback owed) := by
  have hmark (u : State) : Beside u (u.mark Timer.boot) := .of_dict rfl rfl rfl rfl rfl rfl
  have h := (((reloadCaks_beside slot s).trans (hmark _)).trans (raise_beside 0x0F01 0xFF
    (be 4 (((reloadCaks slot s).mark Timer.boot).ob rstIx Sub.rstBoot_RESET_CAUSE) ++ be 1 slot ++ be 1 fallback) _))
  unfold State.bootReported
  cases owed
  case none => exact h
  case some n => exact h.trans (raise_beside ..)

theorem endorsed_beside (s : State) : Beside s s.endorsed :=
  (((clearKek_beside 1 s).trans (putO_beside (by decide) _ _)).trans (deriveSlot0_beside _)).trans
    ((takeFree_beside _).trans (endorse_beside ..))

theorem Beside.toForm (h : Beside s t) (l : List RangeSpec) : t.toForm l = s.toForm l := by
  unfold State.toForm State.rangeAt
  rw [h.guard]

/-- What the boot ROM does once the ranges are formed. -/
def State.started (slot fallback us : Nat) (s : State) : State := (s.bootNoted slot fallback us).bootReported slot fallback s.rst.reverted

theorem startFirmware_forms (slot : Nat) (fallback : Bool) (image : Bytes) (ranges : List RangeSpec) (us : Nat) (s : State) :
    startFirmware slot fallback image ranges us s = (((s.measured image).endorsed.toForm ranges).foldl
      (fun t x => rangeForm x.1 x.2.1 x.2.2.1 x.2.2.2.1 x.2.2.2.2.1 x.2.2.2.2.2 t) (s.measured image).endorsed).started slot
        fallback.toNat us := by
  unfold startFirmware State.measured State.endorsed State.started State.bootNoted State.bootReported
  rfl

theorem startFirmware_eq (slot : Nat) (fallback : Bool) (image : Bytes) (us : Nat) (hform : s.toForm [] = []) :
    startFirmware slot fallback image [] us s = (s.measured image).endorsed.started slot fallback.toNat us := by
  have hnone : (s.measured image).endorsed.toForm [] = [] := ((endorsed_beside _).toForm []).trans hform
  rw [startFirmware_forms, hnone, List.foldl_nil]

theorem started_leaves (slot fallback us : Nat) (s : State) : (s.started slot fallback us).rst.coresHeld = false ∧
    (s.started slot fallback us).ob rstIx Sub.rstBoot_BOOT_SLOT = slot ∧
    (s.started slot fallback us).ob rstIx Sub.rstBoot_BOOT_FALLBACK = fallback ∧
    (s.started slot fallback us).oct vaultIx Sub.vault_MEAS = s.oct vaultIx Sub.vault_MEAS := by
  have hboot := bootReported_beside slot fallback s.rst.reverted (s.bootNoted slot fallback us)
  have hobj (sub : Nat) : BootObject rstIx sub := .inr (.inl rfl)
  refine ⟨congrArg Resets.coresHeld hboot.rst, (hboot.ob _ _ (hobj _) (by decide)).trans ?_,
    (hboot.ob _ _ (hobj _) (by decide)).trans ?_, hboot.meas⟩
  · exact ((State.ob_put_ne (by decide)).trans (State.ob_put_ne (by decide))).trans (State.ob_put_self ..)
  · exact (State.ob_put_ne (by decide)).trans (State.ob_put_self ..)

/-- What the firmware finds that the boot ROM starts, where no range is to be formed. -/
theorem startFirmware_leaves (slot : Nat) (fallback : Bool) (image : Bytes) (us : Nat) (hform : s.toForm [] = []) :
    (startFirmware slot fallback image [] us s).rst.coresHeld = false ∧
    (startFirmware slot fallback image [] us s).ob rstIx Sub.rstBoot_BOOT_SLOT = slot ∧
    (startFirmware slot fallback image [] us s).ob rstIx Sub.rstBoot_BOOT_FALLBACK = fallback.toNat ∧
    (startFirmware slot fallback image [] us s).oct vaultIx Sub.vault_MEAS = imageMeas image := by
  obtain ⟨hcores, hslot, hfall, hmeas⟩ := started_leaves slot fallback.toNat us (s.measured image).endorsed
  rw [startFirmware_eq slot fallback image us hform]
  refine ⟨hcores, hslot, hfall, hmeas.trans ((endorsed_beside _).meas.trans ?_)⟩
  exact State.oct_putO_self ..

/-- The boot ROM takes the active slot where the straps name no other source and no image is tried (R599, R603). -/
theorem bootFirmware_active {us : Nat} (hruns : s.bootRuns [] = true) (hstraps : s.rst.straps % 4 = 0) (hclk : s.clkMode ≠ 3)
    (hddr : s.rst.ddr = none) (hwait : s.rst.waiting = false) (htry : s.rst.try_ = 0xFF) :
    bootFirmware [] us s =
      if s.imageOk (s.slotAt' s.rst.active).image then startFirmware s.rst.active false (s.slotAt' s.rst.active).image [] us s
      else if s.imageOk (s.slotAt' (1 - s.rst.active)).image then
        startFirmware (1 - s.rst.active) true (s.slotAt' (1 - s.rst.active)).image [] us s
      else bootWait (bootFailure 2 s) := by
  have hchoose : chooseSlot' s = (s.rst.active, s) := if_pos htry
  unfold bootFirmware
  rw [if_neg (by rw [hruns]; decide)]
  dsimp only
  rw [if_neg (fun h => h.elim (fun h => absurd (hstraps.symm.trans h) (by decide)) hclk), hddr]
  dsimp only
  rw [if_neg (fun h => h.elim (· hstraps) (by rw [hwait]; decide)), hchoose]

theorem bootWait_ob (ix sub : Nat) (s : State) : (bootWait s).ob ix sub = s.ob ix sub := rfl

theorem bootFailed_waits (s : State) : (bootWait (bootFailure 2 s)).rst.coresHeld = s.rst.coresHeld ∧
    (bootWait (bootFailure 2 s)).rst.waiting = true ∧
    bits ((bootWait (bootFailure 2 s)).ob rstIx Sub.rstBoot_RESET_CAUSE) 23 20 = 2 := by
  have hheld (u : State) : (bootWait u).rst.coresHeld = u.rst.coresHeld := rfl
  have hrst : (bootFailure 2 s).rst = s.rst := State.put_rst ..
  refine ⟨(hheld _).trans (congrArg _ hrst), rfl, ?_⟩
  rw [bootWait_ob, bootFailure_code]

theorem bootRuns_held (h : s.bootRuns [] = true) : s.rst.coresHeld = true := by
  simp only [State.bootRuns, Bool.and_eq_true] at h
  exact h.1.1.1.2

/-- Settles O49. The numbers of the clock domains and what the loss of one does are the model's choices (log 14, log 82). -/
theorem powerUpAndBoot : Obligations.PowerUpAndBoot := by
  intro s hv
  refine ⟨fun ddr masks h => ?_, fun ddr masks h => ?_, fun ddr masks h hheld => ?_, fun masks h hheld => ?_, fun masks h hheld => ?_,
    fun hheld => ?_, fun code h => congrArg Host.Outcome.next (stepTimeout_early h), fun code h hstep => ?_, fun h hpast => ?_,
    fun dom i k hk => ?_, fun dom i k hk hoff hstep => ?_, fun us b hruns hform hstraps hclk hddr hwait htry hb => ?_⟩
  · obtain ⟨hpins, hnode, hmode⟩ := latchStraps_leaves s
    exact ⟨_, congrArg Host.Outcome.next (stepReady_straps hv ddr masks h), rfl, hpins, hnode, hmode⟩
  · obtain ⟨u, hu, hleft⟩ := stepReady_plls hv ddr masks h
    exact ⟨u, congrArg Host.Outcome.next hu, hleft⟩
  · exact congrArg Host.Outcome.next ((stepReady_memories hv ddr masks h).trans (if_pos hheld))
  · obtain ⟨hstep, hcores, hob⟩ := memoriesReady_leaves 0 masks s
    obtain ⟨hrst, hstatus, hspeed⟩ := ddrTrained_speed s
    refine ⟨_, congrArg Host.Outcome.next ((stepReady_memories hv 0 masks h).trans (if_neg (by rw [hheld]; decide))), hstep,
      hcores.trans (congrArg _ hrst), ?_, ?_⟩
    · exact (hob _ _ (.inr (.inr ⟨rfl, by decide⟩)) (by decide) (by decide)).trans hstatus
    · exact (hob _ _ (.inr (.inr ⟨rfl, by decide⟩)) (by decide) (by decide)).trans hspeed
  · obtain ⟨hstep, hcores, hob⟩ := memoriesReady_leaves 3 masks s
    obtain ⟨hstatus, hcause⟩ := ddrTrained_failed s
    refine ⟨_, congrArg Host.Outcome.next ((stepReady_memories hv 3 masks h).trans (if_neg (by rw [hheld]; decide))), hstep, ?_, ?_⟩
    · exact (hob _ _ (.inr (.inr ⟨rfl, by decide⟩)) (by decide) (by decide)).trans hstatus
    · rw [hob _ _ (.inr (.inl rfl)) (by decide) (by decide)]
      exact hcause
  · unfold State.rstoutRun
    by_cases hout : s.rst.rstout = true
    · rw [if_pos ⟨hout, by rw [hheld]; rfl⟩]
    · rw [if_neg (fun h => hout h.1)]
      exact Bool.eq_false_iff.mpr hout
  · obtain ⟨hcause, hkeep⟩ := setBits_step (s.ob rstIx Sub.rstBoot_RESET_CAUSE) (v := s.rst.step) (by omega)
    have hnoted : s.stepNoted.ob rstIx Sub.rstBoot_RESET_CAUSE = setBits (s.ob rstIx Sub.rstBoot_RESET_CAUSE) 19 16 s.rst.step :=
      State.ob_put_self ..
    refine ⟨_, congrArg Host.Outcome.next (stepTimeout_records h hstep), rfl, ?_, ?_⟩
    · rw [stepEnded_ob, hnoted, hcause]
    · rw [stepEnded_ob, hnoted, hkeep]
  · exact ⟨_, congrArg Host.Outcome.next (stepRetry_begins h hpast), rfl, rfl⟩
  · have hmove := clockValid_move dom i s
    subst hk
    refine ⟨_, rfl, ?_, ?_, ?_, hmove.asc⟩
    · rw [hmove.rst]
      simp
    · rw [hmove.rst]
      simp
    · rw [hmove.rst]
  · obtain ⟨hoff', hdefer, hact, hbit, hasc⟩ := clockLost_leaves dom i k s
    exact ⟨_, congrArg Host.Outcome.next (clockLoss_eq hk hoff hstep), hoff', hdefer, hact, hbit, hasc⟩
  · subst hb
    have heq := bootFirmware_active (us := us) hruns hstraps hclk hddr hwait htry
    refine ⟨fun hok => ?_, fun hok hother => ?_⟩
    · rw [if_pos hok] at heq
      have hleft := startFirmware_leaves s.rst.active false (s.slotAt' s.rst.active).image us hform
      exact ⟨_, congrArg Host.Outcome.next heq, hleft⟩
    · rw [if_neg (by rw [hok]; decide), if_neg (by rw [hother]; decide)] at heq
      exact ⟨_, congrArg Host.Outcome.next heq, (bootFailed_waits s).1.trans (bootRuns_held hruns), (bootFailed_waits s).2⟩

end Sys2Proof.Machine
end

section
/-! A slice ungates (R575, R211): its stopped pipes stay stopped. -/

namespace Sys2Proof.Machine

variable {s : State} {sl : Nat}

theorem setRoles_pipeState (p q : Pipe) (r : List Nat) (s : State) : (s.setRoles sl p r).pipeState sl q = s.pipeState sl q :=
  State.ob_put_ne fun h => absurd (okey_inj (by decide) (by decide) h).2 (by decide)

/-- The known-answer test of a pipe that stands stopped fences what fails and starts nothing (R211, R575). -/
theorem wakePipe_stopped {p : Pipe} (h : s.pipeState sl p = 2) (mask : Nat) (q : Pipe) :
    (wakePipe sl p mask s).pipeState sl q = s.pipeState sl q := by
  unfold wakePipe
  rw [if_pos h]
  exact setRoles_pipeState ..

theorem ungateDone_stopped (hsl : sl < 4) (hon : s.sliceOn sl = true) (hnow : s.ob (0x0410 + sl) Sub.slicePwr_SLICE_POWER_NOW = 2)
    (hseal : s.pipeState sl .seal = 2) (hopen : s.pipeState sl .open = 2) (a b : Nat) :
    (ungateDone sl a b s).pipeState sl .seal = 2 := by
  have hoff : OffLanes (pipeIx sl .seal) := by
    unfold OffLanes
    simp only [pipeIx, Ix.pipe, Pipe.code]
    omega
  have hput (p : Pipe) : (s.put (0x0410 + sl) Sub.slicePwr_SLICE_POWER_NOW 0).pipeState sl p = s.pipeState sl p := by
    refine State.ob_put_ne fun h => ?_
    have hix := (okey_inj (by decide) (by decide) h).1
    simp only [pipeIx, Ix.pipe] at hix
    omega
  have hwoken := (wakePipe_stopped ((hput .seal).trans hseal) a .open).trans ((hput .open).trans hopen)
  unfold ungateDone
  rw [if_pos ⟨hon, hnow⟩]
  refine ((settleLanes_move _).ob _ _ hoff (by decide)).trans ?_
  refine (wakePipe_stopped hwoken b .seal).trans ?_
  exact (wakePipe_stopped ((hput .seal).trans hseal) a .seal).trans ((hput .seal).trans hseal)

/-- Slice 0 is about to ungate; both its pipes were stopped before it was gated, and neither has passed a retest since. -/
def stoppedUngating : State :=
  (((State.reset.put 0x0410 Sub.slicePwr_SLICE_POWER_NOW 2).put (pipeIx 0 .seal) Sub.pipe_PIPE_STATE 2).put
    (pipeIx 0 .open) Sub.pipe_PIPE_STATE 2)

/-- Refutes O47: a pipe that was stopped before its slice was gated stays stopped when the slice ungates, whatever its cores' tests
say (R211, R575), so that it does not run with the slice. The other clauses rest on log 7, log 85 and log 86. -/
theorem not_darkAndClocks : ¬ Obligations.DarkAndClocks := by
  intro h
  obtain ⟨-, -, -, -, -, -, -, -, hungate, -⟩ := h stoppedUngating .firmware
  obtain ⟨t, ht, -, hruns, -⟩ := hungate 0 511 511 (by decide +kernel) (by decide +kernel) (by decide) (by decide)
  obtain rfl : ungateDone 0 511 511 stoppedUngating = t := Host.Outcome.next.inj ht
  have hstopped := ungateDone_stopped (s := stoppedUngating) (sl := 0) (by decide) (by decide +kernel) (by decide +kernel)
    (by decide +kernel) (by decide +kernel) 511 511
  exact absurd (hruns.symm.trans hstopped) (by decide)

end Sys2Proof.Machine
end

section
/-! Checkpoints and what the peer's firmware mirrors (R414, R415, R423, R426, R427, R429, R437). -/

namespace Sys2Proof.Machine

variable {s t u : State}

/-! ### PAIR_STATE (R437, R438) -/

/-- From `s` to `t` the pair may have changed its state, and the wait-to-restore timer with it. -/
structure PairMove (s t : State) : Prop where
  pair : ∃ w, t.pair = { s.pair with wtr := w }
  asc : t.asc = s.asc
  ob : ∀ ix sub, ix < 0x4D00 → sub < 256 → ix ≠ 0x0300 → ¬(ix = psIx ∧ sub = Sub.pairStat_PAIR_STATE) → t.ob ix sub = s.ob ix sub

theorem PairMove.refl (s : State) : PairMove s s := ⟨⟨_, rfl⟩, rfl, fun _ _ _ _ _ _ => rfl⟩

theorem alarm_pair (src detail : Nat) (s : State) : (s.alarm src detail).pair = s.pair := by
  unfold State.alarm
  split <;> rfl

theorem pairStateTaken_move (v : Nat) (s : State) : PairMove s (s.pairStateTaken v) where
  pair := ⟨s.pair.wtr, by rw [State.pairStateTaken, State.raise_pair]; rfl⟩
  asc := by rw [State.pairStateTaken, State.raise_asc]; rfl
  ob ix sub _ h2 h3 h4 := by
    rw [State.pairStateTaken, State.ob_raise h2 h3, State.ob_put (by decide) h2, if_neg h4]
    rfl

/-- The pair in its new state, with the alarm of REFUSED (R441). -/
def State.pairStateSet (v : Nat) (s : State) : State := if v = 6 then (s.pairStateTaken v).alarm 0x31 0 else s.pairStateTaken v

theorem setPairState_new {v : Nat} (h : s.pairState ≠ v) : ∃ w, setPairState v s =
    { s.pairStateSet v with pair := { (s.pairStateSet v).pair with wtr := w } } := by
  have heq : setPairState v s = if v = 5 ∧ (s.pairStateSet v).home ∧ !(s.pairStateSet v).roleOn then
      { s.pairStateSet v with pair := { (s.pairStateSet v).pair with wtr := some (s.pairStateSet v).time.periods } }
      else if s.pairState = 5 then { s.pairStateSet v with pair := { (s.pairStateSet v).pair with wtr := none } }
      else s.pairStateSet v := if_neg h
  rw [heq]
  split_ifs
  · exact ⟨_, rfl⟩
  · exact ⟨_, rfl⟩
  · exact ⟨(s.pairStateSet v).pair.wtr, rfl⟩

theorem setPairState_same {v : Nat} (h : s.pairState = v) : setPairState v s = s := by
  unfold setPairState
  exact if_pos h

theorem pairStateSet_move (v : Nat) (s : State) : PairMove s (s.pairStateSet v) := by
  have htaken := pairStateTaken_move v s
  unfold State.pairStateSet
  split
  · exact ⟨by rw [alarm_pair]; exact htaken.pair, (alarm_asc ..).trans htaken.asc, fun ix sub h1 h2 h3 h4 =>
      (alarm_ob h2 (by omega) ..).trans (htaken.ob ix sub h1 h2 h3 h4)⟩
  · exact htaken

theorem setPairState_move (v : Nat) (s : State) : PairMove s (setPairState v s) := by
  by_cases h : s.pairState = v
  · rw [setPairState_same h]
    exact .refl s
  · obtain ⟨w, hset⟩ := setPairState_new h
    obtain ⟨⟨w', hpair⟩, hasc, hob⟩ := pairStateSet_move v s
    rw [hset]
    exact ⟨⟨w, by rw [hpair]⟩, hasc, hob⟩

/-- The pair is in the state that it takes (R437). -/
theorem setPairState_state (v : Nat) (s : State) : (setPairState v s).pairState = v := by
  by_cases h : s.pairState = v
  · rw [setPairState_same h, h]
  · have htaken : (s.pairStateTaken v).pairState = v := (State.ob_raise (by decide) (by decide)).trans (State.ob_put_self ..)
    have hset : (s.pairStateSet v).pairState = v := by
      unfold State.pairStateSet
      split
      · exact (alarm_ob (by decide) (by decide) ..).trans htaken
      · exact htaken
    obtain ⟨w, heq⟩ := setPairState_new h
    rw [heq]
    exact hset

theorem syncTest_move (s : State) : PairMove s (syncTest s) := by
  unfold syncTest
  split_ifs
  · exact .refl s
  · exact setPairState_move ..
  · exact setPairState_move ..
  · exact setPairState_move ..
  · exact .refl s

/-- A standby out of BULK stands beside its peer, in IN_SYNC or not yet (R438). -/
theorem syncTest_ready (h : s.pairState = 4) : (syncTest s).pairState = 4 ∨ (syncTest s).pairState = 5 := by
  unfold syncTest
  split_ifs
  · exact .inl h
  · exact .inr (setPairState_state ..)
  · exact .inl (setPairState_state ..)
  · omega
  · exact .inl h

section Aged
variable {sl : Nat} (haged : sl ∈ s.pair.aged) (hon : s.sliceOn sl = true)
include haged hon

theorem inSync_aged : s.inSync = false := by
  have hlt : sl < 4 := by
    simp only [State.sliceOn, Bool.and_eq_true, decide_eq_true_eq] at hon
    exact hon.1
  have hmem : sl ∈ s.slices := List.mem_filter.mpr ⟨List.mem_range.mpr hlt, hon⟩
  have hall : s.slices.all (fun sl => decide (2 ≤ mget 0 s.pair.count sl) && !s.pair.aged.contains sl) = false := by
    refine Bool.eq_false_iff.mpr fun h => ?_
    have hsl := List.all_eq_true.mp h sl hmem
    simp [haged] at hsl
  unfold State.inSync
  rw [hall]
  simp

/-- A standby whose checkpoint of a slice is too old does not enter IN_SYNC (R429, R438). -/
theorem syncTest_aged (h : s.pairState ≠ 5) : syncTest s = s := by
  unfold syncTest
  rw [inSync_aged haged hon, if_neg (by decide : ¬(false = true)), if_neg h]
  exact ite_self _

/-- It leaves IN_SYNC (R429, R438). -/
theorem syncTest_leaves (hruns : s.pairRuns = true) (hrole : s.roleOn = false) (h : s.pairState = 5) (hup : s.tetherUp = true) :
    (syncTest s).pairState = 4 := by
  unfold syncTest
  rw [inSync_aged haged hon, if_neg (by simp [hruns, hrole, h]), if_neg (by decide), if_pos h, if_pos hup]
  exact setPairState_state ..

end Aged

/-! ### Checkpoints (R423, R426) -/

/-- From `s` to `t` the pair spoke, and noted what it had said. -/
def Told (s t : State) : Prop := ∃ p w, t = { s with pair := p, wire := s.wire ++ w }

theorem Told.refl (s : State) : Told s s := ⟨_, [], by rw [List.append_nil]⟩

theorem Told.trans (h : Told s t) (h' : Told t u) : Told s u := by
  obtain ⟨p, w, rfl⟩ := h
  obtain ⟨p', w', rfl⟩ := h'
  exact ⟨p', w ++ w', by simp only [List.append_assoc]⟩

theorem Told.foldl {α : Type} {f : State → α → State} (h : ∀ t x, Told t (f t x)) (l : List α) (s : State) : Told s (l.foldl f s) := by
  induction l generalizing s with
  | nil => exact .refl s
  | cons x l ih => exact (h s x).trans (ih _)

theorem Told.dict (h : Told s t) : t.dict = s.dict := by obtain ⟨_, _, rfl⟩ := h; rfl
theorem Told.asc (h : Told s t) : t.asc = s.asc := by obtain ⟨_, _, rfl⟩ := h; rfl
theorem Told.ob (h : Told s t) (ix sub : Nat) : t.ob ix sub = s.ob ix sub := by obtain ⟨_, _, rfl⟩ := h; rfl

theorem Spoke.told (h : Spoke s t) : Told s t := by
  obtain ⟨_, _, w, rfl⟩ := h
  exact ⟨_, w, rfl⟩

theorem pair_told (p : Understudy) (s : State) : Told s { s with pair := p } := ⟨p, [], by rw [List.append_nil]⟩

/-- A checkpoint of the slice takes its next serial number (R424). -/
def State.ckptNoted (sl : Nat) (s : State) : State :=
  { s with pair := { s.pair with serial := mset 0 s.pair.serial sl ((mget 0 s.pair.serial sl + 1) % 2 ^ 32) } }

theorem ckptSlice_spoke (sl : Nat) (s : State) : Spoke (s.ckptNoted sl) (ckptSlice sl s) := by
  unfold ckptSlice
  dsimp only
  split
  · exact .foldl (fun t k => tetherSend_spoke ..) _ _
  · exact .refl _

theorem ckptSlice_serial (sl : Nat) (s : State) :
    (ckptSlice sl s).pair.serial = mset 0 s.pair.serial sl ((mget 0 s.pair.serial sl + 1) % 2 ^ 32) := by
  obtain ⟨q, l, h⟩ := (ckptSlice_spoke sl s).pair
  rw [h]
  rfl

theorem ckpts_serial {l : List Nat} (hl : l.Nodup) (s : State) (sl : Nat) :
    mget 0 (l.foldl (fun t sl => ckptSlice sl t) s).pair.serial sl =
      if sl ∈ l then (mget 0 s.pair.serial sl + 1) % 2 ^ 32 else mget 0 s.pair.serial sl := by
  induction l generalizing s with
  | nil => rfl
  | cons x l ih =>
    obtain ⟨hx, hl⟩ := List.nodup_cons.mp hl
    rw [List.foldl_cons, ih hl, ckptSlice_serial]
    by_cases hsl : sl = x
    · subst hsl
      rw [if_neg hx, if_pos (List.mem_cons_self ..), mget_mset_self]
    · rw [mget_mset_ne hsl]
      simp [hsl]

theorem ckpts_told (l : List Nat) (s : State) : Told s (l.foldl (fun t sl => ckptSlice sl t) s) :=
  .foldl (fun t sl => (pair_told _ t).trans (ckptSlice_spoke sl t).told) _ s

theorem slices_nodup (s : State) : s.slices.Nodup := List.nodup_range.filter _

theorem mem_slices {sl : Nat} (hon : s.sliceOn sl = true) : sl ∈ s.slices := by
  refine List.mem_filter.mpr ⟨List.mem_range.mpr ?_, hon⟩
  simp only [State.sliceOn, Bool.and_eq_true, decide_eq_true_eq] at hon
  exact hon.1

theorem badFrames_asc (n : Nat) (s : State) : (badFrames n s).asc = s.asc := State.addOb_asc ..

theorem badFrames_counts (n : Nat) (s : State) : (badFrames n s).ob psIx Sub.pairStat_TTH_BAD_FRAMES =
    (s.ob psIx Sub.pairStat_TTH_BAD_FRAMES + n) % 2 ^ 32 := State.ob_addOb_self ..

/-! ### Records (R425, R426) -/

theorem applyRecord_pair {sl : Nat} {r : Bytes} (h : applyRecord sl r s = some t) : t.pair = s.pair := by
  have hsa (i e : Nat) (u : State) : (u.putSa sl i e).pair = u.pair := rfl
  have hsc (i e : Nat) (u : State) : (u.putTxsc sl i e).pair = u.pair := rfl
  have hcue (i e : Nat) (u : State) : (u.putCue sl i e).pair = u.pair := rfl
  have htrib (i e : Nat) (u : State) : (u.putTribCue sl i e).pair = u.pair := rfl
  have hput (ix sub v : Nat) (u : State) : (u.put ix sub v).pair = u.pair := rfl
  unfold applyRecord at h
  dsimp only at h
  split at h
  · split at h
    · cases h
      exact hsa ..
    · cases h
  · split at h
    · cases h
      exact (hcue ..).trans (hsc ..)
    · cases h
  · split at h
    · cases h
      exact (htrib ..).trans ((hput ..).trans (hput ..))
    · cases h
  · cases h

theorem applyRecords_pair (sl : Nat) (b : Bytes) (s : State) : (applyRecords sl b s).2.pair = s.pair := by
  unfold applyRecords
  refine List.foldlRecOn (motive := fun a : Nat × State => a.2.pair = s.pair) _ _ rfl fun a ha k _ => ?_
  split
  · next h => exact (applyRecord_pair h).trans ha
  · exact ha

/-- One record alone. -/
theorem applyRecords_one {sl : Nat} {b : Bytes} (hlen : b.length = 12) (h : applyRecord sl (sub b 0 12) s = some t) :
    (applyRecords sl b s).2 = t := by
  unfold applyRecords
  rw [hlen]
  show (match applyRecord sl (sub b (12 * 0) 12) s with
    | some t => ((0 : Nat), t)
    | none => (0 + 1, s.addOb psIx Sub.pairStat_CKPT_ORPHANS 32 1)).2 = t
  rw [Nat.mul_zero, h]

/-- What the standby holds of the slice's checkpoints once one is complete (R426). -/
theorem applyPart_completes {sl serial parts : Nat} {records : Bytes} (hparts : parts ≤ 1)
    (hnone : (applyRecords sl records s).1 = 0) :
    mget 0 (applyPart sl serial 0 parts records s).pair.done sl = serial ∧
    (applyPart sl serial 0 parts records s).pair.ack = serial ∧
    sl ∉ (applyPart sl serial 0 parts records s).pair.aged := by
  unfold applyPart
  dsimp only
  rw [if_pos rfl, if_neg (by omega), if_pos (by rw [hnone])]
  refine ⟨mget_mset_self .., rfl, ?_⟩
  simp

/-- A record of a transmit SA in use moves it (R425, R427). -/
theorem applyRecord_sa {sl i e f : Nat} {r : Bytes} (hkind : fld r 0 1 = 1) (hi : fld r 2 2 % 2 ^ 14 = i) (he : s.saAt sl i = e)
    (hf : f = fld r 1 1) (hvalid : Sa.valid e = true) (hdir : Sa.dir e = 0) :
    applyRecord sl r s = some (s.putSa sl i (Sa.setNextPn (Sa.setExhausted (Sa.setThreshHit
      (setBits (setBit e 317 (bit f 7)) 315 314 (bits f 4 3)) (bit f 6)) (bit f 5)) (fld r 4 8))) := by
  subst hf hi he
  unfold applyRecord
  rw [hkind]
  exact if_pos ⟨hvalid, hdir⟩

section Received
variable {l : List (Nat × Bytes)} (hup : s.tetherUp = true)
include hup

theorem ckptReceived_bad (h : l.countP (fun f => decide (512 < f.2.length)) ≠ 0) :
    ckptReceived l s = badFrames (l.countP (fun f => decide (512 < f.2.length))) s := by
  unfold ckptReceived
  rw [hup]
  dsimp only
  rw [if_neg (by decide), if_pos h]

section Standby
variable {b : Bytes} (hruns : s.pairRuns = true) (hrole : s.roleOn = false) (hlen : ∀ f ∈ l, f.2.length ≤ 512) (hjoin : joinFrames l = some b)
include hruns hrole hlen hjoin

theorem ckptReceived_payload : ckptReceived l s = match s.openCkpt b with
    | some records =>
      if s.ckptDue (fld b 8 1) (fld b 12 4) (fld b 16 2) then
        syncTest (applyPart (fld b 8 1) (fld b 12 4) (fld b 16 2) (fld b 28 1) records s)
      else s.addOb psIx Sub.pairStat_CKPT_REFUSED 32 1
    | none => s.addOb psIx Sub.pairStat_CKPT_REFUSED 32 1 := by
  have hgood : l.countP (fun f => decide (512 < f.2.length)) = 0 := by
    rw [List.countP_eq_zero]
    intro f hf
    have := hlen f hf
    simp only [decide_eq_true_eq]
    omega
  unfold ckptReceived
  rw [hup, hgood]
  dsimp only
  rw [if_neg (by decide), if_neg (by decide), if_neg (by rw [hruns, hrole]; decide), hjoin] <;> rfl

end Standby

end Received

/-- Frames of the right length of which one is missing, or that an active unit gets, change nothing (R414, R426). -/
theorem ckptReceived_discards {l : List (Nat × Bytes)} (hlen : ∀ f ∈ l, f.2.length ≤ 512)
    (h : joinFrames l = none ∨ s.roleOn = true) : ckptReceived l s = s := by
  have hgood : l.countP (fun f => decide (512 < f.2.length)) = 0 := by
    rw [List.countP_eq_zero]
    intro f hf
    have := hlen f hf
    simp only [decide_eq_true_eq]
    omega
  unfold ckptReceived
  rw [hgood]
  dsimp only
  split
  · rfl
  · rw [if_neg (by decide)]
    split
    · rfl
    · next hactive =>
      obtain hnone | hrole := h
      · rw [hnone]
      · exact absurd (.inr hrole) hactive

/-! ### What the peer's firmware sends (R427, R437) -/

theorem mirror_told (m : Mirror) (s : State) : Told s (mirror m s) := (mirror_spoke m s).told

theorem mirrorKey_told (sl : Nat) (m : KeyMeta) (k : Bytes) (handle : Nat) (s : State) : Told s (mirrorKey sl m k handle s) := by
  unfold mirrorKey
  split
  · exact mirror_told ..
  · exact .refl s

theorem mirrorKnots_told (s : State) : Told s (mirrorKnots s) := by
  unfold mirrorKnots
  split
  · exact (pair_told _ s).trans (mirror_told ..)
  · exact .refl s

theorem mirrorAll_told (s : State) : Told s (mirrorAll s) := by
  have hkeys (sl : Nat) (u : State) : Told u (mirrorKeys sl u) := .foldl (fun t x => mirrorKey_told ..) _ u
  have hall (f : State → Nat → State) (hf : ∀ u sl, Told u (f u sl)) : Told s (s.slices.foldl f s) := .foldl hf _ s
  unfold mirrorAll
  refine Told.trans (hall _ fun u sl => ?_) (((pair_told _ _).trans (mirrorKnots_told _)).trans (mirror_told ..))
  exact ((hkeys sl u).trans (.foldl (fun t x => mirror_told ..) _ _)).trans (.foldl (fun t x => mirror_told ..) _ _)

section Mirrored
variable {write : Nat → Nat → Val → State → State} (hruns : s.pairRuns = true) (hup : s.tetherUp = true)
  (hcores : s.rst.coresHeld = false)
include hruns hup hcores

theorem mirror_taken : ¬(!s.pairRuns ∨ !s.tetherUp ∨ s.rst.coresHeld) := by rw [hruns, hup, hcores]; decide

theorem mirrorReceived_digest {b : Bytes} (h1 : 1 ≤ s.pairState) (h6 : s.pairState < 6) : mirrorReceived write (.digest b) s =
    if s.pairState < 3 then { s with pair := { s.pair with peerDigest := some b } } else digestTake b s := by
  unfold mirrorReceived
  rw [if_neg (mirror_taken hruns hup hcores)]
  exact if_neg (by omega)

theorem mirrorReceived_knots {l : List Nat} (hrole : s.roleOn = false) :
    mirrorReceived write (.knots l) s = { s with pair := { s.pair with knotPorts := l } } := by
  unfold mirrorReceived
  rw [if_neg (mirror_taken hruns hup hcores)]
  exact if_neg (by rw [hrole]; decide)

theorem mirrorReceived_watch {sl i img : Nat} (hrole : s.roleOn = false) (hon : s.sliceOn sl = true) :
    mirrorReceived write (.entry 6 sl i img) s = s.putWatch sl i img := by
  unfold mirrorReceived
  rw [if_neg (mirror_taken hruns hup hcores)]
  exact if_neg (by rw [hrole, hon]; decide)

theorem mirrorReceived_all (hrole : s.roleOn = false) (hbulk : s.pairState = 3) : mirrorReceived write .all s =
    syncTest (setPairState 4 { s with pair := { s.pair with mirrored := true } }) := by
  unfold mirrorReceived
  rw [if_neg (mirror_taken hruns hup hcores)]
  exact if_neg (by rw [hrole, hbulk]; decide)

theorem mirrorReceived_missing {seqs : List Nat} {m : Mirror} (h : seqsRun seqs = false) :
    mirrorReceived write (.frames seqs m) s = s := by
  unfold mirrorReceived
  rw [if_neg (mirror_taken hruns hup hcores)]
  exact if_neg (by rw [h]; decide)

end Mirrored

/-- The comparison of digests (R437). -/
theorem digestTake_differs {b : Bytes} (h : b ≠ s.pairDigest) :
    digestTake b s = setPairState 6 { s with pair := { s.pair with peerDigest := none } } := if_pos h

theorem digestTake_agrees (hrole : s.roleOn = true) (hbulk : s.pairState = 3) : digestTake s.pairDigest s =
    mirrorAll (setPairState 4 { s with pair := { s.pair with peerDigest := none } }) := by
  unfold digestTake
  exact (if_neg (not_not.mpr rfl)).trans (if_pos ⟨hrole, hbulk⟩)

/-! ### CUE_SYNC and the age of checkpoints (R427, R429) -/

theorem cueSync_record {b : Bytes} {sl : Nat} (hruns : s.pairRuns = true) (hup : s.tetherUp = true) (hrole : s.roleOn = false)
    (hlen : b.length = 16) (hsl : fld b 0 1 = sl) (hon : s.sliceOn sl = true) (h : applyRecord sl (sub (b.drop 4) 0 12) s = some t) :
    cueSyncReceived b s = t := by
  have hone : 4 + 12 * max 1 (min 3 ((16 - 4) / 12)) = 16 := by decide
  unfold cueSyncReceived tetherTake
  rw [hup, hlen, hone, hruns, hsl]
  have happly : (if !s.roleOn ∧ s.sliceOn sl then (applyRecords sl (b.drop 4) s).2 else s) = t :=
    (if_pos ⟨by rw [hrole]; rfl, hon⟩).trans (applyRecords_one (by rw [List.length_drop, hlen]) h)
  exact (if_neg (by decide)).trans ((if_neg (not_not.mpr rfl)).trans ((if_pos rfl).trans happly))

theorem cueSync_bad {b : Bytes} (hup : s.tetherUp = true) (h1 : b.length ≠ 16) (h2 : b.length ≠ 28) (h3 : b.length ≠ 40) :
    cueSyncReceived b s = badFrames 1 s := by
  unfold cueSyncReceived tetherTake
  rw [hup]
  exact (if_neg (by decide)).trans (if_pos (by omega))

/-- The newest checkpoint of the slice is too old (R429). -/
def State.agedAt (sl : Nat) (s : State) : State := { s with pair := { s.pair with aged := s.pair.aged.filter (· != sl) ++ [sl] } }

theorem ckptAged_marks {sl : Nat} (hruns : s.pairRuns = true) (hrole : s.roleOn = false) (hon : s.sliceOn sl = true)
    (hold : ((mfind s.pair.doneAt sl).all (fun x => decide (s.ob pairIx Sub.pair_CKPT_MAX_AGE_MS * 1000 < s.ageUs x))) = true) :
    ckptAged sl s = syncTest (s.agedAt sl) := by
  have hage : (match mfind s.pair.doneAt sl with
      | some t => decide (s.ob pairIx Sub.pair_CKPT_MAX_AGE_MS * 1000 < s.ageUs t)
      | none => true) = true := by
    cases hat : mfind s.pair.doneAt sl
    case none => rfl
    case some x =>
      rw [hat] at hold
      exact hold
  unfold ckptAged
  dsimp only
  refine if_pos ⟨hruns, by rw [hrole]; rfl, hon, ?_⟩
  exact hage

theorem putSa_completes {i : Instr} {sl j e : Nat} (h : exec i s = .next (s.putSa sl j e)) :
    Completes i s fun t => t.saAt sl j = e ∧ t.dict = s.dict := ⟨_, h, saAt_putSa .., rfl⟩

/-- Settles O32. How mirrored content is carried, joined and placed by the peer's firmware is the model's choice (log 60, log 64,
log 154). -/
theorem checkpointsAndMirrors : Obligations.CheckpointsAndMirrors := by
  refine ⟨fun s hruns => ⟨fun hidle => ?_, fun hpast hrole => ?_, fun l hup hbad => ?_, fun l hlen h => ?_,
    fun l b hup hrole hlen hjoin hopen => ?_, fun l b records sl hup hrole hlen hjoin hopen hsl hdue hpart hparts hnone => ?_,
    fun b r f sl i e hrole hup hlen hsl hon hr hf hkind hi he hvalid hdir => ?_, fun b hup h1 h2 h3 => ?_,
    fun sl hold hrole hon => ?_⟩, fun s hruns hup hcores => ⟨fun b h3 h6 hne => ?_, fun b h1 h3 => ?_, fun seqs m h => ?_,
    fun l hrole => ?_, fun sl i img hrole hon => ?_, fun hrole hbulk => ?_, fun hrole hbulk => ?_⟩⟩
  · refine congrArg Host.Outcome.next (if_neg ?_)
    rintro ⟨-, hrole, hpast⟩
    obtain h | h := hidle
    · exact absurd (hpast.symm.trans h) (by decide)
    · exact absurd (hrole.symm.trans h) (by decide)
  · have htold := ckpts_told s.slices (s.mark Timer.ckpt)
    refine ⟨_, congrArg Host.Outcome.next (if_pos ⟨hruns, hrole, hpast⟩), fun sl _ hon => ?_, htold.dict, htold.asc⟩
    exact (ckpts_serial (slices_nodup s) (s.mark Timer.ckpt) sl).trans (if_pos (mem_slices hon))
  · exact ⟨_, congrArg Host.Outcome.next (ckptReceived_bad hup hbad), badFrames_counts .., badFrames_asc ..⟩
  · exact congrArg Host.Outcome.next (ckptReceived_discards hlen h)
  · have hrefuse := ckptReceived_payload hup hruns hrole hlen hjoin
    rw [hopen] at hrefuse
    exact ⟨_, congrArg Host.Outcome.next hrefuse, State.ob_addOb_self .., State.addOb_asc ..⟩
  · have happly := ckptReceived_payload hup hruns hrole hlen hjoin
    rw [hopen] at happly
    dsimp only at happly
    rw [hsl, if_pos hdue, hpart] at happly
    obtain ⟨hdone, hack, haged⟩ := applyPart_completes (serial := fld b 12 4) hparts hnone
    obtain ⟨w, hpair⟩ := (syncTest_move (applyPart sl (fld b 12 4) 0 (fld b 28 1) records s)).pair
    refine ⟨_, congrArg Host.Outcome.next happly, ?_⟩
    beta_reduce
    rw [hpair]
    exact ⟨hdone, hack, haged⟩
  · subst hr
    exact putSa_completes (congrArg Host.Outcome.next (cueSync_record hruns hup hrole hlen hsl hon
      (applyRecord_sa hkind hi he hf hvalid hdir)))
  · exact ⟨_, congrArg Host.Outcome.next (cueSync_bad hup h1 h2 h3), badFrames_counts .., badFrames_asc ..⟩
  · have haged : sl ∈ (s.agedAt sl).pair.aged := List.mem_append_right _ (List.mem_singleton.mpr rfl)
    obtain ⟨w, hpair⟩ := (syncTest_move (s.agedAt sl)).pair
    refine ⟨_, congrArg Host.Outcome.next (ckptAged_marks hruns hrole hon hold), ?_, fun hstate => ?_, fun hstate hup => ?_⟩
    · rw [hpair]
      exact haged
    · exact (congrArg State.dict (syncTest_aged haged hon hstate)).trans (rfl : (s.agedAt sl).dict = s.dict)
    · exact syncTest_leaves haged hon hruns hrole hstate hup
  · have hdigest := mirrorReceived_digest (write := fun ix sub_ v t => (writeObj .firmware ix sub_ v t).1) (b := b) hruns hup hcores
      (by omega) h6
    rw [if_neg (by omega), digestTake_differs hne] at hdigest
    exact ⟨_, congrArg Host.Outcome.next hdigest, setPairState_state ..⟩
  · have hdigest := mirrorReceived_digest (write := fun ix sub_ v t => (writeObj .firmware ix sub_ v t).1) (b := b) hruns hup hcores
      h1 (by omega)
    rw [if_pos h3] at hdigest
    exact ⟨_, congrArg Host.Outcome.next hdigest, rfl, rfl⟩
  · exact congrArg Host.Outcome.next (mirrorReceived_missing hruns hup hcores h)
  · exact ⟨_, congrArg Host.Outcome.next (mirrorReceived_knots hruns hup hcores hrole), rfl, rfl⟩
  · exact ⟨_, congrArg Host.Outcome.next (mirrorReceived_watch hruns hup hcores hrole hon), mget_mset_self .., rfl⟩
  · have hdigest := mirrorReceived_digest (write := fun ix sub_ v t => (writeObj .firmware ix sub_ v t).1) (b := s.pairDigest) hruns
      hup hcores (by omega) (by omega)
    rw [if_neg (by omega), digestTake_agrees hrole hbulk] at hdigest
    have htold := mirrorAll_told (setPairState 4 { s with pair := { s.pair with peerDigest := none } })
    refine ⟨_, congrArg Host.Outcome.next hdigest, ?_, ?_⟩
    · exact (htold.ob ..).trans (setPairState_state ..)
    · exact htold.asc.trans (setPairState_move ..).asc
  · have hset := setPairState_state 4 { s with pair := { s.pair with mirrored := true } }
    have hmove := setPairState_move 4 { s with pair := { s.pair with mirrored := true } }
    have hsync := syncTest_move (setPairState 4 { s with pair := { s.pair with mirrored := true } })
    obtain ⟨w, hw⟩ := hmove.pair
    obtain ⟨w', hw'⟩ := hsync.pair
    refine ⟨_, congrArg Host.Outcome.next (mirrorReceived_all hruns hup hcores hrole hbulk), ?_, syncTest_ready hset⟩
    rw [hw', hw]

end Sys2Proof.Machine
end

section
/-! The pair forms, and the standby takes the active role (R410, R415, R419, R420, R431, R432, R434, R437, R440). -/

namespace Sys2Proof.Machine

variable {s t u : State}

/-! ### What a takeover wakes leaves the role and the timers alone (R428, R432, R433) -/

/-- What the cues and the tributaries leave as it was at a takeover: the role among it, and the timers. -/
def State.rank (s : State) : (Alarms × List Post × List Nat × Bool × Nat × Nat × Nat) × TimeEngine := (s.calm, s.time)

theorem rank_of (hcalm : t.calm = s.calm) (htime : t.time = s.time) : t.rank = s.rank := Prod.ext hcalm htime

theorem calm_of_rank (h : t.rank = s.rank) : t.calm = s.calm := congrArg Prod.fst h
theorem time_of_rank (h : t.rank = s.rank) : t.time = s.time := congrArg Prod.snd h

theorem rank_foldl {β : Type} {f : State → β → State} (l : List β) (h : ∀ u, ∀ b ∈ l, (f u b).rank = u.rank) (s : State) :
    (l.foldl f s).rank = s.rank :=
  List.foldlRecOn (motive := fun t => t.rank = s.rank) l f rfl fun u hu b hb => (h u b hb).trans hu

theorem ite_rank {c : Prop} [Decidable c] (ht : t.rank = s.rank) (hu : u.rank = s.rank) : (if c then t else u).rank = s.rank := by
  split
  · exact ht
  · exact hu

@[simp] theorem raise_rank (code slice : Nat) (items : Bytes) (s : State) : (s.raise code slice items).rank = s.rank :=
  rank_of (raise_calm ..) (State.raise_time ..)

/-- An object that is none of the pair's counts up. -/
theorem addOb_rank {ix sub w n : Nat} (hix : ix ≠ psIx) (hsub : sub < 256) (s : State) : (s.addOb ix sub w n).rank = s.rank := by
  refine rank_of (State.put_calm (fun x hx h => ?_) ..) (State.addOb_time ..)
  have hx : x < 256 := by fin_cases hx <;> decide
  exact hix (okey_inj hx hsub h).1.symm

section Cues
variable (sl i k : Nat) (s : State)

@[simp] theorem putCue_rank : (s.putCue sl i k).rank = s.rank := rank_of rfl rfl
@[simp] theorem putTribCue_rank : (s.putTribCue sl i k).rank = s.rank := rank_of rfl rfl
@[simp] theorem markPosted_rank : (s.markPosted k).rank = s.rank := rank_of rfl rfl
@[simp] theorem emit_rank (e : Emission) : (s.emit e).rank = s.rank := rank_of rfl rfl
theorem cue_rank (c : Cues) : ({ s with cue := c } : State).rank = s.rank := rfl
theorem otn_rank (o : Otn) : ({ s with otn := o } : State).rank = s.rank := rfl

theorem cueIx_apart : cueIx sl ≠ psIx := by
  unfold cueIx Ix.cue psIx
  omega

@[simp] theorem cueLog_rank (kind : Nat) (late byFire : Bool) (entry old new pn tag : Nat) :
    (cueLog sl kind late byFire entry old new pn tag s).2.rank = s.rank := addOb_rank (cueIx_apart sl) (by decide) _

@[simp] theorem cueReport_rank (kind code : Nat) (late byFire : Bool) (entry old new pn tag : Nat) :
    (cueReport sl kind code late byFire entry old new pn tag s).rank = s.rank := by simp [cueReport]

@[simp] theorem cueNotReady_rank : (cueNotReady sl i s).rank = s.rank :=
  ite_rank (putCue_rank ..) ((cueReport_rank ..).trans ((markPosted_rank ..).trans (putCue_rank ..)))

@[simp] theorem cueTest_rank : (cueTest sl i s).rank = s.rank := ite_rank (cueNotReady_rank ..) rfl

@[simp] theorem cueTrigger_rank : (cueTrigger sl i s).rank = s.rank := ite_rank ((cueTest_rank ..).trans (putCue_rank ..)) rfl

@[simp] theorem tribCueTest_rank : (tribCueTest sl i s).rank = s.rank :=
  ite_rank rfl (ite_rank ((cueLog_rank ..).trans ((putTribCue_rank ..).trans (cue_rank ..)))
    (ite_rank (putTribCue_rank ..) ((cueReport_rank ..).trans ((markPosted_rank ..).trans (putTribCue_rank ..)))))

@[simp] theorem tribCueTrigger_rank : (tribCueTrigger sl i s).rank = s.rank :=
  ite_rank ((tribCueTest_rank ..).trans (putTribCue_rank ..)) rfl

@[simp] theorem cueTimeTrigger_rank (trib : Bool) : (cueTimeTrigger sl trib i s).rank = s.rank :=
  ite_rank (ite_rank (tribCueTrigger_rank ..) (cueTrigger_rank ..)) rfl

@[simp] theorem sendAis_rank : (sendAis sl i s).rank = s.rank := rank_of rfl rfl

end Cues

@[simp] theorem cuesWake_rank (s : State) : (cuesWake s).rank = s.rank := by
  refine rank_foldl _ (fun t sl _ => ?_) s
  refine (rank_foldl _ (fun u k _ => by simp) _).trans (rank_foldl _ (fun u i _ => ?_) t)
  split <;> simp

@[simp] theorem takeoverAis_rank (s : State) : (takeoverAis s).rank = s.rank := by
  refine rank_foldl _ (fun t sl _ => ?_) s
  split
  · rfl
  · exact rank_foldl _ (fun u k _ => sendAis_rank ..) t

@[simp] theorem pnGuard_rank (s : State) : (pnGuard s).rank = s.rank := rfl

theorem lt_of_mem_slices {sl : Nat} (h : sl ∈ s.slices) : sl < 4 := List.mem_range.mp (List.mem_of_mem_filter h)

theorem lt_of_mem_sealedTribs {sl k : Nat} (h : k ∈ s.sealedTribs sl) : k < 8 := by
  unfold State.sealedTribs at h
  split at h
  · cases h
  · exact List.mem_range.mp (List.mem_of_mem_filter (List.mem_of_mem_filter h))

@[simp] theorem mfnGuard_rank (s : State) : (mfnGuard s).rank = s.rank := by
  refine rank_foldl _ (fun t sl hsl => rank_foldl _ (fun u k hk => ?_) t) s
  refine (addOb_rank ?_ (by decide) _).trans (otn_rank ..)
  have h1 := lt_of_mem_slices hsl
  have h2 := lt_of_mem_sealedTribs hk
  unfold soduIx Ix.otn psIx
  omega

/-! ### The takeover (R428, R431, R432) -/

/-- The unit is active after a takeover for a cause, `ns` after what it followed (R432, R444). -/
structure Took (cause ns : Nat) (t : State) : Prop where
  role : t.ob psIx Sub.pairStat_ROLE = 1
  selAct : t.pair.selAct = true
  lastCause : t.ob psIx Sub.pairStat_LAST_CAUSE = cause
  lastCommit : t.ob psIx Sub.pairStat_LAST_COMMIT_NS = ns

variable {cause ns : Nat}

theorem Took.roleOn (h : Took cause ns t) : t.roleOn = true := by
  rw [State.roleOn, State.obB, h.role]
  rfl

theorem Took.of_calm (h : Took cause ns s) (hcalm : t.calm = s.calm) : Took cause ns t :=
  ⟨(role_of_calm hcalm).trans h.role, (selAct_of_calm hcalm).trans h.selAct, (lastCause_of_calm hcalm).trans h.lastCause,
    (lastCommit_of_calm hcalm).trans h.lastCommit⟩

theorem Took.alarm (h : Took cause ns s) {src : Nat} (detail : Nat) (hsrc : 0x100 > src) : Took cause ns (s.alarm src detail) := by
  have hix : psIx ≠ 0x4D00 + src := by unfold psIx; omega
  exact ⟨(alarm_ob (by decide) hix ..).trans h.role, by rw [alarm_pair]; exact h.selAct,
    (alarm_ob (by decide) hix ..).trans h.lastCause, (alarm_ob (by decide) hix ..).trans h.lastCommit⟩

/-- The pair as the commit of a takeover leaves it (R411, R432). -/
def State.commitPair (s : State) : Understudy :=
  let clients := (List.range 0x20).filter s.portOn
  let owed := (List.range 32).filter (fun n => s.ownKnots.contains n || (s.pair.knotPorts.contains n && s.sliceOn (n / 8)))
  { s.pair with selAct := true, silent := false, yielding := false, taken := false, stopping := false
                sealHold := true, openHold := clients, declared := none, settled := true, wtr := none, losOn := []
                knotOwed := owed, knotSent := [], keysDue := true }

/-- The unit takes the role and its ports (R432). -/
def State.commitStands (s : State) : State :=
  (({ s with pair := s.commitPair } : State).mark Timer.commit).put psIx Sub.pairStat_ROLE 1

/-- What a takeover wakes has run (R428, R432). -/
def State.commitBegun (s : State) : State := cuesWake (mfnGuard (pnGuard s.commitStands.settleLanes))

/-- The takeover stands in the status objects (R433, R444). -/
def State.commitNoted (cause : Nat) (s : State) : State :=
  (((takeoverAis s).put psIx Sub.pairStat_LAST_COMMIT_NS (s.commitNs cause % 2 ^ 32)).put psIx Sub.pairStat_LAST_CAUSE cause).addOb
    psIx Sub.pairStat_SWITCHES 32 1

/-- The pair's state after a takeover (R437). -/
def pairTaken (lost : Bool) (s : State) : State :=
  if s.pairState < 4 ∨ s.pairState = 6 then s
  else if lost then setPairState (if s.tetherUp then 1 else 0) s
  else setPairState 4 s

/-- The peer's SAKs are adopted, once the unit is active (R432). -/
def mkaTaken (s : State) : State := (List.range 32).foldl (fun t n => mkaAdopt n t) s

theorem takeover_eq (cause : Nat) (s : State) : takeover cause s =
    (fun u : State => knotAgain (settleCmd u.home u))
      (mkaTaken (pairTaken s.pair.lost (((s.commitBegun.commitNoted cause).raise 0x0B01 0xFF (be 1 cause)).alarm 0x34 0))) := rfl

@[simp] theorem mkaAdopt_calm (n : Nat) (s : State) : (mkaAdopt n s).calm = s.calm := by
  unfold mkaAdopt
  split
  · rfl
  · dsimp only
    split_ifs
    · split <;> rfl
    · rfl

theorem mkaTaken_calm (s : State) : (mkaTaken s).calm = s.calm := State.calm_foldl (fun u n => mkaAdopt_calm n u) _ s

theorem settleCmd_calm (home : Bool) (s : State) : (settleCmd home s).calm = s.calm := by
  unfold settleCmd
  split
  · dsimp only
    split_ifs
    · rfl
    · exact (State.put_calm (by decide) ..).trans rfl
    · exact (State.put_calm (by decide) ..).trans rfl
  · rfl

theorem knotAgain_calm (s : State) : (knotAgain s).calm = s.calm := by
  refine State.calm_foldl (fun u n => ?_) _ s
  split
  · dsimp only
    split
    · exact Eq.trans rfl (knotStart_calm ..)
    · exact knotStart_calm ..
  · rfl

theorem pairTaken_calm (lost : Bool) (s : State) : (pairTaken lost s).calm = s.calm := by
  unfold pairTaken
  split_ifs
  · rfl
  · exact setPairState_calm (by decide) s
  · exact setPairState_calm (by decide) s
  · exact setPairState_calm (by decide) s

/-- The timers that a takeover may follow (R444). -/
def tookFrom : List Nat := [Timer.config, Timer.handover, Timer.declared]

theorem commitNs_congr (hperiods : t.time.periods = s.time.periods)
    (hsince : ∀ k ∈ tookFrom, mget 0 t.time.since k = mget 0 s.time.since k) : t.commitNs cause = s.commitNs cause := by
  unfold State.commitNs
  dsimp only
  rw [hperiods, hsince _ (by split_ifs <;> simp [tookFrom])]

theorem commit_since (s : State) : ∀ k ∈ tookFrom, mget 0 (s.mark Timer.commit).time.since k = mget 0 s.time.since k := by
  intro k hk
  refine mget_minsert_ne ?_
  fin_cases hk <;> decide

theorem tookFrom_offLos {k : Nat} (hk : k ∈ tookFrom) : OffLos k := by
  fin_cases hk <;> exact .inr (by decide)

/-- At the commit the unit has its role, and the timers of what brought it there stand as they did (R432, R444). -/
theorem commitBegun_took (s : State) : s.commitBegun.ob psIx Sub.pairStat_ROLE = 1 ∧ s.commitBegun.pair.selAct = true ∧
    s.commitBegun.commitNs cause = s.commitNs cause := by
  have hwake : s.commitBegun.rank = s.commitStands.settleLanes.rank :=
    (cuesWake_rank _).trans ((mfnGuard_rank _).trans (pnGuard_rank _))
  have hlanes := settleLanes_move s.commitStands
  have hcalm := (calm_of_rank hwake).trans hlanes.calm
  refine ⟨(role_of_calm hcalm).trans (State.ob_put_self ..), (selAct_of_calm hcalm).trans rfl, commitNs_congr ?_ fun k hk => ?_⟩
  · rw [time_of_rank hwake]
    exact hlanes.periods
  · rw [time_of_rank hwake]
    exact (hlanes.since k (tookFrom_offLos hk)).trans (commit_since s k hk)

theorem commitNoted_took (s : State) (hrole : s.ob psIx Sub.pairStat_ROLE = 1) (hsel : s.pair.selAct = true) :
    Took cause (s.commitNs cause % 2 ^ 32) (s.commitNoted cause) := by
  have hais := calm_of_rank (takeoverAis_rank s)
  refine ⟨?_, ?_, ?_, ?_⟩
  · refine (State.ob_addOb_ne (by decide)).trans ((State.ob_put_ne (by decide)).trans ((State.ob_put_ne (by decide)).trans ?_))
    exact (role_of_calm hais).trans hrole
  · exact (selAct_of_calm hais).trans hsel
  · exact (State.ob_addOb_ne (by decide)).trans (State.ob_put_self ..)
  · exact (State.ob_addOb_ne (by decide)).trans ((State.ob_put_ne (by decide)).trans (State.ob_put_self ..))

/-- A takeover makes the unit active, with its cause and its time (R432, R444). -/
theorem takeover_took (cause : Nat) (s : State) : Took cause (s.commitNs cause % 2 ^ 32) (takeover cause s) := by
  obtain ⟨hrole, hsel, hns⟩ := commitBegun_took (cause := cause) s
  have hnoted := commitNoted_took (cause := cause) s.commitBegun hrole hsel
  rw [hns] at hnoted
  rw [takeover_eq]
  have hraised := (hnoted.of_calm (raise_calm 0x0B01 0xFF (be 1 cause) _)).alarm (src := 0x34) 0 (by decide)
  exact (hraised.of_calm ((mkaTaken_calm _).trans (pairTaken_calm ..))).of_calm ((knotAgain_calm _).trans (settleCmd_calm ..))

/-! ### No takeover (R431) -/

/-- From `s` to `t` the unit stayed what it was. -/
structure Stays (s t : State) : Prop where
  declared : t.pair.declared = s.pair.declared
  role : t.ob psIx Sub.pairStat_ROLE = s.ob psIx Sub.pairStat_ROLE
  asc : t.asc = s.asc

theorem Stays.refl (s : State) : Stays s s := ⟨rfl, rfl, rfl⟩

theorem Stays.trans (h : Stays s t) (h' : Stays t u) : Stays s u :=
  ⟨h'.declared.trans h.declared, h'.role.trans h.role, h'.asc.trans h.asc⟩

theorem alarm_stays {src : Nat} (hsrc : src < 0x100) (detail : Nat) (s : State) : Stays s (s.alarm src detail) :=
  ⟨by rw [alarm_pair], alarm_ob (by decide) (by unfold psIx; omega) .., alarm_asc ..⟩

theorem setPairState_stays (v : Nat) (s : State) : Stays s (setPairState v s) := by
  obtain ⟨⟨w, hpair⟩, hasc, hob⟩ := setPairState_move v s
  exact ⟨by rw [hpair], hob _ _ (by decide) (by decide) (by decide) (by decide), hasc⟩

theorem settleCmd_stays (home : Bool) (s : State) : Stays s (settleCmd home s) := by
  unfold settleCmd
  split
  · dsimp only
    split_ifs
    · exact ⟨rfl, rfl, rfl⟩
    · exact ⟨rfl, State.ob_put_ne (by decide), rfl⟩
    · exact ⟨rfl, State.ob_put_ne (by decide), rfl⟩
  · exact .refl s

theorem noTakeover_stays (lost : Bool) (s : State) : Stays s (noTakeover lost s) := by
  have hsettle := (alarm_stays (src := 0x32) (by decide) 0 s).trans (settleCmd_stays (!s.home) (s.alarm 0x32 0))
  have hlost := hsettle.trans (alarm_stays (src := 0x30) (by decide) 0 _)
  unfold noTakeover
  cases lost
  case false => exact hsettle
  case true =>
    dsimp only
    rw [if_pos rfl]
    split
    · exact hlost.trans (setPairState_stays 0 _)
    · exact hlost

/-- The fault that was declared is dropped (R431). -/
def State.undeclared (s : State) : State := { s with pair := { s.pair with declared := none } }

section Declared
variable {lost : Bool} (h : s.pair.declared = some (cause, lost))
include h

theorem takeoverCommit_gone (hgone : s.mateGone = true) : takeoverCommit s = takeover cause s.undeclared := by
  unfold takeoverCommit
  rw [h]
  exact if_pos hgone

theorem takeoverCommit_late (hgone : s.mateGone = false) (hlate : s.mateLate = true ∨ s.pair.mate = false) :
    takeoverCommit s = noTakeover lost s.undeclared := by
  unfold takeoverCommit declaredRun
  rw [h]
  refine (if_neg (by rw [hgone]; decide)).trans (if_pos ⟨by rw [hgone]; rfl, ?_⟩)
  exact hlate.imp_right fun hmate => by rw [hmate]; rfl

theorem takeoverCommit_waits (hmate : s.pair.mate = true) (hlate : s.mateLate = false) : takeoverCommit s = s := by
  have hgone : s.mateGone = false := by
    unfold State.mateGone
    rw [hmate]
    rfl
  unfold takeoverCommit declaredRun
  rw [h]
  refine (if_neg (by rw [hgone]; decide)).trans (if_neg ?_)
  rw [hlate, hmate]
  simp

end Declared

theorem takeoverCommit_undeclared (h : s.pair.declared = none) : takeoverCommit s = s := by
  unfold takeoverCommit
  rw [h]

/-! ### HELLO (R419, R420, R437) -/

section Hello
variable (hruns : s.pairRuns = true) (hup : s.tetherUp = true) {b : Bytes}

theorem pairJoin_joined (h : s.pairState ≠ 0) : pairJoin s = s := if_neg fun hh => h hh.2.2

include hup in
theorem sayHello_sends : SendsTether s (sayHello s) 1 :=
  (tetherSend_sends (s := ({ s with pair := { s.pair with asked := true } } : State).mark Timer.hello) hup ..).of_wire rfl

include hruns in
theorem helloTimer_says (h : s.pairState = 1) (hpast : s.past Timer.hello 100000 = true) : helloTimer s = sayHello s := by
  unfold helloTimer
  rw [pairJoin_joined (by omega)]
  exact if_pos ⟨hruns, h, hpast⟩

theorem helloTimer_silent (h0 : s.pairState ≠ 0) (h : s.pairState ≠ 1 ∨ s.past Timer.hello 100000 = false) : helloTimer s = s := by
  unfold helloTimer
  rw [pairJoin_joined h0]
  refine if_neg ?_
  rintro ⟨-, hstate, hpast⟩
  obtain h | h := h
  · exact h hstate
  · exact absurd (hpast.symm.trans h) (by decide)

/-- A HELLO of the right length on aligned lanes is taken (R415). -/
theorem helloReceived_takes (hruns : s.pairRuns = true) (hup : s.tetherUp = true) (hlen : b.length = 64) :
    helloReceived b s = if (pairJoin s).helloRefused b then
      setPairState 6 (((pairJoin s).put psIx Sub.pairStat_PEER_VERSION (fld b 0 2)).put psIx Sub.pairStat_PAIR_STATUS Status.version.code)
    else helloAccepted b (pairJoin s) := by
  unfold helloReceived tetherTake
  rw [hup]
  exact (if_neg (by decide)).trans ((if_neg (not_not.mpr hlen)).trans (if_pos hruns))

theorem helloReceived_bad (hup : s.tetherUp = true) (hlen : b.length ≠ 64) : helloReceived b s = badFrames 1 s := by
  unfold helloReceived tetherTake
  rw [hup]
  exact (if_neg (by decide)).trans (if_pos hlen)

theorem pairJoin_refuses : (pairJoin s).helloRefused b = s.helloRefused b := by
  have hmove : PairMove { s with pair := { s.pair with peerDigest := none } } (setPairState 1 { s with pair := { s.pair with peerDigest := none } }) :=
    setPairState_move ..
  unfold pairJoin
  split
  · unfold State.helloRefused State.home
    rw [hmove.ob _ _ (by decide) (by decide) (by decide) (by decide), hmove.ob _ _ (by decide) (by decide) (by decide) (by decide)]
    rfl
  · rfl

theorem setPairState_refuses (v : Nat) (s : State) : (setPairState v s).ob psIx Sub.pairStat_PAIR_STATUS = s.ob psIx Sub.pairStat_PAIR_STATUS ∧
    (setPairState v s).ob psIx Sub.pairStat_PEER_VERSION = s.ob psIx Sub.pairStat_PEER_VERSION :=
  ⟨(setPairState_move v s).ob _ _ (by decide) (by decide) (by decide) (by decide),
    (setPairState_move v s).ob _ _ (by decide) (by decide) (by decide) (by decide)⟩

/-- The peer's HELLO is held, and the pair's objects say so (R419). -/
def State.helloNoted (b : Bytes) (s : State) : State :=
  ((({ s with pair := { s.pair with peer := b, asked := false } } : State).put psIx Sub.pairStat_PAIR_STATUS 0).put
    psIx Sub.pairStat_PEER_VERSION (fld b 0 2)).put psIx Sub.pairStat_TETHER_VERSION 0x0100

/-- It is answered where it answers none of this unit's (R419). -/
def State.helloAnswered (b : Bytes) (s : State) : State :=
  if decide (s.pairState ≠ 1) && !s.pair.asked then tetherSend 1 (s.helloNoted b).hello (s.helloNoted b) else s.helloNoted b

theorem helloAnswered_spoke : Spoke (s.helloNoted b) (s.helloAnswered b) := by
  unfold State.helloAnswered
  split
  · exact tetherSend_spoke ..
  · exact .refl _

theorem helloAccepted_eq : helloAccepted b s =
    if sub b 56 8 == (s.helloAnswered b).kcv && (s.helloAnswered b).kcv.any (· != 0) then
      (if s.pairState = 3 ∧ s.pair.peer = b then s.helloAnswered b else enterBulk (s.helloAnswered b))
    else if s.pairState = 2 then s.helloAnswered b
    else enterKeying (s.helloAnswered b) := rfl

theorem helloAnswered_kcv : (s.helloAnswered b).kcv = s.kcv := by
  obtain ⟨q, l, w, h⟩ := helloAnswered_spoke (s := s) (b := b)
  rw [h]
  rfl

theorem helloAnswered_status : (s.helloAnswered b).ob psIx Sub.pairStat_PAIR_STATUS = 0 := by
  rw [helloAnswered_spoke.ob]
  exact (State.ob_put_ne (by decide)).trans ((State.ob_put_ne (by decide)).trans (State.ob_put_self ..))

theorem helloAnswered_pair : (s.helloAnswered b).pair.peer = b ∧ (s.helloAnswered b).pair.peerDigest = s.pair.peerDigest := by
  obtain ⟨q, l, h⟩ := (helloAnswered_spoke (s := s) (b := b)).pair
  rw [h]
  exact ⟨rfl, rfl⟩

theorem digestSay_told (s : State) : ∃ p w, digestSay s = { s with pair := p, wire := s.wire ++ w } ∧ p.peer = s.pair.peer ∧
    p.mirrored = s.pair.mirrored ∧ p.peerDigest = s.pair.peerDigest := by
  unfold digestSay
  split
  · obtain ⟨q, l, w, h⟩ := firmwareSay_spoke (.digest s.pairDigest) { s with pair := { s.pair with digestDue := false } }
    exact ⟨_, w, h, rfl, rfl, rfl⟩
  · exact ⟨s.pair, [], by rw [List.append_nil], rfl, rfl, rfl⟩

/-- BULK begins afresh (R437). -/
def State.bulkFresh (s : State) : State :=
  { s with pair := { s.pair.fresh with mirrored := false, digestDue := true, handles := [], keysDue := false } }

theorem enterBulk_enters (h : s.pair.peerDigest = none) : (enterBulk s).pairState = 3 ∧ (enterBulk s).pair.peer = s.pair.peer ∧
    (enterBulk s).pair.mirrored = false ∧ (enterBulk s).ob psIx Sub.pairStat_PAIR_STATUS = s.ob psIx Sub.pairStat_PAIR_STATUS := by
  obtain ⟨w, hpair⟩ := (setPairState_move 3 s.bulkFresh).pair
  obtain ⟨p, l, hsay, hpeer, hmirrored, hdigest⟩ := digestSay_told (setPairState 3 s.bulkFresh)
  rw [hpair] at hpeer hmirrored hdigest
  have hnone : (digestSay (setPairState 3 s.bulkFresh)).pair.peerDigest = none := by
    rw [hsay]
    exact hdigest.trans h
  have heq : enterBulk s = digestSay (setPairState 3 s.bulkFresh) := by
    unfold enterBulk
    dsimp only
    rw [← State.bulkFresh, hnone]
  rw [heq, hsay]
  exact ⟨setPairState_state 3 s.bulkFresh, hpeer, hmirrored, (setPairState_refuses 3 s.bulkFresh).1⟩

theorem enterKeying_enters (hhome : s.home = false) : (enterKeying s).pairState = 2 ∧ (enterKeying s).pair.peer = s.pair.peer ∧
    (enterKeying s).ob psIx Sub.pairStat_PAIR_STATUS = s.ob psIx Sub.pairStat_PAIR_STATUS := by
  obtain ⟨w, hpair⟩ := (setPairState_move 2 s).pair
  have hput : setKnotState tetherPlace 0 (setPairState 2 s) = (setPairState 2 s).put keIx Sub.ke_PAIR_KNOT_STATE 0 := if_pos rfl
  have haway : ((setPairState 2 s).put keIx Sub.ke_PAIR_KNOT_STATE 0).home = false := by
    unfold State.home
    rw [State.ob_put_ne (by decide), (setPairState_move 2 s).ob _ _ (by decide) (by decide) (by decide) (by decide)]
    exact hhome
  have heq : enterKeying s = (setPairState 2 s).put keIx Sub.ke_PAIR_KNOT_STATE 0 := by
    unfold enterKeying
    dsimp only
    rw [hput]
    exact if_neg (by rw [haway]; decide)
  rw [heq]
  refine ⟨(State.ob_put_ne (by decide)).trans (setPairState_state 2 s), ?_, (State.ob_put_ne (by decide)).trans (setPairState_refuses 2 s).1⟩
  exact (congrArg Understudy.peer hpair).trans rfl

theorem helloAccepted_bulk (hstate : s.pairState ≠ 3) (hkcv : sub b 56 8 = s.kcv) (hkey : s.kcv.any (· != 0) = true) :
    helloAccepted b s = enterBulk (s.helloAnswered b) := by
  rw [helloAccepted_eq, helloAnswered_kcv, hkcv, hkey]
  exact (if_pos (by simp)).trans (if_neg fun h => hstate h.1)

theorem helloAccepted_keying (hstate : s.pairState ≠ 2) (hkcv : sub b 56 8 ≠ s.kcv) : helloAccepted b s = enterKeying (s.helloAnswered b) := by
  rw [helloAccepted_eq, helloAnswered_kcv]
  exact (if_neg (by simp [hkcv])).trans (if_neg hstate)

end Hello

/-- The unit's own strap does not change with a HELLO. -/
theorem helloAnswered_home {b : Bytes} : (s.helloAnswered b).home = s.home := by
  unfold State.home
  rw [helloAnswered_spoke.ob]
  exact congrArg (· == 0) ((State.ob_put_ne (by decide)).trans ((State.ob_put_ne (by decide)).trans (State.ob_put_ne (by decide))))

/-- Settles O31. `LAST_COMMIT_NS` counts periods of 8 ns (log 152), and a standby takes over on HANDOVER without SEL_MATE (log 61): the
model's choices. -/
theorem pairsFormAndTakeOver : Obligations.PairsFormAndTakeOver := by
  refine ⟨fun s hruns hup => ⟨fun h hpast => ?_, fun h0 h => ?_, fun b hlen => ?_, fun b hlen hrefused => ?_,
    fun b hlen hstate hrefused hkcv hkey hdigest => ?_, fun b hlen hstate hhome hrefused hkcv => ?_, ?_⟩,
    fun s => ⟨fun hpast => ?_, fun hruns hhome hrole hmate hpast => ?_, fun h => ?_, fun cause lost h hgone => ?_,
      fun cause lost h hmate hlate => ?_, fun cause lost h hgone hlate => ?_, fun h cause => ?_,
      fun cause c hruns hup hrole hcmd hrev => ?_, fun h => ?_, fun cause hruns hup hrole hcmd => ?_, fun h => ?_⟩⟩
  · exact ⟨_, congrArg Host.Outcome.next (helloTimer_says hruns h hpast), sayHello_sends hup⟩
  · exact congrArg Host.Outcome.next (helloTimer_silent h0 h)
  · exact ⟨_, congrArg Host.Outcome.next (helloReceived_bad hup hlen), badFrames_counts .., State.addOb_pair ..⟩
  · have htake := helloReceived_takes hruns hup hlen
    rw [pairJoin_refuses, if_pos hrefused] at htake
    obtain ⟨hstatus, hversion⟩ := setPairState_refuses 6 (((pairJoin s).put psIx Sub.pairStat_PEER_VERSION (fld b 0 2)).put psIx
      Sub.pairStat_PAIR_STATUS Status.version.code)
    refine ⟨_, congrArg Host.Outcome.next htake, setPairState_state .., hstatus.trans (State.ob_put_self ..), hversion.trans ?_⟩
    exact (State.ob_put_ne (by decide)).trans (State.ob_put_self ..)
  · have htake := helloReceived_takes hruns hup hlen
    rw [pairJoin_refuses, if_neg (by rw [hrefused]; decide), pairJoin_joined (by omega), helloAccepted_bulk (by omega) hkcv hkey] at htake
    obtain ⟨hpeer, hpeerDigest⟩ := helloAnswered_pair (s := s) (b := b)
    obtain ⟨hbulk, hkeeps, hmirrored, hstatus⟩ := enterBulk_enters (hpeerDigest.trans hdigest)
    exact ⟨_, congrArg Host.Outcome.next htake, hbulk, hkeeps.trans hpeer, hmirrored, hstatus.trans helloAnswered_status⟩
  · have htake := helloReceived_takes hruns hup hlen
    rw [pairJoin_refuses, if_neg (by rw [hrefused]; decide), pairJoin_joined (by omega), helloAccepted_keying (by omega) hkcv] at htake
    obtain ⟨hkeying, hkeeps, hstatus⟩ := enterKeying_enters (helloAnswered_home.trans hhome)
    exact ⟨_, congrArg Host.Outcome.next htake, hkeying, hkeeps.trans helloAnswered_pair.1, hstatus.trans helloAnswered_status⟩
  · exact ⟨_, congrArg Host.Outcome.next (if_pos hup), badFrames_counts .., State.addOb_pair ..⟩
  · refine congrArg Host.Outcome.next (if_neg ?_)
    rintro ⟨-, -, -, -, h⟩
    exact absurd (h.symm.trans hpast) (by decide)
  · have htook := takeover_took 6 s
    exact ⟨_, congrArg Host.Outcome.next (if_pos ⟨hruns, by rw [hhome]; rfl, by rw [hrole]; rfl, by rw [hmate]; rfl, hpast⟩),
      htook.roleOn, htook.selAct, htook.lastCause, htook.lastCommit⟩
  · exact congrArg Host.Outcome.next (takeoverCommit_undeclared h)
  · have htook := takeover_took cause s.undeclared
    exact ⟨_, congrArg Host.Outcome.next (takeoverCommit_gone h hgone), htook.roleOn, htook.selAct, htook.lastCause, htook.lastCommit⟩
  · exact congrArg Host.Outcome.next (takeoverCommit_waits h hmate hlate)
  · obtain ⟨hdeclared, hrole, hasc⟩ := noTakeover_stays lost s.undeclared
    refine ⟨_, congrArg Host.Outcome.next (takeoverCommit_late h hgone hlate), hdeclared, ?_, hasc⟩
    exact congrArg (· != 0) hrole
  · refine congrArg Host.Outcome.next (if_neg ?_)
    rintro ⟨hruns, hup, hrole⟩
    obtain h | h | h := h
    · exact absurd (h.symm.trans hruns) (by decide)
    · exact absurd (h.symm.trans hup) (by decide)
    · rw [h] at hrole
      exact absurd hrole (by decide)
  · have htook := takeover_took 5 (s.mark Timer.handover)
    have heq : handoverReceived (cause % 256) s = takeover 5 (s.mark Timer.handover) := by
      unfold handoverReceived
      rw [hcmd, Option.any_some, hrev]
      exact if_pos ⟨hruns, hup, by rw [hrole]; rfl⟩
    exact ⟨_, congrArg Host.Outcome.next heq, htook.roleOn, htook.lastCause⟩
  · exact congrArg Host.Outcome.next (if_neg (by rw [h]; decide))
  · have htook := takeover_took (cause % 256) (s.mark Timer.handover)
    have heq : handoverReceived (cause % 256) s = takeover (cause % 256) (s.mark Timer.handover) := by
      unfold handoverReceived
      rw [hcmd]
      exact if_pos ⟨hruns, hup, by rw [hrole]; rfl⟩
    exact ⟨_, congrArg Host.Outcome.next heq, htook.roleOn, htook.lastCause⟩
  · exact ⟨_, congrArg Host.Outcome.next (if_pos h), rfl, rfl, rfl⟩

end Sys2Proof.Machine
end

section
/-! The responses: what CURTAIN and HOLD do to the alarms and the sessions (R549 to R552, R555). -/

namespace Sys2Proof.Machine

variable {s t u : State}

/-! ### What a response's work leaves of the alarms and the sessions -/

/-- The alarms, and which sessions live. -/
def State.hush (s : State) : Alarms × (Nat → Bool) := (s.alm, fun k => (s.sessAt k).alive)

theorem hush_of (halm : t.alm = s.alm) (hsess : t.acc.sess = s.acc.sess) : t.hush = s.hush := by
  unfold State.hush State.sessAt
  rw [halm, hsess]

theorem alm_of_hush (h : t.hush = s.hush) : t.alm = s.alm := congrArg Prod.fst h
theorem alive_of_hush (h : t.hush = s.hush) (k : Nat) : (t.sessAt k).alive = (s.sessAt k).alive := congrFun (congrArg Prod.snd h) k

theorem hush_foldl {β : Type} {f : State → β → State} (l : List β) (h : ∀ u, ∀ b ∈ l, (f u b).hush = u.hush) (s : State) :
    (l.foldl f s).hush = s.hush :=
  List.foldlRecOn (motive := fun t => t.hush = s.hush) l f rfl fun u hu b hb => (h u b hb).trans hu

theorem ite_hush {c : Prop} [Decidable c] (ht : t.hush = s.hush) (hu : u.hush = s.hush) : (if c then t else u).hush = s.hush := by
  split
  · exact ht
  · exact hu

theorem notified_alive {x y : Sess} (h : Sess.Notified x y) : y.alive = x.alive := by
  obtain ⟨q, l, m, rfl⟩ := h
  rfl

theorem raise_hush (code slice : Nat) (items : Bytes) (s : State) : (s.raise code slice items).hush = s.hush :=
  Prod.ext (State.raise_alm ..) (funext fun k => notified_alive (raise_sessAt code slice items k s))

theorem finish_hush (who ix sub : Nat) (st : Status) (s : State) : (s.finish who ix sub st).hush = s.hush := by
  unfold State.finish
  dsimp only
  split_ifs
  · exact hush_of rfl rfl
  · refine Prod.ext rfl (funext fun k => ?_)
    by_cases hk : k = who
    · subst hk
      dsimp only [State.hush]
      rw [State.sessAt_putSess_self]
      rfl
    · dsimp only [State.hush]
      rw [State.sessAt_putSess_ne hk]
      rfl
  · exact hush_of rfl rfl

theorem winEnd_hush (ix sub : Nat) (st : Status) (s : State) : (s.winEnd ix sub st).hush = s.hush := hush_of rfl rfl
theorem put_hush (ix sub v : Nat) (s : State) : (s.put ix sub v).hush = s.hush := hush_of rfl rfl

theorem addOb_hush (ix sub w n : Nat) (s : State) : (s.addOb ix sub w n).hush = s.hush := hush_of rfl rfl
theorem bump_hush (c : Nat) (s : State) : (s.bump c).hush = s.hush := hush_of rfl rfl

/-! ### The cues, the engine's queue and the jobs (R246, R364, R370) -/

theorem cueLog_hush (sl kind : Nat) (late byFire : Bool) (entry old new pn tag : Nat) (s : State) :
    (cueLog sl kind late byFire entry old new pn tag s).2.hush = s.hush := (addOb_hush ..).trans (hush_of rfl rfl)

theorem cuesIdle_hush (s : State) : (cuesIdle s).hush = s.hush := by
  unfold cuesIdle
  dsimp only
  exact (hush_foldl _ (fun _ _ _ => cueLog_hush ..) _).trans (hush_of rfl rfl)

theorem pkeDeny_hush (st : Status) (w : PkeWho) (s : State) : (pkeDeny st w s).hush = s.hush := by
  cases w with
  | quote | migrate | ticket => exact winEnd_hush ..
  | cert => exact finish_hush ..
  | knot | hand => rfl

theorem pkeDenied_hush (s : State) : (pkeDenied s).hush = s.hush := hush_foldl _ (fun _ _ _ => pkeDeny_hush ..) s

theorem setKnotState_hush (place v : Nat) (s : State) : (setKnotState place v s).hush = s.hush := ite_hush (put_hush ..) (put_hush ..)

/-- With no operation of a window left, CURTAIN leaves the engine's queue empty (R364). -/
theorem knotAbandon_hush (s : State) : (knotAbandon false s).hush = s.hush := by
  have hfold : (s.ke.knot.foldl (fun t x => setKnotState x.2.place 0 t) s).hush = s.hush :=
    hush_foldl _ (fun _ _ _ => setKnotState_hush ..) s
  have hnone (q : List PkeTask) : q.filter (fun t => false && t.window && !t.migrates) = [] := by simp
  unfold knotAbandon
  dsimp only
  rw [hnone, windowsGo_idle _ rfl]
  refine Eq.trans ?_ hfold
  exact ite_hush (hush_of rfl rfl) (hush_of rfl rfl)

theorem abortJobs_hush (st : Status) (s : State) : (abortJobs st s).hush = s.hush := by
  refine hush_foldl _ (fun t j _ => ?_) s
  have hend : (if t.winBusy (jobIx j) Sub.job_JOB_STATUS then jobEnd j st t else t).hush = t.hush := ite_hush (winEnd_hush ..) rfl
  exact ite_hush hend (Eq.trans (hush_of rfl rfl) hend)

theorem guardCurtain_hush (s : State) : (guardCurtain s).hush = s.hush := by
  unfold guardCurtain
  refine hush_foldl _ (fun u r _ => ?_) s
  dsimp only
  split
  · rw [raise_hush]
    exact hush_of rfl rfl
  · rfl

theorem destroyKeys_hush (s : State) : (destroyKeys s).hush = s.hush := by
  have hdone : (abortJobs .denied (knotAbandon false (pkeDenied s))).hush = s.hush :=
    (abortJobs_hush ..).trans ((knotAbandon_hush _).trans (pkeDenied_hush s))
  have hzero (u : State) : (zeroiseCaks (zeroiseVault u)).hush = u.hush := hush_of rfl rfl
  have hguard (u : State) : (guardCurtain (zeroiseCaks (zeroiseVault u))).hush = u.hush := (guardCurtain_hush _).trans (hzero u)
  have hsas (u : State) (a : Assocs) : ({ u with asc := a } : State).hush = u.hush := hush_of rfl rfl
  unfold destroyKeys
  dsimp only
  rw [hsas, hguard, hdone]

/-! ### Requests that wait, and a transition (R532, R552, R560) -/

/-- What names requests names those of the vault, or of a range to be formed anew. -/
def NamesVault (which : EntWho → Bool) : Prop := ∀ w, which w = true → w.vault = true ∨ ∃ r asked, w = .range r true asked

theorem drawFailed_hush {w : EntWho} (h : w.vault = true ∨ ∃ r asked, w = .range r true asked) (st : Status) (s : State) :
    (drawFailed w st s).hush = s.hush := by
  obtain h | ⟨r, asked, rfl⟩ := h
  · cases w with
    | generate | renew | transition | vendor => exact winEnd_hush ..
    | _ => exact absurd h Bool.false_ne_true
  · exact ite_hush (winEnd_hush ..) (hush_of rfl rfl)

theorem denyWaiting_hush {which : EntWho → Bool} (h : NamesVault which) (s : State) : (denyWaiting which s).hush = s.hush := by
  refine (hush_foldl _ (fun u w hw => drawFailed_hush (h w ?_) ..) _).trans (hush_of rfl rfl)
  exact (List.mem_filter.mp hw).2

theorem custody_namesVault : NamesVault EntWho.custody := by
  intro w hw
  cases w with
  | generate | transition | vendor => exact .inl rfl
  | _ => exact absurd hw Bool.false_ne_true

theorem keyReform_namesVault (s : State) : NamesVault (fun w => w.vault || s.keyReform w) := by
  intro w hw
  refine (Bool.or_eq_true _ _ ▸ hw).imp_right fun h => ?_
  cases w with
  | range r reform asked =>
    cases reform
    · exact absurd h Bool.false_ne_true
    · exact ⟨r, asked, rfl⟩
  | _ => exact absurd h Bool.false_ne_true

theorem denyChange_hush (s : State) : (denyChange s).hush = s.hush := by
  unfold denyChange
  split
  · exact ite_hush rfl ((winEnd_hush ..).trans (hush_of rfl rfl))
  · rfl

/-- The destruction set is zeroised, and what waited for the cores has left the line (R549). -/
def State.destroyed (s : State) : State := dropWaiting EntWho.core (destroyKeys (cuesIdle s))

theorem destroyed_hush (s : State) : s.destroyed.hush = s.hush := by
  have hdrop (u : State) : (dropWaiting EntWho.core u).hush = u.hush := hush_of rfl rfl
  rw [State.destroyed, hdrop, destroyKeys_hush, cuesIdle_hush]

theorem curtain_eq (s : State) : curtain s =
    (fun u : State => denyChange (denyWaiting (fun w => w.vault || u.keyReform w) u)) (closeAll (·.alive) 6 (denyPosts s)).destroyed := rfl

/-- After CURTAIN's work the alarms stand as they did, and no session lives (R549). -/
theorem curtain_quiets (s : State) : (curtain s).alm = s.alm ∧ ∀ k, k < 32 → ((curtain s).sessAt k).alive = false := by
  have hclosed : (closeAll (·.alive) 6 (denyPosts s)).alm = s.alm := (alm_of_still (closeAll_still ..)).trans rfl
  have hcurtain : (curtain s).hush = (closeAll (·.alive) 6 (denyPosts s)).hush := by
    rw [curtain_eq]
    exact (denyChange_hush _).trans ((denyWaiting_hush (keyReform_namesVault _) _).trans (destroyed_hush _))
  refine ⟨(alm_of_hush hcurtain).trans hclosed, fun k hk => (alive_of_hush hcurtain k).trans ?_⟩
  exact closeAll_unnamed (which := (·.alive)) ⟨notified_alive, id⟩ 6 hk

/-! ### A HOLD begins (R549, R551, R440) -/

theorem tagEnd_hush (sl : Nat) (p : Pipe) (ctr : Option Nat) (f : Frm) (s : State) : (tagEnd sl p ctr f s).hush = s.hush := by
  unfold tagEnd
  split
  · rfl
  · unfold State.tagWrite
    dsimp only
    refine ite_hush (ite_hush (bump_hush ..) ?_) (hush_of rfl rfl)
    exact (raise_hush ..).trans (hush_of rfl rfl)

theorem sendFrame_hush (m : Nat) (cut : Bool) (b : Bytes) (s : State) : (sendFrame m cut b s).hush = s.hush := by
  unfold sendFrame sendOut
  refine ite_hush ?_ rfl
  split
  · exact hush_of rfl rfl
  · rfl
  · exact hush_of rfl rfl

theorem sendCut_hush (sl : Nat) (e : Egress) (b : Bytes) (s : State) : (sendCut sl e b s).hush = s.hush :=
  ite_hush rfl (ite_hush (sendFrame_hush ..) (ite_hush (hush_of rfl rfl) rfl))

theorem cutEgress_hush {send : Egress → Bytes → State → State} (h : ∀ e b u, (send e b u).hush = u.hush) (sl : Nat) (p : Pipe)
    (s : State) : (cutEgress sl p send s).hush = s.hush := by
  refine (hush_foldl _ (fun u e _ => (tagEnd_hush ..).trans ?_) _).trans (hush_of rfl rfl)
  split
  · exact h ..
  · rfl

theorem cutSlice_hush (sl : Nat) (s : State) : (cutSlice sl s).hush = s.hush :=
  (cutEgress_hush (fun _ _ _ => sendFrame_hush ..) ..).trans (cutEgress_hush (fun e b u => sendCut_hush sl e b u) ..)

theorem unheld_hush {f : State → State} (h : ∀ u, (f u).hush = u.hush) (s : State) : (unheld f s).hush = s.hush := by
  have hf := h { s with alm := { s.alm with latch := 0 } }
  refine Prod.ext ?_ (funext fun k => alive_of_hush hf k)
  exact congrArg (fun a : Alarms => { a with latch := s.alm.latch }) (alm_of_hush hf)

theorem LanesMove.hush (h : LanesMove s t) : t.hush = s.hush := hush_of h.alm (by rw [h.acc])

theorem setPairState_hush {v : Nat} (hv : v ≠ 6) (s : State) : (setPairState v s).hush = s.hush := by
  obtain h | ⟨w, h⟩ := setPairState_cases hv s
  · rw [h]
  · rw [h]
    exact Eq.trans (hush_of rfl rfl) ((raise_hush ..).trans (hush_of rfl rfl))

theorem standbyHeld_hush (s : State) : (standbyHeld s).hush = s.hush :=
  ite_hush ((setKnotState_hush ..).trans (setPairState_hush (by decide) s)) rfl

theorem holdBegins_hush (s : State) : (holdBegins s).hush = s.hush := by
  have hcut : (unheld (fun t => t.slices.foldl (fun u sl => cutSlice sl u) t) s).hush = s.hush :=
    unheld_hush (fun u => hush_foldl _ (fun _ _ _ => cutSlice_hush ..) u) s
  exact (denyChange_hush _).trans ((standbyHeld_hush _).trans ((denyWaiting_hush custody_namesVault _).trans
    ((settleLanes_move _).hush.trans hcut)))

/-! ### The response logic (R549 to R552) -/

theorem aoWrite_keeps (src cls response flags detail : Nat) (s : State) :
    (∃ log seq, (s.aoWrite src cls response flags detail).alm = { s.alm with log := log, seq := seq }) ∧
      (s.aoWrite src cls response flags detail).asc = s.asc := by
  unfold State.aoWrite
  dsimp only
  split
  · exact ⟨⟨_, _, State.addOb_alm ..⟩, State.addOb_asc ..⟩
  · exact ⟨⟨_, _, rfl⟩, rfl⟩

section Single
variable {src d : Nat} {m : Bool}

/-- The record of one source, and its event (R549, R559). -/
theorem recorded_keeps (cls response flags : Nat) (items : Bytes) (s : State) :
    (∃ log seq, ((fun t : State => if t.pwr.vigil then t else t.raise 0x0C01 0xFF items) (s.aoWrite src cls response flags d)).alm =
        { s.alm with log := log, seq := seq }) ∧
      ((fun t : State => if t.pwr.vigil then t else t.raise 0x0C01 0xFF items) (s.aoWrite src cls response flags d)).asc = s.asc := by
  obtain ⟨⟨log, seq, halm⟩, hasc⟩ := aoWrite_keeps src cls response flags d s
  dsimp only
  split
  · exact ⟨⟨log, seq, halm⟩, hasc⟩
  · exact ⟨⟨log, seq, (State.raise_alm ..).trans halm⟩, (State.raise_asc ..).trans hasc⟩

/-- The alarms with the response that the class of one source latches (R549, R550). -/
def State.latched (cls : Nat) (s : State) : Alarms :=
  let zero := s.alm.vs.isSome && (decide (cls = 4) || (s.pwr.vigil && decide (3 ≤ cls)))
  { s.alm with latch := max s.alm.latch (responseOf s.pwr.vigil cls), vs := if zero then none else s.alm.vs
               unacked := s.alm.unacked || decide (1 ≤ cls) }

theorem resolve_one (s : State) : (∃ log seq, (s.resolve [(src, d, m)]).alm =
    { s.latched (s.actAs src m) with log := log, seq := seq }) ∧ (s.resolve [(src, d, m)]).asc = s.asc := by
  have htop : s.topClass [(src, d, m)] = s.actAs src m := Nat.zero_max _
  have hsort : sortRaised [(src, d, m)] = [(src, d, m)] := rfl
  unfold State.resolve
  dsimp only
  rw [htop, hsort]
  exact recorded_keeps _ _ _ _ { s with alm := s.latched (s.actAs src m) }

/-- The response logic has taken every raised source (R550). -/
def State.answered (s : State) : State := ({ s with alm := { s.alm with raised := [] } } : State).resolve s.alm.raised

theorem answered_one (h : s.alm.raised = [(src, d, m)]) : (∃ log seq, s.answered.alm =
    { s.latched (s.actAs src m) with raised := [], log := log, seq := seq }) ∧ s.answered.asc = s.asc := by
  unfold State.answered
  rw [h]
  exact resolve_one (s := { s with alm := { s.alm with raised := [] } })

/-- A response that is not above the one in force, or is below HOLD, changes nothing further (R549). -/
theorem alarmResponse_same {f : State → State} (h : s.alm.raised ≠ []) (hentry : s.pwr.darkEntry = false)
    (hlatch : s.answered.alm.latch = s.alm.latch) : alarmResponse f s = s.answered := by
  have hnone : ¬(s.alm.raised = [] ∨ s.pwr.darkEntry = true) := by simp [h, hentry]
  unfold alarmResponse
  refine (if_neg hnone).trans ?_
  dsimp only
  rw [← State.answered, hlatch, if_neg (show ¬(s.alm.latch < 2 ∧ 2 ≤ s.alm.latch) by omega), if_neg (by rw [hlatch]; omega)]

/-- ODU-AIS of the tributaries in use, where a HOLD newly comes into force (R288, R551). -/
def State.aisTold (s : State) : State :=
  ((List.range 32).flatMap (fun i => if s.sliceOn (i / 8) && s.otnMode (i / 8) != 0 then [i] else [])).foldl
    (fun u i => if u.obB (Ix.otn (i / 8) (0x10 + i % 8)) Sub.trib_TRIB_ENABLE then u.emit (.oduAis (i / 8) (i % 8)) else u) s

theorem aisTold_hush (s : State) : s.aisTold.hush = s.hush := by
  unfold State.aisTold
  refine hush_foldl _ (fun u i _ => ?_) s
  split
  · exact hush_of rfl rfl
  · rfl

def State.withAlarms (a : Alarms) (s : State) : State := { s with alm := a }

theorem withAlarms_sessAt (a : Alarms) (s : State) (k : Nat) : (s.withAlarms a).sessAt k = s.sessAt k := rfl

theorem alarmResponse_curtain {f : State → State} (h : s.alm.raised ≠ []) (hentry : s.pwr.darkEntry = false)
    (hlatch : s.answered.alm.latch = 3) (hold : s.alm.latch < 3) (hf : ∀ u, (f u).alm = u.alm) : ∃ u : State, u.alm = s.answered.alm ∧
      alarmResponse f s = (f u).withAlarms { s.answered.alm with zeroising := s.answered.alm.latch } := by
  have hnone : ¬(s.alm.raised = [] ∨ s.pwr.darkEntry = true) := by simp [h, hentry]
  obtain ⟨u, hu, heq⟩ : ∃ u : State, u.alm = s.answered.alm ∧
      (if s.alm.latch < 2 ∧ 2 ≤ s.answered.alm.latch then s.answered.aisTold else s.answered) = u := by
    split
    · exact ⟨_, alm_of_hush (aisTold_hush _), rfl⟩
    · exact ⟨_, rfl, rfl⟩
  refine ⟨u, hu, ?_⟩
  unfold alarmResponse
  refine (if_neg hnone).trans ?_
  dsimp only
  rw [← State.answered, ← State.aisTold, heq, hu, if_pos ⟨by rw [hlatch]; exact hold, by rw [hlatch]⟩, hf, hu]
  rfl

end Single

/-- The end of the zeroisation is reported (R551). -/
def State.zeroised (s : State) : State :=
  ({ s with alm := { s.alm with zeroising := 0 } } : State).raise 0x0C03 0xFF (be 1 s.alm.zeroising)

theorem zeroiseDone_curtain (reset : Nat → State → State) (h : s.alm.zeroising = 3) : zeroiseDone reset s = s.zeroised :=
  (if_neg (by omega)).trans (if_neg (by omega))

theorem zeroiseDone_strike (reset : Nat → State → State) (h : s.alm.zeroising = 4) : zeroiseDone reset s = reset 4 s.zeroised :=
  (if_neg (by omega)).trans (if_pos h)

theorem zeroised_alm (s : State) : s.zeroised.alm = { s.alm with zeroising := 0 } := State.raise_alm ..
theorem zeroised_rst (s : State) : s.zeroised.rst = s.rst := State.raise_rst ..
theorem zeroised_vigil (s : State) : s.zeroised.pwr.vigil = s.pwr.vigil := congrArg Power.vigil (State.raise_pwr ..)

/-- Settles O44. -/
theorem responsesAct : Obligations.ResponsesAct := by
  refine fun s => ⟨fun src d m hraised hentry hvigil hawake hact => ?_, fun src d m hraised hentry hvigil hawake hact hold => ?_,
    fun hraised => ?_, fun hz => ?_, fun hz hvigil => ?_, fun hclear hpast hvigil => ?_, fun h => ?_⟩
  · obtain ⟨⟨log, seq, halm⟩, hasc⟩ := answered_one hraised
    have hresponse : responseOf s.pwr.vigil (s.actAs src m) = 0 := if_pos (by omega)
    have hlatch : s.answered.alm.latch = s.alm.latch := by
      rw [halm]
      dsimp only [State.latched]
      rw [hresponse, Nat.max_zero]
    have hsame := alarmResponse_same (f := curtain) (by rw [hraised]; exact List.cons_ne_nil _ _) hentry hlatch
    have hexec : exec .alarmResponse s = .next s.answered := by
      have heq : exec .alarmResponse s = .next (if s.alm.latch < 2 ∧ 2 ≤ (alarmResponse curtain (wakeOnAlarm wake s)).alm.latch then
          holdBegins (alarmResponse curtain (wakeOnAlarm wake s)) else alarmResponse curtain (wakeOnAlarm wake s)) := rfl
      rw [heq, wakeOnAlarm_awake wake hawake, hsame, hlatch, if_neg (by omega)]
    refine ⟨_, hexec, hlatch, by rw [halm], fun h1 => ?_, ?_, hasc⟩
    · rw [halm]
      simp [State.latched, h1]
    · rw [halm]
      have hnot4 : s.actAs src m ≠ 4 := by omega
      have hnot3 : ¬3 ≤ s.actAs src m := by omega
      simp [State.latched, hnot4, hnot3]
  · obtain ⟨⟨log, seq, halm⟩, -⟩ := answered_one hraised
    have hlatch : s.answered.alm.latch = 3 := by
      rw [halm]
      dsimp only [State.latched]
      rw [hact, hvigil]
      exact Nat.max_eq_right (by unfold responseOf; simp; omega)
    obtain ⟨u, hu, hcurtain⟩ := alarmResponse_curtain (f := curtain) (by rw [hraised]; exact List.cons_ne_nil _ _) hentry hlatch hold
      fun u => (curtain_quiets u).1
    have hquiet := (curtain_quiets u).2
    have hheld : exec .alarmResponse s = .next (if s.alm.latch < 2 then holdBegins (alarmResponse curtain s)
        else alarmResponse curtain s) := by
      have heq : exec .alarmResponse s = .next (if s.alm.latch < 2 ∧ 2 ≤ (alarmResponse curtain (wakeOnAlarm wake s)).alm.latch then
          holdBegins (alarmResponse curtain (wakeOnAlarm wake s)) else alarmResponse curtain (wakeOnAlarm wake s)) := rfl
      have hthree : (alarmResponse curtain s).alm.latch = 3 := by
        rw [hcurtain]
        exact hlatch
      rw [heq, wakeOnAlarm_awake wake hawake, hthree]
      simp
    obtain ⟨t, ht, hhush⟩ : ∃ t, exec .alarmResponse s = .next t ∧ t.hush = (alarmResponse curtain s).hush := by
      rw [hheld]
      split
      · exact ⟨_, rfl, holdBegins_hush _⟩
      · exact ⟨_, rfl, rfl⟩
    rw [hcurtain] at hhush
    have hend : t.alm = { s.answered.alm with zeroising := s.answered.alm.latch } := alm_of_hush hhush
    refine ⟨t, ht, ?_, ?_, ?_, ?_, fun k hk => ?_⟩
    · rw [hend]
      exact hlatch
    · rw [hend, halm]
    · rw [hend]
      exact hlatch
    · rw [hend, halm]
      simp [State.latched, hact]
    · exact (alive_of_hush hhush k).trans ((congrArg Sess.alive (withAlarms_sessAt ..)).trans (hquiet k (by omega)))
  · have hwake : wakeOnAlarm wake s = s := by
      unfold wakeOnAlarm
      rw [hraised]
    have heq : exec .alarmResponse s = .next (if s.alm.latch < 2 ∧ 2 ≤ (alarmResponse curtain (wakeOnAlarm wake s)).alm.latch then
        holdBegins (alarmResponse curtain (wakeOnAlarm wake s)) else alarmResponse curtain (wakeOnAlarm wake s)) := rfl
    have hnone : alarmResponse curtain s = s := if_pos (.inl hraised)
    rw [heq, hwake, hnone, if_neg (by omega)]
  · refine ⟨_, congrArg Host.Outcome.next (zeroiseDone_curtain systemReset hz), congrArg Alarms.zeroising (zeroised_alm s),
      (congrArg Alarms.latch (zeroised_alm s)).trans rfl, zeroised_rst s⟩
  · have hreset := zeroiseDone_strike systemReset hz
    rw [systemReset_eq ((zeroised_vigil s).trans hvigil)] at hreset
    exact ⟨_, congrArg Host.Outcome.next hreset, rfl, rfl, rfl, resetFrom_cause (by decide) _⟩
  · have hreset : execClearResetDelay s = .next (systemReset 5 s) := congrArg Host.Outcome.next (if_pos ⟨hclear, hpast⟩)
    rw [systemReset_eq hvigil] at hreset
    exact ⟨_, hreset, rfl, rfl, rfl, resetFrom_cause (by decide) _⟩
  · refine congrArg Host.Outcome.next (if_neg ?_)
    rintro ⟨hclear, hpast⟩
    obtain h | h := h
    · exact absurd (h.symm.trans hclear) (by decide)
    · exact absurd (h.symm.trans hpast) (by decide)

end Sys2Proof.Machine
end

section
/-! The Repertoire: its window, and the load of a profile (R472 to R479). -/

namespace Sys2Proof.Machine

variable {s t u : State} {c : Caller} {n : Nat}

/-! ### What a load leaves of the windows that run (R465, R473 to R475) -/

theorem due_foldl {β : Type} {f : State → β → State} (l : List β) (h : ∀ u, ∀ b ∈ l, (f u b).due = u.due) (s : State) :
    (l.foldl f s).due = s.due :=
  List.foldlRecOn (motive := fun t => t.due = s.due) l f rfl fun u hu b hb => (h u b hb).trans hu

theorem ite_due {p : Prop} [Decidable p] (ht : t.due = s.due) (hu : u.due = s.due) : (if p then t else u).due = s.due := by
  split
  · exact ht
  · exact hu

theorem ite_fst_due {α : Type} {p : Prop} [Decidable p] {x y : State × α} (hx : x.1.due = s.due) (hy : y.1.due = s.due) :
    (if p then x else y).1.due = s.due := by
  split
  · exact hx
  · exact hy

theorem LanesMove.due (h : LanesMove s t) : t.due = s.due := due_congr h.acc
theorem FlowMove.due (h : FlowMove s t) : t.due = s.due := due_congr h.acc

theorem heldRelease_due (sl i : Nat) (s : State) : (heldRelease sl i s).due = s.due := ite_due (due_congr rfl) rfl

theorem loadSodus_due (s : State) : (loadSodus s).due = s.due :=
  due_foldl _ (fun u _ _ => (ite_due ((heldRelease_due ..).trans (due_put ..)) (due_put ..) : (soduPutKey _ _ _ 0 u).due = u.due)) s

theorem loadPower_due (sl : Nat) (s : State) : (loadPower sl s).due = s.due := ite_due (due_put ..) (ite_due (due_put ..) rfl)

theorem rxKeep_move {m : Nat} (hm : m < 0x100) (s : State) : LanesMove s (s.rxKeep m) :=
  (dropLock_move s).trans (rxReport_move hm ..)

theorem mark_due (k : Nat) (s : State) : (s.mark k).due = s.due := due_congr rfl
theorem otn_due (o : Otn) (s : State) : ({ s with otn := o } : State).due = s.due := due_congr rfl

theorem regrouped_due {sl : Nat} (hsl : sl < 4) (was s : State) : (regrouped sl was s).due = s.due := by
  have hlane (u : State) (j : Nat) (hj : j ∈ List.range 8) :
      ((State.showLane was (0x40 + 8 * sl + j) u).settleLane (0x40 + 8 * sl + j)).due = u.due := by
    have hj := List.mem_range.mp hj
    exact ((showLane_move was _ u).trans (settleLane_move (by omega) _)).due
  have hmark (u : State) : ((List.range 8).foldl (fun u i => (u.mark (Timer.frame sl i 0)).mark (Timer.frame sl i 1)) u).due = u.due :=
    due_foldl _ (fun _ _ _ => (mark_due ..).trans (mark_due ..)) u
  unfold regrouped
  dsimp only
  rw [due_foldl _ hlane, hmark, otn_due]

theorem drawRequest_due (who : EntWho) (len : Nat) (s : State) : (drawRequest who len s).2.due = s.due := by
  unfold drawRequest
  split_ifs
  · rfl
  · rfl
  · obtain ⟨e, he⟩ := takeQueue_eq len s
    rw [he]
    exact due_putEnt e s
  · exact due_putEnt _ s

theorem rekeyDue_due (r : Nat) (s : State) : (rekeyDue r s).due = s.due := by
  have h := drawRequest_due (.range r false false) 64 s
  unfold rekeyDue
  split <;> rename_i hd <;> rw [hd] at h
  · exact (due_rekeyBegin ..).trans h
  · exact h
  · exact Eq.trans (due_congr rfl) h

theorem epochTests_due (s : State) : (epochTests s).due = s.due := due_foldl _ (fun _ r _ => ite_due (rekeyDue_due r _) rfl) s

theorem mkaRestart_due (n : Nat) (s : State) : (mkaRestart n s).due = s.due := by
  unfold mkaRestart
  dsimp only
  refine ite_due ((due_raise ..).trans ?_) ?_ <;> exact (due_put ..).trans ((due_put ..).trans (due_congr rfl))

theorem flowSettle_due (m : Nat) (s : State) : (flowSettle m s).due = s.due :=
  ite_due (flowUpdate_flow ..).due (flowUpdate_flow ..).due

theorem loadEffects_due (was s : State) : (loadEffects was s).due = s.due := by
  unfold loadEffects
  extract_lets differs u v w
  have hu : u.due = s.due := by
    refine due_foldl _ (fun t m hm => ?_) s
    split
    · exact ((abortScan_move (allLanes_lt hm) t).trans (rxKeep_move (allLanes_lt hm) _)).due
    · split
      · exact (abortScan_move (allLanes_lt hm) t).due
      · rfl
  have hv : v.due = u.due := by
    refine due_foldl _ (fun t sl hsl => ?_) u
    extract_lets t'
    have ht : t'.due = t.due := by
      unfold t'
      split
      · exact regrouped_due (lt_of_mem_slices hsl) was t
      · rfl
    split
    · exact (mark_due ..).trans ht
    · exact ht
  have hw : w.due = v.due := (synceSelect_move ..).due
  rw [epochTests_due, due_foldl _ fun t m _ => flowSettle_due m t, hw, hv, hu]

/-- The objects that a profile gives (R473). -/
def State.objectsLoaded (p : Profile) (s : State) : State :=
  { s with dict := {
    nums := (p.nums.filter (fun x => !enabling x.1)).foldl (fun m x => minsert m x.1 x.2)
      (s.dict.nums.filter (fun x => !storedObject x.1))
    octs := p.octs.foldl (fun m x => minsert m x.1 x.2) (s.dict.octs.filter (fun x => !storedObject x.1)) } }

theorem objectsLoaded_due (p : Profile) (s : State) : (s.objectsLoaded p).due = s.due := due_congr rfl

theorem loadObjects_eq (p : Profile) (was : State) : loadObjects p was =
    (fun u : State => (List.range 32).foldl (fun t n => mkaRestart n t) (loadEffects was (u.slices.foldl (fun t sl => loadPower sl t) u)))
      ((loadSodus was).objectsLoaded p) := rfl

theorem loadObjects_due (p : Profile) (s : State) : (loadObjects p s).due = s.due := by
  rw [loadObjects_eq]
  dsimp only
  rw [due_foldl _ fun u n _ => mkaRestart_due n u, loadEffects_due, due_foldl _ fun u sl _ => loadPower_due sl u,
    objectsLoaded_due, loadSodus_due]

theorem readSlots_due (sl : Nat) (is : List Nat) (s : State) : (readSlots sl is s).2.due = s.due := by
  refine List.foldlRecOn (motive := fun a : List (Nat × Nat) × State => a.2.due = s.due) is _ rfl fun a ha i _ => ?_
  have hread : (readSlot sl i a.2).2.due = a.2.due := by
    unfold readSlot
    dsimp only
    split
    · rfl
    · exact (due_raise ..).trans (due_congr rfl)
  exact hread.trans ha

theorem hitch_due (h : Hitch) (s : State) : ({ s with hitch := h } : State).due = s.due := due_congr rfl
theorem putStatic_due (sl i key e : Nat) (s : State) : (s.putStatic sl i key e).due = s.due := due_congr rfl
theorem removeSlot_due (sl i key : Nat) (s : State) : (s.removeSlot sl i key).due = s.due := due_congr rfl

theorem installStatic_due (sl port vid mac secy : Nat) (s : State) : (installStatic sl port vid mac secy s).1.due = s.due := by
  have h := readSlots_due sl (s.candidates sl (packKey port vid mac)) s
  unfold installStatic
  dsimp only
  split
  · exact (putStatic_due ..).trans h
  · split
    · exact (putStatic_due ..).trans h
    · split
      · exact (putStatic_due ..).trans ((due_bump ..).trans h)
      · exact h

theorem loadStatics_due (p : Profile) (s : State) : (loadStatics p s).due = s.due := by
  unfold loadStatics
  dsimp only
  rw [due_foldl _ fun u x _ => installStatic_due .., due_foldl _ fun u x _ => removeSlot_due ..]

theorem tm_due (m : TrafficManager) (s : State) : ({ s with tm := m } : State).due = s.due := due_congr rfl

theorem fillNode_due (sl : Nat) (p : Pipe) (k : Nat) (s : State) : (fillNode sl p k s).due = s.due := tm_due _ s

theorem fillNodes_due (s : State) : (fillNodes s).due = s.due := by
  unfold fillNodes
  refine due_foldl _ (fun u x _ => ?_) s
  split
  · exact fillNode_due ..
  · rfl

/-- The tables that a profile gives, before its static entries (R144, R168, R180). -/
def State.tablesLoaded (p : Profile) (s : State) : State :=
  let filled (t : Nat) (m : SMap Nat) : SMap Nat := m.map (fun x => (x.1, s.tmFill (x.1 / 2 ^ 20) t 0 x.2))
  { s with
    asc := { s.asc with secy := s.loadAssoc 0 s.asc.secy p.secy, txsc := s.loadAssoc 0 s.asc.txsc p.txsc
                        rxsc := s.loadAssoc 2 s.asc.rxsc p.rxsc }
    tm := { s.tm with policer := filled 0 p.policer, queue := filled 1 p.queue, group := filled 2 p.group
                      admission := loadAdmission p.admission s.tm.admission }
    otn := { s.otn with cm := p.cm } }

theorem tablesLoaded_due (p : Profile) (s : State) : (s.tablesLoaded p).due = s.due := due_congr rfl

theorem loadTables_due (p : Profile) (s : State) : (loadTables p s).due = s.due :=
  (fillNodes_due _).trans ((loadStatics_due p (s.tablesLoaded p)).trans (tablesLoaded_due p s))

/-! The enabling objects (R475). -/

theorem portUse_due (m v : Nat) (s : State) : (portUse m v s).1.due = s.due := by
  unfold portUse
  refine ite_fst_due (due_put ..) (ite_fst_due rfl (ite_fst_due rfl (ite_fst_due rfl ?_)))
  split
  · exact (due_put ..).trans ((due_put ..).trans (due_put ..))
  · rfl

theorem tribClear_due (sl k : Nat) (s : State) : (s.tribClear sl k).due = s.due := due_congr rfl
theorem sendAis_due (sl k : Nat) (s : State) : (sendAis sl k s).due = s.due := due_congr rfl
theorem formCalendar_due (sl : Nat) (s : State) : (s.formCalendar sl).due = s.due := due_congr rfl

theorem tribStart_due (load : Bool) (sl k : Nat) (s : State) : (tribStart load sl k s).1.due = s.due := by
  unfold tribStart
  refine ite_fst_due rfl (ite_fst_due rfl (ite_fst_due rfl (ite_fst_due rfl ?_)))
  extract_lets ty slots u lx kind v w x
  have hu : u.due = s.due := (due_put ..).trans ((due_put ..).trans (tribClear_due ..))
  have hv : v.due = u.due := (due_put ..).trans (due_put ..)
  have hw : w.due = v.due := (sendAis_due ..).trans (formCalendar_due ..)
  have hx : x.due = w.due := by
    unfold x
    split
    · rfl
    · exact (setTribDefect_moves sl k 6 true w).due
  have hend : (insertAis sl x).due = x.due := (insertAis_moves sl x).due
  rw [hend, hx, hw, hv, hu]

theorem loadEnable_due (key v : Nat) (s : State) : (loadEnable key v s).2.due = s.due := by
  unfold loadEnable
  dsimp only
  split
  · exact portUse_due ..
  · exact tribStart_due ..
  · exact due_put ..

theorem enables_due (l : List (Nat × Nat)) (a : Bool × State) :
    (l.foldl (fun (a : Bool × State) x => (a.1 && (loadEnable x.1 x.2 a.2).1, (loadEnable x.1 x.2 a.2).2)) a).2.due = a.2.due := by
  induction l generalizing a with
  | nil => rfl
  | cons x l ih =>
    rw [List.foldl_cons, ih]
    exact loadEnable_due ..

theorem applyProfile_due (p : Profile) (s : State) : (applyProfile p s).1.due = s.due := by
  have hbase : (loadTables p (loadObjects p s)).due = s.due := (loadTables_due ..).trans (loadObjects_due ..)
  unfold applyProfile
  generalize loadTables p (loadObjects p s) = u at hbase
  exact (enables_due _ (true, u)).trans hbase

/-! ### What a load ends with (R405, R473, R474) -/

/-- From `s` to `t` the pair may have joined, and lanes moved. -/
structure Joins (s t : State) : Prop where
  asc : t.asc = s.asc
  tm : t.tm = s.tm
  hitch : t.hitch = s.hitch
  due : t.due = s.due
  status : t.ob rpIx Sub.rpCtl_RP_LOAD_STATUS = s.ob rpIx Sub.rpCtl_RP_LOAD_STATUS

theorem Joins.refl (s : State) : Joins s s := ⟨rfl, rfl, rfl, rfl, rfl⟩

theorem Joins.trans (h : Joins s t) (h' : Joins t u) : Joins s u :=
  ⟨h'.asc.trans h.asc, h'.tm.trans h.tm, h'.hitch.trans h.hitch, h'.due.trans h.due, h'.status.trans h.status⟩

theorem LanesMove.joins (h : LanesMove s t) : Joins s t :=
  ⟨h.asc, h.tm, h.hitch, h.due, h.ob _ _ ⟨.inl (by decide), by decide⟩ (by decide)⟩

theorem pair_joins (p : Understudy) (s : State) : Joins s { s with pair := p } := ⟨rfl, rfl, rfl, due_congr rfl, rfl⟩

theorem raise_joins (code slice : Nat) (items : Bytes) (s : State) : Joins s (s.raise code slice items) :=
  ⟨State.raise_asc .., State.raise_tm .., State.raise_hitch .., due_raise .., State.ob_raise (by decide) (by decide)⟩

theorem put_joins {ix sub : Nat} (h : okey rpIx Sub.rpCtl_RP_LOAD_STATUS ≠ okey ix sub) (v : Nat) (s : State) : Joins s (s.put ix sub v) :=
  ⟨rfl, rfl, rfl, due_put .., State.ob_put_ne h⟩

theorem takeFree_joins (s : State) : Joins s s.takeFree.2 := ⟨rfl, rfl, rfl, due_congr rfl, rfl⟩

theorem setPairState_joins {v : Nat} (hv : v ≠ 6) (s : State) : Joins s (setPairState v s) := by
  obtain h | ⟨w, h⟩ := setPairState_cases hv s
  · rw [h]
    exact .refl s
  · rw [h]
    exact (((takeFree_joins s).trans (put_joins (by decide) ..)).trans (raise_joins ..)).trans (pair_joins ..)

theorem assertSelAct_joins (s : State) : Joins s (assertSelAct s) := by
  unfold assertSelAct
  split
  · exact (pair_joins ..).trans (settleLanes_move _).joins
  · exact .refl s

theorem pairJoin_joins (s : State) : Joins s (pairJoin s) := by
  unfold pairJoin
  split
  · exact (pair_joins ..).trans (setPairState_joins (by decide) _)
  · exact .refl s

theorem afterLoad_joins (s : State) : Joins s (afterLoad s) := by
  unfold afterLoad
  split
  · exact ((assertSelAct_joins s).trans (pairJoin_joins _)).trans (settleLanes_move _).joins
  · exact (settleLanes_move s).joins

/-- The status of a load stands in its object (R474). -/
theorem recordLoad_status (st : Status) (s : State) : (recordLoad n st s).ob rpIx Sub.rpCtl_RP_LOAD_STATUS = st.code := State.ob_put_self ..

theorem recordLoad_due (st : Status) (s : State) : (recordLoad n st s).due = s.due := (due_put ..).trans rfl

/-! ### The window (R477) -/

/-- The Repertoire window has taken the operation `code`. -/
def State.rpTaken (code : Nat) (s : State) : State := s.put rpWinIx Sub.rpWin_RP_OP code

theorem rpTaken_openProfile (code n : Nat) (s : State) : (s.rpTaken code).openProfile n = s.openProfile n := by
  have hslot : (s.rpTaken code).storageSlot = s.storageSlot := by
    unfold State.storageSlot
    rw [State.rpTaken, State.ob_put_ne (by decide)]
    rfl
  unfold State.openProfile State.repKey
  rw [hslot]
  rfl

section Row
variable {code : Nat} {stat : Status} (h : Starts s c rpWinIx Sub.rpWin_RP_OP Sub.rpWin_RP_STATUS code)
  (hact : rpOp code (s.rpTaken code) = (u, some stat)) (hdue : u.due = s.due)
include h hact hdue

theorem rowRp_posts : PostedFrom u c rpWinIx Sub.rpWin_RP_OP Sub.rpWin_RP_STATUS stat (rowRp c code s).post :=
  rowWindowStart_posts h hact hdue

theorem rowRp_acc : ∃ l, (rowRp c code s).post.acc = { u.acc with lastSet := l } := by
  have hrow : rowRp c code s = (((s.rpTaken code).holdBack rpWinIx Sub.rpWin_RP_STATUS stat u).noteCycle c
      [okey rpWinIx Sub.rpWin_RP_OP]).complete c rpWinIx Sub.rpWin_RP_OP .ok := by
    obtain ⟨⟨hw, hc⟩, hb, hu, -⟩ := h
    have hact' : rpOp code (s.put rpWinIx Sub.rpWin_RP_OP code) = (u, some stat) := hact
    simp [rowRp, rowWindowStart, rowWrite_ok hw hc, windowStart, hb, keepOwed_none hu, hact', State.rpTaken]
  rw [hrow]
  exact holdBack_acc h hdue _

/-- An operation that leaves the sessions and the profiles alone. -/
theorem rowRp_access (hacc : u.acc = s.acc) : (rowRp c code s).post.acc = s.accessOf (rowRp c code s).post := by
  obtain ⟨l, hl⟩ := rowRp_acc h hact hdue
  rw [State.accessOf, hl, hacc]

end Row

theorem posted_hitch {ix op st : Nat} {stat : Status} (h : PostedFrom u c ix op st stat t) : t.hitch = u.hitch := by
  obtain ⟨d, a, ht⟩ := h.rest
  rw [ht]

section Ops
variable (hn : s.ob rpWinIx Sub.rpWin_RP_INDEX = n) (h4 : n < 4)
include hn

theorem rpTaken_index (code : Nat) : (s.rpTaken code).ob rpWinIx Sub.rpWin_RP_INDEX = n := (State.ob_put_ne (by decide)).trans hn

theorem rpOp_select : rpOp 5 (s.rpTaken 5) = ((s.rpTaken 5).put rpIx Sub.rpCtl_RP_NEXT n, some .ok) := by
  unfold rpOp
  rw [rpTaken_index hn]
  rfl

include h4

theorem rpOp_store : rpOp 1 (s.rpTaken 1) = rpStore n (s.rpTaken 1) := by
  unfold rpOp
  rw [rpTaken_index hn]
  exact (if_neg (by decide)).trans ((if_neg (by decide)).trans (if_neg (by omega)))

theorem rpOp_load : rpOp 2 (s.rpTaken 2) = ((rpLoad n (s.rpTaken 2)).1, some (rpLoad n (s.rpTaken 2)).2) := by
  unfold rpOp
  rw [rpTaken_index hn]
  exact (if_neg (by decide)).trans ((if_neg (by decide)).trans (if_neg (by omega)))

theorem rpOp_erase : rpOp 3 (s.rpTaken 3) = ((rpErase n (s.rpTaken 3)).1, some (rpErase n (s.rpTaken 3)).2) := by
  unfold rpOp
  rw [rpTaken_index hn]
  exact (if_neg (by decide)).trans ((if_neg (by decide)).trans (if_neg (by omega)))

theorem rpOp_digest : rpOp 4 (s.rpTaken 4) = ((rpDigest n (s.rpTaken 4)).1, some (rpDigest n (s.rpTaken 4)).2) := by
  unfold rpOp
  rw [rpTaken_index hn]
  exact (if_neg (by decide)).trans ((if_neg (by decide)).trans (if_neg (by omega)))

end Ops

theorem rpTaken_ob {ix sub : Nat} (hix : ix ≠ rpWinIx) (hsub : sub < 256) (code : Nat) (s : State) :
    (s.rpTaken code).ob ix sub = s.ob ix sub := State.ob_put_ne fun h => hix (okey_inj hsub (by decide) h).1

theorem rpTaken_anyEnabled (code : Nat) (s : State) : (s.rpTaken code).anyEnabled = s.anyEnabled := by
  have hport (m : Nat) : (s.rpTaken code).portOn m = s.portOn m := by
    unfold State.portOn State.obB
    rw [rpTaken_ob (by unfold Ix.port rpWinIx; omega) (by decide)]
  have htrib (sl k : Nat) : (s.rpTaken code).obB (Ix.otn sl (0x10 + k)) Sub.trib_TRIB_ENABLE = s.obB (Ix.otn sl (0x10 + k)) Sub.trib_TRIB_ENABLE := by
    unfold State.obB
    rw [rpTaken_ob (by unfold Ix.otn rpWinIx; omega) (by decide)]
  have hslices : (s.rpTaken code).slices = s.slices := by
    unfold State.slices State.sliceOn
    rw [rpTaken_ob (by decide) (by decide)]
  have hpaired : (s.rpTaken code).paired = s.paired := by
    unfold State.paired State.obB
    rw [rpTaken_ob (by decide) (by decide)]
  have hslice : (s.rpTaken code).sliceInUse = s.sliceInUse := by
    funext sl
    unfold State.sliceInUse
    simp only [hport, htrib]
  unfold State.anyEnabled
  rw [hslices, hpaired, hslice]

/-! ### The load that ends configuration (R405, R472) -/

/-- A load by the firmware of itself leaves the role to the end of configuration. -/
theorem bootLoad_joins {st : Status} {w : State} (h : loadProfile n s = (w, st)) : bootLoad n s = (recordLoad n st w).raise 0x0103 0xFF
    (be 1 n ++ be 1 st.code) := by
  unfold bootLoad
  rw [h]

theorem loaded_paired (st : Status) (items : Bytes) (w : State) : ((recordLoad n st w).raise 0x0103 0xFF items).paired = w.paired := by
  unfold State.paired State.obB
  rw [State.ob_raise (by decide) (by decide)]
  exact congrArg (· != 0) (State.ob_put_ne (by decide))

/-- Configuration has ended: the timer that R405 counts from, and no heartbeat heard yet (R410). -/
def State.gapOver (s : State) : State := heardFrom (({ s with rst := { s.rst with gap := false } } : State).mark Timer.config)

theorem gapOver_joins (s : State) : Joins s s.gapOver := ⟨rfl, rfl, rfl, due_congr rfl, rfl⟩

theorem endGap_alone (h : s.paired = false) : endGap s = (s.gapOver.put psIx Sub.pairStat_ROLE 1).settleLanes := by
  have hp : (!s.gapOver.paired) = true := (congrArg (! ·) h).trans rfl
  exact if_pos hp

theorem endGap_ends (h : s.paired = false) : Joins s (endGap s) ∧ (endGap s).rst.gap = false ∧ (endGap s).roleOn = true ∧
    (endGap s).ob rpIx Sub.rpCtl_RP_ACTIVE = s.ob rpIx Sub.rpCtl_RP_ACTIVE := by
  have hmove := settleLanes_move (s.gapOver.put psIx Sub.pairStat_ROLE 1)
  rw [endGap_alone h]
  refine ⟨((gapOver_joins s).trans (put_joins (by decide) ..)).trans hmove.joins, ?_, ?_, ?_⟩
  · rw [hmove.rst]
    rfl
  · unfold State.roleOn State.obB
    rw [hmove.ob _ _ ⟨.inr (by decide), by decide⟩ (by decide), State.ob_put_self]
    rfl
  · exact (hmove.ob _ _ ⟨.inl (by decide), by decide⟩ (by decide)).trans (State.ob_put_ne (by decide))

/-- The profile that configuration takes is marked as the active one (R472). -/
def State.rpMarked (n : Nat) (s : State) : State := s.put rpIx Sub.rpCtl_RP_ACTIVE n

theorem rpMarked_openProfile (n k : Nat) (s : State) : (s.rpMarked n).openProfile k = s.openProfile k := by
  have hslot : (s.rpMarked n).storageSlot = s.storageSlot := by
    unfold State.storageSlot
    rw [State.rpMarked, State.ob_put_ne (by decide)]
    rfl
  unfold State.openProfile State.repKey
  rw [hslot]
  rfl

theorem profileLoad_gap (hstep : s.rst.step = 5) (hcores : s.rst.coresHeld = false) (hgap : s.rst.gap = true)
    (hnext : s.ob rpIx Sub.rpCtl_RP_NEXT = n) (h4 : n < 4) : profileLoad s = endGap (bootLoad n (s.rpMarked n)) := by
  unfold profileLoad
  rw [if_neg (by rw [hstep, hcores]; decide), if_pos hgap, hnext]
  dsimp only
  rw [if_neg (show ¬n = 0xFF by omega)]
  rfl

theorem profileLoad_none (h : s.rst.step ≠ 5 ∨ s.rst.coresHeld = true ∨ (s.rst.gap = false ∧ s.acc.again = none)) : profileLoad s = s := by
  unfold profileLoad
  by_cases hfirst : s.rst.step ≠ 5 ∨ s.rst.coresHeld = true
  · exact if_pos hfirst
  · obtain h | h | ⟨hgap, hagain⟩ := h
    · exact absurd (.inl h) hfirst
    · exact absurd (.inr h) hfirst
    · rw [if_neg hfirst, hgap, hagain]
      exact if_neg (by decide)

theorem rpLoad_idle {w : State} {st : Status} (hidle : s.anyEnabled = false) (h : loadProfile n s = (w, st)) :
    rpLoad n s = (afterLoad (recordLoad n st w), st) := by
  unfold rpLoad
  rw [hidle, h]
  exact if_neg (by decide)

/-- Settles O40. An image beyond 8 MiB is refused RANGE: the model's choice (log 148). -/
theorem repertoireWorks : Obligations.RepertoireWorks := by
  refine fun s c n hn h4 => ⟨fun k p hst hkek hkey hp => ?_, fun hst hkek => ?_, fun p w hst hidle hopen hload => ?_, fun hst hbusy => ?_,
    fun hst hactive => ?_, fun hst hactive => ?_, fun p hst hopen => ?_, fun hst => ?_,
    fun p w hstep hcores hgap halone hnext hopen hload hwalone => ?_, fun h => ?_, fun st hstep hcores hgap halone hnext hopen => ?_⟩
  · have hp : (s.rpTaken 1).config = p := hp.symm
    have hkey' : (s.rpTaken 1).repKey = some k := by
      have hslot : (s.rpTaken 1).storageSlot = s.storageSlot := by
        unfold State.storageSlot
        rw [rpTaken_ob (by decide) (by decide)]
        rfl
      unfold State.repKey
      rw [hslot]
      exact hkey
    have hhave : ¬(!((s.rpTaken 1).kekAt 0).valid) = true := by
      rw [show (s.rpTaken 1).kekAt 0 = s.kekAt 0 from rfl, hkek]
      decide
    by_cases hfits : p.fits = true
    · have hact : rpOp 1 (s.rpTaken 1) = (saveProfile n k p (s.rpTaken 1), some .ok) := by
        rw [rpOp_store hn h4]
        unfold rpStore
        rw [if_neg hhave, hp, if_neg (by rw [hfits]; decide), hkey']
      have hpost := rowRp_posts hst hact ((due_put ..).trans rfl)
      obtain ⟨l, hacc⟩ := rowRp_acc hst hact ((due_put ..).trans rfl)
      rw [if_pos hfits, if_pos hfits]
      refine ⟨_, rfl, ?_, hpost.ends⟩
      rw [hacc]
      exact mfind_minsert_self ..
    · have hact : rpOp 1 (s.rpTaken 1) = (s.rpTaken 1, some .range) := by
        rw [rpOp_store hn h4]
        unfold rpStore
        rw [if_neg hhave, hp, if_pos (by simpa using hfits)]
      have hpost := rowRp_posts hst hact (due_put ..)
      obtain ⟨l, hacc⟩ := rowRp_acc hst hact (due_put ..)
      rw [if_neg hfits, if_neg hfits]
      refine ⟨_, rfl, ?_, hpost.ends⟩
      rw [hacc]
      rfl
  · have hact : rpOp 1 (s.rpTaken 1) = (s.rpTaken 1, some .notReady) := by
      rw [rpOp_store hn h4]
      exact if_pos (by rw [show (s.rpTaken 1).kekAt 0 = s.kekAt 0 from rfl, hkek]; rfl)
    exact ⟨_, rfl, rowRp_access hst hact (due_put ..) rfl, (rowRp_posts hst hact (due_put ..)).ends⟩
  · have hloaded : loadProfile n (s.rpTaken 2) = (w, .ok) := by
      unfold loadProfile
      rw [rpTaken_openProfile, hopen]
      exact hload
    have hact : rpOp 2 (s.rpTaken 2) = (afterLoad (recordLoad n .ok w), some .ok) := by
      rw [rpOp_load hn h4, rpLoad_idle ((rpTaken_anyEnabled ..).trans hidle) hloaded]
    obtain ⟨hasc, htm, hhitch, hdue, hstatus⟩ := afterLoad_joins (recordLoad n .ok w)
    have hw : w.due = s.due := by
      have h := applyProfile_due p (s.rpTaken 2)
      rw [show applyProfile p (s.rpTaken 2) = (w, .ok) from hload] at h
      exact h.trans (due_put ..)
    have hpost := rowRp_posts hst hact (hdue.trans ((recordLoad_due ..).trans hw))
    refine ⟨_, rfl, hpost.asc.trans hasc, hpost.tm.trans htm, (posted_hitch hpost).trans hhitch, ?_, hpost.ends⟩
    exact (hpost.ob ..).trans ((State.ob_put_ne (by decide)).trans (hstatus.trans (recordLoad_status ..)))
  · have hact : rpOp 2 (s.rpTaken 2) = (s.rpTaken 2, some .busy) := by
      rw [rpOp_load hn h4]
      unfold rpLoad
      rw [rpTaken_anyEnabled, hbusy]
      rfl
    have hpost := rowRp_posts hst hact (due_put ..)
    exact ⟨_, rfl, rowRp_access hst hact (due_put ..) rfl, hpost.asc, hpost.ends⟩
  · have hact : rpOp 3 (s.rpTaken 3) =
        ({ s.rpTaken 3 with acc := { s.acc with profiles := merase s.acc.profiles n } }, some .ok) := by
      rw [rpOp_erase hn h4]
      unfold rpErase
      rw [rpTaken_ob (by decide) (by decide), if_neg hactive]
      rfl
    have hpost := rowRp_posts hst hact rfl
    obtain ⟨l, hacc⟩ := rowRp_acc hst hact rfl
    refine ⟨_, rfl, ?_, hpost.ends⟩
    rw [hacc]
    exact mfind_merase_self ..
  · have hact : rpOp 3 (s.rpTaken 3) = (s.rpTaken 3, some .busy) := by
      rw [rpOp_erase hn h4]
      unfold rpErase
      rw [rpTaken_ob (by decide) (by decide), if_pos hactive]
    exact ⟨_, rfl, rowRp_access hst hact (due_put ..) rfl, (rowRp_posts hst hact (due_put ..)).ends⟩
  · have hact : rpOp 4 (s.rpTaken 4) = ((s.rpTaken 4).putO rpWinIx Sub.rpWin_RP_DIGEST p.digest, some .ok) := by
      rw [rpOp_digest hn h4]
      unfold rpDigest
      rw [rpTaken_openProfile, hopen]
    have hdue : ((s.rpTaken 4).putO rpWinIx Sub.rpWin_RP_DIGEST p.digest).due = s.due := (due_putO ..).trans (due_put ..)
    have hpost := rowRp_posts hst hact hdue
    exact ⟨_, rfl, (hpost.oct ..).trans (State.oct_putO_self ..), rowRp_access hst hact hdue rfl, hpost.ends⟩
  · have hdue : ((s.rpTaken 5).put rpIx Sub.rpCtl_RP_NEXT n).due = s.due := (due_put ..).trans (due_put ..)
    have hpost := rowRp_posts hst (rpOp_select hn) hdue
    refine ⟨_, rfl, ?_, rowRp_access hst (rpOp_select hn) hdue rfl, hpost.ends⟩
    exact (hpost.ob ..).trans ((State.ob_put_ne (by decide)).trans (State.ob_put_self ..))
  · have hloaded : loadProfile n (s.rpMarked n) = (w, .ok) := by
      unfold loadProfile
      rw [rpMarked_openProfile, hopen]
      exact hload
    have hexec := (profileLoad_gap hstep hcores hgap hnext h4).trans (congrArg endGap (bootLoad_joins hloaded))
    obtain ⟨⟨hasc, htm, hhitch, -, hstatus⟩, hover, hrole, -⟩ := endGap_ends ((loaded_paired (n := n) .ok (be 1 n ++ be 1 Status.ok.code) w).trans hwalone)
    obtain ⟨hasc', htm', hhitch', -, hstatus'⟩ := raise_joins 0x0103 0xFF (be 1 n ++ be 1 Status.ok.code) (recordLoad n .ok w)
    exact ⟨_, congrArg Host.Outcome.next hexec, hover, hstatus.trans (hstatus'.trans (recordLoad_status ..)), hasc.trans hasc', htm.trans htm',
      hhitch.trans hhitch', hrole⟩
  · exact congrArg Host.Outcome.next (profileLoad_none h)
  · have hloaded : loadProfile n (s.rpMarked n) = (s.rpMarked n, st) := by
      unfold loadProfile
      rw [rpMarked_openProfile, hopen]
    have halone' : (s.rpMarked n).paired = false := (congrArg (· != 0) (State.ob_put_ne (by decide))).trans halone
    have hexec := (profileLoad_gap hstep hcores hgap hnext h4).trans (congrArg endGap (bootLoad_joins hloaded))
    obtain ⟨⟨-, -, -, -, hstatus⟩, hover, hrole, hactive⟩ := endGap_ends
      ((loaded_paired (n := n) st (be 1 n ++ be 1 st.code) (s.rpMarked n)).trans halone')
    obtain ⟨-, -, -, -, hstatus'⟩ := raise_joins 0x0103 0xFF (be 1 n ++ be 1 st.code) (recordLoad n st (s.rpMarked n))
    refine ⟨_, congrArg Host.Outcome.next hexec, hover, hactive.trans ?_, hstatus.trans (hstatus'.trans (recordLoad_status ..)), hrole⟩
    exact (State.ob_raise (by decide) (by decide)).trans ((State.ob_put_ne (by decide)).trans (State.ob_put_self ..))

end Sys2Proof.Machine
end

section
/-! Writes of objects leave it alone whether the request that makes them has been answered: one equation for each operation that a
write can start, in the order of the model's files, for `simp` (R458, R465, R502). -/

namespace Sys2Proof.Machine

/-- Whether the request being taken has been answered already (R502). -/
def State.quiet (s : State) : Bool := s.acc.silent

@[simp] theorem State.quiet_mk (a b c d e f g h i j k l m n o p q r u v w x y) :
    State.quiet ⟨a, b, c, d, e, f, g, h, i, j, k, l, m, n, o, p, q, r, u, v, w, x, y⟩ = l.silent := rfl

@[simp] theorem State.quiet_eta (s : State) : s.acc.silent = s.quiet := rfl

@[simp] theorem State.quiet_ite (c : Prop) [Decidable c] (s t : State) :
    (if c then s else t).quiet = if c then s.quiet else t.quiet := by split <;> rfl

/-- A fold whose every turn leaves it alone leaves it alone. -/
theorem State.quiet_foldl {β : Type} {f : State → β → State} (h : ∀ u b, (f u b).quiet = u.quiet) (l : List β) (s : State) :
    (l.foldl f s).quiet = s.quiet := by
  induction l generalizing s with
  | nil => rfl
  | cons b l ih => exact (ih _).trans (h s b)

theorem State.quiet_foldl_snd {α β : Type} {f : α × State → β → α × State} (h : ∀ u b, (f u b).2.quiet = u.2.quiet)
    (l : List β) (p : α × State) : (l.foldl f p).2.quiet = p.2.quiet := by
  induction l generalizing p with
  | nil => rfl
  | cons b l ih => exact (ih _).trans (h p b)

/-! ### Writes, windows and answers (`Ops`) -/

@[simp] theorem State.put_quiet (ix sub v) (s : State) : (s.put ix sub v).quiet = s.quiet := State.quiet_mk ..

@[simp] theorem State.putO_quiet (ix sub v) (s : State) : (s.putO ix sub v).quiet = s.quiet := State.quiet_mk ..

@[simp] theorem State.addOb_quiet (ix sub w n) (s : State) : (s.addOb ix sub w n).quiet = s.quiet := State.quiet_mk ..

@[simp] theorem State.bump_quiet (c) (s : State) : (s.bump c).quiet = s.quiet := State.quiet_mk ..

@[simp] theorem State.emit_quiet (e) (s : State) : (s.emit e).quiet = s.quiet := State.quiet_mk ..

@[simp] theorem State.takeFree_quiet (s : State) : (s.takeFree).2.quiet = s.quiet := State.quiet_mk ..

@[simp] theorem State.mark_quiet (k) (s : State) : (s.mark k).quiet = s.quiet := State.quiet_mk ..

@[simp] theorem State.putSess_quiet (k x) (s : State) : (s.putSess k x).quiet = s.quiet := State.quiet_mk ..

@[simp] theorem State.logEventAt_quiet (ns code slice items) (s : State) : (s.logEventAt ns code slice items).2.quiet = s.quiet :=
  State.quiet_mk ..

@[simp] theorem State.logEvent_quiet (code slice items) (s : State) :
    (s.logEvent code slice items).2.quiet = s.quiet := State.quiet_mk ..

@[simp] theorem State.notify_quiet (k r) (s : State) : (s.notify k r).quiet = s.quiet := by
  unfold State.notify
  dsimp only
  repeat' split
  all_goals simp

@[simp] theorem State.eventsLost_quiet (n) (s : State) : (s.eventsLost n).quiet = s.quiet := State.quiet_mk ..

@[simp] theorem State.raiseAt_quiet (ns code slice items) (s : State) : (s.raiseAt ns code slice items).quiet = s.quiet := by
  simp [State.raiseAt, State.quiet_foldl]

@[simp] theorem State.raise_quiet (code slice items) (s : State) : (s.raise code slice items).quiet = s.quiet := by simp [State.raise]

@[simp] theorem State.alarm_quiet (src detail) (s : State) : (s.alarm src detail).quiet = s.quiet := by simp [State.alarm]

@[simp] theorem State.finish_quiet (who ix sub st) (s : State) : (s.finish who ix sub st).quiet = s.quiet := by
  unfold State.finish
  dsimp only
  split
  · split <;> simp
  · simp

@[simp] theorem State.winEnd_quiet (ix stSub st) (s : State) : (s.winEnd ix stSub st).quiet = s.quiet := State.quiet_mk ..

@[simp] theorem State.winRun_quiet (ix stSub) (s : State) : (s.winRun ix stSub).quiet = s.quiet := State.quiet_mk ..

@[simp] theorem State.holdBack_quiet (ix stSub st) (s t : State) : (s.holdBack ix stSub st t).quiet = t.quiet := by
  simp [State.holdBack]

@[simp] theorem keepOwed_quiet (ix stSub) (s : State) : (keepOwed ix stSub s).quiet = s.quiet := by simp [keepOwed]

@[simp] theorem windowStart_quiet (ix opSub stSub code) (act : State → State × Option Status) (s : State)
    (h : ∀ u, (act u).1.quiet = u.quiet) : (windowStart ix opSub stSub code act s).1.quiet = s.quiet := by
  unfold windowStart
  split
  · rfl
  · have hact := h ((keepOwed ix stSub s).put ix opSub code)
    dsimp only
    split <;> rename_i hr <;> simp_all

@[simp] theorem State.retry_quiet (ix sub) (r : State × Status) : (State.retry ix sub r).1.quiet = r.1.quiet := State.quiet_mk ..

/-! ### Lanes (`Lanes`) -/

@[simp] theorem State.showLane_quiet (was : State) (m) (s : State) : (was.showLane m s).quiet = s.quiet := by
  unfold State.showLane; split <;> simp

@[simp] theorem State.setNow_quiet (m v) (s : State) : (s.setNow m v).quiet = s.quiet := by simp [State.setNow]

@[simp] theorem State.setGoal_quiet (m g) (s : State) : (s.setGoal m g).quiet = s.quiet := State.quiet_mk ..

@[simp] theorem State.startTx_quiet (m) (s : State) : (s.startTx m).quiet = s.quiet := by simp [State.startTx]

@[simp] theorem State.abortScan_quiet (m) (s : State) : (s.abortScan m).quiet = s.quiet := by simp [State.abortScan]

@[simp] theorem txStateWrite_quiet (m v) (s : State) : (txStateWrite m v s).1.quiet = s.quiet := by unfold txStateWrite; split <;> simp

@[simp] theorem State.synceSelect_quiet (was) (s : State) : (s.synceSelect was).quiet = s.quiet := by simp [State.synceSelect]

@[simp] theorem losLane_quiet (m) (s : State) : (losLane m s).quiet = s.quiet := by simp [losLane]

@[simp] theorem State.rxReport_quiet (m signal lock) (s : State) :
    (s.rxReport m signal lock).quiet = s.quiet := by simp [State.rxReport]

@[simp] theorem State.dropLock_quiet (m) (s : State) : (s.dropLock m).quiet = s.quiet := by simp [State.dropLock]

@[simp] theorem State.rxKeep_quiet (m) (s : State) : (s.rxKeep m).quiet = s.quiet := by simp [State.rxKeep]

@[simp] theorem State.rxSettle_quiet (m) (s : State) : (s.rxSettle m).quiet = s.quiet := by simp [State.rxSettle]

@[simp] theorem State.setRx_quiet (m v) (s : State) : (s.setRx m v).quiet = s.quiet := by simp [State.setRx]

@[simp] theorem rxStateWrite_quiet (m v) (s : State) : (rxStateWrite m v s).1.quiet = s.quiet := by unfold rxStateWrite; split <;> simp

@[simp] theorem heldRxApply_quiet (m) (s : State) : (heldRxApply m s).quiet = s.quiet := by unfold heldRxApply; split <;> simp

@[simp] theorem heldTxApply_quiet (m) (s : State) : (heldTxApply m s).quiet = s.quiet := by unfold heldTxApply; split <;> simp

@[simp] theorem applyHeld_quiet (m) (s : State) : (applyHeld m s).quiet = s.quiet := by simp [applyHeld]

@[simp] theorem State.settleLane_quiet (m) (s : State) : (s.settleLane m).quiet = s.quiet := by unfold State.settleLane; split <;> simp

@[simp] theorem State.settleLanes_quiet (s : State) : s.settleLanes.quiet = s.quiet := by simp [State.settleLanes, State.quiet_foldl]

@[simp] theorem rateWrite_quiet (m v) (s : State) : (rateWrite m v s).1.quiet = s.quiet := by
  unfold rateWrite
  repeat' split
  all_goals simp

@[simp] theorem prbsGenWrite_quiet (m v) (s : State) : (prbsGenWrite m v s).1.quiet = s.quiet := by unfold prbsGenWrite; split <;> simp

@[simp] theorem prbsChkWrite_quiet (m v) (s : State) : (prbsChkWrite m v s).1.quiet = s.quiet := by unfold prbsChkWrite; split <;> simp

@[simp] theorem laneWrite_quiet (m sub v) (s : State) : (laneWrite m sub v s).1.quiet = s.quiet := by
  unfold laneWrite
  repeat' split
  all_goals simp

@[simp] theorem scanStart_quiet (m) (s : State) : (scanStart m s).1.quiet = s.quiet := by unfold scanStart; split <;> simp

@[simp] theorem scanAbort_quiet (m) (s : State) : (scanAbort m s).1.quiet = s.quiet := by simp [scanAbort]

@[simp] theorem scanWrite_quiet (m sub v) (s : State) : (scanWrite m sub v s).1.quiet = s.quiet := by
  unfold scanWrite
  repeat' split
  all_goals simp

@[simp] theorem State.characterise_quiet (m) (s : State) : (s.characterise m).quiet = s.quiet := State.quiet_mk ..

@[simp] theorem portUse_quiet (m v) (s : State) : (portUse m v s).1.quiet = s.quiet := by
  unfold portUse
  repeat' split
  all_goals simp

@[simp] theorem portEnable_quiet (m v) (s : State) : (portEnable m v s).1.quiet = s.quiet := by unfold portEnable; split <;> simp

@[simp] theorem portWrite_quiet (m sub v) (s : State) : (portWrite m sub v s).1.quiet = s.quiet := by
  unfold portWrite
  repeat' split
  all_goals simp

@[simp] theorem State.loopBack_quiet (m b cut) (s : State) : (s.loopBack m b cut).quiet = s.quiet := State.quiet_mk ..

@[simp] theorem sendOut_quiet (m e b cut) (s : State) : (sendOut m e b cut s).quiet = s.quiet := by
  unfold sendOut
  repeat' split
  all_goals simp

@[simp] theorem State.emitFill_quiet (m) (s : State) : (s.emitFill m).quiet = s.quiet := State.quiet_mk ..

/-! ### Table entries (`Entries`) -/

@[simp] theorem State.putSecy_quiet (sl i e) (s : State) : (s.putSecy sl i e).quiet = s.quiet := State.quiet_mk ..

@[simp] theorem State.putTxsc_quiet (sl i e) (s : State) : (s.putTxsc sl i e).quiet = s.quiet := State.quiet_mk ..

@[simp] theorem State.putRxsc_quiet (sl i e) (s : State) : (s.putRxsc sl i e).quiet = s.quiet := State.quiet_mk ..

@[simp] theorem State.putSa_quiet (sl i e) (s : State) : (s.putSa sl i e).quiet = s.quiet := State.quiet_mk ..

@[simp] theorem State.putKey_quiet (sl i e) (s : State) : (s.putKey sl i e).quiet = s.quiet := State.quiet_mk ..

@[simp] theorem State.abump_quiet (table sl i n k) (s : State) : (s.abump table sl i n k).quiet = s.quiet := State.quiet_mk ..

@[simp] theorem State.azero_quiet (table sl i) (s : State) : (s.azero table sl i).quiet = s.quiet := State.quiet_mk ..

@[simp] theorem sliceOp_quiet (sl) (act : State → State × Status) (s : State) (h : ∀ u, (act u).1.quiet = u.quiet) :
    (sliceOp sl act s).1.quiet = s.quiet := by
  unfold sliceOp
  split <;> simp [h]

/-! ### The clock (`Time`) -/

@[simp] theorem timeStepCommit_quiet (op arg) (s : State) : (timeStepCommit op arg s).1.quiet = s.quiet := by
  unfold timeStepCommit
  split <;> simp

@[simp] theorem timeStepSet_quiet (s : State) : (timeStepSet s).1.quiet = s.quiet := by simp [timeStepSet]

@[simp] theorem timeStepOffset_quiet (s : State) : (timeStepOffset s).1.quiet = s.quiet := by simp [timeStepOffset]

@[simp] theorem timeUnlock_quiet (s : State) : (timeUnlock s).1.quiet = s.quiet := by unfold timeUnlock; split <;> simp

@[simp] theorem timeOp_quiet (code) (s : State) : (timeOp code s).1.quiet = s.quiet := by unfold timeOp; split <;> simp

@[simp] theorem incrWrite_quiet (v) (s : State) : (incrWrite v s).1.quiet = s.quiet := by unfold incrWrite; split <;> simp

@[simp] theorem synceWrite_quiet (sub_ n) (s : State) : (synceWrite sub_ n s).1.quiet = s.quiet := by simp [synceWrite]

@[simp] theorem fupStore_quiet (sl p e) (s : State) : (fupStore sl p e s).quiet = s.quiet := by simp [fupStore]

@[simp] theorem tc_quiet (c p b o udp tin ein tout) (s : State) : (tc c p b o udp tin ein tout s).2.quiet = s.quiet := by
  unfold tc
  extract_lets sl cnt mode ty fix
  have hcnt (k : Nat) (u : State) : (cnt k u).quiet = u.quiet := State.bump_quiet ..
  have hfix (r : Int) (k : Nat) (u : State) : (fix r k u).2.quiet = u.quiet := by
    simp only [fix]; split <;> simp [hcnt]
  split_ifs
  any_goals simp only [hcnt]
  · simp
  · exact hfix ..
  · split
    · simp [hfix]
    · simp [hcnt]

@[simp] theorem clockWrite_quiet (sub_ v) (s : State) : (clockWrite sub_ v s).1.quiet = s.quiet := by
  unfold clockWrite
  repeat' split
  all_goals simp

/-! ### Tags (`Tags`) -/

@[simp] theorem State.tagWrite_quiet (mk) (s : State) : (s.tagWrite mk).quiet = s.quiet := by
  unfold State.tagWrite
  dsimp only
  repeat' split
  all_goals simp

@[simp] theorem tagEnd_quiet (sl p ctr f) (s : State) : (tagEnd sl p ctr f s).quiet = s.quiet := by unfold tagEnd; split <;> simp

@[simp] theorem discardAs_quiet (sl p ctr f) (s : State) : (discardAs sl p ctr f s).quiet = s.quiet := by simp [discardAs]

/-! ### Admission, policers and queues (`Tm`) -/

@[simp] theorem State.putQueue_quiet (sl p i e) (s : State) : (s.putQueue sl p i e).quiet = s.quiet := State.quiet_mk ..

@[simp] theorem State.putGroup_quiet (sl p i e) (s : State) : (s.putGroup sl p i e).quiet = s.quiet := State.quiet_mk ..

@[simp] theorem State.putAdm_quiet (sl p i e) (s : State) : (s.putAdm sl p i e).quiet = s.quiet := State.quiet_mk ..

@[simp] theorem State.putPol_quiet (sl i e) (s : State) : (s.putPol sl i e).quiet = s.quiet := State.quiet_mk ..

@[simp] theorem State.moveCells_quiet (take sl p ip tc cls n) (s : State) : (s.moveCells take sl p ip tc cls n).quiet = s.quiet := by
  simp [State.moveCells]

@[simp] theorem State.chargePacer_quiet (sl p n w) (s : State) : (s.chargePacer sl p n w).quiet = s.quiet := State.quiet_mk ..

@[simp] theorem sendPause_quiet (sl p ip tc quanta) (s : State) : (sendPause sl p ip tc quanta s).quiet = s.quiet := by
  unfold sendPause
  split <;> simp

@[simp] theorem flowClass_quiet (sl p ip t sc hc) (s : State) : (flowClass sl p ip t sc hc s).quiet = s.quiet := by simp [flowClass]

@[simp] theorem flowOff_quiet (sl p ip t) (s : State) : (flowOff sl p ip t s).quiet = s.quiet := by simp [flowOff]

@[simp] theorem flowUpdate_quiet (sl p ip) (s : State) :
    (flowUpdate sl p ip s).quiet = s.quiet := by simp [flowUpdate, State.quiet_foldl]

@[simp] theorem flowSettle_quiet (m) (s : State) : (flowSettle m s).quiet = s.quiet := by simp [flowSettle]

@[simp] theorem returnCells_quiet (sl p f) (s : State) : (returnCells sl p f s).quiet = s.quiet := by simp [returnCells]

@[simp] theorem tmRead_quiet (sl) (s : State) : (tmRead sl s).1.quiet = s.quiet := by unfold tmRead; dsimp only; split <;> simp

@[simp] theorem tmWrite_quiet (sl) (s : State) : (tmWrite sl s).1.quiet = s.quiet := by
  unfold tmWrite
  dsimp only
  repeat' split
  all_goals simp

@[simp] theorem tmReadCounters_quiet (sl) (s : State) : (tmReadCounters sl s).1.quiet = s.quiet := by
  unfold tmReadCounters
  dsimp only
  repeat' split
  all_goals simp

@[simp] theorem tmTimed_quiet (sl) (act : State → State × Status) (s : State) (h : ∀ u, (act u).1.quiet = u.quiet) :
    (tmTimed sl act s).1.quiet = s.quiet := by
  simp [tmTimed, h]

@[simp] theorem tmOp_quiet (sl code) (s : State) : (tmOp sl code s).1.quiet = s.quiet := by unfold tmOp; split <;> simp

@[simp] theorem fillNode_quiet (sl p n) (s : State) : (fillNode sl p n s).quiet = s.quiet := State.quiet_mk ..

@[simp] theorem fillNodes_quiet (s : State) : (fillNodes s).quiet = s.quiet := by simp [fillNodes, State.quiet_foldl]

@[simp] theorem tmPortWrite_quiet (sl p n sub_ v) (s : State) : (tmPortWrite sl p n sub_ v s).1.quiet = s.quiet := by
  unfold tmPortWrite
  dsimp only
  repeat' split
  all_goals simp

/-! ### The tether (`Tether`) -/

@[simp] theorem tetherOne_quiet (kind payload) (s : State) : (tetherOne kind payload s).quiet = s.quiet := State.quiet_mk ..

@[simp] theorem tetherSend_quiet (kind payload) (s : State) : (tetherSend kind payload s).quiet = s.quiet := by
  simp [tetherSend, State.quiet_foldl]

@[simp] theorem setPairState_quiet (v) (s : State) : (setPairState v s).quiet = s.quiet := by simp [setPairState]

@[simp] theorem cutCmd_quiet (s : State) : (cutCmd s).quiet = s.quiet := by unfold cutCmd; split <;> simp

@[simp] theorem firmwareSay_quiet (m) (s : State) : (firmwareSay m s).quiet = s.quiet := by simp [firmwareSay]

@[simp] theorem mirror_quiet (m) (s : State) : (mirror m s).quiet = s.quiet := by simp [mirror]

@[simp] theorem cueSync_quiet (sl records) (s : State) : (cueSync sl records s).quiet = s.quiet := by simp [cueSync]

/-! ### Cues (`Cues`) -/

@[simp] theorem State.putCue_quiet (sl i e) (s : State) : (s.putCue sl i e).quiet = s.quiet := State.quiet_mk ..

@[simp] theorem State.putTribCue_quiet (sl t e) (s : State) : (s.putTribCue sl t e).quiet = s.quiet := State.quiet_mk ..

@[simp] theorem State.putWatch_quiet (sl i e) (s : State) : (s.putWatch sl i e).quiet = s.quiet := State.quiet_mk ..

@[simp] theorem State.clearFlags_quiet (k) (s : State) : (s.clearFlags k).quiet = s.quiet := State.quiet_mk ..

@[simp] theorem State.markFired_quiet (k) (s : State) : (s.markFired k).quiet = s.quiet := by simp [State.markFired]

@[simp] theorem State.markPosted_quiet (k) (s : State) : (s.markPosted k).quiet = s.quiet := State.quiet_mk ..

@[simp] theorem cueLog_quiet (sl kind late byFire entry from_ to_ pn tag) (s : State) :
    (cueLog sl kind late byFire entry from_ to_ pn tag s).2.quiet = s.quiet :=
  State.quiet_mk ..

@[simp] theorem cueReport_quiet (sl kind code late byFire entry from_ to_ pn tag) (s : State) :
    (cueReport sl kind code late byFire entry from_ to_ pn tag s).quiet = s.quiet := by
  simp [cueReport]

@[simp] theorem cueNotReady_quiet (sl i) (s : State) : (cueNotReady sl i s).quiet = s.quiet := by
  unfold cueNotReady; dsimp only; split <;> simp only [State.putCue_quiet, State.markPosted_quiet, cueReport_quiet]

@[simp] theorem cueTest_quiet (sl i) (s : State) : (cueTest sl i s).quiet = s.quiet := by simp [cueTest]

@[simp] theorem cuesTest_quiet (sl) (s : State) : (cuesTest sl s).quiet = s.quiet := by simp [cuesTest, State.quiet_foldl]

@[simp] theorem watchRetire_quiet (sl i f) (s : State) : (watchRetire sl i f s).quiet = s.quiet := by
  unfold watchRetire; dsimp only; split <;> simp only [State.addOb_quiet, State.putSa_quiet, State.putWatch_quiet, cueReport_quiet]

@[simp] theorem tribCueTest_quiet (sl t) (s : State) : (tribCueTest sl t s).quiet = s.quiet := by simp [tribCueTest]

@[simp] theorem cwRead_quiet (sl) (s : State) : (cwRead sl s).1.quiet = s.quiet := by
  unfold cwRead
  dsimp only
  repeat' split
  all_goals simp

@[simp] theorem setCue_quiet (table sl i img) (s : State) :
    (setCue table sl i img s).quiet = s.quiet := by unfold setCue; split <;> simp

@[simp] theorem armTx_quiet (sl i img) (s : State) : (armTx sl i img s).1.quiet = s.quiet := by
  unfold armTx
  dsimp only
  repeat' split
  all_goals simp

@[simp] theorem armTrib_quiet (sl t) (s : State) : (armTrib sl t s).1.quiet = s.quiet := by
  unfold armTrib
  dsimp only
  repeat' split
  all_goals simp

@[simp] theorem armWatch_quiet (sl i img) (s : State) : (armWatch sl i img s).1.quiet = s.quiet := by
  unfold armWatch
  dsimp only
  repeat' split
  all_goals simp

@[simp] theorem cwArm_quiet (sl) (s : State) : (cwArm sl s).1.quiet = s.quiet := by
  unfold cwArm
  dsimp only
  repeat' split
  all_goals simp

@[simp] theorem cancelTx_quiet (sl i) (s : State) :
    (cancelTx sl i s).1.quiet = s.quiet := by unfold cancelTx; dsimp only; split <;> simp

@[simp] theorem cwCancel_quiet (sl) (s : State) : (cwCancel sl s).1.quiet = s.quiet := by
  unfold cwCancel
  dsimp only
  repeat' split
  all_goals simp

@[simp] theorem fireTx_quiet (sl i) (s : State) : (fireTx sl i s).1.quiet = s.quiet := by unfold fireTx; dsimp only; split <;> simp

@[simp] theorem cwFire_quiet (sl) (s : State) : (cwFire sl s).1.quiet = s.quiet := by
  unfold cwFire
  dsimp only
  repeat' split
  all_goals simp

@[simp] theorem cwOp_quiet (sl code) (s : State) : (cwOp sl code s).1.quiet = s.quiet := by unfold cwOp; split <;> simp

/-! ### The hitch table (`Hitch`) -/

@[simp] theorem State.putSlot_quiet (sl i e) (s : State) : (s.putSlot sl i e).quiet = s.quiet := State.quiet_mk ..

@[simp] theorem readSlot_quiet (sl i) (s : State) :
    (readSlot sl i s).2.quiet = s.quiet := by unfold readSlot; dsimp only; split <;> simp

@[simp] theorem readSlots_quiet (sl l) (s : State) : (readSlots sl l s).2.quiet = s.quiet :=
  State.quiet_foldl_snd (by intro p i; exact readSlot_quiet ..) l _

@[simp] theorem State.twResult_quiet (sl i e) (s : State) : (s.twResult sl i e).quiet = s.quiet := State.quiet_mk ..

@[simp] theorem State.twKeyResult_quiet (sl e) (s : State) : (s.twKeyResult sl e).quiet = s.quiet := State.quiet_mk ..

@[simp] theorem twLookup_quiet (sl) (s : State) : (twLookup sl s).1.quiet = s.quiet := by
  unfold twLookup
  dsimp only
  repeat' split
  all_goals simp

@[simp] theorem State.putStatic_quiet (sl i key e) (s : State) : (s.putStatic sl i key e).quiet = s.quiet := State.quiet_mk ..

@[simp] theorem installStatic_quiet (sl port vid mac secy) (s : State) : (installStatic sl port vid mac secy s).1.quiet = s.quiet := by
  unfold installStatic
  dsimp only
  repeat' split
  all_goals simp

theorem installStatic_quiet_of {sl port vid mac secy : Nat} {s t : State} {o : Option Nat}
    (h : installStatic sl port vid mac secy s = (t, o)) : t.quiet = s.quiet :=
  (congrArg (·.1.quiet) h).symm.trans (installStatic_quiet ..)

@[simp] theorem twInsert_quiet (sl) (s : State) : (twInsert sl s).1.quiet = s.quiet := by
  unfold twInsert
  dsimp only
  split
  · rfl
  split
  · rfl
  split <;> rename_i h <;> simp [installStatic_quiet_of h]

@[simp] theorem State.removeSlot_quiet (sl i key) (s : State) : (s.removeSlot sl i key).quiet = s.quiet := State.quiet_mk ..

@[simp] theorem twDelete_quiet (sl) (s : State) : (twDelete sl s).1.quiet = s.quiet := by
  unfold twDelete
  dsimp only
  repeat' split
  all_goals simp

@[simp] theorem twRead_quiet (sl) (s : State) : (twRead sl s).1.quiet = s.quiet := by
  unfold twRead
  dsimp only
  repeat' split
  all_goals simp

@[simp] theorem nextValid_quiet (sl i l) (s : State) : (nextValid sl i l s).2.quiet = s.quiet := by
  induction l generalizing s with
  | nil => rfl
  | cons x l ih =>
    simp only [nextValid]
    split
    · exact ih s
    · split <;> simp [ih]

@[simp] theorem twNext_quiet (sl) (s : State) : (twNext sl s).1.quiet = s.quiet := by
  have hn := nextValid_quiet sl (s.ob (twIx sl) Sub.twWin_TW_INDEX) (s.hitchEntries sl) s
  unfold twNext
  split <;> rename_i h <;> rw [h] at hn <;> simpa using hn

@[simp] theorem twHash_quiet (sl) (s : State) : (twHash sl s).1.quiet = s.quiet := by unfold twHash; split <;> simp

@[simp] theorem twFlush_quiet (sl) (s : State) : (twFlush sl s).1.quiet = s.quiet := by simp [twFlush, State.quiet_foldl]

@[simp] theorem twOp_quiet (sl code) (s : State) : (twOp sl code s).1.quiet = s.quiet := by unfold twOp; split <;> simp

@[simp] theorem hitchWrite_quiet (sl sub v) (s : State) : (hitchWrite sl sub v s).1.quiet = s.quiet := by
  unfold hitchWrite
  dsimp only
  repeat' split
  all_goals simp

@[simp] theorem hitchPortWrite_quiet (c sub n) (s : State) : (hitchPortWrite c sub n s).1.quiet = s.quiet := by
  unfold hitchPortWrite
  repeat' split
  all_goals simp

/-! ### Associations (`Assoc`) -/

@[simp] theorem heldRelease_quiet (sl i) (s : State) : (heldRelease sl i s).quiet = s.quiet := by simp [heldRelease]

@[simp] theorem refsMove_quiet (up sl h) (s : State) : (refsMove up sl h s).quiet = s.quiet := by simp [refsMove]

@[simp] theorem saFault_quiet (sl i) (s : State) : (saFault sl i s).quiet = s.quiet := by simp [saFault]

@[simp] theorem saRead_quiet (sl i ecc) (s : State) : (saRead sl i ecc s).quiet = s.quiet := by simp [saRead]

@[simp] theorem awRead_quiet (sl ecc) (s : State) : (awRead sl ecc s).1.quiet = s.quiet := by
  unfold awRead
  dsimp only
  repeat' split
  all_goals simp

@[simp] theorem awFindSci_quiet (sl) (s : State) : (awFindSci sl s).1.quiet = s.quiet := by unfold awFindSci; split <;> simp

@[simp] theorem awFree_quiet (sl) (s : State) : (awFree sl s).1.quiet = s.quiet := by
  unfold awFree
  dsimp only
  repeat' split
  all_goals simp

@[simp] theorem awReadCounters_quiet (sl) (s : State) : (awReadCounters sl s).1.quiet = s.quiet := by
  unfold awReadCounters
  dsimp only
  split <;> simp

@[simp] theorem saCommit_quiet (sl i old e) (s : State) : (saCommit sl i old e s).quiet = s.quiet := by
  unfold saCommit
  dsimp only
  repeat' split
  all_goals simp

@[simp] theorem awCommit_quiet (sl t i old e) (s : State) :
    (awCommit sl t i old e s).quiet = s.quiet := by unfold awCommit; split <;> simp

@[simp] theorem awSync_quiet (sl t i old e) (s : State) : (awSync sl t i old e s).quiet = s.quiet := by simp [awSync]

@[simp] theorem awWrite_quiet (sl ecc) (s : State) : (awWrite sl ecc s).1.quiet = s.quiet := by
  unfold awWrite
  dsimp only
  repeat' split
  all_goals simp

@[simp] theorem awDelete_quiet (sl) (s : State) : (awDelete sl s).1.quiet = s.quiet := by
  unfold awDelete
  dsimp only
  repeat' split
  all_goals simp

@[simp] theorem linePortWrite_quiet (sl p sub_ n) (s : State) : (linePortWrite sl p sub_ n s).1.quiet = s.quiet := by
  unfold linePortWrite
  dsimp only
  repeat' split
  all_goals simp

@[simp] theorem awDeleteTimed_quiet (sl) (s : State) : (awDeleteTimed sl s).1.quiet = s.quiet := by
  unfold awDeleteTimed awTimed
  dsimp only
  split <;> simp

@[simp] theorem awOp_quiet (sl code) (s : State) : (awOp sl code s).1.quiet = s.quiet := by
  have htimed {r : State × Status} (h : r.1.quiet = s.quiet) : (awTimed sl (fun _ => r) s).1.quiet = s.quiet := by
    unfold awTimed
    split <;> simp [h]
  unfold awOp
  split
  · rfl
  · dsimp only
    split <;> simp [htimed]

/-! ### The engine and its frames (`Engine`) -/

@[simp] theorem State.setPipe_quiet (sl p v) (s : State) : (s.setPipe sl p v).quiet = s.quiet := State.quiet_mk ..

@[simp] theorem State.putCheck_quiet (sl p c) (s : State) : (s.putCheck sl p c).quiet = s.quiet := State.quiet_mk ..

@[simp] theorem State.putQueue'_quiet (sl p l) (s : State) : (s.putQueue' sl p l).quiet = s.quiet := State.quiet_mk ..

@[simp] theorem State.putEgress_quiet (sl p l) (s : State) : (s.putEgress sl p l).quiet = s.quiet := State.quiet_mk ..

@[simp] theorem Egress.cutAt_quiet (sl ctr w e) (s : State) : (Egress.cutAt sl ctr w e s).2.quiet = s.quiet := by
  unfold Egress.cutAt
  split <;> simp

@[simp] theorem catchSealed_quiet (sl at_ e) (s : State) :
    (catchSealed sl at_ e s).2.quiet = s.quiet := by unfold catchSealed; split <;> simp

@[simp] theorem eachEgress_quiet (f : Egress → State → Egress × State) (l) (s : State) (h : ∀ e u, (f e u).2.quiet = u.quiet) :
    (eachEgress f l s).2.quiet = s.quiet := by
  induction l generalizing s with
  | nil => rfl
  | cons e l ih => exact (ih _).trans (h e s)

@[simp] theorem State.catchAll_quiet (sl p at_) (s : State) :
    (s.catchAll sl p at_).quiet = s.quiet := by unfold State.catchAll; split <;> simp

@[simp] theorem beginCheck_quiet (sl p at_ c) (s : State) : (beginCheck sl p at_ c s).quiet = s.quiet := by simp [beginCheck]

@[simp] theorem startCheck_quiet (sl p pos guard at_) (s : State) :
    (startCheck sl p pos guard at_ s).quiet = s.quiet := by simp [startCheck]

@[simp] theorem guardCheck_quiet (sl pos at_) (s : State) :
    (guardCheck sl pos at_ s).quiet = s.quiet := by unfold guardCheck; split <;> simp

@[simp] theorem auditFound_quiet (sl p pos at_) (s : State) : (auditFound sl p pos at_ s).quiet = s.quiet := by simp [auditFound]

@[simp] theorem coreRetest_quiet (sl p) (s : State) : (coreRetest sl p s).1.quiet = s.quiet := by
  unfold coreRetest
  repeat' split
  all_goals simp

@[simp] theorem pipeWrite_quiet (sl p sub_ n) (s : State) :
    (pipeWrite sl p sub_ n s).1.quiet = s.quiet := by unfold pipeWrite; split <;> simp

/-! ### The MAC (`Mac`) -/

@[simp] theorem sendFrame_quiet (m cut b) (s : State) : (sendFrame m cut b s).quiet = s.quiet := by simp [sendFrame]

/-! ### Seal (`Seal`) -/

@[simp] theorem sealDrop_quiet (sl ctr f) (s : State) : (sealDrop sl ctr f s).quiet = s.quiet := by simp [sealDrop]

@[simp] theorem tcFrame_quiet (c p f tout) (s : State) : (tcFrame c p f tout s).2.quiet = s.quiet := by unfold tcFrame; split <;> simp

@[simp] theorem mapIn_quiet (sl t cut b) (s : State) : (mapIn sl t cut b s).quiet = s.quiet := by simp [mapIn]

@[simp] theorem sendLine_quiet (sl n cut b) (s : State) : (sendLine sl n cut b s).quiet = s.quiet := by simp [sendLine]

@[simp] theorem sendOwn_quiet (n e b) (s : State) : (sendOwn n e b s).quiet = s.quiet := by simp [sendOwn]

@[simp] theorem sendCut_quiet (sl e b) (s : State) : (sendCut sl e b s).quiet = s.quiet := by simp [sendCut]

@[simp] theorem guardTrip_quiet (sl i b) (s : State) : (guardTrip sl i b s).quiet = s.quiet := by unfold guardTrip; split <;> simp

@[simp] theorem findingActs_quiet (sl x) (s : State) : (findingActs sl x s).quiet = s.quiet := by unfold findingActs; split <;> simp

@[simp] theorem countSealed_quiet (sl e) (s : State) : (countSealed sl e s).quiet = s.quiet := by unfold countSealed; split <;> simp

@[simp] theorem sealLeave_quiet (sl e) (s : State) : (sealLeave sl e s).quiet = s.quiet := by
  unfold sealLeave
  repeat' split
  all_goals simp

@[simp] theorem leaveEgress_quiet (sl p) (leave : Egress → State → State) (c) (s : State) (h : ∀ x0 u, (leave x0 u).quiet = u.quiet) :
    (leaveEgress sl p leave c s).quiet = s.quiet := by
  simp [leaveEgress, State.quiet_foldl, h]

@[simp] theorem sealEgress_quiet (sl c) (s : State) : (sealEgress sl c s).quiet = s.quiet := by simp [sealEgress, State.quiet_foldl]

/-! ### Open (`Open`) -/

@[simp] theorem clientEnter_quiet (sl e) (s : State) : (clientEnter sl e s).2.quiet = s.quiet := by
  unfold clientEnter
  dsimp only
  split <;> simp

@[simp] theorem clientEnters_quiet (sl c l) (s : State) : (clientEnters sl c l s).2.quiet = s.quiet := by
  induction l generalizing s with
  | nil => rfl
  | cons e l ih =>
    refine (ih _).trans ?_
    split <;> simp

@[simp] theorem openLeave_quiet (sl e) (s : State) : (openLeave sl e s).quiet = s.quiet := by simp [openLeave]

@[simp] theorem openEgress_quiet (sl c) (s : State) : (openEgress sl c s).quiet = s.quiet := by simp [openEgress]

@[simp] theorem drainSlice_quiet (sl) (s : State) : (drainSlice sl s).quiet = s.quiet := by simp [drainSlice]

/-! ### Tributaries and the line (`Otn`) -/

@[simp] theorem State.pmAdd_quiet (sl k n) (s : State) : (s.pmAdd sl k n).quiet = s.quiet := State.quiet_mk ..

@[simp] theorem noteDefect_quiet (sl trib b on) (s : State) : (noteDefect sl trib b on s).quiet = s.quiet := by
  unfold noteDefect
  split <;> simp

@[simp] theorem tsfUpdate_quiet (sl t) (s : State) : (tsfUpdate sl t s).quiet = s.quiet := by simp [tsfUpdate, State.quiet_foldl]

@[simp] theorem setTribDefect_quiet (sl t b on) (s : State) : (setTribDefect sl t b on s).quiet = s.quiet := by simp [setTribDefect]

@[simp] theorem insertAis_quiet (sl) (s : State) : (insertAis sl s).quiet = s.quiet := by simp [insertAis, State.quiet_foldl]

@[simp] theorem State.tribClear_quiet (sl t) (s : State) : (s.tribClear sl t).quiet = s.quiet := State.quiet_mk ..

@[simp] theorem State.formCalendar_quiet (sl) (s : State) : (s.formCalendar sl).quiet = s.quiet := State.quiet_mk ..

@[simp] theorem sendAis_quiet (sl t) (s : State) : (sendAis sl t s).quiet = s.quiet := State.quiet_mk ..

@[simp] theorem tribStart_quiet (load sl t) (s : State) : (tribStart load sl t s).1.quiet = s.quiet := by
  unfold tribStart
  repeat' split
  all_goals simp

@[simp] theorem tribStop_quiet (sl t) (s : State) : (tribStop sl t s).1.quiet = s.quiet := by
  unfold tribStop
  split
  · simp
  split
  · rfl
  · simp [State.quiet_foldl]

@[simp] theorem tribEnable_quiet (sl t v) (s : State) : (tribEnable sl t v s).1.quiet = s.quiet := by unfold tribEnable; split <;> simp

@[simp] theorem tribWrite_quiet (sl t sub_ v) (s : State) : (tribWrite sl t sub_ v s).1.quiet = s.quiet := by
  unfold tribWrite
  repeat' split
  all_goals simp

@[simp] theorem regrouped_quiet (sl) (was : State) (s : State) :
    (regrouped sl was s).quiet = s.quiet := by simp [regrouped, State.quiet_foldl]

@[simp] theorem regroup_quiet (sl sub_ n) (s : State) : (regroup sl sub_ n s).quiet = s.quiet := by simp [regroup]

@[simp] theorem otnWrite_quiet (sl sub_ v) (s : State) : (otnWrite sl sub_ v s).1.quiet = s.quiet := by
  unfold otnWrite
  split
  · simp
  · split_ifs <;> simp [State.quiet_foldl]

@[simp] theorem cmRead_quiet (sl) (s : State) : (cmRead sl s).1.quiet = s.quiet := by unfold cmRead; split <;> simp

@[simp] theorem cmWrite_quiet (sl) (s : State) : (cmWrite sl s).1.quiet = s.quiet := by
  unfold cmWrite
  dsimp only
  repeat' split
  all_goals simp

@[simp] theorem cmSwitch_quiet (sl) (s : State) : (cmSwitch sl s).1.quiet = s.quiet := by
  unfold cmSwitch
  dsimp only
  repeat' split
  all_goals simp

@[simp] theorem cmOp_quiet (sl code) (s : State) : (cmOp sl code s).1.quiet = s.quiet := by unfold cmOp; split <;> simp

@[simp] theorem soduPutKey_quiet (sl t sub_ h) (s : State) : (soduPutKey sl t sub_ h s).quiet = s.quiet := by simp [soduPutKey]

@[simp] theorem noteGiven_quiet (sl t sub_) (s : State) : (noteGiven sl t sub_ s).quiet = s.quiet := by
  unfold noteGiven
  dsimp only
  split <;> simp

@[simp] theorem soduSet_quiet (sl t sub_ v) (s : State) : (soduSet sl t sub_ v s).1.quiet = s.quiet := by
  unfold soduSet
  repeat' split
  all_goals simp

@[simp] theorem soduWrite_quiet (sl t sub_ v) (s : State) : (soduWrite sl t sub_ v s).1.quiet = s.quiet := by simp [soduWrite]

/-! ### Alarms (`Alarm`) -/

@[simp] theorem almAck_quiet (s : State) : (almAck s).1.quiet = s.quiet := State.quiet_mk ..

@[simp] theorem almClear_quiet (s : State) : (almClear s).1.quiet = s.quiet := by
  unfold almClear
  dsimp only
  repeat' split
  all_goals simp

@[simp] theorem almMaint_quiet (s : State) : (almMaint s).1.quiet = s.quiet := by
  unfold almMaint
  dsimp only
  repeat' split
  all_goals simp

@[simp] theorem alRead_quiet (s : State) : (alRead s).1.quiet = s.quiet := by unfold alRead; split <;> simp

@[simp] theorem srcClassWrite_quiet (src v) (s : State) : (srcClassWrite src v s).1.quiet = s.quiet := by
  unfold srcClassWrite
  repeat' split
  all_goals simp

@[simp] theorem monitorWrite_quiet (sub v) (s : State) : (monitorWrite sub v s).1.quiet = s.quiet := by
  unfold monitorWrite
  dsimp only
  repeat' split
  all_goals simp

@[simp] theorem loopWrite_quiet (k sub v) (s : State) : (loopWrite k sub v s).1.quiet = s.quiet := by
  unfold loopWrite
  dsimp only
  repeat' split
  all_goals simp

/-! ### Power (`Power`) -/

@[simp] theorem startChange_quiet (c target) (enter : State → State) (s : State) (h : ∀ u, (enter u).quiet = u.quiet) :
    (startChange c target enter s).quiet = s.quiet := by
  unfold startChange
  split <;> simp [h]

@[simp] theorem pwrReq_quiet (c target) (enter : State → State) (s : State) (h : ∀ u, (enter u).quiet = u.quiet) :
    (pwrReq c target enter s).1.quiet = s.quiet := by
  unfold pwrReq
  repeat' split
  all_goals simp [h]

@[simp] theorem slicePowerWrite_quiet (sl v) (s : State) : (slicePowerWrite sl v s).1.quiet = s.quiet := by
  unfold slicePowerWrite
  dsimp only
  repeat' split
  all_goals simp

@[simp] theorem State.darken_quiet (s : State) : s.darken.quiet = s.quiet := by simp [State.darken, State.quiet_foldl]

/-! ### Entropy (`Entropy`) -/

@[simp] theorem State.putEnt_quiet (e) (s : State) : (s.putEnt e).quiet = s.quiet := State.quiet_mk ..

@[simp] theorem drbgFill_quiet (s : State) : (drbgFill s).quiet = s.quiet := by unfold drbgFill; dsimp only; split <;> simp

@[simp] theorem takeQueue_quiet (len) (s : State) : (takeQueue len s).2.quiet = s.quiet := by simp [takeQueue]

@[simp] theorem drawRequest_quiet (who len) (s : State) : (drawRequest who len s).2.quiet = s.quiet := by
  unfold drawRequest
  repeat' split
  all_goals simp

theorem drawRequest_quiet_of {who : EntWho} {len : Nat} {d : Draw} {s t : State} (h : drawRequest who len s = (d, t)) :
    t.quiet = s.quiet :=
  (congrArg (·.2.quiet) h).symm.trans (drawRequest_quiet ..)

@[simp] theorem dropWaiting_quiet (gone) (s : State) : (dropWaiting gone s).quiet = s.quiet := State.quiet_mk ..

@[simp] theorem entStop_quiet (s : State) : (entStop s).2.quiet = s.quiet := State.quiet_mk ..

/-! ### The public-key engine (`Pke`) -/

@[simp] theorem setPkeQueue_quiet (q) (s : State) : (setPkeQueue q s).quiet = s.quiet := State.quiet_mk ..

@[simp] theorem pkeStart_quiet (s : State) : (pkeStart s).1.quiet = s.quiet := by
  unfold pkeStart
  split
  · rfl
  split
  · rfl
  split <;> rename_i h <;> simp [drawRequest_quiet_of h]

theorem pkeStart_quiet_of {s t : State} {o : Option (PkeWho × Status)} (h : pkeStart s = (t, o)) : t.quiet = s.quiet :=
  (congrArg (·.1.quiet) h).symm.trans (pkeStart_quiet ..)

@[simp] theorem pkeQueue_quiet (t) (s : State) : (pkeQueue t s).1.quiet = s.quiet := by unfold pkeQueue; split <;> simp

theorem pkeQueue_quiet_of {x : PkeTask} {s t : State} {o : Option Status} (h : pkeQueue x s = (t, o)) : t.quiet = s.quiet :=
  (congrArg (·.1.quiet) h).symm.trans (pkeQueue_quiet ..)

@[simp] theorem pkeWindow_quiet (who ops) (s : State) : (pkeWindow who ops s).1.quiet = s.quiet := by unfold pkeWindow; split <;> simp

@[simp] theorem State.pkeCount_quiet (n) (s : State) : (s.pkeCount n).quiet = s.quiet := State.quiet_mk ..

@[simp] theorem State.putEph_quiet (c e) (s : State) : (s.putEph c e).quiet = s.quiet := State.quiet_mk ..

@[simp] theorem pkeTrim_quiet (s : State) : (pkeTrim s).quiet = s.quiet := by simp [pkeTrim]

@[simp] theorem ephRelease_quiet (s : State) : (ephRelease s).quiet = s.quiet := by simp [ephRelease]

/-! ### Guarded memory (`Guard`) -/

@[simp] theorem State.putRange_quiet (r g) (s : State) : (s.putRange r g).quiet = s.quiet := State.quiet_mk ..

@[simp] theorem State.cacheDrop_quiet (r) (s : State) : (s.cacheDrop r).quiet = s.quiet := State.quiet_mk ..

@[simp] theorem rekeyBegin_quiet (r b) (s : State) : (rekeyBegin r b s).quiet = s.quiet := by simp [rekeyBegin]

@[simp] theorem reformBegin_quiet (r b) (s : State) : (reformBegin r b s).quiet = s.quiet := by simp [reformBegin]

@[simp] theorem rekeyDue_quiet (r) (s : State) : (rekeyDue r s).quiet = s.quiet := by
  unfold rekeyDue; split <;> rename_i h <;> simp [drawRequest_quiet_of h]

@[simp] theorem epochTest_quiet (r) (s : State) : (epochTest r s).quiet = s.quiet := by simp [epochTest]

@[simp] theorem epochTests_quiet (s : State) : (epochTests s).quiet = s.quiet := by simp [epochTests, State.quiet_foldl]

@[simp] theorem rgRekey_quiet (r) (s : State) : (rgRekey r s).1.quiet = s.quiet := by
  unfold rgRekey; dsimp only
  split
  · rfl
  split
  · rfl
  split <;> rename_i h <;> simp [drawRequest_quiet_of h]

@[simp] theorem rgReform_quiet (r) (s : State) : (rgReform r s).1.quiet = s.quiet := by
  unfold rgReform; dsimp only
  split
  · rfl
  split
  · rfl
  split <;> rename_i h <;> simp [drawRequest_quiet_of h]

@[simp] theorem rangeFailed_quiet (r asked st) (s : State) : (rangeFailed r asked st s).quiet = s.quiet := by simp [rangeFailed]

@[simp] theorem guardCurtain_quiet (s : State) : (guardCurtain s).quiet = s.quiet := by simp [guardCurtain, State.quiet_foldl]

/-! ### The vault (`Vault`) -/

@[simp] theorem State.putKek_quiet (n k) (s : State) : (s.putKek n k).quiet = s.quiet := State.quiet_mk ..

@[simp] theorem syncTest_quiet (s : State) : (syncTest s).quiet = s.quiet := by simp [syncTest]

@[simp] theorem clearKek_quiet (n) (s : State) : (clearKek n s).quiet = s.quiet := by simp [clearKek]

@[simp] theorem placeKek_quiet (n kind kek wrapOut unwrapIn) (s : State) : (placeKek n kind kek wrapOut unwrapIn s).quiet = s.quiet :=
  State.quiet_mk ..

@[simp] theorem State.putBank_quiet (i e) (s : State) : (s.putBank i e).quiet = s.quiet := State.quiet_mk ..

@[simp] theorem State.putEntry_quiet (sl i e) (s : State) : (s.putEntry sl i e).quiet = s.quiet := by simp [State.putEntry]

@[simp] theorem putKeyAt_quiet (p generated m k) (s : State) : (putKeyAt p generated m k s).2.quiet = s.quiet := by
  unfold putKeyAt
  split <;> simp

@[simp] theorem mirrorKey_quiet (sl m k handle) (s : State) : (mirrorKey sl m k handle s).quiet = s.quiet := by simp [mirrorKey]

@[simp] theorem placeKey_quiet (p generated m k) (s : State) : (placeKey p generated m k s).2.quiet = s.quiet := by
  unfold placeKey
  repeat' split
  all_goals simp

@[simp] theorem unwrapCount_quiet (st) (s : State) : (unwrapCount st s).quiet = s.quiet := by simp [unwrapCount]

@[simp] theorem unwrapBlob_quiet (level blob kw) (s : State) : (unwrapBlob level blob kw s).2.2.quiet = s.quiet := by
  unfold unwrapBlob
  repeat' split
  all_goals simp

@[simp] theorem kwUnwrapOp_quiet (level) (s : State) : (kwUnwrapOp level s).1.quiet = s.quiet := by
  unfold kwUnwrapOp
  dsimp only
  split <;> simp

@[simp] theorem kwWrapOp_quiet (s : State) : (kwWrapOp s).1.quiet = s.quiet := by unfold kwWrapOp; split <;> simp

@[simp] theorem kwRewrapOp_quiet (level) (s : State) : (kwRewrapOp level s).1.quiet = s.quiet := by
  unfold kwRewrapOp
  dsimp only
  repeat' split
  all_goals simp

@[simp] theorem generatePlace_quiet (ty target slot export_ k) (s : State) :
    (generatePlace ty target slot export_ k s).2.2.quiet = s.quiet := by
  unfold generatePlace
  repeat' split
  all_goals simp

@[simp] theorem generateDone_quiet (ty target slot export_ k) (s : State) :
    (generateDone ty target slot export_ k s).1.quiet = s.quiet := by
  unfold generateDone
  dsimp only
  split <;> simp

@[simp] theorem kwGenerateOp_quiet (level) (s : State) : (kwGenerateOp level s).1.quiet = s.quiet := by
  unfold kwGenerateOp; dsimp only
  by_cases hd : (!s.vaultOpen level (if s.ob kwIx Sub.kwWin_KW_TYPE = 4 then 2 else 1)) = true ∨ s.held = true
  · rw [if_pos hd]
  rw [if_neg hd]
  split
  · rfl
  split <;> rename_i h <;> simp [drawRequest_quiet_of h]

@[simp] theorem kwDestroyOp_quiet (s : State) : (kwDestroyOp s).1.quiet = s.quiet := by
  unfold kwDestroyOp
  dsimp only
  repeat' split
  all_goals simp

@[simp] theorem kwKekClearOp_quiet (s : State) : (kwKekClearOp s).1.quiet = s.quiet := by
  unfold kwKekClearOp
  dsimp only
  repeat' split
  all_goals simp

@[simp] theorem kwInfoOp_quiet (s : State) : (kwInfoOp s).1.quiet = s.quiet := by
  unfold kwInfoOp
  dsimp only
  repeat' split
  all_goals simp

@[simp] theorem migrate_quiet (m) (s : State) : (migrate m s).1.quiet = s.quiet := by
  unfold migrate
  repeat' split
  all_goals simp

theorem migrate_quiet_of {m : Bytes} {s t : State} {st : Status} (h : migrate m s = (t, st)) : t.quiet = s.quiet :=
  (congrArg (·.1.quiet) h).symm.trans (migrate_quiet ..)

@[simp] theorem kwMigrateOp_quiet (level) (s : State) : (kwMigrateOp level s).1.quiet = s.quiet := by
  unfold kwMigrateOp
  repeat' split
  all_goals simp

@[simp] theorem kwMigrateEndOp_quiet (s : State) : (kwMigrateEndOp s).1.quiet = s.quiet := by simp [kwMigrateEndOp]

@[simp] theorem kwQuoteOp_quiet (level) (s : State) : (kwQuoteOp level s).1.quiet = s.quiet := by
  unfold kwQuoteOp
  dsimp only
  repeat' split
  all_goals simp

@[simp] theorem zeroiseVault_quiet (s : State) : (zeroiseVault s).quiet = s.quiet := State.quiet_mk ..

@[simp] theorem State.kwGate_quiet (level need) (act : State → State × Status) (s : State) (h : ∀ u, (act u).1.quiet = u.quiet) :
    (s.kwGate level need act).1.quiet = s.quiet := by
  unfold State.kwGate
  split <;> simp [h]

@[simp] theorem kwOp_quiet (level code) (s : State) : (kwOp level code s).1.quiet = s.quiet := by
  unfold kwOp
  repeat' split
  all_goals simp

/-! ### Jobs (`Jobs`) -/

@[simp] theorem State.putJob_quiet (j x) (s : State) : (s.putJob j x).quiet = s.quiet := State.quiet_mk ..

@[simp] theorem jobLeave_quiet (j st) (s : State) : (jobLeave j st s).quiet = s.quiet := State.quiet_mk ..

@[simp] theorem jobBegin_quiet (j op x) (s : State) : (jobBegin j op x s).1.quiet = s.quiet := State.quiet_mk ..

@[simp] theorem jobStart_quiet (j) (s : State) : (jobStart j s).1.quiet = s.quiet := by
  unfold jobStart
  repeat' split
  all_goals simp

@[simp] theorem jobContinue_quiet (j) (s : State) : (jobContinue j s).1.quiet = s.quiet := by
  unfold jobContinue
  repeat' split
  all_goals simp

@[simp] theorem jobFinish_quiet (j) (s : State) : (jobFinish j s).1.quiet = s.quiet := by unfold jobFinish; split <;> simp

@[simp] theorem jobEnd_quiet (j st) (s : State) : (jobEnd j st s).quiet = s.quiet := State.quiet_mk ..

@[simp] theorem jobSaved_quiet (j slot token) (s : State) : (jobSaved j slot token s).quiet = s.quiet := State.quiet_mk ..

@[simp] theorem tokenDone_quiet (j slot b) (s : State) : (tokenDone j slot b s).1.quiet = s.quiet := by
  unfold tokenDone
  repeat' split
  all_goals simp

@[simp] theorem jobSave_quiet (j) (s : State) : (jobSave j s).1.quiet = s.quiet := by
  unfold jobSave; dsimp only
  split_ifs
  case neg => split <;> rename_i h <;> simp [drawRequest_quiet_of h]
  all_goals simp

@[simp] theorem jobRestore_quiet (j) (s : State) : (jobRestore j s).1.quiet = s.quiet := by
  unfold jobRestore
  dsimp only
  repeat' split
  all_goals simp

@[simp] theorem abortJobs_quiet (st) (s : State) : (abortJobs st s).quiet = s.quiet := by simp [abortJobs, State.quiet_foldl]

@[simp] theorem jobAbort_quiet (j) (s : State) : (jobAbort j s).1.quiet = s.quiet := State.quiet_mk ..

@[simp] theorem jobOp_quiet (j code) (s : State) : (jobOp j code s).1.quiet = s.quiet := by unfold jobOp; split <;> simp

/-! ### Key exchange (`Ke`) -/

@[simp] theorem State.putCak_quiet (i c) (s : State) : (s.putCak i c).quiet = s.quiet := State.quiet_mk ..

@[simp] theorem placeCak_quiet (i n source cknLen ckn cak) (s : State) : (placeCak i n source cknLen ckn cak s).quiet = s.quiet :=
  State.quiet_mk ..

@[simp] theorem forgetCak_quiet (i) (s : State) : (forgetCak i s).quiet = s.quiet := State.quiet_mk ..

@[simp] theorem freeCakEntry_quiet (i) (s : State) : (freeCakEntry i s).quiet = s.quiet := by simp [freeCakEntry]

@[simp] theorem zeroiseCaks_quiet (s : State) : (zeroiseCaks s).quiet = s.quiet := State.quiet_mk ..

@[simp] theorem keepCak_quiet (blob k c) (s : State) : (keepCak blob k c s).quiet = s.quiet := by simp [keepCak]

@[simp] theorem migrateCaks_quiet (from_ to_) (s : State) : (migrateCaks from_ to_ s).quiet = s.quiet := State.quiet_mk ..

@[simp] theorem cakLoad_quiet (level) (s : State) : (cakLoad level s).1.quiet = s.quiet := by
  unfold cakLoad
  dsimp only
  repeat' split
  all_goals simp

@[simp] theorem cakFree_quiet (s : State) : (cakFree s).1.quiet = s.quiet := by unfold cakFree; dsimp only; split <;> simp

@[simp] theorem cakInfo_quiet (s : State) : (cakInfo s).1.quiet = s.quiet := State.quiet_mk ..

@[simp] theorem keOp_quiet (level code) (s : State) : (keOp level code s).1.quiet = s.quiet := by unfold keOp; split <;> simp

@[simp] theorem setMkaState_quiet (n v) (s : State) : (setMkaState n v s).quiet = s.quiet := State.quiet_mk ..

@[simp] theorem mkaWrite_quiet (n sub_ v) (s : State) : (mkaWrite n sub_ v s).1.quiet = s.quiet := by
  unfold mkaWrite
  repeat' split
  all_goals simp

@[simp] theorem certStore_quiet (b) (s : State) : (certStore b s).1.quiet = s.quiet := by unfold certStore; split <;> simp

@[simp] theorem certWrite_quiet (c b) (s : State) : (certWrite c b s).1.quiet = s.quiet := by unfold certWrite; split <;> simp

@[simp] theorem keOctWrite_quiet (c sub_ b) (s : State) : (keOctWrite c sub_ b s).1.quiet = s.quiet := by
  unfold keOctWrite
  repeat' split
  all_goals simp

/-! ### Knots (`Knot`) -/

@[simp] theorem State.putKnot_quiet (k x) (s : State) : (s.putKnot k x).quiet = s.quiet := State.quiet_mk ..

@[simp] theorem dropKnots_quiet (gone) (s : State) : (dropKnots gone s).quiet = s.quiet := by simp [dropKnots]

@[simp] theorem State.dropKnot_quiet (k) (s : State) : (s.dropKnot k).quiet = s.quiet := by simp [State.dropKnot]

@[simp] theorem State.addKnot_quiet (x) (s : State) : (s.addKnot x).2.quiet = s.quiet := State.quiet_mk ..

@[simp] theorem contextRoom_quiet (s : State) : (contextRoom s).quiet = s.quiet := by simp [contextRoom]

@[simp] theorem setKnotState_quiet (place v) (s : State) : (setKnotState place v s).quiet = s.quiet := by simp [setKnotState]

@[simp] theorem knotChecked_quiet (s : State) : (knotChecked s).quiet = s.quiet := by simp [knotChecked]

@[simp] theorem knotSend_quiet (place msg sid da body) (s : State) : (knotSend place msg sid da body s).quiet = s.quiet := by
  simp [knotSend, State.quiet_foldl]

@[simp] theorem knotLeave_quiet (k x) (s : State) : (knotLeave k x s).quiet = s.quiet := by unfold knotLeave; split <;> simp

@[simp] theorem knotEnd_quiet (k x st entry) (s : State) : (knotEnd k x st entry s).quiet = s.quiet := by simp [knotEnd]

@[simp] theorem knotAbort_quiet (k x st ctr) (s : State) : (knotAbort k x st ctr s).quiet = s.quiet := by simp [knotAbort]

@[simp] theorem pkeDeny_quiet (st w) (s : State) : (pkeDeny st w s).quiet = s.quiet := by unfold pkeDeny; split <;> simp

@[simp] theorem windowsGo_quiet (n) (s : State) : (windowsGo n s).quiet = s.quiet := by
  induction n generalizing s with
  | zero => rfl
  | succ n ih =>
    simp only [windowsGo]
    split <;> rename_i h <;> simp [ih, pkeStart_quiet_of h]

@[simp] theorem knotAbandon_quiet (windows) (s : State) :
    (knotAbandon windows s).quiet = s.quiet := by simp [knotAbandon, State.quiet_foldl]

@[simp] theorem pkeDenied_quiet (s : State) : (pkeDenied s).quiet = s.quiet := by simp [pkeDenied, State.quiet_foldl]

@[simp] theorem mkaRestart_quiet (n) (s : State) : (mkaRestart n s).quiet = s.quiet := by simp [mkaRestart]

@[simp] theorem knotEntropy_quiet (k st) (s : State) : (knotEntropy k st s).quiet = s.quiet := by unfold knotEntropy; split <;> simp

@[simp] theorem knotQueue_quiet (op k) (s : State) : (knotQueue op k s).quiet = s.quiet := by
  unfold knotQueue
  split <;> rename_i h <;> simp [pkeQueue_quiet_of h]

@[simp] theorem knotWork_quiet (k x stage ops) (s : State) :
    (knotWork k x stage ops s).quiet = s.quiet := by unfold knotWork; split <;> simp

@[simp] theorem knotDrawn_quiet (k b) (s : State) : (knotDrawn k b s).quiet = s.quiet := by
  unfold knotDrawn
  repeat' split
  all_goals simp

@[simp] theorem knotBegin_quiet (x ctx len) (s : State) : (knotBegin x ctx len s).quiet = s.quiet := by
  unfold knotBegin
  dsimp only
  split <;> rename_i h <;> simp [drawRequest_quiet_of h]

@[simp] theorem knotStart_quiet (place) (s : State) : (knotStart place s).1.quiet = s.quiet := by
  unfold knotStart
  dsimp only
  repeat' split
  all_goals simp

@[simp] theorem knotRun_quiet (place) (s : State) : (knotRun place s).1.quiet = s.quiet := by unfold knotRun; split <;> simp

@[simp] theorem knotRunWrite_quiet (place ix sub_ v) (s : State) : (knotRunWrite place ix sub_ v s).1.quiet = s.quiet := by
  have hrun := knotRun_quiet place s
  unfold knotRunWrite
  split
  · rfl
  split
  · simp
  split
  · rename_i h
    rw [h] at hrun
    simp [hrun]
  · exact hrun

/-! ### MKA (`Mka`) -/

@[simp] theorem State.putMka_quiet (n m) (s : State) : (s.putMka n m).quiet = s.quiet := State.quiet_mk ..

/-! ### Snapshots (`Snap`) -/

@[simp] theorem snapRelease_quiet (s : State) : (snapRelease s).quiet = s.quiet := State.quiet_mk ..

@[simp] theorem snapOp_quiet (c v) (s : State) : (snapOp c v s).1.quiet = s.quiet := by
  unfold snapOp
  repeat' split
  all_goals simp

@[simp] theorem ctRead_quiet (s : State) : (ctRead s).1.quiet = s.quiet := by unfold ctRead; dsimp only; split <;> simp

@[simp] theorem tagSeeded_quiet (v b) (s : State) : (tagSeeded v b s).quiet = s.quiet := State.quiet_mk ..

@[simp] theorem tagEnable_quiet (c v) (s : State) : (tagEnable c v s).1.quiet = s.quiet := by
  unfold tagEnable
  split
  · simp
  split
  · simp
  split <;> rename_i h <;> simp [drawRequest_quiet_of h]

@[simp] theorem tagDone_quiet (who v r) (s : State) : (tagDone who v r s).quiet = s.quiet := by unfold tagDone; split <;> simp

@[simp] theorem tgRead_quiet (s : State) : (tgRead s).1.quiet = s.quiet := by unfold tgRead; split <;> simp

@[simp] theorem tgReset_quiet (s : State) : (tgReset s).1.quiet = s.quiet := State.quiet_mk ..

@[simp] theorem qsRead_quiet (s : State) : (qsRead s).1.quiet = s.quiet := by
  unfold qsRead
  dsimp only
  repeat' split
  all_goals simp

/-! ### Sessions (`Sess`) -/

@[simp] theorem linkEvent_quiet (code items) (s : State) : (linkEvent code items s).quiet = s.quiet := by simp [linkEvent]

@[simp] theorem halDown_quiet (k) (s : State) : (halDown k s).quiet = s.quiet := by simp [halDown]

/-! ### Resets (`Reset`) -/

@[simp] theorem sliceClear_quiet (sl) (s : State) : (sliceClear sl s).quiet = s.quiet := by simp [sliceClear, State.quiet_foldl]

@[simp] theorem portClear_quiet (m) (s : State) : (portClear m s).quiet = s.quiet := State.quiet_mk ..

@[simp] theorem otnClear_quiet (sl) (s : State) : (otnClear sl s).quiet = s.quiet := by simp [otnClear, State.quiet_foldl]

@[simp] theorem blockClear_quiet (kind i) (s : State) : (blockClear kind i s).quiet = s.quiet := by simp [blockClear]

@[simp] theorem blkReset_quiet (s : State) : (blkReset s).1.quiet = s.quiet := by
  unfold blkReset
  dsimp only
  repeat' split
  all_goals simp

@[simp] theorem writeRecord_quiet (active try_ tries staged) (s : State) : (writeRecord active try_ tries staged s).quiet = s.quiet :=
  State.quiet_mk ..

@[simp] theorem migrateStaged_quiet (s : State) : (migrateStaged s).1.quiet = s.quiet := by
  unfold migrateStaged
  dsimp only
  split
  · rfl
  split
  · rfl
  split
  · rename_i h
    split <;> simp [migrate_quiet_of h]
  · simp

theorem migrateStaged_quiet_of {s t : State} {st : Status} (h : migrateStaged s = (t, st)) : t.quiet = s.quiet :=
  (congrArg (·.1.quiet) h).symm.trans (migrateStaged_quiet ..)

@[simp] theorem fwActivate_quiet (v) (s : State) : (fwActivate v s).1.quiet = s.quiet := by
  unfold fwActivate
  split
  · rfl
  split
  · rfl
  split
  · rename_i h
    simp [migrateStaged_quiet_of h]
  · simp

@[simp] theorem fwCommit_quiet (v) (s : State) : (fwCommit v s).1.quiet = s.quiet := by unfold fwCommit; dsimp only; split <;> simp

@[simp] theorem causeClear_quiet (v) (s : State) : (causeClear v s).1.quiet = s.quiet := by simp [causeClear]

/-! ### The life cycle (`LifeCycle`) -/

@[simp] theorem destroyKeys_quiet (s : State) : (destroyKeys s).quiet = s.quiet := by simp [destroyKeys]

@[simp] theorem lcTransition_quiet (level) (s : State) :
    (lcTransition level s).1.quiet = s.quiet := by unfold lcTransition; split <;> simp

@[simp] theorem vsRenewed_quiet (b) (s : State) : (vsRenewed b s).quiet = s.quiet := State.quiet_mk ..

@[simp] theorem vsRenew_quiet (level) (s : State) : (vsRenew level s).1.quiet = s.quiet := by
  unfold vsRenew
  split
  · rfl
  split
  · rfl
  split <;> rename_i h <;> simp [drawRequest_quiet_of h]

/-! ### The pair (`Pair`) -/

@[simp] theorem pairJoin_quiet (s : State) : (pairJoin s).quiet = s.quiet := by simp [pairJoin]

@[simp] theorem enterKeying_quiet (s : State) : (enterKeying s).quiet = s.quiet := by simp [enterKeying]

@[simp] theorem assertSelAct_quiet (s : State) : (assertSelAct s).quiet = s.quiet := by simp [assertSelAct]

@[simp] theorem heardFrom_quiet (s : State) : (heardFrom s).quiet = s.quiet := State.quiet_mk ..

@[simp] theorem sayHello_quiet (s : State) : (sayHello s).quiet = s.quiet := by simp [sayHello]

@[simp] theorem swAnswer_quiet (st cmd) (s : State) : (swAnswer st cmd s).quiet = s.quiet := by simp [swAnswer]

@[simp] theorem swRun_quiet (c) (s : State) : (swRun c s).quiet = s.quiet := by simp [swRun]

@[simp] theorem swHome_quiet (c) (s : State) : (swHome c s).quiet = s.quiet := by unfold swHome; split <;> simp

@[simp] theorem swDisplace_quiet (s : State) : (swDisplace s).quiet = s.quiet := by unfold swDisplace; split <;> simp

@[simp] theorem swCmd_quiet (v) (s : State) : (swCmd v s).1.quiet = s.quiet := by
  unfold swCmd
  dsimp only
  repeat' split
  all_goals simp

@[simp] theorem pairWrite_quiet (sub_ v) (s : State) : (pairWrite sub_ v s).1.quiet = s.quiet := by
  unfold pairWrite
  repeat' split
  all_goals simp

/-! ### The repertoire (`Repertoire`) -/

@[simp] theorem loadSodus_quiet (s : State) : (loadSodus s).quiet = s.quiet := by simp [loadSodus, State.quiet_foldl]

@[simp] theorem loadEffects_quiet (was : State) (s : State) :
    (loadEffects was s).quiet = s.quiet := by simp [loadEffects, State.quiet_foldl]

@[simp] theorem loadPower_quiet (sl) (s : State) : (loadPower sl s).quiet = s.quiet := by simp [loadPower]

@[simp] theorem loadObjects_quiet (p) (s : State) : (loadObjects p s).quiet = s.quiet := by simp [loadObjects, State.quiet_foldl]

@[simp] theorem loadStatics_quiet (p) (s : State) : (loadStatics p s).quiet = s.quiet := by simp [loadStatics, State.quiet_foldl]

@[simp] theorem loadTables_quiet (p) (s : State) : (loadTables p s).quiet = s.quiet := by simp [loadTables]

@[simp] theorem loadEnable_quiet (key v) (s : State) : (loadEnable key v s).2.quiet = s.quiet := by
  unfold loadEnable
  dsimp only
  split <;> simp

@[simp] theorem applyProfile_quiet (p) (s : State) : (applyProfile p s).1.quiet = s.quiet := by
  unfold applyProfile
  dsimp only
  rw [State.quiet_foldl_snd (fun _ _ => by simp only [loadEnable_quiet]), loadTables_quiet, loadObjects_quiet]

@[simp] theorem loadProfile_quiet (n) (s : State) : (loadProfile n s).1.quiet = s.quiet := by unfold loadProfile; split <;> simp

@[simp] theorem recordLoad_quiet (n st) (s : State) : (recordLoad n st s).quiet = s.quiet := State.quiet_mk ..

@[simp] theorem afterLoad_quiet (s : State) : (afterLoad s).quiet = s.quiet := by simp [afterLoad]

@[simp] theorem saveProfile_quiet (n k p) (s : State) : (saveProfile n k p s).quiet = s.quiet := State.quiet_mk ..

@[simp] theorem storeDone_quiet (s : State) : (storeDone s).1.quiet = s.quiet := by
  unfold storeDone
  repeat' split
  all_goals simp

@[simp] theorem rpStore_quiet (n) (s : State) : (rpStore n s).1.quiet = s.quiet := by
  unfold rpStore
  split
  · rfl
  split
  · rfl
  split
  · simp
  split
  · rfl
  split <;> rename_i h <;> simp [drawRequest_quiet_of h]

@[simp] theorem rpLoad_quiet (n) (s : State) : (rpLoad n s).1.quiet = s.quiet := by unfold rpLoad; split <;> simp

@[simp] theorem rpErase_quiet (n) (s : State) : (rpErase n s).1.quiet = s.quiet := by unfold rpErase; split <;> simp

@[simp] theorem rpDigest_quiet (n) (s : State) : (rpDigest n s).1.quiet = s.quiet := by unfold rpDigest; split <;> simp

@[simp] theorem rpOp_quiet (code) (s : State) : (rpOp code s).1.quiet = s.quiet := by
  unfold rpOp
  dsimp only
  repeat' split
  all_goals simp

/-! ### Handshakes (`Session`) -/

@[simp] theorem State.putFwd_quiet (port l) (s : State) : (s.putFwd port l).quiet = s.quiet := by simp [State.putFwd]

@[simp] theorem State.passOn_quiet (port f) (s : State) : (s.passOn port f).quiet = s.quiet := State.quiet_mk ..

@[simp] theorem drainFwd_quiet (port) (s : State) : (drainFwd port s).quiet = s.quiet := by simp [drainFwd, State.quiet_foldl]

@[simp] theorem mailboxOut_quiet (s : State) : (mailboxOut s).quiet = s.quiet := by unfold mailboxOut; split <;> simp

@[simp] theorem send_quiet (port dst kind session payload) (s : State) : (send port dst kind session payload s).quiet = s.quiet := by
  simp [send, State.quiet_foldl]

@[simp] theorem sayTo_quiet (k port body) (s : State) : (sayTo k port body s).quiet = s.quiet := by simp [sayTo]

@[simp] theorem sayHandshake_quiet (port dst session msg body) (s : State) :
    (sayHandshake port dst session msg body s).quiet = s.quiet := by
  simp [sayHandshake]

@[simp] theorem handAbort_quiet (k port dst session st) (s : State) : (handAbort k port dst session st s).quiet = s.quiet := by
  unfold handAbort
  split <;> simp

@[simp] theorem handFailed_quiet (k serial st) (s : State) : (handFailed k serial st s).quiet = s.quiet := by simp [handFailed]

/-! ### Draws (`Draws`) -/

@[simp] theorem readDone_quiet (b) (s : State) : (readDone b s).1.quiet = s.quiet := State.quiet_mk ..

@[simp] theorem entRead_quiet (s : State) : (entRead s).1.quiet = s.quiet := by
  unfold entRead; split <;> rename_i h <;> simp [drawRequest_quiet_of h]

@[simp] theorem pkeFail_quiet (w st) (s : State) : (pkeFail w st s).quiet = s.quiet := by unfold pkeFail; split <;> simp

@[simp] theorem pkeGo_quiet (n) (s : State) : (pkeGo n s).quiet = s.quiet := by
  induction n generalizing s with
  | zero => rfl
  | succ n ih =>
    simp only [pkeGo]
    split <;> rename_i h <;> simp [ih, pkeStart_quiet_of h]

@[simp] theorem Parked.say_quiet (p st) (s : State) : (Parked.say p st s).quiet = s.quiet := by unfold Parked.say; split <;> simp

@[simp] theorem blockFails_quiet (st) (s : State) : (blockFails st s).quiet = s.quiet := by unfold blockFails; split <;> simp

@[simp] theorem tagLost_quiet (who v st) (s : State) : (tagLost who v st s).quiet = s.quiet := by simp [tagLost]

@[simp] theorem drawFailed_quiet (who st) (s : State) : (drawFailed who st s).quiet = s.quiet := by
  unfold drawFailed
  repeat' split
  all_goals simp

@[simp] theorem drawsFailed_quiet (l st) (s : State) : (drawsFailed l st s).quiet = s.quiet := by simp [drawsFailed, State.quiet_foldl]

/-! ### Alarm responses (`Respond`) -/

@[simp] theorem holdEnds_quiet (s : State) : (holdEnds s).quiet = s.quiet := by simp [holdEnds]

@[simp] theorem alarmClear_quiet (s : State) : (alarmClear s).1.quiet = s.quiet := by simp [alarmClear]

@[simp] theorem darkDrop_quiet (sl p f) (s : State) : (darkDrop sl p s f).quiet = s.quiet := by simp [darkDrop]

@[simp] theorem darkQueues_quiet (sl p) (s : State) : (darkQueues sl p s).quiet = s.quiet := by simp [darkQueues, State.quiet_foldl]

@[simp] theorem darkSlice_quiet (sl) (s : State) : (darkSlice sl s).quiet = s.quiet := by simp [darkSlice, State.quiet_foldl]

@[simp] theorem linksOff_quiet (s : State) : (linksOff s).quiet = s.quiet := by simp [linksOff]

@[simp] theorem darkDrain_quiet (s : State) : (darkDrain s).quiet = s.quiet := by simp [darkDrain, State.quiet_foldl]

@[simp] theorem enterDark_quiet (s : State) : (enterDark s).quiet = s.quiet := by simp [enterDark, State.quiet_foldl]

/-! ### Writes of objects (`Write`) -/

@[simp] theorem evRead_quiet (s : State) : (evRead s).1.quiet = s.quiet := by unfold evRead; split <;> simp

@[simp] theorem now_quiet (r : State × Status) : (now r).1.quiet = r.1.quiet := State.quiet_mk ..

@[simp] theorem numWrite_quiet (c ix sub_ n) (s : State) : (numWrite c ix sub_ n s).1.quiet = s.quiet := by
  unfold numWrite
  repeat' split
  all_goals simp

@[simp] theorem octWrite_quiet (c ix sub_ b) (s : State) :
    (octWrite c ix sub_ b s).1.quiet = s.quiet := by unfold octWrite; split <;> simp

@[simp] theorem transitionBegin_quiet (lc owner vs dus) (s : State) : (transitionBegin lc owner vs dus s).quiet = s.quiet := by
  simp [transitionBegin]

@[simp] theorem svnCommit_quiet (level) (s : State) : (svnCommit level s).1.quiet = s.quiet := by
  unfold svnCommit
  dsimp only
  repeat' split
  all_goals simp

@[simp] theorem almFuseDisable_quiet (s : State) : (almFuseDisable s).1.quiet = s.quiet := by
  unfold almFuseDisable
  dsimp only
  repeat' split
  all_goals simp

theorem lcDrawn_quiet (who) (act : Bytes → State → State) (s : State) (h : ∀ b u, (act b u).quiet = u.quiet) :
    (lcDrawn who act s).1.quiet = s.quiet := by
  unfold lcDrawn
  split <;> rename_i hd <;> simp [h, drawRequest_quiet_of hd]

@[simp] theorem vendorStep_quiet (s : State) : (vendorStep s).1.quiet = s.quiet := lcDrawn_quiet _ _ _ fun _ _ => transitionBegin_quiet ..

@[simp] theorem lcOp_quiet (rom level code) (s : State) : (lcOp rom level code s).1.quiet = s.quiet := by
  unfold lcOp
  repeat' split
  all_goals simp

@[simp] theorem almOp_quiet (code) (s : State) : (almOp code s).1.quiet = s.quiet := by
  unfold almOp
  split <;> simp

@[simp] theorem windowAct_quiet (c ix code) (s : State) : (windowAct c ix code s).1.quiet = s.quiet := by
  unfold windowAct
  dsimp only
  repeat' split
  all_goals simp

@[simp] theorem windowWrite_quiet (c ix opSub stSub code) (s : State) : (windowWrite c ix opSub stSub code s).1.quiet = s.quiet := by
  unfold windowWrite
  repeat' split
  all_goals simp

@[simp] theorem chapterWrite_quiet (c ix sub v) (s : State) : (chapterWrite c ix sub v s).1.quiet = s.quiet := by
  unfold chapterWrite
  repeat' split
  all_goals simp

@[simp] theorem writeObj_quiet (c ix sub v) (s : State) : (writeObj c ix sub v s).1.quiet = s.quiet := by
  unfold writeObj
  split <;> simp

@[simp] theorem writeBytes_quiet (c i) (s : State) : (writeBytes c i s).1.quiet = s.quiet := by
  unfold writeBytes
  repeat' split
  all_goals simp

theorem writeAll_quiet {c : Caller} {l : List BlockItem} {s t : State} (h : writeAll c l s = .all t) : t.quiet = s.quiet := by
  induction l generalizing s with
  | nil =>
    cases h
    rfl
  | cons i rest ih =>
    have hi := writeBytes_quiet c i s
    rw [writeAll] at h
    split at h <;> rename_i hw <;> rw [hw] at hi
    · split_ifs at h
      exact (ih h).trans hi
    · exact (ih h).trans hi
    · cases h

end Sys2Proof.Machine
end

section
/-! Requests that read and write objects: what the arbiter notes of them, and their answers (R456 to R460, R477, R480, R499). -/

namespace Sys2Proof.Machine

variable {s t u w : State} {k id : Nat}

/-! ### HELLO (R480) -/

theorem request_hello (hst : (s.sessAt k).st = .open) (hmuted : (s.sessAt k).muted = false) (act : State → State) :
    request k 1 id act s = act (s.requested k) := by
  have hlive : (s.sessAt k).live = true := by simp [Sess.live, hst]
  simp [request, hlive, hmuted, hst, romServes]

theorem request_unopened {op : Nat} (hst : (s.sessAt k).st = .open) (hmuted : (s.sessAt k).muted = false) (hop : op ≠ 1)
    (act : State → State) : request k op id act s = answer k op id .denied [] s := by
  have hlive : (s.sessAt k).live = true := by simp [Sess.live, hst]
  simp [request, hlive, hmuted, hst, hop]

theorem answers_open (hst : (s.sessAt k).st = .open) (howed : (s.sessAt k).owed = []) (hsilent : s.acc.silent = false) :
    Answers k s := ⟨by simp [Sess.live, hst], hsilent, howed⟩

theorem msgHello_opens {versions : List Nat} (hst : (s.sessAt k).st = .open) (hmuted : (s.sessAt k).muted = false)
    (hmin : 1 ≤ versions.length) (hmax : versions.length ≤ 8) (hone : versions.any (fun v => v / 256 % 256 == 1) = true) :
    msgHello k id versions s = answer k 1 id .ok (be 2 0x0100 ++ be 4 (s.sessAt k).number ++ be 1 (s.sessAt k).level)
      ((s.requested k).putSess k { s.sessAt k with st := .ready }) := by
  have hcount : ¬(versions.length < 1 ∨ 8 < versions.length) := by omega
  rw [msgHello, request_hello hst hmuted, if_neg hcount, if_pos hone]
  rfl

/-! ### An answer by its port -/

/-- A response that no message of its port can carry is RANGE (R491, R506, log 146). -/
theorem answer_tooLong (h : Answers k s) (op id : Nat) (st : Status) {body : Bytes} (hlong : portLimit (s.sessAt k).port < body.length + 28) :
    SaidTo k (response op id Status.range.code []) { s.sessAt k with txSeq := (s.sessAt k).txSeq + 1 } s (answer k op id st body s) := by
  obtain ⟨t, hsaid, ht⟩ := flush_owed h (o := { op := op, id := id, ready := some (st.code, body) }) rfl
  have hafter : answer k op id st body s = t := ht
  rw [responseBy, if_pos hlong] at hsaid
  rw [hafter]
  exact hsaid

/-- The only answer of a request that changes nothing else. -/
theorem answered_only (h : s.readyFor k) (op id : Nat) (st : Status) {body : Bytes} (hfits : Fits body) :
    let t := answer k op id st body (s.requested k)
    t.dict = (s.requested k).dict ∧ Answered s t k op id st body := by
  have hsaid := answer_said (readyFor_requested h) op id st hfits
  exact ⟨hsaid.dict, hsaid.answered [] (List.append_nil _).symm⟩

/-! ### Reads (R459, R460) -/

theorem msgGet_unopened (hst : (s.sessAt k).st = .open) (hmuted : (s.sessAt k).muted = false) (ix sub_ : Nat) :
    msgGet k id ix sub_ s = answer k 2 id .denied [] s := request_unopened hst hmuted (by decide) _

theorem msgGet_reads {ix sub_ : Nat} {v : Bytes} (h : s.readyFor k) (hv : (s.requested k).readObj k ix sub_ = .ok v) :
    msgGet k id ix sub_ s = answer k 2 id .ok v (s.requested k) := by
  rw [msgGet, request_ready h]
  simp only [hv]

theorem msgGet_fails {ix sub_ : Nat} {st : Status} (h : s.readyFor k) (hv : (s.requested k).readObj k ix sub_ = .error st) :
    msgGet k id ix sub_ s = answer k 2 id st [] (s.requested k) := by
  rw [msgGet, request_ready h]
  simp only [hv]

theorem msgGetBlock_reads {l : List (Nat × Nat)} {b : Bytes} (h : s.readyFor k) (hmin : 1 ≤ l.length) (hmax : l.length ≤ 32)
    (hb : (s.requested k).readBlock k l = .ok b) : msgGetBlock k id l s = answer k 4 id .ok b (s.requested k) := by
  have hcount : ¬(l.length < 1 ∨ 32 < l.length) := by omega
  rw [msgGetBlock, request_ready h, if_neg hcount]
  simp only [hb]

/-! ### What the arbiter notes of a request (R457) -/

theorem noteWrites_sessAt (same : Bool) (l : List BlockItem) (j : Nat) (s : State) : (noteWrites k same l s).sessAt j = s.sessAt j := rfl
theorem noteWrites_wire (same : Bool) (l : List BlockItem) (s : State) : (noteWrites k same l s).wire = s.wire := rfl
theorem noteWrites_silent (same : Bool) (l : List BlockItem) (s : State) : (noteWrites k same l s).acc.silent = s.acc.silent := rfl
theorem noteWrites_octs (same : Bool) (l : List BlockItem) (s : State) : (noteWrites k same l s).dict.octs = s.dict.octs := rfl

theorem noteWrites_ob {ix sub : Nat} (hix : ix ≠ 0x0300) (hsub : sub < 256) (same : Bool) (l : List BlockItem) (s : State) :
    (noteWrites k same l s).ob ix sub = s.ob ix sub :=
  State.ob_addOb_ne fun e => hix (okey_inj hsub (by decide) e).1

theorem noteWrites_lastSet (same : Bool) (l : List BlockItem) (s : State) :
    (noteWrites k same l s).acc.lastSet =
      (if same then s.acc.lastSet else []) ++ l.map (fun i => (okey i.ix i.sub, (s.sessAt k).port)) := by
  simp only [noteWrites, List.map_map]
  rfl

theorem Answers.noteWrites (h : Answers k s) (same : Bool) (l : List BlockItem) : Answers k (noteWrites k same l s) :=
  ⟨h.live, h.silent, h.owed⟩

theorem noteNone_dict (same : Bool) (s : State) : (noteNone same s).dict = s.dict := by unfold noteNone; split <;> rfl
theorem noteNone_asc (same : Bool) (s : State) : (noteNone same s).asc = s.asc := by unfold noteNone; split <;> rfl
theorem noteNone_wire (same : Bool) (s : State) : (noteNone same s).wire = s.wire := by unfold noteNone; split <;> rfl

theorem Answers.noteNone (h : Answers k s) (same : Bool) : Answers k (noteNone same s) := by
  unfold Machine.noteNone
  split
  · exact h
  · exact ⟨h.live, h.silent, h.owed⟩

/-! ### The answer of a request that writes (R458, R460) -/

/-- A write leaves its session in place to be answered. -/
theorem Answers.written (h : Answers k s) (hsess : t.sessAt k = s.sessAt k) (hquiet : t.quiet = s.quiet) : Answers k t :=
  ⟨by rw [hsess]; exact h.live, hquiet.trans h.silent, by rw [hsess]; exact h.owed⟩

theorem Answers.wrote (h : Answers k s) {c : Caller} {i : BlockItem} {r : Option Status} (hw : writeBytes c i s = (w, r))
    (hsess : w.sessAt k = s.sessAt k) : Answers k w :=
  h.written hsess (by have hq := writeBytes_quiet c i s; rwa [hw] at hq)

/-- The writes of a request have ended OK, and its answer has left. -/
theorem answer_noted (h : Answers k w) (hsess : w.sessAt k = s.sessAt k) (hwire : w.wire = s.wire) (op id : Nat) (same : Bool)
    (l : List BlockItem) : let t := answer k op id .ok [] (noteWrites k same l w)
    t.acc.lastSet = (if same then w.acc.lastSet else []) ++ l.map (fun i => (okey i.ix i.sub, (s.sessAt k).port)) ∧
      t.dict.octs = w.dict.octs ∧ (∀ ix sub_, ix ≠ 0x0300 → sub_ < 256 → t.ob ix sub_ = w.ob ix sub_) ∧ Answered s t k op id .ok [] := by
  have hsaid := answer_said (h.noteWrites same l) op id .ok (body := []) (by decide)
  refine ⟨?_, (congrArg Dict.octs hsaid.dict).trans (noteWrites_octs ..), fun ix sub_ hix hsub => (hsaid.ob ..).trans (noteWrites_ob hix hsub ..),
    hsaid.answered [] ?_⟩
  · rw [hsaid.lastSet, noteWrites_lastSet, hsess]
  · rw [noteWrites_wire, hwire, List.append_nil]

theorem answer_refused (h : Answers k w) (hwire : w.wire = s.wire) (op id : Nat) (same : Bool) (st : Status) :
    let t := answer k op id st [] (noteNone same w)
    t.dict = w.dict ∧ t.asc = w.asc ∧ Answered s t k op id st [] := by
  have hsaid := answer_said (h.noteNone same) op id st (body := []) (by decide)
  exact ⟨hsaid.dict.trans (noteNone_dict ..), hsaid.asc.trans (noteNone_asc ..),
    hsaid.answered [] (by rw [noteNone_wire, hwire, List.append_nil])⟩

theorem msgSet_writes {i : BlockItem} {same : Bool} (h : s.readyFor k) (hcycle : s.cycleLost k same i = false)
    (hw : writeBytes (.session k) i (s.requested k) = (w, some .ok)) (hact : activates i = false) :
    msgSet k id i same s = answer k 3 id .ok [] (noteWrites k same [i] w) := by
  have hcycle' : (s.requested k).cycleLost k same i = false := hcycle
  simp only [msgSet, request_ready h, hw, hcycle', hact, Bool.false_eq_true, if_false]

theorem msgSet_loses {i : BlockItem} {same : Bool} (h : s.readyFor k) (hcycle : s.cycleLost k same i = true)
    (hw : writeBytes (.session k) i (s.requested k) = (w, some .ok)) :
    msgSet k id i same s = answer k 3 id .ok [] ((s.requested k).addOb 0x0300 Sub.evCtl_ARB_OVERWRITES 32 1) := by
  have hcycle' : (s.requested k).cycleLost k same i = true := hcycle
  simp only [msgSet, request_ready h, hw, hcycle', if_true]

theorem msgSet_fails {i : BlockItem} {same : Bool} {st : Status} (h : s.readyFor k)
    (hw : writeBytes (.session k) i (s.requested k) = (w, some st)) (hst : st ≠ .ok) :
    msgSet k id i same s = answer k 3 id st [] (noteNone same w) := by
  rw [msgSet, request_ready h]
  simp only [hw]

theorem msgSetBlock_ready {l : List BlockItem} (h : s.readyFor k) (hmin : 1 ≤ l.length) (hmax : l.length ≤ 32) (same : Bool) :
    msgSetBlock k id l same s = match writeAll (.session k) l (s.requested k) with
      | .fails st => answer k 5 id st [] (noteNone same (s.requested k))
      | .draws n => blockWaits k 5 id (blockDraw ((s.requested k).asParked k (.msg (.msgSetBlock k id l same))) n (s.requested k))
      | .checks cert => blockWaits k 5 id (blockCheck ((s.requested k).asParked k (.msg (.msgSetBlock k id l same))) cert (s.requested k))
      | .all t =>
        let t := answer k 5 id .ok [] (noteWrites k same l t)
        if l.any activates then coreReset 10 t else t := by
  have hcount : ¬(l.length < 1 ∨ 32 < l.length) := by omega
  rw [msgSetBlock, request_ready h]
  exact if_neg hcount

theorem requested_entState : (s.requested k).entState = s.entState := State.ob_addOb_ne (by decide)

/-- A draw for which the queue holds too little waits in the line. -/
theorem drawRequest_waits {who : EntWho} {len : Nat} (hstop : s.ke.ent.stopped = false) (hst : s.entState = entReady) (hfill : s.entFill < len) :
    drawRequest who len s = (.waits, s.putEnt { s.ke.ent with waiting := s.ke.ent.waiting ++ [⟨who, len, s.time.periods⟩] }) := by
  have hruns : ¬(s.ke.ent.stopped ∨ s.entState = entFailed) := by simp [hstop, hst]
  have hstarted : ¬(s.entState = entStarting) := by simp [hst]
  have hshort : ¬(s.ke.ent.waiting = [] ∧ len ≤ s.entFill) := by omega
  rw [drawRequest, if_neg hruns, if_neg hstarted, if_neg hshort]

theorem blockDraw_waits {len : Nat} (hstop : s.ke.ent.stopped = false) (hst : s.entState = entReady) (hfill : s.entFill < len) (p : Parked) :
    ∃ t, blockDraw p len s = (none, t) ∧ t.acc.block = some p ∧ t.dict = s.dict ∧ t.wire = s.wire := by
  rw [blockDraw, drawRequest_waits hstop hst hfill]
  exact ⟨_, rfl, rfl, rfl, rfl⟩

/-- Settles O34. A response that no message can carry is RANGE (log 146), a request waits at the arbiter behind a write that has
not completed (logs 77, 123), and one control cycle's order decides an overwrite (log 72). -/
theorem sessionsReadAndWrite : Obligations.SessionsReadAndWrite := by
  rintro s _ k id rfl
  have hother : ∀ {i : Instr}, s.parks k false false = false → takeOther k i s = takeMsg k i s := fun h => orPark_takes h ..
  have hwrite : ∀ {i : Instr}, s.parks k true true = false → takeWrite k i s = takeMsg k i s := fun h => orPark_takes h ..
  refine ⟨fun versions hp hst hmuted howed hsilent hmin hmax hone => ?hello, fun ix sub_ hp hst hmuted howed hsilent => ?unopened,
    fun ix sub_ v hp hr hv hfits => ?reads, fun ix sub_ st hp hr hv => ?refused, fun l b hp hr hmin hmax hb hfits => ?block,
    fun l b hp hr hmin hmax hb hlong => ?tooLong, fun i same hp => congrArg Host.Outcome.next (if_pos hp),
    fun i same w hp hr hcycle hw hsess hwire hact => ?sets, fun i w hp hr hcycle hw => ?loses, fun i same w st hp hr hw hsess hwire hst => ?fails,
    fun l same w hp hr hmin hmax hw hsess hwire hact => ?setsAll, fun l same st hp hr hmin hmax hw => ?failsAll,
    fun l same n hp hr hmin hmax hw hstop hent hfill => ?draws⟩
  case hello =>
    have hs : Answers k ((s.requested k).putSess k { s.sessAt k with st := .ready }) :=
      ⟨by simp [Sess.live], hsilent, by simpa using howed⟩
    have hsaid := answer_said hs 1 id .ok (body := be 2 0x0100 ++ be 4 (s.sessAt k).number ++ be 1 (s.sessAt k).level) (by simp [Fits])
    refine ⟨_, congrArg Host.Outcome.next ((hother hp).trans (msgHello_opens hst hmuted hmin hmax hone)), ?_,
      hsaid.answered [] (List.append_nil _).symm⟩
    rw [hsaid.self, State.sessAt_putSess_self]
  case unopened =>
    have hsaid := answer_said (answers_open hst howed hsilent) 2 id .denied (body := []) (by decide)
    exact ⟨_, congrArg Host.Outcome.next ((hother hp).trans (msgGet_unopened hst hmuted ..)), hsaid.dict,
      hsaid.answered [] (List.append_nil _).symm⟩
  case reads =>
    exact ⟨_, congrArg Host.Outcome.next ((hother hp).trans (msgGet_reads hr hv)), answered_only hr 2 id .ok hfits⟩
  case refused =>
    exact ⟨_, congrArg Host.Outcome.next ((hother hp).trans (msgGet_fails hr hv)), answered_only hr 2 id st (by decide)⟩
  case block =>
    exact ⟨_, congrArg Host.Outcome.next ((hother hp).trans (msgGetBlock_reads hr hmin hmax hb)), answered_only hr 4 id .ok hfits⟩
  case tooLong =>
    have hsaid := answer_tooLong (readyFor_requested hr) 4 id .ok hlong
    exact ⟨_, congrArg Host.Outcome.next ((hother hp).trans (msgGetBlock_reads hr hmin hmax hb)), hsaid.dict,
      hsaid.answered [] (List.append_nil _).symm⟩
  case sets =>
    exact ⟨_, congrArg Host.Outcome.next ((hwrite hp).trans (msgSet_writes hr hcycle hw hact)),
      answer_noted ((readyFor_requested hr).wrote hw hsess) hsess hwire 3 id same [i]⟩
  case loses =>
    have hu := readyFor_requested hr
    have hs : Answers k ((s.requested k).addOb 0x0300 Sub.evCtl_ARB_OVERWRITES 32 1) := ⟨hu.live, hu.silent, hu.owed⟩
    have hsaid := answer_said hs 3 id .ok (body := []) (by decide)
    exact ⟨_, congrArg Host.Outcome.next ((hwrite hp).trans (msgSet_loses hr hcycle hw)), (congrArg Dict.octs hsaid.dict).trans rfl, hsaid.asc,
      hsaid.answered [] (List.append_nil _).symm⟩
  case fails =>
    obtain ⟨hdict, -, hans⟩ := answer_refused ((readyFor_requested hr).wrote hw hsess) hwire 3 id same st
    exact ⟨_, congrArg Host.Outcome.next ((hwrite hp).trans (msgSet_fails hr hw hst)), hdict, hans⟩
  case setsAll =>
    refine ⟨_, congrArg Host.Outcome.next ((hwrite hp).trans ((msgSetBlock_ready hr hmin hmax same).trans ?_)),
      answer_noted ((readyFor_requested hr).written hsess (writeAll_quiet hw)) hsess hwire 5 id same l⟩
    simp only [hw, hact, Bool.false_eq_true, if_false]
  case failsAll =>
    refine ⟨_, congrArg Host.Outcome.next ((hwrite hp).trans ((msgSetBlock_ready hr hmin hmax same).trans ?_)),
      answer_refused (readyFor_requested hr) rfl 5 id same st⟩
    simp only [hw]
  case draws =>
    obtain ⟨t, hdraw, hblock, hdict, hwire⟩ := blockDraw_waits (s := s.requested k) (len := n) hstop (requested_entState.trans hent) hfill
      (s.asParked k (.msg (.msgSetBlock k id l same)))
    refine ⟨t, congrArg Host.Outcome.next ((hwrite hp).trans ((msgSetBlock_ready hr hmin hmax same).trans ?_)), hblock, hdict, hwire⟩
    simp only [hw]
    exact congrArg (blockWaits k 5 id) hdraw

end Sys2Proof.Machine
end

section
/-! What a session asks beside reads and writes: TABLE, SUBSCRIBE, CLAIM, RELEASE and RESET, its notifications, the answer that is
overdue, and the event log's window (R461, R462, R469, R485, R500 to R503). -/

namespace Sys2Proof.Machine

variable {s t u w : State} {c : Caller} {k id : Nat}

/-! ### An answer that stands, or waits for its window (R500, R502) -/

theorem flushAnswers_settled {o : Owed} {st : Nat} {body : Bytes} (howed : (s.sessAt k).owed = [o])
    (hready : (o.settle k s).ready = some (st, body)) :
    flushAnswers k s = (o.settle k s).after k (sayTo k (o.settle k s).port
      (responseBy (o.settle k s).port (o.settle k s).op (o.settle k s).id st body)
      ((s.putSess k { s.sessAt k with owed := [o.settle k s] }).putSess k { s.sessAt k with owed := [] })) := by
  simp only [flushAnswers, howed, List.cons_ne_nil, if_false, List.map_cons, List.map_nil, List.length_singleton, flushUpTo,
    State.sessAt_putSess_self, hready]

theorem flushAnswers_waits {o : Owed} (howed : (s.sessAt k).owed = [o]) (hready : (o.settle k s).ready = none) :
    flushAnswers k s = s.putSess k { s.sessAt k with owed := [o.settle k s] } := by
  simp only [flushAnswers, howed, List.cons_ne_nil, if_false, List.map_cons, List.map_nil, List.length_singleton, flushUpTo,
    State.sessAt_putSess_self, hready]

/-- Nothing follows an answer that is of no RESET and ends no session. -/
theorem Owed.after_none {o : Owed} (hlevel : o.level = 0) (hclose : o.close = none) (s : State) : o.after k s = s := by
  simp only [Owed.after, hlevel, hclose, if_true]

/-- The one answer that stands leaves, and nothing follows it. -/
theorem flushAnswers_says {o : Owed} {st : Nat} {body : Bytes} (howed : (s.sessAt k).owed = [o])
    (hready : (o.settle k s).ready = some (st, body)) (hlevel : o.level = 0) (hclose : o.close = none) (hfits : Fits body) :
    SaidTo k (response o.op o.id st body) { s.sessAt k with owed := [], txSeq := (s.sessAt k).txSeq + 1 } s (flushAnswers k s) := by
  have hsame : (o.settle k s).op = o.op ∧ (o.settle k s).id = o.id ∧ (o.settle k s).level = o.level ∧ (o.settle k s).close = o.close := by
    unfold Owed.settle
    split <;> exact ⟨rfl, rfl, rfl, rfl⟩
  obtain ⟨hop, hid, hlevel', hclose'⟩ := hsame
  rw [flushAnswers_settled howed hready, Owed.after_none (hlevel'.trans hlevel) (hclose'.trans hclose), responseBy_fits _ _ _ _ hfits,
    hop, hid]
  have hsaid := sayTo_said k (o.settle k s).port (response o.op o.id st body)
    ((s.putSess k { s.sessAt k with owed := [o.settle k s] }).putSess k { s.sessAt k with owed := [] })
  rw [State.sessAt_putSess_self] at hsaid
  exact hsaid.ofPut.ofPut

/-- A TABLE whose window is in operation has no answer yet. -/
theorem settle_runs {o : Owed} {opSub stSub : Nat} (hready : o.ready = none) (hkept : o.kept = none)
    (hwin : windowSubs o.window = some (opSub, stSub)) (hbusy : s.winBusy o.window stSub = true) : o.settle k s = o := by
  have hlook : s.tableLook k o = none := by
    simp only [State.tableLook, hwin, hkept, hbusy, Bool.true_or, if_true]
  unfold Owed.settle
  split
  · rw [hlook, ← hready]
  · rfl

/-- A TABLE whose window has ended OK has its results. -/
theorem settle_reads {o : Owed} {opSub stSub : Nat} {b : Bytes} (hop : o.op = 6) (hready : o.ready = none) (hkept : o.kept = none)
    (hwin : windowSubs o.window = some (opSub, stSub)) (hset : setOf o.window ≠ some .swWin) (hidle : s.winBusy o.window stSub = false)
    (hst : s.ob o.window stSub = 0) (hb : s.readBlock k (o.results.map (fun r => (o.window, r))) = .ok b) :
    (o.settle k s).ready = some (0, b) := by
  have hlook : s.tableLook k o = some (0, b) := by
    have hset' : (setOf o.window == some .swWin) = false := beq_eq_false_iff_ne.mpr hset
    simp [State.tableLook, hwin, hkept, hidle, hset', hst, State.tableRead, hb]
  rw [Owed.settle, if_pos ⟨hop, hready⟩]
  exact hlook

/-! ### TABLE (R500) -/

/-- A TABLE as its request leaves it. -/
def Owed.table (id window : Nat) (results : List Nat) (s : State) : Owed :=
  { op := 6, id := id, window := window, results := results, at_ := s.time.periods }

theorem msgTable_writes {window opSub stSub op : Nat} {inputs : List BlockItem} {results : List Nat} {same : Bool} (h : s.readyFor k)
    (hwin : windowSubs window = some (opSub, stSub)) (hin : inputs.length ≤ 16) (hres : results.length ≤ 16)
    (hw : writeAll (.session k) (inputs ++ [⟨window, opSub, be 1 op⟩]) (s.requested k) = .all w) :
    msgTable k id window inputs op results same s =
      let v := noteWrites k same (inputs ++ [⟨window, opSub, be 1 op⟩]) w
      flushAnswers k (owe k ((Owed.table id window results v).settle k v) v) := by
  have hcount : ¬(16 < inputs.length ∨ 16 < results.length) := by omega
  rw [msgTable, request_ready h]
  simp only [hwin, if_neg hcount, hw]
  rfl

/-- The answer of a TABLE is owed while its window is in operation. -/
theorem table_waits {window opSub stSub : Nat} {results : List Nat} (h : Answers k w) (hwin : windowSubs window = some (opSub, stSub))
    (hbusy : w.winBusy window stSub = true) :
    flushAnswers k (owe k ((Owed.table id window results w).settle k w) w) =
      (w.putSess k { w.sessAt k with owed := [{ Owed.table id window results w with port := (w.sessAt k).port }] }).putSess k
        { w.sessAt k with owed := [{ Owed.table id window results w with port := (w.sessAt k).port }] } := by
  let o := Owed.table id window results w
  let p := { o with port := (w.sessAt k).port }
  let v := w.putSess k { w.sessAt k with owed := [p] }
  have ho : o.settle k w = o := settle_runs (o := o) rfl rfl hwin hbusy
  have hv : p.settle k v = p := settle_runs (s := v) (o := p) rfl rfl hwin hbusy
  have hsess : v.sessAt k = { w.sessAt k with owed := [p] } := State.sessAt_putSess_self ..
  have hwaits := flushAnswers_waits (s := v) (k := k) (o := p) (congrArg Sess.owed hsess) (congrArg Owed.ready hv)
  rw [hv, hsess] at hwaits
  rw [show (Owed.table id window results w).settle k w = o from ho, owe_first h]
  exact hwaits

/-! ### SUBSCRIBE, CLAIM and RELEASE (R461, R462, R469) -/

theorem msgSubscribe_sets {mask : Nat} (h : s.readyFor k) (hlevel : 1 ≤ (s.sessAt k).level) :
    msgSubscribe k id mask s = answer k 7 id .ok [] ((s.requested k).putSess k { s.sessAt k with mask := mask % 2 ^ 32 }) := by
  have hzero : ¬((s.sessAt k).level = 0 ∧ mask % 2 ^ 32 &&& (2 ^ 32 - 1 - 2 ^ 12) ≠ 0) := fun h => by omega
  rw [msgSubscribe, request_ready h]
  exact if_neg hzero

theorem claimCheck_noteNone (force : Bool) (l : List Nat) (s : State) : (noteNone false s).claimCheck k force l = s.claimCheck k force l := rfl

theorem msgClaim_one {force : Bool} {ix : Nat} (h : s.readyFor k) :
    msgClaim k id force [ix] s = match (s.requested k).claimCheck k force [ix] with
      | .ok => answer k 9 id .ok [] (grant k (noteNone false (s.requested k)) ix)
      | st => answer k 9 id st [] (noteNone false (s.requested k)) := by
  rw [msgClaim, request_ready h]
  rfl

theorem grant_free {ix : Nat} (h : mfind s.acc.claims ix = none) :
    grant k s ix = { s with acc := { s.acc with claims := minsert s.acc.claims ix k } } := by
  simp only [grant, h]

theorem endClaim_claims (ix : Nat) (s : State) : (endClaim ix s).acc.claims = merase s.acc.claims ix := by
  unfold endClaim claimEnded
  split <;> rfl

theorem endClaim_silent (ix : Nat) (s : State) : (endClaim ix s).acc.silent = s.acc.silent := by
  unfold endClaim claimEnded
  split <;> rfl

theorem Answers.endClaim (h : Answers k s) (ix : Nat) : Answers k (endClaim ix s) := by
  have hsess := endClaim_sessAt ix k s
  exact ⟨by rw [hsess]; exact h.live, (endClaim_silent ix s).trans h.silent, by rw [hsess]; exact h.owed⟩

theorem msgRelease_one {ix : Nat} (h : s.readyFor k) :
    msgRelease k id [ix] s = if mfind s.acc.claims ix ≠ some k then answer k 10 id .range [] (noteNone false (s.requested k))
      else answer k 10 id .ok [] (endClaim ix (noteNone false (s.requested k))) := by
  rw [msgRelease, request_ready h]
  by_cases hclaim : mfind s.acc.claims ix = some k <;> simp [noteNone, once, hclaim]

/-- A session of the device is CLOSED. -/
theorem closeSess_closed {cause : Nat} (hk : k < 16) (halive : (s.sessAt k).alive = true) :
    ((closeSess k cause s).sessAt k).st = .closed := by
  have hlow : ¬16 ≤ k := by omega
  simp only [closeSess, hlow, halive, if_false, if_true]
  rw [raise_sessAt_dead] <;> rw [ephRelease_sessAt, State.sessAt_putSess_self]
  rfl

theorem closeSess_wire (k cause : Nat) (s : State) : (closeSess k cause s).wire = s.wire := by
  unfold closeSess
  dsimp only
  split_ifs
  · exact ephRelease_wire _
  · rfl
  · rw [State.raise_wire, ephRelease_wire]
    exact wire_foldl (fun u ix => endClaim_wire ix u) _ _
  · rfl

/-! ### RESET (R503) -/

/-- The answer of a RESET has left, and the reset falls due. -/
theorem reset_falls_due (h : Answers k s) {level : Nat} (hlevel : level ≠ 0) :
    ∃ t, SaidTo k (response 11 id 0 []) { s.sessAt k with txSeq := (s.sessAt k).txSeq + 1 } s t ∧
      flushAnswers k (owe k { op := 11, id := id, ready := some (0, []), level := level, at_ := s.time.periods } s) =
        { t with rst := { t.rst with resetDue := t.rst.resetDue ++ [(level, t.time.periods)] } } := by
  obtain ⟨t, hsaid, ht⟩ := flush_owed h (o := { op := 11, id := id, ready := some (0, []), level := level, at_ := s.time.periods }) rfl
  rw [responseBy_fits _ _ _ _ (by decide)] at hsaid
  exact ⟨t, hsaid, ht.trans (by simp only [Owed.after, if_neg hlevel])⟩

theorem msgReset_takes {level : Nat} (h : s.readyFor k) (hcust : 2 ≤ (s.sessAt k).level) (hlevel : level = 1 ∨ level = 2) :
    msgReset k id level s =
      let u := flushAnswers k (owe k { op := 11, id := id, ready := some (0, []), level := level, at_ := (s.requested k).time.periods }
        (s.requested k))
      u.putSess k { u.sessAt k with muted := true } := by
  have hmay : (s.requested k).custodian k = true := decide_eq_true hcust
  have hknown : ¬(level ≠ 1 ∧ level ≠ 2) := by omega
  rw [msgReset, request_ready h]
  simp only [hmay, Bool.not_true, Bool.false_eq_true, if_false, if_neg hknown]

/-! ### NOTIFY (R501) -/

theorem notifySend_one {r : Bytes} (hst : (s.sessAt k).st = .ready) (hpast : s.past (Timer.notify k) 10000 = true)
    (hqueue : (s.sessAt k).queue = [r]) (hlost : (s.sessAt k).lost = none) (hmark : (s.sessAt k).markNext = false)
    (hhost : (s.sessAt k).port = 0 → s.hostWaits (s.sessAt k) = false) :
    notifySend k s = (sayTo k (s.sessAt k).port ([8, 0, 0, 0] ++ r)
      (s.putSess k { s.sessAt k with queue := [], markNext := false })).mark (Timer.notify k) := by
  have hgo : ¬((s.sessAt k).st ≠ .ready ∨ !s.past (Timer.notify k) 10000 ∨ ((s.sessAt k).port = 0 ∧ s.hostWaits (s.sessAt k))) := by
    rintro (h | h | ⟨hport, h⟩)
    · exact h hst
    · simp [hpast] at h
    · simp [hhost hport] at h
  have htake : (s.sessAt k).takeRecords = ([r], { s.sessAt k with queue := [] }) := by
    simp [Sess.takeRecords, hlost, hqueue]
  simp only [notifySend, if_neg hgo, htake, hmark, markFirst, List.flatten_cons, List.flatten_nil, List.append_nil, List.cons_ne_nil, if_false,
    Bool.false_eq_true]

/-! ### An answer that is overdue (R502) -/

theorem answerTimeout_busy {o : Owed} (howed : (s.sessAt k).owed = [o]) (hready : o.ready = none)
    (hgone : s.gone o.at_ (2000000000 + opTimeNs s o) = true) :
    answerTimeout k s = flushAnswers k (s.putSess k { s.sessAt k with owed := [{ o with ready := some (6, []) }] }) := by
  have hbusy : busyFirst s (s.sessAt k).owed = [{ o with ready := some (6, []) }] := by
    simp only [howed, busyFirst, hready, hgone, if_true]
  simp only [answerTimeout, hbusy, List.cons_ne_nil, if_false]

/-! ### The event log (R485) -/

theorem evRead_shows {r : Bytes} (h : mfind s.acc.log (s.ob 0x0301 Sub.evWin_EV_SEQ) = some r) :
    evRead s = (s.putO 0x0301 Sub.evWin_EV_RECORD r, .ok) := by
  unfold evRead
  rw [h]

theorem evRead_none (h : mfind s.acc.log (s.ob 0x0301 Sub.evWin_EV_SEQ) = none) : evRead s = (s, .range) := by
  unfold evRead
  rw [h]

/-- Settles O35. An answer is overdue 2 s beyond its operation's time (log 120), and the RELEASE that ends the session is
answered before it (log 70). -/
theorem sessionsOperate : Obligations.SessionsOperate := by
  rintro s _ k id rfl
  have hother : ∀ {i : Instr}, s.parks k false false = false → takeOther k i s = takeMsg k i s := fun h => orPark_takes h ..
  have hordered : ∀ {i : Instr}, s.parks k false true = false → takeOrdered k i s = takeMsg k i s := fun h => orPark_takes h ..
  have hwrite : ∀ {i : Instr}, s.parks k true true = false → takeWrite k i s = takeMsg k i s := fun h => orPark_takes h ..
  refine ⟨fun window opSub stSub inputs op results same w hp hr hwin hin hres hw hsess hwire hbusy => ?table,
    fun o opSub stSub b howed hop hready hid hlevel hclose hkept hwin hset hidle hst hb hfits => ?settled,
    fun mask hp hr hlevel => ?subscribes, fun force ix hp hr hcheck hfree => ?claims, fun force ix st hp hr hcheck hst => ?noClaim,
    fun ix hp hr hclaim => ?noRelease, fun ix hp hr hclaim => ?releases, fun hk hp hr => ?ends, fun level hp hr hcust hlevel => ?resets,
    fun hpast => ?early, fun r hr hpast hqueue hlost hmark hhost => ?notifies, fun o howed hready hlevel hclose hgone => ?overdue,
    fun c r hst hr => ?shows, fun c hst hnone => ?noRecord⟩
  case table =>
    have hv := ((readyFor_requested hr).written hsess (writeAll_quiet hw)).noteWrites same (inputs ++ [⟨window, opSub, be 1 op⟩])
    have hrun := (msgTable_writes (id := id) (same := same) hr hwin hin hres hw).trans (table_waits hv hwin hbusy)
    refine ⟨_, congrArg Host.Outcome.next ((hwrite hp).trans hrun), ?_, hwire, rfl⟩
    rw [State.sessAt_putSess_self, noteWrites_sessAt, hsess]
    rfl
  case settled =>
    have hsaid := flushAnswers_says howed (settle_reads hop hready hkept hwin hset hidle hst hb) hlevel hclose hfits
    rw [hop, hid] at hsaid
    exact ⟨hsaid.dict, by rw [hsaid.self], hsaid.answered (st := .ok) [] (List.append_nil _).symm⟩
  case subscribes =>
    have hu := readyFor_requested hr
    have hs : Answers k ((s.requested k).putSess k { s.sessAt k with mask := mask % 2 ^ 32 }) :=
      ⟨by rw [State.sessAt_putSess_self]; exact hu.live, hu.silent, by rw [State.sessAt_putSess_self]; exact hu.owed⟩
    have hsaid := answer_said hs 7 id .ok (body := []) (by decide)
    refine ⟨_, congrArg Host.Outcome.next ((hother hp).trans (msgSubscribe_sets hr hlevel)), ?_,
      hsaid.answered [] (List.append_nil _).symm⟩
    rw [hsaid.self, State.sessAt_putSess_self]
  case claims =>
    have hu := (readyFor_requested hr).noteNone false
    have hgrant := grant_free (s := noteNone false (s.requested k)) (k := k) hfree
    have hs : Answers k (grant k (noteNone false (s.requested k)) ix) := by
      rw [hgrant]
      exact ⟨hu.live, hu.silent, hu.owed⟩
    have hsaid := answer_said hs 9 id .ok (body := []) (by decide)
    refine ⟨_, congrArg Host.Outcome.next ((hordered hp).trans ((msgClaim_one hr).trans (by rw [hcheck]))), ?_,
      hsaid.answered [] (by rw [hgrant]; exact (List.append_nil _).symm)⟩
    rw [hsaid.claims, hgrant]
    exact mfind_minsert_self ..
  case noClaim =>
    have hsaid := answer_said ((readyFor_requested hr).noteNone false) 9 id st (body := []) (by decide)
    refine ⟨_, congrArg Host.Outcome.next ((hordered hp).trans ((msgClaim_one hr).trans ?_)), hsaid.claims,
      hsaid.answered [] (List.append_nil _).symm⟩
    rw [hcheck]
    split
    · exact absurd rfl hst
    · rfl
  case noRelease =>
    have hsaid := answer_said ((readyFor_requested hr).noteNone false) 10 id .range (body := []) (by decide)
    exact ⟨_, congrArg Host.Outcome.next ((hordered hp).trans ((msgRelease_one hr).trans (if_pos hclaim))), hsaid.claims,
      hsaid.answered [] (List.append_nil _).symm⟩
  case releases =>
    have hsaid := answer_said (((readyFor_requested hr).noteNone false).endClaim ix) 10 id .ok (body := []) (by decide)
    refine ⟨_, congrArg Host.Outcome.next ((hordered hp).trans ((msgRelease_one hr).trans (if_neg (not_not.mpr hclaim)))), ?_,
      hsaid.answered [] (by rw [endClaim_wire]; exact (List.append_nil _).symm)⟩
    rw [hsaid.claims, endClaim_claims]
    exact mfind_merase_self ..
  case ends =>
    obtain ⟨v, hsaid, hv⟩ := flush_owed ((readyFor_requested hr).noteNone false)
      (o := { op := 10, id := id, ready := some (0, []), close := some 0 }) rfl
    rw [responseBy_fits _ _ _ _ (by decide)] at hsaid
    have hrun : msgRelease k id [] s = closeSess k 0 v := (request_ready hr ..).trans hv
    have halive : (v.sessAt k).alive = true := by
      have hlive : ((noteNone false (s.requested k)).sessAt k).live = true := ((readyFor_requested hr).noteNone false).live
      rw [hsaid.self]
      exact Bool.or_eq_true_iff.mpr (.inr hlive)
    obtain ⟨a, b, hans⟩ := hsaid.answered (st := .ok) (s := s) [] (List.append_nil _).symm
    exact ⟨_, congrArg Host.Outcome.next ((hordered hp).trans hrun), closeSess_closed hk halive, a, b, (closeSess_wire ..).trans hans⟩
  case resets =>
    obtain ⟨v, hsaid, hv⟩ := reset_falls_due (id := id) (readyFor_requested hr) (level := level) (by omega)
    refine ⟨_, congrArg Host.Outcome.next ((hother hp).trans (msgReset_takes hr hcust hlevel)), ?_⟩
    rw [hv]
    refine ⟨?_, by rw [State.sessAt_putSess_self], hsaid.answered (st := .ok) [] (List.append_nil _).symm⟩
    show v.rst.resetDue ++ [(level, v.time.periods)] = _
    rw [hsaid.rst, hsaid.time]
    rfl
  case early => exact congrArg Host.Outcome.next (if_pos (.inr (.inl (by simp [hpast]))))
  case notifies =>
    have hsaid := sayTo_said k (s.sessAt k).port ([8, 0, 0, 0] ++ r) (s.putSess k { s.sessAt k with queue := [], markNext := false })
    refine ⟨_, congrArg Host.Outcome.next (notifySend_one hr.1 hpast hqueue hlost hmark hhost), ?_, hsaid.wire⟩
    refine (congrArg Sess.queue hsaid.self).trans ?_
    rw [State.sessAt_putSess_self]
  case overdue =>
    have hsaid := flushAnswers_says (s := s.putSess k { s.sessAt k with owed := [{ o with ready := some (6, []) }] }) (k := k)
      (o := { o with ready := some (6, []) }) (st := 6) (body := [])
      (by rw [State.sessAt_putSess_self]) (by simp [Owed.settle]) hlevel hclose (by decide)
    exact ⟨_, congrArg Host.Outcome.next (answerTimeout_busy howed hready hgone), by rw [hsaid.self], hsaid.dict,
      hsaid.answered (st := .busy) [] (List.append_nil _).symm⟩
  case shows =>
    have hu : evRead (s.put 0x0301 Sub.evWin_EV_OP 1) = _ := evRead_shows (r := r) (by rw [State.ob_put_ne (by decide)]; exact hr)
    have h := rowWindow_posts hst hu rfl
    exact ⟨_, rfl, (h.oct ..).trans (State.oct_putO_self ..), rowWindow_access hst hu rfl, h.ends⟩
  case noRecord =>
    have hu : evRead (s.put 0x0301 Sub.evWin_EV_OP 1) = _ := evRead_none (by rw [State.ob_put_ne (by decide)]; exact hnone)
    have h := rowWindow_posts hst hu rfl
    exact ⟨_, rfl, rowWindow_access hst hu rfl, h.ends⟩

end Sys2Proof.Machine
end
